-- ==== Sys2Proof/Word.lean ====
section
/-! DEFINITION. The word types of the model: bytes, 64-byte sectors, and sparse maps as sorted association lists.
A map lists its keys in strictly rising order and never lists a key whose value is the map's default, so that equal
contents are equal data; the operations are in Machine/Map.lean. -/

namespace Sys2Proof

/-- One byte. -/
abbrev Byte := BitVec 8

/-- A 64-byte sector; byte i is bits 8i+7 to 8i (little-endian, 00_scope "Numbers and units"). -/
abbrev Sector := BitVec 512

/-- A sparse map from natural-number keys. -/
abbrev Map (α : Type) := List (Nat × α)

/-- A die number, 0-31 (R790). -/
abbrev Die := Fin 32

/-- A PCIe function: 0 the PF, v the virtual function v (R13, R628). -/
abbrev Func := Fin 32

/-- A tile by its index y * 48 + x (00_scope "Registers": 48 columns and 32 rows). -/
abbrev TileId := Fin 1536

/-- A cove, 0-15 (R74). -/
abbrev CoveId := Fin 16

/-- A tide queue, 0-1,023. -/
abbrev QueueId := Fin 1024

/-- An engine in the numbering of TQ_ENGSTAT, 0-47. -/
abbrev EngineId := Fin 48

/-- A Tideway link T0-T23. -/
abbrev LinkId := Fin 24

/-- A Shoreline port S0-S7. -/
abbrev PortId := Fin 8

/-- An LPDDR channel, 0-47. -/
abbrev ChanId := Fin 48

/-- A bead core: 2 * tile + b. -/
abbrev CoreId := Fin 3072

end Sys2Proof
end

