-- ==== Sys2Proof/Machine/Types.lean ====
section
/-! DEFINITION. The record types that commands carry and the state holds: flits, event records, host requests and the
other formats of the spec's chapters, as plain data. -/

namespace Sys2Proof.Machine

/-! ### Counting frame (03) -/

/-- A flit: 16-byte header, 64-byte payload, TALLY and CRC-32C (R77). -/
structure Flit where
  hdr : BitVec 128
  pay : Sector
  tally : BitVec 32
  crc : BitVec 32
  deriving DecidableEq, Repr

/-- A flit in a router's input buffer, with the number of its arrival (the order of R680). -/
structure BufFlit where
  flit : Flit
  seq : Nat
  deriving DecidableEq, Repr

/-- A request that a source has sent and that is not yet answered in full (R96, R118): sectors or answers still owed. -/
structure Outst where
  op : Nat
  left : Nat
  addr : Nat
  mark : Nat
  /-- The key selector of the source's translation (R191; log entry 26). -/
  keysel : Nat := 0
  deriving DecidableEq, Repr

/-- A stream of multicast WRITEs of one source: destinations addressed, ACKs and ERRORs received (R104). -/
structure McStream where
  addressed : Nat
  answered : Nat
  errors : Nat
  deriving DecidableEq, Repr

/-- What a source receives for a request: data of one sector, an ACK, or an error with its STATUS (R83, R118). -/
inductive Answer where
  | data (tag : Nat) (addr : Nat) (pay : Sector) (poison last : Bool)
  | ack (tag : Nat) (poison : Bool)
  | atomic (tag : Nat) (pay : Sector) (poison : Bool)
  | error (tag : Nat) (status : Nat)
  | mcastDone (ok : Bool)
  deriving DecidableEq, Repr

/-- A holder of an urgent cap (R90, R550, R682): an agent of a tile, a Shoreline ingress adapter, or the transmitting end
of a link. -/
inductive UrgSrc where
  | agent (tile : TileId) (code : Fin 8)
  | port (p : PortId)
  | link (n : LinkId)
  deriving DecidableEq, Repr

/-- Where a core meets an uncorrectable ECC error (R401 HWERR): nowhere; in what its Reckoner reads for the front instruction
of its queue (k registers, accumulators); in the instruction store or scratch. -/
inductive EccSite where
  | none
  | reckoner
  | core
  deriving DecidableEq, Repr

/-- What a lane's receiver has seen in a window: lane errors; for a lane under TEST the bits received (R591, R592). -/
structure LaneSeen where
  errs : BitVec 32 := 0
  bits : List Bool := []
  deriving DecidableEq, Repr

/-- An urgent flit that waits for its cap or for a link's reservation (R91, R683). -/
structure UrgWait where
  tile : TileId
  code : Fin 8
  die : Option Die
  flit : Flit
  deriving DecidableEq, Repr

/-! ### Events (19) -/

/-- What a rule gives to an event it posts; the rest of the record comes from the device (R862-R864). -/
structure EvArgs where
  code : Nat
  sev : Option Nat := none
  inj : Bool := false
  asid : Nat := 0
  queue : Option Nat := none
  mark : Nat := 0
  inst : Nat := 0
  d0 : Nat := 0
  d1 : Nat := 0
  deriving DecidableEq, Repr

/-- An event record (R863). -/
structure EvtRec where
  code : BitVec 16
  sev : BitVec 2
  inj : Bool
  die : BitVec 5
  asid : BitVec 16
  queue : BitVec 10
  qvalid : Bool
  time : BitVec 64
  mark : BitVec 16
  inst : BitVec 16
  detail0 : BitVec 32
  detail1 : BitVec 64
  deriving DecidableEq, Repr

/-! ### Host port (13) -/

/-- Who a request to the host names: the requester ID of a function, and the PASID of its TLP prefix where a context sends
it (R229). Both stay as they were when the request was made. -/
structure Requester where
  func : Nat := 0
  pasid : Option Nat := none
  deriving DecidableEq, Repr

/-- A request of the device towards the host (13: data, records, MSI-X messages, reads, ATS and page requests). -/
inductive HostReq where
  /-- A write of command data (R638): `ro` is Relaxed Ordering, `xlat` a translated request (R649). -/
  | data (who : Requester) (addr : BitVec 64) (len : Nat) (pay : Sector) (poison ro xlat : Bool)
  /-- A record of 16, 32 or 128 bytes in one write request (R639). -/
  | record (queue : Option Nat) (who : Requester) (addr : BitVec 64) (size : Nat) (bits : BitVec 1024)
  /-- The MSI-X message of a pool vector (R640). -/
  | msix (vec : Nat)
  /-- A read of host memory (R641, R649); the completion names `tag`. -/
  | read (tag : Nat) (who : Requester) (addr : BitVec 64) (len : Nat) (xlat : Bool)
  /-- An ATS Translation Request (R239). -/
  | ats (tag : Nat) (func pasid : Nat) (va : BitVec 64) (noWrite : Bool)
  /-- A Page Request group (R245). -/
  | page (tag : Nat) (func pasid : Nat) (va : BitVec 64) (write : Bool)
  /-- An ATS Invalidate Completion (R650). -/
  | invDone (func : Nat) (itag : Nat)
  deriving DecidableEq, Repr

/-- A request that waits at the host port for its class's turn (R663): its class where it is regulated, its arrival, and
whether its class then held tokens. -/
structure HostWait where
  req : HostReq
  cls : Option Nat := none
  arr : Nat := 0
  tok : Bool := false
  deriving DecidableEq, Repr

/-! ### The steward's collection (10) -/

/-- A collective that a member has interrupted (R491, R509). -/
structure CollKey where
  mark : Nat
  group : Nat
  ordinal : Nat
  attempt : Nat
  deriving DecidableEq, Repr

/-- What a new steward collects from a member (R509): its partner and clients, its head LSN, its interrupted COLLs. -/
structure MemberReport where
  die : Die
  partner : Option Die
  clients : List Die
  head : Nat
  colls : List CollKey
  /-- The member's activation state, in the code of FWU_ACTST.STATE (R847). -/
  fwu : Fin 5 := 0
  deriving DecidableEq, Repr

/-! ### Management (16, 18) -/

/-- A transport of MCTP messages (R747): PCIe vendor-defined messages, the I3C target, the SMBus target. -/
inductive Transport where
  | pcie | i3c | smbus
  deriving DecidableEq, Repr

/-- An SPDM request by the parts of R746: GET_CERTIFICATE names a slot and an offset, CHALLENGE a slot and a nonce,
GET_MEASUREMENTS an index and a nonce; NEGOTIATE_ALGORITHMS says whether it offers the claimed algorithms, FINISH whether
its verification data is right, a vendor-defined request whether it is under Bamloth's registry identifier. -/
inductive SpdmReq where
  | getVersion | getCapabilities
  | negotiate (offers : Bool)
  | getDigests
  | getCertificate (slot : Fin 8) (offset : BitVec 16)
  | challenge (slot : Fin 8) (nonce : BitVec 256)
  | getMeasurements (index : Byte) (nonce : BitVec 256)
  | keyExchange
  | finish (right : Bool)
  | endSession | heartbeat | keyUpdate
  | vendor (bamloth : Bool)
  /-- Every part that R746 does not claim. -/
  | unclaimed
  deriving DecidableEq, Repr

/-- Where an SPDM request comes from (R747): a transport with the request, or the MEMBER message in front on a link. -/
inductive SpdmFrom where
  | mctp (t : Transport) (r : SpdmReq)
  | link (n : LinkId)
  deriving DecidableEq, Repr

/-- An SPDM response: an error, or data with the signature of the alias key (R745). -/
inductive SpdmAns where
  | error
  | done (data : List Byte) (sig : BitVec 768)
  deriving DecidableEq, Repr

/-- What the steward learns of a member for an activation (R842): its staged bundle with its PEER_MIN where its staged
set is complete, and its running bundle. -/
structure FleetReport where
  die : Die
  staged : Option (BitVec 24 × BitVec 24)
  running : BitVec 24
  deriving DecidableEq, Repr

/-- A PLDM message that the firmware device sends (R840). Errors are the ERR codes of R859. -/
inductive PldmAns where
  | identifiers (glbId : BitVec 32)
  /-- Running and staged versions by component, from component 1. -/
  | parameters (running staged : List (BitVec 24))
  | requestUpdate (err : Nat)
  | passTable (err : Nat)
  | updateComponent (err : Nat)
  | requestData (offset len : Nat)
  | transferComplete (err : Nat)
  | verifyComplete (err : Nat)
  | applyComplete (err : Nat)
  | activate (err : Nat)
  | cancelComponent (err : Nat)
  | cancelUpdate (err : Nat)
  deriving DecidableEq, Repr

/-- A PLDM command for the firmware device (R840). -/
inductive PldmCmd where
  | queryIdentifiers
  | getParameters
  | requestUpdate
  | passTable (comps : List (Fin 8))
  | updateComponent (comp : Fin 8)
  | firmwareData (bytes : List Byte)
  | activate
  | cancelComponent
  | cancelUpdate
  deriving DecidableEq, Repr

/-- An MCTP message by its type (R779): control (0x00), PLDM (0x01), SPDM (0x05), secured messages (0x06), vendor-defined
PCI (0x7E), and every other type. -/
inductive MctpBody where
  | setEid (eid : Byte)
  | getEid
  | control
  | pldm (c : PldmCmd) (fleet : List FleetReport)
  | spdm (r : SpdmReq)
  | secured (r : SpdmReq)
  | vendorPci
  | other (type : Byte)
  deriving DecidableEq, Repr

end Sys2Proof.Machine
end

