-- ==== Sys2Proof/Syntax.lean ====
section
/-! DEFINITION. The commands of the block: one constructor per row of spec/opcode_table.json, with the row's operands.
An operand says who acts, where, and what the environment supplies; what the die holds itself comes from the state. -/

namespace Sys2Proof

open Machine in
/-- The commands (spec/opcode_table.json). -/
inductive Instr where
  /-- REG_WRITE (R8): A 4-byte aligned BAR0 write to a register field without a row of its own sets RW fields, clears W1C bits and is ignored for RO and RSV bits. -/
  | regWrite (f : Func) (bar2 : Bool) (off : BitVec 28) (val : BitVec 32) (poison : Bool)
  /-- BAR_BAD_ACCESS_READ (R6): A BAR0 or BAR2 read that is not 4 bytes wide and 4-byte aligned completes with 0xFFFF_FFFF and posts a NOTE event. -/
  | barBadAccessRead (f : Func) (bar2 : Bool) (off : BitVec 28) (len : BitVec 13)
  /-- BAR_BAD_ACCESS_WRITE (R7): A BAR0 or BAR2 write that is not 4 bytes wide and 4-byte aligned is discarded and posts a NOTE event. -/
  | barBadAccessWrite (off : BitVec 28) (len : BitVec 13)
  /-- REG64_LO_READ (R13): A read of a _LO register returns bits [31:0] and captures bits [63:32] into the requester's shadow. -/
  | reg64LoRead (f : Func) (bar2 : Bool) (off : BitVec 28)
  /-- REG64_HI_READ (R13): A read of a _HI register returns the shadow captured by the requester's last _LO read. -/
  | reg64HiRead (f : Func) (off : BitVec 28)
  /-- REG64_LO_WRITE (R14): A write to a _LO register is held until the matching _HI write. -/
  | reg64LoWrite (f : Func) (off : BitVec 28) (val : BitVec 32)
  /-- REG64_HI_WRITE (R14): A write to a _HI register makes the full 64-bit value take effect. -/
  | reg64HiWrite (f : Func) (off : BitVec 28) (val : BitVec 32)
  /-- EVT_HEAD_WRITE (R871): A write to EVT_HEAD consumes records, freeing ring slots; a value that would make the ring hold more than 4,096 unread records is a reserved encoding. -/
  | evtHeadWrite (f : Func) (val : BitVec 32)
  /-- EVT_INJ (R883): A write to EVT_INJ posts one event of the code with INJ set and takes no containment action. -/
  | evtInj (f : Func) (code : BitVec 16)
  /-- EVT_CNTCLR (R884): A write of 1 zeroes EVT_LOST and, from the PF, EVT_SEVCNT. -/
  | evtCntclr (f : Func)
  /-- FLIT_INJECT (R114): An agent injects a flit into its router and sends wake requests to every gated cove on its route. -/
  | flitInject (t : TileId) (a : Fin 8) (hdr : BitVec 128) (pay : Sector) (tally : BitVec 32) (die : Option Die) (keysel : Fin 64)
  /-- URGENT_CAP_RELEASE (R91): When a source's urgent interval has passed, the urgent flit that the cap held is released for injection. -/
  | urgentCapRelease (src : UrgSrc)
  /-- URGENT_LINK_RESERVE (R683): A link grants a source's reservation for an urgent flit to another die, admitting the flit past its cap. -/
  | urgentLinkReserve (t : TileId) (a : Fin 8) (n : LinkId)
  /-- MESH_FLIT_HOP (R92): A router receives a flit, checks its CRC at an Isthmus receiver, and forwards or replicates it along its route under credit. -/
  | meshFlitHop (t : TileId) (out : Fin 7) (noise : BitVec 704)
  /-- MESH_FLIT_EJECT (R84): The destination router checks a flit and delivers it to its agent, or discards a bad flit with MESH_BADFLIT. -/
  | meshFlitEject (t : TileId)
  /-- MESH_RESPONSE (R119): A source receives a READ_DATA, ACK or ERROR; it matches the TAG, counts multicast ACKs, or discards a late response with MESH_LATE. -/
  | meshResponse (t : TileId) (a : Fin 8)
  /-- MESH_REQUEST_TIMEOUT (R118): A request unanswered for MSH_TMO.TMO_US completes with MESH_TIMEOUT and posts a CONTAINED event. -/
  | meshRequestTimeout (t : TileId) (a : Fin 8) (tag : BitVec 16)
  /-- MULTICAST_TIMEOUT (R104): A multicast WRITE stream whose ACK and ERROR count falls short after MSH_TMO.TMO_US completes with MESH_TIMEOUT. -/
  | multicastTimeout (t : TileId) (a : Fin 8)
  /-- ISTHMUS_ERROR_WINDOW (R112): At each one-second window, a crossing whose error count exceeds DEGRADE_LIM is marked weak, and one over DOWN_LIM stops the die. -/
  | isthmusErrorWindow
  /-- MSH_CNTCLR (R126): A write of 1 zeroes the mesh counters. -/
  | mshCntclr
  /-- REEF_READ (R133): A slice serves a READ from its bank, correcting ECC and returning READ_DATA with TALLY and POISON. -/
  | reefRead (t : TileId) (bank : Fin 8) (upset : Fin 81)
  /-- REEF_WRITE (R131): A slice checks a WRITE's tally and view range, stores the sector with ECC, TALLY and MARK, and acknowledges it. -/
  | reefWrite (t : TileId) (bank : Fin 8)
  /-- REEF_ATOMIC (R132): A slice reads, corrects, updates and rewrites a sector indivisibly for an ATOMIC or sub-sector store and answers it. -/
  | reefAtomic (t : TileId) (bank : Fin 8) (upset : Fin 81)
  /-- REFRESH_OP (R146): A cove's refresh sequencer performs the next single-row or paired-row refresh when it falls due. -/
  | refreshOp (c : CoveId) (waited : BitVec 16)
  /-- REFRESH_BAND_STEP_DOWN (R149): After 100 ms at least 5 °C below the present band's threshold, a cove steps down one band. -/
  | refreshBandStepDown (c : CoveId)
  /-- REFRESH_CLAMP_WINDOW (R738): After a whole 100 ms with MIN_BAND above the temperature band, the refresh loop posts POLICY_CLAMP. -/
  | refreshClampWindow (c : CoveId)
  /-- SCRUB_SECTOR (R154): Patrol scrub reads, corrects and tally-checks one Reef sector and writes it back only when corrected. -/
  | scrubSector (c : CoveId) (upset : Fin 81)
  /-- ROW_REMAP_DONE (R158): A weak-row remap to a spare row completes, increments RFB_SPARED and posts RFB_ROWSPARE. -/
  | rowRemapDone (t : TileId) (bank : Fin 8) (row : Fin 128)
  /-- SCRUB_BURST_START (R156): When a gated cove's scrub would fall a period behind, Breakwater starts its clock for a scrub burst. -/
  | scrubBurstStart (c : CoveId)
  /-- SCRUB_BURST_END (R156): A scrub burst that has scrubbed its whole cove ends and lets the cove gate again. -/
  | scrubBurstEnd (c : CoveId)
  /-- BAR4_READ (R166): A BAR4 read returns Reef data through the window, or all 0xFF for holes, the carve-out or a disabled window. -/
  | bar4Read (f : Func) (off : BitVec 32) (len : Fin 4097)
  /-- BAR4_WRITE (R168): A BAR4 write stores sectors with tally computed by the host port, or is discarded outside the window. -/
  | bar4Write (f : Func) (off : BitVec 32) (bytes : List Byte) (poison : Bool)
  /-- RFB_INJ_ARM (R172): A write of 1 to RFB_INJCTL.ARM arms error injection on the next write to the addressed sector. -/
  | rfbInjArm (v : BitVec 32)
  /-- RFB_CNTCLR (R172): A write of 1 zeroes the Reef counters. -/
  | rfbCntclr
  /-- MEM_READ (R191): A controller checks the key map, reads and decodes the sector, decrypts it and returns READ_DATA with tally. -/
  | memRead (m : Fin 12) (upset : Fin 73)
  /-- MEM_WRITE (R195): A controller checks the key map and tally, encrypts under the current generation, and writes data and metadata. -/
  | memWrite (m : Fin 12) (upset : Fin 73)
  /-- MEM_KEYMAP_WRITE (R192): A key-map write sets entries; setting VALID starts a zero fill, and clearing VALID decrements a pending rotation. -/
  | memKeymapWrite (i : Fin 1366) (v : BitVec 32)
  /-- MEM_ZERO_FILL_DONE (R192): The zero fill of a region completes, clearing FILLING and releasing held accesses. -/
  | memZeroFillDone (k : Fin 5464)
  /-- MEM_ROTATION_REGION_DONE (R196): A region's rotation pass ends and PENDING decrements; at 0 MEM_ROTDONE is posted and Headland told. -/
  | memRotationRegionDone (k : Fin 5464)
  /-- MEM_CFG_WRITE (R175): A write to MEM_CFG.RATE is recorded in the CONFIG settings and takes effect at the next reset. -/
  | memCfgWrite (rate : Fin 4)
  /-- MEM_TRAIN_DONE (R200): Cold-reset training of the channels ends, or a failed step posts MEM_TRAIN. -/
  | memTrainDone (density : Fin 3) (ranks2 : Bool) (differ : Bool) (failed : Option (ChanId × Fin 7))
  /-- MEM_OSC_CHECK (R203): A channel reads its WCK-to-DQ oscillator and re-centres when drift exceeds DRIFT_PS. -/
  | memOscCheck (n : ChanId) (drift : BitVec 10)
  /-- MEM_RECENTRE_DONE (R203): A re-centring pause ends and the channel returns credits. -/
  | memRecentreDone (n : ChanId)
  /-- MEM_CE_WINDOW (R204): At each one-second window, a channel whose corrections exceed CE_LIM starts retraining steps 4–7. -/
  | memCeWindow (n : ChanId)
  /-- MEM_RETRAIN_DONE (R206): A channel retrain ends; success resumes service, failure posts MEM_CHDOWN and stops the die. -/
  | memRetrainDone (n : ChanId) (ok : Bool)
  /-- MEM_MR4_READ (R207): A controller reads MR4 and sets the refresh interval, derating and half-bandwidth limit. -/
  | memMr4Read (n : ChanId) (code : Fin 8) (fast : Bool) (hot : Bool)
  /-- MEM_REFRESH (R208): A channel issues a due per-bank refresh, postponed only within the JEDEC limit. -/
  | memRefresh (n : ChanId) (postpone : Bool)
  /-- MEM_SCRUB_STRIPE (R213): Patrol scrub reads one stripe, corrects and tally-checks its sectors, and poisons failures. -/
  | memScrubStripe (n : ChanId) (j : Fin 8) (upset : Fin 73)
  /-- MEM_CNTCLR (R220): A write of 1 zeroes CE and RETRAINS of every channel. -/
  | memCntclr
  /-- XLT_CTX_BIND (R226): A bind command places a context in use or refuses it with PASID_IN_USE or BOUND. -/
  | xltCtxBind (asid : BitVec 16)
  /-- XLT_CTX_READ (R277): A read command returns a context's stored values and generation in the XLT registers. -/
  | xltCtxRead (asid : BitVec 16)
  /-- XLT_CTX_UNBIND (R228): An unbind invalidates the ASID and releases the context, or refuses with QUEUES_BOUND. -/
  | xltCtxUnbind (asid : BitVec 16)
  /-- XLT_SEG_WRITE (R234): A segment write is checked and committed, which starts an invalidation of its ASID. -/
  | xltSegWrite (asid : BitVec 16) (n : Fin 16)
  /-- XLT_SEG_READ (R277): A segment read returns the stored segment in the XLT segment registers. -/
  | xltSegRead (asid : BitVec 16) (n : Fin 16)
  /-- XLT_SEG_CLEAR (R235): A segment clear removes a segment and invalidates its ASID. -/
  | xltSegClear (asid : BitVec 16) (n : Fin 16)
  /-- XLT_INV (R257): A write to XLT_INV starts an invalidation of an ASID, or is discarded while one is busy. -/
  | xltInv (asid : BitVec 16)
  /-- INVALIDATION_COMPLETE (R259): An invalidation completes once every instance holding an older generation has committed or ended, and SEQ advances. -/
  | invalidationComplete
  /-- INVALIDATION_TIMEOUT (R260): When XLT_INVTMO.MS elapses, the remaining commands abort with XLT_INVABORT and the invalidation completes. -/
  | invalidationTimeout
  /-- ATS_INVALIDATE_REQUEST (R650): An ATS Invalidate Request invalidates every ASID bound to the function and PASID, and is completed when they finish. -/
  | atsInvalidateRequest (f : Func) (pasid : Option (BitVec 20)) (itag : Fin 32)
  /-- ATS_TRANSLATION_COMPLETION (R240): An ATS completion fills a shared-table page translation or refuses it. -/
  | atsTranslationCompletion (tag : Nat) (ok : Bool) (addr : BitVec 64) (size : Fin 64) (r : Bool) (w : Bool)
  /-- ATS_TIMEOUT (R252): An ATS request without completion within 10 ms refuses the translation with XLT_ATS. -/
  | atsTimeout (tag : Nat)
  /-- PRG_RESPONSE (R245): A Page Request Group Response repeats the translation on Success, or refuses it with XLT_PRI. -/
  | prgResponse (tag : Nat) (code : Fin 16)
  /-- PRI_TIMEOUT (R246): No page-request response within XLT_PRITMO.MS refuses the translation with XLT_PRI. -/
  | priTimeout (tag : Nat)
  /-- XLT_CNTCLR (R277): A write of 1 zeroes the translation counters. -/
  | xltCntclr
  /-- TQ_QCMD_CREATE (R286): A create command checks and stores a queue descriptor and moves the queue to STOPPED. -/
  | tqQcmdCreate (q : QueueId)
  /-- TQ_QCMD_READ (R350): A read command returns a queue's descriptor and state. -/
  | tqQcmdRead (q : QueueId)
  /-- TQ_QCMD_START (R287): A start command moves a STOPPED queue to RUNNING and begins fetching recorded batches. -/
  | tqQcmdStart (q : QueueId)
  /-- TQ_QCMD_STOP (R287): A stop command makes a RUNNING queue accept no further batch and enter STOPPING. -/
  | tqQcmdStop (q : QueueId)
  /-- TQ_QCMD_ABORT (R334): An abort command journals an abort and completes every uncommitted command with TQ_ABORTED. -/
  | tqQcmdAbort (q : QueueId)
  /-- TQ_QCMD_DESTROY (R287): A destroy command releases a STOPPED queue's descriptor and discards its held records. -/
  | tqQcmdDestroy (q : QueueId)
  /-- TQ_QCMD_RESUME (R287): A resume command sets HEAD past a refused batch and returns the queue to RUNNING. -/
  | tqQcmdResume (q : QueueId)
  /-- TQ_CNTCLR (R350): A write of 1 zeroes TQ_REFUSED, TQ_DBOVF and TQ_ACCEPTED. -/
  | tqCntclr
  /-- DB_TAIL (R289): A doorbell write records a new tail that forms one batch, from BAR2, a Shoreline port or a DOORBELL flit. -/
  | dbTail (f : Func) (p : QueueId) (v : BitVec 32)
  /-- DB_CPLHEAD (R342): The host's completion-ring consumption index frees slots so held records and batches proceed. -/
  | dbCplhead (f : Func) (p : QueueId) (v : BitVec 32)
  /-- DB_RECHEAD (R325): The host's record-ring consumption index frees slots so held reckoning records are written. -/
  | dbRechead (f : Func) (p : QueueId) (v : BitVec 32)
  /-- DB_RESUME (R287): A write of 1 resumes a refused queue past its refused batch. -/
  | dbResume (f : Func) (p : QueueId) (v : BitVec 32)
  /-- DB_ABORT (R334): A write of 1 aborts the queue. -/
  | dbAbort (f : Func) (p : QueueId) (v : BitVec 32)
  /-- BATCH_FETCH_DONE (R292): A fetched batch is checked command by command, translated and journaled, or refused. -/
  | batchFetchDone (q : QueueId)
  /-- BATCH_ACCEPT (R466): When a batch's entries are durable locally and, if mirrored, at the partner, ASNs are returned in an ACCEPT record. -/
  | batchAccept (q : QueueId)
  /-- TIDE_NOP (R296): The sequencer executes a NOP. -/
  | tideNop (q : QueueId)
  /-- TIDE_JUMP (R301): The sequencer continues at the command OFFSET away. -/
  | tideJump (q : QueueId)
  /-- TIDE_BRC (R301): The sequencer branches when the counter comparison holds and journals the outcome. -/
  | tideBrc (q : QueueId)
  /-- TIDE_LOOP (R302): The sequencer adds 1 to IREG and branches back while it is below LIMIT. -/
  | tideLoop (q : QueueId)
  /-- TIDE_SETI (R300): The sequencer sets an index register to IMM. -/
  | tideSeti (q : QueueId)
  /-- TIDE_ADDI (R300): The sequencer adds IMM to an index register modulo 2^32. -/
  | tideAddi (q : QueueId)
  /-- TIDE_WAIT (R305): The sequencer holds later dispatch until the counter comparison holds, re-evaluating at each update. -/
  | tideWait (q : QueueId)
  /-- WAIT_TIMEOUT (R307): A WAIT whose limit elapses completes with TQ_WAITTMO and ends its batch. -/
  | waitTimeout (q : QueueId)
  /-- TIDE_CSET (R308): A CSET sets a counter to VALUE at its commit. -/
  | tideCset (q : QueueId)
  /-- TIDE_CADD (R308): A CADD adds VALUE to a counter at its commit. -/
  | tideCadd (q : QueueId)
  /-- TIDE_FENCE (R311): A FENCE waits for earlier commands and, with SCOPE 1, multicasts an urgent FENCE to the kernel tiles. -/
  | tideFence (q : QueueId)
  /-- TIDE_MARK (R312): A MARK sets the mark bits stamped on later requests of the batch. -/
  | tideMark (q : QueueId)
  /-- TIDE_ADVISE (R274): An ADVISE fills the second-level cache with its range's translations and never faults. -/
  | tideAdvise (q : QueueId)
  /-- TIDE_OPND (R321): An OPND supplies an extra operand to the following RECKON, KCALL or COLL. -/
  | tideOpnd (q : QueueId)
  /-- TIDE_COPY (R282): A Ferry engine dispatches a COPY, dealing large ones in 1 MiB pieces to every Ferry engine. -/
  | tideCopy (e : Fin 32)
  /-- TIDE_PREFETCH (R318): A Ferry engine dispatches a PREFETCH as a COPY in the background class. -/
  | tidePrefetch (e : Fin 32)
  /-- TIDE_FILL (R313): A Ferry engine dispatches a FILL that writes a 64-bit pattern over its destination. -/
  | tideFill (e : Fin 32)
  /-- TIDE_RECKON (R324): A Reckon engine dispatches a RECKON, draws and journals its seed, and launches device kernels. -/
  | tideReckon (e : Fin 8)
  /-- TIDE_KCALL (R373): A Reckon engine dispatches a KCALL, reads its image and places kernel instances. -/
  | tideKcall (e : Fin 8)
  /-- TIDE_PUT (R482): A Gather engine dispatches a PUT, taking PSNs and sending its writes to another die. -/
  | tidePut (e : Fin 8)
  /-- TIDE_GET (R313): A Gather engine dispatches a GET that reads from another die. -/
  | tideGet (e : Fin 8)
  /-- TIDE_COLL (R332): A Gather engine dispatches a COLL and reads peers' contributions into staging. -/
  | tideColl (e : Fin 8)
  /-- FERRY_PIECE_DONE (R421): A piece of a ganged command completes and its digests join the command's. -/
  | ferryPieceDone (q : QueueId) (asn : BitVec 64) (dseq : BitVec 32) (k : Nat) (noise : Option (Nat × BitVec 512))
  /-- COMMAND_COMMIT (R469): When an instance's writes are acknowledged and its digests agree, the COMMIT and CKPT pair is journaled. -/
  | commandCommit (q : QueueId) (asn : BitVec 64) (dseq : BitVec 32) (noise : Option (Nat × BitVec 512)) (held : BitVec 32)
  /-- STAGED_EFFECTS_APPLY (R474): Once the COMMIT pair is durable, staged outputs, counter updates, records and puts are applied and APPLIED written. -/
  | stagedEffectsApply (q : QueueId)
  /-- TILE_FENCE (R370): A tile answers an urgent FENCE flit once its cores' earlier writes for the kernel are acknowledged. -/
  | tileFence (t : TileId)
  /-- TILE_FENCE_REPORT (R311): A tile's FENCE report arrives at the engine, and a SCOPE 1 FENCE completes when every tile has reported. -/
  | tileFenceReport (q : QueueId) (t : TileId)
  /-- KCALL_TIMEOUT (R327): When LIMIT_US elapses, the engine aborts a KCALL's instances and it completes with TQ_KTIMEOUT. -/
  | kcallTimeout (q : QueueId) (asn : BitVec 64) (dseq : BitVec 32)
  /-- COLL_TIMEOUT (R492): When TQ_COLLTMO.MS runs out with no re-issue path, the COLL completes with an error. -/
  | collTimeout (q : QueueId) (asn : BitVec 64) (dseq : BitVec 32)
  /-- COUNTER_HOST_WRITE (R309): A host write of a counter's _HI register applies one indivisible counter update. -/
  | counterHostWrite (i : BitVec 16) (hi : BitVec 32)
  /-- INSTANCE_START (R377): A launch reaches its core and the instance starts with its entry registers. -/
  | instanceStart (c : CoreId)
  /-- KERNEL_IMAGE_SECTOR (R372): A kernel image sector arrives, is tally-checked and loaded into the instruction stores. -/
  | kernelImageSector (q : QueueId) (asn : BitVec 64) (dseq : BitVec 32) (k : Fin 1024)
  /-- INSTANCE_ABORT (R406): An abort stops an instance within tABK, records no fault and discards pending late exceptions. -/
  | instanceAbort (c : CoreId)
  /-- INSTANCE_EXCEPTION (R407): The engine receives an instance's exception, aborts the launch's other instances and ends the KCALL. -/
  | instanceException (e : Fin 8)
  /-- LOAD_RESPONSE (R402): A g-load, AMO or KLD response arrives at a core or Reckoner, possibly raising a late error. -/
  | loadResponse (c : CoreId)
  /-- WRITE_ACK (R369): An ACK for a core's write arrives, releasing held accesses and synchronisation waits. -/
  | writeAck (c : CoreId)
  /-- RECKONER_EXECUTE (R386): The Reckoner executes the next instruction of its queue in order. -/
  | reckonerExecute (c : CoreId) (upset : EccSite)
  /-- ADD (R358): rd gets rs1 + rs2. -/
  | add (c : CoreId)
  /-- SUB (R358): rd gets rs1 - rs2. -/
  | sub (c : CoreId)
  /-- AND (R358): rd gets rs1 AND rs2. -/
  | and (c : CoreId)
  /-- OR (R358): rd gets rs1 OR rs2. -/
  | or (c : CoreId)
  /-- XOR (R358): rd gets rs1 XOR rs2. -/
  | xor (c : CoreId)
  /-- SLL (R358): rd gets rs1 shifted left by rs2[5:0]. -/
  | sll (c : CoreId)
  /-- SRL (R358): rd gets rs1 shifted right logically by rs2[5:0]. -/
  | srl (c : CoreId)
  /-- SRA (R358): rd gets rs1 shifted right arithmetically by rs2[5:0]. -/
  | sra (c : CoreId)
  /-- SLT (R358): rd gets 1 if rs1 < rs2 signed, else 0. -/
  | slt (c : CoreId)
  /-- SLTU (R358): rd gets 1 if rs1 < rs2 unsigned, else 0. -/
  | sltu (c : CoreId)
  /-- MUL (R358): rd gets the low 64 bits of rs1 × rs2. -/
  | mul (c : CoreId)
  /-- MULHU (R358): rd gets the high 64 bits of the unsigned product. -/
  | mulhu (c : CoreId)
  /-- MULH (R358): rd gets the high 64 bits of the signed product. -/
  | mulh (c : CoreId)
  /-- DIVU (R358): rd gets the unsigned quotient, or 2^64-1 for a zero divisor. -/
  | divu (c : CoreId)
  /-- REMU (R358): rd gets the unsigned remainder, or rs1 for a zero divisor. -/
  | remu (c : CoreId)
  /-- RAMAP (R358): rd gets a hashed-view address mapped into the local view. -/
  | ramap (c : CoreId)
  /-- ADDI (R358): rd gets rs1 + sign-extended imm. -/
  | addi (c : CoreId)
  /-- ANDI (R358): rd gets rs1 AND zero-extended imm. -/
  | andi (c : CoreId)
  /-- ORI (R358): rd gets rs1 OR zero-extended imm. -/
  | ori (c : CoreId)
  /-- XORI (R358): rd gets rs1 XOR zero-extended imm. -/
  | xori (c : CoreId)
  /-- SLTI (R358): rd gets 1 if rs1 < imm signed, else 0. -/
  | slti (c : CoreId)
  /-- SLTIU (R358): rd gets 1 if rs1 < imm unsigned, else 0. -/
  | sltiu (c : CoreId)
  /-- SHI (R358): rd gets rs1 shifted by an immediate amount and kind. -/
  | shi (c : CoreId)
  /-- LSH (R358): rd gets (rs1 << 16) OR imm. -/
  | lsh (c : CoreId)
  /-- LDBU (R362): Loads one byte zero-extended into rd after window checks. -/
  | ldbu (c : CoreId)
  /-- LDHU (R362): Loads two bytes zero-extended into rd. -/
  | ldhu (c : CoreId)
  /-- LDWU (R362): Loads four bytes zero-extended into rd. -/
  | ldwu (c : CoreId)
  /-- LDWS (R362): Loads four bytes sign-extended into rd. -/
  | ldws (c : CoreId)
  /-- LDD (R362): Loads eight bytes into rd. -/
  | ldd (c : CoreId)
  /-- STB (R366): Stores one byte as an ATOMIC STORE flit. -/
  | stb (c : CoreId)
  /-- STH (R366): Stores two bytes as an ATOMIC STORE flit. -/
  | sth (c : CoreId)
  /-- STW (R366): Stores four bytes as an ATOMIC STORE flit. -/
  | stw (c : CoreId)
  /-- STD (R366): Stores eight bytes as an ATOMIC STORE flit. -/
  | std (c : CoreId)
  /-- KLD (R386): Issues a sector load into a k register, written when the KLD retires. -/
  | kld (c : CoreId)
  /-- KST (R366): Sends a k register as one WRITE flit with the Reckoner's tally. -/
  | kst (c : CoreId)
  /-- AMO_ADD (R366): Atomic add at rs1, returning the old value. -/
  | amoAdd (c : CoreId)
  /-- AMO_SWAP (R366): Atomic swap at rs1, returning the old value. -/
  | amoSwap (c : CoreId)
  /-- AMO_CAS (R366): Atomic compare-and-swap at rs1 against rd's prior value. -/
  | amoCas (c : CoreId)
  /-- AMO_MAXU (R366): Atomic unsigned maximum at rs1. -/
  | amoMaxu (c : CoreId)
  /-- AMO_MINU (R366): Atomic unsigned minimum at rs1. -/
  | amoMinu (c : CoreId)
  /-- AMO_OR (R366): Atomic OR at rs1. -/
  | amoOr (c : CoreId)
  /-- AMO_AND (R366): Atomic AND at rs1. -/
  | amoAnd (c : CoreId)
  /-- CNT_ADD (R383): Stages an add of rs2 to a counter of the queue's window. -/
  | cntAdd (c : CoreId)
  /-- CNT_SET (R383): Stages a set of a counter to rs2. -/
  | cntSet (c : CoreId)
  /-- CNT_READ (R384): Returns a counter's current value into rd. -/
  | cntRead (c : CoreId)
  /-- BEQ (R357): Branches when rs1 equals rs2. -/
  | beq (c : CoreId)
  /-- BNE (R357): Branches when rs1 differs from rs2. -/
  | bne (c : CoreId)
  /-- BLT (R357): Branches when rs1 < rs2 signed. -/
  | blt (c : CoreId)
  /-- BGE (R357): Branches when rs1 ≥ rs2 signed. -/
  | bge (c : CoreId)
  /-- BLTU (R357): Branches when rs1 < rs2 unsigned. -/
  | bltu (c : CoreId)
  /-- BGEU (R357): Branches when rs1 ≥ rs2 unsigned. -/
  | bgeu (c : CoreId)
  /-- JAL (R358): Links and jumps to address + 4 × off21. -/
  | jal (c : CoreId)
  /-- JALR (R358): Links and jumps to rs1 + imm with bits [1:0] cleared. -/
  | jalr (c : CoreId)
  /-- CSRR (R400): Reads a kernel-visible CSR into rd. -/
  | csrr (c : CoreId)
  /-- CSRW (R400): Writes rs1 to a writable kernel-visible CSR. -/
  | csrw (c : CoreId)
  /-- EXIT (R402): Waits as WACK does and ends the instance. -/
  | exit (c : CoreId)
  /-- WACK (R402): Waits until the Reckoner queue is empty, loads have arrived and writes are acknowledged. -/
  | wack (c : CoreId)
  /-- KSYNC (R402): Waits until the Reckoner queue is empty and every load response has arrived. -/
  | ksync (c : CoreId)
  /-- TRAP (R401): Raises a precise TRAP exception. -/
  | trap (c : CoreId)
  /-- KMOV (R358): kd gets ka. -/
  | kmov (c : CoreId)
  /-- KXOR (R358): kd gets ka XOR kb. -/
  | kxor (c : CoreId)
  /-- KINS (R358): Inserts g into a 64-bit lane of kd. -/
  | kins (c : CoreId)
  /-- KEXT (R358): Extracts a 64-bit lane of kd into g. -/
  | kext (c : CoreId)
  /-- KBC (R358): Broadcasts g into every lane of kd. -/
  | kbc (c : CoreId)
  /-- KRAND (R397): Writes the next ChaCha20 block into kd and advances RCTR. -/
  | krand (c : CoreId)
  /-- KTALLY (R396): Computes the tally word of ka into g. -/
  | ktally (c : CoreId)
  /-- KDIG (R396): Advances the digest state in g over ka; device kernels only. -/
  | kdig (c : CoreId)
  /-- KMDOT (R395): Accumulates a modular dot product of signed lanes into g modulo 2^61-1. -/
  | kmdot (c : CoreId)
  /-- KDOT (R389): Adds an exact dot product of ka and kb lanes into an accumulator. -/
  | kdot (c : CoreId)
  /-- KZACC (R358): Zeroes an accumulator and clears its flags. -/
  | kzacc (c : CoreId)
  /-- KSHA (R394): Scales an accumulator by 2^g. -/
  | ksha (c : CoreId)
  /-- KRND (R391): Rounds an accumulator to fp64 into g. -/
  | krnd (c : CoreId)
  /-- KINT (R393): Converts an accumulator to a signed 64-bit integer in g. -/
  | kint (c : CoreId)
  /-- KPUT (R392): Rounds an accumulator into a lane of kd in type ET. -/
  | kput (c : CoreId)
  /-- KADDA (R358): Adds accumulator ka into accumulator kd. -/
  | kadda (c : CoreId)
  /-- BEAD_CNTCLR (R411): A write of 1 zeroes BEAD_FAULTS, BEAD_RETRIES and BEAD_LAUNCHES. -/
  | beadCntclr
  /-- RECKON_CHECK_DONE (R444): The device kernels of a RECKON finish and the verdict and flags are decided. -/
  | reckonCheckDone (q : QueueId) (asn : BitVec 64) (dseq : BitVec 32) (held : BitVec 32)
  /-- TLY_CTX_WRITE (R453): A context's reckon parameters are written from TLY_CTXA. -/
  | tlyCtxWrite (asid : BitVec 16)
  /-- TLY_CTX_READ (R454): A context's reckon parameters are read into TLY_CTXA. -/
  | tlyCtxRead (asid : BitVec 16)
  /-- TLY_CNTCLR (R454): A write of 1 zeroes the tally and reckoning counters. -/
  | tlyCntclr
  /-- JOURNAL_LOCAL_DURABLE (R461): The Reef acknowledges a journal entry, making it durable locally in LSN order. -/
  | journalLocalDurable
  /-- LOG_REAPPEND (R462): The Log engine re-appends live entries found at the oldest position of the own area. -/
  | logReappend
  /-- MIRROR_ACK_TIMEOUT (R480): No advance of the partner's cumulative LSN within ACK_MS makes the die unmirrored. -/
  | mirrorAckTimeout
  /-- HBL_TKHEAD (R505): The host's takeover-ring consumption index frees records so a held takeover proceeds. -/
  | hblTkhead (v : BitVec 16)
  /-- HBL_TK_ENABLE (R506): Setting HBL_CTL.TK_EN releases a held takeover, writing its records and raising the vector. -/
  | hblTkEnable (on : Bool)
  /-- HBL_CNTCLR (R511): A write of 1 zeroes the Harbour log counters. -/
  | hblCntclr
  /-- TAKEOVER (R499): On a failure declaration, the partner reads the failed client's slot and writes takeover records. -/
  | takeover (d : Die)
  /-- COLL_READY_DURABLE (R469): Once a COLL_READY entry is durable, the member sends READY. -/
  | collReadyDurable (q : QueueId) (asn : BitVec 64) (dseq : BitVec 32) (damaged : Bool)
  /-- COLL_COMMIT_DURABLE (R490): Once COLL_COMMIT is durable, the member writes DST. -/
  | collCommitDurable (q : QueueId) (asn : BitVec 64) (dseq : BitVec 32)
  /-- COLL_MEMBER_LOST (R491): A member lost before this die's COLL_COMMIT makes it write INTERRUPT and discard staging. -/
  | collMemberLost (d : Die)
  /-- MEMBER_BEAT (R504): Each member sends a membership beat every 100 ms. -/
  | memberBeat
  /-- MEMBER_FAIL_DECLARE (R504): The steward declares a member failed after 10 ms with every in-tray link down or three missed beats. -/
  | memberFailDeclare (d : Die)
  /-- GRACE_EXPIRY (R494): A die that has not rejoined within GRACE_MS of its reset notice is declared failed. -/
  | graceExpiry (d : Die)
  /-- STEWARD_COLLECT_DONE (R509): A new steward finishes collecting members' partners, clients, heads and interrupted COLLs and resumes decisions. -/
  | stewardCollectDone (reports : List MemberReport)
  /-- SHL_FRAME_RECEIVE (R527): A Shoreline frame is checked, acknowledged or NAKed, deduplicated, and its slots and credits taken. -/
  | shlFrameReceive (p : PortId) (fr : BitVec 2048)
  /-- SHL_READ (R537): An upstream READ is checked against the windows and injected towards its tile. -/
  | shlRead (p : PortId)
  /-- SHL_WRITE (R541): An upstream WRITE is window- and tally-checked and injected, or refused. -/
  | shlWrite (p : PortId)
  /-- SHL_ACK (R552): A partner's urgent ACK answers a downstream FENCE. -/
  | shlAck (p : PortId)
  /-- SHL_ABORT (R551): An upstream ABORT is forwarded to the named core as an urgent ABORT flit. -/
  | shlAbort (p : PortId)
  /-- SHL_DOORBELL (R549): A DOORBELL writes a tail to a queue in the port's doorbell window, or is refused. -/
  | shlDoorbell (p : PortId)
  /-- SHL_COUNTER (R545): A COUNTER is applied in CSEQ order after earlier writes are acknowledged, or dropped as a duplicate. -/
  | shlCounter (p : PortId)
  /-- SHL_WATCH (R548): A WATCH is held and answered with a NOTE when its comparison holds. -/
  | shlWatch (p : PortId)
  /-- SHL_REPLAY_TIMEOUT (R528): No ACKSEQ advance for tRPT resends every buffered frame after ACKSEQ. -/
  | shlReplayTimeout (p : PortId)
  /-- SHL_RETRAIN_DONE (R532): A retrain returns with the modules and rate that train, replaying from ACKSEQ. -/
  | shlRetrainDone (p : PortId) (rate : Fin 6) (mods : Fin 16)
  /-- SHL_RETRAIN_TIMEOUT (R556): A retrain that fails at code 0 or exceeds tSRT moves the port to FAILED. -/
  | shlRetrainTimeout (p : PortId)
  /-- SHL_PORT_ENABLE (R556): Writing SHL_PCTL.EN from 0 to 1 starts UCIe sideband initialisation. -/
  | shlPortEnable (p : PortId)
  /-- SHL_PORT_DISABLE (R556): Writing SHL_PCTL.EN to 0 returns a FAILED port to DOWN. -/
  | shlPortDisable (p : PortId)
  /-- SHL_LINK_UP (R556): The UCIe link becomes active and the capability block is sent. -/
  | shlLinkUp (p : PortId) (rate : Fin 6) (mods : Fin 16)
  /-- SHL_TRAIN_TIMEOUT (R556): No sideband response within 10 ms posts SHL_ABSENT and returns the port to DOWN. -/
  | shlTrainTimeout (p : PortId)
  /-- SHL_CAPABILITY_RECEIVE (R535): The partner's capability block settles width, rate, features and credits, or fails the port. -/
  | shlCapabilityReceive (p : PortId) (blk : BitVec 256)
  /-- SHL_NEGOTIATE_TIMEOUT (R556): No capability block within 1 ms fails the port with SHL_VERSION. -/
  | shlNegotiateTimeout (p : PortId)
  /-- SHL_LINK_DOWN (R557): A sideband link-down report fails the port and ends dependent commands with TQ_COMPUTE. -/
  | shlLinkDown (p : PortId)
  /-- SHL_TELEMETRY (R553): A telemetry message updates the port's telemetry registers. -/
  | shlTelemetry (p : PortId) (m : BitVec 128)
  /-- SHL_TELEMETRY_MISS (R554): TELEM_MISS missed messages post SHL_TELEM and treat the die as drawing TDP. -/
  | shlTelemetryMiss (p : PortId)
  /-- SHL_CNTCLR (R561): A write of 1 zeroes every Shoreline counting register. -/
  | shlCntclr
  /-- TWY_LINK_ENABLE (R570): Writing EN from 0 to 1 starts the detect pattern. -/
  | twyLinkEnable (n : LinkId)
  /-- TWY_LINK_DISABLE (R570): Writing EN to 0 takes the link down without retry. -/
  | twyLinkDisable (n : LinkId)
  /-- TWY_BLOCK_LOCK (R570): Block lock in DETECT starts the configuration exchange. -/
  | twyBlockLock (n : LinkId)
  /-- TWY_DETECT_TIMEOUT (R570): No lock within tDET returns the link to DOWN. -/
  | twyDetectTimeout (n : LinkId)
  /-- TWY_CONFIG_RECEIVE (R571): A configuration block is compared, the peer authenticated, and the link moves to STEP or DOWN. -/
  | twyConfigReceive (n : LinkId) (die : Die) (link : Fin 32) (mode : Bool) (enc : Bool) (maxRate : Fin 8) (version : BitVec 8) (auth : Bool) (h : BitVec 384)
  /-- TWY_CONFIG_TIMEOUT (R570): No configuration block within 1 ms posts TWY_CONFIG and returns the link to DOWN. -/
  | twyConfigTimeout (n : LinkId)
  /-- TWY_DWELL_DONE (R573): A rate's PRBS31 dwell ends, and after the last rate the link enters ACTIVE. -/
  | twyDwellDone (n : LinkId) (lanes : BitVec 9)
  /-- TWY_PAUSE_DONE (R584): A retrain pause ends and each end replays from the other's ACKSEQ. -/
  | twyPauseDone (n : LinkId)
  /-- TWY_PAUSE_TIMEOUT (R570): A pause not done within tPAUSE takes the link down. -/
  | twyPauseTimeout (n : LinkId)
  /-- TWY_HOLD_EXPIRY (R612): tHOLD after a down, the link re-enters DETECT. -/
  | twyHoldExpiry (n : LinkId)
  /-- TWY_CMD_RETRAIN (R570): The RETRAIN command retrains the link through a pause. -/
  | twyCmdRetrain (n : LinkId)
  /-- TWY_CMD_RESTORE (R605): The RESTORE command trains retired lanes as spares and widens the link. -/
  | twyCmdRestore (n : LinkId)
  /-- TWY_CMD_DOWN (R570): The DOWN command takes the link down without retry. -/
  | twyCmdDown (n : LinkId)
  /-- TWY_CMD_TEST (R593): The TEST command runs the configured loop and PRBS pattern. -/
  | twyCmdTest (n : LinkId) (farOk : Bool)
  /-- TWY_CMD_TESTEND (R570): The TESTEND command returns a TEST link to DOWN. -/
  | twyCmdTestend (n : LinkId)
  /-- TWY_FRAME_RECEIVE (R582): A Tideway frame is checked, decrypted, acknowledged or NAKed, and its slots and credits taken. -/
  | twyFrameReceive (n : LinkId) (fr : BitVec 2048) (uncorr : Bool) (skips : BitVec 8)
  /-- TWY_WRITE (R483): A received WRITE is admitted, deduplicated by PSN and applied, with its RSIG update. -/
  | twyWrite (n : LinkId)
  /-- TWY_READ (R268): A received READ is admitted under global or window rules and answered. -/
  | twyRead (n : LinkId)
  /-- TWY_READ_DATA (R577): Received READ_DATA is delivered to its requester. -/
  | twyReadData (n : LinkId)
  /-- TWY_ACK (R577): A received ACK completes an outstanding put or write at its sender. -/
  | twyAck (n : LinkId)
  /-- TWY_ERROR (R271): A received ERROR completes the sending command with its status. -/
  | twyError (n : LinkId)
  /-- TWY_ABORT (R682): A received urgent ABORT is injected into the counting frame at once. -/
  | twyAbort (n : LinkId)
  /-- TWY_FENCE (R682): A received urgent FENCE is injected into the counting frame at once. -/
  | twyFence (n : LinkId)
  /-- TWY_DOORBELL (R682): A received urgent DOORBELL is injected into the counting frame at once. -/
  | twyDoorbell (n : LinkId)
  /-- TWY_JOURNAL (R488): A partner writes received journal entries into the client's slot, dropping duplicates, and returns JACK. -/
  | twyJournal (n : LinkId)
  /-- TWY_JACK (R461): A cumulative LSN from the partner makes entries durable there, enabling acceptance and commits. -/
  | twyJack (n : LinkId)
  /-- TWY_COLL (R489): A received READY or re-issue message advances a COLL, committing when every member is READY. -/
  | twyColl (n : LinkId)
  /-- TWY_ROUTE (R622): A received ROUTE message installs the steward's routes, discarding stale epochs. -/
  | twyRoute (n : LinkId)
  /-- TWY_FORWARD (R618): A HOP 0 message not for this die is forwarded through the frame to a link to its destination. -/
  | twyForward (n : LinkId)
  /-- LEASE_CLAIM_RECEIVE (R768): A CLAIM is validated and compared, recording a holder or ending candidacy. -/
  | leaseClaimReceive (n : LinkId)
  /-- LEASE_RENEW_RECEIVE (R764): A valid RENEW records the holder and restarts the lapse time. -/
  | leaseRenewReceive (n : LinkId)
  /-- LEASE_RELEASE_RECEIVE (R764): A valid RELEASE lets an eligible die start its claim wait. -/
  | leaseReleaseReceive (n : LinkId)
  /-- MEMBER_BEAT_RECEIVE (R504): The steward records a member's membership beat. -/
  | memberBeatReceive (n : LinkId)
  /-- STEWARD_DECISION_RECEIVE (R508): A steward decision such as a partner assignment or failure declaration is applied, or discarded if stale. -/
  | stewardDecisionReceive (n : LinkId)
  /-- RESET_NOTICE_RECEIVE (R494): The steward receives a warm or cold reset notice, starting the grace period or declaring the die failed. -/
  | resetNoticeReceive (n : LinkId)
  /-- LINK_REPORT_RECEIVE (R622): The steward recomputes two-hop routes after a link report and sends ROUTE messages. -/
  | linkReportReceive (n : LinkId)
  /-- IDENTITY_REPORT_RECEIVE (R760): The steward records authenticated peer identities and quarantines duplicates. -/
  | identityReportReceive (n : LinkId)
  /-- MEMBER_JOIN (R817): The steward adds a joining die, assigns it a partner and offers it to members lacking one. -/
  | memberJoin (n : LinkId)
  /-- ROSTER_CHANGE_RECEIVE (R770): A roster change from the steward is stored, completing a forwarded ENROL. -/
  | rosterChangeReceive (n : LinkId)
  /-- ENROL_FORWARD_RECEIVE (R775): The steward checks a forwarded enrolment record and applies it to the roster. -/
  | enrolForwardReceive (n : LinkId)
  /-- ACTIVATE_FORWARD_RECEIVE (R842): The steward checks a forwarded ACTIVATE and arms each die in scope. -/
  | activateForwardReceive (n : LinkId) (fleet : List FleetReport)
  /-- TURN_DONE_RECEIVE (R843): The steward receives a die's activation-done report and may start the next turn. -/
  | turnDoneReceive (n : LinkId)
  /-- TWY_REPLAY_TIMEOUT (R582): No ACKSEQ advance for tTRP replays buffered frames. -/
  | twyReplayTimeout (n : LinkId)
  /-- TWY_LOS_TIMEOUT (R583): No lock or good frame for tLOS makes the link enter PAUSE. -/
  | twyLosTimeout (n : LinkId)
  /-- TWY_BER_WINDOW (R591): At each 100 ms window, lane error rates are published, weak lanes found and the rate loop run. -/
  | twyBerWindow (n : LinkId) (rates : List (BitVec 16)) (seen : List LaneSeen)
  /-- TWY_ERROR_WINDOW (R596): More than ILIM frame errors in a second weaken the worst active lane. -/
  | twyErrorWindow (n : LinkId)
  /-- TWY_SPARE_TRAIN_DONE (R598): A spare's training ends; a pass starts a swap, a failure retires the spare. -/
  | twySpareTrainDone (n : LinkId) (passed : Bool)
  /-- TWY_SWAP_DONE (R599): A spare swap ends, retiring the weak lane and posting TWY_SPARED. -/
  | twySwapDone (n : LinkId)
  /-- TWY_RATE_TRIAL_END (R607): After 100 ms at a trial higher rate, the link keeps it or steps back. -/
  | twyRateTrialEnd (n : LinkId)
  /-- TWY_WIDTH_WINDOW (R610): The width loop narrows a lightly used link or widens a busy one through a pause. -/
  | twyWidthWindow (n : LinkId) (long : Bool) (load : BitVec 16)
  /-- TWY_KEY_UPDATE (R589): Headland installs a new link key and KEPOCH advances without a pause. -/
  | twyKeyUpdate (n : LinkId) (tx : Bool)
  /-- TWY_CNTCLR (R625): A write of 1 zeroes every Tideway counting register. -/
  | twyCntclr
  /-- PCI_LINK_UP (R627): The host link trains, posting PCI_LINKSLOW if below x16 or 64 GT/s. -/
  | pciLinkUp (speed : Fin 16) (width : Fin 32) (flit : Bool)
  /-- PCI_LINK_DOWN (R655): The host link goes down; requests towards the host wait in order. -/
  | pciLinkDown
  /-- PCI_READ_COMPLETION (R652): A completion for a device read of host memory delivers data, poisoned data or an error. -/
  | pciReadCompletion (tag : Nat) (data : List Sector) (poison : Bool) (ok : Bool)
  /-- PCI_COMPLETION_TIMEOUT (R651): A host read unanswered within CPLTMO_MS fails its command with XLT_HOST. -/
  | pciCompletionTimeout (tag : Nat)
  /-- VF_FLR (R654): A VF Function Level Reset aborts and destroys its queues, unbinds its contexts and masks its vectors. -/
  | vfFlr (v : Func)
  /-- MSIX_UNMASK (R645): Unmasking a vector with its pending bit set sends one message. -/
  | msixUnmask (v : Fin 2048)
  /-- PCI_CNTCLR (R657): A write of 1 zeroes the host-port counters. -/
  | pciCntclr
  /-- QOS_TOKEN_TICK (R661): Every 40 ns each class bucket gains its refill, up to BURST. -/
  | qosTokenTick
  /-- QOS_WINDOW (R664): At each 10 µs window, class use resets and clamps begin or end. -/
  | qosWindow
  /-- QOS_MISS_WINDOW (R670): At each 1 ms window, a class with misses above MISSLIM posts QOS_GMISS. -/
  | qosMissWindow
  /-- QOS_PACE_WINDOW (R672): At each 10 µs window, Shoreline backpressure decides PREFETCH pacing. -/
  | qosPaceWindow (pct : List (Fin 101))
  /-- QOS_ISTHMUS_WINDOW (R674): At each 1 ms window, Isthmus use is written and ISTH_HOT set or cleared. -/
  | qosIsthmusWindow (cycles : BitVec 32)
  /-- QOS_WAKEHOLD_WRITE (R675): A write to QOS_WAKEHOLD holds coves awake, waking any gated held cove. -/
  | qosWakeholdWrite (hold : BitVec 16)
  /-- QOS_CNTCLR (R687): A write of 1 zeroes QOS_MISS, QOS_MISSOVR and QOS_CLAMPDUR. -/
  | qosCntclr
  /-- CURRENT_SAMPLE (R716): Each current sensor reports a sample, switches range and integrates energy. -/
  | currentSample (j : Fin 21) (lo : BitVec 14) (hi : BitVec 14) (mv : BitVec 11)
  /-- TEMP_SAMPLE (R719): Each temperature sensor reports, feeding refresh bands, throttle and trip. -/
  | tempSample (t : Fin 64) (q : BitVec 12) (fail : Bool)
  /-- THROTTLE_STEP (R720): At each tTHS step at or above THROTTLE_C, the FCODE cap drops one more code. -/
  | throttleStep
  /-- THROTTLE_RELEASE_STEP (R721): After each 1 ms below THROTTLE_C - 3 °C, the cap rises one code. -/
  | throttleReleaseStep
  /-- THERMAL_TRIP (R723): Two samples at or above 115 °C stop the clocks, drop links, assert THERMTRIP_N and stop the die. -/
  | thermalTrip (t : Fin 64)
  /-- RAIL_LIMIT_STEP (R712): Rail current above its limit caps FCODE, lowering it every 100 µs and lifting it every 1 ms after recovery. -/
  | railLimitStep (k : Fin 4) (mean : BitVec 20) (calm : Bool)
  /-- DROOP_TRIP (R709): A droop comparator trip limits instruction issue in the affected coves. -/
  | droopTrip (src : Fin 18)
  /-- DROOP_RELEASE (R709): A comparator release starts the tDRH hold. -/
  | droopRelease (src : Fin 18)
  /-- DROOP_HOLD_END (R709): tDRH after release, the issue limit ends. -/
  | droopHoldEnd (src : Fin 18)
  /-- UNDERVOLTAGE (R711): A cove more than 100 mV low for 50 ns posts BRK_UV and stops the die. -/
  | undervoltage (c : CoveId)
  /-- AVS_TRANSACTION_DONE (R691): An AVSBus transaction ends; three unanswered ones set AVSFAIL and post BRK_AVS. -/
  | avsTransactionDone (k : Fin 4) (mv : Option (BitVec 16))
  /-- PLL_LOCK_LOSS (R697): A frame or interface PLL losing lock posts BRK_PLL and stops the die. -/
  | pllLockLoss (n : Fin 4)
  /-- SLACK_ENTRY (R700): After SLACK_US of full idleness, controllers enter self-refresh, coves gate and the frame clock stops. -/
  | slackEntry
  /-- SLACK_EXIT (R702): A host, Shoreline, Tideway or Headland request, or SLACK_EN cleared, restarts the frame clock and wakes coves. -/
  | slackExit (coves : BitVec 16)
  /-- COVE_GATE (R707): A cove idle for IDLE_US stops its clock and lowers its regulator to retention. -/
  | coveGate (c : CoveId)
  /-- COVE_WAKE_REQUEST (R707): A wake request, launch, scrub burst or wake-hold raises a gated cove's regulator. -/
  | coveWakeRequest (c : CoveId)
  /-- COVE_AWAKE (R707): A waking cove's clock runs, and flits waiting at its edge proceed. -/
  | coveAwake (c : CoveId)
  /-- AVFS_WINDOW (R734): At each 100 µs window, the loop steps FCODE by mesh use. -/
  | avfsWindow (pct : Fin 101)
  /-- AVFS_VOLTAGE_STEP (R736): Each 10 µs the loop moves cove voltage targets toward the monitored margin. -/
  | avfsVoltageStep (low : BitVec 16) (spare : BitVec 16)
  /-- CD_LIMIT_UPDATE (R724): Breakwater recomputes and sends compute-die power limits after an input change. -/
  | cdLimitUpdate
  /-- CD_POWER_WINDOW (R725): Telemetry above 105 % of its limit for 10 ms posts BRK_CDPWR. -/
  | cdPowerWindow (p : PortId)
  /-- BRK_CNTCLR (R742): A write of 1 zeroes the Breakwater counters. -/
  | brkCntclr
  /-- SPDM_REQUEST (R746): Headland answers an SPDM request over MCTP or between dies. -/
  | spdmRequest (src : SpdmFrom)
  /-- GET_RECORD_KEY (R756): In a secured session, Headland discloses a bound context's record key for a live generation. -/
  | getRecordKey (who : Fin 35) (asid : BitVec 16) (gen : Byte)
  /-- MCTP_MESSAGE (R779): An MCTP message over I3C, SMBus or PCIe is dispatched by type or discarded. -/
  | mctpMessage (t : Transport) (m : MctpBody)
  /-- KEY_GEN (R751): The mailbox command draws generation 0 of an empty slot. -/
  | keyGen
  /-- KEY_ROTATE (R752): The mailbox command draws and makes current the other generation of a slot. -/
  | keyRotate
  /-- KEY_DESTROY (R752): The mailbox command erases both generations of an unused slot. -/
  | keyDestroy
  /-- ROOT_ROTATE (R757): The mailbox command makes a new record-root generation current. -/
  | rootRotate
  /-- ROOT_RETIRE (R758): The mailbox command erases the non-current record-root generation. -/
  | rootRetire
  /-- LEASE_RELEASE (R764): The mailbox command makes a steward send RELEASE. -/
  | leaseRelease
  /-- ENROL (R777): The mailbox command applies an enrolment record, or forwards it to the steward. -/
  | enrol
  /-- ENROL_TIMEOUT (R777): A forwarded ENROL without a roster change within tENR completes with STATE. -/
  | enrolTimeout
  /-- ROSTER_READ (R782): The mailbox command returns the roster in the buffer. -/
  | rosterRead
  /-- IDENT_READ (R782): The mailbox command returns an SPDM certificate chain. -/
  | identRead
  /-- HLD_CNTCLR (R784): A write of 1 zeroes HLD_CONFLICTS and HLD_BADLEASE. -/
  | hldCntclr
  /-- LEASE_LISTEN_END (R766): tLSE after entering LISTEN, the die becomes a worker, treating an unheld lease as lapsed. -/
  | leaseListenEnd
  /-- LEASE_LAPSE (R764): The lapse time passes and an eligible die starts its claim wait. -/
  | leaseLapse
  /-- LEASE_BACKOFF_END (R764): After tBKF × slot with no valid CLAIM, the die sends CLAIM with epoch + 1. -/
  | leaseBackoffEnd
  /-- LEASE_QUIET_END (R764): tCLQ without a winning claim makes the candidate steward. -/
  | leaseQuietEnd
  /-- LEASE_RENEW_TIMER (R767): Every tREN the steward sends RENEW. -/
  | leaseRenewTimer
  /-- POWER_ON (R800): Power-on of VAO performs a cold reset. -/
  | powerOn
  /-- VAO_BROWNOUT (R891): VAO below 1.746 V for tBOD holds the die in reset, restarting as after power-on. -/
  | vaoBrownout
  /-- RESET_N_ASSERT (R800): RESET_N low for tRSTL causes a cold reset. -/
  | resetNAssert
  /-- RESET_N_RELEASE (R789): RESET_N rising samples the straps and starts HBOOT. -/
  | resetNRelease (tray : Fin 4) (slot : Fin 8) (sbsel : Bool) (recov : Bool)
  /-- PHASE_HBOOT_DONE (R792): Headland firmware starts, the die enters LISTEN and the POWER phase begins, or recovery or failure follows. -/
  | phaseHbootDone (ok : Bool) (flash : Bool)
  /-- PHASE_POWER_DONE (R792): Rails, PLLs, cove 0 and the Reef are ready and BRINGUP begins. -/
  | phasePowerDone (unlocked : Option (Fin 4))
  /-- PHASE_BRINGUP_DONE (R792): LPDDR is trained and Shoreline ports are settled, and the die enters READY. -/
  | phaseBringupDone
  /-- PERST_N_RISE (R797): PERST_N rising starts host-link training. -/
  | perstNRise
  /-- PERST_N_FALL (R804): PERST_N falling after having been high causes a warm reset. -/
  | perstNFall
  /-- PCI_HOT_RESET (R800): A host hot reset or link disable causes a warm reset. -/
  | pciHotReset
  /-- PF_FLR (R800): A PF Function Level Reset causes a warm reset. -/
  | pfFlr
  /-- GLB_RESET_WARM (R801): Writing GLB_RESET with KEY 0x5A and KIND 1 starts a warm reset. -/
  | glbResetWarm
  /-- GLB_RESET_COLD (R805): Writing GLB_RESET with KEY 0x5A and KIND 2 sends a cold-reset notice and resets the die. -/
  | glbResetCold
  /-- WARM_RESET (R807): A warm reset notifies the steward, quiets engines, parks LPDDR and resets cores, engines and ports. -/
  | warmReset
  /-- WARM_RESET_RETURN (R807): After reinitialisation, the Log engine recovers and the die returns to READY. -/
  | warmResetReturn (failed : Option ChanId) (bad : Bool)
  /-- TAKEOVER_QUERY_ANSWER (R809): The partner's answer on takeover makes a returning die recover or cold-reset with CAUSE 4. -/
  | takeoverQueryAnswer (n : LinkId) (bad : Bool)
  /-- HOST_GO (R811): Writing GLB_CTL.HOST_GO releases requests to host memory held since the warm reset. -/
  | hostGo
  /-- LEAVE (R819): Writing GLB_CTL.LEAVE withholds acceptance and drains the die out of the tray. -/
  | leave
  /-- LEAVE_COMPLETE (R819): With no live batch and clients re-partnered, LEFT is set and the departure reported. -/
  | leaveComplete
  /-- REJOIN (R821): Writing GLB_CTL.REJOIN ends a departure and the die rejoins. -/
  | rejoin
  /-- REFCLK_TWY_LOSS (R896): Loss of REFCLK_TWY takes every Tideway link down and posts GLB_NOTWYCLK. -/
  | refclkTwyLoss
  /-- REFCLK_TWY_RETURN (R896): REFCLK_TWY returning lets each link re-enter DETECT after tHOLD. -/
  | refclkTwyReturn
  /-- FWU_BEGIN (R837): BEGIN erases a component's staging region and starts receiving. -/
  | fwuBegin
  /-- FWU_CHUNK (R838): CHUNK stores bytes of an image in order, checking the header after the first 512 bytes. -/
  | fwuChunk
  /-- FWU_END (R831): END decrypts the staged payload and checks its tag and hash. -/
  | fwuEnd
  /-- FWU_CANCEL (R837): CANCEL erases a staging region. -/
  | fwuCancel
  /-- FWU_ACTIVATE (R841): ACTIVATE requests scheduled activation of this die or the tray. -/
  | fwuActivate (fleet : List FleetReport)
  /-- FWU_ACT_CANCEL (R844): ACT_CANCEL disarms an armed die. -/
  | fwuActCancel
  /-- FWU_RECOV_EXIT (R856): RECOV_EXIT cold-resets out of recovery when every active image verifies. -/
  | fwuRecovExit
  /-- PLDM_REQUEST_UPDATE (R840): RequestUpdate opens a PLDM update session. -/
  | pldmRequestUpdate (t : Transport)
  /-- PLDM_PASS_COMPONENT_TABLE (R840): PassComponentTable names the components of the session. -/
  | pldmPassComponentTable (t : Transport) (comps : List (Fin 8))
  /-- PLDM_UPDATE_COMPONENT (R840): UpdateComponent starts receiving a component as BEGIN does. -/
  | pldmUpdateComponent (t : Transport) (comp : Fin 8)
  /-- PLDM_FIRMWARE_DATA (R840): Data answering RequestFirmwareData is staged, with early refusal after the header. -/
  | pldmFirmwareData (t : Transport) (bytes : List Byte) (flash : Bool)
  /-- PLDM_ACTIVATE_FIRMWARE (R840): ActivateFirmware acts as ACTIVATE with SCOPE 0 and DELAY_S 0. -/
  | pldmActivateFirmware (t : Transport) (fleet : List FleetReport)
  /-- PLDM_CANCEL_UPDATE_COMPONENT (R840): CancelUpdateComponent acts as CANCEL. -/
  | pldmCancelUpdateComponent (t : Transport)
  /-- PLDM_CANCEL_UPDATE (R840): CancelUpdate acts as CANCEL and ends the session. -/
  | pldmCancelUpdate (t : Transport)
  /-- QUERY_DEVICE_IDENTIFIERS (R840): QueryDeviceIdentifiers reports GLB_ID. -/
  | queryDeviceIdentifiers (t : Transport)
  /-- GET_FIRMWARE_PARAMETERS (R840): GetFirmwareParameters reports running and staged versions. -/
  | getFirmwareParameters (t : Transport)
  /-- FWU_TURN_START (R843): When DELAY_S has elapsed and the others are mirrored, the steward starts the next armed die's turn. -/
  | fwuTurnStart
  /-- FWU_DRAIN_END (R844): LEFT or DRAIN_S expiry moves a draining die to the loader overwrite. -/
  | fwuDrainEnd
  /-- FWU_OVERWRITE_DONE (R844): Every staged image is written and verified, and the die cold-resets with CAUSE 3. -/
  | fwuOverwriteDone
  /-- FWU_ACTIVATION_DONE (R844): A booted die that is mirrored raises its SVN, clears its markers and reports done. -/
  | fwuActivationDone (alone : Bool)
  /-- FWU_TURN_TIMEOUT (R846): A turn not done within TURN_S halts the rollout with FWU_HALT. -/
  | fwuTurnTimeout
  /-- ILLEGAL_INSTRUCTION (R401): A bead core meets an encoding that R358, R359 or R400 makes illegal and takes a precise ILLEGAL exception. -/
  | illegalInstruction (c : CoreId)
  /-- INSTRUCTION_FETCH_FAULT (R364): A fetch beyond the loaded image or from a misaligned address takes a precise FETCH exception. -/
  | instructionFetchFault (c : CoreId)
  /-- TAKEOVER_QUERY_RECEIVE (R809): A partner receives a returning die's query on whether it has taken over that die's journal, and answers it. -/
  | takeoverQueryReceive (n : LinkId)
  /-- DEPARTURE_REPORT_RECEIVE (R820): The steward receives a leaving die's request for new partners for its clients and its departure report, and records the die as absent and not failed. -/
  | departureReportReceive (n : LinkId)
  /-- MIRROR_LOSS_REPORT_RECEIVE (R480): The steward receives a die's report that its partner stopped acknowledging, and assigns it a new partner. -/
  | mirrorLossReportReceive (n : LinkId)
  /-- CLAMP_DURATION_IRQ (R609): A clamp's running duration reaches its IRQ_MS threshold, setting EVT_PEND.CLAMP and raising the POLICY_CLAMP vector. -/
  | clampDurationIrq (loop : Fin 7) (inst : Fin 48)
  /-- HLD_COMMAND_COMPLETE (R781): A Headland mailbox command finishes: the response registers are written, ERR is set, BUSY clears, DONE sets and the vector is raised. -/
  | hldCommandComplete
  /-- FWU_COMMAND_COMPLETE (R859): A firmware-update command finishes its flash work: BUSY clears, DONE sets and ERR records the outcome, including FLASH failures. -/
  | fwuCommandComplete (flash : Bool)
  /-- PRI_ENABLE (R247): The host re-enables page requests in the PRI capability, and the device may send Page Requests again. -/
  | priEnable (f : Func) (alloc : BitVec 32)
  /-- VF_ENABLE (R642): The host enables or disables virtual functions through SR-IOV, moving ownership of pool vectors between VFs and the PF. -/
  | vfEnable (n : Func)
  deriving DecidableEq, Repr

end Sys2Proof
end

