-- ==== Sys2Proof/Config.lean ====
section
/-! DEFINITION. What the spec leaves open, as constants without a body: nothing can evaluate them or prove a value of
them, so whatever is proved holds for every value (see NOTES.md, "Assumptions", and the log entries named here). -/

namespace Sys2Proof.Config

/-- The n-th open value of a run, of any width: random draws (R429, R751), results the spec leaves open, and environment
values it does not state (log entry 6). A step that uses one advances `State.free`. -/
opaque freeValue : (w : Nat) → Nat → BitVec w

/-- The check symbols of the Reef's RS(80,72) code over data, TALLY and attributes (R129): the spec names the code and not
its generator (log entry 14). -/
opaque reefParity : BitVec 576 → BitVec 64

/-- The JEDEC limit of postponed refreshes, which R208 names and the spec does not number. -/
opaque jedecPostpone : Nat

/-- The check bytes of LPDDR's RS(72,68) code over a stored data unit (R180); the spec names the code and not its generator
(log entry 27). -/
opaque lpParity : BitVec 544 → BitVec 32

/-- The per-bank refresh interval in ticks that an MR4 code requires (R207), and the banks of a channel: JEDEC's, which the
spec does not number. -/
opaque refreshTicks : (mr4 : Nat) → Nat
opaque lpBanks : Nat

/-- The hash by which a die chooses a next-hop link (R619): over the source agent, the destination die and the granule of
the address. The spec names what it covers and not the function (log entry 34). -/
opaque routeHash : (agent die granule : Nat) → Nat

/-- Sector n of the device-kernel image that Headland has verified (R381); the spec does not give its contents (log entry
63). -/
opaque deviceImage : Nat → BitVec 512

/-- What the spec leaves open of a COLL's arithmetic (R330): the element that SUM, MAX or MIN (op 0, 1, 2) gives for a type
and the members' elements, where the result is not an exact value of the type (log entry 70). -/
opaque collElem : (op type : Nat) → (xs : List Nat) → Nat

/-- The fp64 reference value of a sampled function (R440, R442) at an fp64 input, for GELU_TANH and the functions after it,
and for RELU of NaN: the spec names the functions and not their rounding (log entry 71). -/
opaque refFunc : (func : Nat) → BitVec 64 → BitVec 64

/-- AES-256-GCM (R587): sealing and opening under a key and nonce, with associated data; the spec names the standard
function (log entry 35). Opening answers none where the tag fails. -/
opaque gcmSeal : (key : BitVec 256) → (nonce : BitVec 96) → (aad : List Byte) → (text : List Byte) → List Byte × BitVec 128
opaque gcmOpen : (key : BitVec 256) → (nonce : BitVec 96) → (aad : List Byte) → (text : List Byte) → BitVec 128 → Option (List Byte)

/-- SHA-384 (R744, R745, R775, R830); the spec names the standard function (log entry 82). -/
opaque sha384 : (text : List Byte) → BitVec 384

/-- ECDSA P-384 (R743, R761, R774, R833): the signature of a key's owner over a text, and its verification under a public
key (log entry 82). -/
opaque ecdsaSign : (die : Nat) → (text : List Byte) → BitVec 768
opaque ecdsaVerify : (key : List Byte) → (text : List Byte) → (sig : BitVec 768) → Bool

/-- The alias public key that a die's chain carries (R744). -/
opaque aliasKey : (die : Nat) → List Byte

/-- The operator-key hash in OTP, none while it is unprogrammed (R775, R776). -/
opaque operatorHash : Option (BitVec 384)

/-- The identity hash of this die (R745). -/
opaque ownHash : BitVec 384

/-- The certificate chain of an SPDM slot (R744, R745) for a measurement of the Headland firmware (log entry 82). -/
opaque certChain : (slot : Nat) → (measurement : BitVec 384) → List Byte

/-- The GPIO pins that a firmware bundle uses as outputs (R906): the bundle assigns their functions. -/
opaque gpioOutputs : (bundle : Nat) → BitVec 8

/-- The product firmware key in OTP (R832) and the hashes of the four root keys (R828); the spec gives no values. -/
opaque firmwareKey : BitVec 256
opaque rootHash : Nat → BitVec 384

/-- PLAIN_HASH of a component's image as manufactured (R825; log entry 97). -/
opaque factoryHash : (component : Nat) → BitVec 384

end Sys2Proof.Config
end

