-- ==== Sys2Proof/Machine/Codes.lean ====
section
/-! DEFINITION. The numbers of the spec's codes: event codes and their default severities (19, R882), completion
statuses and refusal codes (07, R348; 06, R252). -/

namespace Sys2Proof.Machine

/-- Event GLB_NOTWYCLK (R882). -/
def Ev.GLB_NOTWYCLK : Nat := 0x0001
/-- Event GLB_TAKENOVER (R882). -/
def Ev.GLB_TAKENOVER : Nat := 0x0002
/-- Event GLB_RESETKEY (R882). -/
def Ev.GLB_RESETKEY : Nat := 0x0003
/-- Event SLOT_CONFLICT (R882). -/
def Ev.SLOT_CONFLICT : Nat := 0x0004
/-- Event MESH_BADFLIT (R882). -/
def Ev.MESH_BADFLIT : Nat := 0x0101
/-- Event MESH_CRC (R882). -/
def Ev.MESH_CRC : Nat := 0x0102
/-- Event MESH_TIMEOUT (R882). -/
def Ev.MESH_TIMEOUT : Nat := 0x0103
/-- Event MESH_LATE (R882). -/
def Ev.MESH_LATE : Nat := 0x0104
/-- Event ISTHMUS_WEAK (R882). -/
def Ev.ISTHMUS_WEAK : Nat := 0x0105
/-- Event ISTHMUS_DOWN (R882). -/
def Ev.ISTHMUS_DOWN : Nat := 0x0106
/-- Event RFB_HOLE (R882). -/
def Ev.RFB_HOLE : Nat := 0x0201
/-- Event RFB_LOCAL_RANGE (R882). -/
def Ev.RFB_LOCAL_RANGE : Nat := 0x0202
/-- Event RFB_SENSOR (R882). -/
def Ev.RFB_SENSOR : Nat := 0x0203
/-- Event RFB_ROWSPARE (R882). -/
def Ev.RFB_ROWSPARE : Nat := 0x0204
/-- Event RFB_SPARES_OUT (R882). -/
def Ev.RFB_SPARES_OUT : Nat := 0x0205
/-- Event RFB_UE (R882). -/
def Ev.RFB_UE : Nat := 0x0206
/-- Event RFB_TALLY (R882). -/
def Ev.RFB_TALLY : Nat := 0x0207
/-- Event RFB_BAR4 (R882). -/
def Ev.RFB_BAR4 : Nat := 0x0208
/-- Event RFB_ATOMIC (R882). -/
def Ev.RFB_ATOMIC : Nat := 0x0209
/-- Event MEM_CONFIG (R882). -/
def Ev.MEM_CONFIG : Nat := 0x0301
/-- Event MEM_TRAIN (R882). -/
def Ev.MEM_TRAIN : Nat := 0x0302
/-- Event MEM_CHDOWN (R882). -/
def Ev.MEM_CHDOWN : Nat := 0x0303
/-- Event MEM_RANGE (R882). -/
def Ev.MEM_RANGE : Nat := 0x0304
/-- Event MEM_KEYSEL (R882). -/
def Ev.MEM_KEYSEL : Nat := 0x0305
/-- Event MEM_ROTDONE (R882). -/
def Ev.MEM_ROTDONE : Nat := 0x0306
/-- Event MEM_CHWEAK (R882). -/
def Ev.MEM_CHWEAK : Nat := 0x0307
/-- Event MEM_HOT (R882). -/
def Ev.MEM_HOT : Nat := 0x0308
/-- Event MEM_WEAKROW (R882). -/
def Ev.MEM_WEAKROW : Nat := 0x0309
/-- Event MEM_UE (R882). -/
def Ev.MEM_UE : Nat := 0x030A
/-- Event MEM_TALLY (R882). -/
def Ev.MEM_TALLY : Nat := 0x030B
/-- Event XLT_NOCTX (R882). -/
def Ev.XLT_NOCTX : Nat := 0x0401
/-- Event XLT_VA (R882). -/
def Ev.XLT_VA : Nat := 0x0402
/-- Event XLT_NOSEG (R882). -/
def Ev.XLT_NOSEG : Nat := 0x0403
/-- Event XLT_SPAN (R882). -/
def Ev.XLT_SPAN : Nat := 0x0404
/-- Event XLT_PERM (R882). -/
def Ev.XLT_PERM : Nat := 0x0405
/-- Event XLT_PAGESIZE (R882). -/
def Ev.XLT_PAGESIZE : Nat := 0x0406
/-- Event XLT_ATS (R882). -/
def Ev.XLT_ATS : Nat := 0x0407
/-- Event XLT_PRI (R882). -/
def Ev.XLT_PRI : Nat := 0x0408
/-- Event XLT_PAHOLE (R882). -/
def Ev.XLT_PAHOLE : Nat := 0x0409
/-- Event XLT_NODIE (R882). -/
def Ev.XLT_NODIE : Nat := 0x040A
/-- Event XLT_GONE (R882). -/
def Ev.XLT_GONE : Nat := 0x040B
/-- Event XLT_INVABORT (R882). -/
def Ev.XLT_INVABORT : Nat := 0x040C
/-- Event XLT_REMOTE (R882). -/
def Ev.XLT_REMOTE : Nat := 0x040D
/-- Event XLT_HOST (R882). -/
def Ev.XLT_HOST : Nat := 0x040E
/-- Event XLT_PRIOFF (R882). -/
def Ev.XLT_PRIOFF : Nat := 0x040F
/-- Event XLT_INBOUND (R882). -/
def Ev.XLT_INBOUND : Nat := 0x0410
/-- Event XLT_INVBUSY (R882). -/
def Ev.XLT_INVBUSY : Nat := 0x0411
/-- Event TQ_OP (R882). -/
def Ev.TQ_OP : Nat := 0x0501
/-- Event TQ_FIELD (R882). -/
def Ev.TQ_FIELD : Nat := 0x0502
/-- Event TQ_BRANCH (R882). -/
def Ev.TQ_BRANCH : Nat := 0x0503
/-- Event TQ_LOOPREG (R882). -/
def Ev.TQ_LOOPREG : Nat := 0x0504
/-- Event TQ_PREFIX (R882). -/
def Ev.TQ_PREFIX : Nat := 0x0505
/-- Event TQ_CNTRANGE (R882). -/
def Ev.TQ_CNTRANGE : Nat := 0x0506
/-- Event TQ_OVERLAP (R882). -/
def Ev.TQ_OVERLAP : Nat := 0x0507
/-- Event TQ_REMOTEOP (R882). -/
def Ev.TQ_REMOTEOP : Nat := 0x0508
/-- Event TQ_STAGESIZE (R882). -/
def Ev.TQ_STAGESIZE : Nat := 0x0509
/-- Event TQ_OPNDSIZE (R882). -/
def Ev.TQ_OPNDSIZE : Nat := 0x050A
/-- Event TQ_BATCHSIZE (R882). -/
def Ev.TQ_BATCHSIZE : Nat := 0x050B
/-- Event TQ_DBDISABLED (R882). -/
def Ev.TQ_DBDISABLED : Nat := 0x050C
/-- Event TQ_DBOVF (R882). -/
def Ev.TQ_DBOVF : Nat := 0x050D
/-- Event TQ_DBSAME (R882). -/
def Ev.TQ_DBSAME : Nat := 0x050E
/-- Event BEAD_KFAULT (R882). -/
def Ev.BEAD_KFAULT : Nat := 0x0601
/-- Event BEAD_HWERR (R882). -/
def Ev.BEAD_HWERR : Nat := 0x0602
/-- Event BEAD_CORE_OFF (R882). -/
def Ev.BEAD_CORE_OFF : Nat := 0x0603
/-- Event TLY_TALLY (R882). -/
def Ev.TLY_TALLY : Nat := 0x0701
/-- Event TLY_DIGEST (R882). -/
def Ev.TLY_DIGEST : Nat := 0x0702
/-- Event TLY_FAIL (R882). -/
def Ev.TLY_FAIL : Nat := 0x0703
/-- Event TLY_UNCHECKED (R882). -/
def Ev.TLY_UNCHECKED : Nat := 0x0704
/-- Event HBL_UNMIRRORED (R882). -/
def Ev.HBL_UNMIRRORED : Nat := 0x0801
/-- Event HBL_REMIRRORED (R882). -/
def Ev.HBL_REMIRRORED : Nat := 0x0802
/-- Event HBL_TAKEOVER (R882). -/
def Ev.HBL_TAKEOVER : Nat := 0x0803
/-- Event HBL_CRC (R882). -/
def Ev.HBL_CRC : Nat := 0x0804
/-- Event HBL_STALEDEC (R882). -/
def Ev.HBL_STALEDEC : Nat := 0x0805
/-- Event HBL_TKWAIT (R882). -/
def Ev.HBL_TKWAIT : Nat := 0x0806
/-- Event SHL_ABSENT (R882). -/
def Ev.SHL_ABSENT : Nat := 0x0901
/-- Event SHL_VERSION (R882). -/
def Ev.SHL_VERSION : Nat := 0x0902
/-- Event SHL_BADSLOT (R882). -/
def Ev.SHL_BADSLOT : Nat := 0x0903
/-- Event SHL_RANGE (R882). -/
def Ev.SHL_RANGE : Nat := 0x0904
/-- Event SHL_TALLY (R882). -/
def Ev.SHL_TALLY : Nat := 0x0905
/-- Event SHL_DBRANGE (R882). -/
def Ev.SHL_DBRANGE : Nat := 0x0906
/-- Event SHL_NARROW (R882). -/
def Ev.SHL_NARROW : Nat := 0x0907
/-- Event SHL_TELEM (R882). -/
def Ev.SHL_TELEM : Nat := 0x0908
/-- Event SHL_DOWN (R882). -/
def Ev.SHL_DOWN : Nat := 0x0909
/-- Event SHL_CLASS (R882). -/
def Ev.SHL_CLASS : Nat := 0x090A
/-- Event TWY_ABSENT (R882). -/
def Ev.TWY_ABSENT : Nat := 0x0A01
/-- Event TWY_CONFIG (R882). -/
def Ev.TWY_CONFIG : Nat := 0x0A02
/-- Event TWY_BADMSG (R882). -/
def Ev.TWY_BADMSG : Nat := 0x0A03
/-- Event TWY_AUTH (R882). -/
def Ev.TWY_AUTH : Nat := 0x0A04
/-- Event TWY_WEAK (R882). -/
def Ev.TWY_WEAK : Nat := 0x0A05
/-- Event TWY_SPARED (R882). -/
def Ev.TWY_SPARED : Nat := 0x0A06
/-- Event TWY_SPAREFAIL (R882). -/
def Ev.TWY_SPAREFAIL : Nat := 0x0A07
/-- Event TWY_EBB (R882). -/
def Ev.TWY_EBB : Nat := 0x0A08
/-- Event TWY_DOWN (R882). -/
def Ev.TWY_DOWN : Nat := 0x0A09
/-- Event TWY_PAUSE_BEGIN (R882). -/
def Ev.TWY_PAUSE_BEGIN : Nat := 0x0A0A
/-- Event TWY_PAUSE_END (R882). -/
def Ev.TWY_PAUSE_END : Nat := 0x0A0B
/-- Event TWY_RATE (R882). -/
def Ev.TWY_RATE : Nat := 0x0A0C
/-- Event TWY_WIRING (R882). -/
def Ev.TWY_WIRING : Nat := 0x0A0D
/-- Event PCI_LINKSLOW (R882). -/
def Ev.PCI_LINKSLOW : Nat := 0x0B01
/-- Event PCI_LINKDOWN (R882). -/
def Ev.PCI_LINKDOWN : Nat := 0x0B02
/-- Event PCI_DBRANGE (R882). -/
def Ev.PCI_DBRANGE : Nat := 0x0B03
/-- Event PCI_VECOWN (R882). -/
def Ev.PCI_VECOWN : Nat := 0x0B04
/-- Event PCI_CPLTMO (R882). -/
def Ev.PCI_CPLTMO : Nat := 0x0B05
/-- Event PCI_POISONWR (R882). -/
def Ev.PCI_POISONWR : Nat := 0x0B06
/-- Event QOS_OVERSUB (R882). -/
def Ev.QOS_OVERSUB : Nat := 0x0C01
/-- Event QOS_GMISS (R882). -/
def Ev.QOS_GMISS : Nat := 0x0C02
/-- Event QOS_ISTHHOT (R882). -/
def Ev.QOS_ISTHHOT : Nat := 0x0C03
/-- Event BRK_PLL (R882). -/
def Ev.BRK_PLL : Nat := 0x0D01
/-- Event BRK_UV (R882). -/
def Ev.BRK_UV : Nat := 0x0D02
/-- Event BRK_TRIP (R882). -/
def Ev.BRK_TRIP : Nat := 0x0D03
/-- Event BRK_AVS (R882). -/
def Ev.BRK_AVS : Nat := 0x0D04
/-- Event BRK_RAILLIM (R882). -/
def Ev.BRK_RAILLIM : Nat := 0x0D05
/-- Event BRK_THROTTLE (R882). -/
def Ev.BRK_THROTTLE : Nat := 0x0D06
/-- Event BRK_CDPWR (R882). -/
def Ev.BRK_CDPWR : Nat := 0x0D07
/-- Event HLD_AUTH (R882). -/
def Ev.HLD_AUTH : Nat := 0x0E01
/-- Event HLD_DUPID (R882). -/
def Ev.HLD_DUPID : Nat := 0x0E02
/-- Event HLD_UNKNOWN (R882). -/
def Ev.HLD_UNKNOWN : Nat := 0x0E03
/-- Event STEWARD_CONFLICT (R882). -/
def Ev.STEWARD_CONFLICT : Nat := 0x0E04
/-- Event HLD_BADLEASE (R882). -/
def Ev.HLD_BADLEASE : Nat := 0x0E05
/-- Event HLD_MBXBUSY (R882). -/
def Ev.HLD_MBXBUSY : Nat := 0x0E06
/-- Event POLICY_CLAMP (R882). -/
def Ev.POLICY_CLAMP : Nat := 0x0F01
/-- Event POLICY_OVERRIDE (R882). -/
def Ev.POLICY_OVERRIDE : Nat := 0x0F02
/-- Event REG_ACCESS (R882). -/
def Ev.REG_ACCESS : Nat := 0x0F03
/-- Event REG_RSVD (R882). -/
def Ev.REG_RSVD : Nat := 0x0F04
/-- Event EVT_LOST (R882). -/
def Ev.EVT_LOST : Nat := 0x0F05
/-- Event FWU_ACTFAIL (R882). -/
def Ev.FWU_ACTFAIL : Nat := 0x1001
/-- Event FWU_HALT (R882). -/
def Ev.FWU_HALT : Nat := 0x1002
/-- Event FWU_SETDEFAULT (R882). -/
def Ev.FWU_SETDEFAULT : Nat := 0x1003
/-- Event FWU_BUSY (R882). -/
def Ev.FWU_BUSY : Nat := 0x1004

/-- The event codes of R882 with the severity the table gives: 0 NOTE, 1 DEGRADED, 2 CONTAINED, 3 FATAL. -/
def evTable : List (Nat × Nat) :=
  [(0x0001, 1), (0x0002, 1), (0x0003, 0), (0x0004, 2), (0x0101, 2), (0x0102, 2), (0x0103, 2), (0x0104, 0), (0x0105, 1), (0x0106, 3), (0x0201, 0), (0x0202, 0)] ++
  [(0x0203, 1), (0x0204, 1), (0x0205, 1), (0x0206, 2), (0x0207, 2), (0x0208, 0), (0x0209, 0), (0x0301, 3), (0x0302, 3), (0x0303, 3), (0x0304, 0), (0x0305, 2)] ++
  [(0x0306, 0), (0x0307, 1), (0x0308, 1), (0x0309, 1), (0x030A, 2), (0x030B, 2), (0x0401, 0), (0x0402, 0), (0x0403, 0), (0x0404, 0), (0x0405, 0), (0x0406, 0)] ++
  [(0x0407, 0), (0x0408, 0), (0x0409, 0), (0x040A, 0), (0x040B, 0), (0x040C, 2), (0x040D, 0), (0x040E, 0), (0x040F, 1), (0x0410, 2), (0x0411, 0), (0x0501, 0)] ++
  [(0x0502, 0), (0x0503, 0), (0x0504, 0), (0x0505, 0), (0x0506, 0), (0x0507, 0), (0x0508, 0), (0x0509, 0), (0x050A, 0), (0x050B, 0), (0x050C, 0), (0x050D, 2)] ++
  [(0x050E, 0), (0x0601, 0), (0x0602, 2), (0x0603, 1), (0x0701, 2), (0x0702, 2), (0x0703, 2), (0x0704, 0), (0x0801, 1), (0x0802, 0), (0x0803, 1), (0x0804, 3)] ++
  [(0x0805, 0), (0x0806, 1), (0x0901, 0), (0x0902, 2), (0x0903, 2), (0x0904, 2), (0x0905, 2), (0x0906, 2), (0x0907, 1), (0x0908, 1), (0x0909, 2), (0x090A, 0)] ++
  [(0x0A01, 0), (0x0A02, 2), (0x0A03, 2), (0x0A04, 2), (0x0A05, 1), (0x0A06, 1), (0x0A07, 1), (0x0A08, 1), (0x0A09, 1), (0x0A0A, 0), (0x0A0B, 0), (0x0A0C, 0)] ++
  [(0x0A0D, 0), (0x0B01, 1), (0x0B02, 1), (0x0B03, 0), (0x0B04, 0), (0x0B05, 2), (0x0B06, 2), (0x0C01, 0), (0x0C02, 1), (0x0C03, 0), (0x0D01, 3), (0x0D02, 3)] ++
  [(0x0D03, 3), (0x0D04, 1), (0x0D05, 1), (0x0D06, 1), (0x0D07, 1), (0x0E01, 2), (0x0E02, 2), (0x0E03, 2), (0x0E04, 2), (0x0E05, 0), (0x0E06, 0), (0x0F01, 0)] ++
  [(0x0F02, 0), (0x0F03, 0), (0x0F04, 0), (0x0F05, 1), (0x1001, 2), (0x1002, 2), (0x1003, 0), (0x1004, 0)]

/-- The severity of an event code, none for a reserved code (R882). -/
def evSev? (c : Nat) : Option Nat :=
  (evTable.find? (fun e => e.1 == c)).map (fun e => e.2)

/-- STATUS OK (R348). -/
def Status.OK : Nat := 0x0000
/-- STATUS TQ_SKIPPED (R348). -/
def Status.TQ_SKIPPED : Nat := 0x0001
/-- STATUS TQ_ABORTED (R348). -/
def Status.TQ_ABORTED : Nat := 0x0002
/-- STATUS TQ_WAITTMO (R348). -/
def Status.TQ_WAITTMO : Nat := 0x0003
/-- STATUS TQ_INDEX (R348). -/
def Status.TQ_INDEX : Nat := 0x0004
/-- STATUS TQ_KTIMEOUT (R348). -/
def Status.TQ_KTIMEOUT : Nat := 0x0005
/-- STATUS TQ_KFAULT (R348). -/
def Status.TQ_KFAULT : Nat := 0x0006
/-- STATUS TQ_COLLMISMATCH (R348). -/
def Status.TQ_COLLMISMATCH : Nat := 0x0007
/-- STATUS TQ_PEER (R348). -/
def Status.TQ_PEER : Nat := 0x0008
/-- STATUS TQ_RCNT (R348). -/
def Status.TQ_RCNT : Nat := 0x0009
/-- STATUS TQ_DIGEST (R348). -/
def Status.TQ_DIGEST : Nat := 0x000A
/-- STATUS TQ_POISON (R348). -/
def Status.TQ_POISON : Nat := 0x000B
/-- STATUS TQ_RECKFAIL (R348). -/
def Status.TQ_RECKFAIL : Nat := 0x000C
/-- STATUS TQ_COMPUTE (R348). -/
def Status.TQ_COMPUTE : Nat := 0x000D
/-- STATUS XLT_GONE (R348). -/
def Status.XLT_GONE : Nat := 0x0010
/-- STATUS XLT_INVABORT (R348). -/
def Status.XLT_INVABORT : Nat := 0x0011
/-- STATUS XLT_REMOTE (R348). -/
def Status.XLT_REMOTE : Nat := 0x0012
/-- STATUS XLT_HOST (R348). -/
def Status.XLT_HOST : Nat := 0x0013
/-- STATUS MESH_TIMEOUT (R348). -/
def Status.MESH_TIMEOUT : Nat := 0x0020
/-- STATUS MEM_KEYSEL (R348). -/
def Status.MEM_KEYSEL : Nat := 0x0021
/-- STATUS MEM_POISONED (R348). -/
def Status.MEM_POISONED : Nat := 0x0022
/-- STATUS MEM_RANGE (R348). -/
def Status.MEM_RANGE : Nat := 0x0023
/-- STATUS RFB_HOLE (R348). -/
def Status.RFB_HOLE : Nat := 0x0024
/-- STATUS RFB_LOCAL_RANGE (R348). -/
def Status.RFB_LOCAL_RANGE : Nat := 0x0025
/-- STATUS RFB_POISONED (R348). -/
def Status.RFB_POISONED : Nat := 0x0026
/-- STATUS RFB_ATOMIC (R348). -/
def Status.RFB_ATOMIC : Nat := 0x0027
/-- STATUS TLY_MISMATCH (R348). -/
def Status.TLY_MISMATCH : Nat := 0x0028
/-- STATUS TWY_BADMSG (R348). -/
def Status.TWY_BADMSG : Nat := 0x0029
/-- STATUS HBL_DIELOST (R501). -/
def Status.HBL_DIELOST : Nat := 0x0300
/-- STATUS SHL_RANGE (R523). -/
def Status.SHL_RANGE : Nat := 0x0400
/-- STATUS SHL_TALLY (R523). -/
def Status.SHL_TALLY : Nat := 0x0401
/-- STATUS SHL_CNTRANGE (R523). -/
def Status.SHL_CNTRANGE : Nat := 0x0402
/-- STATUS SHL_DBRANGE (R523). -/
def Status.SHL_DBRANGE : Nat := 0x0403
/-- STATUS SHL_BADSLOT (R523). -/
def Status.SHL_BADSLOT : Nat := 0x0404
/-- Refusal STATUS of TQ_OP (R348). -/
def Refuse.TQ_OP : Nat := 0x0100
/-- Refusal STATUS of TQ_FIELD (R348). -/
def Refuse.TQ_FIELD : Nat := 0x0101
/-- Refusal STATUS of TQ_BRANCH (R348). -/
def Refuse.TQ_BRANCH : Nat := 0x0102
/-- Refusal STATUS of TQ_LOOPREG (R348). -/
def Refuse.TQ_LOOPREG : Nat := 0x0103
/-- Refusal STATUS of TQ_PREFIX (R348). -/
def Refuse.TQ_PREFIX : Nat := 0x0104
/-- Refusal STATUS of TQ_CNTRANGE (R348). -/
def Refuse.TQ_CNTRANGE : Nat := 0x0105
/-- Refusal STATUS of TQ_OVERLAP (R348). -/
def Refuse.TQ_OVERLAP : Nat := 0x0106
/-- Refusal STATUS of TQ_REMOTEOP (R348). -/
def Refuse.TQ_REMOTEOP : Nat := 0x0107
/-- Refusal STATUS of TQ_STAGESIZE (R348). -/
def Refuse.TQ_STAGESIZE : Nat := 0x0108
/-- Refusal STATUS of TQ_OPNDSIZE (R348). -/
def Refuse.TQ_OPNDSIZE : Nat := 0x0109
/-- Refusal STATUS of TQ_BATCHSIZE (R348). -/
def Refuse.TQ_BATCHSIZE : Nat := 0x010A
/-- Refusal STATUS of XLT_NOCTX (R348). -/
def Refuse.XLT_NOCTX : Nat := 0x0200
/-- Refusal STATUS of XLT_VA (R348). -/
def Refuse.XLT_VA : Nat := 0x0201
/-- Refusal STATUS of XLT_NOSEG (R348). -/
def Refuse.XLT_NOSEG : Nat := 0x0202
/-- Refusal STATUS of XLT_SPAN (R348). -/
def Refuse.XLT_SPAN : Nat := 0x0203
/-- Refusal STATUS of XLT_PERM (R348). -/
def Refuse.XLT_PERM : Nat := 0x0204
/-- Refusal STATUS of XLT_PAGESIZE (R348). -/
def Refuse.XLT_PAGESIZE : Nat := 0x0205
/-- Refusal STATUS of XLT_ATS (R348). -/
def Refuse.XLT_ATS : Nat := 0x0206
/-- Refusal STATUS of XLT_PRI (R348). -/
def Refuse.XLT_PRI : Nat := 0x0207
/-- Refusal STATUS of XLT_PAHOLE (R348). -/
def Refuse.XLT_PAHOLE : Nat := 0x0208
/-- Refusal STATUS of XLT_NODIE (R348). -/
def Refuse.XLT_NODIE : Nat := 0x0209

/-- The event code of a refusal STATUS (R252, R348: refusal codes and their events stand in the same order). -/
def refuseEvent (st : Nat) : Nat :=
  if st < 0x200 then st - 0x100 + 0x0501 else st - 0x200 + 0x0401

end Sys2Proof.Machine
end

