-- ==== Sys2Proof/Machine/Map.lean ====
section
/-! DEFINITION. Sparse maps: sorted association lists that list no key at its default value (Word.lean). -/

namespace Sys2Proof.Machine

/-- The value of key `k`, or `d` where the map does not list it. -/
def mapGet {α : Type} (m : Map α) (k : Nat) (d : α) : α :=
  match m with
  | [] => d
  | (j, v) :: t => if j = k then v else mapGet t k d

/-- The value of key `k` if the map lists it. -/
def mapFind {α : Type} (m : Map α) (k : Nat) : Option α :=
  match m with
  | [] => none
  | (j, v) :: t => if j = k then some v else mapFind t k

/-- Lists key `k` with value `v`, in its place in the rising order. -/
def mapIns {α : Type} (m : Map α) (k : Nat) (v : α) : Map α :=
  match m with
  | [] => [(k, v)]
  | (j, w) :: t =>
    if k < j then (k, v) :: (j, w) :: t
    else if j = k then (k, v) :: t
    else (j, w) :: mapIns t k v

/-- Removes key `k`. -/
def mapDel {α : Type} (m : Map α) (k : Nat) : Map α :=
  m.filter (fun e => e.1 != k)

/-- Sets key `k` to `v` in a map whose unlisted keys read `d`: the canonical form keeps no entry equal to `d`. -/
def mapSet {α : Type} [DecidableEq α] (m : Map α) (k : Nat) (d v : α) : Map α :=
  if v = d then mapDel m k else mapIns m k v

/-- The canonical form: keys strictly rising. -/
def mapSorted {α : Type} (m : Map α) : Bool :=
  match m with
  | [] => true
  | [_] => true
  | (j, _) :: (k, w) :: t => decide (j < k) && mapSorted ((k, w) :: t)

/-- The canonical form of a map with defaults: keys strictly rising, and no entry at its default. -/
def mapWf {α : Type} [DecidableEq α] (m : Map α) (d : Nat → α) : Bool :=
  mapSorted m && m.all (fun e => decide (e.2 ≠ d e.1))

end Sys2Proof.Machine
end

