-- ==== Sys2Proof/Machine/Registers.lean ====
section
/-! DEFINITION. The register table of BAR0 (R5, R8, and the register tables that close chapters 03 to 19):
every register, where it stands, and every named field of it with its access code, its reset value and the
encodings its table does not mark reserved. Reserved (RSV) bits have no entry: they read 0 and ignore writes (R8).
The table is data; the operations that read and write registers are in Machine/Ops.lean. -/

namespace Sys2Proof.Machine

/-- The access codes of R8 (a bit in no field is RSV). -/
inductive Acc where
  | ro | rw | w1c | wo
  deriving DecidableEq, Repr

/-- The device registers by the names of the spec's register tables. `_LO` and `_HI` are two registers (R12).
A register that exists once per index is one constructor here and is read with that index. -/
inductive Reg where
  | MSH_ID
  | MSH_CTL
  | MSH_URGCAP
  | MSH_TMO
  | MSH_ISTHLIM
  | MSH_COVEAWAKE
  | MSH_CNTCLR
  | MSH_CRCERR
  | MSH_TMOCNT
  | MSH_URGHELD
  | MSH_ISTHWEAK_LO
  | MSH_ISTHWEAK_HI
  | MSH_ISTHS2N_LO
  | MSH_ISTHS2N_HI
  | MSH_ISTHN2S_LO
  | MSH_ISTHN2S_HI
  | MSH_ISTHBP_LO
  | MSH_ISTHBP_HI
  | MSH_SHAREWT
  | MSH_ISTHERR
  | MSH_WAKECNT
  | RFB_ID
  | RFB_PLACE
  | RFB_REFENV
  | RFB_SCRUB
  | RFB_BAR4CTL
  | RFB_CNTCLR
  | RFB_INJADDR
  | RFB_INJCTL
  | RFB_CECNT
  | RFB_UECNT
  | RFB_TALLYERR
  | RFB_SPARED
  | RFB_UEADDR
  | RFB_UEMARK
  | RFB_SCRUBPASS
  | RFB_CONFLICT_LO
  | RFB_CONFLICT_HI
  | RFB_REFWAIT_LO
  | RFB_REFWAIT_HI
  | RFB_REFSTAT
  | MEM_ID
  | MEM_CFG
  | MEM_CAP
  | MEM_SCRUB
  | MEM_RETRAIN
  | MEM_KEYSTAT
  | MEM_CNTCLR
  | MEM_CHUP_LO
  | MEM_CHUP_HI
  | MEM_UEADDR_LO
  | MEM_UEADDR_HI
  | MEM_ROTSTAT
  | MEM_CHSTAT
  | MEM_KEYMAP
  | XLT_ID
  | XLT_CTL
  | XLT_APERCTL
  | XLT_INVTMO
  | XLT_PRITMO
  | XLT_APERBASE_LO
  | XLT_APERBASE_HI
  | XLT_CTXCMD
  | XLT_CTXA
  | XLT_CTXB
  | XLT_CTXSTAT
  | XLT_CTXGEN
  | XLT_SEGCMD
  | XLT_SEGATTR
  | XLT_SEGSTART_LO
  | XLT_SEGSTART_HI
  | XLT_SEGLEN
  | XLT_SEGBASE_LO
  | XLT_SEGBASE_HI
  | XLT_SEGSTAT
  | XLT_INV
  | XLT_INVSTAT
  | XLT_CNTCLR
  | XLT_L1MISS
  | XLT_L2MISS
  | XLT_ATSREQ
  | XLT_PRIREQ
  | XLT_FAULTS
  | XLT_RETRANS
  | XLT_WINSRC
  | TQ_ID
  | TQ_CTL
  | TQ_WAITDEF
  | TQ_COLLTMO
  | TQ_KLIMIT
  | TQ_QCMD
  | TQ_QSTAT
  | TQ_GLBCNT
  | TQ_CNTCLR
  | TQ_REFUSED
  | TQ_DBOVF
  | TQ_ACCEPTED_LO
  | TQ_ACCEPTED_HI
  | TQ_QD
  | TQ_ENGSTAT
  | TQ_WINCNT
  | TQ_CNT_LO
  | TQ_CNT_HI
  | BEAD_ID
  | BEAD_CTL
  | BEAD_FAULT
  | BEAD_FAULTLOC
  | BEAD_FAULTQ
  | BEAD_FAULTPC
  | BEAD_FAULTADDR_LO
  | BEAD_FAULTADDR_HI
  | BEAD_FAULTASN_LO
  | BEAD_FAULTASN_HI
  | BEAD_CNTCLR
  | BEAD_FAULTS
  | BEAD_RETRIES
  | BEAD_LAUNCHES_LO
  | BEAD_LAUNCHES_HI
  | BEAD_AVAIL
  | BEAD_BUSY
  | TLY_ID
  | TLY_CTXCMD
  | TLY_CTXA
  | TLY_CTXSTAT
  | TLY_CNTCLR
  | TLY_PASS
  | TLY_FAIL
  | TLY_UNCHECKED
  | TLY_GAP
  | TLY_DIGERR
  | TLY_TALLYERR
  | TLY_RECKQ
  | TLY_LASTFAIL_LO
  | TLY_LASTFAIL_HI
  | TLY_LASTFAILQ
  | TLY_HOLD_LO
  | TLY_HOLD_HI
  | HBL_ID
  | HBL_CTL
  | HBL_TMO
  | HBL_PARTNER
  | HBL_CLIENTS
  | HBL_SPACE
  | HBL_TKCTL
  | HBL_TKHEAD
  | HBL_TKBASE_LO
  | HBL_TKBASE_HI
  | HBL_HEAD_LO
  | HBL_HEAD_HI
  | HBL_ACKED_LO
  | HBL_ACKED_HI
  | HBL_CNTCLR
  | HBL_UNMIRACC
  | HBL_RECOVER
  | HBL_TAKEOVER
  | HBL_DUPDROP
  | HBL_RESEND
  | HBL_INTERRUPT
  | HBL_HOLD
  | SHL_ID
  | SHL_CTL
  | SHL_CNTCLR
  | SHL_PCTL
  | SHL_PSTAT
  | SHL_CNTWIN
  | SHL_DBWIN
  | SHL_CRCERR
  | SHL_REPLAY
  | SHL_RETRAIN
  | SHL_TALLYERR
  | SHL_RANGEERR
  | SHL_TELEMA
  | SHL_TELEMB
  | SHL_RDSEC_LO
  | SHL_RDSEC_HI
  | SHL_WRSEC_LO
  | SHL_WRSEC_HI
  | SHL_BPCYC_LO
  | SHL_BPCYC_HI
  | SHL_CAP
  | SHL_WINA
  | SHL_WINB
  | TWY_ID
  | TWY_CTL
  | TWY_RATETH
  | TWY_CNTCLR
  | TWY_UP
  | TWY_LINKCTL
  | TWY_LINKCMD
  | TWY_STATUS
  | TWY_PEER
  | TWY_LANEMAP
  | TWY_LANEST
  | TWY_TEST
  | TWY_CLAMP
  | TWY_CLAMPDUR
  | TWY_CRCERR
  | TWY_REPLAY
  | TWY_UNCORR
  | TWY_AUTHERR
  | TWY_SKIP
  | TWY_CHANGES
  | TWY_TXFR_LO
  | TWY_TXFR_HI
  | TWY_NOCRD_LO
  | TWY_NOCRD_HI
  | TWY_LANEBER
  | TWY_LANEERR
  | TWY_ROUTEA
  | TWY_ROUTEB
  | PCI_ID
  | PCI_CTL
  | PCI_LINK
  | PCI_CNTCLR
  | PCI_CPLTMO
  | PCI_POISRX
  | PCI_DBDROP
  | PCI_DMARD_LO
  | PCI_DMARD_HI
  | PCI_DMAWR_LO
  | PCI_DMAWR_HI
  | PCI_NOCRD_LO
  | PCI_NOCRD_HI
  | PCI_VFQ
  | PCI_VFWIN
  | PCI_SELFQ
  | PCI_SELFWIN
  | QOS_ID
  | QOS_CTL
  | QOS_SEL
  | QOS_WAKEHOLD
  | QOS_PACE
  | QOS_STATUS
  | QOS_CLAMPIRQ
  | QOS_CNTCLR
  | QOS_CLAMPST
  | QOS_CLAMPDUR
  | QOS_ISTHUSE
  | QOS_MARKA
  | QOS_MARKB
  | QOS_RANGELO
  | QOS_RANGEHI
  | QOS_RANGEC
  | QOS_TOKA
  | QOS_TOKB
  | QOS_MISS
  | QOS_MISSOVR
  | BRK_ID
  | BRK_PSCTL
  | BRK_PSSTAT
  | BRK_AVFSENV
  | BRK_COVECTL
  | BRK_DROOP
  | BRK_THERM
  | BRK_PLACEENV
  | BRK_CLAMPIRQ
  | BRK_CLAMPST
  | BRK_ASMLIM
  | BRK_CNTCLR
  | BRK_OVERRIDES
  | BRK_THRCNT
  | BRK_CLAMPDUR
  | BRK_RAILCFG
  | BRK_RAILSTAT
  | BRK_RAILLIM
  | BRK_COVESTAT
  | BRK_DROOPCNT
  | BRK_ISAMP
  | BRK_ENERGY_LO
  | BRK_ENERGY_HI
  | BRK_TEMP
  | BRK_CDLIM
  | HLD_ID
  | HLD_CTL
  | HLD_CMD
  | HLD_STAT
  | HLD_ROLE
  | HLD_EPOCH
  | HLD_ROOTGEN
  | HLD_CNTCLR
  | HLD_CONFLICTS
  | HLD_BADLEASE
  | HLD_QUAR
  | HLD_MEMBERS
  | HLD_ARG
  | HLD_RSP
  | HLD_SLOTST
  | HLD_BUF
  | GLB_ID
  | GLB_FWVER
  | GLB_STATUS
  | GLB_STRAP
  | GLB_DIE
  | GLB_CTL
  | GLB_RESET
  | GLB_RSTCAUSE
  | GLB_FAILCODE
  | GLB_PHASET
  | FWU_ID
  | FWU_CMD
  | FWU_STAT
  | FWU_ARG
  | FWU_OFFSET
  | FWU_LEN
  | FWU_ACTCTL
  | FWU_ACTST
  | FWU_ROOT
  | FWU_SVN
  | FWU_RECOV
  | FWU_RUNBUNDLE
  | FWU_STGBUNDLE
  | FWU_COMPST
  | FWU_WIN
  | EVT_ID
  | EVT_CTL
  | EVT_STAT
  | EVT_HEAD
  | EVT_TAIL
  | EVT_LOST
  | EVT_CNTCLR
  | EVT_INJ
  | EVT_SEVCNT
  | EVT_PVEC
  | EVT_PEND
  | EVT_REC
  deriving DecidableEq, Repr

/-- A field of a register: its lowest bit, its width, its access code, its reset value, the values its table
allows (`lo` to `hi` in steps of `step`; others are reserved encodings, R11), and whether a write of it is a
step of the opcode table with a row of its own. -/
structure Fld where
  reg : Reg
  bit : Nat
  width : Nat
  acc : Acc
  reset : Nat := 0
  lo : Nat := 0
  hi : Nat := 2 ^ width - 1
  step : Nat := 1
  ownRow : Bool := false
  deriving DecidableEq, Repr

/-- MSH_ID.COLS (03, R126): Columns: 48. -/
def F.MSH_ID.COLS : Fld := { reg := .MSH_ID, bit := 0, width := 8, acc := .ro, reset := 48 }
/-- MSH_ID.ROWS (03, R126): Rows: 32. -/
def F.MSH_ID.ROWS : Fld := { reg := .MSH_ID, bit := 8, width := 8, acc := .ro, reset := 32 }
/-- MSH_ID.COVES (03, R126): Coves: 16. -/
def F.MSH_ID.COVES : Fld := { reg := .MSH_ID, bit := 16, width := 8, acc := .ro, reset := 16 }
/-- MSH_CTL.STRIDE_EN (03, R126): Two-hop straight crossing under R95. -/
def F.MSH_CTL.STRIDE_EN : Fld := { reg := .MSH_CTL, bit := 0, width := 1, acc := .rw, reset := 1 }
/-- MSH_CTL.STARVE_N (03, R126): Grants before a request flit is served under R88, 1–15; 0 reserved. -/
def F.MSH_CTL.STARVE_N : Fld := { reg := .MSH_CTL, bit := 4, width := 4, acc := .rw, reset := 7, lo := 1 }
/-- MSH_URGCAP.INTERVAL (03, R126): Cycles between urgent flits per source, 64–1,023; 0–63 reserved. -/
def F.MSH_URGCAP.INTERVAL : Fld := { reg := .MSH_URGCAP, bit := 0, width := 10, acc := .rw, reset := 64, lo := 64 }
/-- MSH_TMO.TMO_US (03, R126): Request timeout in µs under R118 and R121, 1–1,000; 0 and 1,001–1,023 reserved. -/
def F.MSH_TMO.TMO_US : Fld := { reg := .MSH_TMO, bit := 0, width := 10, acc := .rw, reset := 500, lo := 1, hi := 1000 }
/-- MSH_ISTHLIM.DEGRADE_LIM (03, R126): Errors per second per crossing that post ISTHMUS_WEAK. -/
def F.MSH_ISTHLIM.DEGRADE_LIM : Fld := { reg := .MSH_ISTHLIM, bit := 0, width := 16, acc := .rw, reset := 16 }
/-- MSH_ISTHLIM.DOWN_LIM (03, R126): Errors per second per crossing that post ISTHMUS_DOWN. -/
def F.MSH_ISTHLIM.DOWN_LIM : Fld := { reg := .MSH_ISTHLIM, bit := 16, width := 16, acc := .rw, reset := 4096 }
/-- MSH_COVEAWAKE.AWAKE (03, R126): Bit c is 1 while cove c is awake. -/
def F.MSH_COVEAWAKE.AWAKE : Fld := { reg := .MSH_COVEAWAKE, bit := 0, width := 16, acc := .ro }
/-- MSH_CNTCLR.CLR (03, R126): Writing 1 zeroes MSH_CRCERR, MSH_TMOCNT, MSH_URGHELD, MSH_ISTHERR, MSH_WAKECNT and the 64-bit counters. -/
def F.MSH_CNTCLR.CLR : Fld := { reg := .MSH_CNTCLR, bit := 0, width := 1, acc := .wo, ownRow := true }
/-- MSH_CRCERR.COUNT (03, R126): Flits discarded under R117; saturates. -/
def F.MSH_CRCERR.COUNT : Fld := { reg := .MSH_CRCERR, bit := 0, width := 32, acc := .ro }
/-- MSH_TMOCNT.COUNT (03, R126): Requests timed out under R118; saturates. -/
def F.MSH_TMOCNT.COUNT : Fld := { reg := .MSH_TMOCNT, bit := 0, width := 32, acc := .ro }
/-- MSH_URGHELD.COUNT (03, R126): Urgent flits held by the cap; saturates. -/
def F.MSH_URGHELD.COUNT : Fld := { reg := .MSH_URGHELD, bit := 0, width := 32, acc := .ro }
/-- MSH_ISTHWEAK_LO.WEAK (03, R126): Bit x is 1 for a weak crossing at column x, x = 0–31. -/
def F.MSH_ISTHWEAK_LO.WEAK : Fld := { reg := .MSH_ISTHWEAK_LO, bit := 0, width := 32, acc := .ro }
/-- MSH_ISTHWEAK_HI.WEAK (03, R126): Bit x - 32 is 1 for a weak crossing at column x, x = 32–47. -/
def F.MSH_ISTHWEAK_HI.WEAK : Fld := { reg := .MSH_ISTHWEAK_HI, bit := 0, width := 16, acc := .ro }
/-- MSH_ISTHS2N_LO.FLITS (03, R126): Flits crossed South to North; 64-bit count. -/
def F.MSH_ISTHS2N_LO.FLITS : Fld := { reg := .MSH_ISTHS2N_LO, bit := 0, width := 32, acc := .ro }
/-- MSH_ISTHS2N_HI.FLITS (03, R126): Flits crossed South to North; 64-bit count. -/
def F.MSH_ISTHS2N_HI.FLITS : Fld := { reg := .MSH_ISTHS2N_HI, bit := 0, width := 32, acc := .ro }
/-- MSH_ISTHN2S_LO.FLITS (03, R126): Flits crossed North to South; 64-bit count. -/
def F.MSH_ISTHN2S_LO.FLITS : Fld := { reg := .MSH_ISTHN2S_LO, bit := 0, width := 32, acc := .ro }
/-- MSH_ISTHN2S_HI.FLITS (03, R126): Flits crossed North to South; 64-bit count. -/
def F.MSH_ISTHN2S_HI.FLITS : Fld := { reg := .MSH_ISTHN2S_HI, bit := 0, width := 32, acc := .ro }
/-- MSH_ISTHBP_LO.CYCLES (03, R126): Crossing-cycles with a response flit held for lack of credit; 64-bit count. -/
def F.MSH_ISTHBP_LO.CYCLES : Fld := { reg := .MSH_ISTHBP_LO, bit := 0, width := 32, acc := .ro }
/-- MSH_ISTHBP_HI.CYCLES (03, R126): Crossing-cycles with a response flit held for lack of credit; 64-bit count. -/
def F.MSH_ISTHBP_HI.CYCLES : Fld := { reg := .MSH_ISTHBP_HI, bit := 0, width := 32, acc := .ro }
/-- MSH_SHAREWT.WEIGHT (03, R126): Weight of share class n, 1–255; 0 reserved. -/
def F.MSH_SHAREWT.WEIGHT : Fld := { reg := .MSH_SHAREWT, bit := 0, width := 8, acc := .rw, reset := 16, lo := 1 }
/-- MSH_ISTHERR.S2N (03, R126): Errors South to North at column x; saturates. -/
def F.MSH_ISTHERR.S2N : Fld := { reg := .MSH_ISTHERR, bit := 0, width := 16, acc := .ro }
/-- MSH_ISTHERR.N2S (03, R126): Errors North to South at column x; saturates. -/
def F.MSH_ISTHERR.N2S : Fld := { reg := .MSH_ISTHERR, bit := 16, width := 16, acc := .ro }
/-- MSH_WAKECNT.COUNT (03, R126): Wakes of cove c caused by flits; saturates. -/
def F.MSH_WAKECNT.COUNT : Fld := { reg := .MSH_WAKECNT, bit := 0, width := 32, acc := .ro }
/-- RFB_ID.BANKS (04, R172): Banks per tile. -/
def F.RFB_ID.BANKS : Fld := { reg := .RFB_ID, bit := 0, width := 8, acc := .ro, reset := 8 }
/-- RFB_ID.SECTOR (04, R172): Sector bytes. -/
def F.RFB_ID.SECTOR : Fld := { reg := .RFB_ID, bit := 8, width := 8, acc := .ro, reset := 64 }
/-- RFB_ID.META (04, R172): Metadata bytes per sector. -/
def F.RFB_ID.META : Fld := { reg := .RFB_ID, bit := 16, width := 8, acc := .ro, reset := 16 }
/-- RFB_PLACE.LOCAL_SLOTS (04, R172): L under R137; values not a multiple of 16, or above 512, reserved. -/
def F.RFB_PLACE.LOCAL_SLOTS : Fld := { reg := .RFB_PLACE, bit := 0, width := 10, acc := .rw, hi := 512, step := 16 }
/-- RFB_REFENV.MIN_BAND (04, R172): Lowest band run, 0–3. -/
def F.RFB_REFENV.MIN_BAND : Fld := { reg := .RFB_REFENV, bit := 0, width := 2, acc := .rw }
/-- RFB_REFENV.MAX_BAND (04, R172): Envelope top, overridden under R153. -/
def F.RFB_REFENV.MAX_BAND : Fld := { reg := .RFB_REFENV, bit := 2, width := 2, acc := .rw, reset := 3 }
/-- RFB_SCRUB.PERIOD_MS (04, R172): Scrub pass period in ms, 16–65,535; 0–15 reserved. -/
def F.RFB_SCRUB.PERIOD_MS : Fld := { reg := .RFB_SCRUB, bit := 0, width := 16, acc := .rw, reset := 1000, lo := 16 }
/-- RFB_BAR4CTL.EN (04, R172): BAR4 window enabled. -/
def F.RFB_BAR4CTL.EN : Fld := { reg := .RFB_BAR4CTL, bit := 0, width := 1, acc := .rw }
/-- RFB_CNTCLR.CLR (04, R172): Writing 1 zeroes RFB_CECNT, RFB_UECNT, RFB_TALLYERR, RFB_SCRUBPASS, RFB_CONFLICT and RFB_REFWAIT. -/
def F.RFB_CNTCLR.CLR : Fld := { reg := .RFB_CNTCLR, bit := 0, width := 1, acc := .wo, ownRow := true }
/-- RFB_INJADDR.ADDR (04, R172): Sector address for error injection. -/
def F.RFB_INJADDR.ADDR : Fld := { reg := .RFB_INJADDR, bit := 6, width := 26, acc := .rw }
/-- RFB_INJCTL.BYTES (04, R172): Bytes corrupted in the stored codeword, 1–8; 0 disables; 9–15 reserved. -/
def F.RFB_INJCTL.BYTES : Fld := { reg := .RFB_INJCTL, bit := 0, width := 4, acc := .rw, hi := 8 }
/-- RFB_INJCTL.VIEW (04, R172): 0 hashed view, 1 local view, for RFB_INJADDR. -/
def F.RFB_INJCTL.VIEW : Fld := { reg := .RFB_INJCTL, bit := 4, width := 1, acc := .rw }
/-- RFB_INJCTL.ARM (04, R172): Writing 1 arms injection on the next write to the addressed sector. -/
def F.RFB_INJCTL.ARM : Fld := { reg := .RFB_INJCTL, bit := 8, width := 1, acc := .wo, ownRow := true }
/-- RFB_INJCTL.ARMED (04, R172): Injection armed and not yet applied. -/
def F.RFB_INJCTL.ARMED : Fld := { reg := .RFB_INJCTL, bit := 9, width := 1, acc := .ro }
/-- RFB_CECNT.COUNT (04, R172): Corrections; saturates. -/
def F.RFB_CECNT.COUNT : Fld := { reg := .RFB_CECNT, bit := 0, width := 32, acc := .ro }
/-- RFB_UECNT.COUNT (04, R172): Uncorrectable sectors; saturates. -/
def F.RFB_UECNT.COUNT : Fld := { reg := .RFB_UECNT, bit := 0, width := 32, acc := .ro }
/-- RFB_TALLYERR.COUNT (04, R172): Scrub tally mismatches; saturates. -/
def F.RFB_TALLYERR.COUNT : Fld := { reg := .RFB_TALLYERR, bit := 0, width := 32, acc := .ro }
/-- RFB_SPARED.ROWS (04, R172): Rows remapped since cold reset. -/
def F.RFB_SPARED.ROWS : Fld := { reg := .RFB_SPARED, bit := 0, width := 16, acc := .ro }
/-- RFB_UEADDR.VIEW (04, R172): View of the last address recorded under R160. -/
def F.RFB_UEADDR.VIEW : Fld := { reg := .RFB_UEADDR, bit := 0, width := 1, acc := .ro }
/-- RFB_UEADDR.ADDR (04, R172): Sector address of the last uncorrectable error. -/
def F.RFB_UEADDR.ADDR : Fld := { reg := .RFB_UEADDR, bit := 6, width := 26, acc := .ro }
/-- RFB_UEMARK.MARK (04, R172): MARK metadata of that sector. -/
def F.RFB_UEMARK.MARK : Fld := { reg := .RFB_UEMARK, bit := 0, width := 16, acc := .ro }
/-- RFB_SCRUBPASS.COUNT (04, R172): Completed die-wide scrub passes; saturates. -/
def F.RFB_SCRUBPASS.COUNT : Fld := { reg := .RFB_SCRUBPASS, bit := 0, width := 32, acc := .ro }
/-- RFB_CONFLICT_LO.CYCLES (04, R172): Access-cycles lost to bank conflicts; 64-bit count. -/
def F.RFB_CONFLICT_LO.CYCLES : Fld := { reg := .RFB_CONFLICT_LO, bit := 0, width := 32, acc := .ro }
/-- RFB_CONFLICT_HI.CYCLES (04, R172): Access-cycles lost to bank conflicts; 64-bit count. -/
def F.RFB_CONFLICT_HI.CYCLES : Fld := { reg := .RFB_CONFLICT_HI, bit := 0, width := 32, acc := .ro }
/-- RFB_REFWAIT_LO.CYCLES (04, R172): Access-cycles lost waiting on refresh; 64-bit count. -/
def F.RFB_REFWAIT_LO.CYCLES : Fld := { reg := .RFB_REFWAIT_LO, bit := 0, width := 32, acc := .ro }
/-- RFB_REFWAIT_HI.CYCLES (04, R172): Access-cycles lost waiting on refresh; 64-bit count. -/
def F.RFB_REFWAIT_HI.CYCLES : Fld := { reg := .RFB_REFWAIT_HI, bit := 0, width := 32, acc := .ro }
/-- RFB_REFSTAT.BAND (04, R172): Band in force in cove c. -/
def F.RFB_REFSTAT.BAND : Fld := { reg := .RFB_REFSTAT, bit := 0, width := 2, acc := .ro, reset := 2 }
/-- RFB_REFSTAT.OVERRIDE (04, R172): Band above MAX_BAND under R153. -/
def F.RFB_REFSTAT.OVERRIDE : Fld := { reg := .RFB_REFSTAT, bit := 2, width := 1, acc := .ro }
/-- RFB_REFSTAT.SENSFAIL (04, R172): A sensor of cove c has failed. -/
def F.RFB_REFSTAT.SENSFAIL : Fld := { reg := .RFB_REFSTAT, bit := 3, width := 1, acc := .ro }
/-- RFB_REFSTAT.TEMP (04, R172): Hottest sensor reading in °C; saturates at 255. -/
def F.RFB_REFSTAT.TEMP : Fld := { reg := .RFB_REFSTAT, bit := 8, width := 8, acc := .ro }
/-- MEM_ID.CTRLS (05, R220): Controllers. -/
def F.MEM_ID.CTRLS : Fld := { reg := .MEM_ID, bit := 0, width := 8, acc := .ro, reset := 12 }
/-- MEM_ID.CHANS (05, R220): Channels. -/
def F.MEM_ID.CHANS : Fld := { reg := .MEM_ID, bit := 8, width := 8, acc := .ro, reset := 48 }
/-- MEM_CFG.RATE (05, R220): Data rate under R174; kept through cold reset under R175. -/
def F.MEM_CFG.RATE : Fld := { reg := .MEM_CFG, bit := 0, width := 2, acc := .rw, reset := 3, ownRow := true }
/-- MEM_CFG.DENSITY (05, R220): Trained channel density: 0 is 2 GiB, 1 is 4 GiB, 2 is 8 GiB; 3 is not reported. -/
def F.MEM_CFG.DENSITY : Fld := { reg := .MEM_CFG, bit := 2, width := 2, acc := .ro }
/-- MEM_CFG.RANKS2 (05, R220): Two ranks per channel. -/
def F.MEM_CFG.RANKS2 : Fld := { reg := .MEM_CFG, bit := 4, width := 1, acc := .ro }
/-- MEM_CAP.UNITS (05, R220): Usable capacity in 4 KiB units, 6S. -/
def F.MEM_CAP.UNITS : Fld := { reg := .MEM_CAP, bit := 0, width := 28, acc := .ro }
/-- MEM_SCRUB.PERIOD_H (05, R220): Scrub period in hours, 1–255; 0 reserved. -/
def F.MEM_SCRUB.PERIOD_H : Fld := { reg := .MEM_SCRUB, bit := 0, width := 8, acc := .rw, reset := 12, lo := 1 }
/-- MEM_RETRAIN.PERIOD_MS (05, R220): Oscillator read interval in ms, 10–1,000; other values reserved. -/
def F.MEM_RETRAIN.PERIOD_MS : Fld := { reg := .MEM_RETRAIN, bit := 0, width := 10, acc := .rw, reset := 100, lo := 10, hi := 1000 }
/-- MEM_RETRAIN.DRIFT_PS (05, R220): Drift limit in ps, 2–100; other values reserved. -/
def F.MEM_RETRAIN.DRIFT_PS : Fld := { reg := .MEM_RETRAIN, bit := 10, width := 10, acc := .rw, reset := 8, lo := 2, hi := 100 }
/-- MEM_RETRAIN.CE_LIM (05, R220): Corrections per second per channel that trigger R204; 0 reserved. -/
def F.MEM_RETRAIN.CE_LIM : Fld := { reg := .MEM_RETRAIN, bit := 20, width := 12, acc := .rw, reset := 256, lo := 1 }
/-- MEM_KEYSTAT.FILLING (05, R220): A zero fill under R192 is in progress. -/
def F.MEM_KEYSTAT.FILLING : Fld := { reg := .MEM_KEYSTAT, bit := 0, width := 1, acc := .ro }
/-- MEM_CNTCLR.CLR (05, R220): Writing 1 zeroes the CE and RETRAINS fields of every MEM_CHSTAT#n. -/
def F.MEM_CNTCLR.CLR : Fld := { reg := .MEM_CNTCLR, bit := 0, width := 1, acc := .wo, ownRow := true }
/-- MEM_CHUP_LO.UP (05, R220): Bit n is 1 while channel n is trained and serving; _HI bits [31:16] RSV. -/
def F.MEM_CHUP_LO.UP : Fld := { reg := .MEM_CHUP_LO, bit := 0, width := 32, acc := .ro }
/-- MEM_CHUP_HI.UP (05, R220): Bit n is 1 while channel n is trained and serving; _HI bits [31:16] RSV. -/
def F.MEM_CHUP_HI.UP : Fld := { reg := .MEM_CHUP_HI, bit := 0, width := 16, acc := .ro }
/-- MEM_UEADDR_LO.D (05, R220): LPDDR offset of the last error under R216. -/
def F.MEM_UEADDR_LO.D : Fld := { reg := .MEM_UEADDR_LO, bit := 0, width := 32, acc := .ro }
/-- MEM_UEADDR_HI.D (05, R220): LPDDR offset of the last error under R216. -/
def F.MEM_UEADDR_HI.D : Fld := { reg := .MEM_UEADDR_HI, bit := 0, width := 32, acc := .ro }
/-- MEM_ROTSTAT.PENDING (05, R220): Regions of slot s awaiting rotation. -/
def F.MEM_ROTSTAT.PENDING : Fld := { reg := .MEM_ROTSTAT, bit := 0, width := 13, acc := .ro }
/-- MEM_ROTSTAT.CURGEN (05, R220): Current generation of slot s. -/
def F.MEM_ROTSTAT.CURGEN : Fld := { reg := .MEM_ROTSTAT, bit := 13, width := 1, acc := .ro }
/-- MEM_CHSTAT.CE (05, R220): Corrections on channel n; saturates. -/
def F.MEM_CHSTAT.CE : Fld := { reg := .MEM_CHSTAT, bit := 0, width := 16, acc := .ro }
/-- MEM_CHSTAT.RETRAINS (05, R220): Retrainings under R204; saturates. -/
def F.MEM_CHSTAT.RETRAINS : Fld := { reg := .MEM_CHSTAT, bit := 16, width := 8, acc := .ro }
/-- MEM_CHSTAT.MR4 (05, R220): Last MR4 refresh-rate code. -/
def F.MEM_CHSTAT.MR4 : Fld := { reg := .MEM_CHSTAT, bit := 24, width := 3, acc := .ro }
/-- MEM_CHSTAT.HOT (05, R220): Half-bandwidth limit of R210 in force. -/
def F.MEM_CHSTAT.HOT : Fld := { reg := .MEM_CHSTAT, bit := 27, width := 1, acc := .ro }
/-- MEM_KEYMAP.SEL0 (05, R220): Key selector of region 4i + 0. -/
def F.MEM_KEYMAP.SEL0 : Fld := { reg := .MEM_KEYMAP, bit := 0, width := 6, acc := .rw, ownRow := true }
/-- MEM_KEYMAP.SEL1 (05, R220): Key selector of region 4i + 1. -/
def F.MEM_KEYMAP.SEL1 : Fld := { reg := .MEM_KEYMAP, bit := 8, width := 6, acc := .rw, ownRow := true }
/-- MEM_KEYMAP.SEL2 (05, R220): Key selector of region 4i + 2. -/
def F.MEM_KEYMAP.SEL2 : Fld := { reg := .MEM_KEYMAP, bit := 16, width := 6, acc := .rw, ownRow := true }
/-- MEM_KEYMAP.SEL3 (05, R220): Key selector of region 4i + 3. -/
def F.MEM_KEYMAP.SEL3 : Fld := { reg := .MEM_KEYMAP, bit := 24, width := 6, acc := .rw, ownRow := true }
/-- MEM_KEYMAP.VALID0 (05, R220): Valid bit of region 4i + 0. -/
def F.MEM_KEYMAP.VALID0 : Fld := { reg := .MEM_KEYMAP, bit := 7, width := 1, acc := .rw, ownRow := true }
/-- MEM_KEYMAP.VALID1 (05, R220): Valid bit of region 4i + 1. -/
def F.MEM_KEYMAP.VALID1 : Fld := { reg := .MEM_KEYMAP, bit := 15, width := 1, acc := .rw, ownRow := true }
/-- MEM_KEYMAP.VALID2 (05, R220): Valid bit of region 4i + 2. -/
def F.MEM_KEYMAP.VALID2 : Fld := { reg := .MEM_KEYMAP, bit := 23, width := 1, acc := .rw, ownRow := true }
/-- MEM_KEYMAP.VALID3 (05, R220): Valid bit of region 4i + 3. -/
def F.MEM_KEYMAP.VALID3 : Fld := { reg := .MEM_KEYMAP, bit := 31, width := 1, acc := .rw, ownRow := true }
/-- XLT_ID.SEGS (06, R277): Segments per context. -/
def F.XLT_ID.SEGS : Fld := { reg := .XLT_ID, bit := 0, width := 8, acc := .ro, reset := 16 }
/-- XLT_ID.L1 (06, R277): First-level entries per engine. -/
def F.XLT_ID.L1 : Fld := { reg := .XLT_ID, bit := 8, width := 8, acc := .ro, reset := 16 }
/-- XLT_ID.WINDOWS (06, R277): Inbound windows. -/
def F.XLT_ID.WINDOWS : Fld := { reg := .XLT_ID, bit := 16, width := 8, acc := .ro, reset := 64 }
/-- XLT_ID.L2K (06, R277): Second-level entries per half, in units of 1,024. -/
def F.XLT_ID.L2K : Fld := { reg := .XLT_ID, bit := 24, width := 8, acc := .ro, reset := 2 }
/-- XLT_CTL.INB_GLOBAL (06, R277): Inbound global-mode accesses admitted under R268. -/
def F.XLT_CTL.INB_GLOBAL : Fld := { reg := .XLT_CTL, bit := 0, width := 1, acc := .rw }
/-- XLT_APERCTL.DIES (06, R277): Aperture size in units of 2^47 bytes, 0–32; 0 disables; 33–63 reserved. -/
def F.XLT_APERCTL.DIES : Fld := { reg := .XLT_APERCTL, bit := 0, width := 6, acc := .rw, hi := 32 }
/-- XLT_INVTMO.MS (06, R277): Invalidation timeout in ms, 1–60,000; 0 and above 60,000 reserved. -/
def F.XLT_INVTMO.MS : Fld := { reg := .XLT_INVTMO, bit := 0, width := 16, acc := .rw, reset := 100, lo := 1, hi := 60000 }
/-- XLT_PRITMO.MS (06, R277): Page-request timeout in ms, 1–60,000; 0 and above 60,000 reserved. -/
def F.XLT_PRITMO.MS : Fld := { reg := .XLT_PRITMO, bit := 0, width := 16, acc := .rw, reset := 10000, lo := 1, hi := 60000 }
/-- XLT_APERBASE_LO.BASE (06, R277): Aperture base bits [31:15]; must be 0 below bit 47. -/
def F.XLT_APERBASE_LO.BASE : Fld := { reg := .XLT_APERBASE_LO, bit := 15, width := 17, acc := .rw, ownRow := true }
/-- XLT_APERBASE_HI.BASE (06, R277): Aperture base bits [63:32]. -/
def F.XLT_APERBASE_HI.BASE : Fld := { reg := .XLT_APERBASE_HI, bit := 0, width := 32, acc := .rw, ownRow := true }
/-- XLT_CTXCMD.ASID (06, R277): Context to act on. -/
def F.XLT_CTXCMD.ASID : Fld := { reg := .XLT_CTXCMD, bit := 0, width := 16, acc := .wo, ownRow := true }
/-- XLT_CTXCMD.OP (06, R277): 1 bind, 2 read, 3 unbind; 0 reserved. -/
def F.XLT_CTXCMD.OP : Fld := { reg := .XLT_CTXCMD, bit := 16, width := 2, acc := .wo, lo := 1, ownRow := true }
/-- XLT_CTXA.PASID (06, R277): PASID; ignored for window contexts. -/
def F.XLT_CTXA.PASID : Fld := { reg := .XLT_CTXA, bit := 0, width := 20, acc := .rw }
/-- XLT_CTXA.FUNC (06, R277): 0 physical function; 1–31 virtual function. -/
def F.XLT_CTXA.FUNC : Fld := { reg := .XLT_CTXA, bit := 20, width := 5, acc := .rw }
/-- XLT_CTXA.MODE (06, R277): 0 reach, 1 shared-table; window contexts must use 0. -/
def F.XLT_CTXA.MODE : Fld := { reg := .XLT_CTXA, bit := 25, width := 1, acc := .rw }
/-- XLT_CTXA.PRI_EN (06, R277): Page requests permitted under R245. -/
def F.XLT_CTXA.PRI_EN : Fld := { reg := .XLT_CTXA, bit := 26, width := 1, acc := .rw }
/-- XLT_CTXA.BOUND (06, R277): Context in use, after a read command. -/
def F.XLT_CTXA.BOUND : Fld := { reg := .XLT_CTXA, bit := 27, width := 1, acc := .ro }
/-- XLT_CTXB.KEYSEL (06, R277): Key selector for shared-table device pages. -/
def F.XLT_CTXB.KEYSEL : Fld := { reg := .XLT_CTXB, bit := 0, width := 6, acc := .rw }
/-- XLT_CTXSTAT.BUSY (06, R277): Context command in progress. -/
def F.XLT_CTXSTAT.BUSY : Fld := { reg := .XLT_CTXSTAT, bit := 0, width := 1, acc := .ro }
/-- XLT_CTXSTAT.ERR (06, R277): 0 none; 1 ASID reserved to Headland; 2 PASID_IN_USE; 3 BOUND; 4 QUEUES_BOUND; 5 not bound. -/
def F.XLT_CTXSTAT.ERR : Fld := { reg := .XLT_CTXSTAT, bit := 4, width := 4, acc := .ro }
/-- XLT_CTXGEN.GEN (06, R277): Generation of the context last read. -/
def F.XLT_CTXGEN.GEN : Fld := { reg := .XLT_CTXGEN, bit := 0, width := 32, acc := .ro }
/-- XLT_SEGCMD.ASID (06, R277): Context to act on. -/
def F.XLT_SEGCMD.ASID : Fld := { reg := .XLT_SEGCMD, bit := 0, width := 16, acc := .wo, ownRow := true }
/-- XLT_SEGCMD.SEG (06, R277): Segment number. -/
def F.XLT_SEGCMD.SEG : Fld := { reg := .XLT_SEGCMD, bit := 16, width := 4, acc := .wo, ownRow := true }
/-- XLT_SEGCMD.OP (06, R277): 1 write, 2 read, 3 clear; 0 reserved. -/
def F.XLT_SEGCMD.OP : Fld := { reg := .XLT_SEGCMD, bit := 20, width := 2, acc := .wo, lo := 1, ownRow := true }
/-- XLT_SEGATTR.VALID (06, R277): Segment valid. -/
def F.XLT_SEGATTR.VALID : Fld := { reg := .XLT_SEGATTR, bit := 0, width := 1, acc := .rw }
/-- XLT_SEGATTR.R (06, R277): Read. -/
def F.XLT_SEGATTR.R : Fld := { reg := .XLT_SEGATTR, bit := 1, width := 1, acc := .rw }
/-- XLT_SEGATTR.W (06, R277): Write. -/
def F.XLT_SEGATTR.W : Fld := { reg := .XLT_SEGATTR, bit := 2, width := 1, acc := .rw }
/-- XLT_SEGATTR.X (06, R277): Kernel code fetch. -/
def F.XLT_SEGATTR.X : Fld := { reg := .XLT_SEGATTR, bit := 3, width := 1, acc := .rw }
/-- XLT_SEGATTR.A (06, R277): Atomic. -/
def F.XLT_SEGATTR.A : Fld := { reg := .XLT_SEGATTR, bit := 4, width := 1, acc := .rw }
/-- XLT_SEGATTR.HOST (06, R277): BASE is an untranslated host address. -/
def F.XLT_SEGATTR.HOST : Fld := { reg := .XLT_SEGATTR, bit := 5, width := 1, acc := .rw }
/-- XLT_SEGATTR.KEYSEL (06, R277): Key selector. -/
def F.XLT_SEGATTR.KEYSEL : Fld := { reg := .XLT_SEGATTR, bit := 8, width := 6, acc := .rw }
/-- XLT_SEGSTART_LO.START (06, R277): VA bits [31:16]. -/
def F.XLT_SEGSTART_LO.START : Fld := { reg := .XLT_SEGSTART_LO, bit := 16, width := 16, acc := .rw, ownRow := true }
/-- XLT_SEGSTART_HI.START (06, R277): VA bits [56:32]. -/
def F.XLT_SEGSTART_HI.START : Fld := { reg := .XLT_SEGSTART_HI, bit := 0, width := 25, acc := .rw, ownRow := true }
/-- XLT_SEGLEN.UNITS (06, R277): LENGTH in 64 KiB units; 0 reserved. -/
def F.XLT_SEGLEN.UNITS : Fld := { reg := .XLT_SEGLEN, bit := 0, width := 31, acc := .rw, lo := 1 }
/-- XLT_SEGBASE_LO.BASE (06, R277): Address bits [31:16]. -/
def F.XLT_SEGBASE_LO.BASE : Fld := { reg := .XLT_SEGBASE_LO, bit := 16, width := 16, acc := .rw, ownRow := true }
/-- XLT_SEGBASE_HI.BASE (06, R277): Address bits [63:32]; bits [63:52] must be 0 when HOST is 0. -/
def F.XLT_SEGBASE_HI.BASE : Fld := { reg := .XLT_SEGBASE_HI, bit := 0, width := 32, acc := .rw, ownRow := true }
/-- XLT_SEGSTAT.BUSY (06, R277): Segment command or its invalidation in progress. -/
def F.XLT_SEGSTAT.BUSY : Fld := { reg := .XLT_SEGSTAT, bit := 0, width := 1, acc := .ro }
/-- XLT_SEGSTAT.ERR (06, R277): Check failed under R234; 0 none. -/
def F.XLT_SEGSTAT.ERR : Fld := { reg := .XLT_SEGSTAT, bit := 4, width := 4, acc := .ro }
/-- XLT_INV.ASID (06, R277): Writing starts an invalidation of this ASID. -/
def F.XLT_INV.ASID : Fld := { reg := .XLT_INV, bit := 0, width := 16, acc := .wo, ownRow := true }
/-- XLT_INVSTAT.BUSY (06, R277): An invalidation is in progress. -/
def F.XLT_INVSTAT.BUSY : Fld := { reg := .XLT_INVSTAT, bit := 0, width := 1, acc := .ro }
/-- XLT_INVSTAT.ABORTED (06, R277): Commands were aborted under R260. -/
def F.XLT_INVSTAT.ABORTED : Fld := { reg := .XLT_INVSTAT, bit := 1, width := 1, acc := .w1c }
/-- XLT_INVSTAT.SEQ (06, R277): Completed invalidations; wraps. -/
def F.XLT_INVSTAT.SEQ : Fld := { reg := .XLT_INVSTAT, bit := 16, width := 16, acc := .ro }
/-- XLT_CNTCLR.CLR (06, R277): Writing 1 zeroes XLT_L1MISS through XLT_RETRANS. -/
def F.XLT_CNTCLR.CLR : Fld := { reg := .XLT_CNTCLR, bit := 0, width := 1, acc := .wo, ownRow := true }
/-- XLT_L1MISS.COUNT (06, R277): First-level misses; saturates. -/
def F.XLT_L1MISS.COUNT : Fld := { reg := .XLT_L1MISS, bit := 0, width := 32, acc := .ro }
/-- XLT_L2MISS.COUNT (06, R277): Second-level misses; saturates. -/
def F.XLT_L2MISS.COUNT : Fld := { reg := .XLT_L2MISS, bit := 0, width := 32, acc := .ro }
/-- XLT_ATSREQ.COUNT (06, R277): ATS Translation Requests sent; saturates. -/
def F.XLT_ATSREQ.COUNT : Fld := { reg := .XLT_ATSREQ, bit := 0, width := 32, acc := .ro }
/-- XLT_PRIREQ.COUNT (06, R277): Page Requests sent; saturates. -/
def F.XLT_PRIREQ.COUNT : Fld := { reg := .XLT_PRIREQ, bit := 0, width := 32, acc := .ro }
/-- XLT_FAULTS.COUNT (06, R277): Batches refused under R252; saturates. -/
def F.XLT_FAULTS.COUNT : Fld := { reg := .XLT_FAULTS, bit := 0, width := 32, acc := .ro }
/-- XLT_RETRANS.COUNT (06, R277): Operands re-translated under R255; saturates. -/
def F.XLT_RETRANS.COUNT : Fld := { reg := .XLT_RETRANS, bit := 0, width := 32, acc := .ro }
/-- XLT_WINSRC.DIES (06, R277): Bit d admits sending die d to window w. -/
def F.XLT_WINSRC.DIES : Fld := { reg := .XLT_WINSRC, bit := 0, width := 32, acc := .rw }
/-- TQ_ID.QUEUES (07, R350): Tide queues. -/
def F.TQ_ID.QUEUES : Fld := { reg := .TQ_ID, bit := 0, width := 16, acc := .ro, reset := 1024 }
/-- TQ_ID.FERRY (07, R350): Ferry engines. -/
def F.TQ_ID.FERRY : Fld := { reg := .TQ_ID, bit := 16, width := 8, acc := .ro, reset := 32 }
/-- TQ_ID.RECKON (07, R350): Reckon engines. -/
def F.TQ_ID.RECKON : Fld := { reg := .TQ_ID, bit := 24, width := 4, acc := .ro, reset := 8 }
/-- TQ_ID.GATHER (07, R350): Gather engines. -/
def F.TQ_ID.GATHER : Fld := { reg := .TQ_ID, bit := 28, width := 4, acc := .ro, reset := 8 }
/-- TQ_CTL.GANG_MIN (07, R350): Sectors from which R282 applies, 1,024–65,535; lower values reserved. -/
def F.TQ_CTL.GANG_MIN : Fld := { reg := .TQ_CTL, bit := 0, width := 16, acc := .rw, reset := 16384, lo := 1024 }
/-- TQ_WAITDEF.MS (07, R350): WAIT limit when TMO_US is 0, 1–65,535 ms; 0 reserved. -/
def F.TQ_WAITDEF.MS : Fld := { reg := .TQ_WAITDEF, bit := 0, width := 16, acc := .rw, reset := 1000, lo := 1 }
/-- TQ_COLLTMO.MS (07, R350): Collective contribution limit, 1–65,535 ms; 0 reserved. -/
def F.TQ_COLLTMO.MS : Fld := { reg := .TQ_COLLTMO, bit := 0, width := 16, acc := .rw, reset := 1000, lo := 1 }
/-- TQ_KLIMIT.US (07, R350): Kernel run limit when LIMIT_US is 0; 0 reserved. -/
def F.TQ_KLIMIT.US : Fld := { reg := .TQ_KLIMIT, bit := 0, width := 32, acc := .rw, reset := 1000000, lo := 1 }
/-- TQ_QCMD.QUEUE (07, R350): Queue to act on. -/
def F.TQ_QCMD.QUEUE : Fld := { reg := .TQ_QCMD, bit := 0, width := 10, acc := .wo, ownRow := true }
/-- TQ_QCMD.OP (07, R350): 1 create, 2 read, 3 start, 4 stop, 5 abort, 6 destroy, 7 resume; 0 reserved. -/
def F.TQ_QCMD.OP : Fld := { reg := .TQ_QCMD, bit := 16, width := 3, acc := .wo, lo := 1, ownRow := true }
/-- TQ_QSTAT.BUSY (07, R350): Queue command in progress. -/
def F.TQ_QSTAT.BUSY : Fld := { reg := .TQ_QSTAT, bit := 0, width := 1, acc := .ro }
/-- TQ_QSTAT.STATE (07, R350): After read: 0 DISABLED, 1 STOPPED, 2 RUNNING, 3 REFUSED, 4 STOPPING. -/
def F.TQ_QSTAT.STATE : Fld := { reg := .TQ_QSTAT, bit := 1, width := 3, acc := .ro }
/-- TQ_QSTAT.ERR (07, R350): 0 none; 1 ASID unbound; 2 wrong state; 3 ENGINE out of range; 4 counter window; 5 reserved field or value. -/
def F.TQ_QSTAT.ERR : Fld := { reg := .TQ_QSTAT, bit := 4, width := 4, acc := .ro }
/-- TQ_GLBCNT.BASE (07, R350): First counter that global-mode puts may signal. -/
def F.TQ_GLBCNT.BASE : Fld := { reg := .TQ_GLBCNT, bit := 0, width := 16, acc := .rw }
/-- TQ_GLBCNT.COUNT (07, R350): Counters in that range; 0 admits none. -/
def F.TQ_GLBCNT.COUNT : Fld := { reg := .TQ_GLBCNT, bit := 16, width := 16, acc := .rw }
/-- TQ_CNTCLR.CLR (07, R350): Writing 1 zeroes TQ_REFUSED, TQ_DBOVF and TQ_ACCEPTED. -/
def F.TQ_CNTCLR.CLR : Fld := { reg := .TQ_CNTCLR, bit := 0, width := 1, acc := .wo, ownRow := true }
/-- TQ_REFUSED.COUNT (07, R350): Batches refused; saturates. -/
def F.TQ_REFUSED.COUNT : Fld := { reg := .TQ_REFUSED, bit := 0, width := 32, acc := .ro }
/-- TQ_DBOVF.COUNT (07, R350): Queues stopped by doorbell overflow; saturates. -/
def F.TQ_DBOVF.COUNT : Fld := { reg := .TQ_DBOVF, bit := 0, width := 32, acc := .ro }
/-- TQ_ACCEPTED_LO.COUNT (07, R350): Commands accepted; 64-bit count. -/
def F.TQ_ACCEPTED_LO.COUNT : Fld := { reg := .TQ_ACCEPTED_LO, bit := 0, width := 32, acc := .ro }
/-- TQ_ACCEPTED_HI.COUNT (07, R350): Commands accepted; 64-bit count. -/
def F.TQ_ACCEPTED_HI.COUNT : Fld := { reg := .TQ_ACCEPTED_HI, bit := 0, width := 32, acc := .ro }
/-- TQ_QD.WORD (07, R350): Descriptor word j for create; holds the descriptor after read. -/
def F.TQ_QD.WORD : Fld := { reg := .TQ_QD, bit := 0, width := 32, acc := .rw }
/-- TQ_ENGSTAT.INFLIGHT (07, R350): Commands and pieces in flight, 0–16. -/
def F.TQ_ENGSTAT.INFLIGHT : Fld := { reg := .TQ_ENGSTAT, bit := 0, width := 5, acc := .ro }
/-- TQ_ENGSTAT.QUEUES (07, R350): Queues bound to the engine. -/
def F.TQ_ENGSTAT.QUEUES : Fld := { reg := .TQ_ENGSTAT, bit := 5, width := 11, acc := .ro }
/-- TQ_ENGSTAT.GANG (07, R350): Serving pieces under R282. -/
def F.TQ_ENGSTAT.GANG : Fld := { reg := .TQ_ENGSTAT, bit := 16, width := 1, acc := .ro }
/-- TQ_WINCNT.BASE (07, R350): First counter that puts through window w may signal. -/
def F.TQ_WINCNT.BASE : Fld := { reg := .TQ_WINCNT, bit := 0, width := 16, acc := .rw }
/-- TQ_WINCNT.COUNT (07, R350): Counters in that range; 0 admits none. -/
def F.TQ_WINCNT.COUNT : Fld := { reg := .TQ_WINCNT, bit := 16, width := 16, acc := .rw }
/-- TQ_CNT_LO.VALUE (07, R350): Counter i; the write at _HI is one update under R309. -/
def F.TQ_CNT_LO.VALUE : Fld := { reg := .TQ_CNT_LO, bit := 0, width := 32, acc := .rw, ownRow := true }
/-- TQ_CNT_HI.VALUE (07, R350): Counter i; the write at _HI is one update under R309. -/
def F.TQ_CNT_HI.VALUE : Fld := { reg := .TQ_CNT_HI, bit := 0, width := 32, acc := .rw, ownRow := true }
/-- BEAD_ID.CORES (08, R411): Bead cores. -/
def F.BEAD_ID.CORES : Fld := { reg := .BEAD_ID, bit := 0, width := 12, acc := .ro, reset := 3072 }
/-- BEAD_ID.ISKIB (08, R411): Instruction store per core, KiB. -/
def F.BEAD_ID.ISKIB : Fld := { reg := .BEAD_ID, bit := 12, width := 8, acc := .ro, reset := 64 }
/-- BEAD_ID.KQ (08, R411): Reckoner queue entries. -/
def F.BEAD_ID.KQ : Fld := { reg := .BEAD_ID, bit := 20, width := 8, acc := .ro, reset := 32 }
/-- BEAD_CTL.PENDMAX (08, R411): Launches queued per core under R379, 1–4; 0 and 5–7 reserved. -/
def F.BEAD_CTL.PENDMAX : Fld := { reg := .BEAD_CTL, bit := 0, width := 3, acc := .rw, reset := 4, lo := 1, hi := 4 }
/-- BEAD_CTL.HWRETRY (08, R411): Retry under R408. -/
def F.BEAD_CTL.HWRETRY : Fld := { reg := .BEAD_CTL, bit := 3, width := 1, acc := .rw, reset := 1 }
/-- BEAD_FAULT.CAUSE (08, R411): Cause code under R401. -/
def F.BEAD_FAULT.CAUSE : Fld := { reg := .BEAD_FAULT, bit := 0, width := 4, acc := .ro }
/-- BEAD_FAULT.LATE (08, R411): Taken as a late exception. -/
def F.BEAD_FAULT.LATE : Fld := { reg := .BEAD_FAULT, bit := 4, width := 1, acc := .ro }
/-- BEAD_FAULT.SUB (08, R411): For MEMERR: the low byte of the STATUS code of the error. -/
def F.BEAD_FAULT.SUB : Fld := { reg := .BEAD_FAULT, bit := 8, width := 8, acc := .ro }
/-- BEAD_FAULT.VALID (08, R411): Fault registers hold a record under R409. -/
def F.BEAD_FAULT.VALID : Fld := { reg := .BEAD_FAULT, bit := 16, width := 1, acc := .w1c }
/-- BEAD_FAULTLOC.X (08, R411): Tile column. -/
def F.BEAD_FAULTLOC.X : Fld := { reg := .BEAD_FAULTLOC, bit := 0, width := 6, acc := .ro }
/-- BEAD_FAULTLOC.Y (08, R411): Tile row. -/
def F.BEAD_FAULTLOC.Y : Fld := { reg := .BEAD_FAULTLOC, bit := 8, width := 5, acc := .ro }
/-- BEAD_FAULTLOC.CORE (08, R411): 0 b0, 1 b1. -/
def F.BEAD_FAULTLOC.CORE : Fld := { reg := .BEAD_FAULTLOC, bit := 16, width := 1, acc := .ro }
/-- BEAD_FAULTQ.QUEUE (08, R411): Queue of the launching command. -/
def F.BEAD_FAULTQ.QUEUE : Fld := { reg := .BEAD_FAULTQ, bit := 0, width := 10, acc := .ro }
/-- BEAD_FAULTQ.ENGINE (08, R411): Reckon engine K0–K7. -/
def F.BEAD_FAULTQ.ENGINE : Fld := { reg := .BEAD_FAULTQ, bit := 10, width := 3, acc := .ro }
/-- BEAD_FAULTQ.DEVICE (08, R411): Device kernel of a RECKON. -/
def F.BEAD_FAULTQ.DEVICE : Fld := { reg := .BEAD_FAULTQ, bit := 13, width := 1, acc := .ro }
/-- BEAD_FAULTPC.PC (08, R411): Image offset recorded under R404. -/
def F.BEAD_FAULTPC.PC : Fld := { reg := .BEAD_FAULTPC, bit := 0, width := 16, acc := .ro }
/-- BEAD_FAULTADDR_LO.ADDR (08, R411): Kernel address of the access concerned; 0 when none. -/
def F.BEAD_FAULTADDR_LO.ADDR : Fld := { reg := .BEAD_FAULTADDR_LO, bit := 0, width := 32, acc := .ro }
/-- BEAD_FAULTADDR_HI.ADDR (08, R411): Kernel address of the access concerned; 0 when none. -/
def F.BEAD_FAULTADDR_HI.ADDR : Fld := { reg := .BEAD_FAULTADDR_HI, bit := 0, width := 32, acc := .ro }
/-- BEAD_FAULTASN_LO.ASN (08, R411): ASN of the launching command. -/
def F.BEAD_FAULTASN_LO.ASN : Fld := { reg := .BEAD_FAULTASN_LO, bit := 0, width := 32, acc := .ro }
/-- BEAD_FAULTASN_HI.ASN (08, R411): ASN of the launching command. -/
def F.BEAD_FAULTASN_HI.ASN : Fld := { reg := .BEAD_FAULTASN_HI, bit := 0, width := 32, acc := .ro }
/-- BEAD_CNTCLR.CLR (08, R411): Writing 1 zeroes BEAD_FAULTS, BEAD_RETRIES and BEAD_LAUNCHES. -/
def F.BEAD_CNTCLR.CLR : Fld := { reg := .BEAD_CNTCLR, bit := 0, width := 1, acc := .wo, ownRow := true }
/-- BEAD_FAULTS.COUNT (08, R411): Exceptions taken; saturates. -/
def F.BEAD_FAULTS.COUNT : Fld := { reg := .BEAD_FAULTS, bit := 0, width := 32, acc := .ro }
/-- BEAD_RETRIES.COUNT (08, R411): Launches rerun under R408; saturates. -/
def F.BEAD_RETRIES.COUNT : Fld := { reg := .BEAD_RETRIES, bit := 0, width := 32, acc := .ro }
/-- BEAD_LAUNCHES_LO.COUNT (08, R411): Instances started; 64-bit count. -/
def F.BEAD_LAUNCHES_LO.COUNT : Fld := { reg := .BEAD_LAUNCHES_LO, bit := 0, width := 32, acc := .ro }
/-- BEAD_LAUNCHES_HI.COUNT (08, R411): Instances started; 64-bit count. -/
def F.BEAD_LAUNCHES_HI.COUNT : Fld := { reg := .BEAD_LAUNCHES_HI, bit := 0, width := 32, acc := .ro }
/-- BEAD_AVAIL.AVAIL (08, R411): Bit 2j is b0 and bit 2j + 1 is b1 of tile 16i + j; 1 available. -/
def F.BEAD_AVAIL.AVAIL : Fld := { reg := .BEAD_AVAIL, bit := 0, width := 32, acc := .ro }
/-- BEAD_BUSY.RUNNING (08, R411): Cores of cove c running an instance. -/
def F.BEAD_BUSY.RUNNING : Fld := { reg := .BEAD_BUSY, bit := 0, width := 8, acc := .ro }
/-- BEAD_BUSY.PENDING (08, R411): Launches queued in cove c. -/
def F.BEAD_BUSY.PENDING : Fld := { reg := .BEAD_BUSY, bit := 8, width := 10, acc := .ro }
/-- TLY_ID.KMAXFP (09, R454): Largest floating-point KVEC. -/
def F.TLY_ID.KMAXFP : Fld := { reg := .TLY_ID, bit := 0, width := 8, acc := .ro, reset := 64 }
/-- TLY_ID.KMAXINT (09, R454): Largest integer and block-fixed KVEC. -/
def F.TLY_ID.KMAXINT : Fld := { reg := .TLY_ID, bit := 8, width := 4, acc := .ro, reset := 4 }
/-- TLY_CTXCMD.ASID (09, R454): Context to act on. -/
def F.TLY_CTXCMD.ASID : Fld := { reg := .TLY_CTXCMD, bit := 0, width := 16, acc := .wo, ownRow := true }
/-- TLY_CTXCMD.OP (09, R454): 1 write parameters from TLY_CTXA, 2 read them into TLY_CTXA; 0 and 3 reserved. -/
def F.TLY_CTXCMD.OP : Fld := { reg := .TLY_CTXCMD, bit := 16, width := 2, acc := .wo, lo := 1, hi := 2, ownRow := true }
/-- TLY_CTXA.KINT (09, R454): Default k for integer and block-fixed, 1–4; other values reserved. -/
def F.TLY_CTXA.KINT : Fld := { reg := .TLY_CTXA, bit := 0, width := 3, acc := .rw, lo := 1, hi := 4 }
/-- TLY_CTXA.KFP (09, R454): Default k for floating point, 1–64; other values reserved. -/
def F.TLY_CTXA.KFP : Fld := { reg := .TLY_CTXA, bit := 3, width := 7, acc := .rw, lo := 1, hi := 64 }
/-- TLY_CTXA.ACCBITS (09, R454): ε = 2^-ACCBITS, 11–53; other values reserved. -/
def F.TLY_CTXA.ACCBITS : Fld := { reg := .TLY_CTXA, bit := 10, width := 6, acc := .rw, lo := 11, hi := 53 }
/-- TLY_CTXA.BLKLOG2 (09, R454): b = 2^BLKLOG2, 0–12; other values reserved. -/
def F.TLY_CTXA.BLKLOG2 : Fld := { reg := .TLY_CTXA, bit := 16, width := 4, acc := .rw, hi := 12 }
/-- TLY_CTXSTAT.BUSY (09, R454): Command in progress. -/
def F.TLY_CTXSTAT.BUSY : Fld := { reg := .TLY_CTXSTAT, bit := 0, width := 1, acc := .ro }
/-- TLY_CTXSTAT.ERR (09, R454): 0 none; 1 ASID not bound; 2 reserved value. -/
def F.TLY_CTXSTAT.ERR : Fld := { reg := .TLY_CTXSTAT, bit := 1, width := 3, acc := .ro }
/-- TLY_CNTCLR.CLR (09, R454): Writing 1 zeroes TLY_PASS through TLY_TALLYERR and TLY_HOLD. -/
def F.TLY_CNTCLR.CLR : Fld := { reg := .TLY_CNTCLR, bit := 0, width := 1, acc := .wo, ownRow := true }
/-- TLY_PASS.COUNT (09, R454): PASS verdicts; saturates. -/
def F.TLY_PASS.COUNT : Fld := { reg := .TLY_PASS, bit := 0, width := 32, acc := .ro }
/-- TLY_FAIL.COUNT (09, R454): FAIL verdicts; saturates. -/
def F.TLY_FAIL.COUNT : Fld := { reg := .TLY_FAIL, bit := 0, width := 32, acc := .ro }
/-- TLY_UNCHECKED.COUNT (09, R454): UNCHECKED verdicts; saturates. -/
def F.TLY_UNCHECKED.COUNT : Fld := { reg := .TLY_UNCHECKED, bit := 0, width := 32, acc := .ro }
/-- TLY_GAP.COUNT (09, R454): Records with COVERAGE_GAP; saturates. -/
def F.TLY_GAP.COUNT : Fld := { reg := .TLY_GAP, bit := 0, width := 32, acc := .ro }
/-- TLY_DIGERR.COUNT (09, R454): Digest mismatches under R422; saturates. -/
def F.TLY_DIGERR.COUNT : Fld := { reg := .TLY_DIGERR, bit := 0, width := 32, acc := .ro }
/-- TLY_TALLYERR.COUNT (09, R454): Tally mismatches under R415; saturates. -/
def F.TLY_TALLYERR.COUNT : Fld := { reg := .TLY_TALLYERR, bit := 0, width := 32, acc := .ro }
/-- TLY_RECKQ.WAITING (09, R454): RECKONs dispatched and not yet complete. -/
def F.TLY_RECKQ.WAITING : Fld := { reg := .TLY_RECKQ, bit := 0, width := 16, acc := .ro }
/-- TLY_LASTFAIL_LO.ASN (09, R454): ASN of the last FAIL verdict. -/
def F.TLY_LASTFAIL_LO.ASN : Fld := { reg := .TLY_LASTFAIL_LO, bit := 0, width := 32, acc := .ro }
/-- TLY_LASTFAIL_HI.ASN (09, R454): ASN of the last FAIL verdict. -/
def F.TLY_LASTFAIL_HI.ASN : Fld := { reg := .TLY_LASTFAIL_HI, bit := 0, width := 32, acc := .ro }
/-- TLY_LASTFAILQ.QUEUE (09, R454): Queue of the last FAIL verdict. -/
def F.TLY_LASTFAILQ.QUEUE : Fld := { reg := .TLY_LASTFAILQ, bit := 0, width := 10, acc := .ro }
/-- TLY_HOLD_LO.CYCLES (09, R454): Frame-clock cycles summed over RECKONs held waiting for cores or a record-ring slot; 64-bit count. -/
def F.TLY_HOLD_LO.CYCLES : Fld := { reg := .TLY_HOLD_LO, bit := 0, width := 32, acc := .ro }
/-- TLY_HOLD_HI.CYCLES (09, R454): Frame-clock cycles summed over RECKONs held waiting for cores or a record-ring slot; 64-bit count. -/
def F.TLY_HOLD_HI.CYCLES : Fld := { reg := .TLY_HOLD_HI, bit := 0, width := 32, acc := .ro }
/-- HBL_ID.SLOTS (10, R511): Mirror slots. -/
def F.HBL_ID.SLOTS : Fld := { reg := .HBL_ID, bit := 0, width := 8, acc := .ro, reset := 2 }
/-- HBL_ID.AREAK (10, R511): Entries per area, in units of 1,024. -/
def F.HBL_ID.AREAK : Fld := { reg := .HBL_ID, bit := 8, width := 8, acc := .ro }
/-- HBL_CTL.ALLOW_UNMIRRORED (10, R511): Acceptance permitted unmirrored, under R22 and R23. -/
def F.HBL_CTL.ALLOW_UNMIRRORED : Fld := { reg := .HBL_CTL, bit := 0, width := 1, acc := .rw }
/-- HBL_CTL.TK_EN (10, R511): Takeover ring usable. -/
def F.HBL_CTL.TK_EN : Fld := { reg := .HBL_CTL, bit := 1, width := 1, acc := .rw, ownRow := true }
/-- HBL_TMO.ACK_MS (10, R511): Partner acknowledgement limit under R480, 1–1,000 ms; other values reserved. -/
def F.HBL_TMO.ACK_MS : Fld := { reg := .HBL_TMO, bit := 0, width := 16, acc := .rw, reset := 20, lo := 1, hi := 1000 }
/-- HBL_TMO.GRACE_MS (10, R511): Warm-reset grace under R494, 100–65,535 ms; lower values reserved. -/
def F.HBL_TMO.GRACE_MS : Fld := { reg := .HBL_TMO, bit := 16, width := 16, acc := .rw, reset := 2000, lo := 100 }
/-- HBL_PARTNER.DIE (10, R511): Partner die. -/
def F.HBL_PARTNER.DIE : Fld := { reg := .HBL_PARTNER, bit := 0, width := 5, acc := .ro }
/-- HBL_PARTNER.VALID (10, R511): A partner is assigned. -/
def F.HBL_PARTNER.VALID : Fld := { reg := .HBL_PARTNER, bit := 5, width := 1, acc := .ro }
/-- HBL_PARTNER.STATE (10, R511): 0 UNMIRRORED, 1 REMIRRORING, 2 MIRRORED; 3 not reported. -/
def F.HBL_PARTNER.STATE : Fld := { reg := .HBL_PARTNER, bit := 6, width := 2, acc := .ro }
/-- HBL_CLIENTS.CLIENT0 (10, R511): Die mirrored in slot 0. -/
def F.HBL_CLIENTS.CLIENT0 : Fld := { reg := .HBL_CLIENTS, bit := 0, width := 5, acc := .ro }
/-- HBL_CLIENTS.VALID0 (10, R511): Slot 0 in use. -/
def F.HBL_CLIENTS.VALID0 : Fld := { reg := .HBL_CLIENTS, bit := 5, width := 1, acc := .ro }
/-- HBL_CLIENTS.CLIENT1 (10, R511): Die mirrored in slot 1. -/
def F.HBL_CLIENTS.CLIENT1 : Fld := { reg := .HBL_CLIENTS, bit := 8, width := 5, acc := .ro }
/-- HBL_CLIENTS.VALID1 (10, R511): Slot 1 in use. -/
def F.HBL_CLIENTS.VALID1 : Fld := { reg := .HBL_CLIENTS, bit := 13, width := 1, acc := .ro }
/-- HBL_SPACE.LIVE (10, R511): Live entries of the own area. -/
def F.HBL_SPACE.LIVE : Fld := { reg := .HBL_SPACE, bit := 0, width := 19, acc := .ro }
/-- HBL_TKCTL.LOG2 (10, R511): Takeover ring of 2^n records, 6–16; other values reserved. -/
def F.HBL_TKCTL.LOG2 : Fld := { reg := .HBL_TKCTL, bit := 0, width := 5, acc := .rw, lo := 6, hi := 16 }
/-- HBL_TKCTL.VECTOR (10, R511): MSI-X vector raised with each takeover. -/
def F.HBL_TKCTL.VECTOR : Fld := { reg := .HBL_TKCTL, bit := 5, width := 11, acc := .rw }
/-- HBL_TKHEAD.INDEX (10, R511): Host's consumption index of the takeover ring. -/
def F.HBL_TKHEAD.INDEX : Fld := { reg := .HBL_TKHEAD, bit := 0, width := 16, acc := .wo, ownRow := true }
/-- HBL_TKBASE_LO.BASE (10, R511): Host address bits [31:12] of the takeover ring. -/
def F.HBL_TKBASE_LO.BASE : Fld := { reg := .HBL_TKBASE_LO, bit := 12, width := 20, acc := .rw, ownRow := true }
/-- HBL_TKBASE_HI.BASE (10, R511): Host address bits [63:32]. -/
def F.HBL_TKBASE_HI.BASE : Fld := { reg := .HBL_TKBASE_HI, bit := 0, width := 32, acc := .rw, ownRow := true }
/-- HBL_HEAD_LO.LSN (10, R511): Next LSN to be written; _HI bits [31:16] RSV. -/
def F.HBL_HEAD_LO.LSN : Fld := { reg := .HBL_HEAD_LO, bit := 0, width := 32, acc := .ro }
/-- HBL_HEAD_HI.LSN (10, R511): Next LSN to be written; _HI bits [31:16] RSV. -/
def F.HBL_HEAD_HI.LSN : Fld := { reg := .HBL_HEAD_HI, bit := 0, width := 16, acc := .ro }
/-- HBL_ACKED_LO.LSN (10, R511): Highest LSN durable at the partner; _HI bits [31:16] RSV. -/
def F.HBL_ACKED_LO.LSN : Fld := { reg := .HBL_ACKED_LO, bit := 0, width := 32, acc := .ro }
/-- HBL_ACKED_HI.LSN (10, R511): Highest LSN durable at the partner; _HI bits [31:16] RSV. -/
def F.HBL_ACKED_HI.LSN : Fld := { reg := .HBL_ACKED_HI, bit := 0, width := 16, acc := .ro }
/-- HBL_CNTCLR.CLR (10, R511): Writing 1 zeroes HBL_UNMIRACC through HBL_HOLD. -/
def F.HBL_CNTCLR.CLR : Fld := { reg := .HBL_CNTCLR, bit := 0, width := 1, acc := .wo, ownRow := true }
/-- HBL_UNMIRACC.COUNT (10, R511): Batches accepted unmirrored; saturates. -/
def F.HBL_UNMIRACC.COUNT : Fld := { reg := .HBL_UNMIRACC, bit := 0, width := 32, acc := .ro }
/-- HBL_RECOVER.COUNT (10, R511): Recoveries under R496; saturates. -/
def F.HBL_RECOVER.COUNT : Fld := { reg := .HBL_RECOVER, bit := 0, width := 32, acc := .ro }
/-- HBL_TAKEOVER.COUNT (10, R511): Takeovers under R499; saturates. -/
def F.HBL_TAKEOVER.COUNT : Fld := { reg := .HBL_TAKEOVER, bit := 0, width := 32, acc := .ro }
/-- HBL_DUPDROP.COUNT (10, R511): Puts and entries dropped as duplicates; saturates. -/
def F.HBL_DUPDROP.COUNT : Fld := { reg := .HBL_DUPDROP, bit := 0, width := 32, acc := .ro }
/-- HBL_RESEND.COUNT (10, R511): Entries and puts resent under R496 and R507; saturates. -/
def F.HBL_RESEND.COUNT : Fld := { reg := .HBL_RESEND, bit := 0, width := 32, acc := .ro }
/-- HBL_INTERRUPT.COUNT (10, R511): INTERRUPT entries written; saturates. -/
def F.HBL_INTERRUPT.COUNT : Fld := { reg := .HBL_INTERRUPT, bit := 0, width := 32, acc := .ro }
/-- HBL_HOLD.COUNT (10, R511): Batches held under R463; saturates. -/
def F.HBL_HOLD.COUNT : Fld := { reg := .HBL_HOLD, bit := 0, width := 32, acc := .ro }
/-- SHL_ID.PORTS (11, R561): Ports. -/
def F.SHL_ID.PORTS : Fld := { reg := .SHL_ID, bit := 0, width := 4, acc := .ro, reset := 8 }
/-- SHL_ID.MODULES (11, R561): Modules per port. -/
def F.SHL_ID.MODULES : Fld := { reg := .SHL_ID, bit := 4, width := 4, acc := .ro, reset := 4 }
/-- SHL_ID.VER_MAJOR (11, R561): Shoreline version sent. -/
def F.SHL_ID.VER_MAJOR : Fld := { reg := .SHL_ID, bit := 8, width := 8, acc := .ro, reset := 1 }
/-- SHL_ID.VER_MINOR (11, R561): VER_MINOR. -/
def F.SHL_ID.VER_MINOR : Fld := { reg := .SHL_ID, bit := 16, width := 8, acc := .ro, reset := 2 }
/-- SHL_CTL.REPLAY_LIM (11, R561): Replays per ms that trigger a retrain under R530, 1–255; 0 reserved. -/
def F.SHL_CTL.REPLAY_LIM : Fld := { reg := .SHL_CTL, bit := 0, width := 8, acc := .rw, reset := 64, lo := 1 }
/-- SHL_CTL.TELEM_MISS (11, R561): Missed messages under R554, 1–15; 0 reserved. -/
def F.SHL_CTL.TELEM_MISS : Fld := { reg := .SHL_CTL, bit := 8, width := 4, acc := .rw, reset := 3, lo := 1 }
/-- SHL_CTL.TELEM_US (11, R561): Telemetry period in µs, 10–4,000; other values reserved. -/
def F.SHL_CTL.TELEM_US : Fld := { reg := .SHL_CTL, bit := 12, width := 12, acc := .rw, reset := 100, lo := 10, hi := 4000 }
/-- SHL_CNTCLR.CLR (11, R561): Writing 1 zeroes every counting register of every port. -/
def F.SHL_CNTCLR.CLR : Fld := { reg := .SHL_CNTCLR, bit := 0, width := 1, acc := .wo, ownRow := true }
/-- SHL_PCTL.EN (11, R561): Port enabled. -/
def F.SHL_PCTL.EN : Fld := { reg := .SHL_PCTL, bit := 0, width := 1, acc := .rw, reset := 1, ownRow := true }
/-- SHL_PCTL.MAXRATE (11, R561): Highest rate code; 6–7 reserved. -/
def F.SHL_PCTL.MAXRATE : Fld := { reg := .SHL_PCTL, bit := 1, width := 3, acc := .rw, reset := 5, hi := 5 }
/-- SHL_PCTL.MODS (11, R561): Widest: 0 one, 1 two, 2 four modules; 3 reserved. -/
def F.SHL_PCTL.MODS : Fld := { reg := .SHL_PCTL, bit := 4, width := 2, acc := .rw, reset := 2, hi := 2 }
/-- SHL_PCTL.SHARE (11, R561): Share class stamped under R539. -/
def F.SHL_PCTL.SHARE : Fld := { reg := .SHL_PCTL, bit := 8, width := 4, acc := .rw }
/-- SHL_PSTAT.STATE (11, R561): 0 DOWN, 1 TRAIN, 2 NEGOTIATE, 3 ACTIVE, 4 RETRAIN, 5 FAILED. -/
def F.SHL_PSTAT.STATE : Fld := { reg := .SHL_PSTAT, bit := 0, width := 3, acc := .ro }
/-- SHL_PSTAT.RATE (11, R561): Rate code in use. -/
def F.SHL_PSTAT.RATE : Fld := { reg := .SHL_PSTAT, bit := 3, width := 3, acc := .ro }
/-- SHL_PSTAT.MODS (11, R561): Modules in use, coded as in SHL_PCTL. -/
def F.SHL_PSTAT.MODS : Fld := { reg := .SHL_PSTAT, bit := 6, width := 2, acc := .ro }
/-- SHL_PSTAT.URGENT (11, R561): Urgent VC in use. -/
def F.SHL_PSTAT.URGENT : Fld := { reg := .SHL_PSTAT, bit := 8, width := 1, acc := .ro }
/-- SHL_PSTAT.TALLY (11, R561): Compute die computes tally words. -/
def F.SHL_PSTAT.TALLY : Fld := { reg := .SHL_PSTAT, bit := 9, width := 1, acc := .ro }
/-- SHL_PSTAT.TELEM (11, R561): Telemetry expected. -/
def F.SHL_PSTAT.TELEM : Fld := { reg := .SHL_PSTAT, bit := 10, width := 1, acc := .ro }
/-- SHL_PSTAT.VER_MINOR (11, R561): Partner's minor version. -/
def F.SHL_PSTAT.VER_MINOR : Fld := { reg := .SHL_PSTAT, bit := 16, width := 8, acc := .ro }
/-- SHL_PSTAT.VER_MAJOR (11, R561): Partner's major version. -/
def F.SHL_PSTAT.VER_MAJOR : Fld := { reg := .SHL_PSTAT, bit := 24, width := 8, acc := .ro }
/-- SHL_CNTWIN.BASE (11, R561): First counter of the port's window. -/
def F.SHL_CNTWIN.BASE : Fld := { reg := .SHL_CNTWIN, bit := 0, width := 16, acc := .rw }
/-- SHL_CNTWIN.COUNT (11, R561): Counters in the window; 0 admits none. -/
def F.SHL_CNTWIN.COUNT : Fld := { reg := .SHL_CNTWIN, bit := 16, width := 16, acc := .rw }
/-- SHL_DBWIN.BASE (11, R561): First queue of the doorbell window. -/
def F.SHL_DBWIN.BASE : Fld := { reg := .SHL_DBWIN, bit := 0, width := 10, acc := .rw }
/-- SHL_DBWIN.COUNT (11, R561): Queues, 0–1,024; 0 admits none. -/
def F.SHL_DBWIN.COUNT : Fld := { reg := .SHL_DBWIN, bit := 10, width := 11, acc := .rw, hi := 1024 }
/-- SHL_CRCERR.COUNT (11, R561): Frames failing CRC; saturates. -/
def F.SHL_CRCERR.COUNT : Fld := { reg := .SHL_CRCERR, bit := 0, width := 32, acc := .ro }
/-- SHL_REPLAY.COUNT (11, R561): Replays sent; saturates. -/
def F.SHL_REPLAY.COUNT : Fld := { reg := .SHL_REPLAY, bit := 0, width := 32, acc := .ro }
/-- SHL_RETRAIN.COUNT (11, R561): Retrains; saturates. -/
def F.SHL_RETRAIN.COUNT : Fld := { reg := .SHL_RETRAIN, bit := 0, width := 16, acc := .ro }
/-- SHL_TALLYERR.COUNT (11, R561): Writes refused under R541; saturates. -/
def F.SHL_TALLYERR.COUNT : Fld := { reg := .SHL_TALLYERR, bit := 0, width := 32, acc := .ro }
/-- SHL_RANGEERR.COUNT (11, R561): Accesses refused under R538; saturates. -/
def F.SHL_RANGEERR.COUNT : Fld := { reg := .SHL_RANGEERR, bit := 0, width := 32, acc := .ro }
/-- SHL_TELEMA.VOUT (11, R561): Last rail voltage, mV. -/
def F.SHL_TELEMA.VOUT : Fld := { reg := .SHL_TELEMA, bit := 0, width := 16, acc := .ro }
/-- SHL_TELEMA.TJ (11, R561): Last temperature, 0.1 °C, signed. -/
def F.SHL_TELEMA.TJ : Fld := { reg := .SHL_TELEMA, bit := 16, width := 16, acc := .ro }
/-- SHL_TELEMB.IOUT (11, R561): Last rail current, 10 mA. -/
def F.SHL_TELEMB.IOUT : Fld := { reg := .SHL_TELEMB, bit := 0, width := 16, acc := .ro }
/-- SHL_TELEMB.PSTATE (11, R561): Last power state. -/
def F.SHL_TELEMB.PSTATE : Fld := { reg := .SHL_TELEMB, bit := 16, width := 8, acc := .ro }
/-- SHL_RDSEC_LO.COUNT (11, R561): Sectors read; 64-bit count. -/
def F.SHL_RDSEC_LO.COUNT : Fld := { reg := .SHL_RDSEC_LO, bit := 0, width := 32, acc := .ro }
/-- SHL_RDSEC_HI.COUNT (11, R561): Sectors read; 64-bit count. -/
def F.SHL_RDSEC_HI.COUNT : Fld := { reg := .SHL_RDSEC_HI, bit := 0, width := 32, acc := .ro }
/-- SHL_WRSEC_LO.COUNT (11, R561): Sectors written; 64-bit count. -/
def F.SHL_WRSEC_LO.COUNT : Fld := { reg := .SHL_WRSEC_LO, bit := 0, width := 32, acc := .ro }
/-- SHL_WRSEC_HI.COUNT (11, R561): Sectors written; 64-bit count. -/
def F.SHL_WRSEC_HI.COUNT : Fld := { reg := .SHL_WRSEC_HI, bit := 0, width := 32, acc := .ro }
/-- SHL_BPCYC_LO.CYCLES (11, R561): Frame-clock cycles in which the compute die held no request credit; 64-bit count. -/
def F.SHL_BPCYC_LO.CYCLES : Fld := { reg := .SHL_BPCYC_LO, bit := 0, width := 32, acc := .ro }
/-- SHL_BPCYC_HI.CYCLES (11, R561): Frame-clock cycles in which the compute die held no request credit; 64-bit count. -/
def F.SHL_BPCYC_HI.CYCLES : Fld := { reg := .SHL_BPCYC_HI, bit := 0, width := 32, acc := .ro }
/-- SHL_CAP.WORD (11, R561): Word j of the capability block received. -/
def F.SHL_CAP.WORD : Fld := { reg := .SHL_CAP, bit := 0, width := 32, acc := .ro }
/-- SHL_WINA.BASE (11, R561): Window base, address bits [31:16]. -/
def F.SHL_WINA.BASE : Fld := { reg := .SHL_WINA, bit := 0, width := 16, acc := .rw }
/-- SHL_WINA.LEN (11, R561): Length in 64 KiB units. -/
def F.SHL_WINA.LEN : Fld := { reg := .SHL_WINA, bit := 16, width := 16, acc := .rw }
/-- SHL_WINB.VALID (11, R561): Window valid. -/
def F.SHL_WINB.VALID : Fld := { reg := .SHL_WINB, bit := 0, width := 1, acc := .rw }
/-- SHL_WINB.R (11, R561): Reads admitted. -/
def F.SHL_WINB.R : Fld := { reg := .SHL_WINB, bit := 1, width := 1, acc := .rw }
/-- SHL_WINB.W (11, R561): Writes admitted. -/
def F.SHL_WINB.W : Fld := { reg := .SHL_WINB, bit := 2, width := 1, acc := .rw }
/-- SHL_WINB.VIEW (11, R561): 0 hashed, 1 local. -/
def F.SHL_WINB.VIEW : Fld := { reg := .SHL_WINB, bit := 3, width := 1, acc := .rw }
/-- TWY_ID.LINKS (12, R625): Links. -/
def F.TWY_ID.LINKS : Fld := { reg := .TWY_ID, bit := 0, width := 8, acc := .ro, reset := 24 }
/-- TWY_ID.LANES (12, R625): Data lanes per link. -/
def F.TWY_ID.LANES : Fld := { reg := .TWY_ID, bit := 8, width := 4, acc := .ro, reset := 8 }
/-- TWY_ID.SPARES (12, R625): Spare lanes per link. -/
def F.TWY_ID.SPARES : Fld := { reg := .TWY_ID, bit := 12, width := 4, acc := .ro, reset := 1 }
/-- TWY_ID.MAXRATE (12, R625): Highest rate code. -/
def F.TWY_ID.MAXRATE : Fld := { reg := .TWY_ID, bit := 16, width := 3, acc := .ro, reset := 4 }
/-- TWY_CTL.ILIM (12, R625): Frame errors per second under R596, 1–65,535; 0 reserved. -/
def F.TWY_CTL.ILIM : Fld := { reg := .TWY_CTL, bit := 0, width := 16, acc := .rw, reset := 10, lo := 1 }
/-- TWY_RATETH.DN (12, R625): Step-down rate, units of 10⁻⁸. -/
def F.TWY_RATETH.DN : Fld := { reg := .TWY_RATETH, bit := 0, width := 16, acc := .rw, reset := 10000 }
/-- TWY_RATETH.UP (12, R625): Step-up rate, units of 10⁻⁸; a value not below DN is reserved. -/
def F.TWY_RATETH.UP : Fld := { reg := .TWY_RATETH, bit := 16, width := 16, acc := .rw, reset := 10 }
/-- TWY_CNTCLR.CLR (12, R625): Writing 1 zeroes every counting register of every link. -/
def F.TWY_CNTCLR.CLR : Fld := { reg := .TWY_CNTCLR, bit := 0, width := 1, acc := .wo, ownRow := true }
/-- TWY_UP.UP (12, R625): Bit n is 1 while link n is ACTIVE. -/
def F.TWY_UP.UP : Fld := { reg := .TWY_UP, bit := 0, width := 24, acc := .ro }
/-- TWY_LINKCTL.EN (12, R625): Link enabled. -/
def F.TWY_LINKCTL.EN : Fld := { reg := .TWY_LINKCTL, bit := 0, width := 1, acc := .rw, reset := 1, ownRow := true }
/-- TWY_LINKCTL.MODE (12, R625): 0 forwarded clock; 1 independent reference. -/
def F.TWY_LINKCTL.MODE : Fld := { reg := .TWY_LINKCTL, bit := 1, width := 1, acc := .rw }
/-- TWY_LINKCTL.EBB_ALLOW (12, R625): Narrowing permitted under R600. -/
def F.TWY_LINKCTL.EBB_ALLOW : Fld := { reg := .TWY_LINKCTL, bit := 2, width := 1, acc := .rw, reset := 1 }
/-- TWY_LINKCTL.ENC (12, R625): Encryption at next bring-up. -/
def F.TWY_LINKCTL.ENC : Fld := { reg := .TWY_LINKCTL, bit := 3, width := 1, acc := .rw }
/-- TWY_LINKCTL.MINRATE (12, R625): Rate envelope floor. -/
def F.TWY_LINKCTL.MINRATE : Fld := { reg := .TWY_LINKCTL, bit := 4, width := 3, acc := .rw }
/-- TWY_LINKCTL.MAXRATE (12, R625): Rate envelope top; 5–7, and MINRATE above MAXRATE, reserved. -/
def F.TWY_LINKCTL.MAXRATE : Fld := { reg := .TWY_LINKCTL, bit := 7, width := 3, acc := .rw, reset := 4, hi := 4 }
/-- TWY_LINKCTL.WMIN (12, R625): Narrowest width for the width loop: 0 x8, 1 x4, 2 x2, 3 x1. -/
def F.TWY_LINKCTL.WMIN : Fld := { reg := .TWY_LINKCTL, bit := 10, width := 2, acc := .rw }
/-- TWY_LINKCTL.CLAMP_IRQ (12, R625): Interrupt under R609. -/
def F.TWY_LINKCTL.CLAMP_IRQ : Fld := { reg := .TWY_LINKCTL, bit := 12, width := 1, acc := .rw }
/-- TWY_LINKCMD.OP (12, R625): 1 RETRAIN, 2 RESTORE, 3 DOWN, 4 TEST, 5 TESTEND; 0, 6 and 7 reserved. -/
def F.TWY_LINKCMD.OP : Fld := { reg := .TWY_LINKCMD, bit := 0, width := 3, acc := .wo, lo := 1, hi := 5, ownRow := true }
/-- TWY_STATUS.STATE (12, R625): 0 DOWN, 1 DETECT, 2 CONFIG, 3 STEP, 4 ACTIVE, 5 PAUSE, 6 TEST. -/
def F.TWY_STATUS.STATE : Fld := { reg := .TWY_STATUS, bit := 0, width := 4, acc := .ro }
/-- TWY_STATUS.RATE (12, R625): Rate code in use. -/
def F.TWY_STATUS.RATE : Fld := { reg := .TWY_STATUS, bit := 4, width := 3, acc := .ro }
/-- TWY_STATUS.WIDTH (12, R625): 0 x8, 1 x4, 2 x2, 3 x1. -/
def F.TWY_STATUS.WIDTH : Fld := { reg := .TWY_STATUS, bit := 7, width := 2, acc := .ro }
/-- TWY_STATUS.SPARE (12, R625): A spare lane is available. -/
def F.TWY_STATUS.SPARE : Fld := { reg := .TWY_STATUS, bit := 9, width := 1, acc := .ro }
/-- TWY_STATUS.ENC (12, R625): Encryption in force. -/
def F.TWY_STATUS.ENC : Fld := { reg := .TWY_STATUS, bit := 10, width := 1, acc := .ro }
/-- TWY_STATUS.P (12, R625): Payload bandwidth, 0.01 GB/s. -/
def F.TWY_STATUS.P : Fld := { reg := .TWY_STATUS, bit := 16, width := 16, acc := .ro }
/-- TWY_PEER.DIE (12, R625): Peer die. -/
def F.TWY_PEER.DIE : Fld := { reg := .TWY_PEER, bit := 0, width := 5, acc := .ro }
/-- TWY_PEER.LINK (12, R625): Peer's link number. -/
def F.TWY_PEER.LINK : Fld := { reg := .TWY_PEER, bit := 5, width := 5, acc := .ro }
/-- TWY_PEER.VALID (12, R625): Peer known from CONFIG. -/
def F.TWY_PEER.VALID : Fld := { reg := .TWY_PEER, bit := 10, width := 1, acc := .ro }
/-- TWY_PEER.WIRING (12, R625): Peer matches R613 or R614. -/
def F.TWY_PEER.WIRING : Fld := { reg := .TWY_PEER, bit := 11, width := 1, acc := .ro }
/-- TWY_LANEMAP.LANE0 (12, R625): Physical lane of logical lane i; 0xF unused. -/
def F.TWY_LANEMAP.LANE0 : Fld := { reg := .TWY_LANEMAP, bit := 0, width := 4, acc := .ro }
/-- TWY_LANEMAP.LANE1 (12, R625): Physical lane of logical lane i; 0xF unused. -/
def F.TWY_LANEMAP.LANE1 : Fld := { reg := .TWY_LANEMAP, bit := 4, width := 4, acc := .ro, reset := 1 }
/-- TWY_LANEMAP.LANE2 (12, R625): Physical lane of logical lane i; 0xF unused. -/
def F.TWY_LANEMAP.LANE2 : Fld := { reg := .TWY_LANEMAP, bit := 8, width := 4, acc := .ro, reset := 2 }
/-- TWY_LANEMAP.LANE3 (12, R625): Physical lane of logical lane i; 0xF unused. -/
def F.TWY_LANEMAP.LANE3 : Fld := { reg := .TWY_LANEMAP, bit := 12, width := 4, acc := .ro, reset := 3 }
/-- TWY_LANEMAP.LANE4 (12, R625): Physical lane of logical lane i; 0xF unused. -/
def F.TWY_LANEMAP.LANE4 : Fld := { reg := .TWY_LANEMAP, bit := 16, width := 4, acc := .ro, reset := 4 }
/-- TWY_LANEMAP.LANE5 (12, R625): Physical lane of logical lane i; 0xF unused. -/
def F.TWY_LANEMAP.LANE5 : Fld := { reg := .TWY_LANEMAP, bit := 20, width := 4, acc := .ro, reset := 5 }
/-- TWY_LANEMAP.LANE6 (12, R625): Physical lane of logical lane i; 0xF unused. -/
def F.TWY_LANEMAP.LANE6 : Fld := { reg := .TWY_LANEMAP, bit := 24, width := 4, acc := .ro, reset := 6 }
/-- TWY_LANEMAP.LANE7 (12, R625): Physical lane of logical lane i; 0xF unused. -/
def F.TWY_LANEMAP.LANE7 : Fld := { reg := .TWY_LANEMAP, bit := 28, width := 4, acc := .ro, reset := 7 }
/-- TWY_LANEST.ST0 (12, R625): Lane l, l = 0–8: 0 active, 1 spare, 2 retired, 3 training. -/
def F.TWY_LANEST.ST0 : Fld := { reg := .TWY_LANEST, bit := 0, width := 2, acc := .ro }
/-- TWY_LANEST.ST1 (12, R625): Lane l, l = 0–8: 0 active, 1 spare, 2 retired, 3 training. -/
def F.TWY_LANEST.ST1 : Fld := { reg := .TWY_LANEST, bit := 2, width := 2, acc := .ro }
/-- TWY_LANEST.ST2 (12, R625): Lane l, l = 0–8: 0 active, 1 spare, 2 retired, 3 training. -/
def F.TWY_LANEST.ST2 : Fld := { reg := .TWY_LANEST, bit := 4, width := 2, acc := .ro }
/-- TWY_LANEST.ST3 (12, R625): Lane l, l = 0–8: 0 active, 1 spare, 2 retired, 3 training. -/
def F.TWY_LANEST.ST3 : Fld := { reg := .TWY_LANEST, bit := 6, width := 2, acc := .ro }
/-- TWY_LANEST.ST4 (12, R625): Lane l, l = 0–8: 0 active, 1 spare, 2 retired, 3 training. -/
def F.TWY_LANEST.ST4 : Fld := { reg := .TWY_LANEST, bit := 8, width := 2, acc := .ro }
/-- TWY_LANEST.ST5 (12, R625): Lane l, l = 0–8: 0 active, 1 spare, 2 retired, 3 training. -/
def F.TWY_LANEST.ST5 : Fld := { reg := .TWY_LANEST, bit := 10, width := 2, acc := .ro }
/-- TWY_LANEST.ST6 (12, R625): Lane l, l = 0–8: 0 active, 1 spare, 2 retired, 3 training. -/
def F.TWY_LANEST.ST6 : Fld := { reg := .TWY_LANEST, bit := 12, width := 2, acc := .ro }
/-- TWY_LANEST.ST7 (12, R625): Lane l, l = 0–8: 0 active, 1 spare, 2 retired, 3 training. -/
def F.TWY_LANEST.ST7 : Fld := { reg := .TWY_LANEST, bit := 14, width := 2, acc := .ro }
/-- TWY_LANEST.ST8 (12, R625): Lane l, l = 0–8: 0 active, 1 spare, 2 retired, 3 training. -/
def F.TWY_LANEST.ST8 : Fld := { reg := .TWY_LANEST, bit := 16, width := 2, acc := .ro, reset := 1 }
/-- TWY_TEST.LOOP (12, R625): Loop under R593; 0 none. -/
def F.TWY_TEST.LOOP : Fld := { reg := .TWY_TEST, bit := 0, width := 2, acc := .rw }
/-- TWY_TEST.PRBS (12, R625): 0 off, 1 PRBS7, 2 PRBS15, 3 PRBS31. -/
def F.TWY_TEST.PRBS : Fld := { reg := .TWY_TEST, bit := 2, width := 2, acc := .rw }
/-- TWY_TEST.LANES (12, R625): Bit l selects lane l. -/
def F.TWY_TEST.LANES : Fld := { reg := .TWY_TEST, bit := 4, width := 9, acc := .rw }
/-- TWY_TEST.FARLOOP_OK (12, R625): Peer's far-end loop honoured. -/
def F.TWY_TEST.FARLOOP_OK : Fld := { reg := .TWY_TEST, bit := 13, width := 1, acc := .rw }
/-- TWY_CLAMP.IRQ_MS (12, R625): Clamp duration for the interrupt, 1–65,535 ms; 0 reserved. -/
def F.TWY_CLAMP.IRQ_MS : Fld := { reg := .TWY_CLAMP, bit := 0, width := 16, acc := .rw, reset := 1000, lo := 1 }
/-- TWY_CLAMP.ACTIVE (12, R625): Rate loop clamped. -/
def F.TWY_CLAMP.ACTIVE : Fld := { reg := .TWY_CLAMP, bit := 16, width := 1, acc := .ro }
/-- TWY_CLAMPDUR.MS (12, R625): Present or last clamp duration; saturates. -/
def F.TWY_CLAMPDUR.MS : Fld := { reg := .TWY_CLAMPDUR, bit := 0, width := 32, acc := .ro }
/-- TWY_CRCERR.COUNT (12, R625): CRC mismatches; saturates. -/
def F.TWY_CRCERR.COUNT : Fld := { reg := .TWY_CRCERR, bit := 0, width := 32, acc := .ro }
/-- TWY_REPLAY.COUNT (12, R625): Replays; saturates. -/
def F.TWY_REPLAY.COUNT : Fld := { reg := .TWY_REPLAY, bit := 0, width := 32, acc := .ro }
/-- TWY_UNCORR.COUNT (12, R625): Uncorrectable codewords; saturates. -/
def F.TWY_UNCORR.COUNT : Fld := { reg := .TWY_UNCORR, bit := 0, width := 32, acc := .ro }
/-- TWY_AUTHERR.COUNT (12, R625): GCM tag failures; saturates. -/
def F.TWY_AUTHERR.COUNT : Fld := { reg := .TWY_AUTHERR, bit := 0, width := 32, acc := .ro }
/-- TWY_SKIP.COUNT (12, R625): Skip blocks deleted or repeated; saturates. -/
def F.TWY_SKIP.COUNT : Fld := { reg := .TWY_SKIP, bit := 0, width := 32, acc := .ro }
/-- TWY_CHANGES.PAUSES (12, R625): PAUSEs; saturates. -/
def F.TWY_CHANGES.PAUSES : Fld := { reg := .TWY_CHANGES, bit := 0, width := 16, acc := .ro }
/-- TWY_CHANGES.SWAPS (12, R625): Swaps; saturates. -/
def F.TWY_CHANGES.SWAPS : Fld := { reg := .TWY_CHANGES, bit := 16, width := 8, acc := .ro }
/-- TWY_CHANGES.EBBS (12, R625): Ebbs; saturates. -/
def F.TWY_CHANGES.EBBS : Fld := { reg := .TWY_CHANGES, bit := 24, width := 8, acc := .ro }
/-- TWY_TXFR_LO.COUNT (12, R625): Frames sent; 64-bit count. -/
def F.TWY_TXFR_LO.COUNT : Fld := { reg := .TWY_TXFR_LO, bit := 0, width := 32, acc := .ro }
/-- TWY_TXFR_HI.COUNT (12, R625): Frames sent; 64-bit count. -/
def F.TWY_TXFR_HI.COUNT : Fld := { reg := .TWY_TXFR_HI, bit := 0, width := 32, acc := .ro }
/-- TWY_NOCRD_LO.CYCLES (12, R625): Frame-clock cycles with a message held for lack of credit; 64-bit count. -/
def F.TWY_NOCRD_LO.CYCLES : Fld := { reg := .TWY_NOCRD_LO, bit := 0, width := 32, acc := .ro }
/-- TWY_NOCRD_HI.CYCLES (12, R625): Frame-clock cycles with a message held for lack of credit; 64-bit count. -/
def F.TWY_NOCRD_HI.CYCLES : Fld := { reg := .TWY_NOCRD_HI, bit := 0, width := 32, acc := .ro }
/-- TWY_LANEBER.RATE (12, R625): Last window's error rate, units of 10⁻⁸; saturates. -/
def F.TWY_LANEBER.RATE : Fld := { reg := .TWY_LANEBER, bit := 0, width := 16, acc := .ro }
/-- TWY_LANEERR.COUNT (12, R625): Lane errors; saturates. -/
def F.TWY_LANEERR.COUNT : Fld := { reg := .TWY_LANEERR, bit := 0, width := 32, acc := .ro }
/-- TWY_ROUTEA.HOP0 (12, R625): Next hops 0 and 1 to die d: [4:0] link, [5] valid, [7:6] reserved, [15:8] weight. -/
def F.TWY_ROUTEA.HOP0 : Fld := { reg := .TWY_ROUTEA, bit := 0, width := 16, acc := .ro }
/-- TWY_ROUTEA.HOP1 (12, R625): Next hops 0 and 1 to die d: [4:0] link, [5] valid, [7:6] reserved, [15:8] weight. -/
def F.TWY_ROUTEA.HOP1 : Fld := { reg := .TWY_ROUTEA, bit := 16, width := 16, acc := .ro }
/-- TWY_ROUTEB.HOP2 (12, R625): Next hops 2 and 3, coded as HOP0. -/
def F.TWY_ROUTEB.HOP2 : Fld := { reg := .TWY_ROUTEB, bit := 0, width := 16, acc := .ro }
/-- TWY_ROUTEB.HOP3 (12, R625): Next hops 2 and 3, coded as HOP0. -/
def F.TWY_ROUTEB.HOP3 : Fld := { reg := .TWY_ROUTEB, bit := 16, width := 16, acc := .ro }
/-- PCI_ID.VFS (13, R657): Virtual functions. -/
def F.PCI_ID.VFS : Fld := { reg := .PCI_ID, bit := 0, width := 6, acc := .ro, reset := 31 }
/-- PCI_ID.VECTORS (13, R657): MSI-X pool. -/
def F.PCI_ID.VECTORS : Fld := { reg := .PCI_ID, bit := 6, width := 12, acc := .ro, reset := 2048 }
/-- PCI_CTL.CPLTMO_MS (13, R657): Completion timeout under R651, 1–255 ms; 0 reserved. -/
def F.PCI_CTL.CPLTMO_MS : Fld := { reg := .PCI_CTL, bit := 0, width := 8, acc := .rw, reset := 10, lo := 1 }
/-- PCI_CTL.RO_DATA (13, R657): Relaxed Ordering on data writes under R638. -/
def F.PCI_CTL.RO_DATA : Fld := { reg := .PCI_CTL, bit := 8, width := 1, acc := .rw, reset := 1 }
/-- PCI_LINK.SPEED (13, R657): 1 2.5, 2 5, 3 8, 4 16, 5 32, 6 64 GT/s. -/
def F.PCI_LINK.SPEED : Fld := { reg := .PCI_LINK, bit := 0, width := 4, acc := .ro }
/-- PCI_LINK.WIDTH (13, R657): Lanes trained. -/
def F.PCI_LINK.WIDTH : Fld := { reg := .PCI_LINK, bit := 4, width := 5, acc := .ro }
/-- PCI_LINK.FLIT (13, R657): FLIT mode in force. -/
def F.PCI_LINK.FLIT : Fld := { reg := .PCI_LINK, bit := 9, width := 1, acc := .ro }
/-- PCI_LINK.DEGRADED (13, R657): Under R627. -/
def F.PCI_LINK.DEGRADED : Fld := { reg := .PCI_LINK, bit := 10, width := 1, acc := .ro }
/-- PCI_LINK.UP (13, R657): Link up. -/
def F.PCI_LINK.UP : Fld := { reg := .PCI_LINK, bit := 11, width := 1, acc := .ro }
/-- PCI_CNTCLR.CLR (13, R657): Writing 1 zeroes PCI_CPLTMO through PCI_NOCRD. -/
def F.PCI_CNTCLR.CLR : Fld := { reg := .PCI_CNTCLR, bit := 0, width := 1, acc := .wo, ownRow := true }
/-- PCI_CPLTMO.COUNT (13, R657): Completion timeouts; saturates. -/
def F.PCI_CPLTMO.COUNT : Fld := { reg := .PCI_CPLTMO, bit := 0, width := 32, acc := .ro }
/-- PCI_POISRX.COUNT (13, R657): Poisoned completions received; saturates. -/
def F.PCI_POISRX.COUNT : Fld := { reg := .PCI_POISRX, bit := 0, width := 32, acc := .ro }
/-- PCI_DBDROP.COUNT (13, R657): Doorbells discarded under R631; saturates. -/
def F.PCI_DBDROP.COUNT : Fld := { reg := .PCI_DBDROP, bit := 0, width := 32, acc := .ro }
/-- PCI_DMARD_LO.BYTES (13, R657): Bytes read from the host; 64-bit count. -/
def F.PCI_DMARD_LO.BYTES : Fld := { reg := .PCI_DMARD_LO, bit := 0, width := 32, acc := .ro }
/-- PCI_DMARD_HI.BYTES (13, R657): Bytes read from the host; 64-bit count. -/
def F.PCI_DMARD_HI.BYTES : Fld := { reg := .PCI_DMARD_HI, bit := 0, width := 32, acc := .ro }
/-- PCI_DMAWR_LO.BYTES (13, R657): Bytes written to the host; 64-bit count. -/
def F.PCI_DMAWR_LO.BYTES : Fld := { reg := .PCI_DMAWR_LO, bit := 0, width := 32, acc := .ro }
/-- PCI_DMAWR_HI.BYTES (13, R657): Bytes written to the host; 64-bit count. -/
def F.PCI_DMAWR_HI.BYTES : Fld := { reg := .PCI_DMAWR_HI, bit := 0, width := 32, acc := .ro }
/-- PCI_NOCRD_LO.CYCLES (13, R657): Frame-clock cycles with a write held for lack of host credit; 64-bit count. -/
def F.PCI_NOCRD_LO.CYCLES : Fld := { reg := .PCI_NOCRD_LO, bit := 0, width := 32, acc := .ro }
/-- PCI_NOCRD_HI.CYCLES (13, R657): Frame-clock cycles with a write held for lack of host credit; 64-bit count. -/
def F.PCI_NOCRD_HI.CYCLES : Fld := { reg := .PCI_NOCRD_HI, bit := 0, width := 32, acc := .ro }
/-- PCI_VFQ.BASE (13, R657): First queue of VF v. -/
def F.PCI_VFQ.BASE : Fld := { reg := .PCI_VFQ, bit := 0, width := 10, acc := .rw }
/-- PCI_VFQ.COUNT (13, R657): Queues, 0–64; 65–127 reserved. -/
def F.PCI_VFQ.COUNT : Fld := { reg := .PCI_VFQ, bit := 10, width := 7, acc := .rw, hi := 64 }
/-- PCI_VFWIN.BASE (13, R657): Window base, RA bits [31:16]. -/
def F.PCI_VFWIN.BASE : Fld := { reg := .PCI_VFWIN, bit := 0, width := 16, acc := .rw }
/-- PCI_VFWIN.LEN (13, R657): Length in 64 KiB units, 0–4,096; 4,097–8,191 reserved. -/
def F.PCI_VFWIN.LEN : Fld := { reg := .PCI_VFWIN, bit := 16, width := 13, acc := .rw, hi := 4096 }
/-- PCI_SELFQ.VFQ (13, R657): The reading VF's PCI_VFQ; 0 to the PF. -/
def F.PCI_SELFQ.VFQ : Fld := { reg := .PCI_SELFQ, bit := 0, width := 32, acc := .ro }
/-- PCI_SELFWIN.VFWIN (13, R657): The reading VF's PCI_VFWIN; 0 to the PF. -/
def F.PCI_SELFWIN.VFWIN : Fld := { reg := .PCI_SELFWIN, bit := 0, width := 32, acc := .ro }
/-- QOS_ID.CLASSES (14, R687): Service classes. -/
def F.QOS_ID.CLASSES : Fld := { reg := .QOS_ID, bit := 0, width := 5, acc := .ro, reset := 16 }
/-- QOS_ID.RES (14, R687): Regulated resources. -/
def F.QOS_ID.RES : Fld := { reg := .QOS_ID, bit := 5, width := 3, acc := .ro, reset := 3 }
/-- QOS_CTL.MISSLIM (14, R687): Misses per 1 ms window under R670, 1–65,535; 0 reserved. -/
def F.QOS_CTL.MISSLIM : Fld := { reg := .QOS_CTL, bit := 0, width := 16, acc := .rw, reset := 64, lo := 1 }
/-- QOS_SEL.LPDDR (14, R687): Class selection under R659; 3 reserved. -/
def F.QOS_SEL.LPDDR : Fld := { reg := .QOS_SEL, bit := 0, width := 2, acc := .rw, hi := 2 }
/-- QOS_SEL.TWY (14, R687): As LPDDR. -/
def F.QOS_SEL.TWY : Fld := { reg := .QOS_SEL, bit := 2, width := 2, acc := .rw, hi := 2 }
/-- QOS_SEL.PCI (14, R687): As LPDDR; 2 and 3 reserved. -/
def F.QOS_SEL.PCI : Fld := { reg := .QOS_SEL, bit := 4, width := 2, acc := .rw, hi := 1 }
/-- QOS_WAKEHOLD.HOLD (14, R687): Bit c holds cove c awake under R675. -/
def F.QOS_WAKEHOLD.HOLD : Fld := { reg := .QOS_WAKEHOLD, bit := 0, width := 16, acc := .rw, ownRow := true }
/-- QOS_PACE.AHEAD (14, R687): KiB per piece under R671, 16–255; lower values reserved. -/
def F.QOS_PACE.AHEAD : Fld := { reg := .QOS_PACE, bit := 0, width := 8, acc := .rw, reset := 64, lo := 16 }
/-- QOS_PACE.BPPCT (14, R687): Backpressure percent under R672, 1–100; other values reserved. -/
def F.QOS_PACE.BPPCT : Fld := { reg := .QOS_PACE, bit := 8, width := 7, acc := .rw, reset := 50, lo := 1, hi := 100 }
/-- QOS_PACE.BGMAX (14, R687): PREFETCH pieces in flight under R672, 1–63; 0 reserved. -/
def F.QOS_PACE.BGMAX : Fld := { reg := .QOS_PACE, bit := 15, width := 6, acc := .rw, reset := 8, lo := 1 }
/-- QOS_STATUS.OVERSUB (14, R687): Bit r set under R667. -/
def F.QOS_STATUS.OVERSUB : Fld := { reg := .QOS_STATUS, bit := 0, width := 3, acc := .ro }
/-- QOS_STATUS.ISTH_HOT (14, R687): Under R674. -/
def F.QOS_STATUS.ISTH_HOT : Fld := { reg := .QOS_STATUS, bit := 3, width := 1, acc := .ro }
/-- QOS_CLAMPIRQ.IRQ_MS (14, R687): Clamp duration for the interrupt, 1–65,535 ms; 0 reserved. -/
def F.QOS_CLAMPIRQ.IRQ_MS : Fld := { reg := .QOS_CLAMPIRQ, bit := 0, width := 16, acc := .rw, reset := 1000, lo := 1 }
/-- QOS_CLAMPIRQ.EN (14, R687): Interrupt under R665. -/
def F.QOS_CLAMPIRQ.EN : Fld := { reg := .QOS_CLAMPIRQ, bit := 16, width := 1, acc := .rw }
/-- QOS_CNTCLR.CLR (14, R687): Writing 1 zeroes QOS_MISS, QOS_MISSOVR and QOS_CLAMPDUR. -/
def F.QOS_CNTCLR.CLR : Fld := { reg := .QOS_CNTCLR, bit := 0, width := 1, acc := .wo, ownRow := true }
/-- QOS_CLAMPST.CLASSES (14, R687): Bit c set while class c is clamped under R664. -/
def F.QOS_CLAMPST.CLASSES : Fld := { reg := .QOS_CLAMPST, bit := 0, width := 16, acc := .ro }
/-- QOS_CLAMPDUR.MS (14, R687): Under R665; saturates. -/
def F.QOS_CLAMPDUR.MS : Fld := { reg := .QOS_CLAMPDUR, bit := 0, width := 32, acc := .ro }
/-- QOS_ISTHUSE.PCT (14, R687): Last window's Isthmus use under R673. -/
def F.QOS_ISTHUSE.PCT : Fld := { reg := .QOS_ISTHUSE, bit := 0, width := 7, acc := .ro }
/-- QOS_MARKA.VALUE (14, R687): Mark value. -/
def F.QOS_MARKA.VALUE : Fld := { reg := .QOS_MARKA, bit := 0, width := 16, acc := .rw }
/-- QOS_MARKA.MASK (14, R687): Mark bits compared. -/
def F.QOS_MARKA.MASK : Fld := { reg := .QOS_MARKA, bit := 16, width := 16, acc := .rw }
/-- QOS_MARKB.CLASS (14, R687): Class assigned. -/
def F.QOS_MARKB.CLASS : Fld := { reg := .QOS_MARKB, bit := 0, width := 4, acc := .rw }
/-- QOS_MARKB.VALID (14, R687): Entry valid. -/
def F.QOS_MARKB.VALID : Fld := { reg := .QOS_MARKB, bit := 4, width := 1, acc := .rw }
/-- QOS_RANGELO.BASE (14, R687): Die-local address bits [46:16] of the first unit. -/
def F.QOS_RANGELO.BASE : Fld := { reg := .QOS_RANGELO, bit := 0, width := 31, acc := .rw }
/-- QOS_RANGEHI.LIMIT (14, R687): Die-local address bits [46:16] of the last unit. -/
def F.QOS_RANGEHI.LIMIT : Fld := { reg := .QOS_RANGEHI, bit := 0, width := 31, acc := .rw }
/-- QOS_RANGEC.CLASS (14, R687): Class assigned. -/
def F.QOS_RANGEC.CLASS : Fld := { reg := .QOS_RANGEC, bit := 0, width := 4, acc := .rw }
/-- QOS_RANGEC.VALID (14, R687): Entry valid. -/
def F.QOS_RANGEC.VALID : Fld := { reg := .QOS_RANGEC, bit := 4, width := 1, acc := .rw }
/-- QOS_TOKA.RATE (14, R687): Refill rate in units of 0.25 GB/s; 0 gives no tokens. -/
def F.QOS_TOKA.RATE : Fld := { reg := .QOS_TOKA, bit := 0, width := 16, acc := .rw }
/-- QOS_TOKA.BURST (14, R687): Bucket limit in KiB. -/
def F.QOS_TOKA.BURST : Fld := { reg := .QOS_TOKA, bit := 16, width := 16, acc := .rw }
/-- QOS_TOKB.TARGET (14, R687): Latency target in units of 10 ns; 0 none. -/
def F.QOS_TOKB.TARGET : Fld := { reg := .QOS_TOKB, bit := 0, width := 12, acc := .rw }
/-- QOS_TOKB.MAXPCT (14, R687): Borrowing ceiling in percent of C_r, 1–100; other values reserved. -/
def F.QOS_TOKB.MAXPCT : Fld := { reg := .QOS_TOKB, bit := 12, width := 7, acc := .rw, reset := 100, lo := 1, hi := 100 }
/-- QOS_TOKB.MISSIRQ (14, R687): Interrupt under R670. -/
def F.QOS_TOKB.MISSIRQ : Fld := { reg := .QOS_TOKB, bit := 19, width := 1, acc := .rw }
/-- QOS_TOKB.WEIGHT (14, R687): Turn weight, 1–255; 0 reserved. -/
def F.QOS_TOKB.WEIGHT : Fld := { reg := .QOS_TOKB, bit := 20, width := 8, acc := .rw, reset := 16, lo := 1 }
/-- QOS_MISS.COUNT (14, R687): Guarantee misses; saturates. -/
def F.QOS_MISS.COUNT : Fld := { reg := .QOS_MISS, bit := 0, width := 32, acc := .ro }
/-- QOS_MISSOVR.COUNT (14, R687): Misses during actions of R668; saturates. -/
def F.QOS_MISSOVR.COUNT : Fld := { reg := .QOS_MISSOVR, bit := 0, width := 32, acc := .ro }
/-- BRK_ID.COVES (15, R742): Coves. -/
def F.BRK_ID.COVES : Fld := { reg := .BRK_ID, bit := 0, width := 5, acc := .ro, reset := 16 }
/-- BRK_ID.TSENS (15, R742): Temperature sensors. -/
def F.BRK_ID.TSENS : Fld := { reg := .BRK_ID, bit := 5, width := 7, acc := .ro, reset := 64 }
/-- BRK_ID.ISENS (15, R742): Current sensors. -/
def F.BRK_ID.ISENS : Fld := { reg := .BRK_ID, bit := 12, width := 5, acc := .ro, reset := 21 }
/-- BRK_ID.RAILS (15, R742): Steered rails. -/
def F.BRK_ID.RAILS : Fld := { reg := .BRK_ID, bit := 17, width := 3, acc := .ro, reset := 4 }
/-- BRK_PSCTL.SLACK_EN (15, R742): Slack permitted under R699. -/
def F.BRK_PSCTL.SLACK_EN : Fld := { reg := .BRK_PSCTL, bit := 0, width := 1, acc := .rw }
/-- BRK_PSCTL.SLACK_US (15, R742): Idle interval in µs, 1–65,535; 0 reserved. -/
def F.BRK_PSCTL.SLACK_US : Fld := { reg := .BRK_PSCTL, bit := 1, width := 16, acc := .rw, reset := 1000, lo := 1 }
/-- BRK_PSSTAT.STATE (15, R742): 0 flood, 1 neap, 2 slack. -/
def F.BRK_PSSTAT.STATE : Fld := { reg := .BRK_PSSTAT, bit := 0, width := 2, acc := .ro }
/-- BRK_PSSTAT.FCODE (15, R742): FCODE in force. -/
def F.BRK_PSSTAT.FCODE : Fld := { reg := .BRK_PSSTAT, bit := 2, width := 2, acc := .ro, reset := 3 }
/-- BRK_PSSTAT.THROTTLE (15, R742): Under R720. -/
def F.BRK_PSSTAT.THROTTLE : Fld := { reg := .BRK_PSSTAT, bit := 4, width := 1, acc := .ro }
/-- BRK_PSSTAT.LIMIT (15, R742): Under R712. -/
def F.BRK_PSSTAT.LIMIT : Fld := { reg := .BRK_PSSTAT, bit := 5, width := 1, acc := .ro }
/-- BRK_PSSTAT.DROOP (15, R742): An issue limit of R709 is in force. -/
def F.BRK_PSSTAT.DROOP : Fld := { reg := .BRK_PSSTAT, bit := 6, width := 1, acc := .ro }
/-- BRK_AVFSENV.FMIN (15, R742): Envelope floor; FMIN above FMAX reserved. -/
def F.BRK_AVFSENV.FMIN : Fld := { reg := .BRK_AVFSENV, bit := 0, width := 2, acc := .rw, reset := 3 }
/-- BRK_AVFSENV.FMAX (15, R742): Envelope top. -/
def F.BRK_AVFSENV.FMAX : Fld := { reg := .BRK_AVFSENV, bit := 2, width := 2, acc := .rw, reset := 3 }
/-- BRK_AVFSENV.MARGIN_PS (15, R742): Path slack under R736, 5–100 ps; other values reserved. -/
def F.BRK_AVFSENV.MARGIN_PS : Fld := { reg := .BRK_AVFSENV, bit := 8, width := 7, acc := .rw, reset := 20, lo := 5, hi := 100 }
/-- BRK_COVECTL.GATE_EN (15, R742): Bit c permits cove c to gate. -/
def F.BRK_COVECTL.GATE_EN : Fld := { reg := .BRK_COVECTL, bit := 0, width := 16, acc := .rw, reset := 65535 }
/-- BRK_COVECTL.IDLE_US (15, R742): Idle time before gating, 1–1,023 µs; 0 reserved. -/
def F.BRK_COVECTL.IDLE_US : Fld := { reg := .BRK_COVECTL, bit := 16, width := 10, acc := .rw, reset := 20, lo := 1 }
/-- BRK_DROOP.THR_MV (15, R742): Comparator threshold, 20–100 mV; other values reserved. -/
def F.BRK_DROOP.THR_MV : Fld := { reg := .BRK_DROOP, bit := 0, width := 7, acc := .rw, reset := 40, lo := 20, hi := 100 }
/-- BRK_THERM.THROTTLE_C (15, R742): Throttle point, 70–100 °C; other values reserved. -/
def F.BRK_THERM.THROTTLE_C : Fld := { reg := .BRK_THERM, bit := 0, width := 7, acc := .rw, reset := 100, lo := 70, hi := 100 }
/-- BRK_THERM.HOTTEST (15, R742): Hottest working sensor, °C, truncated. -/
def F.BRK_THERM.HOTTEST : Fld := { reg := .BRK_THERM, bit := 8, width := 8, acc := .ro }
/-- BRK_THERM.HOTIDX (15, R742): Its sensor number. -/
def F.BRK_THERM.HOTIDX : Fld := { reg := .BRK_THERM, bit := 16, width := 6, acc := .ro }
/-- BRK_PLACEENV.MAXHOPS (15, R742): Placement envelope, 1–78; other values reserved. -/
def F.BRK_PLACEENV.MAXHOPS : Fld := { reg := .BRK_PLACEENV, bit := 0, width := 7, acc := .rw, reset := 78, lo := 1, hi := 78 }
/-- BRK_CLAMPIRQ.IRQ_MS (15, R742): Clamp duration for the interrupt, 1–65,535 ms; 0 reserved. -/
def F.BRK_CLAMPIRQ.IRQ_MS : Fld := { reg := .BRK_CLAMPIRQ, bit := 0, width := 16, acc := .rw, reset := 1000, lo := 1 }
/-- BRK_CLAMPIRQ.EN (15, R742): Interrupt under R728. -/
def F.BRK_CLAMPIRQ.EN : Fld := { reg := .BRK_CLAMPIRQ, bit := 16, width := 1, acc := .rw }
/-- BRK_CLAMPST.LOOPS (15, R742): Bit l - 1 set while any instance of loop l is clamped. -/
def F.BRK_CLAMPST.LOOPS : Fld := { reg := .BRK_CLAMPST, bit := 0, width := 6, acc := .ro }
/-- BRK_ASMLIM.WATTS (15, R742): Assembly budget, 400–1,450 W; other values reserved. -/
def F.BRK_ASMLIM.WATTS : Fld := { reg := .BRK_ASMLIM, bit := 0, width := 11, acc := .rw, reset := 1450, lo := 400, hi := 1450 }
/-- BRK_CNTCLR.CLR (15, R742): Writing 1 zeroes BRK_OVERRIDES, BRK_THRCNT, BRK_CLAMPDUR and BRK_DROOPCNT. -/
def F.BRK_CNTCLR.CLR : Fld := { reg := .BRK_CNTCLR, bit := 0, width := 1, acc := .wo, ownRow := true }
/-- BRK_OVERRIDES.COUNT (15, R742): POLICY_OVERRIDE postings; saturates. -/
def F.BRK_OVERRIDES.COUNT : Fld := { reg := .BRK_OVERRIDES, bit := 0, width := 32, acc := .ro }
/-- BRK_THRCNT.COUNT (15, R742): Throttle and current-limit episodes; saturates. -/
def F.BRK_THRCNT.COUNT : Fld := { reg := .BRK_THRCNT, bit := 0, width := 32, acc := .ro }
/-- BRK_CLAMPDUR.MS (15, R742): Clamp duration of loop l; for loops 1 and 5, the longest of TWY_CLAMPDUR and of QOS_CLAMPDUR respectively; saturates. -/
def F.BRK_CLAMPDUR.MS : Fld := { reg := .BRK_CLAMPDUR, bit := 0, width := 32, acc := .ro }
/-- BRK_RAILCFG.AVSADDR (15, R742): AVSBus rail address. -/
def F.BRK_RAILCFG.AVSADDR : Fld := { reg := .BRK_RAILCFG, bit := 0, width := 4, acc := .ro }
/-- BRK_RAILSTAT.MV (15, R742): Last confirmed voltage, mV. -/
def F.BRK_RAILSTAT.MV : Fld := { reg := .BRK_RAILSTAT, bit := 0, width := 16, acc := .ro }
/-- BRK_RAILSTAT.AVSFAIL (15, R742): Under R691. -/
def F.BRK_RAILSTAT.AVSFAIL : Fld := { reg := .BRK_RAILSTAT, bit := 16, width := 1, acc := .ro }
/-- BRK_RAILLIM.AMPS (15, R742): Current limit of R712, 1–480 A; 0 and above 480 reserved. -/
def F.BRK_RAILLIM.AMPS : Fld := { reg := .BRK_RAILLIM, bit := 0, width := 9, acc := .rw, reset := 240, lo := 1, hi := 480 }
/-- BRK_COVESTAT.MV (15, R742): Regulator target, mV. -/
def F.BRK_COVESTAT.MV : Fld := { reg := .BRK_COVESTAT, bit := 0, width := 10, acc := .ro, reset := 500 }
/-- BRK_COVESTAT.STATE (15, R742): 0 AWAKE, 1 IDLE, 2 GATED, 3 WAKING. -/
def F.BRK_COVESTAT.STATE : Fld := { reg := .BRK_COVESTAT, bit := 10, width := 2, acc := .ro, reset := 2 }
/-- BRK_COVESTAT.DRP (15, R742): Issue limit in force. -/
def F.BRK_COVESTAT.DRP : Fld := { reg := .BRK_COVESTAT, bit := 12, width := 1, acc := .ro }
/-- BRK_DROOPCNT.COUNT (15, R742): Trips under R709; saturates. -/
def F.BRK_DROOPCNT.COUNT : Fld := { reg := .BRK_DROOPCNT, bit := 0, width := 32, acc := .ro }
/-- BRK_ISAMP.SAMPLE (15, R742): Layout of R717. -/
def F.BRK_ISAMP.SAMPLE : Fld := { reg := .BRK_ISAMP, bit := 0, width := 32, acc := .ro }
/-- BRK_ENERGY_LO.UJ (15, R742): Energy in µJ since cold reset; 64-bit count. -/
def F.BRK_ENERGY_LO.UJ : Fld := { reg := .BRK_ENERGY_LO, bit := 0, width := 32, acc := .ro }
/-- BRK_ENERGY_HI.UJ (15, R742): Energy in µJ since cold reset; 64-bit count. -/
def F.BRK_ENERGY_HI.UJ : Fld := { reg := .BRK_ENERGY_HI, bit := 0, width := 32, acc := .ro }
/-- BRK_TEMP.TEMP (15, R742): Reading in 0.25 °C units, signed. -/
def F.BRK_TEMP.TEMP : Fld := { reg := .BRK_TEMP, bit := 0, width := 12, acc := .ro }
/-- BRK_TEMP.FAIL (15, R742): Under R722. -/
def F.BRK_TEMP.FAIL : Fld := { reg := .BRK_TEMP, bit := 12, width := 1, acc := .ro }
/-- BRK_CDLIM.WATTS (15, R742): Limit sent to port Ss under R724; 0 when the port is not ACTIVE. -/
def F.BRK_CDLIM.WATTS : Fld := { reg := .BRK_CDLIM, bit := 0, width := 16, acc := .ro }
/-- HLD_ID.SLOTS (16, R784): Data-key slots. -/
def F.HLD_ID.SLOTS : Fld := { reg := .HLD_ID, bit := 0, width := 7, acc := .ro, reset := 64 }
/-- HLD_CTL.VECTOR (16, R784): MSI-X vector for DONE. -/
def F.HLD_CTL.VECTOR : Fld := { reg := .HLD_CTL, bit := 0, width := 11, acc := .rw }
/-- HLD_CTL.IRQ_EN (16, R784): Interrupt under R781. -/
def F.HLD_CTL.IRQ_EN : Fld := { reg := .HLD_CTL, bit := 11, width := 1, acc := .rw }
/-- HLD_CMD.OP (16, R784): Command under R782. -/
def F.HLD_CMD.OP : Fld := { reg := .HLD_CMD, bit := 0, width := 4, acc := .wo, ownRow := true }
/-- HLD_STAT.BUSY (16, R784): Command running. -/
def F.HLD_STAT.BUSY : Fld := { reg := .HLD_STAT, bit := 0, width := 1, acc := .ro }
/-- HLD_STAT.DONE (16, R784): Command completed. -/
def F.HLD_STAT.DONE : Fld := { reg := .HLD_STAT, bit := 1, width := 1, acc := .w1c }
/-- HLD_STAT.ERR (16, R784): Code under R782. -/
def F.HLD_STAT.ERR : Fld := { reg := .HLD_STAT, bit := 2, width := 3, acc := .ro }
/-- HLD_ROLE.ROLE (16, R784): 0 LISTEN, 1 WORKER, 2 CANDIDATE, 3 STEWARD, 4 WITHDRAWN. -/
def F.HLD_ROLE.ROLE : Fld := { reg := .HLD_ROLE, bit := 0, width := 3, acc := .ro }
/-- HLD_ROLE.QUAR (16, R784): This die is quarantined. -/
def F.HLD_ROLE.QUAR : Fld := { reg := .HLD_ROLE, bit := 3, width := 1, acc := .ro }
/-- HLD_ROLE.STEWARD (16, R784): Die number of the holder. -/
def F.HLD_ROLE.STEWARD : Fld := { reg := .HLD_ROLE, bit := 4, width := 5, acc := .ro }
/-- HLD_ROLE.SVALID (16, R784): A holder is known. -/
def F.HLD_ROLE.SVALID : Fld := { reg := .HLD_ROLE, bit := 9, width := 1, acc := .ro }
/-- HLD_EPOCH.EPOCH (16, R784): Highest epoch seen. -/
def F.HLD_EPOCH.EPOCH : Fld := { reg := .HLD_EPOCH, bit := 0, width := 32, acc := .ro }
/-- HLD_ROOTGEN.CUR (16, R784): Current record-root generation. -/
def F.HLD_ROOTGEN.CUR : Fld := { reg := .HLD_ROOTGEN, bit := 0, width := 1, acc := .ro }
/-- HLD_ROOTGEN.BOTH (16, R784): Two generations live. -/
def F.HLD_ROOTGEN.BOTH : Fld := { reg := .HLD_ROOTGEN, bit := 1, width := 1, acc := .ro }
/-- HLD_CNTCLR.CLR (16, R784): Writing 1 zeroes HLD_CONFLICTS and HLD_BADLEASE. -/
def F.HLD_CNTCLR.CLR : Fld := { reg := .HLD_CNTCLR, bit := 0, width := 1, acc := .wo, ownRow := true }
/-- HLD_CONFLICTS.COUNT (16, R784): STEWARD_CONFLICT events; saturates. -/
def F.HLD_CONFLICTS.COUNT : Fld := { reg := .HLD_CONFLICTS, bit := 0, width := 32, acc := .ro }
/-- HLD_BADLEASE.COUNT (16, R784): Invalid lease messages; saturates. -/
def F.HLD_BADLEASE.COUNT : Fld := { reg := .HLD_BADLEASE, bit := 0, width := 32, acc := .ro }
/-- HLD_QUAR.DIES (16, R784): Bit d set while die d is quarantined. -/
def F.HLD_QUAR.DIES : Fld := { reg := .HLD_QUAR, bit := 0, width := 32, acc := .ro }
/-- HLD_MEMBERS.DIES (16, R784): Bit d set while die d is enrolled. -/
def F.HLD_MEMBERS.DIES : Fld := { reg := .HLD_MEMBERS, bit := 0, width := 32, acc := .ro }
/-- HLD_ARG.VALUE (16, R784): Command argument i. -/
def F.HLD_ARG.VALUE : Fld := { reg := .HLD_ARG, bit := 0, width := 32, acc := .rw }
/-- HLD_RSP.VALUE (16, R784): Command result i. -/
def F.HLD_RSP.VALUE : Fld := { reg := .HLD_RSP, bit := 0, width := 32, acc := .ro }
/-- HLD_SLOTST.STATE (16, R784): 0 EMPTY, 1 ONE, 2 TWO. -/
def F.HLD_SLOTST.STATE : Fld := { reg := .HLD_SLOTST, bit := 0, width := 2, acc := .ro }
/-- HLD_SLOTST.CURGEN (16, R784): Current generation of slot s. -/
def F.HLD_SLOTST.CURGEN : Fld := { reg := .HLD_SLOTST, bit := 2, width := 1, acc := .ro }
/-- HLD_BUF.DATA (16, R784): Mailbox buffer word. -/
def F.HLD_BUF.DATA : Fld := { reg := .HLD_BUF, bit := 0, width := 32, acc := .rw }
/-- GLB_ID.PART (17, R823): Strel-3. -/
def F.GLB_ID.PART : Fld := { reg := .GLB_ID, bit := 0, width := 16, acc := .ro, reset := 851 }
/-- GLB_ID.STEP (17, R823): Stepping B0. -/
def F.GLB_ID.STEP : Fld := { reg := .GLB_ID, bit := 16, width := 8, acc := .ro, reset := 176 }
/-- GLB_FWVER.PATCH (17, R823): Running bundle, patch. -/
def F.GLB_FWVER.PATCH : Fld := { reg := .GLB_FWVER, bit := 0, width := 8, acc := .ro }
/-- GLB_FWVER.MINOR (17, R823): Minor version. -/
def F.GLB_FWVER.MINOR : Fld := { reg := .GLB_FWVER, bit := 8, width := 8, acc := .ro }
/-- GLB_FWVER.MAJOR (17, R823): Major version. -/
def F.GLB_FWVER.MAJOR : Fld := { reg := .GLB_FWVER, bit := 16, width := 8, acc := .ro, reset := 3 }
/-- GLB_STATUS.PHASE (17, R823): 0 HBOOT, 1 POWER, 2 BRINGUP, 3 READY, 4 RESET, 5 RECOVERY, 6 FAILED, 7 ROM recovery. -/
def F.GLB_STATUS.PHASE : Fld := { reg := .GLB_STATUS, bit := 0, width := 3, acc := .ro }
/-- GLB_STATUS.MIRRORED (17, R823): Under R21–R25. -/
def F.GLB_STATUS.MIRRORED : Fld := { reg := .GLB_STATUS, bit := 4, width := 1, acc := .ro }
/-- GLB_STATUS.HOST_WAIT (17, R823): Under R811. -/
def F.GLB_STATUS.HOST_WAIT : Fld := { reg := .GLB_STATUS, bit := 5, width := 1, acc := .ro }
/-- GLB_STATUS.LEAVING (17, R823): Under R819. -/
def F.GLB_STATUS.LEAVING : Fld := { reg := .GLB_STATUS, bit := 6, width := 1, acc := .ro }
/-- GLB_STATUS.LEFT (17, R823): Under R819. -/
def F.GLB_STATUS.LEFT : Fld := { reg := .GLB_STATUS, bit := 7, width := 1, acc := .ro }
/-- GLB_STRAP.TRAY (17, R823): Sampled under R789. -/
def F.GLB_STRAP.TRAY : Fld := { reg := .GLB_STRAP, bit := 0, width := 2, acc := .ro }
/-- GLB_STRAP.SLOT (17, R823): SLOT. -/
def F.GLB_STRAP.SLOT : Fld := { reg := .GLB_STRAP, bit := 2, width := 3, acc := .ro }
/-- GLB_STRAP.SBSEL (17, R823): SBSEL. -/
def F.GLB_STRAP.SBSEL : Fld := { reg := .GLB_STRAP, bit := 5, width := 1, acc := .ro }
/-- GLB_STRAP.RECOV (17, R823): 1 when RECOV_N was low. -/
def F.GLB_STRAP.RECOV : Fld := { reg := .GLB_STRAP, bit := 6, width := 1, acc := .ro }
/-- GLB_DIE.DIE (17, R823): Die number under R790. -/
def F.GLB_DIE.DIE : Fld := { reg := .GLB_DIE, bit := 0, width := 5, acc := .ro }
/-- GLB_CTL.HOST_GO (17, R823): Writing 1 ends the hold of R811. -/
def F.GLB_CTL.HOST_GO : Fld := { reg := .GLB_CTL, bit := 0, width := 1, acc := .wo, ownRow := true }
/-- GLB_CTL.LEAVE (17, R823): Writing 1 starts R819. -/
def F.GLB_CTL.LEAVE : Fld := { reg := .GLB_CTL, bit := 1, width := 1, acc := .wo, ownRow := true }
/-- GLB_CTL.REJOIN (17, R823): Writing 1 ends R821; the die rejoins under R817. -/
def F.GLB_CTL.REJOIN : Fld := { reg := .GLB_CTL, bit := 2, width := 1, acc := .wo, ownRow := true }
/-- GLB_RESET.KEY (17, R823): Must be 0x5A under R801. -/
def F.GLB_RESET.KEY : Fld := { reg := .GLB_RESET, bit := 0, width := 8, acc := .wo, ownRow := true }
/-- GLB_RESET.KIND (17, R823): 1 warm, 2 cold; 0 and 3 reserved. -/
def F.GLB_RESET.KIND : Fld := { reg := .GLB_RESET, bit := 8, width := 2, acc := .wo, lo := 1, hi := 2, ownRow := true }
/-- GLB_RSTCAUSE.CAUSE (17, R823): Source of the last reset under R800. -/
def F.GLB_RSTCAUSE.CAUSE : Fld := { reg := .GLB_RSTCAUSE, bit := 0, width := 4, acc := .ro }
/-- GLB_RSTCAUSE.WARMS (17, R823): Warm resets since cold reset; saturates. -/
def F.GLB_RSTCAUSE.WARMS : Fld := { reg := .GLB_RSTCAUSE, bit := 16, width := 16, acc := .ro }
/-- GLB_FAILCODE.CODE (17, R823): Code of the FATAL event under R815, as numbered in Events, Errors and Containment. -/
def F.GLB_FAILCODE.CODE : Fld := { reg := .GLB_FAILCODE, bit := 0, width := 16, acc := .ro }
/-- GLB_PHASET.US (17, R823): µs from the last reset's start to entry into phase p; saturates. -/
def F.GLB_PHASET.US : Fld := { reg := .GLB_PHASET, bit := 0, width := 32, acc := .ro }
/-- FWU_ID.COMPONENTS (18, R859): Components. -/
def F.FWU_ID.COMPONENTS : Fld := { reg := .FWU_ID, bit := 0, width := 8, acc := .ro, reset := 6 }
/-- FWU_ID.WINKIB (18, R859): Window size, KiB. -/
def F.FWU_ID.WINKIB : Fld := { reg := .FWU_ID, bit := 8, width := 8, acc := .ro, reset := 64 }
/-- FWU_CMD.OP (18, R859): 1 BEGIN, 2 CHUNK, 3 END, 4 CANCEL, 5 ACTIVATE, 6 ACT_CANCEL, 7 RECOV_EXIT; others reserved. -/
def F.FWU_CMD.OP : Fld := { reg := .FWU_CMD, bit := 0, width := 4, acc := .wo, lo := 1, hi := 7, ownRow := true }
/-- FWU_STAT.BUSY (18, R859): Command running; a write to FWU_CMD meanwhile is discarded with one NOTE event. -/
def F.FWU_STAT.BUSY : Fld := { reg := .FWU_STAT, bit := 0, width := 1, acc := .ro }
/-- FWU_STAT.DONE (18, R859): Command completed. -/
def F.FWU_STAT.DONE : Fld := { reg := .FWU_STAT, bit := 1, width := 1, acc := .w1c }
/-- FWU_STAT.ERR (18, R859): 0 OK, 1 HDR, 2 COMPONENT, 3 STEP, 4 SIG, 5 SVN, 6 COMPAT, 7 STATE, 8 TAG, 9 HASH, 10 FLASH, 11 MISMATCH, 12 BUSY. -/
def F.FWU_STAT.ERR : Fld := { reg := .FWU_STAT, bit := 2, width := 4, acc := .ro }
/-- FWU_ARG.VALUE (18, R859): Command arguments. -/
def F.FWU_ARG.VALUE : Fld := { reg := .FWU_ARG, bit := 0, width := 32, acc := .rw }
/-- FWU_OFFSET.BYTES (18, R859): Image offset of the chunk. -/
def F.FWU_OFFSET.BYTES : Fld := { reg := .FWU_OFFSET, bit := 0, width := 32, acc := .rw }
/-- FWU_LEN.BYTES (18, R859): Chunk length, 4–65,536, a multiple of 4; other values reserved. -/
def F.FWU_LEN.BYTES : Fld := { reg := .FWU_LEN, bit := 0, width := 17, acc := .rw, lo := 4, hi := 65536, step := 4 }
/-- FWU_ACTCTL.DRAIN_S (18, R859): Drain limit under R844, 1–65,535 s; 0 reserved. -/
def F.FWU_ACTCTL.DRAIN_S : Fld := { reg := .FWU_ACTCTL, bit := 0, width := 16, acc := .rw, reset := 60, lo := 1 }
/-- FWU_ACTCTL.TURN_S (18, R859): Turn limit under R846, 1–65,535 s; 0 reserved. -/
def F.FWU_ACTCTL.TURN_S : Fld := { reg := .FWU_ACTCTL, bit := 16, width := 16, acc := .rw, reset := 600, lo := 1 }
/-- FWU_ACTST.STATE (18, R859): 0 IDLE, 1 ARMED, 2 DRAINING, 3 OVERWRITING, 4 BOOTING. -/
def F.FWU_ACTST.STATE : Fld := { reg := .FWU_ACTST, bit := 0, width := 3, acc := .ro }
/-- FWU_ACTST.ROLLOUT (18, R859): A rollout is in progress in the tray. -/
def F.FWU_ACTST.ROLLOUT : Fld := { reg := .FWU_ACTST, bit := 3, width := 1, acc := .ro }
/-- FWU_ACTST.HALTED (18, R859): Under R846. -/
def F.FWU_ACTST.HALTED : Fld := { reg := .FWU_ACTST, bit := 4, width := 1, acc := .w1c }
/-- FWU_ACTST.TURNDIE (18, R859): Die whose turn runs. -/
def F.FWU_ACTST.TURNDIE : Fld := { reg := .FWU_ACTST, bit := 5, width := 5, acc := .ro }
/-- FWU_ACTST.TURNVALID (18, R859): TURNDIE is valid. -/
def F.FWU_ACTST.TURNVALID : Fld := { reg := .FWU_ACTST, bit := 10, width := 1, acc := .ro }
/-- FWU_ROOT.CUR (18, R859): Current root slot. -/
def F.FWU_ROOT.CUR : Fld := { reg := .FWU_ROOT, bit := 0, width := 2, acc := .ro }
/-- FWU_ROOT.REVOKED (18, R859): Bit i set when slot i is revoked. -/
def F.FWU_ROOT.REVOKED : Fld := { reg := .FWU_ROOT, bit := 2, width := 4, acc := .ro }
/-- FWU_SVN.FUSED (18, R859): Fused SVN, 0–64. -/
def F.FWU_SVN.FUSED : Fld := { reg := .FWU_SVN, bit := 0, width := 7, acc := .ro }
/-- FWU_RECOV.REASON (18, R859): Under R852; 0 not in recovery. -/
def F.FWU_RECOV.REASON : Fld := { reg := .FWU_RECOV, bit := 0, width := 3, acc := .ro }
/-- FWU_RUNBUNDLE.VERSION (18, R859): Running bundle, in the layout of GLB_FWVER. -/
def F.FWU_RUNBUNDLE.VERSION : Fld := { reg := .FWU_RUNBUNDLE, bit := 0, width := 24, acc := .ro }
/-- FWU_STGBUNDLE.VERSION (18, R859): Staged bundle. -/
def F.FWU_STGBUNDLE.VERSION : Fld := { reg := .FWU_STGBUNDLE, bit := 0, width := 24, acc := .ro }
/-- FWU_STGBUNDLE.COMPLETE (18, R859): Under R839. -/
def F.FWU_STGBUNDLE.COMPLETE : Fld := { reg := .FWU_STGBUNDLE, bit := 24, width := 1, acc := .ro }
/-- FWU_COMPST.STATE (18, R859): 0 EMPTY, 1 RECEIVING, 2 VERIFIED, 3 INVALID. -/
def F.FWU_COMPST.STATE : Fld := { reg := .FWU_COMPST, bit := 0, width := 2, acc := .ro }
/-- FWU_COMPST.LASTERR (18, R859): Last error, coded as ERR. -/
def F.FWU_COMPST.LASTERR : Fld := { reg := .FWU_COMPST, bit := 2, width := 4, acc := .ro }
/-- FWU_COMPST.VERSION (18, R859): Staged image's VERSION. -/
def F.FWU_COMPST.VERSION : Fld := { reg := .FWU_COMPST, bit := 8, width := 24, acc := .ro }
/-- FWU_WIN.DATA (18, R859): Chunk buffer. -/
def F.FWU_WIN.DATA : Fld := { reg := .FWU_WIN, bit := 0, width := 32, acc := .wo }
/-- EVT_ID.RECS (19, R884): Records per ring. -/
def F.EVT_ID.RECS : Fld := { reg := .EVT_ID, bit := 0, width := 13, acc := .ro, reset := 4096 }
/-- EVT_ID.RINGS (19, R884): Rings. -/
def F.EVT_ID.RINGS : Fld := { reg := .EVT_ID, bit := 13, width := 6, acc := .ro, reset := 32 }
/-- EVT_CTL.VECTOR (19, R884): Pool vector under R874. -/
def F.EVT_CTL.VECTOR : Fld := { reg := .EVT_CTL, bit := 0, width := 11, acc := .rw }
/-- EVT_CTL.IRQSEV (19, R884): Bit s enables interrupts for severity s. -/
def F.EVT_CTL.IRQSEV : Fld := { reg := .EVT_CTL, bit := 12, width := 4, acc := .rw }
/-- EVT_STAT.IRQPEND (19, R884): Under R874. -/
def F.EVT_STAT.IRQPEND : Fld := { reg := .EVT_STAT, bit := 0, width := 1, acc := .w1c }
/-- EVT_STAT.VECOWN (19, R884): Under R875. -/
def F.EVT_STAT.VECOWN : Fld := { reg := .EVT_STAT, bit := 1, width := 1, acc := .w1c }
/-- EVT_HEAD.COUNT (19, R884): Records consumed, under R866 and R871. -/
def F.EVT_HEAD.COUNT : Fld := { reg := .EVT_HEAD, bit := 0, width := 32, acc := .rw, ownRow := true }
/-- EVT_TAIL.COUNT (19, R884): Records written; wraps. -/
def F.EVT_TAIL.COUNT : Fld := { reg := .EVT_TAIL, bit := 0, width := 32, acc := .ro }
/-- EVT_LOST.COUNT (19, R884): Records not written under R870 and R872; saturates. -/
def F.EVT_LOST.COUNT : Fld := { reg := .EVT_LOST, bit := 0, width := 32, acc := .ro }
/-- EVT_CNTCLR.CLR (19, R884): Writing 1 zeroes EVT_LOST and, from the PF, EVT_SEVCNT. -/
def F.EVT_CNTCLR.CLR : Fld := { reg := .EVT_CNTCLR, bit := 0, width := 1, acc := .wo, ownRow := true }
/-- EVT_INJ.CODE (19, R884): Injects an event under R883. -/
def F.EVT_INJ.CODE : Fld := { reg := .EVT_INJ, bit := 0, width := 16, acc := .wo, ownRow := true }
/-- EVT_SEVCNT.COUNT (19, R884): Events of severity s posted; saturates. -/
def F.EVT_SEVCNT.COUNT : Fld := { reg := .EVT_SEVCNT, bit := 0, width := 32, acc := .ro }
/-- EVT_PVEC.CLAMP (19, R884): Pool vector for POLICY_CLAMP interrupts. -/
def F.EVT_PVEC.CLAMP : Fld := { reg := .EVT_PVEC, bit := 0, width := 11, acc := .rw }
/-- EVT_PVEC.GMISS (19, R884): Pool vector for QOS_GMISS interrupts. -/
def F.EVT_PVEC.GMISS : Fld := { reg := .EVT_PVEC, bit := 16, width := 11, acc := .rw }
/-- EVT_PEND.CLAMP (19, R884): Under R876. -/
def F.EVT_PEND.CLAMP : Fld := { reg := .EVT_PEND, bit := 0, width := 1, acc := .w1c }
/-- EVT_PEND.GMISS (19, R884): Under R876. -/
def F.EVT_PEND.GMISS : Fld := { reg := .EVT_PEND, bit := 1, width := 1, acc := .w1c }
/-- EVT_REC.WORD (19, R884): Word w of the record in slot i of the reading function's ring. -/
def F.EVT_REC.WORD : Fld := { reg := .EVT_REC, bit := 0, width := 32, acc := .ro }

/-- Where a register stands: BAR0 offset of index 0, distance of its indexes, the first index and one past the last,
and the same for an inner index (`SHL_CAP#s.j` and the like); the flattened index is `outer * icount + inner`. -/
structure RegInfo where
  reg : Reg
  off : Nat
  stride : Nat := 0
  count : Nat := 1
  first : Nat := 0
  istride : Nat := 0
  icount : Nat := 1
  flds : List Fld
  deriving DecidableEq, Repr

/-- The register tables, rows 0 to 19. -/
def Reg.rows0 : List RegInfo := [
  { reg := .MSH_ID, off := 0x100000, flds := [F.MSH_ID.COLS, F.MSH_ID.ROWS, F.MSH_ID.COVES] },
  { reg := .MSH_CTL, off := 0x100004, flds := [F.MSH_CTL.STRIDE_EN, F.MSH_CTL.STARVE_N] },
  { reg := .MSH_URGCAP, off := 0x100008, flds := [F.MSH_URGCAP.INTERVAL] },
  { reg := .MSH_TMO, off := 0x10000C, flds := [F.MSH_TMO.TMO_US] },
  { reg := .MSH_ISTHLIM, off := 0x100010, flds := [F.MSH_ISTHLIM.DEGRADE_LIM, F.MSH_ISTHLIM.DOWN_LIM] },
  { reg := .MSH_COVEAWAKE, off := 0x100018, flds := [F.MSH_COVEAWAKE.AWAKE] },
  { reg := .MSH_CNTCLR, off := 0x10001C, flds := [F.MSH_CNTCLR.CLR] },
  { reg := .MSH_CRCERR, off := 0x100020, flds := [F.MSH_CRCERR.COUNT] },
  { reg := .MSH_TMOCNT, off := 0x100024, flds := [F.MSH_TMOCNT.COUNT] },
  { reg := .MSH_URGHELD, off := 0x100028, flds := [F.MSH_URGHELD.COUNT] },
  { reg := .MSH_ISTHWEAK_LO, off := 0x100030, flds := [F.MSH_ISTHWEAK_LO.WEAK] },
  { reg := .MSH_ISTHWEAK_HI, off := 0x100034, flds := [F.MSH_ISTHWEAK_HI.WEAK] },
  { reg := .MSH_ISTHS2N_LO, off := 0x100040, flds := [F.MSH_ISTHS2N_LO.FLITS] },
  { reg := .MSH_ISTHS2N_HI, off := 0x100044, flds := [F.MSH_ISTHS2N_HI.FLITS] },
  { reg := .MSH_ISTHN2S_LO, off := 0x100048, flds := [F.MSH_ISTHN2S_LO.FLITS] },
  { reg := .MSH_ISTHN2S_HI, off := 0x10004C, flds := [F.MSH_ISTHN2S_HI.FLITS] },
  { reg := .MSH_ISTHBP_LO, off := 0x100050, flds := [F.MSH_ISTHBP_LO.CYCLES] },
  { reg := .MSH_ISTHBP_HI, off := 0x100054, flds := [F.MSH_ISTHBP_HI.CYCLES] },
  { reg := .MSH_SHAREWT, off := 0x100100, stride := 4, count := 16, flds := [F.MSH_SHAREWT.WEIGHT] },
  { reg := .MSH_ISTHERR, off := 0x100200, stride := 4, count := 48, flds := [F.MSH_ISTHERR.S2N, F.MSH_ISTHERR.N2S] }]

/-- The register tables, rows 20 to 39. -/
def Reg.rows1 : List RegInfo := [
  { reg := .MSH_WAKECNT, off := 0x100400, stride := 4, count := 16, flds := [F.MSH_WAKECNT.COUNT] },
  { reg := .RFB_ID, off := 0x200000, flds := [F.RFB_ID.BANKS, F.RFB_ID.SECTOR, F.RFB_ID.META] },
  { reg := .RFB_PLACE, off := 0x200004, flds := [F.RFB_PLACE.LOCAL_SLOTS] },
  { reg := .RFB_REFENV, off := 0x200008, flds := [F.RFB_REFENV.MIN_BAND, F.RFB_REFENV.MAX_BAND] },
  { reg := .RFB_SCRUB, off := 0x20000C, flds := [F.RFB_SCRUB.PERIOD_MS] },
  { reg := .RFB_BAR4CTL, off := 0x200010, flds := [F.RFB_BAR4CTL.EN] },
  { reg := .RFB_CNTCLR, off := 0x200014, flds := [F.RFB_CNTCLR.CLR] },
  { reg := .RFB_INJADDR, off := 0x200018, flds := [F.RFB_INJADDR.ADDR] },
  { reg := .RFB_INJCTL, off := 0x20001C, flds := [F.RFB_INJCTL.BYTES, F.RFB_INJCTL.VIEW, F.RFB_INJCTL.ARM, F.RFB_INJCTL.ARMED] },
  { reg := .RFB_CECNT, off := 0x200020, flds := [F.RFB_CECNT.COUNT] },
  { reg := .RFB_UECNT, off := 0x200024, flds := [F.RFB_UECNT.COUNT] },
  { reg := .RFB_TALLYERR, off := 0x200028, flds := [F.RFB_TALLYERR.COUNT] },
  { reg := .RFB_SPARED, off := 0x20002C, flds := [F.RFB_SPARED.ROWS] },
  { reg := .RFB_UEADDR, off := 0x200030, flds := [F.RFB_UEADDR.VIEW, F.RFB_UEADDR.ADDR] },
  { reg := .RFB_UEMARK, off := 0x200034, flds := [F.RFB_UEMARK.MARK] },
  { reg := .RFB_SCRUBPASS, off := 0x200038, flds := [F.RFB_SCRUBPASS.COUNT] },
  { reg := .RFB_CONFLICT_LO, off := 0x200040, flds := [F.RFB_CONFLICT_LO.CYCLES] },
  { reg := .RFB_CONFLICT_HI, off := 0x200044, flds := [F.RFB_CONFLICT_HI.CYCLES] },
  { reg := .RFB_REFWAIT_LO, off := 0x200048, flds := [F.RFB_REFWAIT_LO.CYCLES] },
  { reg := .RFB_REFWAIT_HI, off := 0x20004C, flds := [F.RFB_REFWAIT_HI.CYCLES] }]

/-- The register tables, rows 40 to 59. -/
def Reg.rows2 : List RegInfo := [
  { reg := .RFB_REFSTAT, off := 0x200100, stride := 4, count := 16, flds := [F.RFB_REFSTAT.BAND, F.RFB_REFSTAT.OVERRIDE, F.RFB_REFSTAT.SENSFAIL, F.RFB_REFSTAT.TEMP] },
  { reg := .MEM_ID, off := 0x300000, flds := [F.MEM_ID.CTRLS, F.MEM_ID.CHANS] },
  { reg := .MEM_CFG, off := 0x300004, flds := [F.MEM_CFG.RATE, F.MEM_CFG.DENSITY, F.MEM_CFG.RANKS2] },
  { reg := .MEM_CAP, off := 0x300008, flds := [F.MEM_CAP.UNITS] },
  { reg := .MEM_SCRUB, off := 0x30000C, flds := [F.MEM_SCRUB.PERIOD_H] },
  { reg := .MEM_RETRAIN, off := 0x300010, flds := [F.MEM_RETRAIN.PERIOD_MS, F.MEM_RETRAIN.DRIFT_PS, F.MEM_RETRAIN.CE_LIM] },
  { reg := .MEM_KEYSTAT, off := 0x300014, flds := [F.MEM_KEYSTAT.FILLING] },
  { reg := .MEM_CNTCLR, off := 0x300018, flds := [F.MEM_CNTCLR.CLR] },
  { reg := .MEM_CHUP_LO, off := 0x300020, flds := [F.MEM_CHUP_LO.UP] },
  { reg := .MEM_CHUP_HI, off := 0x300024, flds := [F.MEM_CHUP_HI.UP] },
  { reg := .MEM_UEADDR_LO, off := 0x300028, flds := [F.MEM_UEADDR_LO.D] },
  { reg := .MEM_UEADDR_HI, off := 0x30002C, flds := [F.MEM_UEADDR_HI.D] },
  { reg := .MEM_ROTSTAT, off := 0x300100, stride := 4, count := 64, flds := [F.MEM_ROTSTAT.PENDING, F.MEM_ROTSTAT.CURGEN] },
  { reg := .MEM_CHSTAT, off := 0x300200, stride := 4, count := 48, flds := [F.MEM_CHSTAT.CE, F.MEM_CHSTAT.RETRAINS, F.MEM_CHSTAT.MR4, F.MEM_CHSTAT.HOT] },
  { reg := .MEM_KEYMAP, off := 0x301000, stride := 4, count := 1366, flds := [F.MEM_KEYMAP.SEL0, F.MEM_KEYMAP.SEL1, F.MEM_KEYMAP.SEL2, F.MEM_KEYMAP.SEL3, F.MEM_KEYMAP.VALID0, F.MEM_KEYMAP.VALID1, F.MEM_KEYMAP.VALID2, F.MEM_KEYMAP.VALID3] },
  { reg := .XLT_ID, off := 0x400000, flds := [F.XLT_ID.SEGS, F.XLT_ID.L1, F.XLT_ID.WINDOWS, F.XLT_ID.L2K] },
  { reg := .XLT_CTL, off := 0x400004, flds := [F.XLT_CTL.INB_GLOBAL] },
  { reg := .XLT_APERCTL, off := 0x400008, flds := [F.XLT_APERCTL.DIES] },
  { reg := .XLT_INVTMO, off := 0x40000C, flds := [F.XLT_INVTMO.MS] },
  { reg := .XLT_PRITMO, off := 0x400010, flds := [F.XLT_PRITMO.MS] }]

/-- The register tables, rows 60 to 79. -/
def Reg.rows3 : List RegInfo := [
  { reg := .XLT_APERBASE_LO, off := 0x400018, flds := [F.XLT_APERBASE_LO.BASE] },
  { reg := .XLT_APERBASE_HI, off := 0x40001C, flds := [F.XLT_APERBASE_HI.BASE] },
  { reg := .XLT_CTXCMD, off := 0x400020, flds := [F.XLT_CTXCMD.ASID, F.XLT_CTXCMD.OP] },
  { reg := .XLT_CTXA, off := 0x400024, flds := [F.XLT_CTXA.PASID, F.XLT_CTXA.FUNC, F.XLT_CTXA.MODE, F.XLT_CTXA.PRI_EN, F.XLT_CTXA.BOUND] },
  { reg := .XLT_CTXB, off := 0x400028, flds := [F.XLT_CTXB.KEYSEL] },
  { reg := .XLT_CTXSTAT, off := 0x40002C, flds := [F.XLT_CTXSTAT.BUSY, F.XLT_CTXSTAT.ERR] },
  { reg := .XLT_CTXGEN, off := 0x400030, flds := [F.XLT_CTXGEN.GEN] },
  { reg := .XLT_SEGCMD, off := 0x400040, flds := [F.XLT_SEGCMD.ASID, F.XLT_SEGCMD.SEG, F.XLT_SEGCMD.OP] },
  { reg := .XLT_SEGATTR, off := 0x400044, flds := [F.XLT_SEGATTR.VALID, F.XLT_SEGATTR.R, F.XLT_SEGATTR.W, F.XLT_SEGATTR.X, F.XLT_SEGATTR.A, F.XLT_SEGATTR.HOST, F.XLT_SEGATTR.KEYSEL] },
  { reg := .XLT_SEGSTART_LO, off := 0x400048, flds := [F.XLT_SEGSTART_LO.START] },
  { reg := .XLT_SEGSTART_HI, off := 0x40004C, flds := [F.XLT_SEGSTART_HI.START] },
  { reg := .XLT_SEGLEN, off := 0x400050, flds := [F.XLT_SEGLEN.UNITS] },
  { reg := .XLT_SEGBASE_LO, off := 0x400058, flds := [F.XLT_SEGBASE_LO.BASE] },
  { reg := .XLT_SEGBASE_HI, off := 0x40005C, flds := [F.XLT_SEGBASE_HI.BASE] },
  { reg := .XLT_SEGSTAT, off := 0x400060, flds := [F.XLT_SEGSTAT.BUSY, F.XLT_SEGSTAT.ERR] },
  { reg := .XLT_INV, off := 0x400070, flds := [F.XLT_INV.ASID] },
  { reg := .XLT_INVSTAT, off := 0x400074, flds := [F.XLT_INVSTAT.BUSY, F.XLT_INVSTAT.ABORTED, F.XLT_INVSTAT.SEQ] },
  { reg := .XLT_CNTCLR, off := 0x400078, flds := [F.XLT_CNTCLR.CLR] },
  { reg := .XLT_L1MISS, off := 0x400080, flds := [F.XLT_L1MISS.COUNT] },
  { reg := .XLT_L2MISS, off := 0x400084, flds := [F.XLT_L2MISS.COUNT] }]

/-- The register tables, rows 80 to 99. -/
def Reg.rows4 : List RegInfo := [
  { reg := .XLT_ATSREQ, off := 0x400088, flds := [F.XLT_ATSREQ.COUNT] },
  { reg := .XLT_PRIREQ, off := 0x40008C, flds := [F.XLT_PRIREQ.COUNT] },
  { reg := .XLT_FAULTS, off := 0x400090, flds := [F.XLT_FAULTS.COUNT] },
  { reg := .XLT_RETRANS, off := 0x400094, flds := [F.XLT_RETRANS.COUNT] },
  { reg := .XLT_WINSRC, off := 0x400100, stride := 4, count := 64, flds := [F.XLT_WINSRC.DIES] },
  { reg := .TQ_ID, off := 0x500000, flds := [F.TQ_ID.QUEUES, F.TQ_ID.FERRY, F.TQ_ID.RECKON, F.TQ_ID.GATHER] },
  { reg := .TQ_CTL, off := 0x500004, flds := [F.TQ_CTL.GANG_MIN] },
  { reg := .TQ_WAITDEF, off := 0x500008, flds := [F.TQ_WAITDEF.MS] },
  { reg := .TQ_COLLTMO, off := 0x50000C, flds := [F.TQ_COLLTMO.MS] },
  { reg := .TQ_KLIMIT, off := 0x500010, flds := [F.TQ_KLIMIT.US] },
  { reg := .TQ_QCMD, off := 0x500014, flds := [F.TQ_QCMD.QUEUE, F.TQ_QCMD.OP] },
  { reg := .TQ_QSTAT, off := 0x500018, flds := [F.TQ_QSTAT.BUSY, F.TQ_QSTAT.STATE, F.TQ_QSTAT.ERR] },
  { reg := .TQ_GLBCNT, off := 0x50001C, flds := [F.TQ_GLBCNT.BASE, F.TQ_GLBCNT.COUNT] },
  { reg := .TQ_CNTCLR, off := 0x500020, flds := [F.TQ_CNTCLR.CLR] },
  { reg := .TQ_REFUSED, off := 0x500024, flds := [F.TQ_REFUSED.COUNT] },
  { reg := .TQ_DBOVF, off := 0x500028, flds := [F.TQ_DBOVF.COUNT] },
  { reg := .TQ_ACCEPTED_LO, off := 0x500030, flds := [F.TQ_ACCEPTED_LO.COUNT] },
  { reg := .TQ_ACCEPTED_HI, off := 0x500034, flds := [F.TQ_ACCEPTED_HI.COUNT] },
  { reg := .TQ_QD, off := 0x500040, stride := 4, count := 16, flds := [F.TQ_QD.WORD] },
  { reg := .TQ_ENGSTAT, off := 0x500100, stride := 4, count := 48, flds := [F.TQ_ENGSTAT.INFLIGHT, F.TQ_ENGSTAT.QUEUES, F.TQ_ENGSTAT.GANG] }]

/-- The register tables, rows 100 to 119. -/
def Reg.rows5 : List RegInfo := [
  { reg := .TQ_WINCNT, off := 0x500200, stride := 4, count := 64, flds := [F.TQ_WINCNT.BASE, F.TQ_WINCNT.COUNT] },
  { reg := .TQ_CNT_LO, off := 0x580000, stride := 8, count := 65536, flds := [F.TQ_CNT_LO.VALUE] },
  { reg := .TQ_CNT_HI, off := 0x580004, stride := 8, count := 65536, flds := [F.TQ_CNT_HI.VALUE] },
  { reg := .BEAD_ID, off := 0x600000, flds := [F.BEAD_ID.CORES, F.BEAD_ID.ISKIB, F.BEAD_ID.KQ] },
  { reg := .BEAD_CTL, off := 0x600004, flds := [F.BEAD_CTL.PENDMAX, F.BEAD_CTL.HWRETRY] },
  { reg := .BEAD_FAULT, off := 0x600008, flds := [F.BEAD_FAULT.CAUSE, F.BEAD_FAULT.LATE, F.BEAD_FAULT.SUB, F.BEAD_FAULT.VALID] },
  { reg := .BEAD_FAULTLOC, off := 0x60000C, flds := [F.BEAD_FAULTLOC.X, F.BEAD_FAULTLOC.Y, F.BEAD_FAULTLOC.CORE] },
  { reg := .BEAD_FAULTQ, off := 0x600010, flds := [F.BEAD_FAULTQ.QUEUE, F.BEAD_FAULTQ.ENGINE, F.BEAD_FAULTQ.DEVICE] },
  { reg := .BEAD_FAULTPC, off := 0x600014, flds := [F.BEAD_FAULTPC.PC] },
  { reg := .BEAD_FAULTADDR_LO, off := 0x600018, flds := [F.BEAD_FAULTADDR_LO.ADDR] },
  { reg := .BEAD_FAULTADDR_HI, off := 0x60001C, flds := [F.BEAD_FAULTADDR_HI.ADDR] },
  { reg := .BEAD_FAULTASN_LO, off := 0x600020, flds := [F.BEAD_FAULTASN_LO.ASN] },
  { reg := .BEAD_FAULTASN_HI, off := 0x600024, flds := [F.BEAD_FAULTASN_HI.ASN] },
  { reg := .BEAD_CNTCLR, off := 0x600028, flds := [F.BEAD_CNTCLR.CLR] },
  { reg := .BEAD_FAULTS, off := 0x60002C, flds := [F.BEAD_FAULTS.COUNT] },
  { reg := .BEAD_RETRIES, off := 0x600030, flds := [F.BEAD_RETRIES.COUNT] },
  { reg := .BEAD_LAUNCHES_LO, off := 0x600038, flds := [F.BEAD_LAUNCHES_LO.COUNT] },
  { reg := .BEAD_LAUNCHES_HI, off := 0x60003C, flds := [F.BEAD_LAUNCHES_HI.COUNT] },
  { reg := .BEAD_AVAIL, off := 0x600100, stride := 4, count := 96, flds := [F.BEAD_AVAIL.AVAIL] },
  { reg := .BEAD_BUSY, off := 0x600200, stride := 4, count := 16, flds := [F.BEAD_BUSY.RUNNING, F.BEAD_BUSY.PENDING] }]

/-- The register tables, rows 120 to 139. -/
def Reg.rows6 : List RegInfo := [
  { reg := .TLY_ID, off := 0x700000, flds := [F.TLY_ID.KMAXFP, F.TLY_ID.KMAXINT] },
  { reg := .TLY_CTXCMD, off := 0x700004, flds := [F.TLY_CTXCMD.ASID, F.TLY_CTXCMD.OP] },
  { reg := .TLY_CTXA, off := 0x700008, flds := [F.TLY_CTXA.KINT, F.TLY_CTXA.KFP, F.TLY_CTXA.ACCBITS, F.TLY_CTXA.BLKLOG2] },
  { reg := .TLY_CTXSTAT, off := 0x70000C, flds := [F.TLY_CTXSTAT.BUSY, F.TLY_CTXSTAT.ERR] },
  { reg := .TLY_CNTCLR, off := 0x700010, flds := [F.TLY_CNTCLR.CLR] },
  { reg := .TLY_PASS, off := 0x700014, flds := [F.TLY_PASS.COUNT] },
  { reg := .TLY_FAIL, off := 0x700018, flds := [F.TLY_FAIL.COUNT] },
  { reg := .TLY_UNCHECKED, off := 0x70001C, flds := [F.TLY_UNCHECKED.COUNT] },
  { reg := .TLY_GAP, off := 0x700020, flds := [F.TLY_GAP.COUNT] },
  { reg := .TLY_DIGERR, off := 0x700024, flds := [F.TLY_DIGERR.COUNT] },
  { reg := .TLY_TALLYERR, off := 0x700028, flds := [F.TLY_TALLYERR.COUNT] },
  { reg := .TLY_RECKQ, off := 0x70002C, flds := [F.TLY_RECKQ.WAITING] },
  { reg := .TLY_LASTFAIL_LO, off := 0x700030, flds := [F.TLY_LASTFAIL_LO.ASN] },
  { reg := .TLY_LASTFAIL_HI, off := 0x700034, flds := [F.TLY_LASTFAIL_HI.ASN] },
  { reg := .TLY_LASTFAILQ, off := 0x700038, flds := [F.TLY_LASTFAILQ.QUEUE] },
  { reg := .TLY_HOLD_LO, off := 0x700040, flds := [F.TLY_HOLD_LO.CYCLES] },
  { reg := .TLY_HOLD_HI, off := 0x700044, flds := [F.TLY_HOLD_HI.CYCLES] },
  { reg := .HBL_ID, off := 0x800000, flds := [F.HBL_ID.SLOTS, F.HBL_ID.AREAK] },
  { reg := .HBL_CTL, off := 0x800004, flds := [F.HBL_CTL.ALLOW_UNMIRRORED, F.HBL_CTL.TK_EN] },
  { reg := .HBL_TMO, off := 0x800008, flds := [F.HBL_TMO.ACK_MS, F.HBL_TMO.GRACE_MS] }]

/-- The register tables, rows 140 to 159. -/
def Reg.rows7 : List RegInfo := [
  { reg := .HBL_PARTNER, off := 0x80000C, flds := [F.HBL_PARTNER.DIE, F.HBL_PARTNER.VALID, F.HBL_PARTNER.STATE] },
  { reg := .HBL_CLIENTS, off := 0x800010, flds := [F.HBL_CLIENTS.CLIENT0, F.HBL_CLIENTS.VALID0, F.HBL_CLIENTS.CLIENT1, F.HBL_CLIENTS.VALID1] },
  { reg := .HBL_SPACE, off := 0x800014, flds := [F.HBL_SPACE.LIVE] },
  { reg := .HBL_TKCTL, off := 0x800018, flds := [F.HBL_TKCTL.LOG2, F.HBL_TKCTL.VECTOR] },
  { reg := .HBL_TKHEAD, off := 0x80001C, flds := [F.HBL_TKHEAD.INDEX] },
  { reg := .HBL_TKBASE_LO, off := 0x800020, flds := [F.HBL_TKBASE_LO.BASE] },
  { reg := .HBL_TKBASE_HI, off := 0x800024, flds := [F.HBL_TKBASE_HI.BASE] },
  { reg := .HBL_HEAD_LO, off := 0x800028, flds := [F.HBL_HEAD_LO.LSN] },
  { reg := .HBL_HEAD_HI, off := 0x80002C, flds := [F.HBL_HEAD_HI.LSN] },
  { reg := .HBL_ACKED_LO, off := 0x800030, flds := [F.HBL_ACKED_LO.LSN] },
  { reg := .HBL_ACKED_HI, off := 0x800034, flds := [F.HBL_ACKED_HI.LSN] },
  { reg := .HBL_CNTCLR, off := 0x800038, flds := [F.HBL_CNTCLR.CLR] },
  { reg := .HBL_UNMIRACC, off := 0x80003C, flds := [F.HBL_UNMIRACC.COUNT] },
  { reg := .HBL_RECOVER, off := 0x800040, flds := [F.HBL_RECOVER.COUNT] },
  { reg := .HBL_TAKEOVER, off := 0x800044, flds := [F.HBL_TAKEOVER.COUNT] },
  { reg := .HBL_DUPDROP, off := 0x800048, flds := [F.HBL_DUPDROP.COUNT] },
  { reg := .HBL_RESEND, off := 0x80004C, flds := [F.HBL_RESEND.COUNT] },
  { reg := .HBL_INTERRUPT, off := 0x800050, flds := [F.HBL_INTERRUPT.COUNT] },
  { reg := .HBL_HOLD, off := 0x800054, flds := [F.HBL_HOLD.COUNT] },
  { reg := .SHL_ID, off := 0x900000, flds := [F.SHL_ID.PORTS, F.SHL_ID.MODULES, F.SHL_ID.VER_MAJOR, F.SHL_ID.VER_MINOR] }]

/-- The register tables, rows 160 to 179. -/
def Reg.rows8 : List RegInfo := [
  { reg := .SHL_CTL, off := 0x900004, flds := [F.SHL_CTL.REPLAY_LIM, F.SHL_CTL.TELEM_MISS, F.SHL_CTL.TELEM_US] },
  { reg := .SHL_CNTCLR, off := 0x900008, flds := [F.SHL_CNTCLR.CLR] },
  { reg := .SHL_PCTL, off := 0x900100, stride := 256, count := 8, flds := [F.SHL_PCTL.EN, F.SHL_PCTL.MAXRATE, F.SHL_PCTL.MODS, F.SHL_PCTL.SHARE] },
  { reg := .SHL_PSTAT, off := 0x900104, stride := 256, count := 8, flds := [F.SHL_PSTAT.STATE, F.SHL_PSTAT.RATE, F.SHL_PSTAT.MODS, F.SHL_PSTAT.URGENT, F.SHL_PSTAT.TALLY, F.SHL_PSTAT.TELEM, F.SHL_PSTAT.VER_MINOR, F.SHL_PSTAT.VER_MAJOR] },
  { reg := .SHL_CNTWIN, off := 0x900108, stride := 256, count := 8, flds := [F.SHL_CNTWIN.BASE, F.SHL_CNTWIN.COUNT] },
  { reg := .SHL_DBWIN, off := 0x90010C, stride := 256, count := 8, flds := [F.SHL_DBWIN.BASE, F.SHL_DBWIN.COUNT] },
  { reg := .SHL_CRCERR, off := 0x900110, stride := 256, count := 8, flds := [F.SHL_CRCERR.COUNT] },
  { reg := .SHL_REPLAY, off := 0x900114, stride := 256, count := 8, flds := [F.SHL_REPLAY.COUNT] },
  { reg := .SHL_RETRAIN, off := 0x900118, stride := 256, count := 8, flds := [F.SHL_RETRAIN.COUNT] },
  { reg := .SHL_TALLYERR, off := 0x90011C, stride := 256, count := 8, flds := [F.SHL_TALLYERR.COUNT] },
  { reg := .SHL_RANGEERR, off := 0x900120, stride := 256, count := 8, flds := [F.SHL_RANGEERR.COUNT] },
  { reg := .SHL_TELEMA, off := 0x900124, stride := 256, count := 8, flds := [F.SHL_TELEMA.VOUT, F.SHL_TELEMA.TJ] },
  { reg := .SHL_TELEMB, off := 0x900128, stride := 256, count := 8, flds := [F.SHL_TELEMB.IOUT, F.SHL_TELEMB.PSTATE] },
  { reg := .SHL_RDSEC_LO, off := 0x900130, stride := 256, count := 8, flds := [F.SHL_RDSEC_LO.COUNT] },
  { reg := .SHL_RDSEC_HI, off := 0x900134, stride := 256, count := 8, flds := [F.SHL_RDSEC_HI.COUNT] },
  { reg := .SHL_WRSEC_LO, off := 0x900138, stride := 256, count := 8, flds := [F.SHL_WRSEC_LO.COUNT] },
  { reg := .SHL_WRSEC_HI, off := 0x90013C, stride := 256, count := 8, flds := [F.SHL_WRSEC_HI.COUNT] },
  { reg := .SHL_BPCYC_LO, off := 0x900140, stride := 256, count := 8, flds := [F.SHL_BPCYC_LO.CYCLES] },
  { reg := .SHL_BPCYC_HI, off := 0x900144, stride := 256, count := 8, flds := [F.SHL_BPCYC_HI.CYCLES] },
  { reg := .SHL_CAP, off := 0x900160, stride := 256, count := 8, istride := 4, icount := 8, flds := [F.SHL_CAP.WORD] }]

/-- The register tables, rows 180 to 199. -/
def Reg.rows9 : List RegInfo := [
  { reg := .SHL_WINA, off := 0x901000, stride := 8, count := 64, flds := [F.SHL_WINA.BASE, F.SHL_WINA.LEN] },
  { reg := .SHL_WINB, off := 0x901004, stride := 8, count := 64, flds := [F.SHL_WINB.VALID, F.SHL_WINB.R, F.SHL_WINB.W, F.SHL_WINB.VIEW] },
  { reg := .TWY_ID, off := 0xA00000, flds := [F.TWY_ID.LINKS, F.TWY_ID.LANES, F.TWY_ID.SPARES, F.TWY_ID.MAXRATE] },
  { reg := .TWY_CTL, off := 0xA00004, flds := [F.TWY_CTL.ILIM] },
  { reg := .TWY_RATETH, off := 0xA00008, flds := [F.TWY_RATETH.DN, F.TWY_RATETH.UP] },
  { reg := .TWY_CNTCLR, off := 0xA0000C, flds := [F.TWY_CNTCLR.CLR] },
  { reg := .TWY_UP, off := 0xA00010, flds := [F.TWY_UP.UP] },
  { reg := .TWY_LINKCTL, off := 0xA00100, stride := 256, count := 24, flds := [F.TWY_LINKCTL.EN, F.TWY_LINKCTL.MODE, F.TWY_LINKCTL.EBB_ALLOW, F.TWY_LINKCTL.ENC, F.TWY_LINKCTL.MINRATE, F.TWY_LINKCTL.MAXRATE, F.TWY_LINKCTL.WMIN, F.TWY_LINKCTL.CLAMP_IRQ] },
  { reg := .TWY_LINKCMD, off := 0xA00104, stride := 256, count := 24, flds := [F.TWY_LINKCMD.OP] },
  { reg := .TWY_STATUS, off := 0xA00108, stride := 256, count := 24, flds := [F.TWY_STATUS.STATE, F.TWY_STATUS.RATE, F.TWY_STATUS.WIDTH, F.TWY_STATUS.SPARE, F.TWY_STATUS.ENC, F.TWY_STATUS.P] },
  { reg := .TWY_PEER, off := 0xA0010C, stride := 256, count := 24, flds := [F.TWY_PEER.DIE, F.TWY_PEER.LINK, F.TWY_PEER.VALID, F.TWY_PEER.WIRING] },
  { reg := .TWY_LANEMAP, off := 0xA00110, stride := 256, count := 24, flds := [F.TWY_LANEMAP.LANE0, F.TWY_LANEMAP.LANE1, F.TWY_LANEMAP.LANE2, F.TWY_LANEMAP.LANE3, F.TWY_LANEMAP.LANE4, F.TWY_LANEMAP.LANE5, F.TWY_LANEMAP.LANE6, F.TWY_LANEMAP.LANE7] },
  { reg := .TWY_LANEST, off := 0xA00114, stride := 256, count := 24, flds := [F.TWY_LANEST.ST0, F.TWY_LANEST.ST1, F.TWY_LANEST.ST2, F.TWY_LANEST.ST3, F.TWY_LANEST.ST4, F.TWY_LANEST.ST5, F.TWY_LANEST.ST6, F.TWY_LANEST.ST7, F.TWY_LANEST.ST8] },
  { reg := .TWY_TEST, off := 0xA00118, stride := 256, count := 24, flds := [F.TWY_TEST.LOOP, F.TWY_TEST.PRBS, F.TWY_TEST.LANES, F.TWY_TEST.FARLOOP_OK] },
  { reg := .TWY_CLAMP, off := 0xA0011C, stride := 256, count := 24, flds := [F.TWY_CLAMP.IRQ_MS, F.TWY_CLAMP.ACTIVE] },
  { reg := .TWY_CLAMPDUR, off := 0xA00120, stride := 256, count := 24, flds := [F.TWY_CLAMPDUR.MS] },
  { reg := .TWY_CRCERR, off := 0xA00124, stride := 256, count := 24, flds := [F.TWY_CRCERR.COUNT] },
  { reg := .TWY_REPLAY, off := 0xA00128, stride := 256, count := 24, flds := [F.TWY_REPLAY.COUNT] },
  { reg := .TWY_UNCORR, off := 0xA0012C, stride := 256, count := 24, flds := [F.TWY_UNCORR.COUNT] },
  { reg := .TWY_AUTHERR, off := 0xA00130, stride := 256, count := 24, flds := [F.TWY_AUTHERR.COUNT] }]

/-- The register tables, rows 200 to 219. -/
def Reg.rows10 : List RegInfo := [
  { reg := .TWY_SKIP, off := 0xA00134, stride := 256, count := 24, flds := [F.TWY_SKIP.COUNT] },
  { reg := .TWY_CHANGES, off := 0xA00138, stride := 256, count := 24, flds := [F.TWY_CHANGES.PAUSES, F.TWY_CHANGES.SWAPS, F.TWY_CHANGES.EBBS] },
  { reg := .TWY_TXFR_LO, off := 0xA00140, stride := 256, count := 24, flds := [F.TWY_TXFR_LO.COUNT] },
  { reg := .TWY_TXFR_HI, off := 0xA00144, stride := 256, count := 24, flds := [F.TWY_TXFR_HI.COUNT] },
  { reg := .TWY_NOCRD_LO, off := 0xA00148, stride := 256, count := 24, flds := [F.TWY_NOCRD_LO.CYCLES] },
  { reg := .TWY_NOCRD_HI, off := 0xA0014C, stride := 256, count := 24, flds := [F.TWY_NOCRD_HI.CYCLES] },
  { reg := .TWY_LANEBER, off := 0xA00180, stride := 256, count := 24, istride := 4, icount := 9, flds := [F.TWY_LANEBER.RATE] },
  { reg := .TWY_LANEERR, off := 0xA001C0, stride := 256, count := 24, istride := 4, icount := 9, flds := [F.TWY_LANEERR.COUNT] },
  { reg := .TWY_ROUTEA, off := 0xA02000, stride := 8, count := 32, flds := [F.TWY_ROUTEA.HOP0, F.TWY_ROUTEA.HOP1] },
  { reg := .TWY_ROUTEB, off := 0xA02004, stride := 8, count := 32, flds := [F.TWY_ROUTEB.HOP2, F.TWY_ROUTEB.HOP3] },
  { reg := .PCI_ID, off := 0xB00000, flds := [F.PCI_ID.VFS, F.PCI_ID.VECTORS] },
  { reg := .PCI_CTL, off := 0xB00004, flds := [F.PCI_CTL.CPLTMO_MS, F.PCI_CTL.RO_DATA] },
  { reg := .PCI_LINK, off := 0xB00008, flds := [F.PCI_LINK.SPEED, F.PCI_LINK.WIDTH, F.PCI_LINK.FLIT, F.PCI_LINK.DEGRADED, F.PCI_LINK.UP] },
  { reg := .PCI_CNTCLR, off := 0xB0000C, flds := [F.PCI_CNTCLR.CLR] },
  { reg := .PCI_CPLTMO, off := 0xB00010, flds := [F.PCI_CPLTMO.COUNT] },
  { reg := .PCI_POISRX, off := 0xB00014, flds := [F.PCI_POISRX.COUNT] },
  { reg := .PCI_DBDROP, off := 0xB00018, flds := [F.PCI_DBDROP.COUNT] },
  { reg := .PCI_DMARD_LO, off := 0xB00020, flds := [F.PCI_DMARD_LO.BYTES] },
  { reg := .PCI_DMARD_HI, off := 0xB00024, flds := [F.PCI_DMARD_HI.BYTES] },
  { reg := .PCI_DMAWR_LO, off := 0xB00028, flds := [F.PCI_DMAWR_LO.BYTES] }]

/-- The register tables, rows 220 to 239. -/
def Reg.rows11 : List RegInfo := [
  { reg := .PCI_DMAWR_HI, off := 0xB0002C, flds := [F.PCI_DMAWR_HI.BYTES] },
  { reg := .PCI_NOCRD_LO, off := 0xB00030, flds := [F.PCI_NOCRD_LO.CYCLES] },
  { reg := .PCI_NOCRD_HI, off := 0xB00034, flds := [F.PCI_NOCRD_HI.CYCLES] },
  { reg := .PCI_VFQ, off := 0xB000F8, stride := 8, count := 32, first := 1, flds := [F.PCI_VFQ.BASE, F.PCI_VFQ.COUNT] },
  { reg := .PCI_VFWIN, off := 0xB000FC, stride := 8, count := 32, first := 1, flds := [F.PCI_VFWIN.BASE, F.PCI_VFWIN.LEN] },
  { reg := .PCI_SELFQ, off := 0xB00800, flds := [F.PCI_SELFQ.VFQ] },
  { reg := .PCI_SELFWIN, off := 0xB00804, flds := [F.PCI_SELFWIN.VFWIN] },
  { reg := .QOS_ID, off := 0xC00000, flds := [F.QOS_ID.CLASSES, F.QOS_ID.RES] },
  { reg := .QOS_CTL, off := 0xC00004, flds := [F.QOS_CTL.MISSLIM] },
  { reg := .QOS_SEL, off := 0xC00008, flds := [F.QOS_SEL.LPDDR, F.QOS_SEL.TWY, F.QOS_SEL.PCI] },
  { reg := .QOS_WAKEHOLD, off := 0xC0000C, flds := [F.QOS_WAKEHOLD.HOLD] },
  { reg := .QOS_PACE, off := 0xC00010, flds := [F.QOS_PACE.AHEAD, F.QOS_PACE.BPPCT, F.QOS_PACE.BGMAX] },
  { reg := .QOS_STATUS, off := 0xC00014, flds := [F.QOS_STATUS.OVERSUB, F.QOS_STATUS.ISTH_HOT] },
  { reg := .QOS_CLAMPIRQ, off := 0xC00018, flds := [F.QOS_CLAMPIRQ.IRQ_MS, F.QOS_CLAMPIRQ.EN] },
  { reg := .QOS_CNTCLR, off := 0xC0001C, flds := [F.QOS_CNTCLR.CLR] },
  { reg := .QOS_CLAMPST, off := 0xC00020, stride := 4, count := 3, flds := [F.QOS_CLAMPST.CLASSES] },
  { reg := .QOS_CLAMPDUR, off := 0xC00030, stride := 4, count := 3, flds := [F.QOS_CLAMPDUR.MS] },
  { reg := .QOS_ISTHUSE, off := 0xC00040, flds := [F.QOS_ISTHUSE.PCT] },
  { reg := .QOS_MARKA, off := 0xC00100, stride := 8, count := 32, flds := [F.QOS_MARKA.VALUE, F.QOS_MARKA.MASK] },
  { reg := .QOS_MARKB, off := 0xC00104, stride := 8, count := 32, flds := [F.QOS_MARKB.CLASS, F.QOS_MARKB.VALID] }]

/-- The register tables, rows 240 to 259. -/
def Reg.rows12 : List RegInfo := [
  { reg := .QOS_RANGELO, off := 0xC00200, stride := 16, count := 16, flds := [F.QOS_RANGELO.BASE] },
  { reg := .QOS_RANGEHI, off := 0xC00204, stride := 16, count := 16, flds := [F.QOS_RANGEHI.LIMIT] },
  { reg := .QOS_RANGEC, off := 0xC00208, stride := 16, count := 16, flds := [F.QOS_RANGEC.CLASS, F.QOS_RANGEC.VALID] },
  { reg := .QOS_TOKA, off := 0xC00400, stride := 8, count := 48, flds := [F.QOS_TOKA.RATE, F.QOS_TOKA.BURST] },
  { reg := .QOS_TOKB, off := 0xC00404, stride := 8, count := 48, flds := [F.QOS_TOKB.TARGET, F.QOS_TOKB.MAXPCT, F.QOS_TOKB.MISSIRQ, F.QOS_TOKB.WEIGHT] },
  { reg := .QOS_MISS, off := 0xC00600, stride := 4, count := 48, flds := [F.QOS_MISS.COUNT] },
  { reg := .QOS_MISSOVR, off := 0xC00700, stride := 4, count := 48, flds := [F.QOS_MISSOVR.COUNT] },
  { reg := .BRK_ID, off := 0xD00000, flds := [F.BRK_ID.COVES, F.BRK_ID.TSENS, F.BRK_ID.ISENS, F.BRK_ID.RAILS] },
  { reg := .BRK_PSCTL, off := 0xD00004, flds := [F.BRK_PSCTL.SLACK_EN, F.BRK_PSCTL.SLACK_US] },
  { reg := .BRK_PSSTAT, off := 0xD00008, flds := [F.BRK_PSSTAT.STATE, F.BRK_PSSTAT.FCODE, F.BRK_PSSTAT.THROTTLE, F.BRK_PSSTAT.LIMIT, F.BRK_PSSTAT.DROOP] },
  { reg := .BRK_AVFSENV, off := 0xD0000C, flds := [F.BRK_AVFSENV.FMIN, F.BRK_AVFSENV.FMAX, F.BRK_AVFSENV.MARGIN_PS] },
  { reg := .BRK_COVECTL, off := 0xD00010, flds := [F.BRK_COVECTL.GATE_EN, F.BRK_COVECTL.IDLE_US] },
  { reg := .BRK_DROOP, off := 0xD00014, flds := [F.BRK_DROOP.THR_MV] },
  { reg := .BRK_THERM, off := 0xD00018, flds := [F.BRK_THERM.THROTTLE_C, F.BRK_THERM.HOTTEST, F.BRK_THERM.HOTIDX] },
  { reg := .BRK_PLACEENV, off := 0xD0001C, flds := [F.BRK_PLACEENV.MAXHOPS] },
  { reg := .BRK_CLAMPIRQ, off := 0xD00020, flds := [F.BRK_CLAMPIRQ.IRQ_MS, F.BRK_CLAMPIRQ.EN] },
  { reg := .BRK_CLAMPST, off := 0xD00024, flds := [F.BRK_CLAMPST.LOOPS] },
  { reg := .BRK_ASMLIM, off := 0xD00028, flds := [F.BRK_ASMLIM.WATTS] },
  { reg := .BRK_CNTCLR, off := 0xD0002C, flds := [F.BRK_CNTCLR.CLR] },
  { reg := .BRK_OVERRIDES, off := 0xD00030, flds := [F.BRK_OVERRIDES.COUNT] }]

/-- The register tables, rows 260 to 279. -/
def Reg.rows13 : List RegInfo := [
  { reg := .BRK_THRCNT, off := 0xD00034, flds := [F.BRK_THRCNT.COUNT] },
  { reg := .BRK_CLAMPDUR, off := 0xD0003C, stride := 4, count := 7, first := 1, flds := [F.BRK_CLAMPDUR.MS] },
  { reg := .BRK_RAILCFG, off := 0xD00060, stride := 4, count := 4, flds := [F.BRK_RAILCFG.AVSADDR] },
  { reg := .BRK_RAILSTAT, off := 0xD00070, stride := 4, count := 4, flds := [F.BRK_RAILSTAT.MV, F.BRK_RAILSTAT.AVSFAIL] },
  { reg := .BRK_RAILLIM, off := 0xD00080, stride := 4, count := 4, flds := [F.BRK_RAILLIM.AMPS] },
  { reg := .BRK_COVESTAT, off := 0xD00100, stride := 4, count := 16, flds := [F.BRK_COVESTAT.MV, F.BRK_COVESTAT.STATE, F.BRK_COVESTAT.DRP] },
  { reg := .BRK_DROOPCNT, off := 0xD00140, stride := 4, count := 16, flds := [F.BRK_DROOPCNT.COUNT] },
  { reg := .BRK_ISAMP, off := 0xD00200, stride := 4, count := 21, flds := [F.BRK_ISAMP.SAMPLE] },
  { reg := .BRK_ENERGY_LO, off := 0xD00300, stride := 8, count := 21, flds := [F.BRK_ENERGY_LO.UJ] },
  { reg := .BRK_ENERGY_HI, off := 0xD00304, stride := 8, count := 21, flds := [F.BRK_ENERGY_HI.UJ] },
  { reg := .BRK_TEMP, off := 0xD00400, stride := 4, count := 64, flds := [F.BRK_TEMP.TEMP, F.BRK_TEMP.FAIL] },
  { reg := .BRK_CDLIM, off := 0xD00500, stride := 4, count := 8, flds := [F.BRK_CDLIM.WATTS] },
  { reg := .HLD_ID, off := 0xE00000, flds := [F.HLD_ID.SLOTS] },
  { reg := .HLD_CTL, off := 0xE00004, flds := [F.HLD_CTL.VECTOR, F.HLD_CTL.IRQ_EN] },
  { reg := .HLD_CMD, off := 0xE00008, flds := [F.HLD_CMD.OP] },
  { reg := .HLD_STAT, off := 0xE0000C, flds := [F.HLD_STAT.BUSY, F.HLD_STAT.DONE, F.HLD_STAT.ERR] },
  { reg := .HLD_ROLE, off := 0xE00010, flds := [F.HLD_ROLE.ROLE, F.HLD_ROLE.QUAR, F.HLD_ROLE.STEWARD, F.HLD_ROLE.SVALID] },
  { reg := .HLD_EPOCH, off := 0xE00014, flds := [F.HLD_EPOCH.EPOCH] },
  { reg := .HLD_ROOTGEN, off := 0xE00018, flds := [F.HLD_ROOTGEN.CUR, F.HLD_ROOTGEN.BOTH] },
  { reg := .HLD_CNTCLR, off := 0xE0001C, flds := [F.HLD_CNTCLR.CLR] }]

/-- The register tables, rows 280 to 299. -/
def Reg.rows14 : List RegInfo := [
  { reg := .HLD_CONFLICTS, off := 0xE00020, flds := [F.HLD_CONFLICTS.COUNT] },
  { reg := .HLD_BADLEASE, off := 0xE00024, flds := [F.HLD_BADLEASE.COUNT] },
  { reg := .HLD_QUAR, off := 0xE00028, flds := [F.HLD_QUAR.DIES] },
  { reg := .HLD_MEMBERS, off := 0xE0002C, flds := [F.HLD_MEMBERS.DIES] },
  { reg := .HLD_ARG, off := 0xE00040, stride := 4, count := 8, flds := [F.HLD_ARG.VALUE] },
  { reg := .HLD_RSP, off := 0xE00060, stride := 4, count := 8, flds := [F.HLD_RSP.VALUE] },
  { reg := .HLD_SLOTST, off := 0xE00100, stride := 4, count := 64, flds := [F.HLD_SLOTST.STATE, F.HLD_SLOTST.CURGEN] },
  { reg := .HLD_BUF, off := 0xE01000, stride := 4, count := 1024, flds := [F.HLD_BUF.DATA] },
  { reg := .GLB_ID, off := 0x0, flds := [F.GLB_ID.PART, F.GLB_ID.STEP] },
  { reg := .GLB_FWVER, off := 0x4, flds := [F.GLB_FWVER.PATCH, F.GLB_FWVER.MINOR, F.GLB_FWVER.MAJOR] },
  { reg := .GLB_STATUS, off := 0x8, flds := [F.GLB_STATUS.PHASE, F.GLB_STATUS.MIRRORED, F.GLB_STATUS.HOST_WAIT, F.GLB_STATUS.LEAVING, F.GLB_STATUS.LEFT] },
  { reg := .GLB_STRAP, off := 0xC, flds := [F.GLB_STRAP.TRAY, F.GLB_STRAP.SLOT, F.GLB_STRAP.SBSEL, F.GLB_STRAP.RECOV] },
  { reg := .GLB_DIE, off := 0x10, flds := [F.GLB_DIE.DIE] },
  { reg := .GLB_CTL, off := 0x14, flds := [F.GLB_CTL.HOST_GO, F.GLB_CTL.LEAVE, F.GLB_CTL.REJOIN] },
  { reg := .GLB_RESET, off := 0x18, flds := [F.GLB_RESET.KEY, F.GLB_RESET.KIND] },
  { reg := .GLB_RSTCAUSE, off := 0x1C, flds := [F.GLB_RSTCAUSE.CAUSE, F.GLB_RSTCAUSE.WARMS] },
  { reg := .GLB_FAILCODE, off := 0x20, flds := [F.GLB_FAILCODE.CODE] },
  { reg := .GLB_PHASET, off := 0x40, stride := 4, count := 8, flds := [F.GLB_PHASET.US] },
  { reg := .FWU_ID, off := 0x1000000, flds := [F.FWU_ID.COMPONENTS, F.FWU_ID.WINKIB] },
  { reg := .FWU_CMD, off := 0x1000004, flds := [F.FWU_CMD.OP] }]

/-- The register tables, rows 300 to 319. -/
def Reg.rows15 : List RegInfo := [
  { reg := .FWU_STAT, off := 0x1000008, flds := [F.FWU_STAT.BUSY, F.FWU_STAT.DONE, F.FWU_STAT.ERR] },
  { reg := .FWU_ARG, off := 0x100000C, stride := 4, count := 2, flds := [F.FWU_ARG.VALUE] },
  { reg := .FWU_OFFSET, off := 0x1000014, flds := [F.FWU_OFFSET.BYTES] },
  { reg := .FWU_LEN, off := 0x1000018, flds := [F.FWU_LEN.BYTES] },
  { reg := .FWU_ACTCTL, off := 0x100001C, flds := [F.FWU_ACTCTL.DRAIN_S, F.FWU_ACTCTL.TURN_S] },
  { reg := .FWU_ACTST, off := 0x1000020, flds := [F.FWU_ACTST.STATE, F.FWU_ACTST.ROLLOUT, F.FWU_ACTST.HALTED, F.FWU_ACTST.TURNDIE, F.FWU_ACTST.TURNVALID] },
  { reg := .FWU_ROOT, off := 0x1000024, flds := [F.FWU_ROOT.CUR, F.FWU_ROOT.REVOKED] },
  { reg := .FWU_SVN, off := 0x1000028, flds := [F.FWU_SVN.FUSED] },
  { reg := .FWU_RECOV, off := 0x100002C, flds := [F.FWU_RECOV.REASON] },
  { reg := .FWU_RUNBUNDLE, off := 0x1000030, flds := [F.FWU_RUNBUNDLE.VERSION] },
  { reg := .FWU_STGBUNDLE, off := 0x1000034, flds := [F.FWU_STGBUNDLE.VERSION, F.FWU_STGBUNDLE.COMPLETE] },
  { reg := .FWU_COMPST, off := 0x100003C, stride := 4, count := 7, first := 1, flds := [F.FWU_COMPST.STATE, F.FWU_COMPST.LASTERR, F.FWU_COMPST.VERSION] },
  { reg := .FWU_WIN, off := 0x1010000, stride := 4, count := 16384, flds := [F.FWU_WIN.DATA] },
  { reg := .EVT_ID, off := 0xF00000, flds := [F.EVT_ID.RECS, F.EVT_ID.RINGS] },
  { reg := .EVT_CTL, off := 0xF00004, flds := [F.EVT_CTL.VECTOR, F.EVT_CTL.IRQSEV] },
  { reg := .EVT_STAT, off := 0xF00008, flds := [F.EVT_STAT.IRQPEND, F.EVT_STAT.VECOWN] },
  { reg := .EVT_HEAD, off := 0xF0000C, flds := [F.EVT_HEAD.COUNT] },
  { reg := .EVT_TAIL, off := 0xF00010, flds := [F.EVT_TAIL.COUNT] },
  { reg := .EVT_LOST, off := 0xF00014, flds := [F.EVT_LOST.COUNT] },
  { reg := .EVT_CNTCLR, off := 0xF00018, flds := [F.EVT_CNTCLR.CLR] }]

/-- The register tables, rows 320 to 324. -/
def Reg.rows16 : List RegInfo := [
  { reg := .EVT_INJ, off := 0xF0001C, flds := [F.EVT_INJ.CODE] },
  { reg := .EVT_SEVCNT, off := 0xF00020, stride := 4, count := 4, flds := [F.EVT_SEVCNT.COUNT] },
  { reg := .EVT_PVEC, off := 0xF00030, flds := [F.EVT_PVEC.CLAMP, F.EVT_PVEC.GMISS] },
  { reg := .EVT_PEND, off := 0xF00034, flds := [F.EVT_PEND.CLAMP, F.EVT_PEND.GMISS] },
  { reg := .EVT_REC, off := 0xF80000, stride := 32, count := 4096, istride := 4, icount := 8, flds := [F.EVT_REC.WORD] }]

/-- The rows of the register tables, twenty in each list, in the order of the constructors of `Reg`. -/
def Reg.rows : List (List RegInfo) :=
  [Reg.rows0, Reg.rows1, Reg.rows2, Reg.rows3, Reg.rows4, Reg.rows5, Reg.rows6, Reg.rows7, Reg.rows8, Reg.rows9, Reg.rows10, Reg.rows11, Reg.rows12, Reg.rows13, Reg.rows14, Reg.rows15, Reg.rows16]

/-- The register tables, in the order of the constructors of `Reg`. -/
def Reg.table : List RegInfo := Reg.rows.flatten

/-- The row of a register. -/
def Reg.info (r : Reg) : RegInfo :=
  (Reg.rows.getD (r.ctorIdx / 20) []).getD (r.ctorIdx % 20) { reg := r, off := 0, flds := [] }

/-- The `_HI` register of a `_LO` register (R12). -/
def Reg.hi? : Reg → Option Reg
  | .MSH_ISTHWEAK_LO => some .MSH_ISTHWEAK_HI
  | .MSH_ISTHS2N_LO => some .MSH_ISTHS2N_HI
  | .MSH_ISTHN2S_LO => some .MSH_ISTHN2S_HI
  | .MSH_ISTHBP_LO => some .MSH_ISTHBP_HI
  | .RFB_CONFLICT_LO => some .RFB_CONFLICT_HI
  | .RFB_REFWAIT_LO => some .RFB_REFWAIT_HI
  | .MEM_CHUP_LO => some .MEM_CHUP_HI
  | .MEM_UEADDR_LO => some .MEM_UEADDR_HI
  | .XLT_APERBASE_LO => some .XLT_APERBASE_HI
  | .XLT_SEGSTART_LO => some .XLT_SEGSTART_HI
  | .XLT_SEGBASE_LO => some .XLT_SEGBASE_HI
  | .TQ_ACCEPTED_LO => some .TQ_ACCEPTED_HI
  | .TQ_CNT_LO => some .TQ_CNT_HI
  | .BEAD_FAULTADDR_LO => some .BEAD_FAULTADDR_HI
  | .BEAD_FAULTASN_LO => some .BEAD_FAULTASN_HI
  | .BEAD_LAUNCHES_LO => some .BEAD_LAUNCHES_HI
  | .TLY_LASTFAIL_LO => some .TLY_LASTFAIL_HI
  | .TLY_HOLD_LO => some .TLY_HOLD_HI
  | .HBL_TKBASE_LO => some .HBL_TKBASE_HI
  | .HBL_HEAD_LO => some .HBL_HEAD_HI
  | .HBL_ACKED_LO => some .HBL_ACKED_HI
  | .SHL_RDSEC_LO => some .SHL_RDSEC_HI
  | .SHL_WRSEC_LO => some .SHL_WRSEC_HI
  | .SHL_BPCYC_LO => some .SHL_BPCYC_HI
  | .TWY_TXFR_LO => some .TWY_TXFR_HI
  | .TWY_NOCRD_LO => some .TWY_NOCRD_HI
  | .PCI_DMARD_LO => some .PCI_DMARD_HI
  | .PCI_DMAWR_LO => some .PCI_DMAWR_HI
  | .PCI_NOCRD_LO => some .PCI_NOCRD_HI
  | .BRK_ENERGY_LO => some .BRK_ENERGY_HI
  | _ => none

/-- The `_LO` register of a `_HI` register (R12). -/
def Reg.lo? : Reg → Option Reg
  | .MSH_ISTHWEAK_HI => some .MSH_ISTHWEAK_LO
  | .MSH_ISTHS2N_HI => some .MSH_ISTHS2N_LO
  | .MSH_ISTHN2S_HI => some .MSH_ISTHN2S_LO
  | .MSH_ISTHBP_HI => some .MSH_ISTHBP_LO
  | .RFB_CONFLICT_HI => some .RFB_CONFLICT_LO
  | .RFB_REFWAIT_HI => some .RFB_REFWAIT_LO
  | .MEM_CHUP_HI => some .MEM_CHUP_LO
  | .MEM_UEADDR_HI => some .MEM_UEADDR_LO
  | .XLT_APERBASE_HI => some .XLT_APERBASE_LO
  | .XLT_SEGSTART_HI => some .XLT_SEGSTART_LO
  | .XLT_SEGBASE_HI => some .XLT_SEGBASE_LO
  | .TQ_ACCEPTED_HI => some .TQ_ACCEPTED_LO
  | .TQ_CNT_HI => some .TQ_CNT_LO
  | .BEAD_FAULTADDR_HI => some .BEAD_FAULTADDR_LO
  | .BEAD_FAULTASN_HI => some .BEAD_FAULTASN_LO
  | .BEAD_LAUNCHES_HI => some .BEAD_LAUNCHES_LO
  | .TLY_LASTFAIL_HI => some .TLY_LASTFAIL_LO
  | .TLY_HOLD_HI => some .TLY_HOLD_LO
  | .HBL_TKBASE_HI => some .HBL_TKBASE_LO
  | .HBL_HEAD_HI => some .HBL_HEAD_LO
  | .HBL_ACKED_HI => some .HBL_ACKED_LO
  | .SHL_RDSEC_HI => some .SHL_RDSEC_LO
  | .SHL_WRSEC_HI => some .SHL_WRSEC_LO
  | .SHL_BPCYC_HI => some .SHL_BPCYC_LO
  | .TWY_TXFR_HI => some .TWY_TXFR_LO
  | .TWY_NOCRD_HI => some .TWY_NOCRD_LO
  | .PCI_DMARD_HI => some .PCI_DMARD_LO
  | .PCI_DMAWR_HI => some .PCI_DMAWR_LO
  | .PCI_NOCRD_HI => some .PCI_NOCRD_LO
  | .BRK_ENERGY_HI => some .BRK_ENERGY_LO
  | _ => none

end Sys2Proof.Machine
end

