-- ==== Sys2Proof/Machine/TideTypes.lean ====
section
/-! DEFINITION. The record types of translation (06), tide queues (07), bead cores (08) and reckoning (09) that the
state holds, as plain data. -/

namespace Sys2Proof.Machine

/-! ### Translation (06) -/

/-- A context of the translation unit (R225), with what is drawn and set when it is bound (R418, R453, R755). -/
structure Ctx where
  bound : Bool := false
  func : Nat := 0
  pasid : Nat := 0
  /-- Shared-table mode; otherwise reach mode. -/
  shared : Bool := false
  priEn : Bool := false
  keysel : Nat := 0
  /-- The generation, which outlives a binding (R258). -/
  gen : Nat := 0
  /-- The digest point (R418). -/
  point : Nat := 0
  /-- Binds of the ASID (R755). -/
  binds : Nat := 0
  /-- The reckon parameters, in the layout of TLY_CTXA (R453). -/
  reck : BitVec 32 := 0
  deriving DecidableEq, Repr

/-- A reach-mode segment (R232); START, LENGTH and BASE in bytes. -/
structure Seg where
  start : Nat := 0
  len : Nat := 0
  base : Nat := 0
  attr : BitVec 32 := 0
  deriving DecidableEq, Repr

/-- A shared-table page as its ATS completion gave it (R241-R243). -/
structure Page where
  host : Bool
  base : Nat
  r : Bool
  w : Bool
  deriving DecidableEq, Repr

/-- An entry of a translation cache (R265): segment `idx` of a context, or page `idx - 16` with its translation. -/
structure XEnt where
  asid : Nat
  gen : Nat
  idx : Nat
  page : Option Page
  deriving DecidableEq, Repr

/-- What a translation is for: a batch's check, a command's dispatch (R255), an ADVISE (R274), or nothing any more, where
its page request is still the host's (R248). -/
inductive XFor where
  | batch | redo | advise | nobody
  deriving DecidableEq, Repr

/-- A translation that waits for the host (R239, R245): `pri` while its page request is out, `held` while that waits for
the host's allocation (R248), `again` once it has been repeated. -/
structure AtsWait where
  tag : Nat
  what : XFor
  queue : Nat
  engine : Nat
  asid : Nat
  /-- The function and PASID of its requests (R229). -/
  func : Nat := 0
  pasid : Nat := 0
  /-- The page that is asked for. -/
  page : Nat
  /-- The access the operand needs, No Write (R239), and the context's generation when the request was sent. -/
  acc : Nat
  noWrite : Bool := false
  gen : Nat
  /-- The page request is out; it is held for the host's allocation (R248); the translation has been asked for again. -/
  pri : Bool
  held : Bool
  again : Bool
  /-- The instance that a re-translation at dispatch serves: first ASN of its batch, DSEQ (R255). -/
  job : Nat × Nat := (0, 0)
  deriving DecidableEq, Repr

/-- A page obtained for a command: its translation or a refusal code for the access asked, whether a page request has been
made for it (R245), and the instance it serves at dispatch (R255). -/
structure Got where
  page : Nat
  acc : Nat
  res : Option Page
  code : Nat
  again : Bool := false
  job : Nat × Nat := (0, 0)
  deriving DecidableEq, Repr

/-- Who started an invalidation (R235, R257, R650). -/
inductive InvBy where
  | reg | seg | unbind
  | ats (func itag : Nat)
  deriving DecidableEq, Repr

/-- An invalidation in progress: its context, the generation it began, and who started it (R263). -/
structure Inval where
  asid : Nat
  gen : Nat
  who : InvBy
  deriving DecidableEq, Repr

/-- An extent of a translated operand (R251, R254). -/
structure Extent where
  host : Bool
  /-- Reached by translated requests (R241). -/
  xlat : Bool := false
  addr : Nat
  sectors : Nat
  keysel : Nat
  deriving DecidableEq, Repr

/-- A translated operand of a command (R251, R256): number, VA range, access (1 R, 2 W, 4 A, 8 X), generation, extents. -/
structure Opnd where
  num : Nat
  va : Nat
  bytes : Nat
  acc : Nat
  gen : Nat
  exts : List Extent
  deriving DecidableEq, Repr

/-! ### Tide queues (07) -/

/-- A command as fetched (R289, R295), with its translated operands. -/
structure TCmd where
  word : BitVec 256
  opnds : List Opnd
  deriving DecidableEq, Repr

/-- The state of a queue's sequencer (R299, R312, R459): the restart point of a CKPT entry (R472). -/
structure Snap where
  dseq : Nat := 0
  pos : Nat := 0
  mark : Nat := 0
  iregs : List Nat := [0, 0, 0, 0, 0, 0, 0, 0]
  deriving DecidableEq, Repr

/-- What a DISPATCH entry records (R458, R473): the seed and reckon parameters of a RECKON, the PSNs of a PUT. -/
structure DispRec where
  dseq : Nat
  seed : BitVec 128
  params : BitVec 32
  psn : Nat
  count : Nat
  die : Nat
  epoch : Nat
  /-- The ordinal of a COLL (R331), kept across a warm reset. -/
  ord : Nat := 0
  lsn : Nat
  deriving DecidableEq, Repr

/-- A piece that the host's memory feeds (R671): sectors asked for, sectors moved, and what the moved ones have met. -/
structure PieceRun where
  asked : Nat := 0
  moved : Nat := 0
  hs : Nat := 0
  hd : Nat := 0
  err : Nat := 0
  poison : Bool := false
  deriving DecidableEq, Repr

/-- The progress of a transfer (R280-R282, R420-R422, R482, R489). -/
structure Xfer where
  /-- Pieces of a ganged command, pieces dealt with their engines, and the digests of those done (R282, R421). -/
  pieces : Nat := 1
  dealt : Map Nat := []
  digs : Map (Nat × Nat) := []
  /-- The pieces that the host's memory feeds (R671). -/
  runs : Map PieceRun := []
  /-- Sectors that the host, a peer or a remote die has delivered, by position, with their poison. -/
  buf : Map (Sector × Bool) := []
  /-- TAGs of requests to other dies that await an answer, and the next sector to be sent or asked for. -/
  owed : List Nat := []
  next : Nat := 0
  /-- The first position and the length of the last run that a PUT sends to another die (R484; log entry 47). -/
  lastAt : Nat := 0
  lastLen : Nat := 0
  /-- PSN and pair epoch of a PUT's step, its receiver (R482). -/
  psn : Nat := 0
  epoch : Nat := 0
  die : Nat := 0
  /-- Poison was met (R878, R880). -/
  poison : Bool := false
  /-- The first error of a piece: its STATUS, or 0. -/
  err : Nat := 0
  deriving DecidableEq, Repr

/-- A launch of kernel instances by a KCALL or a RECKON (R372-R379). -/
structure Launch where
  /-- The LAUNCH value of R400: engine and sequence. -/
  id : Nat
  /-- Cores in instance order, and for each the part of slot 0 in its tile's pool: address and length (R377). -/
  cores : List Nat := []
  parts : List (Nat × Nat) := []
  /-- The image, by sector, as far as it has arrived (R372). -/
  image : Map Sector := []
  /-- The staging copies of writable operands (R329): the operand's number and the base of its copy. -/
  stages : List (Nat × Nat) := []
  /-- Counter updates staged by each instance, in program order: instance, counter, set, value (R383). -/
  counters : List (Nat × Nat × Bool × Nat) := []
  /-- A WRITE with POISON was sent (R879). -/
  poison : Bool := false
  /-- The status that the first exception or the run limit gives (R407, R327), or 0. -/
  st : Nat := 0
  /-- The copies of the writable operands are made (R329). -/
  copied : Bool := false
  /-- The launch has run again after HWERR (R408), or will as soon as its instances have stopped. -/
  retried : Bool := false
  again : Bool := false
  /-- The seed of a RECKON (R429). -/
  seed : BitVec 128 := 0
  deriving DecidableEq, Repr

/-- The result of a RECKON's check (R444-R448). -/
structure Verdict where
  verdict : Nat
  flags : Nat
  checked : Nat
  failed : Nat
  first : Nat
  digA : Nat
  digB : Nat
  digC : Nat
  kvec : Nat
  deriving DecidableEq, Repr

/-- The phase of a collective on this die (R469, R489-R493). -/
structure CollSt where
  ordinal : Nat
  attempt : Nat := 0
  /-- Members whose contribution has arrived and verified. -/
  got : List Nat := []
  /-- Members whose READY has arrived: 0 plain, 1 marked poisoned (R880), 2 of a COLL that differs (R331). -/
  ready : List (Nat × Nat) := []
  /-- LSNs of COLL_READY and COLL_COMMIT, plus one; 0 before they are written. -/
  readyLsn : Nat := 0
  commitLsn : Nat := 0
  readySent : Bool := false
  interrupted : Bool := false
  deriving DecidableEq, Repr

/-- The phase of an instance: at work, or its COMMIT pair written (STAGED, R469). -/
inductive IPhase where
  | run | staged
  deriving DecidableEq, Repr

/-- A dispatched command instance (R469). -/
structure Inst where
  idx : Nat
  dseq : Nat
  op : Nat
  /-- The completing instance of its command (R338). -/
  last : Bool
  /-- The sequencer as it stood at dispatch (R472). -/
  snap : Snap
  /-- The operands with the extents it holds (R256). -/
  opnds : List Opnd
  phase : IPhase := .run
  /-- The engine has finished: its status (R469). -/
  result : Option Nat := none
  /-- LSN of the CKPT entry of its COMMIT and CKPT pair. -/
  lsn : Nat := 0
  xfer : Xfer := {}
  launch : Option Launch := none
  verdict : Option Verdict := none
  coll : Option CollSt := none
  /-- The record slot fixed at commit, plus one (R450). -/
  slot : Nat := 0
  /-- Its staged effects are applied; a put of it is released and not yet acknowledged (R474; log entry 47). -/
  released : Bool := false
  deriving DecidableEq, Repr

/-- A batch: journaled, and from its acceptance on until its RETIRE entry (R289-R294, R465-R472). -/
structure Batch where
  first : Nat
  ring : Nat
  cmds : List TCmd
  unmir : Bool := false
  /-- Journal entries of the batch, and the LSN of the last of them. -/
  entries : Nat := 0
  lsn : Nat := 0
  accepted : Bool := false
  seq : Snap := {}
  /-- The sequencer has left the batch. -/
  isOver : Bool := false
  /-- A WAIT is held at `seq` (R305), or a FENCE awaits tiles: those that have yet to report (R311). -/
  waiting : Bool := false
  fence : List Nat := []
  fencing : Bool := false
  /-- The identifier of its FENCE flit. -/
  fenceId : Nat := 0
  /-- The instances that are dispatched and not done (R469). -/
  insts : List Inst := []
  /-- Commands the sequencer has reached. -/
  ran : List Nat := []
  /-- Statuses settled apart from the plain course: errors, aborts, skips. -/
  sts : Map Nat := []
  /-- The error that ended the batch, or 0 (R340). -/
  err : Nat := 0
  /-- Commands whose records have been issued, and whether the END record has (R341, R342). -/
  emitted : Nat := 0
  ended : Bool := false
  /-- The newest CKPT entry: its restart point and LSN (R472). -/
  ckpt : Snap := {}
  ckptLsn : Nat := 0
  /-- Recorded outcomes, COMMITs (DSEQ, command, STATUS, LAST, LSN), APPLIEDs and DISPATCHes by DSEQ (R458). -/
  outcomes : Map Bool := []
  commits : List (Nat × Nat × Nat × Bool × Nat) := []
  applied : List Nat := []
  disps : List DispRec := []
  /-- Recorded outcomes and signals below this DSEQ have been taken before a warm reset (log entry 33). -/
  reached : Nat := 0
  /-- Commands that a failed compute die ends with TQ_COMPUTE when the sequencer reaches them (R557; log entry 75). -/
  lost : List Nat := []
  /-- Completion and reckoning records that the batch has written, oldest first (R37, R496). -/
  sent : List HostReq := []
  deriving DecidableEq, Repr

/-- A batch being fetched, checked and translated (R289-R292). -/
structure Fetch where
  tail : Nat
  first : Nat
  count : Nat
  words : Map (BitVec 256) := []
  /-- Commands checked and translated so far, in order. -/
  done : List TCmd := []
  /-- Pages obtained for the present command. -/
  got : List Got := []
  /-- Operands of the present command that are translated. -/
  part : List Opnd := []
  /-- Checked and translated, and held by R463. -/
  held : Bool := false
  deriving DecidableEq, Repr

/-- A record of a completion ring (R344), before its slot and PHASE are known; `irq` asks for the queue's vector. -/
structure CRec where
  kind : Nat
  asn : Nat
  status : Nat
  count : Nat
  unmir : Bool
  opnd : Nat
  irq : Bool
  deriving DecidableEq, Repr

/-- A tide queue (R283-R294). -/
structure TQueue where
  /-- The descriptor: word j in bits 32j+31 to 32j (R284). -/
  desc : BitVec 512 := 0
  /-- 0 DISABLED, 1 STOPPED, 2 RUNNING, 3 REFUSED, 4 STOPPING (R287). -/
  st : Nat := 0
  head : Nat := 0
  last : Nat := 0
  /-- Recorded tails of unaccepted batches, oldest first. -/
  tails : List Nat := []
  fetch : Option Fetch := none
  /-- HEAD past the refused batch (R287). -/
  skip : Nat := 0
  asn : Nat := 0
  batches : List Batch := []
  /-- Pages obtained for a re-translation at dispatch (R255). -/
  regot : List Got := []
  /-- Completion ring: records written and records consumed by the host; records that wait (R342). -/
  cplTail : Nat := 0
  cplHead : Nat := 0
  held : List CRec := []
  /-- Record ring: slots fixed and slots consumed (R325, R450). -/
  recTail : Nat := 0
  recHead : Nat := 0
  deriving DecidableEq, Repr

/-- What a read of host memory is for (R285, R641, R651). -/
inductive ReadFor where
  /-- Commands of queue q's batch from ring position `pos` of the batch. -/
  | ring (q pos count : Nat)
  /-- Sectors of an instance's transfer from position `pos`. -/
  | data (q asn dseq pos count : Nat)
  deriving DecidableEq, Repr

/-! ### Bead cores (08) -/

/-- What a bead core waits for (R369, R386, R402). -/
inductive KReq where
  /-- A g-load: destination, bytes, sign extension, byte offset in the sector. -/
  | load (rd bytes : Nat) (signed : Bool) (off : Nat)
  /-- An AMO: destination, bytes, byte offset. -/
  | amo (rd bytes off : Nat)
  /-- A sector load of the Reckoner (KLD). -/
  | kld
  deriving DecidableEq, Repr

/-- An access that a core or its Reckoner has outstanding (R369): TAG, the instruction's address, the kernel address. -/
structure KOut where
  tag : Nat
  /-- The write of its g register counts only while the register still awaits this token. -/
  tok : Nat
  /-- What it waits for, and where it stood (R369, R386, R402). -/
  req : KReq
  pc : Nat
  addr : Nat
  deriving DecidableEq, Repr

/-- A write that a core has sent and that is not acknowledged: TAG, sector, the instruction's address, the kernel address,
and whether the Reckoner sent it (R354, R369). -/
structure KWr where
  tag : Nat
  sec : Nat
  pc : Nat
  addr : Nat
  kst : Bool
  deriving DecidableEq, Repr

/-- A Reckoner instruction in its queue (R386): word and address, the g value it carries, and for a KLD its data once
it has arrived (poison with it). -/
structure KIns where
  word : BitVec 32
  pc : Nat
  g : BitVec 64
  tok : Nat
  addr : Nat
  data : Option (Sector × Bool)
  deriving DecidableEq, Repr

/-- A k register: 512 bits and its POISON flag (R385). -/
structure KReg where
  v : Sector := 0
  poison : Bool := false
  deriving DecidableEq, Repr

/-- An accumulator: 768 bits and its flags (R385, R389). -/
structure KAcc where
  v : BitVec 768 := 0
  nonfinite : Bool := false
  poison : Bool := false
  deriving DecidableEq, Repr

/-- An argument window (R361). -/
structure KWin where
  base : Nat
  len : Nat
  perm : Nat
  deriving DecidableEq, Repr

/-- A launch that waits for a core (R379). -/
structure KPend where
  launch : Nat
  queue : Nat
  asn : Nat
  dseq : Nat
  index : Nat
  device : Bool
  deriving DecidableEq, Repr

/-- A FENCE flit that a tile holds (R311, R370): its identifier, and the writes issued before it arrived that are still
unacknowledged, by core and TAG. -/
structure KFence where
  tile : Nat
  id : Nat
  owed : List (Nat × Nat)
  deriving DecidableEq, Repr

/-- An exception that its engine has yet to receive (R407): what ran, its core, and the record of R409. -/
structure KExc where
  job : KPend
  core : Nat
  cause : Nat
  late : Bool
  pc : Nat
  addr : Nat
  sub : Nat
  deriving DecidableEq, Repr

/-- A bead core with its Reckoner, while an instance runs on it (R351-R354, R377, R385, R400). -/
structure Core where
  /-- What runs: launch, command, instance index; none while the core is idle. -/
  job : Option KPend := none
  /-- An abort is on its way (R406). -/
  abort : Bool := false
  engine : Nat := 0
  asid : Nat := 0
  mark : Nat := 0
  share : Nat := 0
  pc : Nat := 0
  g : Map (BitVec 64) := []
  scratch : Map Byte := []
  wins : List (Option KWin) := []
  /-- The image's length in bytes, and the sectors loaded (R364, R372). -/
  codeLen : Nat := 0
  code : Map Sector := []
  k : Map KReg := []
  a : Map KAcc := []
  kq : List KIns := []
  outs : List KOut := []
  /-- Loads of earlier instances that are still unanswered: TAG, and whether the Reckoner sent it (R354). -/
  old : List (Nat × Bool) := []
  /-- Unacknowledged writes, oldest first (R369). -/
  writes : List KWr := []
  /-- g registers that a queued or outstanding operation has yet to write: the token of that operation. -/
  busy : Map Nat := []
  /-- The Reckoner has detected a late error (R403). -/
  kstop : Bool := false
  /-- The instance has ended; its last writes are still unacknowledged. -/
  ended : Bool := false
  /-- The next token. -/
  serial : Nat := 0
  /-- Pending late exception: cause, PC, address, SUB (R401-R404). -/
  late : Option (Nat × Nat × Nat × Nat) := none
  /-- The first poisoned sector loaded (R404). -/
  poisonAt : Option Nat := none
  seed : BitVec 256 := 0
  rctr : BitVec 32 := 0
  retired : Nat := 0
  staged : Nat := 0
  tag : Nat := 0
  deriving DecidableEq, Repr

end Sys2Proof.Machine
end

