-- ==== Sys2Proof/Machine/LinkTypes.lean ====
section
/-! DEFINITION. The record types of the Harbour log (10), Shoreline ports (11) and Tideway links (12), as plain data. -/

namespace Sys2Proof.Machine

/-! ### Tideway (12) -/

/-- A Tideway message: the fields of its header slot (R576) and its data slots, each a sector with its tally word. -/
structure TwyMsg where
  op : Nat
  vc : Nat
  hop : Nat := 0
  poison : Bool := false
  rsig : Bool := false
  src : Nat := 0
  dst : Nat := 0
  share : Nat := 0
  mark : Nat := 0
  seq : Nat := 0
  epoch : Nat := 0
  tag : Nat := 0
  addr : Nat := 0
  rcnt : Nat := 0
  status : Nat := 0
  body : BitVec 256 := 0
  /-- The sending agent, which the hash of R619 covers; it is not sent. -/
  agent : Nat := 0
  data : List (Sector × BitVec 32) := []
  deriving DecidableEq, Repr

/-- A message that a link holds (R575, R582): slots sent so far, and the FSEQ of the frame that carried its last slot. -/
structure TwyTx where
  msg : TwyMsg
  sent : Nat := 0
  lastF : Nat := 0
  /-- When it entered the link's queue, and whether its class then held tokens (R669). -/
  arr : Nat := 0
  tok : Bool := false
  deriving DecidableEq, Repr

/-- A message that a receiver is putting together (R576), and how many data slots it still lacks. -/
structure TwyRx where
  msg : TwyMsg
  need : Nat
  deriving DecidableEq, Repr

/-- What a link does after the present PAUSE, and why it paused (R583, R600, R605-R607, R610). -/
inductive PauseFor where
  | loss | retrain | rate | ebb | widen | narrow
  deriving DecidableEq, Repr

/-- A lane's pattern checker (R592): the last bits, how many of them it has taken in since it began, the bit errors counted. -/
structure PrbsChk where
  reg : BitVec 31 := 0
  seen : Nat := 0
  errs : Nat := 0
  deriving DecidableEq, Repr

/-- A Tideway link beyond its registers (12). -/
structure TwyLink where
  /-- The pattern generators and checkers of the lanes under TEST, by lane (R592). -/
  gens : Map (BitVec 31) := []
  chks : Map PrbsChk := []
  /-- The link has been in DETECT since the last reset (R570). -/
  tried : Bool := false
  /-- Down without retry until EN is written from 0 to 1 (R570, R590). -/
  off : Bool := false
  /-- Lanes that passed each rate's dwell, by rate (R572, R573). -/
  passed : Map (BitVec 9) := []
  /-- The rate that STEP trains, and the highest that both ends allow (R571, R572). -/
  step : Nat := 0
  top : Nat := 0
  /-- Messages not wholly acknowledged, oldest first; urgent ones first in line when unsent (R582). -/
  txq : List TwyTx := []
  /-- FSEQ of the next frame sent (R575; log entry 46). -/
  fseq : Nat := 0
  /-- Frames not acknowledged (R582), and how often the oldest has been resent (R583). -/
  replay : List (Nat × BitVec 2048) := []
  resends : Nat := 0
  /-- Credits held, and credits to return, by hop * 4 + VC (R580). -/
  credit : Map Nat := []
  giveBack : Map Nat := []
  /-- FSEQ of the next frame expected; the receiver discards until it comes (R527). -/
  rxNext : Nat := 0
  nakSent : Bool := false
  /-- The message that the receiver is putting together, and the urgent one that broke in (R576). -/
  rx : Option TwyRx := none
  rxUrg : Option TwyRx := none
  /-- Keys of each direction (R587, R589): key, salt, epoch; the FSEQ at which the transmit key began. -/
  txKey : BitVec 256 := 0
  txSalt : BitVec 32 := 0
  txEpoch : Nat := 0
  txFirst : Nat := 0
  rxKey : BitVec 256 := 0
  rxPrev : BitVec 256 := 0
  rxSalt : BitVec 32 := 0
  rxEpoch : Nat := 0
  /-- Frame errors other than tag failures, and tag failures, in the present second (R596, R590). -/
  errWin : Nat := 0
  authWin : Nat := 0
  /-- Windows in a row in which a lane exceeded the weak limit, by lane (R595). -/
  bad : Map Nat := []
  /-- Weak lanes that await their action, worst first (R597), and the lane whose action runs. -/
  weak : List Nat := []
  acting : Option Nat := none
  /-- The lane in training, and the retired lanes that RESTORE has still to train (R598, R605). -/
  training : Option Nat := none
  restoring : List Nat := []
  /-- The spare that a swap in course brings in (R599). -/
  swapping : Option Nat := none
  /-- Windows in a row below UP on every lane, windows since the last step-up try, a trial in course (R607). -/
  calm : Nat := 0
  lastTry : Option Nat := none
  trial : Bool := false
  /-- The PAUSE in progress: its purpose and its start (R606). -/
  pause : Option PauseFor := none
  pauseAt : Nat := 0
  /-- The rate or width to adopt when the pause ends (R607, R610). -/
  want : Nat := 0
  deriving DecidableEq, Repr

/-! ### Shoreline (11) -/

/-- A WATCH that a port holds (R548). -/
structure ShlWatch where
  tag : Nat
  mark : Nat
  index : Nat
  cond : Nat
  value : Nat
  deriving DecidableEq, Repr

/-- A request that a port has injected and not yet answered (R520, R541): tile, flit TAG, slot TAG, whether it is a WRITE, and the
number of its arrival. -/
structure ShlOpen where
  tile : Nat
  ftag : Nat
  tag : Nat
  write : Bool
  arr : Nat
  deriving DecidableEq, Repr

/-- A Shoreline port beyond its registers (11). -/
structure ShlPort where
  /-- Slots that wait for a frame (R515): VC and bits; urgent ones first. -/
  txq : List (Nat × BitVec 640) := []
  /-- FSEQ of the next frame sent (R515; log entry 76). -/
  fseq : Nat := 0
  /-- Frames not acknowledged, with their FSEQ (R526). -/
  replay : List (Nat × BitVec 2048) := []
  /-- How often the oldest frame has been resent, the replays of the present millisecond and its start (R530). -/
  resends : Nat := 0
  replaysMs : Nat := 0
  replayAt : Nat := 0
  /-- Credits held, and credits to return, by VC (R524). -/
  credit : Map Nat := []
  giveBack : Map Nat := []
  /-- FSEQ of the next frame expected, and whether its NAK is out (R527, R529). -/
  rxNext : Nat := 0
  nakSent : Bool := false
  /-- Slots received and not yet served, by VC, each with the number of its arrival (R680); the next number. -/
  rx : Map (List (Nat × BitVec 640)) := []
  rxSeq : Nat := 0
  /-- The WATCHes held, at most 64 (R548). -/
  watches : List ShlWatch := []
  /-- Count of applied CSEQs (R545); survives warm reset. -/
  cseq : Nat := 0
  /-- Requests of the compute die in progress on this die (R520). -/
  open_ : List ShlOpen := []
  /-- FENCEs sent to the compute die and not yet answered (R311, R519): slot TAGs. -/
  fences : List Nat := []
  /-- FRESH of the own capability block (R534): cleared by the next link-up (R545). -/
  fresh : Bool := true
  /-- The TAG of the next request to the compute die (R519). -/
  nextTag : Nat := 0
  /-- Telemetry counts as missing until messages resume (R554). -/
  missed : Bool := false
  /-- The modules that trained at link-up, as a mask, and the highest rate at which they did (R535). -/
  train : Nat × Nat := (0, 0)
  deriving DecidableEq, Repr

/-! ### Harbour log (10) -/

/-- A takeover (R499-R506): the failed die and its slot; whether its journal has been read, the records still to be
written, and whether the vector has been raised for it. -/
structure Takeover where
  die : Nat
  slot : Nat
  begun : Bool := false
  recs : List (BitVec 256) := []
  rung : Bool := false
  deriving DecidableEq, Repr

/-- A member's entry in the roster (R770). -/
structure RosterEnt where
  hash : BitVec 384 := 0
  tray : Nat := 0
  slot : Nat := 0
  serial : Nat := 0
  enrolled : Bool := false
  quar : Bool := false
  deriving DecidableEq, Repr

/-- A scheduled activation that the steward runs (R842-R847): the dies armed whose turn has not started, and the die whose
turn runs. -/
structure Rollout where
  armed : List Nat := []
  turn : Option Nat := none
  deriving DecidableEq, Repr

/-- What the steward holds of its tray (R477, R494, R504, R509, R622, R750). -/
structure Stew where
  /-- The collection of R509 is complete: decisions may be issued. -/
  ready : Bool := false
  /-- Bit d: die d is a present member; has left (R820); has announced a reset and not rejoined (R494). -/
  present : BitVec 32 := 0
  absent : BitVec 32 := 0
  notice : BitVec 32 := 0
  /-- Bit d: die d holds a takeover (R506). -/
  holding : BitVec 32 := 0
  /-- One more than the mirror partner of a member; when each member's last beat came. -/
  partner : Map Nat := []
  beats : Map Nat := []
  /-- Identity hashes that members have reported, by die (R750, R760). -/
  idents : List (Nat × BitVec 384) := []
  /-- The P that a member has reported for a link to a peer: key (die * 32 + peer) * 24 + link (R622). -/
  links : Map Nat := []
  colls : List CollKey := []
  rollout : Rollout := {}
  deriving DecidableEq, Repr

/-- An SPDM connection with one requester (R746): 1 after GET_VERSION, 2 after GET_CAPABILITIES, 3 with algorithms agreed;
a key exchange in course; the key of the secured session. -/
structure Spdm where
  level : Nat := 0
  exchange : Option (BitVec 256) := none
  session : Option (BitVec 256) := none
  deriving DecidableEq, Repr

/-- A READ or WRITE sent to another die and not answered (R507, R576): whose it is, the position it serves, the message. -/
structure TwyReq where
  queue : Nat
  asn : Nat
  dseq : Nat
  pos : Nat
  msg : TwyMsg
  deriving DecidableEq, Repr

/-- What a receiver keeps for a sender's puts (R483): pair epoch, LOW, PSNs applied above LOW. -/
structure PutRx where
  epoch : Nat := 0
  low : Nat := 0
  seen : List Nat := []
  /-- PSNs whose RCNT was refused (R319): repetitions of them are refused again. -/
  refused : List Nat := []
  deriving DecidableEq, Repr

/-- A sender's side of a pair (R482, R486): pair epoch, next PSN. -/
structure PutTx where
  epoch : Nat := 0
  next : Nat := 1
  deriving DecidableEq, Repr

end Sys2Proof.Machine
end

