-- ==== Sys2Proof/Machine/State.lean ====
section
/-! DEFINITION. The state of the block: every register, buffer, queue, mode and store that the spec gives the die, as
plain data, and the reasons a step can stop. Every field's reset value stands beside it; `State.reset` is all of them.
Registers stand in `regs` under the keys of Machine/Ops.lean; a register at its reset value is not listed. -/

namespace Sys2Proof.Machine

/-- Event rings and what Headland holds for them (19). -/
structure EvtState where
  /-- Records of every ring: record n of ring f under key f * 4096 + n mod 4096 (R866); unlisted: none written. -/
  rings : Map EvtRec := []
  /-- Records lost per function since its last EVT_LOST record (R870). -/
  lostSince : Map Nat := []
  /-- Records held before the Reef is initialised, with the rings they go to, oldest first (R872). -/
  held : List (EvtRec × List Nat) := []
  /-- The rings are initialised: the end of PHASE 1 has passed (R872). -/
  ready : Bool := false
  /-- A FATAL record has been written since the last cold reset (R877). -/
  fatal : Bool := false
  deriving DecidableEq, Repr

/-- The counting frame (03). -/
structure MeshState where
  /-- Input buffers of every router, oldest first: key (tile * 14 + input) * 4 + VC (R85). -/
  bufs : Map (List BufFlit) := []
  /-- Ejection buffers: key tile * 4 + VC (R109). -/
  eject : Map (List Flit) := []
  /-- Flits delivered to an agent and not yet served: key tile * 8 + agent code (R82). -/
  inbox : Map (List Flit) := []
  /-- Answers that a source has received (R83, R118): key tile * 8 + agent code. -/
  arrived : Map (List Answer) := []
  /-- Unanswered unicast requests: key (tile * 8 + agent) * 65536 + TAG (R96, R118). -/
  outst : Map Outst := []
  /-- Streams of multicast WRITEs: key tile * 8 + agent (R104). -/
  streams : Map McStream := []
  /-- Arrival number of the next flit (R680). -/
  seq : Nat := 0
  /-- Consecutive grants to control or response flits past a waiting request: key tile * 7 + output (R88). -/
  starve : Map Nat := []
  /-- The share turn of an output's channel: the class served and the grants it has left: key (tile * 7 + output) * 4 + VC
  (R123). -/
  turn : Map (Nat × Nat) := []
  /-- Sources within the interval of their last urgent flit (R90). -/
  capBusy : List UrgSrc := []
  /-- Urgent flits held by their source's cap, oldest first (R91). -/
  capHeld : List UrgWait := []
  /-- Urgent flits to other dies that wait for a link's reservation, oldest first (R683). -/
  linkWait : List UrgWait := []
  /-- Reservations that links hold: link and source (R683). -/
  reserved : Map UrgWait := []
  /-- Flits that wait at an adjacency port for their neighbour's cove or for room in its slice, oldest first (R86, R115). -/
  adjHeld : List Flit := []
  /-- The spare wires of the crossings have been trained since the last cold reset (R111), and bit x: those of column x have
  replaced faulty ones (R112). -/
  isthTrained : Bool := false
  isthSpared : BitVec 48 := 0
  /-- Errors of each crossing in the present second: key 2 * column + direction, 0 South to North (R112). -/
  isthWin : Map Nat := []
  deriving DecidableEq, Repr

/-- The host port beyond its registers (13). -/
structure PciState where
  /-- Requests towards the host that wait in order (R655, R811). -/
  held : List HostReq := []
  /-- Unmasked entries of the MSI-X pool; unlisted entries are masked (R645). -/
  unmasked : Map Bool := []
  /-- Pending bits of masked vectors (R645). -/
  vecPend : Map Bool := []
  /-- Bit v: virtual function v is enabled (R642). -/
  vfEn : BitVec 32 := 0
  /-- The 64-bit shadow of each requester (R13). -/
  shadow : Map (BitVec 32) := []
  /-- _LO writes held for their _HI write, by the key of the _LO register (R14). -/
  loHeld : Map (BitVec 32) := []
  /-- The tag of the next read of host memory (R641). -/
  nextTag : Nat := 0
  deriving DecidableEq, Repr
/-- A Reef sector: data, its metadata (R128), the erroneous bytes in its stored codeword (R129, R130), and the
consecutive scrub passes that corrected it (R157). -/
structure ReefSec where
  data : Sector
  tally : BitVec 32
  poison : Bool
  sys : Bool
  mark : BitVec 16
  errs : Nat
  passes : Nat
  deriving DecidableEq, Repr

/-- The Reef (04). Sectors are kept by tile * 32768 + slice offset / 64; an unlisted one is as R165 leaves it. -/
structure ReefState where
  /-- The sectors with their metadata (R127, R128); an unlisted one is as R165 leaves it. -/
  secs : Map ReefSec := []
  /-- Rows marked weak whose bank has no spare row left (R159); a row is (tile * 8 + bank) * 128 + row. -/
  weak : List Nat := []
  /-- Rows whose remap is under way (R158). -/
  remapping : List Nat := []
  /-- Spare rows used, by tile * 8 + bank (R158). -/
  spares : Map Nat := []
  /-- The next sector of a cove's patrol, and the patrols it has completed (R154). -/
  scrubPos : Map Nat := []
  scrubPasses : Map Nat := []
  /-- Sectors left in a cove's scrub burst, plus one; 0 without a burst (R156). -/
  burst : Map Nat := []
  /-- The next row a cove refreshes, its fractional accumulator in 1/32 tick, the ticks to its next operation (R147). -/
  refRow : Map Nat := []
  refAcc : Map Nat := []
  refGap : Map Nat := []
  /-- The cove has been cool enough to step down since the last break (R149). -/
  cool : Map Bool := []
  /-- MIN_BAND has run above the temperature band since the last window of R738 ended. -/
  minHeld : Map Bool := []
  /-- The sector armed for error injection and the bytes to corrupt (R172). -/
  inj : Option (Nat × Nat) := none
  deriving DecidableEq, Repr

/-- An LPDDR sector: plaintext data and tally (R187, R189), the generation it is stored under and its poison (R180), the
erroneous bytes in its codeword (R181), the consecutive scrub passes that corrected it (R215). -/
structure LpSec where
  data : Sector
  tally : BitVec 32
  gen : Nat
  poison : Bool
  errs : Nat
  passes : Nat
  deriving DecidableEq, Repr

/-- A sector request in a controller's queue: who asked (agent keys), when it arrived, and whether its class held
tokens then (R669). -/
structure MemReq where
  op : Nat
  d : Nat
  pay : Sector
  tally : BitVec 32
  poison : Bool
  mark : Nat
  share : Nat
  keysel : Nat
  last : Bool
  port : Nat
  src : Nat
  tag : Nat
  arr : Nat
  held : Bool
  deriving DecidableEq, Repr

/-- External memory (05). -/
structure MemState where
  /-- Sectors by D >> 6 (R180); an unlisted one is as its region's zero fill left it (R192). -/
  secs : Map LpSec := []
  /-- The generation under which a region's zero fill, or its last rotation, stored its sectors (R195, R196). -/
  regionGen : Map Nat := []
  /-- Regions whose zero fill is in progress (R192). -/
  filling : List Nat := []
  /-- Regions awaiting their rotation pass (R196). -/
  rot : List Nat := []
  /-- The waiting requests of each controller, oldest first (R185). -/
  queue : Map (List MemReq) := []
  /-- Pause of a channel: 1 re-centring, 2 retraining, 3 retraining after slack (R202-R204). -/
  paused : Map Nat := []
  /-- Corrections of a channel in the present second (R204). -/
  ceWin : Map Nat := []
  /-- When a channel last posted MEM_CHWEAK (R204). -/
  lastWeak : Map Nat := []
  /-- Channels under JEDEC timing derating (R209). -/
  derated : Map Bool := []
  /-- Refreshes postponed and issued, by channel, and when a channel's last refresh fell due (R207, R208). -/
  postponed : Map Nat := []
  refreshes : Map Nat := []
  refAt : Map Nat := []
  /-- The stripes whose metadata a channel's write-through cache holds, newest first (R182). -/
  metas : Map (List Nat) := []
  /-- The next stripe of a channel's patrol scrub (R213). -/
  scrubPos : Map Nat := []
  /-- The packages are in self-refresh (R211), and when they last entered it (R202). -/
  selfRefresh : Bool := false
  parkedAt : Nat := 0
  /-- Cold-reset training has ended (R200), and the steps of the last training of every channel (R202). -/
  trained : Bool := false
  steps : List Nat := []
  /-- The data rate in force (R174, R175). -/
  rate : Nat := 3
  /-- The rate that the CONFIG section of flash records (R175). -/
  rateCfg : Option Nat := none
  deriving DecidableEq, Repr

/-- Regulation (14), by keys (resource * 24 + unit) * 16 + class. -/
structure QosState where
  /-- Tokens of each bucket in twelfths of a byte (R661). -/
  tokens : Map Nat := []
  /-- Bytes served to each class in the present 10 µs window (R663). -/
  used : Map Nat := []
  /-- When that window began, in ticks (R664). -/
  winAt : Nat := 0
  /-- Requests that wait at the host port by R663, oldest first. -/
  host : List HostWait := []
  /-- The class turn of a unit: class and grants left (R663). -/
  turns : Map (Nat × Nat) := []
  /-- Misses of a class (16 r + c) in the present 1 ms window, and whether one fell under R668 (R670). -/
  winMiss : Map Nat := []
  winOver : Map Bool := []
  /-- The fraction of R672 exceeded BPPCT for a port in the last window. -/
  paced : Bool := false
  /-- The Isthmus counts at the start of the present 1 ms window, South to North and back (R673); the windows since the
  last QOS_ISTHHOT (R674). -/
  isthS2N : Nat := 0
  isthN2S : Nat := 0
  hotAgo : Option Nat := none
  deriving DecidableEq, Repr

/-- Headland (16). -/
structure HldState where
  /-- Data keys by 2 * slot + generation (R751). -/
  keys : Map (BitVec 512) := []
  /-- Bit d: die d is known to be a present member of the system (R272). -/
  members : BitVec 32 := 0
  /-- The roster by die number, kept in flash (R770), and the identity hashes of authenticated peers (R748, R750). -/
  roster : Map RosterEnt := []
  peers : Map (BitVec 384) := []
  /-- The identity hash of the peer at the other end of a link, from CONFIG (R71, R748). -/
  linkHash : Map (BitVec 384) := []
  /-- Links on which a peer of the own slot has been met (R70). -/
  conflict : BitVec 24 := 0
  /-- The claim wait of R764 runs; renewals sent in this epoch (R761); the holder's epoch. -/
  claimWait : Bool := false
  rseq : Nat := 0
  holdEpoch : Nat := 0
  /-- What the die holds while it is steward. -/
  stew : Stew := {}
  /-- The mailbox command that runs: its ERR and response values, written when it completes (R781). -/
  mbx : Option (Nat × List Nat) := none
  /-- An ENROL that was forwarded: the die and SERIAL of its record (R777). -/
  enrolWait : Option (Nat × Nat) := none
  /-- The record roots by generation, the live generations, and the current one (R754). -/
  roots : Map (BitVec 256) := []
  rootGen : Nat := 0
  /-- SPDM connections: 0 PCIe, 1 I3C, 2 SMBus, 3 + d another die (R746, R747). -/
  spdm : Map Spdm := []
  /-- The endpoint IDs that bus owners have assigned, by transport (R778). -/
  eid : Map Byte := []
  deriving DecidableEq, Repr

/-- Firmware (18). -/
structure FwuState where
  /-- Images in the active area, by component; LOADER's copy A stands under 2, copy B under 7. An unlisted one is as
  manufactured (log entry 97); an erased one is empty (R824). -/
  active : Map (List Byte) := []
  /-- Images received in the staging area, by component (R824, R837). -/
  staged : Map (List Byte) := []
  /-- The update session: over PLDM and its transport, or over the FWU window; the component it receives, 0 for none (R836). -/
  session : Option (Option Transport × Nat) := none
  /-- The FWU command that runs: its ERR and its component (R859). -/
  cmd : Option (Nat × Nat) := none
  /-- The marker of the UPDATE section: 0 none, 1 ARMED, 2 OVERWRITING, 3 BOOTING (R842, R844, R849). -/
  marker : Nat := 0
  /-- Cold resets since the marker became BOOTING or PHASE 3 was last reached (R844). -/
  boots : Nat := 0
  /-- The steward has started this die's turn, which waits to be acted on (R843). -/
  turnDue : Bool := false
  /-- The LOADER copy that runs: 2 for A, 7 for B (R845). -/
  loader : Nat := 2
  /-- The format of the CONFIG section, and whether the HEADLAND image starts for the first time (R850). -/
  cfgFormat : Nat := 0
  newHead : Bool := false
  deriving DecidableEq, Repr

/-- Pins, resets and what the board supplies (17). -/
structure RstState where
  /-- RESET_N is high (R789, R800). -/
  resetN : Bool := true
  /-- PERST_N is high, and has been seen high since the start of the last cold reset (R804). -/
  perst : Bool := false
  perstSeen : Bool := false
  /-- PHASE 3 has been reached since the last cold reset (R803). -/
  ready : Bool := false
  /-- A warm reset runs: 1 its engines stop, 2 its blocks are reset, 3 it recovers (R807). -/
  warm : Nat := 0
  /-- The always-on time of the last reset's start, in ticks (R823). -/
  start : Nat := 0
  /-- The GPIO pins that Headland's firmware drives; before it has configured them, none: all are inputs without a pull (R906). -/
  gpio : Option (BitVec 8) := none
  /-- Headland has read the flash device's parameter table: the flash is clocked in quad mode (R908). -/
  quad : Bool := false
  deriving DecidableEq, Repr

/-- A clamp of an adaptive loop (R726, R727): since when, and whether its interrupt has been raised (R728). -/
structure Clamp where
  loop : Nat
  inst : Nat
  start : Nat
  raised : Bool
  deriving DecidableEq, Repr

/-- Translation (06). -/
structure XltState where
  /-- The contexts, by ASID (R225). -/
  ctxs : Map Ctx := []
  /-- Segments by 16 * ASID + number (R232). -/
  segs : Map Seg := []
  /-- First-level caches by engine, second-level by half (0 South), newest use first (R264). -/
  l1 : Map (List XEnt) := []
  l2 : Map (List XEnt) := []
  /-- Translations that wait for the host, those of an ADVISE among them (R239, R245, R274). -/
  waits : List AtsWait := []
  /-- The tag of the next ATS or page request (R239). -/
  nextTag : Nat := 0
  /-- Invalidations in progress, oldest first (R263). -/
  invs : List Inval := []
  /-- Outstanding page requests that the host allows a function: 0 while page requests are off (R247, R248). -/
  priAlloc : Map Nat := []
  deriving DecidableEq, Repr

/-- Tide queues (07). -/
structure TqState where
  /-- The queues that exist, by number (R283). -/
  queues : Map TQueue := []
  /-- The turn of an engine: its queue and the turns that queue has left (R280). -/
  turn : Map (Nat × Nat) := []
  /-- Reads of host memory in flight, by tag (R641, R651). -/
  reads : Map ReadFor := []
  /-- Collectives executed, by mark * 2^32 + GROUP (R331). -/
  ordinals : Map Nat := []
  /-- The sequence part of the next LAUNCH value (R400). -/
  launchSeq : Nat := 0
  deriving DecidableEq, Repr

/-- Bead cores by 2 * tile + b (08). -/
structure BeadState where
  /-- The cores that run or have run an instance (R351). -/
  cores : Map Core := []
  /-- Launches that wait for a core, in the order they run (R379). -/
  pend : Map (List KPend) := []
  /-- Launches that an engine holds for a core whose queue is full (R379). -/
  wait : Map (List KPend) := []
  /-- Exceptions on their way to their engines, oldest first (R407). -/
  excs : List KExc := []
  /-- FENCE flits that a tile has yet to answer (R311, R370). -/
  fences : List KFence := []
  /-- Reports of tiles on their way to the engine: tile and fence identifier (R311). -/
  reports : List (Nat × Nat) := []
  /-- The next fence identifier. -/
  fenceNext : Nat := 0
  deriving DecidableEq, Repr

/-- The Harbour log (10). -/
structure HblState where
  /-- The own area by position, LSN mod 262,144 (R456). -/
  own : Map (BitVec 512) := []
  /-- The oldest LSN whose position has not been reclaimed (R462). -/
  oldest : Nat := 0
  /-- Entries below this LSN are durable locally (R461). -/
  local_ : Nat := 0
  /-- Entries below this LSN are durable at the partner (R461). -/
  acked : Nat := 0
  /-- One more than the highest LSN sent to the present partner; 0 while none is sent (R480). -/
  goal : Nat := 0
  /-- Mirror slots by slot * 262,144 + position, and one more than the cumulative LSN of each (R456, R480). -/
  slots : Map (BitVec 512) := []
  slotHead : Map Nat := []
  /-- Takeovers in course, oldest first (R499). -/
  tk : List Takeover := []
  /-- Bit d: die d was declared failed while this die mirrored it, and has not joined again (R809). -/
  taken : BitVec 32 := 0
  /-- The takeover ring: records written, and records consumed by the host (R499, R505). -/
  tkTail : Nat := 0
  tkHead : Nat := 0
  /-- The put pairs with other dies, as sender and as receiver (R482, R483). -/
  txPairs : Map PutTx := []
  rxPairs : Map PutRx := []
  /-- The pair epoch of each die's last join (R487; log entry 79). -/
  pairGen : Map Nat := []
  /-- Epoch of the highest steward decision seen (R508). -/
  decEpoch : Nat := 0
  deriving DecidableEq, Repr

/-- Tideway links (12). -/
structure TwyState where
  /-- REFCLK_TWY is absent (R896). -/
  noClock : Bool := false
  /-- The links beyond their registers (R570, R582); an unlisted one is as its own defaults. -/
  links : Map TwyLink := []
  /-- Received messages that wait to be served (R580), by link * 8 + hop * 4 + VC. -/
  rx : Map (List TwyMsg) := []
  /-- Messages that wait for a route (R617, R618). -/
  waiting : List TwyMsg := []
  /-- READs and WRITEs sent to other dies and not answered (R576), by TAG mod 2^14; the next TAG. -/
  reads : Map TwyReq := []
  nextTag : Nat := 0
  deriving DecidableEq, Repr

/-- Shoreline ports (11). -/
structure ShlState where
  /-- The ports beyond their registers (R526, R556); an unlisted one is as its own defaults. -/
  ports : Map ShlPort := []
  deriving DecidableEq, Repr

/-- A current sensor (R714, R715): its range (true high), the dual samples left of a switch, the single-range samples in
which it makes no decision, low readings in a row, the samples taken. -/
structure CurSense where
  high : Bool := false
  dual : Nat := 0
  hold : Nat := 0
  run : Nat := 0
  seq : Nat := 0
  deriving DecidableEq, Repr

/-- Breakwater (15). -/
structure BrkState where
  /-- The FCODE that the frequency loop chooses, and the caps of R712 and R720 (R733). -/
  loopF : Nat := 3
  capI : Nat := 3
  capT : Nat := 3
  /-- Quantities that an action of class 1 or 2 holds outside their envelope: loop, instance, cause (R730). -/
  overs : List (Nat × Nat × Nat) := []
  /-- Rails in a current-limit episode (R712); samples at or above 115 °C in a row, by sensor (R723). -/
  railOver : BitVec 4 := 0
  hotRun : Map Nat := []
  /-- Droop comparators at work: 0-15 coves, 16 VIN_S, 17 VIN_N; true once released and in the hold (R709). -/
  trips : Map Bool := []
  /-- The current sensors' range and counts, by sensor (R714, R715). -/
  isens : Map CurSense := []
  /-- Parts of a µJ not yet in BRK_ENERGY, in units of 1/16,384,000 µJ (R718). -/
  energyPart : Map Nat := []
  /-- AVSBus transactions in a row that a rail has not answered (R691). -/
  avsMiss : Map Nat := []
  /-- Ports in an episode of R725. -/
  cdOver : BitVec 8 := 0
  /-- THERMTRIP_N is asserted (R723). -/
  thermTrip : Bool := false
  /-- Coves that a flit's wake request has reached (R114), and coves that an event of slack exit needs (R702). -/
  wakeReq : BitVec 16 := 0
  exitReq : BitVec 16 := 0
  /-- Coves whose scrub burst asks for their clock (R156). -/
  burstReq : BitVec 16 := 0
  /-- Bit e: the last placement of Reckon engine e left its envelope (R740). -/
  placeOut : BitVec 8 := 0
  /-- Clamps in force, oldest first (R727). -/
  clamps : List Clamp := []
  /-- Temperature sensors that have reported since the last cold reset (R719). -/
  tempSeen : Map Bool := []
  deriving DecidableEq, Repr

/-- What the block has produced towards the outside, oldest first. -/
inductive Out where
  /-- A request sent to the host. -/
  | host (r : HostReq)
  /-- The completion of a BAR0 or BAR2 read. -/
  | barValue (f : Func) (v : BitVec 32)
  /-- A Shoreline frame on port s (R515). -/
  | shlFrame (s : Nat) (frame : BitVec 2048)
  /-- The capability block sent over the sideband of port s (R534). -/
  | shlCap (s : Nat) (block : BitVec 256)
  /-- The configuration block of link n (R571): die, MODE, ENC and MAXRATE; the link number is n and the version 1. -/
  | twyConfig (n : Nat) (die mode enc maxRate : Nat)
  /-- The power limit in watts sent to the compute die of port s (R555, R724). -/
  | cdLimit (s : Nat) (watts : Nat)
  /-- An AVSBus Target Rail Voltage write: rail and mV (R689, R690). -/
  | avsTarget (rail mv : Nat)
  /-- A lane of link n under TEST sends a pattern, from the contents of its generator (R592, R593). -/
  | twyPrbs (n lane kind : Nat) (reg : BitVec 31)
  /-- A Tideway frame on link n (R575). -/
  | twyFrame (n : Nat) (frame : BitVec 2048)
  /-- The completion of a BAR4 read, with the poisoned indication (R169). -/
  | bar4Data (f : Func) (bytes : List Byte) (poison : Bool)
  /-- An SPDM response over a transport (R746, R747). -/
  | spdm (t : Transport) (a : SpdmAns)
  /-- The answer to GET_RECORD_KEY: requester as in HldState.spdm, ASID, KEYGEN, the key, or none for a refusal (R756). -/
  | recordKey (who asid gen : Nat) (key : Option (List Byte))
  /-- An MCTP control response or other answer of Headland: transport and endpoint ID (R778, R779). -/
  | mctp (t : Transport) (eid : Byte)
  /-- A PLDM message of the firmware device (R840). -/
  | pldm (t : Transport) (a : PldmAns)
  /-- Link training of the host port begins (R797). -/
  | pciTrain
  deriving DecidableEq, Repr

/-- The state of the block. -/
structure State where
  /-- Device registers that differ from their reset value, by key (Machine/Ops.lean `regKey`). -/
  regs : Map (BitVec 32) := []
  /-- Always-on ticks of 40 ns since the last cold reset (R863 TIME). -/
  time : Nat := 0
  /-- The model's own: the number of open values used so far (Config.freeValue; log entry 6). -/
  free : Nat := 0
  /-- The model's own: commands that wait, first in, first out. -/
  pending : List Instr := []
  /-- Everything sent to the outside, oldest first. -/
  out : List Out := []
  evt : EvtState := {}
  msh : MeshState := {}
  pci : PciState := {}
  reef : ReefState := {}
  mem : MemState := {}
  qos : QosState := {}
  hld : HldState := {}
  xlt : XltState := {}
  tq : TqState := {}
  bead : BeadState := {}
  hbl : HblState := {}
  shl : ShlState := {}
  twy : TwyState := {}
  brk : BrkState := {}
  fwu : FwuState := {}
  rst : RstState := {}
  deriving DecidableEq, Repr

/-- Why the machine stops with a fault. -/
inductive Fault where
  /-- Raised by no meaning: the spec gives every command an effect, and a command that the state does not admit leaves
  it as it is (log entry 4). Kept so that the type of a step is whole; safe. -/
  | none
  deriving DecidableEq, Repr

/-- Why a command has no meaning. -/
inductive Refusal where
  /-- Raised by the dispatch for a command that is not modelled; safe. -/
  | notModelled (mnemonic : String)
  deriving DecidableEq, Repr

/-- The state after reset: every field at the reset value that stands beside it. -/
def State.reset : State := {}

end Sys2Proof.Machine
end

