-- ==== Sys2Proof/Machine/Ops.lean ====
section
/-! DEFINITION. The named operations of the machine over registers, events, vectors and host requests. Everything here
is shared by the commands' meanings in the family files. -/

namespace Sys2Proof.Machine

/-- What a meaning answers. -/
abbrev Result := Host.Outcome State Fault Refusal

/-! ### Bits -/

/-- The `w` bits of a word from bit `lo` up. -/
def bitsAt {n : Nat} (v : BitVec n) (lo w : Nat) : Nat :=
  v.toNat / 2 ^ lo % 2 ^ w

/-- A 32-bit word with the `w` bits from bit `lo` up replaced by `x`. -/
def putBits (v : BitVec 32) (lo w x : Nat) : BitVec 32 :=
  BitVec.ofNat 32 (v.toNat % 2 ^ lo + (x % 2 ^ w) * 2 ^ lo + v.toNat / 2 ^ (lo + w) * 2 ^ (lo + w))

/-- Bit `i` of a word. -/
def bitAt {n : Nat} (v : BitVec n) (i : Nat) : Bool := v.getLsbD i

/-- A word with bit `i` set to `b`. -/
def putBit {n : Nat} (v : BitVec n) (i : Nat) (b : Bool) : BitVec n :=
  if b then v ||| BitVec.ofNat n (2 ^ i) else v &&& ~~~(BitVec.ofNat n (2 ^ i))

/-- One where a condition holds. -/
def boolNat (b : Bool) : Nat := if b then 1 else 0

/-- Byte `i` of a sector (little-endian). -/
def secByte (d : Sector) (i : Nat) : Byte := d.extractLsb' (8 * i) 8

/-- The little-endian value of `w` bytes of a sector from byte `i`. -/
def secField (d : Sector) (i w : Nat) : Nat := bitsAt d (8 * i) (8 * w)

/-- A sector with `w` bytes from byte `i` replaced by the value `x` (little-endian). -/
def secPut (d : Sector) (i w x : Nat) : Sector :=
  let m : Sector := BitVec.ofNat 512 ((2 ^ (8 * w) - 1) * 2 ^ (8 * i))
  (d &&& ~~~m) ||| (BitVec.ofNat 512 ((x % 2 ^ (8 * w)) * 2 ^ (8 * i)) &&& m)

/-- The tally word of a sector: its value modulo 2^31 - 1 (R412). -/
def tallyOf (d : Sector) : BitVec 32 := BitVec.ofNat 32 (d.toNat % (2 ^ 31 - 1))

/-- A tally field agrees with a sector; a field above 0x7FFF_FFFE is a mismatch (R413). -/
def tallyOk (d : Sector) (t : BitVec 32) : Bool := t == tallyOf d

/-- One bit step of the reflected CRC-32C (R417). -/
def crcBit (c : Nat) : Nat :=
  if c % 2 = 1 then (c / 2) ^^^ 0x82F63B78 else c / 2

/-- CRC-32C over bytes in ascending address order (R417): running value. -/
def crcStep (c : Nat) (b : Byte) : Nat :=
  crcBit (crcBit (crcBit (crcBit (crcBit (crcBit (crcBit (crcBit (c ^^^ b.toNat))))))))

/-- CRC-32C of a byte string (R417). -/
def crc32c (bs : List Byte) : BitVec 32 :=
  BitVec.ofNat 32 (bs.foldl crcStep 0xFFFFFFFF ^^^ 0xFFFFFFFF)

/-- The `n` bytes of a word, least significant first. -/
def bytesOf {w : Nat} (v : BitVec w) (n : Nat) : List Byte :=
  (List.range n).map (fun i => v.extractLsb' (8 * i) 8)

/-! ### Registers -/

/-- The key of register `r` at index `i` in `State.regs`. -/
def regKey (r : Reg) (i : Nat) : Nat := r.ctorIdx + 512 * i

/-- The reset value of a field at index `i`: the table's, with the tables' per-index values (R625 TWY_LINKCTL.MODE,
R742 BRK_RAILCFG.AVSADDR and BRK_RAILLIM.AMPS). BEAD_AVAIL and the fuses of FWU read as log entry 5 says. -/
def fldReset (f : Fld) (i : Nat) : Nat :=
  match f.reg with
  | .TWY_LINKCTL => if f.bit = 1 then (if i < 14 then 0 else 1) else f.reset
  | .BRK_RAILCFG => i
  | .BRK_RAILLIM => [240, 240, 60, 40].getD i 0
  | .BEAD_AVAIL => 2 ^ 32 - 1
  | _ => f.reset

/-- The reset value of register `r` at index `i`. -/
def regReset (r : Reg) (i : Nat) : BitVec 32 :=
  BitVec.ofNat 32 ((r.info.flds.map (fun f => fldReset f i % 2 ^ f.width * 2 ^ f.bit)).sum)

/-- The present value of a register. -/
def getReg (s : State) (r : Reg) (i : Nat) : BitVec 32 :=
  mapGet s.regs (regKey r i) (regReset r i)

/-- Gives a register a value; a register at its reset value is not listed. -/
def setReg (r : Reg) (i : Nat) (v : BitVec 32) (s : State) : State :=
  { s with regs := mapSet s.regs (regKey r i) (regReset r i) v }

/-- The value of a field. -/
def getF (s : State) (f : Fld) (i : Nat := 0) : Nat :=
  bitsAt (getReg s f.reg i) f.bit f.width

/-- Gives a field a value (its low bits where it does not fit). -/
def setF (f : Fld) (i v : Nat) (s : State) : State :=
  setReg f.reg i (putBits (getReg s f.reg i) f.bit f.width v) s

/-- A one-bit field as a condition. -/
def flag (s : State) (f : Fld) (i : Nat := 0) : Bool := getF s f i == 1

/-- Adds `n` to a counting field, which saturates. -/
def bumpBy (f : Fld) (i n : Nat) (s : State) : State :=
  setF f i (min (getF s f i + n) (2 ^ f.width - 1)) s

/-- Adds 1 to a counting field, which saturates. -/
def bump (f : Fld) (i : Nat) (s : State) : State := bumpBy f i 1 s

/-- The 64-bit quantity of a register pair (R12). -/
def get64 (s : State) (lo hi : Reg) (i : Nat) : Nat :=
  (getReg s lo i).toNat + (getReg s hi i).toNat * 2 ^ 32

/-- Gives a register pair a 64-bit value (R12). -/
def set64 (lo hi : Reg) (i v : Nat) (s : State) : State :=
  setReg hi i (BitVec.ofNat 32 (v / 2 ^ 32)) (setReg lo i (BitVec.ofNat 32 v) s)

/-- Adds `n` to a 64-bit count, which wraps. -/
def add64 (lo hi : Reg) (i n : Nat) (s : State) : State :=
  set64 lo hi i (get64 s lo hi i + n) s

/-- Returns every index of a register to its reset value. -/
def clearReg (r : Reg) (s : State) : State :=
  { s with regs := s.regs.filter (fun e => e.1 % 512 != r.ctorIdx) }

/-- Returns every index of each listed register to its reset value. -/
def clearRegs (rs : List Reg) (s : State) : State := rs.foldl (fun t r => clearReg r t) s

/-- Bit `i` of a register pair's 64-bit quantity. -/
def pairBit (s : State) (lo hi : Reg) (i : Nat) : Bool := (get64 s lo hi 0).testBit i

/-- Sets or clears bit `i` of a register pair. -/
def putPairBit (lo hi : Reg) (i : Nat) (b : Bool) (s : State) : State :=
  if i < 32 then setReg lo 0 (putBit (getReg s lo 0) i b) s
  else setReg hi 0 (putBit (getReg s hi 0) (i - 32) b) s

/-- A written value is not a reserved encoding of its field (R11). -/
def fldLegal (f : Fld) (v : Nat) : Bool := decide (f.lo ≤ v ∧ v ≤ f.hi) && v % f.step == 0

/-- Writes one field of a 32-bit register write (R8, R11): RW takes the value, W1C clears the ones written, RO and WO
take nothing; `true` tells of a reserved encoding, which leaves the field as it is. -/
def writeFld (f : Fld) (i : Nat) (val : BitVec 32) (p : State × Bool) : State × Bool :=
  let v := bitsAt val f.bit f.width
  match f.acc with
  | .ro => p
  | .wo => if fldLegal f v then p else (p.1, true)
  | .w1c => (setF f i (getF p.1 f i - (getF p.1 f i &&& v)) p.1, p.2)
  | .rw => if f.ownRow then p else if fldLegal f v then (setF f i v p.1, p.2) else (p.1, true)

/-- Writes every field of a register that has no row of its own; `true` tells of a reserved encoding. -/
def writeFlds (r : Reg) (i : Nat) (val : BitVec 32) (s : State) : State × Bool :=
  r.info.flds.foldl (fun p f => writeFld f i val p) (s, false)

/-! ### Free values -/

/-- Draws the next open value of `w` bits (log entry 6): the value, and the state in which it is used up. -/
def draw (w : Nat) (s : State) : BitVec w × State :=
  (Config.freeValue w s.free, { s with free := s.free + 1 })

/-! ### Phases and clocks -/

/-- The start-up phase shown in GLB_STATUS.PHASE (R792). -/
def phase (s : State) : Nat := getF s F.GLB_STATUS.PHASE

/-- The clocks run: from BRINGUP on, except in a failed die (R815), in ROM recovery, and in slack (R700). -/
def clocksRun (s : State) : Bool :=
  (2 ≤ phase s && phase s ≤ 5) && getF s F.BRK_PSSTAT.STATE != 2

/-- The frame works: its clock runs, and no warm reset holds its engines and agents (R807). -/
def frameRuns (s : State) : Bool := clocksRun s && phase s ≤ 3

/-- The block answers writes to its registers: PHASE 3 to 5 (R798; log entry 13). -/
def barOpen (s : State) : Bool := 3 ≤ phase s && phase s ≤ 5

/-- A step of the frame: it happens while the frame clock runs, and otherwise leaves the state as it is. -/
def onFrame (s : State) (f : State → State) : Result :=
  .next (if frameRuns s then f s else s)

/-- A step of what goes on through a warm reset: it happens while the clocks run. -/
def onClock (s : State) (f : State → State) : Result :=
  .next (if clocksRun s then f s else s)

/-- A step that the state admits or not: where it does not, nothing happens (log entry 4). -/
def onlyIf (b : Bool) (f : State → State) (s : State) : State := if b then f s else s

/-! ### The host port: requests, vectors -/

/-- Requests may leave for the host: the link is up and no HOST_WAIT holds them (R655, R811). -/
def hostOpen (s : State) : Bool := flag s F.PCI_LINK.UP && !flag s F.GLB_STATUS.HOST_WAIT

/-- Bytes of data that a request writes to the host (PCI_DMAWR). -/
def reqBytes (r : HostReq) : Nat :=
  match r with
  | .data _ _ len _ _ _ _ => len
  | .record _ _ _ size _ => size
  | .msix _ | .read _ _ _ _ _ | .ats _ _ _ _ _ | .page _ _ _ _ _ | .invDone _ _ => 0

/-- A request leaves for the host; what is written is counted (R657). -/
def hostEmit (r : HostReq) (s : State) : State :=
  add64 .PCI_DMAWR_LO .PCI_DMAWR_HI 0 (reqBytes r) { s with out := s.out ++ [.host r] }

/-- Sends a request towards the host that is not regulated; it goes behind what waits there (R655, R663, R811). -/
def hostSend (r : HostReq) (s : State) : State :=
  if hostOpen s && s.pci.held.isEmpty then
    if s.qos.host.isEmpty then hostEmit r s
    else { s with qos := { s.qos with host := s.qos.host ++ [{ req := r }] } }
  else { s with pci := { s.pci with held := s.pci.held ++ [r] } }

/-- Releases the held requests in order once nothing holds them (R655, R811). -/
def hostFlush (s : State) : State :=
  if hostOpen s then
    s.pci.held.foldl (fun u r => hostSend r u) { s with pci := { s.pci with held := [] } }
  else s

/-- The function a pool vector belongs to (R642). -/
def vecOwner (s : State) (v : Nat) : Nat :=
  if 1 ≤ v / 64 ∧ v / 64 < 32 ∧ s.pci.vfEn.getLsbD (v / 64) = true then v / 64 else 0

/-- Raises a pool vector: one message, or the pending bit while the vector is masked (R645). -/
def raiseVec (v : Nat) (s : State) : State :=
  if mapGet s.pci.unmasked v false then hostSend (.msix v) s
  else { s with pci := { s.pci with vecPend := mapSet s.pci.vecPend v false true } }

/-! ### Events (19) -/

/-- The function a context is bound to, if it is in use (R225). -/
def asidFunc (s : State) (asid : Nat) : Option Nat :=
  match mapFind s.xlt.ctxs asid with
  | some c => if c.bound then some c.func else none
  | none => none

/-- A queue lies in VF v's range under PCI_VFQ#v (R867). -/
def inVfRange (s : State) (v q : Nat) : Bool :=
  decide (getF s F.PCI_VFQ.BASE v ≤ q ∧ q < getF s F.PCI_VFQ.BASE v + getF s F.PCI_VFQ.COUNT v)

/-- The rings an event goes to: ring 0, and the ring of each VF whose context or queue it names (R867). -/
def evRings (s : State) (asid : Nat) (queue : Option Nat) : List Nat :=
  0 :: ((List.range 32).filter (fun v => v != 0 &&
    ((asid != 0 && asidFunc s asid == some v) ||
      (match queue with | some q => inVfRange s v q | none => false))))

/-- Unread records of ring f (R866). -/
def unread (s : State) (f : Nat) : Nat :=
  (getReg s .EVT_TAIL f - getReg s .EVT_HEAD f).toNat

/-- The interrupt of a record written to ring f (R874, R875). -/
def ringIrq (f sev : Nat) (s : State) : State :=
  if (getF s F.EVT_CTL.IRQSEV f).testBit sev && !flag s F.EVT_STAT.IRQPEND f then
    let t := setF F.EVT_STAT.IRQPEND f 1 s
    let v := getF s F.EVT_CTL.VECTOR f
    if vecOwner s v = f then raiseVec v t else setF F.EVT_STAT.VECOWN f 1 t
  else s

/-- Writes one record to ring f, or counts it as lost: the last slot is kept for a FATAL record (R866, R870). -/
def ringWrite (f : Nat) (r : EvtRec) (s : State) : State :=
  if unread s f < 4095 ∨ (r.sev = 3 ∧ unread s f < 4096) then
    let tail := getReg s .EVT_TAIL f
    let t := { s with evt := { s.evt with rings := mapIns s.evt.rings (f * 4096 + tail.toNat % 4096) r } }
    ringIrq f r.sev.toNat (setReg .EVT_TAIL f (tail + 1) t)
  else
    let t := bump F.EVT_LOST.COUNT f s
    { t with evt := { t.evt with lostSince := mapSet t.evt.lostSince f 0 (mapGet t.evt.lostSince f 0 + 1) } }

/-- The record of an event (R863, R864; reserved bits are 0 by R16). -/
def evRecord (s : State) (e : EvArgs) (sev : Nat) : EvtRec :=
  { code := BitVec.ofNat 16 e.code, sev := BitVec.ofNat 2 sev, inj := e.inj,
    die := BitVec.ofNat 5 (getF s F.GLB_DIE.DIE), asid := BitVec.ofNat 16 e.asid,
    queue := BitVec.ofNat 10 (e.queue.getD 0), qvalid := e.queue.isSome,
    time := BitVec.ofNat 64 s.time, mark := BitVec.ofNat 16 e.mark, inst := BitVec.ofNat 16 e.inst,
    detail0 := BitVec.ofNat 32 e.d0, detail1 := BitVec.ofNat 64 e.d1 }

/-- Where a full ring has a slot again, one DEGRADED EVT_LOST record tells how many were lost (R870). -/
def tryLost (f : Nat) (s : State) : State :=
  let n := mapGet s.evt.lostSince f 0
  if n != 0 && s.evt.ready && decide (unread s f < 4095) then
    let t := { s with evt := { s.evt with lostSince := mapDel s.evt.lostSince f } }
    ringWrite f (evRecord s { code := Ev.EVT_LOST, d0 := n } 1) (bump F.EVT_SEVCNT.COUNT 1 t)
  else s

/-- Posts an event: counts its severity and writes one record to each ring it goes to (R862); before the Reef is
initialised Headland holds up to 64 of them (R872); a second FATAL event is only counted (R877). -/
def post (e : EvArgs) (s : State) : State :=
  let sev := e.sev.getD ((evSev? e.code).getD 0)
  let t := bump F.EVT_SEVCNT.COUNT sev s
  if sev = 3 ∧ s.evt.fatal = true then t
  else
    let t := if sev = 3 then { t with evt := { t.evt with fatal := true } } else t
    let r := evRecord s e sev
    let rings := evRings s e.asid e.queue
    if s.evt.ready then rings.foldl (fun u f => ringWrite f r u) t
    else if s.evt.held.length < 64 then
      { t with evt := { t.evt with held := t.evt.held ++ [(r, rings)] } }
    else rings.foldl (fun u f => bump F.EVT_LOST.COUNT f u) t

/-- The end of PHASE 1: the held records are written to their rings in order (R872). -/
def evReady (s : State) : State :=
  let t := { s with evt := { s.evt with held := [], ready := true } }
  s.evt.held.foldl (fun u h => h.2.foldl (fun w f => ringWrite f h.1 w) u) t

/-! ### A failed die (R815, R877) -/

/-- Enters a phase: PHASE, and the µs since the last reset's start in GLB_PHASET (R792, R823). -/
def setPhase (p : Nat) (s : State) : State :=
  setF F.GLB_PHASET.US p (min ((s.time - s.rst.start) / 25) (2 ^ 32 - 1)) (setF F.GLB_STATUS.PHASE 0 p s)

/-- Stops the die as a failed die: PHASE 6, the code in GLB_FAILCODE, and every Shoreline and Tideway link down. The
frame clock stops with the phase (`frameRuns`). -/
def dieStop (code : Nat) (s : State) : State :=
  if phase s = 6 then s else
  let t := setF F.GLB_FAILCODE.CODE 0 code (setPhase 6 s)
  let t := (List.range 8).foldl (fun u p => setF F.SHL_PSTAT.STATE p 0 u) t
  let t := (List.range 24).foldl (fun u n => setF F.TWY_STATUS.STATE n 0 u) t
  setReg .TWY_UP 0 0 t

/-- A FATAL event: its record is written, then the die stops (R877, R815). -/
def fatal (e : EvArgs) (s : State) : State := dieStop e.code (post { e with sev := some 3 } s)

end Sys2Proof.Machine
end

