-- ==== Sys2Proof/Machine/Flits.lean ====
section
/-! DEFINITION. Flits of the counting frame: header fields (R80, R81), operations (R83), targets, and the tiles and
coves they name (R72, R74). -/

namespace Sys2Proof.Machine

/-! ### Tiles -/

/-- Column of a tile index. -/
def tileX (t : Nat) : Nat := t % 48

/-- Row of a tile index. -/
def tileY (t : Nat) : Nat := t / 48

/-- Index of tile (x, y). -/
def tileAt (x y : Nat) : Nat := y * 48 + x

/-- The cove of a tile (R74). -/
def coveOf (t : Nat) : Nat := 4 * (tileY t / 8) + tileX t / 12

/-- Cove c is awake (MSH_COVEAWAKE). -/
def coveAwake (s : State) (c : Nat) : Bool := (getF s F.MSH_COVEAWAKE.AWAKE).testBit c

/-- Two tiles are neighbours in one half, joined by an adjacency port (R106, R107). -/
def adjacent (t u : Nat) : Bool :=
  let dx := (tileX t - tileX u) + (tileX u - tileX t)
  let dy := (tileY t - tileY u) + (tileY u - tileY t)
  dx + dy == 1 && tileY t / 16 == tileY u / 16

/-! ### Header fields (R80, R81) -/

def Flit.vc (f : Flit) : Nat := bitsAt f.hdr 0 2
def Flit.op (f : Flit) : Nat := bitsAt f.hdr 2 4
def Flit.cast (f : Flit) : Nat := bitsAt f.hdr 6 2
def Flit.srcX (f : Flit) : Nat := bitsAt f.hdr 8 6
def Flit.srcY (f : Flit) : Nat := bitsAt f.hdr 14 5
def Flit.srcAgent (f : Flit) : Nat := bitsAt f.hdr 19 4
def Flit.mark (f : Flit) : Nat := bitsAt f.hdr 23 16
def Flit.share (f : Flit) : Nat := bitsAt f.hdr 39 4
def Flit.poison (f : Flit) : Bool := bitAt f.hdr 43
def Flit.last (f : Flit) : Bool := bitAt f.hdr 44
def Flit.len (f : Flit) : Nat := bitsAt f.hdr 45 4
def Flit.dstAgent (f : Flit) : Nat := bitsAt f.hdr 49 4
/-- Unicast DST_X, DST_Y, TAG and ADDR[51:6] (CAST 0). -/
def Flit.dstX (f : Flit) : Nat := bitsAt f.hdr 55 6
def Flit.dstY (f : Flit) : Nat := bitsAt f.hdr 61 5
def Flit.tag (f : Flit) : Nat := bitsAt f.hdr 66 16
def Flit.addr (f : Flit) : Nat := bitsAt f.hdr 82 46 * 64

/-- OFFSET[20:6] of a multicast flit, as a byte offset in the slice (R81). -/
def Flit.offset (f : Flit) : Nat :=
  match f.cast with
  | 1 => bitsAt f.hdr 77 15 * 64
  | 2 => bitsAt f.hdr 113 15 * 64
  | 3 => bitsAt f.hdr 99 15 * 64
  | _ => 0

/-- Tile (x, y) is a target of the flit (R81). -/
def Flit.targets (f : Flit) (x y : Nat) : Bool :=
  match f.cast with
  | 0 => x == f.dstX && y == f.dstY
  | 1 => decide (bitsAt f.hdr 55 6 ≤ x ∧ x ≤ bitsAt f.hdr 66 6 ∧ bitsAt f.hdr 61 5 ≤ y ∧ y ≤ bitsAt f.hdr 72 5)
  | 2 => bitAt f.hdr (55 + x) && decide (bitsAt f.hdr 103 5 ≤ y ∧ y ≤ bitsAt f.hdr 108 5)
  | _ => bitAt f.hdr (55 + y) && decide (bitsAt f.hdr 87 6 ≤ x ∧ x ≤ bitsAt f.hdr 93 6)

/-- Column x holds a target. -/
def Flit.colHas (f : Flit) (x : Nat) : Bool := (List.range 32).any (fun y => f.targets x y)

/-- The number of target tiles. -/
def Flit.nTargets (f : Flit) : Nat :=
  ((List.range 48).map (fun x => (List.range 32).countP (fun y => f.targets x y))).sum

/-- A target that the source rejects (R105): an ill-formed rectangle, a column above 47, a mask that selects no tile. -/
def Flit.rejected (f : Flit) : Bool :=
  match f.cast with
  | 0 => decide (48 ≤ f.dstX)
  | 1 => decide (bitsAt f.hdr 66 6 < bitsAt f.hdr 55 6 ∨ bitsAt f.hdr 72 5 < bitsAt f.hdr 61 5
      ∨ 48 ≤ bitsAt f.hdr 66 6)
  | 2 => f.nTargets == 0
  | _ => f.nTargets == 0 || decide (48 ≤ bitsAt f.hdr 87 6 ∨ 48 ≤ bitsAt f.hdr 93 6)

/-- The bytes that the CRC covers: header, payload, TALLY (R78). -/
def Flit.bytes (f : Flit) : List Byte := bytesOf f.hdr 16 ++ bytesOf f.pay 64 ++ bytesOf f.tally 4

/-- The flit with its CRC-32C computed (R78). -/
def Flit.sealed (f : Flit) : Flit := { f with crc := crc32c f.bytes }

/-- The flit's CRC-32C agrees (R78). -/
def Flit.crcOk (f : Flit) : Bool := f.crc == crc32c f.bytes

/-- The flit as received over wires that changed the bits set in `noise` (bit 0 is bit 0 of the header). -/
def Flit.noisy (f : Flit) (noise : BitVec 704) : Flit :=
  { hdr := f.hdr ^^^ noise.extractLsb' 0 128, pay := f.pay ^^^ noise.extractLsb' 128 512,
    tally := f.tally ^^^ noise.extractLsb' 640 32, crc := f.crc ^^^ noise.extractLsb' 672 32 }

/-- The virtual channel an operation is valid on, and whether it may be multicast (R83); none for a reserved OP. -/
def opRule : Nat → Option (Nat × Bool)
  | 0x0 => some (2, false)
  | 0x1 => some (2, true)
  | 0x3 => some (2, false)
  | 0x4 => some (3, false)
  | 0x5 => some (3, false)
  | 0x6 => some (3, false)
  | 0x7 => some (1, true)
  | 0x8 => some (0, true)
  | 0x9 => some (0, true)
  | 0xA => some (0, false)
  | 0xB => some (1, false)
  | _ => none

/-- What R84 lets pass at ejection: a known OP on its channel and cast, with a target. -/
def Flit.wellFormed (f : Flit) : Bool :=
  match opRule f.op with
  | none => false
  | some (vc, mc) => f.vc == vc && (f.cast == 0 || (mc && f.nTargets != 0))

/-- What a sender puts in a flit's header: everything but the source, which the router stamps (R80). -/
structure FlitArgs where
  vc : Nat
  op : Nat
  dst : Nat
  dstAgent : Nat
  tag : Nat
  addr : Nat := 0
  mark : Nat := 0
  share : Nat := 0
  poison : Bool := false
  last : Bool := false
  len : Nat := 0
  deriving DecidableEq, Repr

/-- The header of a unicast flit (R80, R81). -/
def unicastHdr (a : FlitArgs) : BitVec 128 :=
  BitVec.ofNat 128 (a.vc % 4 + a.op % 16 * 2 ^ 2 + a.mark % 2 ^ 16 * 2 ^ 23 + a.share % 16 * 2 ^ 39
    + boolNat a.poison * 2 ^ 43 + boolNat a.last * 2 ^ 44 + a.len % 16 * 2 ^ 45 + a.dstAgent % 16 * 2 ^ 49
    + tileX a.dst * 2 ^ 55 + tileY a.dst % 32 * 2 ^ 61 + a.tag % 2 ^ 16 * 2 ^ 66 + a.addr / 64 % 2 ^ 46 * 2 ^ 82)

/-- A header with the source stamped: SRC_X, SRC_Y and SRC_AGENT (R80). -/
def stampSrc (h : BitVec 128) (t a : Nat) : BitVec 128 :=
  (h &&& ~~~(BitVec.ofNat 128 ((2 ^ 15 - 1) * 2 ^ 8)))
    ||| BitVec.ofNat 128 (tileX t * 2 ^ 8 + tileY t % 32 * 2 ^ 14 + a % 16 * 2 ^ 19)

/-- A header with `w` bits from bit `lo` up cleared. -/
def clearBits (h : BitVec 128) (lo w : Nat) : BitVec 128 := h &&& ~~~(BitVec.ofNat 128 ((2 ^ w - 1) * 2 ^ lo))

/-- A header as R80 and R81 lay it out: the reserved bits are 0, and so is LEN outside a READ. -/
def hdrFormed (h : BitVec 128) : BitVec 128 :=
  let h := clearBits h 53 2
  let h := if bitsAt h 2 4 = 0 then h else clearBits h 45 4
  match bitsAt h 6 2 with
  | 1 => clearBits h 92 36
  | 3 => clearBits h 114 14
  | _ => h

/-- A header with SHARE stamped (R122). -/
def stampShare (h : BitVec 128) (share : Nat) : BitVec 128 :=
  clearBits h 39 4 ||| BitVec.ofNat 128 (share % 16 * 2 ^ 39)

end Sys2Proof.Machine
end

