-- ==== Sys2Proof/Machine/Place.lean ====
section
/-! DEFINITION. Where things stand on the counting frame: Reef addresses (R134-R141), the banks that a request touches and
their queues (R136, R143), and the agents at the frame's edge: outward ports (R76, R82), Shoreline ports, links and memory
controllers (R57, R681), engines and their injectors (R279, R679). -/

namespace Sys2Proof.Machine

/-! ### Placement -/

/-- Where a die-local Reef address lies: the view (local or hashed), the tile and the slice offset (R134, R135, R222;
the carve-out of R141 included). -/
structure ReefPlace where
  isLocal : Bool
  tile : Nat
  so : Nat
  deriving DecidableEq, Repr

/-- The hashed view (R134). -/
def hashPlace (ra : Nat) : ReefPlace :=
  let g := ra / 2048
  let hi := g / 2 ^ 19
  let low := g % 2 ^ 19
  let slot := low / 512
  let x9 := (low % 512) ^^^ (slot % 512)
  let c := (hi + low % 512 % 3) % 3
  { isLocal := false, tile := c * 512 + x9, so := slot * 2048 + ra % 2048 }

/-- The Reef address that the hashed view gives a tile's slice offset: the inverse of R134. -/
def hashInverse (tile so : Nat) : Nat :=
  let slot := so / 2048
  let low9 := (tile % 512) ^^^ (slot % 512)
  let hi := (tile / 512 + 3 - low9 % 3) % 3
  (hi * 2 ^ 19 + slot * 512 + low9) * 2048 + so % 2048

/-- The base of the local view among the die-local addresses (R222). -/
def localBase : Nat := 0x100000000

/-- The system carve-out of the hashed view begins here (R141). -/
def carveBase : Nat := 0xB8000000

/-- Where a die-local address lies in the Reef, if it does (R134, R135, R222). -/
def reefPlace (a : Nat) : Option ReefPlace :=
  if a < 0xC0000000 then some (hashPlace a)
  else if localBase ≤ a ∧ a < localBase + 0xC0000000 then
    some { isLocal := true, tile := (a - localBase) / 0x200000, so := (a - localBase) % 0x200000 }
  else none

/-- The key of the sector at a slice offset. -/
def secKey (tile so : Nat) : Nat := tile * 32768 + so / 64

/-- A sector lies in the carve-out: slots 896 to 1,023 (R141). -/
def secSys (key : Nat) : Bool := decide (896 ≤ key % 32768 / 32)

/-- The bank of a slice offset (R136). -/
def bankOf (so : Nat) : Nat := (so / 64 % 8) ^^^ (so / 2048 % 8)

/-- The key of the row of a sector: tile, bank, row (R136). -/
def rowKey (tile so : Nat) : Nat := (tile * 8 + bankOf so) * 128 + so / 16384

/-- The place a request flit names: its address, or its OFFSET in this slice for a multicast (R81). -/
def flitPlace (s : State) (tile : Nat) (f : Flit) : Option ReefPlace :=
  if f.cast = 0 then reefPlace f.addr
  else some { isLocal := decide (f.offset < getF s F.RFB_PLACE.LOCAL_SLOTS * 2048), tile := tile, so := f.offset }

/-- The slice offset of a request flit. -/
def flitSo (s : State) (tile : Nat) (f : Flit) : Nat := ((flitPlace s tile f).map (fun p => p.so)).getD 0

/-- Sectors a request flit touches: LEN + 1 for a READ, else one (R80). -/
def flitSectors (f : Flit) : Nat := if f.op = 0 then f.len + 1 else 1

/-- The banks a request flit touches. -/
def flitBanks (s : State) (tile : Nat) (f : Flit) : List Nat :=
  (List.range (flitSectors f)).map (fun i => bankOf ((flitSo s tile f + 64 * i) % 0x200000))

/-- The accesses of a bank that wait in a slice's queue, counted over the flits given (R143). -/
def bankLoad (s : State) (tile bank : Nat) (fs : List Flit) : Nat :=
  (fs.map (fun f => (flitBanks s tile f).count bank)).sum

/-- The accesses that a slice queues for one bank (R143). -/
def bankDepth : Nat := 8

/-! ### Agents at the edge -/

/-- A tile has the agent of a code: an outward port only where that side faces the die edge (R76, R82). -/
def hasAgent (t a : Nat) : Bool :=
  match a with
  | 4 => tileY t == 0
  | 5 => tileX t == 47
  | 6 => tileY t == 31
  | 7 => tileX t == 0
  | _ => decide (a < 4)

/-- The Shoreline port that attaches through an agent of a tile (R57, R82). -/
def portOf (t a : Nat) : Option Nat :=
  let x := tileX t
  let y := tileY t
  let within := fun (v lo hi : Nat) => decide (lo ≤ v ∧ v ≤ hi)
  if a = 4 ∧ y = 0 then (if within x 6 17 then some 0 else if within x 30 41 then some 1 else none)
  else if a = 5 ∧ x = 47 then (if within y 4 11 then some 2 else if within y 20 27 then some 3 else none)
  else if a = 6 ∧ y = 31 then (if within x 30 41 then some 4 else if within x 6 17 then some 5 else none)
  else if a = 7 ∧ x = 0 then (if within y 20 27 then some 6 else if within y 4 11 then some 7 else none)
  else none

/-- The tile whose outward port a link's messages from row y use: the attachment tile in that row, else the nearest
attachment row, ties to the lower row (R681). -/
def linkTile (n y : Nat) : Nat :=
  let rows := if n < 12 then [0, 1, 2, 3, 12, 13, 14, 15] else [16, 17, 18, 19, 28, 29, 30, 31]
  let d := fun r => (r - y) + (y - r)
  let best := rows.foldl (fun b r => if d r < d b then r else b) (rows.headD 0)
  tileAt (if n < 12 then 47 else 0) best

/-- The agent code of a link's outward port: east for T0-T11, west for T12-T23 (R82, R681). -/
def linkAgent (n : Nat) : Nat := if n < 12 then 5 else 7

/-- The edge and half on which memory controller m stands (R57): the side's agent code, and whether the half is North. -/
def memEdge (m : Nat) : Nat × Bool :=
  [(4, false), (5, false), (5, true), (6, true), (7, true), (7, false)].getD (m / 2) (4, false)

/-- An outward port lies on the edge and in the half of memory controller m; which of them the controller uses, the spec does
not say (R57; log entry 26). -/
def memPort (m t a : Nat) : Bool :=
  a == (memEdge m).1 && hasAgent t a && decide (16 ≤ tileY t) == (memEdge m).2

/-- The cluster of an engine, in the numbering of TQ_ENGSTAT: F4c to F4c+3, Kc and Gc (R279). -/
def engineCluster (e : Nat) : Nat := if e < 32 then e / 4 else e % 8

/-- The tile and the outward port through which an engine attaches (R279): F4c, F4c+1 and Kc on their cluster's first tile,
F4c+2, F4c+3 and Gc on its second. -/
def enginePort (e : Nat) : Nat × Nat :=
  let c := engineCluster e
  let second := if e < 32 then e % 4 / 2 else (e - 32) / 8
  (tileAt (18 + 2 * (c % 4) + second) (if c < 4 then 0 else 31), if c < 4 then 4 else 6)

/-- The tile and the outward port of the Log engine (R279). -/
def logPort : Nat × Nat := (tileAt 27 0, 4)

/-- The cluster whose engines attach through an outward port, if any do (R279). -/
def clusterAt (t a : Nat) : Option Nat :=
  (List.range 8).find? (fun c => enginePort (4 * c) == (t, a) || enginePort (4 * c + 2) == (t, a))

/-- The urgent source of an agent (R90, R550, R679): a Shoreline port is one source on all its attachment tiles, and a
cluster's engines are one, on its first tile. -/
def srcOf (t : TileId) (a : Fin 8) : UrgSrc :=
  match portOf t a with
  | some p => .port (Fin.ofNat 8 p)
  | none =>
    match clusterAt t a with
    | some c => .agent (Fin.ofNat 1536 (enginePort (4 * c)).1) a
    | none => .agent t a

end Sys2Proof.Machine
end

