-- ==== Sys2Proof/Machine/Mesh.lean ====
section
/-! DEFINITION. The counting frame (03): injection, urgent caps, router hops, ejection, answers, timeouts, Isthmus.
Router inputs are numbered in the fixed order of R680: 0 south, 1 and 2 east (rails 0 and 1), 3 north, 4 and 5 west
(rails 0 and 1), 6 + a the local agent a of R82. Outputs: 0 south, 1 and 2 east, 3 north, 4 and 5 west, 6 ejection. -/

namespace Sys2Proof.Machine

/-! ### Buffers -/

/-- Buffer depth of a virtual channel (R85). -/
def vcDepth (vc : Nat) : Nat := [2, 4, 8, 8].getD vc 0

/-- Key of an input buffer. -/
def bufKey (t port vc : Nat) : Nat := (t * 14 + port) * 4 + vc

/-- The flits of an input buffer, oldest first. -/
def bufAt (s : State) (t port vc : Nat) : List BufFlit := mapGet s.msh.bufs (bufKey t port vc) []

/-- Replaces the flits of an input buffer. -/
def setBuf (t port vc : Nat) (l : List BufFlit) (s : State) : State :=
  { s with msh := { s.msh with bufs := mapSet s.msh.bufs (bufKey t port vc) [] l } }

/-- Puts a flit at the back of an input buffer, that of the channel it travels on, which damage to its header does not
change. -/
def pushBuf (t port vc : Nat) (f : Flit) (s : State) : State :=
  let t' := setBuf t port vc (bufAt s t port vc ++ [{ flit := f, seq := s.msh.seq }]) s
  { t' with msh := { t'.msh with seq := s.msh.seq + 1 } }

/-- Key of an agent: tile * 8 + code. -/
def agentKey (t a : Nat) : Nat := t * 8 + a

/-- Flits delivered to an agent and not yet served. -/
def inboxOf (s : State) (t a : Nat) : List Flit := mapGet s.msh.inbox (agentKey t a) []

/-- Replaces an agent's inbox. -/
def setInbox (t a : Nat) (l : List Flit) (s : State) : State :=
  { s with msh := { s.msh with inbox := mapSet s.msh.inbox (agentKey t a) [] l } }

/-- Delivers a flit to an agent, whose list of what it has received has no bound (log entry 110). -/
def deliver (t a : Nat) (f : Flit) (s : State) : State := setInbox t a (inboxOf s t a ++ [f]) s

/-- Answers a source has received and not yet used. -/
def answersOf (s : State) (t a : Nat) : List Answer := mapGet s.msh.arrived (agentKey t a) []

/-- Replaces a source's answers. -/
def setAnswers (t a : Nat) (l : List Answer) (s : State) : State :=
  { s with msh := { s.msh with arrived := mapSet s.msh.arrived (agentKey t a) [] l } }

/-- Hands an answer to a source. -/
def answer (t a : Nat) (r : Answer) (s : State) : State := setAnswers t a (answersOf s t a ++ [r]) s

/-- Key of an outstanding request. -/
def outKey (t a tag : Nat) : Nat := agentKey t a * 65536 + tag

/-! ### Routing (R92, R93, R100) -/

/-- The rail a flit takes on row links (R93). -/
def railOf (f : Flit) : Nat :=
  match f.cast with
  | 0 => f.dstY % 2
  | 1 => bitsAt f.hdr 61 5 % 2
  | 2 => bitsAt f.hdr 103 5 % 2
  | _ => 0

/-- The outputs a flit takes at tile t: X then Y for unicast (R92), the tree of R100 for multicast. -/
def routeOuts (t : Nat) (f : Flit) : List Nat :=
  let x := tileX t
  let y := tileY t
  let r := railOf f
  if f.cast = 0 then
    if x < f.dstX then [1 + r] else if f.dstX < x then [4 + r]
    else if y < f.dstY then [3] else if f.dstY < y then [0] else [6]
  else
    let east := y == f.srcY && decide (f.srcX ≤ x) && (List.range 48).any (fun c => decide (x < c) && f.colHas c)
    let west := y == f.srcY && decide (x ≤ f.srcX) && (List.range 48).any (fun c => decide (c < x) && f.colHas c)
    let north := decide (f.srcY ≤ y) && (List.range 32).any (fun q => decide (y < q) && f.targets x q)
    let south := decide (y ≤ f.srcY) && (List.range 32).any (fun q => decide (q < y) && f.targets x q)
    (if south then [0] else []) ++ (if east then [1 + r] else []) ++ (if north then [3] else [])
      ++ (if west then [4 + r] else []) ++ (if f.targets x y then [6] else [])

/-- The tile and the input that an output leads to, none beyond the die edge. -/
def linkTo (t out : Nat) : Option (Nat × Nat) :=
  let x := tileX t
  let y := tileY t
  match out with
  | 0 => if 0 < y then some (tileAt x (y - 1), 3) else none
  | 1 => if x < 47 then some (tileAt (x + 1) y, 4) else none
  | 2 => if x < 47 then some (tileAt (x + 1) y, 5) else none
  | 3 => if y < 31 then some (tileAt x (y + 1), 0) else none
  | 4 => if 0 < x then some (tileAt (x - 1) y, 1) else none
  | 5 => if 0 < x then some (tileAt (x - 1) y, 2) else none
  | _ => none

/-- A link crosses the Isthmus (R110): the direction, 0 South to North, 1 North to South. -/
def isthmusDir (t out : Nat) : Option Nat :=
  if out = 3 ∧ tileY t = 15 then some 0 else if out = 0 ∧ tileY t = 16 then some 1 else none

/-- The buffer that a branch leads to holds a credit of the channel (R86); the ejection buffer is as deep as an input's (log
entry 110). -/
def branchCredit (s : State) (t vc out : Nat) : Bool :=
  if out = 6 then decide ((mapGet s.msh.eject (t * 4 + vc) []).length < vcDepth vc)
  else
    match linkTo t out with
    | none => false
    | some (u, port) => decide ((bufAt s u port vc).length < vcDepth vc)

/-- The cove that a branch leads into is awake (R115). -/
def branchAwake (s : State) (t out : Nat) : Bool :=
  match linkTo t out with
  | none => out == 6
  | some (u, _) => coveAwake s (coveOf u)

/-- A flit on channel vc may take a branch: it holds a credit (R86, R101), and the next cove is awake (R115). -/
def branchReady (s : State) (t vc out : Nat) : Bool := branchCredit s t vc out && branchAwake s t out

/-! ### Arbitration at an output (R87, R88, R123, R124, R680) -/

/-- A flit at the head of an input. -/
structure Cand where
  port : Nat
  vc : Nat
  slot : BufFlit
  deriving DecidableEq, Repr

/-- The outputs that a head takes. -/
def Cand.outs (t : Nat) (c : Cand) : List Nat := routeOuts t c.slot.flit

/-- The heads of a router's inputs that want an output. -/
def wanting (s : State) (t out : Nat) : List Cand :=
  (List.range 56).filterMap (fun k =>
    match bufAt s t (k / 4) (k % 4) with
    | [] => none
    | b :: _ =>
      let c : Cand := { port := k / 4, vc := k % 4, slot := b }
      if (c.outs t).contains out then some c else none)

/-- The flits that may leave through an output: heads of inputs whose branches are all ready (R101). -/
def candidates (s : State) (t out : Nat) : List Cand :=
  (wanting s t out).filter (fun c => (c.outs t).all (branchReady s t c.vc))

/-- A request has waited at an output through STARVE_N grants to control or response flits (R88). -/
def starvedAt (s : State) (t out : Nat) : Bool :=
  decide (getF s F.MSH_CTL.STARVE_N ≤ mapGet s.msh.starve (t * 7 + out) 0)

/-- The rank of a flit (R87, R88): urgent, a request that has waited long enough at one of its outputs, control, response,
request. -/
def Cand.rank (s : State) (t : Nat) (c : Cand) : Nat :=
  match c.vc with
  | 0 => 0
  | 1 => 2
  | 2 => if (c.outs t).any (starvedAt s t) then 1 else 4
  | _ => 3

/-- Ranks served in order of arrival: urgent flits by R680, control flits by log entry 110. -/
def byArrival (rank : Nat) : Bool := rank == 0 || rank == 2

/-- No flit that waits for one of a candidate's outputs goes before it there: none of a better rank (R87), and where order
of arrival rules none that came earlier (R680). A flit that takes several outputs must win at each of them. -/
def winsAll (s : State) (t : Nat) (c : Cand) : Bool :=
  (c.outs t).all (fun o => (candidates s t o).all (fun k =>
    decide (c.rank s t < k.rank s t)
      || (c.rank s t == k.rank s t && (!byArrival (c.rank s t) || decide (c.slot.seq ≤ k.slot.seq)))))

/-- The candidate that arrived first (R680). -/
def oldest (cs : List Cand) : Option Cand :=
  cs.foldl (fun b c => match b with
    | none => some c
    | some d => if c.slot.seq < d.slot.seq then some c else some d) none

/-- Key of the share turn of an output's channel. -/
def turnKey (t out vc : Nat) : Nat := (t * 7 + out) * 4 + vc

/-- The share class served next at an output on a channel: the class whose turn runs while it has grants left, else the next
class with a flit waiting (R123, R124; log entry 9). -/
def shareNext (s : State) (t out vc : Nat) (cs : List Cand) : Nat :=
  let (cur, left) := mapGet s.msh.turn (turnKey t out vc) (15, 0)
  let active := fun c => cs.any (fun k => k.slot.flit.share == c)
  if left ≠ 0 ∧ active cur then cur
  else (((List.range 16).find? (fun k => active ((cur + 1 + k) % 16))).map (fun k => (cur + 1 + k) % 16)).getD cur

/-- The flit granted at an output: of those that win at every output they take, in the order of their rank; those of equal
rank by arrival, or requests and responses by share turns (log entries 9 and 110). -/
def granted (s : State) (t out : Nat) : Option Cand :=
  let cs := (candidates s t out).filter (winsAll s t)
  match oldest cs with
  | none => none
  | some c =>
    if byArrival (c.rank s t) then some c
    else oldest (cs.filter (fun k => k.slot.flit.share == shareNext s t out c.vc cs))

/-- The turn of an output's channel after a grant to a class: one grant less, with as many to begin with as its weight
(R123). -/
def turnAfter (s : State) (t out vc share : Nat) : Nat × Nat :=
  let (cur, left) := mapGet s.msh.turn (turnKey t out vc) (15, 0)
  if left ≠ 0 ∧ cur = share then (cur, left - 1) else (share, getF s F.MSH_SHAREWT.WEIGHT share - 1)

/-- The starvation count and the share turn of one output after a grant there (R88, R123); a request counts as waiting
whether or not it holds a credit. -/
def afterGrantAt (t : Nat) (c : Cand) (s : State) (out : Nat) : State :=
  let key := t * 7 + out
  let waiting := (wanting s t out).any (fun k => k.vc == 2)
  let n := mapGet s.msh.starve key 0
  let n' := if c.vc = 2 then 0 else if c.vc = 0 then n else if waiting then n + 1 else 0
  { s with msh := { s.msh with
      starve := mapSet s.msh.starve key 0 n'
      turn := if c.vc = 2 ∨ c.vc = 3 then mapIns s.msh.turn (turnKey t out c.vc) (turnAfter s t out c.vc c.slot.flit.share)
        else s.msh.turn } }

/-- A grant counts at every output that the flit takes. -/
def afterGrant (t : Nat) (c : Cand) (s : State) : State := (c.outs t).foldl (afterGrantAt t c) s

/-- A damaged flit is discarded, counted and reported with the router's own coordinates (R117). -/
def crcDiscard (t : Nat) (f : Flit) (s : State) : State :=
  post { code := Ev.MESH_CRC, mark := f.mark, inst := t, d0 := Status.OK, d1 := if f.cast = 0 then f.addr else f.offset }
    (bump F.MSH_CRCERR.COUNT 0 s)

/-- A flit arrives over the link of one output: over an Isthmus crossing it is checked and counted (R78, R111, R117),
and goes into the next router's buffer. -/
def arrive (t out vc : Nat) (f : Flit) (s : State) : State :=
  match linkTo t out with
  | none => s
  | some (u, port) =>
    match isthmusDir t out with
    | none => pushBuf u port vc f s
    | some d =>
      let s1 := if d = 0 then add64 .MSH_ISTHS2N_LO .MSH_ISTHS2N_HI 0 1 s
        else add64 .MSH_ISTHN2S_LO .MSH_ISTHN2S_HI 0 1 s
      if f.crcOk then pushBuf u port vc f s1
      else
        let k := 2 * tileX t + d
        let s2 := bump (if d = 0 then F.MSH_ISTHERR.S2N else F.MSH_ISTHERR.N2S) (tileX t) s1
        let s3 := { s2 with msh := { s2.msh with isthWin := mapSet s2.msh.isthWin k 0 (mapGet s2.msh.isthWin k 0 + 1) } }
        crcDiscard u f s3

/-- A flit goes out on one branch: into the ejection buffer, or over a link. -/
def forward (t out vc : Nat) (f : Flit) (s : State) : State :=
  if out = 6 then
    { s with msh := { s.msh with
        eject := mapSet s.msh.eject (t * 4 + vc) [] (mapGet s.msh.eject (t * 4 + vc) [] ++ [f]) } }
  else arrive t out vc f s

/-- A response waits at a crossing for lack of credit (MSH_ISTHBP); one that waits for a gated cove does not count. -/
def respBlocked (s : State) (t out : Nat) : Bool :=
  (isthmusDir t out).isSome && !branchCredit s t 3 out && (wanting s t out).any (fun c => c.vc == 3)

/-- One grant at an output of a router: the winner leaves on all its branches at once (R101); `noise` are the bits
that the wires of output `out` change. -/
def meshHop (t out : Nat) (noise : BitVec 704) (s : State) : State :=
  let s := if respBlocked s t out then add64 .MSH_ISTHBP_LO .MSH_ISTHBP_HI 0 1 s else s
  match granted s t out with
  | none => s
  | some c =>
    let f := c.slot.flit
    let s1 := afterGrant t c s
    let s2 := setBuf t c.port c.vc ((bufAt s1 t c.port c.vc).drop 1) s1
    (c.outs t).foldl (fun u o => forward t o c.vc (if o = out then f.noisy noise else f) u) s2

/-! ### Injection (R90, R91, R105, R114) -/

/-- The tiles a flit passes: the L of a unicast route, or the rows and columns of its tree (R92, R100). -/
def onRoute (t : Nat) (f : Flit) (u : Nat) : Bool :=
  let x := tileX u
  let y := tileY u
  let sx := tileX t
  let sy := tileY t
  let between := fun a b c => decide ((a ≤ c ∧ c ≤ b) ∨ (b ≤ c ∧ c ≤ a))
  if f.cast = 0 then (y == sy && between sx f.dstX x) || (x == f.dstX && between sy f.dstY y)
  else
    (y == sy && (List.range 48).any (fun c => f.colHas c && between sx c x))
      || (f.colHas x && (List.range 32).any (fun q => f.targets x q && between sy q y))

/-- The gated coves on a flit's route (R114), as a bit mask. -/
def gatedOnRoute (s : State) (t : Nat) (f : Flit) : Nat :=
  ((List.range 16).map (fun c =>
    if !coveAwake s c && (List.range 96).any (fun k =>
        onRoute t f (tileAt (c % 4 * 12 + k % 12) (c / 4 * 8 + k / 12))) then 2 ^ c else 0)).sum

/-- The slice of a tile takes a request from an adjacency port or the ejection port: every bank that the request touches has
room in its queue (R143, R144). -/
def sliceRoom (s : State) (t : Nat) (f : Flit) : Bool :=
  (flitBanks s t f).all (fun b =>
    decide (bankLoad s t b (inboxOf s t 2) + (flitBanks s t f).count b ≤ bankDepth))

/-- The neighbour at the other end of an adjacency port takes a flit: its cove is awake (R115), and its slice has room (R86,
R144). -/
def adjReady (s : State) (f : Flit) : Bool :=
  let u := tileAt f.dstX f.dstY
  coveAwake s (coveOf u) && (f.dstAgent != 2 || sliceRoom s u f)

/-- The adjacency port and channel of a flit: between which tiles it runs. -/
def adjLane (f : Flit) : Nat × Nat × Nat := (tileAt f.srcX f.srcY, tileAt f.dstX f.dstY, f.vc)

/-- Moves flits that wait at adjacency ports, oldest first, as far as their neighbours take them; none passes another of its
own port (R97). -/
def adjMove (s : State) : State :=
  s.msh.adjHeld.foldl (fun u f =>
    if adjReady u f && !(u.msh.adjHeld.any (fun g => adjLane g == adjLane f)) then
      deliver (tileAt f.dstX f.dstY) f.dstAgent f u
    else { u with msh := { u.msh with adjHeld := u.msh.adjHeld ++ [f] } })
    { s with msh := { s.msh with adjHeld := [] } }

/-- Asks for the coves of a mask to wake, as far as they are gated (R114). -/
def askWake (mask : Nat) (s : State) : State :=
  { s with brk := { s.brk with wakeReq := s.brk.wakeReq ||| BitVec.ofNat 16 mask } }

/-- A flit travels over an adjacency port: between a core and the slice of its own tile or of a neighbour (R108, R365). -/
def overAdjacency (t a : Nat) (f : Flit) : Bool :=
  let u := tileAt f.dstX f.dstY
  f.cast == 0 && (adjacent t u || t == u)
    && ((decide (a ≤ 1) && f.dstAgent == 2 && f.vc == 2) || (a == 2 && decide (f.dstAgent ≤ 1) && f.vc == 3))

/-- Puts a flit into its router's local input with its source stamped and its CRC computed, and sends the wake requests
(R78, R80, R114). A core's access to its own slice goes directly to it, one to an adjacent slice over the adjacency port,
and so do their answers (R108, R365); it arrives in this step unless the neighbour holds it (log entry 110). -/
def inject (t a : Nat) (f : Flit) (s : State) : State :=
  let f := Flit.sealed { f with hdr := stampSrc f.hdr t a }
  let s := askWake (gatedOnRoute s t f) s
  if overAdjacency t a f then adjMove { s with msh := { s.msh with adjHeld := s.msh.adjHeld ++ [f] } }
  else pushBuf t (6 + a) f.vc f s

/-- Records what a source awaits for a flit it has sent (R96, R104, R118). -/
def expect (t a : Nat) (f : Flit) (keysel : Nat) (s : State) : State :=
  if f.op = 0 ∨ f.op = 1 ∨ f.op = 3 then
    if f.cast = 0 then
      let o : Outst := { op := f.op, left := if f.op = 0 then f.len + 1 else 1, addr := f.addr, mark := f.mark, keysel := keysel }
      { s with msh := { s.msh with outst := mapIns s.msh.outst (outKey t a f.tag) o } }
    else
      let st := mapGet s.msh.streams (agentKey t a) { addressed := 0, answered := 0, errors := 0 }
      let st' := { st with addressed := st.addressed + f.nTargets }
      { s with msh := { s.msh with streams := mapIns s.msh.streams (agentKey t a) st' } }
  else s

/-- Injects an urgent flit past its cap or holds it: one urgent flit per interval and source (R90, R91). -/
def injectUrgent (t : TileId) (a : Fin 8) (f : Flit) (s : State) : State :=
  let src := srcOf t a
  if s.msh.capBusy.contains src then
    bump F.MSH_URGHELD.COUNT 0
      { s with msh := { s.msh with capHeld := s.msh.capHeld ++ [{ tile := t, code := a, die := none, flit := f }] } }
  else inject t a f { s with msh := { s.msh with capBusy := s.msh.capBusy ++ [src] } }

/-- A source's unicast request may leave: its TAG is not 0xFFFF and not in use (R103, R96). -/
def tagFree (s : State) (t a : Nat) (f : Flit) : Bool :=
  if f.cast = 0 ∧ f.vc = 2 then f.tag != 0xFFFF && (mapFind s.msh.outst (outKey t a f.tag)).isNone else true

/-- The share that the agent of a port or a core stamps (R122): a Shoreline port's own, and that of the kernel which runs on
the core. Another agent's flit carries the share of the work it serves as its operand. -/
def shareOf (s : State) (t a : Nat) : Option Nat :=
  match portOf t a with
  | some p => some (getF s F.SHL_PCTL.SHARE p)
  | none =>
    if 2 ≤ a then none
    else
      match mapFind s.bead.cores (2 * t + a) with
      | some k => if k.job.isSome then some k.share else none
      | none => none

/-- The flit that an agent hands to its router: formed by R79 to R81, with its source and share stamped. -/
def formFlit (s : State) (t a : Nat) (hdr : BitVec 128) (pay : Sector) (tally : BitVec 32) : Flit :=
  let h := stampSrc (hdrFormed hdr) t a
  let h := match shareOf s t a with
    | some x => if bitsAt h 0 2 = 2 ∨ bitsAt h 0 2 = 3 then stampShare h x else h
    | none => h
  { hdr := h, pay := pay, tally := if bitsAt h 2 4 = 1 ∨ bitsAt h 2 4 = 4 then tally else 0, crc := 0 }

/-- An agent may inject an urgent flit: bead cores, slices and tile control inject none (R678). -/
def mayUrge (a : Nat) : Bool := decide (4 ≤ a)

/-- FLIT_INJECT: an agent that its tile has sends a flit. It rejects an empty target (R105); an urgent flit passes its cap
first (R90), and one to another die waits for a link's reservation (R683), counted where the cap delays it (R91). -/
def flitInject (t : TileId) (a : Fin 8) (hdr : BitVec 128) (pay : Sector) (tally : BitVec 32) (die : Option Die)
    (keysel : Fin 64) (s : State) : State :=
  let f := formFlit s t a hdr pay tally
  if f.rejected || !tagFree s t a f || !hasAgent t a || (f.vc == 0 && !mayUrge a) then s
  else if f.vc = 0 then
    match die with
    | none => injectUrgent t a f s
    | some d =>
      let s1 := if s.msh.capBusy.contains (srcOf t a) then bump F.MSH_URGHELD.COUNT 0 s else s
      { s1 with msh := { s1.msh with linkWait := s1.msh.linkWait ++ [{ tile := t, code := a, die := some d, flit := f }] } }
  else inject t a f (expect t a f keysel s)

def execFlitInject (t : TileId) (a : Fin 8) (hdr : BitVec 128) (pay : Sector) (tally : BitVec 32) (die : Option Die)
    (keysel : Fin 64) (s : State) : Result := onFrame s (flitInject t a hdr pay tally die keysel)

/-- URGENT_CAP_RELEASE (R91): the interval of a source has passed; its oldest held urgent flit is injected and starts a
new interval, or the cap is free. For a link's transmitting end the interval simply ends (R682). -/
def capRelease (src : UrgSrc) (s : State) : State :=
  match s.msh.capHeld.find? (fun w => decide (srcOf w.tile w.code = src)) with
  | some w => inject w.tile w.code w.flit { s with msh := { s.msh with capHeld := s.msh.capHeld.erase w } }
  | none => { s with msh := { s.msh with capBusy := s.msh.capBusy.filter (fun u => decide (u ≠ src)) } }

def execUrgentCapRelease (src : UrgSrc) (s : State) : Result :=
  onFrame s (onlyIf (s.msh.capBusy.contains src) (capRelease src))

/-- The links that TWY_ROUTEA and TWY_ROUTEB give as next hops to a die, with their weights (R622). -/
def nextHops (s : State) (d : Nat) : List (Nat × Nat) :=
  [getF s F.TWY_ROUTEA.HOP0 d, getF s F.TWY_ROUTEA.HOP1 d, getF s F.TWY_ROUTEB.HOP2 d, getF s F.TWY_ROUTEB.HOP3 d].filterMap
    (fun h => if h / 32 % 2 = 1 then some (h % 32, h / 256) else none)

/-- URGENT_LINK_RESERVE (R683): link n grants a source's oldest waiting urgent flit a reservation, unless it has sent an
urgent message within the interval or holds another reservation; the flit passes its cap, which must be free and begins
its interval (R90), and goes to the link's attachment tile. -/
def linkReserve (t : TileId) (a : Fin 8) (n : LinkId) (s : State) : State :=
  match s.msh.linkWait.find? (fun w => decide (w.tile = t ∧ w.code = a)) with
  | none => s
  | some w =>
    match w.die with
    | none => s
    | some d =>
      if s.msh.capBusy.contains (.link n) || s.msh.capBusy.contains (srcOf t a) || (mapFind s.msh.reserved n).isSome
          || getF s F.TWY_STATUS.STATE n != 4 || !(nextHops s d).any (fun h => h.1 == n.val) then s
      else
        let u := linkTile n (tileY t)
        let hdr := unicastHdr
          { vc := 0, op := w.flit.op, dst := u, dstAgent := linkAgent n, tag := d.val, mark := w.flit.mark,
            share := w.flit.share }
        inject t a { w.flit with hdr := hdr }
          { s with msh := { s.msh with
              linkWait := s.msh.linkWait.erase w
              capBusy := s.msh.capBusy ++ [srcOf t a]
              reserved := mapIns s.msh.reserved n.val w } }

def execUrgentLinkReserve (t : TileId) (a : Fin 8) (n : LinkId) (s : State) : Result := onFrame s (linkReserve t a n)

def execMeshFlitHop (t : TileId) (out : Fin 7) (noise : BitVec 704) (s : State) : Result :=
  onFrame s (onlyIf (coveAwake s (coveOf t)) (meshHop t out noise))

/-! ### Answers and timeouts (R102, R104, R118, R119) -/

/-- A response payload agrees with its TALLY field, poisoned or not. A mismatch counts in TLY_TALLYERR, posts TLY_TALLY with
the sector's address, and the data is taken as poisoned (R414, R415). -/
def checkReadData (t addr : Nat) (f : Flit) (s : State) : Bool × State :=
  if tallyOk f.pay f.tally then (f.poison, s)
  else (true, post { code := Ev.TLY_TALLY, mark := f.mark, inst := t, d1 := addr } (bump F.TLY_TALLYERR.COUNT 0 s))

/-- A source takes an answer to a unicast request: it matches the TAG, or discards a late answer (R119). -/
def takeAnswer (t a : Nat) (f : Flit) (s : State) : State :=
  let k := outKey t a f.tag
  match mapFind s.msh.outst k with
  | none => post { code := Ev.MESH_LATE, mark := f.mark, inst := t, d1 := f.addr } s
  | some o =>
    let owed := if o.left ≤ 1 ∨ f.op = 6 then mapDel s.msh.outst k
      else mapIns s.msh.outst k { o with left := o.left - 1 }
    let settle := fun (u : State) => { u with msh := { u.msh with outst := owed } }
    if f.op = 4 then
      let (p, s1) := checkReadData t f.addr f s
      answer t a (if o.op = 3 then .atomic f.tag f.pay p else .data f.tag f.addr f.pay p f.last) (settle s1)
    else if f.op = 5 then answer t a (.ack f.tag f.poison) (settle s)
    else answer t a (.error f.tag (secField f.pay 0 4)) (settle s)

/-- A source counts an ACK or ERROR of its multicast stream, and completes the stream when all have come (R102, R104). -/
def takeMulticast (t a : Nat) (f : Flit) (s : State) : State :=
  match mapFind s.msh.streams (agentKey t a) with
  | none => post { code := Ev.MESH_LATE, mark := f.mark, inst := t, d1 := f.addr } s
  | some st =>
    let st := { st with answered := st.answered + 1, errors := st.errors + boolNat (f.op == 6) }
    if st.answered = st.addressed then
      answer t a (.mcastDone (st.errors == 0))
        { s with msh := { s.msh with streams := mapDel s.msh.streams (agentKey t a) } }
    else { s with msh := { s.msh with streams := mapIns s.msh.streams (agentKey t a) st } }

/-- MESH_RESPONSE: a source receives the oldest READ_DATA, ACK or ERROR of its inbox. -/
def meshResponse (t a : Nat) (s : State) : State :=
  match (inboxOf s t a).find? (fun f => f.vc == 3) with
  | none => s
  | some f =>
    let s1 := setInbox t a ((inboxOf s t a).erase f) s
    if f.tag = 0xFFFF then takeMulticast t a f s1 else takeAnswer t a f s1

/-- MESH_REQUEST_TIMEOUT (R118): an unanswered request completes with MESH_TIMEOUT at its source. -/
def requestTimeout (t a tag : Nat) (s : State) : State :=
  match mapFind s.msh.outst (outKey t a tag) with
  | none => s
  | some o =>
    let s1 := bump F.MSH_TMOCNT.COUNT 0
      { s with msh := { s.msh with outst := mapDel s.msh.outst (outKey t a tag) } }
    let s2 := post { code := Ev.MESH_TIMEOUT, mark := o.mark, inst := t, d0 := Status.MESH_TIMEOUT, d1 := o.addr } s1
    answer t a (.error tag Status.MESH_TIMEOUT) s2

/-- MULTICAST_TIMEOUT (R104): a stream whose count falls short completes with MESH_TIMEOUT. -/
def multicastTimeout (t a : Nat) (s : State) : State :=
  match mapFind s.msh.streams (agentKey t a) with
  | none => s
  | some _ => answer t a (.error 0xFFFF Status.MESH_TIMEOUT)
      { s with msh := { s.msh with streams := mapDel s.msh.streams (agentKey t a) } }

def execMulticastTimeout (t : TileId) (a : Fin 8) (s : State) : Result := onFrame s (multicastTimeout t a)

/-! ### The Isthmus (R111-R113) -/

/-- The window of one crossing ends: over DEGRADE_LIM the crossing is marked weak, over DOWN_LIM the die stops. -/
def isthmusWindow (x : Nat) (s : State) : State :=
  let n := mapGet s.msh.isthWin (2 * x) 0 + mapGet s.msh.isthWin (2 * x + 1) 0
  let s1 := if getF s F.MSH_ISTHLIM.DEGRADE_LIM < n then
      post { code := Ev.ISTHMUS_WEAK, inst := x } (putPairBit .MSH_ISTHWEAK_LO .MSH_ISTHWEAK_HI x true s)
    else s
  if getF s F.MSH_ISTHLIM.DOWN_LIM < n then fatal { code := Ev.ISTHMUS_DOWN, inst := x } s1 else s1

/-- A reset trains the spare wires of every crossing (R111): they replace the faulty wires of the weak ones, which are weak
no more (R112). A warm reset trains them as a cold one does (log entry 110). -/
def isthmusTrain (s : State) : State :=
  let weak := get64 s .MSH_ISTHWEAK_LO .MSH_ISTHWEAK_HI 0
  set64 .MSH_ISTHWEAK_LO .MSH_ISTHWEAK_HI 0 0
    { s with msh := { s.msh with isthTrained := true, isthSpared := s.msh.isthSpared ||| BitVec.ofNat 48 weak, isthWin := [] } }

/-- ISTHMUS_ERROR_WINDOW: a one-second window ends at every crossing, and a new one begins. -/
def isthmusWindows (s : State) : State :=
  let t := (List.range 48).foldl (fun u x => if phase u = 6 then u else isthmusWindow x u) s
  { t with msh := { t.msh with isthWin := [] } }

def execIsthmusErrorWindow (s : State) : Result := onClock s isthmusWindows

/-- MSH_CNTCLR (R126). -/
def mshClear (s : State) : State :=
  clearRegs [.MSH_CRCERR, .MSH_TMOCNT, .MSH_URGHELD, .MSH_ISTHERR, .MSH_WAKECNT, .MSH_ISTHS2N_LO, .MSH_ISTHS2N_HI,
    .MSH_ISTHN2S_LO, .MSH_ISTHN2S_HI, .MSH_ISTHBP_LO, .MSH_ISTHBP_HI] s

def execMshCntclr (s : State) : Result := .next (onlyIf (barOpen s) mshClear s)

end Sys2Proof.Machine
end

