-- ==== Sys2Proof/Machine/Pack.lean ====
section
/-! DEFINITION. Building and reading records, entries, slots and frames given as tables of byte offsets. -/

namespace Sys2Proof.Machine

/-- The number whose bytes hold the listed fields: byte offset, bytes, value. -/
def packB (l : List (Nat × Nat × Nat)) : Nat :=
  (l.map (fun f => f.2.2 % 2 ^ (8 * f.2.1) * 2 ^ (8 * f.1))).sum

/-- The little-endian value of `w` bytes from byte `i` of a word. -/
def byteField {n : Nat} (v : BitVec n) (i w : Nat) : Nat := bitsAt v (8 * i) (8 * w)

/-- The number whose bytes are the listed ones, first byte least significant. -/
def bytesNat (bs : List Byte) : Nat := bs.foldr (fun b n => b.toNat + 256 * n) 0

/-- `n` bytes of a word from byte `i`. -/
def byteSlice {w : Nat} (v : BitVec w) (i n : Nat) : List Byte :=
  (List.range n).map (fun k => v.extractLsb' (8 * (i + k)) 8)

/-- The number of a list of fields of signed bytes read as a 16-bit signed value. -/
def signed16 (n : Nat) : Int := (BitVec.ofNat 16 n).toInt

end Sys2Proof.Machine
end

