-- ==== Sys2Proof/Machine/Policy.lean ====
section
/-! DEFINITION. What the adaptive loops of R726 share: clamps (R727) and overrides (R730). -/

namespace Sys2Proof.Machine

/-- POLICY_OVERRIDE of a loop and instance with its cause (R730, R864, R865); each posting is counted. -/
def policyOverride (loop inst cause : Nat) (s : State) : State :=
  bump F.BRK_OVERRIDES.COUNT 0
    (post { code := Ev.POLICY_OVERRIDE, inst := loop, d0 := inst, d1 := cause * 2 ^ 32 } s)

/-- An action of class 1 or 2 has moved a loop's quantity, which now lies outside its envelope or not: POLICY_OVERRIDE as it
leaves and again as it returns (R730). -/
def overrideSet (loop inst cause : Nat) (out : Bool) (s : State) : State :=
  match s.brk.overs.find? (fun o => o.1 == loop && o.2.1 == inst) with
  | some o => if out then s else
      policyOverride loop inst o.2.2 { s with brk := { s.brk with overs := s.brk.overs.erase o } }
  | none => if out then
      policyOverride loop inst cause { s with brk := { s.brk with overs := s.brk.overs ++ [(loop, inst, cause)] } } else s

/-- A loop's quantity at an instance lies inside its envelope again, or has gone. -/
def overrideDrop (loop inst : Nat) (s : State) : State :=
  { s with brk := { s.brk with overs := s.brk.overs.filter (fun o => !(o.1 == loop && o.2.1 == inst)) } }

/-- The whole milliseconds between two always-on ticks of 40 ns. -/
def msBetween (a b : Nat) : Nat := (b - a) / 25000

/-- A loop's clamp at an instance, if it is clamped. -/
def clampOf (s : State) (loop inst : Nat) : Option Clamp :=
  s.brk.clamps.find? (fun c => c.loop == loop && c.inst == inst)

/-- The status bits of a loop's clamps: BRK_CLAMPST, and TWY_CLAMP.ACTIVE or QOS_CLAMPST for loops 1 and 5 (R742). -/
def clampStatus (loop inst : Nat) (on : Bool) (s : State) : State :=
  let any := s.brk.clamps.any (fun c => c.loop == loop)
  let s1 := setReg .BRK_CLAMPST 0 (putBit (getReg s .BRK_CLAMPST 0) (loop - 1) any) s
  if loop = 1 then setF F.TWY_CLAMP.ACTIVE inst (boolNat on) s1
  else if loop = 5 then
    setReg .QOS_CLAMPST (inst / 16) (putBit (getReg s1 .QOS_CLAMPST (inst / 16)) (inst % 16) on) s1
  else s1

/-- A clamp begins: POLICY_CLAMP (R727). -/
def clampBegin (loop inst : Nat) (s : State) : State :=
  if (clampOf s loop inst).isSome then s
  else
    let c : Clamp := { loop := loop, inst := inst, start := s.time, raised := false }
    let s1 := { s with brk := { s.brk with clamps := s.brk.clamps ++ [c] } }
    clampStatus loop inst true (post { code := Ev.POLICY_CLAMP, inst := loop, d0 := inst } s1)

/-- A clamp ends: its duration is kept, and POLICY_CLAMP is posted again with it (R727). -/
def clampEnd (loop inst : Nat) (s : State) : State :=
  match clampOf s loop inst with
  | none => s
  | some c =>
    let ms := min (msBetween c.start s.time) (2 ^ 32 - 1)
    let s1 := { s with brk := { s.brk with clamps := s.brk.clamps.erase c } }
    let s2 := if loop = 1 then setReg .TWY_CLAMPDUR inst (BitVec.ofNat 32 ms) s1
      else if loop = 5 then setReg .QOS_CLAMPDUR (inst / 16) (BitVec.ofNat 32 ms) s1
      else setReg .BRK_CLAMPDUR loop (BitVec.ofNat 32 ms) s1
    clampStatus loop inst false (post { code := Ev.POLICY_CLAMP, inst := loop, d0 := inst, d1 := ms } s2)

/-- A loop's clamp begins or ends as it wants to leave its envelope or not (R727). -/
def clampSet (loop inst : Nat) (wants : Bool) (s : State) : State :=
  if wants then clampBegin loop inst s else clampEnd loop inst s

end Sys2Proof.Machine
end

