-- ==== Sys2Proof/Machine/Qos.lean ====
section
/-! DEFINITION. Regulation (14): service classes (R658-R660), token buckets (R661, R662), the order of service (R663),
misses (R669). A unit is one queue that a resource serves: a controller (resource 0, unit m), a link (resource 1, unit
n), the host port (resource 2, unit 0). Tokens are kept in twelfths of a byte, so that a controller's twelfth is whole. -/

namespace Sys2Proof.Machine

/-- The capacity C_r of a resource in MB/s (R658): LPDDR by RATE, less half a channel's share for each channel limited
by R210 (log entry 28); a link 0.7 of its P in units of 0.01 GB/s; the host port 118 GB/s. -/
def capacity (s : State) (r j : Nat) : Nat :=
  match r with
  | 0 =>
    let hot := (List.range 48).countP (fun n => flag s F.MEM_CHSTAT.HOT n)
    [546133, 640000, 728177, 910222].getD s.mem.rate 0 * (96 - hot) / 96
  | 1 => 7 * getF s F.TWY_STATUS.P j
  | _ => 118000

/-- Key of a class at a unit. -/
def qosKey (r j c : Nat) : Nat := (r * 24 + j) * 16 + c

/-- The mark entry of lowest index that matches (R660). -/
def markClass (s : State) (mark : Nat) : Option Nat :=
  ((List.range 32).find? (fun i => flag s F.QOS_MARKB.VALID i &&
    ((mark &&& getF s F.QOS_MARKA.MASK i) == (getF s F.QOS_MARKA.VALUE i &&& getF s F.QOS_MARKA.MASK i)))).map
    (fun i => getF s F.QOS_MARKB.CLASS i)

/-- The range entry of lowest index that matches a die-local address (R660). -/
def rangeClass (s : State) (addr : Nat) : Option Nat :=
  ((List.range 16).find? (fun i => flag s F.QOS_RANGEC.VALID i &&
    decide (getF s F.QOS_RANGELO.BASE i ≤ addr / 65536 ∧ addr / 65536 ≤ getF s F.QOS_RANGEHI.LIMIT i))).map
    (fun i => getF s F.QOS_RANGEC.CLASS i)

/-- The service class of a request (R659). -/
def classOf (s : State) (r share mark addr : Nat) : Nat :=
  let sel := match r with
    | 0 => getF s F.QOS_SEL.LPDDR
    | 1 => getF s F.QOS_SEL.TWY
    | _ => getF s F.QOS_SEL.PCI
  match sel with
  | 0 => share
  | 1 => (markClass s mark).getD share
  | _ => (rangeClass s addr).getD ((markClass s mark).getD share)

/-- Tokens of a class at a unit, in twelfths of a byte. -/
def tokens (s : State) (r j c : Nat) : Nat := mapGet s.qos.tokens (qosKey r j c) 0

/-- A class holds tokens (R662). -/
def holdsTokens (s : State) (r j c : Nat) : Bool := decide (64 * 12 ≤ tokens s r j c)

/-- Bytes a class has had in the present window at a resource: over all controllers for LPDDR, per link else. -/
def usedBytes (s : State) (r j c : Nat) : Nat :=
  if r = 0 then ((List.range 12).map (fun m => mapGet s.qos.used (qosKey 0 m c) 0)).sum
  else mapGet s.qos.used (qosKey r j c) 0

/-- A class's use in the present 10 µs window lies below MAXPCT % of C_r (R663 step 3). -/
def belowMax (s : State) (r j c : Nat) : Bool :=
  decide (usedBytes s r j c * 100 < getF s F.QOS_TOKB.MAXPCT (16 * r + c) * (capacity s r j * 10))

/-- One sector served: 64 bytes from the class's bucket, whether or not it holds them, and into its use (R662). -/
def takeTokens (r j c : Nat) (s : State) : State :=
  let k := qosKey r j c
  { s with qos := { s.qos with
      tokens := mapSet s.qos.tokens k 0 (tokens s r j c - 64 * 12)
      used := mapSet s.qos.used k 0 (mapGet s.qos.used k 0 + 64) } }

/-- `n` sectors served at once. -/
def takeSectors (r j c n : Nat) (s : State) : State :=
  let k := qosKey r j c
  { s with qos := { s.qos with
      tokens := mapSet s.qos.tokens k 0 (tokens s r j c - n * 64 * 12)
      used := mapSet s.qos.used k 0 (mapGet s.qos.used k 0 + n * 64) } }

/-- A waiting request as the scheduler sees it: its class, its arrival, and its place in the queue. -/
structure QReq where
  cls : Nat
  arr : Nat
  idx : Nat
  deriving DecidableEq, Repr

/-- The oldest of some requests; the queue's order settles ties. -/
def oldestReq (l : List QReq) : Option QReq :=
  l.foldl (fun b q => match b with
    | none => some q
    | some p => if q.arr < p.arr then some q else some p) none

/-- A request has waited longer than its class's TARGET (R663 step 1); ticks are 40 ns, TARGET counts 10 ns. -/
def pastTarget (s : State) (r : Nat) (q : QReq) : Bool :=
  let t := getF s F.QOS_TOKB.TARGET (16 * r + q.cls)
  t != 0 && decide (t < 4 * (s.time - q.arr))

/-- The class whose turn it is among some requests, with the grants it then has left: turns of WEIGHT grants (R663). -/
def classTurn (s : State) (r j : Nat) (l : List QReq) : Nat × Nat :=
  let (cur, left) := mapGet s.qos.turns (qosKey r j 0) (15, 0)
  let active := fun c => l.any (fun q => q.cls == c)
  if left ≠ 0 ∧ active cur then (cur, left - 1)
  else
    match (List.range 16).find? (fun k => active ((cur + 1 + k) % 16)) with
    | some k => ((cur + 1 + k) % 16, getF s F.QOS_TOKB.WEIGHT (16 * r + (cur + 1 + k) % 16) - 1)
    | none => (cur, left)

/-- The request a unit serves next, and the state with the turn it takes (R663). -/
def qosPick (r j : Nat) (l : List QReq) (s : State) : Option QReq × State :=
  let rich := l.filter (fun q => holdsTokens s r j q.cls)
  match oldestReq (rich.filter (pastTarget s r)) with
  | some q => (some q, s)
  | none =>
    let poor := l.filter (fun q => !holdsTokens s r j q.cls && belowMax s r j q.cls)
    let pool := if rich = [] then poor else rich
    let (c, left) := classTurn s r j pool
    let turns := if pool = [] then s.qos.turns else mapIns s.qos.turns (qosKey r j 0) (c, left)
    (oldestReq (pool.filter (fun q => q.cls == c)), { s with qos := { s.qos with turns := turns } })

/-- Counts a guarantee miss where a served request waited past its TARGET and its class held tokens when it arrived
(R669); `acting` tells of an action of R668. -/
def countMiss (r : Nat) (q : QReq) (heldAtArrival acting : Bool) (s : State) : State :=
  let i := 16 * r + q.cls
  if heldAtArrival && pastTarget s r q then
    let s1 := bump F.QOS_MISS.COUNT i s
    let s2 := { s1 with qos := { s1.qos with
        winMiss := mapSet s1.qos.winMiss i 0 (mapGet s1.qos.winMiss i 0 + 1)
        winOver := mapSet s1.qos.winOver i false (mapGet s1.qos.winOver i false || acting) } }
    if acting then bump F.QOS_MISSOVR.COUNT i s2 else s2
  else s

/-! ### The host port (R655, R658-R663) -/

/-- Bytes that a DMA request reads or writes. -/
def dmaBytes (r : HostReq) : Nat :=
  match r with
  | .data _ _ len _ _ _ _ => len
  | .read _ _ _ len _ => len
  | .record _ _ _ _ _ | .msix _ | .ats _ _ _ _ _ | .page _ _ _ _ _ | .invDone _ _ => 0

/-- Serves what waits at the host port: a request that is not regulated when it is first, else the choice of R663 among
the regulated ones before it. -/
def hostPump : Nat → State → State
  | 0, s => s
  | fuel + 1, s =>
    match s.qos.host with
    | [] => s
    | w :: rest =>
      match w.cls with
      | none => hostPump fuel (hostEmit w.req { s with qos := { s.qos with host := rest } })
      | some _ =>
        let regs := s.qos.host.takeWhile (fun v => v.cls.isSome)
        let reqs := (List.range regs.length).filterMap (fun i => (regs[i]?).map (fun v =>
          ({ cls := v.cls.getD 0, arr := v.arr, idx := i } : QReq)))
        let (pick, s1) := qosPick 2 0 reqs s
        match pick with
        | none => s1
        | some q =>
          match regs[q.idx]? with
          | none => s1
          | some v =>
            let s2 := { s1 with qos := { s1.qos with host := s1.qos.host.eraseIdx q.idx } }
            let s3 := takeSectors 2 0 q.cls ((dmaBytes v.req + 63) / 64) (countMiss 2 q v.tok (flag s F.BRK_PSSTAT.THROTTLE) s2)
            hostPump fuel (hostEmit v.req s3)

/-- Sends a DMA read or write of command data, which R658 regulates, by its SHARE and mark. -/
def hostDma (share mark : Nat) (r : HostReq) (s : State) : State :=
  if hostOpen s && s.pci.held.isEmpty then
    let c := classOf s 2 share mark 0
    let w : HostWait := { req := r, cls := some c, arr := s.time, tok := holdsTokens s 2 0 c }
    hostPump (s.qos.host.length + 1) { s with qos := { s.qos with host := s.qos.host ++ [w] } }
  else hostSend r s

/-- The sum of RATE of a resource's classes in MB/s (R666). -/
def rateSum (s : State) (r : Nat) : Nat :=
  ((List.range 16).map (fun c => getF s F.QOS_TOKA.RATE (16 * r + c) * 250)).sum

/-- The sum of RATE exceeds C_r: of the resource, or of an ACTIVE link (R667; log entry 28). -/
def oversubscribed (s : State) (r : Nat) : Bool :=
  if r = 1 then (List.range 24).any (fun n => getF s F.TWY_STATUS.STATE n == 4 && decide (capacity s 1 n < rateSum s 1))
  else decide (capacity s r 0 < rateSum s r)

/-- Sets or clears QOS_STATUS.OVERSUB of a resource after a change of RATE or of C_r, with one NOTE event as it is set
(R667). -/
def oversubUpdate (r : Nat) (s : State) : State :=
  let was := (getF s F.QOS_STATUS.OVERSUB).testBit r
  let now := oversubscribed s r
  let s1 := setReg .QOS_STATUS 0 (putBit (getReg s .QOS_STATUS 0) r now) s
  if now && !was then post { code := Ev.QOS_OVERSUB, inst := r } s1 else s1

end Sys2Proof.Machine
end

