-- ==== Sys2Proof/Machine/Links.lean ====
section
/-! DEFINITION. The sending side of Tideway links and Shoreline ports (11, 12): slots, frames, credits, replay buffers,
and the choice of a next-hop link. Whatever enqueues a message sends it as far as credits and the replay buffer allow. -/

namespace Sys2Proof.Machine

/-! ### Tideway: slots and frames (R575-R578) -/

/-- A link's state beyond its registers. -/
def linkAt (s : State) (n : Nat) : TwyLink := mapGet s.twy.links n {}

/-- Replaces a link's state. -/
def setLink (n : Nat) (l : TwyLink) (s : State) : State :=
  { s with twy := { s.twy with links := mapSet s.twy.links n {} l } }

/-- STATE of TWY_STATUS#n (R625): 0 DOWN, 1 DETECT, 2 CONFIG, 3 STEP, 4 ACTIVE, 5 PAUSE, 6 TEST. -/
def linkState (s : State) (n : Nat) : Nat := getF s F.TWY_STATUS.STATE n

/-- The header slot of a message (R576). -/
def twyHeader (m : TwyMsg) : BitVec 544 :=
  BitVec.ofNat 544 (packB
    [(0, 1, m.op), (1, 1, m.vc + 4 * m.hop + 8 * boolNat m.poison + 16 * boolNat m.rsig), (2, 1, m.data.length),
     (3, 1, m.src), (4, 1, m.dst), (5, 1, m.share), (6, 2, m.mark), (8, 8, m.seq), (16, 2, m.epoch), (18, 2, m.tag),
     (20, 8, m.addr), (28, 2, m.rcnt), (30, 2, m.status), (36, 32, m.body.toNat)])

/-- A data slot: one sector and its tally word (R576). -/
def twyData (d : Sector × BitVec 32) : BitVec 544 := BitVec.ofNat 544 (d.1.toNat + d.2.toNat * 2 ^ 512)

/-- Slot `k` of a message: 0 the header, then its data slots. -/
def twySlot (m : TwyMsg) (k : Nat) : BitVec 544 :=
  if k = 0 then twyHeader m else ((m.data[k - 1]?).map twyData).getD 0

/-- The key of a hop class and VC in the credit maps. -/
def hopVc (m : TwyMsg) : Nat := m.hop * 4 + m.vc

/-- The credits that each end grants, by VC: urgent, control, request, response slots (R580). -/
def twyGrant (vc : Nat) : Nat := [4, 16, 64, 64].getD vc 0

/-- Credits held towards the peer. -/
def creditOf (l : TwyLink) (k : Nat) : Nat := mapGet l.credit k 0

/-- Uses one credit. -/
def useCredit (k : Nat) (l : TwyLink) : TwyLink := { l with credit := mapSet l.credit k 0 (creditOf l k - 1) }

/-- The FSEQ that a frame carries: 64 bits (R582). -/
def fseqBits (n : Nat) : Nat := n % 2 ^ 64

/-- Sends slot `k` of the message at place `i` of the queue in the present frame. -/
def sendSlot (i : Nat) (l : TwyLink) : TwyLink :=
  match l.txq[i]? with
  | none => l
  | some t =>
    let l1 := useCredit (hopVc t.msg) l
    { l1 with txq := l.txq.set i { t with sent := t.sent + 1, lastF := l.fseq } }

/-- A message's data slots are regulated: those of requests and responses (R658). -/
def regulated (m : TwyMsg) : Bool := (m.vc == 2 || m.vc == 3) && m.data.length != 0

/-- The service class of a message's data slots (R659). -/
def twyClass (s : State) (m : TwyMsg) : Nat := classOf s 1 m.share m.mark m.addr

/-- Messages of one flow: agent, destination, VC and granule of the address (R620). -/
def sameFlow (a b : TwyMsg) : Bool :=
  a.agent == b.agent && a.dst == b.dst && a.vc == b.vc && a.addr / 2048 == b.addr / 2048

/-- The places of the unsent messages of request and response VCs that may go now: a credit is held, and no older message
of their flow is unsent (R580, R620). -/
def readyTx (l : TwyLink) : List Nat :=
  (List.range l.txq.length).filter (fun i => match l.txq[i]? with
    | some t => (t.msg.vc == 2 || t.msg.vc == 3) && t.sent == 0 && decide (0 < creditOf l (hopVc t.msg))
        && !(l.txq.take i).any (fun u => u.sent == 0 && sameFlow u.msg t.msg)
    | none => false)

/-- The place in the queue of the next slot that is not urgent: a message begun goes on, else the oldest control message,
else one that is not regulated, else the choice of R663 (R578, R580). -/
def nextPlain (n : Nat) (s : State) : Option Nat × State :=
  let l := linkAt s n
  let idx := List.range l.txq.length
  let is := fun (i : Nat) (p : TwyTx → Bool) => match l.txq[i]? with | some t => p t | none => false
  match idx.find? (fun i => is i (fun t => t.msg.vc != 0 && t.sent != 0 && decide (t.sent ≤ t.msg.data.length))) with
  | some i => (if is i (fun t => decide (0 < creditOf l (hopVc t.msg))) then some i else none, s)
  | none =>
    match idx.find? (fun i => is i (fun t => t.msg.vc == 1 && t.sent == 0 && decide (0 < creditOf l (hopVc t.msg)))) with
    | some i => (some i, s)
    | none =>
      let rs := readyTx l
      match rs.find? (fun i => is i (fun t => !regulated t.msg)) with
      | some i => (some i, s)
      | none =>
        let reqs := rs.filterMap (fun i => (l.txq[i]?).map (fun t =>
          ({ cls := twyClass s t.msg, arr := t.arr, idx := i } : QReq)))
        match qosPick 1 n reqs s with
        | (none, _) => (none, s)
        | (some q, s1) =>
          let tok := match l.txq[q.idx]? with | some t => t.tok | none => false
          (some q.idx, countMiss 1 q tok (flag s F.BRK_PSSTAT.THROTTLE) s1)

/-- The place of the next urgent message, whose two slots go together (R578). -/
def nextUrgent (l : TwyLink) : Option Nat :=
  (List.range l.txq.length).find? (fun i => match l.txq[i]? with
    | some t => t.msg.vc == 0 && t.sent == 0 && decide (t.msg.data.length + 1 ≤ creditOf l (hopVc t.msg))
    | none => false)

/-- One slot of the message at place `i`: its kind (1 header, 2 data) and bits; a regulated data slot takes its tokens
(R662). -/
def takeSlot (n i : Nat) (s : State) : State × (Nat × BitVec 544) :=
  let l := linkAt s n
  match l.txq[i]? with
  | none => (s, (0, 0))
  | some t =>
    let s1 := setLink n (sendSlot i l) s
    (if t.sent ≠ 0 ∧ regulated t.msg = true then takeTokens 1 n (twyClass s t.msg) s1 else s1,
      (if t.sent = 0 then 1 else 2, twySlot t.msg t.sent))

/-- The slots of the next frame, in slot order, of which `room` are free; each round places one or two. -/
def fillSlots : Nat → Nat → Nat → State → List (Nat × BitVec 544) → List (Nat × BitVec 544) × State
  | 0, _, _, s, acc => (acc, s)
  | fuel + 1, n, room, s, acc =>
    match (if 2 ≤ room then nextUrgent (linkAt s n) else none) with
    | some i =>
      let (s1, a) := takeSlot n i s
      let (s2, b) := takeSlot n i s1
      fillSlots fuel n (room - 2) s2 (acc ++ [a, b])
    | none =>
      if room = 0 then (acc, s)
      else
        match nextPlain n s with
        | (none, _) => (acc, s)
        | (some i, s1) =>
          let (s2, a) := takeSlot n i s1
          fillSlots fuel n (room - 1) s2 (acc ++ [a])

/-- The bytes of a frame before its CRC (R575). -/
def frameBody (l : TwyLink) (slots : List (Nat × BitVec 544)) (nak enc swap : Bool) : Nat :=
  let kind := fun i => ((slots[i]?).map (fun (p : Nat × BitVec 544) => p.1)).getD 0
  let bits := fun i => ((slots[i]?).map (fun (p : Nat × BitVec 544) => p.2.toNat)).getD 0
  let back := fun k => mapGet l.giveBack k 0
  packB
    [(0, 8, fseqBits l.fseq), (8, 8, fseqBits (l.rxNext + 2 ^ 64 - 1)),
     (16, 1, back 0), (17, 1, back 1), (18, 1, back 2), (19, 1, back 3),
     (20, 1, back 4), (21, 1, back 5), (22, 1, back 6), (23, 1, back 7),
     (24, 1, boolNat nak + 2 * boolNat enc + 4 * boolNat swap), (25, 1, if enc then l.txEpoch else 0),
     (26, 1, kind 0 + 4 * kind 1 + 16 * kind 2), (28, 68, bits 0), (96, 68, bits 1), (164, 68, bits 2)]

/-- Seals a frame: encryption of bytes 28-231 where ENC is in force (R587), then the CRC over bytes 0-251 (R575). -/
def sealFrame (l : TwyLink) (body : Nat) (enc : Bool) : BitVec 2048 :=
  let clear : BitVec 2048 := BitVec.ofNat 2048 body
  let sealed : Nat :=
    if enc then
      let nonce : BitVec 96 := BitVec.ofNat 96 (l.txSalt.toNat + fseqBits l.fseq * 2 ^ 32)
      let (ct, tag) := Config.gcmSeal l.txKey nonce (byteSlice clear 0 28) (byteSlice clear 28 204)
      bytesNat (byteSlice clear 0 28) + bytesNat ct % 2 ^ 1632 * 2 ^ 224 + tag.toNat * 2 ^ 1856
    else body
  let crc := crc32c (byteSlice (BitVec.ofNat 2048 sealed) 0 252)
  BitVec.ofNat 2048 (sealed % 2 ^ 2016 + crc.toNat * 2 ^ 2016)

/-- Sends one frame on link n: it joins the replay buffer and TWY_TXFR counts it (R582, R625). -/
def sendFrame (n : Nat) (slots : List (Nat × BitVec 544)) (nak swap : Bool) (l : TwyLink) (s : State) : State :=
  let enc := flag s F.TWY_STATUS.ENC n
  let fr := sealFrame l (frameBody l slots nak enc swap) enc
  let l1 := { l with
    replay := l.replay ++ [(l.fseq, fr)]
    fseq := l.fseq + 1
    giveBack := [] }
  let s1 := setLink n l1 s
  add64 .TWY_TXFR_LO .TWY_TXFR_HI n 1 { s1 with out := s1.out ++ [.twyFrame n fr] }

/-- Sends what link n may send now: while it is ACTIVE, credits and the replay buffer of 256 frames allow (R580, R582). -/
def twyPump : Nat → Nat → State → State
  | 0, _, s => s
  | fuel + 1, n, s =>
    if linkState s n != 4 || decide (256 ≤ (linkAt s n).replay.length) then s
    else
      let (slots, s1) := fillSlots 3 n 3 s []
      if slots = [] then s else twyPump fuel n (sendFrame n slots false false (linkAt s1 n) s1)

/-- Sends what link n may send now. -/
def twyFlush (n : Nat) (s : State) : State := twyPump 257 n s

/-- Sends a frame without messages: it returns credits and an acknowledgement, or asks for a replay (R525, R527). -/
def twyNull (n : Nat) (nak : Bool) (s : State) : State :=
  let l := linkAt s n
  if linkState s n != 4 || decide (256 ≤ l.replay.length) then s else sendFrame n [] nak false l s

/-! ### Routing (R616-R620) -/

/-- The kinds of MEMBER messages, in byte 0 of BODY (log entry 77). -/
def mkLease : Nat := 1
def mkBeat : Nat := 2
def mkDecision : Nat := 3
def mkReset : Nat := 4
def mkLink : Nat := 5
def mkIdent : Nat := 6
def mkJoin : Nat := 7
def mkRoster : Nat := 8
def mkEnrol : Nat := 9
def mkActivate : Nat := 10
def mkTurnDone : Nat := 11
def mkQuery : Nat := 12
def mkAnswer : Nat := 13
def mkDeparture : Nat := 14
def mkMirrorLoss : Nat := 15
def mkSpdm : Nat := 16
def mkTurn : Nat := 17

/-- The kind of a MEMBER message. -/
def memberKind (m : TwyMsg) : Nat := byteField m.body 0 1

/-- The messages that R772 lets pass: MEMBER messages of SPDM, enrolment and roster distribution. -/
def quarMsg (m : TwyMsg) : Bool := m.op == 0x12 && [mkRoster, mkEnrol, mkSpdm].contains (memberKind m)

/-- A link carries only the messages of R772: its peer is quarantined, or this die has withdrawn or departed (R70, R821). -/
def linkShut (s : State) (n : Nat) : Bool :=
  (getReg s .HLD_QUAR 0).getLsbD (getF s F.TWY_PEER.DIE n) || flag s F.GLB_STATUS.LEFT || getF s F.HLD_ROLE.ROLE == 4

/-- A link may carry a message: it is up, and not shut to it (R70, R772, R821). -/
def linkCarries (s : State) (m : TwyMsg) (n : Nat) : Bool :=
  (linkState s n == 4 || linkState s n == 5) && (quarMsg m || !linkShut s n)

/-- The next hops that a message may take: those of the routes to its destination; a message that has been forwarded goes
over a link whose peer is the destination (R616, R618). -/
def hopsFor (s : State) (m : TwyMsg) : List (Nat × Nat) :=
  let ls := if m.hop = 1 then ((List.range 24).filter (fun n => getF s F.TWY_PEER.DIE n == m.dst)).map (fun n => (n, 1))
    else nextHops s m.dst
  ls.filter (fun h => linkCarries s m h.1)

/-- The next-hop link of a message: by the hash of R619 over the weights of the routes to its destination. -/
def pickLink (s : State) (m : TwyMsg) : Option Nat :=
  let hops := hopsFor s m
  let total := (hops.map (fun (h : Nat × Nat) => h.2)).sum
  if total = 0 then none
  else
    let x := Config.routeHash m.agent m.dst (m.addr / 2048) % total
    (hops.foldl (fun (p : Nat × Option Nat) (h : Nat × Nat) =>
      match p.2 with
      | some _ => p
      | none => if x < p.1 + h.2 then (p.1, some h.1) else (p.1 + h.2, none)) (0, none)).2

/-- An earlier message of the same flow is still with another link (R620). -/
def flowElsewhere (s : State) (n : Nat) (m : TwyMsg) : Bool :=
  (List.range 24).any (fun k => k != n && (linkAt s k).txq.any (fun t => sameFlow t.msg m))

/-- Puts a message into the queue of link n and sends what may be sent. -/
def twyOn (n : Nat) (m : TwyMsg) (s : State) : State :=
  let l := linkAt s n
  let t : TwyTx := { msg := m, arr := s.time, tok := regulated m && holdsTokens s 1 n (twyClass s m) }
  twyFlush n (setLink n { l with txq := l.txq ++ [t] } s)

/-- Sends a message to its destination die, or lets it wait for a route or for its flow (R617, R620). -/
def twySend (m : TwyMsg) (s : State) : State :=
  let wait := { s with twy := { s.twy with waiting := s.twy.waiting ++ [m] } }
  if s.twy.waiting.any (fun w => sameFlow w m) then wait
  else
    match pickLink s m with
    | none => wait
    | some n => if flowElsewhere s n m then wait else twyOn n m s

/-- Tries again what waits for a route, in order. -/
def twyRetry (s : State) : State :=
  s.twy.waiting.foldl (fun u m => twySend m u) { s with twy := { s.twy with waiting := [] } }

/-- Messages that have not begun to leave on a link that is shut to them go back to routing (R772). -/
def linkHand (n : Nat) (s : State) : State :=
  if !linkShut s n then s
  else
    let l := linkAt s n
    let stays := fun (t : TwyTx) => t.sent != 0 || quarMsg t.msg
    let ms := (l.txq.filter (fun t => !stays t)).map (fun t => t.msg)
    ms.foldl (fun u m => twySend m u) (setLink n { l with txq := l.txq.filter stays } s)

/-- The own die number. -/
def ownDie (s : State) : Nat := getF s F.GLB_DIE.DIE

/-! ### Shoreline: slots and frames (R515-R528) -/

/-- A port's state beyond its registers. -/
def portAt (s : State) (p : Nat) : ShlPort := mapGet s.shl.ports p {}

/-- Replaces a port's state. -/
def setPort (p : Nat) (x : ShlPort) (s : State) : State :=
  { s with shl := { s.shl with ports := mapSet s.shl.ports p {} x } }

/-- STATE of SHL_PSTAT#s (R561): 0 DOWN, 1 TRAIN, 2 NEGOTIATE, 3 ACTIVE, 4 RETRAIN, 5 FAILED. -/
def portState (s : State) (p : Nat) : Nat := getF s F.SHL_PSTAT.STATE p

/-- A slot: header fields (R518), payload and TALLY (R516). -/
def shlSlot (vc op len : Nat) (poison last view : Bool) (tag mark target : Nat) (pay : Sector) (tally : BitVec 32) :
    BitVec 640 :=
  BitVec.ofNat 640
    (vc % 4 + op % 16 * 2 ^ 2 + len % 16 * 2 ^ 6 + boolNat poison * 2 ^ 10 + boolNat last * 2 ^ 11 + boolNat view * 2 ^ 12
      + tag % 2 ^ 12 * 2 ^ 16 + mark % 2 ^ 16 * 2 ^ 28 + target % 2 ^ 26 * 2 ^ 44
      + pay.toNat * 2 ^ 96 + tally.toNat * 2 ^ 608)

/-- Credits that a port holds for a VC. -/
def shlCredit (x : ShlPort) (vc : Nat) : Nat := mapGet x.credit vc 0

/-- The slots of a port's next frame: an urgent slot takes the lowest free place (R517), others follow in order as far
as their credits are held (R524). -/
def shlFill : Nat → ShlPort → List (BitVec 640) → List (BitVec 640) × ShlPort
  | 0, x, acc => (acc, x)
  | k + 1, x, acc =>
    let ok := fun (t : Nat × BitVec 640) => decide (0 < shlCredit x t.1)
    let cand := match x.txq.find? (fun t => t.1 == 0 && ok t) with
      | some t => some t
      | none => x.txq.find? ok
    match cand with
    | none => (acc, x)
    | some t =>
      shlFill k { x with txq := x.txq.erase t, credit := mapSet x.credit t.1 0 (shlCredit x t.1 - 1) } (acc ++ [t.2])

/-- A frame of up to three slots (R515). -/
def shlFrame (x : ShlPort) (slots : List (BitVec 640)) (nak : Bool) : BitVec 2048 :=
  let bits := fun i => ((slots[i]?).map (fun (b : BitVec 640) => b.toNat)).getD 0
  let back := fun k => mapGet x.giveBack k 0
  let body := packB
    [(0, 80, bits 0), (80, 80, bits 1), (160, 80, bits 2), (240, 2, x.fseq), (242, 2, x.rxNext + 65535),
     (244, 1, back 0), (245, 1, back 1), (246, 1, back 2), (247, 1, back 3), (248, 1, boolNat nak)]
  let crc := crc32c (byteSlice (BitVec.ofNat 2048 body) 0 252)
  BitVec.ofNat 2048 (body + crc.toNat * 2 ^ 2016)

/-- Sends one frame on port p: it joins the replay buffer (R526). -/
def shlSendFrame (p : Nat) (slots : List (BitVec 640)) (nak : Bool) (x : ShlPort) (s : State) : State :=
  let fr := shlFrame x slots nak
  let x1 := { x with
    replay := x.replay ++ [(x.fseq % 65536, fr)]
    fseq := x.fseq + 1
    giveBack := [] }
  let s1 := setPort p x1 s
  { s1 with out := s1.out ++ [.shlFrame p fr] }

/-- Sends what port p may send now: while it is ACTIVE, with credits and fewer than 128 frames in the buffer. -/
def shlPump : Nat → Nat → State → State
  | 0, _, s => s
  | fuel + 1, p, s =>
    let x := portAt s p
    if portState s p != 3 || decide (128 ≤ x.replay.length) then s
    else
      let (slots, x1) := shlFill 3 x []
      if slots = [] then s else shlPump fuel p (shlSendFrame p slots false x1 s)

/-- Sends what port p may send now. -/
def shlFlush (p : Nat) (s : State) : State := shlPump 129 p s

/-- Sends a frame of null slots: it returns credits and an acknowledgement, or asks for a replay (R525, R527). -/
def shlNull (p : Nat) (nak : Bool) (s : State) : State :=
  let x := portAt s p
  if portState s p != 3 || decide (128 ≤ x.replay.length) then s else shlSendFrame p [] nak x s

/-- Queues a slot on port p; urgent slots travel on the control VC of a port without URGENT (R535). -/
def shlSend (p vc : Nat) (slot : BitVec 640) (s : State) : State :=
  let v := if vc = 0 && !flag s F.SHL_PSTAT.URGENT p then 1 else vc
  let slot := if v = vc then slot else BitVec.ofNat 640 (slot.toNat / 4 * 4 + v)
  let x := portAt s p
  shlFlush p (setPort p { x with txq := x.txq ++ [(v, slot)] } s)

/-- A comparison of a counter: 0 EQ, 1 NE, 2 LTU, 3 GEU (07 "Control commands", R548). -/
def condHolds (cond v x : Nat) : Bool :=
  match cond with
  | 0 => v == x
  | 1 => v != x
  | 2 => decide (v < x)
  | _ => decide (x ≤ v)

/-- The NOTE that answers a WATCH (R519, R548). -/
def shlNote (p : Nat) (w : ShlWatch) (v : Nat) (s : State) : State :=
  shlSend p 1 (shlSlot 1 0xD 0 false false false w.tag w.mark w.index (BitVec.ofNat 512 v) 0) s

/-- Counter `i` has become `v`: every WATCH on it whose comparison holds is answered once (R548). -/
def shlWatchFire (i v : Nat) (s : State) : State :=
  (List.range 8).foldl (fun u p =>
    let x := portAt u p
    let hit := fun (w : ShlWatch) => getF u F.SHL_CNTWIN.BASE p + w.index == i && condHolds w.cond v w.value
    let u1 := if x.watches.any hit then setPort p { x with watches := x.watches.filter (fun w => !hit w) } u else u
    (x.watches.filter hit).foldl (fun t w => shlNote p w v t) u1) s

end Sys2Proof.Machine
end

