-- ==== Sys2Proof/Machine/Journal.lean ====
section
/-! DEFINITION. Tide queues as state (R283, R284) and the journal (R455-R464): entries, their place in the own area, the
copy that the mirror partner receives, durability and liveness. -/

namespace Sys2Proof.Machine

/-! ### Queues -/

/-- A queue. -/
def queueAt (s : State) (q : Nat) : TQueue := mapGet s.tq.queues q {}

/-- Replaces a queue; a queue that was never created, or was destroyed with nothing left of it, is not listed. -/
def setQueue (q : Nat) (x : TQueue) (s : State) : State :=
  { s with tq := { s.tq with queues := mapSet s.tq.queues q {} x } }

/-- Bits of descriptor word j (R284). -/
def TQueue.word (x : TQueue) (j lo w : Nat) : Nat := bitsAt x.desc (32 * j + lo) w

def TQueue.ringBase (x : TQueue) : Nat := bitsAt x.desc 12 52 * 4096
def TQueue.ringSize (x : TQueue) : Nat := 2 ^ x.word 2 0 5
def TQueue.cplSize (x : TQueue) : Nat := 2 ^ x.word 2 5 5
def TQueue.recSize (x : TQueue) : Nat := 2 ^ x.word 2 10 5
def TQueue.share (x : TQueue) : Nat := x.word 2 16 4
def TQueue.depth (x : TQueue) : Nat := x.word 2 20 4
def TQueue.cls (x : TQueue) : Nat := x.word 2 24 2
def TQueue.engine (x : TQueue) : Nat := x.word 2 26 5
def TQueue.halt (x : TQueue) : Bool := x.word 2 31 1 == 1
def TQueue.asid (x : TQueue) : Nat := x.word 3 0 16
def TQueue.mark (x : TQueue) : Nat := x.word 3 16 16
def TQueue.markMask (x : TQueue) : Nat := x.word 4 0 16
def TQueue.vector (x : TQueue) : Nat := x.word 4 16 11
def TQueue.irqEn (x : TQueue) : Bool := x.word 4 27 1 == 1
def TQueue.weight (x : TQueue) : Nat := x.word 4 28 4
def TQueue.cbase (x : TQueue) : Nat := x.word 5 0 16
def TQueue.ccount (x : TQueue) : Nat := x.word 5 16 16
def TQueue.cplBase (x : TQueue) : Nat := bitsAt x.desc 204 52 * 4096
def TQueue.recBase (x : TQueue) : Nat := bitsAt x.desc 268 52 * 4096

/-- The engine of a queue in the numbering of TQ_ENGSTAT (R278, R350). -/
def TQueue.eng (x : TQueue) : Nat := [0, 32, 40].getD x.cls 0 + x.engine

/-- The batch of a queue that holds an ASN. -/
def TQueue.batchOf (x : TQueue) (asn : Nat) : Option Batch :=
  x.batches.find? (fun b => decide (b.first ≤ asn ∧ asn < b.first + b.cmds.length))

/-- Replaces the batch with the same first ASN. -/
def TQueue.setBatch (x : TQueue) (b : Batch) : TQueue :=
  { x with batches := x.batches.map (fun c => if c.first = b.first then b else c) }

/-- Replaces a batch of queue q. -/
def putBatch (q : Nat) (b : Batch) (s : State) : State := setQueue q ((queueAt s q).setBatch b) s

/-- Replaces the instance of a batch with the same DSEQ. -/
def Batch.setInst (b : Batch) (i : Inst) : Batch :=
  { b with insts := b.insts.map (fun j => if j.dseq = i.dseq then i else j) }

/-- Replaces an instance. -/
def putInst (q first : Nat) (i : Inst) (s : State) : State :=
  match (queueAt s q).batches.find? (fun b => b.first == first) with
  | some b => putBatch q (b.setInst i) s
  | none => s

/-- The instance with a DSEQ of the batch that starts at `first`. -/
def instAt (s : State) (q first dseq : Nat) : Option (Batch × Inst) :=
  match (queueAt s q).batches.find? (fun b => b.first == first) with
  | none => none
  | some b => match b.insts.find? (fun i => i.dseq == dseq) with
    | none => none
    | some i => some (b, i)

/-- Every queue number, ascending. -/
def allQueues : List Nat := List.range 1024

/-! ### Entries (R456-R458) -/

/-- Entries of an area (R455). -/
def areaSize : Nat := 262144

/-- The LSN of the next entry (HBL_HEAD). -/
def jHead (s : State) : Nat := get64 s .HBL_HEAD_LO .HBL_HEAD_HI 0

/-- GLB_STATUS.MIRRORED. -/
def mirrored (s : State) : Bool := flag s F.GLB_STATUS.MIRRORED

/-- An entry of 64 bytes with its CRC over bytes 0-59 (R457). -/
def jEntry (s : State) (lsn queue kind count opnd : Nat) (body : List (Nat × Nat × Nat)) : BitVec 512 :=
  let n := packB ([(0, 6, lsn), (6, 2, queue % 1024 + kind % 32 * 2 ^ 10 + boolNat (!mirrored s) * 2 ^ 15),
    (8, 4, ownDie s + count % 16 * 2 ^ 8 + opnd % 2 * 2 ^ 12)] ++ body)
  BitVec.ofNat 512 (n + (crc32c (byteSlice (BitVec.ofNat 512 n) 0 60)).toNat * 2 ^ 480)

/-- The fields of an entry. -/
def jLsn (e : BitVec 512) : Nat := byteField e 0 6
def jQueue (e : BitVec 512) : Nat := bitsAt e 48 10
def jKind (e : BitVec 512) : Nat := bitsAt e 58 5
def jUnmir (e : BitVec 512) : Bool := bitAt e 63
/-- Bytes 12-19: the ASN of most kinds. -/
def jAsn (e : BitVec 512) : Nat := byteField e 12 8
/-- Bytes 20-23: the DSEQ of most kinds. -/
def jDseq (e : BitVec 512) : Nat := byteField e 20 4
/-- The CRC of an entry verifies (R457). -/
def jCrcOk (e : BitVec 512) : Bool := byteField e 60 4 == (crc32c (byteSlice e 0 60)).toNat

/-- A batch's live progress entries (R462, R464): DISPATCH, OUTCOME, COMMIT, APPLIED at or above the restart DSEQ, the
newest CKPT, and the COLL entries of instances at work. -/
def Batch.progress (b : Batch) : Nat :=
  let lo := b.ckpt.dseq
  (b.disps.filter (fun d => decide (lo ≤ d.dseq))).length
    + (b.outcomes.filter (fun (o : Nat × Bool) => decide (lo ≤ o.1))).length
    + (b.commits.filter (fun c => decide (lo ≤ c.1))).length
    + (b.applied.filter (fun d => decide (lo ≤ d))).length
    + (if b.ckptLsn = 0 then 0 else 1)
    + ((b.insts.filterMap (fun i => i.coll)).map (fun c =>
        boolNat (c.readyLsn != 0) + boolNat (c.commitLsn != 0) + boolNat c.interrupted)).sum

/-- Live progress entries of a queue (R464). -/
def TQueue.progress (x : TQueue) : Nat := (x.batches.map Batch.progress).sum

/-- BATCH, CMD and EXT entries of all live batches (R463). -/
def batchEntries (s : State) : Nat :=
  (s.tq.queues.map (fun (e : Nat × TQueue) => (e.2.batches.map (fun b => b.entries)).sum)).sum

/-- Live entries of the own area: HBL_SPACE.LIVE (R462). -/
def liveEntries (s : State) : Nat :=
  batchEntries s + (s.tq.queues.map (fun (e : Nat × TQueue) => e.2.progress)).sum

/-- An entry is live (R462). Entries of an earlier life of a queue lie below its batches' own entries. -/
def entryLive (s : State) (e : BitVec 512) : Bool :=
  let k := jKind e
  let asn := if k = 7 then byteField e 52 8 else jAsn e
  match (queueAt s (jQueue e)).batchOf asn with
  | none => false
  | some b =>
    if jLsn e + b.entries < b.lsn + 1 then false
    else if k = 1 ∨ k = 2 ∨ k = 3 then true
    else if k = 7 then jLsn e + 1 == b.ckptLsn
    else if k = 4 ∨ k = 5 ∨ k = 6 ∨ k = 8 then decide (b.ckpt.dseq ≤ jDseq e)
    else if k = 10 ∨ k = 11 ∨ k = 12 then b.insts.any (fun i => i.dseq == jDseq e && i.coll.isSome)
    else false

/-- The message that carries an entry to the mirror partner. -/
def journalMsg (s : State) (e : BitVec 512) : TwyMsg :=
  { op := 0x10, vc := 1, src := ownDie s, dst := getF s F.HBL_PARTNER.DIE, seq := jLsn e, data := [(e, tallyOf e)] }

/-- Sends an entry to the mirror partner while one is being mirrored to (R480). -/
def jMirror (e : BitVec 512) (s : State) : State :=
  if flag s F.HBL_PARTNER.VALID && getF s F.HBL_PARTNER.STATE != 0 then
    twySend (journalMsg s e) { s with hbl := { s.hbl with goal := jLsn e + 1 } }
  else s

/-- The journal entries that have been sent to the partner and are not acknowledged (R461, R507). -/
def openEntries (s : State) : List TwyMsg :=
  if flag s F.HBL_PARTNER.VALID && getF s F.HBL_PARTNER.STATE != 0 then
    ((s.hbl.own.map (fun (e : Nat × BitVec 512) => e.2)).filter (fun e =>
      decide (s.hbl.acked ≤ jLsn e) && decide (jLsn e < s.hbl.goal) && entryLive s e)).map (journalMsg s)
  else []

/-- Writes an entry at the head: its position, HBL_HEAD, the partner's copy. -/
def jPut (mk : Nat → BitVec 512) (s : State) : State :=
  let lsn := jHead s
  let e := mk lsn
  let s1 := { s with hbl := { s.hbl with own := mapIns s.hbl.own (lsn % areaSize) e } }
  jMirror e (set64 .HBL_HEAD_LO .HBL_HEAD_HI 0 ((lsn + 1) % 2 ^ 48) s1)

/-- A re-appended entry keeps every byte but LSN and CRC (R462). -/
def jRenumber (e : BitVec 512) (lsn : Nat) : BitVec 512 :=
  let n := lsn % 2 ^ 48 + e.toNat % 2 ^ 480 / 2 ^ 48 * 2 ^ 48
  BitVec.ofNat 512 (n + (crc32c (byteSlice (BitVec.ofNat 512 n) 0 60)).toNat * 2 ^ 480)

/-- A CKPT entry that has moved: its batch's newest CKPT is where it now lies. -/
def jMoved (e : BitVec 512) (lsn : Nat) (s : State) : State :=
  if jKind e = 7 then
    match (queueAt s (jQueue e)).batchOf (byteField e 52 8) with
    | some b => putBatch (jQueue e) { b with ckptLsn := lsn + 1 } s
    | none => s
  else s

/-- Reclaims the oldest position: a live entry there is appended again (R462). -/
def jReclaim (s : State) : State :=
  let old := s.hbl.oldest
  if jHead s ≤ old then s
  else
    let s1 := { s with hbl := { s.hbl with oldest := old + 1 } }
    match mapFind s.hbl.own (old % areaSize) with
    | none => s1
    | some e =>
      if jLsn e = old && entryLive s e then jMoved e (jHead s) (jPut (jRenumber e) s1) else s1

/-- Makes room for one entry: reclaims while the area is full. -/
def jRoom : Nat → State → State
  | 0, s => s
  | n + 1, s => if jHead s < s.hbl.oldest + areaSize then s else jRoom n (jReclaim s)

/-- Appends an entry (R456, R457). -/
def jAppend (queue kind count opnd : Nat) (body : List (Nat × Nat × Nat)) (s : State) : State :=
  let s1 := jRoom areaSize s
  jPut (fun lsn => jEntry s1 lsn queue kind count opnd body) s1

/-- An entry is durable in every copy that R466 requires. -/
def durable (s : State) (lsn : Nat) : Bool :=
  decide (lsn < s.hbl.local_) && (!mirrored s || decide (lsn < s.hbl.acked))

end Sys2Proof.Machine
end

