-- ==== Sys2Proof/Machine/Carve.lean ====
section
/-! DEFINITION. The system carve-out (R141): where the contents that State holds under types of their own lie in the hashed
view, what their sectors hold, and what an uncorrectable error in one of them leaves. -/

namespace Sys2Proof.Machine

/-- The areas of the system carve-out (R141). -/
inductive CarveArea where
  | log | events | spill | runtime | firmware
  deriving DecidableEq, Repr

/-- The area in which a hashed-view address of the carve-out lies, and the offset in it (R141). -/
def carveArea (ra : Nat) : Option (CarveArea × Nat) :=
  if ra < carveBase ∨ 0xC0000000 ≤ ra then none
  else if ra < 0xBC000000 then some (.log, ra - carveBase)
  else if ra < 0xBC400000 then some (.events, ra - 0xBC000000)
  else if ra < 0xBD400000 then some (.spill, ra - 0xBC400000)
  else if ra < 0xBE400000 then some (.runtime, ra - 0xBD400000)
  else some (.firmware, ra - 0xBE400000)

/-- Word w of an event record (R863). -/
def recWord (r : EvtRec) (w : Nat) : BitVec 32 :=
  BitVec.ofNat 32 (match w with
    | 0 => r.code.toNat + r.sev.toNat * 2 ^ 16 + boolNat r.inj * 2 ^ 18 + r.die.toNat * 2 ^ 24
    | 1 => r.asid.toNat + r.queue.toNat * 2 ^ 16 + boolNat r.qvalid * 2 ^ 26
    | 2 => r.time.toNat
    | 3 => r.time.toNat / 2 ^ 32
    | 4 => r.mark.toNat + r.inst.toNat * 2 ^ 16
    | 5 => r.detail0.toNat
    | 6 => r.detail1.toNat
    | _ => r.detail1.toNat / 2 ^ 32)

/-- An event record from its bits (R863). -/
def recOf (v : BitVec 256) : EvtRec :=
  { code := v.extractLsb' 0 16, sev := v.extractLsb' 16 2, inj := v.getLsbD 18, die := v.extractLsb' 24 5
    asid := v.extractLsb' 32 16, queue := v.extractLsb' 48 10, qvalid := v.getLsbD 58, time := v.extractLsb' 64 64
    mark := v.extractLsb' 128 16, inst := v.extractLsb' 144 16, detail0 := v.extractLsb' 160 32
    detail1 := v.extractLsb' 192 64 }

/-- The bits of an event record (R863). -/
def recBits (r : EvtRec) : BitVec 256 :=
  recWord r 7 ++ recWord r 6 ++ recWord r 5 ++ recWord r 4 ++ recWord r 3 ++ recWord r 2 ++ recWord r 1 ++ recWord r 0

/-- What the sector at a hashed-view address of the log region or of the event rings holds: the journal entry at its position
of the own area or of a mirror slot (R455, R456), or two records of a ring; zero where nothing has been written (R165). -/
def carveData (s : State) (ra : Nat) : Option Sector :=
  match carveArea ra with
  | some (.log, o) =>
    let k := o / 64
    some (if k < 262144 then mapGet s.hbl.own k 0 else mapGet s.hbl.slots (k - 262144) 0)
  | some (.events, o) =>
    let at_ := fun k => ((mapFind s.evt.rings k).map recBits).getD 0
    some (at_ (o / 64 * 2 + 1) ++ at_ (o / 64 * 2))
  | _ => none

/-- An open segment of what R232 admits. -/
def openSeg (s : State) : Seg × State :=
  let (a, s1) := draw 41 s
  let (b, s2) := draw 32 s1
  let (c, s3) := draw 41 s2
  let (d, s4) := draw 32 s3
  ({ start := a.toNat * 65536, len := b.toNat * 65536, base := c.toNat * 65536, attr := d }, s4)

/-- A record of an event ring, where one has been written, holds other bits. -/
def recSpoil (k : Nat) (v : BitVec 256) (s : State) : State :=
  match mapFind s.evt.rings k with
  | some _ => { s with evt := { s.evt with rings := mapIns s.evt.rings k (recOf v) } }
  | none => s

/-- The sector at an address has lost its contents and holds `d`. In the event rings the records are what the bits say; in the
translation spill the four segments are open (log entry 7). A journal entry is taken from its other copy (R496), and the
areas that R141 gives no layout stay as they are. -/
def carveSpoil (ra : Nat) (d : Sector) (s : State) : State :=
  match carveArea ra with
  | some (.events, o) =>
    recSpoil (o / 64 * 2 + 1) (d.extractLsb' 256 256) (recSpoil (o / 64 * 2) (d.extractLsb' 0 256) s)
  | some (.spill, o) =>
    (List.range 4).foldl (fun u k =>
      let (g, u1) := openSeg u
      { u1 with xlt := { u1.xlt with segs := mapSet u1.xlt.segs (o / 64 * 4 + k) {} g } }) s
  | _ => s

end Sys2Proof.Machine
end

