-- ==== Sys2Proof/Machine/Refresh.lean ====
section
/-! DEFINITION. Refresh of the Reef (04, R146-R153): bands from the coves' temperature sensors, the sequencers, the
refresh loop's clamp (R738). -/

namespace Sys2Proof.Machine

/-- A sensor's reading in quarter degrees, signed (BRK_TEMP#t). -/
def sensorQ (s : State) (t : Nat) : Int := ((getReg s .BRK_TEMP t).extractLsb' 0 12).toInt

/-- Sensor t has failed (R722). -/
def sensorFail (s : State) (t : Nat) : Bool := flag s F.BRK_TEMP.FAIL t

/-- Sensor t has reported since the last cold reset, or has failed. -/
def sensorKnown (s : State) (t : Nat) : Bool := mapGet s.brk.tempSeen t false || sensorFail s t

/-- The hottest sensor of a cove in quarter degrees, a failed one counting as 105 °C (R146, R150); none without a
reading. -/
def coveHottest (s : State) (c : Nat) : Option Int :=
  (((List.range 4).map (fun k => 4 * c + k)).filter (sensorKnown s)).foldl (fun b t =>
    let q := if sensorFail s t then 420 else sensorQ s t
    match b with
    | none => some q
    | some m => some (max m q)) none

/-- The lower threshold of a band in quarter degrees (R146). -/
def bandFloor (b : Nat) : Int := [0, 240, 340, 420].getD b 0

/-- The temperature band of a reading (R146). -/
def bandOf (q : Int) : Nat := if 420 < q then 3 else if 340 < q then 2 else if 240 < q then 1 else 0

/-- The temperature band of a cove, none without a reading. -/
def tempBand (s : State) (c : Nat) : Option Nat := (coveHottest s c).map bandOf

/-- The hottest sensor is at least 5 °C below the lower threshold of band b (R149). -/
def coolFor (s : State) (c b : Nat) : Bool :=
  match coveHottest s c with
  | none => false
  | some q => b != 0 && decide (q + 20 ≤ bandFloor b)

/-- Shows a cove's band, sets OVERRIDE where its temperature band exceeds MAX_BAND, until the running band is back inside
the envelope, and posts POLICY_OVERRIDE at both ends (R153, R730; log entry 22). -/
def showBand (c b : Nat) (s : State) : State :=
  let top := getF s F.RFB_REFENV.MAX_BAND
  let was := flag s F.RFB_REFSTAT.OVERRIDE c
  let isOver := decide (top < (tempBand s c).getD 0) || (was && decide (max top (getF s F.RFB_REFENV.MIN_BAND) < b))
  let s1 := setF F.RFB_REFSTAT.OVERRIDE c (boolNat isOver) (setF F.RFB_REFSTAT.BAND c b s)
  if isOver != was then policyOverride 4 c 0xFF01 s1 else s1

/-- Keeps whether the cove has been cool enough to step down since the last break (R149). -/
def noteCool (c : Nat) (s : State) : State :=
  { s with reef := { s.reef with
      cool := mapSet s.reef.cool c false (coolFor s c (getF s F.RFB_REFSTAT.BAND c)) } }

/-- MIN_BAND holds a cove above its temperature band (R738). -/
def minHolds (s : State) (c : Nat) : Bool :=
  match tempBand s c with
  | none => false
  | some b => decide (b < getF s F.RFB_REFENV.MIN_BAND)

/-- The sequencer runs the largest of the temperature band, MIN_BAND and the band already running (R148, R152); the
streaks of R149 and R738 are kept. -/
def refreshUpdate (c : Nat) (s : State) : State :=
  let b := max (max ((tempBand s c).getD 0) (getF s F.RFB_REFENV.MIN_BAND)) (getF s F.RFB_REFSTAT.BAND c)
  let s1 := noteCool c (showBand c b s)
  if minHolds s1 c then s1
  else clampEnd 4 c { s1 with reef := { s1.reef with minHeld := mapSet s1.reef.minHeld c false false } }

/-- Refresh operations of one interval of a band, and the interval in units of 1/32 of a 40 ns tick (R146). -/
def bandOps (b : Nat) : Nat := if b = 0 then 128 else 64
def bandInterval (b : Nat) : Nat := [64000, 32000, 16000, 8000].getD b 8000

/-- REFRESH_OP (R146, R147): the next single row, or the next pair of rows above band 0, of every bank of the cove; the
fractional accumulator gives the ticks to the next operation. `waited` are the access-cycles that accesses lost to it
(R151). -/
def refreshOp (c : Nat) (waited : Nat) (s : State) : State :=
  let b := getF s F.RFB_REFSTAT.BAND c
  let row := mapGet s.reef.refRow c 0
  let acc := mapGet s.reef.refAcc c 0 + bandInterval b / bandOps b
  let s1 := { s with reef := { s.reef with
      refRow := mapSet s.reef.refRow c 0 ((row + (if b = 0 then 1 else 2)) % 128)
      refAcc := mapSet s.reef.refAcc c 0 (acc % 32)
      refGap := mapSet s.reef.refGap c 0 (acc / 32) } }
  add64 .RFB_REFWAIT_LO .RFB_REFWAIT_HI 0 waited s1

/-- Refresh needs the always-on domain and the initialised Reef only (R146, R164). -/
def execRefreshOp (c : CoveId) (waited : BitVec 16) (s : State) : Result :=
  .next (onlyIf s.evt.ready (refreshOp c waited.toNat) s)

/-- REFRESH_BAND_STEP_DOWN (R149): after 100 ms without a break at least 5 °C below the present band's threshold the
cove steps down one band, but not below MIN_BAND (R152). -/
def bandStepDown (c : Nat) (s : State) : State :=
  let b := getF s F.RFB_REFSTAT.BAND c
  if mapGet s.reef.cool c false && decide (getF s F.RFB_REFENV.MIN_BAND < b) then
    noteCool c (showBand c (b - 1) s)
  else s

def execRefreshBandStepDown (c : CoveId) (s : State) : Result := .next (bandStepDown c s)

/-- REFRESH_CLAMP_WINDOW (R738): a whole 100 ms window in which MIN_BAND ran above the temperature band clamps the
loop; the next window begins. -/
def refreshClampWindow (c : Nat) (s : State) : State :=
  let held := minHolds s c
  let s1 := clampSet 4 c (held && mapGet s.reef.minHeld c false) s
  { s1 with reef := { s1.reef with minHeld := mapSet s1.reef.minHeld c false held } }

def execRefreshClampWindow (c : CoveId) (s : State) : Result := .next (refreshClampWindow c s)

end Sys2Proof.Machine
end

