-- ==== Sys2Proof/Machine/Reef.lean ====
section
/-! DEFINITION. The Reef (04): where an address lies (R134-R139), the sectors and their decoding (R127-R133), service of
reads, writes and atomics, scrub and weak rows (R154-R162), the BAR4 window (R166-R170). -/

namespace Sys2Proof.Machine

/-! ### Sectors -/

/-- Bytes 12 to 15 of a sector's metadata: POISON, SYS and MARK, the reserved bits 0 (R128). -/
def ReefSec.attrs (r : ReefSec) : BitVec 32 :=
  BitVec.ofNat 32 (boolNat r.poison + boolNat r.sys * 2 + r.mark.toNat * 2 ^ 8)

/-- The ECC field of a sector: eight check symbols over its data and metadata bytes 0-3 and 12-15 (R128, R129, R131). -/
def ReefSec.ecc (r : ReefSec) : BitVec 64 := Config.reefParity (r.attrs ++ r.tally ++ r.data)

/-- The 16 bytes of metadata beside a sector (R128). -/
def ReefSec.metadata (r : ReefSec) : BitVec 128 := r.attrs ++ r.ecc ++ r.tally

/-- The RS(80,72) codeword of a sector, from which the stored one departs in `errs` bytes (R129; log entry 14). -/
def ReefSec.codeword (r : ReefSec) : BitVec 640 := r.metadata ++ r.data

/-- A sector as cold reset leaves it (R165). -/
def secBlank (key : Nat) : ReefSec :=
  { data := 0, tally := 0, poison := false, sys := secSys key, mark := 0, errs := 0, passes := 0 }

/-- The sector under a key. -/
def secAt (s : State) (key : Nat) : ReefSec := mapGet s.reef.secs key (secBlank key)

/-- Replaces the sector under a key. -/
def setSec (key : Nat) (r : ReefSec) (s : State) : State :=
  { s with reef := { s.reef with secs := mapSet s.reef.secs key (secBlank key) r } }

/-- The die-local address of a slice offset in the view that holds it: the local pool below L slots, else hashed. -/
def placeAddr (s : State) (tile so : Nat) : Nat :=
  if so < getF s F.RFB_PLACE.LOCAL_SLOTS * 2048 then localBase + tile * 0x200000 + so
  else hashInverse tile so

/-- Why an access is refused: a hole of the hashed view (R138) or the end of the local pool (R139). -/
def placeRefusal (s : State) (p : ReefPlace) : Option Nat :=
  let l := getF s F.RFB_PLACE.LOCAL_SLOTS
  if p.isLocal then (if l * 2048 ≤ p.so then some Status.RFB_LOCAL_RANGE else none)
  else if p.so / 2048 < l then some Status.RFB_HOLE else none

/-- A row that is being remapped, whose accesses the bank holds (R158). -/
def rowHeld (s : State) (tile so : Nat) : Bool := s.reef.remapping.contains (rowKey tile so)

/-- The rows that a request flit touches. -/
def flitRows (s : State) (tile : Nat) (f : Flit) : List Nat :=
  (List.range (flitSectors f)).map (fun i => rowKey tile ((flitSo s tile f + 64 * i) % 0x200000))

/-- A request flit that a remap holds, on any of its rows (R158). -/
def flitHeld (s : State) (tile : Nat) (f : Flit) : Bool := (flitRows s tile f).any s.reef.remapping.contains

/-! ### Decoding (R130) -/

/-- What decoding a stored codeword gives. -/
inductive Decoded where
  | clean (d : Sector)
  | corrected (d : Sector)
  | bad (d : Sector)
  deriving DecidableEq, Repr

/-- Decodes a sector: up to 3 erroneous bytes are corrected, 4 or 5 detected; beyond, the decoder may detect or
miscorrect, and which, and to what, is open (R130; log entry 14). -/
def decodeSec (r : ReefSec) (s : State) : Decoded × State :=
  if r.errs = 0 then (.clean r.data, s)
  else if r.errs ≤ 3 then (.corrected r.data, s)
  else
    let (d, s1) := draw 512 s
    if r.errs ≤ 5 then (.bad d, s1)
    else
      let (b, s2) := draw 1 s1
      (if b = 0 then .bad d else .corrected d, s2)

/-- An uncorrectable error (R160): the sector is poisoned, reported, and its address and MARK recorded. Setting POISON
writes the codeword anew (log entry 14); in the carve-out the contents are lost (log entry 7). -/
def reefUe (tile so addr : Nat) (r : ReefSec) (d : Sector) (asid : Nat) (s : State) : State :=
  let s1 := carveSpoil (hashInverse tile so) d (setSec (secKey tile so) { r with data := d, poison := true, errs := 0 } s)
  let view := boolNat (decide (localBase ≤ addr))
  let s2 := setReg .RFB_UEADDR 0 (BitVec.ofNat 32 ((addr - view * localBase) / 64 * 64 + view)) s1
  let s3 := setF F.RFB_UEMARK.MARK 0 r.mark.toNat s2
  bump F.RFB_UECNT.COUNT 0
    (post { code := Ev.RFB_UE, mark := r.mark.toNat, inst := tile, d0 := Status.TQ_POISON, d1 := addr, asid := asid } s3)

/-- Reads a sector for an access at `addr`: its data and POISON (R133), with corrections counted (R157) and an
uncorrectable sector poisoned (R160). `upset` are erroneous bytes found beyond those already in the codeword. -/
def readSec (tile so addr upset asid : Nat) (s : State) : (Sector × BitVec 32 × Bool) × State :=
  let key := secKey tile so
  let r := secAt s key
  let r := { r with errs := r.errs + upset }
  let (o, s0) := decodeSec r s
  match o with
  | .clean d => ((d, r.tally, r.poison), s0)
  | .corrected d => ((d, r.tally, r.poison), bump F.RFB_CECNT.COUNT 0 (setSec key r s0))
  | .bad d => ((d, r.tally, true), reefUe tile so addr r d asid s0)

/-- Stores a whole sector: ECC computed, TALLY and MARK as given, POISON from the writer, SYS by place (R131, R142,
R162); an armed injection corrupts the codeword (R172). The count of scrub passes that corrected the sector is scrub's own
(R157). -/
def writeSec (tile so : Nat) (d : Sector) (tally : BitVec 32) (mark : BitVec 16) (poison : Bool) (s : State) : State :=
  let key := secKey tile so
  let hit := match s.reef.inj with
    | some (k, n) => if k = key then some n else none
    | none => none
  let r : ReefSec := { data := d, tally := tally, poison := poison, sys := secSys key, mark := mark,
                       errs := hit.getD 0, passes := (secAt s key).passes }
  let s1 := setSec key r s
  match hit with
  | none => s1
  | some _ => setF F.RFB_INJCTL.ARMED 0 0 { s1 with reef := { s1.reef with inj := none } }

/-! ### Atomics (R367, R368) -/

/-- The payload of an ATOMIC is valid: no reserved value, BYTE aligned to the size (R367, R368). -/
def atomicOk (p : Sector) : Bool :=
  let aop := secField p 0 1
  let size := secField p 1 1
  let byte := secField p 2 1
  decide (aop ≤ 7) && decide (size ≤ 3) && (aop == 0 || decide (2 ≤ size)) && decide (byte < 64)
    && byte % 2 ^ size == 0 && secField p 3 5 == 0 && secField p 24 40 == 0

/-- The new value of an atomic update of `n` bits (R358 AMO, R367): old value, operand, compare value. -/
def atomicNew (aop old x cmp : Nat) (n : Nat) : Nat :=
  match aop with
  | 0 => x
  | 1 => (old + x) % 2 ^ n
  | 2 => x
  | 3 => if old = cmp then x else old
  | 4 => max old x
  | 5 => min old x
  | 6 => old ||| x
  | _ => old &&& x

/-- A sector after an ATOMIC payload's update (R367). -/
def atomicApply (d p : Sector) : Sector :=
  let n := 2 ^ (secField p 1 1 % 4)
  let byte := secField p 2 1 % 64
  let x := secField p 8 8 % 2 ^ (8 * n)
  let cmp := secField p 16 8 % 2 ^ (8 * n)
  secPut d byte n (atomicNew (secField p 0 1) (secField d byte n) x cmp (8 * n))

/-- The read-modify-write of a sector: nothing on a poisoned one, else data, TALLY and ECC anew (R132, R162); a poisoned
operand leaves the sector poisoned (R120; log entry 111). The old data and tally are answered, none where the sector is
poisoned. -/
def rmwSec (tile so addr upset asid : Nat) (mark : BitVec 16) (poison : Bool) (g : Sector → Sector) (s : State) :
    Option (Sector × BitVec 32) × State :=
  let ((d, t, p), s1) := readSec tile so addr upset asid s
  if p then (none, s1)
  else (some (d, t), writeSec tile so (g d) (tallyOf (g d)) mark poison s1)

/-! ### Slice service of flits (R133, R131, R132, R144) -/

/-- An access goes before a later one of the same slice: they meet in a bank (R144), or in a row where a remap holds it,
since the bank then holds accesses to that row only (R158). -/
def goesBefore (s : State) (tile : Nat) (g f : Flit) : Bool :=
  if flitHeld s tile g then (flitRows s tile g).any (flitRows s tile f).contains
  else (flitBanks s tile g).any (flitBanks s tile f).contains

/-- The first access of a bank's queue that no remap holds, in order of arrival at the slice; an access to several banks
waits for its turn in each (R144, R158). -/
def bankHead (s : State) (tile bank : Nat) : List Flit → List Flit → Option Flit
  | _, [] => none
  | before, f :: rest =>
    if (flitBanks s tile f).contains bank && !flitHeld s tile f then
      if before.any (fun g => goesBefore s tile g f) then none else some f
    else bankHead s tile bank (before ++ [f]) rest

/-- The access that bank `bank` of a tile serves next, if it has the operation `op`. -/
def sliceHead (s : State) (tile bank op : Nat) : Option Flit :=
  match bankHead s tile bank [] (inboxOf s tile 2) with
  | some f => if f.op = op then some f else none
  | none => none

/-- The access-cycles that accesses behind this one in its banks lose, with two cycles of a bank to each sector (R143,
R145): every sector that waits in a bank waits through those of this access, which themselves wait for one another (log entry 16). -/
def conflictCycles (s : State) (tile : Nat) (f : Flit) : Nat :=
  ((List.range 8).map (fun b =>
    let n := (flitBanks s tile f).count b
    n * (n - 1) + 2 * n * bankLoad s tile b ((inboxOf s tile 2).erase f))).sum

/-- A slice's answer to the source of a request; TAG 0xFFFF for a multicast (R102). -/
def sliceReply (tile : Nat) (f : Flit) (op len : Nat) (last poison : Bool) (addr : Nat) (pay : Sector)
    (tally : BitVec 32) (s : State) : State :=
  let hdr := unicastHdr
    { vc := 3, op := op, dst := tileAt f.srcX f.srcY, dstAgent := f.srcAgent, tag := if f.cast = 0 then f.tag else 0xFFFF,
      addr := addr, mark := f.mark, share := f.share, poison := poison, last := last, len := len }
  inject tile 2 { hdr := hdr, pay := pay, tally := tally, crc := 0 } s

/-- An ERROR flit: the STATUS in bytes 0-3, and the OFFSET of a failed multicast write in bytes 4-5 (R83). -/
def sliceError (tile : Nat) (f : Flit) (status : Nat) (s : State) : State :=
  let pay := secPut (BitVec.ofNat 512 status) 4 2 (if f.cast = 0 then 0 else f.offset / 64)
  sliceReply tile f 6 0 false false f.addr pay 0 s

/-- A refused access: an ERROR flit and one NOTE event (R138, R139). -/
def sliceRefuse (tile : Nat) (f : Flit) (status : Nat) (s : State) : State :=
  sliceError tile f status
    (post { code := if status = Status.RFB_HOLE then Ev.RFB_HOLE else Ev.RFB_LOCAL_RANGE, mark := f.mark, inst := tile, d0 := status, d1 := f.addr } s)

/-- The refusal of a request flit by its place; an address outside the Reef is refused as a hole. A READ of several sectors
is refused whole where the place of any of them is (R138, R139; log entry 112). -/
def flitRefusal (s : State) (tile : Nat) (f : Flit) : Option Nat :=
  match flitPlace s tile f with
  | none => some Status.RFB_HOLE
  | some p =>
    if f.cast = 0 then
      (List.range (flitSectors f)).findSome? (fun i => placeRefusal s { p with so := (p.so + 64 * i) % 0x200000 })
    else none

/-- A slice takes an access from its queues: the cycles that others have waited count (R145), and an adjacency flit may move
into the room it leaves (R144). -/
def takeAccess (tile : Nat) (f : Flit) (s : State) : State :=
  let s1 := add64 .RFB_CONFLICT_LO .RFB_CONFLICT_HI 0 (conflictCycles s tile f) s
  adjMove (setInbox tile 2 ((inboxOf s1 tile 2).erase f) s1)

/-- Serves one request flit taken from the slice's inbox: refusal by place, else `g` at its slice offset. -/
def serveFlit (tile : Nat) (f : Flit) (g : Nat → State → State) (s : State) : State :=
  let s2 := takeAccess tile f s
  match flitRefusal s tile f with
  | some st => sliceRefuse tile f st s2
  | none => g (flitSo s tile f) s2

/-- REEF_READ (R133): READ_DATA per sector with its stored TALLY and POISON, LAST on the last. -/
def reefRead (tile bank upset : Nat) (s : State) : State :=
  match sliceHead s tile bank 0 with
  | none => s
  | some f => serveFlit tile f (fun so s1 =>
      (List.range (flitSectors f)).foldl (fun u i =>
        let a := f.addr + 64 * i
        let ((d, t, p), u1) := readSec tile ((so + 64 * i) % 0x200000) a (if i = 0 then upset else 0) 0 u
        sliceReply tile f 4 0 (i + 1 == flitSectors f) p a d t u1) s1) s

/-- The slice serves while its cove is awake (R115) and the frame clock runs. -/
def sliceRuns (s : State) (tile : Nat) : Bool := coveAwake s (coveOf tile)

def execReefRead (t : TileId) (bank : Fin 8) (upset : Fin 81) (s : State) : Result :=
  onFrame s (onlyIf (sliceRuns s t) (reefRead t bank upset))

/-- REEF_WRITE (R120, R131, R413-R415): a tally mismatch discards the write and is answered TLY_MISMATCH, of a poisoned
payload as of any other; a poisoned payload is stored poisoned. -/
def reefWrite (tile bank : Nat) (s : State) : State :=
  match sliceHead s tile bank 1 with
  | none => s
  | some f => serveFlit tile f (fun so s1 =>
      if tallyOk f.pay f.tally then
        sliceReply tile f 5 0 false false f.addr 0 0
          (writeSec tile so f.pay f.tally (BitVec.ofNat 16 f.mark) f.poison s1)
      else
        sliceError tile f Status.TLY_MISMATCH
          (post { code := Ev.TLY_TALLY, mark := f.mark, inst := tile, d0 := Status.TQ_DIGEST, d1 := f.addr }
            (bump F.TLY_TALLYERR.COUNT 0 s1))) s

def execReefWrite (t : TileId) (bank : Fin 8) (s : State) : Result :=
  onFrame s (onlyIf (sliceRuns s t) (reefWrite t bank))

/-- REEF_ATOMIC (R132, R162, R368): a bad payload is refused with RFB_ATOMIC, a poisoned sector with RFB_POISONED; a
store is answered ACK, every other update with the sector as it stood. -/
def reefAtomic (tile bank upset : Nat) (s : State) : State :=
  match sliceHead s tile bank 3 with
  | none => s
  | some f => serveFlit tile f (fun so s1 =>
      if !atomicOk f.pay then
        sliceError tile f Status.RFB_ATOMIC
          (post { code := Ev.RFB_ATOMIC, mark := f.mark, inst := tile, d0 := Status.RFB_ATOMIC, d1 := f.addr } s1)
      else
        let (old, s2) := rmwSec tile so f.addr upset 0 (BitVec.ofNat 16 f.mark) f.poison (fun d => atomicApply d f.pay) s1
        match old with
        | none => sliceError tile f Status.RFB_POISONED s2
        | some (d, t) =>
          if secField f.pay 0 1 = 0 then sliceReply tile f 5 0 false false f.addr 0 0 s2
          else sliceReply tile f 4 0 true false f.addr d t s2) s

def execReefAtomic (t : TileId) (bank : Fin 8) (upset : Fin 81) (s : State) : Result :=
  onFrame s (onlyIf (sliceRuns s t) (reefAtomic t bank upset))

/-! ### Scrub (R154-R161) -/

/-- The sector at position k of a cove's patrol: its 96 tiles, 32,768 sectors each. -/
def scrubPlace (c k : Nat) : Nat × Nat :=
  let j := k / 32768
  (tileAt (c % 4 * 12 + j % 12) (c / 4 * 8 + j / 12), k % 32768 * 64)

/-- A sector corrected on three consecutive passes marks its row weak (R157): the row is remapped to a spare (R158), or
RFB_SPARES_OUT tells that none is left (R159). -/
def rowWeak (tile so : Nat) (s : State) : State :=
  let row := rowKey tile so
  let bank := row / 128
  if s.reef.weak.contains row || s.reef.remapping.contains row then s
  else if mapGet s.reef.spares bank 0 < 4 then
    { s with reef := { s.reef with
        spares := mapSet s.reef.spares bank 0 (mapGet s.reef.spares bank 0 + 1)
        remapping := s.reef.remapping ++ [row] } }
  else
    post { code := Ev.RFB_SPARES_OUT, inst := tile, d1 := placeAddr s tile so }
      { s with reef := { s.reef with weak := s.reef.weak ++ [row] } }

/-- The tally comparison of scrub (R154, R161), made of every sector that decodes. -/
def scrubTally (tile so : Nat) (r : ReefSec) (s : State) : State :=
  if tallyOk r.data r.tally then setSec (secKey tile so) r s
  else
    bump F.RFB_TALLYERR.COUNT 0
      (post { code := Ev.RFB_TALLY, mark := r.mark.toNat, inst := tile, d1 := placeAddr s tile so }
        (setSec (secKey tile so) { r with poison := true } s))

/-- Scrubs one sector: correct, compare the tally, write back only when corrected (R154, R155, R157, R160, R161). -/
def scrubSec (tile so upset : Nat) (s : State) : State :=
  let r := secAt s (secKey tile so)
  let r := { r with errs := r.errs + upset }
  let (o, s0) := decodeSec r s
  match o with
  | .clean _ => scrubTally tile so { r with passes := 0 } s0
  | .corrected d =>
    let s1 := scrubTally tile so { r with data := d, errs := 0, passes := r.passes + 1 } (bump F.RFB_CECNT.COUNT 0
      (if r.errs ≤ 3 then s0 else carveSpoil (hashInverse tile so) d s0))
    if 3 ≤ r.passes + 1 then rowWeak tile so s1 else s1
  | .bad d => reefUe tile so (placeAddr s tile so) { r with passes := 0 } d 0 s0

/-- The number of completed patrols of a cove. -/
def scrubPassesOf (s : State) (c : Nat) : Nat := mapGet s.reef.scrubPasses c 0

/-- Completed die-wide passes: the fewest of any cove. -/
def diePasses (s : State) : Nat := (List.range 16).foldl (fun m c => min m (scrubPassesOf s c)) (scrubPassesOf s 0)

/-- SCRUB_SECTOR (R154): the next sector of a cove's patrol; at its end the cove's pass counts, and RFB_SCRUBPASS when
every cove has passed. -/
def scrubSector (c upset : Nat) (s : State) : State :=
  let k := mapGet s.reef.scrubPos c 0
  let (tile, so) := scrubPlace c k
  let s1 := scrubSec tile so upset s
  let k' := (k + 1) % (96 * 32768)
  let s2 := { s1 with reef := { s1.reef with
      scrubPos := mapSet s1.reef.scrubPos c 0 k'
      burst := if mapGet s1.reef.burst c 0 ≤ 1 then s1.reef.burst
        else mapSet s1.reef.burst c 0 (mapGet s1.reef.burst c 0 - 1) } }
  if k' = 0 then
    let s3 := { s2 with reef := { s2.reef with scrubPasses := mapSet s2.reef.scrubPasses c 0 (scrubPassesOf s2 c + 1) } }
    bumpBy F.RFB_SCRUBPASS.COUNT 0 (diePasses s3 - diePasses s2) s3
  else s2

/-- The next sector of a cove's patrol lies in a row that is being remapped: scrub waits (R158). -/
def scrubHeld (s : State) (c : Nat) : Bool :=
  let (tile, so) := scrubPlace c (mapGet s.reef.scrubPos c 0)
  rowHeld s tile so

/-- A cove's scrub runs while the cove is awake and the frame clock runs, there or for a burst in it (R156). -/
def scrubRuns (s : State) (c : Nat) : Bool :=
  s.evt.ready && phase s != 6 && coveAwake s c && (clocksRun s || mapGet s.reef.burst c 0 != 0) && !scrubHeld s c

def execScrubSector (c : CoveId) (upset : Fin 81) (s : State) : Result :=
  .next (onlyIf (scrubRuns s c) (scrubSector c upset) s)

/-- ROW_REMAP_DONE (R158): the remap of a row ends. The row's sectors now lie in a spare row. -/
def rowRemapDone (tile bank row : Nat) (s : State) : State :=
  let k := (tile * 8 + bank) * 128 + row
  if s.reef.remapping.contains k then
    let s1 := { s with reef := { s.reef with remapping := s.reef.remapping.erase k } }
    post { code := Ev.RFB_ROWSPARE, inst := tile, d0 := bank, d1 := row } (bump F.RFB_SPARED.ROWS 0 s1)
  else s

def execRowRemapDone (t : TileId) (bank : Fin 8) (row : Fin 128) (s : State) : Result :=
  .next (rowRemapDone t bank row s)

/-- SCRUB_BURST_START (R156): the clock of a gated cove, or of any cove in slack, starts for a burst over the whole
cove; the request reaches its regulator (R707). The count is of sectors left, plus one. -/
def scrubBurstStart (c : Nat) (s : State) : State :=
  if (coveAwake s c && clocksRun s) || mapGet s.reef.burst c 0 != 0 then s
  else
    { s with
        reef := { s.reef with burst := mapSet s.reef.burst c 0 (96 * 32768 + 1) }
        brk := { s.brk with burstReq := putBit s.brk.burstReq c true } }

def execScrubBurstStart (c : CoveId) (s : State) : Result :=
  .next (onlyIf (s.evt.ready && phase s != 6) (scrubBurstStart c) s)

/-- A cove's burst has scrubbed the whole cove (R156). -/
def burstDone (c : Nat) (s : State) : State :=
  { s with
      reef := { s.reef with burst := mapSet s.reef.burst c 0 0 }
      brk := { s.brk with burstReq := putBit s.brk.burstReq c false } }

/-! ### The BAR4 window (R166-R170, R632) -/

/-- The Reef address of a BAR4 access of `n` bytes at offset `o` of a function's window, if it lies wholly in the
window, outside the holes and the carve-out, and the window is enabled (R166, R167, R632). -/
def bar4Ra (s : State) (f : Func) (o n : Nat) : Option Nat :=
  let base := if f = 0 then 0 else getF s F.PCI_VFWIN.BASE f * 65536
  let len := if f = 0 then carveBase else getF s F.PCI_VFWIN.LEN f * 65536
  let ra := base + o
  let hole := fun a => decide (a / 2048 % 2 ^ 19 / 512 < getF s F.RFB_PLACE.LOCAL_SLOTS)
  if flag s F.RFB_BAR4CTL.EN && decide (0 < n ∧ o + n ≤ len ∧ ra + n ≤ carveBase) && !hole ra && !hole (ra + n - 1)
  then some ra else none

/-- One NOTE event for a BAR4 access that R167 turns away. -/
def bar4Note (o : Nat) (s : State) : State := post { code := Ev.RFB_BAR4, d1 := o } s

/-- An access while the BARs are closed (R798) has its NOTE where RFB_BAR4CTL.EN is 0 (R167). -/
def bar4Shut (o : Nat) (s : State) : State := if flag s F.RFB_BAR4CTL.EN then s else bar4Note o s

/-- The host port's flits to the sectors of an access wake their coves (R114; log entry 120: the access itself is made in this
step, whatever it waits for). -/
def bar4Wake (ra n : Nat) (s : State) : State :=
  let coves := (List.range ((ra % 64 + n + 63) / 64)).map (fun i => coveOf (hashPlace (ra / 64 * 64 + 64 * i)).tile)
  askWake (((List.range 16).filter (fun c => coves.contains c && !coveAwake s c)).map (fun c => 2 ^ c)).sum s

/-- Reads the sectors from an address for the host, checking each tally (R169, R414, R415): bytes of the sectors in order,
and whether any was poisoned. -/
def bar4Sectors (first count : Nat) (s : State) : (List Byte × Bool) × State :=
  (List.range count).foldl (fun acc i =>
    let a := first + 64 * i
    let p := hashPlace a
    let ((d, t, poison), u) := readSec p.tile p.so a 0 0 acc.2
    let bad := !tallyOk d t
    let u := if bad then
        post { code := Ev.TLY_TALLY, mark := (secAt s (secKey p.tile p.so)).mark.toNat, inst := p.tile, d1 := a }
          (bump F.TLY_TALLYERR.COUNT 0 u)
      else u
    ((acc.1.1 ++ bytesOf d 64, acc.1.2 || poison || bad), u)) (([], false), s)

/-- BAR4_READ (R166, R167, R169): data with the poisoned indication, or all bytes 0xFF. -/
def bar4Read (f : Func) (o n : Nat) (s : State) : State :=
  let say := fun (bs : List Byte) (p : Bool) (u : State) => { u with out := u.out ++ [.bar4Data f bs p] }
  if !barOpen s then say (List.replicate n 0xFF) false (bar4Shut o s)
  else
    match bar4Ra s f o n with
    | none => say (List.replicate n 0xFF) false (bar4Note o s)
    | some ra =>
      let ((bs, p), s1) := bar4Sectors (ra / 64 * 64) ((ra % 64 + n + 63) / 64) (bar4Wake ra n s)
      say ((bs.drop (ra % 64)).take n) p s1

def execBar4Read (f : Func) (off : BitVec 32) (len : Fin 4097) (s : State) : Result :=
  .next (bar4Read f off.toNat len s)

/-- Bytes of a list as a little-endian number. -/
def leNat (bs : List Byte) : Nat := bs.foldr (fun b n => b.toNat + 256 * n) 0

/-- Writes the bytes of one sector for the host: a whole sector with its tally computed, a part by R132; a poisoned
write leaves the sector poisoned (R168, R653). -/
def bar4Sector (a lo : Nat) (bs : List Byte) (poison : Bool) (s : State) : State :=
  let p := hashPlace a
  if bs.length = 64 then
    let d : Sector := BitVec.ofNat 512 (leNat bs)
    writeSec p.tile p.so d (tallyOf d) 0 poison s
  else
    (rmwSec p.tile p.so a 0 0 0 poison (fun d => secPut d lo bs.length (leNat bs)) s).2

/-- Writes a byte string from an address, sector by sector; `fuel` bounds the sectors. -/
def bar4Store (fuel a : Nat) (bs : List Byte) (poison : Bool) (s : State) : State :=
  match fuel with
  | 0 => s
  | fuel + 1 =>
    if bs = [] then s
    else
      let n := 64 - a % 64
      bar4Store fuel (a + n) (bs.drop n) poison (bar4Sector (a / 64 * 64) (a % 64) (bs.take n) poison s)

/-- BAR4_WRITE (R167, R168, R653). -/
def bar4Write (f : Func) (o : Nat) (bs : List Byte) (poison : Bool) (s : State) : State :=
  if !barOpen s then bar4Shut o s
  else
    match bar4Ra s f o bs.length with
    | none => bar4Note o s
    | some ra => bar4Store (bs.length / 64 + 2) ra bs poison (bar4Wake ra bs.length s)

def execBar4Write (f : Func) (off : BitVec 32) (bytes : List Byte) (poison : Bool) (s : State) : Result :=
  .next (bar4Write f off.toNat bytes poison s)

/-! ### Registers (R172) -/

/-- RFB_INJ_ARM (R172): the write of RFB_INJCTL sets its fields, and ARM arms injection on the next write to the
addressed sector, with VIEW, RFB_INJADDR and BYTES as they stand then (log entry 113); BYTES 0 disables, also what is armed.
-/
def rfbInjArm (v : BitVec 32) (s : State) : State :=
  let (s1, rsvd) := writeFlds .RFB_INJCTL 0 v s
  let s2 := if rsvd then post { code := Ev.REG_RSVD } s1 else s1
  if bitAt v 8 then
    let a := getF s2 F.RFB_INJADDR.ADDR * 64 + (if flag s2 F.RFB_INJCTL.VIEW then localBase else 0)
    let n := getF s2 F.RFB_INJCTL.BYTES
    let tgt := match reefPlace a with
      | some p => if n = 0 then none else some (secKey p.tile p.so, n)
      | none => none
    setF F.RFB_INJCTL.ARMED 0 (boolNat tgt.isSome) { s2 with reef := { s2.reef with inj := tgt } }
  else if getF s2 F.RFB_INJCTL.BYTES = 0 then
    setF F.RFB_INJCTL.ARMED 0 0 { s2 with reef := { s2.reef with inj := none } }
  else s2

def execRfbInjArm (v : BitVec 32) (s : State) : Result := .next (onlyIf (barOpen s) (rfbInjArm v) s)

/-- RFB_CNTCLR (R172). -/
def rfbClear (s : State) : State :=
  clearRegs [.RFB_CECNT, .RFB_UECNT, .RFB_TALLYERR, .RFB_SCRUBPASS, .RFB_CONFLICT_LO, .RFB_CONFLICT_HI, .RFB_REFWAIT_LO,
    .RFB_REFWAIT_HI] s

def execRfbCntclr (s : State) : Result := .next (onlyIf (barOpen s) rfbClear s)

end Sys2Proof.Machine
end

