-- ==== Sys2Proof/Machine/Xts.lean ====
section
/-! DEFINITION. XTS-AES-256 of a 68-byte data unit (05, R187, R188), from the standards that R187 names: the AES block cipher
with a key of 256 bits, the tweak and its doubling, and ciphertext stealing for the last four bytes. -/

namespace Sys2Proof.Machine

/-! ### The field of AES -/

/-- Twice an element of GF(2^8). -/
def gfTwice (a : Nat) : Nat := if a < 128 then 2 * a else (2 * a) ^^^ 0x11B

/-- The product of two elements, over the bits of the second from the top. -/
def gfMul (a b : Nat) : Nat :=
  [7, 6, 5, 4, 3, 2, 1, 0].foldl (fun r i => gfTwice r ^^^ (if b.testBit i then a else 0)) 0

/-- The inverse of an element, its 254th power; that of 0 is 0. -/
def gfInverse (a : Nat) : Nat :=
  let sq := fun x => gfMul x x
  ((List.range 6).foldl (fun (p : Nat × Nat) _ => (sq p.1, gfMul p.2 (sq p.1))) (sq a, sq a)).2

/-- A byte turned left by k places. -/
def turnByte (b k : Nat) : Nat := (b * 2 ^ k ||| b / 2 ^ (8 - k)) % 256

/-- The substitution of a byte: its inverse through the affine map. -/
def subByte (b : Nat) : Nat :=
  let i := gfInverse b
  i ^^^ turnByte i 1 ^^^ turnByte i 2 ^^^ turnByte i 3 ^^^ turnByte i 4 ^^^ 0x63

/-- The exclusive or of two byte strings. -/
def xorBytes (a b : List Nat) : List Nat := a.zipWith (fun x y => x ^^^ y) b

/-! ### The cipher -/

/-- The round keys' words, newest first, `n` of them still to come; `k` have been made and `rc` is the next round constant. -/
def keyWords : Nat → Nat → Nat → List (List Nat) → List (List Nat)
  | 0, _, _, ws => ws
  | n + 1, k, rc, ws =>
    let last := ws.headD []
    let mixed :=
      if k % 8 = 0 then
        match (last.drop 1 ++ last.take 1).map subByte with
        | [] => []
        | b :: rest => (b ^^^ rc) :: rest
      else if k % 8 = 4 then last.map subByte
      else last
    keyWords n (k + 1) (if k % 8 = 0 then gfTwice rc else rc) (xorBytes (ws.getD 7 []) mixed :: ws)

/-- The fifteen round keys of a 32-byte key. -/
def roundKeys (key : List Nat) : List (List Nat) :=
  let first := (List.range 8).map (fun i => (key.drop (4 * i)).take 4)
  let bytes := (keyWords 52 8 1 first.reverse).reverse.flatten
  (List.range 15).map (fun r => (bytes.drop (16 * r)).take 16)

/-- Byte (row, column) of a block comes from the column `row` places on. -/
def turnRows (b : List Nat) : List Nat :=
  (List.range 16).map (fun i => b.getD ((4 * (i / 4 + i % 4) + i % 4) % 16) 0)

/-- One column mixed. -/
def mixColumn (c : List Nat) : List Nat :=
  (List.range 4).map (fun i =>
    gfTwice (c.getD i 0) ^^^ gfMul (c.getD ((i + 1) % 4) 0) 3 ^^^ c.getD ((i + 2) % 4) 0 ^^^ c.getD ((i + 3) % 4) 0)

/-- The four columns mixed. -/
def mixBlock (b : List Nat) : List Nat := (List.range 4).flatMap (fun c => mixColumn ((b.drop (4 * c)).take 4))

/-- AES-256 of one block. -/
def aesBlock (key block : List Nat) : List Nat :=
  match roundKeys key with
  | [] => []
  | k0 :: ks =>
    let mid := (ks.take 13).foldl (fun b k => xorBytes (mixBlock (turnRows (b.map subByte))) k) (xorBytes block k0)
    xorBytes (turnRows (mid.map subByte)) (ks.getLastD [])

/-! ### The mode -/

/-- The tweak of the next block: times alpha, little-endian. -/
def tweakNext (t : Nat) : Nat := if t < 2 ^ 127 then 2 * t else (2 * t) % 2 ^ 128 ^^^ 0x87

/-- Bytes of a number, least significant first, and back. -/
def numBytes (n x : Nat) : List Nat := (List.range n).map (fun i => x / 256 ^ i % 256)
def bytesNum (bs : List Nat) : Nat := bs.foldr (fun b n => b + 256 * n) 0

/-- One block under a tweak. -/
def xtsBlock (key : List Nat) (t : Nat) (b : List Nat) : List Nat :=
  xorBytes (aesBlock key (xorBytes b (numBytes 16 t))) (numBytes 16 t)

/-- XTS-AES-256 of a 68-byte data unit (R187): the low half of the key pair ciphers the data and the high half the tweak; the
fourth block lends its last twelve bytes to the four that remain. -/
def xtsUnit (key : BitVec 512) (tweak : BitVec 128) (text : BitVec 544) : BitVec 544 :=
  let k1 := numBytes 32 key.toNat
  let k2 := numBytes 32 (key.toNat / 2 ^ 256)
  let t0 := bytesNum (aesBlock k2 (numBytes 16 tweak.toNat))
  let t1 := tweakNext t0
  let t2 := tweakNext t1
  let t3 := tweakNext t2
  let p := numBytes 68 text.toNat
  let blk := fun (i : Nat) => (p.drop (16 * i)).take 16
  let lend := xtsBlock k1 t3 (blk 3)
  let out := xtsBlock k1 t0 (blk 0) ++ xtsBlock k1 t1 (blk 1) ++ xtsBlock k1 t2 (blk 2)
    ++ xtsBlock k1 (tweakNext t3) (blk 4 ++ lend.drop 4) ++ lend.take 4
  BitVec.ofNat 544 (bytesNum out)

end Sys2Proof.Machine
end

