-- ==== Sys2Proof/Machine/Lpddr.lean ====
section
/-! DEFINITION. External memory (05): the interleave (R185), sectors with their generation and poison (R180, R181, R195),
the key map, zero fill and rotation (R190-R198), training, retraining, refresh, scrub. State keeps a sector as decryption
gives it; what the package stores of it is a function of that and its key (R177-R180, R187, R188; log entry 27). -/

namespace Sys2Proof.Machine

/-! ### Interleave (R184, R185) -/

/-- The channel of an LPDDR offset (R185). -/
def lpChan (d : Nat) : Nat :=
  let g := d / 256
  let q := g / 48
  let r := g % 48
  r / 16 * 16 + ((r % 16) ^^^ (q % 16))

/-- The stripe of an LPDDR offset on its channel (R185). -/
def lpStripe (d : Nat) : Nat := (d / 256 / 48 * 4 + d / 64 % 4) / 8

/-- The LPDDR offset of sector j of stripe t of channel n: the inverse of R185. -/
def lpOffset (n t j : Nat) : Nat :=
  let s := 8 * t + j
  let q := s / 4
  let r := n / 16 * 16 + ((n % 16) ^^^ (q % 16))
  (q * 48 + r) * 256 + s % 4 * 64

/-- The position of an LPDDR offset in its stripe, and the byte addresses of its data and of its metadata entry on the channel
(R177, R185). -/
def lpPos (d : Nat) : Nat := (d / 256 / 48 * 4 + d / 64 % 4) % 8
def dataAddr (d : Nat) : Nat := lpStripe d * 576 + lpPos d * 64 + d % 64
def metaAddr (d : Nat) : Nat := lpStripe d * 576 + 512 + lpPos d * 8

/-- The controller of a channel (05 Picture). -/
def ctrlOf (n : Nat) : Nat := n % 12

/-- Stripes per channel by density (R177). -/
def stripesOf (density : Nat) : Nat := [3728270, 7456540, 14913080].getD density 0

/-- The usable bytes of the die: MEM_CAP in 4 KiB units (R181). -/
def lpBytes (s : State) : Nat := getF s F.MEM_CAP.UNITS * 4096

/-- The base of LPDDR among the die-local addresses (R222). -/
def lpBase : Nat := 0x10000000000

/-- A die-local address lies in the LPDDR region (R222). -/
def isLpddr (a : Nat) : Bool := decide (lpBase ≤ a ∧ a < 0x20000000000)

/-! ### The key map (R190, R191) -/

/-- SEL and VALID of region k (R190). -/
def keyEntry (s : State) (k : Nat) : Nat × Bool :=
  let v := getReg s .MEM_KEYMAP (k / 4)
  (bitsAt v (8 * (k % 4)) 6, bitAt v (8 * (k % 4) + 7))

/-- Sets SEL and VALID of region k. -/
def setKeyEntry (k sel : Nat) (valid : Bool) (s : State) : State :=
  let v := putBits (getReg s .MEM_KEYMAP (k / 4)) (8 * (k % 4)) 6 sel
  setReg .MEM_KEYMAP (k / 4) (putBit v (8 * (k % 4) + 7) valid) s

/-- The region of an LPDDR offset (R190). -/
def regionOf (d : Nat) : Nat := d / 2 ^ 26

/-- The current generation of a key slot (MEM_ROTSTAT). -/
def curGen (s : State) (slot : Nat) : Nat := getF s F.MEM_ROTSTAT.CURGEN slot

/-! ### Sectors -/

/-- A sector as the zero fill of its region leaves it: zero data, tally 0, under the fill's generation (R192). -/
def lpBlank (s : State) (k : Nat) : LpSec :=
  { data := 0, tally := 0, gen := mapGet s.mem.regionGen (k / 2 ^ 20) 0, poison := false, errs := 0, passes := 0 }

/-- The sector D >> 6. -/
def lpAt (s : State) (k : Nat) : LpSec := (mapFind s.mem.secs k).getD (lpBlank s k)

/-- Replaces the sector D >> 6; one as the fill left it is not listed. -/
def lpPut (k : Nat) (r : LpSec) (s : State) : State :=
  { s with mem := { s.mem with
      secs := if r = lpBlank s k then mapDel s.mem.secs k else mapIns s.mem.secs k r } }

/-! ### What a package stores (R177-R180, R187, R188) -/

/-- The key pair of a slot's generation (R751); 0 where the slot holds none. -/
def lpKey (s : State) (slot gen : Nat) : BitVec 512 := mapGet s.hld.keys (2 * slot + gen) 0

/-- The stored data unit of the sector D >> 6: its 64 bytes and its tally field, under the key of its generation, with the
sector's number as tweak (R187, R188, R195). -/
def lpUnit (s : State) (k : Nat) (r : LpSec) : BitVec 544 :=
  xtsUnit (lpKey s (keyEntry s (k / 2 ^ 20)).1 r.gen) (BitVec.ofNat 128 k) (r.tally ++ r.data)

/-- The mask on the check field of a stored state (R180). -/
def lpMask (gen : Nat) (poison : Bool) : BitVec 32 := if poison then 0xC3C3C3C3 else if gen = 1 then 0x5A5A5A5A else 0

/-- The metadata entry of a sector: the stored tally field, then the masked check field (R179, R180). -/
def lpEntry (s : State) (k : Nat) (r : LpSec) : BitVec 64 :=
  let u := lpUnit s k r
  (Config.lpParity u ^^^ lpMask r.gen r.poison) ++ u.extractLsb' 512 32

/-- The byte at an address of a channel, before the errors that `errs` counts: data at bytes 0-511 of its stripe, metadata at
512-575; none beyond the last stripe (R177, R178). -/
def chanByte (s : State) (n a : Nat) : Option Byte :=
  let t := a / 576
  let o := a % 576
  let sec := fun (j : Nat) => lpOffset n t j / 64
  if stripesOf (getF s F.MEM_CFG.DENSITY) ≤ t then none
  else if o < 512 then some ((lpUnit s (sec (o / 64)) (lpAt s (sec (o / 64)))).extractLsb' (8 * (o % 64)) 8)
  else some ((lpEntry s (sec ((o - 512) / 8)) (lpAt s (sec ((o - 512) / 8)))).extractLsb' (8 * (o % 8)) 8)

/-- A channel reads or writes a sector of a stripe: its metadata sector is in the cache of 64, which keeps those used last
(R182; log entry 114). -/
def lpTouch (d : Nat) (s : State) : State :=
  let n := lpChan d
  let l := mapGet s.mem.metas n []
  { s with mem := { s.mem with metas := mapSet s.mem.metas n [] ((lpStripe d :: l.erase (lpStripe d)).take 64) } }

/-! ### Decoding and errors (R181, R214-R218) -/

/-- What decoding a stored codeword gives: its data and tally, and the state whose mask it was accepted under. -/
structure LpDec where
  out : Decoded
  tally : BitVec 32
  gen : Nat
  poison : Bool
  deriving DecidableEq, Repr

/-- Decodes a stored codeword (R181): one erroneous byte is corrected, two are detected; beyond, the decoder may detect
or miscorrect, and which, to what, and under which state, is open (log entry 30). -/
def lpDecode (r : LpSec) (s : State) : LpDec × State :=
  if r.errs = 0 then ({ out := .clean r.data, tally := r.tally, gen := r.gen, poison := r.poison }, s)
  else if r.errs = 1 then ({ out := .corrected r.data, tally := r.tally, gen := r.gen, poison := r.poison }, s)
  else
    let (d, s1) := draw 512 s
    let (t, s2) := draw 32 s1
    if r.errs = 2 then ({ out := .bad d, tally := t, gen := r.gen, poison := true }, s2)
    else
      let (b, s3) := draw 1 s2
      let (g, s4) := draw 1 s3
      let (p, s5) := draw 1 s4
      if b = 0 then ({ out := .bad d, tally := t, gen := r.gen, poison := true }, s5)
      else ({ out := .corrected d, tally := t, gen := g.toNat, poison := decide (p = 1) }, s5)

/-- A correction on channel n is counted, in MEM_CHSTAT and for the one-second window of R204 (R215). -/
def lpCorrected (n : Nat) (s : State) : State :=
  let s1 := bump F.MEM_CHSTAT.CE n s
  { s1 with mem := { s1.mem with ceWin := mapSet s1.mem.ceWin n 0 (mapGet s1.mem.ceWin n 0 + 1) } }

/-- An uncorrectable error: the sector is stored with the poison mask, reported, its D recorded (R216). -/
def lpUe (d mark : Nat) (r : LpSec) (x : Sector) (t : BitVec 32) (s : State) : State :=
  let s1 := lpPut (d / 64) { r with data := x, tally := t, poison := true, errs := 0 } s
  let s2 := set64 .MEM_UEADDR_LO .MEM_UEADDR_HI 0 d s1
  post { code := Ev.MEM_UE, mark := mark, inst := lpChan d, d0 := Status.TQ_POISON, d1 := d } s2

/-- A tally mismatch after decryption: the sector is stored with the poison mask (R217, R415). -/
def lpTally (d mark : Nat) (r : LpSec) (s : State) : State :=
  post { code := Ev.MEM_TALLY, mark := mark, inst := lpChan d, d0 := Status.TQ_POISON, d1 := d }
    (bump F.TLY_TALLYERR.COUNT 0 (lpPut (d / 64) { r with poison := true } s))

/-- Why a controller refuses an access: range (R186), or key map (R191). -/
def lpRefusal (s : State) (d keysel : Nat) : Option Nat :=
  if lpBytes s ≤ d then some Status.MEM_RANGE
  else if keyEntry s (regionOf d) = (keysel, true) then none else some Status.MEM_KEYSEL

/-- The event of a refused access: NOTE MEM_RANGE or CONTAINED MEM_KEYSEL (R186, R191). -/
def lpRefuse (d mark status : Nat) (s : State) : State :=
  post { code := if status = Status.MEM_RANGE then Ev.MEM_RANGE else Ev.MEM_KEYSEL, mark := mark, inst := lpChan d, d0 := status, d1 := d } s

/-- Reads a sector that the key map admits: data, tally and POISON (R181, R189, R195, R214-R218). The tally is compared after
every decryption, also that of a poisoned sector (R217). -/
def lpRead (d mark upset : Nat) (s : State) : (Sector × BitVec 32 × Bool) × State :=
  let r := lpAt s (d / 64)
  let r := { r with errs := r.errs + upset }
  let (o, s0) := lpDecode r (lpTouch d s)
  match o.out with
  | .bad x => ((x, o.tally, true), lpUe d mark r x o.tally s0)
  | .clean x => if tallyOk x o.tally then ((x, o.tally, o.poison), s0) else ((x, o.tally, true), lpTally d mark r s0)
  | .corrected x =>
    let s1 := lpCorrected (lpChan d) (lpPut (d / 64) r s0)
    if tallyOk x o.tally then ((x, o.tally, o.poison), s1)
    else ((x, o.tally, true), lpTally d mark { r with data := x, tally := o.tally, gen := o.gen, errs := 0 } s1)

/-- Writes a whole sector under the current generation of the region's slot; poison as given (R189, R195, R218). The count of
scrub passes that corrected it is scrub's own (R215). -/
def lpWrite (d : Nat) (x : Sector) (t : BitVec 32) (poison : Bool) (s : State) : State :=
  lpPut (d / 64)
    { data := x, tally := t, gen := curGen s (keyEntry s (regionOf d)).1, poison := poison, errs := 0
      passes := (lpAt s (d / 64)).passes } (lpTouch d s)

/-- A partial write: read, correct, update, tally anew, as one update; none on a poisoned sector, and a poisoned operand leaves
the sector poisoned (R120, R183, R218; log entry 111). -/
def lpUpdate (d mark upset : Nat) (poison : Bool) (g : Sector → Sector) (s : State) : Option (Sector × BitVec 32) × State :=
  let ((x, t, p), s1) := lpRead d mark upset s
  if p then (none, s1) else (some (x, t), lpWrite d (g x) (tallyOf (g x)) poison s1)

/-! ### Accesses at the controllers (R183, R191, R659-R669) -/

/-- A channel serves: trained, not paused (R205), its package not in self-refresh (R211). -/
def chanServes (s : State) (n : Nat) : Bool :=
  s.mem.trained && mapGet s.mem.paused n 0 == 0 && !s.mem.selfRefresh

/-- MEM_CHUP shows the channels that are trained and serve (R220). -/
def showChannels (s : State) : State :=
  set64 .MEM_CHUP_LO .MEM_CHUP_HI 0 ((List.range 48).map (fun n => if chanServes s n then 2 ^ n else 0)).sum s

/-- The packages enter self-refresh (R211), or leave it. -/
def selfRefreshOn (s : State) : State :=
  if s.mem.selfRefresh then s else showChannels { s with mem := { s.mem with selfRefresh := true, parkedAt := s.time } }
def selfRefreshOff (s : State) : State := showChannels { s with mem := { s.mem with selfRefresh := false } }

/-- Two requests are for one stripe (R183). -/
def sameStripe (d e : Nat) : Bool := lpChan d == lpChan e && lpStripe d == lpStripe e

/-- A waiting request may be served now: its channel serves, no fill holds its region (R192), and no earlier request is
for the same stripe (R183). -/
def memReady (s : State) (before : List MemReq) (q : MemReq) : Bool :=
  chanServes s (lpChan q.d) && !s.mem.filling.contains (regionOf q.d) && before.all (fun p => !sameStripe p.d q.d)

/-- The waiting requests of controller m. -/
def memQueue (s : State) (m : Nat) : List MemReq := mapGet s.mem.queue m []

/-- Replaces the waiting requests of controller m. -/
def setMemQueue (m : Nat) (l : List MemReq) (s : State) : State :=
  { s with mem := { s.mem with queue := mapSet s.mem.queue m [] l } }

/-- The class of a waiting request (R659: the controller's die-local address). -/
def memClass (s : State) (q : MemReq) : Nat := classOf s 0 q.share q.mark (lpBase + q.d)

/-- The servable requests of a controller as its scheduler sees them. -/
def memReqs (s : State) (m : Nat) : List QReq :=
  let l := memQueue s m
  (List.range l.length).filterMap (fun i =>
    match l[i]? with
    | none => none
    | some q => if memReady s (l.take i) q then some { cls := memClass s q, arr := q.arr, idx := i } else none)

/-- The channels of an LPDDR request's sectors are not paused: a controller withholds credits during a pause (R86, R205). -/
def memTakes (s : State) (f : Flit) : Bool :=
  (List.range (if f.op = 0 then f.len + 1 else 1)).all (fun i => mapGet s.mem.paused (lpChan (f.addr - lpBase + 64 * i)) 0 == 0)

/-- A read of one sector, as a queue would hold it. -/
def lpProbe (d : Nat) : MemReq :=
  { op := 0, d := d, pay := 0, tally := 0, poison := false, mark := 0, share := 0, keysel := 0, last := true, port := 0,
    src := 0, tag := 0, arr := 0, held := false }

/-- The sector of a stripe that a queue already holds a request for must wait behind it (R183), as must an access to a region
that is being filled (R192) or to a channel that does not serve (R205, R211): whether an access of an engine or of scrub may
go on. -/
def lpFree (s : State) (d : Nat) : Bool := memReady s (memQueue s (ctrlOf (lpChan d))) (lpProbe d)

/-- The port of controller m nearest to a tile on its edge (R57): the port itself where it is one of the controller's. -/
def memHome (m t : Nat) : Nat × Nat :=
  let (a, north) := memEdge m
  let y := if north then max 16 (tileY t) else min 15 (tileY t)
  match a with
  | 4 => (tileAt (tileX t) 0, 4)
  | 6 => (tileAt (tileX t) 31, 6)
  | 5 => (tileAt 47 y, 5)
  | _ => (tileAt 0 y, 7)

/-- An LPDDR request that reaches an outward port of its controller joins the queues, one entry per sector (R57, R185; log
entry 26). -/
def memEnqueue (t a : Nat) (f : Flit) (s : State) : State :=
  let src := tileAt f.srcX f.srcY
  let key := match mapFind s.msh.outst (outKey src f.srcAgent f.tag) with
    | some o => o.keysel
    | none => 0
  let n := if f.op = 0 then f.len + 1 else 1
  (List.range n).foldl (fun u i =>
    let d := f.addr - lpBase + 64 * i
    let m := ctrlOf (lpChan d)
    let q : MemReq :=
      { op := f.op, d := d, pay := f.pay, tally := f.tally, poison := f.poison, mark := f.mark, share := f.share,
        keysel := key, last := i + 1 == n, port := agentKey t a, src := agentKey src f.srcAgent, tag := f.tag,
        arr := u.time, held := holdsTokens u 0 m (classOf u 0 f.share f.mark (lpBase + d)) }
    setMemQueue m (memQueue u m ++ [q]) u) s

/-- A controller's answer to the source of a request, sent from the port through which it came, or for a later sector of a READ
from that controller's own (R57; log entry 26). -/
def memReply (q : MemReq) (op : Nat) (poison : Bool) (pay : Sector) (tally : BitVec 32) (s : State) : State :=
  let hdr := unicastHdr
    { vc := 3, op := op, dst := q.src / 8, dstAgent := q.src % 8, tag := q.tag, addr := lpBase + q.d, mark := q.mark,
      share := q.share, poison := poison, last := op == 4 && q.last }
  let (u, a) := memHome (ctrlOf (lpChan q.d)) (q.port / 8)
  inject u a { hdr := hdr, pay := pay, tally := tally, crc := 0 } s

/-- An action of R668 takes channel time: a pause, or the half-bandwidth limit of R210. -/
def memActing (s : State) (n : Nat) : Bool := mapGet s.mem.paused n 0 != 0 || flag s F.MEM_CHSTAT.HOT n

/-- A request that the key map admits (R189, R195, R218, R413, R414): READ_DATA with the decrypted tally, and POISON of a
poisoned sector; a WRITE is checked against its tally, encrypted under the current generation and stored; an ATOMIC is a
partial write (R183). -/
def memDo (upset : Nat) (q : MemReq) (u : State) : State :=
  if q.op = 0 then
    let ((x, t, p), u1) := lpRead q.d q.mark upset u
    memReply q 4 p x t u1
  else if q.op = 1 then
    if tallyOk q.pay q.tally then memReply q 5 false 0 0 (lpWrite q.d q.pay q.tally q.poison u)
    else
      memReply q 6 false (BitVec.ofNat 512 Status.TLY_MISMATCH) 0
        (post { code := Ev.TLY_TALLY, mark := q.mark, inst := lpChan q.d, d0 := Status.TQ_DIGEST, d1 := lpBase + q.d }
          (bump F.TLY_TALLYERR.COUNT 0 u))
  else if !atomicOk q.pay then
    memReply q 6 false (BitVec.ofNat 512 Status.RFB_ATOMIC) 0
      (post { code := Ev.RFB_ATOMIC, mark := q.mark, inst := lpChan q.d, d0 := Status.RFB_ATOMIC, d1 := lpBase + q.d } u)
  else
    let (old, u1) := lpUpdate q.d q.mark upset q.poison (fun x => atomicApply x q.pay) u
    match old with
    | none => memReply q 6 false (BitVec.ofNat 512 Status.MEM_POISONED) 0 u1
    | some (x, t) => if secField q.pay 0 1 = 0 then memReply q 5 false 0 0 u1 else memReply q 4 false x t u1

/-- Completes a request taken from its queue: a refused access is answered with an ERROR, and the rest of a refused READ goes
with it (R186, R191). -/
def memComplete (upset : Nat) (q : MemReq) (s : State) : State :=
  match lpRefusal s q.d q.keysel with
  | some st =>
    let rest := if q.op = 0 then (List.range 12).foldl (fun u k =>
        setMemQueue k ((memQueue u k).filter (fun p => !(p.src == q.src && p.tag == q.tag && p.op == 0))) u) s
      else s
    memReply q 6 false (BitVec.ofNat 512 st) 0 (lpRefuse q.d q.mark st rest)
  | none => memDo upset q s

/-- The request that controller m serves next, by the order of R663. -/
def memNext (s : State) (m : Nat) : Option (QReq × MemReq) :=
  match (qosPick 0 m (memReqs s m) s).1 with
  | none => none
  | some r => ((memQueue s m)[r.idx]?).map (fun q => (r, q))

/-- Controller m takes its next request: it leaves the queue; the turn, tokens and misses are counted (R661, R663, R669). -/
def memTaken (m : Nat) (r : QReq) (q : MemReq) (s : State) : State :=
  let s0 := (qosPick 0 m (memReqs s m) s).2
  takeTokens 0 m r.cls (countMiss 0 r q.held (memActing s (lpChan q.d)) (setMemQueue m ((memQueue s0 m).eraseIdx r.idx) s0))

/-- Controller m serves its next request if `want` accepts its operation. -/
def memServe (m : Nat) (want : Nat → Bool) (upset : Nat) (s : State) : State :=
  match memNext s m with
  | none => s
  | some (r, q) => if want q.op then memComplete upset q (memTaken m r q s) else s

/-- MEM_READ: the controller's next request, where it is a READ. -/
def memRead (m upset : Nat) (s : State) : State := memServe m (fun op => op == 0) upset s

def execMemRead (m : Fin 12) (upset : Fin 73) (s : State) : Result := onFrame s (memRead m upset)

/-- MEM_WRITE: the controller's next request, where it is a WRITE or an ATOMIC. -/
def memWrite (m upset : Nat) (s : State) : State := memServe m (fun op => op != 0) upset s

def execMemWrite (m : Fin 12) (upset : Fin 73) (s : State) : Result := onFrame s (memWrite m upset)

/-! ### Key map, fill and rotation (R192-R198) -/

/-- The rotation of a slot is complete: MEM_ROTDONE, and Headland erases the old generation (R198, R751). -/
def rotDone (slot : Nat) (s : State) : State :=
  let s1 := post { code := Ev.MEM_ROTDONE, inst := slot } s
  if getF s1 F.HLD_SLOTST.STATE slot = 2 then
    let old := 1 - getF s1 F.HLD_SLOTST.CURGEN slot
    setF F.HLD_SLOTST.STATE slot 1
      { s1 with hld := { s1.hld with keys := mapDel s1.hld.keys (2 * slot + old) } }
  else s1

/-- A region of a slot needs no rotation any more: PENDING falls, and at 0 the rotation is complete (R197, R198). -/
def rotLess (k slot : Nat) (s : State) : State :=
  let s1 := { s with mem := { s.mem with rot := s.mem.rot.erase k } }
  let n := getF s1 F.MEM_ROTSTAT.PENDING slot
  let s2 := setF F.MEM_ROTSTAT.PENDING slot (n - 1) s1
  if n = 1 then rotDone slot s2 else s2

/-- MEM_ROTATION_START (R196): the other generation of a slot is current; PENDING loads the valid regions of the slot
and their pass begins. With none, PENDING has reached 0 at once (log entry 31). -/
def rotationStart (slot : Nat) (s : State) : State :=
  let s1 := setF F.MEM_ROTSTAT.CURGEN slot (1 - curGen s slot) s
  let ks := (List.range 5464).filter (fun k => keyEntry s k == (slot, true))
  let s2 := setF F.MEM_ROTSTAT.PENDING slot ks.length { s1 with mem := { s1.mem with rot := s1.mem.rot ++ ks } }
  if ks = [] then rotDone slot s2 else s2

/-- A region lies below the usable capacity (R220). -/
def regionUsable (s : State) (k : Nat) : Bool := decide (k * 2 ^ 26 < lpBytes s)

/-- FILLING reads 1 while a fill is in progress (R192). -/
def showFilling (s : State) : State := setF F.MEM_KEYSTAT.FILLING 0 (boolNat (s.mem.filling ≠ [])) s

/-- One entry of a key-map write: VALID set starts a fill (R192), VALID cleared ends the region's rotation (R197), a
change of SEL under a VALID that stays 1 is a reserved encoding (R193); `true` tells of one. -/
def keymapEntry (k sel : Nat) (valid : Bool) (p : State × Bool) : State × Bool :=
  let s := p.1
  let (oldSel, oldValid) := keyEntry s k
  if !regionUsable s k then p
  else if oldValid && valid then (s, p.2 || sel != oldSel)
  else
    let s1 := setKeyEntry k sel valid s
    if valid then (showFilling { s1 with mem := { s1.mem with filling := s1.mem.filling ++ [k] } }, p.2)
    else if oldValid then
      let s2 := showFilling { s1 with mem := { s1.mem with filling := s1.mem.filling.erase k } }
      (if s2.mem.rot.contains k then rotLess k oldSel s2 else s2, p.2)
    else (s1, p.2)

/-- MEM_KEYMAP_WRITE (R190-R197). -/
def memKeymapWrite (i : Nat) (v : BitVec 32) (s : State) : State :=
  let (s1, rsvd) := (List.range 4).foldl (fun p j =>
    keymapEntry (4 * i + j) (bitsAt v (8 * j) 6) (bitAt v (8 * j + 7)) p) (s, false)
  if rsvd then post { code := Ev.REG_RSVD } s1 else s1

def execMemKeymapWrite (i : Fin 1366) (v : BitVec 32) (s : State) : Result :=
  .next (onlyIf (barOpen s) (memKeymapWrite i v) s)

/-- MEM_ZERO_FILL_DONE (R192): the region holds zero sectors under its slot's current generation; held accesses go on. -/
def memZeroFillDone (k : Nat) (s : State) : State :=
  if s.mem.filling.contains k then
    showFilling { s with mem := { s.mem with
        filling := s.mem.filling.erase k
        secs := s.mem.secs.filter (fun e => e.1 / 2 ^ 20 != k)
        regionGen := mapSet s.mem.regionGen k 0 (curGen s (keyEntry s k).1) } }
  else s

def execMemZeroFillDone (k : Fin 5464) (s : State) : Result := onClock s (memZeroFillDone k)

/-- MEM_ROTATION_REGION_DONE (R196, R198): every sector of the region is in the current generation. The pass keeps a sector's
poison, and the erroneous bytes of its codeword for the next read or scrub to meet (R216; log entry 114). -/
def memRotationRegionDone (k : Nat) (s : State) : State :=
  if s.mem.rot.contains k then
    let slot := (keyEntry s k).1
    let g := curGen s slot
    let s1 := { s with mem := { s.mem with
        secs := s.mem.secs.map (fun (e : Nat × LpSec) => if e.1 / 2 ^ 20 = k then (e.1, { e.2 with gen := g }) else e)
        regionGen := mapSet s.mem.regionGen k 0 g } }
    let s2 := { s1 with mem := { s1.mem with
        secs := s1.mem.secs.filter (fun e => !(e.1 / 2 ^ 20 == k && decide (e.2 = lpBlank s1 e.1))) } }
    rotLess k slot s2
  else s

def execMemRotationRegionDone (k : Fin 5464) (s : State) : Result := onClock s (memRotationRegionDone k)

/-! ### Configuration, training, retraining (R175, R200-R206) -/

/-- MEM_CFG_WRITE (R175): RATE takes the value written, Headland records it in CONFIG, and it is applied at the next
reset. -/
def memCfgWrite (rate : Nat) (s : State) : State :=
  setF F.MEM_CFG.RATE 0 rate { s with mem := { s.mem with rateCfg := some rate } }

def execMemCfgWrite (rate : Fin 4) (s : State) : Result := .next (onlyIf (barOpen s) (memCfgWrite rate) s)

/-- MEM_TRAIN_DONE (R176, R200, R201): every channel is trained and the packages' density and ranks are shown, or a
package that differs stops the die with MEM_CONFIG, or a failed step with MEM_TRAIN naming channel and step. -/
def memTrainDone (density : Nat) (ranks2 differ : Bool) (failed : Option (ChanId × Fin 7)) (s : State) : State :=
  if phase s != 2 || s.mem.trained then s
  else
    match failed with
    | some (n, k) => fatal { code := Ev.MEM_TRAIN, inst := n, d0 := k.val + 1 } s
    | none =>
      if differ then fatal { code := Ev.MEM_CONFIG } s
      else
        let s1 := setF F.MEM_CFG.DENSITY 0 density (setF F.MEM_CFG.RANKS2 0 (boolNat ranks2) s)
        let s2 := setF F.MEM_CAP.UNITS 0 (6 * stripesOf density) s1
        selfRefreshOff { s2 with mem := { s2.mem with trained := true, steps := [1, 2, 3, 4, 5, 6, 7] } }

def execMemTrainDone (density : Fin 3) (ranks2 differ : Bool) (failed : Option (ChanId × Fin 7)) (s : State) : Result :=
  onClock s (memTrainDone density ranks2 differ failed)

/-- Pauses a channel: 1 re-centring, 2 and 3 retraining; 0 ends the pause (R202-R205). -/
def setPause (n kind : Nat) (s : State) : State :=
  showChannels { s with mem := { s.mem with paused := mapSet s.mem.paused n 0 kind } }

/-- The packages leave the self-refresh of slack: after more than 100 ms of it every channel repeats steps 4, 5 and 7 (R202). -/
def slackRetrain (s : State) : State :=
  if s.mem.selfRefresh && decide (2500000 < s.time - s.mem.parkedAt) then
    (List.range 48).foldl (fun u n => setPause n 3 u) (selfRefreshOff { s with mem := { s.mem with steps := [4, 5, 7] } })
  else selfRefreshOff s

/-- MEM_OSC_CHECK (R203): drift beyond DRIFT_PS starts a re-centring pause. -/
def memOscCheck (n drift : Nat) (s : State) : State :=
  if chanServes s n && decide (getF s F.MEM_RETRAIN.DRIFT_PS < drift) then setPause n 1 s else s

def execMemOscCheck (n : ChanId) (drift : BitVec 10) (s : State) : Result := onClock s (memOscCheck n drift.toNat)

/-- MEM_RECENTRE_DONE (R203): the channel serves again. -/
def memRecentreDone (n : Nat) (s : State) : State := if mapGet s.mem.paused n 0 = 1 then setPause n 0 s else s

def execMemRecentreDone (n : ChanId) (s : State) : Result := onClock s (memRecentreDone n)

/-- MEM_CE_WINDOW (R204): more than CE_LIM corrections in a second start steps 4-7, at most once in 10 s. -/
def memCeWindow (n : Nat) (s : State) : State :=
  let ce := mapGet s.mem.ceWin n 0
  let s1 := { s with mem := { s.mem with ceWin := mapSet s.mem.ceWin n 0 0 } }
  let recent := match mapFind s.mem.lastWeak n with
    | some t => decide (s.time < t + 250000000)
    | none => false
  if decide (getF s F.MEM_RETRAIN.CE_LIM < ce) && !recent then
    let s2 := { s1 with mem := { s1.mem with lastWeak := mapIns s1.mem.lastWeak n s1.time } }
    post { code := Ev.MEM_CHWEAK, inst := n } (bump F.MEM_CHSTAT.RETRAINS n (setPause n 2 s2))
  else s1

def execMemCeWindow (n : ChanId) (s : State) : Result := onClock s (memCeWindow n)

/-- MEM_RETRAIN_DONE (R206): the channel serves again, or MEM_CHDOWN stops the die. -/
def memRetrainDone (n : Nat) (ok : Bool) (s : State) : State :=
  if 2 ≤ mapGet s.mem.paused n 0 then
    if ok then setPause n 0 s else fatal { code := Ev.MEM_CHDOWN, inst := n } s
  else s

def execMemRetrainDone (n : ChanId) (ok : Bool) (s : State) : Result := onClock s (memRetrainDone n ok)

/-! ### Refresh and derating (R207-R210) -/

/-- MEM_MR4_READ (R207, R209, R210): the code read, whether it asks for refresh above the nominal rate (JEDEC timing
derating), and whether it reports a temperature above the operating limit (half bandwidth, MEM_HOT as it begins); the
channels' capacity may change (R667). -/
def memMr4Read (n code : Nat) (fast hot : Bool) (s : State) : State :=
  let was := flag s F.MEM_CHSTAT.HOT n
  let s1 := setF F.MEM_CHSTAT.HOT n (boolNat hot) (setF F.MEM_CHSTAT.MR4 n code s)
  let s2 := { s1 with mem := { s1.mem with derated := mapSet s1.mem.derated n false fast } }
  let s3 := if hot && !was then post { code := Ev.MEM_HOT, inst := n } s2 else s2
  oversubUpdate 0 s3

def execMemMr4Read (n : ChanId) (code : Fin 8) (fast hot : Bool) (s : State) : Result :=
  .next (onlyIf s.mem.trained (memMr4Read n code fast hot) s)

/-- A per-bank refresh of a channel is due: the interval that its MR4 code requires has passed (R207). -/
def refreshDue (s : State) (n : Nat) : Bool :=
  decide (mapGet s.mem.refAt n 0 + Config.refreshTicks (getF s F.MEM_CHSTAT.MR4 n) ≤ s.time)

/-- The bank that a channel's next per-bank refresh falls on, each in turn (R207). -/
def refreshBank (s : State) (n : Nat) : Nat := mapGet s.mem.refreshes n 0 % Config.lpBanks

/-- MEM_REFRESH (R207, R208): a due per-bank refresh is issued, or postponed for traffic within the JEDEC limit, which the
spec does not number (Config.jedecPostpone); an issue makes up what was postponed. -/
def memRefresh (n : Nat) (postpone : Bool) (s : State) : State :=
  let p := mapGet s.mem.postponed n 0
  let s := { s with mem := { s.mem with refAt := mapSet s.mem.refAt n 0 s.time } }
  if postpone && decide (p < Config.jedecPostpone) then
    { s with mem := { s.mem with postponed := mapSet s.mem.postponed n 0 (p + 1) } }
  else
    { s with mem := { s.mem with
        postponed := mapSet s.mem.postponed n 0 0
        refreshes := mapSet s.mem.refreshes n 0 (mapGet s.mem.refreshes n 0 + p + 1) } }

def execMemRefresh (n : ChanId) (postpone : Bool) (s : State) : Result :=
  .next (onlyIf (s.mem.trained && refreshDue s n) (memRefresh n postpone) s)

/-! ### Scrub (R213-R217) -/

/-- Scrubs one sector: correct and write back when corrected; in a valid region compare the tally; poison a failure;
three consecutive corrections post MEM_WEAKROW. -/
def lpScrub (d upset : Nat) (s : State) : State :=
  let r := lpAt s (d / 64)
  let r := { r with errs := r.errs + upset }
  let (o, s0) := lpDecode r (lpTouch d s)
  let check := fun (q : LpSec) (u : State) =>
    if !(keyEntry u (regionOf d)).2 || tallyOk q.data q.tally then lpPut (d / 64) q u
    else lpTally d 0 q u
  match o.out with
  | .bad x => lpUe d 0 { r with passes := 0 } x o.tally s0
  | .clean _ => check { r with passes := 0 } s0
  | .corrected x =>
    let s1 := check { r with data := x, tally := o.tally, gen := o.gen, poison := o.poison, errs := 0, passes := r.passes + 1 }
      (lpCorrected (lpChan d) s0)
    if r.passes + 1 = 3 then post { code := Ev.MEM_WEAKROW, inst := lpChan d, d1 := d } s1 else s1

/-- MEM_SCRUB_STRIPE (R213): the eight sectors of the next stripe of channel n's patrol; `upset` bytes are found
erroneous in sector j. -/
def memScrubStripe (n j upset : Nat) (s : State) : State :=
  let t := mapGet s.mem.scrubPos n 0
  let s1 := (List.range 8).foldl (fun u i => lpScrub (lpOffset n t i) (if i = j then upset else 0) u) s
  let t' := if t + 1 < stripesOf (getF s F.MEM_CFG.DENSITY) then t + 1 else 0
  { s1 with mem := { s1.mem with scrubPos := mapSet s1.mem.scrubPos n 0 t' } }

/-- The next stripe of a channel's patrol is free for scrub: the channel serves, and no accepted request (R183) nor fill
(R192) holds any of its sectors. -/
def scrubFree (s : State) (n : Nat) : Bool :=
  (List.range 8).all (fun i => lpFree s (lpOffset n (mapGet s.mem.scrubPos n 0) i))

def execMemScrubStripe (n : ChanId) (j : Fin 8) (upset : Fin 73) (s : State) : Result :=
  onClock s (onlyIf (scrubFree s n) (memScrubStripe n j upset))

/-- MEM_CNTCLR (R220): CE and RETRAINS of every channel. -/
def memClear (s : State) : State :=
  (List.range 48).foldl (fun u n => setF F.MEM_CHSTAT.CE n 0 (setF F.MEM_CHSTAT.RETRAINS n 0 u)) s

def execMemCntclr (s : State) : Result := .next (onlyIf (barOpen s) memClear s)

end Sys2Proof.Machine
end

