-- ==== Sys2Proof/Machine/Xlt.lean ====
section
/-! DEFINITION. Addresses and translation (06): contexts, segments, the caches, translation of an operand, invalidation,
and the checks of inbound accesses. -/

namespace Sys2Proof.Machine

/-! ### Contexts and segments (R224-R238) -/

/-- A context; one never bound has generation 0 (R225, R258). -/
def ctxAt (s : State) (asid : Nat) : Ctx := mapGet s.xlt.ctxs asid {}

/-- Replaces a context. -/
def setCtx (asid : Nat) (c : Ctx) (s : State) : State :=
  { s with xlt := { s.xlt with ctxs := mapSet s.xlt.ctxs asid {} c } }

/-- The context of an inbound window (R224). -/
def isWindow (asid : Nat) : Bool := decide (0xFFC0 ≤ asid)

/-- Segment n of a context; one never written is all 0. -/
def segAt (s : State) (asid n : Nat) : Seg := mapGet s.xlt.segs (asid * 16 + n) {}

/-- Replaces a segment. -/
def setSeg (asid n : Nat) (g : Seg) (s : State) : State :=
  { s with xlt := { s.xlt with segs := mapSet s.xlt.segs (asid * 16 + n) {} g } }

/-- The fields of a segment's attributes, in the layout of XLT_SEGATTR (R277). -/
def Seg.valid (g : Seg) : Bool := bitAt g.attr 0
def Seg.host (g : Seg) : Bool := bitAt g.attr 5
def Seg.keysel (g : Seg) : Nat := bitsAt g.attr 8 6

/-- Access codes: 1 R, 2 W, 4 A, 8 X. The permissions that a segment grants. -/
def Seg.perms (g : Seg) : Nat :=
  boolNat (bitAt g.attr 1) + 2 * boolNat (bitAt g.attr 2) + 4 * boolNat (bitAt g.attr 4) + 8 * boolNat (bitAt g.attr 3)

/-- The permissions that a shared-table page grants (R243). -/
def Page.perms (p : Page) : Nat :=
  boolNat p.r + 2 * boolNat p.w + 4 * boolNat (p.r && p.w) + 8 * boolNat p.r

/-- Every access of `acc` is granted by `have_`. -/
def grants (have_ acc : Nat) : Bool := acc &&& have_ == acc

/-- A VA lies in a valid segment (R233). -/
def Seg.covers (g : Seg) (va : Nat) : Bool := g.valid && decide (g.start ≤ va ∧ va < g.start + g.len)

/-- The segment of a context that covers a VA. -/
def segOf (s : State) (asid va : Nat) : Option Nat :=
  (List.range 16).find? (fun n => (segAt s asid n).covers va)

/-! ### The physical map (R221-R223) -/

/-- The die field of a PA and its die-local address (R221). -/
def paDie (pa : Nat) : Nat := pa / 2 ^ 47 % 32
def paLocal (pa : Nat) : Nat := pa % 2 ^ 47

/-- The region of a die-local address: 0 hashed view, 1 local view, 2 LPDDR, 3 inbound windows (R222). -/
def regionIx (a : Nat) : Option Nat :=
  if a < carveBase then some 0
  else if localBase ≤ a ∧ a < localBase + 0xC0000000 then some 1
  else if isLpddr a then some 2
  else if 0x400000000000 ≤ a ∧ a < 0x800000000000 then some 3
  else none

/-- A range of a die's hashed view meets a hole that LOCAL_SLOTS makes: L MiB at the start of each GiB, none where L is 0
(R134, R138). -/
def hitsHole (s : State) (a len : Nat) : Bool :=
  let l := getF s F.RFB_PLACE.LOCAL_SLOTS * 2 ^ 20
  l != 0 && (List.range 3).any (fun k => decide (a < k * 2 ^ 30 + l ∧ k * 2 ^ 30 < a + len))

/-- A range lies within one region, and on the own die outside the holes (R234; log entry 36). -/
def paOk (s : State) (pa len : Nat) : Bool :=
  match regionIx (paLocal pa), regionIx (paLocal pa + len - 1) with
  | some r, some r' =>
    decide (pa < 2 ^ 52) && r == r' && decide (paLocal pa + len ≤ 2 ^ 47)
      && !(r == 0 && paDie pa == ownDie s && hitsHole s (paLocal pa) len)
  | _, _ => false

/-- A die is not known to be absent (R272). -/
def diePresent (s : State) (d : Nat) : Bool :=
  d == ownDie s || (s.hld.members.getLsbD d && !(getReg s .HLD_QUAR 0).getLsbD d)

/-! ### Invalidation (R257-R263) -/

/-- Drops the entries of an ASID from both levels (R258). -/
def dropCaches (asid : Nat) (s : State) : State :=
  let f := fun (m : Map (List XEnt)) => (m.map (fun (e : Nat × List XEnt) => (e.1, e.2.filter (fun x => x.asid != asid)))).filter
    (fun (e : Nat × List XEnt) => e.2 ≠ [])
  { s with xlt := { s.xlt with l1 := f s.xlt.l1, l2 := f s.xlt.l2 } }

/-- Forgets the pages that commands of an ASID have obtained: each is translated anew under the new generation (R254,
R255). -/
def dropGot (asid : Nat) (s : State) : State :=
  { s with tq := { s.tq with queues := s.tq.queues.map (fun (e : Nat × TQueue) =>
      if e.2.asid = asid then
        (e.1, { e.2 with fetch := e.2.fetch.map (fun f => { f with got := [] }), regot := [] })
      else e) } }

/-- INVALIDATION_START (R258): the generation advances, the caches drop the ASID; it completes in order of arrival. -/
def invStart (asid : Nat) (who : InvBy) (s : State) : State :=
  let c := ctxAt s asid
  let g := (c.gen + 1) % 2 ^ 32
  let s1 := dropGot asid (dropCaches asid (setCtx asid { c with gen := g } s))
  setF F.XLT_INVSTAT.BUSY 0 1
    { s1 with xlt := { s1.xlt with invs := s1.xlt.invs ++ [{ asid := asid, gen := g, who := who }] } }

/-- Generation a comes before b in the 32-bit count (R258). -/
def genBefore (a b : Nat) : Bool := decide (0 < (b + 2 ^ 32 - a) % 2 ^ 32 ∧ (b + 2 ^ 32 - a) % 2 ^ 32 < 2 ^ 31)

/-- A dispatched instance that has not committed, STAGED ones included (R469), holds an operand of a generation earlier than
the invalidation's (R259). -/
def holdsOld (v : Inval) (asid : Nat) (i : Inst) : Bool :=
  asid == v.asid && !i.released && i.opnds.any (fun o => genBefore o.gen v.gen)

/-- Some dispatched instance delays the invalidation (R259). -/
def invBlocked (s : State) (v : Inval) : Bool :=
  s.tq.queues.any (fun (e : Nat × TQueue) => e.2.batches.any (fun b => b.insts.any (holdsOld v e.2.asid)))

/-- The invalidation at the front completes: SEQ advances, BUSY ends with the last one, and who started it is served
(R228, R235, R261, R263). -/
def invFinish (s : State) : State :=
  match s.xlt.invs with
  | [] => s
  | v :: rest =>
    let s1 := { s with xlt := { s.xlt with invs := rest } }
    let s2 := setF F.XLT_INVSTAT.SEQ 0 ((getF s1 F.XLT_INVSTAT.SEQ + 1) % 2 ^ 16) s1
    let s3 := setF F.XLT_INVSTAT.BUSY 0 (boolNat (rest ≠ [])) s2
    match v.who with
    | .reg => s3
    | .seg => setF F.XLT_SEGSTAT.BUSY 0 0 s3
    | .unbind =>
      let c := ctxAt s3 v.asid
      let s4 := setCtx v.asid { gen := c.gen, binds := c.binds } s3
      let s5 := { s4 with xlt := { s4.xlt with segs := s4.xlt.segs.filter (fun (e : Nat × Seg) => e.1 / 16 != v.asid) } }
      setF F.XLT_CTXSTAT.BUSY 0 0 s5
    | .ats f t => if rest.any (fun w => decide (w.who = .ats f t)) then s3 else hostSend (.invDone f t) s3

/-- INVALIDATION_COMPLETE (R259): the invalidation at the front completes once nothing holds an older generation. -/
def invComplete (s : State) : State :=
  match s.xlt.invs with
  | [] => s
  | v :: _ => if invBlocked s v then s else invFinish s

def execInvalidationComplete (s : State) : Result := .next (invComplete s)

/-- XLT_INV (R257, R262): starts an invalidation, or is discarded with a NOTE while one is in progress. -/
def xltInv (asid : Nat) (s : State) : State :=
  if flag s F.XLT_INVSTAT.BUSY then post { code := Ev.XLT_INVBUSY, asid := asid } s else invStart asid .reg s

def execXltInv (asid : BitVec 16) (s : State) : Result := .next (onlyIf (barOpen s) (xltInv asid.toNat) s)

/-- ATS_INVALIDATE_REQUEST (R650): every ASID bound to the function and PASID, or to the function where the request
carries no PASID; with none, the completion goes at once. -/
def atsInvalidate (f : Nat) (pasid : Option Nat) (itag : Nat) (s : State) : State :=
  let hit := (s.xlt.ctxs.filter (fun (e : Nat × Ctx) => e.2.bound && e.2.func == f
    && (match pasid with | some p => !isWindow e.1 && e.2.pasid == p | none => true))).map (fun (e : Nat × Ctx) => e.1)
  if hit = [] then hostSend (.invDone f itag) s else hit.foldl (fun u a => invStart a (.ats f itag) u) s

def execAtsInvalidateRequest (f : Func) (pasid : Option (BitVec 20)) (itag : Fin 32) (s : State) : Result :=
  .next (onlyIf (clocksRun s) (atsInvalidate f (pasid.map BitVec.toNat) itag) s)

/-! ### Context commands (R224-R228) -/

/-- Some queue is bound to an ASID (R227). -/
def queuesBound (s : State) (asid : Nat) : Bool :=
  s.tq.queues.any (fun (e : Nat × TQueue) => e.2.st != 0 && e.2.asid == asid)

/-- The reckon parameters at a bind: KINT 2, KFP 32, ACCBITS 24, BLKLOG2 6 in the layout of TLY_CTXA (R453). -/
def reckDefault : BitVec 32 := BitVec.ofNat 32 (2 + 32 * 2 ^ 3 + 24 * 2 ^ 10 + 6 * 2 ^ 16)

/-- Another ASID of the kind that uses a PASID is bound to the same function and PASID (R226). -/
def pasidInUse (s : State) (asid f p : Nat) : Bool :=
  s.xlt.ctxs.any (fun (e : Nat × Ctx) => e.1 != asid && !isWindow e.1 && e.2.bound && e.2.func == f && e.2.pasid == p)

/-- The ERR of a bind: 0 none, 1 reserved ASID, 2 PASID_IN_USE, 3 BOUND (R224, R226, R277). -/
def bindErr (s : State) (asid : Nat) : Nat :=
  if asid = 0 then 1
  else if !isWindow asid && pasidInUse s asid (getF s F.XLT_CTXA.FUNC) (getF s F.XLT_CTXA.PASID) then 2
  else if (ctxAt s asid).bound then 3
  else 0

/-- XLT_CTX_BIND (R225, R226): the context takes its operands from XLT_CTXA and XLT_CTXB, Headland draws its digest point
from 1 to 2^61 - 2 (R418), its bind count advances (R755), its reckon parameters are the defaults (R453). A window
context is bound in reach mode (R277; log entry 37). -/
def xltBind (asid : Nat) (s : State) : State :=
  let e := bindErr s asid
  let s1 := setF F.XLT_CTXSTAT.ERR 0 e s
  if e != 0 then s1
  else
    let (p, s2) := draw 61 s1
    let c := ctxAt s2 asid
    setCtx asid
      { c with
        bound := true, func := getF s F.XLT_CTXA.FUNC, pasid := getF s F.XLT_CTXA.PASID,
        shared := flag s F.XLT_CTXA.MODE && !isWindow asid, priEn := flag s F.XLT_CTXA.PRI_EN,
        keysel := getF s F.XLT_CTXB.KEYSEL, point := p.toNat % (2 ^ 61 - 2) + 1, binds := c.binds + 1,
        reck := reckDefault } s2

/-- A context command is taken while none is in progress (log entry 38). -/
def ctxReady (s : State) : Bool := barOpen s && !flag s F.XLT_CTXSTAT.BUSY

def execXltCtxBind (asid : BitVec 16) (s : State) : Result := .next (onlyIf (ctxReady s) (xltBind asid.toNat) s)

/-- XLT_CTX_READ (R277): the stored values and the generation in the XLT registers. -/
def xltCtxRead (asid : Nat) (s : State) : State :=
  let c := ctxAt s asid
  let v := c.pasid + c.func * 2 ^ 20 + boolNat c.shared * 2 ^ 25 + boolNat c.priEn * 2 ^ 26 + boolNat c.bound * 2 ^ 27
  setF F.XLT_CTXSTAT.ERR 0 (if asid = 0 then 1 else 0)
    (setReg .XLT_CTXGEN 0 (BitVec.ofNat 32 c.gen)
      (setReg .XLT_CTXB 0 (BitVec.ofNat 32 c.keysel) (setReg .XLT_CTXA 0 (BitVec.ofNat 32 v) s)))

def execXltCtxRead (asid : BitVec 16) (s : State) : Result := .next (onlyIf (ctxReady s) (xltCtxRead asid.toNat) s)

/-- The ERR of an unbind: 1 reserved ASID, 5 not bound, 4 QUEUES_BOUND (R227, R277). -/
def unbindErr (s : State) (asid : Nat) : Nat :=
  if asid = 0 then 1 else if !(ctxAt s asid).bound then 5 else if queuesBound s asid then 4 else 0

/-- XLT_CTX_UNBIND (R227, R228): invalidates the ASID and releases the context when that completes. -/
def xltUnbind (asid : Nat) (s : State) : State :=
  let e := unbindErr s asid
  let s1 := setF F.XLT_CTXSTAT.ERR 0 e s
  if e != 0 then s1 else invStart asid .unbind (setF F.XLT_CTXSTAT.BUSY 0 1 s1)

def execXltCtxUnbind (asid : BitVec 16) (s : State) : Result := .next (onlyIf (ctxReady s) (xltUnbind asid.toNat) s)

/-! ### Segment commands (R232-R236) -/

/-- The segment that the XLT segment registers describe. -/
def segRegs (s : State) : Seg :=
  { start := get64 s .XLT_SEGSTART_LO .XLT_SEGSTART_HI 0, len := getF s F.XLT_SEGLEN.UNITS * 65536,
    base := get64 s .XLT_SEGBASE_LO .XLT_SEGBASE_HI 0, attr := getReg s .XLT_SEGATTR 0 }

/-- Two segments' VA ranges meet. -/
def segsMeet (a b : Seg) : Bool := decide (a.start < b.start + b.len ∧ b.start < a.start + a.len)

/-- The first check of R234 that a write of segment `n` fails: its ERR, or 0. -/
def segErr (s : State) (asid n : Nat) (g : Seg) : Nat :=
  if !(ctxAt s asid).bound || (ctxAt s asid).shared then 1
  else if g.len < 65536 || 2 ^ 57 < g.start + g.len then 2
  else if (List.range 16).any (fun j => j != n && (segAt s asid j).valid && segsMeet g (segAt s asid j)) then 3
  else if !g.host && !paOk s g.base g.len then 4
  else if (bitAt g.attr 3 && !bitAt g.attr 1) || (bitAt g.attr 4 && !(bitAt g.attr 1 && bitAt g.attr 2))
      || (isWindow asid && bitAt g.attr 3) then 5
  else if flag s F.XLT_SEGSTAT.BUSY || flag s F.XLT_CTXSTAT.BUSY then 6
  else 0

/-- XLT_SEG_WRITE (R234, R235): committed when every check passes, which invalidates the ASID; otherwise only ERR. -/
def xltSegWrite (asid n : Nat) (s : State) : State :=
  let g := segRegs s
  let e := segErr s asid n g
  let s1 := setF F.XLT_SEGSTAT.ERR 0 e s
  if e != 0 then s1 else invStart asid .seg (setF F.XLT_SEGSTAT.BUSY 0 1 (setSeg asid n g s1))

def execXltSegWrite (asid : BitVec 16) (n : Fin 16) (s : State) : Result :=
  .next (onlyIf (barOpen s) (xltSegWrite asid.toNat n) s)

/-- XLT_SEG_READ (R277): the stored segment in the segment registers. -/
def xltSegRead (asid n : Nat) (s : State) : State :=
  let g := segAt s asid n
  let s1 := set64 .XLT_SEGBASE_LO .XLT_SEGBASE_HI 0 g.base (set64 .XLT_SEGSTART_LO .XLT_SEGSTART_HI 0 g.start s)
  setF F.XLT_SEGSTAT.ERR 0 (if (ctxAt s asid).bound then 0 else 1)
    (setReg .XLT_SEGATTR 0 g.attr (setF F.XLT_SEGLEN.UNITS 0 (g.len / 65536) s1))

def execXltSegRead (asid : BitVec 16) (n : Fin 16) (s : State) : Result :=
  .next (onlyIf (barOpen s) (xltSegRead asid.toNat n) s)

/-- XLT_SEG_CLEAR (R235): removes the segment and invalidates the ASID; checks 1 and 6 of R234 apply. -/
def xltSegClear (asid n : Nat) (s : State) : State :=
  let e := if !(ctxAt s asid).bound || (ctxAt s asid).shared then 1
    else if flag s F.XLT_SEGSTAT.BUSY || flag s F.XLT_CTXSTAT.BUSY then 6 else 0
  let s1 := setF F.XLT_SEGSTAT.ERR 0 e s
  if e != 0 then s1 else invStart asid .seg (setF F.XLT_SEGSTAT.BUSY 0 1 (setSeg asid n {} s1))

def execXltSegClear (asid : BitVec 16) (n : Fin 16) (s : State) : Result :=
  .next (onlyIf (barOpen s) (xltSegClear asid.toNat n) s)

/-- XLT_CNTCLR (R277). -/
def xltClear (s : State) : State :=
  clearRegs [.XLT_L1MISS, .XLT_L2MISS, .XLT_ATSREQ, .XLT_PRIREQ, .XLT_FAULTS, .XLT_RETRANS] s

def execXltCntclr (s : State) : Result := .next (onlyIf (barOpen s) xltClear s)

/-! ### Caches (R264-R266) -/

/-- The half whose second-level cache serves an engine: clusters 0-3 South (0), 4-7 North (1) (R279). -/
def engineHalf (e : Nat) : Nat :=
  let cluster := if e < 32 then e / 4 else if e < 40 then e - 32 else e - 40
  if cluster < 4 then 0 else 1

/-- Puts an entry at the front of a cache of `cap` entries, least recently used last (R264). -/
def lruPut (cap : Nat) (x : XEnt) (l : List XEnt) : List XEnt :=
  (x :: l.filter (fun y => !(y.asid == x.asid && y.idx == x.idx))).take cap

/-- The entry of an ASID and index in a cache. -/
def lruFind (asid idx : Nat) (l : List XEnt) : Option XEnt := l.find? (fun y => y.asid == asid && y.idx == idx)

/-- Puts an entry into engine e's first-level cache. -/
def fillL1 (e : Nat) (x : XEnt) (s : State) : State :=
  { s with xlt := { s.xlt with l1 := mapIns s.xlt.l1 e (lruPut 16 x (mapGet s.xlt.l1 e [])) } }

/-- Puts an entry into a half's second-level cache. -/
def fillL2 (h : Nat) (x : XEnt) (s : State) : State :=
  { s with xlt := { s.xlt with l2 := mapIns s.xlt.l2 h (lruPut 2048 x (mapGet s.xlt.l2 h [])) } }

/-- The valid segments of a context, as cache entries of its present generation (R266). -/
def segEnts (s : State) (asid : Nat) : List XEnt :=
  ((List.range 16).filter (fun n => (segAt s asid n).valid)).map
    (fun n => { asid := asid, gen := (ctxAt s asid).gen, idx := n, page := none })

/-- A second-level miss in reach mode: it reads the spill slot and fills every valid segment (R266). -/
def segMiss (h asid : Nat) (s : State) : State :=
  (segEnts s asid).foldl (fun u x => fillL2 h x u) (bump F.XLT_L2MISS.COUNT 0 s)

/-- A second-level lookup of a segment (R266). -/
def segL2 (h asid n : Nat) (s : State) : State :=
  match lruFind asid n (mapGet s.xlt.l2 h []) with
  | some x => fillL2 h x s
  | none => segMiss h asid s

/-- An engine's lookup of a segment (R264-R266). -/
def segLookup (e asid n : Nat) (s : State) : State :=
  let x : XEnt := { asid := asid, gen := (ctxAt s asid).gen, idx := n, page := none }
  match lruFind asid n (mapGet s.xlt.l1 e []) with
  | some _ => fillL1 e x s
  | none => fillL1 e x (segL2 (engineHalf e) asid n (bump F.XLT_L1MISS.COUNT 0 s))

/-- An engine's lookup of a page that grants `acc`: the page, or none after the misses are counted (R266). -/
def pageLookup (e asid p acc : Nat) (s : State) : Option Page × State :=
  let good := fun (x : XEnt) => match x.page with | some g => grants g.perms acc | none => false
  match lruFind asid (16 + p) (mapGet s.xlt.l1 e []) with
  | some x => if good x then (x.page, fillL1 e x s) else (none, bump F.XLT_L2MISS.COUNT 0 (bump F.XLT_L1MISS.COUNT 0 s))
  | none =>
    let s1 := bump F.XLT_L1MISS.COUNT 0 s
    match lruFind asid (16 + p) (mapGet s1.xlt.l2 (engineHalf e) []) with
    | some x =>
      if good x then (x.page, fillL1 e x (fillL2 (engineHalf e) x s1)) else (none, bump F.XLT_L2MISS.COUNT 0 s1)
    | none => (none, bump F.XLT_L2MISS.COUNT 0 s1)

/-! ### Translation of an operand (R233, R239-R252) -/

/-- What translating an operand gives: its extents, a refusal code, the page that the host must translate, or a page whose
translation this command has and which lacks access for this operand (R245). -/
inductive XRes where
  | ok (exts : List Extent)
  | err (status : Nat)
  | need (page : Nat)
  | lacks (page : Nat)
  deriving DecidableEq, Repr

/-- What a command has obtained for a page and an access: a translation that grants it, or the refusal of that access. -/
def gotPage (got : List Got) (pg acc : Nat) : Option Got :=
  got.find? (fun g => g.page == pg && (match g.res with | some p => grants p.perms acc | none => g.acc == acc))

/-- What to do where a page lacks access that an operand needs (R245-R247): the refusal code, or none to send a Page
Request. -/
def lackCode (s : State) (asid : Nat) (again : Bool) : Option Nat :=
  let c := ctxAt s asid
  if again then some Refuse.XLT_PERM
  else if c.priEn && mapGet s.xlt.priAlloc c.func 0 != 0 then none
  else some Refuse.XLT_PRI

/-- Reach mode (R233, R251): the operand lies in one segment. -/
def xltReach (e asid va bytes acc : Nat) (s : State) : XRes × State :=
  if 2 ^ 57 ≤ va then (.err Refuse.XLT_VA, s)
  else
    match segOf s asid va with
    | none => (.err Refuse.XLT_NOSEG, segMiss (engineHalf e) asid (bump F.XLT_L1MISS.COUNT 0 s))
    | some n =>
      let g := segAt s asid n
      let s1 := segLookup e asid n s
      let pa := g.base + (va - g.start)
      if g.start + g.len < va + bytes then (.err Refuse.XLT_SPAN, s1)
      else if !grants g.perms acc then (.err Refuse.XLT_PERM, s1)
      else if !g.host && !diePresent s (paDie pa) then (.err Refuse.XLT_NODIE, s1)
      else (.ok [{ host := g.host, addr := pa, sectors := bytes / 64, keysel := g.keysel }], s1)

/-- One page's part of an operand, as an extent, or a refusal (R241, R242). -/
def pageExtent (s : State) (ks va bytes : Nat) (p : Page) : Except Nat Extent :=
  let lo := va % 2 ^ 30
  let len := min bytes (2 ^ 30 - lo)
  let x : Extent := { host := p.host, xlat := p.host, addr := p.base + lo, sectors := len / 64, keysel := ks }
  if p.host then .ok x
  else
    let a := paLocal (p.base + lo)
    match regionIx a, regionIx (a + len - 1) with
    | some r, some r' =>
      if r = r' ∧ r < 3 then (if diePresent s (paDie p.base) then .ok x else .error Refuse.XLT_NODIE)
      else .error Refuse.XLT_PAHOLE
    | _, _ => .error Refuse.XLT_PAHOLE

/-- The pages of an operand in turn (R251): from `got` where obtained for this command, else from the caches. -/
def xltPages : Nat → Nat → Nat → Nat → Nat → Nat → Nat → List Got → List Extent → State → XRes × State
  | 0, _, _, _, _, _, _, _, acc, s => (.ok acc, s)
  | fuel + 1, e, asid, ks, va, bytes, perm, got, acc, s =>
    if bytes = 0 then (.ok acc, s)
    else
      let pg := va / 2 ^ 30
      let len := min bytes (2 ^ 30 - va % 2 ^ 30)
      let use := fun (p : Page) (u : State) =>
        match pageExtent u ks va bytes p with
        | .error c => (XRes.err c, u)
        | .ok x =>
          if acc.any (fun y => y.host != x.host) then (.err Refuse.XLT_SPAN, u)
          else xltPages fuel e asid ks (va + len) (bytes - len) perm got (acc ++ [x]) u
      match gotPage got pg perm with
      | some g => (match g.res with | some p => use p s | none => (.err g.code, s))
      | none =>
        match pageLookup e asid pg perm s with
        | (some p, s1) => use p s1
        | (none, s1) => if got.any (fun g => g.page == pg) then (.lacks pg, s) else (.need pg, s1)

/-- Translates an operand of a context for an engine (R249-R252). -/
def xlate (e asid va bytes acc : Nat) (got : List Got) (s : State) : XRes × State :=
  let c := ctxAt s asid
  if !c.bound then (.err Refuse.XLT_NOCTX, s)
  else if !c.shared then xltReach e asid va bytes acc s
  else if 4 < (va + bytes - 1) / 2 ^ 30 - va / 2 ^ 30 + 1 then (.err Refuse.XLT_SPAN, s)
  else xltPages 5 e asid c.keysel va bytes acc got [] s

/-- The requester ID and PASID prefix of what a context sends to the host (R229). -/
def requester (s : State) (asid : Nat) : Requester := { func := (ctxAt s asid).func, pasid := some (ctxAt s asid).pasid }

/-- A translation for a page that begins to wait for the host: what for, the queue, its engine, the ASID and the access. -/
def newWait (what : XFor) (q e asid pg acc : Nat) (noWrite : Bool) (job : Nat × Nat) (s : State) : AtsWait :=
  let c := ctxAt s asid
  { tag := s.xlt.nextTag, what := what, queue := q, engine := e, asid := asid, func := c.func, pasid := c.pasid, page := pg, acc := acc
    noWrite := noWrite, gen := c.gen, pri := false, held := false, again := false, job := job }

/-- Sends an ATS Translation Request (R239) and notes who waits for it. -/
def sendAts (w : AtsWait) (s : State) : State :=
  let s1 := { s with xlt := { s.xlt with waits := s.xlt.waits ++ [{ w with tag := s.xlt.nextTag }], nextTag := s.xlt.nextTag + 1 } }
  hostSend (.ats s.xlt.nextTag w.func w.pasid (BitVec.ofNat 64 (w.page * 2 ^ 30)) w.noWrite) (bump F.XLT_ATSREQ.COUNT 0 s1)

/-- Asks the host for the translation of a page. -/
def atsRequest (what : XFor) (q e asid pg acc : Nat) (noWrite : Bool) (job : Nat × Nat) (s : State) : State :=
  sendAts (newWait what q e asid pg acc noWrite job s) s

/-- Page requests of a function that await their response (R248), those that nothing waits for any more among them. -/
def priOut (s : State) (f : Nat) : Nat := (s.xlt.waits.filter (fun w => w.pri && !w.held && w.func == f)).length

/-- Sends a page request, or holds it within the host's allocation (R245, R248). -/
def sendPri (w : AtsWait) (s : State) : State :=
  if priOut s w.func < mapGet s.xlt.priAlloc w.func 0 then
    let t := s.xlt.nextTag
    hostSend (.page t w.func w.pasid (BitVec.ofNat 64 (w.page * 2 ^ 30)) (w.acc &&& 6 != 0))
      (bump F.XLT_PRIREQ.COUNT 0 { s with xlt := { s.xlt with
        waits := s.xlt.waits ++ [{ w with tag := t, pri := true, held := false }], nextTag := t + 1 } })
  else
    { s with xlt := { s.xlt with
        waits := s.xlt.waits ++ [{ w with tag := s.xlt.nextTag, pri := true, held := true }], nextTag := s.xlt.nextTag + 1 } }

/-- The waits of a queue that `mine` names are over: a page request that is out stays until its response (R248). -/
def dropWaits (mine : AtsWait → Bool) (s : State) : State :=
  { s with xlt := { s.xlt with waits := s.xlt.waits.filterMap (fun w =>
      if !mine w then some w else if w.pri && !w.held then some { w with what := .nobody } else none) } }

/-! ### Inbound accesses (R268-R271) -/

/-- What an inbound access reaches: a die-local place and the key selector of its LPDDR accesses. -/
structure Inbound where
  addr : Nat
  keysel : Nat
  deriving DecidableEq, Repr

/-- Die d is an enrolled member of the system and not quarantined (R268, R773). -/
def knownMember (s : State) (d : Nat) : Bool :=
  s.hld.members.getLsbD d && (getReg s .HLD_MEMBERS 0).getLsbD d && !(getReg s .HLD_QUAR 0).getLsbD d

/-- An inbound access of `len` bytes from die d is admitted: global mode (R268) or a window (R269, R270), whose
segment is found through the caches of the half where the link attaches (R267). `acc` is 1 R or 2 W. -/
def inboundPlace (d a len acc half : Nat) (s : State) : Option Inbound × State :=
  match regionIx a with
  | none => (none, s)
  | some 3 =>
    let w := a / 2 ^ 40 % 64
    let off := a % 2 ^ 40
    let asid := 0xFFC0 + w
    if !(ctxAt s asid).bound || !bitAt (getReg s .XLT_WINSRC w) d then (none, s)
    else
      match segOf s asid off with
      | none => (none, segMiss half asid s)
      | some n =>
        let g := segAt s asid n
        let s1 := segL2 half asid n s
        let pa := g.base + (off - g.start)
        if g.start + g.len < off + len || !grants g.perms acc || g.host || paDie pa != ownDie s then (none, s1)
        else (some { addr := paLocal pa, keysel := g.keysel }, s1)
  | some _ =>
    if flag s F.XLT_CTL.INB_GLOBAL && knownMember s d && regionIx (a + len - 1) == regionIx a then
      (some { addr := a, keysel := if isLpddr a then (keyEntry s (regionOf (a - lpBase))).1 else 0 }, s)
    else (none, s)

end Sys2Proof.Machine
end

