-- ==== Sys2Proof/Machine/TideDec.lean ====
section
/-! DEFINITION. The tide command (07): its fields, and the checks that need no translation (R290, R292, R295-R304,
R312-R316, R321-R330, R371, R423-R428, R440). Within one command they are made in the order of the refusal table of R348
(log entry 42). -/

namespace Sys2Proof.Machine

/-- A tide command: 32 bytes, byte i in bits 8i+7 to 8i (R295). -/
abbrev Cmd := BitVec 256

/-! ### Fields (R295, R298, R313, R321, R324, R326, R330, R333) -/

def cOp (c : Cmd) : Nat := byteField c 0 1
def cNotify (c : Cmd) : Bool := bitAt c 8
def cIrq (c : Cmd) : Bool := bitAt c 9
def cOrder (c : Cmd) : Bool := bitAt c 10
def cSignal (c : Cmd) : Bool := bitAt c 11
def cCnt (c : Cmd) : Nat := byteField c 2 2
/-- OFFSET of a branch, signed (07 "Control commands"). -/
def cOffset (c : Cmd) : Int := signed16 (byteField c 4 2)
def cIreg (c : Cmd) : Nat := bitsAt c 48 3
def cCond (c : Cmd) : Nat := byteField c 6 1
def cScope (c : Cmd) : Nat := byteField c 6 1
def cImm (c : Cmd) : Nat := byteField c 8 4
def cCounter (c : Cmd) : Nat := byteField c 8 2
def cBits (c : Cmd) : Nat := byteField c 8 2
def cValue (c : Cmd) : Nat := byteField c 16 8
def cTmo (c : Cmd) : Nat := byteField c 12 4
def cSectors (c : Cmd) : Nat := byteField c 4 4
def cVa (c : Cmd) : Nat := byteField c 8 8
def cDst (c : Cmd) : Nat := byteField c 16 8
def cIdx (c : Cmd) : Nat := bitsAt c 192 3
def cSstep (c : Cmd) : Bool := bitAt c 195
def cDstep (c : Cmd) : Bool := bitAt c 196
def cRsig (c : Cmd) : Bool := bitAt c 200
def cRep (c : Cmd) : Nat := byteField c 26 2
def cRcnt (c : Cmd) : Nat := byteField c 28 2
def cRole (c : Cmd) : Nat := byteField c 16 1
def cPerm (c : Cmd) : Nat := bitsAt c 136 3
def cM (c : Cmd) : Nat := byteField c 4 4
def cN (c : Cmd) : Nat := byteField c 8 4
def cK (c : Cmd) : Nat := byteField c 12 4
def cFmtA (c : Cmd) : Nat := byteField c 16 1
def cFmtB (c : Cmd) : Nat := byteField c 17 1
def cFmtC (c : Cmd) : Nat := byteField c 18 1
def cKvec (c : Cmd) : Nat := byteField c 19 1
def cKind (c : Cmd) : Nat := bitsAt c 160 4
def cTransA (c : Cmd) : Bool := bitAt c 164
def cTransB (c : Cmd) : Bool := bitAt c 165
def cFunc (c : Cmd) : Nat := byteField c 21 1
def cFrac (c : Cmd) : Nat := byteField c 22 2
def cPorts (c : Cmd) : Nat := byteField c 24 1
def cTag (c : Cmd) : Nat := byteField c 28 4
def cCode (c : Cmd) : Nat := byteField c 4 8
def cCodesec (c : Cmd) : Nat := byteField c 12 2
def cPlace (c : Cmd) : Nat := byteField c 14 1
def cIdem (c : Cmd) : Bool := bitAt c 120
def cBoth (c : Cmd) : Bool := bitAt c 121
def cRect (c : Cmd) : Nat × Nat × Nat × Nat := (bitsAt c 128 6, bitsAt c 134 5, bitsAt c 139 6, bitsAt c 145 5)
def cParam (c : Cmd) : Nat := byteField c 20 8
def cLimit (c : Cmd) : Nat := byteField c 28 4
def cGroup (c : Cmd) : Nat := byteField c 24 4
def cColl (c : Cmd) : Nat := byteField c 28 1
def cRedop (c : Cmd) : Nat := byteField c 29 1
def cType (c : Cmd) : Nat := byteField c 30 1
def cRoot (c : Cmd) : Nat := byteField c 31 1
def cAccess (c : Cmd) : Nat := bitsAt c 128 2

/-- Control commands run in the sequencer (R296, 07 "Control commands"). -/
def isControl (op : Nat) : Bool := decide (op ≤ 0x0C)

/-- COPY, PREFETCH, FILL, PUT, GET (R313). -/
def isData (op : Nat) : Bool := [0x10, 0x11, 0x12, 0x30, 0x31].contains op

/-- The classes in which an OP is valid: bit k for class k; 0 for a reserved OP (R296). -/
def opClasses (op : Nat) : Nat :=
  if op ≤ 0x0B then 7
  else if op = 0x0C then 6
  else if op = 0x10 ∨ op = 0x11 ∨ op = 0x12 then 1
  else if op = 0x20 ∨ op = 0x21 then 2
  else if op = 0x30 ∨ op = 0x31 ∨ op = 0x32 then 4
  else 0

/-- The bits above byte 3 that an OP gives a meaning: place and width (R298-R333). Every other bit is reserved. -/
def usedBits (op : Nat) : List (Nat × Nat) :=
  match op with
  | 0x01 => [(32, 16)]
  | 0x02 => [(32, 16), (48, 8), (64, 16), (128, 64)]
  | 0x03 => [(32, 16), (48, 3), (64, 32)]
  | 0x04 | 0x05 => [(48, 3), (64, 32)]
  | 0x06 => [(48, 8), (64, 16), (96, 32), (128, 64)]
  | 0x07 | 0x08 => [(64, 16), (128, 64)]
  | 0x09 => [(48, 8)]
  | 0x0A => [(64, 16)]
  | 0x0B => [(32, 32), (64, 64), (128, 2)]
  | 0x0C => [(32, 32), (64, 64), (128, 8), (136, 3)]
  | 0x10 | 0x11 | 0x12 | 0x31 => [(32, 32), (64, 64), (128, 64), (192, 5), (208, 16)]
  | 0x30 => [(32, 32), (64, 64), (128, 64), (192, 5), (200, 1), (208, 16), (224, 16)]
  | 0x20 => [(32, 96), (128, 32), (160, 6), (168, 24), (192, 8), (224, 32)]
  | 0x21 => [(32, 80), (112, 10), (128, 22), (160, 64), (224, 32)]
  | 0x32 => [(32, 224)]
  | _ => []

/-- Some reserved bit of the command is 1 (R17, R295). -/
def reservedSet (c : Cmd) : Bool :=
  let mask := (((0, 12) :: (16, 16) :: usedBits (cOp c)).map (fun (p : Nat × Nat) => (2 ^ p.2 - 1) * 2 ^ p.1)).sum
  c &&& ~~~(BitVec.ofNat 256 mask) != 0

/-! ### Formats (R423-R428) -/

/-- Bytes per element of a format, 0 for a reserved code (R423). -/
def fmtBytes (f : Nat) : Nat :=
  if f = 0 ∨ f = 1 ∨ f = 4 ∨ f = 5 ∨ f = 0x10 ∨ f = 0x12 then 1
  else if f = 2 ∨ f = 6 ∨ f = 7 then 2
  else if f = 3 ∨ f = 8 ∨ f = 0x11 then 4
  else 0

/-- A block-scaled format (R423). -/
def fmtBlock (f : Nat) : Bool := decide (0x10 ≤ f ∧ f ≤ 0x12)

/-- The format class of a KIND 0 RECKON: 1 integer, 2 block-fixed, 3 floating point, 0 none (R424). -/
def fmtClass (a b c : Nat) : Nat :=
  let fp := fun (x : Nat) => (decide (4 ≤ x ∧ x ≤ 8)) || x == 0x12
  if a ≤ 2 && b ≤ 2 && c == 3 then 1
  else if a == 0x10 && b == 0x10 && c == 0x11 then 2
  else if fp a && fp b && decide (6 ≤ c ∧ c ≤ 8) then 3
  else 0

/-- Quotient rounded up. -/
def ceilDiv (a b : Nat) : Nat := (a + b - 1) / b

/-- Bytes of the array that each role's operand holds (R425, R426). -/
def roleBytes (c : Cmd) (role : Nat) : Nat :=
  match role with
  | 1 => cM c * cK c * fmtBytes (cFmtA c)
  | 2 => cK c * cN c * fmtBytes (cFmtB c)
  | 3 => cM c * cN c * fmtBytes (cFmtC c)
  | 4 => cM c * ceilDiv (cK c) 32
  | 5 => cN c * ceilDiv (cK c) 32
  | 6 => cM c * ceilDiv (cN c) 32
  | 7 => cM c * cN c * fmtBytes (cFmtA c)
  | 8 => cM c * cN c * fmtBytes (cFmtC c)
  | _ => 0

/-- The roles that a RECKON requires (R426). -/
def rolesNeeded (c : Cmd) : List Nat :=
  if cKind c = 1 then [7, 8]
  else [1, 2, 3] ++ (if fmtBlock (cFmtA c) then [4] else []) ++ (if fmtBlock (cFmtB c) then [5] else [])
    ++ (if fmtBlock (cFmtC c) then [6] else [])

/-- The fields of a RECKON lie in their ranges (R324, R423, R424, R426, R428, R440; log entry 43). -/
def reckonFieldsOk (c : Cmd) : Bool :=
  let dim := fun (x : Nat) => decide (1 ≤ x ∧ x ≤ 2 ^ 20)
  dim (cM c) && dim (cN c) && dim (cK c)
    && (if cKind c = 0 then
          let k := fmtClass (cFmtA c) (cFmtB c) (cFmtC c)
          k != 0 && (cKvec c == 0 || decide (cKvec c ≤ if k = 3 then 64 else 4)) && cFunc c == 0 && cFrac c == 0
        else
          cKind c == 1 && cFmtB c == 0 && cK c == 1 && decide (cFunc c ≤ 7) && cKvec c == 0
            && fmtBytes (cFmtA c) != 0 && fmtBytes (cFmtC c) != 0 && !fmtBlock (cFmtA c) && !fmtBlock (cFmtC c)
            && !cTransA c && !cTransB c)

/-! ### Checks of one command within its batch -/

/-- A command of the batch. -/
def wordAt (ws : List Cmd) (i : Nat) : Cmd := (ws[i]?).getD 0

/-- The next command that is not an OPND, from place `i` on (R322). -/
def served (ws : List Cmd) (i : Nat) : Option Nat :=
  (List.range ws.length).find? (fun j => decide (i ≤ j) && cOp (wordAt ws j) != 0x0C)

/-- The OPNDs that stand directly before place `i`, in order (R322). -/
def opndRun (ws : List Cmd) (i : Nat) : List Nat :=
  (List.range i).filter (fun j => (List.range i).all (fun k => !decide (j ≤ k) || cOp (wordAt ws k) == 0x0C))

/-- The place that a branch at `i` continues at (R301, R302). -/
def target (ws : List Cmd) (i : Nat) : Int := (i : Int) + cOffset (wordAt ws i)

/-- A JUMP or BRC. -/
def isJump (c : Cmd) : Bool := cOp c == 1 || cOp c == 2

/-- A LOOP. -/
def isLoop (c : Cmd) : Bool := cOp c == 3

/-- A value of SIGNAL, CNT and IRQ that R295 admits. -/
def headerOk (irqEn : Bool) (c : Cmd) : Bool :=
  !reservedSet c && (cSignal c || cCnt c == 0) && (!cIrq c || (cNotify c && irqEn))

/-- Group members of a COLL. -/
def groupHas (g d : Nat) : Bool := g.testBit d

/-- The fields of a command lie in their ranges: TQ_FIELD otherwise (R295, R298, R311-R314, R321-R333, R371). -/
def fieldsOk (s : State) (markMask : Nat) (irqEn : Bool) (ws : List Cmd) (i : Nat) : Bool :=
  let c := wordAt ws i
  let op := cOp c
  let al := fun (v : Nat) => v % 64 == 0
  headerOk irqEn c &&
    (if op = 2 ∨ op = 6 then decide (cCond c ≤ 3)
     else if op = 9 then decide (cScope c ≤ 1)
     else if op = 0x0A then cBits c &&& markMask == cBits c
     else if op = 0x0B then cSectors c != 0
     else if op = 0x0C then
       cSectors c != 0 && al (cVa c)
         && (decide (1 ≤ cRole c ∧ cRole c ≤ 8) || decide (0x10 ≤ cRole c ∧ cRole c ≤ 0x17) || cRole c == 0x20)
     else if op = 0x12 then cSectors c != 0 && al (cVa c) && (cRep c == 0 || cSstep c || cDstep c)
     else if isData op then
       cSectors c != 0 && al (cVa c) && al (cDst c) && (cRep c == 0 || cSstep c || cDstep c)
         && (cRcnt c == 0 || cRsig c)
     else if op = 0x20 then reckonFieldsOk c
     else if op = 0x21 then
       let (x0, y0, x1, y1) := cRect c
       al (cCode c) && decide (1 ≤ cCodesec c ∧ cCodesec c ≤ 1024) && decide (cPlace c ≤ 1)
         && (if cPlace c = 1 then decide (x0 ≤ x1 ∧ y0 ≤ y1 ∧ x1 ≤ 47)
             else (opndRun ws i).any (fun j => cRole (wordAt ws j) == 0x10))
     else if op = 0x32 then
       cSectors c != 0 && al (cVa c) && al (cDst c) && decide (cColl c ≤ 3) && decide (cRedop c ≤ 2)
         && decide (cType c ≤ 3) && groupHas (cGroup c) (ownDie s)
         && (cColl c != 3 || (decide (cRoot c < 32) && groupHas (cGroup c) (cRoot c)))
         && (opndRun ws i).all (fun j => decide (2 * cSectors c ≤ cSectors (wordAt ws j)))
     else true)

/-- The loop bodies of a batch up to place `i`: first and last place (R302). -/
def bodies (ws : List Cmd) (i : Nat) : List (Int × Int) :=
  ((List.range (i + 1)).filter (fun j => isLoop (wordAt ws j))).map (fun j => (target ws j, (j : Int)))

/-- Branches keep the rules of R303; a rule about a body is charged to its LOOP (log entry 42). -/
def branchOk (ws : List Cmd) (i : Nat) : Bool :=
  let c := wordAt ws i
  let t := target ws i
  if isJump c then decide (0 < cOffset c ∧ t < ws.length)
  else if isLoop c then
    let mine : Int × Int := (t, (i : Int))
    let earlier := (bodies ws i).dropLast
    let inside := fun (x : Int) => decide (mine.1 ≤ x ∧ x ≤ mine.2)
    decide (cOffset c ≤ 0 ∧ 0 ≤ t)
      && earlier.all (fun b => decide (b.2 < mine.1) || decide (mine.1 ≤ b.1))
      && (List.range (i + 1)).all (fun j =>
        decide (((bodies ws i).filter (fun b => decide (b.1 ≤ (j : Int) ∧ (j : Int) ≤ b.2))).length ≤ 4))
      && (List.range i).all (fun j => !isJump (wordAt ws j) ||
        (if inside (j : Int) then inside (target ws j)
         else !inside (target ws j) || target ws j == mine.1))
  else true

/-- No command of a LOOP's body but that LOOP writes its IREG (R304). -/
def loopregOk (ws : List Cmd) (i : Nat) : Bool :=
  let c := wordAt ws i
  !isLoop c || (List.range i).all (fun j =>
    let d := wordAt ws j
    !decide (target ws i ≤ (j : Int)) || !(isLoop d || cOp d == 4 || cOp d == 5) || cIreg d != cIreg c)

/-- A role is one that the served command takes (R323). -/
def roleFits (op role : Nat) : Bool :=
  if op = 0x20 then decide (1 ≤ role ∧ role ≤ 8)
  else if op = 0x21 then decide (0x10 ≤ role ∧ role ≤ 0x17)
  else if op = 0x32 then role == 0x20
  else false

/-- OPNDs and what they serve agree (R322, R330, R371, R426). -/
def opndsOk (ws : List Cmd) (i : Nat) : Bool :=
  let c := wordAt ws i
  let run := opndRun ws i
  let roles := run.map (fun j => cRole (wordAt ws j))
  let tOk := !(isJump c || isLoop c) || decide (target ws i ≤ 0)
    || cOp (wordAt ws ((target ws i).toNat - 1)) != 0x0C
  tOk &&
    (if cOp c = 0x0C then decide (run.length < 8) && decide (i + 1 < ws.length)
     else if run = [] then
       !(cOp c == 0x20) && !(cOp c == 0x32)
     else
       roles.all (roleFits (cOp c)) && decide (roles.Nodup)
         && (if cOp c = 0x20 then decide (roles.Perm (rolesNeeded c)) else true)
         && (cOp c != 0x32 || decide (run.length = 1)))

/-- Counter indices lie below CCOUNT (R297). -/
def counterOk (ccount : Nat) (c : Cmd) : Bool :=
  (!cSignal c || decide (cCnt c < ccount))
    && (!(cOp c == 2 || cOp c == 6 || cOp c == 7 || cOp c == 8) || decide (cCounter c < ccount))

/-- The VA ranges of SRC and DST (R314). -/
def srcRange (c : Cmd) : Nat × Nat := (cVa c, (if cSstep c then cRep c + 1 else 1) * cSectors c * 64)
def dstRange (c : Cmd) : Nat × Nat := (cDst c, (if cDstep c then cRep c + 1 else 1) * cSectors c * 64)

/-- Two ranges meet. -/
def rangesMeet (a b : Nat × Nat) : Bool := decide (a.1 < b.1 + b.2 ∧ b.1 < a.1 + a.2)

/-- R316 and R330: SRC and DST do not overlap; a COLL's may be equal. -/
def overlapOk (c : Cmd) : Bool :=
  if cOp c = 0x10 ∨ cOp c = 0x11 ∨ cOp c = 0x31 then !rangesMeet (srcRange c) (dstRange c)
  else if cOp c = 0x32 then
    cVa c == cDst c || !rangesMeet (cVa c, cSectors c * 64) (cDst c, cSectors c * 64)
  else true

/-- The first check that command `i` fails, of those made before its translation: the refusal STATUS, or 0. -/
def checkCmd (s : State) (x : TQueue) (ws : List Cmd) (i : Nat) : Nat :=
  let c := wordAt ws i
  if !(opClasses (cOp c)).testBit x.cls then Refuse.TQ_OP
  else if !fieldsOk s x.markMask x.irqEn ws i then Refuse.TQ_FIELD
  else if !branchOk ws i then Refuse.TQ_BRANCH
  else if !loopregOk ws i then Refuse.TQ_LOOPREG
  else if !opndsOk ws i then Refuse.TQ_PREFIX
  else if !counterOk x.ccount c then Refuse.TQ_CNTRANGE
  else if !overlapOk c then Refuse.TQ_OVERLAP
  else if cOp c = 0x21 && !cIdem c && decide (262144 < (((opndRun ws i).filter (fun j => (cPerm (wordAt ws j)).testBit 1)).map
      (fun j => cSectors (wordAt ws j) * 64)).sum) then Refuse.TQ_STAGESIZE
  else if cOp c = 0x20 && (opndRun ws i).any (fun j =>
      decide (cSectors (wordAt ws j) < ceilDiv (roleBytes c (cRole (wordAt ws j))) 64)) then Refuse.TQ_OPNDSIZE
  else if cOp c = 0x32 && (List.range 32).any (fun d => groupHas (cGroup c) d && !diePresent s d) then Refuse.XLT_NODIE
  else 0

/-! ### Address operands (R249, R250) -/

/-- The address operands of command `i`: number, VA, bytes, access (1 R, 2 W, 4 A, 8 X). -/
def operandsOf (ws : List Cmd) (i : Nat) : List (Nat × Nat × Nat × Nat) :=
  let c := wordAt ws i
  let src := srcRange c
  let dst := dstRange c
  match cOp c with
  | 0x0C =>
    let by_ := (served ws i).map (fun j => cOp (wordAt ws j))
    let acc := if by_ = some 0x20 then cPerm c ||| 1 else if by_ = some 0x32 then cPerm c ||| 3 else cPerm c
    [(0, cVa c, cSectors c * 64, acc)]
  | 0x10 | 0x11 | 0x30 | 0x31 => [(0, src.1, src.2, 1), (1, dst.1, dst.2, 2)]
  | 0x12 => [(0, cVa c, (if cDstep c then cRep c + 1 else 1) * cSectors c * 64, 2)]
  | 0x21 => [(0, cCode c, cCodesec c * 64, 8)]
  | 0x32 => [(0, cVa c, cSectors c * 64, 1), (1, cDst c, cSectors c * 64, 2)]
  | _ => []

/-- An extent lies in the Reef of the own die (R371, R427). -/
def inReef (s : State) (x : Extent) : Bool :=
  !x.host && paDie x.addr == ownDie s
    && (match regionIx (paLocal x.addr), regionIx (paLocal x.addr + x.sectors * 64 - 1) with
        | some a, some b => a == b && decide (a < 2)
        | _, _ => false)

/-- An extent lies on another die. -/
def isRemote (s : State) (x : Extent) : Bool := !x.host && paDie x.addr != ownDie s

/-- The check of a translated operand of an OP, or of an OPND that serves it: its refusal STATUS, or 0 (R317, R371, R427; a
COLL's operands are local, log entry 44). -/
def extentsErr (s : State) (op : Nat) (extra : Bool) (num : Nat) (xs : List Extent) : Nat :=
  if xs.any (isRemote s) && !(!extra && op == 0x30 && num == 1) && !(!extra && op == 0x31 && num == 0) then Refuse.TQ_REMOTEOP
  else if extra && op == 0x21 then
    if xs.length ≠ 1 then Refuse.XLT_SPAN else if xs.all (inReef s) then 0 else Refuse.TQ_FIELD
  else if extra && op == 0x20 then (if xs.all (inReef s) then 0 else Refuse.TQ_FIELD)
  else 0

/-- The check of a translated operand of command i. -/
def checkExtents (s : State) (ws : List Cmd) (i num : Nat) (xs : List Extent) : Nat :=
  let c := wordAt ws i
  let by_ := match served ws i with | some j => cOp (wordAt ws j) | none => 0
  if cOp c = 0x0C then extentsErr s by_ true num xs else extentsErr s (cOp c) false num xs

/-- The end of the outermost loop body that holds place `k`, or `k` (R338). -/
def outerEnd (ws : List Cmd) (k : Nat) : Nat :=
  (bodies ws (ws.length - 1)).foldl (fun m b => if b.1 ≤ (k : Int) ∧ (k : Int) ≤ b.2 then max m b.2.toNat else m) k

/-- The LOOPs whose bodies hold place `k` (R302). -/
def loopsAround (ws : List Cmd) (k : Nat) : List Nat :=
  (List.range ws.length).filter (fun j => isLoop (wordAt ws j) && decide (target ws j ≤ (k : Int) ∧ k ≤ j))

end Sys2Proof.Machine
end

