-- ==== Sys2Proof/Machine/LocMem.lean ====
section
/-! DEFINITION. Local memory as engines and other dies reach it (R120, R185, R222, R267-R271, R414): one sector at a
die-local address, the sectors of an operand, and what an error leaves of a destination (R33). -/

namespace Sys2Proof.Machine

/-! ### Local memory -/

/-- The refusal of a Reef access by its place (R138, R139): its NOTE. -/
def reefNote (status mark a : Nat) (s : State) : State :=
  post { code := if status = Status.RFB_HOLE then Ev.RFB_HOLE else Ev.RFB_LOCAL_RANGE, mark := mark, d0 := status, d1 := a } s

/-- Reads one sector at a die-local address: data, tally and POISON, or the STATUS of a refusal. -/
def locRead (a ks mark asid : Nat) (s : State) : Except Nat (Sector × BitVec 32 × Bool) × State :=
  if isLpddr a then
    let d := a - lpBase
    match lpRefusal s d ks with
    | some st => (.error st, lpRefuse d mark st s)
    | none =>
      let (r, s1) := lpRead d mark 0 s
      (.ok r, s1)
  else
    match reefPlace a with
    | none => (.error Status.RFB_HOLE, reefNote Status.RFB_HOLE mark a s)
    | some p =>
      match placeRefusal s p with
      | some st => (.error st, reefNote st mark a s)
      | none =>
        let (r, s1) := readSec p.tile p.so a 0 asid s
        (.ok r, s1)

/-- Writes one sector at a die-local address; the STATUS of a refusal, or 0. A slice or controller discards a write whose
tally does not match, poisoned or not (R414). -/
def locWrite (a ks mark : Nat) (d : Sector) (t : BitVec 32) (poison : Bool) (s : State) : Nat × State :=
  if isLpddr a then
    let x := a - lpBase
    match lpRefusal s x ks with
    | some st => (st, lpRefuse x mark st s)
    | none =>
      if tallyOk d t then (0, lpWrite x d t poison s)
      else (Status.TLY_MISMATCH, post { code := Ev.TLY_TALLY, mark := mark, d0 := Status.TQ_DIGEST, d1 := a }
        (bump F.TLY_TALLYERR.COUNT 0 s))
  else
    match reefPlace a with
    | none => (Status.RFB_HOLE, reefNote Status.RFB_HOLE mark a s)
    | some p =>
      match placeRefusal s p with
      | some st => (st, reefNote st mark a s)
      | none =>
        if tallyOk d t then (0, writeSec p.tile p.so d t (BitVec.ofNat 16 mark) poison s)
        else (Status.TLY_MISMATCH, post { code := Ev.TLY_TALLY, mark := mark, d0 := Status.TQ_DIGEST, d1 := a }
          (bump F.TLY_TALLYERR.COUNT 0 s))

/-- The die-local place of a sector of a local extent: an extent in the own die's window region goes through that window
(R267-R271); one on another die has none here (R223). -/
def placeOf (x : Extent) (acc : Nat) (s : State) : Option Inbound × State :=
  let a := paLocal x.addr
  if isRemote s x then (none, s)
  else if regionIx a = some 3 then inboundPlace (ownDie s) a 64 acc 1 s else (some { addr := a, keysel := x.keysel }, s)

/-! ### Sectors of an operand -/

/-- The k-th sector of a list of extents. -/
def extAt : List Extent → Nat → Option Extent
  | [], _ => none
  | x :: rest, k => if k < x.sectors then some { x with addr := x.addr + 64 * k, sectors := 1 } else extAt rest (k - x.sectors)

/-- The operand of an instance with a number. -/
def Inst.opnd (i : Inst) (num : Nat) : Option Opnd := i.opnds.find? (fun o => o.num == num)

/-- The extent of sector k of an operand. -/
def Inst.sector (i : Inst) (num k : Nat) : Option Extent :=
  match i.opnd num with
  | some o => extAt o.exts k
  | none => none

/-- The commands of a batch as fetched. -/
def Batch.words (b : Batch) : List Cmd := b.cmds.map (fun c => c.word)

/-- The value of index register n. -/
def Snap.reg (p : Snap) (n : Nat) : Nat := p.iregs.getD n 0

/-- The command of an instance. -/
def Batch.cmdOf (b : Batch) (i : Inst) : Cmd := wordAt b.words i.idx

/-- The step an instance was dispatched with (R314). -/
def Inst.step (i : Inst) (c : Cmd) : Nat := i.snap.reg (cIdx c)

/-- The first sector of SRC and of DST that an instance's step covers (R314); FILL's destination is its one operand. -/
def srcOff (c : Cmd) (i : Inst) : Nat := if cSstep c && cOp c != 0x12 then i.step c * cSectors c else 0
def dstOff (c : Cmd) (i : Inst) : Nat := if cDstep c then i.step c * cSectors c else 0

/-- The number of the destination operand. -/
def dstNum (c : Cmd) : Nat := if cOp c = 0x12 then 0 else 1

/-- A sector whose contents are undefined: its data is open, its POISON flag stays (R33; log entry 116). -/
def openSector (x : Extent) (s : State) : State :=
  match placeOf x 2 s with
  | (none, s1) => s1
  | (some p, s1) =>
    let (d, s2) := draw 512 s1
    if isLpddr p.addr then
      let k := (p.addr - lpBase) / 64
      if (lpRefusal s2 (p.addr - lpBase) p.keysel).isSome then s2
      else lpPut k { lpAt s2 k with data := d, tally := tallyOf d } s2
    else
      match reefPlace p.addr with
      | none => s2
      | some r =>
        let k := secKey r.tile r.so
        if (placeRefusal s2 r).isSome then s2 else setSec k { secAt s2 k with data := d, tally := tallyOf d } s2

/-- The sectors that an instance of class I writes on this die: the destination of COPY, PREFETCH, FILL and GET, and the
writable slots of a KCALL with IDEM 1 (R328, R345). -/
def idemSectors (b : Batch) (i : Inst) : List Extent :=
  let c := b.cmdOf i
  let own := fun (num off n : Nat) => (List.range n).filterMap (fun k => i.sector num (off + k))
  if i.op = 0x10 ∨ i.op = 0x11 ∨ i.op = 0x12 ∨ i.op = 0x31 then own (dstNum c) (dstOff c i) (cSectors c)
  else if i.op = 0x21 ∧ cIdem c = true then
    (opndRun b.words i.idx).flatMap (fun j =>
      let w := wordAt b.words j
      if (cPerm w).testBit 1 then own (16 + cRole w) 0 (cSectors w) else [])
  else []

/-- An error leaves the idempotent destinations of an instance undefined (R33); sectors of the host lie outside the machine. -/
def openDest (b : Batch) (i : Inst) (s : State) : State :=
  ((idemSectors b i).filter (fun x => !x.host)).foldl (fun u x => openSector x u) s

end Sys2Proof.Machine
end

