-- ==== Sys2Proof/Machine/TideQ.lean ====
section
/-! DEFINITION. Tide queues at work (R283-R294, R334-R344, R469-R472): completion records, the end of batches, failing
and aborting instances, counters, fetching, checking, journaling and accepting batches, doorbells and queue commands. -/

namespace Sys2Proof.Machine

/-! ### Completion records (R340-R344) -/

/-- A slot of the completion ring is free, and no record waits (R342). -/
def TQueue.roomy (x : TQueue) : Bool := x.held.isEmpty && decide (x.cplTail < x.cplHead + x.cplSize)

/-- Raises a queue's vector, if it belongs to the function bound to the queue's ASID (R644). -/
def queueIrq (q : Nat) (s : State) : State :=
  let x := queueAt s q
  if vecOwner s x.vector = (ctxAt s x.asid).func then raiseVec x.vector s
  else post { code := Ev.PCI_VECOWN, asid := x.asid, queue := some q, mark := x.mark } s

/-- PHASE of record n of a ring: 1 on the first pass, inverted on each wrap (R343). -/
def ringPhase (n size : Nat) : Nat := 1 - n / size % 2

/-- The write of a record to the next slot of the completion ring (R344, R639). -/
def recReq (q : Nat) (r : CRec) (s : State) : HostReq :=
  let x := queueAt s q
  let n := x.cplTail
  let bits := packB [(0, 8, r.asn), (8, 2, r.status), (10, 2, r.count),
    (12, 1, r.kind + 8 * boolNat r.unmir + 128 * ringPhase n x.cplSize), (13, 1, r.opnd), (14, 2, q)]
  .record (some q) (requester s x.asid) (BitVec.ofNat 64 (x.cplBase + 16 * (n % x.cplSize))) 16 (BitVec.ofNat 1024 bits)

/-! ### The course of a batch (R338-R341) -/

/-- Changes the batch of queue q that starts at ASN `first`. -/
def modBatch (q first : Nat) (f : Batch → Batch) (s : State) : State :=
  let x := queueAt s q
  setQueue q { x with batches := x.batches.map (fun b => if b.first = first then f b else b) } s

/-- An instance of command k is dispatched and not committed. -/
def Batch.live (b : Batch) (k : Nat) : Bool := b.insts.any (fun i => i.idx == k)

/-- The sequencer cannot reach command k again (R338). -/
def Batch.closed (b : Batch) (k : Nat) : Bool := b.isOver || decide (outerEnd b.words k < b.seq.pos)

/-- The command whose completion is that of command k: an OPND completes with the command it serves (R322). -/
def Batch.owner (b : Batch) (k : Nat) : Nat :=
  if cOp (wordAt b.words k) = 0x0C then (served b.words k).getD k else k

/-- The status with which command k has completed, or none. -/
def Batch.statusOf (b : Batch) (k : Nat) : Option Nat :=
  let j := b.owner k
  match mapFind b.sts j with
  | some st => some st
  | none => if b.closed j && !b.live j then some Status.OK else none

/-- The sequencer has reached command k or the command it serves. -/
def Batch.reachedCmd (b : Batch) (k : Nat) : Bool := b.ran.contains (b.owner k)

/-- Command k has a COMPLETE record: NOTIFY is set and it was not skipped over, or its status is an error (R304, R341). -/
def Batch.recorded (b : Batch) (k st : Nat) : Bool :=
  if st = Status.OK then cNotify (wordAt b.words k) && b.reachedCmd k
  else cNotify (wordAt b.words k) || st != Status.TQ_SKIPPED

/-- Drops what is fetched or journaled and not yet accepted, with the reads and translations that wait for it. -/
def dropFetch (q : Nat) (s : State) : State :=
  let x := queueAt s q
  let s1 := dropWaits (fun w => w.what == .batch && w.queue == q)
    (setQueue q { x with fetch := none, batches := x.batches.filter (fun b => b.accepted) } s)
  { s1 with
    tq := { s1.tq with reads := s1.tq.reads.filter (fun (e : Nat × ReadFor) =>
      match e.2 with | .ring p _ _ => p != q | .data _ _ _ _ _ => true) } }

/-- The queue reaches the state that follows the end of a batch with error `err` (R287). -/
def afterBatch (q err : Nat) (s : State) : State :=
  let x := queueAt s q
  if x.st = 2 ∧ err ≠ 0 ∧ x.halt = true then dropFetch q (setQueue q { x with st := 1 } s)
  else if x.st = 4 ∧ x.batches = [] then setQueue q { x with st := 1 } s
  else s

/-- The END record of a batch has been written: its RETIRE entry (R469), and the state that follows. -/
def retireBatch (q : Nat) (b : Batch) (s : State) : State :=
  let s1 := jAppend q 0x0D 0 0 [(12, 8, b.first), (20, 8, b.first + b.cmds.length - 1)] s
  let x := queueAt s1 q
  afterBatch q b.err (setQueue q { x with batches := x.batches.filter (fun c => c.first != b.first) } s1)

/-- A record has been written: a batch keeps its COMPLETE records for a repetition (R37), and retires with its END record. -/
def recWritten (q : Nat) (r : CRec) (h : HostReq) (s : State) : State :=
  match (queueAt s q).batchOf r.asn with
  | none => s
  | some b =>
    if r.kind = 1 then putBatch q { b with sent := b.sent ++ [h] } s
    else if r.kind = 2 then retireBatch q b s
    else s

/-- Writes a record to the next slot of the completion ring (R344, R639). -/
def putRec (q : Nat) (r : CRec) (s : State) : State :=
  let x := queueAt s q
  let s2 := hostSend (recReq q r s) (setQueue q { x with cplTail := x.cplTail + 1 } s)
  recWritten q r (recReq q r s) (if r.irq then queueIrq q s2 else s2)

/-- Writes a record, or holds it behind the full ring (R342). -/
def sendRec (q : Nat) (r : CRec) (s : State) : State :=
  let x := queueAt s q
  if x.roomy then putRec q r s else setQueue q { x with held := x.held ++ [r] } s

/-- Writes the held records for which slots are free, in order. -/
def flushRecs : Nat → Nat → State → State
  | 0, _, s => s
  | fuel + 1, q, s =>
    let x := queueAt s q
    match x.held with
    | [] => s
    | r :: rest =>
      if x.cplTail < x.cplHead + x.cplSize then flushRecs fuel q (putRec q r (setQueue q { x with held := rest } s)) else s

/-- The COMPLETE record of command k of a batch (R344). -/
def completeRec (b : Batch) (k st : Nat) : CRec :=
  { kind := 1, asn := b.first + k, status := st, count := 0, unmir := false, opnd := 0, irq := cIrq (wordAt b.words k) }

/-- The END record of a batch: its last ASN, its status, the commands skipped (R341, R344). -/
def endRec (b : Batch) : CRec :=
  let n := b.cmds.length
  { kind := 2, asn := b.first + n - 1, status := b.err
    count := ((List.range n).filter (fun k => b.statusOf k == some Status.TQ_SKIPPED)).length
    unmir := false, opnd := 0, irq := false }

/-- One record of the oldest batch that has one left, if it is due: COMPLETE records in ASN order, then END (R34, R341);
behind a full ring it is held in its turn (R342). `true` where something was done. -/
def emitOne (q : Nat) (s : State) : Bool × State :=
  match (queueAt s q).batches.find? (fun b => !b.ended) with
  | none => (false, s)
  | some b =>
    if !b.accepted then (false, s)
    else if b.emitted < b.cmds.length then
      match b.statusOf b.emitted with
      | none => (false, s)
      | some st =>
        let s1 := putBatch q { b with emitted := b.emitted + 1 } s
        (true, if b.recorded b.emitted st then sendRec q (completeRec b b.emitted st) s1 else s1)
    else if b.isOver && b.insts.isEmpty then (true, sendRec q (endRec b) (putBatch q { b with ended := true } s))
    else (false, s)

/-- Emits what is due. -/
def emitLoop : Nat → Nat → State → State
  | 0, _, s => s
  | fuel + 1, q, s =>
    match emitOne q s with
    | (false, t) => t
    | (true, t) => emitLoop fuel q t

/-- The records that a queue's batches may yet ask for, with room to spare. -/
def TQueue.work (x : TQueue) : Nat := (x.batches.map (fun b => b.cmds.length + 2)).sum + 1

/-- Writes every record of a queue that is due (R34, R341, R342). -/
def settle (q : Nat) (s : State) : State := emitLoop (queueAt s q).work q s

/-- A batch's sequencer has left it, at its end or on an error. -/
def Batch.close (b : Batch) : Batch := if b.cmds.length ≤ b.seq.pos then { b with isOver := true } else b

/-- An error ends a batch: every command not yet dispatched completes with TQ_SKIPPED (R340). -/
def Batch.fail (b : Batch) (st : Nat) : Batch :=
  if b.isOver && b.err != 0 then b
  else
    let open_ := (List.range b.cmds.length).filter (fun k => cOp (wordAt b.words k) != 0x0C
      && (mapFind b.sts k).isNone && !b.live k && !b.closed k)
    { b with
      err := if b.err = 0 then st else b.err
      isOver := true, waiting := false, fencing := false, fence := []
      sts := open_.foldl (fun m k => mapIns m k Status.TQ_SKIPPED) b.sts }

/-- A status is an error that ends its batch (R340). -/
def endsBatch (st : Nat) : Bool := st != Status.OK && st != Status.TQ_SKIPPED

/-- Gives command k its status, unless it has one. -/
def Batch.setStatus (b : Batch) (k st : Nat) : Batch :=
  if (mapFind b.sts k).isSome then b else { b with sts := mapIns b.sts k st }

/-- An instance is the completing one of its command: the last of its outermost loop, an error, or, in a batch that has
ended, the only one left (R338, R340). -/
def Batch.completing (b : Batch) (i : Inst) (st : Nat) : Bool :=
  endsBatch st || i.last || (b.isOver && b.err != 0 && !(b.insts.any (fun j => j.idx == i.idx && j.dseq != i.dseq)))

/-! ### Instances that end early (R255, R260, R334, R340, R469) -/

/-- Discards the instances of a launch that have not started (R407). -/
def cancelWaiting (id : Nat) (s : State) : State :=
  let mine := fun (j : KPend) => j.launch == id
  { s with bead := { s.bead with
      pend := (s.bead.pend.map (fun (e : Nat × List KPend) => (e.1, e.2.filter (fun j => !mine j)))).filter
        (fun (e : Nat × List KPend) => e.2 ≠ [])
      wait := (s.bead.wait.map (fun (e : Nat × List KPend) => (e.1, e.2.filter (fun j => !mine j)))).filter
        (fun (e : Nat × List KPend) => e.2 ≠ []) } }

/-- Aborts the kernel instances of a launch, as the expiry of its limit and the abort of its queue do, and discards those that
wait for a core (R406). -/
def killLaunch (id : Nat) (s : State) : State :=
  cancelWaiting id { s with bead := { s.bead with
      cores := s.bead.cores.map (fun (e : Nat × Core) =>
        match e.2.job with | some j => if j.launch == id then (e.1, { e.2 with abort := true }) else e | none => e) } }

/-- Something of a launch still waits, runs, or has an exception on its way. -/
def launchBusy (s : State) (id : Nat) : Bool :=
  let mine := fun (j : KPend) => j.launch == id
  s.bead.cores.any (fun (e : Nat × Core) => match e.2.job with | some j => mine j | none => false)
    || s.bead.pend.any (fun (e : Nat × List KPend) => e.2.any mine)
    || s.bead.wait.any (fun (e : Nat × List KPend) => e.2.any mine)
    || s.bead.excs.any (fun x => mine x.job)

/-- Drops the host reads of an instance. -/
def dropReads (q asn dseq : Nat) (s : State) : State :=
  { s with tq := { s.tq with reads := s.tq.reads.filter (fun (e : Nat × ReadFor) =>
      match e.2 with | .ring _ _ _ => true | .data p a d _ _ => !(p == q && a == asn && d == dseq)) } }

/-- A COMMIT entry (R458). -/
def jCommit (q : Nat) (b : Batch) (k dseq st : Nat) (last : Bool) (s : State) : State :=
  jAppend q 0x06 0 0 [(12, 8, b.first + k), (20, 4, dseq), (24, 2, st), (26, 1, boolNat last)] s

/-- A dispatched instance completes with an error: COMMIT with the status, no staged effect (R469, R476), its idempotent
destinations undefined (R33); `endB` where the error ends the batch here. -/
def failInst (q first dseq st : Nat) (endB : Bool) (s : State) : State :=
  match instAt s q first dseq with
  | none => s
  | some (b, i) =>
    let s1 := jCommit q b i.idx dseq st true s
    let lsn := jHead s1 - 1
    let s2 := match i.launch with | some l => killLaunch l.id s1 | none => s1
    let s3 := openDest b i (dropReads q (b.first + i.idx) dseq s2)
    let ended := fun (c : Batch) => Batch.setStatus { c with
      insts := c.insts.filter (fun j => j.dseq != dseq)
      commits := c.commits.filter (fun e => e.1 != dseq) ++ [(dseq, i.idx, st, true, lsn)] } i.idx st
    settle q (modBatch q first (fun c => if endB then (ended c).fail st else ended c) s3)

/-- Writes of an instance are still unacknowledged: those of a PUT (R486), or a launch whose instances have yet to exit
(R327). -/
def Inst.writing (s : State) (i : Inst) : Bool :=
  (i.op == 0x30 && i.xfer.owed ≠ []) || (match i.launch with | some l => launchBusy s l.id | none => false)

/-- Ends an instance before its course is run: with writes unacknowledged it completes only after them, by its
COMMAND_COMMIT, and its kernel instances are aborted meanwhile (R320, R327). -/
def endInst (q first dseq st : Nat) (endB : Bool) (s : State) : State :=
  match instAt s q first dseq with
  | none => s
  | some (_, i) =>
    if i.phase == .run && i.writing s then
      let s1 := putInst q first { i with
        xfer := { i.xfer with err := if i.xfer.err = 0 then st else i.xfer.err }
        launch := i.launch.map (fun l => { l with st := if l.st = 0 then st else l.st }) } s
      let s2 := match i.launch with | some l => killLaunch l.id s1 | none => s1
      if endB then settle q (modBatch q first (fun c => c.fail st) s2) else s2
    else failInst q first dseq st endB s

/-- A command fails at its dispatch: it counts as dispatched and completes with the error (R255, R315). -/
def failDispatch (q : Nat) (b : Batch) (st : Nat) (s : State) : State :=
  let k := b.seq.pos
  let s1 := jCommit q b k b.seq.dseq st true s
  let lsn := jHead s1 - 1
  settle q (modBatch q b.first (fun c =>
    let c1 := { c with
      seq := { c.seq with dseq := c.seq.dseq + 1, pos := k + 1 }
      ran := if c.ran.contains k then c.ran else c.ran ++ [k]
      commits := c.commits ++ [(b.seq.dseq, k, st, true, lsn)] }
    (c1.setStatus k st).fail st) s1)

/-! ### Counters (R305, R309) -/

/-- Counter i. -/
def counterAt (s : State) (i : Nat) : Nat := get64 s .TQ_CNT_LO .TQ_CNT_HI i

/-- The batch whose commands a queue's sequencer runs: the oldest accepted one that it has not left (R335). -/
def TQueue.running (x : TQueue) : Option Batch := x.batches.find? (fun b => b.accepted && !b.isOver)

/-- An OUTCOME entry (R470). -/
def jOutcome (q : Nat) (b : Batch) (taken : Bool) (s : State) : State :=
  jAppend q 0x05 0 0 [(12, 8, b.first + b.seq.pos), (20, 4, b.seq.dseq), (24, 1, boolNat taken)] s

/-- The sequencer leaves its command for the place `pos` of the batch. -/
def Batch.goto (b : Batch) (pos : Nat) : Batch :=
  let k := b.seq.pos
  Batch.close { b with
    seq := { b.seq with dseq := b.seq.dseq + 1, pos := pos }
    ran := if b.ran.contains k then b.ran else b.ran ++ [k] }

/-- The counter that a command's SIGNAL raises, unless a warm reset has already seen it raised (log entry 33). -/
def signalOf (x : TQueue) (b : Batch) : Option Nat :=
  let c := wordAt b.words b.seq.pos
  if cSignal c && decide (b.reached ≤ b.seq.dseq) then some (x.cbase + cCnt c) else none

/-- A WAIT whose comparison holds completes: OUTCOME, and the sequencer goes on (R305, R470); the counter that its SIGNAL
raises. -/
def waitTry (q : Nat) (s : State) : Option Nat × State :=
  let x := queueAt s q
  match x.running with
  | none => (none, s)
  | some b =>
    let c := wordAt b.words b.seq.pos
    if b.waiting && condHolds (cCond c) (counterAt s (x.cbase + cCounter c)) (cValue c) then
      let s1 := jOutcome q b false s
      (signalOf x b, settle q (modBatch q b.first (fun d =>
        Batch.goto { d with waiting := false, outcomes := mapIns d.outcomes b.seq.dseq false } (b.seq.pos + 1)) s1))
    else (none, s)

/-- A counter takes a value; WATCHes and WAITs on it are served (R305, R548); the counters that WAITs signal. -/
def counterWrite (i v : Nat) (s : State) : List Nat × State :=
  let s1 := shlWatchFire i v (set64 .TQ_CNT_LO .TQ_CNT_HI i v s)
  (s1.tq.queues.map (fun (e : Nat × TQueue) => e.1)).foldl (fun (p : List Nat × State) q =>
    match waitTry q p.2 with
    | (some k, u) => (p.1 ++ [k], u)
    | (none, u) => (p.1, u)) ([], s1)

/-- Signals of counters, each with what it wakes in turn; a WAIT completes once, so the queues bound their number. -/
def signalLoop : Nat → List Nat → State → State
  | 0, _, s => s
  | _, [], s => s
  | fuel + 1, i :: rest, s =>
    let (more, s1) := counterWrite i ((counterAt s i + 1) % 2 ^ 64) s
    signalLoop fuel (rest ++ more) s1

/-- COUNTER_UPDATE (R309): a counter takes a value, and everything that follows from it. -/
def counterSet (i v : Nat) (s : State) : State :=
  let (sig, s1) := counterWrite i v s
  signalLoop (s.tq.queues.length + 1) sig s1

/-- Adds to a counter modulo 2^64. -/
def counterAdd (i v : Nat) (s : State) : State := counterSet i ((counterAt s i + v) % 2 ^ 64) s

/-! ### Fetching, checking, journaling (R249-R254, R285, R289-R292, R463, R465) -/

/-- An unaccepted batch is journaled. -/
def TQueue.newest (x : TQueue) : Option Batch := x.batches.find? (fun b => !b.accepted)

/-- A batch is refused: REFUSE record, a NOTE, the queue REFUSED (R252, R287, R292, R344). -/
def refuseBatch (q st k opnd : Nat) (s : State) : State :=
  let x := queueAt s q
  let tail := x.tails.headD x.head
  let s1 := dropFetch q s
  let s2 := setQueue q { queueAt s1 q with st := 3, skip := tail, tails := x.tails.tail } s1
  let s3 := bump F.TQ_REFUSED.COUNT 0 (if 0x200 ≤ st then bump F.XLT_FAULTS.COUNT 0 s2 else s2)
  let ev : EvArgs := { code := refuseEvent st, asid := x.asid, queue := some q, mark := x.mark, inst := x.eng,
                       d0 := st + k * 2 ^ 16, d1 := x.head }
  let s4 := if 0x100 ≤ st then post ev s3 else s3
  sendRec q { kind := 3, asn := x.head, status := st, count := k, unmir := false, opnd := opnd, irq := false } s4

/-- Sends the reads of a batch's commands: naturally aligned pieces of at most 128 commands (R285). -/
def fetchReads : Nat → Nat → Nat → Nat → State → State
  | 0, _, _, _, s => s
  | fuel + 1, q, pos, left, s =>
    if left = 0 then s
    else
      let x := queueAt s q
      let ix := (x.head + pos) % x.ringSize
      let n := min left (min (128 - ix % 128) (x.ringSize - ix))
      let t := s.pci.nextTag
      let s1 := { s with
        pci := { s.pci with nextTag := t + 1 }
        tq := { s.tq with reads := mapIns s.tq.reads t (.ring q pos n) } }
      fetchReads fuel q (pos + n) (left - n) (hostDma x.share x.mark (.read t (requester s x.asid) (BitVec.ofNat 64 (x.ringBase + 32 * ix)) (32 * n) false) s1)

/-- A RUNNING queue begins to fetch its oldest recorded batch (R287, R291). -/
def startFetch (q : Nat) (s : State) : State :=
  let x := queueAt s q
  match x.tails with
  | [] => s
  | tail :: _ =>
    if x.st = 2 ∧ x.fetch = none ∧ x.newest = none then
      let n := (tail + x.ringSize - x.head) % x.ringSize
      let count := if n = 0 then x.ringSize else n
      if 4096 < count then refuseBatch q Refuse.TQ_BATCHSIZE 0 0 s
      else
        let s1 := setQueue q { x with fetch := some { tail := tail, first := x.head, count := count } } s
        fetchReads (count + 1) q 0 count s1
    else s

/-- The commands of a fetched batch. -/
def Fetch.ws (f : Fetch) : List Cmd := (List.range f.count).map (fun i => mapGet f.words i 0)

/-- Every command of the batch has been read. -/
def Fetch.full (f : Fetch) : Bool := decide (f.words.length = f.count)

/-- Journal entries of a command: CMD and its EXT entries of up to three extents (R457, R465). -/
def extGroups (o : Opnd) : List (List Extent) :=
  if o.exts = [] then [] else if o.exts.length ≤ 3 then [o.exts] else [o.exts.take 3, o.exts.drop 3]
def TCmd.entries (c : TCmd) : Nat := 1 + (c.opnds.map (fun o => (extGroups o).length)).sum

/-- An EXT entry (R458). -/
def jExt (q asn : Nat) (o : Opnd) (g : List Extent) (s : State) : State :=
  let at_ := fun (i : Nat) => match g[i]? with
    | some x => [(20 + 12 * i, 8, x.addr), (28 + 12 * i, 4, x.sectors)]
    | none => []
  jAppend q 0x03 g.length o.num
    ([(12, 8, asn), (56, 1, boolNat (g.any (fun x => x.host)))] ++ at_ 0 ++ at_ 1 ++ at_ 2) s

/-- A command's CMD entry and its EXT entries (R458, R465). -/
def jCmd (q asn gen : Nat) (c : TCmd) (s : State) : State :=
  let s1 := jAppend q 0x02 (c.entries - 1) 0 [(12, 8, asn), (20, 32, c.word.toNat), (52, 4, gen)] s
  c.opnds.foldl (fun u o => (extGroups o).foldl (fun v g => jExt q asn o g v) u) s1

/-- Journals a checked batch, or holds it while its entries would exceed 65,536 (R463, R465). -/
def tryJournal (q : Nat) (s : State) : State :=
  let x := queueAt s q
  match x.fetch with
  | none => s
  | some f =>
    let n := 1 + (f.done.map TCmd.entries).sum
    if 65536 < batchEntries s + n then
      if f.held then s else bump F.HBL_HOLD.COUNT 0 (setQueue q { x with fetch := some { f with held := true } } s)
    else
      let s1 := jAppend q 0x01 0 0
        [(12, 8, x.asn), (20, 2, f.done.length), (22, 2, x.head), (24, 2, x.asid), (26, 4, n)] s
      let gen := fun (c : TCmd) => ((c.opnds.head?).map (fun o => o.gen)).getD (ctxAt s x.asid).gen
      let s2 := (f.done.zip (List.range f.done.length)).foldl
        (fun u (p : TCmd × Nat) => jCmd q (x.asn + p.2) (gen p.1) p.1 u) s1
      let b : Batch := { first := x.asn, ring := x.head, cmds := f.done, entries := n, lsn := jHead s2 - 1
                         seq := { mark := x.mark } }
      let x2 := queueAt s2 q
      setQueue q { x2 with fetch := none, batches := x2.batches ++ [b] } s2

/-- An operand (number, VA, bytes, access) writes on page `pg`. -/
def writesPage (pg : Nat) (o : Nat × Nat × Nat × Nat) : Bool :=
  decide (o.2.1 / 2 ^ 30 ≤ pg ∧ pg ≤ (o.2.1 + o.2.2.1 - 1) / 2 ^ 30) && (o.2.2.2 &&& 6) != 0

/-- Every operand that uses page `pg`, of the command at place i and of the OPNDs that serve the same command, only reads
(R239, R321). -/
def pageNoWrite (ws : List Cmd) (i pg : Nat) : Bool :=
  let j := (served ws i).getD i
  !((opndRun ws j ++ [j]).any (fun k => (operandsOf ws k).any (writesPage pg)))

/-- Checks and translates a fetched batch command by command (R249, R252, R292). -/
def batchRun : Nat → Nat → State → State
  | 0, _, s => s
  | fuel + 1, q, s =>
    let x := queueAt s q
    match x.fetch with
    | none => s
    | some f =>
      let ws := f.ws
      let i := f.done.length
      if f.count ≤ i then tryJournal q s
      else
        let st := if f.part = [] then checkCmd s x ws i else 0
        if st != 0 then refuseBatch q st i 0 s
        else
          match (operandsOf ws i)[f.part.length]? with
          | none =>
            batchRun fuel q (setQueue q { x with fetch := some { f with
              done := f.done ++ [{ word := wordAt ws i, opnds := f.part }], part := [], got := [] } } s)
          | some (num, va, bytes, acc) =>
            match xlate x.eng x.asid va bytes acc f.got s with
            | (.err c, s1) => refuseBatch q c i num s1
            | (.need pg, s1) => atsRequest .batch q x.eng x.asid pg acc (pageNoWrite ws i pg) (0, 0) s1
            | (.lacks pg, s1) =>
              match lackCode s1 x.asid (f.got.any (fun g => g.page == pg && g.again)) with
              | some c => refuseBatch q c i num s1
              | none => sendPri (newWait .batch q x.eng x.asid pg acc (pageNoWrite ws i pg) (0, 0) s1) s1
            | (.ok xs, s1) =>
              let c := checkExtents s1 ws i num xs
              if c != 0 then refuseBatch q c i num s1
              else
                let o : Opnd := { num := num, va := va, bytes := bytes, acc := acc, gen := (ctxAt s1 x.asid).gen, exts := xs }
                batchRun fuel q (setQueue q { queueAt s1 q with fetch := some { f with part := f.part ++ [o] } } s1)

/-- Goes on with the batch that a queue checks. -/
def batchGo (q : Nat) (s : State) : State :=
  match (queueAt s q).fetch with
  | none => s
  | some f => if f.full then batchRun (3 * f.count + 1) q s else s

/-- BATCH_FETCH_DONE (R292): the commands of the batch have been read. -/
def execBatchFetchDone (q : QueueId) (s : State) : Result := .next (onlyIf (frameRuns s) (batchGo q) s)

/-- Tries again every batch that R463 holds. -/
def unhold (s : State) : State :=
  (s.tq.queues.map (fun (e : Nat × TQueue) => e.1)).foldl (fun u q =>
    match (queueAt u q).fetch with
    | some f => if f.held then tryJournal q u else u
    | none => u) s

/-! ### Acceptance (R20-R23, R293, R294, R342, R466, R773, R819) -/

/-- Acceptance is withheld on every queue: unmirrored without permission (R22), quarantined (R773), leaving (R819) or
departed (R821). -/
def withheld (s : State) : Bool :=
  (!mirrored s && !flag s F.HBL_CTL.ALLOW_UNMIRRORED) || flag s F.HLD_ROLE.QUAR || flag s F.GLB_STATUS.LEAVING
    || flag s F.GLB_STATUS.LEFT

/-- BATCH_ACCEPT (R294, R466): the ACCEPT record; the next batch is fetched (R291). -/
def acceptBatch (q : Nat) (s : State) : State :=
  let x := queueAt s q
  match x.newest with
  | none => s
  | some b =>
    if x.st = 2 ∧ durable s b.lsn = true ∧ withheld s = false ∧ x.roomy = true then
      let n := b.cmds.length
      let un := !mirrored s
      let b1 := Batch.close { b with accepted := true, unmir := un }
      let x1 := { x.setBatch b1 with asn := x.asn + n, head := x.tails.headD x.head, tails := x.tails.tail }
      let s1 := add64 .TQ_ACCEPTED_LO .TQ_ACCEPTED_HI 0 n (setQueue q x1 s)
      let s2 := if un then bump F.HBL_UNMIRACC.COUNT 0 s1 else s1
      startFetch q (putRec q { kind := 0, asn := b.first, status := 0, count := n, unmir := un, opnd := 0, irq := false } s2)
    else s

def execBatchAccept (q : QueueId) (s : State) : Result := .next (onlyIf (frameRuns s) (acceptBatch q) s)

/-! ### Abort (R334, R469) -/

/-- A collective's commit has begun (R334, R489). -/
def Inst.collCommitted (i : Inst) : Bool := match i.coll with | some c => c.commitLsn != 0 | none => false

/-- The instances of a batch that an abort ends: those that have not committed. -/
def Batch.abortable (b : Batch) : List Inst := b.insts.filter (fun i => i.phase == .run && !i.collCommitted)

/-- Aborts a batch: its uncommitted commands complete with TQ_ABORTED. -/
def abortBatch (q : Nat) (b : Batch) (s : State) : State :=
  let s1 := b.abortable.foldl (fun u i => endInst q b.first i.dseq Status.TQ_ABORTED false u) s
  match (queueAt s1 q).batches.find? (fun c => c.first == b.first) with
  | none => s1
  | some c =>
    let keep := fun (k : Nat) => (mapFind c.sts k).isSome || cOp (wordAt c.words k) == 0x0C
      || (c.closed k && !c.live k) || c.insts.any (fun i => i.idx == k && (i.last || i.phase == .run))
    let left := (List.range c.cmds.length).filter (fun k => !keep k)
    putBatch q { c with
      isOver := true, waiting := false, fencing := false, fence := []
      err := if c.err = 0 && (left ≠ [] || b.abortable ≠ []) then Status.TQ_ABORTED else c.err
      sts := left.foldl (fun m k => mapIns m k Status.TQ_ABORTED) c.sts } s1

/-- The lowest ASN of a queue that has not committed (R458, ABORT). -/
def TQueue.lowestOpen (x : TQueue) : Nat :=
  match (x.batches.filter (fun b => b.accepted)).findSome? (fun b =>
      ((List.range b.cmds.length).find? (fun k => (b.statusOf k).isNone)).map (fun k => b.first + k)) with
  | some a => a
  | none => x.asn

/-- Aborts a queue (R287, R334): ABORT entry, uncommitted commands, unaccepted batches; the queue STOPPED. -/
def abortQueue (q cause : Nat) (s : State) : State :=
  let x := queueAt s q
  if x.st = 2 ∨ x.st = 3 ∨ x.st = 4 then
    let s1 := jAppend q 0x09 0 0 [(12, 8, x.lowestOpen), (20, 1, cause)] s
    let s2 := dropWaits (fun w => w.what == .redo && w.queue == q) (dropFetch q s1)
    let s3 := setQueue q { queueAt s2 q with tails := [], last := x.head, st := 1, regot := [] } s2
    let s4 := ((queueAt s3 q).batches).foldl (fun u b => abortBatch q b u) s3
    unhold (settle q s4)
  else s

/-! ### Doorbells (R287-R289, R630, R631, R637) -/

/-- More than 64 tails pending: the queue stops and its unaccepted tails are discarded (R287). -/
def doorbellOverflow (q : Nat) (s : State) : State :=
  let x := queueAt s q
  let s1 := dropFetch q s
  let s2 := setQueue q { queueAt s1 q with tails := [], last := x.head, st := 1 } s1
  post { code := Ev.TQ_DBOVF, asid := x.asid, queue := some q, mark := x.mark, inst := x.eng } (bump F.TQ_DBOVF.COUNT 0 s2)

/-- A doorbell write reaches a queue (R287, R289). -/
def doorbell (q tail : Nat) (s : State) : State :=
  let x := queueAt s q
  if x.st = 0 then post { code := Ev.TQ_DBDISABLED, queue := some q } s
  else
    let t := tail % x.ringSize
    if t = x.last then post { code := Ev.TQ_DBSAME, asid := x.asid, queue := some q, mark := x.mark, inst := x.eng } s
    else
      let s1 := setQueue q { x with last := t, tails := x.tails ++ [t] } s
      if (x.st = 2 ∨ x.st = 3) ∧ 64 ≤ x.tails.length then doorbellOverflow q s1 else startFetch q s1

/-- The queue that a function's doorbell page names (R628, R630). -/
def pageQueue (s : State) (f p : Nat) : Option Nat :=
  if f = 0 then some p
  else if s.pci.vfEn.getLsbD f && decide (p < getF s F.PCI_VFQ.COUNT f) then some ((getF s F.PCI_VFQ.BASE f + p) % 1024)
  else none

/-- A write to a doorbell page by function f: refused where the queue's ASID is bound elsewhere (R631). -/
def doorbellPage (f p : Nat) (k : Nat → State → State) (s : State) : State :=
  match pageQueue s f p with
  | none => s
  | some q =>
    let x := queueAt s q
    if f != 0 && x.st != 0 && (ctxAt s x.asid).func != f then
      post { code := Ev.PCI_DBRANGE, asid := x.asid, queue := some q, mark := x.mark } (bump F.PCI_DBDROP.COUNT 0 s)
    else k q s

/-- DB_TAIL (R289): function, page of its BAR2, value written. -/
def execDbTail (f : Func) (p : QueueId) (v : BitVec 32) (s : State) : Result :=
  .next (onlyIf (barOpen s) (doorbellPage f p (fun q => doorbell q v.toNat)) s)

/-- The host's consumption index of a ring moves the consumed count forward, at most to what is written (log entry 57). -/
def consumed (head tail size v : Nat) : Nat :=
  let used := tail - head
  let adv := (v + size - head % size) % size
  head + min used (if adv = 0 && used == size then size else adv)

/-- DB_CPLHEAD (R342): held records, then those that are due, then acceptance go on. -/
def cplHeadWrite (q v : Nat) (s : State) : State :=
  let x := queueAt s q
  if x.st = 0 then s
  else
    let s1 := setQueue q { x with cplHead := consumed x.cplHead x.cplTail x.cplSize v } s
    unhold (settle q (flushRecs (x.held.length + 1) q s1))

def execDbCplhead (f : Func) (p : QueueId) (v : BitVec 32) (s : State) : Result :=
  .next (onlyIf (barOpen s) (doorbellPage f p (fun q => cplHeadWrite q v.toNat)) s)

/-- DB_RECHEAD (R325): slots of the record ring are free for RECKONs that wait. -/
def recHeadWrite (q v : Nat) (s : State) : State :=
  let x := queueAt s q
  if x.st = 0 ∨ x.cls ≠ 1 then s
  else setQueue q { x with recHead := consumed x.recHead x.recTail x.recSize v } s

def execDbRechead (f : Func) (p : QueueId) (v : BitVec 32) (s : State) : Result :=
  .next (onlyIf (barOpen s) (doorbellPage f p (fun q => recHeadWrite q v.toNat)) s)

/-- Resuming a refused queue sets HEAD past the refused batch (R287). -/
def resumeQueue (q : Nat) (s : State) : State :=
  let x := queueAt s q
  if x.st = 3 then startFetch q (setQueue q { x with st := 2, head := x.skip } s) else s

/-- DB_RESUME (R287): a write of 1. -/
def execDbResume (f : Func) (p : QueueId) (v : BitVec 32) (s : State) : Result :=
  .next (onlyIf (barOpen s && v == 1) (doorbellPage f p resumeQueue) s)

/-- DB_ABORT (R334): a write of 1. -/
def execDbAbort (f : Func) (p : QueueId) (v : BitVec 32) (s : State) : Result :=
  .next (onlyIf (barOpen s && v == 1) (doorbellPage f p (fun q => abortQueue q 0)) s)

/-! ### Queue commands (R286, R287, R350) -/

/-- The descriptor that TQ_QD#0-15 hold. -/
def qdRegs (s : State) : BitVec 512 :=
  BitVec.ofNat 512 (((List.range 16).map (fun j => (getReg s .TQ_QD j).toNat * 2 ^ (32 * j))).sum)

/-- A ring's size exponent is legal (R284). -/
def logOk (n : Nat) : Bool := decide (6 ≤ n ∧ n ≤ 16)

/-- The ERR of a create: 2 wrong state, 1 ASID unbound, 3 ENGINE, 4 counter window, 5 reserved field or value (R286;
log entry 58 for the order). -/
def createErr (s : State) (x : TQueue) (d : TQueue) : Nat :=
  if x.st ≠ 0 then 2
  else if !(ctxAt s d.asid).bound then 1
  else if d.cls = 3 then 5
  else if d.cls ≠ 0 ∧ 8 ≤ d.engine then 3
  else if 65536 < d.cbase + d.ccount then 4
  else if d.word 0 0 12 ≠ 0 ∨ d.word 2 15 1 ≠ 0 ∨ d.word 6 0 12 ≠ 0 ∨ d.word 8 0 12 ≠ 0 ∨ bitsAt d.desc 320 192 ≠ 0
      ∨ d.weight = 0 then 5
  else if !logOk (d.word 2 0 5) || !logOk (d.word 2 5 5) then 5
  else if (if d.cls = 1 then !logOk (d.word 2 10 5) else d.word 2 10 5 != 0) then 5
  else 0

/-- Reports a queue command's result in TQ_QSTAT. -/
def qErr (e : Nat) (s : State) : State := setF F.TQ_QSTAT.ERR 0 e (setF F.TQ_QSTAT.BUSY 0 0 s)

/-- TQ_QCMD_CREATE (R284, R286, R293). -/
def queueCreate (q : Nat) (s : State) : State :=
  let d : TQueue := { desc := qdRegs s }
  let e := createErr s (queueAt s q) d
  if e = 0 then qErr 0 (setQueue q { d with st := 1, last := 0 } s) else qErr e s

def execTqQcmdCreate (q : QueueId) (s : State) : Result := .next (onlyIf (barOpen s) (queueCreate q) s)

/-- TQ_QCMD_READ (R350): the descriptor in TQ_QD and the state in TQ_QSTAT. -/
def queueRead (q : Nat) (s : State) : State :=
  let x := queueAt s q
  let s1 := (List.range 16).foldl (fun u j => setReg .TQ_QD j (BitVec.ofNat 32 (x.word j 0 32)) u) s
  qErr 0 (setF F.TQ_QSTAT.STATE 0 x.st s1)

def execTqQcmdRead (q : QueueId) (s : State) : Result := .next (onlyIf (barOpen s) (queueRead q) s)

/-- TQ_QCMD_START (R287). -/
def queueStart (q : Nat) (s : State) : State :=
  let x := queueAt s q
  if x.st ≠ 1 then qErr 2 s
  else
    let s1 := setQueue q { x with st := 2 } s
    qErr 0 (if 64 < x.tails.length then doorbellOverflow q s1 else startFetch q s1)

def execTqQcmdStart (q : QueueId) (s : State) : Result := .next (onlyIf (barOpen s) (queueStart q) s)

/-- TQ_QCMD_STOP (R287): no further batch is accepted. -/
def queueStop (q : Nat) (s : State) : State :=
  let x := queueAt s q
  if x.st ≠ 2 then qErr 2 s
  else
    let s1 := dropFetch q (setQueue q { x with st := 4 } s)
    qErr 0 (unhold (afterBatch q 0 s1))

def execTqQcmdStop (q : QueueId) (s : State) : Result := .next (onlyIf (barOpen s) (queueStop q) s)

/-- TQ_QCMD_ABORT (R334). -/
def queueAbort (q : Nat) (s : State) : State :=
  let st := (queueAt s q).st
  if st = 2 ∨ st = 3 ∨ st = 4 then qErr 0 (abortQueue q 0 s) else qErr 2 s

def execTqQcmdAbort (q : QueueId) (s : State) : Result := .next (onlyIf (barOpen s) (queueAbort q) s)

/-- Releases a queue's descriptor and the records of it that wait for the host (R287, R813). -/
def destroyQueue (q : Nat) (s : State) : State :=
  let s1 := setQueue q {} (dropFetch q s)
  let keep := fun (r : HostReq) => match r with | .record (some p) _ _ _ _ => p != q | _ => true
  { s1 with
    pci := { s1.pci with held := s1.pci.held.filter keep }
    qos := { s1.qos with host := s1.qos.host.filter (fun w => keep w.req) } }

/-- TQ_QCMD_RESUME (R287). -/
def execTqQcmdResume (q : QueueId) (s : State) : Result :=
  .next (onlyIf (barOpen s) (fun t => if (queueAt t q).st = 3 then qErr 0 (resumeQueue q t) else qErr 2 t) s)

/-- TQ_CNTCLR (R350). -/
def execTqCntclr (s : State) : Result :=
  .next (onlyIf (barOpen s) (clearRegs [.TQ_REFUSED, .TQ_DBOVF, .TQ_ACCEPTED_LO, .TQ_ACCEPTED_HI]) s)

/-- COUNTER_HOST_WRITE (R309, R350): the write at _HI is one update; the _LO half was held for it (R14). -/
def execCounterHostWrite (i : BitVec 16) (hi : BitVec 32) (s : State) : Result :=
  .next (onlyIf (barOpen s) (fun t =>
    let k := regKey .TQ_CNT_LO i.toNat
    let lo := (mapGet t.pci.loHeld k (getReg t .TQ_CNT_LO i.toNat)).toNat
    let t1 := { t with pci := { t.pci with loHeld := mapDel t.pci.loHeld k } }
    counterSet i.toNat (lo + hi.toNat * 2 ^ 32) t1) s)

end Sys2Proof.Machine
end

