-- ==== Sys2Proof/Machine/TideRun.lean ====
section
/-! DEFINITION. Running accepted batches (R280-R282, R299-R312, R335-R340, R469-R472): the sequencer and its control
commands, the turns of an engine, dispatch, and the COMMIT and CKPT pair. -/

namespace Sys2Proof.Machine

/-! ### The sequencer (R299-R312, R335, R464) -/

/-- Every earlier command of a queue has completed (R295 ORDER, R311). -/
def TQueue.idle (x : TQueue) : Bool := x.batches.all (fun b => b.insts.isEmpty)

/-- The batch whose next command the sequencer may execute now: not while it holds 48 live progress entries (R464), a
WAIT (R305) or a FENCE (R311), and with ORDER or a FENCE only when all earlier commands have completed. -/
def TQueue.next (x : TQueue) : Option Batch :=
  match x.running with
  | none => none
  | some b =>
    let c := wordAt b.words b.seq.pos
    if b.waiting || b.fencing || decide (48 ≤ x.progress) || ((cOrder c || cOp c == 9) && !x.idle) then none else some b

/-- Executes the next command of a queue's sequencer if it has the OP named. -/
def seqStep (op q : Nat) (f : TQueue → Batch → Cmd → State → State) (s : State) : State :=
  let x := queueAt s q
  if !frameRuns s then s
  else
    match x.next with
    | none => s
    | some b => if cOp (wordAt b.words b.seq.pos) = op then f x b (wordAt b.words b.seq.pos) s else s

/-- A control command completes: its SIGNAL, then the sequencer at `pos` with the change `g` (R295, R471). -/
def seqDone (q : Nat) (x : TQueue) (b : Batch) (pos : Nat) (g : Snap → Snap) (s : State) : State :=
  let s1 := settle q (modBatch q b.first (fun c => Batch.goto { c with seq := g c.seq } pos) s)
  match signalOf x b with
  | some i => counterAdd i 1 s1
  | none => s1

/-- Gives index register n a value (R299). -/
def Snap.setReg (n v : Nat) (p : Snap) : Snap := { p with iregs := p.iregs.set n (v % 2 ^ 32) }

def execTideNop (q : QueueId) (s : State) : Result :=
  .next (seqStep 0x00 q (fun x b _ => seqDone q x b (b.seq.pos + 1) id) s)

/-- TIDE_JUMP (R301). -/
def execTideJump (q : QueueId) (s : State) : Result :=
  .next (seqStep 0x01 q (fun x b _ => seqDone q x b (target b.words b.seq.pos).toNat id) s)

/-- TIDE_BRC (R301, R470, R496): the recorded outcome where there is one, else the comparison, which is recorded. -/
def branchOn (q : Nat) (x : TQueue) (b : Batch) (c : Cmd) (s : State) : State :=
  let go := fun (taken : Bool) =>
    seqDone q x b (if taken then (target b.words b.seq.pos).toNat else b.seq.pos + 1) id
  match mapFind b.outcomes b.seq.dseq with
  | some t => go t s
  | none =>
    let t := condHolds (cCond c) (counterAt s (x.cbase + cCounter c)) (cValue c)
    go t (modBatch q b.first (fun d => { d with outcomes := mapIns d.outcomes b.seq.dseq t }) (jOutcome q b t s))

def execTideBrc (q : QueueId) (s : State) : Result := .next (seqStep 0x02 q (branchOn q) s)

/-- TIDE_LOOP (R302). -/
def execTideLoop (q : QueueId) (s : State) : Result :=
  .next (seqStep 0x03 q (fun x b c =>
    let v := (b.seq.reg (cIreg c) + 1) % 2 ^ 32
    seqDone q x b (if v < cImm c then (target b.words b.seq.pos).toNat else b.seq.pos + 1) (Snap.setReg (cIreg c) v)) s)

/-- TIDE_SETI (R300). -/
def execTideSeti (q : QueueId) (s : State) : Result :=
  .next (seqStep 0x04 q (fun x b c => seqDone q x b (b.seq.pos + 1) (Snap.setReg (cIreg c) (cImm c))) s)

/-- TIDE_ADDI (R300). -/
def execTideAddi (q : QueueId) (s : State) : Result :=
  .next (seqStep 0x05 q (fun x b c =>
    seqDone q x b (b.seq.pos + 1) (Snap.setReg (cIreg c) (b.seq.reg (cIreg c) + cImm c))) s)

/-- The WAIT at which a batch's sequencer stands ends with an error: COMMIT, the batch ends (R307, R340, R471). -/
def waitEnd (q st : Nat) (b : Batch) (s : State) : State :=
  let s1 := if (mapFind b.outcomes b.seq.dseq).isSome then s else jOutcome q b true s
  let s2 := modBatch q b.first (fun c => { c with
    waiting := false
    outcomes := mapIns c.outcomes b.seq.dseq true }) s1
  failDispatch q b st s2

/-- The instance at which the sequencer stands has its own COMMIT entry, or a COLL_COMMIT whose outputs it completes: after a
warm reset it is skipped (R493, R496). -/
def Batch.committedHere (b : Batch) : Bool :=
  b.commits.any (fun c => c.1 == b.seq.dseq) || b.insts.any (fun i => i.dseq == b.seq.dseq)

/-- Passes over an instance that has committed (R496); one that committed with an error ends its batch again (R340). -/
def passOver (q : Nat) (b : Batch) (s : State) : State :=
  let st := match b.commits.find? (fun c => c.1 == b.seq.dseq) with | some c => c.2.2.1 | none => Status.OK
  settle q (modBatch q b.first (fun c =>
    if endsBatch st then Batch.fail { c with seq := { c.seq with dseq := c.seq.dseq + 1, pos := b.seq.pos + 1 } } st
    else Batch.goto c (b.seq.pos + 1)) s)

/-- TIDE_WAIT (R305, R306, R496): it completes at once, by its recorded outcome, or is held. -/
def waitOn (q : Nat) (_ : TQueue) (b : Batch) (_ : Cmd) (s : State) : State :=
  if b.committedHere then passOver q b s
  else if b.lost.contains b.seq.pos then waitEnd q Status.TQ_COMPUTE b s
  else
  match mapFind b.outcomes b.seq.dseq with
  | some true => waitEnd q Status.TQ_WAITTMO b s
  | some false => seqDone q (queueAt s q) b (b.seq.pos + 1) id s
  | none =>
    match waitTry q (modBatch q b.first (fun c => { c with waiting := true }) s) with
    | (some i, s1) => counterAdd i 1 s1
    | (none, s1) => s1

def execTideWait (q : QueueId) (s : State) : Result := .next (seqStep 0x06 q (waitOn q) s)

/-- WAIT_TIMEOUT (R307): the limit of a held WAIT elapses. -/
def waitTimeout (q : Nat) (s : State) : State :=
  match (queueAt s q).running with
  | some b => if b.waiting then waitEnd q Status.TQ_WAITTMO b s else s
  | none => s

def execWaitTimeout (q : QueueId) (s : State) : Result := .next (onlyIf (frameRuns s) (waitTimeout q) s)

/-- TIDE_MARK (R312). -/
def execTideMark (q : QueueId) (s : State) : Result :=
  .next (seqStep 0x0A q (fun x b c =>
    let m := (x.mark &&& (2 ^ 16 - 1 - x.markMask)) ||| (cBits c &&& x.markMask)
    seqDone q x b (b.seq.pos + 1) (fun p => { p with mark := m })) s)

/-- TIDE_OPND (R322): it completes with the command it serves. -/
def execTideOpnd (q : QueueId) (s : State) : Result :=
  .next (seqStep 0x0C q (fun _ b _ t =>
    settle q (modBatch q b.first (fun c => Batch.goto c (b.seq.pos + 1)) t)) s)

/-- Warms one page of a shared-table context, or requests its translation (R274). -/
def advisePage (q e asid acc : Nat) (s : State) (pg : Nat) : State :=
  let h := engineHalf e
  let ask := fun (u : State) =>
    if u.xlt.waits.any (fun w => w.asid == asid && w.page == pg && grants w.acc acc && w.what != .nobody) then u
    else atsRequest .advise q e asid pg acc (acc == 1) (0, 0) (bump F.XLT_L2MISS.COUNT 0 u)
  match lruFind asid (16 + pg) (mapGet s.xlt.l2 h []) with
  | some x => if (x.page.map (fun p => grants p.perms acc)).getD true then fillL2 h x s else ask s
  | none => ask s

/-- ADVISE (R274, R333): the translations of its range in the second-level cache; it never faults. -/
def advise (q e asid va bytes acc : Nat) (s : State) : State :=
  let c := ctxAt s asid
  if !c.bound then s
  else if c.shared then
    ((List.range ((va + bytes - 1) / 2 ^ 30 - va / 2 ^ 30 + 1)).map (fun k => va / 2 ^ 30 + k)).foldl
      (advisePage q e asid acc) s
  else
    ((List.range 16).filter (fun n =>
      let g := segAt s asid n
      g.valid && decide (g.start < va + bytes ∧ va < g.start + g.len))).foldl (fun u n => segL2 (engineHalf e) asid n u) s

def execTideAdvise (q : QueueId) (s : State) : Result :=
  .next (seqStep 0x0B q (fun x b c t =>
    seqDone q x b (b.seq.pos + 1) id (advise q x.eng x.asid (cVa c) (cSectors c * 64) (cAccess c) t)) s)

/-! ### Dispatch (R255, R280, R281, R314, R315, R336, R338) -/

/-- An instance dispatched at `k` is the completing one: every LOOP around it falls through next (R338; R304 keeps the
index registers of those LOOPs unchanged until then). -/
def lastAt (b : Batch) (k : Nat) : Bool :=
  (loopsAround b.words k).all (fun j =>
    let c := wordAt b.words j
    decide (cImm c ≤ (b.seq.reg (cIreg c) + 1) % 2 ^ 32))

/-- Dispatches the command at which the sequencer stands as instance `i`. -/
def dispatch (q : Nat) (b : Batch) (i : Inst) (s : State) : State :=
  modBatch q b.first (fun c => Batch.goto { c with insts := c.insts ++ [i] } (b.seq.pos + 1)) s

/-- A fresh instance of the command at which the sequencer stands. -/
def newInst (b : Batch) (opnds : List Opnd) : Inst :=
  { idx := b.seq.pos, dseq := b.seq.dseq, op := cOp (wordAt b.words b.seq.pos), last := lastAt b b.seq.pos
    snap := b.seq, opnds := opnds }

/-- CSET and CADD (R308): they commit without an engine; the update is staged. -/
def counterCmd (q : Nat) (_ : TQueue) (b : Batch) (_ : Cmd) (s : State) : State :=
  if b.committedHere then passOver q b s else dispatch q b { newInst b [] with result := some Status.OK } s

def execTideCset (q : QueueId) (s : State) : Result := .next (seqStep 0x07 q (counterCmd q) s)

def execTideCadd (q : QueueId) (s : State) : Result := .next (seqStep 0x08 q (counterCmd q) s)

/-- An engine injects an urgent flit: through its cluster's injector, one source under its cap (R90, R679). -/
def engineUrgent (e : Nat) (f : Flit) (s : State) : State :=
  let p := enginePort (4 * engineCluster e)
  injectUrgent (Fin.ofNat 1536 p.1) (Fin.ofNat 8 p.2) f s

/-- The urgent FENCE flit to tile control of the tiles in the smallest rectangle around some tiles; its payload holds the
fence identifier and the ASID (R81, R83, R311; log entry 117). -/
def fenceFlit (id asid mark : Nat) (tiles : List Nat) : Flit :=
  let least := fun (l : List Nat) => l.foldl Nat.min (l.headD 0)
  let most := fun (l : List Nat) => l.foldl Nat.max 0
  let xs := tiles.map tileX
  let ys := tiles.map tileY
  { hdr := BitVec.ofNat 128 (9 * 2 ^ 2 + 1 * 2 ^ 6 + mark % 2 ^ 16 * 2 ^ 23 + 3 * 2 ^ 49 + least xs * 2 ^ 55 + least ys * 2 ^ 61
      + most xs * 2 ^ 66 + most ys * 2 ^ 72)
    pay := BitVec.ofNat 512 (id % 2 ^ 32 + asid % 2 ^ 16 * 2 ^ 32), tally := 0, crc := 0 }

/-- TIDE_FENCE (R311): with SCOPE 1, an urgent FENCE flit to every tile that runs a kernel of the queue's ASID and mark. -/
def fenceOn (q : Nat) (x : TQueue) (b : Batch) (c : Cmd) (s : State) : State :=
  let tiles := ((s.bead.cores.filter (fun (e : Nat × Core) =>
    e.2.job.isSome && e.2.asid == x.asid && e.2.mark == b.seq.mark)).map (fun (e : Nat × Core) => e.1 / 2)).eraseDups
  if cScope c = 0 ∨ tiles = [] then seqDone q x b (b.seq.pos + 1) id s
  else
    let n := s.bead.fenceNext
    let s1 := modBatch q b.first (fun d => { d with fencing := true, fence := tiles, fenceId := n }) s
    engineUrgent x.eng (fenceFlit n x.asid b.seq.mark tiles)
      { s1 with bead := { s1.bead with fenceNext := (n + 1) % 2 ^ 32 } }

def execTideFence (q : QueueId) (s : State) : Result := .next (seqStep 0x09 q (fenceOn q) s)

/-- TILE_FENCE_REPORT (R311): tile t's report on its FENCE arrives at the engine of a queue. -/
def fenceReport (q t : Nat) (s : State) : State :=
  let x := queueAt s q
  match x.running with
  | none => s
  | some b =>
    if b.fencing && b.fence.contains t && s.bead.reports.contains (t, b.fenceId) then
      let left := b.fence.filter (fun u => u != t)
      let s1 := modBatch q b.first (fun d => { d with fence := left, fencing := left ≠ [] })
        { s with bead := { s.bead with reports := s.bead.reports.erase (t, b.fenceId) } }
      if left = [] then seqDone q x b (b.seq.pos + 1) id s1 else s1
    else s

def execTileFenceReport (q : QueueId) (t : TileId) (s : State) : Result :=
  .next (onlyIf (frameRuns s) (fenceReport q t) s)

/-! ### Turns of an engine (R280, R281, R336) -/

/-- Instances that occupy an engine: every command but CSET and CADD. -/
def Inst.data (i : Inst) : Bool := !isControl i.op

/-- Commands of a queue dispatched and not yet completed (R336). -/
def TQueue.inflight (x : TQueue) : Nat := (x.batches.map (fun b => (b.insts.filter Inst.data).length)).sum

/-- Pieces of ganged commands that engine e serves (R282). -/
def piecesOf (s : State) (e : Nat) : Nat :=
  (s.tq.queues.map (fun (q : Nat × TQueue) => (q.2.batches.map (fun b => (b.insts.map (fun i =>
    (i.xfer.dealt.filter (fun (d : Nat × Nat) => d.2 == e)).length)).sum)).sum)).sum

/-- Commands and pieces that engine e has in flight (TQ_ENGSTAT.INFLIGHT). -/
def engineLoad (s : State) (e : Nat) : Nat :=
  piecesOf s e + (s.tq.queues.map (fun (q : Nat × TQueue) => if q.2.st != 0 && q.2.eng == e then
    (q.2.batches.map (fun b => (b.insts.filter (fun i => i.data && i.phase == .run && i.xfer.pieces == 1)).length)).sum
    else 0)).sum

/-- Queues bound to engine e (TQ_ENGSTAT.QUEUES). -/
def engineQueues (s : State) (e : Nat) : List Nat :=
  (s.tq.queues.filter (fun (q : Nat × TQueue) => q.2.st != 0 && q.2.eng == e)).map (fun (q : Nat × TQueue) => q.1)

/-- Staging buffer n of 256 KiB in the runtime-state area is used by no live launch (R141, R329; log entry 61). -/
def stageFree (s : State) (n : Nat) : Bool :=
  let base := 0xBD400000 + n * 0x40000
  !s.tq.queues.any (fun (q : Nat × TQueue) => q.2.batches.any (fun b => b.insts.any (fun i =>
    match i.launch with
    | some l => l.stages.any (fun (p : Nat × Nat) => decide (base ≤ p.2 ∧ p.2 < base + 0x40000))
    | none => false)))

/-- A KCALL with IDEM 0 names a writable operand: it needs a staging buffer (R329). -/
def wantsStage (b : Batch) (k : Nat) : Bool :=
  let c := wordAt b.words k
  cOp c == 0x21 && !cIdem c && (opndRun b.words k).any (fun j => (cPerm (wordAt b.words j)).testBit 1)

/-- The OP that a queue has ready for its engine: its sequencer stands at an engine command and DEPTH allows it; a KCALL that
needs a staging buffer while none is free cannot be dispatched and takes no turn (R280; log entry 61). -/
def readyOp (s : State) (q : Nat) : Option Nat :=
  let x := queueAt s q
  match x.next with
  | none => none
  | some b =>
    let op := cOp (wordAt b.words b.seq.pos)
    if isControl op || decide (x.depth + 1 ≤ x.inflight)
        || (wantsStage b b.seq.pos && !(List.range 64).any (stageFree s)) then none else some op

/-- The queue whose turn it is at engine e: weighted round robin over its queues with a foreground command ready, else
over those with a PREFETCH (R280, R281). -/
def turnOf (s : State) (e : Nat) : Option Nat :=
  let qs := (engineQueues s e)
  let fg := qs.filter (fun q => match readyOp s q with | some op => op != 0x11 | none => false)
  let l := if fg = [] then qs.filter (fun q => readyOp s q == some 0x11) else fg
  let (cur, left) := mapGet s.tq.turn e (0, 0)
  if left != 0 && l.contains cur then some cur
  else match l.find? (fun q => decide (cur < q)) with
    | some q => some q
    | none => l.head?

/-- Uses up a turn of queue q at engine e. -/
def takeTurn (e q : Nat) (s : State) : State :=
  let (cur, left) := mapGet s.tq.turn e (0, 0)
  let n := if cur = q ∧ left ≠ 0 then left else (queueAt s q).weight
  { s with tq := { s.tq with turn := mapSet s.tq.turn e (0, 0) (q, n - 1) } }

/-- The address operands that a command dispatches with: those of its OPNDs, numbered from 16, then its own (R256). -/
def cmdOpnds (b : Batch) (k : Nat) : List Opnd :=
  ((opndRun b.words k).flatMap (fun j => ((b.cmds[j]?).map (fun c => c.opnds)).getD [] |>.map (fun o =>
      { o with num := 16 + cRole (wordAt b.words j) })))
    ++ ((b.cmds[k]?).map (fun c => c.opnds)).getD []

/-- What a re-translation at dispatch gives: the operands, a failure after some were translated again, or a page that the host
must translate or that lacks access. -/
inductive ReOp where
  | ok (l : List Opnd)
  | gone (done : Nat)
  | need (pg acc : Nat)
  | lacks (pg acc : Nat)
  deriving DecidableEq, Repr

/-- The operands that a dispatch must translate again (R255). -/
def staleOpnds (s : State) (asid : Nat) (l : List Opnd) : List Opnd := l.filter (fun o => o.gen != (ctxAt s asid).gen)

/-- Translates again every operand of an older generation (R255); what a command may name holds of the new extents as well
(R317, R371, R427). `acc` holds the operands done, `n` those translated again. -/
def reTranslate (op e asid : Nat) (got : List Got) : List Opnd → List Opnd → Nat → State → ReOp × State
  | [], acc, _, s => (.ok acc, s)
  | o :: rest, acc, n, s =>
    let g := (ctxAt s asid).gen
    if o.gen = g then reTranslate op e asid got rest (acc ++ [o]) n s
    else
      match xlate e asid o.va o.bytes o.acc got s with
      | (.err _, s1) => (.gone n, s1)
      | (.need pg, s1) => (.need pg o.acc, s1)
      | (.lacks pg, s1) => (.lacks pg o.acc, s1)
      | (.ok xs, s1) =>
        if extentsErr s1 op (decide (16 ≤ o.num)) o.num xs != 0 then (.gone n, s1)
        else reTranslate op e asid got rest (acc ++ [{ o with gen := g, exts := xs }]) (n + 1) s1

/-- No Write for a page of a command that is translated again (R239). -/
def redoNoWrite (l : List Opnd) (pg : Nat) : Bool := !(l.any (fun o => writesPage pg (o.num, o.va, o.bytes, o.acc)))

/-- A command leaves its queue's turn: what was obtained for it is used up, and the operands translated again are counted. -/
def useTurn (e q n : Nat) (s : State) : State :=
  bumpBy F.XLT_RETRANS.COUNT 0 n (takeTurn e q (setQueue q { queueAt s q with regot := [] } s))

/-- A dispatch at engine e of the OP named: the queue in turn, its operands, then `f`; XLT_GONE where a re-translation
fails, and no dispatch while one waits for the host (R255). -/
def engineStep (op e : Nat) (f : Nat → TQueue → Batch → Cmd → List Opnd → State → State) (s : State) : State :=
  if !frameRuns s || decide (16 ≤ engineLoad s e) then s
  else
    match turnOf s e with
    | none => s
    | some q =>
      let x := queueAt s q
      match x.next with
      | none => s
      | some b =>
        let c := wordAt b.words b.seq.pos
        if cOp c ≠ op then s
        else if b.committedHere then passOver q b s
        else if s.xlt.waits.any (fun w => w.what == .redo && w.queue == q) then s
        else
          let job := (b.first, b.seq.dseq)
          let l0 := cmdOpnds b b.seq.pos
          let got := x.regot.filter (fun g => g.job == job)
          match reTranslate op e x.asid got l0 [] 0 s with
          | (.gone n, s1) => failDispatch q b Status.XLT_GONE (useTurn e q n s1)
          | (.need pg acc, s1) => atsRequest .redo q e x.asid pg acc (redoNoWrite l0 pg) job s1
          | (.lacks pg acc, s1) =>
            (match lackCode s1 x.asid (got.any (fun g => g.page == pg && g.again)) with
              | some _ => failDispatch q b Status.XLT_GONE (useTurn e q 0 s1)
              | none => sendPri (newWait .redo q e x.asid pg acc (redoNoWrite l0 pg) job s1) s1)
          | (.ok l, s1) => f q x b c l (useTurn e q (staleOpnds s x.asid l0).length s1)

/-- The step of a command at its dispatch (R314). -/
def stepOf (b : Batch) (c : Cmd) : Nat := b.seq.reg (cIdx c)

/-- A stepped command dispatched with i > REPM1 completes with TQ_INDEX (R315). -/
def indexBad (b : Batch) (c : Cmd) : Bool := (cSstep c || cDstep c) && decide (cRep c < stepOf b c)

/-! ### COMMIT and CKPT (R458, R469, R472) -/

/-- The restart point of a batch: the sequencer at the dispatch of its oldest instance without a COMMIT entry, or as it
is (R472). -/
def Batch.restart (b : Batch) : Snap :=
  match (b.insts.filter (fun i => i.phase == .run)).map (fun i => i.snap) with
  | [] => b.seq
  | p :: rest => rest.foldl (fun m n => if n.dseq < m.dseq then n else m) p

/-- A CKPT entry (R458, R472). -/
def jCkpt (q : Nat) (b : Batch) (p : Snap) (s : State) : State :=
  jAppend q 0x07 0 0
    ([(12, 4, p.dseq), (16, 2, p.pos), (18, 2, p.mark), (52, 8, b.first)]
      ++ (List.range 8).map (fun i => (20 + 4 * i, 4, p.reg i))) s

/-- The COMMIT and CKPT pair of an instance: it is STAGED (R469). -/
def stageInst (q first dseq st : Nat) (s : State) : State :=
  match instAt s q first dseq with
  | none => s
  | some (b, i) =>
    let last := b.completing i st
    let s1 := jCommit q b i.idx dseq st last s
    let lsn := jHead s1 - 1
    let s2 := modBatch q first (fun c => Batch.setInst { c with
      commits := c.commits ++ [(dseq, i.idx, st, last, lsn)] }
      { i with phase := .staged, result := some st, last := last }) s1
    match (queueAt s2 q).batches.find? (fun c => c.first == first) with
    | none => s2
    | some c =>
      let p := c.restart
      let s3 := jCkpt q c p s2
      let at_ := jHead s3 - 1
      modBatch q first (fun d =>
        { d with
          ckpt := p, ckptLsn := at_ + 1
          insts := d.insts.map (fun j => if j.dseq = dseq then { j with lsn := at_ } else j) }) s3

/-- The instance of queue q that an ASN and DSEQ name. -/
def instOf (s : State) (q asn dseq : Nat) : Option (Batch × Inst) :=
  match (queueAt s q).batchOf asn with
  | none => none
  | some b => match b.insts.find? (fun i => i.dseq == dseq) with
    | none => none
    | some i => some (b, i)

/-! ### DISPATCH entries (R458, R473, R497) -/

/-- What a DISPATCH entry of a batch records for a DSEQ. -/
def Batch.disp (b : Batch) (dseq : Nat) : Option DispRec := b.disps.find? (fun d => d.dseq == dseq)

/-- Appends a DISPATCH entry and keeps what it records. -/
def jDispatch (q : Nat) (b : Batch) (k : Nat) (d : DispRec) (s : State) : State :=
  let s1 := jAppend q 0x04 0 0 [(12, 8, b.first + k), (20, 4, d.dseq), (24, 16, d.seed.toNat), (40, 4, d.params.toNat),
    (44, 8, d.psn), (52, 4, d.count), (56, 1, d.die)] s
  modBatch q b.first (fun c => { c with disps := c.disps ++ [{ d with lsn := jHead s1 - 1 }] }) s1

/-- The DISPATCH entry of an instance is durable (R473). -/
def dispDurable (s : State) (b : Batch) (dseq : Nat) : Bool :=
  match b.disp dseq with
  | some d => durable s d.lsn
  | none => false

end Sys2Proof.Machine
end

