-- ==== Sys2Proof/Machine/Access.lean ====
section
/-! DEFINITION. Accesses of the engines to memory (R120, R231-R271, R414-R422, R878): one sector of an operand at a time,
in the Reef, in LPDDR or in host memory, with the tally checks and digests of the engine's read and write sides. -/

namespace Sys2Proof.Machine

/-- The modulus 2^61 - 1 of digests (R419). -/
def p61 : Nat := 2 ^ 61 - 1

/-- x^n modulo 2^61 - 1, by squaring over the bits of n. -/
def powMod61 (x : Nat) : Nat → Nat → Nat
  | 0, _ => 1
  | fuel + 1, n =>
    if n = 0 then 1
    else
      let h := powMod61 (x * x % p61) fuel (n / 2)
      if n % 2 = 1 then h * x % p61 else h

/-- The digest state h advanced over the sixteen words of a sector at point p (R396, R419). -/
def digestSector (p h : Nat) (d : Sector) : Nat :=
  (List.range 16).foldl (fun a j => (a + secField d (4 * j) 4) * p % p61) h

/-- The digest of two sequences in order, the second of n words (R419). -/
def digestJoin (p x y n : Nat) : Nat := (x * powMod61 p 64 n + y) % p61

/-- What a transfer has met so far: the running digests of its two sides, the first error, poison. -/
structure Mv where
  hs : Nat := 0
  hd : Nat := 0
  err : Nat := 0
  poison : Bool := false
  deriving DecidableEq, Repr

/-- The engine's read side takes a sector from the Reef or LPDDR: READ_DATA whose tally does not match, poisoned or not,
counts as poisoned (R414, R415). The tally that goes on with it is that of its data, so that it is carried as poisoned and
not refused (R416). -/
def engRead (x : Extent) (mark inst asid : Nat) (s : State) : Except Nat (Sector × BitVec 32 × Bool) × State :=
  match placeOf x 1 s with
  | (none, s1) => (.error Status.XLT_REMOTE, post { code := Ev.XLT_INBOUND, asid := asid, mark := mark, d1 := x.addr } s1)
  | (some p, s1) =>
    match locRead p.addr p.keysel mark asid s1 with
    | (.error st, s2) => (.error st, s2)
    | (.ok (d, t, ps), s2) =>
      if tallyOk d t then (.ok (d, t, ps), s2)
      else (.ok (d, tallyOf d, true), post { code := Ev.TLY_TALLY, asid := asid, mark := mark, inst := inst, d1 := p.addr }
        (bump F.TLY_TALLYERR.COUNT 0 s2))

/-- The host port sends a sector to host memory as command data (R638, R649): a tally mismatch is counted and marks the TLP as
poisoned (R414, R415). -/
def hostWrite (x : Extent) (share mark asid : Nat) (d : Sector) (t : BitVec 32) (poison : Bool) (s : State) : State :=
  let bad := !tallyOk d t
  hostDma share mark (.data (requester s asid) (BitVec.ofNat 64 x.addr) 64 d (poison || bad) (flag s F.PCI_CTL.RO_DATA) x.xlat)
    (if bad then bump F.TLY_TALLYERR.COUNT 0 s else s)

/-- The engine's write side places a sector in a WRITE flit, with the tally check of R414 first, or hands it to the host
port. -/
def engWrite (x : Extent) (share mark asid : Nat) (d : Sector) (t : BitVec 32) (poison : Bool) (s : State) : Nat × State :=
  if x.host then (0, hostWrite x share mark asid d t poison s)
  else if !tallyOk d t then (Status.TQ_DIGEST, bump F.TLY_TALLYERR.COUNT 0 s)
  else
    match placeOf x 2 s with
    | (none, s1) => (Status.XLT_REMOTE, post { code := Ev.XLT_INBOUND, asid := asid, mark := mark, d1 := x.addr } s1)
    | (some p, s1) =>
      let (st, s2) := locWrite p.addr p.keysel mark d t poison s1
      (if st = Status.TLY_MISMATCH then Status.TQ_DIGEST else st, s2)

/-- Sends the reads of host memory for `left` sectors of an operand from sector k on: naturally aligned pieces of at
most 64 sectors (R626, R641). -/
def hostReads : Nat → Nat → Nat → Nat → Nat → Nat → List Extent → Nat → Nat → Nat → State → State
  | 0, _, _, _, _, _, _, _, _, _, s => s
  | fuel + 1, q, mark, asn, dseq, asid, exts, off, k, left, s =>
    if left = 0 then s
    else
      match extAt exts (off + k) with
      | none => s
      | some x =>
        let n := min left (64 - x.addr / 64 % 64)
        let t := s.pci.nextTag
        let s1 := { s with
          pci := { s.pci with nextTag := t + 1 }
          tq := { s.tq with reads := mapIns s.tq.reads t (.data q asn dseq k n) } }
        hostReads fuel q mark asn dseq asid exts off (k + n) (left - n)
          (hostDma (queueAt s q).share mark (.read t (requester s asid) (BitVec.ofNat 64 x.addr) (64 * n) x.xlat) s1)

/-! ### What an access waits for (R114, R115, R158, R183, R192, R205) -/

/-- A request from tile t to tile u, as far as its route is concerned. -/
def routeFlit (u : Nat) : Flit := { hdr := unicastHdr { vc := 2, op := 0, dst := u, dstAgent := 2, tag := 0 }, pay := 0, tally := 0, crc := 0 }

/-- The gated coves on the way from tile t to tile u and back, as a bit mask (R114). -/
def gatedBetween (s : State) (t u : Nat) : Nat := gatedOnRoute s t (routeFlit u) ||| gatedOnRoute s u (routeFlit t)

/-- What an access to a die-local address waits for: gated coves on its way (R115), and a row in remap (R158), an LPDDR
request before it for the same stripe (R183), a zero fill (R192) or a channel in a pause (R205). It comes from the tile that
`home` gives for the tile it goes to. -/
def addrWait (s : State) (home : Nat → Nat) (addr : Nat) : Nat × Bool :=
  if isLpddr addr then
    let d := addr - lpBase
    let u := (memHome (ctrlOf (lpChan d)) (home 0)).1
    (gatedBetween s (home u) u, !lpFree s d)
  else
    match reefPlace addr with
    | none => (0, false)
    | some r => (gatedBetween s (home r.tile) r.tile, rowHeld s r.tile r.so)

/-- What engine e's access to a sector waits for. -/
def sectorWait (s : State) (e acc : Nat) (x : Extent) : Nat × Bool :=
  if x.host || isRemote s x then (0, false)
  else
    match (placeOf x acc s).1 with
    | none => (0, false)
    | some p => addrWait s (fun _ => (enginePort e).1) p.addr

/-- The gated coves that accesses of engine e to some sectors wait for; none where every access may be made now. -/
def engineWait (s : State) (e : Nat) (xs : List (Nat × Extent)) : Option Nat :=
  let ws := xs.map (fun p => sectorWait s e p.1 p.2)
  if ws.all (fun w => w.1 == 0 && !w.2) then none else some (ws.foldl (fun m w => m ||| w.1) 0)

/-- Engine e makes its accesses (access 1 R, 2 W) with `f` once none of them waits; until then it asks for the coves to wake
and goes no further (R114, R115). -/
def whenReached (e : Nat) (xs : List (Nat × Extent)) (f : State → State) (s : State) : State :=
  match engineWait s e xs with
  | none => f s
  | some m => askWake m s

end Sys2Proof.Machine
end

