-- ==== Sys2Proof/Machine/Ferry.lean ====
section
/-! DEFINITION. The Ferry engines (R282, R313-R318, R420-R422, R671, R672, R878): COPY, PREFETCH and FILL, their pieces,
and what a finished transfer leaves. A piece moves its data in one step, when it completes (log entry 60). -/

namespace Sys2Proof.Machine

/-- Sectors of a piece (R282). -/
def pieceSectors : Nat := 16384

/-- The pattern of a FILL as a sector (R313). -/
def fillSector (c : Cmd) : Sector := BitVec.ofNat 512 ((List.range 8).map (fun j => cDst c * 2 ^ (64 * j))).sum

/-- PREFETCH pieces in flight across the die (R672). -/
def prefetchPieces (s : State) : Nat :=
  (s.tq.queues.map (fun (q : Nat × TQueue) => (q.2.batches.map (fun b => (b.insts.map (fun i =>
    if i.op = 0x11 && i.phase == .run then (if i.xfer.pieces = 1 then 1 else i.xfer.dealt.length) else 0)).sum)).sum)).sum

/-- A PREFETCH piece may start: backpressure holds more than BGMAX of them back (R672). -/
def prefetchOpen (s : State) : Bool := !s.qos.paced || decide (prefetchPieces s < getF s F.QOS_PACE.BGMAX)

/-- The Ferry engine with the least in flight, if one has free capacity (R282). -/
def freeEngine (s : State) : Option Nat :=
  (List.range 32).foldl (fun best e =>
    if 16 ≤ engineLoad s e then best
    else match best with
      | none => some e
      | some b => if engineLoad s e < engineLoad s b then some e else best) none

/-- The source sector at position k: read from local memory, delivered by the host or another die, or the pattern of a FILL. -/
def ferrySource (q : TQueue) (c : Cmd) (i : Inst) (k : Nat) (s : State) :
    Except Nat (Sector × BitVec 32 × Bool) × State :=
  if cOp c = 0x12 then (.ok (fillSector c, tallyOf (fillSector c), false), s)
  else
    match i.sector 0 (srcOff c i + k) with
    | none => (.error Status.XLT_GONE, s)
    | some x =>
      if x.host || isRemote s x then
        match mapFind i.xfer.buf k with
        | some (d, p) => (.ok (d, tallyOf d, p), s)
        | none => (.error Status.XLT_HOST, s)
      else engRead x i.snap.mark q.eng q.asid s

/-- Moves the sector at position k; `noise` is damage in the engine's buffers (log entry 60). -/
def ferrySector (q : TQueue) (c : Cmd) (i : Inst) (noise : Option (Nat × BitVec 512)) (p : Mv × State) (k : Nat) :
    Mv × State :=
  if p.1.err != 0 then p
  else
    match ferrySource q c i k p.2 with
    | (.error st, s1) => ({ p.1 with err := st }, s1)
    | (.ok (d, t, ps), s1) =>
      let pt := (ctxAt s1 q.asid).point
      let d' := match noise with | some (j, x) => if j = k then d ^^^ x else d | none => d
      match i.sector (dstNum c) (dstOff c i + k) with
      | none => ({ p.1 with err := Status.XLT_GONE }, s1)
      | some y =>
        let (st, s2) := engWrite y q.share i.snap.mark q.asid d' t ps s1
        ({ hs := digestSector pt p.1.hs d, hd := digestSector pt p.1.hd d', err := st, poison := p.1.poison || ps }, s2)

/-- The sectors that moving some positions reads (1) and writes (2). -/
def ferryPlaces (c : Cmd) (i : Inst) (ks : List Nat) : List (Nat × Extent) :=
  ks.flatMap (fun k =>
    (if cOp c = 0x12 then [] else ((i.sector 0 (srcOff c i + k)).map (fun y => (1, y))).toList)
      ++ ((i.sector (dstNum c) (dstOff c i + k)).map (fun y => (2, y))).toList)

/-- Positions of piece k of a transfer of n sectors. -/
def piecePositions (n k : Nat) : List Nat := (List.range (min pieceSectors (n - k * pieceSectors))).map (fun j => k * pieceSectors + j)

/-- The first position of a piece and its length; a command that is not divided is one piece (R282, R671). -/
def pieceSpan (i : Inst) (n k : Nat) : Nat × Nat :=
  if i.xfer.pieces = 1 then (0, n) else (k * pieceSectors, min pieceSectors (n - k * pieceSectors))

/-- What has come of piece k so far, and the positions of it that have yet to be moved. -/
def Inst.run (i : Inst) (k : Nat) : PieceRun := mapGet i.xfer.runs k {}
def pieceRest (i : Inst) (n k : Nat) : List Nat :=
  let (base, len) := pieceSpan i n k
  (List.range (len - (i.run k).moved)).map (fun j => base + (i.run k).moved + j)
def PieceRun.mv (r : PieceRun) : Mv := { hs := r.hs, hd := r.hd, err := r.err, poison := r.poison }

/-- The source of a Ferry command is host memory. -/
def hostFed (c : Cmd) (i : Inst) : Bool :=
  cOp c != 0x12 && (match i.sector 0 (srcOff c i) with | some x => x.host | none => false)

/-- The engine that moves a piece: the one it was dealt to, or the queue's own. -/
def pieceEngine (x : TQueue) (i : Inst) (k : Nat) : Nat := if i.xfer.pieces = 1 then x.eng else mapGet i.xfer.dealt k x.eng

/-- A piece that host memory feeds goes on (R671): with reads still to come, what has been delivered in order is written, and
further reads leave as far as QOS_PACE.AHEAD allows. -/
def piecePump (q first dseq k : Nat) (s : State) : State :=
  match instAt s q first dseq with
  | none => s
  | some (b, i) =>
    let c := b.cmdOf i
    let x := queueAt s q
    let r := i.run k
    let (base, len) := pieceSpan i (cSectors c) k
    if !hostFed c i || decide (len ≤ r.asked) then s
    else
      let ready := ((List.range (r.asked - r.moved)).map (fun j => base + r.moved + j)).takeWhile
        (fun p => (mapFind i.xfer.buf p).isSome)
      whenReached (pieceEngine x i k) (ferryPlaces c i ready) (fun u =>
        let (m, u1) := ready.foldl (ferrySector x c i none) (r.mv, u)
        let moved := r.moved + ready.length
        let n := min (len - r.asked) (getF u F.QOS_PACE.AHEAD * 16 - (r.asked - moved))
        let r1 : PieceRun := { asked := r.asked + n, moved := moved, hs := m.hs, hd := m.hd, err := m.err, poison := m.poison }
        let i1 := { i with xfer := { i.xfer with
          buf := ready.foldl (fun w p => mapDel w p) i.xfer.buf
          runs := mapIns i.xfer.runs k r1 } }
        hostReads (n + 1) q i.snap.mark (b.first + i.idx) dseq x.asid ((i.opnd 0).map (fun o => o.exts) |>.getD [])
          (srcOff c i) (base + r.asked) n (putInst q first i1 u1)) s

/-- Every piece of an instance that host memory feeds goes on: the one piece, or those dealt. -/
def ferryPump (q first dseq : Nat) (s : State) : State :=
  match instAt s q first dseq with
  | none => s
  | some (_, i) =>
    if i.xfer.pieces = 1 then piecePump q first dseq 0 s
    else i.xfer.dealt.foldl (fun u (d : Nat × Nat) => piecePump q first dseq d.1 u) s

/-- Deals the pieces of an instance that no engine has yet to engines with free capacity, in piece order (R282). -/
def dealPieces : Nat → Nat → Nat → Nat → State → State
  | 0, _, _, _, s => s
  | fuel + 1, q, first, dseq, s =>
    match instAt s q first dseq with
    | none => s
    | some (_, i) =>
      let next := i.xfer.dealt.length + i.xfer.digs.length
      if i.xfer.pieces ≤ next || i.xfer.pieces = 1 || (i.op == 0x11 && !prefetchOpen s) then s
      else
        match freeEngine s with
        | none => s
        | some e =>
          dealPieces fuel q first dseq (piecePump q first dseq next
            (putInst q first { i with xfer := { i.xfer with dealt := mapIns i.xfer.dealt next e } } s))

/-- Deals what can be dealt to every ganged instance. -/
def dealAll (s : State) : State :=
  s.tq.queues.foldl (fun u (q : Nat × TQueue) => q.2.batches.foldl (fun v b => b.insts.foldl (fun w i =>
    dealPieces i.xfer.pieces q.1 b.first i.dseq w) v) u) s

/-- The pieces of a Ferry command (R282). -/
def ferryPieces (s : State) (c : Cmd) : Nat :=
  if getF s F.TQ_CTL.GANG_MIN ≤ cSectors c then ceilDiv (cSectors c) pieceSectors else 1

/-- A Ferry command begins (R282, R314): its pieces are dealt, and their host reads leave (R671). -/
def ferryBegin (q : Nat) (b : Batch) (c : Cmd) (l : List Opnd) (s : State) : State :=
  let pieces := ferryPieces s c
  let i := { newInst b l with xfer := { pieces := pieces } }
  let s1 := dispatch q b i s
  if pieces = 1 then piecePump q b.first i.dseq 0 s1 else dealPieces pieces q b.first i.dseq s1

/-- A Ferry command is dispatched, if its step lies in its range (R315). -/
def ferryStart (q : Nat) (_ : TQueue) (b : Batch) (c : Cmd) (l : List Opnd) (s : State) : State :=
  if indexBad b c then failDispatch q b Status.TQ_INDEX s else ferryBegin q b c l s

def execTideCopy (e : Fin 32) (s : State) : Result := .next (engineStep 0x10 e ferryStart s)

/-- TIDE_PREFETCH (R281, R318): in a turn without foreground commands, and as R672 allows. -/
def execTidePrefetch (e : Fin 32) (s : State) : Result :=
  .next (onlyIf (prefetchOpen s) (engineStep 0x11 e ferryStart) s)

def execTideFill (e : Fin 32) (s : State) : Result := .next (engineStep 0x12 e ferryStart s)

/-- Every sector of the positions that the host must deliver has come. -/
def delivered (c : Cmd) (i : Inst) (ks : List Nat) : Bool :=
  cOp c == 0x12 || ks.all (fun k => match i.sector 0 (srcOff c i + k) with
    | some x => !x.host || (mapFind i.xfer.buf k).isSome
    | none => true)

/-- What is left of piece k may be moved: all of it has been delivered, or an error has ended the command. -/
def pieceReady (c : Cmd) (i : Inst) (k : Nat) : Bool := i.xfer.err != 0 || delivered c i (pieceRest i (cSectors c) k)

/-- Moves what is left of piece k; nothing more once an error has ended the command. -/
def pieceFinish (x : TQueue) (c : Cmd) (i : Inst) (k : Nat) (noise : Option (Nat × BitVec 512)) (s : State) : Mv × State :=
  let m := (i.run k).mv
  (pieceRest i (cSectors c) k).foldl (ferrySector x c i noise) ({ m with err := if i.xfer.err = 0 then m.err else i.xfer.err }, s)

/-- FERRY_PIECE_DONE (R282, R421): a dealt piece has been moved; its digests join the command's, further pieces are
dealt. -/
def ferryPiece (q asn dseq k : Nat) (noise : Option (Nat × BitVec 512)) (s : State) : State :=
  let x := queueAt s q
  match instOf s q asn dseq with
  | none => s
  | some (b, i) =>
    let c := b.cmdOf i
    if i.phase != .run || (mapFind i.xfer.dealt k).isNone then s
    else if !pieceReady c i k then piecePump q b.first dseq k s
    else
      whenReached (pieceEngine x i k) (ferryPlaces c i (pieceRest i (cSectors c) k)) (fun u =>
        let (m, s1) := pieceFinish x c i k noise u
        let i1 := { i with xfer := { i.xfer with
          dealt := mapDel i.xfer.dealt k
          digs := mapIns i.xfer.digs k (m.hs, m.hd)
          err := if i.xfer.err = 0 then m.err else i.xfer.err
          poison := i.xfer.poison || m.poison } }
        dealAll (putInst q b.first i1 s1)) s

def execFerryPieceDone (q : QueueId) (asn : BitVec 64) (dseq : BitVec 32) (k : Nat) (noise : Option (Nat × BitVec 512))
    (s : State) : Result :=
  .next (onlyIf (frameRuns s) (ferryPiece q asn.toNat dseq.toNat k noise) s)

/-- The combined digests of a ganged transfer of n sectors, in piece order (R421). -/
def joinPieces (pt n : Nat) (x : Xfer) : Nat × Nat :=
  (List.range x.pieces).foldl (fun (h : Nat × Nat) k =>
    let (a, b) := mapGet x.digs k (0, 0)
    let w := 16 * (piecePositions n k).length
    (digestJoin pt h.1 a w, digestJoin pt h.2 b w)) (0, 0)

/-- A transfer has nothing more to wait for. -/
def ferryReady (c : Cmd) (i : Inst) : Bool :=
  if i.xfer.pieces = 1 then pieceReady c i 0 else decide (i.xfer.digs.length = i.xfer.pieces)

/-- Finishes a transfer: what it has met, its digests compared by the caller (R422). -/
def ferryFinish (x : TQueue) (c : Cmd) (i : Inst) (noise : Option (Nat × BitVec 512)) (s : State) : Mv × State :=
  if i.xfer.pieces = 1 then pieceFinish x c i 0 noise s
  else
    let (a, b) := joinPieces (ctxAt s x.asid).point (cSectors c) i.xfer
    ({ hs := a, hd := b, err := i.xfer.err, poison := i.xfer.poison }, s)

/-- What the last step of a transfer still accesses. -/
def ferryLeft (c : Cmd) (i : Inst) : List (Nat × Extent) :=
  if i.xfer.pieces = 1 && i.xfer.err == 0 then ferryPlaces c i (pieceRest i (cSectors c) 0) else []

/-- The STATUS of a finished transfer (R416, R422, R878), with the event of a digest mismatch. -/
def transferStatus (q : Nat) (x : TQueue) (i : Inst) (m : Mv) (s : State) : Nat × State :=
  if m.err != 0 then (m.err, s)
  else if m.hs != m.hd then
    (Status.TQ_DIGEST, post { code := Ev.TLY_DIGEST, asid := x.asid, queue := some q, mark := i.snap.mark, inst := x.eng,
                              d0 := Status.TQ_DIGEST + i.idx * 2 ^ 16 } (bump F.TLY_DIGERR.COUNT 0 s))
  else if m.poison then (Status.TQ_POISON, s)
  else (Status.OK, s)

end Sys2Proof.Machine
end

