-- ==== Sys2Proof/Machine/Bead.lean ====
section
/-! DEFINITION. Kernel launches (R326-R329, R371-R381, R405-R409): KCALL, placement, the life of an instance on its core,
exceptions as their engine receives them, and the FENCE that a tile answers. -/

namespace Sys2Proof.Machine

/-! ### Cores -/

/-- The core 2 * tile + b; one that has never run is idle. -/
def coreAt (s : State) (c : Nat) : Core := mapGet s.bead.cores c {}

/-- Replaces a core. -/
def setCore (c : Nat) (k : Core) (s : State) : State :=
  { s with bead := { s.bead with cores := mapSet s.bead.cores c {} k } }

/-- A core is available (R355, R411). -/
def coreAvail (s : State) (c : Nat) : Bool := bitAt (getReg s .BEAD_AVAIL (c / 32)) (c % 32)

/-- The launches that wait in a core's queue, and those held for it by their engine. -/
def pendAt (s : State) (c : Nat) : List KPend := mapGet s.bead.pend c []
def waitAt (s : State) (c : Nat) : List KPend := mapGet s.bead.wait c []

/-- Replaces them. -/
def setPend (c : Nat) (l w : List KPend) (s : State) : State :=
  { s with bead := { s.bead with pend := mapSet s.bead.pend c [] l, wait := mapSet s.bead.wait c [] w } }

/-- A launch joins a core's queue: a RECKON's ahead of waiting KCALLs (R379). -/
def pendPut (j : KPend) (l : List KPend) : List KPend :=
  if j.device then l.takeWhile (fun p => p.device) ++ [j] ++ l.dropWhile (fun p => p.device) else l ++ [j]

/-- Held launches join a core's queue while it has room for them (R379). -/
def pendFill : Nat → Nat → State → State
  | 0, _, s => s
  | fuel + 1, c, s =>
    match waitAt s c with
    | [] => s
    | j :: rest =>
      if (pendAt s c).length < getF s F.BEAD_CTL.PENDMAX then pendFill fuel c (setPend c (pendPut j (pendAt s c)) rest s)
      else s

/-- An engine sends a launch to a core; those that it must hold keep the queue's order (R379). -/
def pendSend (c : Nat) (j : KPend) (s : State) : State :=
  pendFill ((waitAt s c).length + 1) c (setPend c (pendAt s c) (pendPut j (waitAt s c)) s)

/-- The launch that a core runs next: one by a RECKON, be it still held, goes ahead of waiting KCALLs (R379). -/
def nextJob (s : State) (c : Nat) : Option KPend :=
  match (pendAt s c ++ waitAt s c).find? (fun j => j.device) with
  | some j => some j
  | none => (pendAt s c).head?

/-- Takes a launch out of a core's queue, or out of those held for it. -/
def pendTake (c : Nat) (j : KPend) (s : State) : State :=
  let s1 := if (pendAt s c).contains j then setPend c ((pendAt s c).erase j) (waitAt s c) s
    else setPend c (pendAt s c) ((waitAt s c).erase j) s
  pendFill (waitAt s1 c).length c s1

/-- The instance whose launch this is, with its batch. -/
def jobInst (s : State) (j : KPend) : Option (Batch × Inst) :=
  match instOf s j.queue j.asn j.dseq with
  | some (b, i) => if (i.launch.map (fun l => l.id)) == some j.launch then some (b, i) else none
  | none => none

/-- Changes the launch that a job belongs to. -/
def modLaunch (j : KPend) (f : Launch → Launch) (s : State) : State :=
  match jobInst s j with
  | some (b, i) => putInst j.queue b.first { i with launch := i.launch.map f } s
  | none => s

/-! ### Placement (R373-R376, R739, R740) -/

/-- Mesh hops between two tiles. -/
def hops (t u : Nat) : Nat :=
  (tileX t - tileX u) + (tileX u - tileX t) + (tileY t - tileY u) + (tileY u - tileY t)

/-- The part of a local-view range that lies in a tile's pool: its address and length (R373, R377). -/
def poolPart (s : State) (a len t : Nat) : Nat × Nat :=
  let lo := max a (localBase + t * 0x200000)
  let hi := min (a + len) (localBase + t * 0x200000 + getF s F.RFB_PLACE.LOCAL_SLOTS * 2048)
  if lo < hi then (lo, hi - lo) else (0, 0)

/-- The tiles of a launch in ascending order, each with its part of slot 0 (R373, R377). -/
def launchTiles (s : State) (c : Cmd) (slot0 : Option Extent) : List (Nat × Nat × Nat) :=
  if cPlace c = 1 then
    let (x0, y0, x1, y1) := cRect c
    ((List.range 1536).filter (fun t => decide (x0 ≤ tileX t ∧ tileX t ≤ x1 ∧ y0 ≤ tileY t ∧ tileY t ≤ y1))).map
      (fun t => (t, 0, 0))
  else
    match slot0 with
    | none => []
    | some x =>
      let a := paLocal x.addr
      let len := x.sectors * 64
      if localBase ≤ a then
        ((List.range 1536).map (fun t => (t, poolPart s a len t))).filter (fun (p : Nat × Nat × Nat) => p.2.2 != 0)
      else
        let held := ((List.range (ceilDiv (a % 2048 + len) 2048)).map (fun g => (hashPlace (a / 2048 * 2048 + g * 2048)).tile)).eraseDups
        ((List.range 1536).filter (fun t => held.contains t)).map (fun t => (t, 0, 0))

/-- The wanted cores of a launch, in instance order, with their parts (R374). -/
def wantedCores (c : Cmd) (l : List (Nat × Nat × Nat)) : List (Nat × Nat × Nat) :=
  l.flatMap (fun p => if cBoth c then [(2 * p.1, p.2), (2 * p.1 + 1, p.2)] else [(2 * p.1, p.2)])

/-- The nearest tile that satisfies a condition, ties to the lower index. -/
def nearest (t : Nat) (ok : Nat → Bool) : Option Nat :=
  (List.range 1536).foldl (fun best u =>
    if !ok u then best
    else match best with
      | none => some u
      | some b => if hops t u < hops t b then some u else some b) none

/-- A core of a tile that satisfies a condition, b0 first. -/
def coreOf (u : Nat) (ok : Nat → Bool) : Option Nat := if ok (2 * u) then some (2 * u) else if ok (2 * u + 1) then some (2 * u + 1) else none

/-- Where an instance whose core is unavailable goes (R375, R739, R740): the core, whether the envelope held it back, and
whether it was left. -/
def moveTo (s : State) (core : Nat) (used : List Nat) : Option Nat × Bool × Bool :=
  let t := core / 2
  let near := getF s F.BRK_PLACEENV.MAXHOPS
  let free := fun (c : Nat) => coreAvail s c && !used.contains c
  let has := fun (ok : Nat → Bool) (u : Nat) => (coreOf u ok).isSome
  let other := if core % 2 = 0 then core + 1 else core - 1
  if free other then (some other, false, false)
  else
    match nearest t (fun u => decide (hops t u ≤ near) && has free u) with
    | some u => (coreOf u free, false, false)
    | none =>
      match nearest t (fun u => decide (hops t u ≤ near) && has (coreAvail s) u) with
      | some u => (coreOf u (coreAvail s), true, false)
      | none =>
        match nearest t (has free) with
        | some u => (coreOf u free, false, true)
        | none =>
          match nearest t (has (coreAvail s)) with
          | some u => (coreOf u (coreAvail s), false, true)
          | none => (none, false, true)

/-- The placed instances: core and part, with what the envelope did (R375: moves come after the placements that stand). -/
def placeAll (s : State) (rect : Bool) (l : List (Nat × Nat × Nat)) : List (Nat × Nat × Nat) × Bool × Bool :=
  if rect then (l.filter (fun p => coreAvail s p.1), false, false)
  else
    let stand := (l.filter (fun p => coreAvail s p.1)).map (fun p => p.1)
    let (out, _, clamp, isOver) := l.foldl (fun (a : List (Nat × Nat × Nat) × List Nat × Bool × Bool) p =>
      if coreAvail s p.1 then (a.1 ++ [p], a.2)
      else
        match moveTo s p.1 a.2.1 with
        | (some c, x, y) => (a.1 ++ [(c, p.2)], a.2.1 ++ [c], a.2.2.1 || x, a.2.2.2 || y)
        | (none, x, y) => (a.1, a.2.1, a.2.2.1 || x, a.2.2.2 || y)) ([], stand, false, false)
    (out, clamp, isOver)

/-- The placement loop of Reckon engine e after a placement: its clamp and its override (R727, R730, R739, R740). -/
def placeLoop (e : Nat) (clamp isOver : Bool) (s : State) : State :=
  let s1 := clampSet 6 e clamp s
  if s1.brk.placeOut.getLsbD e == isOver then s1
  else policyOverride 6 e 0xFF02 { s1 with brk := { s1.brk with placeOut := putBit s1.brk.placeOut e isOver } }

/-! ### KCALL (R326-R329, R372, R376, R378) -/

/-- The operand of argument slot n. -/
def Inst.argSlot (i : Inst) (n : Nat) : Option Opnd := i.opnd (32 + n)

/-- The permissions that slot n's OPND names (R321). -/
def slotPerm (b : Batch) (i : Inst) (n : Nat) : Nat :=
  match (opndRun b.words i.idx).find? (fun j => cRole (wordAt b.words j) == 0x10 + n) with
  | some j => cPerm (wordAt b.words j)
  | none => 0

/-- A free staging buffer: which one is open, so the search begins at an open number (log entry 61). -/
def stagePick (s : State) : Option Nat × State :=
  let (r, s1) := draw 6 s
  (((List.range 64).map (fun k => (r.toNat + k) % 64)).find? (stageFree s1), s1)

/-- Writable slots of a KCALL with IDEM 0: their numbers and bytes. -/
def stageSlots (b : Batch) (i : Inst) : List (Nat × Nat) :=
  if cIdem (b.cmdOf i) then []
  else ((List.range 8).filter (fun n => (slotPerm b i n).testBit 1)).map
    (fun n => (n, ((i.argSlot n).map (fun o => o.bytes)).getD 0))

/-- Lays the staging copies out one after another from a base. -/
def stageLayout (base : Nat) (l : List (Nat × Nat)) : List (Nat × Nat) :=
  (l.foldl (fun (a : List (Nat × Nat) × Nat) p => (a.1 ++ [(p.1, a.2)], a.2 + p.2)) ([], base)).1

/-- Copies sectors between an operand and its staging copy: `out` from the copy back to the operand (R329). -/
def stageCopy (x : TQueue) (i : Inst) (out : Bool) (p : Nat × Nat) (s : State) : State :=
  match i.argSlot p.1 with
  | none => s
  | some o => (List.range (o.bytes / 64)).foldl (fun u k =>
      match extAt o.exts k with
      | none => u
      | some e =>
        let copy : Extent := { host := false, addr := ownDie u * 2 ^ 47 + p.2 + 64 * k, sectors := 1, keysel := 0 }
        let (src, dst) := if out then (copy, e) else (e, copy)
        match engRead src i.snap.mark x.eng x.asid u with
        | (.error _, v) => v
        | (.ok (d, t, ps), v) => (engWrite dst x.share i.snap.mark x.asid d t ps v).2) s

/-- The sectors that staging copies touch: what is read (access 1) and what is written (2). -/
def stagePlaces (s : State) (i : Inst) (out : Bool) (l : List (Nat × Nat)) : List (Nat × Extent) :=
  l.flatMap (fun p => match i.argSlot p.1 with
    | none => []
    | some o => (List.range (o.bytes / 64)).flatMap (fun k =>
        let copy : Extent := { host := false, addr := ownDie s * 2 ^ 47 + p.2 + 64 * k, sectors := 1, keysel := 0 }
        match extAt o.exts k with
        | none => []
        | some e => if out then [(1, copy), (2, e)] else [(1, e), (2, copy)]))

/-- Makes the staging copies of an instance's launch once the engine reaches the sectors (R115, R329). -/
def stageIn (q : Nat) (x : TQueue) (first : Nat) (i : Inst) (s : State) : State :=
  match i.launch with
  | none => s
  | some l =>
    if l.copied then s
    else whenReached x.eng (stagePlaces s i false l.stages) (fun s =>
      l.stages.foldl (fun u p => stageCopy x i false p u) (putInst q first { i with launch := some { l with copied := true } } s)) s

/-- The next LAUNCH value of Reckon engine e: engine in bits 2 to 0, sequence above, 32 bits (R400). -/
def nextLaunch (e : Nat) (s : State) : Nat × State :=
  ((e + 8 * s.tq.launchSeq) % 2 ^ 32, { s with tq := { s.tq with launchSeq := s.tq.launchSeq + 1 } })

/-- Sends the instances of a launch to their cores. -/
def sendLaunch (q : Nat) (b : Batch) (i : Inst) (device : Bool) (l : Launch) (s : State) : State :=
  (l.cores.zip (List.range l.cores.length)).foldl (fun u (p : Nat × Nat) =>
    pendSend p.1 { launch := l.id, queue := q, asn := b.first + i.idx, dseq := i.dseq, index := p.2, device := device } u) s

/-- Places a launch of an instance and sends it to its cores, with fresh staging copies (R329, R372-R376, R408). -/
def launchKernel (q : Nat) (x : TQueue) (b : Batch) (i : Inst) (e : Nat) (l0 : Launch) (s : State) : State :=
  let c := b.cmdOf i
  let slot0 := (i.argSlot 0).bind (fun o => o.exts.head?)
  let (placed, clamp, isOver) := placeAll s (cPlace c == 1) (wantedCores c (launchTiles s c slot0))
  let s1 := if cPlace c = 0 then placeLoop e clamp isOver s else s
  if placed = [] then
    putInst q b.first { i with result := some Status.OK, launch := none } s1
  else
    let (id, s2) := nextLaunch e s1
    let l : Launch := { l0 with
      id := id
      cores := placed.map (fun p => p.1)
      parts := placed.map (fun p => p.2)
      counters := []
      copied := l0.stages.isEmpty
      again := false
      poison := false }
    let i1 := { i with launch := some l }
    sendLaunch q b i false l (stageIn q x b.first i1 (putInst q b.first i1 s2))

/-- A KCALL begins with its staging copies in place (R329): its image is read once (R372), its instances are placed. -/
def kcallBegin (e q : Nat) (x : TQueue) (b : Batch) (c : Cmd) (l : List Opnd) (stages : List (Nat × Nat)) (s : State) : State :=
  let i := newInst b l
  let s1 := dispatch q b i s
  let s2 := match i.sector 0 0 with
    | some y => if y.host then hostReads (cCodesec c + 1) q i.snap.mark (b.first + i.idx) i.dseq x.asid
        ((i.opnd 0).map (fun o => o.exts) |>.getD []) 0 0 (cCodesec c) s1 else s1
    | none => s1
  launchKernel q x b i e { id := 0, stages := stages } s2

/-- A KCALL is dispatched: its writable operands take a staging buffer (R329); without a free one the engine waits. -/
def kcallStart (e q : Nat) (x : TQueue) (b : Batch) (c : Cmd) (l : List Opnd) (s : State) : State :=
  let slots := stageSlots b (newInst b l)
  if slots = [] then kcallBegin e q x b c l [] s
  else
    match stagePick s with
    | (none, s1) => s1
    | (some n, s1) => kcallBegin e q x b c l (stageLayout (0xBD400000 + n * 0x40000) slots) s1

def execTideKcall (e : Fin 8) (s : State) : Result := .next (engineStep 0x21 (32 + e) (kcallStart e) s)

/-- The engine sends an urgent ABORT flit with the LAUNCH value for every other running instance of a launch, and discards
the launches that have not started (R406, R407). -/
def sendAborts (id : Nat) (core : Option Nat) (s : State) : State :=
  let running := s.bead.cores.filter (fun (e : Nat × Core) => some e.1 != core && !e.2.ended
    && (match e.2.job with | some j => j.launch == id | none => false))
  running.foldl (fun u (e : Nat × Core) =>
    engineUrgent (32 + id % 8) { hdr := unicastHdr { vc := 0, op := 8, dst := e.1 / 2, dstAgent := e.1 % 2, tag := 0, mark := e.2.mark }
                                 pay := BitVec.ofNat 512 id, tally := 0, crc := 0 } u) (cancelWaiting id s)

/-- KERNEL_IMAGE_SECTOR (R372): sector k of an image arrives, is checked, and goes to every core of the launch; a
poisoned one ends the KCALL with TQ_POISON (R416). -/
def imageSector (q asn dseq k : Nat) (s : State) : State :=
  let x := queueAt s q
  match instOf s q asn dseq with
  | none => s
  | some (b, i) =>
    match i.launch, i.sector 0 k with
    | some l, some y =>
      if i.op ≠ 0x21 ∨ cCodesec (b.cmdOf i) ≤ k ∨ (mapFind l.image k).isSome then s
      else whenReached x.eng [(1, y)] (fun s =>
        let (r, s1) := if y.host then
            ((match mapFind i.xfer.buf k with | some (d, p) => .ok (d, tallyOf d, p) | none => .error 0), s)
          else engRead y i.snap.mark x.eng x.asid s
        match r with
        | .error st => if st = 0 then s1 else sendAborts l.id none (putInst q b.first { i with launch := some { l with st := st } } s1)
        | .ok (d, _, ps) =>
          if ps then sendAborts l.id none (putInst q b.first { i with launch := some { l with st := Status.TQ_POISON } } s1)
          else
            let s2 := putInst q b.first { i with launch := some { l with image := mapIns l.image k d } } s1
            { s2 with bead := { s2.bead with cores := s2.bead.cores.map (fun (p : Nat × Core) =>
                match p.2.job with
                | some j => if j.launch = l.id then (p.1, { p.2 with code := mapIns p.2.code k d }) else p
                | none => p) } }) s
    | _, _ => s

def execKernelImageSector (q : QueueId) (asn : BitVec 64) (dseq : BitVec 32) (k : Fin 1024) (s : State) : Result :=
  .next (onlyIf (frameRuns s) (imageSector q asn.toNat dseq.toNat k) s)

/-! ### Instances (R361, R377, R378) -/

/-- The window of argument slot n: BASE, LEN, PERM (R361, R378). -/
def slotWin (b : Batch) (i : Inst) (l : Launch) (n : Nat) : Option KWin :=
  match i.argSlot n with
  | none => none
  | some o =>
    let base := match l.stages.find? (fun (p : Nat × Nat) => p.1 == n) with
      | some p => p.2
      | none => ((o.exts.head?).map (fun y => paLocal y.addr)).getD 0
    some { base := base, len := o.bytes, perm := slotPerm b i n }

/-- The windows of a device kernel: the operands that its RECKON reads (R381; log entry 63). -/
def deviceWins (i : Inst) : List (Option KWin) :=
  i.opnds.map (fun o => (o.exts.head?).map (fun y => { base := paLocal y.addr, len := o.bytes, perm := 1 }))

/-- The argument table in scratch bytes 0-127 (R361). -/
def argTable (wins : List (Option KWin)) : Map Byte :=
  ((wins.zip (List.range wins.length)).flatMap (fun (p : Option KWin × Nat) =>
    match p.1 with
    | none => []
    | some w =>
      let bs := bytesOf (BitVec.ofNat 128 (packB [(0, 8, w.base), (8, 4, w.len), (12, 1, w.perm), (13, 1, 1)])) 16
      (bs.zip (List.range 16)).map (fun (y : Byte × Nat) => (16 * p.2 + y.2, y.1)))).foldl
    (fun m (e : Nat × Byte) => mapSet m e.1 0 e.2) []

/-- The 64-bit value that g4 holds on entry (R377). -/
def whereAmI (c : Nat) : Nat := tileX (c / 2) + tileY (c / 2) * 2 ^ 8 + c % 2 * 2 ^ 16

/-- A core as an instance finds it (R377, R397), with PARAM `p`: what the tag and token counters have reached stays, and so
do the loads of earlier instances (R354). -/
def enterCore (k : Core) (c : Nat) (x : TQueue) (b : Batch) (i : Inst) (l : Launch) (j : KPend) (p : Nat) : Core :=
  let cmd := b.cmdOf i
  let wins := if j.device then deviceWins i else (List.range 8).map (slotWin b i l)
  let part := l.parts.getD j.index (0, 0)
  let init : List (Nat × Nat) :=
    [(1, p), (2, j.index), (3, l.cores.length), (4, whereAmI c), (5, part.1), (6, part.2), (7, 2 ^ 63)]
  { job := some j, engine := l.id % 8, asid := x.asid, mark := i.snap.mark, share := x.share
    g := init.foldl (fun m (r : Nat × Nat) => mapSet m r.1 0 (BitVec.ofNat 64 r.2)) []
    scratch := argTable wins, wins := wins, codeLen := if j.device then 65536 else cCodesec cmd * 64, code := l.image
    seed := if j.device then l.seed.zeroExtend 256 else 0, tag := k.tag, serial := k.serial, old := k.old }

/-- What g1 holds on entry (R377): PARAM; a RECKON gives none, so that of a device kernel is open (log entry 63). -/
def entryParam (b : Batch) (i : Inst) (j : KPend) (s : State) : Nat × State :=
  if j.device then
    let (v, s1) := draw 64 s
    (v.toNat, s1)
  else (cParam (b.cmdOf i), s)

/-- INSTANCE_START (R377, R379): the next launch of a core starts once the core is idle and, for a KCALL, its staging
copies are made (R329) and its first image sector has arrived (R372). -/
def instanceStart (c : Nat) (s : State) : State :=
  match nextJob s c with
  | none => s
  | some j =>
    match jobInst s j with
    | none => s
    | some (b, i) =>
      match i.launch with
      | none => s
      | some l =>
        let x := queueAt s j.queue
        if (coreAt s c).job.isSome || (if j.device then !dispDurable s b j.dseq else (mapFind l.image 0).isNone) then s
        else if !j.device && !l.copied then stageIn j.queue x b.first i s
        else
          let (p, s1) := entryParam b i j (pendTake c j s)
          add64 .BEAD_LAUNCHES_LO .BEAD_LAUNCHES_HI 0 1 (setCore c (enterCore (coreAt s c) c x b i l j p) s1)

/-- A core works while its cove is awake. -/
def coreRuns (s : State) (c : Nat) : Bool := frameRuns s && coveAwake s (coveOf (c / 2))

def execInstanceStart (c : CoreId) (s : State) : Result := .next (onlyIf (coreRuns s c) (instanceStart c) s)

/-- A core with nothing to run; unanswered loads stay outstanding (R354). -/
def idleCore (k : Core) : Core := { tag := k.tag, serial := k.serial, old := k.old ++ k.outs.map (fun o => (o.tag, o.req == .kld)) }

/-- An instance ends: the core is idle once its last writes are acknowledged (R327). -/
def endInstance (c : Nat) (s : State) : State :=
  let k := coreAt s c
  setCore c (if k.writes = [] then idleCore k else { k with
    ended := true, kq := [], outs := [], old := (idleCore k).old, busy := [], late := none }) s

/-- An instance takes an exception: its engine will receive it, and the instance ends (R407). -/
def takeExc (c cause : Nat) (late : Bool) (pc addr sub : Nat) (s : State) : State :=
  match (coreAt s c).job with
  | none => s
  | some j =>
    let x : KExc := { job := j, core := c, cause := cause, late := late, pc := pc, addr := addr, sub := sub }
    endInstance c { s with bead := { s.bead with excs := s.bead.excs ++ [x] } }

/-- The ABORT flit that waits at a core and carries its LAUNCH value (R406); others are dropped. -/
def abortFlit (s : State) (c : Nat) : Option Flit := (inboxOf s (c / 2) (c % 2)).find? (fun f => f.op == 8)

/-- INSTANCE_ABORT (R405, R406): an abort of the launch, or an ABORT flit with its LAUNCH value, stops the instance. -/
def instanceAbort (c : Nat) (s : State) : State :=
  let k := coreAt s c
  let s1 := match abortFlit s c with
    | some f => setInbox (c / 2) (c % 2) ((inboxOf s (c / 2) (c % 2)).erase f) s
    | none => s
  match k.job with
  | none => s1
  | some j =>
    let hit := match abortFlit s c with | some f => decide (secField f.pay 0 4 = j.launch) | none => false
    if (k.abort || hit) && !k.ended then endInstance c s1 else s1

def execInstanceAbort (c : CoreId) (s : State) : Result := .next (onlyIf (coreRuns s c) (instanceAbort c) s)

/-! ### Exceptions at the engine (R407-R409) -/

/-- The KCALL status of an exception cause (R401). -/
def causeStatus (cause : Nat) : Nat := if cause = 8 then Status.TQ_POISON else Status.TQ_KFAULT

/-- The fault registers take an exception while BEAD_FAULT.VALID is 0, with its event (R409). -/
def recordFault (x : KExc) (s : State) : State :=
  let s0 := bump F.BEAD_FAULTS.COUNT 0 s
  if flag s F.BEAD_FAULT.VALID then s0
  else
    let t := x.core / 2
    let s1 := setReg .BEAD_FAULT 0 (BitVec.ofNat 32 (x.cause + boolNat x.late * 2 ^ 4 + x.sub % 256 * 2 ^ 8 + 2 ^ 16)) s0
    let s2 := setReg .BEAD_FAULTLOC 0 (BitVec.ofNat 32 (tileX t + tileY t * 2 ^ 8 + x.core % 2 * 2 ^ 16)) s1
    let s3 := setReg .BEAD_FAULTQ 0 (BitVec.ofNat 32 (x.job.queue + x.job.launch % 8 * 2 ^ 10 + boolNat x.job.device * 2 ^ 13)) s2
    let s4 := set64 .BEAD_FAULTADDR_LO .BEAD_FAULTADDR_HI 0 x.addr (setReg .BEAD_FAULTPC 0 (BitVec.ofNat 32 (x.pc % 2 ^ 16)) s3)
    let s5 := set64 .BEAD_FAULTASN_LO .BEAD_FAULTASN_HI 0 x.job.asn s4
    let ev : EvArgs := { code := if x.cause = 10 then Ev.BEAD_HWERR else Ev.BEAD_KFAULT, asid := (queueAt s x.job.queue).asid,
                         queue := some x.job.queue, inst := 32 + x.job.launch % 8, d0 := causeStatus x.cause, d1 := x.job.asn }
    if x.cause = 8 then s5 else post ev s5

/-- A core with a hardware error is taken out of use, with its event (R408). -/
def coreOff (x : KExc) (s : State) : State :=
  post { code := Ev.BEAD_CORE_OFF, queue := some x.job.queue, inst := 32 + x.job.launch % 8, d1 := x.core }
    (setReg .BEAD_AVAIL (x.core / 32) (putBit (getReg s .BEAD_AVAIL (x.core / 32)) (x.core % 32) false) s)

/-- A launch runs once more after HWERR (R408), now that none of its instances is left: from fresh copies, on other cores in
place of those taken out of use. -/
def runAgain (q : Nat) (b : Batch) (i : Inst) (l : Launch) (s : State) : State :=
  if launchBusy s l.id then s
  else if i.op = 0x20 then
    let (id, s1) := nextLaunch (l.id % 8) s
    let cores := l.cores.map (fun c => if coreAvail s c then c else (moveTo s c l.cores).1.getD c)
    let l1 : Launch := { l with id := id, cores := cores, again := false }
    sendLaunch q b i true l1 (putInst q b.first { i with launch := some l1 } s1)
  else launchKernel q (queueAt s q) b i (l.id % 8) l s

/-- INSTANCE_EXCEPTION (R407): engine e receives the oldest exception of its launches. -/
def instanceException (e : Nat) (s : State) : State :=
  match s.bead.excs.find? (fun x => x.job.launch % 8 == e) with
  | none => s
  | some x =>
    let s1 := recordFault x { s with bead := { s.bead with excs := s.bead.excs.erase x } }
    match jobInst s1 x.job with
    | none => s1
    | some (b, i) =>
      match i.launch with
      | none => s1
      | some l =>
        let retry := x.cause = 10 ∧ flag s1 F.BEAD_CTL.HWRETRY = true
        let s2 := sendAborts l.id (some x.core) (if retry then coreOff x s1 else s1)
        if retry ∧ l.retried = false ∧ l.st = 0 then
          bump F.BEAD_RETRIES.COUNT 0 (putInst x.job.queue b.first
            { i with launch := some { l with retried := true, again := true } } s2)
        else if l.again ∧ x.cause ≠ 10 then s2
        else
          putInst x.job.queue b.first
            { i with launch := some { l with st := if l.st = 0 then causeStatus x.cause else l.st, again := false } } s2

def execInstanceException (e : Fin 8) (s : State) : Result := .next (onlyIf (frameRuns s) (instanceException e) s)

/-- KCALL_TIMEOUT (R327, R380): LIMIT_US elapses; the instances are aborted and the KCALL ends with TQ_KTIMEOUT. -/
def kcallTimeout (q asn dseq : Nat) (s : State) : State :=
  match instOf s q asn dseq with
  | none => s
  | some (b, i) =>
    match i.launch with
    | none => s
    | some l =>
      if i.op ≠ 0x21 ∨ i.phase ≠ .run then s
      else killLaunch l.id (putInst q b.first
        { i with launch := some { l with st := if l.st = 0 then Status.TQ_KTIMEOUT else l.st } } s)

def execKcallTimeout (q : QueueId) (asn : BitVec 64) (dseq : BitVec 32) (s : State) : Result :=
  .next (onlyIf (frameRuns s) (kcallTimeout q asn.toNat dseq.toNat) s)

/-! ### FENCE (R370) -/

/-- TILE_FENCE (R370): a tile answers the oldest FENCE it holds for which every write that its cores had issued before it
arrived is acknowledged; its report goes to the engine. -/
def tileFence (t : Nat) (s : State) : State :=
  match s.bead.fences.find? (fun f => f.tile == t && f.owed.isEmpty) with
  | none => s
  | some f => { s with bead := { s.bead with fences := s.bead.fences.erase f, reports := s.bead.reports ++ [(t, f.id)] } }

/-- A write of a core is acknowledged: no FENCE waits for it any longer. -/
def fencePaid (c tag : Nat) (s : State) : State :=
  { s with bead := { s.bead with fences := s.bead.fences.map (fun f => { f with owed := f.owed.filter (fun w => w != (c, tag)) }) } }

def execTileFence (t : TileId) (s : State) : Result :=
  .next (onlyIf (frameRuns s && coveAwake s (coveOf t)) (tileFence t) s)

/-- BEAD_CNTCLR (R411). -/
def execBeadCntclr (s : State) : Result :=
  .next (onlyIf (barOpen s) (clearRegs [.BEAD_FAULTS, .BEAD_RETRIES, .BEAD_LAUNCHES_LO, .BEAD_LAUNCHES_HI]) s)

end Sys2Proof.Machine
end

