-- ==== Sys2Proof/Machine/BeadCore.lean ====
section
/-! DEFINITION. The instructions of a bead core (R351-R369, R382-R384, R400-R405). A row executes the instruction at the
core's pc if that is a legal encoding of the row's mnemonic; a core that must wait stays as it is. -/

namespace Sys2Proof.Machine

/-! ### Encodings (R356-R359) -/

abbrev KWord := BitVec 32

def kOp (w : KWord) : Nat := bitsAt w 0 6
/-- Bits 10 to 6, 15 to 11 and 20 to 16: rd, rs1 and rs2 of format R. -/
def kF6 (w : KWord) : Nat := bitsAt w 6 5
def kF11 (w : KWord) : Nat := bitsAt w 11 5
def kF16 (w : KWord) : Nat := bitsAt w 16 5
def kFn (w : KWord) : Nat := bitsAt w 21 11
def kImm (w : KWord) : Nat := bitsAt w 16 16
/-- The sign-extended imm16 or off16 as a 64-bit value (R357). -/
def kSimm (w : KWord) : BitVec 64 := (w.extractLsb' 16 16).signExtend 64
/-- The sign-extended off21 (R357). -/
def kOff21 (w : KWord) : BitVec 64 := (w.extractLsb' 11 21).signExtend 64
def kKd (w : KWord) : Nat := bitsAt w 6 4
def kKa (w : KWord) : Nat := bitsAt w 10 4
def kKb (w : KWord) : Nat := bitsAt w 14 4
def kG (w : KWord) : Nat := bitsAt w 18 5
def kKfn (w : KWord) : Nat := bitsAt w 23 9

/-- Format R with OP 0 and a function. -/
def isR (fn : Nat) (w : KWord) : Bool := kOp w == 0 && kFn w == fn
/-- Any other format by its OP. -/
def isOp (op : Nat) (w : KWord) : Bool := kOp w == op
/-- A Reckoner instruction of OP 0x38. -/
def isK (fn : Nat) (w : KWord) : Bool := kOp w == 0x38 && kKfn w == fn
/-- An AMO by its AOP. -/
def isAmo (aop : Nat) (w : KWord) : Bool := kOp w == 0x20 && kFn w % 8 == aop
/-- A CNT by its function. -/
def isCnt (fn : Nat) (w : KWord) : Bool := kOp w == 0x21 && kFn w == fn
/-- A SYS by its immediate. -/
def isSys (imm : Nat) (w : KWord) : Bool := kOp w == 0x32 && kImm w == imm

/-- A field that names an accumulator has its reserved bits clear (R356). -/
def accField (n : Nat) : Bool := decide (n < 4)

/-- A K-format encoding is legal in a device kernel or a tenant kernel (R356, R358, R359, R388, R400). -/
def kLegal (device : Bool) (w : KWord) : Bool :=
  let kd := kKd w; let ka := kKa w; let kb := kKb w; let g := kG w
  match kKfn w with
  | 0 | 1 | 2 | 4 | 5 => true
  | 3 => ka == 0 && decide (kb < 8)
  | 6 => kd == 0 && kb == 0
  | 7 => device && kd == 0 && kb == 0
  | 8 => kd == 0
  | 16 => accField kd && decide (g < 9)
  | 17 | 18 => accField kd
  | 19 | 20 => accField ka && kd == 0 && kb == 0
  | 21 => accField ka && decide (g < 9)
  | 22 => accField kd && accField ka
  | _ => false

/-- CSR numbers of R400, and those that a CSRW may name. -/
def csrKnown (n : Nat) : Bool := decide (n ≤ 2) || decide (0x10 ≤ n ∧ n ≤ 0x14) || n == 0x20 || n == 0x21
def csrWritable (device : Bool) (n : Nat) : Bool := n == 0x14 || (!device && decide (0x10 ≤ n ∧ n ≤ 0x13))

/-- An encoding is legal (R358, R359, R400; log entry 62 for the fields that R359 reserves); a device kernel executes no CNT
(R381). -/
def legal (device : Bool) (w : KWord) : Bool :=
  match kOp w with
  | 0x00 => decide (kFn w ≤ 14) || (kFn w == 15 && kF16 w == 0)
  | 0x07 => decide (kImm w < 0xC0)
  | 0x1C | 0x1D => decide (kF6 w < 16)
  | 0x20 => decide (kFn w < 32 ∧ kFn w % 8 ≠ 0 ∧ 2 ≤ kFn w / 8)
  | 0x21 => !device && (decide (kFn w < 2) || (kFn w == 2 && kF16 w == 0))
  | 0x30 => kF11 w == 0 && csrKnown (kImm w)
  | 0x31 => kF6 w == 0 && csrWritable device (kImm w)
  | 0x32 => decide (kImm w ≤ 3) && kF6 w == 0 && kF11 w == 0
  | 0x38 => kLegal device w
  | op => decide (1 ≤ op ∧ op ≤ 8) || decide (0x10 ≤ op ∧ op ≤ 0x14) || decide (0x18 ≤ op ∧ op ≤ 0x1B)
      || decide (0x28 ≤ op ∧ op ≤ 0x2F)

/-! ### Registers and fetch -/

/-- A g register; g0 reads 0 (R351). -/
def Core.gr (k : Core) (n : Nat) : BitVec 64 := if n = 0 then 0 else mapGet k.g n 0

/-- Writes a g register; a write to g0 is discarded (R351), and an operation that has yet to write it no longer will. -/
def Core.wr (n : Nat) (v : BitVec 64) (k : Core) : Core :=
  if n = 0 then k else { k with g := mapSet k.g n 0 v, busy := mapDel k.busy n }

/-- A g register will be written by the operation with the next token. -/
def Core.await (n : Nat) (k : Core) : Core :=
  { k with busy := if n = 0 then k.busy else mapIns k.busy n k.serial, serial := k.serial + 1 }

/-- The operation with a token delivers its value to g register n (R402). -/
def Core.land (n tok : Nat) (v : BitVec 64) (k : Core) : Core :=
  if mapFind k.busy n = some tok then { k with g := mapSet k.g n 0 v, busy := mapDel k.busy n } else k

/-- The instruction retires and the core goes on at `pc`. -/
def Core.goto (pc : Nat) (k : Core) : Core := { k with pc := pc % 2 ^ 64, retired := k.retired + 1 }

/-- The instruction retires. -/
def Core.retire (k : Core) : Core := k.goto (k.pc + 4)

/-- The core runs a device kernel (R381). -/
def Core.device (k : Core) : Bool := match k.job with | some j => j.device | none => false

/-- A fetch lies beyond the image or is misaligned (R364). -/
def Core.fetchBad (k : Core) : Bool := k.pc % 4 != 0 || decide (k.codeLen < k.pc + 4)

/-- The instruction at the pc; none while its sector is not loaded (R372). A device kernel's image is open (log entry 63). -/
def Core.fetch (k : Core) : Option KWord :=
  if k.fetchBad then none
  else
    let sec := if k.device then some (Config.deviceImage (k.pc / 64)) else mapFind k.code (k.pc / 64)
    sec.map (fun d => d.extractLsb' (k.pc % 64 * 8) 32)

/-- An instance runs on the core and nothing stops it before its next instruction (R405). -/
def Core.active (k : Core) : Bool := k.job.isSome && !k.ended && !k.abort

/-- Records a late exception: the oldest stays, but HWERR goes before all others (R404, R405). -/
def Core.lateErr (cause pc addr sub : Nat) (k : Core) : Core :=
  { k with late := match k.late with
      | none => some (cause, pc, addr, sub)
      | some (c, r) => if cause = 10 ∧ c ≠ 10 then some (cause, pc, addr, sub) else some (c, r) }

/-- A late exception is taken at a synchronisation point (R402, R404). -/
def takeLate (c : Nat) (l : Nat × Nat × Nat × Nat) (s : State) : State := takeExc c l.1 true l.2.1 l.2.2.1 l.2.2.2 s

/-- Executes the instruction at core c's pc if it is a legal one that `p` accepts. An instruction that reads a g register
which an incomplete operation has yet to write takes a pending late exception or waits (R387, R402). -/
def issue (c : Nat) (p : KWord → Bool) (reads : KWord → List Nat) (f : Core → KWord → State → State) (s : State) : State :=
  let k := coreAt s c
  if !coreRuns s c || !k.active then s
  else
    match k.fetch with
    | none => s
    | some w =>
      if !(p w && legal k.device w) then s
      else if (reads w).any (fun n => (mapFind k.busy n).isSome) then
        match k.late with
        | some l => takeLate c l s
        | none => s
      else f k w s

/-! ### Arithmetic (R351, R357, R358) -/

/-- rd ← rs1 op rs2. -/
def aluR (fn : Nat) (op : BitVec 64 → BitVec 64 → BitVec 64) (c : CoreId) (s : State) : State :=
  issue c (isR fn) (fun w => [kF11 w, kF16 w])
    (fun k w s => setCore c ((k.wr (kF6 w) (op (k.gr (kF11 w)) (k.gr (kF16 w)))).retire) s) s

/-- rd ← rs1 op imm, with the immediate as the row extends it. -/
def aluI (o : Nat) (op : BitVec 64 → KWord → BitVec 64) (c : CoreId) (s : State) : State :=
  issue c (isOp o) (fun w => [kF11 w]) (fun k w s => setCore c ((k.wr (kF6 w) (op (k.gr (kF11 w)) w)).retire) s) s

/-- The zero-extended imm16. -/
def kUimm (w : KWord) : BitVec 64 := BitVec.ofNat 64 (kImm w)

/-- A condition as a 64-bit value. -/
def bit64 (b : Bool) : BitVec 64 := if b then 1 else 0

def execAdd (c : CoreId) (s : State) : Result := .next (aluR 0 (fun a b => a + b) c s)
def execSub (c : CoreId) (s : State) : Result := .next (aluR 1 (fun a b => a - b) c s)
def execAnd (c : CoreId) (s : State) : Result := .next (aluR 2 (fun a b => a &&& b) c s)
def execOr (c : CoreId) (s : State) : Result := .next (aluR 3 (fun a b => a ||| b) c s)
def execXor (c : CoreId) (s : State) : Result := .next (aluR 4 (fun a b => a ^^^ b) c s)
def execSll (c : CoreId) (s : State) : Result := .next (aluR 5 (fun a b => a <<< (b.toNat % 64)) c s)
def execSrl (c : CoreId) (s : State) : Result := .next (aluR 6 (fun a b => a >>> (b.toNat % 64)) c s)
def execSra (c : CoreId) (s : State) : Result := .next (aluR 7 (fun a b => a.sshiftRight (b.toNat % 64)) c s)
def execSlt (c : CoreId) (s : State) : Result := .next (aluR 8 (fun a b => bit64 (a.slt b)) c s)
def execSltu (c : CoreId) (s : State) : Result := .next (aluR 9 (fun a b => bit64 (a.ult b)) c s)
def execMul (c : CoreId) (s : State) : Result := .next (aluR 10 (fun a b => a * b) c s)
def execMulhu (c : CoreId) (s : State) : Result :=
  .next (aluR 11 (fun a b => BitVec.ofNat 64 (a.toNat * b.toNat / 2 ^ 64)) c s)
def execMulh (c : CoreId) (s : State) : Result :=
  .next (aluR 12 (fun a b => BitVec.ofInt 64 (a.toInt * b.toInt / 2 ^ 64)) c s)
def execDivu (c : CoreId) (s : State) : Result :=
  .next (aluR 13 (fun a b => if b = 0 then BitVec.ofNat 64 (2 ^ 64 - 1) else a / b) c s)
def execRemu (c : CoreId) (s : State) : Result := .next (aluR 14 (fun a b => if b = 0 then a else a % b) c s)

/-- The local-view address of a hashed-view address (R134, R135, R222); any other value is unchanged (R358). -/
def ramap (a : BitVec 64) : BitVec 64 :=
  if a.toNat < carveBase then
    let p := hashPlace a.toNat
    BitVec.ofNat 64 (localBase + p.tile * 0x200000 + p.so)
  else a

def execRamap (c : CoreId) (s : State) : Result := .next (aluR 15 (fun a _ => ramap a) c s)
def execAddi (c : CoreId) (s : State) : Result := .next (aluI 1 (fun a w => a + kSimm w) c s)
def execAndi (c : CoreId) (s : State) : Result := .next (aluI 2 (fun a w => a &&& kUimm w) c s)
def execOri (c : CoreId) (s : State) : Result := .next (aluI 3 (fun a w => a ||| kUimm w) c s)
def execXori (c : CoreId) (s : State) : Result := .next (aluI 4 (fun a w => a ^^^ kUimm w) c s)
def execSlti (c : CoreId) (s : State) : Result := .next (aluI 5 (fun a w => bit64 (a.slt (kSimm w))) c s)
def execSltiu (c : CoreId) (s : State) : Result := .next (aluI 6 (fun a w => bit64 (a.ult (kSimm w))) c s)

/-- The shift of SHI: amount in bits 5 to 0 of the immediate, kind in bits 7 and 6. -/
def shiftImm (a : BitVec 64) (w : KWord) : BitVec 64 :=
  let n := kImm w % 64
  match kImm w / 64 with
  | 0 => a <<< n
  | 1 => a >>> n
  | _ => a.sshiftRight n

def execShi (c : CoreId) (s : State) : Result := .next (aluI 7 shiftImm c s)
def execLsh (c : CoreId) (s : State) : Result := .next (aluI 8 (fun a w => (a <<< 16) ||| kUimm w) c s)

/-! ### Branches (R357) -/

/-- A branch by its comparison. -/
def branchIf (o : Nat) (cmp : BitVec 64 → BitVec 64 → Bool) (c : CoreId) (s : State) : State :=
  issue c (isOp o) (fun w => [kF6 w, kF11 w]) (fun k w s =>
    let tgt := if cmp (k.gr (kF6 w)) (k.gr (kF11 w)) then (BitVec.ofNat 64 k.pc + kSimm w * 4).toNat else k.pc + 4
    setCore c (k.goto tgt) s) s

def execBeq (c : CoreId) (s : State) : Result := .next (branchIf 0x28 (fun a b => a == b) c s)
def execBne (c : CoreId) (s : State) : Result := .next (branchIf 0x29 (fun a b => a != b) c s)
def execBlt (c : CoreId) (s : State) : Result := .next (branchIf 0x2A (fun a b => a.slt b) c s)
def execBge (c : CoreId) (s : State) : Result := .next (branchIf 0x2B (fun a b => !a.slt b) c s)
def execBltu (c : CoreId) (s : State) : Result := .next (branchIf 0x2C (fun a b => a.ult b) c s)
def execBgeu (c : CoreId) (s : State) : Result := .next (branchIf 0x2D (fun a b => !a.ult b) c s)

def execJal (c : CoreId) (s : State) : Result :=
  .next (issue c (isOp 0x2E) (fun _ => []) (fun k w s =>
    setCore c ((k.wr (kF6 w) (BitVec.ofNat 64 (k.pc + 4))).goto (BitVec.ofNat 64 k.pc + kOff21 w * 4).toNat) s) s)

def execJalr (c : CoreId) (s : State) : Result :=
  .next (issue c (isOp 0x2F) (fun w => [kF11 w]) (fun k w s =>
    let tgt := (k.gr (kF11 w) + kSimm w).toNat / 4 * 4
    setCore c ((k.wr (kF6 w) (BitVec.ofNat 64 (k.pc + 4))).goto tgt) s) s)

/-! ### Memory (R360-R369) -/

/-- The scratch lies at kernel addresses from 2^63 on (R360). -/
def scratchBase : Nat := 2 ^ 63

/-- All bytes of an access lie in the scratch. -/
def inScratch (a n : Nat) : Bool := decide (scratchBase ≤ a ∧ a + n ≤ scratchBase + 4096)

/-- All bytes of an access lie in one window whose PERM holds bit `perm` (R362). -/
def inWindow (k : Core) (a n perm : Nat) : Bool :=
  k.wins.any (fun x => match x with
    | some w => decide (w.base ≤ a ∧ a + n ≤ w.base + w.len) && w.perm.testBit perm
    | none => false)

/-- The cause of a precise exception of an access of n bytes: 3 ALIGN, 4 ACCESS, or 0 (R362, R363, R405). -/
def accessCause (k : Core) (a n perm : Nat) : Nat :=
  if a % n ≠ 0 then 3 else if inScratch a n || inWindow k a n perm then 0 else 4

/-- The little-endian value of n bytes of scratch. -/
def scratchRead (k : Core) (a n : Nat) : Nat :=
  bytesNat ((List.range n).map (fun j => mapGet k.scratch (a - scratchBase + j) 0))

/-- Writes n bytes of scratch. -/
def scratchWrite (a n v : Nat) (k : Core) : Core :=
  { k with scratch := (List.range n).foldl (fun m j => mapSet m (a - scratchBase + j) 0 (BitVec.ofNat 8 (v / 2 ^ (8 * j)))) k.scratch }

/-- The value that a load of n bytes delivers. -/
def loadValue (v n : Nat) (signed : Bool) : BitVec 64 :=
  if signed then (BitVec.ofNat (8 * n) v).signExtend 64 else BitVec.ofNat 64 v

/-- The kernel address of a Reckoner instruction that stores. -/
def KIns.stores (i : KIns) : Bool := kOp i.word == 0x1D

/-- An earlier write of the core to the same sector is not acknowledged (R369): sent, queued in its Reckoner, or an AMO. -/
def sectorHeld (k : Core) (a : Nat) : Bool :=
  k.writes.any (fun w => w.sec == a / 64) || k.kq.any (fun i => i.stores && i.addr / 64 == a / 64)
    || k.outs.any (fun o => match o.req with | .amo _ _ _ => o.addr / 64 == a / 64 | _ => false)

/-- g-loads and atomics, and sector loads, that are outstanding, those of earlier instances among them (R354). -/
def Core.loads (k : Core) : Nat := (k.outs.filter (fun o => o.req != .kld)).length + (k.old.filter (fun o => !o.2)).length
def Core.klds (k : Core) : Nat := (k.outs.filter (fun o => o.req == .kld)).length + (k.old.filter (fun o => o.2)).length

/-- A free TAG of the core's agent, searched from the core's own counter. -/
def freeTag (s : State) (c : Nat) : Option Nat :=
  let k := coreAt s c
  ((List.range 128).map (fun j => (k.tag + j) % 65535)).find? (fun t =>
    (mapFind s.msh.outst (outKey (c / 2) (c % 2) t)).isNone)

/-- The flit of a core's access to a Reef address (R365, R366). -/
def coreFlit (k : Core) (op tag a : Nat) (pay : Sector) (tally : BitVec 32) (poison : Bool) : Flit :=
  { hdr := unicastHdr { vc := 2, op := op, dst := ((reefPlace a).map (fun p => p.tile)).getD 0, dstAgent := 2, tag := tag,
                        addr := a / 64 * 64, mark := k.mark, share := k.share, poison := poison }
    pay := pay, tally := tally, crc := 0 }

/-- Sends a core's access with TAG `tag`. -/
def coreSend (c op tag a : Nat) (pay : Sector) (tally : BitVec 32) (poison : Bool) (s : State) : State :=
  let f := coreFlit (coreAt s c) op tag a pay tally poison
  inject (c / 2) (c % 2) f (expect (c / 2) (c % 2) f 0 s)

/-- The payload of an ATOMIC flit (R367). -/
def atomicPay (aop size byte : Nat) (x cmp : BitVec 64) : Sector :=
  BitVec.ofNat 512 (packB [(0, 1, aop), (1, 1, size), (2, 1, byte), (8, 8, x.toNat % 2 ^ (8 * 2 ^ size)),
    (16, 8, cmp.toNat % 2 ^ (8 * 2 ^ size))])

/-- A g-load of n bytes (R354, R362, R363, R365, R369). -/
def gLoad (o n : Nat) (signed : Bool) (c : CoreId) (s : State) : State :=
  issue c (isOp o) (fun w => [kF11 w]) (fun k w s =>
    let a := (k.gr (kF11 w) + kSimm w).toNat
    let e := accessCause k a n 0
    if e ≠ 0 then takeExc c e false k.pc a 0 s
    else if sectorHeld k a then s
    else if inScratch a n then setCore c ((k.wr (kF6 w) (loadValue (scratchRead k a n) n signed)).retire) s
    else
      match freeTag s c with
      | none => s
      | some t =>
        if 16 ≤ k.loads then s
        else
          let out : KOut := { tag := t, tok := k.serial, req := .load (kF6 w) n signed (a % 64), pc := k.pc, addr := a }
          let k1 := ((k.await (kF6 w)).retire)
          setCore c { k1 with outs := k1.outs ++ [out], tag := t + 1 } (coreSend c 0 t a 0 0 false s)) s

def execLdbu (c : CoreId) (s : State) : Result := .next (gLoad 0x10 1 false c s)
def execLdhu (c : CoreId) (s : State) : Result := .next (gLoad 0x11 2 false c s)
def execLdwu (c : CoreId) (s : State) : Result := .next (gLoad 0x12 4 false c s)
def execLdws (c : CoreId) (s : State) : Result := .next (gLoad 0x13 4 true c s)
def execLdd (c : CoreId) (s : State) : Result := .next (gLoad 0x14 8 false c s)

/-- A g-store of 2^size bytes: one ATOMIC flit with AOP 0 (R366). -/
def gStore (o size : Nat) (c : CoreId) (s : State) : State :=
  issue c (isOp o) (fun w => [kF6 w, kF11 w]) (fun k w s =>
    let a := (k.gr (kF11 w) + kSimm w).toNat
    let n := 2 ^ size
    let e := accessCause k a n 1
    if e ≠ 0 then takeExc c e false k.pc a 0 s
    else if sectorHeld k a then s
    else if inScratch a n then setCore c ((scratchWrite a n (k.gr (kF6 w)).toNat k).retire) s
    else
      match freeTag s c with
      | none => s
      | some t =>
        if 32 ≤ k.writes.length then s
        else
          let k1 := k.retire
          let x : KWr := { tag := t, sec := a / 64, pc := k.pc, addr := a, kst := false }
          setCore c { k1 with writes := k1.writes ++ [x], tag := t + 1 }
            (coreSend c 3 t a (atomicPay 0 size (a % 64) (k.gr (kF6 w)) 0) 0 false s)) s

def execStb (c : CoreId) (s : State) : Result := .next (gStore 0x18 0 c s)
def execSth (c : CoreId) (s : State) : Result := .next (gStore 0x19 1 c s)
def execStw (c : CoreId) (s : State) : Result := .next (gStore 0x1A 2 c s)
def execStd (c : CoreId) (s : State) : Result := .next (gStore 0x1B 3 c s)

/-- An AMO: one ATOMIC flit with its AOP (R366); in the scratch it takes effect at once. -/
def amo (aop : Nat) (c : CoreId) (s : State) : State :=
  issue c (isAmo aop) (fun w => [kF11 w, kF16 w] ++ (if aop = 3 then [kF6 w] else [])) (fun k w s =>
    let a := (k.gr (kF11 w)).toNat
    let size := kFn w / 8
    let n := 2 ^ size
    let e := accessCause k a n 2
    if e ≠ 0 then takeExc c e false k.pc a 0 s
    else if sectorHeld k a then s
    else if inScratch a n then
      let old := scratchRead k a n
      let new := atomicNew aop old ((k.gr (kF16 w)).toNat % 2 ^ (8 * n)) ((k.gr (kF6 w)).toNat % 2 ^ (8 * n)) (8 * n)
      setCore c (((scratchWrite a n new k).wr (kF6 w) (BitVec.ofNat 64 old)).retire) s
    else
      match freeTag s c with
      | none => s
      | some t =>
        if 16 ≤ k.loads then s
        else
          let out : KOut := { tag := t, tok := k.serial, req := .amo (kF6 w) n (a % 64), pc := k.pc, addr := a }
          let k1 := ((k.await (kF6 w)).retire)
          setCore c { k1 with outs := k1.outs ++ [out], tag := t + 1 }
            (coreSend c 3 t a (atomicPay aop size (a % 64) (k.gr (kF16 w)) (if aop = 3 then k.gr (kF6 w) else 0)) 0 false s)) s

def execAmoAdd (c : CoreId) (s : State) : Result := .next (amo 1 c s)
def execAmoSwap (c : CoreId) (s : State) : Result := .next (amo 2 c s)
def execAmoCas (c : CoreId) (s : State) : Result := .next (amo 3 c s)
def execAmoMaxu (c : CoreId) (s : State) : Result := .next (amo 4 c s)
def execAmoMinu (c : CoreId) (s : State) : Result := .next (amo 5 c s)
def execAmoOr (c : CoreId) (s : State) : Result := .next (amo 6 c s)
def execAmoAnd (c : CoreId) (s : State) : Result := .next (amo 7 c s)

/-! ### Answers (R369, R401-R404) -/

/-- The first answer that has reached a core's agent and satisfies a condition on its TAG. -/
def coreAnswer (s : State) (c : Nat) (p : Nat → Bool) : Option Answer :=
  (answersOf s (c / 2) (c % 2)).find? (fun a => match a with
    | .data t _ _ _ _ => p t
    | .ack t _ => p t
    | .atomic t _ _ => p t
    | .error t _ => p t
    | .mcastDone _ => false)

/-- Takes an answer out of the core's agent. -/
def dropAnswer (c : Nat) (a : Answer) (s : State) : State :=
  setAnswers (c / 2) (c % 2) ((answersOf s (c / 2) (c % 2)).erase a) s

/-- The Reckoner executes no further instruction and its queue is discarded (R403). -/
def Core.stopK (k : Core) : Core := { k with kstop := true, kq := [] }

/-- Data reaches a core for one of its accesses: a g register, with POISON as a late error, or the queue entry of a KLD
(R386, R398, R401, R404). -/
def landData (o : KOut) (d : Sector) (poison : Bool) (k : Core) : Core :=
  let k := if poison && k.poisonAt.isNone then { k with poisonAt := some (o.addr / 64 * 64) } else k
  let toG := fun (rd n : Nat) (signed : Bool) (off : Nat) =>
    if poison then k.lateErr 8 o.pc (k.poisonAt.getD 0) 0 else k.land rd o.tok (loadValue (secField d off n) n signed)
  match o.req with
  | .load rd n signed off => toG rd n signed off
  | .amo rd n off => toG rd n false off
  | .kld => { k with kq := k.kq.map (fun i => if i.tok = o.tok then { i with data := some (d, poison) } else i) }

/-- An ERROR or a timeout answers an access: a late MEMERR; the Reckoner's own stops it (R401, R403). -/
def landError (o : KOut) (st : Nat) (k : Core) : Core :=
  let k1 := k.lateErr 7 o.pc o.addr (st % 256)
  if o.req = .kld then k1.stopK else k1

/-- LOAD_RESPONSE (R402): the oldest answer to a load, atomic or KLD of a core; that to a load of an earlier instance is
dropped. -/
def loadResponse (c : Nat) (s : State) : State :=
  let k := coreAt s c
  match coreAnswer s c (fun t => !(k.writes.any (fun w => w.tag == t))) with
  | none => s
  | some a =>
    let s1 := dropAnswer c a s
    let run := fun (t : Nat) (f : KOut → Core → Core) =>
      match k.outs.find? (fun o => o.tag == t) with
      | none => setCore c { k with old := k.old.filter (fun o => o.1 != t) } s1
      | some o => setCore c (f o { k with outs := k.outs.erase o }) s1
    match a with
    | .data t _ d p _ => run t (fun o => landData o d p)
    | .atomic t d p => run t (fun o => landData o d p)
    | .error t st => run t (fun o => landError o st)
    | _ => s1

def execLoadResponse (c : CoreId) (s : State) : Result := .next (onlyIf (coreRuns s c) (loadResponse c) s)

/-- WRITE_ACK (R369): the oldest answer to a write of a core; an ended core without further writes is idle. -/
def writeAck (c : Nat) (s : State) : State :=
  let k := coreAt s c
  match coreAnswer s c (fun t => k.writes.any (fun w => w.tag == t)) with
  | none => s
  | some a =>
    let s1 := dropAnswer c a s
    let done := fun (t st : Nat) =>
      match k.writes.find? (fun w => w.tag == t) with
      | none => s1
      | some w =>
        let k1 := { k with writes := k.writes.erase w }
        let k2 := if st = 0 ∨ k.ended = true then k1
          else
            let k3 := k1.lateErr 7 w.pc w.addr (st % 256)
            if w.kst then k3.stopK else k3
        setCore c (if k2.ended && k2.writes.isEmpty then idleCore k2 else k2) (fencePaid c t s1)
    match a with
    | .error t st => done t st
    | .ack t _ => done t 0
    | .data t _ _ _ _ => done t 0
    | .atomic t _ _ => done t 0
    | .mcastDone _ => s1

def execWriteAck (c : CoreId) (s : State) : Result := .next (onlyIf (coreRuns s c) (writeAck c) s)

/-! ### Counters (R382-R384) -/

/-- CNT: an index at or above CCOUNT raises CNTLIM; staged updates join the launch, at most 16 of an instance. -/
def cntOp (fn : Nat) (reads : KWord → List Nat) (f : Core → KWord → KPend → Nat → State → State) (c : CoreId) (s : State) :
    State :=
  issue c (isCnt fn) reads (fun k w s =>
    match k.job with
    | none => s
    | some j =>
      let x := queueAt s j.queue
      let i := (k.gr (kF11 w)).toNat
      if x.ccount ≤ i then takeExc c 5 false k.pc 0 0 s else f k w j (x.cbase + i) s) s

/-- Stages an update of counter i. -/
def stageCnt (set : Bool) (c : Nat) (k : Core) (w : KWord) (j : KPend) (i : Nat) (s : State) : State :=
  if 16 ≤ k.staged then takeExc c 5 false k.pc 0 0 s
  else
    modLaunch j (fun l => { l with counters := l.counters ++ [(j.index, i, set, (k.gr (kF16 w)).toNat)] })
      (setCore c { k.retire with staged := k.staged + 1 } s)

def execCntAdd (c : CoreId) (s : State) : Result :=
  .next (cntOp 0 (fun w => [kF11 w, kF16 w]) (stageCnt false c) c s)

def execCntSet (c : CoreId) (s : State) : Result :=
  .next (cntOp 1 (fun w => [kF11 w, kF16 w]) (stageCnt true c) c s)

def execCntRead (c : CoreId) (s : State) : Result :=
  .next (cntOp 2 (fun w => [kF11 w])
    (fun k w _ i s => setCore c ((k.wr (kF6 w) (BitVec.ofNat 64 (counterAt s i))).retire) s) c s)

/-! ### CSRs (R400) -/

/-- The flags of the accumulators: NONFINITE in bits 3 to 0, POISON in bits 7 to 4. -/
def accFlags (k : Core) : Nat :=
  ((List.range 4).map (fun n => let a : KAcc := mapGet k.a n {}
    boolNat a.nonfinite * 2 ^ n + boolNat a.poison * 2 ^ (4 + n))).sum

/-- The value of a CSR other than CYCLE. -/
def csrValue (k : Core) (n : Nat) : Nat :=
  match n with
  | 1 => k.retired
  | 2 => (k.job.map (fun j => j.launch)).getD 0
  | 0x14 => k.rctr.toNat
  | 0x20 => k.kq.length + boolNat k.late.isSome * 2 ^ 6
  | 0x21 => accFlags k
  | _ => bitsAt k.seed (64 * (n % 4)) 64

/-- CSRR: CYCLE counts frame-clock cycles, which the model does not (log entry 64). -/
def execCsrr (c : CoreId) (s : State) : Result :=
  .next (issue c (isOp 0x30) (fun _ => []) (fun k w s =>
    if kImm w = 0 then
      let (v, s1) := draw 64 s
      setCore c ((k.wr (kF6 w) v).retire) s1
    else setCore c ((k.wr (kF6 w) (BitVec.ofNat 64 (csrValue k (kImm w)))).retire) s) s)

/-- Writes RSEED0-3 or RCTR. -/
def csrSet (n : Nat) (v : BitVec 64) (k : Core) : Core :=
  if n = 0x14 then { k with rctr := v.extractLsb' 0 32 }
  else
    let at_ := 64 * (n % 4)
    let keep := bitsAt k.seed 0 at_ + bitsAt k.seed (at_ + 64) 256 * 2 ^ (at_ + 64)
    { k with seed := BitVec.ofNat 256 (keep + v.toNat * 2 ^ at_) }

def execCsrw (c : CoreId) (s : State) : Result :=
  .next (issue c (isOp 0x31) (fun w => [kF11 w])
    (fun k w s => setCore c ((csrSet (kImm w) (k.gr (kF11 w)) k).retire) s) s)

/-! ### SYS (R401, R402) -/

/-- A synchronisation point: it takes a pending late exception, waits, or goes on with `f`. -/
def syncPoint (imm : Nat) (ready : Core → Bool) (f : Core → State → State) (c : CoreId) (s : State) : State :=
  issue c (isSys imm) (fun _ => []) (fun k _ s =>
    match k.late with
    | some l => takeLate c l s
    | none => if ready k then f k s else s) s

/-- The Reckoner queue is empty and every load response has arrived. -/
def Core.synced (k : Core) : Bool := k.kq.isEmpty && k.outs.isEmpty

def execKsync (c : CoreId) (s : State) : Result :=
  .next (syncPoint 2 Core.synced (fun k s => setCore c k.retire s) c s)

def execWack (c : CoreId) (s : State) : Result :=
  .next (syncPoint 1 (fun k => k.synced && k.writes.isEmpty) (fun k s => setCore c k.retire s) c s)

def execExit (c : CoreId) (s : State) : Result :=
  .next (syncPoint 0 (fun k => k.synced && k.writes.isEmpty) (fun _ s => endInstance c s) c s)

def execTrap (c : CoreId) (s : State) : Result :=
  .next (issue c (isSys 3) (fun _ => []) (fun k _ s => takeExc c 6 false k.pc 0 0 s) s)

/-- ILLEGAL_INSTRUCTION (R358, R359, R400, R401). -/
def illegalInstruction (c : Nat) (s : State) : State :=
  let k := coreAt s c
  if !coreRuns s c || !k.active then s
  else
    match k.fetch with
    | none => s
    | some w => if legal k.device w then s else takeExc c 2 false k.pc 0 0 s

def execIllegalInstruction (c : CoreId) (s : State) : Result := .next (illegalInstruction c s)

/-- INSTRUCTION_FETCH_FAULT (R364, R401). -/
def fetchFault (c : Nat) (s : State) : State :=
  let k := coreAt s c
  if coreRuns s c && k.active && k.fetchBad then takeExc c 1 false k.pc 0 0 s else s

def execInstructionFetchFault (c : CoreId) (s : State) : Result := .next (fetchFault c s)

end Sys2Proof.Machine
end

