-- ==== Sys2Proof/Machine/Prbs.lean ====
section
/-! DEFINITION. The pattern generators and checkers of a Tideway lane (R592): PRBS7, PRBS15 and PRBS31. A register holds the
last bits of a pattern, the newest in bit 0. -/

namespace Sys2Proof.Machine

/-- The exponents of a pattern's polynomial, by TWY_TEST.PRBS: x⁷ + x⁶ + 1, x¹⁵ + x¹⁴ + 1, x³¹ + x²⁸ + 1; none for 0. -/
def prbsTaps (kind : Nat) : Option (Nat × Nat) :=
  match kind with
  | 1 => some (7, 6)
  | 2 => some (15, 14)
  | 3 => some (31, 28)
  | _ => none

/-- The next bit of a pattern. -/
def prbsNext (taps : Nat × Nat) (r : BitVec 31) : Bool := xor (r.getLsbD (taps.1 - 1)) (r.getLsbD (taps.2 - 1))

/-- A register after one more bit. -/
def prbsShift (r : BitVec 31) (b : Bool) : BitVec 31 := (r <<< 1) ||| (if b then 1 else 0)

/-- The generator: the next `n` bits of a pattern, and its register after them. -/
def prbsRun (taps : Nat × Nat) : Nat → BitVec 31 → List Bool × BitVec 31
  | 0, r => ([], r)
  | n + 1, r =>
    let b := prbsNext taps r
    let (bs, r1) := prbsRun taps n (prbsShift r b)
    (b :: bs, r1)

/-- One received bit: until the register is full the checker takes the bit in; then it runs by itself and counts the bits that
differ from its own (log entry 119). A register of zeros is no state of a pattern. -/
def prbsTake (taps : Nat × Nat) (c : PrbsChk) (b : Bool) : PrbsChk :=
  if c.seen < taps.1 then
    let r := prbsShift c.reg b
    { c with reg := r, seen := if c.seen + 1 = taps.1 ∧ r.toNat % 2 ^ taps.1 = 0 then 0 else c.seen + 1 }
  else
    let x := prbsNext taps c.reg
    { c with reg := prbsShift c.reg x, errs := c.errs + (if x = b then 0 else 1) }

/-- The checker after the bits of a window. -/
def prbsCheck (taps : Nat × Nat) (c : PrbsChk) (bits : List Bool) : PrbsChk := bits.foldl (prbsTake taps) c

end Sys2Proof.Machine
end

