-- ==== Sys2Proof/Machine/Shoreline.lean ====
section
/-! DEFINITION. Shoreline ports (11): frames, slots and replay on the receiving side, the port's states, negotiation, and
what a compute die's messages do. The sending side is in Machine/Links.lean. -/

namespace Sys2Proof.Machine

/-! ### Slots (R516-R521) -/

/-- Fields of a slot header (R518), its payload and TALLY (R516). -/
def slotVc (b : BitVec 640) : Nat := bitsAt b 0 2
def slotOp (b : BitVec 640) : Nat := bitsAt b 2 4
def slotLen (b : BitVec 640) : Nat := bitsAt b 6 4
def slotPoison (b : BitVec 640) : Bool := bitAt b 10
def slotView (b : BitVec 640) : Bool := bitAt b 12
def slotTag (b : BitVec 640) : Nat := bitsAt b 16 12
def slotMark (b : BitVec 640) : Nat := bitsAt b 28 16
def slotTarget (b : BitVec 640) : Nat := bitsAt b 44 26
def slotPay (b : BitVec 640) : Sector := b.extractLsb' 96 512
def slotTally (b : BitVec 640) : BitVec 32 := b.extractLsb' 608 32

/-- A null slot: its 12 header bytes are 0 (R516). -/
def slotNull (b : BitVec 640) : Bool := bitsAt b 0 96 == 0

/-- The address bits that a READ or WRITE names (R518). -/
def slotAddr (b : BitVec 640) : Nat := slotTarget b * 64

/-- The virtual channels on which an upstream OP is valid, on a port with URGENT or without (R519, R535). -/
def upstreamVcs (urgent : Bool) (op : Nat) : List Nat :=
  let u := if urgent then 0 else 1
  match op with
  | 0x0 | 0x1 => [2]
  | 0x5 => [3, u]
  | 0x8 | 0xA => [u]
  | 0xB | 0xC => [1]
  | _ => []

/-- The bits of TARGET that an OP uses (R518). -/
def targetBits (op : Nat) : Nat :=
  match op with
  | 0x0 | 0x1 => 26
  | 0x8 => 12
  | 0xA => 10
  | 0xB | 0xC => 18
  | _ => 0

/-- A slot that R521 lets pass: OP, VC and direction, reserved fields, the extent of a READ (R520). Byte 8 of a COUNTER beyond
1, and its bytes 9-11 other than 0, count as reserved fields (log entry 115). -/
def slotOk (urgent : Bool) (b : BitVec 640) : Bool :=
  let op := slotOp b
  (upstreamVcs urgent op).contains (slotVc b) && bitsAt b 13 3 == 0 && bitsAt b 70 26 == 0
    && decide (slotTarget b < 2 ^ targetBits op)
    && (if op = 0 then decide (slotTarget b % 16 + slotLen b < 16) else slotLen b == 0)
    && (op != 0xB || (decide (secField (slotPay b) 8 1 ≤ 1) && secField (slotPay b) 9 3 == 0))

/-- Sends an ERROR slot with a STATUS (R519, R523). -/
def shlError (p tag mark status : Nat) (s : State) : State :=
  shlSend p 3 (shlSlot 3 0x6 0 false false false tag mark 0 (BitVec.ofNat 512 status) 0) s

/-- Sends an ACK slot on the response VC (R519). -/
def shlAckSlot (p tag mark : Nat) (poison : Bool) (s : State) : State :=
  shlSend p 3 (shlSlot 3 0x5 0 poison false false tag mark 0 0 0) s

/-- Adds `n` credits that are to be returned for a VC (R525). -/
def shlOwe (vc n : Nat) (x : ShlPort) : ShlPort :=
  { x with giveBack := mapSet x.giveBack vc 0 (mapGet x.giveBack vc 0 + n) }

/-- Returns what is owed in a frame of its own when no message carries it (R525). -/
def shlReturn (p : Nat) (s : State) : State :=
  if (portAt s p).giveBack = [] then s else shlNull p false s

/-! ### Failure (R557) -/

/-- A counter lies in a port's counter window. -/
def inCntWin (s : State) (p i : Nat) : Bool :=
  let b := getF s F.SHL_CNTWIN.BASE p
  decide (b ≤ i ∧ i < b + getF s F.SHL_CNTWIN.COUNT p)

/-- The commands of a batch that depend on a port's compute die and have not completed: RECKONs that name it and WAITs on
its counter window (R557). -/
def dependents (s : State) (p : Nat) (x : TQueue) (b : Batch) : List Nat :=
  (List.range b.cmds.length).filter (fun k =>
    let c := wordAt b.words k
    (b.statusOf k).isNone
      && ((cOp c == 0x20 && (cPorts c).testBit p) || (cOp c == 6 && inCntWin s p (x.cbase + cCounter c))))

/-- Ends what a batch has at work for a failed compute die, and marks what it has yet to reach. -/
def loseBatch (p q : Nat) (b : Batch) (s : State) : State :=
  let x := queueAt s q
  let l := dependents s p x b
  let s1 := modBatch q b.first (fun c => { c with lost := (c.lost ++ l).eraseDups }) s
  let s2 := (b.insts.filter (fun i => l.contains i.idx && i.phase == .run)).foldl
    (fun u i => failInst q b.first i.dseq Status.TQ_COMPUTE true u) s1
  if b.waiting && l.contains b.seq.pos then
    match (queueAt s2 q).batches.find? (fun c => c.first == b.first) with
    | some c => waitEnd q Status.TQ_COMPUTE c s2
    | none => s2
  else s2

/-- A port enters FAILED from ACTIVE or RETRAIN (R557). -/
def shlFail (p : Nat) (s : State) : State :=
  let s1 := post { code := Ev.SHL_DOWN, inst := p } (setF F.SHL_PSTAT.STATE p 5 s)
  let s2 := setPort p { portAt s1 p with open_ := [], txq := [], replay := [], rx := [], watches := [], fences := [] } s1
  s2.tq.queues.foldl (fun u (e : Nat × TQueue) =>
    (e.2.batches.filter (fun b => b.accepted)).foldl (fun v b => loseBatch p e.1 b v) u) s2

/-! ### Replay and retraining (R526-R533) -/

/-- The port begins a retrain (R530). -/
def shlRetrain (p : Nat) (s : State) : State :=
  bump F.SHL_RETRAIN.COUNT p (setF F.SHL_PSTAT.STATE p 4 s)

/-- Resends every buffered frame (R528); a frame resent eight times, or too many replays in a millisecond, begin a
retrain (R530). -/
def shlReplay (p : Nat) (s : State) : State :=
  let x := portAt s p
  if x.replay = [] then s
  else
    let fresh := decide (25000 ≤ s.time - x.replayAt)
    let n := if fresh then 1 else x.replaysMs + 1
    let x1 := { x with resends := x.resends + 1, replaysMs := n, replayAt := if fresh then s.time else x.replayAt }
    let s1 := bump F.SHL_REPLAY.COUNT p (setPort p x1 s)
    let s2 := { s1 with out := s1.out ++ x.replay.map (fun (f : Nat × BitVec 2048) => Out.shlFrame p f.2) }
    if 8 ≤ x1.resends ∨ getF s F.SHL_CTL.REPLAY_LIM < n then shlRetrain p s2 else s2

/-- Takes an ACKSEQ: frames up to it leave the replay buffer (R526). -/
def shlAcked (a : Nat) (x : ShlPort) : ShlPort :=
  match x.replay.findIdx? (fun f => f.1 == a) with
  | none => x
  | some k => { x with replay := x.replay.drop (k + 1), resends := 0 }

/-- Takes a received slot (R521). -/
def shlTakeSlot (p : Nat) (b : BitVec 640) (s : State) : State :=
  if slotNull b then s
  else
    let vc := slotVc b
    if slotOk (flag s F.SHL_PSTAT.URGENT p) b then
      let x := portAt s p
      setPort p { x with rx := mapIns x.rx vc (mapGet x.rx vc [] ++ [(x.rxSeq, b)]), rxSeq := x.rxSeq + 1 } s
    else
      let s1 := setPort p (shlOwe vc 1 (portAt s p)) s
      let s2 := post { code := Ev.SHL_BADSLOT, inst := p } s1
      if vc = 2 then shlError p (slotTag b) (slotMark b) Status.SHL_BADSLOT s2 else s2

/-- A frame's fields (R515). -/
def frFseq (fr : BitVec 2048) : Nat := byteField fr 240 2
def frAck (fr : BitVec 2048) : Nat := byteField fr 242 2
def frSlot (fr : BitVec 2048) (k : Nat) : BitVec 640 := fr.extractLsb' (640 * k) 640

/-- Asks for a replay, once per gap (R527). -/
def shlNak (p : Nat) (s : State) : State :=
  let x := portAt s p
  if x.nakSent then s else shlNull p true (setPort p { x with nakSent := true } s)

/-- The acknowledgement that a frame carries, and its NAK (R526, R528). -/
def shlAckNak (p : Nat) (fr : BitVec 2048) (s : State) : State :=
  let s1 := setPort p (shlAcked (frAck fr) (portAt s p)) s
  if bitAt fr (248 * 8) then shlReplay p s1 else shlFlush p s1

/-- The credits that a frame returns (R525). -/
def shlCredits (fr : BitVec 2048) (x : ShlPort) : ShlPort :=
  (List.range 4).foldl (fun y v =>
    { y with credit := mapSet y.credit v 0 (mapGet y.credit v 0 + byteField fr (244 + v) 1) }) x

/-- SHL_FRAME_RECEIVE (R526-R529): a damaged frame is discarded and a replay asked for; a frame received before takes no
effect but its acknowledgement; the expected one gives its credits and its slots. -/
def shlReceive (p : Nat) (fr : BitVec 2048) (s : State) : State :=
  let x := portAt s p
  if byteField fr 252 4 != (crc32c (byteSlice fr 0 252)).toNat then shlNak p (bump F.SHL_CRCERR.COUNT p s)
  else
    let ahead := (frFseq fr + 65536 - x.rxNext % 65536) % 65536
    if ahead = 0 then
      let s1 := setPort p { shlCredits fr x with rxNext := x.rxNext + 1, nakSent := false } s
      let s2 := shlAckNak p fr s1
      let sent := s2.out.length
      let s3 := (List.range 3).foldl (fun u k => shlTakeSlot p (frSlot fr k) u) s2
      if s3.out.length = sent then shlNull p false s3 else s3
    else if ahead < 32768 then shlNak p s
    else shlNull p false (shlAckNak p fr s)

def execShlFrameReceive (p : PortId) (fr : BitVec 2048) (s : State) : Result :=
  .next (onlyIf (clocksRun s && portState s p == 3) (shlReceive p fr) s)

/-- SHL_REPLAY_TIMEOUT (R528). -/
def execShlReplayTimeout (p : PortId) (s : State) : Result :=
  .next (onlyIf (clocksRun s && portState s p == 3) (shlReplay p) s)

/-- The widest set of modules that R513 permits among those of a mask, coded as in SHL_PCTL.MODS; none where no module
trains. -/
def widest (mask : Nat) : Option Nat :=
  if mask % 16 = 15 then some 2
  else if mask % 4 = 3 ∨ mask / 4 % 4 = 3 then some 1
  else if mask % 16 ≠ 0 then some 0
  else none

/-- SHL_RETRAIN_DONE (R531-R533): the highest rate at or below the present one at which modules train, and those modules;
the sender resends from the last ACKSEQ. -/
def shlRetrained (p rate mask : Nat) (s : State) : State :=
  let r0 := getF s F.SHL_PSTAT.RATE p
  let m0 := getF s F.SHL_PSTAT.MODS p
  match widest mask with
  | none => s
  | some w =>
    if r0 < rate then s
    else
      let m := min m0 w
      let s1 := setF F.SHL_PSTAT.STATE p 3 (setF F.SHL_PSTAT.RATE p rate (setF F.SHL_PSTAT.MODS p m s))
      let s2 := if m < m0 ∨ rate < r0 then post { code := Ev.SHL_NARROW, inst := p } s1 else s1
      let x := portAt s2 p
      let s3 := setPort p { x with resends := 0, replaysMs := 0, nakSent := false } s2
      shlFlush p { s3 with out := s3.out ++ x.replay.map (fun (f : Nat × BitVec 2048) => Out.shlFrame p f.2) }

def execShlRetrainDone (p : PortId) (rate : Fin 6) (mods : Fin 16) (s : State) : Result :=
  .next (onlyIf (clocksRun s && portState s p == 4) (shlRetrained p rate mods) s)

/-- SHL_RETRAIN_TIMEOUT (R556): no module trains at code 0, or tSRT passes. -/
def execShlRetrainTimeout (p : PortId) (s : State) : Result :=
  .next (onlyIf (clocksRun s && portState s p == 4) (shlFail p) s)

/-! ### Bring-up (R534, R535, R546, R556) -/

/-- What a port keeps when its link ends: the count of applied CSEQs (R545), FRESH (R546), its TAGs. -/
def ShlPort.dropped (x : ShlPort) : ShlPort :=
  { cseq := x.cseq, fresh := x.fresh, nextTag := x.nextTag }

/-- The port leaves DOWN (R556). -/
def shlStart (p : Nat) (s : State) : State :=
  setPort p (portAt s p).dropped (setF F.SHL_PSTAT.STATE p 1 s)

/-- SHL_PORT_ENABLE (R556): EN written from 0 to 1. -/
def shlEnable (p : Nat) (s : State) : State :=
  let was := flag s F.SHL_PCTL.EN p
  let s1 := setF F.SHL_PCTL.EN p 1 s
  if !was && portState s p == 0 && clocksRun s then shlStart p s1 else s1

def execShlPortEnable (p : PortId) (s : State) : Result := .next (onlyIf (barOpen s) (shlEnable p) s)

/-- SHL_PORT_DISABLE (R556): EN written to 0 takes a FAILED port to DOWN; in another state the port stays as it is (log
entry 76). -/
def shlDisable (p : Nat) (s : State) : State :=
  let s1 := setF F.SHL_PCTL.EN p 0 s
  if portState s p = 5 then setPort p (portAt s1 p).dropped (setF F.SHL_PSTAT.STATE p 0 s1) else s1

def execShlPortDisable (p : PortId) (s : State) : Result := .next (onlyIf (barOpen s) (shlDisable p) s)

/-- The capability block that the die sends (R534): the Strel-3 and version 1.2; the features are URGENT, TALLY and TELEM,
and FRESH under R546 (log entry 76). -/
def ownCap (fresh : Bool) : BitVec 256 :=
  BitVec.ofNat 256 (packB [(0, 2, 1), (2, 2, 0), (4, 1, 1), (5, 1, 2), (6, 1, 7), (7, 1, 5), (8, 1, 7 + 8 * boolNat fresh),
    (12, 1, 4), (13, 1, 16), (14, 2, 96)])

/-- SHL_LINK_UP (R534, R556): the link is active on the modules and up to the rate given; the block is sent. -/
def shlUp (p rate mods : Nat) (s : State) : State :=
  if mods = 0 then s
  else
    let x := portAt s p
    let s1 := setPort p { x with train := (mods, rate) } (setF F.SHL_PSTAT.STATE p 2 s)
    { s1 with out := s1.out ++ [.shlCap p (ownCap x.fresh)] }

def execShlLinkUp (p : PortId) (rate : Fin 6) (mods : Fin 16) (s : State) : Result :=
  .next (onlyIf (clocksRun s && portState s p == 1) (shlUp p rate mods) s)

/-- SHL_TRAIN_TIMEOUT (R556, R58). -/
def execShlTrainTimeout (p : PortId) (s : State) : Result :=
  .next (onlyIf (clocksRun s && portState s p == 1)
    (fun t => post { code := Ev.SHL_ABSENT, inst := p } (setF F.SHL_PSTAT.STATE p 0 t)) s)

/-- Negotiation fails: FAILED with SHL_VERSION (R535, R556). -/
def shlRefuse (p : Nat) (s : State) : State :=
  post { code := Ev.SHL_VERSION, inst := p } (setF F.SHL_PSTAT.STATE p 5 s)

/-- The most modules that both sides, SHL_PCTL.MODS and the training support (R535). -/
def capModules (s : State) (p theirs mask : Nat) : Option Nat :=
  match widest mask with
  | none => none
  | some w => [2, 1, 0].find? (fun m => theirs.testBit m && decide (m ≤ getF s F.SHL_PCTL.MODS p) && decide (m ≤ w))

/-- SHL_CAPABILITY_RECEIVE (R535, R546): the outcome of negotiation, or FAILED. -/
def shlNegotiate (p : Nat) (blk : BitVec 256) (s : State) : State :=
  let by_ := fun (i w : Nat) => byteField blk i w
  let s1 := (List.range 8).foldl (fun u j => setReg .SHL_CAP (8 * p + j) (blk.extractLsb' (32 * j) 32) u) s
  let s2 := setF F.SHL_PSTAT.VER_MAJOR p (by_ 4 1) (setF F.SHL_PSTAT.VER_MINOR p (by_ 5 1) s1)
  let x := portAt s p
  match capModules s p (by_ 6 1) x.train.1 with
  | none => shlRefuse p s2
  | some m =>
    if by_ 4 1 ≠ 1 ∨ by_ 12 1 < 2 ∨ by_ 13 1 < 4 ∨ by_ 14 2 < 48 then shlRefuse p s2
    else
      let rate := min (min (by_ 7 1) 5) (min (getF s F.SHL_PCTL.MAXRATE p) x.train.2)
      let s3 := setF F.SHL_PSTAT.MODS p m (setF F.SHL_PSTAT.RATE p rate s2)
      let s4 := setF F.SHL_PSTAT.URGENT p (by_ 8 1 % 2) (setF F.SHL_PSTAT.TALLY p (by_ 8 1 / 2 % 2)
        (setF F.SHL_PSTAT.TELEM p (by_ 8 1 / 4 % 2) s3))
      let fresh := x.fresh || by_ 8 1 / 8 % 2 == 1
      let credit : Map Nat := [(0, by_ 12 1), (1, by_ 13 1), (3, by_ 14 2)]
      setF F.SHL_PSTAT.STATE p 3
        (setPort p { x.dropped with credit := credit, cseq := if fresh then 0 else x.cseq, fresh := false } s4)

def execShlCapabilityReceive (p : PortId) (blk : BitVec 256) (s : State) : Result :=
  .next (onlyIf (clocksRun s && portState s p == 2) (shlNegotiate p blk) s)

/-- SHL_NEGOTIATE_TIMEOUT (R556). -/
def execShlNegotiateTimeout (p : PortId) (s : State) : Result :=
  .next (onlyIf (clocksRun s && portState s p == 2) (shlRefuse p) s)

/-- SHL_LINK_DOWN (R556, R557). -/
def execShlLinkDown (p : PortId) (s : State) : Result :=
  .next (onlyIf (clocksRun s && portState s p == 3) (shlFail p) s)

/-! ### Requests (R537-R543) -/

/-- The attachment tiles of a port along its edge, and their agent (R57, R82). -/
def portEdge (p : Nat) : Nat × Nat × Nat :=
  [(4, 6, 17), (4, 30, 41), (5, 4, 11), (5, 20, 27), (6, 30, 41), (6, 6, 17), (7, 20, 27), (7, 4, 11)].getD p (4, 6, 17)

/-- The tile at which a port injects a request for a target tile, and the agent there (R539). -/
def portTile (p u : Nat) : Nat × Nat :=
  let (a, lo, hi) := portEdge p
  let at_ := fun (v : Nat) => max lo (min hi v)
  match a with
  | 4 => (tileAt (at_ (tileX u)) 0, 4)
  | 5 => (tileAt 47 (at_ (tileY u)), 5)
  | 6 => (tileAt (at_ (tileX u)) 31, 6)
  | _ => (tileAt 0 (at_ (tileY u)), 7)

/-- The die-local address that a slot names in its view (R222, R537). -/
def slotLocal (b : BitVec 640) : Nat := if slotView b then localBase + slotAddr b else slotAddr b

/-- A window of the port admits an access (R537): valid, of the slot's view, with the permission, over all its bytes. -/
def windowOk (s : State) (p : Nat) (b : BitVec 640) : Bool :=
  let n := slotLen b + 1
  (List.range 8).any (fun w =>
    let i := 8 * p + w
    let base := getF s F.SHL_WINA.BASE i * 65536
    flag s F.SHL_WINB.VALID i && flag s F.SHL_WINB.VIEW i == slotView b
      && flag s (if slotOp b = 0 then F.SHL_WINB.R else F.SHL_WINB.W) i
      && decide (base ≤ slotAddr b ∧ slotAddr b + 64 * n ≤ base + getF s F.SHL_WINA.LEN i * 65536))

/-- The place of an admitted access: in a window, in the Reef, not in the carve-out (R537, R538). -/
def shlPlace (s : State) (p : Nat) (b : BitVec 640) : Option ReefPlace :=
  match reefPlace (slotLocal b) with
  | none => none
  | some r => if windowOk s p b && !secSys (secKey r.tile r.so) then some r else none

/-- The oldest slot of a port on a VC, if it has the OP named. -/
def rxHead (s : State) (p vc op : Nat) : Option (Nat × BitVec 640) :=
  match mapGet (portAt s p).rx vc [] with
  | [] => none
  | h :: _ => if slotOp h.2 = op then some h else none

/-- Takes the oldest slot of a VC; its credit is to be returned (R525). -/
def rxTake (p vc : Nat) (s : State) : State :=
  let x := portAt s p
  setPort p (shlOwe vc 1 { x with rx := mapSet x.rx vc [] ((mapGet x.rx vc []).drop 1) }) s

/-- Serves the oldest slot of a VC while the port is ACTIVE. -/
def rxServe (p vc op : Nat) (f : Nat → BitVec 640 → State → State) (s : State) : State :=
  if portState s p != 3 then s
  else
    match rxHead s p vc op with
    | none => s
    | some (n, b) => shlReturn p (f n b (rxTake p vc s))

/-- An access that the port refuses (R538). -/
def shlRange (p : Nat) (b : BitVec 640) (s : State) : State :=
  shlError p (slotTag b) (slotMark b) Status.SHL_RANGE
    (post { code := Ev.SHL_RANGE, inst := p } (bump F.SHL_RANGEERR.COUNT p s))

/-- A flit TAG of the agent that no outstanding request of it has: the first from `n` on. -/
def shlTag : Nat → Nat → Nat → State → Nat
  | 0, _, n, _ => n % 65535
  | fuel + 1, k, n, s =>
    if (mapFind s.msh.outst (k * 65536 + n % 65535)).isNone then n % 65535 else shlTag fuel k (n + 1) s

/-- Injects an admitted request as a flit (R539, R543). -/
def shlInject (p arr : Nat) (b : BitVec 640) (r : ReefPlace) (tally : BitVec 32) (s : State) : State :=
  let x := portAt s p
  let (t, a) := portTile p r.tile
  let tag := shlTag 65535 (agentKey t a) x.nextTag s
  let write := slotOp b == 1
  let hdr := unicastHdr
    { vc := 2, op := slotOp b, dst := r.tile, dstAgent := 2, tag := tag, addr := slotLocal b, mark := slotMark b
      share := getF s F.SHL_PCTL.SHARE p, poison := slotPoison b, len := slotLen b }
  let f : Flit := { hdr := hdr, pay := if write then slotPay b else 0, tally := tally, crc := 0 }
  let o : ShlOpen := { tile := t, ftag := tag, tag := slotTag b, write := write, arr := arr }
  inject t a f (expect t a f 0 (setPort p { x with open_ := x.open_ ++ [o], nextTag := tag + 1 } s))

/-- SHL_READ (R537-R539). -/
def execShlRead (p : PortId) (s : State) : Result :=
  onFrame s (rxServe p 2 0 (fun n b t =>
    match shlPlace t p b with
    | none => shlRange p b t
    | some r => shlInject p n b r 0 t))

/-- SHL_WRITE (R537-R542): on a port with TALLY the word is checked, else it is computed. -/
def shlWrite (p n : Nat) (b : BitVec 640) (s : State) : State :=
  match shlPlace s p b with
  | none => shlRange p b s
  | some r =>
    if flag s F.SHL_PSTAT.TALLY p then
      if tallyOk (slotPay b) (slotTally b) then shlInject p n b r (slotTally b) s
      else
        let s1 := bump F.TLY_TALLYERR.COUNT 0 (bump F.SHL_TALLYERR.COUNT p s)
        shlError p (slotTag b) (slotMark b) Status.SHL_TALLY
          (post { code := Ev.SHL_TALLY, inst := p } s1)
    else shlInject p n b r (tallyOf (slotPay b)) s

def execShlWrite (p : PortId) (s : State) : Result := onFrame s (rxServe p 2 1 (shlWrite p))

/-- The request that a response or a timeout of a port's agent answers. -/
def shlOpenOf (s : State) (p t tag : Nat) : Option ShlOpen :=
  (portAt s p).open_.find? (fun o => o.tile == t && o.ftag == tag)

/-- Removes an answered request. -/
def shlClose (p : Nat) (o : ShlOpen) (s : State) : State :=
  let x := portAt s p
  setPort p { x with open_ := x.open_.erase o } s

/-- A response reaches a port (R522, R543): its slot goes to the compute die, READ_DATA with the flit's POISON and TALLY;
answers of a port that has failed are discarded (R557). -/
def shlAnswer (p t a : Nat) (f : Flit) (s : State) : State :=
  let k := outKey t a f.tag
  match mapFind s.msh.outst k with
  | none => post { code := Ev.MESH_LATE, mark := f.mark, inst := t, d1 := f.addr } s
  | some o =>
    let done := decide (o.left ≤ 1) || f.op == 6
    let owed := if done then mapDel s.msh.outst k else mapIns s.msh.outst k { o with left := o.left - 1 }
    let s1 := { s with msh := { s.msh with outst := owed } }
    match shlOpenOf s1 p t f.tag with
    | none => s1
    | some w =>
      let s2 := if done then shlClose p w s1 else s1
      if f.op = 4 then
        shlSend p 3 (shlSlot 3 0x4 0 f.poison f.last false w.tag f.mark 0 f.pay f.tally)
          (add64 .SHL_RDSEC_LO .SHL_RDSEC_HI p 1 s2)
      else if f.op = 5 then shlAckSlot p w.tag f.mark f.poison (add64 .SHL_WRSEC_LO .SHL_WRSEC_HI p 1 s2)
      else shlError p w.tag f.mark (secField f.pay 0 2) s2

/-- The oldest response in the inbox of a port's agent goes to the port. -/
def shlResponse (p t a : Nat) (s : State) : State :=
  match (inboxOf s t a).find? (fun f => f.vc == 3) with
  | none => s
  | some f => shlAnswer p t a f (setInbox t a ((inboxOf s t a).erase f) s)

/-- A request of a port that is not answered in time (R118, R522). -/
def shlTimeout (p t a tag : Nat) (s : State) : State :=
  match mapFind s.msh.outst (outKey t a tag) with
  | none => s
  | some o =>
    let s1 := bump F.MSH_TMOCNT.COUNT 0
      { s with msh := { s.msh with outst := mapDel s.msh.outst (outKey t a tag) } }
    let s2 := post { code := Ev.MESH_TIMEOUT, mark := o.mark, inst := t, d0 := Status.MESH_TIMEOUT, d1 := o.addr } s1
    match shlOpenOf s2 p t tag with
    | none => s2
    | some w => shlError p w.tag o.mark Status.MESH_TIMEOUT (shlClose p w s2)

/-- An ABORT or FENCE flit for the outward port of a compute die becomes an urgent slot (R551). -/
def shlUrgent (p : Nat) (f : Flit) (s : State) : State :=
  if portState s p != 3 then s
  else
    let x := portAt s p
    let tag := x.nextTag % 4096
    let s1 := setPort p { x with
      nextTag := x.nextTag + 1
      fences := if f.op = 9 then x.fences ++ [tag] else x.fences } s
    shlSend p 0 (shlSlot 0 f.op 0 f.poison false false tag f.mark 0 f.pay f.tally) s1

/-! ### Urgent and control messages (R544-R552) -/

/-- The VC that carries a port's urgent slots (R535). -/
def urgentVc (s : State) (p : Nat) : Nat := if flag s F.SHL_PSTAT.URGENT p then 0 else 1

/-- SHL_ACK (R552): the answer of the compute die to a FENCE; an ACK on the response VC answers nothing (R519). -/
def execShlAck (p : PortId) (s : State) : Result :=
  onFrame s (fun t =>
    let v := if (rxHead t p (urgentVc t p) 5).isSome then urgentVc t p else 3
    rxServe p v 5 (fun _ b u =>
      let x := portAt u p
      if v = 3 then u else setPort p { x with fences := x.fences.erase (slotTag b) } u) t)

/-- SHL_ABORT (R551): an urgent ABORT flit to the core named, past the port's cap (R90, R550). -/
def shlAbort (p : Nat) (b : BitVec 640) (s : State) : State :=
  let x := slotTarget b % 64
  let u := tileAt x (slotTarget b / 64 % 32)
  if 48 ≤ x then s
  else
    let (t, a) := portTile p u
    let hdr := unicastHdr
      { vc := 0, op := 8, dst := u, dstAgent := slotTarget b / 2048 % 2, tag := slotTag b, mark := slotMark b
        share := getF s F.SHL_PCTL.SHARE p, poison := slotPoison b }
    injectUrgent (Fin.ofNat 1536 t) (Fin.ofNat 8 a) { hdr := stampSrc hdr t a, pay := slotPay b, tally := 0, crc := 0 } s

def execShlAbort (p : PortId) (s : State) : Result :=
  onFrame s (fun t => rxServe p (urgentVc t p) 8 (fun _ b => shlAbort p b) t)

/-- SHL_DOORBELL (R549): the tail goes to a queue of the port's doorbell window, or is refused without reply. -/
def shlDoorbell (p : Nat) (b : BitVec 640) (s : State) : State :=
  let n := slotTarget b % 1024
  let q := getF s F.SHL_DBWIN.BASE p + n
  if n < getF s F.SHL_DBWIN.COUNT p ∧ q < 1024 then doorbell q (secField (slotPay b) 0 4) s
  else post { code := Ev.SHL_DBRANGE, inst := p } s

def execShlDoorbell (p : PortId) (s : State) : Result :=
  onFrame s (fun t => rxServe p (urgentVc t p) 0xA (fun _ b => shlDoorbell p b) t)

/-- The counter that an index of a port names, if its window holds it (R544). -/
def cntOf (s : State) (p i : Nat) : Option Nat :=
  if i < getF s F.SHL_CNTWIN.COUNT p ∧ getF s F.SHL_CNTWIN.BASE p + i < 65536 then some (getF s F.SHL_CNTWIN.BASE p + i)
  else none

/-- A WRITE that the port received before slot number `n` is not yet acknowledged (R547). -/
def writesBefore (s : State) (p n : Nat) : Bool :=
  let x := portAt s p
  (mapGet x.rx 2 []).any (fun r => decide (r.1 < n) && slotOp r.2 == 1)
    || x.open_.any (fun o => o.write && decide (o.arr < n))

/-- A COUNTER in its turn: applied as one update and acknowledged; one already applied is acknowledged again; one that
skips ahead is dropped (R544, R545; log entry 76). -/
def shlCounter (p : Nat) (b : BitVec 640) (s : State) : State :=
  let cs := secField (slotPay b) 12 4
  let x := portAt s p
  if cs = (x.cseq + 1) % 2 ^ 32 then
    let s1 := setPort p { x with cseq := cs } s
    match cntOf s p (slotTarget b % 65536) with
    | none => shlError p (slotTag b) (slotMark b) Status.SHL_CNTRANGE s1
    | some i =>
      let v := secField (slotPay b) 0 8
      shlAckSlot p (slotTag b) (slotMark b) false
        (if secField (slotPay b) 8 1 = 1 then counterSet i v s1 else counterAdd i v s1)
  else if (x.cseq + 2 ^ 32 - cs) % 2 ^ 32 < 2 ^ 31 then shlAckSlot p (slotTag b) (slotMark b) false s
  else s

/-- SHL_COUNTER (R545, R547): held until every WRITE before it is acknowledged. -/
def execShlCounter (p : PortId) (s : State) : Result :=
  onFrame s (fun t =>
    match rxHead t p 1 0xB with
    | some (n, _) => if writesBefore t p n then t else rxServe p 1 0xB (fun _ b => shlCounter p b) t
    | none => t)

/-- SHL_WATCH (R544, R548). -/
def shlWatch (p : Nat) (b : BitVec 640) (s : State) : State :=
  let i := slotTarget b % 65536
  let x := portAt s p
  match cntOf s p i with
  | none => shlError p (slotTag b) (slotMark b) Status.SHL_CNTRANGE s
  | some c =>
    let w : ShlWatch := { tag := slotTag b, mark := slotMark b, index := i, cond := slotTarget b / 65536 % 4
                          value := secField (slotPay b) 0 8 }
    if condHolds w.cond (counterAt s c) w.value then shlNote p w (counterAt s c) s
    else if 64 ≤ x.watches.length then shlError p (slotTag b) (slotMark b) Status.SHL_CNTRANGE s
    else setPort p { x with watches := x.watches ++ [w] } s

def execShlWatch (p : PortId) (s : State) : Result :=
  onFrame s (rxServe p 1 0xC (fun _ b => shlWatch p b))

/-! ### Telemetry (R553, R554) and counters -/

/-- SHL_TELEMETRY (R553). -/
def shlTelemetry (p : Nat) (m : BitVec 128) (s : State) : State :=
  let s1 := setF F.SHL_TELEMA.VOUT p (byteField m 0 2) (setF F.SHL_TELEMA.TJ p (byteField m 4 2) s)
  let s2 := setF F.SHL_TELEMB.IOUT p (byteField m 2 2) (setF F.SHL_TELEMB.PSTATE p (byteField m 6 1) s1)
  setPort p { portAt s2 p with missed := false } s2

/-- A port expects telemetry: it is in use and TELEM was negotiated (R535, R553). -/
def telemOn (s : State) (p : Nat) : Bool :=
  flag s F.SHL_PSTAT.TELEM p && (portState s p == 3 || portState s p == 4)

def execShlTelemetry (p : PortId) (m : BitVec 128) (s : State) : Result :=
  .next (onlyIf (telemOn s p) (shlTelemetry p m) s)

/-- SHL_TELEMETRY_MISS (R554): TELEM_MISS messages in a row have failed to arrive. -/
def execShlTelemetryMiss (p : PortId) (s : State) : Result :=
  .next (onlyIf (telemOn s p && !(portAt s p).missed)
    (fun t => post { code := Ev.SHL_TELEM, inst := p } (setPort p { portAt t p with missed := true } t)) s)

/-- SHL_CNTCLR (R561). -/
def execShlCntclr (s : State) : Result :=
  .next (onlyIf (barOpen s) (clearRegs [.SHL_CRCERR, .SHL_REPLAY, .SHL_RETRAIN, .SHL_TALLYERR, .SHL_RANGEERR, .SHL_RDSEC_LO,
    .SHL_RDSEC_HI, .SHL_WRSEC_LO, .SHL_WRSEC_HI, .SHL_BPCYC_LO, .SHL_BPCYC_HI]) s)

end Sys2Proof.Machine
end

