-- ==== Sys2Proof/Machine/Eject.lean ====
section
/-! DEFINITION. Ejection from the counting frame (03, R78, R84, R117): a flit goes to its agent; an LPDDR request at an
outward port goes to its controller's queue, an urgent flit for a compute die or another die to its port or link.
Answers that reach a Shoreline port go out as slots. -/

namespace Sys2Proof.Machine

/-- A flit that reaches a link's outward port with a reservation goes out as an urgent message in the link's next frame; the
link's interval begins (R578, R682, R683). -/
def urgentOut (n : Nat) (w : UrgWait) (s : State) : State :=
  let m : TwyMsg := { op := w.flit.op, vc := 0, src := ownDie s, dst := (w.die.getD 0).val, share := w.flit.share
                      mark := w.flit.mark, tag := w.flit.tag, body := BitVec.ofNat 256 w.flit.hdr.toNat
                      data := [(w.flit.pay, w.flit.tally)], agent := 64 + w.code.val }
  let s1 := { s with msh := { s.msh with
    reserved := mapDel s.msh.reserved n
    capBusy := s.msh.capBusy ++ [.link (Fin.ofNat 24 n)] } }
  twyOn n m s1

/-- The link whose reservation a flit at an outward port uses. -/
def reservedFor (s : State) (t a : Nat) (f : Flit) : Option (Nat × UrgWait) :=
  s.msh.reserved.find? (fun (e : Nat × UrgWait) =>
    linkTile e.1 (tileY e.2.tile) == t && linkAgent e.1 == a && e.2.flit.op == f.op && e.2.flit.pay == f.pay)

/-- A flit is a request to a memory controller (R57, R185). -/
def forMemory (f : Flit) : Bool := decide (4 ≤ f.dstAgent) && f.cast == 0 && f.vc == 2 && isLpddr f.addr

/-- The tile has the agent that a flit names: an outward port at the die edge (R76, R82), and for an LPDDR request a port of
the controller of its first sector (R57, R185). -/
def addressed (t : Nat) (f : Flit) : Bool :=
  decide (f.dstAgent < 8) && hasAgent t f.dstAgent
    && (!forMemory f || memPort (ctrlOf (lpChan (f.addr - lpBase))) t f.dstAgent)

/-- The agent that a flit goes to takes it from the ejection buffer (R86): a slice has room in its bank queues (R144), no
channel of an LPDDR request is in a pause (R205), a Shoreline port is in no retrain (R531). A flit to be discarded waits for
nothing. -/
def ejectReady (s : State) (t : Nat) (f : Flit) : Bool :=
  if !f.crcOk || !f.wellFormed || !addressed t f then true
  else if forMemory f then memTakes s f
  else if f.dstAgent = 2 ∧ f.vc = 2 then sliceRoom s t f
  else if f.vc = 0 then match portOf t f.dstAgent with | some p => portState s p != 4 | none => true
  else true

/-- A FENCE flit reaches tile control: the writes that the tile's cores have issued for kernels of its ASID and mark, and that
are unacknowledged as it arrives, are what its answer waits for (R370; log entry 117). -/
def fenceArrive (t : Nat) (f : Flit) (s : State) : State :=
  let owed := [2 * t, 2 * t + 1].flatMap (fun c => match mapFind s.bead.cores c with
    | some k => if k.asid = secField f.pay 4 2 ∧ k.mark = f.mark then k.writes.map (fun w => (c, w.tag)) else []
    | none => [])
  { s with bead := { s.bead with fences := s.bead.fences ++ [{ tile := t, id := secField f.pay 0 4, owed := owed }] } }

/-- A flit leaves the mesh: a CRC mismatch or a bad flit is discarded and reported, another goes to its agent. The poisoned
tail of a DOORBELL is not taken (R120; log entry 111). -/
def ejectFlit (t : Nat) (f : Flit) (s : State) : State :=
  if !f.crcOk then crcDiscard t f s
  else if !f.wellFormed || !addressed t f then
    post { code := Ev.MESH_BADFLIT, mark := f.mark, inst := t, d1 := if f.cast = 0 then f.addr else f.offset } s
  else if forMemory f then memEnqueue t f.dstAgent f s
  else if f.vc == 0 && (reservedFor s t f.dstAgent f).isSome then
    (match reservedFor s t f.dstAgent f with
      | some (n, w) => urgentOut n w s
      | none => s)
  else if f.op == 0xA && decide (4 ≤ f.dstAgent) then
    (if f.poison then s else doorbell (f.tag % 1024) (secField f.pay 0 4) s)
  else if f.op == 9 && f.dstAgent == 3 then fenceArrive t f s
  else if f.vc == 0 && (portOf t f.dstAgent).isSome then shlUrgent ((portOf t f.dstAgent).getD 0) f s
  else deliver t f.dstAgent f s

/-- The channel that the ejection port serves next: the first in rank (R87) whose flit its agent takes (R86). -/
def ejectNext (s : State) (t : Nat) : Option Nat :=
  [0, 1, 3, 2].find? (fun v => match mapGet s.msh.eject (t * 4 + v) [] with
    | [] => false
    | f :: _ => ejectReady s t f)

/-- MESH_FLIT_EJECT: the destination router takes the next flit of its ejection port. A flit stands in the buffer of
the channel it travelled on, which damage to its header does not change. -/
def meshEject (t : Nat) (s : State) : State :=
  match ejectNext s t with
  | none => s
  | some v =>
    let l := mapGet s.msh.eject (t * 4 + v) []
    match l with
    | [] => s
    | f :: rest =>
      ejectFlit t f { s with msh := { s.msh with eject := mapSet s.msh.eject (t * 4 + v) [] rest } }

def execMeshFlitEject (t : TileId) (s : State) : Result :=
  onFrame s (onlyIf (coveAwake s (coveOf t)) (meshEject t))

/-- MESH_RESPONSE (R102, R118, R522): a source receives its oldest answer; a Shoreline port sends it on. -/
def execMeshResponse (t : TileId) (a : Fin 8) (s : State) : Result :=
  onFrame s (match portOf t a with
    | some p => shlResponse p t a
    | none => meshResponse t a)

end Sys2Proof.Machine
end

