-- ==== Sys2Proof/Machine/Reckoner.lean ====
section
/-! DEFINITION. The Reckoner (R385-R399): element types, exact accumulators, ChaCha20, and the instructions a bead core hands
it. An instruction executes when its row finds the Reckoner's queue empty and nothing to wait for, and otherwise waits in
the queue for RECKONER_EXECUTE. -/

namespace Sys2Proof.Machine

/-! ### Element types (R388, R389, R423) -/

/-- A floating-point type: exponent bits, fraction bits, and whether its highest exponent holds infinities and NaN (IEEE);
otherwise, for fp8 E4M3, only the highest code is NaN. -/
structure FpType where
  e : Nat
  m : Nat
  ieee : Bool
  deriving DecidableEq, Repr

/-- The floating-point element types by ET. -/
def fpOf (et : Nat) : Option FpType :=
  match et with
  | 4 => some ⟨4, 3, false⟩
  | 5 => some ⟨5, 2, true⟩
  | 6 => some ⟨5, 10, true⟩
  | 7 => some ⟨8, 7, true⟩
  | 8 => some ⟨8, 23, true⟩
  | _ => none

/-- The exponent bias. -/
def FpType.bias (t : FpType) : Nat := 2 ^ (t.e - 1) - 1

/-- The width of an element in bits. -/
def etBits (et : Nat) : Nat := [8, 8, 16, 32, 8, 8, 16, 16, 32].getD et 8

/-- The value of a finite floating-point element times 2^160; none for an infinity or NaN. -/
def fpValue (t : FpType) (raw : Nat) : Option Int :=
  let ex := raw / 2 ^ t.m % 2 ^ t.e
  let fr := raw % 2 ^ t.m
  let top := ex = 2 ^ t.e - 1
  if top ∧ (t.ieee = true ∨ fr = 2 ^ t.m - 1) then none
  else
    let mag : Nat := if ex = 0 then fr * 2 ^ (161 - t.bias - t.m) else (2 ^ t.m + fr) * 2 ^ (160 + ex - t.bias - t.m)
    some (if raw / 2 ^ (t.m + t.e) % 2 = 1 then -(mag : Int) else (mag : Int))

/-- The value of an element times 2^160 (R388); none for an infinity or NaN. -/
def elemValue (et raw : Nat) : Option Int :=
  match fpOf et with
  | some t => fpValue t raw
  | none =>
    let w := etBits et
    some ((if et = 1 then (raw : Int) else (BitVec.ofNat w raw).toInt) * 2 ^ 160)

/-- Lane n of a register as an element type. -/
def lane (et : Nat) (v : Sector) (n : Nat) : Nat := bitsAt v (etBits et * n) (etBits et)

/-- A quotient rounded to nearest, ties to even. -/
def rne (n d : Nat) : Nat :=
  let q := n / d
  let r := n % d
  if 2 * r < d then q else if d < 2 * r then q + 1 else q + q % 2

/-- The magnitude code of |v| * 2^-320 in a floating-point format of e and m bits, rounded to nearest, ties to even: the
code grows with the value, and one past the largest finite code means beyond the range. -/
def roundCode (e m : Nat) (mag : Nat) : Nat :=
  if mag = 0 then 0
  else
    let bias := 2 ^ (e - 1) - 1
    let ex : Int := (Nat.log2 mag : Int) - 320 + bias
    let x : Nat := if ex < 1 then 1 else ex.toNat
    let shift : Int := 320 + (x : Int) - bias - m
    let n := if shift < 0 then mag * 2 ^ (-shift).toNat else rne mag (2 ^ shift.toNat)
    (if ex < 1 then n else (x - 1) * 2 ^ m + n)

/-- An accumulator's number v * 2^-320 as fp64 (R391). -/
def toFp64 (v : Int) : BitVec 64 :=
  let code := min (roundCode 11 52 v.natAbs) (0x7FF * 2 ^ 52)
  BitVec.ofNat 64 (code + (if v < 0 then 2 ^ 63 else 0))

/-- The number of an accumulator rounded to a floating-point type: infinity beyond the range, NaN for fp8 E4M3 (R392); the
sign of that NaN is open (log entry 65). -/
def toFp (t : FpType) (nanSign : Bool) (v : Int) : Nat :=
  let code := roundCode t.e t.m v.natAbs
  let most := if t.ieee then (2 ^ t.e - 1) * 2 ^ t.m else 2 ^ (t.e + t.m) - 1
  let neg := if !t.ieee && decide (most ≤ code) then nanSign else decide (v < 0)
  min code most + boolNat neg * 2 ^ (t.e + t.m)

/-- The integer that an accumulator holds, if it holds one (R392, R393). -/
def accInt (v : Int) : Option Int := if v % 2 ^ 320 = 0 then some (v / 2 ^ 320) else none

/-- An integer lies in an integer element type's range. -/
def intFits (et : Nat) (n : Int) : Bool :=
  match et with
  | 0 => decide (-128 ≤ n ∧ n ≤ 127)
  | 1 => decide (0 ≤ n ∧ n ≤ 255)
  | 2 => decide (-32768 ≤ n ∧ n ≤ 32767)
  | _ => decide (-2147483648 ≤ n ∧ n ≤ 2147483647)

/-- The exact sum of the products of finite lane pairs, in units of 2^-320, and whether an infinite or NaN element was met
(R389, R390). -/
def dotLanes (et : Nat) (a b : Sector) : Int × Bool :=
  (List.range (512 / etBits et)).foldl (fun (p : Int × Bool) n =>
    match elemValue et (lane et a n), elemValue et (lane et b n) with
    | some x, some y => (p.1 + x * y, p.2)
    | _, _ => (p.1, true)) (0, false)

/-- KMDOT (R395): g plus the products of sixteen signed 32-bit lanes, modulo 2^61 - 1. -/
def mdot (g : BitVec 64) (a b : Sector) : Nat :=
  (((List.range 16).foldl (fun (t : Int) n =>
    t + (BitVec.ofNat 32 (lane 3 a n)).toInt * (BitVec.ofNat 32 (lane 3 b n)).toInt) (g.toNat : Int)) % (p61 : Int)).toNat

/-! ### ChaCha20 (R397) -/

/-- The words a, b, c, d of a state after a quarter round (RFC 8439). -/
def quarter (st : List (BitVec 32)) (q : Nat × Nat × Nat × Nat) : List (BitVec 32) :=
  let at_ := fun n => st.getD n 0
  let (i, j, k, l) := q
  let a := at_ i + at_ j
  let d := (at_ l ^^^ a).rotateLeft 16
  let c := at_ k + d
  let b := (at_ j ^^^ c).rotateLeft 12
  let a := a + b
  let d := (d ^^^ a).rotateLeft 8
  let c := c + d
  let b := (b ^^^ c).rotateLeft 7
  (((st.set i a).set j b).set k c).set l d

/-- A column round and a diagonal round. -/
def doubleRound (st : List (BitVec 32)) : List (BitVec 32) :=
  [(0, 4, 8, 12), (1, 5, 9, 13), (2, 6, 10, 14), (3, 7, 11, 15), (0, 5, 10, 15), (1, 6, 11, 12), (2, 7, 8, 13),
    (3, 4, 9, 14)].foldl quarter st

/-- The ChaCha20 block of a key (key byte 0 least significant) and counter with nonce 0, byte 0 least significant. -/
def chachaBlock (key : BitVec 256) (ctr : BitVec 32) : Sector :=
  let st : List (BitVec 32) := [0x61707865, 0x3320646e, 0x79622d32, 0x6b206574]
    ++ (List.range 8).map (fun n => key.extractLsb' (32 * n) 32) ++ [ctr, 0, 0, 0]
  let fin := (List.range 10).foldl (fun x _ => doubleRound x) st
  BitVec.ofNat 512 (((fin.zip st).zip (List.range 16)).map (fun (p : (BitVec 32 × BitVec 32) × Nat) =>
    (p.1.1 + p.1.2).toNat * 2 ^ (32 * p.2))).sum

/-! ### Execution (R386, R394, R398, R399, R403) -/

/-- A k register and an accumulator. -/
def Core.kr (k : Core) (n : Nat) : KReg := mapGet k.k n {}
def Core.ar (k : Core) (n : Nat) : KAcc := mapGet k.a n {}

/-- Writes them. -/
def Core.setK (n : Nat) (r : KReg) (k : Core) : Core := { k with k := mapSet k.k n {} r }
def Core.setA (n : Nat) (r : KAcc) (k : Core) : Core := { k with a := mapSet k.a n {} r }

/-- A late error of a Reckoner instruction (R403). -/
def Core.recErr (cause : Nat) (i : KIns) (k : Core) : Core :=
  (k.lateErr cause i.pc (if cause = 8 then k.poisonAt.getD 0 else 0) 0).stopK

/-- The Reckoner delivers a value to the g register that the instruction names; a poisoned one is a late error (R399). -/
def Core.toG (i : KIns) (poison : Bool) (v : Nat) (k : Core) : Core :=
  if poison then k.recErr 8 i else k.land (kG i.word) i.tok (BitVec.ofNat 64 v)

def kMov (i : KIns) (k : Core) : Core := k.setK (kKd i.word) (k.kr (kKa i.word))

def kXor (i : KIns) (k : Core) : Core :=
  let a := k.kr (kKa i.word); let b := k.kr (kKb i.word)
  k.setK (kKd i.word) { v := a.v ^^^ b.v, poison := a.poison || b.poison }

def kIns (i : KIns) (k : Core) : Core :=
  let d := k.kr (kKd i.word)
  k.setK (kKd i.word) { d with v := secPut d.v (8 * (kKb i.word % 8)) 8 i.g.toNat }

def kExt (i : KIns) (k : Core) : Core :=
  let d := k.kr (kKd i.word)
  k.toG i d.poison (secField d.v (8 * (kKb i.word % 8)) 8)

def kBc (i : KIns) (k : Core) : Core :=
  k.setK (kKd i.word) { v := BitVec.ofNat 512 ((List.range 8).map (fun n => i.g.toNat * 2 ^ (64 * n))).sum }

def kRand (i : KIns) (k : Core) : Core :=
  { k.setK (kKd i.word) { v := chachaBlock k.seed k.rctr } with rctr := k.rctr + 1 }

def kTally (i : KIns) (k : Core) : Core :=
  let a := k.kr (kKa i.word)
  k.toG i a.poison (tallyOf a.v).toNat

/-- KDIG at the digest point of the launching context (R396). -/
def kDig (point : Nat) (i : KIns) (k : Core) : Core :=
  let a := k.kr (kKa i.word)
  k.toG i a.poison (digestSector point i.g.toNat a.v)

def kMdot (i : KIns) (k : Core) : Core :=
  let a := k.kr (kKa i.word); let b := k.kr (kKb i.word)
  k.toG i (a.poison || b.poison) (mdot i.g a.v b.v)

def kDot (i : KIns) (k : Core) : Core :=
  let a := k.kr (kKa i.word); let b := k.kr (kKb i.word); let d := k.ar (kKd i.word)
  let (sum, bad) := dotLanes (kG i.word) a.v b.v
  k.setA (kKd i.word) { v := d.v + BitVec.ofInt 768 sum, nonfinite := d.nonfinite || bad
                        poison := d.poison || a.poison || b.poison }

def kZacc (i : KIns) (k : Core) : Core := k.setA (kKd i.word) {}

/-- KSHA (R394): a scale by 2^g that would lose a non-zero bit raises KACC_RANGE. -/
def kSha (i : KIns) (k : Core) : Core :=
  let d := k.ar (kKd i.word)
  let n := i.g.toInt
  let v := d.v.toInt
  let r : Option Int :=
    if v = 0 then some 0
    else if n < -767 ∨ 767 < n then none
    else if n < 0 then (if v % 2 ^ (-n).toNat = 0 then some (v / 2 ^ (-n).toNat) else none)
    else if -(2 ^ 767) ≤ v * 2 ^ n.toNat ∧ v * 2 ^ n.toNat < 2 ^ 767 then some (v * 2 ^ n.toNat) else none
  match r with
  | none => k.recErr 9 i
  | some x => k.setA (kKd i.word) { d with v := BitVec.ofInt 768 x }

def kRnd (i : KIns) (k : Core) : Core :=
  let a := k.ar (kKa i.word)
  k.toG i a.poison (if a.nonfinite then 0x7FF8000000000000 else (toFp64 a.v.toInt).toNat)

/-- KINT (R393): the range error stands before poison, since no value is delivered then (log entry 65). -/
def kInt (i : KIns) (k : Core) : Core :=
  let a := k.ar (kKa i.word)
  match accInt a.v.toInt with
  | none => k.recErr 9 i
  | some n =>
    if a.nonfinite ∨ n < -(2 ^ 63) ∨ 2 ^ 63 ≤ n then k.recErr 9 i
    else k.toG i a.poison (BitVec.ofInt 64 n).toNat

/-- KPUT (R392); a non-finite accumulator's number is rounded as it stands (log entry 65). -/
def kPut (nanSign : Bool) (i : KIns) (k : Core) : Core :=
  let a := k.ar (kKa i.word)
  let d := k.kr (kKd i.word)
  let et := kG i.word
  let w := etBits et / 8
  let put := fun (raw : Nat) => k.setK (kKd i.word) { v := secPut d.v (w * kKb i.word) w raw, poison := d.poison || a.poison }
  match fpOf et with
  | some t => put (toFp t nanSign a.v.toInt)
  | none =>
    match accInt a.v.toInt with
    | none => k.recErr 9 i
    | some n => if intFits et n then put (BitVec.ofInt 32 n).toNat else k.recErr 9 i

def kAdda (i : KIns) (k : Core) : Core :=
  let a := k.ar (kKa i.word); let d := k.ar (kKd i.word)
  k.setA (kKd i.word) { v := d.v + a.v, nonfinite := d.nonfinite || a.nonfinite, poison := d.poison || a.poison }

/-- What a K-format instruction of OP 0x38 does to its core. -/
def kEffect (point : Nat) (nanSign : Bool) (i : KIns) (k : Core) : Core :=
  match kKfn i.word with
  | 0 => kMov i k
  | 1 => kXor i k
  | 2 => kIns i k
  | 3 => kExt i k
  | 4 => kBc i k
  | 5 => kRand i k
  | 6 => kTally i k
  | 7 => kDig point i k
  | 8 => kMdot i k
  | 16 => kDot i k
  | 17 => kZacc i k
  | 18 => kSha i k
  | 19 => kRnd i k
  | 20 => kInt i k
  | 21 => kPut nanSign i k
  | 22 => kAdda i k
  | _ => k

/-- A KLD retires: its k register takes the sector and its POISON (R386, R398). -/
def kldRetire (i : KIns) (k : Core) : Core :=
  match i.data with
  | some (d, p) => k.setK (kF6 i.word) { v := d, poison := p }
  | none => k

/-- A KST sends its sector with the tally and POISON of its register (R366, R398, R879); in the scratch it writes bytes. -/
def kstSend (c : Nat) (i : KIns) (s : State) : State :=
  let k := coreAt s c
  let r := k.kr (kF6 i.word)
  if inScratch i.addr 64 then setCore c (scratchWrite i.addr 64 r.v.toNat k) s
  else
    match freeTag s c with
    | none => s
    | some t =>
      let x : KWr := { tag := t, sec := i.addr / 64, pc := i.pc, addr := i.addr, kst := true }
      let s1 := setCore c { k with writes := k.writes ++ [x], tag := t + 1 }
        (coreSend c 1 t i.addr r.v (tallyOf r.v) r.poison s)
      match k.job with
      | some j => if r.poison then modLaunch j (fun l => { l with poison := true }) s1 else s1
      | none => s1

/-- An instruction at the front of the Reckoner's queue can execute: a KLD's data has arrived; a KST's earlier writes to its
sector are acknowledged, and a TAG and a place among the 32 writes are free (R354, R369, R386). -/
def kReady (s : State) (c : Nat) (i : KIns) : Bool :=
  let k := coreAt s c
  match kOp i.word with
  | 0x1C => i.data.isSome
  | 0x1D => inScratch i.addr 64 || (!(k.writes.any (fun w => w.sec == i.addr / 64)) && decide (k.writes.length < 32)
      && (freeTag s c).isSome)
  | _ => true

/-- The Reckoner of a core executes an instruction. -/
def kRun (c : Nat) (i : KIns) (s : State) : State :=
  match kOp i.word with
  | 0x1C => setCore c (kldRetire i (coreAt s c)) s
  | 0x1D => kstSend c i s
  | _ =>
    let (b, s1) := if kKfn i.word = 21 then draw 1 s else (0, s)
    setCore c (kEffect (ctxAt s (coreAt s c).asid).point (b == 1) i (coreAt s c)) s1

/-- RECKONER_EXECUTE (R386): the front of the queue, if it can execute. An uncorrectable ECC error that it meets is a late
HWERR of that instruction, which stops the Reckoner (R401, R403); one in the core's instruction store or scratch is a late
HWERR of the instruction at the core's pc. -/
def reckonerExecute (c : Nat) (upset : EccSite) (s : State) : State :=
  let k := coreAt s c
  if upset = .core then (if k.active then setCore c (k.lateErr 10 k.pc 0 0) s else s)
  else
    match k.kq with
    | [] => s
    | i :: rest =>
      if k.ended || k.abort then s
      else if upset = .reckoner then setCore c (k.recErr 10 i) s
      else if kReady s c i then kRun c i (setCore c { k with kq := rest } s)
      else s

def execReckonerExecute (c : CoreId) (upset : EccSite) (s : State) : Result :=
  .next (onlyIf (coreRuns s c) (reckonerExecute c upset) s)

/-! ### Issue (R386, R387, R403) -/

/-- The g registers that a K-format instruction reads, and whether it writes one. -/
def kReads (fn : Nat) (w : KWord) : List Nat := if [2, 4, 7, 8, 18].contains fn then [kG w] else []
def kWrites (fn : Nat) : Bool := [3, 6, 7, 8, 19, 20].contains fn

/-- A core hands its Reckoner an instruction: it stalls while the queue is full, a stopped Reckoner discards it, and one that
finds the queue empty executes at once if it can. -/
def kHand (c : Nat) (k : Core) (i : KIns) (s : State) : State :=
  if k.kstop then setCore c k s
  else if k.kq.isEmpty && kReady (setCore c k s) c i then kRun c i (setCore c k s)
  else setCore c { k with kq := k.kq ++ [i] } s

/-- A K-format instruction of OP 0x38. -/
def kIssue (fn : Nat) (c : CoreId) (s : State) : State :=
  issue c (isK fn) (kReads fn) (fun k w s =>
    if 32 ≤ k.kq.length then s
    else
      let i : KIns := { word := w, pc := k.pc, g := k.gr (kG w), tok := k.serial, addr := 0, data := none }
      let k1 := if kWrites fn then k.await (kG w) else k
      kHand c k1.retire i s) s

def execKmov (c : CoreId) (s : State) : Result := .next (kIssue 0 c s)
def execKxor (c : CoreId) (s : State) : Result := .next (kIssue 1 c s)
def execKins (c : CoreId) (s : State) : Result := .next (kIssue 2 c s)
def execKext (c : CoreId) (s : State) : Result := .next (kIssue 3 c s)
def execKbc (c : CoreId) (s : State) : Result := .next (kIssue 4 c s)
def execKrand (c : CoreId) (s : State) : Result := .next (kIssue 5 c s)
def execKtally (c : CoreId) (s : State) : Result := .next (kIssue 6 c s)
def execKdig (c : CoreId) (s : State) : Result := .next (kIssue 7 c s)
def execKmdot (c : CoreId) (s : State) : Result := .next (kIssue 8 c s)
def execKdot (c : CoreId) (s : State) : Result := .next (kIssue 16 c s)
def execKzacc (c : CoreId) (s : State) : Result := .next (kIssue 17 c s)
def execKsha (c : CoreId) (s : State) : Result := .next (kIssue 18 c s)
def execKrnd (c : CoreId) (s : State) : Result := .next (kIssue 19 c s)
def execKint (c : CoreId) (s : State) : Result := .next (kIssue 20 c s)
def execKput (c : CoreId) (s : State) : Result := .next (kIssue 21 c s)
def execKadda (c : CoreId) (s : State) : Result := .next (kIssue 22 c s)

/-- KLD (R354, R362, R363, R386): its read leaves as it enters the queue. -/
def kldIssue (c : CoreId) (s : State) : State :=
  issue c (isOp 0x1C) (fun w => [kF11 w]) (fun k w s =>
    let a := (k.gr (kF11 w) + kSimm w).toNat
    let e := accessCause k a 64 0
    if e ≠ 0 then takeExc c e false k.pc a 0 s
    else if decide (32 ≤ k.kq.length) || sectorHeld k a then s
    else
      let i : KIns := { word := w, pc := k.pc, g := 0, tok := k.serial, addr := a, data := none }
      let k1 := { k.retire with serial := k.serial + 1 }
      if k.kstop then setCore c k1 s
      else if inScratch a 64 then kHand c k1 { i with data := some (BitVec.ofNat 512 (scratchRead k a 64), false) } s
      else
        match freeTag s c with
        | none => s
        | some t =>
          if 32 ≤ k.klds then s
          else
            let out : KOut := { tag := t, tok := k.serial, req := .kld, pc := k.pc, addr := a }
            setCore c { k1 with kq := k1.kq ++ [i], outs := k1.outs ++ [out], tag := t + 1 }
              (coreSend c 0 t a 0 0 false s)) s

def execKld (c : CoreId) (s : State) : Result := .next (kldIssue c s)

/-- KST (R362, R363, R366). -/
def kstIssue (c : CoreId) (s : State) : State :=
  issue c (isOp 0x1D) (fun w => [kF11 w]) (fun k w s =>
    let a := (k.gr (kF11 w) + kSimm w).toNat
    let e := accessCause k a 64 1
    if e ≠ 0 then takeExc c e false k.pc a 0 s
    else if 32 ≤ k.kq.length then s
    else kHand c k.retire { word := w, pc := k.pc, g := 0, tok := k.serial, addr := a, data := none } s) s

def execKst (c : CoreId) (s : State) : Result := .next (kstIssue c s)

end Sys2Proof.Machine
end

