-- ==== Sys2Proof/Machine/Gather.lean ====
section
/-! DEFINITION. The Gather engines (R313-R320, R330-R332, R473, R482-R493): PUT, GET and COLL, and what their peers' answers
do. A COLL's contributions are read with READ messages (log entry 68), and its READY travels in a COLL message. -/

namespace Sys2Proof.Machine

/-! ### Messages to other dies -/

/-- Requests that an instance may have outstanding towards other dies. -/
def gatherWindow : Nat := 48

/-- Values of a request's TAG; the two bits above them tell what part of a put a WRITE is (log entry 69). -/
def tagSpan : Nat := 16384

/-- What part of a put a WRITE is: its data, the last of its data, or its release (R319, R474, R484; log entries 47 and 69). -/
def putData : Nat := 0
def putFinal : Nat := 1
def putRelease : Nat := 2

/-- A free TAG for a request to another die. -/
def gatherTag (s : State) : Nat :=
  let t := s.twy.nextTag
  (((List.range 64).map (fun j => (t + j) % tagSpan)).find? (fun u => (mapFind s.twy.reads u).isNone)).getD (t % tagSpan)

/-- Sends a request for position `pos` of an instance, under the TAG that it carries. -/
def request (q asn dseq pos : Nat) (m : TwyMsg) (s : State) : State :=
  let t := m.tag % tagSpan
  twySend m { s with twy := { s.twy with
    nextTag := (t + 1) % tagSpan
    reads := mapIns s.twy.reads t { queue := q, asn := asn, dseq := dseq, pos := pos, msg := m } } }

/-- Releases a TAG. -/
def dropTag (tag : Nat) (s : State) : State := { s with twy := { s.twy with reads := mapDel s.twy.reads (tag % tagSpan) } }

/-- Some of a message still stands at a link of this die, or it waits for a route. -/
def inTransit (s : State) (m : TwyMsg) : Bool :=
  s.twy.waiting.contains m || s.twy.links.any (fun (e : Nat × TwyLink) => e.2.txq.any (fun t => t.msg == m))

/-- Requests and journal entries that are unanswered though no link of this die holds them any more: another die may have lost
them (R26, R507). -/
def openRequests (s : State) : List TwyMsg :=
  (openEntries s ++ s.twy.reads.map (fun (e : Nat × TwyReq) => e.2.msg)).filter (fun m => !inTransit s m)

/-- What a resend counts in HBL_RESEND: journal entries, and puts (R507). -/
def resendCount (ms : List TwyMsg) : Nat :=
  ((ms.filter (fun m => m.op == 0x10)).map (fun m => m.data.length)).sum
    + (((ms.filter (fun m => m.op == 1)).map (fun m => (m.dst, m.seq))).eraseDups).length

/-- Sends again what came back from a link, and everything of this die that another die may have lost (R26, R507). -/
def resendAll (ms : List TwyMsg) (s : State) : State :=
  let all := ms ++ (openRequests s).filter (fun m => !ms.contains m)
  twyRetry (all.foldl (fun u m => twySend m u) (bumpBy F.HBL_RESEND.COUNT 0 (resendCount all) s))

/-- The fields that every message of a command carries. -/
def gatherMsg (s : State) (x : TQueue) (i : Inst) (op die tag addr : Nat) : TwyMsg :=
  { op := op, vc := 2, src := ownDie s, dst := die, share := x.share, mark := i.snap.mark, tag := tag, addr := addr, agent := x.eng }

/-- The sectors from position k of an operand that one message may name: at most 16, in one aligned 1 KiB block, at
consecutive addresses of one die (R577). -/
def runLength (i : Inst) (num off k n : Nat) : Nat :=
  match i.sector num (off + k) with
  | none => 0
  | some x =>
    let most := min (16 - x.addr / 64 % 16) (n - k)
    ((List.range most).takeWhile (fun j => match i.sector num (off + k + j) with
      | some y => y.addr == x.addr + 64 * j && !y.host
      | none => false)).length

/-- An instance of a Gather command still at work. -/
def Inst.working (i : Inst) : Bool := i.phase == .run && i.result.isNone && i.xfer.err == 0

/-! ### GET (R313, R577) -/

/-- The sectors of a transfer that come from another die. -/
def farSource (s : State) (i : Inst) (k : Nat) : Bool :=
  match i.sector 0 k with
  | some x => isRemote s x
  | none => false

/-- The first position from k on that comes from another die; n where there is none. -/
def nextFar (s : State) (i : Inst) (off k n : Nat) : Nat :=
  (((List.range (n - k)).find? (fun j => farSource s i (off + k + j))).map (fun j => k + j)).getD n

/-- Sends further READs of a GET (R577); what lies on the own die is read there when it ends (R223). -/
def getGo : Nat → Nat → Nat → Nat → State → State
  | 0, _, _, _, s => s
  | fuel + 1, q, first, dseq, s =>
    match instAt s q first dseq with
    | none => s
    | some (b, i) =>
      let c := b.cmdOf i
      let off := srcOff c i
      let k := nextFar s i off i.xfer.next (cSectors c)
      if !i.working || decide (cSectors c ≤ k) || decide (gatherWindow ≤ i.xfer.owed.length) then s
      else
        let m := runLength i 0 off k (cSectors c)
        match i.sector 0 (off + k) with
        | none => s
        | some x =>
          if m = 0 then s
          else
            let t := gatherTag s
            let msg := { gatherMsg s (queueAt s q) i 0x02 (paDie x.addr) t (paLocal x.addr) with body := BitVec.ofNat 256 (m - 1) }
            let s1 := putInst q first { i with xfer := { i.xfer with owed := i.xfer.owed ++ [t], next := k + m } } s
            getGo fuel q first dseq (request q (b.first + i.idx) dseq k msg s1)

/-! ### PUT (R319, R473, R482-R487, R878) -/

/-- A PUT that has begun to leave and is not wholly acknowledged: the receiver has yet to acknowledge data or the release
(R486). -/
def Inst.unacked (i : Inst) (die : Nat) : Bool := i.op == 0x30 && i.xfer.die == die && i.xfer.next != 0

/-- Position k of a PUT goes to another die. -/
def farDest (s : State) (b : Batch) (i : Inst) (k : Nat) : Bool :=
  match i.sector 1 (dstOff (b.cmdOf i) i + k) with
  | some y => isRemote s y
  | none => false

/-- The positions of a PUT that go to another die: none of them, and the PUT is a copy within the die. -/
def farPositions (s : State) (b : Batch) (i : Inst) : List Nat := (List.range (cSectors (b.cmdOf i))).filter (farDest s b i)

/-- A counter that a put to an address may signal: in the range of its window, or in the global one (R319). -/
def rcntAllowed (s : State) (addr rcnt : Nat) : Bool :=
  let range := fun (base count : Nat) => decide (base ≤ rcnt ∧ rcnt < base + count)
  if regionIx addr = some 3 then
    let w := addr / 2 ^ 40 % 64
    range (getF s F.TQ_WINCNT.BASE w) (getF s F.TQ_WINCNT.COUNT w)
  else range (getF s F.TQ_GLBCNT.BASE) (getF s F.TQ_GLBCNT.COUNT)

/-- Puts of this die that a receiver has not acknowledged (R486). -/
def unackedPuts (s : State) (die : Nat) : Nat :=
  (s.tq.queues.map (fun (q : Nat × TQueue) => (q.2.batches.map (fun b =>
    (b.insts.filter (fun i => i.unacked die)).length)).sum)).sum

/-- The sectors of one run of a PUT, read at the engine's read side; the first error met. -/
def putRead (x : TQueue) (c : Cmd) (i : Inst) (k m : Nat) (s : State) : List (Sector × BitVec 32 × Bool) × Nat × State :=
  (List.range m).foldl (fun (p : List (Sector × BitVec 32 × Bool) × Nat × State) j =>
    if p.2.1 != 0 then p
    else
      match ferrySource x c i (k + j) p.2.2 with
      | (.error st, s1) => (p.1, st, s1)
      | (.ok d, s1) => (p.1 ++ [d], 0, s1)) ([], 0, s)

/-- Splits a run into messages of equal POISON: first sector, and its data. -/
def poisonRuns : List (Nat × Sector × BitVec 32 × Bool) → List (Nat × Bool × List (Sector × BitVec 32))
  | [] => []
  | (k, d, t, p) :: rest =>
    match poisonRuns rest with
    | [] => [(k, p, [(d, t)])]
    | (j, pj, l) :: more => if pj = p then (k, p, (d, t) :: l) :: more else (k, p, [(d, t)]) :: (j, pj, l) :: more

/-- The engine's write side checks the tally of every sector it sends in a WRITE (R414). -/
def putChecked (ds : List (Sector × BitVec 32 × Bool)) (err : Nat) (s : State) : Nat × State :=
  let bad := (ds.filter (fun d => !tallyOk d.1 d.2.1)).length
  if err != 0 || bad == 0 then (err, s) else (Status.TQ_DIGEST, bumpBy F.TLY_TALLYERR.COUNT 0 bad s)

/-- A WRITE message of a PUT, of kind `kind`, from position k on (R482, R577). -/
def putMsg (s : State) (x : TQueue) (c : Cmd) (i : Inst) (y : Extent) (kind tag : Nat) (poison : Bool)
    (data : List (Sector × BitVec 32)) : TwyMsg :=
  { gatherMsg s x i 0x01 (paDie y.addr) (tag + tagSpan * kind) (paLocal y.addr) with
    poison := poison, rsig := cRsig c, seq := i.xfer.psn, epoch := i.xfer.epoch, rcnt := cRcnt c, data := data }

/-- An instance awaits the answer to one more TAG. -/
def owe (q first dseq t : Nat) (s : State) : State :=
  match instAt s q first dseq with
  | some (_, j) => putInst q first { j with xfer := { j.xfer with owed := j.xfer.owed ++ [t] } } s
  | none => s

/-- Sends a run of a PUT that has been read, as messages of equal POISON; the last message of the last run is marked. -/
def putSend (q : Nat) (x : TQueue) (b : Batch) (i : Inst) (y : Extent) (k : Nat) (last : Bool)
    (ds : List (Sector × BitVec 32 × Bool)) (s : State) : State :=
  let runs := poisonRuns ((List.range ds.length).zip ds)
  (runs.zip (List.range runs.length)).foldl (fun (u : State) (r : (Nat × Bool × List (Sector × BitVec 32)) × Nat) =>
    let t := gatherTag u
    let kind := if last && r.2 + 1 == runs.length then putFinal else putData
    let msg := putMsg u x (b.cmdOf i) i { y with addr := y.addr + 64 * r.1.1 } kind t r.1.2.1 r.1.2.2
    request q (b.first + i.idx) i.dseq (k + r.1.1) msg (owe q b.first i.dseq t u)) s

/-- Writes a run of a PUT that lies on the own die (R223); the first error. -/
def putNear (x : TQueue) (c : Cmd) (i : Inst) (k : Nat) (ds : List (Sector × BitVec 32 × Bool)) (s : State) : Nat × State :=
  (ds.zip (List.range ds.length)).foldl (fun (a : Nat × State) (d : (Sector × BitVec 32 × Bool) × Nat) =>
    match i.sector 1 (dstOff c i + k + d.2) with
    | some y => if a.1 != 0 then a else engWrite y x.share i.snap.mark x.asid d.1.1 d.1.2.1 d.1.2.2 a.2
    | none => a) (0, s)

/-- Sends further data of a PUT to another die: the last run for another die waits until the others are acknowledged, and its
last message is marked. -/
def putGo : Nat → Nat → Nat → Nat → State → State
  | 0, _, _, _, s => s
  | fuel + 1, q, first, dseq, s =>
    match instAt s q first dseq with
    | none => s
    | some (b, i) =>
      let c := b.cmdOf i
      let x := queueAt s q
      let k := i.xfer.next
      let n := cSectors c
      let m := runLength i 1 (dstOff c i) k n
      let far := farPositions s b i
      let last := farDest s b i k && far.all (fun p => decide (p < k + m))
      let ks := (List.range m).map (fun j => k + j)
      if i.op ≠ 0x30 ∨ far = [] ∨ !i.working ∨ n ≤ k ∨ m = 0 ∨ gatherWindow ≤ i.xfer.owed.length ∨ (last = true ∧ i.xfer.owed ≠ [])
          ∨ !dispDurable s b dseq ∨ (k = 0 ∧ 4096 ≤ unackedPuts s i.xfer.die) ∨ !delivered c i ks then s
      else
        match i.sector 1 (dstOff c i + k) with
        | none => s
        | some y => whenReached x.eng (ferryPlaces c i ks) (fun s =>
          let (ds, err0, s1) := putRead x c i k m s
          let (err1, s2) := putChecked ds err0 s1
          let (err, s3) := if err1 = 0 ∧ farDest s b i k = false then putNear x c i k ds s2 else (err1, s2)
          if err != 0 then putInst q first { i with xfer := { i.xfer with err := err } } s3
          else
            let i1 := { i with xfer := { i.xfer with
              buf := (ds.zip (List.range m)).foldl (fun u (p : (Sector × BitVec 32 × Bool) × Nat) =>
                mapIns u (k + p.2) (p.1.1, p.1.2.2)) i.xfer.buf
              next := k + m, poison := i.xfer.poison || ds.any (fun d => d.2.2)
              lastAt := if last then k else i.xfer.lastAt, lastLen := if last then m else i.xfer.lastLen } }
            let s4 := putInst q first i1 s3
            putGo fuel q first dseq (if farDest s b i k then putSend q x b i1 y k last ds s4 else s4)) s

/-- A PUT that has committed is released for its receiver (R474, R484): its last data go out once more, marked as the release
(log entry 47); until the answer the instance is kept. -/
def putOut (q : Nat) (x : TQueue) (b : Batch) (i : Inst) (s : State) : State :=
  match i.sector 1 (dstOff (b.cmdOf i) i + i.xfer.lastAt) with
  | none => s
  | some y =>
    let data := (List.range i.xfer.lastLen).map (fun j =>
      let d := ((mapFind i.xfer.buf (i.xfer.lastAt + j)).map (fun (p : Sector × Bool) => p.1)).getD 0
      (d, tallyOf d))
    let t := gatherTag s
    request q (b.first + i.idx) i.dseq i.xfer.lastAt (putMsg s x (b.cmdOf i) i y putRelease t false data)
      (putInst q b.first { i with released := true, xfer := { i.xfer with owed := [t] } } s)

/-- An instance whose effects are applied, and acknowledged where they reach another die, is done (R320, R469). -/
def finishInst (q first dseq : Nat) (s : State) : State :=
  match instAt s q first dseq with
  | none => s
  | some (_, i) =>
    let st := i.result.getD 0
    dealAll (unhold (settle q (modBatch q first (fun c =>
      let c1 := { c with insts := c.insts.filter (fun j => j.dseq != dseq) }
      if endsBatch st then (c1.setStatus i.idx st).fail st else c1) s)))

/-- Every PUT that may now send something does (R473, R486). -/
def putsGo (s : State) : State :=
  s.tq.queues.foldl (fun u (q : Nat × TQueue) => q.2.batches.foldl (fun v b => b.insts.foldl (fun w i =>
    if i.op = 0x30 then putGo (gatherWindow + 1) q.1 b.first i.dseq w else w) v) u) s

/-- The PSN and pair of a PUT to another die (R482, R497): as the journal recorded them, else the next of its pair, which is
journaled; without a sector for another die none. -/
def putPair (q : Nat) (b : Batch) (c : Cmd) (i : Inst) (s : State) : Xfer × State :=
  match (farPositions s b i).head?.bind (fun k => i.sector 1 (dstOff c i + k)) with
  | none => ({}, s)
  | some y =>
    match b.disp i.dseq with
    | some d => ({ psn := d.psn, epoch := d.epoch, die := d.die }, s)
    | none =>
      let die := paDie y.addr
      let p : PutTx := mapGet s.hbl.txPairs die {}
      let s1 := { s with hbl := { s.hbl with txPairs := mapIns s.hbl.txPairs die { p with next := (p.next + 1) % 2 ^ 64 } } }
      let d : DispRec := { dseq := i.dseq, seed := 0, params := 0, psn := p.next, count := 1, die := die, epoch := p.epoch, lsn := 0 }
      ({ psn := p.next, epoch := p.epoch, die := die }, jDispatch q b i.idx d s1)

/-- A PUT or GET begins (R314, R482): a PUT takes a PSN of its pair and journals it; reads leave. -/
def gatherBegin (q : Nat) (x : TQueue) (b : Batch) (c : Cmd) (l : List Opnd) (s : State) : State :=
  let i := newInst b l
  let (xfer, s1) := if cOp c = 0x30 then putPair q b c i s else ({}, s)
  let s2 := dispatch q b { i with xfer := xfer } s1
  let s3 := match i.sector 0 (srcOff c i) with
    | some y => if y.host then hostReads (cSectors c + 1) q i.snap.mark (b.first + i.idx) i.dseq x.asid
        ((i.opnd 0).map (fun o => o.exts) |>.getD []) (srcOff c i) 0 (cSectors c) s2 else s2
    | none => s2
  if cOp c = 0x31 then getGo (gatherWindow + 1) q b.first i.dseq s3 else putGo (gatherWindow + 1) q b.first i.dseq s3

/-- A PUT or GET is dispatched, if its step lies in its range (R315). -/
def gatherStart (q : Nat) (x : TQueue) (b : Batch) (c : Cmd) (l : List Opnd) (s : State) : State :=
  if indexBad b c then failDispatch q b Status.TQ_INDEX s else gatherBegin q x b c l s

def execTidePut (e : Fin 8) (s : State) : Result := .next (engineStep 0x30 (40 + e) gatherStart s)

def execTideGet (e : Fin 8) (s : State) : Result := .next (engineStep 0x31 (40 + e) gatherStart s)

/-! ### COLL (R330-R332, R469, R489-R493, R880; log entries 68 and 70) -/

/-- The members of a GROUP in ascending order. -/
def groupMembers (g : Nat) : List Nat := (List.range 32).filter (fun d => groupHas g d)

/-- The position of sector k of member d's contribution in a transfer's buffer. -/
def contribPos (d k : Nat) : Nat := (d + 1) * 2 ^ 40 + k

/-- The BODY of a COLL message: GROUP, ordinal, attempt, kind (0 READY, 1 re-issue, 2 end), mark of poison, and what R331
compares (log entry 68). -/
def collBody (c : Cmd) (ordinal attempt kind poison : Nat) : BitVec 256 :=
  BitVec.ofNat 256 (packB [(0, 4, cGroup c), (4, 4, ordinal), (8, 1, attempt), (9, 1, kind), (10, 1, poison),
    (12, 4, cSectors c), (16, 1, cColl c), (17, 1, cRedop c), (18, 1, cType c), (19, 1, cRoot c)])

/-- The contributions that a member reads: all but its own. -/
def collPeers (s : State) (c : Cmd) : List Nat := (groupMembers (cGroup c)).filter (fun d => d != ownDie s)

/-- Sends further READs of a COLL's contributions: each at the die-local address of the own SRC (log entry 68). -/
def collGo : Nat → Nat → Nat → Nat → State → State
  | 0, _, _, _, s => s
  | fuel + 1, q, first, dseq, s =>
    match instAt s q first dseq with
    | none => s
    | some (b, i) =>
      let c := b.cmdOf i
      let n := cSectors c
      let peers := collPeers s c
      let p := i.xfer.next
      let k := p % n
      let m := runLength i 0 0 k n
      match i.coll, peers[p / n]?, i.sector 0 k with
      | some cs, some d, some x =>
        if !i.working || decide (gatherWindow ≤ i.xfer.owed.length) || cs.interrupted || m == 0 then s
        else
          let t := gatherTag s
          let msg := { gatherMsg s (queueAt s q) i 0x02 d t (paLocal x.addr) with body := BitVec.ofNat 256 (m - 1) }
          let s1 := putInst q first { i with xfer := { i.xfer with owed := i.xfer.owed ++ [t], next := p + m } } s
          collGo fuel q first dseq (request q (b.first + i.idx) dseq (contribPos d k) msg s1)
      | _, _, _ => s

/-- Where sector k of a peer's contribution lies in the staging area: the peers' contributions one after another, as far as
the area reaches; the engine keeps the rest (R332; log entry 68). -/
def stagedAt (s : State) (c : Cmd) (i : Inst) (d k : Nat) : Option Extent :=
  match i.opnds.find? (fun o => o.num == 16 + 0x20) with
  | none => none
  | some o => extAt o.exts (((collPeers s c).takeWhile (fun p => p != d)).length * cSectors c + k)

/-- Reads a sector of a contribution from memory; none where it cannot be read. -/
def contribRead (x : TQueue) (i : Inst) (y : Extent) (s : State) : Option (Sector × Bool) × State :=
  match engRead y i.snap.mark x.eng x.asid s with
  | (.ok (v, _, p), s1) => (some (v, p), s1)
  | (.error _, s1) => (none, s1)

/-- The own contribution, and those of the peers once they have come: sector k of member d, with its poison. -/
def contribution (x : TQueue) (c : Cmd) (i : Inst) (d k : Nat) (s : State) : Option (Sector × Bool) × State :=
  if d = ownDie s then
    match i.sector 0 k with
    | none => (none, s)
    | some y => if y.host then (mapFind i.xfer.buf k, s) else contribRead x i y s
  else
    match stagedAt s c i d k with
    | some y => if (mapFind i.xfer.buf (contribPos d k)).isSome then contribRead x i y s else (none, s)
    | none => (mapFind i.xfer.buf (contribPos d k), s)

/-- The sectors of a COLL that its engine reads: its own contribution, and the staged ones. -/
def contribPlaces (s : State) (c : Cmd) (i : Inst) (ds : List Nat) : List (Nat × Extent) :=
  ds.flatMap (fun d => (List.range (cSectors c)).filterMap (fun k =>
    (if d = ownDie s then i.sector 0 k else stagedAt s c i d k).map (fun y => (1, y))))

/-- An entry of a collective: COLL_READY, COLL_COMMIT or INTERRUPT (R458). -/
def jColl (kind q : Nat) (b : Batch) (i : Inst) (cs : CollSt) (s : State) : State :=
  jAppend q kind 0 0 [(12, 8, b.first + i.idx), (20, 4, i.dseq), (24, 4, cGroup (b.cmdOf i)), (28, 4, cs.ordinal),
    (32, 1, cs.attempt)] s

/-- Every contribution has arrived: COLL_READY is written (R469). The own contribution may be poisoned as well (R880). -/
def collArrived (q first dseq : Nat) (s : State) : State :=
  match instAt s q first dseq with
  | none => s
  | some (b, i) =>
    match i.coll with
    | none => s
    | some cs =>
      let c := b.cmdOf i
      let n := cSectors c
      let all := (collPeers s c).all (fun d => (List.range n).all (fun k => (mapFind i.xfer.buf (contribPos d k)).isSome))
      if !i.working || cs.readyLsn != 0 || cs.interrupted || !all then s
      else
      whenReached (queueAt s q).eng (contribPlaces s c i [ownDie s]) (fun s =>
        let x := queueAt s q
        let (own, s1) := (List.range n).foldl (fun (a : Option Bool × State) k =>
          match contribution x c i (ownDie s) k a.2 with
          | (some (_, p), u) => (a.1.map (fun z => z || p), u)
          | (none, u) => (none, u)) (some false, s)
        match own with
        | none => s1
        | some p =>
          let poison := p || i.xfer.poison
          let s2 := jColl 0x0A q b i cs s1
          putInst q first { i with
            xfer := { i.xfer with poison := poison }
            coll := some { cs with readyLsn := jHead s2, ready := cs.ready ++ [(ownDie s, boolNat poison)] } } s2) s

/-- A COLL is dispatched (R331, R332, R469): its ordinal, its DISPATCH entry, the reads of its contributions. -/
def collStart (q : Nat) (x : TQueue) (b : Batch) (c : Cmd) (l : List Opnd) (s : State) : State :=
  let i0 := newInst b l
  let key := b.seq.mark * 2 ^ 32 + cGroup c
  let (ord, s1) := match b.disp i0.dseq with
    | some d => (d.ord, s)
    | none =>
      let o := mapGet s.tq.ordinals key 0
      let d : DispRec := { dseq := i0.dseq, seed := 0, params := 0, psn := 0, count := 0, die := 0, epoch := 0, ord := o, lsn := 0 }
      (o, jDispatch q b i0.idx d { s with tq := { s.tq with ordinals := mapIns s.tq.ordinals key (o + 1) } })
  let i := { i0 with coll := some { ordinal := ord } }
  let s2 := dispatch q b i s1
  let s3 := match i.sector 0 0 with
    | some y => if y.host then hostReads (cSectors c + 1) q i.snap.mark (b.first + i.idx) i.dseq x.asid
        ((i.opnd 0).map (fun o => o.exts) |>.getD []) 0 0 (cSectors c) s2 else s2
    | none => s2
  collArrived q b.first i.dseq (collGo (gatherWindow + 1) q b.first i.dseq s3)

def execTideColl (e : Fin 8) (s : State) : Result := .next (engineStep 0x32 (40 + e) collStart s)

/-- Sends a COLL message to a member. -/
def collSend (x : TQueue) (i : Inst) (c : Cmd) (cs : CollSt) (kind poison d : Nat) (s : State) : State :=
  twySend { gatherMsg s x i 0x13 d 0 0 with vc := 1, body := collBody c cs.ordinal cs.attempt kind poison } s

/-- READY has come from every member and the own READY is out: COLL_COMMIT, or the end that R331 or R880 gives (R489). -/
def collTry (q first dseq : Nat) (s : State) : State :=
  match instAt s q first dseq with
  | none => s
  | some (b, i) =>
    match i.coll with
    | none => s
    | some cs =>
      let c := b.cmdOf i
      let all := (groupMembers (cGroup c)).all (fun d => cs.ready.any (fun r => r.1 == d))
      if !i.working || !cs.readySent || cs.commitLsn != 0 || cs.interrupted || !all then s
      else if cs.ready.any (fun r => r.2 == 2) then failInst q first dseq Status.TQ_COLLMISMATCH true s
      else if cs.ready.any (fun r => r.2 == 1) then failInst q first dseq Status.TQ_POISON true s
      else
        let s1 := jColl 0x0B q b i cs s
        putInst q first { i with coll := some { cs with commitLsn := jHead s1 } } s1

/-- COLL_READY_DURABLE (R469, R489): READY goes to every member once the entry is durable; `damaged` tells of a digest that
disagrees (R422). -/
def collReadyDurable (q asn dseq : Nat) (damaged : Bool) (s : State) : State :=
  match instOf s q asn dseq with
  | none => s
  | some (b, i) =>
    match i.coll with
    | none => s
    | some cs =>
      if !i.working || cs.readyLsn == 0 || cs.readySent || cs.interrupted || !durable s (cs.readyLsn - 1) then s
      else
        let x := queueAt s q
        let c := b.cmdOf i
        if damaged then
          failInst q b.first dseq Status.TQ_DIGEST true
            (post { code := Ev.TLY_DIGEST, asid := x.asid, queue := some q, mark := i.snap.mark, inst := x.eng,
                    d0 := Status.TQ_DIGEST + i.idx * 2 ^ 16 } (bump F.TLY_DIGERR.COUNT 0 s))
        else
          let cs1 := { cs with readySent := true }
          let s1 := (collPeers s c).foldl (fun u d => collSend x i c cs1 0 (boolNat i.xfer.poison) d u)
            (putInst q b.first { i with coll := some cs1 } s)
          collTry q b.first dseq s1

def execCollReadyDurable (q : QueueId) (asn : BitVec 64) (dseq : BitVec 32) (damaged : Bool) (s : State) : Result :=
  .next (onlyIf (frameRuns s) (collReadyDurable q asn.toNat dseq.toNat damaged) s)

/-- The bits of an element of a COLL's TYPE, and its ET (R330, R388). -/
def collBits (ty : Nat) : Nat := [32, 32, 16, 16].getD ty 32
def collEt (ty : Nat) : Nat := [3, 8, 7, 6].getD ty 3

/-- An element reduced over the members: exact where the result is a value of the type, else open (log entry 70). -/
def collElem (op ty : Nat) (xs : List Nat) : Nat :=
  let vals := xs.map (elemValue (collEt ty))
  if vals.any (fun v => v.isNone) then Config.collElem op ty xs
  else
    let vs := vals.map (fun v => v.getD 0)
    if op = 0 then
      let sum := vs.foldl (fun a v => a + v) 0
      let code := match fpOf (collEt ty) with
        | some t => toFp t false (sum * 2 ^ 160)
        | none => (BitVec.ofInt 32 (sum / 2 ^ 160)).toNat
      if elemValue (collEt ty) code = some sum ∧ sum ≠ 0 then code
      else if ty = 0 ∧ sum = 0 then 0
      else Config.collElem op ty xs
    else
      let best := vs.foldl (fun a v => if op = 1 then max a v else min a v) (vs.headD 0)
      let codes := (xs.filter (fun x => elemValue (collEt ty) x == some best)).eraseDups
      match codes with
      | [x] => x
      | _ => Config.collElem op ty xs

/-- A sector reduced over the members, element by element. -/
def collSector (op ty : Nat) (ds : List Sector) : Sector :=
  let w := collBits ty
  BitVec.ofNat 512 ((List.range (512 / w)).map (fun j =>
    collElem op ty (ds.map (fun d => bitsAt d (w * j) w)) % 2 ^ w * 2 ^ (w * j))).sum

/-- Part r of a buffer of n sectors among m members: its first sector and the one after its last (log entry 70). -/
def collPart (n m r : Nat) : Nat × Nat := (r * n / m, (r + 1) * n / m)

/-- Which part sector k belongs to. -/
def partOf (n m k : Nat) : Nat := ((List.range m).find? (fun r => decide ((collPart n m r).1 ≤ k ∧ k < (collPart n m r).2))).getD 0

/-- What sector k of DST becomes: none where the COLL leaves it (R330; log entry 70). -/
def collOutput (x : TQueue) (c : Cmd) (i : Inst) (k : Nat) (s : State) : Option Sector × State :=
  let ms := groupMembers (cGroup c)
  let n := cSectors c
  let one := fun (d : Nat) => let (r, u) := contribution x c i d k s; (r.map (fun (p : Sector × Bool) => p.1), u)
  let reduce : Option Sector × State :=
    let (l, u) := ms.foldl (fun (a : List Sector × State) d =>
      match contribution x c i d k a.2 with
      | (some (v, _), t) => (a.1 ++ [v], t)
      | (none, t) => (a.1, t)) ([], s)
    (some (collSector (cRedop c) (cType c) l), u)
  match cColl c with
  | 0 => reduce
  | 1 => if ms[partOf n ms.length k]? = some (ownDie s) then reduce else (none, s)
  | 2 => match ms[partOf n ms.length k]? with
    | some d => one d
    | none => (none, s)
  | _ => one (cRoot c)

/-- COLL_COMMIT_DURABLE (R490, R493): the outputs are written to DST. -/
def collCommitDurable (q asn dseq : Nat) (s : State) : State :=
  match instOf s q asn dseq with
  | none => s
  | some (b, i) =>
    match i.coll with
    | none => s
    | some cs =>
      if !i.working || cs.commitLsn == 0 || !durable s (cs.commitLsn - 1) then s
      else
        let x := queueAt s q
        let c := b.cmdOf i
        let places := contribPlaces s c i (groupMembers (cGroup c))
          ++ (List.range (cSectors c)).filterMap (fun k => (i.sector 1 k).map (fun y => (2, y)))
        whenReached x.eng places (fun s =>
        let (outs, s1) := (List.range (cSectors c)).foldl (fun (a : List (Nat × Sector) × State) k =>
          match collOutput x c i k a.2 with
          | (some d, u) => (a.1 ++ [(k, d)], u)
          | (none, u) => (a.1, u)) ([], s)
        let (st, s2) := outs.foldl (fun (a : Nat × State) (o : Nat × Sector) =>
          match i.sector 1 o.1 with
          | none => a
          | some y =>
            let (e, u) := engWrite y x.share i.snap.mark x.asid o.2 (tallyOf o.2) false a.2
            (if a.1 = 0 then e else a.1, u)) (0, s1)
        putInst q b.first { i with result := some st } s2) s

def execCollCommitDurable (q : QueueId) (asn : BitVec 64) (dseq : BitVec 32) (s : State) : Result :=
  .next (onlyIf (frameRuns s) (collCommitDurable q asn.toNat dseq.toNat) s)

/-- COLL_TIMEOUT (R492): a COLL that has not committed completes with TQ_PEER. -/
def collTimeout (q asn dseq : Nat) (s : State) : State :=
  match instOf s q asn dseq with
  | none => s
  | some (b, i) =>
    match i.coll with
    | none => s
    | some cs => if i.working && cs.commitLsn == 0 then failInst q b.first dseq Status.TQ_PEER true s else s

def execCollTimeout (q : QueueId) (asn : BitVec 64) (dseq : BitVec 32) (s : State) : Result :=
  .next (onlyIf (frameRuns s) (collTimeout q asn.toNat dseq.toNat) s)

/-- Every COLL at work: queue, first ASN of its batch, DSEQ. -/
def allColls (s : State) : List (Nat × Nat × Nat) :=
  s.tq.queues.flatMap (fun (q : Nat × TQueue) => q.2.batches.flatMap (fun b =>
    (b.insts.filter (fun i => i.coll.isSome && i.phase == .run)).map (fun i => (q.1, b.first, i.dseq))))

/-- What a COLL holds is discarded: contributions and READYs (R469, R491). -/
def collDiscard (i : Inst) (cs : CollSt) : Inst :=
  { i with
    xfer := { i.xfer with buf := i.xfer.buf.filter (fun (e : Nat × (Sector × Bool)) => decide (e.1 < 2 ^ 40)), owed := [], next := 0, poison := false }
    coll := some { cs with ready := [], readyLsn := 0, readySent := false } }

/-- A member is lost before this die's COLL_COMMIT: INTERRUPT, and the staging is discarded (R469, R491). -/
def collLost (d : Nat) (s : State) : State :=
  (allColls s).foldl (fun u (p : Nat × Nat × Nat) =>
    match instAt u p.1 p.2.1 p.2.2 with
    | none => u
    | some (b, i) =>
      match i.coll with
      | none => u
      | some cs =>
        if !groupHas (cGroup (b.cmdOf i)) d || cs.commitLsn != 0 || cs.interrupted || d == ownDie u || !i.working then u
        else
          let u1 := jColl 0x0C p.1 b i cs u
          let u2 := i.xfer.owed.foldl (fun v t => dropTag t v) u1
          putInst p.1 p.2.1 (collDiscard i { cs with interrupted := true }) (bump F.HBL_INTERRUPT.COUNT 0 u2)) s

/-- The COLLs of a mark, GROUP and ordinal. -/
def collsNamed (s : State) (mark group ordinal : Nat) : List (Nat × Nat × Nat) :=
  (allColls s).filter (fun p => match instAt s p.1 p.2.1 p.2.2 with
    | some (b, i) => i.snap.mark == mark && cGroup (b.cmdOf i) == group && (i.coll.map (fun c => c.ordinal)) == some ordinal
    | none => false)

/-- A re-issue: every member gathers again with a new attempt (R491). -/
def collReissue (attempt : Nat) (p : Nat × Nat × Nat) (s : State) : State :=
  match instAt s p.1 p.2.1 p.2.2 with
  | none => s
  | some (_, i) =>
    match i.coll with
    | none => s
    | some cs =>
      if cs.commitLsn != 0 || decide (attempt ≤ cs.attempt) || !i.working then s
      else
        let s1 := i.xfer.owed.foldl (fun v t => dropTag t v) s
        let s2 := putInst p.1 p.2.1 (collDiscard i { cs with attempt := attempt, interrupted := false }) s1
        collArrived p.1 p.2.1 p.2.2 (collGo (gatherWindow + 1) p.1 p.2.1 p.2.2 s2)

/-- An end: the COLL completes with TQ_PEER and writes nothing (R491). -/
def collEnd (p : Nat × Nat × Nat) (s : State) : State :=
  match instAt s p.1 p.2.1 p.2.2 with
  | none => s
  | some (_, i) =>
    match i.coll with
    | none => s
    | some cs => if cs.commitLsn != 0 || !i.working then s else failInst p.1 p.2.1 p.2.2 Status.TQ_PEER true s

/-- A COLL message reaches this die: `true` where a COLL here takes it; else it waits for the COLL that it names. -/
def collMessage (m : TwyMsg) (s : State) : Bool × State :=
  let g := byteField m.body 0 4
  let ord := byteField m.body 4 4
  let attempt := byteField m.body 8 1
  match collsNamed s m.mark g ord with
  | [] => (false, s)
  | p :: _ =>
    match byteField m.body 9 1 with
    | 1 => (true, collReissue attempt p s)
    | 2 => (true, collEnd p s)
    | _ =>
      match instAt s p.1 p.2.1 p.2.2 with
      | none => (true, s)
      | some (b, i) =>
        match i.coll with
        | none => (true, s)
        | some cs =>
          if attempt < cs.attempt then (true, s)
          else if cs.attempt < attempt ∨ cs.interrupted = true then (false, s)
          else
            let c := b.cmdOf i
            let same := byteField m.body 12 8 == byteField (collBody c ord attempt 0 0) 12 8
            let code := if !same then 2 else boolNat (byteField m.body 10 1 == 1)
            let cs1 := { cs with ready := (cs.ready.filter (fun r => r.1 != m.src)) ++ [(m.src, code)] }
            (true, collTry p.1 p.2.1 p.2.2 (putInst p.1 p.2.1 { i with coll := some cs1 } s))

/-! ### Answers from other dies (R271, R320, R332, R503) -/

/-- The request that a TAG names is answered: its queue, batch, instance and position. -/
def tagInst (s : State) (tag : Nat) : Option (Nat × Batch × Inst × Nat) :=
  match mapFind s.twy.reads (tag % tagSpan) with
  | none => none
  | some r => match instOf s r.queue r.asn r.dseq with
    | some (b, i) => some (r.queue, b, i, r.pos)
    | none => none

/-- The places of the staging area that the READ_DATA of a COLL goes to (R332). -/
def dataPlaces (s : State) (m : TwyMsg) : List (Nat × Extent) :=
  match tagInst s m.tag with
  | none => []
  | some (_, b, i, pos) =>
    if i.op = 0x32 then (List.range m.data.length).filterMap (fun j =>
      (stagedAt s (b.cmdOf i) i (pos / 2 ^ 40 - 1) (pos % 2 ^ 40 + j)).map (fun y => (2, y)))
    else []

/-- A COLL's contributions go into its staging area as they arrive, poisoned where their tally fails (R332, R415). -/
def stageData (x : TQueue) (i : Inst) (m : TwyMsg) (places : List (Nat × Extent)) (s : State) : State :=
  (m.data.zip places).foldl (fun u (p : (Sector × BitVec 32) × Nat × Extent) =>
    (engWrite p.2.2 x.share i.snap.mark x.asid p.1.1 (tallyOf p.1.1) (m.poison || !tallyOk p.1.1 p.1.2) u).2) s

/-- READ_DATA reaches its requester, which checks each sector's tally (R414, R415). -/
def gatherData (m : TwyMsg) (s : State) : State :=
  let s0 := dropTag m.tag s
  match tagInst s m.tag with
  | none => s0
  | some (q, b, i, pos) =>
    let bad := (m.data.filter (fun (d : Sector × BitVec 32) => !tallyOk d.1 d.2)).length
    let s1 := (List.range bad).foldl (fun u _ => post { code := Ev.TLY_TALLY, mark := m.mark, d1 := m.addr }
      (bump F.TLY_TALLYERR.COUNT 0 u)) s0
    let put := (m.data.zip (List.range m.data.length)).foldl (fun u (p : (Sector × BitVec 32) × Nat) =>
      mapIns u (pos + p.2) (p.1.1, m.poison || !tallyOk p.1.1 p.1.2)) i.xfer.buf
    let i1 := { i with xfer := { i.xfer with
      buf := put, owed := i.xfer.owed.filter (fun t => t != m.tag % tagSpan)
      poison := i.xfer.poison || m.poison || bad != 0 } }
    let s2 := stageData (queueAt s q) i m (dataPlaces s m) (putInst q b.first i1 s1)
    if i.op = 0x32 then collArrived q b.first i.dseq (collGo (gatherWindow + 1) q b.first i.dseq s2)
    else getGo (gatherWindow + 1) q b.first i.dseq s2

/-- An ACK completes one WRITE of a put (R486); that to the release of a put completes its instance (R320). -/
def gatherAck (m : TwyMsg) (s : State) : State :=
  let s0 := dropTag m.tag s
  match tagInst s m.tag with
  | none => s0
  | some (q, b, i, _) =>
    putsGo (if i.released then finishInst q b.first i.dseq s0
      else putInst q b.first { i with xfer := { i.xfer with owed := i.xfer.owed.filter (fun t => t != m.tag % tagSpan) } } s0)

/-- An ERROR ends the sending command with its status (R271). -/
def gatherError (tag st : Nat) (s : State) : State :=
  let s0 := dropTag tag s
  match tagInst s tag with
  | none => s0
  | some (q, b, i, _) =>
    putsGo (if i.released then dealAll (failInst q b.first i.dseq st true s0)
      else putInst q b.first { i with xfer := { i.xfer with
        owed := i.xfer.owed.filter (fun t => t != tag % tagSpan), err := if i.xfer.err = 0 then st else i.xfer.err } } s0)

/-- A die is a target of an instance's transfer. -/
def Inst.targets (b : Batch) (i : Inst) (d : Nat) : Bool :=
  let c := b.cmdOf i
  let on := fun (num off : Nat) => (List.range (cSectors c)).any (fun k =>
    match i.sector num (off + k) with
    | some y => !y.host && paDie y.addr == d
    | none => false)
  if i.op = 0x30 then on 1 (dstOff c i) else if i.op = 0x31 then i.phase == .run && on 0 (srcOff c i) else false

/-- The target die of PUTs and GETs is declared failed: they complete with XLT_REMOTE (R503). -/
def targetFailed (d : Nat) (s : State) : State :=
  s.tq.queues.foldl (fun u (q : Nat × TQueue) => q.2.batches.foldl (fun v b => b.insts.foldl (fun w i =>
    if i.targets b d && d != ownDie w then failInst q.1 b.first i.dseq Status.XLT_REMOTE true w
    else w) v) u) s

/-- A Gather instance has nothing more to wait for. -/
def gatherReady (s : State) (b : Batch) (i : Inst) : Bool :=
  let c := b.cmdOf i
  let n := cSectors c
  if i.xfer.err != 0 then i.op != 0x30 || i.xfer.owed.isEmpty
  else if i.op = 0x32 then i.result.isSome
  else if i.op = 0x31 then (List.range n).all (fun k =>
    (!farSource s i (srcOff c i + k) || (mapFind i.xfer.buf k).isSome)) && delivered c i (List.range n)
  else if farPositions s b i = [] then delivered c i (List.range n)
  else decide (n ≤ i.xfer.next) && i.xfer.owed.isEmpty

end Sys2Proof.Machine
end

