-- ==== Sys2Proof/Machine/Harbour.lean ====
section
/-! DEFINITION. The Harbour log beyond its entries (10): durability, the mirror partner (R480), mirror slots (R488), pair
epochs (R482, R487), takeover (R499-R506), and what a steward's decision does on this die (R503, R508). -/

namespace Sys2Proof.Machine

/-! ### Durability and space (R460-R462) -/

/-- JOURNAL_LOCAL_DURABLE (R460, R461): the Reef has acknowledged the next entry of the own area. -/
def journalLocal (s : State) : State :=
  if jHead s ≤ s.hbl.local_ then s
  else putsGo { s with hbl := { s.hbl with local_ := s.hbl.local_ + 1 } }

def execJournalLocalDurable (s : State) : Result := .next (onlyIf (frameRuns s) journalLocal s)

/-- LOG_REAPPEND (R462): the oldest position is reclaimed; a live entry there is appended again. -/
def execLogReappend (s : State) : Result := .next (onlyIf (frameRuns s) jReclaim s)

/-! ### The mirror partner (R24, R25, R480) -/

/-- The die loses its mirror partner: MIRRORED falls, with one DEGRADED event (R24, R480). -/
def mirrorLost (s : State) : State :=
  let s1 := setF F.HBL_PARTNER.STATE 0 0 (setF F.HBL_PARTNER.VALID 0 0 s)
  if mirrored s then
    post { code := Ev.HBL_UNMIRRORED, inst := getF s F.HBL_PARTNER.DIE } (setF F.GLB_STATUS.MIRRORED 0 0 s1)
  else s1

/-- Everything sent to a new partner is durable there: the die is mirrored (R25, R480). -/
def mirrorReached (s : State) : State :=
  if getF s F.HBL_PARTNER.STATE = 1 ∧ s.hbl.goal ≤ s.hbl.acked then
    post { code := Ev.HBL_REMIRRORED, inst := getF s F.HBL_PARTNER.DIE }
      (setF F.GLB_STATUS.MIRRORED 0 1 (setF F.HBL_PARTNER.STATE 0 2 s))
  else s

/-- The live entries of the own area in LSN order. -/
def liveInOrder (s : State) : List (BitVec 512) :=
  let cut := s.hbl.oldest % areaSize
  let live := fun (e : Nat × BitVec 512) =>
    decide (s.hbl.oldest ≤ jLsn e.2) && decide (jLsn e.2 < jHead s) && entryLive s e.2
  ((s.hbl.own.filter (fun e => decide (cut ≤ e.1) && live e)) ++ (s.hbl.own.filter (fun e => decide (e.1 < cut) && live e))).map
    (fun e => e.2)

/-- The steward assigns a partner (R480): a die that was mirrored has lost its partner (R24); every live entry is copied to the
new one in LSN order, then every new one. -/
def partnerAssign (d : Nat) (s : State) : State :=
  if flag s F.HBL_PARTNER.VALID && getF s F.HBL_PARTNER.DIE == d && getF s F.HBL_PARTNER.STATE != 0 then s
  else
    let s1 := setF F.HBL_PARTNER.DIE 0 d (setF F.HBL_PARTNER.VALID 0 1 (setF F.HBL_PARTNER.STATE 0 1 (mirrorLost s)))
    let s2 := { s1 with hbl := { s1.hbl with goal := 0, acked := 0 } }
    mirrorReached ((liveInOrder s2).foldl (fun u e => jMirror e u) s2)

/-- The partner reports a cumulative LSN (R461, R480). -/
def partnerAcked (src lsn : Nat) (s : State) : State :=
  if flag s F.HBL_PARTNER.VALID && getF s F.HBL_PARTNER.DIE == src && getF s F.HBL_PARTNER.STATE != 0
      && decide (s.hbl.acked ≤ lsn) then
    putsGo (mirrorReached (set64 .HBL_ACKED_LO .HBL_ACKED_HI 0 lsn { s with hbl := { s.hbl with acked := lsn + 1 } }))
  else s

/-! ### Mirror slots (R455, R477, R481, R488) -/

/-- The die mirrored in a slot, if the slot is in use (HBL_CLIENTS). -/
def clientOf (s : State) (k : Nat) : Option Nat :=
  if k = 0 then (if flag s F.HBL_CLIENTS.VALID0 then some (getF s F.HBL_CLIENTS.CLIENT0) else none)
  else if flag s F.HBL_CLIENTS.VALID1 then some (getF s F.HBL_CLIENTS.CLIENT1) else none

/-- The slot of a client. -/
def slotOf (s : State) (d : Nat) : Option Nat := [0, 1].find? (fun k => clientOf s k == some d)

/-- Puts a client into a slot, or frees the slot. -/
def setClient (k : Nat) (d : Option Nat) (s : State) : State :=
  if k = 0 then setF F.HBL_CLIENTS.CLIENT0 0 (d.getD 0) (setF F.HBL_CLIENTS.VALID0 0 (boolNat d.isSome) s)
  else setF F.HBL_CLIENTS.CLIENT1 0 (d.getD 0) (setF F.HBL_CLIENTS.VALID1 0 (boolNat d.isSome) s)

/-- Discards what a slot holds (R481). -/
def dropSlot (k : Nat) (s : State) : State :=
  let s1 := setClient k none s
  { s1 with hbl := { s1.hbl with
      slots := s1.hbl.slots.filter (fun (e : Nat × BitVec 512) => e.1 / areaSize != k)
      slotHead := mapDel s1.hbl.slotHead k } }

/-- The steward makes this die the partner of a client: it takes a free slot (R477, R480). -/
def clientAssign (d : Nat) (s : State) : State :=
  if (slotOf s d).isSome then s
  else
    match [0, 1].find? (fun k => (clientOf s k).isNone) with
    | some k => setClient k (some d) (dropSlot k s)
    | none => s

/-- The die no longer mirrors a client (R481); a takeover of it keeps the slot (R505, R506). -/
def clientDrop (d : Nat) (s : State) : State :=
  match slotOf s d with
  | some k => if s.hbl.tk.any (fun t => t.die == d) then s else dropSlot k s
  | none => s

/-- The die ends its mirror service (R69, R70): the slots that no takeover needs are free. -/
def serviceEnd (s : State) : State :=
  [0, 1].foldl (fun u k => match clientOf u k with
    | some d => clientDrop d u
    | none => u) s

/-- Writes one received entry into a client's slot, or drops it as a duplicate (R488). -/
def slotPut (k : Nat) (e : BitVec 512) (s : State) : State :=
  let key := k * areaSize + jLsn e % areaSize
  match mapFind s.hbl.slots key with
  | some o =>
    if jLsn o = jLsn e then bump F.HBL_DUPDROP.COUNT 0 s
    else { s with hbl := { s.hbl with slots := mapIns s.hbl.slots key e
                                      slotHead := mapSet s.hbl.slotHead k 0 (max (mapGet s.hbl.slotHead k 0) (jLsn e + 1)) } }
  | none => { s with hbl := { s.hbl with slots := mapIns s.hbl.slots key e
                                         slotHead := mapSet s.hbl.slotHead k 0 (max (mapGet s.hbl.slotHead k 0) (jLsn e + 1)) } }

/-- Journal entries reach the partner: they go into the client's slot, and the cumulative LSN is reported (R461, R488). -/
def slotJournal (src : Nat) (es : List (BitVec 512)) (s : State) : State :=
  match slotOf s src with
  | none => s
  | some k =>
    let s1 := es.foldl (fun u e => slotPut k e u) s
    let h := mapGet s1.hbl.slotHead k 0
    if h = 0 then s1
    else twySend { op := 0x11, vc := 1, src := ownDie s1, dst := src, seq := h - 1 } s1

/-! ### Takeover (R499-R502, R505, R506) -/

/-- The entries of a slot whose CRC verifies. -/
def slotEntries (s : State) (k : Nat) : List (BitVec 512) :=
  ((s.hbl.slots.filter (fun (e : Nat × BitVec 512) => e.1 / areaSize == k)).map (fun e => e.2)).filter jCrcOk

/-- The entry of highest LSN. -/
def newest (es : List (BitVec 512)) : Option (BitVec 512) :=
  es.foldl (fun b e => match b with
    | none => some e
    | some x => if jLsn x < jLsn e then some e else some x) none

/-- One more than the LSN of the last RETIRE entry of a queue over ASNs that meet [first, last]; 0 without one. -/
def retiredAt (es : List (BitVec 512)) (q first last : Nat) : Nat :=
  match newest (es.filter (fun e => jKind e == 13 && jQueue e == q
      && decide (byteField e 12 8 ≤ last) && decide (first ≤ byteField e 20 8))) with
  | some e => jLsn e + 1
  | none => 0

/-- The first and last ASN of a BATCH entry. -/
def batchFirst (e : BitVec 512) : Nat := byteField e 12 8
def batchLast (e : BitVec 512) : Nat := byteField e 12 8 + byteField e 20 2 - 1

/-- The BATCH entries of a slot's live batches: the newest of each, without a later RETIRE entry (R462). -/
def liveBatches (es : List (BitVec 512)) : List (BitVec 512) :=
  (es.filter (fun e => jKind e == 1)).filter (fun e =>
    !(es.any (fun f => jKind f == 1 && jQueue f == jQueue e && batchFirst f == batchFirst e && decide (jLsn e < jLsn f)))
      && decide (retiredAt es (jQueue e) (batchFirst e) (batchLast e) ≤ jLsn e))

/-- What a slot tells of a live batch: its commands and outcomes, its newest restart point, its COMMITs with LAST set. -/
structure TkBatch where
  queue : Nat
  unmir : Bool
  batch : Batch
  last : List (Nat × Nat × Nat)
  deriving DecidableEq, Repr

/-- The snap of a CKPT entry (R458). -/
def ckptSnap (e : BitVec 512) : Snap :=
  { dseq := byteField e 12 4, pos := byteField e 16 2, mark := byteField e 18 2
    iregs := (List.range 8).map (fun i => byteField e (20 + 4 * i) 4) }

/-- Reads a live batch out of a slot. -/
def tkBatch (es : List (BitVec 512)) (e : BitVec 512) : TkBatch :=
  let q := jQueue e
  let first := batchFirst e
  let n := byteField e 20 2
  let lo := retiredAt es q first (batchLast e)
  let mine := es.filter (fun f => jQueue f == q && decide (lo ≤ jLsn f))
  let ofAsn := fun (k : Nat) => mine.filter (fun f => decide (first ≤ jAsn f ∧ jAsn f < first + n) && jKind f == k)
  let cmds := (List.range n).map (fun i =>
    match newest ((ofAsn 2).filter (fun f => jAsn f == first + i)) with
    | some f => ({ word := BitVec.ofNat 256 (byteField f 20 32), opnds := [] } : TCmd)
    | none => { word := 0, opnds := [] })
  let ck := match newest (mine.filter (fun f => jKind f == 7 && byteField f 52 8 == first)) with
    | some f => ckptSnap f
    | none => {}
  { queue := q
    unmir := jUnmir e
    batch := { first := first, ring := byteField e 22 2, cmds := cmds, ckpt := ck
               outcomes := (ofAsn 5).foldl (fun m f => mapIns m (jDseq f) (bitAt f 192)) [] }
    last := ((ofAsn 6).filter (fun f => bitAt f 208)).map (fun f => (jAsn f - first, byteField f 24 2, jLsn f)) }

/-- The sequencer after the command at which it stands, by the recorded outcomes (R299-R302, R459). -/
def pathNext (b : Batch) (p : Snap) : Snap :=
  let c := wordAt b.words p.pos
  let go := fun (r : Snap) (pos : Nat) => { r with dseq := p.dseq + 1, pos := pos }
  match cOp c with
  | 1 => go p (target b.words p.pos).toNat
  | 2 => go p (if mapGet b.outcomes p.dseq false then (target b.words p.pos).toNat else p.pos + 1)
  | 3 =>
    let v := (p.reg (cIreg c) + 1) % 2 ^ 32
    go (p.setReg (cIreg c) v) (if v < cImm c then (target b.words p.pos).toNat else p.pos + 1)
  | 4 => go (p.setReg (cIreg c) (cImm c)) (p.pos + 1)
  | 5 => go (p.setReg (cIreg c) (p.reg (cIreg c) + cImm c)) (p.pos + 1)
  | _ => go p (p.pos + 1)

/-- The commands whose completing instance the path passes in `n` instances (R338, R459, R500). -/
def pathDone (b : Batch) : Nat → Snap → List Nat
  | 0, _ => []
  | n + 1, p =>
    let rest := pathDone b n (pathNext b p)
    if lastAt { b with seq := p } p.pos then p.pos :: rest else rest

/-- A class-I control command (R471). -/
def classI (op : Nat) : Bool := decide (op ≤ 6) || decide (9 ≤ op ∧ op ≤ 0x0B)

/-- STATUS and LSN of command k's takeover record (R500, R501). -/
def tkStatus (t : TkBatch) (done : List Nat) (k : Nat) : Nat × Nat :=
  let j := t.batch.owner k
  match t.last.find? (fun (l : Nat × Nat × Nat) => l.1 == j) with
  | some l => (l.2.1, l.2.2)
  | none =>
    if classI (cOp (wordAt t.batch.words j)) && done.contains j then (Status.OK, 0) else (Status.HBL_DIELOST, 0)

/-- The takeover records of a batch, without PHASE (R501). -/
def tkRecords (die : Nat) (t : TkBatch) : List (BitVec 256) :=
  let done := pathDone t.batch t.batch.ckpt.dseq {}
  (List.range t.batch.cmds.length).map (fun k =>
    let (st, lsn) := tkStatus t done k
    BitVec.ofNat 256 (packB [(0, 8, t.batch.first + k), (8, 2, st), (10, 2, t.queue), (12, 1, die), (13, 1, boolNat t.unmir),
      (16, 8, lsn)]))

/-- Every takeover record of a slot, queue by queue in ASN order (R499). -/
def slotRecords (s : State) (k die : Nat) : List (BitVec 256) :=
  let es := slotEntries s k
  let bs := (liveBatches es).map (tkBatch es)
  let qs := (List.range 1024).filter (fun q => bs.any (fun b => b.queue == q))
  qs.flatMap (fun q =>
    ((bs.filter (fun b => b.queue == q)).mergeSort (fun a b => decide (a.batch.first ≤ b.batch.first))).flatMap (tkRecords die))

/-- Records of the takeover ring (R511). -/
def tkSize (s : State) : Nat := 2 ^ getF s F.HBL_TKCTL.LOG2

/-- Host address of the takeover ring. -/
def tkBase (s : State) : Nat := getF s F.HBL_TKBASE_LO.BASE * 4096 + getF s F.HBL_TKBASE_HI.BASE * 2 ^ 32

/-- Writes records while the ring has room; the records left over (R343, R501, R505). -/
def tkWrite : List (BitVec 256) → State → List (BitVec 256) × State
  | [], s => ([], s)
  | r :: rest, s =>
    let n := s.hbl.tkTail
    if s.hbl.tkHead + tkSize s ≤ n then (r :: rest, s)
    else
      let bits := r.toNat + ringPhase n (tkSize s) * 2 ^ 111
      let s1 := { s with hbl := { s.hbl with tkTail := n + 1 } }
      tkWrite rest (hostSend (.record none {} (BitVec.ofNat 64 (tkBase s + 32 * (n % tkSize s))) 32 (BitVec.ofNat 1024 bits)) s1)

/-- Goes on with the takeovers, oldest first: records while TK_EN and the ring allow, the vector once for each, the slot
freed when all are written (R505, R506; log entry 78). -/
def tkGo : Nat → State → State
  | 0, s => s
  | fuel + 1, s =>
    match s.hbl.tk with
    | [] => s
    | t :: more =>
      if !t.begun || !flag s F.HBL_CTL.TK_EN then s
      else
        let (left, s1) := tkWrite t.recs s
        let wrote := decide (left.length < t.recs.length) || t.recs.isEmpty
        let s2 := if wrote && !t.rung then raiseVec (getF s F.HBL_TKCTL.VECTOR) s1 else s1
        if left = [] then tkGo fuel (dropSlot t.slot { s2 with hbl := { s2.hbl with tk := more } })
        else { s2 with hbl := { s2.hbl with tk := { t with recs := left, rung := t.rung || wrote } :: more } }

/-- TAKEOVER (R499): the partner reads a failed client's slot; while TK_EN is 0 it holds the takeover (R506). -/
def takeover (d : Nat) (s : State) : State :=
  match s.hbl.tk.find? (fun t => t.die == d && !t.begun) with
  | none => s
  | some t =>
    let t1 := { t with begun := true, recs := slotRecords s t.slot d }
    let s1 := { s with hbl := { s.hbl with tk := s.hbl.tk.map (fun u => if u = t then t1 else u) } }
    let s2 := post { code := Ev.HBL_TAKEOVER, inst := d } (bump F.HBL_TAKEOVER.COUNT 0 s1)
    if flag s F.HBL_CTL.TK_EN then tkGo (s2.hbl.tk.length + 1) s2 else post { code := Ev.HBL_TKWAIT, inst := d } s2

def execTakeover (d : Die) (s : State) : Result := .next (onlyIf (frameRuns s) (takeover d) s)

/-- HBL_TKHEAD (R505): the host has consumed records. -/
def tkHeadWrite (v : Nat) (s : State) : State :=
  let h := s.hbl.tkHead
  let s1 := { s with hbl := { s.hbl with tkHead := consumed h s.hbl.tkTail (tkSize s) (v % tkSize s) } }
  tkGo (s1.hbl.tk.length + 1) s1

def execHblTkhead (v : BitVec 16) (s : State) : Result := .next (onlyIf (barOpen s) (tkHeadWrite v.toNat) s)

/-- HBL_TK_ENABLE (R506): the write of HBL_CTL.TK_EN. -/
def execHblTkEnable (on : Bool) (s : State) : Result :=
  .next (onlyIf (barOpen s) (fun t =>
    let t1 := setF F.HBL_CTL.TK_EN 0 (boolNat on) t
    tkGo (t1.hbl.tk.length + 1) t1) s)

/-- HBL_CNTCLR (R511). -/
def execHblCntclr (s : State) : Result :=
  .next (onlyIf (barOpen s) (clearRegs [.HBL_UNMIRACC, .HBL_RECOVER, .HBL_TAKEOVER, .HBL_DUPDROP, .HBL_RESEND, .HBL_INTERRUPT,
    .HBL_HOLD]) s)

/-! ### Members that fail, join or leave (R487, R491, R503, R817, R820) -/

/-- Marks a die as a present member or not (R272). -/
def setMember (d : Nat) (b : Bool) (s : State) : State :=
  { s with hld := { s.hld with members := putBit s.hld.members d b } }

/-- Every COLL with a lost member ends with TQ_PEER (R491). -/
def collsEnd (d : Nat) (s : State) : State :=
  let s1 := collLost d s
  (allColls s1).foldl (fun u (p : Nat × Nat × Nat) =>
    match instAt u p.1 p.2.1 p.2.2 with
    | none => u
    | some (b, i) => if groupHas (cGroup (b.cmdOf i)) d then collEnd p u else u) s1

/-- Messages held for a die that is declared failed are discarded; a forwarded one is answered XLT_REMOTE (R618). -/
def dropWaiting (d : Nat) (s : State) : State :=
  let held := s.twy.waiting.filter (fun m => m.dst == d)
  let s1 := { s with twy := { s.twy with waiting := s.twy.waiting.filter (fun m => m.dst != d) } }
  (held.filter (fun m => m.hop == 1 && m.vc == 2)).foldl (fun u m =>
    twySend { op := 5, vc := 3, src := d, dst := m.src, share := m.share, mark := m.mark, tag := m.tag, seq := m.seq
              epoch := m.epoch, status := Status.XLT_REMOTE } u) s1

/-- The steward declares a die failed: its target commands, collectives, mirror service and journal (R480, R491, R499, R503).
The partner's takeover itself is the command TAKEOVER. -/
def dieFailed (d : Nat) (s : State) : State :=
  if d = ownDie s then s
  else
    let s1 := collsEnd d (targetFailed d (setMember d false s))
    let s2 := resendAll [] (dropWaiting d s1)
    let s3 := if flag s2 F.HBL_PARTNER.VALID && getF s2 F.HBL_PARTNER.DIE == d then mirrorLost s2 else s2
    match slotOf s3 d with
    | none => s3
    | some k =>
      if s3.hbl.tk.any (fun t => t.die == d) then s3
      else { s3 with hbl := { s3.hbl with tk := s3.hbl.tk ++ [{ die := d, slot := k }], taken := putBit s3.hbl.taken d true } }

/-- A new pair epoch with a die in both directions (R482, R487). -/
def newPair (d g : Nat) (s : State) : State :=
  { s with hbl := { s.hbl with
      txPairs := mapIns s.hbl.txPairs d { epoch := g, next := 1 }
      rxPairs := mapIns s.hbl.rxPairs d { epoch := g } } }

/-- A die joins: it is a member, and every pair with it starts a new epoch; puts of the old one complete with XLT_REMOTE
(R487, R817; log entry 79). -/
def dieJoined (d g : Nat) (s : State) : State :=
  let s1 := { setMember d true s with hbl := { s.hbl with pairGen := mapIns s.hbl.pairGen d g, taken := putBit s.hbl.taken d false } }
  if d = ownDie s then (List.range 32).foldl (fun u k => if k = d then u else newPair k g u) s1
  else if mapGet s.hbl.pairGen d 0 = g then s1
  else newPair d g (targetFailed d s1)

/-- A die has left: it is absent, and its journal is not taken over (R481, R820). -/
def dieLeft (d : Nat) (s : State) : State :=
  let s1 := clientDrop d (setMember d false s)
  if flag s1 F.HBL_PARTNER.VALID && getF s1 F.HBL_PARTNER.DIE == d then mirrorLost s1 else s1

/-! ### The steward's decisions (R480, R481, R508) -/

/-- A MEMBER message of a kind (R577). -/
def memberMsg (s : State) (kind dst : Nat) (fields : List (Nat × Nat × Nat)) (data : List Sector) : TwyMsg :=
  { op := 0x12, vc := 1, src := ownDie s, dst := dst
    body := BitVec.ofNat 256 (packB ((0, 1, kind) :: fields)), data := data.map (fun d => (d, tallyOf d)) }

/-- This die and another may be partner and client: neither is quarantined, and this die has neither withdrawn nor departed
(R69, R70, R821). -/
def mayMirror (s : State) (d : Nat) : Bool :=
  !((getReg s .HLD_QUAR 0).getLsbD d || flag s F.HLD_ROLE.QUAR || flag s F.GLB_STATUS.LEFT || getF s F.HLD_ROLE.ROLE == 4)

/-- What a decision orders: 1 partner, 2 client, 3 client withdrawn, 4 die failed, 5 die joined, 6 die left, 7 no partner,
8 die present; of an activation (R842-R847): 9 a die is armed, 10 a die's turn starts, 11 an armed die is disarmed, 12 a turn
is over, 13 the rollout is over. -/
def decisionApply (act d x : Nat) (s : State) : State :=
  match act with
  | 1 => if mayMirror s d then partnerAssign d s else s
  | 2 => if mayMirror s d then clientAssign d s else s
  | 3 => clientDrop d s
  | 4 => dieFailed d s
  | 5 => dieJoined d x s
  | 6 => dieLeft d s
  | 7 => mirrorLost s
  | 8 => setMember d true s
  | 9 =>
    let s1 := setF F.FWU_ACTST.ROLLOUT 0 1 s
    if d = ownDie s ∧ getF s F.FWU_ACTST.STATE = 0 then
      setF F.FWU_ACTST.STATE 0 1 { s1 with fwu := { s1.fwu with marker := 1 } }
    else s1
  | 10 =>
    let s1 := setF F.FWU_ACTST.TURNDIE 0 d (setF F.FWU_ACTST.TURNVALID 0 1 (setF F.FWU_ACTST.ROLLOUT 0 1 s))
    if d = ownDie s ∧ getF s F.FWU_ACTST.STATE = 1 then { s1 with fwu := { s1.fwu with turnDue := true } } else s1
  | 11 =>
    if d = ownDie s ∧ getF s F.FWU_ACTST.STATE = 1 then
      setF F.FWU_ACTST.STATE 0 0 { s with fwu := { s.fwu with marker := 0, turnDue := false } }
    else s
  | 12 => setF F.FWU_ACTST.TURNVALID 0 0 s
  | 13 => setF F.FWU_ACTST.TURNVALID 0 0 (setF F.FWU_ACTST.ROLLOUT 0 0 s)
  | _ => s

/-- A decision stamped with a lease epoch: one below the highest seen is discarded (R508). -/
def decisionTake (epoch act d x : Nat) (s : State) : State :=
  if epoch < max s.hbl.decEpoch (getF s F.HLD_EPOCH.EPOCH) then post { code := Ev.HBL_STALEDEC, d0 := epoch } s
  else decisionApply act d x { s with hbl := { s.hbl with decEpoch := max s.hbl.decEpoch epoch } }

end Sys2Proof.Machine
end

