-- ==== Sys2Proof/Machine/Tideway.lean ====
section
/-! DEFINITION. Tideway messages as they are served (12): writes with their deduplication, reads, answers, urgent messages,
journal traffic, collectives, routes and forwarding. Frames and links are in Machine/TwyFrame.lean and TwyLink.lean. -/

namespace Sys2Proof.Machine

/-! ### Received messages -/

/-- The key of a received message's list. -/
def rxKey (n hop vc : Nat) : Nat := n * 8 + hop * 4 + vc

/-- The messages received on a link for a hop class and VC, oldest first. -/
def rxList (s : State) (n hop vc : Nat) : List TwyMsg := mapGet s.twy.rx (rxKey n hop vc) []

/-- The oldest message of a VC on a link that satisfies a condition, hop class 0 first; on the request and response VCs only
the head of a list is served. -/
def rxPick (s : State) (n vc : Nat) (p : TwyMsg → Bool) : Option TwyMsg :=
  let look := fun (l : List TwyMsg) => if vc = 1 then l.find? p else match l with
    | m :: _ => if p m then some m else none
    | [] => none
  match look (rxList s n 0 vc) with
  | some m => some m
  | none => look (rxList s n 1 vc)

/-- Adds credits that a link owes its peer (R580). -/
def linkOwe (k n : Nat) (l : TwyLink) : TwyLink := { l with giveBack := mapSet l.giveBack k 0 (mapGet l.giveBack k 0 + n) }

/-- Takes a message out of its list; its slots' credits are to be returned. -/
def rxDrop (n : Nat) (m : TwyMsg) (s : State) : State :=
  let k := rxKey n m.hop m.vc
  let s1 := { s with twy := { s.twy with rx := mapSet s.twy.rx k [] ((mapGet s.twy.rx k []).erase m) } }
  setLink n (linkOwe (hopVc m) (m.data.length + 1) (linkAt s1 n)) s1

/-- Returns owed credits in a frame of its own where no message has carried them (R580, R585). -/
def linkReturn (n : Nat) (s : State) : State := if (linkAt s n).giveBack = [] then s else twyNull n false s

/-- Serves the oldest message of a VC on link n that is for this die and satisfies a condition. -/
def twyServe (n vc : Nat) (p : TwyMsg → Bool) (f : TwyMsg → State → State) (s : State) : State :=
  match rxPick s n vc (fun m => m.dst == ownDie s && p m) with
  | none => s
  | some m => linkReturn n (f m (rxDrop n m s))

/-- An answer to a received message: ACK, ERROR or READ_DATA (R577). -/
def twyAnswer (m : TwyMsg) (op status : Nat) (poison : Bool) (data : List (Sector × BitVec 32)) (s : State) : State :=
  twySend { op := op, vc := 3, poison := poison, src := ownDie s, dst := m.src, share := m.share, mark := m.mark, tag := m.tag
            seq := if op = 4 then m.seq else 0, epoch := m.epoch, addr := m.addr, status := status, data := data } s

/-- A received access that is not admitted (R271). -/
def inboundRefuse (m : TwyMsg) (s : State) : State :=
  twyAnswer m 5 Status.XLT_REMOTE false [] (post { code := Ev.XLT_INBOUND, mark := m.mark, d0 := Status.XLT_REMOTE, d1 := m.addr } s)

/-- The half at which a link attaches: 0 South, 1 North (R57, R267). -/
def linkHalf (n : Nat) : Nat := if n < 12 then 0 else 1

/-! ### WRITE (R268-R271, R319, R483-R487) -/

/-- A put has been applied at this receiver: at or below LOW, or its window bit is set (R485). -/
def PutRx.done (r : PutRx) (psn : Nat) : Bool := decide (psn ≤ r.low) || r.seen.contains psn

/-- LOW moves up over the window bits that follow it. -/
def PutRx.settle : Nat → PutRx → PutRx
  | 0, r => r
  | fuel + 1, r =>
    if r.seen.contains (r.low + 1) then
      PutRx.settle fuel { r with low := r.low + 1, seen := r.seen.filter (fun p => p != r.low + 1) }
    else r

/-- Sets the window bit of a put. -/
def PutRx.mark (psn : Nat) (r : PutRx) : PutRx := PutRx.settle 4096 { r with seen := r.seen ++ [psn] }

/-- A put's RCNT is refused (R319). -/
def rcntRefused (s : State) (m : TwyMsg) : Bool := m.rsig && !rcntAllowed s m.addr m.rcnt

/-- Sets the window bit of a put, and remembers where its RCNT was refused. -/
def putSeen (m : TwyMsg) (refused : Bool) (s : State) : State :=
  let r : PutRx := mapGet s.hbl.rxPairs m.src {}
  let r1 := r.mark m.seq
  let r2 : PutRx := if refused then
      { r1 with refused := (r1.refused ++ [m.seq]).filter (fun p => decide (m.seq < p + 4096)) }
    else r1
  { s with hbl := { s.hbl with rxPairs := mapIns s.hbl.rxPairs m.src r2 } }

/-- A put's release: the window bit and the RSIG update, as one update after the last data write (R319, R484). -/
def putLast (m : TwyMsg) (s : State) : State :=
  let bad := rcntRefused s m
  let s1 := putSeen m bad s
  if bad then twyAnswer m 5 Status.TQ_RCNT false [] s1
  else twyAnswer m 4 0 false [] (if m.rsig then counterAdd m.rcnt 1 s1 else s1)

/-- The last data of a put are applied: with a refused RCNT the put ends here, and signals nothing (R319). -/
def putEnd (m : TwyMsg) (s : State) : State :=
  if rcntRefused s m then twyAnswer m 5 Status.TQ_RCNT false [] (putSeen m true s) else twyAnswer m 4 0 false [] s

/-- What a WRITE's TAG says it is of its put (log entry 69). -/
def putKind (m : TwyMsg) : Nat := m.tag / tagSpan

/-- A sender has at most 4,096 puts unacknowledged (R486): a PSN beyond the window ends the puts that fall below it. -/
def PutRx.reach (psn : Nat) (r : PutRx) : PutRx :=
  if r.low + 4096 < psn then PutRx.settle 4096 { r with low := psn - 4096, seen := r.seen.filter (fun p => decide (psn - 4096 < p)) } else r

/-- Writes the sectors of a message at a place; the first error, or 0. -/
def writeSectors (p : Inbound) (m : TwyMsg) (s : State) : Nat × State :=
  (m.data.zip (List.range m.data.length)).foldl (fun (a : Nat × State) (d : (Sector × BitVec 32) × Nat) =>
    if a.1 != 0 then a else locWrite (p.addr + 64 * d.2) p.keysel m.mark d.1.1 d.1.2 m.poison a.2) (0, s)

/-- TWY_WRITE: an older epoch is refused (R487), a put already applied is acknowledged again (R485), else the access is
admitted (R268-R271) and applied. -/
def twyWrite (n : Nat) (m : TwyMsg) (s : State) : State :=
  let r : PutRx := (mapGet s.hbl.rxPairs m.src {}).reach m.seq
  let s0 := { s with hbl := { s.hbl with rxPairs := mapIns s.hbl.rxPairs m.src r } }
  if m.epoch ≠ r.epoch then twyAnswer m 5 Status.XLT_REMOTE false [] s
  else if r.refused.contains m.seq ∧ putKind m = putFinal then
    twyAnswer m 5 Status.TQ_RCNT false [] (bump F.HBL_DUPDROP.COUNT 0 s0)
  else if r.done m.seq then
    twyAnswer m 4 0 false [] (if putKind m = putRelease then bump F.HBL_DUPDROP.COUNT 0 s0 else s0)
  else
    match inboundPlace m.src m.addr (64 * m.data.length) 2 (linkHalf n) s0 with
    | (none, s1) => inboundRefuse m s1
    | (some p, s1) =>
      let (e, s2) := writeSectors p m s1
      if e != 0 then twyAnswer m 5 e false [] s2
      else if putKind m = putRelease then putLast m s2
      else if putKind m = putFinal then putEnd m s2
      else twyAnswer m 4 0 false [] s2

/-- What an inbound access to k sectors waits for on its way from its link's attachment tile (R115, R158, R183, R192, R205). -/
def inboundWait (s : State) (n : Nat) (m : TwyMsg) (k acc : Nat) : Nat × Bool :=
  match (inboundPlace m.src m.addr (64 * k) acc (linkHalf n) s).1 with
  | none => (0, false)
  | some p => (List.range k).foldl (fun (a : Nat × Bool) j =>
      let w := addrWait s (fun t => linkTile n (tileY t)) (p.addr + 64 * j)
      (a.1 ||| w.1, a.2 || w.2)) (0, false)

/-- Serves a received message once what it accesses can be reached; until then it asks for coves to wake. -/
def twyReach (n vc : Nat) (p : TwyMsg → Bool) (wait : TwyMsg → Nat × Bool) (f : TwyMsg → State → State) (s : State) : State :=
  match rxPick s n vc (fun m => m.dst == ownDie s && p m) with
  | none => s
  | some m => if wait m == (0, false) then twyServe n vc p f s else askWake (wait m).1 s

def execTwyWrite (n : LinkId) (s : State) : Result :=
  onFrame s (twyReach n 2 (fun m => m.op == 1) (fun m => inboundWait s n m m.data.length 2) (twyWrite n))

/-! ### READ and the answers -/

/-- Reads the sectors of a READ: data with the poison of any, or the first error. -/
def inboundSectors (p : Inbound) (k mark : Nat) (s : State) : List (Sector × BitVec 32) × Bool × Nat × State :=
  (List.range k).foldl (fun (a : List (Sector × BitVec 32) × Bool × Nat × State) j =>
    if a.2.2.1 != 0 then a
    else
      match locRead (p.addr + 64 * j) p.keysel mark 0 a.2.2.2 with
      | (.error e, u) => (a.1, a.2.1, e, u)
      | (.ok (d, t, ps), u) => (a.1 ++ [(d, t)], a.2.1 || ps, 0, u)) ([], false, 0, s)

/-- The sectors that a READ asks for (R577). -/
def readCount (m : TwyMsg) : Nat := byteField m.body 0 1 % 16 + 1

/-- TWY_READ (R268-R271, R577). -/
def twyRead (n : Nat) (m : TwyMsg) (s : State) : State :=
  let k := readCount m
  match inboundPlace m.src m.addr (64 * k) 1 (linkHalf n) s with
  | (none, s1) => inboundRefuse m s1
  | (some p, s1) =>
    let (d, ps, e, s2) := inboundSectors p k m.mark s1
    if e != 0 then twyAnswer m 5 e false [] s2 else twyAnswer m 3 0 ps d s2

def execTwyRead (n : LinkId) (s : State) : Result :=
  onFrame s (twyReach n 2 (fun m => m.op == 2) (fun m => inboundWait s n m (readCount m) 1) (twyRead n))

/-- What taking READ_DATA into a COLL's staging area waits for. -/
def dataWait (s : State) (m : TwyMsg) : Nat × Bool :=
  match tagInst s m.tag with
  | none => (0, false)
  | some (q, _, _, _) =>
    (dataPlaces s m).foldl (fun (a : Nat × Bool) p =>
      let w := sectorWait s (queueAt s q).eng p.1 p.2
      (a.1 ||| w.1, a.2 || w.2)) (0, false)

def execTwyReadData (n : LinkId) (s : State) : Result :=
  onFrame s (twyReach n 3 (fun m => m.op == 3) (dataWait s) gatherData)

def execTwyAck (n : LinkId) (s : State) : Result := onFrame s (twyServe n 3 (fun m => m.op == 4) gatherAck)

/-- TWY_ERROR (R271, R416): a refused tally completes the command with TQ_DIGEST. -/
def execTwyError (n : LinkId) (s : State) : Result :=
  onFrame s (twyServe n 3 (fun m => m.op == 5) (fun m =>
    gatherError m.tag (if m.status = Status.TLY_MISMATCH then Status.TQ_DIGEST else m.status)))

/-! ### Urgent messages (R581, R682, R683; log entry 81) -/

/-- The flit that an urgent message carries: its header in BODY, its payload in the data slot. -/
def urgentFlit (m : TwyMsg) : Flit :=
  { hdr := m.body.extractLsb' 0 128, pay := (m.data.headD (0, 0)).1, tally := (m.data.headD (0, 0)).2, crc := 0 }

/-- The receiving link layer injects an urgent message on arrival, at the attachment tile of its target's row (R681, R682). -/
def twyUrgent (n : Nat) (m : TwyMsg) (s : State) : State :=
  let f := urgentFlit m
  let y := if f.cast = 0 then f.dstY else 0
  if f.rejected then s else inject (linkTile n y) (linkAgent n) f s

/-- An urgent message of an OP on link n is served. -/
def urgentServe (op n : Nat) : State → State := twyServe n 0 (fun m => m.op == op) (twyUrgent n)

def execTwyAbort (n : LinkId) (s : State) : Result := onFrame s (urgentServe 0x08 n)

def execTwyFence (n : LinkId) (s : State) : Result := onFrame s (urgentServe 0x09 n)

def execTwyDoorbell (n : LinkId) (s : State) : Result := onFrame s (urgentServe 0x0A n)

/-! ### Journal and collectives (R461, R488, R489) -/

def execTwyJournal (n : LinkId) (s : State) : Result :=
  onFrame s (twyServe n 1 (fun m => m.op == 0x10) (fun m => slotJournal m.src (m.data.map (fun (d : Sector × BitVec 32) => d.1))))

def execTwyJack (n : LinkId) (s : State) : Result :=
  onFrame s (twyServe n 1 (fun m => m.op == 0x11) (fun m => partnerAcked m.src m.seq))

/-- TWY_COLL: the first READY, re-issue or end that a COLL of this die takes; a message for a COLL that has not begun waits
(R489). -/
def execTwyColl (n : LinkId) (s : State) : Result :=
  onFrame s (twyServe n 1 (fun m => m.op == 0x13 && (collMessage m s).1) (fun m u => (collMessage m u).2))

/-! ### Routes and forwarding (R616-R618, R622) -/

/-- The routes that a ROUTE message gives for one destination: four next hops in the coding of R625 (log entry 80). -/
def setRoute (d a b : Nat) (s : State) : State :=
  setReg .TWY_ROUTEA d (BitVec.ofNat 32 a) (setReg .TWY_ROUTEB d (BitVec.ofNat 32 b) s)

/-- TWY_ROUTE (R508, R622). -/
def twyRoute (m : TwyMsg) (s : State) : State :=
  let epoch := byteField m.body 4 4
  let d := (m.data.headD (0, 0)).1
  if epoch < max s.hbl.decEpoch (getF s F.HLD_EPOCH.EPOCH) then post { code := Ev.HBL_STALEDEC, d0 := epoch } s
  else
    twyRetry (setRoute (byteField m.body 8 1 % 32) (secField d 0 4) (secField d 4 4)
      { s with hbl := { s.hbl with decEpoch := max s.hbl.decEpoch epoch } })

def execTwyRoute (n : LinkId) (s : State) : Result := onFrame s (twyServe n 1 (fun m => m.op == 0x14) twyRoute)

/-- TWY_FORWARD (R618): a HOP 0 message for another die goes on, with HOP 1, over a link to it, or waits for one; a HOP 1
message is never forwarded: it is discarded. -/
def twyForward (n : Nat) (s : State) : State :=
  match [0, 1, 2, 3].findSome? (fun vc => rxPick s n vc (fun m => m.dst != ownDie s)) with
  | none => s
  | some m =>
    let s1 := rxDrop n m s
    linkReturn n (if m.hop = 0 then twySend { m with hop := 1, agent := 128 + m.src } s1
      else post { code := Ev.TWY_BADMSG, inst := n, d1 := getF s F.TWY_PEER.DIE n } s1)

def execTwyForward (n : LinkId) (s : State) : Result := onFrame s (twyForward n)

end Sys2Proof.Machine
end

