-- ==== Sys2Proof/Machine/Steward.lean ====
section
/-! DEFINITION. The steward (10, 16): the lease (R761-R769), membership and mirror partners (R477-R480, R494, R503, R504,
R509, R817-R820), routes through a third die (R622), the roster and its enrolments (R750, R760, R770-R777). -/

namespace Sys2Proof.Machine

/-! ### Who is who -/

/-- Tray and slot of a die number (R790). -/
def dieTray (d : Nat) : Nat := d / 8
def dieSlot (d : Nat) : Nat := d % 8

/-- The lease role (R764): 0 LISTEN, 1 WORKER, 2 CANDIDATE, 3 STEWARD, 4 WITHDRAWN. -/
def role (s : State) : Nat := getF s F.HLD_ROLE.ROLE

/-- The other dies of the own tray. -/
def trayPeers (s : State) : List Nat :=
  (List.range 32).filter (fun d => dieTray d == dieTray (ownDie s) && d != ownDie s)

/-- A die is enrolled and not quarantined (R765). -/
def trusted (s : State) (d : Nat) : Bool := (getReg s .HLD_MEMBERS 0).getLsbD d && !(getReg s .HLD_QUAR 0).getLsbD d

/-- This die may hold the lease (R765, R821). -/
def eligible (s : State) : Bool :=
  trusted s (ownDie s) && !flag s F.HLD_ROLE.QUAR && role s != 4 && s.hld.conflict == 0 && !flag s F.GLB_STATUS.LEFT

/-- A MEMBER message could leave for a die now. -/
def reachable (s : State) (m : TwyMsg) : Bool := (hopsFor s m) ≠ []

/-! ### Decisions (R508; log entry 77) -/

/-- The steward issues a decision to a member: at once where it is itself, else in a MEMBER message with its epoch. -/
def decree (m act d x : Nat) (s : State) : State :=
  if m = ownDie s then decisionApply act d x s
  else twySend (memberMsg s mkDecision m [(4, 4, s.hld.holdEpoch), (8, 1, act), (9, 1, d), (10, 4, x)] []) s

/-- A present member, for the steward. -/
def present (s : State) (d : Nat) : Bool := s.hld.stew.present.getLsbD d

/-- The present members. -/
def presentDies (s : State) : List Nat := (List.range 32).filter (fun d => present s d)

/-- Issues a decision to every present member. -/
def decideAll (act d x : Nat) (s : State) : State := (presentDies s).foldl (fun u m => decree m act d x u) s

/-- Replaces what the steward holds. -/
def setStew (w : Stew) (s : State) : State := { s with hld := { s.hld with stew := w } }

/-- The partner of a member, as the steward holds it. -/
def stewPartner (s : State) (d : Nat) : Option Nat :=
  match mapGet s.hld.stew.partner d 0 with
  | 0 => none
  | n + 1 => some n

/-- Records a member's partner. -/
def setPartner (d : Nat) (p : Option Nat) (s : State) : State :=
  let v := match p with | some n => n + 1 | none => 0
  setStew { s.hld.stew with partner := mapSet s.hld.stew.partner d 0 v } s

/-- How many clients a member serves. -/
def clientCount (s : State) (p : Nat) : Nat := (s.hld.stew.partner.filter (fun (e : Nat × Nat) => e.2 == p + 1)).length

/-- A die holds a takeover because its TK_EN reads 0 (R506). -/
def holdsTakeover (s : State) : Bool := !flag s F.HBL_CTL.TK_EN && s.hbl.tk.any (fun t => t.begun)

/-- A member may be given a further client (R69, R477, R494, R506). -/
def mayServe (s : State) (p : Nat) : Bool :=
  present s p && trusted s p && decide (clientCount s p < 2) && !s.hld.stew.absent.getLsbD p && !s.hld.stew.notice.getLsbD p
    && !(if p = ownDie s then holdsTakeover s else s.hld.stew.holding.getLsbD p)

/-- The partner that R477 gives a member: slot s XOR 1, else the eligible member with the fewest clients, the lower slot on
a tie. -/
def partnerFor (s : State) (d : Nat) : Option Nat :=
  let pair := d ^^^ 1
  if mayServe s pair then some pair
  else
    ((List.range 32).filter (fun p => p != d && mayServe s p)).foldl (fun (b : Option Nat) p =>
      match b with
      | none => some p
      | some q => if clientCount s p < clientCount s q then some p else b) none

/-- Assigns a member a partner where it has none and one is eligible (R477-R480). -/
def assign (d : Nat) (s : State) : State :=
  if !present s d || !trusted s d || (stewPartner s d).isSome then s
  else
    match partnerFor s d with
    | none => s
    | some p => decree d 1 p 0 (decree p 2 d 0 (setPartner d (some p) s))

/-- Assigns partners to every present member that lacks one. -/
def assignAll (s : State) : State := (presentDies s).foldl (fun u d => assign d u) s

/-! ### Collectives that were interrupted (R491) -/

/-- The order about an interrupted COLL to its members: 1 re-issue with attempt + 1, 2 end. -/
def collOrder (kind : Nat) (k : CollKey) (s : State) : State :=
  (groupMembers k.group).foldl (fun u d =>
    let m : TwyMsg := { op := 0x13, vc := 1, src := ownDie u, dst := d, mark := k.mark
                        body := BitVec.ofNat 256 (packB [(0, 4, k.group), (4, 4, k.ordinal), (8, 1, k.attempt + 1), (9, 1, kind)]) }
    if d = ownDie u then (collMessage m u).2 else if present u d then twySend m u else u) s

/-- Acts on an interrupted COLL by the first row of R491 that fits: end where a member is gone, wait where one resets, else
re-issue. -/
def collAct (k : CollKey) (s : State) : State :=
  let ds := groupMembers k.group
  if !ds.all (present s) then collOrder 2 k s
  else if ds.any (fun d => s.hld.stew.notice.getLsbD d) then
    (if s.hld.stew.colls.contains k then s else setStew { s.hld.stew with colls := s.hld.stew.colls ++ [k] } s)
  else collOrder 1 k s

/-- Acts again on the COLLs that waited for a member. -/
def collsAgain (s : State) : State :=
  s.hld.stew.colls.foldl (fun u k => collAct k u) (setStew { s.hld.stew with colls := [] } s)

/-- The COLLs of this die that are interrupted. -/
def collsHere (s : State) : List CollKey :=
  (allColls s).filterMap (fun (p : Nat × Nat × Nat) => match instAt s p.1 p.2.1 p.2.2 with
    | some (b, i) => match i.coll with
      | some c => if c.interrupted then
          some { mark := i.snap.mark, group := cGroup (b.cmdOf i), ordinal := c.ordinal, attempt := c.attempt } else none
      | none => none
    | none => none)

/-! ### Members that fail, leave or join, as the steward decides (R487, R494, R503, R504, R817-R820) -/

/-- A member is declared failed: every member is told, its clients get other partners, its COLLs end. -/
def stewFail (d : Nat) (s : State) : State :=
  if !present s d || d == ownDie s then s
  else
    let w := s.hld.stew
    let s1 := setStew { w with
      present := putBit w.present d false
      notice := putBit w.notice d false
      partner := mapDel (w.partner.filter (fun (e : Nat × Nat) => e.2 != d + 1)) d
      beats := mapDel w.beats d } s
    collsAgain (assignAll (decideAll 4 d 0 s1))

/-- A die joins: it is told of the members, they of it, with a new pair epoch; it gets a partner and is offered as one. -/
def stewJoin (d : Nat) (s : State) : State :=
  let g := mapGet s.hbl.pairGen d 0 + 1
  let w := s.hld.stew
  let s1 := setStew { w with
    present := putBit w.present d true
    absent := putBit w.absent d false
    notice := putBit w.notice d false
    partner := mapDel w.partner d } s
  let s2 := (presentDies s1).foldl (fun u m => if m = d then u else decree d 8 m 0 u) s1
  assignAll (decideAll 5 d g s2)

/-- A partner's clients get others, as far as any is eligible; one that gets none goes without, where the partner may serve no
more (`gone`). -/
def stewMove (d : Nat) (gone : Bool) (s : State) : State :=
  (presentDies s).foldl (fun u c =>
    if stewPartner u c = some d then
      match partnerFor u c with
      | none => if gone then decree d 3 c 0 (decree c 7 0 0 (setPartner c none u)) else u
      | some p => decree d 3 c 0 (decree c 1 p 0 (decree p 2 c 0 (setPartner c (some p) u)))
    else u) s

/-- A leaving die's clients get other partners (R819). -/
def stewLeaving (d : Nat) (s : State) : State :=
  stewMove d false (setStew { s.hld.stew with absent := putBit s.hld.stew.absent d true } s)

/-- A die has left: it is absent and not failed (R820). -/
def stewLeft (d : Nat) (s : State) : State :=
  let w := s.hld.stew
  let s1 := decideAll 6 d 0 s
  let s2 := setStew { w with
    present := putBit w.present d false
    absent := putBit w.absent d true
    partner := mapDel (w.partner.filter (fun (e : Nat × Nat) => e.2 != d + 1)) d } s1
  assignAll s2

/-- A member's partner stopped acknowledging: R477 assigns it one again (R480). -/
def stewMirrorLoss (d : Nat) (s : State) : State :=
  match stewPartner s d with
  | none => assign d s
  | some p =>
    let s1 := assign d (setPartner d none s)
    if stewPartner s1 d = some p then s1 else decree p 3 d 0 s1

/-- A reset notice: warm starts the grace period, cold is a failure at once (R494, R805). -/
def stewReset (d kind : Nat) (s : State) : State :=
  if kind = 2 then stewFail d s
  else if present s d then setStew { s.hld.stew with notice := putBit s.hld.stew.notice d true } s
  else s

/-- A membership beat (R504): its time, and whether the member holds a takeover; a member that had announced a warm reset
has rejoined (R491, R818). -/
def stewBeat (d : Nat) (holds : Bool) (s : State) : State :=
  if !present s d then s
  else
    let w := s.hld.stew
    let s1 := setStew { w with
      notice := putBit w.notice d false
      holding := putBit w.holding d holds
      beats := mapIns w.beats d s.time } s
    if w.notice.getLsbD d then collsAgain s1 else s1

/-! ### Routes through a third die (R616, R622) -/

/-- The key of a member's link to a peer. -/
def linkKey (d peer n : Nat) : Nat := (d * 32 + peer) * 24 + n

/-- The weight of a link: P in whole GB/s, 1-255 (R616, R617). -/
def weightOf (p : Nat) : Nat := max 1 (min 255 ((p + 50) / 100))

/-- The links of a die to a peer that its reports show, with their P. -/
def knownLinks (s : State) (d peer : Nat) : List (Nat × Nat) :=
  (List.range 24).filterMap (fun n => match mapGet s.hld.stew.links (linkKey d peer n) 0 with
    | 0 => none
    | p => some (n, p))

/-- Up to four next hops from die a to die d through a third die: links of a to dies that have a link to d. -/
def thirdHops (s : State) (a d : Nat) : List (Nat × Nat) :=
  (((List.range 32).filter (fun c => c != a && c != d && (knownLinks s c d) ≠ [])).flatMap
    (fun c => (knownLinks s a c).map (fun (l : Nat × Nat) => (l.1, weightOf l.2)))).take 4

/-- A next hop as TWY_ROUTEA and TWY_ROUTEB code it (R625). -/
def hopCode (h : Option (Nat × Nat)) : Nat :=
  match h with
  | some (n, w) => n + 32 + w * 256
  | none => 0

/-- The two route registers of a list of next hops. -/
def routeWords (hs : List (Nat × Nat)) : Nat × Nat :=
  (hopCode hs[0]? + 2 ^ 16 * hopCode hs[1]?, hopCode hs[2]? + 2 ^ 16 * hopCode hs[3]?)

/-- The steward sends a die its routes to a destination that it reaches through a third die (R622; log entry 80). -/
def routeTo (a d : Nat) (s : State) : State :=
  if (knownLinks s a d) ≠ [] then s
  else
    let (x, y) := routeWords (thirdHops s a d)
    if a = ownDie s then twyRetry (setRoute d x y s)
    else
      twySend { op := 0x14, vc := 1, src := ownDie s, dst := a
                body := BitVec.ofNat 256 (packB [(4, 4, s.hld.holdEpoch), (8, 1, d)])
                data := [(BitVec.ofNat 512 (x + y * 2 ^ 32), tallyOf (BitVec.ofNat 512 (x + y * 2 ^ 32)))] } s

/-- Recomputes every route through a third die (R622). -/
def routesAnew (s : State) : State :=
  let ds := (List.range 32).filter (fun d => s.hld.stew.links.any (fun (e : Nat × Nat) => e.1 / 24 % 32 == d))
  (presentDies s).foldl (fun u a => ds.foldl (fun v d => if a = d then v else routeTo a d v) u) s

/-- A link report (R612, R622): a member's 24 links and the COLLs that it has interrupted. -/
def stewLinks (src : Nat) (ds : List Sector) (s : State) : State :=
  let p := ds.getD 0 0
  let q := ds.getD 1 0
  let w := s.hld.stew
  let old := w.links.filter (fun (e : Nat × Nat) => e.1 / 768 != src)
  let now := (List.range 24).foldl (fun (m : Map Nat) n =>
    mapSet m (linkKey src (secField q n 1 % 32) n) 0 (secField p (2 * n) 2)) old
  let s1 := routesAnew (setStew { w with links := now } s)
  (ds.drop 2).foldl (fun u d =>
    collAct { mark := secField d 0 2, group := secField d 4 4, ordinal := secField d 8 4, attempt := secField d 12 1 } u) s1

/-- A die's own link report. -/
def linkReport (s : State) : List Sector :=
  let up := fun n => linkState s n == 4 || linkState s n == 5
  let p := (List.range 24).map (fun n => (2 * n, 2, if up n then getF s F.TWY_STATUS.P n else 0))
  let q := (List.range 24).map (fun n => (n, 1, getF s F.TWY_PEER.DIE n))
  [BitVec.ofNat 512 (packB p), BitVec.ofNat 512 (packB q)]
    ++ (collsHere s).map (fun k =>
      BitVec.ofNat 512 (packB [(0, 2, k.mark), (4, 4, k.group), (8, 4, k.ordinal), (12, 1, k.attempt)]))

/-! ### The roster (R750, R760, R770-R776) -/

/-- The roster's entry of a die. -/
def rosterOf (s : State) (d : Nat) : RosterEnt := mapGet s.hld.roster d {}

/-- Two links lead to peers of one die number and different identities, both present (R71): a link that is down knows no peer. -/
def duplicateDie (s : State) (d : Nat) : Bool :=
  let hs := (List.range 24).filterMap (fun n =>
    if flag s F.TWY_PEER.VALID n && getF s F.TWY_PEER.DIE n == d then mapFind s.hld.linkHash n else none)
  hs.any (fun h => hs.any (fun k => h != k))

/-- A peer's identity stands in the roster under its tray and slot, enrolled (R771; log entry 83). -/
def knownPeer (s : State) (d : Nat) (h : BitVec 384) : Bool :=
  let e := rosterOf s d
  e.enrolled && e.hash == h && e.tray == dieTray d && e.slot == dieSlot d

/-- This die treats another as quarantined (R71, R760, R771). -/
def treatQuar (s : State) (d : Nat) : Bool :=
  (rosterOf s d).quar || duplicateDie s d || (match mapFind s.hld.peers d with
    | some h => !knownPeer s d h
    | none => false)

/-- The links to a die. -/
def peerLinks (s : State) (d : Nat) : List Nat :=
  (List.range 24).filter (fun n => flag s F.TWY_PEER.VALID n && getF s F.TWY_PEER.DIE n == d)

/-- A die becomes quarantined for this one (R69, R772): its links are shut; as steward, this die gives its clients other
partners. -/
def quarBegin (d : Nat) (s : State) : State :=
  let s1 := (peerLinks s d).foldl (fun u n => linkHand n u) s
  if role s1 == 3 && s1.hld.stew.ready && present s1 d then stewMove d true s1 else s1

/-- Brings HLD_QUAR up to date for a die; what waits for it goes on when its quarantine ends. -/
def quarSync (d : Nat) (s : State) : State :=
  let was := (getReg s .HLD_QUAR 0).getLsbD d
  let now := treatQuar s d
  let s1 := setReg .HLD_QUAR 0 (putBit (getReg s .HLD_QUAR 0) d now) s
  if now && !was then quarBegin d s1 else if was && !now then twyRetry s1 else s1

/-- Sends a lease message's effect of leaving office: the holder is unknown. -/
def noHolder (s : State) : State := setF F.HLD_ROLE.SVALID 0 0 s

/-! ### Lease messages (R761-R763) -/

/-- The 32 signed bytes of a lease message. -/
def leaseHead (kind die epoch rseq : Nat) : Nat :=
  packB [(0, 1, 1), (1, 1, kind), (2, 1, dieTray die), (3, 1, dieSlot die), (4, 1, die), (8, 4, epoch), (12, 4, rseq)]

/-- A lease message as two sectors: fields, then the signature from byte 32. -/
def leaseData (kind die epoch rseq : Nat) : List Sector :=
  let head := leaseHead kind die epoch rseq
  let sig := Config.ecdsaSign die (byteSlice (BitVec.ofNat 256 head) 0 32)
  let v : BitVec 1024 := BitVec.ofNat 1024 (head + sig.toNat * 2 ^ 256)
  [v.extractLsb' 0 512, v.extractLsb' 512 512]

/-- Sends a MEMBER message to every reachable and trusted die of the tray. -/
def toTray (f : Nat → TwyMsg) (s : State) : State :=
  (trayPeers s).foldl (fun u d => if trusted u d && reachable u (f d) then twySend (f d) u else u) s

/-- Sends a lease message of the own die: 1 CLAIM, 2 RENEW, 3 RELEASE. -/
def leaseSend (kind : Nat) (s : State) : State :=
  let data := leaseData kind (ownDie s) s.hld.holdEpoch s.hld.rseq
  toTray (fun d => memberMsg s mkLease d [] data) s

/-- Sends CLAIM with an epoch one above the highest seen (R764, R769). -/
def leaseClaim (s : State) : State :=
  let e := getF s F.HLD_EPOCH.EPOCH + 1
  leaseSend 1 (setF F.HLD_ROLE.ROLE 0 2 (noHolder (setF F.HLD_EPOCH.EPOCH 0 e
    { s with hld := { s.hld with holdEpoch := e, rseq := 0, claimWait := false, stew := {} } })))

/-- Sends RENEW (R767); RSEQ counts the renewals of this epoch. -/
def leaseRenew (s : State) : State := leaseSend 2 { s with hld := { s.hld with rseq := s.hld.rseq + 1 } }

/-- The steward gives up the lease with RELEASE (R764). -/
def leaseRelease (next : Nat) (s : State) : State :=
  let s1 := if role s = 3 then { leaseSend 3 s with hld := { s.hld with stew := {} } } else s
  let s2 := if role s = 3 then noHolder s1 else s1
  setF F.HLD_ROLE.ROLE 0 next { s2 with hld := { s2.hld with claimWait := false } }

/-- Every link hands back what it may carry no more (R70, R821). -/
def shutLinks (s : State) : State := (List.range 24).foldl (fun u n => linkHand n u) s

/-- The die withdraws (R69, R70, R764): as steward it sends RELEASE first; it serves no client any more, and its links are shut. -/
def withdraw (s : State) : State := if role s = 4 then s else shutLinks (serviceEnd (leaseRelease 4 s))

/-- Byte fields of a lease message. -/
def leaseByte (m : TwyMsg) (i w : Nat) : Nat := secField ((m.data.headD (0, 0)).1) i w

/-- The die of a lease message. -/
def leaseDie (m : TwyMsg) : Nat := leaseByte m 4 1

/-- A lease message is valid (R762). -/
def leaseValid (m : TwyMsg) (s : State) : Bool :=
  let d := leaseDie m
  let v : BitVec 1024 := BitVec.ofNat 1024 ((m.data.headD (0, 0)).1.toNat + ((m.data.getD 1 (0, 0)).1).toNat * 2 ^ 512)
  m.data.length == 2 && leaseByte m 0 1 == 1 && decide (1 ≤ leaseByte m 1 1 ∧ leaseByte m 1 1 ≤ 3)
    && decide (leaseByte m 2 1 < 4) && leaseByte m 3 1 == dieSlot d && decide (d < 32) && leaseByte m 5 3 == 0
    && leaseByte m 16 16 == 0 && trusted s d && d != ownDie s && (mapFind s.hld.peers d).isSome
    && decide (getF s F.HLD_EPOCH.EPOCH ≤ leaseByte m 8 4)
    && Config.ecdsaVerify (Config.aliasKey d) (byteSlice v 0 32) (v.extractLsb' 256 768)

/-- One lease message beats another of a different holder (R768): epoch and slot of each. -/
def leaseWins (e1 s1 e2 s2 : Nat) : Bool := decide (e2 < e1) || (e1 == e2 && decide (s1 < s2))

/-- A report to the steward: handled at once where this die is steward. -/
def toSteward (kind : Nat) (fields : List (Nat × Nat × Nat)) (data : List Sector) (here : State → State) (s : State) : State :=
  if role s = 3 then here s
  else if flag s F.HLD_ROLE.SVALID then twySend (memberMsg s kind (getF s F.HLD_ROLE.STEWARD) fields data) s
  else s

/-- Reports the own links to the steward (R612, R622). -/
def reportLinks (s : State) : State := toSteward mkLink [] (linkReport s) (stewLinks (ownDie s) (linkReport s)) s

/-- Asks the steward to add this die where it is enrolled, has a link and is no present member (R817). -/
def joinAsk (s : State) : State :=
  if s.hld.members.getLsbD (ownDie s) || !trusted s (ownDie s) || flag s F.GLB_STATUS.LEFT || role s == 4 then s
  else toSteward mkJoin [] [] (stewJoin (ownDie s)) s

/-- A withdrawal ends where neither quarantine nor a slot conflict lasts (R764): the die joins anew (R70, R817). -/
def withdrawEnd (s : State) : State :=
  if role s = 4 && !flag s F.HLD_ROLE.QUAR && s.hld.conflict == 0 then
    joinAsk (twyRetry (setMember (ownDie s) false (setF F.HLD_ROLE.ROLE 0 1 s)))
  else s

/-- Records the holder of the lease (R764); a new holder hears of this die's links, and of its wish to join. -/
def recordHolder (d e : Nat) (s : State) : State :=
  let new := !(flag s F.HLD_ROLE.SVALID && getF s F.HLD_ROLE.STEWARD == d)
  let s1 := setF F.HLD_ROLE.SVALID 0 1 (setF F.HLD_ROLE.STEWARD 0 d
    { s with hld := { s.hld with holdEpoch := e, claimWait := false } })
  if new && role s1 != 0 then joinAsk (reportLinks s1) else s1

/-- STEWARD_CONFLICT (R769). -/
def leaseConflict (d : Nat) (s : State) : State :=
  post { code := Ev.STEWARD_CONFLICT, inst := d, d0 := getF s F.HLD_EPOCH.EPOCH } (bump F.HLD_CONFLICTS.COUNT 0 s)

/-- A valid lease message (R764, R768, R769). -/
def leaseTake (m : TwyMsg) (s : State) : State :=
  let d := leaseDie m
  let e := leaseByte m 8 4
  let own := s.hld.holdEpoch
  let kind := leaseByte m 1 1
  let r := role s
  let s0 := setF F.HLD_EPOCH.EPOCH 0 (max e (getF s F.HLD_EPOCH.EPOCH)) s
  let settle := fun (u : State) =>
    if kind = 3 then { noHolder u with hld := { u.hld with claimWait := eligible u && role u == 1 } } else recordHolder d e u
  if r = 2 ∨ r = 3 then
    if leaseWins e (dieSlot d) own (dieSlot (ownDie s)) then
      let s1 := if e = own then leaseConflict d s0 else s0
      settle (setF F.HLD_ROLE.ROLE 0 1 { s1 with hld := { s1.hld with stew := {} } })
    else leaseClaim (leaseConflict d s0)
  else
    let held := flag s F.HLD_ROLE.SVALID
    let h := getF s F.HLD_ROLE.STEWARD
    if held && h != d && !leaseWins e (dieSlot d) own (dieSlot h) then s0
    else settle s0

/-- A lease message arrives (R762): an invalid one is counted and discarded; another tray's is not this die's (log entry 84). -/
def leaseReceive (m : TwyMsg) (s : State) : State :=
  if leaseByte m 2 1 < 4 ∧ leaseByte m 2 1 ≠ dieTray (ownDie s) then s
  else if leaseValid m s then leaseTake m s
  else post { code := Ev.HLD_BADLEASE, inst := m.src, d0 := leaseByte m 8 4 } (bump F.HLD_BADLEASE.COUNT 0 s)

/-- Serves a MEMBER message of a kind on link n. -/
def memberServe (n kind : Nat) (f : TwyMsg → State → State) (s : State) : State :=
  twyServe n 1 (fun m => m.op == 0x12 && memberKind m == kind) f s

/-- Headland runs: it serves lease and management in every phase after HBOOT but ROM recovery. -/
def headRuns (s : State) : Bool := 1 ≤ phase s && phase s ≤ 5

/-- LEASE_CLAIM_RECEIVE: a CLAIM, or a lease message of no known KIND. -/
def execLeaseClaimReceive (n : LinkId) (s : State) : Result :=
  .next (onlyIf (headRuns s) (twyServe n 1 (fun m => m.op == 0x12 && memberKind m == mkLease
    && !(leaseByte m 1 1 == 2 || leaseByte m 1 1 == 3)) leaseReceive) s)

def execLeaseRenewReceive (n : LinkId) (s : State) : Result :=
  .next (onlyIf (headRuns s) (twyServe n 1 (fun m => m.op == 0x12 && memberKind m == mkLease && leaseByte m 1 1 == 2)
    leaseReceive) s)

def execLeaseReleaseReceive (n : LinkId) (s : State) : Result :=
  .next (onlyIf (headRuns s) (twyServe n 1 (fun m => m.op == 0x12 && memberKind m == mkLease && leaseByte m 1 1 == 3)
    leaseReceive) s)

/-- LEASE_LISTEN_END (R764, R766): a die that has heard no holder treats the lease as lapsed. -/
def execLeaseListenEnd (s : State) : Result :=
  .next (onlyIf (headRuns s && role s == 0) (fun u =>
    let u1 := setF F.HLD_ROLE.ROLE 0 1 u
    if flag u1 F.HLD_ROLE.SVALID then joinAsk (reportLinks u1)
    else { u1 with hld := { u1.hld with claimWait := eligible u1 } }) s)

/-- LEASE_LAPSE (R764). -/
def execLeaseLapse (s : State) : Result :=
  .next (onlyIf (headRuns s && role s == 1 && !s.hld.claimWait) (fun u =>
    let u1 := noHolder u
    { u1 with hld := { u1.hld with claimWait := eligible u1 } }) s)

/-- LEASE_BACKOFF_END (R764): the claim wait ends without a valid CLAIM. -/
def execLeaseBackoffEnd (s : State) : Result :=
  .next (onlyIf (headRuns s && role s == 1 && s.hld.claimWait && eligible s) leaseClaim s)

/-- LEASE_QUIET_END (R764): the candidate becomes steward. -/
def execLeaseQuietEnd (s : State) : Result :=
  .next (onlyIf (headRuns s && role s == 2) (fun u =>
    let u1 := setF F.HLD_ROLE.ROLE 0 3 (setF F.HLD_ROLE.SVALID 0 1 (setF F.HLD_ROLE.STEWARD 0 (ownDie u) u))
    leaseRenew { u1 with hld := { u1.hld with stew := {} } }) s)

/-- LEASE_RENEW_TIMER (R767). -/
def execLeaseRenewTimer (s : State) : Result := .next (onlyIf (headRuns s && role s == 3) leaseRenew s)

/-! ### Collection, beats, notices, declarations (R494, R504, R509) -/

/-- A die's report for R509, of itself. -/
def ownReport (s : State) : MemberReport :=
  { die := Fin.ofNat 32 (ownDie s)
    partner := if flag s F.HBL_PARTNER.VALID then some (Fin.ofNat 32 (getF s F.HBL_PARTNER.DIE)) else none
    clients := [0, 1].filterMap (fun k => (clientOf s k).map (fun d => Fin.ofNat 32 d))
    head := jHead s
    colls := collsHere s
    fwu := Fin.ofNat 5 (getF s F.FWU_ACTST.STATE) }

/-- The collection is complete (R479, R509, R847): members, assignments and the rollout are as collected; decisions begin. -/
def collectDone (rs : List MemberReport) (s : State) : State :=
  let mine := fun (d : Nat) => dieTray d == dieTray (ownDie s)
  let all := (rs.filter (fun r => mine r.die.val && r.die.val != ownDie s)) ++ [ownReport s]
  let known : BitVec 32 := (List.range 32).foldl (fun (b : BitVec 32) d =>
    putBit b d (mine d && (s.hld.members.getLsbD d || all.any (fun r => r.die.val == d)))) 0
  let partners := all.foldl (fun (m : Map Nat) r =>
    let m1 := r.clients.foldl (fun (k : Map Nat) c => mapIns k c.val (r.die.val + 1)) m
    match r.partner with
    | some p => mapIns m1 r.die.val (p.val + 1)
    | none => m1) []
  let w := s.hld.stew
  let inAct := fun (f : MemberReport → Bool) =>
    (List.range 32).filter (fun d => all.any (fun r => r.die.val == d && f r))
  let roll : Rollout := { armed := inAct (fun r => r.fwu == 1), turn := (inAct (fun r => decide (1 < r.fwu.val))).head? }
  let s1 := setF F.FWU_ACTST.ROLLOUT 0 (boolNat (roll != {})) <| setStew { w with
    rollout := roll
    ready := true
    present := known
    partner := partners.filter (fun (e : Nat × Nat) => known.getLsbD e.1 && known.getLsbD (e.2 - 1)) } s
  let s2 := stewLinks (ownDie s1) (linkReport s1) s1
  let s3 := all.foldl (fun u r => (presentDies u).foldl (fun v d => decree r.die.val 8 d 0 v) u) s2
  let s4 := all.foldl (fun u r => assign r.die.val u) s3
  (all.flatMap (fun r => r.colls)).foldl (fun u k => collAct k u) s4

def execStewardCollectDone (reports : List MemberReport) (s : State) : Result :=
  .next (onlyIf (headRuns s && role s == 3 && !s.hld.stew.ready) (collectDone reports) s)

/-- The steward acts: it holds the lease and has collected (R509). -/
def acts (s : State) : Bool := headRuns s && role s == 3 && s.hld.stew.ready

/-- MEMBER_BEAT (R504): this die's own beat. -/
def execMemberBeat (s : State) : Result :=
  .next (onlyIf (headRuns s) (fun u =>
    toSteward mkBeat [(1, 1, boolNat (holdsTakeover u))] [] (stewBeat (ownDie u) (holdsTakeover u)) u) s)

/-- MEMBER_BEAT_RECEIVE (R504). -/
def execMemberBeatReceive (n : LinkId) (s : State) : Result :=
  .next (onlyIf (headRuns s) (memberServe n mkBeat (fun m u =>
    if role u = 3 then stewBeat m.src (byteField m.body 1 1 == 1) u else u)) s)

/-- MEMBER_FAIL_DECLARE (R504): not while the member's announced warm reset runs (R494). -/
def execMemberFailDeclare (d : Die) (s : State) : Result :=
  .next (onlyIf (acts s && !s.hld.stew.notice.getLsbD d) (stewFail d) s)

/-- GRACE_EXPIRY (R494). -/
def execGraceExpiry (d : Die) (s : State) : Result :=
  .next (onlyIf (acts s && s.hld.stew.notice.getLsbD d) (stewFail d) s)

/-- RESET_NOTICE_RECEIVE (R494, R805). -/
def execResetNoticeReceive (n : LinkId) (s : State) : Result :=
  .next (onlyIf (headRuns s) (memberServe n mkReset (fun m u =>
    if role u = 3 then stewReset m.src (byteField m.body 1 1) u else u)) s)

/-- LINK_REPORT_RECEIVE (R622). -/
def execLinkReportReceive (n : LinkId) (s : State) : Result :=
  .next (onlyIf (headRuns s) (memberServe n mkLink (fun m u =>
    if role u = 3 then stewLinks m.src (m.data.map (fun (d : Sector × BitVec 32) => d.1)) u else u)) s)

/-- MEMBER_JOIN (R817). -/
def execMemberJoin (n : LinkId) (s : State) : Result :=
  .next (onlyIf (headRuns s) (memberServe n mkJoin (fun m u =>
    if role u = 3 && trusted u m.src then stewJoin m.src u else u)) s)

/-- DEPARTURE_REPORT_RECEIVE (R819, R820). -/
def execDepartureReportReceive (n : LinkId) (s : State) : Result :=
  .next (onlyIf (headRuns s) (memberServe n mkDeparture (fun m u =>
    if role u = 3 then (if byteField m.body 1 1 = 1 then stewLeft m.src u else stewLeaving m.src u) else u)) s)

/-- MIRROR_LOSS_REPORT_RECEIVE (R480). -/
def execMirrorLossReportReceive (n : LinkId) (s : State) : Result :=
  .next (onlyIf (headRuns s) (memberServe n mkMirrorLoss (fun m u =>
    if role u = 3 then stewMirrorLoss m.src u else u)) s)

/-- MIRROR_ACK_TIMEOUT (R24, R480): the partner has not acknowledged an outstanding entry in time. -/
def execMirrorAckTimeout (s : State) : Result :=
  .next (onlyIf (frameRuns s && getF s F.HBL_PARTNER.STATE == 2 && decide (s.hbl.acked < s.hbl.goal)) (fun u =>
    let u1 := mirrorLost u
    toSteward mkMirrorLoss [] [] (stewMirrorLoss (ownDie u1)) u1) s)

/-- COLL_MEMBER_LOST (R491): the interrupted COLLs are reported to the steward. -/
def execCollMemberLost (d : Die) (s : State) : Result := .next (onlyIf (frameRuns s) (fun u => reportLinks (collLost d u)) s)

/-- TAKEOVER_QUERY_RECEIVE (R809). -/
def execTakeoverQueryReceive (n : LinkId) (s : State) : Result :=
  .next (onlyIf (headRuns s) (memberServe n mkQuery (fun m u =>
    twySend (memberMsg u mkAnswer m.src [(1, 1, boolNat (u.hbl.taken.getLsbD m.src))] []) u)) s)

/-! ### The roster in force (R760, R770-R777) -/

/-- Bytes of a roster change (log entry 77): hash, tray, slot, flags, SERIAL. -/
def rosterData (e : RosterEnt) : Sector :=
  BitVec.ofNat 512 (packB [(0, 48, e.hash.toNat), (48, 1, e.tray), (49, 1, e.slot),
    (50, 1, boolNat e.enrolled + 2 * boolNat e.quar), (56, 8, e.serial)])

/-- A roster change read from a sector. -/
def rosterRead (d : Sector) : RosterEnt :=
  { hash := BitVec.ofNat 384 (secField d 0 48), tray := secField d 48 1 % 4, slot := secField d 49 1 % 8
    enrolled := bitAt d 400, quar := bitAt d 401, serial := secField d 56 8 }

/-- A mailbox command completes (R781): the responses it does not state are open values. -/
def mbxDone (err : Nat) (rsp : List Nat) (s : State) : State :=
  let s1 := (List.range 8).foldl (fun u i =>
    match rsp[i]? with
    | some v => setF F.HLD_RSP.VALUE i v u
    | none =>
      let (x, u1) := draw 32 u
      setReg .HLD_RSP i x u1) s
  let s2 := setF F.HLD_STAT.DONE 0 1 (setF F.HLD_STAT.BUSY 0 0 (setF F.HLD_STAT.ERR 0 err s1))
  let s3 := { s2 with hld := { s2.hld with mbx := none, enrolWait := none } }
  if flag s3 F.HLD_CTL.IRQ_EN then raiseVec (getF s3 F.HLD_CTL.VECTOR) s3 else s3

/-- This die's own quarantine follows its entry in the roster (R751, R764, R773; log entry 83). -/
def ownQuarSync (s : State) : State :=
  let e := rosterOf s (ownDie s)
  let q := s.hld.roster != [] && (e.quar || !knownPeer s (ownDie s) Config.ownHash)
  let s1 := setF F.HLD_ROLE.QUAR 0 (boolNat q) s
  if q then withdraw s1 else withdrawEnd s1

/-- Stores a roster change (R770) and what follows from it. -/
def rosterStore (d : Nat) (e : RosterEnt) (s : State) : State :=
  let s1 := { s with hld := { s.hld with roster := mapSet s.hld.roster d {} e } }
  let s2 := quarSync d (setReg .HLD_MEMBERS 0 (putBit (getReg s1 .HLD_MEMBERS 0) d e.enrolled) s1)
  let s3 := joinAsk (ownQuarSync s2)
  if s3.hld.enrolWait = some (d, e.serial) then mbxDone 0 [] s3 else s3

/-- The steward stores a change and distributes it to every die of its tray that it reaches (R770). -/
def rosterSpread (d : Nat) (e : RosterEnt) (s : State) : State :=
  let f := fun (k : Nat) => memberMsg s mkRoster k [(1, 1, d)] [rosterData e]
  rosterStore d e ((trayPeers s).foldl (fun u k => if reachable u (f k) then twySend (f k) u else u) s)

/-- ROSTER_CHANGE_RECEIVE (R770, R777). -/
def execRosterChangeReceive (n : LinkId) (s : State) : Result :=
  .next (onlyIf (headRuns s) (memberServe n mkRoster (fun m u =>
    if m.src = getF u F.HLD_ROLE.STEWARD ∧ flag u F.HLD_ROLE.SVALID = true then
      rosterStore (byteField m.body 1 1 % 32) (rosterRead ((m.data.headD (0, 0)).1)) u
    else u)) s)

/-- Identities that members report (R750): the same hash for two dies quarantines both (R760). -/
def stewIdent (d : Nat) (h : BitVec 384) (s : State) : State :=
  let w := s.hld.stew
  let other := w.idents.find? (fun (e : Nat × BitVec 384) => e.1 != d && e.2 == h)
  let s1 := setStew { w with idents := (w.idents.filter (fun (e : Nat × BitVec 384) => e.1 != d)) ++ [(d, h)] } s
  match other with
  | none => s1
  | some (k, _) =>
    let mark := fun (x : Nat) (u : State) =>
      rosterSpread x { rosterOf u x with quar := true } u
    post { code := Ev.HLD_DUPID, inst := d, d0 := k } (mark k (mark d s1))

/-- IDENTITY_REPORT_RECEIVE (R750, R760). -/
def execIdentityReportReceive (n : LinkId) (s : State) : Result :=
  .next (onlyIf (headRuns s) (memberServe n mkIdent (fun m u =>
    if role u = 3 then
      stewIdent (byteField m.body 1 1 % 32) (BitVec.ofNat 384 (secField ((m.data.headD (0, 0)).1) 0 48)) u
    else u)) s)

/-- An enrolment record: 256 bytes in four sectors (R774). -/
def enrolBits (ds : List Sector) : BitVec 2048 :=
  BitVec.ofNat 2048 ((List.range 4).map (fun i => (ds.getD i 0).toNat * 2 ^ (512 * i))).sum

/-- The die that an enrolment record names. -/
def enrolDie (v : BitVec 2048) : Nat := byteField v 3 1 % 4 * 8 + byteField v 4 1 % 8

/-- The steward's check of an enrolment record (R774-R776). -/
def enrolOk (v : BitVec 2048) (s : State) : Bool :=
  let a := byteField v 2 1
  byteField v 0 2 == 1 && (a == 1 || a == 2) && decide (byteField v 3 1 < 4) && decide (byteField v 4 1 < 8)
    && byteField v 5 3 == 0 && byteField v 209 47 == 0
    && decide ((rosterOf s (enrolDie v)).serial < byteField v 8 8)
    && (Config.operatorHash == some (Config.sha384 (byteSlice v 160 49)))
    && Config.ecdsaVerify (byteSlice v 160 49) (byteSlice v 0 64) (v.extractLsb' 512 768)

/-- The steward applies an enrolment record that it has checked (R775). -/
def enrolApply (v : BitVec 2048) (s : State) : State :=
  let d := enrolDie v
  let e := rosterOf s d
  let serial := byteField v 8 8
  rosterSpread d (if byteField v 2 1 = 1 then
      { hash := v.extractLsb' 128 384, tray := dieTray d, slot := dieSlot d, serial := serial, enrolled := true, quar := false }
    else { e with serial := serial, enrolled := false }) s

/-- ENROL_FORWARD_RECEIVE (R775, R777). -/
def execEnrolForwardReceive (n : LinkId) (s : State) : Result :=
  .next (onlyIf (headRuns s) (memberServe n mkEnrol (fun m u =>
    let v := enrolBits (m.data.map (fun (d : Sector × BitVec 32) => d.1))
    if role u = 3 && enrolOk v u then enrolApply v u else u)) s)

end Sys2Proof.Machine
end

