-- ==== Sys2Proof/Machine/TwyLink.lean ====
section
/-! DEFINITION. Tideway links beyond their frames (12): rates and lanes, bring-up, pauses, weak lanes and spares, the rate
and width loops, routes of this die, and what a link going down does. -/

namespace Sys2Proof.Machine

/-! ### Rates, widths and lanes (R562, R563, R625) -/

/-- Lanes of a width code. -/
def widthLanes (w : Nat) : Nat := 8 / 2 ^ w

/-- P of a rate and a width in units of 0.01 GB/s, truncated (R562, R563). -/
def twyP (rate w : Nat) : Nat :=
  let k := widthLanes w
  match rate with
  | 0 => k * 2000 / 66
  | 1 => k * 125
  | 2 => k * 170000 / 528
  | 3 => k * 625
  | _ => k * 1250

/-- The state of a lane in TWY_LANEST: 0 active, 1 spare, 2 retired, 3 training. -/
def laneSt (s : State) (n l : Nat) : Nat := bitsAt (getReg s .TWY_LANEST n) (2 * l) 2

/-- Gives a lane a state. -/
def setLaneSt (n l v : Nat) (s : State) : State :=
  setReg .TWY_LANEST n (putBits (getReg s .TWY_LANEST n) (2 * l) 2 v) s

/-- The lanes of a link in a state. -/
def lanesIn (s : State) (n v : Nat) : List Nat := (List.range 9).filter (fun l => laneSt s n l == v)

/-- The physical lane of logical lane i. -/
def laneMap (s : State) (n i : Nat) : Nat := bitsAt (getReg s .TWY_LANEMAP n) (4 * i) 4

/-- The error rate last published for a lane (R591). -/
def laneBer (s : State) (n l : Nat) : Nat := getF s F.TWY_LANEBER.RATE (9 * n + l)

/-- Lanes in rising order of their error rates. -/
def byBer (s : State) (n : Nat) (ls : List Nat) : List Nat :=
  ls.mergeSort (fun a b => decide (laneBer s n a ≤ laneBer s n b))

/-- SPARE, and P for the rate and width in use (R563, R625). -/
def laneSync (n : Nat) (s : State) : State :=
  setF F.TWY_STATUS.P n (twyP (getF s F.TWY_STATUS.RATE n) (getF s F.TWY_STATUS.WIDTH n))
    (setF F.TWY_STATUS.SPARE n (boolNat ((lanesIn s n 1) ≠ [])) s)

/-- Puts the given lanes to work at a width, in rising order; healthy lanes left over are spares (R573, R600, R610). -/
def setActive (n w : Nat) (act left : List Nat) (s : State) : State :=
  let ls := act.mergeSort (fun a b => decide (a ≤ b))
  let map := (List.range 8).map (fun i => (ls[i]?).getD 15 * 2 ^ (4 * i))
  let s1 := left.foldl (fun u l => setLaneSt n l 1 u) (ls.foldl (fun u l => setLaneSt n l 0 u) s)
  laneSync n (setF F.TWY_STATUS.WIDTH n w (setReg .TWY_LANEMAP n (BitVec.ofNat 32 map.sum) s1))

/-- The narrowest width code that `k` lanes fill: 0 x8, 1 x4, 2 x2, 3 x1. -/
def widthFor (k : Nat) : Option Nat := [0, 1, 2, 3].find? (fun w => decide (widthLanes w ≤ k))

/-! ### Events and states -/

/-- An event of a link: lane, cause and duration in DETAIL0, peer die in DETAIL1 (R864; log entry 86). -/
def twyEvent (n code lane cause dur : Nat) (s : State) : State :=
  post { code := code, inst := n, d0 := lane + cause % 256 * 256 + min dur 65535 * 65536
         d1 := if flag s F.TWY_PEER.VALID n then getF s F.TWY_PEER.DIE n else 0 } s

/-- The causes of a PAUSE as DETAIL0 carries them (log entry 86). -/
def PauseFor.code (p : PauseFor) : Nat :=
  match p with
  | .loss => 1
  | .retrain => 2
  | .rate => 3
  | .ebb => 4
  | .widen => 5
  | .narrow => 6

/-- STATE and the bit of TWY_UP (R625). -/
def setLinkState (n v : Nat) (s : State) : State :=
  setReg .TWY_UP 0 (putBit (getReg s .TWY_UP 0) n (v == 4)) (setF F.TWY_STATUS.STATE n v s)

/-- Links are clocked: the die runs and REFCLK_TWY is present (R570, R896). -/
def twyClock (s : State) : Bool := clocksRun s && !s.twy.noClock

/-- A link leaves DOWN (R570): the detect pattern goes out. -/
def twyDetect (n : Nat) (s : State) : State :=
  if linkState s n = 0 ∧ flag s F.TWY_LINKCTL.EN n = true ∧ (linkAt s n).off = false ∧ twyClock s = true then
    setLinkState n 1 s
  else s

/-! ### Routes of this die (R616, R617, R621) -/

/-- A link that leads to a die: ACTIVE or paused, with a peer of that number, which no two peers report (R71). -/
def leadsTo (s : State) (n d : Nat) : Bool :=
  (linkState s n == 4 || linkState s n == 5) && flag s F.TWY_PEER.VALID n && getF s F.TWY_PEER.DIE n == d
    && !duplicateDie s d

/-- A link as a next hop, with the weight of its P (R617). -/
def hopOf (s : State) (n : Nat) : Nat × Nat := (n, weightOf (getF s F.TWY_STATUS.P n))

/-- The links to a die, as next hops. -/
def linksTo (s : State) (d : Nat) : List (Nat × Nat) :=
  ((List.range 24).filter (fun n => leadsTo s n d)).map (hopOf s)

/-- The default next hops to a die without a direct link (R617; log entry 85): in the own tray, links to third dies; to
another tray, links to the own tray's die of the destination's slot, else to the other tray's die of the own slot. -/
def defaultHops (s : State) (d : Nat) : List (Nat × Nat) :=
  let me := ownDie s
  if dieTray d = dieTray me then
    ((List.range 24).filter (fun n =>
      let c := getF s F.TWY_PEER.DIE n
      leadsTo s n c && dieTray c == dieTray me && c != d)).map (hopOf s)
  else
    match linksTo s (dieTray me * 8 + dieSlot d) with
    | [] => linksTo s (dieTray d * 8 + dieSlot me)
    | l => l

/-- The next hops to a destination: direct links; else those in force that still lead on, or the default (R616, R617, R622). -/
def hopsTo (s : State) (d : Nat) : List (Nat × Nat) :=
  match linksTo s d with
  | [] =>
    let kept := (nextHops s d).filter (fun h => leadsTo s h.1 (getF s F.TWY_PEER.DIE h.1))
    (if duplicateDie s d then [] else if kept = [] then defaultHops s d else kept.map (fun h => hopOf s h.1)).take 4
  | l => l.take 4

/-- Brings every route up to date (R612, R617, R621). -/
def routesLocal (s : State) : State :=
  (List.range 32).foldl (fun u d =>
    if d = ownDie u then u
    else
      let (x, y) := routeWords (hopsTo u d)
      setRoute d x y u) s

/-! ### A link goes down (R612) -/

/-- The peer of a link is known no more (R71): its die number is a duplicate no longer where it was one. -/
def peerGone (n : Nat) (s : State) : State :=
  if flag s F.TWY_PEER.VALID n then quarSync (getF s F.TWY_PEER.DIE n) (setF F.TWY_PEER.VALID n 0 s) else s

/-- The link goes down: a PAUSE ends (R606), its messages go back to routing with whatever a third die may have lost (R507), its
lanes start anew at the next bring-up, the steward hears of it. `off` keeps it down until EN is written from 0 to 1. -/
def linkDown (n : Nat) (off : Bool) (s : State) : State :=
  let was := linkState s n
  let l := linkAt s n
  let up := was == 4 || was == 5
  let s0 := match l.pause with
    | some p => if was = 5 then twyEvent n Ev.TWY_PAUSE_END 0 p.code ((s.time - l.pauseAt) / 25) s else s
    | none => s
  let s1 := if up then twyEvent n Ev.TWY_DOWN 0 0 0 s0 else s0
  let s2 := setLinkState n 0 (setReg .TWY_STATUS n 0 (setReg .TWY_LANEST n (regReset .TWY_LANEST n)
    (setReg .TWY_LANEMAP n (regReset .TWY_LANEMAP n) s1)))
  let s3 := peerGone n (setLink n { tried := l.tried, off := l.off || off } s2)
  if up then
    let s4 := oversubUpdate 1 (overrideDrop 2 n (overrideDrop 1 n (clampEnd 2 n (clampEnd 1 n s3))))
    reportLinks (resendAll (l.txq.map (fun t => t.msg)) (routesLocal s4))
  else s3

/-- DOWN with TWY_CONFIG (R570). -/
def configFail (n : Nat) (s : State) : State := linkDown n false (twyEvent n Ev.TWY_CONFIG 0 0 0 s)

/-! ### PAUSE (R583, R584, R606) -/

/-- An ACTIVE link enters PAUSE. -/
def pauseBegin (n : Nat) (p : PauseFor) (want : Nat) (s : State) : State :=
  if linkState s n != 4 then s
  else
    let l := linkAt s n
    let s1 := setLink n { l with pause := some p, pauseAt := s.time, want := want } s
    twyEvent n Ev.TWY_PAUSE_BEGIN 0 p.code 0 (bump F.TWY_CHANGES.PAUSES n (setLinkState n 5 s1))

/-! ### Weak lanes (R595-R605) -/

/-- A lane starts training (R598). -/
def trainLane (n k : Nat) (s : State) : State :=
  laneSync n (setLaneSt n k 3 (setLink n { linkAt s n with training := some k } s))

/-- A link without a spare for a weak lane ebbs through a PAUSE, or goes down (R600-R602). -/
def ebbOrDown (n k : Nat) (s : State) : State :=
  let l := linkAt s n
  let healthy := (lanesIn s n 0).filter (fun a => a != k && !l.weak.contains a)
  if !flag s F.TWY_LINKCTL.EBB_ALLOW n then linkDown n false s
  else
    match widthFor healthy.length with
    | none => linkDown n false s
    | some w =>
      let again := match l.training with
        | some t => if l.restoring.contains t then l.restoring else t :: l.restoring
        | none => l.restoring
      let s1 := match l.training with
        | some t => setLaneSt n t 2 s
        | none => s
      pauseBegin n .ebb (max w 1) (setLink n { linkAt s1 n with training := none, restoring := again } s1)

/-- Acts on a weak lane: trains a spare, else ebbs or goes down. -/
def weakAct (n k : Nat) (s : State) : State :=
  let l := linkAt s n
  let s1 := setLink n { l with acting := some k, weak := l.weak.filter (fun a => a != k) } s
  match (byBer s1 n (lanesIn s1 n 1)) with
  | sp :: _ => trainLane n sp s1
  | [] => ebbOrDown n k s1

/-- The link widens to the widest width that its active and spare lanes fill (R605, R610). -/
def widenNow (n : Nat) (s : State) : State :=
  match widthFor ((lanesIn s n 0).length + (lanesIn s n 1).length) with
  | none => s
  | some w => if w < getF s F.TWY_STATUS.WIDTH n then pauseBegin n .widen w s else s

/-- Starts what waits: one action at a time, weak lanes of the highest error rate first, then the lanes that RESTORE
trains (R597, R605). -/
def lanesNext (n : Nat) (s : State) : State :=
  let l := linkAt s n
  if linkState s n != 4 || l.acting.isSome || l.training.isSome then s
  else
    let weak := l.weak.filter (fun a => laneSt s n a == 0)
    match (byBer s n weak).reverse with
    | k :: _ => weakAct n k (setLink n { l with weak := weak } s)
    | [] =>
      match l.restoring with
      | k :: _ => trainLane n k (setLink n { l with weak := [] } s)
      | [] => setLink n { l with weak := [] } s

/-- A lane becomes weak (R595, R596). -/
def laneWeak (n k : Nat) (s : State) : State :=
  let l := linkAt s n
  if l.weak.contains k || l.acting == some k then s
  else twyEvent n Ev.TWY_WEAK k 0 0 (setLink n { l with weak := l.weak ++ [k], bad := mapDel l.bad k } s)

/-- TWY_SPARE_TRAIN_DONE (R598, R599, R605). -/
def trainDone (n : Nat) (passed : Bool) (s : State) : State :=
  let l := linkAt s n
  match l.training with
  | none => s
  | some k =>
    match l.acting with
    | some w =>
      if passed then
        let s1 := setLink n { l with swapping := some k, training := none } s
        if decide (256 ≤ (linkAt s1 n).replay.length) then s1 else sendFrame n [] false true (linkAt s1 n) s1
      else
        let s1 := twyEvent n Ev.TWY_SPAREFAIL k 0 0 (setLaneSt n k 2 (setLink n { l with training := none } s))
        ebbOrDown n w s1
    | none =>
      let s1 := setLink n { l with training := none, restoring := l.restoring.filter (fun a => a != k) } s
      let s2 := if passed then setLaneSt n k 1 s1 else twyEvent n Ev.TWY_SPAREFAIL k 0 0 (setLaneSt n k 2 s1)
      let s3 := laneSync n s2
      if (linkAt s3 n).restoring = [] && (linkAt s3 n).weak = [] then widenNow n s3 else lanesNext n s3

def execTwySpareTrainDone (n : LinkId) (passed : Bool) (s : State) : Result :=
  .next (onlyIf (twyClock s && linkState s n == 4) (trainDone n passed) s)

/-- TWY_SWAP_DONE (R599): the spare carries the weak lane's logical lane, which is retired. -/
def swapDone (n : Nat) (s : State) : State :=
  let l := linkAt s n
  match l.acting, l.swapping with
  | some w, some k =>
    let i := ((List.range 8).find? (fun i => laneMap s n i == w)).getD 0
    let s1 := setReg .TWY_LANEMAP n (putBits (getReg s .TWY_LANEMAP n) (4 * i) 4 k) s
    let s2 := laneSync n (setLaneSt n k 0 (setLaneSt n w 2 s1))
    let s3 := setLink n { l with acting := none, swapping := none } s2
    lanesNext n (twyEvent n Ev.TWY_SPARED w 0 0 (bump F.TWY_CHANGES.SWAPS n s3))
  | _, _ => s

def execTwySwapDone (n : LinkId) (s : State) : Result :=
  .next (onlyIf (twyClock s && linkState s n == 4) (swapDone n) s)

/-! ### The end of a PAUSE (R584, R600, R605-R607, R610, R611) -/

/-- POLICY_OVERRIDE of the width loop where an action leaves the link narrower than WMIN (R611). -/
def widthOverride (n cause : Nat) (s : State) : State :=
  overrideSet 2 n cause (decide (getF s F.TWY_LINKCTL.WMIN n < getF s F.TWY_STATUS.WIDTH n)) s

/-- A rate or width that an action had taken outside its envelope has returned inside (R730). -/
def linkOverrides (n : Nat) (s : State) : State :=
  let inRate := decide (getF s F.TWY_LINKCTL.MINRATE n ≤ getF s F.TWY_STATUS.RATE n)
  let inWidth := decide (getF s F.TWY_STATUS.WIDTH n ≤ getF s F.TWY_LINKCTL.WMIN n)
  let s1 := if inRate then overrideSet 1 n 0 false s else s
  if inWidth then overrideSet 2 n 0 false s1 else s1

/-- The lanes that a link of a new width uses, and those left over. -/
def pickLanes (s : State) (n w : Nat) (from_ : List Nat) : List Nat × List Nat :=
  let ls := byBer s n from_
  (ls.take (widthLanes w), ls.drop (widthLanes w))

/-- What the PAUSE was for takes effect. -/
def pauseEffect (n : Nat) (p : PauseFor) (want : Nat) (s : State) : State :=
  match p with
  | .loss | .retrain => s
  | .rate =>
    let l := linkAt s n
    let old := getF s F.TWY_STATUS.RATE n
    let s1 := laneSync n (setF F.TWY_STATUS.RATE n want s)
    twyEvent n Ev.TWY_RATE 0 0 0 (setLink n { l with calm := 0, trial := decide (old < want), bad := [] } s1)
  | .ebb =>
    let l := linkAt s n
    let k := l.acting.getD 15
    let healthy := (lanesIn s n 0).filter (fun a => a != k && !l.weak.contains a)
    let (act, left) := pickLanes s n want healthy
    let s1 := (k :: l.weak).foldl (fun u a => if a < 9 then setLaneSt n a 2 u else u) s
    let s2 := setActive n want act left (setLink n { l with acting := none, weak := [] } s1)
    widthOverride n Ev.TWY_EBB (twyEvent n Ev.TWY_EBB (if k < 9 then k else 0) 0 0 (bump F.TWY_CHANGES.EBBS n s2))
  | .widen =>
    let act := lanesIn s n 0
    let sp := byBer s n (lanesIn s n 1)
    let k := widthLanes want - act.length
    setActive n want (act ++ sp.take k) (sp.drop k) s
  | .narrow =>
    let (act, left) := pickLanes s n want (lanesIn s n 0)
    setActive n want act left s

/-- TWY_PAUSE_DONE (R584): the link is ACTIVE again and resends from the other end's last ACKSEQ. -/
def pauseDone (n : Nat) (s : State) : State :=
  let l := linkAt s n
  match l.pause with
  | none => s
  | some p =>
    let dur := (s.time - l.pauseAt) / 25
    let oldP := getF s F.TWY_STATUS.P n
    let s1 := setLink n { l with pause := none, resends := 0, nakSent := false } (setLinkState n 4 s)
    let s2 := twyEvent n Ev.TWY_PAUSE_END 0 p.code dur s1
    let s3 := pauseEffect n p l.want s2
    let s4 := { s3 with out := s3.out ++ l.replay.map (fun (f : Nat × BitVec 2048) => Out.twyFrame n f.2) }
    let s5 := if getF s4 F.TWY_STATUS.P n = oldP then s4
      else reportLinks (routesLocal (oversubUpdate 1 (linkOverrides n s4)))
    lanesNext n (twyFlush n s5)

def execTwyPauseDone (n : LinkId) (s : State) : Result :=
  .next (onlyIf (twyClock s && linkState s n == 5) (pauseDone n) s)

/-- TWY_PAUSE_TIMEOUT (R570). -/
def execTwyPauseTimeout (n : LinkId) (s : State) : Result :=
  .next (onlyIf (twyClock s && linkState s n == 5) (linkDown n false) s)

/-! ### Bring-up (R570-R574) -/

/-- The lanes of a mask. -/
def maskLanes (m : BitVec 9) : List Nat := (List.range 9).filter (fun l => bitAt m l)

/-- The lanes that passed a rate's dwell. -/
def passedAt (l : TwyLink) (r : Nat) : List Nat := maskLanes (mapGet l.passed r 0)

/-- The rate and width at which the link enters ACTIVE (R573); none where it returns to DOWN. -/
def bringUp (ebb : Bool) (l : TwyLink) : Option (Nat × Nat) :=
  let rates := (List.range (l.top + 1)).reverse
  match rates.find? (fun r => decide (8 ≤ (passedAt l r).length)) with
  | some r => some (r, 0)
  | none =>
    if !ebb then none
    else
      match rates.find? (fun r => (passedAt l r) ≠ []) with
      | some r => (widthFor (passedAt l r).length).map (fun w => (r, max w 1))
      | none => none

/-- The logical lanes at bring-up: x8 keeps each lane in its place, with lane 8 for one that failed. -/
def bringLanes (w : Nat) (ok : List Nat) : List Nat × List Nat :=
  if w = 0 ∧ ok.length = 9 then (List.range 8, [8])
  else (ok.take (widthLanes w), ok.drop (widthLanes w))

/-- The peer of the own slot has gone from an in-tray link (R70). -/
def conflictEnd (n : Nat) (s : State) : State :=
  if s.hld.conflict.getLsbD n && dieSlot (getF s F.TWY_PEER.DIE n) != dieSlot (ownDie s) then
    withdrawEnd { s with hld := { s.hld with conflict := putBit s.hld.conflict n false } }
  else s

/-- The credits that a link starts with (R580). -/
def startCredit : Map Nat :=
  (List.range 8).foldl (fun (m : Map Nat) k => mapSet m k 0 (twyGrant (k % 4))) []

/-- The link enters ACTIVE (R573, R574, R580). -/
def linkActivate (n r w : Nat) (s : State) : State :=
  let l := linkAt s n
  let (act, left) := bringLanes w (passedAt l r)
  let failed := (List.range 9).filter (fun a => !(act.contains a || left.contains a))
  let s1 := setLink n { tried := l.tried, top := l.top, passed := l.passed, credit := startCredit, txKey := l.txKey
                        txSalt := l.txSalt, rxKey := l.rxKey, rxSalt := l.rxSalt } s
  let s2 := failed.foldl (fun u a => setLaneSt n a 2 u) (setF F.TWY_STATUS.RATE n r s1)
  let map0 := fun (i : Nat) => if act.contains i then i else 8
  let s3 := setActive n w act left s2
  let s4 := if w = 0 then
      setReg .TWY_LANEMAP n (BitVec.ofNat 32 ((List.range 8).map (fun i => map0 i * 2 ^ (4 * i))).sum) s3 else s3
  let s5 := setLinkState n 4 (setF F.TWY_STATUS.ENC n (getF s F.TWY_LINKCTL.ENC n) s4)
  let s6 := oversubUpdate 1 (overrideSet 1 n 0xFF03 (decide (r < getF s F.TWY_LINKCTL.MINRATE n)) s5)
  joinAsk (reportLinks (twyRetry (routesLocal (conflictEnd n s6))))

/-- TWY_DWELL_DONE (R570, R572, R573): the lanes that passed the dwell at the rate of STEP. -/
def dwellDone (n : Nat) (lanes : BitVec 9) (s : State) : State :=
  let l := linkAt s n
  let l1 := { l with passed := mapSet l.passed l.step 0 lanes }
  if l.step < l.top then setLink n { l1 with step := l.step + 1 } s
  else
    let s1 := setLink n l1 s
    match bringUp (flag s F.TWY_LINKCTL.EBB_ALLOW n) l1 with
    | none => linkDown n false s1
    | some (r, w) => linkActivate n r w s1

def execTwyDwellDone (n : LinkId) (lanes : BitVec 9) (s : State) : Result :=
  .next (onlyIf (twyClock s && linkState s n == 3) (dwellDone n lanes) s)

/-- The link number of slot or tray b at slot or tray a: j of R613 and R614. -/
def wireIndex (a b : Nat) : Nat := if b < a then b else b - 1

/-- The die and link that the wiring of R613 and R614 puts at the far end of link n. -/
def wiredPeer (me n : Nat) : Option (Nat × Nat) :=
  let t := dieTray me
  let sl := dieSlot me
  if n < 14 then
    let j := n % 7
    let b := if j < sl then j else j + 1
    some (t * 8 + b, wireIndex b sl + 7 * (n / 7))
  else if n < 23 then
    let j := (n - 14) % 3
    let u := if j < t then j else j + 1
    some (u * 8 + sl, 14 + wireIndex u t + 3 * ((n - 14) / 3))
  else none

/-- A peer of the own slot on an in-tray link (R70): the die withdraws from election and mirror service. -/
def slotConflict (n : Nat) (s : State) : State :=
  let first := s.hld.conflict == 0
  let s1 := { s with hld := { s.hld with conflict := putBit s.hld.conflict n true } }
  if first then
    let s2 := mirrorLost (withdraw s1)
    post { code := Ev.SLOT_CONFLICT, inst := n, d0 := dieSlot (ownDie s) } s2
  else s1

/-- A peer has authenticated (R748, R750, R771): its identity is kept and reported, and compared with the roster. -/
def peerKnown (n d : Nat) (h : BitVec 384) (s : State) : State :=
  let s1 := { s with hld := { s.hld with peers := mapIns s.hld.peers d h, linkHash := mapIns s.hld.linkHash n h } }
  let s2 := quarSync d s1
  let s2 := if duplicateDie s2 d then routesLocal s2 else s2
  let s3 := if knownPeer s2 d h then s2 else post { code := Ev.HLD_UNKNOWN, inst := d } s2
  toSteward mkIdent [(1, 1, d)] [BitVec.ofNat 512 h.toNat] (stewIdent d h) s3

/-- Keys for a direction from the session of the two dies (R587, R749): open values. -/
def drawKeys (n : Nat) (s : State) : State :=
  let (a, s1) := draw 256 s
  let (b, s2) := draw 32 s1
  let (c, s3) := draw 256 s2
  let (d, s4) := draw 32 s3
  setLink n { linkAt s4 n with txKey := a, txSalt := b, rxKey := c, rxSalt := d } s4

/-- TWY_CONFIG_RECEIVE (R571, R615, R748): the peer's block, and the outcome of authentication. -/
def configTake (n die link : Nat) (mode enc : Bool) (maxRate version : Nat) (auth : Bool) (h : BitVec 384) (s : State) :
    State :=
  let wired := wiredPeer (ownDie s) n == some (die, link)
  let s1 := setF F.TWY_PEER.DIE n die (setF F.TWY_PEER.LINK n link (setF F.TWY_PEER.VALID n 1
    (setF F.TWY_PEER.WIRING n (boolNat wired) s)))
  let s2 := if wired then s1 else twyEvent n Ev.TWY_WIRING 0 0 0 s1
  if mode != flag s F.TWY_LINKCTL.MODE n || enc != flag s F.TWY_LINKCTL.ENC n || version != 1 then configFail n s2
  else if !auth then post { code := Ev.HLD_AUTH, inst := die } (configFail n s2)
  else
    let s3 := peerKnown n die h s2
    let s4 := if n < 14 ∧ dieSlot die = dieSlot (ownDie s) then slotConflict n s3 else s3
    let s5 := if enc then drawKeys n s4 else s4
    setLinkState n 3 (setLink n { linkAt s5 n with step := 0, passed := [], top := min (min maxRate 4)
                                                     (getF s F.TWY_LINKCTL.MAXRATE n) } s5)

def execTwyConfigReceive (n : LinkId) (die : Die) (link : Fin 32) (mode enc : Bool) (maxRate : Fin 8) (version : BitVec 8)
    (auth : Bool) (h : BitVec 384) (s : State) : Result :=
  .next (onlyIf (twyClock s && linkState s n == 2) (configTake n die link mode enc maxRate version.toNat auth h) s)

/-- TWY_CONFIG_TIMEOUT (R570). -/
def execTwyConfigTimeout (n : LinkId) (s : State) : Result :=
  .next (onlyIf (twyClock s && linkState s n == 2) (configFail n) s)

/-- TWY_BLOCK_LOCK (R570, R571): the own configuration block goes out. -/
def blockLock (n : Nat) (s : State) : State :=
  let s1 := setLinkState n 2 (setLink n { linkAt s n with tried := true } s)
  { s1 with out := s1.out ++ [.twyConfig n (ownDie s) (getF s F.TWY_LINKCTL.MODE n) (getF s F.TWY_LINKCTL.ENC n)
      (getF s F.TWY_LINKCTL.MAXRATE n)] }

def execTwyBlockLock (n : LinkId) (s : State) : Result :=
  .next (onlyIf (twyClock s && linkState s n == 1) (blockLock n) s)

/-- TWY_DETECT_TIMEOUT (R570): TWY_ABSENT on the first attempt after reset only. -/
def detectTimeout (n : Nat) (s : State) : State :=
  let l := linkAt s n
  let s1 := if l.tried then s else twyEvent n Ev.TWY_ABSENT 0 0 0 s
  setLinkState n 0 (setLink n { l with tried := true } s1)

def execTwyDetectTimeout (n : LinkId) (s : State) : Result :=
  .next (onlyIf (twyClock s && linkState s n == 1) (detectTimeout n) s)

/-- TWY_HOLD_EXPIRY (R570, R612). -/
def execTwyHoldExpiry (n : LinkId) (s : State) : Result := onClock s (twyDetect n)

/-- TWY_LINK_ENABLE (R570): EN written from 0 to 1. -/
def twyEnable (n : Nat) (s : State) : State :=
  if flag s F.TWY_LINKCTL.EN n then s
  else twyDetect n (setLink n { linkAt s n with off := false } (setF F.TWY_LINKCTL.EN n 1 s))

def execTwyLinkEnable (n : LinkId) (s : State) : Result := .next (onlyIf (barOpen s) (twyEnable n) s)

/-- TWY_LINK_DISABLE (R570): EN written to 0. -/
def execTwyLinkDisable (n : LinkId) (s : State) : Result :=
  .next (onlyIf (barOpen s) (fun u => linkDown n true (setF F.TWY_LINKCTL.EN n 0 u)) s)

/-! ### Commands of TWY_LINKCMD (R570, R593, R594, R605) -/

def execTwyCmdRetrain (n : LinkId) (s : State) : Result :=
  .next (onlyIf (barOpen s && twyClock s) (pauseBegin n .retrain 0) s)

/-- TWY_CMD_RESTORE (R605): every retired lane is trained; then the link widens. -/
def twyRestore (n : Nat) (s : State) : State :=
  if linkState s n != 4 then s
  else
    let l := linkAt s n
    let dead := lanesIn s n 2
    let s1 := setLink n { l with restoring := dead } s
    if dead = [] && l.acting.isNone && l.training.isNone then widenNow n s1 else lanesNext n s1

def execTwyCmdRestore (n : LinkId) (s : State) : Result := .next (onlyIf (barOpen s && twyClock s) (twyRestore n) s)

def execTwyCmdDown (n : LinkId) (s : State) : Result := .next (onlyIf (barOpen s) (linkDown n true) s)

/-- The lanes that TWY_TEST selects. -/
def testLanes (s : State) (n : Nat) : List Nat := maskLanes (BitVec.ofNat 9 (getF s F.TWY_TEST.LANES n))

/-- A lane's generator starts (R592): what its register holds is open, but for zero, from which no pattern comes (log entry 119). -/
def prbsStart (taps : Nat × Nat) (n k : Nat) (s : State) : State :=
  let (r, s1) := draw 31 s
  let g := if r.toNat % 2 ^ taps.1 = 0 then 1 else r
  let l := linkAt s1 n
  let s2 := setLink n { l with gens := mapIns l.gens k g } s1
  { s2 with out := s2.out ++ [.twyPrbs n k (getF s F.TWY_TEST.PRBS n) g] }

/-- TWY_CMD_TEST (R570, R592-R594): a far-end loop needs the peer's leave, or TEST ends at once; the pattern runs at MAXRATE. -/
def twyTest (n : Nat) (farOk : Bool) (s : State) : State :=
  let s1 := linkDown n false s
  if getF s F.TWY_TEST.LOOP n = 3 ∧ farOk = false then
    post { code := Ev.TWY_CONFIG, sev := some 0, inst := n } s1
  else
    let s2 := setF F.TWY_STATUS.RATE n (getF s F.TWY_LINKCTL.MAXRATE n) (setLinkState n 6 s1)
    let l := linkAt s2 n
    let s3 := setLink n { l with gens := [], chks := [] } s2
    match prbsTaps (getF s F.TWY_TEST.PRBS n) with
    | some taps => (testLanes s n).foldl (fun u k => prbsStart taps n k u) s3
    | none => s3

def execTwyCmdTest (n : LinkId) (farOk : Bool) (s : State) : Result :=
  .next (onlyIf (barOpen s && twyClock s) (twyTest n farOk) s)

def execTwyCmdTestend (n : LinkId) (s : State) : Result :=
  .next (onlyIf (barOpen s && linkState s n == 6) (fun u => setLinkState n 0 (setF F.TWY_STATUS.RATE n 0 u)) s)

/-! ### Windows and loops (R591, R595, R596, R607-R611) -/

/-- The limit above which a lane's rate makes it weak: 2.4e-4 in units of 1e-8 (R595). -/
def weakLimit : Nat := 24000

/-- Publishes the window's rates and adds the window's errors (R591). -/
def publishLanes (n : Nat) (rates : List (BitVec 16)) (seen : List LaneSeen) (s : State) : State :=
  (List.range 9).foldl (fun u l =>
    bumpBy F.TWY_LANEERR.COUNT (9 * n + l) (seen.getD l {}).errs.toNat
      (setF F.TWY_LANEBER.RATE (9 * n + l) (rates.getD l 0).toNat u)) s

/-- The lanes that have exceeded the weak limit for ten windows in a row become weak (R595). -/
def findWeak (n : Nat) (s : State) : State :=
  (lanesIn s n 0).foldl (fun u l =>
    let x := linkAt u n
    let c := if weakLimit < laneBer u n l then mapGet x.bad l 0 + 1 else 0
    let u1 := setLink n { x with bad := mapSet x.bad l 0 c } u
    if 10 ≤ c then laneWeak n l u1 else u1) s

/-- The rate loop at a window's end (R607, R608). -/
def rateLoop (n : Nat) (s : State) : State :=
  let l := linkAt s n
  let act := lanesIn s n 0
  let rate := getF s F.TWY_STATUS.RATE n
  let down := decide (3 ≤ (act.filter (fun a => decide (getF s F.TWY_RATETH.DN < laneBer s n a))).length)
  let calm := if act.all (fun a => decide (laneBer s n a < getF s F.TWY_RATETH.UP)) then l.calm + 1 else 0
  let since := l.lastTry.map (fun w => w + 1)
  let s1 := setLink n { l with calm := calm, lastTry := since } s
  let mayTry := decide (100 ≤ calm) && (match since with | none => true | some w => decide (600 ≤ w))
  if linkState s n != 4 then s1
  else if down then
    if l.trial then pauseBegin n .rate (rate - 1) (setLink n { linkAt s1 n with trial := false } s1)
    else if getF s F.TWY_LINKCTL.MINRATE n < rate then pauseBegin n .rate (rate - 1) (clampEnd 1 n s1)
    else clampBegin 1 n s1
  else if mayTry && decide (rate < 4) then
    if rate < getF s F.TWY_LINKCTL.MAXRATE n then
      pauseBegin n .rate (rate + 1) (clampEnd 1 n (setLink n { linkAt s1 n with lastTry := some 0 } s1))
    else clampBegin 1 n s1
  else clampEnd 1 n s1

/-- A window of a TEST (R592): every selected lane's checker takes the bits that the lane has received, and the bit errors that it
finds are counted. -/
def testWindow (n : Nat) (seen : List LaneSeen) (s : State) : State :=
  match prbsTaps (getF s F.TWY_TEST.PRBS n) with
  | none => s
  | some taps => (testLanes s n).foldl (fun u k =>
      let l := linkAt u n
      let c := mapGet l.chks k {}
      let c1 := prbsCheck taps c (seen.getD k {}).bits
      bumpBy F.TWY_LANEERR.COUNT (9 * n + k) (c1.errs - c.errs) (setLink n { l with chks := mapIns l.chks k c1 } u)) s

/-- TWY_BER_WINDOW (R591, R592): a window of an ACTIVE link, or of one under TEST. -/
def execTwyBerWindow (n : LinkId) (rates : List (BitVec 16)) (seen : List LaneSeen) (s : State) : Result :=
  .next (onlyIf (twyClock s) (fun u =>
    if linkState u n = 4 then rateLoop n (lanesNext n (findWeak n (publishLanes n rates seen u)))
    else if linkState u n = 6 then testWindow n seen u
    else u) s)

/-- TWY_ERROR_WINDOW (R590, R596): a second has passed. -/
def errorWindow (n : Nat) (s : State) : State :=
  let l := linkAt s n
  let s1 := setLink n { l with errWin := 0, authWin := 0 } s
  if getF s F.TWY_CTL.ILIM < l.errWin then
    match (byBer s1 n (lanesIn s1 n 0)).reverse with
    | k :: _ => lanesNext n (laneWeak n k s1)
    | [] => s1
  else s1

def execTwyErrorWindow (n : LinkId) (s : State) : Result :=
  .next (onlyIf (twyClock s && linkState s n == 4) (errorWindow n) s)

/-- TWY_RATE_TRIAL_END (R607): the higher rate is kept, or given up where the down condition holds. -/
def trialEnd (n : Nat) (s : State) : State :=
  let l := linkAt s n
  if !l.trial then s
  else
    let down := decide (3 ≤ ((lanesIn s n 0).filter (fun a => decide (getF s F.TWY_RATETH.DN < laneBer s n a))).length)
    let s1 := setLink n { l with trial := false } s
    if down then pauseBegin n .rate (getF s F.TWY_STATUS.RATE n - 1) s1 else s1

def execTwyRateTrialEnd (n : LinkId) (s : State) : Result :=
  .next (onlyIf (twyClock s && linkState s n == 4) (trialEnd n) s)

/-- TWY_WIDTH_WINDOW (R610): the measured load in units of 0.01 GB/s over 10 ms (`long`) or over 100 µs. -/
def widthWindow (n : Nat) (long : Bool) (load : Nat) (s : State) : State :=
  let w := getF s F.TWY_STATUS.WIDTH n
  let rate := getF s F.TWY_STATUS.RATE n
  let p := getF s F.TWY_STATUS.P n
  let wmin := getF s F.TWY_LINKCTL.WMIN n
  let fits := fun (v : Nat) => decide (4 * load ≤ twyP rate v)
  if long then
    if 10 * load < p then
      let s1 := clampSet 2 n ([1, 2, 3].any (fun v => decide (wmin < v) && fits v && decide (w < v))) s
      match [3, 2, 1].find? (fun v => decide (v ≤ wmin) && fits v && decide (w < v)) with
      | some v => pauseBegin n .narrow v s1
      | none => s1
    else clampEnd 2 n s
  else if p < 2 * load then widenNow n (clampEnd 2 n s)
  else s

def execTwyWidthWindow (n : LinkId) (long : Bool) (load : BitVec 16) (s : State) : Result :=
  .next (onlyIf (twyClock s && linkState s n == 4) (widthWindow n long load.toNat) s)

/-- TWY_KEY_UPDATE (R589): Headland installs a new key for a direction. -/
def keyUpdate (n : Nat) (tx : Bool) (s : State) : State :=
  let (k, s1) := draw 256 s
  let l := linkAt s1 n
  setLink n (if tx then { l with txKey := k, txEpoch := (l.txEpoch + 1) % 256, txFirst := l.fseq }
    else { l with rxPrev := l.rxKey, rxKey := k, rxEpoch := (l.rxEpoch + 1) % 256 }) s1

def execTwyKeyUpdate (n : LinkId) (tx : Bool) (s : State) : Result :=
  .next (onlyIf (twyClock s && (linkState s n == 4 || linkState s n == 5) && flag s F.TWY_STATUS.ENC n) (keyUpdate n tx) s)

/-- TWY_CNTCLR (R625). -/
def execTwyCntclr (s : State) : Result :=
  .next (onlyIf (barOpen s) (clearRegs [.TWY_CLAMPDUR, .TWY_CRCERR, .TWY_REPLAY, .TWY_UNCORR, .TWY_AUTHERR, .TWY_SKIP,
    .TWY_CHANGES, .TWY_TXFR_LO, .TWY_TXFR_HI, .TWY_NOCRD_LO, .TWY_NOCRD_HI, .TWY_LANEERR]) s)

end Sys2Proof.Machine
end

