-- ==== Sys2Proof/Machine/Breakwater.lean ====
section
/-! DEFINITION. Breakwater (15): rails and cove regulators, frame clock and power states, cove gating, droop and current
limits, current and temperature sensors, compute-die power, the frequency and voltage loop. -/

namespace Sys2Proof.Machine

/-! ### Cove regulators and rails (R688-R692) -/

/-- STATE of BRK_COVESTAT: 0 AWAKE (IDLE is read from it, see `coveIdle`), 2 GATED, 3 WAKING. -/
def coveState (s : State) (c : Nat) : Nat := getF s F.BRK_COVESTAT.STATE c

/-- The target of a cove regulator in mV (R692). -/
def coveMv (s : State) (c : Nat) : Nat := getF s F.BRK_COVESTAT.MV c

/-- The coves of a half: 0 South, 1 North (R74). -/
def halfCoves (h : Nat) : List Nat := (List.range 16).filter (fun c => c / 8 == h)

/-- The voltage to which VIN_S or VIN_N is set: 200 mV above the highest cove target, within the steered range (R690). -/
def vinTarget (s : State) (h : Nat) : Nat :=
  let top := (halfCoves h).foldl (fun m c => max m (coveMv s c)) 0
  max 950 (min 1150 ((top + 200 + 4) / 5 * 5))

/-- Writes the target voltage of the rails whose need has changed (R689, R690). -/
def railsFollow (before : State) (s : State) : State :=
  [0, 1].foldl (fun u h =>
    if vinTarget before h = vinTarget u h then u
    else { u with out := u.out ++ [.avsTarget h (vinTarget u h)] }) s

/-- The lowest voltage at which a cove's monitors show their slack depends on the silicon: an open value of 550-900 mV in
5 mV steps (R692, R736; log entry 90). -/
def coveTarget (c : Nat) (s : State) : State :=
  let (x, s1) := draw 16 s
  setF F.BRK_COVESTAT.MV c (550 + 5 * (x.toNat % 71)) s1

/-- Every cove that is not gated takes a new target (R705, R736). -/
def coveTargets (s : State) : State :=
  railsFollow s ((List.range 16).foldl (fun u c => if coveState u c = 2 then u else coveTarget c u) s)

/-! ### Frame clock (R694, R698, R705, R733) -/

/-- FCODE in force. -/
def fcode (s : State) : Nat := getF s F.BRK_PSSTAT.FCODE

/-- The frame clock takes the lowest of the loop's choice and the two caps (R733); flood is FCODE 3 (R698). A cap that takes
FCODE below FMIN is an override of loop 3 with its cause (R730). -/
def fcodeUpdate (cause : Nat) (s : State) : State :=
  let new := min s.brk.loopF (min s.brk.capI s.brk.capT)
  let capped := decide (min s.brk.capI s.brk.capT < s.brk.loopF)
  let s1 := if new = fcode s then s
    else coveTargets (setF F.BRK_PSSTAT.STATE 0 (if getF s F.BRK_PSSTAT.STATE = 2 then 2 else if new = 3 then 0 else 1)
      (setF F.BRK_PSSTAT.FCODE 0 new s))
  overrideSet 3 0 cause (capped && decide (new < getF s F.BRK_AVFSENV.FMIN)) s1

/-- AVFS_WINDOW (R733-R735): the share in percent of the mesh injection slots that were used. -/
def avfsWindow (pct : Nat) (s : State) : State :=
  let lo := getF s F.BRK_AVFSENV.FMIN
  let hi := getF s F.BRK_AVFSENV.FMAX
  let f := s.brk.loopF
  let set := fun (v : Nat) (u : State) => fcodeUpdate 0 (clampEnd 3 0 { u with brk := { u.brk with loopF := v } })
  let capped := decide (min s.brk.capI s.brk.capT < f)
  if lo = hi then set lo s
  else if pct < 25 then
    if lo < f then set (f - 1) s else if capped then s else clampBegin 3 0 s
  else if 60 < pct then
    if f < hi then set (f + 1) s else if capped then s else clampBegin 3 0 s
  else clampEnd 3 0 s

def execAvfsWindow (pct : Fin 101) (s : State) : Result := onClock s (avfsWindow pct)

/-- AVFS_VOLTAGE_STEP (R690-R692, R736): in the coves of `low` some monitor shows less than MARGIN_PS; in those of `spare`
every monitor would still show it 5 mV lower. A target rises only when its rail confirms what it needs. -/
def avfsVoltageStep (low spare : BitVec 16) (s : State) : State :=
  let step := fun (u : State) (c : Nat) =>
    let v := coveMv u c
    let h := c / 8
    if coveState u c = 2 then u
    else if bitAt low c then
      let need := max 950 (min 1150 ((v + 5 + 200 + 4) / 5 * 5))
      if 900 ≤ v ∨ flag u F.BRK_RAILSTAT.AVSFAIL h = true then u
      else if getF u F.BRK_RAILSTAT.MV h < need then { u with out := u.out ++ [.avsTarget h need] }
      else setF F.BRK_COVESTAT.MV c (v + 5) u
    else if bitAt spare c && decide (550 < v) then setF F.BRK_COVESTAT.MV c (v - 5) u
    else u
  railsFollow s ((List.range 16).foldl step s)

def execAvfsVoltageStep (low spare : BitVec 16) (s : State) : Result := onClock s (avfsVoltageStep low spare)

/-- AVS_TRANSACTION_DONE (R691): a transaction with a rail ends: its Read Voltage, or no answer. -/
def avsDone (k : Nat) (mv : Option Nat) (s : State) : State :=
  match mv with
  | some v => setF F.BRK_RAILSTAT.AVSFAIL k 0 (setF F.BRK_RAILSTAT.MV k v { s with brk := { s.brk with avsMiss := mapDel s.brk.avsMiss k } })
  | none =>
    let n := mapGet s.brk.avsMiss k 0 + 1
    let s1 := { s with brk := { s.brk with avsMiss := mapSet s.brk.avsMiss k 0 (min n 3) } }
    if n = 3 then post { code := Ev.BRK_AVS, inst := k } (setF F.BRK_RAILSTAT.AVSFAIL k 1 s1) else s1

def execAvsTransactionDone (k : Fin 4) (mv : Option (BitVec 16)) (s : State) : Result :=
  .next (avsDone k (mv.map (fun v => v.toNat)) s)

/-- PLL_LOCK_LOSS (R697): 0 and 1 the frame PLLs of South and North, 2 and 3 the interface PLLs. -/
def execPllLockLoss (n : Fin 4) (s : State) : Result :=
  .next (onlyIf (1 ≤ phase s && phase s ≤ 5) (fatal { code := Ev.BRK_PLL, inst := n }) s)

/-! ### Cove gating (R706, R707, R675) -/

/-- A router of the cove holds a flit. -/
def coveFlits (s : State) (c : Nat) : Bool :=
  s.msh.bufs.any (fun e => coveOf (e.1 / 56) == c && !e.2.isEmpty) || s.msh.eject.any (fun e => coveOf (e.1 / 4) == c && !e.2.isEmpty)

/-- A core of the cove runs or queues a kernel. -/
def coveCores (s : State) (c : Nat) : Bool :=
  s.bead.cores.any (fun e => coveOf (e.1 / 2) == c && e.2.job.isSome)
    || s.bead.pend.any (fun e => coveOf (e.1 / 2) == c && !e.2.isEmpty)

/-- A cove is idle (R706). -/
def coveIdle (s : State) (c : Nat) : Bool :=
  (getF s F.BRK_COVECTL.GATE_EN).testBit c && !(getF s F.QOS_WAKEHOLD.HOLD).testBit c && !coveFlits s c && !coveCores s c
    && mapGet s.reef.burst c 0 == 0

/-- A cove stops: its clock stands, its regulator is at retention (R692, R707). -/
def gateCove (c : Nat) (s : State) : State :=
  setReg .MSH_COVEAWAKE 0 (putBit (getReg s .MSH_COVEAWAKE 0) c false)
    (setF F.BRK_COVESTAT.STATE c 2 (setF F.BRK_COVESTAT.MV c 500 s))

/-- COVE_GATE (R707): the cove has been idle for IDLE_US. -/
def execCoveGate (c : CoveId) (s : State) : Result :=
  onClock s (onlyIf (coveState s c == 0 && coveIdle s c) (fun u => railsFollow u (gateCove c u)))

/-- A gated cove starts to wake: its regulator is raised (R707). -/
def wakeCove (c : Nat) (s : State) : State :=
  if coveState s c = 2 then railsFollow s (coveTarget c (setF F.BRK_COVESTAT.STATE c 3 s)) else s

/-- What asks a gated cove to wake: a wake request, an event of slack exit, a launch, a scrub burst or its wake-hold (R707). In slack only a burst
does (R701, R702). -/
def wakeAsked (s : State) (c : Nat) : Bool :=
  s.brk.burstReq.getLsbD c || (getF s F.BRK_PSSTAT.STATE != 2
    && (s.brk.wakeReq.getLsbD c || s.brk.exitReq.getLsbD c || coveCores s c || (getF s F.QOS_WAKEHOLD.HOLD).testBit c))

/-- COVE_WAKE_REQUEST (R707). -/
def execCoveWakeRequest (c : CoveId) (s : State) : Result :=
  .next (onlyIf (1 ≤ phase s && phase s ≤ 5 && wakeAsked s c) (wakeCove c) s)

/-- COVE_AWAKE (R114, R115, R707): the cove's clock runs, and flits that waited at its adjacency ports go in; MSH_WAKECNT counts
the wakes that flits caused. -/
def coveWoken (c : Nat) (s : State) : State :=
  let s1 := setReg .MSH_COVEAWAKE 0 (putBit (getReg s .MSH_COVEAWAKE 0) c true) (setF F.BRK_COVESTAT.STATE c 0 s)
  let s2 := if s.brk.wakeReq.getLsbD c then bump F.MSH_WAKECNT.COUNT c s1 else s1
  adjMove { s2 with brk := { s2.brk with
    wakeReq := putBit s2.brk.wakeReq c false
    exitReq := putBit s2.brk.exitReq c false } }

def execCoveAwake (c : CoveId) (s : State) : Result :=
  .next (onlyIf (1 ≤ phase s && phase s ≤ 5 && coveState s c == 3) (coveWoken c) s)

/-- Wakes every gated cove that software holds (R675, R676). -/
def wakeHeld (s : State) : State :=
  (List.range 16).foldl (fun u c => if (getF u F.QOS_WAKEHOLD.HOLD).testBit c then wakeCove c u else u) s

/-- QOS_WAKEHOLD_WRITE (R675): in slack the coves wake on its end (R676). -/
def execQosWakeholdWrite (hold : BitVec 16) (s : State) : Result :=
  .next (onlyIf (barOpen s) (fun u =>
    let u1 := setF F.QOS_WAKEHOLD.HOLD 0 hold.toNat u
    if getF u1 F.BRK_PSSTAT.STATE = 2 then u1 else wakeHeld u1) s)

/-! ### Slack (R698-R703) -/

/-- No engine holds work in flight, no queue has a dispatchable command, no request is outstanding, and nothing waits for
service (R699). -/
def fullyIdle (s : State) : Bool :=
  s.tq.queues.all (fun (e : Nat × TQueue) => e.2.batches.isEmpty && e.2.fetch.isNone && e.2.tails.isEmpty)
    && s.msh.outst.isEmpty && s.msh.bufs.isEmpty && s.msh.eject.isEmpty && s.msh.inbox.isEmpty && s.msh.adjHeld.isEmpty
    && (List.range 16).all (fun c => !coveCores s c) && s.mem.queue.isEmpty && s.xlt.waits.isEmpty && s.tq.reads.isEmpty
    && s.twy.rx.isEmpty && s.twy.waiting.isEmpty && s.twy.links.all (fun (e : Nat × TwyLink) => e.2.txq.isEmpty)
    && s.shl.ports.all (fun (e : Nat × ShlPort) => e.2.rx.isEmpty && e.2.txq.isEmpty && e.2.open_.isEmpty)
    && s.pci.held.isEmpty && s.qos.host.isEmpty

/-- SLACK_ENTRY (R211, R699, R700): controllers enter self-refresh, every cove gates, the frame clock stops. -/
def slackEntry (s : State) : State :=
  let s2 := (List.range 16).foldl (fun u c => gateCove c u) (selfRefreshOn s)
  railsFollow s (setF F.BRK_PSSTAT.STATE 0 2 s2)

def execSlackEntry (s : State) : Result :=
  .next (onlyIf (phase s == 3 && frameRuns s && flag s F.BRK_PSCTL.SLACK_EN && fullyIdle s) slackEntry s)

/-- The die leaves slack (R202, R676, R702): the frame clock starts at the FCODE of the entry, the packages leave self-refresh;
the coves that the event needs and those that are held wake. -/
def slackLeave (s : State) : State :=
  if getF s F.BRK_PSSTAT.STATE ≠ 2 then s
  else
    let s1 := setF F.BRK_PSSTAT.STATE 0 (if fcode s = 3 then 0 else 1) (slackRetrain s)
    wakeHeld ((List.range 16).foldl (fun u c => if wakeAsked u c then wakeCove c u else u) s1)

/-- SLACK_EXIT (R702): `coves` are those that the event needs. -/
def execSlackExit (coves : BitVec 16) (s : State) : Result :=
  .next (onlyIf (phase s == 3 && getF s F.BRK_PSSTAT.STATE == 2) (fun u =>
    slackLeave { u with brk := { u.brk with exitReq := u.brk.exitReq ||| coves } }) s)

/-! ### Scrub bursts (R156) -/

/-- SCRUB_BURST_END (R156, R707): the burst has scrubbed its whole cove, which may gate again; in slack it does so at once. -/
def scrubBurstEnd (c : Nat) (s : State) : State :=
  if mapGet s.reef.burst c 0 = 1 then
    let s1 := burstDone c s
    if getF s F.BRK_PSSTAT.STATE = 2 then railsFollow s1 (gateCove c s1) else s1
  else s

def execScrubBurstEnd (c : CoveId) (s : State) : Result := .next (scrubBurstEnd c s)

/-! ### Droop and undervoltage (R708-R711) -/

/-- The coves that a comparator throttles: its own, or those of its half. -/
def tripCoves (src : Nat) : List Nat := if src < 16 then [src] else halfCoves (src - 16)

/-- DRP of every cove, and DROOP: an issue limit is in force while a comparator that throttles the cove is at work. -/
def droopSync (s : State) : State :=
  let s1 := (List.range 16).foldl (fun u c =>
    setF F.BRK_COVESTAT.DRP c (boolNat (s.brk.trips.any (fun (e : Nat × Bool) => (tripCoves e.1).contains c))) u) s
  setF F.BRK_PSSTAT.DROOP 0 (boolNat (!s.brk.trips.isEmpty)) s1

/-- DROOP_TRIP (R709): comparator 0-15 of a cove, 16 of VIN_S, 17 of VIN_N. -/
def droopTrip (src : Nat) (s : State) : State :=
  let s1 := (tripCoves src).foldl (fun u c => bump F.BRK_DROOPCNT.COUNT c u) s
  droopSync { s1 with brk := { s1.brk with trips := mapIns s1.brk.trips src false } }

def execDroopTrip (src : Fin 18) (s : State) : Result := onClock s (droopTrip src)

/-- DROOP_RELEASE (R709): the hold of tDRH begins. -/
def execDroopRelease (src : Fin 18) (s : State) : Result :=
  onClock s (onlyIf ((mapFind s.brk.trips src).isSome) (fun u =>
    { u with brk := { u.brk with trips := mapIns u.brk.trips src true } }))

/-- DROOP_HOLD_END (R709). -/
def execDroopHoldEnd (src : Fin 18) (s : State) : Result :=
  onClock s (onlyIf (mapFind s.brk.trips src == some true) (fun u =>
    droopSync { u with brk := { u.brk with trips := mapDel u.brk.trips src } }))

/-- UNDERVOLTAGE (R711). -/
def execUndervoltage (c : CoveId) (s : State) : Result :=
  .next (onlyIf (1 ≤ phase s && phase s ≤ 5) (fatal { code := Ev.BRK_UV, inst := c }) s)

/-! ### Current (R712-R718) -/

/-- RAIL_LIMIT_STEP (R712): the 1 ms mean of rail k in mA. Above the limit, or with OVER in the sensor's sample, the cap falls
one code below FCODE as the episode begins, and one more at each step; `calm` tells that the mean has stayed below 95 % of the
limit for 1 ms, which lifts it by one. -/
def railStep (k mean : Nat) (calm : Bool) (s : State) : State :=
  let limit := getF s F.BRK_RAILLIM.AMPS k * 1000
  let isOver := decide (limit < mean) || bitAt (getReg s .BRK_ISAMP (16 + k)) 16
  let inEp := s.brk.railOver != 0
  if isOver then
    let cap := (if inEp then min s.brk.capI (fcode s) else fcode s) - 1
    let s1 := { s with brk := { s.brk with capI := cap, railOver := putBit s.brk.railOver k true } }
    let s2 := setF F.BRK_PSSTAT.LIMIT 0 1 s1
    let s3 := if inEp then s2 else post { code := Ev.BRK_RAILLIM, inst := k, d0 := mean } (bump F.BRK_THRCNT.COUNT 0 s2)
    fcodeUpdate Ev.BRK_RAILLIM s3
  else if inEp && calm && decide (mean * 100 < limit * 95) then
    let left := putBit s.brk.railOver k false
    if left != 0 then { s with brk := { s.brk with railOver := left } }
    else
      let cap := min 3 (s.brk.capI + 1)
      let s1 := { s with brk := { s.brk with capI := cap, railOver := if cap = 3 then 0 else putBit 0 k true } }
      fcodeUpdate Ev.BRK_RAILLIM (if cap = 3 then setF F.BRK_PSSTAT.LIMIT 0 0 s1 else s1)
  else s

def execRailLimitStep (k : Fin 4) (mean : BitVec 20) (calm : Bool) (s : State) : Result :=
  .next (onlyIf (1 ≤ phase s && phase s ≤ 5) (railStep k mean.toNat calm) s)

/-- The range and windows of a sensor after a sample (R714, R715). -/
def senseNext (x : CurSense) (lo hi : Nat) : CurSense :=
  let y := { x with seq := x.seq + 1 }
  if 0 < x.dual then
    if x.dual = 1 then { y with dual := 0, high := !x.high, hold := 4, run := 0 } else { y with dual := x.dual - 1 }
  else
    let run := if x.high && decide (hi ≤ 1228) then x.run + 1 else 0
    if 0 < x.hold then { y with hold := x.hold - 1, run := run }
    else if !x.high && decide (15019 ≤ lo) then { y with dual := 4, run := 0 }
    else if x.high && decide (16 ≤ run) then { y with dual := 4, run := 0 }
    else { y with run := run }

/-- CURRENT_SAMPLE (R713-R718): the conversions of sensor j in the low and the high range, and the rail voltage in mV of the
same microsecond. -/
def currentSample (j lo hi mv : Nat) (s : State) : State :=
  let x : CurSense := mapGet s.brk.isens j {}
  let dual := decide (0 < x.dual)
  let hasLow := dual || !x.high
  let hasHigh := dual || x.high
  let useLow := hasLow && (lo != 16383 || !hasHigh)
  let code := if useLow then lo else hi
  let isOver := !useLow && hi == 16383
  let word := code % 16384 + boolNat (!useLow) * 2 ^ 14 + boolNat dual * 2 ^ 15 + boolNat isOver * 2 ^ 16
    + x.seq % 2 ^ 15 * 2 ^ 17
  let e := mapGet s.brk.energyPart j 0 + code * (if useLow then 48 else 480) * mv
  let s1 := setReg .BRK_ISAMP j (BitVec.ofNat 32 word)
    { s with brk := { s.brk with
        isens := mapSet s.brk.isens j {} (senseNext x lo hi)
        energyPart := mapSet s.brk.energyPart j 0 (e % 16384000) } }
  add64 .BRK_ENERGY_LO .BRK_ENERGY_HI j (e / 16384000) s1

def execCurrentSample (j : Fin 21) (lo hi : BitVec 14) (mv : BitVec 11) (s : State) : Result :=
  .next (currentSample j lo.toNat hi.toNat mv.toNat s)

/-! ### Temperature (R719-R723) -/

/-- The hottest working sensor and its number. -/
def hottestSensor (s : State) : Option (Int × Nat) :=
  ((List.range 64).filter (fun t => mapGet s.brk.tempSeen t false && !sensorFail s t)).foldl (fun b t =>
    match b with
    | none => some (sensorQ s t, t)
    | some (q, _) => if q < sensorQ s t then some (sensorQ s t, t) else b) none

/-- The throttle point in quarter degrees. -/
def throttleQ (s : State) : Int := (getF s F.BRK_THERM.THROTTLE_C : Int) * 4

/-- The reading that R720 acts on: a cove without a working sensor counts as at THROTTLE_C (R722). -/
def dieTemp (s : State) : Option Int :=
  let dead := (List.range 16).any (fun c => (List.range 4).all (fun k => sensorFail s (4 * c + k)))
  match hottestSensor s with
  | some (q, _) => some (if dead then max q (throttleQ s) else q)
  | none => if dead then some (throttleQ s) else none

/-- The die is at or above the throttle point. -/
def dieHot (s : State) : Bool := match dieTemp s with | some q => decide (throttleQ s ≤ q) | none => false

/-- Starts a throttle episode, or does nothing (R720). -/
def throttleBegin (s : State) : State :=
  if !dieHot s || flag s F.BRK_PSSTAT.THROTTLE then s
  else
    let s1 := { s with brk := { s.brk with capT := fcode s - 1 } }
    let t := match hottestSensor s with | some (_, t) => t | none => 0
    fcodeUpdate Ev.BRK_THROTTLE (post { code := Ev.BRK_THROTTLE, inst := t }
      (bump F.BRK_THRCNT.COUNT 0 (setF F.BRK_PSSTAT.THROTTLE 0 1 s1)))

/-- TEMP_SAMPLE (R146, R150, R719-R722): sensor t reports in quarter degrees, or fails its self-check. -/
def tempSample (t : Nat) (q : BitVec 12) (fail : Bool) (s : State) : State :=
  let c := t / 4
  let was := sensorFail s t
  let run := if !fail && decide (460 ≤ q.toInt) then mapGet s.brk.hotRun t 0 + 1 else 0
  let s1 := { s with brk := { s.brk with
      tempSeen := if fail then s.brk.tempSeen else mapIns s.brk.tempSeen t true
      hotRun := mapSet s.brk.hotRun t 0 (min run 2) } }
  let s2 := setF F.BRK_TEMP.FAIL t (boolNat fail) (if fail then s1 else setF F.BRK_TEMP.TEMP t q.toNat s1)
  let s3 := setF F.RFB_REFSTAT.SENSFAIL c (boolNat ((List.range 4).any (fun k => sensorFail s2 (4 * c + k)))) s2
  let s4 := if fail && !was then post { code := Ev.RFB_SENSOR, inst := t } s3 else s3
  let s5 := match hottestSensor s4 with
    | some (h, i) => setF F.BRK_THERM.HOTIDX 0 i (setF F.BRK_THERM.HOTTEST 0 (h / 4).toNat s4)
    | none => s4
  throttleBegin (refreshUpdate c s5)

def execTempSample (t : Fin 64) (q : BitVec 12) (fail : Bool) (s : State) : Result :=
  .next (onlyIf (phase s != 0) (tempSample t q fail) s)

/-- THROTTLE_STEP (R720). -/
def execThrottleStep (s : State) : Result :=
  .next (onlyIf (flag s F.BRK_PSSTAT.THROTTLE && dieHot s) (fun u =>
    fcodeUpdate Ev.BRK_THROTTLE { u with brk := { u.brk with capT := min u.brk.capT (fcode u) - 1 } }) s)

/-- THROTTLE_RELEASE_STEP (R721): 1 ms below THROTTLE_C - 3 °C. -/
def throttleRelease (s : State) : State :=
  let cool := match dieTemp s with | some q => decide (q < throttleQ s - 12) | none => true
  if flag s F.BRK_PSSTAT.THROTTLE && cool then
    let cap := min 3 (s.brk.capT + 1)
    let s1 := { s with brk := { s.brk with capT := cap } }
    fcodeUpdate Ev.BRK_THROTTLE (if cap = 3 then setF F.BRK_PSSTAT.THROTTLE 0 0 s1 else s1)
  else s

def execThrottleReleaseStep (s : State) : Result := .next (throttleRelease s)

/-- THERMAL_TRIP (R723): packages in self-refresh, THERMTRIP_N asserted, the die stops as a failed die. -/
def thermalTrip (t : Nat) (s : State) : State :=
  fatal { code := Ev.BRK_TRIP, inst := t }
    (selfRefreshOn { s with brk := { s.brk with thermTrip := true } })

def execThermalTrip (t : Fin 64) (s : State) : Result :=
  .next (onlyIf (phase s != 0 && phase s != 6 && mapGet s.brk.hotRun t 0 == 2) (thermalTrip t) s)

/-! ### Compute-die power (R724, R725) -/

/-- TDP of the compute die on a port: bytes 16-17 of its capability block (R535). -/
def cdTdp (s : State) (p : Nat) : Nat := bitsAt (getReg s .SHL_CAP (8 * p + 4)) 0 16

/-- The limit of a port (R724). -/
def cdLimitOf (s : State) (p : Nat) : Nat :=
  let act := (List.range 8).filter (fun k => portState s k == 3)
  let total := (act.map (cdTdp s)).sum
  let watts := getF s F.BRK_ASMLIM.WATTS
  if portState s p ≠ 3 then 0
  else if 190 + total ≤ watts then cdTdp s p
  else (watts - 190) * cdTdp s p / total

/-- CD_LIMIT_UPDATE (R555, R724): each changed limit is shown, and sent to an ACTIVE port. -/
def cdLimitUpdate (s : State) : State :=
  (List.range 8).foldl (fun u p =>
    let w := cdLimitOf s p
    if getF u F.BRK_CDLIM.WATTS p = w then u
    else
      let u1 := setF F.BRK_CDLIM.WATTS p w u
      if portState s p = 3 then { u1 with out := u1.out ++ [.cdLimit p w] } else u1) s

def execCdLimitUpdate (s : State) : Result := onClock s cdLimitUpdate

/-- The power of a compute die in tenths of a mW x mV: by telemetry, or its TDP while telemetry is missing or not in use
(R535, R554): in units of 10 µW. -/
def cdPower (s : State) (p : Nat) : Nat :=
  if flag s F.SHL_PSTAT.TELEM p && !(portAt s p).missed then
    getF s F.SHL_TELEMA.VOUT p * getF s F.SHL_TELEMB.IOUT p
  else cdTdp s p * 100000

/-- CD_POWER_WINDOW (R725): 10 ms have passed with the port's power above 105 % of its limit, or it has fallen back. -/
def cdWindow (p : Nat) (s : State) : State :=
  let isOver := portState s p == 3 && decide (getF s F.BRK_CDLIM.WATTS p * 105000 < cdPower s p)
  let s1 := { s with brk := { s.brk with cdOver := putBit s.brk.cdOver p isOver } }
  if isOver && !s.brk.cdOver.getLsbD p then post { code := Ev.BRK_CDPWR, inst := p, d0 := cdPower s p / 100000 } s1 else s1

def execCdPowerWindow (p : PortId) (s : State) : Result := onClock s (cdWindow p)

/-- BRK_CNTCLR (R742). -/
def execBrkCntclr (s : State) : Result :=
  .next (onlyIf (barOpen s) (clearRegs [.BRK_OVERRIDES, .BRK_THRCNT, .BRK_CLAMPDUR, .BRK_DROOPCNT]) s)

/-! ### Clamp durations (R609, R665, R728, R876) -/

/-- The milliseconds of the longest present clamp of a loop, over some instances. -/
def clampMs (s : State) (loop : Nat) (p : Nat → Bool) : Option Nat :=
  (s.brk.clamps.filter (fun c => c.loop == loop && p c.inst)).foldl (fun b c =>
    let m := min (msBetween c.start s.time) (2 ^ 32 - 1)
    some (match b with | none => m | some n => max n m)) none

/-- POLICY_CLAMP's interrupt: raised while its EVT_PEND bit reads 0 (R876). -/
def raisePend (clamp : Bool) (s : State) : State :=
  let (b, v) := if clamp then (F.EVT_PEND.CLAMP, F.EVT_PVEC.CLAMP) else (F.EVT_PEND.GMISS, F.EVT_PVEC.GMISS)
  if flag s b then s else raiseVec (getF s v) (setF b 0 1 s)

/-- The interrupt of a clamp of this loop is enabled, and its IRQ_MS. -/
def clampIrq (s : State) (loop inst : Nat) : Bool × Nat :=
  match loop with
  | 1 => (flag s F.TWY_LINKCTL.CLAMP_IRQ inst, getF s F.TWY_CLAMP.IRQ_MS inst)
  | 5 => (flag s F.QOS_CLAMPIRQ.EN, getF s F.QOS_CLAMPIRQ.IRQ_MS)
  | _ => (flag s F.BRK_CLAMPIRQ.EN, getF s F.BRK_CLAMPIRQ.IRQ_MS)

/-- CLAMP_DURATION_IRQ (R609, R665, R728): a clamp has lasted its IRQ_MS; once for each clamp. -/
def clampDuration (loop inst : Nat) (s : State) : State :=
  match clampOf s loop inst with
  | none => s
  | some c =>
    if c.raised || !(clampIrq s loop inst).1 then s
    else
      raisePend true { s with brk := { s.brk with
        clamps := s.brk.clamps.map (fun k => if k = c then { k with raised := true } else k) } }

def execClampDurationIrq (loop : Fin 7) (inst : Fin 48) (s : State) : Result := .next (clampDuration loop inst s)

end Sys2Proof.Machine
end

