-- ==== Sys2Proof/Machine/Hash.lean ====
section
/-! DEFINITION. SHA-256 (FIPS 180-4) and HMAC-SHA-256 (RFC 2104), which the spec names for record keys and reckoning records
(R447, R755). -/

namespace Sys2Proof.Machine

/-- The whole part of the e-th root of n, found from its top bit down: `k` bits remain, `r` is what has been found. -/
def rootBelow (e n : Nat) : Nat → Nat → Nat
  | 0, r => r
  | k + 1, r => rootBelow e n k (if (r + 2 ^ k) ^ e ≤ n then r + 2 ^ k else r)

/-- The first 32 fractional bits of the e-th root of n, which FIPS 180-4 takes for its constants. -/
def rootFrac (e n : Nat) : Nat := rootBelow e (n * 2 ^ (32 * e)) 40 0 % 2 ^ 32

/-- The first `n` primes; 311 is the 64th. -/
def primesTo (n : Nat) : List Nat :=
  ((List.range 312).filter (fun p => decide (2 ≤ p) && (List.range p).all (fun d => decide (d < 2) || p % d != 0))).take n

/-- The round constants: from the cube roots of the first 64 primes (FIPS 180-4). -/
def shaK : List Nat := (primesTo 64).map (rootFrac 3)

/-- The initial hash value: from the square roots of the first eight primes (FIPS 180-4). -/
def shaInit : List (BitVec 32) := (primesTo 8).map (fun p => BitVec.ofNat 32 (rootFrac 2 p))

/-- One round on the eight working words. -/
def shaRound (w : List (BitVec 32)) (kt : Nat × BitVec 32) : List (BitVec 32) :=
  match w with
  | [a, b, c, d, e, f, g, h] =>
    let s1 := e.rotateRight 6 ^^^ e.rotateRight 11 ^^^ e.rotateRight 25
    let t1 := h + s1 + ((e &&& f) ^^^ (~~~e &&& g)) + BitVec.ofNat 32 kt.1 + kt.2
    let s0 := a.rotateRight 2 ^^^ a.rotateRight 13 ^^^ a.rotateRight 22
    let t2 := s0 + ((a &&& b) ^^^ (a &&& c) ^^^ (b &&& c))
    [t1 + t2, a, b, c, d + t1, e, f, g]
  | _ => w

/-- The message schedule: `n` further words, newest first. -/
def shaSched : Nat → List (BitVec 32) → List (BitVec 32)
  | 0, w => w
  | n + 1, w =>
    let at_ := fun k => w.getD (k - 1) 0
    let s0 := (at_ 15).rotateRight 7 ^^^ (at_ 15).rotateRight 18 ^^^ (at_ 15) >>> 3
    let s1 := (at_ 2).rotateRight 17 ^^^ (at_ 2).rotateRight 19 ^^^ (at_ 2) >>> 10
    shaSched n ((at_ 16 + s0 + at_ 7 + s1) :: w)

/-- The big-endian 32-bit words of a byte string. -/
def beWords : List Byte → List (BitVec 32)
  | a :: b :: c :: d :: rest =>
    BitVec.ofNat 32 (a.toNat * 2 ^ 24 + b.toNat * 2 ^ 16 + c.toNat * 2 ^ 8 + d.toNat) :: beWords rest
  | _ => []

/-- One block of sixteen words. -/
def shaBlock (h : List (BitVec 32)) (block : List (BitVec 32)) : List (BitVec 32) :=
  let w := (shaSched 48 block.reverse).reverse
  let out := (shaK.zip w).foldl shaRound h
  List.zipWith (fun x y => x + y) h out

/-- Blocks of sixteen words, one after another. -/
def shaBlocks : Nat → List (BitVec 32) → List (BitVec 32) → List (BitVec 32)
  | 0, h, _ => h
  | n + 1, h, w => shaBlocks n (shaBlock h (w.take 16)) (w.drop 16)

/-- SHA-256 of a byte string, as 32 bytes. -/
def sha256 (m : List Byte) : List Byte :=
  let zeros := (119 - m.length % 64) % 64
  let bits := 8 * m.length
  let p := m ++ [0x80] ++ List.replicate zeros 0 ++ (List.range 8).map (fun i => BitVec.ofNat 8 (bits / 2 ^ (56 - 8 * i)))
  (shaBlocks (p.length / 64) shaInit (beWords p)).flatMap
    (fun w => (List.range 4).map (fun i => w.extractLsb' (24 - 8 * i) 8))

/-- HMAC-SHA-256 under a key of at most 64 bytes. -/
def hmac256 (key m : List Byte) : List Byte :=
  let k := key ++ List.replicate (64 - key.length) 0
  sha256 (k.map (fun b => b ^^^ 0x5C) ++ sha256 (k.map (fun b => b ^^^ 0x36) ++ m))

end Sys2Proof.Machine
end

