-- ==== Sys2Proof/Machine/Reckon.lean ====
section
/-! DEFINITION. RECKON (R324, R325, R381, R423-R454): dispatch with its seed, the exact, bounded and sampled checks, the
verdict and the reckoning record. -/

namespace Sys2Proof.Machine

/-! ### Elements (R423-R425) -/

/-- The element type under a format. -/
def fmtEt (f : Nat) : Nat := match f with | 0x10 => 0 | 0x11 => 3 | 0x12 => 4 | _ => f

/-- Element n of an array in sectors. -/
def rawElem (f : Nat) (ds : List Sector) (n : Nat) : Nat :=
  let w := fmtBytes f
  secField (ds.getD (n * w / 64) 0) (n * w % 64) w

/-- Scale byte n: a signed exponent; none for 0x80. -/
def scaleByte (ds : List Sector) (n : Nat) : Option Int :=
  let b := secByte (ds.getD (n / 64) 0) (n % 64)
  if b = 0x80 then none else some b.toInt

/-- The operands of a RECKON as read: sectors by role. -/
structure RkData where
  a : List Sector := []
  b : List Sector := []
  c : List Sector := []
  sa : List Sector := []
  sb : List Sector := []
  sc : List Sector := []
  deriving DecidableEq, Repr

/-- The element (i, k) of A, (k, j) of B or (i, j) of C: its raw bits and its block exponent (0 without scales). -/
def elemA (c : Cmd) (d : RkData) (i k : Nat) : Nat × Option Int :=
  (rawElem (cFmtA c) d.a (if cTransA c then k * cM c + i else i * cK c + k),
   if fmtBlock (cFmtA c) then scaleByte d.sa (i * ceilDiv (cK c) 32 + k / 32) else some 0)

def elemB (c : Cmd) (d : RkData) (k j : Nat) : Nat × Option Int :=
  (rawElem (cFmtB c) d.b (if cTransB c then j * cK c + k else k * cN c + j),
   if fmtBlock (cFmtB c) then scaleByte d.sb (j * ceilDiv (cK c) 32 + k / 32) else some 0)

def elemC (c : Cmd) (d : RkData) (i j : Nat) : Nat × Option Int :=
  (rawElem (cFmtC c) d.c (i * cN c + j),
   if fmtBlock (cFmtC c) then scaleByte d.sc (i * ceilDiv (cN c) 32 + j / 32) else some 0)

/-- The value of an element times 2^160; none for a non-finite element or block (R439). -/
def elemReal (f : Nat) (x : Nat × Option Int) : Option Int :=
  match elemValue (fmtEt f) x.1, x.2 with
  | some v, some e => some (if e < 0 then v / 2 ^ (-e).toNat else v * 2 ^ e.toNat)
  | _, _ => none

/-- An integer or block-fixed element in the integers modulo 2^61 - 1 (R432, R433). -/
def elemField (f : Nat) (x : Nat × Option Int) : Nat :=
  let n := ((elemValue (fmtEt f) x.1).getD 0) / 2 ^ 160
  let e := (x.2.getD 0) % 61
  ((n % (p61 : Int)).toNat * 2 ^ e.toNat) % p61

/-! ### Random vectors (R429, R431) -/

/-- The generator's key: the seed in key bytes 0-15 (R429). -/
def seedKey (seed : BitVec 128) : BitVec 256 := seed.zeroExtend 256

/-- Word n of 64 bits of the generator stream. -/
def streamWord (seed : BitVec 128) (n : Nat) : Nat :=
  bitsAt (chachaBlock (seedKey seed) (BitVec.ofNat 32 (n / 8))) (64 * (n % 8)) 64

/-- `count` uniform elements modulo 2^61 - 1 from word `n` on, and the next word. -/
def fieldDraws (seed : BitVec 128) : Nat → Nat → Nat → List Nat → List Nat × Nat
  | 0, _, n, acc => (acc.reverse, n)
  | fuel + 1, count, n, acc =>
    if count = 0 then (acc.reverse, n)
    else
      let v := streamWord seed n % 2 ^ 61
      if v = p61 then fieldDraws seed fuel count (n + 1) acc else fieldDraws seed fuel (count - 1) (n + 1) (v :: acc)

/-- The vectors of the exact check, one after another (R431). -/
def fieldVectors (seed : BitVec 128) (len : Nat) : Nat → Nat → List (List Nat)
  | 0, _ => []
  | k + 1, n =>
    let (v, m) := fieldDraws seed (2 * len + 64) len n []
    v :: fieldVectors seed len k m

/-- Entry j of vector v of the bounded check: +1 for a 0 bit, least significant bit first (R431; log entry 72). -/
def signEntry (seed : BitVec 128) (len v j : Nat) : Int :=
  let n := v * len + j
  if (streamWord seed (n / 64)).testBit (n % 64) then -1 else 1

/-! ### The exact check (R432-R434) -/

/-- Rows of A for which a check fails. -/
def failingRows (m : Nat) (bad : Nat → Bool) : List Nat := (List.range m).filter bad

/-- The rows that fail for some vector (R432). -/
def exactFails (c : Cmd) (d : RkData) (seed : BitVec 128) (k : Nat) : List Nat :=
  let vs := fieldVectors seed (cN c) k 0
  let brs := vs.map (fun r => (List.range (cK c)).map (fun kk =>
    ((List.range (cN c)).map (fun j => elemField (cFmtB c) (elemB c d kk j) * r.getD j 0)).sum % p61))
  failingRows (cM c) (fun i => (vs.zip brs).any (fun (p : List Nat × List Nat) =>
    let cr := ((List.range (cN c)).map (fun j => elemField (cFmtC c) (elemC c d i j) * p.1.getD j 0)).sum % p61
    let abr := ((List.range (cK c)).map (fun kk => elemField (cFmtA c) (elemA c d i kk) * p.2.getD kk 0)).sum % p61
    cr != abr))

/-- The span of a row exceeds 26 for some row (R434). -/
def spanFlag (c : Cmd) (d : RkData) : Bool :=
  let kb := ceilDiv (cK c) 32
  (List.range (cM c)).any (fun i =>
    let prods := (List.range (cN c)).flatMap (fun j => (List.range kb).map (fun b =>
      (scaleByte d.sa (i * kb + b)).getD 0 + (scaleByte d.sb (j * kb + b)).getD 0))
    let outs := (List.range (ceilDiv (cN c) 32)).map (fun b => (scaleByte d.sc (i * ceilDiv (cN c) 32 + b)).getD 0)
    let all := prods ++ outs
    let hi := all.foldl (fun (a : Int) x => max a x) (all.headD 0)
    let lo := all.foldl (fun (a : Int) x => min a x) (all.headD 0)
    decide (26 < hi - lo))

/-! ### The bounded check (R437-R439) -/

/-- Unit roundoff and least subnormal of a C format, as negative powers of two (R437). -/
def unitRound (f : Nat) : Nat := match f with | 6 => 11 | 7 => 8 | _ => 24
def leastSub (f : Nat) : Nat := match f with | 6 => 24 | 7 => 133 | _ => 149

/-- A value times 2^160 rounded to fp32; none where it overflows (R438, R439). -/
def roundFp32 (v : Int) : Option Int := fpValue ⟨8, 23, true⟩ (toFp ⟨8, 23, true⟩ false (v * 2 ^ 160))

/-- The sum over a range of integers. -/
def intSum (n : Nat) (f : Nat → Int) : Int := (List.range n).foldl (fun a j => a + f j) 0

/-- The real value of an element, 0 where it has none. -/
def realOf (f : Nat) (x : Nat × Option Int) : Int := (elemReal f x).getD 0

/-- Some element or block of the operands is non-finite (R439). -/
def anyNonfinite (c : Cmd) (d : RkData) : Bool :=
  let bad := fun (f : Nat) (x : Nat × Option Int) => (elemReal f x).isNone
  (List.range (cM c)).any (fun i => (List.range (cK c)).any (fun k => bad (cFmtA c) (elemA c d i k)))
    || (List.range (cK c)).any (fun k => (List.range (cN c)).any (fun j => bad (cFmtB c) (elemB c d k j)))
    || (List.range (cM c)).any (fun i => (List.range (cN c)).any (fun j => bad (cFmtC c) (elemC c d i j)))

/-- T_i times 2^440, with every term of R437 exact: ε = 2^-ACCBITS, b = 2^BLKLOG2. -/
def tolerance (c : Cmd) (d : RkData) (params : BitVec 32) (i : Nat) : Int :=
  let acc := bitsAt params 10 6
  let b := 2 ^ bitsAt params 16 4
  let q := ceilDiv (cK c) b
  let sumC := intSum (cN c) (fun j => ((realOf (cFmtC c) (elemC c d i j)).natAbs : Int))
  let sumAS := intSum (cK c) (fun k => ((realOf (cFmtA c) (elemA c d i k)).natAbs : Int)
    * intSum (cN c) (fun j => ((realOf (cFmtB c) (elemB c d k j)).natAbs : Int)))
  let t : Int := sumC * 2 ^ (260 - unitRound (cFmtC c)) + (cN c : Int) * 2 ^ (420 - leastSub (cFmtC c))
    + sumAS * ((b + q + 1 : Int) * 2 ^ (100 - acc) + 2 ^ 77)
  t * (2 ^ 20 + 1)

/-- fl(B·r) for vector v; none where an element overflows fp32 (R438, R439). -/
def roundedBr (c : Cmd) (d : RkData) (seed : BitVec 128) (v : Nat) : Option (List Int) :=
  ((List.range (cK c)).map (fun k =>
    roundFp32 (intSum (cN c) (fun j => realOf (cFmtB c) (elemB c d k j) * signEntry seed (cN c) v j)))).foldr
      (fun x l => match x, l with | some a, some r => some (a :: r) | _, _ => none) (some [])

/-- The rows that fail the bounded check (R438); none where R439 makes the check impossible. -/
def boundedFails (c : Cmd) (d : RkData) (seed : BitVec 128) (params : BitVec 32) (k : Nat) : Option (List Nat) :=
  let brs := (List.range k).map (roundedBr c d seed)
  if anyNonfinite c d || brs.any (fun x => x.isNone) then none
  else
    some (failingRows (cM c) (fun i =>
      let t := tolerance c d params i
      (brs.zip (List.range k)).any (fun (p : Option (List Int) × Nat) =>
        let br := p.1.getD []
        let abr := intSum (cK c) (fun kk => realOf (cFmtA c) (elemA c d i kk) * br.getD kk 0)
        let cr := intSum (cN c) (fun j => realOf (cFmtC c) (elemC c d i j) * signEntry seed (cN c) p.2 j) * 2 ^ 160
        decide (t < ((cr - abr).natAbs : Int) * 2 ^ 120))))

/-! ### Sampled checking (R440-R443) -/

/-- An fp64 number: NaN, an infinity of a sign, or a value times 2^1074. -/
inductive F64 where
  | nan
  | inf (neg : Bool)
  | fin (v : Int)
  deriving DecidableEq, Repr

/-- Reads fp64 bits. -/
def f64Of (b : BitVec 64) : F64 :=
  let ex := bitsAt b 52 11
  let fr := bitsAt b 0 52
  let neg := bitAt b 63
  if ex = 2047 then (if fr = 0 then .inf neg else .nan)
  else
    let mag : Int := if ex = 0 then (fr : Int) else ((2 ^ 52 + fr : Nat) : Int) * 2 ^ (ex - 1)
    .fin (if neg then -mag else mag)

/-- An element as fp64 bits: exact for every format of R423 without scales. -/
def elemF64 (f raw : Nat) : BitVec 64 :=
  match elemValue f raw with
  | some v => toFp64 (v * 2 ^ 160)
  | none =>
    match fpOf f with
    | some t =>
      let sign := raw / 2 ^ (t.e + t.m) % 2
      if t.ieee && raw % 2 ^ t.m == 0 then BitVec.ofNat 64 (sign * 2 ^ 63 + 2047 * 2 ^ 52)
      else BitVec.ofNat 64 (0x7FF8000000000000)
    | none => 0

/-- The reference value of FUNC at an input in fp64 (R440, R442). -/
def refValue (func : Nat) (x : BitVec 64) : F64 :=
  match func with
  | 0 => f64Of x
  | 1 => match f64Of x with
    | .nan => f64Of (Config.refFunc 1 x)
    | .inf neg => if neg then .fin 0 else .inf false
    | .fin v => .fin (max v 0)
  | n => f64Of (Config.refFunc n x)

/-- The largest finite value of a C format and the spacing at a magnitude, both times 2^1074 (R442, R443). -/
def fmtMax (f : Nat) : Int :=
  match fpOf f with
  | some t =>
    let top := if t.ieee then (2 ^ t.e - 1) * 2 ^ t.m - 1 else 2 ^ (t.e + t.m) - 2
    ((fpValue t top).getD 0) * 2 ^ 914
  | none => ([127, 255, 32767, 2147483647].getD f 0 : Int) * 2 ^ 1074

def spacing (f : Nat) (mag : Nat) : Int :=
  match fpOf f with
  | none => 2 ^ 1074
  | some t =>
    let least : Int := 2 ^ (1074 + 1 - t.bias - t.m)
    let here : Int := 2 ^ (Nat.log2 mag - t.m)
    if mag = 0 then least else max least here

/-- The value nearest to v (times 2^1074) in a C format, ties to even. -/
def nearestIn (f : Nat) (v : Int) : Int :=
  match fpOf f with
  | some _ =>
    let sp := spacing f v.natAbs
    let n : Int := (rne v.natAbs sp.toNat : Nat)
    if v < 0 then -(n * sp) else n * sp
  | none =>
    let n : Int := (rne v.natAbs (2 ^ 1074) : Nat)
    if v < 0 then -(n * 2 ^ 1074) else n * 2 ^ 1074

/-- A sampled element passes (R442, R443). -/
def samplePasses (c : Cmd) (rawX rawY : Nat) : Bool :=
  let x := elemF64 (cFmtA c) rawX
  let y := f64Of (elemF64 (cFmtC c) rawY)
  let r := refValue (cFunc c) x
  let inFin := match f64Of x with | .fin _ => true | _ => false
  let special := fun (nan : Bool) (neg : Bool) =>
    if cFmtC c = 4 then y == .nan else if nan then y == .nan else y == .inf neg
  match r with
  | .nan => special true false
  | .inf neg => special false neg
  | .fin v =>
    if !inFin || decide (fmtMax (cFmtC c) < v) || decide (v < (if cFmtC c = 1 then 0 else -(fmtMax (cFmtC c))
        - (if cFmtC c < 4 then 2 ^ 1074 else 0))) then special false (decide (v < 0))
    else
      match y with
      | .fin w =>
        if cFunc c < 2 then w == nearestIn (cFmtC c) v
        else decide (((w - v).natAbs : Int) ≤ 2 * spacing (cFmtC c) v.natAbs)
      | _ => false

/-- The elements sampled: those whose 16-bit value of the stream is below FRAC; all with FRAC 0 (R441). -/
def sampled (c : Cmd) (seed : BitVec 128) : List Nat :=
  (List.range (cM c * cN c)).filter (fun i =>
    cFrac c == 0 || decide (streamWord seed (i / 4) / 2 ^ (16 * (i % 4)) % 2 ^ 16 < cFrac c))

/-! ### Dispatch (R324, R381, R429, R473, R497) -/

/-- The tiles that hold sectors of the operands, ascending (R381). -/
def reckonTiles (l : List Opnd) : List Nat :=
  let held := (l.flatMap (fun o => o.exts.flatMap (fun x =>
    (List.range (ceilDiv (x.addr % 2048 + 64 * x.sectors) 2048)).filterMap (fun g =>
      (reefPlace (paLocal x.addr / 2048 * 2048 + 2048 * g)).map (fun p => p.tile))))).eraseDups
  (List.range 1536).filter (fun t => held.contains t)

/-- A floating-point RECKON whose context claims an accuracy that a named port's compute die does not declare: one
SHL_CLASS (R536). -/
def classNote (q : Nat) (x : TQueue) (c : Cmd) (s : State) : State :=
  let r := (ctxAt s x.asid).reck
  let off := fun (p : Nat) =>
    let w := getF s F.SHL_CAP.WORD (8 * p + 2)
    (cPorts c).testBit p && (decide (w / 256 % 256 < bitsAt r 10 6) || bitsAt r 16 4 != w / 65536 % 256)
  if cKind c = 0 ∧ fmtClass (cFmtA c) (cFmtB c) (cFmtC c) = 3 ∧ (List.range 8).any off = true then
    post { code := Ev.SHL_CLASS, asid := x.asid, queue := some q, mark := x.mark, inst := x.eng } s
  else s

/-- A RECKON begins: its seed is drawn or taken from the journal, its device kernels go to their tiles. -/
def reckonBegin (e q : Nat) (x : TQueue) (b : Batch) (c : Cmd) (l : List Opnd) (s0 : State) : State :=
  let s := classNote q x c s0
  let i := newInst b l
  let (d, s1) := match b.disp i.dseq with
    | some d => (d, s)
    | none =>
      let (seed, t) := draw 128 s
      let d : DispRec := { dseq := i.dseq, seed := seed, params := (ctxAt s x.asid).reck, psn := 0, count := 0, die := 0,
                           epoch := 0, lsn := 0 }
      (d, jDispatch q b i.idx d t)
  let (placed, clamp, isOver) := placeAll s1 false ((reckonTiles l).map (fun t => (2 * t, 0, 0)))
  let (id, s2) := nextLaunch e (placeLoop e clamp isOver s1)
  let lau : Launch := { id := id, cores := placed.map (fun p => p.1), seed := d.seed }
  let i1 := { i with launch := some lau }
  sendLaunch q b i1 true lau (dispatch q b i1 s2)

/-- A RECKON is dispatched; one whose compute die has failed completes with TQ_COMPUTE (R557). -/
def reckonStart (e q : Nat) (x : TQueue) (b : Batch) (c : Cmd) (l : List Opnd) (s : State) : State :=
  if b.lost.contains b.seq.pos then failDispatch q b Status.TQ_COMPUTE s else reckonBegin e q x b c l s

def execTideReckon (e : Fin 8) (s : State) : Result := .next (engineStep 0x20 (32 + e) (reckonStart e) s)

/-! ### The verdict (R444-R446, R448) -/

/-- Reads the whole sectors of a role's operand: data, the first error, poison. -/
def reckonRead (x : TQueue) (c : Cmd) (i : Inst) (role : Nat) (s : State) : List Sector × Nat × Bool × State :=
  match i.opnd (16 + role) with
  | none => ([], 0, false, s)
  | some o =>
    (List.range (ceilDiv (roleBytes c role) 64)).foldl (fun (a : List Sector × Nat × Bool × State) k =>
      match extAt o.exts k with
      | none => a
      | some y =>
        match engRead y i.snap.mark x.eng x.asid a.2.2.2 with
        | (.ok (d, _, p), u) => (a.1 ++ [d], a.2.1, a.2.2.1 || p, u)
        | (.error st, u) => (a.1 ++ [0], (if a.2.1 = 0 then st else a.2.1), a.2.2.1, u)) ([], 0, false, s)

/-- The sectors that the check of a RECKON reads. -/
def reckonPlaces (b : Batch) (i : Inst) : List (Nat × Extent) :=
  let c := b.cmdOf i
  [if cKind c = 0 then 1 else 7, 2, if cKind c = 0 then 3 else 8, 4, 5, 6].flatMap (fun role =>
    match i.opnd (16 + role) with
    | none => []
    | some o => (List.range (ceilDiv (roleBytes c role) 64)).filterMap (fun k => (extAt o.exts k).map (fun y => (1, y))))

/-- The digest of sectors (R448). -/
def digestAll (point : Nat) (ds : List Sector) : Nat := ds.foldl (digestSector point) 0

/-- KVEC of a RECKON, or its context's default (R428, R453). -/
def kvecOf (c : Cmd) (params : BitVec 32) : Nat :=
  if cKind c ≠ 0 then 0
  else if cKvec c ≠ 0 then cKvec c
  else if fmtClass (cFmtA c) (cFmtB c) (cFmtC c) = 3 then bitsAt params 3 7 else bitsAt params 0 3

/-- What the check finds: UNCHECKED (none), or the failing rows or elements and how many were checked (R432-R443). -/
def reckonFails (c : Cmd) (d : RkData) (seed : BitVec 128) (params : BitVec 32) : Option (List Nat) × Nat :=
  if cKind c = 0 then
    let k := kvecOf c params
    let r := match fmtClass (cFmtA c) (cFmtB c) (cFmtC c) with
      | 3 => boundedFails c d seed params k
      | 2 => if anyNonfinite c d then none else some (exactFails c d seed k)
      | _ => some (exactFails c d seed k)
    (r, cM c)
  else
    let l := sampled c seed
    (some (l.filter (fun n => !samplePasses c (rawElem (cFmtA c) d.a n) (rawElem (cFmtC c) d.c n))), l.length)

/-- The verdict by the first row of R444 that applies, with its flags (R445), its counts and the status. With an operand that
could not be read, of which R444 says nothing, the check is incomplete and the status is the read's error (log entry 74). -/
def reckonVerdict (c : Cmd) (d : RkData) (r : DispRec) (point err st : Nat) (poison gap unmir : Bool) : Verdict × Nat :=
  let block := cKind c == 0 && fmtClass (cFmtA c) (cFmtB c) (cFmtC c) == 2
  let base := boolNat gap + 32 * boolNat unmir + 8 * boolNat (block && spanFlag c d)
  let mk := fun (v flags checked failed first : Nat) (status : Nat) =>
    (({ verdict := v, flags := base + flags, checked := min checked (2 ^ 32 - 1), failed := min failed (2 ^ 32 - 1)
        first := first % 2 ^ 32, digA := digestAll point (d.a ++ d.sa)
        digB := if cKind c = 0 then digestAll point (d.b ++ d.sb) else 0
        digC := digestAll point (d.c ++ d.sc), kvec := kvecOf c r.params } : Verdict), status)
  let (fails, checked) := reckonFails c d r.seed r.params
  let none_ := 2 ^ 32 - 1
  if poison ∨ st = Status.TQ_POISON then mk 3 2 checked 0 none_ Status.TQ_POISON
  else if err ≠ 0 then mk 3 16 checked 0 none_ err
  else if st ≠ 0 then mk 3 16 checked 0 none_ Status.TQ_KFAULT
  else
    match fails with
    | none => mk 3 4 checked 0 none_ Status.OK
    | some [] => mk 1 0 checked 0 none_ Status.OK
    | some (f :: rest) => mk 2 0 checked (rest.length + 1) f Status.TQ_RECKFAIL

/-- A port that the RECKON names negotiated without tally support (R445). -/
def coverageGap (s : State) (c : Cmd) : Bool :=
  (List.range 8).any (fun p => (cPorts c).testBit p && !flag s F.SHL_PSTAT.TALLY p)

/-- The device kernels of a launch stop. -/
def endLaunch (id : Nat) (s : State) : State :=
  s.bead.cores.foldl (fun u (e : Nat × Core) =>
    match e.2.job with
    | some j => if j.launch = id && !e.2.ended then endInstance e.1 u else u
    | none => u) s

/-- The counters and events of a verdict (R446). -/
def verdictNotes (q : Nat) (x : TQueue) (asn : Nat) (i : Inst) (v : Verdict) (st : Nat) (s : State) : State :=
  let ev : EvArgs := { code := Ev.TLY_UNCHECKED, asid := x.asid, queue := some q, mark := i.snap.mark, inst := x.eng,
                       d0 := st + i.idx * 2 ^ 16, d1 := asn }
  let s1 := if v.flags % 2 = 1 then bump F.TLY_GAP.COUNT 0 s else s
  match v.verdict with
  | 1 => bump F.TLY_PASS.COUNT 0 s1
  | 2 =>
    let s2 := set64 .TLY_LASTFAIL_LO .TLY_LASTFAIL_HI 0 asn (setF F.TLY_LASTFAILQ.QUEUE 0 q (bump F.TLY_FAIL.COUNT 0 s1))
    post { ev with code := Ev.TLY_FAIL } s2
  | _ => post ev (bump F.TLY_UNCHECKED.COUNT 0 s1)

/-- RECKON_CHECK_DONE (R444): every kernel of the launch has started and what it must check is done, or the launch has
ended in an exception; `held` are the cycles it waited for cores (R454 TLY_HOLD). -/
def reckonDone (q asn dseq held : Nat) (s : State) : State :=
  let x := queueAt s q
  match instOf s q asn dseq with
  | none => s
  | some (b, i) =>
    match i.launch, b.disp dseq with
    | some l, some r =>
      let waiting := s.bead.pend.any (fun (e : Nat × List KPend) => e.2.any (fun j => j.launch == l.id))
        || s.bead.wait.any (fun (e : Nat × List KPend) => e.2.any (fun j => j.launch == l.id))
        || s.bead.excs.any (fun y => y.job.launch == l.id)
      let ready := if l.st = 0 then !waiting && durable s r.lsn else !launchBusy s l.id
      if i.op ≠ 0x20 ∨ i.phase ≠ .run ∨ i.verdict.isSome then s
      else if l.again = true ∧ l.st = 0 then runAgain q b i l s
      else if !ready then s
      else whenReached x.eng (reckonPlaces b i) (fun s =>
        let c := b.cmdOf i
        let s0 := endLaunch l.id (add64 .TLY_HOLD_LO .TLY_HOLD_HI 0 held s)
        let (da, ea, pa, s1) := reckonRead x c i (if cKind c = 0 then 1 else 7) s0
        let (db, eb, pb, s2) := reckonRead x c i 2 s1
        let (dc, ec, pc, s3) := reckonRead x c i (if cKind c = 0 then 3 else 8) s2
        let (sa, ed, pd, s4) := reckonRead x c i 4 s3
        let (sb, ee, pe, s5) := reckonRead x c i 5 s4
        let (sc, ef, pf, s6) := reckonRead x c i 6 s5
        let err := ([i.xfer.err, ea, eb, ec, ed, ee, ef].find? (fun n => n != 0)).getD 0
        let d : RkData := { a := da, b := db, c := dc, sa := sa, sb := sb, sc := sc }
        let (v, st) := reckonVerdict c d r (ctxAt s6 x.asid).point err l.st (pa || pb || pc || pd || pe || pf)
          (coverageGap s6 c) b.unmir
        verdictNotes q x (b.first + i.idx) i v st (putInst q b.first { i with verdict := some v, result := some st } s6)) s
    | _, _ => s

def execReckonCheckDone (q : QueueId) (asn : BitVec 64) (dseq : BitVec 32) (held : BitVec 32) (s : State) : Result :=
  .next (onlyIf (frameRuns s) (reckonDone q asn.toNat dseq.toNat held.toNat) s)

/-! ### The record (R447-R450, R754, R755) -/

/-- The record key of a context in a root generation (R755). -/
def recordKey (s : State) (asid gen : Nat) : List Byte :=
  let msg := [0x72, 0x65, 0x63, 0x31].map (BitVec.ofNat 8) ++ [BitVec.ofNat 8 (ownDie s), BitVec.ofNat 8 asid,
    BitVec.ofNat 8 (asid / 256), BitVec.ofNat 8 (ctxAt s asid).binds]
  hmac256 (bytesOf (mapGet s.hld.roots gen 0) 32) msg

/-- The 128 bytes of a record for slot n of the queue's record ring (R343, R447). -/
def recordBits (s : State) (q : Nat) (x : TQueue) (b : Batch) (i : Inst) (v : Verdict) (seed : BitVec 128) (n : Nat) :
    BitVec 1024 :=
  let c := b.cmdOf i
  let head := packB
    [(0, 2, 1), (2, 1, v.verdict), (3, 1, v.flags + 128 * ringPhase n x.recSize), (4, 1, ownDie s), (5, 1, v.kvec),
     (6, 2, q), (8, 8, b.first + i.idx), (16, 4, cTag c), (20, 2, x.asid), (22, 1, byteField c 20 1), (23, 1, cFunc c),
     (24, 1, cFmtA c), (25, 1, cFmtB c), (26, 1, cFmtC c), (27, 1, cPorts c), (28, 2, cFrac c), (30, 1, s.hld.rootGen % 2),
     (32, 4, cM c), (36, 4, cN c), (40, 4, cK c), (44, 4, v.checked), (48, 4, v.failed), (52, 4, v.first),
     (56, 8, v.digA), (64, 8, v.digB), (72, 8, v.digC), (80, 16, seed.toNat)]
  let mac := hmac256 (recordKey s x.asid s.hld.rootGen) (byteSlice (BitVec.ofNat 1024 head) 0 96)
  BitVec.ofNat 1024 (head + bytesNat mac * 2 ^ 768)

/-- Writes the reckoning record of an instance to its slot (R447, R450, R639); the batch keeps it until its RETIRE entry (R37). -/
def writeRecord (q : Nat) (b : Batch) (i : Inst) (s : State) : State :=
  match i.verdict with
  | none => s
  | some v =>
    if i.slot = 0 then s
    else
      let x := queueAt s q
      let n := i.slot - 1
      let seed := ((b.disp i.dseq).map (fun d => d.seed)).getD 0
      let r : HostReq := .record (some q) (requester s x.asid) (BitVec.ofNat 64 (x.recBase + 128 * (n % x.recSize))) 128 (recordBits s q x b i v seed n)
      hostSend r (modBatch q b.first (fun c => { c with sent := c.sent ++ [r] }) s)

/-! ### Parameters (R453, R454) -/

/-- Reports a context command's result in TLY_CTXSTAT. -/
def tlyErr (e : Nat) (s : State) : State := setF F.TLY_CTXSTAT.ERR 0 e (setF F.TLY_CTXSTAT.BUSY 0 0 s)

/-- The value of TLY_CTXA has no reserved value (R454). -/
def ctxaOk (v : BitVec 32) : Bool :=
  decide (1 ≤ bitsAt v 0 3 ∧ bitsAt v 0 3 ≤ 4 ∧ 1 ≤ bitsAt v 3 7 ∧ bitsAt v 3 7 ≤ 64 ∧ 11 ≤ bitsAt v 10 6
    ∧ bitsAt v 10 6 ≤ 53 ∧ bitsAt v 16 4 ≤ 12)

/-- TLY_CTX_WRITE. -/
def tlyCtxWrite (asid : Nat) (s : State) : State :=
  let v := getReg s .TLY_CTXA 0
  if !(ctxAt s asid).bound then tlyErr 1 s
  else if !ctxaOk v then tlyErr 2 s
  else
    let c := ctxAt s asid
    tlyErr 0 { s with xlt := { s.xlt with ctxs := mapIns s.xlt.ctxs asid { c with reck := v } } }

def execTlyCtxWrite (asid : BitVec 16) (s : State) : Result := .next (onlyIf (barOpen s) (tlyCtxWrite asid.toNat) s)

/-- TLY_CTX_READ. -/
def tlyCtxRead (asid : Nat) (s : State) : State :=
  if !(ctxAt s asid).bound then tlyErr 1 s else tlyErr 0 (setReg .TLY_CTXA 0 (ctxAt s asid).reck s)

def execTlyCtxRead (asid : BitVec 16) (s : State) : Result := .next (onlyIf (barOpen s) (tlyCtxRead asid.toNat) s)

/-- TLY_CNTCLR (R454). -/
def execTlyCntclr (s : State) : Result :=
  .next (onlyIf (barOpen s) (clearRegs [.TLY_PASS, .TLY_FAIL, .TLY_UNCHECKED, .TLY_GAP, .TLY_DIGERR, .TLY_TALLYERR,
    .TLY_HOLD_LO, .TLY_HOLD_HI]) s)

end Sys2Proof.Machine
end

