-- ==== Sys2Proof/Machine/Commit.lean ====
section
/-! DEFINITION. The end of a command instance (R320, R325, R327, R341, R469-R476): its commit, and the application of what it
has staged. -/

namespace Sys2Proof.Machine

/-! ### COMMAND_COMMIT (R469) -/

/-- An instance commits with status OK, or completes with an error and no staged effect (R469, R476). -/
def commitOr (q first dseq st : Nat) (s : State) : State :=
  if st = Status.OK then stageInst q first dseq st s else dealAll (failInst q first dseq st true s)

/-- A RECKON commits with its verdict once a slot of the record ring is free; the slot is fixed (R325, R450). -/
def commitReckon (q : Nat) (b : Batch) (i : Inst) (st held : Nat) (s : State) : State :=
  let x := queueAt s q
  if x.recHead + x.recSize ≤ x.recTail then s
  else
    let s1 := add64 .TLY_HOLD_LO .TLY_HOLD_HI 0 held (setQueue q { x with recTail := x.recTail + 1 } s)
    stageInst q b.first i.dseq st (putInst q b.first { i with slot := x.recTail + 1 } s1)

/-- The digests of a PUT's sectors as read and as sent; `noise` is damage between them (log entry 60). -/
def putDigests (pt n : Nat) (i : Inst) (noise : Option (Nat × BitVec 512)) : Mv :=
  (List.range n).foldl (fun (m : Mv) k =>
    let d := ((mapFind i.xfer.buf k).map (fun (p : Sector × Bool) => p.1)).getD 0
    let d' := match noise with | some (j, x) => if j = k then d ^^^ x else d | none => d
    { m with hs := digestSector pt m.hs d, hd := digestSector pt m.hd d' })
    { err := i.xfer.err, poison := i.xfer.poison }

/-- The counter of a put within the die may be signalled (R319). -/
def nearRcnt (s : State) (b : Batch) (i : Inst) : Bool :=
  match i.sector 1 (dstOff (b.cmdOf i) i) with
  | some y => rcntAllowed s (paLocal y.addr) (cRcnt (b.cmdOf i))
  | none => false

/-- A put within the die, or a GET, moves its sectors as a Ferry does; a put whose RCNT is refused has applied its data and
completes with TQ_RCNT (R319). -/
def gatherFinish (q : Nat) (x : TQueue) (b : Batch) (c : Cmd) (i : Inst) (noise : Option (Nat × BitVec 512)) (s : State) : Nat × State :=
  if i.xfer.err ≠ 0 then (i.xfer.err, s)
  else if i.op = 0x30 ∧ farPositions s b i ≠ [] then
    transferStatus q x i (putDigests (ctxAt s x.asid).point (cSectors c) i noise) s
  else
    let (m, s1) := ferryFinish x c i noise s
    let (st, s2) := transferStatus q x i { m with poison := m.poison || i.xfer.poison } s1
    (if st = 0 ∧ i.op = 0x30 ∧ cRsig c = true ∧ nearRcnt s2 b i = false then Status.TQ_RCNT else st, s2)

/-- What of a Gather command may still go out does. -/
def gatherGo (q first dseq : Nat) (s : State) : State :=
  match instAt s q first dseq with
  | none => s
  | some (_, i) =>
    if i.op = 0x30 then putGo (gatherWindow + 1) q first dseq s
    else if i.op = 0x31 then getGo (gatherWindow + 1) q first dseq s
    else collArrived q first dseq (collGo (gatherWindow + 1) q first dseq s)

/-- What the last step of a PUT or GET still accesses: nothing of a PUT to another die. -/
def gatherLeft (s : State) (b : Batch) (i : Inst) : List (Nat × Extent) :=
  if i.op = 0x30 ∧ farPositions s b i ≠ [] then [] else ferryLeft (b.cmdOf i) i

/-- COMMAND_COMMIT (R469): the engine has finished an instance; `noise` is damage in the engine (log entry 60), `held` the
cycles that a RECKON waited for its record slot. -/
def commandCommit (q asn dseq : Nat) (noise : Option (Nat × BitVec 512)) (held : Nat) (s : State) : State :=
  let x := queueAt s q
  match instOf s q asn dseq with
  | none => s
  | some (b, i) =>
    let c := b.cmdOf i
    if i.phase ≠ .run then s
    else
      match i.op with
      | 0x07 | 0x08 => stageInst q b.first dseq Status.OK s
      | 0x10 | 0x11 | 0x12 =>
        if !ferryReady c i then ferryPump q b.first dseq s
        else whenReached x.eng (ferryLeft c i) (fun s =>
          let (m, s1) := ferryFinish x c i noise s
          let (st, s2) := transferStatus q x i m s1
          commitOr q b.first dseq st s2) s
      | 0x30 | 0x31 =>
        if !gatherReady s b i then gatherGo q b.first dseq s
        else whenReached x.eng (gatherLeft s b i) (fun s =>
          let (st, s1) := gatherFinish q x b c i noise s
          commitOr q b.first dseq st s1) s
      | 0x32 =>
        match i.result, i.coll with
        | some st, _ => commitOr q b.first dseq st s
        | none, some cs => if i.xfer.err ≠ 0 ∧ cs.commitLsn = 0 then commitOr q b.first dseq i.xfer.err s
          else gatherGo q b.first dseq s
        | none, none => s
      | 0x20 =>
        match i.verdict, i.result with
        | some _, some st => commitReckon q b i st held s
        | _, _ => s
      | 0x21 =>
        match i.launch with
        | none => if i.result.isSome then commitOr q b.first dseq Status.OK s else s
        | some l =>
          if l.again = true ∧ l.st = 0 then runAgain q b i l s
          else if launchBusy s l.id then s
          else commitOr q b.first dseq (if l.st ≠ 0 then l.st else if l.poison then Status.TQ_POISON else Status.OK) s
      | _ => s

def execCommandCommit (q : QueueId) (asn : BitVec 64) (dseq : BitVec 32) (noise : Option (Nat × BitVec 512))
    (held : BitVec 32) (s : State) : Result :=
  .next (onlyIf (frameRuns s) (commandCommit q asn.toNat dseq.toNat noise held.toNat) s)

/-! ### STAGED_EFFECTS_APPLY (R346, R383, R474, R475) -/

/-- The counter updates of an instance in their staged order: a kernel's by instance index, the command's own, the SIGNALs of
the OPNDs that complete with it and its own (R295, R308, R322, R346, R383). -/
def stagedCounters (x : TQueue) (b : Batch) (i : Inst) : List (Nat × Bool × Nat) :=
  let c := b.cmdOf i
  let kern := match i.launch with
    | some l => (List.range l.cores.length).flatMap (fun n =>
        (l.counters.filter (fun (u : Nat × Nat × Bool × Nat) => u.1 == n)).map (fun u => u.2))
    | none => []
  let own := match i.op with
    | 0x07 => [(x.cbase + cCounter c, true, cValue c)]
    | 0x08 => [(x.cbase + cCounter c, false, cValue c)]
    | _ => []
  let sig := ((opndRun b.words i.idx ++ [i.idx]).map (wordAt b.words)).filterMap (fun w =>
    if cSignal w && i.result == some Status.OK then some (x.cbase + cCnt w, false, 1) else none)
  kern ++ own ++ sig

/-- A put within the die signals its counter under the rule for global puts (R319). -/
def localSignal (b : Batch) (i : Inst) (s : State) : State :=
  let c := b.cmdOf i
  if i.op = 0x30 && cRsig c && farPositions s b i == [] && nearRcnt s b i then counterAdd (cRcnt c) 1 s else s

/-- Applies what an instance has staged, in the order of R474, and writes APPLIED; a put to another die is released, and its
instance ends with the answer (R320; log entry 47). -/
def applyInst (q : Nat) (b : Batch) (i : Inst) (s : State) : State :=
  let x := queueAt s q
  let s1 := match i.launch with
    | some l => l.stages.foldl (fun u p => stageCopy x i true p u) s
    | none => s
  let s2 := (stagedCounters x b i).foldl (fun u (p : Nat × Bool × Nat) =>
    if p.2.1 then counterSet p.1 p.2.2 u else counterAdd p.1 p.2.2 u) s1
  let s3 := writeRecord q b i (localSignal b i s2)
  let far := decide (i.op = 0x30 ∧ farPositions s b i ≠ [])
  let s4 := if far then putOut q x b i s3 else s3
  let s5 := modBatch q b.first (fun c => { c with applied := c.applied ++ [i.dseq] })
    (jAppend q 0x08 0 0 [(12, 8, b.first + i.idx), (20, 4, i.dseq)] s4)
  if far then s5 else finishInst q b.first i.dseq s5

/-- The staged instances of a queue whose effects are not applied, the oldest pair first. -/
def stagedInsts (x : TQueue) : List (Batch × Inst) :=
  x.batches.flatMap (fun b => (b.insts.filter (fun i => i.phase == .staged && !i.released)).map (fun i => (b, i)))

/-- What applying an instance's staged effects accesses (R329). -/
def applyPlaces (s : State) (i : Inst) : List (Nat × Extent) :=
  match i.launch with
  | some l => stagePlaces s i true l.stages
  | none => []

/-- The staged instance with the oldest pair. -/
def oldestStaged (x : TQueue) : Option (Batch × Inst) :=
  (stagedInsts x).foldl (fun (best : Option (Batch × Inst)) p =>
    match best with
    | none => some p
    | some y => if p.2.lsn < y.2.lsn then some p else some y) none

/-- STAGED_EFFECTS_APPLY (R474): the oldest staged instance of a queue, once its pair is durable in every required copy. -/
def stagedApply (q : Nat) (s : State) : State :=
  match oldestStaged (queueAt s q) with
  | none => s
  | some (b, i) =>
    if durable s i.lsn then whenReached (queueAt s q).eng (applyPlaces s i) (applyInst q b i) s else s

def execStagedEffectsApply (q : QueueId) (s : State) : Result := .next (onlyIf (frameRuns s) (stagedApply q) s)

/-- Applies everything that a queue has staged (for resets that wait for it). -/
def applyAll : Nat → Nat → State → State
  | 0, _, s => s
  | n + 1, q, s =>
    match oldestStaged (queueAt s q) with
    | none => s
    | some (b, i) => applyAll n q (applyInst q b i s)

/-! ### Requests of engines that no one answers (R118) -/

/-- An engine at an outward port works for an instance. -/
def worksAt (x : TQueue) (i : Inst) (t a : Nat) : Bool :=
  i.phase == .run && i.data && (enginePort x.eng == (t, a) || i.xfer.dealt.any (fun (d : Nat × Nat) => enginePort d.2 == (t, a)))

/-- The running instance for which an engine at a port has sent the request with a TAG: which request carries which TAG is
open, and the model takes the instance's DSEQ (log entry 118). -/
def engineRequest (s : State) (t a tag : Nat) : Option (Nat × Batch × Inst) :=
  s.tq.queues.findSome? (fun (q : Nat × TQueue) => q.2.batches.findSome? (fun b =>
    (b.insts.find? (fun i => worksAt q.2 i t a && i.dseq % 65536 == tag)).map (fun i => (q.1, b, i))))

/-- A request of an engine is not answered in time: its command completes with MESH_TIMEOUT (R118, R348). -/
def engineTimeout (t a tag : Nat) (s : State) : State :=
  match engineRequest s t a tag with
  | none => s
  | some (q, b, i) =>
    let s1 := post { code := Ev.MESH_TIMEOUT, asid := (queueAt s q).asid, queue := some q, mark := i.snap.mark, inst := t
                     d0 := Status.MESH_TIMEOUT, d1 := b.first + i.idx } (bump F.MSH_TMOCNT.COUNT 0 s)
    let i1 := { i with
      xfer := { i.xfer with err := if i.xfer.err = 0 then Status.MESH_TIMEOUT else i.xfer.err }
      launch := i.launch.map (fun l => if i.op = 0x21 ∧ l.st = 0 then { l with st := Status.MESH_TIMEOUT } else l) }
    match i.op, i.launch with
    | 0x21, some l => sendAborts l.id none (putInst q b.first i1 s1)
    | _, _ => putInst q b.first i1 s1

/-- MESH_REQUEST_TIMEOUT (R118): of a Shoreline port, of an agent's own flit, or of an engine. -/
def execMeshRequestTimeout (t : TileId) (a : Fin 8) (tag : BitVec 16) (s : State) : Result :=
  onFrame s (match portOf t a with
    | some p => shlTimeout p t a tag.toNat
    | none => if (mapFind s.msh.outst (outKey t a tag.toNat)).isSome then requestTimeout t a tag.toNat
      else engineTimeout t a tag.toNat)

end Sys2Proof.Machine
end

