-- ==== Sys2Proof/Machine/Image.lean ====
section
/-! DEFINITION. Firmware images (R824-R833): their header, the checks of header and payload, and the active and staged
copies with what the registers show of them. -/

namespace Sys2Proof.Machine

/-! ### Layout (R824, R826, R827) -/

/-- The largest payload of a component in bytes (R824). -/
def maxPayload (comp : Nat) : Nat := [0, 384, 256, 4092, 2044, 4092, 8188].getD comp 0 * 1024

/-- The header of an image: its first 512 bytes. -/
def imgHead (im : List Byte) : BitVec 4096 := BitVec.ofNat 4096 (bytesNat (im.take 512))

def hComponent (h : BitVec 4096) : Nat := byteField h 6 1
def hAdvance (h : BitVec 4096) : Bool := bitAt h 56
def hVersion (h : BitVec 4096) : Nat := byteField h 8 3
def hBundle (h : BitVec 4096) : Nat := byteField h 12 3
def hFromMin (h : BitVec 4096) : Nat := byteField h 16 3
def hFromMax (h : BitVec 4096) : Nat := byteField h 20 3
def hPeerMin (h : BitVec 4096) : Nat := byteField h 24 3
def hSvn (h : BitVec 4096) : Nat := byteField h 28 1
def hSetFmt (h : BitVec 4096) : Nat := byteField h 30 2
def hSetMig (h : BitVec 4096) : Nat := byteField h 32 2
def hImgLen (h : BitVec 4096) : Nat := byteField h 36 4
def hPlainHash (h : BitVec 4096) : BitVec 384 := h.extractLsb' 544 384
def hNsig (h : BitVec 4096) : Nat := byteField h 116 1

/-- The key slot of signature block b (R827). -/
def sigSlot (h : BitVec 4096) (b : Nat) : Nat := byteField h (128 + 176 * b) 1

/-- Bytes of a list of ranges of the header are zero. -/
def zeroBytes (h : BitVec 4096) (rs : List (Nat × Nat)) : Bool := rs.all (fun r => byteField h r.1 r.2 == 0)

/-- MAGIC, HDRVER, HCRC and every reserved field are right (R826, R827, R830). -/
def headOk (h : BitVec 4096) : Bool :=
  byteField h 0 4 == 0x33574653 && byteField h 4 2 == 1
    && byteField h 508 4 == (crc32c (byteSlice h 0 508)).toNat
    && decide (byteField h 7 1 < 2) && decide (byteField h 29 1 < 2) && decide (hSvn h ≤ 64) && hImgLen h % 4 == 0
    && zeroBytes h [(11, 1), (15, 1), (19, 1), (23, 1), (27, 1), (34, 2), (117, 11), (480, 28)]
    && (hComponent h == 1 || zeroBytes h [(30, 4)])
    && (hNsig h == 1 || hNsig h == 2)
    && (List.range (hNsig h)).all (fun b =>
      decide (sigSlot h b < 4) && zeroBytes h [(129 + 176 * b, 15), (193 + 176 * b, 15)])
    && (hNsig h == 2 || zeroBytes h [(304, 176)])

/-! ### Signatures (R759, R828, R829) -/

/-- The lowest-numbered root slot that is not revoked (R828). -/
def currentRoot (s : State) : Option Nat :=
  (List.range 4).find? (fun r => !(getF s F.FWU_ROOT.REVOKED).testBit r)

/-- A signature block verifies (R829). -/
def sigOk (s : State) (h : BitVec 4096) (b : Nat) : Bool :=
  let at_ := 128 + 176 * b
  let key := byteSlice h (at_ + 16) 49
  decide (sigSlot h b < 4) && Config.sha384 key == Config.rootHash (sigSlot h b)
    && !(getF s F.FWU_ROOT.REVOKED).testBit (sigSlot h b)
    && Config.ecdsaVerify key (byteSlice h 0 128) (h.extractLsb' (8 * (at_ + 80)) 768)

/-- Every signature of an image verifies, two name different slots, and one is by the current root (R759, R829). -/
def sigsOk (s : State) (h : BitVec 4096) : Bool :=
  let bs := List.range (hNsig h)
  bs.all (sigOk s h) && (hNsig h == 1 || sigSlot h 0 != sigSlot h 1)
    && bs.any (fun b => currentRoot s == some (sigSlot h b))

/-! ### The checks in order (R830, R831) -/

/-- ERR of the first failing header check, or 0 (R830); `running` is the bundle that FROM_MIN and FROM_MAX must allow. -/
def headErr (s : State) (running : Nat) (h : BitVec 4096) : Nat :=
  if !headOk h then 1
  else if !(decide (1 ≤ hComponent h ∧ hComponent h ≤ 6) && decide (hImgLen h ≤ maxPayload (hComponent h))) then 2
  else if !bitAt h 232 then 3
  else if !sigsOk s h then 4
  else if hSvn h < getF s F.FWU_SVN.FUSED then 5
  else if running < hFromMin h ∨ hFromMax h < running then 6
  else 0

/-- An image holds all its bytes. -/
def imgWhole (im : List Byte) : Bool := decide (512 ≤ im.length) && im.length == 512 + hImgLen (imgHead im)

/-- ERR of the payload's check, or 0: TAG, then HASH (R831, R832). -/
def bodyErr (im : List Byte) : Nat :=
  let h := imgHead im
  match Config.gcmOpen Config.firmwareKey (h.extractLsb' 320 96) (byteSlice h 0 40) (im.drop 512) (h.extractLsb' 416 128) with
  | none => 8
  | some text => if Config.sha384 text = hPlainHash h then 0 else 9

/-- An image passes R829-R831. -/
def imageOk (s : State) (im : List Byte) : Bool :=
  imgWhole im && sigsOk s (imgHead im) && bodyErr im == 0

/-! ### Active copies -/

/-- The bundle, and the version of every component, as manufactured: the reset value of GLB_FWVER. -/
def factoryBundle : Nat := 0x030000

/-- The active copy in a place passes R829-R831; one as manufactured does (log entry 97). -/
def activeOk (s : State) (place : Nat) : Bool :=
  match mapFind s.fwu.active place with
  | none => true
  | some im => imageOk s im

/-- The version in an active place. -/
def activeVersion (s : State) (place : Nat) : Nat :=
  match mapFind s.fwu.active place with
  | none => factoryBundle
  | some im => hVersion (imgHead im)

/-- The valid LOADER copy with the higher VERSION, A on a tie (R845). -/
def loaderCopy (s : State) : Option Nat :=
  match activeOk s 2, activeOk s 7 with
  | true, true => some (if activeVersion s 2 < activeVersion s 7 then 7 else 2)
  | true, false => some 2
  | false, true => some 7
  | false, false => none

/-- The place of a component's active copy that counts. -/
def activePlace (s : State) (comp : Nat) : Nat := if comp = 2 then (loaderCopy s).getD 2 else comp

/-- PLAIN_HASH of a component's active image (R825). -/
def activeHash (s : State) (comp : Nat) : BitVec 384 :=
  match mapFind s.fwu.active (activePlace s comp) with
  | none => Config.factoryHash comp
  | some im => hPlainHash (imgHead im)

/-- The bundle that runs: that of the active HEADLAND image. -/
def runBundle (s : State) : Nat :=
  match mapFind s.fwu.active 1 with
  | none => factoryBundle
  | some im => hBundle (imgHead im)

/-- Every component has an active image that passes (R856). -/
def allActiveOk (s : State) : Bool := [1, 3, 4, 5, 6].all (activeOk s) && (loaderCopy s).isSome

/-! ### Staged copies (R837, R839) -/

/-- The state of a component's staged copy: 0 EMPTY, 1 RECEIVING, 2 VERIFIED, 3 INVALID. -/
def compState (s : State) (k : Nat) : Nat := getF s F.FWU_COMPST.STATE k

/-- A staged image. -/
def stagedOf (s : State) (k : Nat) : List Byte := mapGet s.fwu.staged k []

/-- The header of a staged image. -/
def stagedHead (s : State) (k : Nat) : BitVec 4096 := imgHead (stagedOf s k)

/-- The staged set is complete (R839). -/
def stagedComplete (s : State) : Bool :=
  let key := fun k =>
    let h := stagedHead s k
    (hBundle h, hFromMin h, hFromMax h, hPeerMin h, hSvn h)
  (List.range' 1 6).all (fun k => compState s k == 2 && key k == key 1)

/-- Shows FWU_STGBUNDLE, FWU_RUNBUNDLE, GLB_FWVER and FWU_ROOT.CUR as they follow from the flash and the fuses. -/
def showFwu (s : State) : State :=
  let c := stagedComplete s
  let s1 := setF F.FWU_STGBUNDLE.COMPLETE 0 (boolNat c)
    (setF F.FWU_STGBUNDLE.VERSION 0 (if c then hBundle (stagedHead s 1) else 0) s)
  setF F.FWU_ROOT.CUR 0 ((currentRoot s).getD 0) s1

/-- Sets a component's staged state and, where there is one, its error. -/
def setComp (k st : Nat) (err : Option Nat) (s : State) : State :=
  let s1 := setF F.FWU_COMPST.STATE k st s
  showFwu (match err with
    | some e => setF F.FWU_COMPST.LASTERR k e s1
    | none => s1)

/-- The staged set passes R830 and R831 (R844). -/
def stagedPass (s : State) : Bool :=
  stagedComplete s && (List.range' 1 6).all (fun k =>
    imgWhole (stagedOf s k) && headErr s (runBundle s) (stagedHead s k) == 0 && bodyErr (stagedOf s k) == 0)

end Sys2Proof.Machine
end

