-- ==== Sys2Proof/Machine/Headland.lean ====
section
/-! DEFINITION. Headland's mailbox (R751-R758, R764, R774-R777, R780-R784) and attestation (R743-R749, R756). -/

namespace Sys2Proof.Machine

/-! ### The mailbox (R780-R782) -/

/-- A mailbox command: discarded with a NOTE while one runs; else its effect, with the ERR and responses that its completion
shows (R780, R781; log entry 96). -/
def mailbox (f : State → Nat × List Nat × State) (s : State) : State :=
  if !barOpen s then s
  else if flag s F.HLD_STAT.BUSY then post { code := Ev.HLD_MBXBUSY } s
  else
    let (err, rsp, s1) := f s
    setF F.HLD_STAT.BUSY 0 1 { s1 with hld := { s1.hld with mbx := some (err, rsp) } }

/-- HLD_ARG i. -/
def mbxArg (s : State) (i : Nat) : Nat := getF s F.HLD_ARG.VALUE i

/-- HLD_COMMAND_COMPLETE (R781). -/
def execHldCommandComplete (s : State) : Result :=
  .next (match s.hld.mbx with
    | some (err, rsp) => mbxDone err rsp s
    | none => s)

/-! ### Data-key slots (R751-R753) -/

/-- Draws a generation of a slot and makes it current. -/
def drawKey (slot gen : Nat) (s : State) : State :=
  let (k, s1) := draw 512 s
  setF F.HLD_SLOTST.CURGEN slot gen { s1 with hld := { s1.hld with keys := mapIns s1.hld.keys (2 * slot + gen) k } }

/-- KEY_GEN. -/
def keyGen (s : State) : Nat × List Nat × State :=
  let k := mbxArg s 0
  if 63 < k then (1, [], s)
  else if flag s F.HLD_ROLE.QUAR then (3, [], s)
  else if getF s F.HLD_SLOTST.STATE k ≠ 0 then (2, [], s)
  else (0, [], setF F.MEM_ROTSTAT.CURGEN k 0 (setF F.HLD_SLOTST.STATE k 1 (drawKey k 0 s)))

def execKeyGen (s : State) : Result := .next (mailbox keyGen s)

/-- KEY_ROTATE (R196, R751, R752). -/
def keyRotate (s : State) : Nat × List Nat × State :=
  let k := mbxArg s 0
  if 63 < k then (1, [], s)
  else if getF s F.HLD_SLOTST.STATE k = 0 then (2, [], s)
  else if getF s F.HLD_SLOTST.STATE k = 2 ∨ getF s F.MEM_ROTSTAT.PENDING k ≠ 0 then (5, [], s)
  else
    let g := 1 - getF s F.HLD_SLOTST.CURGEN k
    (0, [g], rotationStart k (setF F.HLD_SLOTST.STATE k 2 (drawKey k g s)))

def execKeyRotate (s : State) : Result := .next (mailbox keyRotate s)

/-- A valid key-map entry names a slot. -/
def slotUsed (s : State) (k : Nat) : Bool := (List.range 5464).any (fun r => keyEntry s r == (k, true))

/-- KEY_DESTROY (R751, R752). -/
def keyDestroy (s : State) : Nat × List Nat × State :=
  let k := mbxArg s 0
  if 63 < k then (1, [], s)
  else if slotUsed s k then (6, [], s)
  else if getF s F.HLD_SLOTST.STATE k ≠ 1 then (2, [], s)
  else
    (0, [], setF F.HLD_SLOTST.STATE k 0
      { s with hld := { s.hld with keys := mapDel (mapDel s.hld.keys (2 * k)) (2 * k + 1) } })

def execKeyDestroy (s : State) : Result := .next (mailbox keyDestroy s)

/-! ### The record root (R754-R758) -/

/-- Shows a root generation as current, and whether two live. -/
def setRoot (gen both : Nat) (s : State) : State :=
  setF F.HLD_ROOTGEN.BOTH 0 both (setF F.HLD_ROOTGEN.CUR 0 gen { s with hld := { s.hld with rootGen := gen } })

/-- Draws a root generation. -/
def drawRoot (gen : Nat) (s : State) : State :=
  let (r, s1) := draw 256 s
  { s1 with hld := { s1.hld with roots := mapIns s1.hld.roots gen r } }

/-- ROOT_ROTATE (R757). -/
def rootRotate (s : State) : Nat × List Nat × State :=
  if flag s F.HLD_ROOTGEN.BOTH then (5, [], s)
  else
    let g := 1 - s.hld.rootGen
    (0, [g], setRoot g 1 (drawRoot g s))

def execRootRotate (s : State) : Result := .next (mailbox rootRotate s)

/-- A record that a batch has written is a reckoning record MACed under a root generation (R447). -/
def macedUnder (gen : Nat) (r : HostReq) : Bool :=
  match r with
  | .record _ _ _ 128 bits => byteField bits 30 1 == gen
  | _ => false

/-- A batch without a RETIRE entry has a reckoning record under a root generation (R758). -/
def rootNeeded (s : State) (gen : Nat) : Bool :=
  s.tq.queues.any (fun (e : Nat × TQueue) => e.2.batches.any (fun b => b.sent.any (macedUnder gen)))

/-- ROOT_RETIRE (R758). -/
def rootRetire (s : State) : Nat × List Nat × State :=
  let g := 1 - s.hld.rootGen
  if !flag s F.HLD_ROOTGEN.BOTH then (2, [], s)
  else if rootNeeded s g then (5, [], s)
  else (0, [], setRoot s.hld.rootGen 0 { s with hld := { s.hld with roots := mapDel s.hld.roots g } })

def execRootRetire (s : State) : Result := .next (mailbox rootRetire s)

/-! ### Lease and roster (R764, R774-R777, R782) -/

/-- LEASE_RELEASE. -/
def execLeaseRelease (s : State) : Result :=
  .next (mailbox (fun u => if role u = 3 then (0, [], leaseRelease 1 u) else (2, [], u)) s)

/-- Sector k of the mailbox buffer. -/
def bufSector (s : State) (k : Nat) : Sector :=
  BitVec.ofNat 512 ((List.range 16).map (fun i => getF s F.HLD_BUF.DATA (16 * k + i) * 2 ^ (32 * i))).sum

/-- ENROL (R775-R777): the steward applies the record in the buffer; another die forwards it and waits. -/
def enrol (s : State) : State :=
  let ds := (List.range 4).map (bufSector s)
  let v := enrolBits ds
  if !barOpen s ∨ flag s F.HLD_STAT.BUSY ∨ role s = 3 ∨ Config.operatorHash = none then
    mailbox (fun u => if role u = 3 && enrolOk v u then (0, [], enrolApply v u) else (4, [], u)) s
  else
    toSteward mkEnrol [] ds id
      (setF F.HLD_STAT.BUSY 0 1 { s with hld := { s.hld with enrolWait := some (enrolDie v, byteField v 8 8) } })

def execEnrol (s : State) : Result := .next (enrol s)

/-- ENROL_TIMEOUT (R777). -/
def execEnrolTimeout (s : State) : Result := .next (if s.hld.enrolWait.isSome then mbxDone 2 [] s else s)

/-- Writes bytes to the mailbox buffer from its start; the buffer keeps what lies beyond them. -/
def bufWrite (bs : List Byte) (s : State) : State :=
  (List.range (min 1024 ((bs.length + 3) / 4))).foldl (fun u i =>
    setF F.HLD_BUF.DATA i (bytesNat ((bs.drop (4 * i)).take 4)) u) s

/-- ROSTER_READ (R782): 32 entries of 64 bytes, laid out as a roster change (log entry 77). -/
def rosterDump (s : State) : State :=
  (List.range 32).foldl (fun u d =>
    let x := rosterData (rosterOf s d)
    (List.range 16).foldl (fun v i => setF F.HLD_BUF.DATA (16 * d + i) (bitsAt x (32 * i) 32) v) u) s

def execRosterRead (s : State) : Result := .next (mailbox (fun u => (0, [], rosterDump u)) s)

/-- The certificate chain of an SPDM slot (R744, R745). -/
def chainOf (s : State) (slot : Nat) : List Byte := Config.certChain slot (activeHash s 1)

/-- IDENT_READ (R782). -/
def execIdentRead (s : State) : Result :=
  .next (mailbox (fun u =>
    let k := mbxArg u 0
    if 1 < k then (1, [], u) else (0, [(chainOf u k).length], bufWrite (chainOf u k) u)) s)

/-- HLD_CNTCLR (R784). -/
def execHldCntclr (s : State) : Result := .next (onlyIf (barOpen s) (clearRegs [.HLD_CONFLICTS, .HLD_BADLEASE]) s)

/-! ### SPDM (R745-R747, R756, R825; log entry 95) -/

/-- The connection with a requester: 0-2 a transport, 3 + d a die. -/
def spdmAt (s : State) (who : Nat) : Spdm := mapGet s.hld.spdm who {}

/-- Replaces a connection. -/
def setSpdm (who : Nat) (c : Spdm) (s : State) : State :=
  { s with hld := { s.hld with spdm := mapSet s.hld.spdm who {} c } }

/-- The measurement at an index, and all of them at index 0xFF (R825). -/
def measured (s : State) (index : Nat) : Option (List Byte) :=
  if index = 0xFF then some ((List.range' 1 6).flatMap (fun k => bytesOf (activeHash s k) 48))
  else if 1 ≤ index ∧ index ≤ 6 then some (bytesOf (activeHash s index) 48)
  else if index = 0 then some [6]
  else none

/-- A response signed with the alias key (R745). -/
def spdmSigned (s : State) (nonce : List Byte) (data : List Byte) : SpdmAns :=
  .done data (Config.ecdsaSign (ownDie s) (nonce ++ data))

/-- The response to a request, and the connection after it (R746). -/
def spdmRespond (s : State) (c : Spdm) (r : SpdmReq) : SpdmAns × Spdm :=
  let ok := spdmSigned s []
  let need := fun (b : Bool) (p : SpdmAns × Spdm) => if b then p else (.error, c)
  match r with
  | .getVersion => (ok [0x13], { level := 1 })
  | .getCapabilities => need (decide (1 ≤ c.level)) (ok [], { c with level := max 2 c.level })
  | .negotiate offers => need (decide (2 ≤ c.level) && offers) (ok [], { c with level := 3 })
  | .getDigests =>
    need (c.level == 3) (ok ([0, 1].flatMap (fun k => bytesOf (Config.sha384 (chainOf s k)) 48)), c)
  | .getCertificate slot off =>
    need (c.level == 3 && decide (slot.val < 2)) (ok (((chainOf s slot).drop off.toNat).take 1024), c)
  | .challenge slot nonce =>
    need (c.level == 3 && decide (slot.val < 2))
      (spdmSigned s (bytesOf nonce 32) (bytesOf (Config.sha384 (chainOf s slot)) 48), c)
  | .getMeasurements index nonce =>
    match measured s index.toNat with
    | some m => need (c.level == 3) (spdmSigned s (bytesOf nonce 32) m, c)
    | none => (.error, c)
  | .keyExchange =>
    need (c.level == 3 && c.session.isNone) (ok [], { c with exchange := some (Config.freeValue 256 s.free) })
  | .finish right =>
    match c.exchange with
    | some k => (if right then ok [] else .error, { c with exchange := none, session := if right then some k else none })
    | none => (.error, c)
  | .endSession => need c.session.isSome (ok [], { c with session := none })
  | .heartbeat => need c.session.isSome (ok [], c)
  | .keyUpdate => need c.session.isSome (ok [], { c with session := some (Config.freeValue 256 s.free) })
  | .vendor _ => (.error, c)
  | .unclaimed => (.error, c)

/-- A request with its response; the open value that a new session key is counts as used. -/
def spdmServe (who : Nat) (r : SpdmReq) (s : State) : SpdmAns × State :=
  let (a, c) := spdmRespond s (spdmAt s who) r
  let s1 := match r with
    | .keyExchange | .keyUpdate => { s with free := s.free + 1 }
    | _ => s
  (a, setSpdm who c s1)

/-- The number of a transport. -/
def Transport.num : Transport → Nat
  | .pcie => 0
  | .i3c => 1
  | .smbus => 2

/-- A transport is in use: the host port's messages, and the sideband that the strap selects (R778). -/
def sidebandUp (s : State) (t : Transport) : Bool :=
  match t with
  | .pcie => flag s F.PCI_LINK.UP
  | .i3c => !flag s F.GLB_STRAP.SBSEL
  | .smbus => flag s F.GLB_STRAP.SBSEL

/-- An SPDM request that a MEMBER message carries (log entry 77): code, slot or index or flag, offset, nonce. -/
def spdmDecode (m : TwyMsg) : SpdmReq :=
  let x := byteField m.body 3 1
  let nonce := (((m.data.headD (0, 0)).1).extractLsb' 0 256 : BitVec 256)
  match byteField m.body 2 1 with
  | 0 => .getVersion
  | 1 => .getCapabilities
  | 2 => .negotiate (x == 1)
  | 3 => .getDigests
  | 4 => .getCertificate (Fin.ofNat 8 x) (BitVec.ofNat 16 (byteField m.body 4 2))
  | 5 => .challenge (Fin.ofNat 8 x) nonce
  | 6 => .getMeasurements (BitVec.ofNat 8 x) nonce
  | 7 => .keyExchange
  | 8 => .finish (x == 1)
  | 9 => .endSession
  | 10 => .heartbeat
  | 11 => .keyUpdate
  | 12 => .vendor (x == 1)
  | _ => .unclaimed

/-- Bytes as sectors of a message. -/
def sectorsOf (bs : List Byte) : List Sector :=
  (List.range ((bs.length + 63) / 64)).map (fun i => BitVec.ofNat 512 (bytesNat ((bs.drop (64 * i)).take 64)))

/-- The response that goes back to another die: BODY byte 1 is 1, byte 2 tells of an error, the length follows; signature
and data fill the sectors (log entry 77). -/
def spdmReply (dst : Nat) (a : SpdmAns) (s : State) : TwyMsg :=
  match a with
  | .error => memberMsg s mkSpdm dst [(1, 1, 1), (2, 1, 1)] []
  | .done data sig =>
    let bytes := bytesOf sig 96 ++ data.take 896
    memberMsg s mkSpdm dst [(1, 1, 1), (4, 2, bytes.length)] (sectorsOf bytes)

/-- SPDM_REQUEST. -/
def spdmRequest (src : SpdmFrom) (s : State) : State :=
  match src with
  | .mctp t r =>
    if !sidebandUp s t then s
    else
      let (a, s1) := spdmServe t.num r s
      { s1 with out := s1.out ++ [.spdm t a] }
  | .link n =>
    memberServe n mkSpdm (fun m u =>
      if byteField m.body 1 1 = 1 then u
      else
        let (a, u1) := spdmServe (3 + m.src) (spdmDecode m) u
        twySend (spdmReply m.src a u1) u1) s

/-- Headland answers while its firmware, or the ROM in recovery, runs. -/
def headAnswers (s : State) : Bool := decide (1 ≤ phase s)

def execSpdmRequest (src : SpdmFrom) (s : State) : Result := .next (onlyIf (headAnswers s) (spdmRequest src) s)

/-- GET_RECORD_KEY (R756): in a secured session with requester `who`, for a bound context and a live generation. -/
def getRecordKey (who asid gen : Nat) (s : State) : State :=
  let ok := (spdmAt s who).session.isSome && (ctxAt s asid).bound && (mapFind s.hld.roots gen).isSome
  { s with out := s.out ++ [.recordKey who asid gen (if ok then some (recordKey s asid gen) else none)] }

def execGetRecordKey (who : Fin 35) (asid : BitVec 16) (gen : Byte) (s : State) : Result :=
  .next (onlyIf (headAnswers s) (getRecordKey who asid.toNat gen.toNat) s)

end Sys2Proof.Machine
end

