-- ==== Sys2Proof/Machine/XltHost.lean ====
section
/-! DEFINITION. Translation with the host's help (R239-R248, R260): ATS completions and time-outs, page requests, and an
invalidation that runs out of time. -/

namespace Sys2Proof.Machine

/-- The request that waits under a tag. -/
def waitAtTag (s : State) (tag : Nat) : Option AtsWait := s.xlt.waits.find? (fun w => w.tag == tag)

/-- Removes a request. -/
def dropWait (tag : Nat) (s : State) : State :=
  { s with xlt := { s.xlt with waits := s.xlt.waits.filter (fun w => w.tag != tag) } }

/-- Fills the caches with a page (R265, R274): an ADVISE fills the second level only. -/
def fillPage (w : AtsWait) (p : Page) (s : State) : State :=
  let x : XEnt := { asid := w.asid, gen := (ctxAt s w.asid).gen, idx := 16 + w.page, page := some p }
  let s1 := fillL2 (engineHalf w.engine) x s
  if w.what = .advise then s1 else fillL1 w.engine x s1

/-- What a translation that has waited leaves its command. -/
def gotOf (w : AtsWait) (p : Option Page) (code : Nat) : Got :=
  { page := w.page, acc := w.acc, res := p, code := code, again := w.again, job := w.job }

/-- What a translation has come to goes to its batch or its dispatch; an ADVISE has no use for a refusal (R274). -/
def pageResult (w : AtsWait) (p : Option Page) (code : Nat) (s : State) : State :=
  let s0 := dropWait w.tag s
  let s1 := match p with
    | some g => if w.what = .nobody then s0 else fillPage w g s0
    | none => s0
  let x := queueAt s1 w.queue
  match w.what with
  | .advise | .nobody => s1
  | .redo =>
    if ((x.running).map (fun b => (b.first, b.seq.dseq))) = some w.job then
      setQueue w.queue { x with regot := x.regot ++ [gotOf w p code] } s1
    else s1
  | .batch =>
    match x.fetch with
    | none => s1
    | some f => batchGo w.queue (setQueue w.queue { x with fetch := some { f with got := f.got ++ [gotOf w p code] } } s1)

/-- Sends the page request of a waiting translation, or holds it within the host's allocation (R245, R248). -/
def pageRequest (w : AtsWait) (s : State) : State := sendPri w (dropWait w.tag s)

/-- Sends what the allocation of a function now admits; where the host allows none, what is held is refused (R247). -/
def priRelease : Nat → Nat → State → State
  | 0, _, s => s
  | fuel + 1, f, s =>
    match s.xlt.waits.find? (fun w => w.held && w.func == f) with
    | none => s
    | some w =>
      let n := mapGet s.xlt.priAlloc f 0
      if n = 0 then priRelease fuel f (pageResult w none Refuse.XLT_PRI s)
      else if priOut s f < n then priRelease fuel f (pageRequest w s)
      else s

/-- Asks for a page's translation anew (R245; after an invalidation, log entry 73). An ADVISE whose context is bound to it no
longer has nothing to warm, nor has a request that nothing waits for. -/
def repeatAts (w : AtsWait) (again : Bool) (s : State) : State :=
  let c := ctxAt s w.asid
  let s0 := dropWait w.tag s
  if w.what = .nobody ∨ !(c.bound && c.func == w.func && c.pasid == w.pasid) then s0
  else sendAts { w with pri := false, held := false, again := again, gen := c.gen } s0

/-- The page that a completion gives for the 1 GiB page of a VA (R240, R241, R243). -/
def completedPage (s : State) (page addr size : Nat) (r w : Bool) : Page :=
  let base := addr / size * size + page * 2 ^ 30 % size
  let aper := get64 s .XLT_APERBASE_LO .XLT_APERBASE_HI 0
  if aper ≤ base ∧ base < aper + getF s F.XLT_APERCTL.DIES * 2 ^ 47 then { host := false, base := base - aper, r := r, w := w }
  else { host := true, base := base, r := r, w := w }

/-- ATS_TRANSLATION_COMPLETION (R240-R245): `ok` is false for UR or CA; `size` is the base-2 logarithm of the bytes of the
translation that begins at `addr`. -/
def atsCompletion (tag : Nat) (ok : Bool) (addr size : Nat) (r wr : Bool) (s : State) : State :=
  match waitAtTag s tag with
  | none => s
  | some w =>
    let c := ctxAt s w.asid
    if w.pri then s
    else if w.gen ≠ c.gen then repeatAts w w.again s
    else if !ok then pageResult w none Refuse.XLT_ATS s
    else if size < 30 then pageResult w none Refuse.XLT_PAGESIZE s
    else
      let p := completedPage s w.page addr (2 ^ size) r wr
      if grants p.perms w.acc then pageResult w (some p) 0 s
      else match lackCode s w.asid w.again with
        | some code => pageResult w none code s
        | none => pageRequest w s

def execAtsTranslationCompletion (tag : Nat) (ok : Bool) (addr : BitVec 64) (size : Fin 64) (r w : Bool) (s : State) : Result :=
  .next (onlyIf (clocksRun s) (atsCompletion tag ok addr.toNat size r w) s)

/-- ATS_TIMEOUT (R252): no completion within 10 ms. -/
def atsTimeout (tag : Nat) (s : State) : State :=
  match waitAtTag s tag with
  | none => s
  | some w => if w.pri then s else pageResult w none Refuse.XLT_ATS s

def execAtsTimeout (tag : Nat) (s : State) : Result := .next (onlyIf (clocksRun s) (atsTimeout tag) s)

/-- PRG_RESPONSE (R245-R247): code 0 is Success, 15 Response Failure. -/
def prgResponse (tag code : Nat) (s : State) : State :=
  match waitAtTag s tag with
  | none => s
  | some w =>
    let f := w.func
    if !w.pri || w.held then s
    else
      let s1 := if code = 0 then repeatAts w true s
        else if code = 15 then
          post { code := Ev.XLT_PRIOFF, asid := w.asid, inst := f }
            { pageResult w none Refuse.XLT_PRI s with
              xlt := { (pageResult w none Refuse.XLT_PRI s).xlt with
                priAlloc := mapDel (pageResult w none Refuse.XLT_PRI s).xlt.priAlloc f } }
        else pageResult w none Refuse.XLT_PRI s
      priRelease (s1.xlt.waits.length + 1) f s1

def execPrgResponse (tag : Nat) (code : Fin 16) (s : State) : Result := .next (onlyIf (clocksRun s) (prgResponse tag code) s)

/-- PRI_TIMEOUT (R246). -/
def priTimeout (tag : Nat) (s : State) : State :=
  match waitAtTag s tag with
  | none => s
  | some w =>
    if !w.pri || w.held then s
    else
      let s1 := pageResult w none Refuse.XLT_PRI s
      priRelease (s1.xlt.waits.length + 1) w.func s1

def execPriTimeout (tag : Nat) (s : State) : Result := .next (onlyIf (clocksRun s) (priTimeout tag) s)

/-- PRI_ENABLE (R247, R248): the host enables page requests of a function with an allocation of at most the capacity of 512
(R648), or disables them. -/
def priEnable (f alloc : Nat) (s : State) : State :=
  let s1 := { s with xlt := { s.xlt with priAlloc := mapSet s.xlt.priAlloc f 0 (min alloc 512) } }
  priRelease (s1.xlt.waits.length + 1) f s1

def execPriEnable (f : Func) (alloc : BitVec 32) (s : State) : Result :=
  .next (onlyIf (clocksRun s) (priEnable f alloc.toNat) s)

/-- INVALIDATION_TIMEOUT (R260): what still holds an older generation ends with XLT_INVABORT, a COLL whose commit has begun
excepted (R334, R493); with nothing left that does, R259 is met and no time runs out. -/
def invTimeout (s : State) : State :=
  match s.xlt.invs with
  | [] => s
  | v :: _ =>
    if !invBlocked s v then s else
    let hit := s.tq.queues.flatMap (fun (e : Nat × TQueue) => e.2.batches.flatMap (fun b =>
      (b.insts.filter (fun i => holdsOld v e.2.asid i && !i.collCommitted)).map (fun i => (e.1, b.first, i.dseq))))
    let s1 := hit.foldl (fun u (p : Nat × Nat × Nat) => endInst p.1 p.2.1 p.2.2 Status.XLT_INVABORT true u) s
    invFinish (post { code := Ev.XLT_INVABORT, asid := v.asid, d0 := Status.XLT_INVABORT } (setF F.XLT_INVSTAT.ABORTED 0 1 s1))

def execInvalidationTimeout (s : State) : Result := .next (onlyIf (clocksRun s) invTimeout s)

end Sys2Proof.Machine
end

