-- ==== Sys2Proof/Machine/Pci.lean ====
section
/-! DEFINITION. The host port (13): link up and down, completions of reads of host memory, Function Level Resets of virtual
functions, MSI-X and SR-IOV. -/

namespace Sys2Proof.Machine

/-- PCI_LINK_UP (R627, R655, R657). -/
def pciLinkUp (speed width : Nat) (flit : Bool) (s : State) : State :=
  let slow := decide (speed < 6 ∨ width < 16)
  let v := speed % 16 + width % 32 * 2 ^ 4 + boolNat flit * 2 ^ 9 + boolNat slow * 2 ^ 10 + 2 ^ 11
  let s1 := setReg .PCI_LINK 0 (BitVec.ofNat 32 v) s
  hostFlush (if slow then post { code := Ev.PCI_LINKSLOW, d0 := speed + width * 2 ^ 8 } s1 else s1)

def execPciLinkUp (speed : Fin 16) (width : Fin 32) (flit : Bool) (s : State) : Result :=
  .next (onlyIf (s.rst.perst && decide (1 ≤ phase s)) (pciLinkUp speed width flit) s)

/-- PCI_LINK_DOWN (R655). -/
def pciLinkDown (s : State) : State :=
  if flag s F.PCI_LINK.UP then post { code := Ev.PCI_LINKDOWN } (setReg .PCI_LINK 0 0 s) else s

def execPciLinkDown (s : State) : Result := .next (pciLinkDown s)

/-- The tag of a read of host memory is free again. -/
def dropRead (tag : Nat) (s : State) : State := { s with tq := { s.tq with reads := mapDel s.tq.reads tag } }

/-- A read of host memory has failed: the batch is refused, or the command fails, with XLT_HOST (R651; log entry 49). -/
def readFailed (tag : Nat) (s : State) : State :=
  let s0 := dropRead tag s
  match mapFind s.tq.reads tag with
  | none => s
  | some (.ring q _ _) => if (queueAt s0 q).fetch.isSome then refuseBatch q Status.XLT_HOST 0 0 s0 else s0
  | some (.data q asn dseq _ _) =>
    match instOf s0 q asn dseq with
    | none => s0
    | some (b, i) =>
      match i.op, i.launch with
      | 0x21, some l =>
        sendAborts l.id none (putInst q b.first { i with launch := some { l with st := if l.st = 0 then Status.XLT_HOST else l.st } } s0)
      | 0x32, _ => failInst q b.first dseq Status.XLT_HOST true s0
      | _, _ => putInst q b.first { i with xfer := { i.xfer with err := if i.xfer.err = 0 then Status.XLT_HOST else i.xfer.err } } s0

/-- The commands that a ring read delivers: two to a sector. -/
def ringWords (pos count : Nat) (data : List Sector) (m : Map (BitVec 256)) : Map (BitVec 256) :=
  (List.range count).foldl (fun u j =>
    mapIns u (pos + j) ((data.getD (j / 2) 0).extractLsb' (j % 2 * 256) 256)) m

/-- A read of host memory is answered with data (R285, R641, R652). -/
def readData (tag : Nat) (data : List Sector) (poison : Bool) (s : State) : State :=
  let s0 := dropRead tag s
  match mapFind s.tq.reads tag with
  | none => s
  | some (.ring q pos count) =>
    let x := queueAt s0 q
    match x.fetch with
    | none => s0
    | some f => setQueue q { x with fetch := some { f with words := ringWords pos count data f.words } } s0
  | some (.data q asn dseq pos count) =>
    match instOf s0 q asn dseq with
    | none => s0
    | some (b, i) =>
      let buf := ((data.take count).zip (List.range count)).foldl
        (fun u (p : Sector × Nat) => mapIns u (pos + p.2) (p.1, poison)) i.xfer.buf
      let s1 := putInst q b.first { i with xfer := { i.xfer with buf := buf, poison := i.xfer.poison || poison } } s0
      match i.op with
      | 0x10 | 0x11 => ferryPump q b.first dseq s1
      | 0x30 => putGo (gatherWindow + 1) q b.first dseq s1
      | 0x32 => collArrived q b.first dseq s1
      | _ => s1

/-- Sectors that a read of host memory must deliver. -/
def readSectors (r : ReadFor) : Nat :=
  match r with
  | .ring _ _ n => ceilDiv n 2
  | .data _ _ _ _ n => n

/-- PCI_READ_COMPLETION (R651, R652): `ok` is false for UR or CA; a poisoned completion of a ring read fails the read, whose
commands cannot be trusted (log entry 49). A completion that lacks data is none. -/
def readCompletion (tag : Nat) (data : List Sector) (poison ok : Bool) (s : State) : State :=
  match mapFind s.tq.reads tag with
  | none => s
  | some r =>
    if !ok then readFailed tag s
    else if data.length < readSectors r then s
    else
      let s1 := add64 .PCI_DMARD_LO .PCI_DMARD_HI 0 (64 * readSectors r) s
      let s2 := if poison then bump F.PCI_POISRX.COUNT 0 s1 else s1
      match r with
      | .ring _ _ _ => if poison then readFailed tag s2 else readData tag data false s2
      | .data _ _ _ _ _ => readData tag data poison s2

def execPciReadCompletion (tag : Nat) (data : List Sector) (poison ok : Bool) (s : State) : Result :=
  .next (onlyIf (clocksRun s) (readCompletion tag data poison ok) s)

/-- PCI_COMPLETION_TIMEOUT (R651). -/
def completionTimeout (tag : Nat) (s : State) : State :=
  if (mapFind s.tq.reads tag).isNone then s
  else readFailed tag (post { code := Ev.PCI_CPLTMO, d1 := tag } (bump F.PCI_CPLTMO.COUNT 0 s))

def execPciCompletionTimeout (tag : Nat) (s : State) : Result := .next (onlyIf (clocksRun s) (completionTimeout tag) s)

/-- Queues whose ASID is bound to a function. -/
def queuesOf (s : State) (f : Nat) : List Nat :=
  (s.tq.queues.filter (fun (e : Nat × TQueue) => e.2.st != 0 && (ctxAt s e.2.asid).bound && (ctxAt s e.2.asid).func == f)).map
    (fun (e : Nat × TQueue) => e.1)

/-- A queue's descriptor is released: what its accepted batches have not committed is aborted, what they have staged is
applied (log entry 59). -/
def closeQueue (q : Nat) (s : State) : State :=
  let s1 := ((queueAt s q).batches).foldl (fun u b => abortBatch q b u) s
  unhold (destroyQueue q (applyAll (stagedInsts (queueAt s1 q)).length q s1))

/-- TQ_QCMD_DESTROY (R287): a STOPPED queue's descriptor is released. -/
def queueDestroy (q : Nat) (s : State) : State := if (queueAt s q).st = 1 then qErr 0 (closeQueue q s) else qErr 2 s

def execTqQcmdDestroy (q : QueueId) (s : State) : Result := .next (onlyIf (barOpen s) (queueDestroy q) s)

/-- VF_FLR (R654, R873): the queues are aborted, what they have staged is applied first of all, then they are destroyed, the
contexts unbound and the vectors masked; the event ring counts as read and its control is reset. -/
def vfFlr (v : Nat) (s : State) : State :=
  let qs := queuesOf s v
  let s1 := qs.foldl (fun u q => abortQueue q 0 u) s
  let s2 := qs.foldl (fun u q => closeQueue q u) s1
  let ctxs := (s2.xlt.ctxs.filter (fun (e : Nat × Ctx) => e.2.bound && e.2.func == v)).map (fun (e : Nat × Ctx) => e.1)
  let s3 := ctxs.foldl (fun u a => invStart a .unbind u) s2
  let s4 := { s3 with pci := { s3.pci with unmasked := s3.pci.unmasked.filter (fun (e : Nat × Bool) => e.1 / 64 != v) } }
  tryLost v (setReg .EVT_CTL v (regReset .EVT_CTL v) (setReg .EVT_HEAD v (getReg s4 .EVT_TAIL v) s4))

def execVfFlr (v : Func) (s : State) : Result := .next (onlyIf (clocksRun s && v != 0) (vfFlr v) s)

/-- MSIX_UNMASK (R645). -/
def msixUnmask (v : Nat) (s : State) : State :=
  let s1 := { s with pci := { s.pci with unmasked := mapIns s.pci.unmasked v true, vecPend := mapDel s.pci.vecPend v } }
  if mapGet s.pci.vecPend v false then hostSend (.msix v) s1 else s1

def execMsixUnmask (v : Fin 2048) (s : State) : Result := .next (onlyIf (barOpen s) (msixUnmask v) s)

/-- VF_ENABLE (R642): SR-IOV enables virtual functions 1 to n. -/
def vfEnable (n : Nat) (s : State) : State :=
  { s with pci := { s.pci with vfEn := BitVec.ofNat 32 (2 ^ (n + 1) - 2) } }

def execVfEnable (n : Func) (s : State) : Result := .next (onlyIf (barOpen s) (vfEnable n) s)

/-- PCI_CNTCLR (R657). -/
def execPciCntclr (s : State) : Result :=
  .next (onlyIf (barOpen s) (clearRegs [.PCI_CPLTMO, .PCI_POISRX, .PCI_DBDROP, .PCI_DMARD_LO, .PCI_DMARD_HI, .PCI_DMAWR_LO,
    .PCI_DMAWR_HI, .PCI_NOCRD_LO, .PCI_NOCRD_HI]) s)

end Sys2Proof.Machine
end

