-- ==== Sys2Proof/Machine/Startup.lean ====
section
/-! DEFINITION. Start-up, resets and roles (R493-R498, R785-R823, R891, R896): cold start by phases, cold and warm resets
with what each keeps, recovery of the log, joining and leaving a tray, the loss of REFCLK_TWY. -/

namespace Sys2Proof.Machine

/-! ### Cold reset (R800, R802, R806) -/

/-- Copies registers of `s` over those of `t`. -/
def keepRegs (rs : List Reg) (s t : State) : State :=
  rs.foldl (fun u r => (List.range (r.info.first + r.info.count)).foldl (fun v i => setReg r i (getReg s r i) v) u) t

/-- What flash, fuses and straps keep shown through a cold reset (R789, R806, R834, R837). -/
def coldRegs : List Reg := [.GLB_STRAP, .GLB_DIE, .FWU_ROOT, .FWU_SVN, .FWU_COMPST]

/-- A component that was receiving is invalid after a reset (R837). -/
def dropReceiving (s : State) : State :=
  (List.range' 1 6).foldl (fun u k => if compState u k = 1 then setF F.FWU_COMPST.STATE k 3 u else u)
    { s with fwu := { s.fwu with session := none, cmd := none } }

/-- The CONFIG section's LPDDR rate takes effect (R175). -/
def applyRate (s : State) : State :=
  match s.mem.rateCfg with
  | some r => setF F.MEM_CFG.RATE 0 r { s with mem := { s.mem with rate := r } }
  | none => s

/-- The activation state that the UPDATE section's marker gives (R844, R849). -/
def markerState (m : Nat) : Nat := [0, 1, 3, 4].getD m 0

/-- The state in which a cold reset leaves the die: everything at its reset value but flash, fuses, straps and pins (R806), and the Isthmus wires that spare ones replace (R112). -/
def coldState (s : State) : State :=
  let t : State :=
    { free := s.free, pending := s.pending, out := s.out
      hld := { roster := s.hld.roster }
      msh := { isthSpared := s.msh.isthSpared ||| BitVec.ofNat 48 (get64 s .MSH_ISTHWEAK_LO .MSH_ISTHWEAK_HI 0) }
      mem := { rateCfg := s.mem.rateCfg }
      twy := { noClock := s.twy.noClock }
      fwu := { s.fwu with turnDue := false }
      brk := { thermTrip := s.brk.thermTrip }
      rst := { resetN := s.rst.resetN, perst := s.rst.perst, perstSeen := s.rst.perst } }
  let t1 := setF F.FWU_ACTST.STATE 0 (markerState s.fwu.marker) (dropReceiving (keepRegs coldRegs s t))
  applyRate (showFwu t1)

/-- The host port trains once the die is out of reset and PERST_N is high (R797). -/
def trainHost (s : State) : State :=
  if s.rst.perst && s.rst.resetN then { s with out := s.out ++ [.pciTrain] } else s

/-- A cold reset by source `cause` (R800): the die starts in HBOOT. A cold reset in BOOTING is counted (R844); sources 0 and
1 release THERMTRIP_N (R905). -/
def coldReset (cause : Nat) (s : State) : State :=
  let t := coldState s
  let t1 := setF F.GLB_RSTCAUSE.CAUSE 0 cause
    { t with
      fwu := { t.fwu with boots := if t.fwu.marker = 3 then t.fwu.boots + 1 else 0 }
      brk := { t.brk with thermTrip := t.brk.thermTrip && decide (2 ≤ cause) } }
  trainHost t1

/-- POWER_ON (R800): VAO comes up with RESET_N low. -/
def execPowerOn (s : State) : Result := .next (coldReset 0 { s with rst := { s.rst with resetN := false } })

/-- VAO_BROWNOUT (R891): VAO has been low for tBOD and has returned. -/
def execVaoBrownout (s : State) : Result := .next (coldReset 0 s)

/-- RESET_N_ASSERT (R800, R802). -/
def execResetNAssert (s : State) : Result := .next (coldReset 1 { s with rst := { s.rst with resetN := false } })

/-- RESET_N_RELEASE (R789, R790): the straps are sampled; `recov` is RECOV_N low. -/
def resetRelease (tray slot : Nat) (sbsel recov : Bool) (s : State) : State :=
  if s.rst.resetN then s
  else
    let s1 := setF F.GLB_STRAP.TRAY 0 tray (setF F.GLB_STRAP.SLOT 0 slot
      (setF F.GLB_STRAP.SBSEL 0 (boolNat sbsel) (setF F.GLB_STRAP.RECOV 0 (boolNat recov) s)))
    let s2 := setF F.GLB_DIE.DIE 0 (8 * tray + slot) { s1 with rst := { s1.rst with resetN := true, start := s.time } }
    trainHost (setPhase 0 s2)

def execResetNRelease (tray : Fin 4) (slot : Fin 8) (sbsel recov : Bool) (s : State) : Result :=
  .next (resetRelease tray slot sbsel recov s)

/-! ### The phases of a cold start (R792-R795) -/

/-- Headland's ROM enters recovery (R852). -/
def enterRecovery (reason : Nat) (s : State) : State := setPhase 7 (setF F.FWU_RECOV.REASON 0 reason s)

/-- The first start of a HEADLAND image reads CONFIG's format (R850). -/
def readConfig (s : State) : State :=
  if !s.fwu.newHead then s
  else
    let h := match mapFind s.fwu.active 1 with | some im => imgHead im | none => 0
    let f := s.fwu.cfgFormat
    let s1 := { s with fwu := { s.fwu with newHead := false, cfgFormat := hSetFmt h } }
    if f = hSetFmt h ∨ (hSetMig h ≤ f ∧ f < hSetFmt h) then s1
    else
      post { code := Ev.FWU_SETDEFAULT, d0 := f }
        (setReg .MEM_CFG 0 (regReset .MEM_CFG 0) { s1 with mem := { s1.mem with rateCfg := none, rate := 3 } })

/-- HLD_MEMBERS and HLD_QUAR as the roster in flash gives them (R770). -/
def rosterInForce (s : State) : State :=
  let s1 := (List.range 32).foldl (fun u d =>
    quarSync d (setReg .HLD_MEMBERS 0 (putBit (getReg u .HLD_MEMBERS 0) d (rosterOf u d).enrolled) u)) s
  ownQuarSync s1

/-- Headland's firmware starts (R744, R754, R788, R793): a record root is drawn, the roster is in force, the die listens for
the lease, the POWER phase begins. -/
def headStart (s : State) : State :=
  let s1 := readConfig s
  let s2 := setF F.GLB_FWVER.PATCH 0 (runBundle s1 % 256) (setF F.GLB_FWVER.MINOR 0 (runBundle s1 / 256 % 256)
    (setF F.GLB_FWVER.MAJOR 0 (runBundle s1 / 65536) (setF F.FWU_RUNBUNDLE.VERSION 0 (runBundle s1) s1)))
  let s3 := rosterInForce (setRoot 0 0 (drawRoot 0 s2))
  let s4 := if s3.twy.noClock then post { code := Ev.GLB_NOTWYCLK } s3 else s3
  setPhase 1 { s4 with rst := { s4.rst with gpio := some (Config.gpioOutputs (runBundle s4)) } }

/-- The ROM has read the flash device's parameter table (R908); recovery follows for the strap, a cut-short overwrite, a failed
boot, or no usable HEADLAND image, in this order (log entry 98). -/
def hbootGo (flash : Bool) (s0 : State) : State :=
  let s := { s0 with rst := { s0.rst with quad := true } }
  if flag s F.GLB_STRAP.RECOV then enterRecovery 1 s
  else if s.fwu.marker = 2 then enterRecovery 3 s
  else if s.fwu.marker = 3 ∧ 2 ≤ s.fwu.boots then enterRecovery 4 s
  else if !(flash && activeOk s 1) then enterRecovery 2 s
  else headStart s

/-- PHASE_HBOOT_DONE (R792, R795, R852): `ok` tells of OTP and TRNG, `flash` that the active HEADLAND copy reads back as it was
written. -/
def hbootDone (ok flash : Bool) (s : State) : State :=
  if phase s ≠ 0 ∨ s.rst.resetN = false then s
  else if !ok then dieStop 0 s
  else hbootGo flash s

/-- SPI_CLK runs in quad mode (R908). -/
def spiQuad (s : State) : Bool := s.rst.quad

/-- Headland writes flash between two commands: a component is being received, or the active area is overwritten. What a command
writes whole (settings, roster) is written within it (log entry 121). -/
def flashWriting (s : State) : Bool := s.fwu.marker == 2 || (List.range' 1 6).any (fun k => compState s k == 1)

/-- The level of WP_N: low but while Headland writes flash (R908). -/
def wpHigh (s : State) : Bool := flashWriting s

/-- GPIO pin n is an input (R906). -/
def gpioInput (s : State) (n : Nat) : Bool := match s.rst.gpio with
  | none => true
  | some outs => !outs.getLsbD n

def execPhaseHbootDone (ok flash : Bool) (s : State) : Result := .next (hbootDone ok flash s)

/-- Every enabled Shoreline port that is down starts (R556). -/
def portsStart (s : State) : State :=
  (List.range 8).foldl (fun u p => if flag u F.SHL_PCTL.EN p && portState u p == 0 then shlStart p u else u) s

/-- PHASE_POWER_DONE (R111, R165, R792, R795, R872): the rails are confirmed, the PLLs locked, cove 0 awake, the Isthmus trained
and the Reef initialised; or PLL `unlocked` has not locked within tPWR. -/
def powerDone (unlocked : Option (Fin 4)) (s : State) : State :=
  if phase s ≠ 1 then s
  else
    match unlocked with
    | some n => fatal { code := Ev.BRK_PLL, inst := n } s
    | none =>
      let s1 := setPhase 2 (evReady (isthmusTrain (coveWoken 0 (wakeCove 0 s))))
      (List.range 24).foldl (fun u n => twyDetect n u) (portsStart s1)

def execPhasePowerDone (unlocked : Option (Fin 4)) (s : State) : Result := .next (powerDone unlocked s)

/-- PHASE_BRINGUP_DONE (R792, R794). -/
def bringupDone (s : State) : State :=
  if phase s = 2 && s.mem.trained && (List.range 8).all (fun p => [0, 3, 5].contains (portState s p)) then
    setPhase 3 { s with rst := { s.rst with ready := true }, fwu := { s.fwu with boots := 0 } }
  else s

def execPhaseBringupDone (s : State) : Result := .next (bringupDone s)

/-! ### Sources of a warm reset (R800-R804, R816) -/

/-- Registers of Headland, which a restart from PHASE 1 keeps (R803). -/
def headRegs : List Reg := [.HLD_CTL, .HLD_STAT, .HLD_ROLE, .HLD_EPOCH, .HLD_ROOTGEN, .HLD_CONFLICTS, .HLD_BADLEASE, .HLD_QUAR,
  .HLD_MEMBERS, .HLD_ARG, .HLD_RSP, .HLD_SLOTST, .GLB_FWVER, .FWU_RUNBUNDLE, .FWU_ACTST]

/-- The cold start-up begins again from PHASE 1 (R803). -/
def restartPower (cause : Nat) (s : State) : State :=
  let t := keepRegs headRegs s { coldState s with time := s.time, hld := s.hld }
  setPhase 1 (setF F.GLB_RSTCAUSE.CAUSE 0 cause { t with rst := { t.rst with start := s.time, gpio := s.rst.gpio, quad := s.rst.quad } })

/-- A warm-reset source (R800): ignored in a failed die (R816), in ROM recovery, while RESET_N is low and during a reset
(R802); before PHASE 3 the start-up begins again (R803). -/
def warmSource (cause : Nat) (s : State) : State :=
  if phase s = 6 ∨ phase s = 7 ∨ s.rst.warm ≠ 0 ∨ s.rst.resetN = false then s
  else if s.rst.ready then setF F.GLB_RSTCAUSE.CAUSE 0 cause { s with rst := { s.rst with warm := 1 } }
  else if phase s = 0 then setF F.GLB_RSTCAUSE.CAUSE 0 cause s
  else restartPower cause s

/-- PERST_N_RISE (R797, R804). -/
def execPerstNRise (s : State) : Result :=
  .next (if s.rst.perst then s else trainHost { s with rst := { s.rst with perst := true, perstSeen := true } })

/-- PERST_N_FALL (R804): the host link ends; a fall after PERST_N has been seen high is a reset source. -/
def execPerstNFall (s : State) : Result :=
  .next (if !s.rst.perst then s
    else
      let s1 := pciLinkDown { s with rst := { s.rst with perst := false } }
      if s.rst.perstSeen then warmSource 9 s1 else s1)

/-- PCI_HOT_RESET: a hot reset or a link disable. -/
def execPciHotReset (s : State) : Result := .next (onlyIf s.rst.perst (fun u => trainHost (warmSource 10 (pciLinkDown u))) s)

/-- PF_FLR. -/
def execPfFlr (s : State) : Result := .next (onlyIf (flag s F.PCI_LINK.UP) (warmSource 11) s)

/-- The GLB block takes writes: PHASE 3 to 5, and 7 (R798, R853). -/
def glbOpen (s : State) : Bool := barOpen s || phase s == 7

/-- GLB_RESET_WARM (R801): KEY 0x5A and KIND 1. -/
def execGlbResetWarm (s : State) : Result := .next (onlyIf (glbOpen s) (warmSource 8) s)

/-- A commanded cold reset: the steward is told first (R805). -/
def commandedCold (cause : Nat) (s : State) : State := coldReset cause (toSteward mkReset [(1, 1, 2)] [] id s)

/-- GLB_RESET_COLD (R801, R805). -/
def execGlbResetCold (s : State) : Result := .next (onlyIf (glbOpen s) (commandedCold 2) s)

/-! ### Warm reset (R494, R495, R806-R808, R811) -/

/-- A controller completes every access that it has accepted, in order of arrival; no regulation holds them (R211). -/
def memDrain (s : State) (m : Nat) : State :=
  (memQueue s m).foldl (fun u q => memComplete 0 q u) (setMemQueue m [] s)

/-- The controllers complete what they have accepted, with the pauses and zero fills that hold it, and enter self-refresh (R192,
R205, R211, R807 step 4). -/
def memPark (s : State) : State :=
  let s1 := s.mem.filling.foldl (fun u k => memZeroFillDone k u) { s with mem := { s.mem with paused := [] } }
  selfRefreshOn ((List.range 12).foldl memDrain s1)

/-- Requests to the host that wait through the reset (R811): what was under regulation goes before what was held; reads and
translation requests of work that ends are dropped. -/
def hostHold (s : State) : State :=
  let keep := fun (r : HostReq) => match r with
    | .data _ _ _ _ _ _ _ | .record _ _ _ _ _ | .msix _ | .invDone _ _ => true
    | .read _ _ _ _ _ | .ats _ _ _ _ _ | .page _ _ _ _ _ => false
  { s with
    pci := { s.pci with held := (s.qos.host.map (fun w => w.req) ++ s.pci.held).filter keep }
    qos := { s.qos with host := [], turns := [] } }

/-- A batch through a warm reset (R469, R493, R495): dispatched instances end, but for staged ones and COLLs that have
committed. -/
def Batch.parked (b : Batch) : Batch :=
  { b with
    insts := b.insts.filter (fun i => i.phase == .staged || i.collCommitted)
    waiting := false, fencing := false, fence := [] }

/-- A batch that the log restores: the sequencer at its newest CKPT entry (R496 step 2); one that had ended stays so unless
instances of it are lost. -/
def Batch.restored (mark : Nat) (b : Batch) : Batch :=
  let lostWork := b.insts.any (fun i => !(i.phase == .staged || i.collCommitted))
  let c := b.parked
  if b.isOver && b.err != 0 && !lostWork then c
  else
    Batch.close { c with
      isOver := false
      reached := max b.reached b.seq.dseq
      seq := if b.ckptLsn = 0 then { mark := mark } else b.ckpt }

/-- A queue through a warm reset (R467): unaccepted batches and recorded tails go. -/
def TQueue.parked (x : TQueue) : TQueue :=
  { x with
    fetch := none, tails := [], last := x.head, regot := []
    batches := (x.batches.filter (fun b => b.accepted)).map (fun b => b.restored x.mark) }

/-- Cores, engines, routers, sequencers and Shoreline ports reset (R806, R807 step 5). -/
def blocksReset (s : State) : State :=
  let s1 := (List.range 8).foldl (fun u p => setPort p (portAt u p).dropped (setF F.SHL_PSTAT.STATE p 0 u)) s
  let s2 := (List.range 16).foldl (fun u c => gateCove c u) s1
  { s2 with
    msh := { seq := s2.msh.seq, isthTrained := s2.msh.isthTrained, isthSpared := s2.msh.isthSpared }
    bead := {}
    xlt := { s2.xlt with waits := [], l1 := [], l2 := [] }
    twy := { s2.twy with reads := [] }
    tq := { s2.tq with
      turn := [], reads := []
      queues := s2.tq.queues.map (fun (e : Nat × TQueue) => (e.1, e.2.parked)) } }

/-- The host port resets (R806): for CAUSE 9 to 11 the SR-IOV, MSI-X and PRI settings go. -/
def portReset (s : State) : State :=
  let t := { s with pci := { s.pci with shadow := [], loHeld := [] } }
  if getF s F.GLB_RSTCAUSE.CAUSE = 8 then t
  else { t with
    pci := { t.pci with unmasked := [], vecPend := [], vfEn := 0 }
    xlt := { t.xlt with priAlloc := [] } }

/-- WARM_RESET (R807 steps 1-5). -/
def warmReset (s : State) : State :=
  let s1 := slackLeave s
  let s2 := if role s1 = 3 then leaseRelease 1 s1 else toSteward mkReset [(1, 1, 1)] [] id s1
  let s3 := setF F.GLB_STATUS.HOST_WAIT 0 1 (bump F.GLB_RSTCAUSE.WARMS 0 s2)
  let s4 := setPhase 4 { s3 with rst := { s3.rst with warm := 2, start := s.time } }
  portReset (dropReceiving (blocksReset (hostHold (memPark s4))))

def execWarmReset (s : State) : Result := .next (onlyIf (s.rst.warm == 1) warmReset s)

/-! ### Return and recovery (R496-R498, R809, R810) -/

/-- Applies the staged effects of a queue whose pairs are durable (R496 step 3). -/
def applyStaged : Nat → Nat → State → State
  | 0, _, s => s
  | fuel + 1, q, s =>
    match oldestStaged (queueAt s q) with
    | none => s
    | some (b, i) => if durable s i.lsn then applyStaged fuel q (applyInst q b i s) else s

/-- Puts of a queue that were released and not acknowledged are released again, with their recorded PSNs (R26, R496 step 5). -/
def releaseAgain (q : Nat) (s : State) : State :=
  (queueAt s q).batches.foldl (fun u b => (b.insts.filter (fun i => i.released)).foldl (fun v i =>
    bump F.HBL_RESEND.COUNT 0 (putOut q (queueAt v q) b i v)) u) s

/-- Puts that a batch will send again with their recorded PSNs (R496 step 5). -/
def Batch.resends (b : Batch) : Nat :=
  ((b.disps.filter (fun d => d.count != 0 && !(b.commits.any (fun c => c.1 == d.dseq)))).map (fun d => d.count)).sum

/-- Invalidations that waited on ended instances complete (R495). -/
def invDrain : Nat → State → State
  | 0, s => s
  | fuel + 1, s => invDrain fuel (invComplete s)

/-- LOG_RECOVERY (R495, R496): the journal is whole in the own area; sequencers stand at their restart points; staged effects
are applied; records of batches without a RETIRE entry are written again. -/
def logRecover (s : State) : State :=
  let s0 := invDrain s.xlt.invs.length { s with hbl := { s.hbl with local_ := jHead s } }
  let qs := s0.tq.queues.map (fun (e : Nat × TQueue) => e.1)
  let s1 := qs.foldl (fun u q => applyStaged (stagedInsts (queueAt u q)).length q (releaseAgain q u)) s0
  let s2 := qs.foldl (fun u q =>
    ((queueAt u q).batches.flatMap (fun b => b.sent)).foldl (fun v r => hostSend r v) u) s1
  let n := (qs.map (fun q => ((queueAt s2 q).batches.map Batch.resends).sum)).sum
  bump F.HBL_RECOVER.COUNT 0 (bumpBy F.HBL_RESEND.COUNT 0 n s2)

/-- The die recovers and is READY again (R807 steps 7 and 8), or stops where an entry fails its CRC in both copies (R498). -/
def recoverDone (bad : Bool) (s : State) : State :=
  if bad then fatal { code := Ev.HBL_CRC } s
  else
    let s1 := logRecover s
    setPhase 3 { s1 with rst := { s1.rst with warm := 0 } }

/-- The die asks its partner whether it has taken over (R809). -/
def takeoverAsk (s : State) : State :=
  twySend (memberMsg s mkQuery (getF s F.HBL_PARTNER.DIE) [] []) { s with rst := { s.rst with warm := 3 } }

/-- WARM_RESET_RETURN (R111, R202, R206, R807 steps 6-8): the Isthmus is trained and LPDDR retrained, by steps 4, 5 and 7, or by
all at a new rate; or retraining has failed on a channel;
ports come up again; then recovery, after the partner's answer where there is a partner (R809, R810). -/
def warmReturn (failed : Option ChanId) (bad : Bool) (s : State) : State :=
  if s.rst.warm = 2 then
    match failed with
    | some n => fatal { code := Ev.MEM_CHDOWN, inst := n } s
    | none =>
      let rate := getF s F.MEM_CFG.RATE
      let steps := if rate = s.mem.rate then [4, 5, 7] else [1, 2, 3, 4, 5, 6, 7]
      let s1 := selfRefreshOff { s with mem := { s.mem with rate := rate, steps := steps } }
      let s2 := setPhase 5 (wakeHeld (portsStart (isthmusTrain s1)))
      if flag s2 F.HBL_PARTNER.VALID then takeoverAsk s2
      else recoverDone bad { s2 with rst := { s2.rst with warm := 3 } }
  else if s.rst.warm = 3 ∧ flag s F.HBL_PARTNER.VALID = false then recoverDone bad s
  else s

def execWarmResetReturn (failed : Option ChanId) (bad : Bool) (s : State) : Result := .next (warmReturn failed bad s)

/-- TAKEOVER_QUERY_ANSWER (R809): the partner has taken over, and the die cold-resets with CAUSE 4; or it has not, and the die
recovers. -/
def execTakeoverQueryAnswer (n : LinkId) (bad : Bool) (s : State) : Result :=
  .next (onlyIf (headRuns s) (memberServe n mkAnswer (fun m u =>
    if u.rst.warm = 3 ∧ m.src = getF u F.HBL_PARTNER.DIE then
      if byteField m.body 1 1 = 1 then post { code := Ev.GLB_TAKENOVER, inst := m.src } (coldReset 4 u) else recoverDone bad u
    else u)) s)

/-- HOST_GO (R811). -/
def execHostGo (s : State) : Result :=
  .next (onlyIf (barOpen s) (fun u => hostFlush (setF F.GLB_STATUS.HOST_WAIT 0 0 u)) s)

/-! ### Leaving and rejoining (R819-R821) -/

/-- The die begins to leave (R819): acceptance is withheld, its clients get other partners, as steward it releases the
lease. -/
def leaveStart (s : State) : State :=
  let s1 := toSteward mkDeparture [] [] (stewLeaving (ownDie s)) (setF F.GLB_STATUS.LEAVING 0 1 s)
  if role s1 = 3 then leaseRelease 1 s1 else s1

def execLeave (s : State) : Result :=
  .next (onlyIf (barOpen s && !flag s F.GLB_STATUS.LEAVING && !flag s F.GLB_STATUS.LEFT) leaveStart s)

/-- No batch is live (R462, R819). -/
def noBatches (s : State) : Bool := s.tq.queues.all (fun (e : Nat × TQueue) => e.2.batches.all (fun b => !b.accepted))

/-- LEAVE_COMPLETE (R819, R820). -/
def leaveComplete (s : State) : State :=
  shutLinks (setF F.GLB_STATUS.LEFT 0 1 (toSteward mkDeparture [(1, 1, 1)] [] (stewLeft (ownDie s)) s))

def execLeaveComplete (s : State) : Result :=
  .next (onlyIf (barOpen s && flag s F.GLB_STATUS.LEAVING && !flag s F.GLB_STATUS.LEFT && noBatches s) leaveComplete s)

/-- REJOIN (R817, R821). -/
def rejoin (s : State) : State :=
  joinAsk (setMember (ownDie s) false (setF F.GLB_STATUS.LEFT 0 0 (setF F.GLB_STATUS.LEAVING 0 0 s)))

def execRejoin (s : State) : Result := .next (onlyIf (barOpen s && flag s F.GLB_STATUS.LEFT) rejoin s)

/-! ### REFCLK_TWY (R788, R896) -/

/-- REFCLK_TWY_LOSS: every link goes down; before Headland's start the loss is reported there (R788). -/
def clockLoss (s : State) : State :=
  if s.twy.noClock then s
  else
    let s1 := (List.range 24).foldl (fun u n => if linkState u n = 0 then u else linkDown n false u) s
    let s2 := { s1 with twy := { s1.twy with noClock := true } }
    if headRuns s then post { code := Ev.GLB_NOTWYCLK } s2 else s2

def execRefclkTwyLoss (s : State) : Result := .next (clockLoss s)

/-- REFCLK_TWY_RETURN: each link re-enters DETECT after tHOLD (TWY_HOLD_EXPIRY). -/
def execRefclkTwyReturn (s : State) : Result := .next { s with twy := { s.twy with noClock := false } }

end Sys2Proof.Machine
end

