-- ==== Sys2Proof/Machine/Firmware.lean ====
section
/-! DEFINITION. Firmware update and recovery (R824-R859): staging over the FWU window and over PLDM, the scheduled activation
that the steward runs, ROM recovery. ERR codes are those of FWU_STAT. -/

namespace Sys2Proof.Machine

/-! ### Commands of the FWU window (R836-R838, R859) -/

/-- A command of the FWU window: discarded with a NOTE while one runs; else its effect, with the ERR and the component that
its completion shows (log entry 96). -/
def fwuCommand (f : State → Nat × Nat × State) (s : State) : State :=
  if !glbOpen s then s
  else if flag s F.FWU_STAT.BUSY then post { code := Ev.FWU_BUSY } s
  else
    let (err, comp, s1) := f s
    setF F.FWU_STAT.BUSY 0 1 { s1 with fwu := { s1.fwu with cmd := some (err, comp) } }

/-- The activation state (R844). -/
def actState (s : State) : Nat := getF s F.FWU_ACTST.STATE

/-- ROM recovery runs (R852). -/
def inRecovery (s : State) : Bool := phase s == 7

/-- BEGIN, CHUNK and CANCEL are refused with STATE (R848); recovery accepts images whatever the marker (R855). -/
def frozen (s : State) : Bool := actState s != 0 && !inRecovery s

/-- The place of the active area that an image received in recovery goes to: for LOADER an invalid copy, else the one that is
not the newer (R845, R855). -/
def recoveryPlace (s : State) (k : Nat) : Nat :=
  if k ≠ 2 then k
  else if !activeOk s 2 then 2
  else if !activeOk s 7 then 7
  else if loaderCopy s = some 2 then 7 else 2

/-- The image of a component as received so far. -/
def received (s : State) (k : Nat) : List Byte :=
  if inRecovery s then mapGet s.fwu.active (recoveryPlace s k) [] else stagedOf s k

/-- Stores an image where it is received. -/
def putReceived (k : Nat) (im : List Byte) (s : State) : State :=
  if inRecovery s then { s with fwu := { s.fwu with active := mapIns s.fwu.active (recoveryPlace s k) im } }
  else showFwu { s with fwu := { s.fwu with staged := mapSet s.fwu.staged k [] im } }

/-- Sets the update session. -/
def setSession (x : Option (Option Transport × Nat)) (s : State) : State := { s with fwu := { s.fwu with session := x } }

/-- The outcome of a component's reception: its state, but in recovery the staged copy's state stays (log entry 99). -/
def setOutcome (k st : Nat) (err : Option Nat) (s : State) : State :=
  if inRecovery s then (match err with | some e => setF F.FWU_COMPST.LASTERR k e s | none => s)
  else setComp k st err s

/-- Starts receiving a component: its region is erased (R837). -/
def startComp (k : Nat) (s : State) : State := setOutcome k 1 none (setF F.FWU_COMPST.VERSION k 0 (putReceived k [] s))

/-- Erases a component's region (R837). -/
def eraseComp (k : Nat) (s : State) : State := setOutcome k 0 none (setF F.FWU_COMPST.VERSION k 0 (putReceived k [] s))

/-- The header check of a component's image (R830, R855). -/
def headCheck (s : State) (k : Nat) (im : List Byte) : Nat :=
  let h := imgHead im
  let e := headErr s (if inRecovery s then hFromMin h else runBundle s) h
  if e = 0 ∧ hComponent h ≠ k then 2 else e

/-- Bytes of an image arrive in order; the header is checked once it is whole (R830): the error, or 0. -/
def takeBytes (k : Nat) (bs : List Byte) (s : State) : Nat × State :=
  let im := received s k
  let im' := im ++ bs
  if im.length < 512 ∧ 512 ≤ im'.length then
    let e := headCheck s k im'
    if e ≠ 0 then (e, setOutcome k 3 (some e) (putReceived k [] s))
    else (0, setF F.FWU_COMPST.VERSION k (hVersion (imgHead im')) (putReceived k im' s))
  else (0, putReceived k im' s)

/-- All bytes are there: the payload's check and the component's outcome (R831, R837). -/
def finishComp (k : Nat) (s : State) : Nat × State :=
  let e := bodyErr (received s k)
  (e, if e = 0 then setOutcome k 2 none s else setOutcome k 3 (some e) s)

/-- FWU_BEGIN (R836, R837, R848). -/
def fwuBegin (s : State) : Nat × Nat × State :=
  let k := getF s F.FWU_ARG.VALUE 0
  if frozen s then (7, 0, s)
  else if s.fwu.session.isSome then (12, 0, s)
  else if k = 0 ∨ 6 < k then (2, 0, s)
  else (0, k, setSession (some (none, k)) (startComp k s))

def execFwuBegin (s : State) : Result := .next (fwuCommand fwuBegin s)

/-- Bytes of the chunk window. -/
def winBytes (s : State) (n : Nat) : List Byte :=
  (List.range (n / 4)).flatMap (fun i => bytesOf (getReg s .FWU_WIN i) 4)

/-- FWU_CHUNK (R830, R838, R848; log entry 99). -/
def fwuChunk (s : State) : Nat × Nat × State :=
  match s.fwu.session with
  | some (none, k) =>
    let n := getF s F.FWU_LEN.BYTES
    let have_ := (received s k).length
    if frozen s ∨ n = 0 ∨ getF s F.FWU_OFFSET.BYTES ≠ have_
        ∨ (512 ≤ have_ ∧ 512 + hImgLen (imgHead (received s k)) < have_ + n) then (7, k, s)
    else
      let (e, s1) := takeBytes k (winBytes s n) s
      (e, k, if e = 0 then s1 else setSession none s1)
  | _ => (7, 0, s)

def execFwuChunk (s : State) : Result := .next (fwuCommand fwuChunk s)

/-- FWU_END (R831, R837). -/
def fwuEnd (s : State) : Nat × Nat × State :=
  match s.fwu.session with
  | some (none, k) =>
    if frozen s ∨ imgWhole (received s k) = false then (7, k, s)
    else
      let (e, s1) := finishComp k s
      (e, k, setSession none s1)
  | _ => (7, 0, s)

def execFwuEnd (s : State) : Result := .next (fwuCommand fwuEnd s)

/-- FWU_CANCEL (R837, R848): the component of the session, else the one ARG0 names (log entry 99). -/
def fwuCancel (s : State) : Nat × Nat × State :=
  if frozen s then (7, 0, s)
  else
    match s.fwu.session with
    | some (some _, _) => (12, 0, s)
    | some (none, k) => (0, k, setSession none (eraseComp k s))
    | none =>
      let k := getF s F.FWU_ARG.VALUE 0
      if k = 0 ∨ 6 < k then (2, 0, s) else (0, k, eraseComp k s)

def execFwuCancel (s : State) : Result := .next (fwuCommand fwuCancel s)

/-- FWU_COMMAND_COMPLETE (R837, R859): `flash` tells that a flash write of the command failed. -/
def fwuComplete (flash : Bool) (s : State) : State :=
  match s.fwu.cmd with
  | none => s
  | some (err, k) =>
    let bad := flash && s.fwu.session == some (none, k) && k != 0
    let s1 := if bad then setSession none (setOutcome k 3 (some 10) s) else s
    setF F.FWU_STAT.DONE 0 1 (setF F.FWU_STAT.BUSY 0 0 (setF F.FWU_STAT.ERR 0 (if bad then 10 else err)
      { s1 with fwu := { s1.fwu with cmd := none } }))

def execFwuCommandComplete (flash : Bool) (s : State) : Result := .next (fwuComplete flash s)

/-- FWU_RECOV_EXIT (R856): the markers end with it (log entry 99). -/
def recovExit (s : State) : State :=
  if inRecovery s && !flag s F.FWU_STAT.BUSY && allActiveOk s then
    commandedCold 3 { s with fwu := { s.fwu with marker := 0, boots := 0, newHead := true } }
  else fwuCommand (fun u => (if inRecovery u then 11 else 7, 0, u)) s

def execFwuRecovExit (s : State) : Result := .next (recovExit s)

/-! ### Activation as the steward runs it (R841-R843, R846, R847) -/

/-- Replaces the rollout that the steward runs. -/
def setRollout (r : Rollout) (s : State) : State := setStew { s.hld.stew with rollout := r } s

/-- What this die would report of itself. -/
def ownFleet (s : State) : FleetReport :=
  { die := Fin.ofNat 32 (ownDie s)
    staged := if stagedComplete s then
      some (BitVec.ofNat 24 (hBundle (stagedHead s 1)), BitVec.ofNat 24 (hPeerMin (stagedHead s 1))) else none
    running := BitVec.ofNat 24 (runBundle s) }

/-- The enrolled members of the tray. -/
def trayMembers (s : State) : List Nat :=
  (List.range 32).filter (fun d => dieTray d == dieTray (ownDie s) && (getReg s .HLD_MEMBERS 0).getLsbD d)

/-- Every die of a scope has one staged bundle with which every member interoperates (R842). -/
def fleetOk (s : State) (scope : List Nat) (fleet : List FleetReport) : Bool :=
  let all := ownFleet s :: fleet.filter (fun r => r.die.val != ownDie s)
  let at_ := fun (d : Nat) => all.find? (fun r => r.die.val == d)
  match (scope.head?).bind at_ |>.bind (fun r => r.staged) with
  | none => false
  | some (bundle, peer) =>
    scope.all (fun d => match at_ d with
        | some r => (match r.staged with | some (x, _) => x == bundle | none => false)
        | none => false)
      && (trayMembers s).all (fun d => match at_ d with | some r => decide (peer.toNat ≤ r.running.toNat) | none => false)

/-- The steward takes an ACTIVATE of die d (R842): the error, or 0 with every die in scope armed. -/
def activateHere (d : Nat) (wide : Bool) (fleet : List FleetReport) (s : State) : Nat × State :=
  let scope := if wide then trayMembers s else [d]
  let r := s.hld.stew.rollout
  if !s.hld.stew.ready ∨ r.turn.isSome ∨ r.armed ≠ [] then (7, s)
  else if !fleetOk s scope fleet then (11, s)
  else (0, scope.foldl (fun u k => decideAll 9 k 0 u) (setRollout { armed := scope } s))

/-- ACTIVATE (R841): here where this die is steward, else forwarded; with no steward known it completes with STATE. -/
def activate (wide : Bool) (delay : Nat) (fleet : List FleetReport) (s : State) : Nat × State :=
  if role s = 3 then activateHere (ownDie s) wide fleet s
  else if flag s F.HLD_ROLE.SVALID then (0, toSteward mkActivate [(1, 1, boolNat wide), (4, 4, delay)] [] id s)
  else (7, s)

/-- FWU_ACTIVATE: ARG0[0] is SCOPE, ARG1 DELAY_S; `fleet` is what the steward knows of the other members. -/
def execFwuActivate (fleet : List FleetReport) (s : State) : Result :=
  .next (fwuCommand (fun u =>
    if inRecovery u then (7, 0, u)
    else
      let (e, u1) := activate (bitAt (getReg u .FWU_ARG 0) 0) (getF u F.FWU_ARG.VALUE 1) fleet u
      (e, 0, u1)) s)

/-- ACTIVATE_FORWARD_RECEIVE (R842). -/
def execActivateForwardReceive (n : LinkId) (fleet : List FleetReport) (s : State) : Result :=
  .next (onlyIf (headRuns s) (memberServe n mkActivate (fun m u =>
    if role u = 3 then (activateHere m.src (byteField m.body 1 1 == 1) fleet u).2 else u)) s)

/-- A die no longer takes part in the rollout: its turn is done, or it has cancelled. -/
def turnOver (d : Nat) (s : State) : State :=
  let r := s.hld.stew.rollout
  let r1 : Rollout := { armed := r.armed.filter (fun k => k != d), turn := if r.turn = some d then none else r.turn }
  let s1 := decideAll 12 d 0 (setRollout r1 s)
  if r1 = {} ∧ r ≠ {} then decideAll 13 d 0 s1 else s1

/-- TURN_DONE_RECEIVE (R843). -/
def execTurnDoneReceive (n : LinkId) (s : State) : Result :=
  .next (onlyIf (headRuns s) (memberServe n mkTurnDone (fun m u => if role u = 3 then turnOver m.src u else u)) s)

/-! ### Activation on a die (R844) -/

/-- Records the activation state with its marker. -/
def setAct (st marker : Nat) (s : State) : State :=
  setF F.FWU_ACTST.STATE 0 st { s with fwu := { s.fwu with marker := marker } }

/-- The turn that the steward has started for this die (R843, R844, R847): a staged set that passes begins the drain. -/
def turnObey (s : State) : State :=
  if !s.fwu.turnDue then s
  else
    let s1 := { s with fwu := { s.fwu with turnDue := false } }
    if actState s1 ≠ 1 then s1
    else if stagedPass s1 then setF F.FWU_ACTST.STATE 0 2 (leaveStart s1)
    else
      let s2 := if role s1 = 3 then leaseRelease 1 s1 else s1
      post { code := Ev.FWU_ACTFAIL } (setAct 0 0 s2)

/-- STEWARD_DECISION_RECEIVE (R508). -/
def execStewardDecisionReceive (n : LinkId) (s : State) : Result :=
  .next (onlyIf (headRuns s) (memberServe n mkDecision (fun m u =>
    turnObey (decisionTake (byteField m.body 4 4) (byteField m.body 8 1) (byteField m.body 9 1 % 32) (byteField m.body 10 4) u))) s)

/-- The next die whose turn it is: ascending slots, the steward last (R843). -/
def nextTurn (s : State) : Option Nat :=
  match ((List.range 32).filter (fun d => s.hld.stew.rollout.armed.contains d && d != ownDie s)) with
  | d :: _ => some d
  | [] => s.hld.stew.rollout.armed.head?

/-- FWU_TURN_START (R843, R847): DELAY_S has elapsed and the other members are mirrored or have no eligible partner, which
this die checks of itself (log entry 99). -/
def turnStart (s : State) : State :=
  match nextTurn s with
  | none => s
  | some d =>
    if s.hld.stew.rollout.turn.isSome ∨ (d ≠ ownDie s ∧ mirrored s = false ∧ (partnerFor s (ownDie s)).isSome) then s
    else
      let r := s.hld.stew.rollout
      turnObey (decideAll 10 d 0 (setRollout { armed := r.armed.filter (fun k => k != d), turn := some d } s))

def execFwuTurnStart (s : State) : Result := .next (onlyIf (acts s) turnStart s)

/-- FWU_TURN_TIMEOUT (R846). -/
def turnTimeout (s : State) : State :=
  match s.hld.stew.rollout.turn with
  | none => s
  | some d =>
    let s1 := post { code := Ev.FWU_HALT, inst := d } (setF F.FWU_ACTST.HALTED 0 1 s)
    let s2 := s.hld.stew.rollout.armed.foldl (fun u k => decideAll 11 k 0 u) s1
    decideAll 13 d 0 (setRollout {} s2)

def execFwuTurnTimeout (s : State) : Result := .next (onlyIf (acts s) turnTimeout s)

/-- FWU_ACT_CANCEL (R844): the steward hears of it (log entry 99). -/
def execFwuActCancel (s : State) : Result :=
  .next (fwuCommand (fun u =>
    if actState u = 1 then
      (0, 0, toSteward mkTurnDone [(1, 1, 2)] [] (turnOver (ownDie u))
        (setAct 0 0 { u with fwu := { u.fwu with turnDue := false } }))
    else (7, 0, u)) s)

/-- FWU_DRAIN_END (R844, R845): LEFT reads 1, or DRAIN_S has elapsed. -/
def drainEnd (s : State) : State :=
  if actState s = 2 then
    let s1 := setAct 3 2 s
    { s1 with fwu := { s1.fwu with loader := (loaderCopy s).getD 2 } }
  else s

def execFwuDrainEnd (s : State) : Result := .next (onlyIf (headRuns s) drainEnd s)

/-- The first staged image that R831 finds wrong, with its error. -/
def stagedBad (s : State) : Option (Nat × Nat) :=
  (List.range' 1 6).findSome? (fun k =>
    let im := stagedOf s k
    let e := if imgWhole im then bodyErr im else 9
    if e = 0 then none else some (k, e))

/-- The staged images in the active area: LOADER goes to the copy that does not run (R845). -/
def activeAfter (s : State) : Map (List Byte) :=
  (List.range' 1 6).foldl (fun m k =>
    mapIns m (if k = 2 then (if s.fwu.loader = 2 then 7 else 2) else k) (stagedOf s k)) s.fwu.active

/-- FWU_OVERWRITE_DONE (R844, R845, R854): every staged image is in its active place and verified; the die boots the new
bundle. -/
def overwriteDone (s : State) : State :=
  if s.fwu.marker ≠ 2 ∨ (inRecovery s = true ∧ getF s F.FWU_RECOV.REASON ≠ 3) then s
  else
    match stagedBad s with
    | some (k, e) => setF F.FWU_COMPST.LASTERR k e s
    | none =>
      commandedCold 3 { s with fwu := { s.fwu with active := activeAfter s, newHead := true, marker := 3, boots := 0 } }

def execFwuOverwriteDone (s : State) : Result := .next (overwriteDone s)

/-- Every image of the staged set advances the root and is signed by the current and the next slot (R835). -/
def rootAdvances (s : State) : Bool :=
  match currentRoot s with
  | none => false
  | some r => (List.range' 1 6).all (fun k =>
      let h := stagedHead s k
      hAdvance h && hNsig h == 2 && (List.range 2).any (fun b => sigSlot h b == r)
        && (List.range 2).any (fun b => sigSlot h b == r + 1))

/-- FWU_ACTIVATION_DONE (R834, R835, R844): PHASE 3 is reached, and the die is mirrored or has no eligible partner. -/
def activationDone (alone : Bool) (s : State) : State :=
  if actState s ≠ 4 ∨ phase s ≠ 3 ∨ (mirrored s = false ∧ alone = false) then s
  else
    let s1 := setF F.FWU_SVN.FUSED 0 (max (getF s F.FWU_SVN.FUSED) (hSvn (stagedHead s 1))) s
    let s2 := if rootAdvances s then
      setF F.FWU_ROOT.REVOKED 0 (getF s F.FWU_ROOT.REVOKED ||| 2 ^ (currentRoot s).getD 0) s1 else s1
    let s3 := (List.range' 1 6).foldl (fun u k => setReg .FWU_COMPST k 0 u) { s2 with fwu := { s2.fwu with staged := [] } }
    toSteward mkTurnDone [(1, 1, 1)] [] (turnOver (ownDie s)) (showFwu (setAct 0 0 s3))

def execFwuActivationDone (alone : Bool) (s : State) : Result := .next (activationDone alone s)

/-! ### PLDM for Firmware Update (R840, R855) -/

/-- Sends a PLDM message. -/
def pldmSay (t : Transport) (a : PldmAns) (s : State) : State := { s with out := s.out ++ [.pldm t a] }

/-- How many bytes the next RequestFirmwareData asks for: 512 first, then up to 1,024 (R840). -/
def pldmNext (s : State) (k : Nat) : Nat :=
  let n := (received s k).length
  if n < 512 then 512 - n else min 1024 (512 + hImgLen (imgHead (received s k)) - n)

/-- Asks for the next bytes of a component. -/
def pldmAsk (t : Transport) (k : Nat) (s : State) : State := pldmSay t (.requestData (received s k).length (pldmNext s k)) s

/-- UpdateComponent (R837, R840). -/
def pldmUpdate (t : Transport) (k : Nat) (s : State) : State :=
  if s.fwu.session ≠ some (some t, 0) ∨ frozen s = true then pldmSay t (.updateComponent 7) s
  else if k = 0 ∨ 6 < k then pldmSay t (.updateComponent 2) s
  else pldmAsk t k (pldmSay t (.updateComponent 0) (setSession (some (some t, k)) (startComp k s)))

/-- Data that answers RequestFirmwareData: early refusal after the header, R831 after the last byte (R840). -/
def pldmData (t : Transport) (bs : List Byte) (flash : Bool) (s : State) : State :=
  match s.fwu.session with
  | some (some u, k) =>
    if u ≠ t ∨ k = 0 ∨ bs = [] ∨ pldmNext s k < bs.length then s
    else if frozen s then pldmSay t (.transferComplete 7) s
    else if flash then pldmSay t (.transferComplete 10) (setSession (some (some t, 0)) (setOutcome k 3 (some 10) s))
    else
      let (e, s1) := takeBytes k bs s
      if e ≠ 0 then pldmSay t (.transferComplete e) (setSession (some (some t, 0)) s1)
      else if imgWhole (received s1 k) then
        let (e2, s2) := finishComp k s1
        let s3 := pldmSay t (.verifyComplete e2) (pldmSay t (.transferComplete 0) (setSession (some (some t, 0)) s2))
        if e2 = 0 then pldmSay t (.applyComplete 0) s3 else s3
      else pldmAsk t k s1
  | _ => s

/-- A session over transport t is open. -/
def pldmOpen (t : Transport) (s : State) : Bool := match s.fwu.session with | some (some u, _) => u == t | _ => false

/-- A PLDM command (R840); `fleet` is what the steward knows of the other members, `flash` a failed flash write. -/
def pldm (t : Transport) (c : PldmCmd) (fleet : List FleetReport) (flash : Bool) (s : State) : State :=
  match c with
  | .queryIdentifiers => pldmSay t (.identifiers (getReg s .GLB_ID 0)) s
  | .getParameters =>
    let run := (List.range' 1 6).map (fun k => BitVec.ofNat 24 (activeVersion s (activePlace s k)))
    let stg := (List.range' 1 6).map (fun k => BitVec.ofNat 24 (getF s F.FWU_COMPST.VERSION k))
    pldmSay t (.parameters run stg) s
  | .requestUpdate =>
    if s.fwu.session.isSome then pldmSay t (.requestUpdate 12) s
    else pldmSay t (.requestUpdate 0) (setSession (some (some t, 0)) s)
  | .passTable comps =>
    pldmSay t (.passTable (if !pldmOpen t s then 7 else if comps.all (fun k => 1 ≤ k.val && k.val ≤ 6) then 0 else 2)) s
  | .updateComponent k => pldmUpdate t k.val s
  | .firmwareData bs => pldmData t bs flash s
  | .activate =>
    if !pldmOpen t s ∨ inRecovery s = true then pldmSay t (.activate 7) s
    else
      let (e, s1) := activate false 0 fleet s
      pldmSay t (.activate e) (if e = 0 then setSession none s1 else s1)
  | .cancelComponent =>
    match s.fwu.session with
    | some (some u, k) =>
      if u ≠ t ∨ k = 0 ∨ frozen s = true then pldmSay t (.cancelComponent 7) s
      else pldmSay t (.cancelComponent 0) (setSession (some (some t, 0)) (eraseComp k s))
    | _ => pldmSay t (.cancelComponent 7) s
  | .cancelUpdate =>
    match s.fwu.session with
    | some (some u, k) =>
      if u ≠ t then pldmSay t (.cancelUpdate 7) s
      else pldmSay t (.cancelUpdate 0) (setSession none (if k = 0 ∨ frozen s = true then s else eraseComp k s))
    | _ => pldmSay t (.cancelUpdate 7) s

/-- A PLDM command over a transport that is in use, while Headland's firmware or ROM answers. -/
def pldmOver (t : Transport) (c : PldmCmd) (fleet : List FleetReport) (flash : Bool) (s : State) : Result :=
  .next (onlyIf (headAnswers s && sidebandUp s t) (pldm t c fleet flash) s)

def execPldmRequestUpdate (t : Transport) (s : State) : Result := pldmOver t .requestUpdate [] false s
def execPldmPassComponentTable (t : Transport) (comps : List (Fin 8)) (s : State) : Result :=
  pldmOver t (.passTable comps) [] false s
def execPldmUpdateComponent (t : Transport) (comp : Fin 8) (s : State) : Result :=
  pldmOver t (.updateComponent comp) [] false s
def execPldmFirmwareData (t : Transport) (bytes : List Byte) (flash : Bool) (s : State) : Result :=
  pldmOver t (.firmwareData bytes) [] flash s
def execPldmActivateFirmware (t : Transport) (fleet : List FleetReport) (s : State) : Result :=
  pldmOver t .activate fleet false s
def execPldmCancelUpdateComponent (t : Transport) (s : State) : Result := pldmOver t .cancelComponent [] false s
def execPldmCancelUpdate (t : Transport) (s : State) : Result := pldmOver t .cancelUpdate [] false s
def execQueryDeviceIdentifiers (t : Transport) (s : State) : Result := pldmOver t .queryIdentifiers [] false s
def execGetFirmwareParameters (t : Transport) (s : State) : Result := pldmOver t .getParameters [] false s

/-! ### MCTP messages (R778, R779) -/

/-- An MCTP message is dispatched by its type, or discarded; a secured message needs a session (R746). -/
def mctpTake (t : Transport) (m : MctpBody) (s : State) : State :=
  let eid := fun (u : State) => mapGet u.hld.eid t.num 0
  let say := fun (u : State) => { u with out := u.out ++ [.mctp t (eid u)] }
  match m with
  | .setEid e => say { s with hld := { s.hld with eid := mapSet s.hld.eid t.num 0 e } }
  | .getEid | .control | .vendorPci => say s
  | .pldm c fleet => pldm t c fleet false s
  | .spdm r => spdmRequest (.mctp t r) s
  | .secured r => if (spdmAt s t.num).session.isSome then spdmRequest (.mctp t r) s else s
  | .other _ => s

def execMctpMessage (t : Transport) (m : MctpBody) (s : State) : Result :=
  .next (onlyIf (headAnswers s && sidebandUp s t) (mctpTake t m) s)

end Sys2Proof.Machine
end

