-- ==== Sys2Proof/Machine/Regulation.lean ====
section
/-! DEFINITION. Regulation as time passes (14): bucket refill, use and clamp windows, guarantee-miss windows, pacing of
prefetch, Isthmus use. The order of service itself is in Machine/Qos.lean. -/

namespace Sys2Proof.Machine

/-- The units of a resource. -/
def qosUnits (r : Nat) : List Nat := List.range ([12, 24, 1].getD r 1)

/-- One tick's gain and the limit of a bucket in twelfths of a byte: a controller's bucket is one twelfth (R661). -/
def bucketGain (s : State) (r c : Nat) : Nat × Nat :=
  let k := if r = 0 then 1 else 12
  (getF s F.QOS_TOKA.RATE (16 * r + c) * 10 * k, getF s F.QOS_TOKA.BURST (16 * r + c) * 1024 * k)

/-- Serves what waits at the links and the host port. -/
def qosServe (s : State) : State :=
  let s1 := (List.range 24).foldl (fun u n => twyFlush n u) s
  if hostOpen s1 then hostPump (s1.qos.host.length + 1) s1 else s1

/-- QOS_TOKEN_TICK (R661). -/
def tokenTick (s : State) : State :=
  let gain := fun (u : State) (r c : Nat) =>
    let (g, cap) := bucketGain s r c
    if g = 0 then u
    else (qosUnits r).foldl (fun v j =>
      { v with qos := { v.qos with tokens := mapSet v.qos.tokens (qosKey r j c) 0 (min cap (tokens v r j c + g)) } }) u
  qosServe ((List.range 3).foldl (fun u r => (List.range 16).foldl (fun v c => gain v r c) u) s)

def execQosTokenTick (s : State) : Result := onFrame s tokenTick

/-- The classes of the requests that have waited at a unit since the present window began. -/
def waitingClasses (s : State) (r j : Nat) : List Nat :=
  let since := fun (arr : Nat) => decide (arr ≤ s.qos.winAt)
  match r with
  | 0 => ((memReqs s j).filter (fun q => since q.arr)).map (fun q => q.cls)
  | 1 => ((linkAt s j).txq.filter (fun t => t.sent == 0 && regulated t.msg && since t.arr)).map (fun t => twyClass s t.msg)
  | _ => (s.qos.host.filter (fun w => since w.arr)).filterMap (fun w => w.cls)

/-- A class waits with requests that only the limit of step 3 holds (R664). -/
def heldByMax (s : State) (r c : Nat) : Bool :=
  (qosUnits r).any (fun j => (waitingClasses s r j).contains c && !holdsTokens s r j c && !belowMax s r j c)

/-- QOS_WINDOW (R663-R665): clamps begin or end, and the use of every class starts anew. -/
def qosWindow (s : State) : State :=
  let s1 := (List.range 3).foldl (fun u r => (List.range 16).foldl (fun v c =>
    clampSet 5 (16 * r + c) (heldByMax s r c) v) u) s
  qosServe { s1 with qos := { s1.qos with used := [], winAt := s1.time } }

def execQosWindow (s : State) : Result := onFrame s qosWindow

/-- QOS_MISS_WINDOW (R670): a class with more than MISSLIM misses in the window. -/
def missWindow (s : State) : State :=
  let s1 := s.qos.winMiss.foldl (fun u (e : Nat × Nat) =>
    if getF s F.QOS_CTL.MISSLIM < e.2 then
      let u1 := post { code := Ev.QOS_GMISS, inst := e.1, d0 := e.2, d1 := boolNat (mapGet s.qos.winOver e.1 false) } u
      if flag s F.QOS_TOKB.MISSIRQ e.1 then raisePend false u1 else u1
    else u) s
  { s1 with qos := { s1.qos with winMiss := [], winOver := [] } }

def execQosMissWindow (s : State) : Result := onFrame s missWindow

/-- QOS_PACE_WINDOW (R672): for each port the percentage of frame-clock cycles in which its compute die held no request
credit. -/
def execQosPaceWindow (pct : List (Fin 101)) (s : State) : Result :=
  onFrame s (fun u => { u with qos := { u.qos with
    paced := (List.range 8).any (fun p => decide (getF u F.QOS_PACE.BPPCT < ((pct.map (fun x => x.val)).getD p 0))) } })

/-- QOS_ISTHMUS_WINDOW (R673, R674): the window had this many frame-clock cycles. The counts that the window began with are
kept; a count that software has cleared since counts from zero. -/
def isthUseWindow (cycles : Nat) (s : State) : State :=
  let a := get64 s .MSH_ISTHS2N_LO .MSH_ISTHS2N_HI 0
  let b := get64 s .MSH_ISTHN2S_LO .MSH_ISTHN2S_HI 0
  let diff := fun (now was : Nat) => if was ≤ now then now - was else now
  let busy := max (diff a s.qos.isthS2N) (diff b s.qos.isthN2S)
  let pct := if cycles = 0 then 0 else min 100 (busy * 100 / (48 * cycles))
  let ago := s.qos.hotAgo.map (fun n => n + 1)
  let hot := flag s F.QOS_STATUS.ISTH_HOT
  let s1 := setF F.QOS_ISTHUSE.PCT 0 pct { s with qos := { s.qos with isthS2N := a, isthN2S := b, hotAgo := ago } }
  if 90 ≤ pct then
    let s2 := setF F.QOS_STATUS.ISTH_HOT 0 1 s1
    let may := match ago with | none => true | some n => decide (100 ≤ n)
    if !hot && may then
      post { code := Ev.QOS_ISTHHOT, d0 := pct } { s2 with qos := { s2.qos with hotAgo := some 0 } }
    else s2
  else if pct < 75 then setF F.QOS_STATUS.ISTH_HOT 0 0 s1
  else s1

def execQosIsthmusWindow (cycles : BitVec 32) (s : State) : Result := onFrame s (isthUseWindow cycles.toNat)

/-- QOS_CNTCLR (R687). -/
def execQosCntclr (s : State) : Result :=
  .next (onlyIf (barOpen s) (clearRegs [.QOS_MISS, .QOS_MISSOVR, .QOS_CLAMPDUR]) s)

end Sys2Proof.Machine
end

