-- ==== Sys2Proof/Machine/HostRegs.lean ====
section
/-! DEFINITION. Register accesses of the host (R5-R15, R230, R629, R630, R653, R798, R815, R853, R866, R871, R883, R884):
where an offset leads, what a function reads there, what a write does. -/

namespace Sys2Proof.Machine

/-! ### Where an offset leads -/

/-- The index of a register's row at an offset of BAR0, if the offset lies on one. -/
def RegInfo.at (x : RegInfo) (off : Nat) : Option Nat :=
  if off < x.off then none
  else
    let d := off - x.off
    let o := if x.stride = 0 then 0 else d / x.stride
    let rem := d - o * x.stride
    let i := if x.istride = 0 then 0 else rem / x.istride
    if x.first ≤ o ∧ o < x.count ∧ i < x.icount ∧ rem = i * x.istride then some (o * x.icount + i) else none

/-- The register at an offset of BAR0, with its index. -/
def regFind : List RegInfo → Nat → Option (Reg × Nat)
  | [], _ => none
  | x :: rest, off =>
    match x.at off with
    | some i => some (x.reg, i)
    | none => regFind rest off

/-- The block of an offset of BAR0 (R5). -/
def blockOf (off : Nat) : Nat := off / 0x100000

/-- An offset in the GLB block, and in the FWU block. -/
def inGlb (off : Nat) : Bool := blockOf off == 0
def inFwu (off : Nat) : Bool := blockOf off == 16

/-- The device answers reads at an offset of BAR0: the GLB block always, the rest in PHASE 3 to 5, FWU in PHASE 7
(R798, R815, R853; log entry 13). -/
def readOpen (s : State) (off : Nat) : Bool := inGlb off || barOpen s || (phase s == 7 && inFwu off)

/-- The device takes writes at an offset of BAR0 (R798, R815, R853). -/
def writeOpen (s : State) (off : Nat) : Bool := barOpen s || (phase s == 7 && (inGlb off || inFwu off))

/-- The rings' registers are each function's own (19). -/
def ownRing (r : Reg) : Bool :=
  match r with
  | .EVT_CTL | .EVT_STAT | .EVT_HEAD | .EVT_TAIL | .EVT_LOST | .EVT_CNTCLR => true
  | _ => false

/-- The index at which function f finds a register. -/
def ownIndex (f : Nat) (r : Reg) (i : Nat) : Nat := if ownRing r then f else i

/-- Function f reads a register (R230, R629, the text of 19's EVT registers). -/
def mayRead (f off : Nat) (r : Reg) : Bool :=
  f == 0 || inGlb off || ownRing r ||
    (match r with
     | .EVT_ID | .EVT_REC | .PCI_SELFQ | .PCI_SELFWIN => true
     | _ => false)

/-- Function f writes a register: of a virtual function's writes only those to its own ring registers count (R230, R629). -/
def mayWrite (f : Nat) (r : Reg) : Bool := f == 0 || ownRing r

/-! ### What a register reads as (R8) -/

/-- The duration of the longest present clamp of a loop in ms, or what the last one left (R609, R665, R727). -/
def clampShown (s : State) (loop : Nat) (p : Nat → Bool) (kept : BitVec 32) : BitVec 32 :=
  match clampMs s loop p with
  | some ms => BitVec.ofNat 32 ms
  | none => kept

/-- TWY_CLAMPDUR and QOS_CLAMPDUR as they read (R609, R665). -/
def twyClampDur (s : State) (n : Nat) : BitVec 32 := clampShown s 1 (fun i => i == n) (getReg s .TWY_CLAMPDUR n)
def qosClampDur (s : State) (r : Nat) : BitVec 32 := clampShown s 5 (fun i => i / 16 == r) (getReg s .QOS_CLAMPDUR r)

/-- The largest of some 32-bit values. -/
def maxOf (vs : List (BitVec 32)) : BitVec 32 := vs.foldl (fun b v => if b.toNat < v.toNat then v else b) 0

/-- BRK_CLAMPDUR as it reads: for loops 1 and 5 the longest of the links' and of the resources' (R742). -/
def brkClampDur (s : State) (l : Nat) : BitVec 32 :=
  if l = 1 then maxOf ((List.range 24).map (twyClampDur s))
  else if l = 5 then maxOf ((List.range 3).map (qosClampDur s))
  else clampShown s l (fun _ => true) (getReg s .BRK_CLAMPDUR l)

/-- TQ_ENGSTAT#e: in flight, queues bound, GANG (R350). -/
def engStat (s : State) (e : Nat) : BitVec 32 :=
  BitVec.ofNat 32 (min (engineLoad s e) 16 + (engineQueues s e).length * 2 ^ 5 + boolNat (piecesOf s e != 0) * 2 ^ 16)

/-- BEAD_BUSY#c: cores that run an instance, launches queued (R411). -/
def beadBusy (s : State) (c : Nat) : BitVec 32 :=
  let run := (s.bead.cores.filter (fun (e : Nat × Core) => coveOf (e.1 / 2) == c && e.2.job.isSome)).length
  let q := ((s.bead.pend.filter (fun (e : Nat × List KPend) => coveOf (e.1 / 2) == c)).map
    (fun (e : Nat × List KPend) => e.2.length)).sum
  BitVec.ofNat 32 (run % 256 + min q 1023 * 2 ^ 8)

/-- TLY_RECKQ: RECKONs dispatched and not yet complete (R454). -/
def reckWaiting (s : State) : Nat :=
  (s.tq.queues.map (fun (e : Nat × TQueue) => (e.2.batches.map (fun b =>
    (b.insts.filter (fun i => i.op == 0x20)).length)).sum)).sum

/-- RFB_REFSTAT.TEMP: the hottest reading of the cove in °C (R150, R172), rounded down and 0 below 0 (log entry 113); 0 before
one exists. -/
def coveDegrees (s : State) (c : Nat) : Nat :=
  match coveHottest s c with
  | some q => min (q / 4).toNat 255
  | none => 0

/-- The present value of a register as function f finds it, WO and reserved bits apart (R8): most registers hold it, some
show what goes on. -/
def regShown (s : State) (f : Nat) (r : Reg) (i : Nat) : BitVec 32 :=
  match r with
  | .TQ_ENGSTAT => engStat s i
  | .HBL_SPACE => BitVec.ofNat 32 (liveEntries s)
  | .BEAD_BUSY => beadBusy s i
  | .TLY_RECKQ => BitVec.ofNat 32 (reckWaiting s)
  | .PCI_SELFQ => if f = 0 then 0 else getReg s .PCI_VFQ f
  | .PCI_SELFWIN => if f = 0 then 0 else getReg s .PCI_VFWIN f
  | .TWY_CLAMPDUR => twyClampDur s i
  | .QOS_CLAMPDUR => qosClampDur s i
  | .BRK_CLAMPDUR => brkClampDur s i
  | .BRK_COVESTAT =>
    if coveState s i = 0 ∧ coveIdle s i = true then putBits (getReg s r i) 10 2 1 else getReg s r i
  | .RFB_REFSTAT => putBits (getReg s r i) 8 8 (coveDegrees s i)
  | .EVT_REC =>
    match mapFind s.evt.rings (f * 4096 + i / 8) with
    | some e => recWord e (i % 8)
    | none => 0
  | _ => getReg s r (ownIndex f r i)

/-- The bits of a value that a read returns: those of RO, RW and W1C fields (R8). -/
def readable (r : Reg) (v : BitVec 32) : BitVec 32 :=
  BitVec.ofNat 32 ((r.info.flds.map (fun fl =>
    if fl.acc = .wo then 0 else bitsAt v fl.bit fl.width * 2 ^ fl.bit)).sum)

/-- What a function reads of a register (R8, R230, R629). -/
def regView (s : State) (f : Nat) (r : Reg) (i : Nat) : BitVec 32 :=
  if mayRead f r.info.off r then readable r (regShown s f r i) else 0

/-! ### Reads -/

/-- The value 0xFFFF_FFFF of a read that is not answered (R6, R798). -/
def allOnes : BitVec 32 := 0xFFFFFFFF#32

/-- Completes a read. -/
def complete (f : Func) (v : BitVec 32) (s : State) : State := { s with out := s.out ++ [.barValue f v] }

/-- The shadow of a requester (R13). -/
def setShadow (f : Nat) (v : BitVec 32) (s : State) : State :=
  { s with pci := { s.pci with shadow := mapSet s.pci.shadow f 0 v } }

/-- The offsets at which the map of 08 places both BEAD_AVAIL#64-79 and BEAD_BUSY#0-15. -/
def twoFold (off : Nat) : Bool := decide (0x600200 ≤ off ∧ off < 0x600240)

/-- A read at an offset that two registers share: which of them answers is open (log entry 103). -/
def twoFoldRead (f : Func) (off : Nat) (s : State) : State :=
  let (b, s1) := draw 1 s
  let i := (off - 0x600200) / 4
  complete f (if b = 0 then regView s f.val .BEAD_AVAIL (64 + i) else regView s f.val .BEAD_BUSY i) s1

/-- A read of BAR0 (R5, R8, R13, R798): `_LO` captures the other half into the requester's shadow, `_HI` returns the
shadow, any other register its value, an offset without a register 0 (log entry 19). -/
def barRead (f : Func) (off : Nat) (s : State) : State :=
  if !readOpen s off then complete f allOnes s
  else if twoFold off then twoFoldRead f off s
  else
    match regFind Reg.table off with
    | none => complete f 0 s
    | some (r, i) =>
      match r.hi? with
      | some h => complete f (regView s f.val r i) (setShadow f.val (regView s f.val h i) s)
      | none =>
        match r.lo? with
        | some _ => complete f (mapGet s.pci.shadow f.val 0) s
        | none => complete f (regView s f.val r i) s

/-- DB_STATE of a doorbell page (07); every other register of the page, and a page that leads to no queue, reads 0 (R8,
R630). -/
def pageRead (f : Func) (off : Nat) (s : State) : State :=
  if !barOpen s then complete f allOnes s
  else
    match pageQueue s f.val (off / 0x4000) with
    | some q => complete f (if off % 0x4000 = 0x14 then BitVec.ofNat 32 (queueAt s q).st else 0) s
    | none => complete f 0 s

/-- A read that is not 4 bytes wide and aligned (R6, R7). -/
def badRead (f : Func) (s : State) : State := complete f allOnes (post { code := Ev.REG_ACCESS } s)

/-- REG64_LO_READ (R13); at another register's offset, or in BAR2, the plain read of R8 (log entry 101). -/
def execReg64LoRead (f : Func) (bar2 : Bool) (off : BitVec 28) (s : State) : Result :=
  .next (if off.toNat % 4 ≠ 0 then badRead f s
    else if bar2 then pageRead f off.toNat s
    else barRead f off.toNat s)

/-- REG64_HI_READ (R13). -/
def execReg64HiRead (f : Func) (off : BitVec 28) (s : State) : Result :=
  .next (if off.toNat % 4 ≠ 0 then badRead f s else barRead f off.toNat s)

/-- An access is 4 bytes wide and 4-byte aligned (R6). -/
def goodAccess (off : BitVec 28) (len : BitVec 13) : Bool := off.toNat % 4 == 0 && len == 4

/-- BAR_BAD_ACCESS_READ (R6, R7): offset and length of the read. -/
def execBarBadAccessRead (f : Func) (bar2 : Bool) (off : BitVec 28) (len : BitVec 13) (s : State) : Result :=
  .next (if goodAccess off len then (if bar2 then pageRead f off.toNat s else barRead f off.toNat s) else badRead f s)

/-! ### Writes -/

/-- The NOTE of a reserved encoding, once for a write (R11). -/
def noteRsvd (b : Bool) (s : State) : State := if b then post { code := Ev.REG_RSVD } s else s

/-- A field whose table reserves values by another field: where the write gives it one, it keeps its value and the other
field is applied (R11; log entry 102). -/
def keepOne (bad : State → Bool) (f : Fld) (i : Nat) (old : State) (p : State × Bool) : State × Bool :=
  if bad p.1 then (setF f i (getF old f i) p.1, true) else p

/-- Encodings that a table reserves by a second field: MAXRATE below MINRATE, UP not below DN (R625), FMIN above FMAX
(R742). -/
def crossCheck (r : Reg) (i : Nat) (old : State) (p : State × Bool) : State × Bool :=
  match r with
  | .TWY_LINKCTL => keepOne (fun t => decide (getF t F.TWY_LINKCTL.MAXRATE i < getF t F.TWY_LINKCTL.MINRATE i))
      F.TWY_LINKCTL.MAXRATE i old p
  | .TWY_RATETH => keepOne (fun t => decide (getF t F.TWY_RATETH.DN ≤ getF t F.TWY_RATETH.UP)) F.TWY_RATETH.UP i old p
  | .BRK_AVFSENV => keepOne (fun t => decide (getF t F.BRK_AVFSENV.FMAX < getF t F.BRK_AVFSENV.FMIN)) F.BRK_AVFSENV.FMIN i old p
  | _ => p

/-- What the device does at once when a register has been written: the refresh sequencers follow MIN_BAND and MAX_BAND
(R148, R152, R153), the loops' overrides their envelopes (R730), over-subscription the rates (R667), slack ends with
SLACK_EN (R702). -/
def afterWrite (r : Reg) (i : Nat) (s : State) : State :=
  match r with
  | .RFB_REFENV => (List.range 16).foldl (fun u c => refreshUpdate c u) s
  | .QOS_TOKA => oversubUpdate (i / 16) s
  | .TWY_LINKCTL => linkOverrides i s
  | .BRK_AVFSENV => fcodeUpdate 0 s
  | .BRK_PSCTL => if flag s F.BRK_PSCTL.SLACK_EN then s else slackLeave s
  | _ => s

/-- The fields of a 32-bit write that have no row of their own (R8, R11). -/
def fieldsWrite (r : Reg) (i : Nat) (val : BitVec 32) (s : State) : State :=
  let p := crossCheck r i s (writeFlds r i val s)
  afterWrite r i (noteRsvd p.2 p.1)

/-- GLB_RESET takes effect only with KEY 0x5A and KIND 1 or 2, in rows of its own; every other write is discarded with a
NOTE (R801). -/
def resetWrite (val : BitVec 32) (s : State) : State :=
  if bitsAt val 0 8 = 0x5A ∧ (bitsAt val 8 2 = 1 ∨ bitsAt val 8 2 = 2) then s else post { code := Ev.GLB_RESETKEY } s

/-- A mailbox OP without a row of its own completes with BADARG (R782). -/
def mailboxWrite (val : BitVec 32) (s : State) : State :=
  if 1 ≤ bitsAt val 0 4 ∧ bitsAt val 0 4 ≤ 9 then s else mailbox (fun t => (1, [], t)) s

/-- A write to a register (R8, R11). -/
def regWrite (r : Reg) (i : Nat) (val : BitVec 32) (s : State) : State :=
  match r with
  | .FWU_WIN => setReg .FWU_WIN i val s
  | .GLB_RESET => resetWrite val s
  | .HLD_CMD => mailboxWrite val s
  | _ => if r.hi?.isSome || r.lo?.isSome then s else fieldsWrite r i val s

/-- A poisoned write of BAR0 or BAR2 is discarded (R653). -/
def poisonWrite (s : State) : State := post { code := Ev.PCI_POISONWR } s

/-- A write that is not 4 bytes wide and aligned is discarded (R7). -/
def badWrite (s : State) : State := post { code := Ev.REG_ACCESS } s

/-- REG_WRITE (R8): function, BAR2 instead of BAR0, offset, value, the poisoned indication. Registers and fields with rows
of their own are left to those rows. -/
def execRegWrite (f : Func) (bar2 : Bool) (off : BitVec 28) (val : BitVec 32) (poison : Bool) (s : State) : Result :=
  .next (if off.toNat % 4 ≠ 0 then badWrite s
    else if bar2 then (if barOpen s && poison then poisonWrite s else s)
    else if !writeOpen s off.toNat then s
    else if poison then poisonWrite s
    else
      match regFind Reg.table off.toNat with
      | none => s
      | some (r, i) => if mayWrite f.val r then regWrite r (ownIndex f.val r i) val s else s)

/-- BAR_BAD_ACCESS_WRITE (R7). A write that is 4 bytes wide and aligned is none, and has other rows (log entry 4). -/
def execBarBadAccessWrite (off : BitVec 28) (len : BitVec 13) (s : State) : Result :=
  .next (if goodAccess off len then s else badWrite s)

/-- The value of a register's fields in a word, those of a table's RW fields alone. -/
def rwBits (r : Reg) (v : BitVec 32) : BitVec 32 :=
  BitVec.ofNat 32 ((r.info.flds.map (fun fl => if fl.acc = .rw then bitsAt v fl.bit fl.width * 2 ^ fl.bit else 0)).sum)

/-- A pair that software can write. -/
def pairWritable (r : Reg) : Bool := r.info.flds.any (fun fl => fl.acc == .rw)

/-- The `_LO` half of a pair is held for the `_HI` write (R14). -/
def loHold (r : Reg) (i : Nat) (val : BitVec 32) (s : State) : State :=
  { s with pci := { s.pci with loHeld := mapIns s.pci.loHeld (regKey r i) val } }

/-- REG64_LO_WRITE (R14). -/
def execReg64LoWrite (f : Func) (off : BitVec 28) (val : BitVec 32) (s : State) : Result :=
  .next (if !writeOpen s off.toNat then s
    else
      match regFind Reg.table off.toNat with
      | none => s
      | some (r, i) => if r.hi?.isSome && mayWrite f.val r && pairWritable r then loHold r i val s else s)

/-- The full value of a pair takes effect; without a held half the low half keeps its value (R14). -/
def pairWrite (lo hi : Reg) (i : Nat) (val : BitVec 32) (s : State) : State :=
  let k := regKey lo i
  let l := mapGet s.pci.loHeld k (getReg s lo i)
  let s1 := { s with pci := { s.pci with loHeld := mapDel s.pci.loHeld k } }
  if lo = .TQ_CNT_LO then counterSet i (l.toNat + val.toNat * 2 ^ 32) s1
  else setReg hi i (rwBits hi val) (setReg lo i (rwBits lo l) s1)

/-- REG64_HI_WRITE (R14); of the counters it is one update (R309). -/
def execReg64HiWrite (f : Func) (off : BitVec 28) (val : BitVec 32) (s : State) : Result :=
  .next (if !writeOpen s off.toNat then s
    else
      match regFind Reg.table off.toNat with
      | none => s
      | some (r, i) =>
        match r.lo? with
        | some l => if mayWrite f.val r && pairWritable r then pairWrite l r i val s else s
        | none => s)

/-! ### Rows of the EVT block -/

/-- EVT_HEAD_WRITE (R866, R870, R871): records of the function's ring are consumed. -/
def evtHeadWrite (f : Nat) (val : BitVec 32) (s : State) : State :=
  if 4096 < (getReg s .EVT_TAIL f - val).toNat then noteRsvd true s
  else tryLost f (setReg .EVT_HEAD f val s)

def execEvtHeadWrite (f : Func) (val : BitVec 32) (s : State) : Result :=
  .next (onlyIf (barOpen s) (evtHeadWrite f.val val) s)

/-- EVT_INJ (R883). -/
def evtInject (code : Nat) (s : State) : State :=
  match evSev? code with
  | some sev => if sev = 3 then noteRsvd true s else post { code := code, inj := true } s
  | none => noteRsvd true s

/-- A write to EVT_INJ; a virtual function's is discarded. -/
def execEvtInj (f : Func) (code : BitVec 16) (s : State) : Result :=
  .next (onlyIf (barOpen s && f.val == 0) (evtInject code.toNat) s)

/-- EVT_CNTCLR (R884): the function's EVT_LOST, and from the PF EVT_SEVCNT. -/
def evtCntclr (f : Nat) (s : State) : State :=
  let s1 := setReg .EVT_LOST f 0 s
  if f = 0 then clearReg .EVT_SEVCNT s1 else s1

def execEvtCntclr (f : Func) (s : State) : Result := .next (onlyIf (barOpen s) (evtCntclr f.val) s)

end Sys2Proof.Machine
end

