-- ==== Sys2Proof/Machine/TwyFrame.lean ====
section
/-! DEFINITION. Tideway frames as they arrive (12): checks, decryption, acknowledgement and replay, credits, and the
messages that slots make up. -/

namespace Sys2Proof.Machine

/-- The VC and the numbers of data slots that R577 gives an OP. -/
def opShape (op : Nat) : Option (Nat × Nat × Nat) :=
  match op with
  | 0x01 => some (2, 1, 16)
  | 0x02 => some (2, 0, 0)
  | 0x03 => some (3, 1, 16)
  | 0x04 | 0x05 => some (3, 0, 0)
  | 0x08 | 0x09 | 0x0A => some (0, 1, 1)
  | 0x10 => some (1, 1, 16)
  | 0x11 => some (1, 0, 0)
  | 0x12 => some (1, 0, 16)
  | 0x13 => some (1, 0, 1)
  | 0x14 => some (1, 1, 1)
  | _ => none

/-- A header slot read as a message without its data (R576). -/
def readHeader (b : BitVec 544) : TwyMsg :=
  { op := byteField b 0 1, vc := bitsAt b 8 2, hop := bitsAt b 10 1, poison := bitAt b 11, rsig := bitAt b 12
    src := byteField b 3 1 % 32, dst := byteField b 4 1 % 32, share := byteField b 5 1 % 16, mark := byteField b 6 2
    seq := byteField b 8 8, epoch := byteField b 16 2, tag := byteField b 18 2, addr := byteField b 20 8 % 2 ^ 47
    rcnt := byteField b 28 2, status := byteField b 30 2, body := b.extractLsb' 288 256 }

/-- A header keeps R576 and R577: OP, VC, NDATA, and zero in reserved fields. -/
def twyHeaderOk (b : BitVec 544) : Bool :=
  let m := readHeader b
  match opShape m.op with
  | none => false
  | some (vc, lo, hi) =>
    m.vc == vc && decide (lo ≤ byteField b 2 1 ∧ byteField b 2 1 ≤ hi) && bitsAt b 13 3 == 0
      && decide (byteField b 3 1 < 32 ∧ byteField b 4 1 < 32 ∧ byteField b 5 1 < 16) && bitsAt b 207 17 == 0
      && byteField b 32 4 == 0 && (m.op == 5 || m.status == 0)

/-- A message that a link brings is kept (R70, R772, R821). -/
def mayPass (s : State) (n : Nat) (m : TwyMsg) : Bool := quarMsg m || !linkShut s n

/-- A whole message has arrived: it waits to be served; one that may not pass is discarded. -/
def rxDone (n : Nat) (m : TwyMsg) (s : State) : State :=
  if mayPass s n m then
    let k := rxKey n m.hop m.vc
    { s with twy := { s.twy with rx := mapSet s.twy.rx k [] (mapGet s.twy.rx k [] ++ [m]) } }
  else setLink n (linkOwe (hopVc m) (m.data.length + 1) (linkAt s n)) s

/-- A message that breaks R576 or R577 is discarded; a request is answered (R579). -/
def rxBad (n : Nat) (m : TwyMsg) (s : State) : State :=
  let s1 := twyEvent n Ev.TWY_BADMSG 0 0 0 s
  if m.vc = 2 then twyAnswer m 5 Status.TWY_BADMSG false [] s1 else s1

/-- One slot of a frame that has been taken in order: kinds 1 header, 2 data (R575, R578). -/
def takeTwySlot (n kind : Nat) (b : BitVec 544) (s : State) : State :=
  let l := linkAt s n
  match kind with
  | 1 =>
    let m := readHeader b
    let k := byteField b 2 1
    if !twyHeaderOk b then rxBad n m (setLink n (linkOwe (hopVc m) 1 l) s)
    else if k = 0 then rxDone n m s
    else if m.vc = 0 then setLink n { l with rxUrg := some { msg := m, need := k } } s
    else setLink n { l with rx := some { msg := m, need := k } } s
  | 2 =>
    let d : Sector × BitVec 32 := (b.extractLsb' 0 512, b.extractLsb' 512 32)
    let add := fun (r : TwyRx) => { r with msg := { r.msg with data := r.msg.data ++ [d] }, need := r.need - 1 }
    match l.rxUrg with
    | some r =>
      let r1 := add r
      if r1.need = 0 then rxDone n r1.msg (setLink n { l with rxUrg := none } s)
      else setLink n { l with rxUrg := some r1 } s
    | none =>
      match l.rx with
      | some r =>
        let r1 := add r
        if r1.need = 0 then rxDone n r1.msg (setLink n { l with rx := none } s)
        else setLink n { l with rx := some r1 } s
      | none => twyEvent n Ev.TWY_BADMSG 0 0 0 s
  | 3 => twyEvent n Ev.TWY_BADMSG 0 0 0 s
  | _ => s

/-! ### Acknowledgement and replay (R582-R584) -/

/-- Resends every buffered frame (R582, R588); a frame resent eight times begins a PAUSE (R583). -/
def twyReplay (n : Nat) (s : State) : State :=
  let l := linkAt s n
  if l.replay = [] then s
  else
    let s1 := bump F.TWY_REPLAY.COUNT n (setLink n { l with resends := l.resends + 1 } s)
    let s2 := { s1 with out := s1.out ++ l.replay.map (fun (f : Nat × BitVec 2048) => Out.twyFrame n f.2) }
    if 8 ≤ l.resends + 1 then pauseBegin n .loss 0 s2 else s2

/-- Takes an ACKSEQ: frames up to it leave the replay buffer, and messages carried whole in them leave the queue; flows
that waited for them go on (R526, R620). -/
def twyAcked (n a : Nat) (s : State) : State :=
  let l := linkAt s n
  if l.replay.any (fun f => fseqBits f.1 == a) then
    let upto := ((l.replay.find? (fun f => fseqBits f.1 == a)).map (fun f => f.1)).getD 0
    let done := fun (t : TwyTx) => decide (t.sent = t.msg.data.length + 1) && decide (t.lastF ≤ upto)
    twyRetry (setLink n { l with
      replay := l.replay.filter (fun (f : Nat × BitVec 2048) => decide (upto < f.1))
      resends := 0
      txq := l.txq.filter (fun t => !done t) } s)
  else s

/-- The acknowledgement that a frame carries, and its NAK. -/
def twyAckNak (n : Nat) (fr : BitVec 2048) (s : State) : State :=
  let s1 := twyAcked n (byteField fr 8 8) s
  if bitAt fr 192 then twyReplay n s1 else twyFlush n s1

/-- Asks for a replay, once per gap (R527). -/
def twyNak (n : Nat) (s : State) : State :=
  let l := linkAt s n
  if l.nakSent then s else twyNull n true (setLink n { l with nakSent := true } s)

/-- A frame error of a kind (R582): it is counted, and in the second's window. -/
def frameError (n : Nat) (cnt : Fld) (s : State) : State :=
  let l := linkAt s n
  twyNak n (setLink n { l with errWin := l.errWin + 1 } (bump cnt n s))

/-- A frame whose GCM tag fails (R582, R590): the seventeenth in a second takes the link down for good. -/
def tagError (n : Nat) (s : State) : State :=
  let l := linkAt s n
  let s1 := setLink n { l with authWin := l.authWin + 1 } (bump F.TWY_AUTHERR.COUNT n s)
  if 16 < l.authWin + 1 then linkDown n true (twyEvent n Ev.TWY_AUTH 0 0 0 s1) else twyNak n s1

/-- The frame in clear (R587, R589): none where the tag fails or the key epoch is neither held. -/
def openFrame (s : State) (n : Nat) (fr : BitVec 2048) : Option (BitVec 2048) :=
  let l := linkAt s n
  let enc := bitAt fr 193
  if enc != flag s F.TWY_STATUS.ENC n then none
  else if !enc then some fr
  else
    let e := byteField fr 25 1
    let key := if e = l.rxEpoch then some l.rxKey else if (e + 1) % 256 = l.rxEpoch then some l.rxPrev else none
    match key with
    | none => none
    | some k =>
      let nonce : BitVec 96 := BitVec.ofNat 96 (l.rxSalt.toNat + byteField fr 0 8 * 2 ^ 32)
      (Config.gcmOpen k nonce (byteSlice fr 0 28) (byteSlice fr 28 204) (fr.extractLsb' 1856 128)).map (fun clear =>
        BitVec.ofNat 2048 (bytesNat (byteSlice fr 0 28) + bytesNat clear % 2 ^ 1632 * 2 ^ 224))

/-- The credits that a frame returns (R580). -/
def twyCredits (fr : BitVec 2048) (l : TwyLink) : TwyLink :=
  (List.range 8).foldl (fun m k =>
    { m with credit := mapSet m.credit k 0 (creditOf m k + byteField fr (16 + k) 1) }) l

/-- The slots of a frame, in order. -/
def frameSlots (n : Nat) (fr : BitVec 2048) (s : State) : State :=
  [(0, 28), (1, 96), (2, 164)].foldl (fun u (p : Nat × Nat) =>
    takeTwySlot n (bitsAt fr (208 + 2 * p.1) 2) (fr.extractLsb' (8 * p.2) 544) u) s

/-- TWY_FRAME_RECEIVE (R564, R568, R582): `uncorr` tells of an uncorrectable codeword, `skips` of skip blocks deleted or
repeated since the last frame. -/
def twyReceive (n : Nat) (fr : BitVec 2048) (uncorr : Bool) (skips : Nat) (s0 : State) : State :=
  let s := if skips = 0 then s0 else bumpBy F.TWY_SKIP.COUNT n skips s0
  if uncorr then frameError n F.TWY_UNCORR.COUNT s
  else if byteField fr 252 4 != (crc32c (byteSlice fr 0 252)).toNat then frameError n F.TWY_CRCERR.COUNT s
  else
    match openFrame s n fr with
    | none => tagError n s
    | some clear =>
      let l := linkAt s n
      let ahead := (byteField fr 0 8 + 2 ^ 64 - l.rxNext % 2 ^ 64) % 2 ^ 64
      if ahead = 0 then
        let s1 := setLink n { twyCredits fr l with rxNext := l.rxNext + 1, nakSent := false } s
        let s2 := twyAckNak n fr s1
        let sent := s2.out.length
        let s3 := frameSlots n clear s2
        if s3.out.length = sent then twyNull n false s3 else s3
      else if ahead < 2 ^ 63 then twyNak n s
      else twyNull n false (twyAckNak n fr s)

def execTwyFrameReceive (n : LinkId) (fr : BitVec 2048) (uncorr : Bool) (skips : BitVec 8) (s : State) : Result :=
  .next (onlyIf (twyClock s && linkState s n == 4) (twyReceive n fr uncorr skips.toNat) s)

/-- TWY_REPLAY_TIMEOUT (R582). -/
def execTwyReplayTimeout (n : LinkId) (s : State) : Result :=
  .next (onlyIf (twyClock s && linkState s n == 4) (twyReplay n) s)

/-- TWY_LOS_TIMEOUT (R583). -/
def execTwyLosTimeout (n : LinkId) (s : State) : Result :=
  .next (onlyIf (twyClock s) (pauseBegin n .loss 0) s)

/-- A link that has nothing to carry sends a frame of null slots in every frame time (R585; log entry 45: one in each always-on
tick in which the block idles). -/
def nullFrames (s : State) : State := (List.range 24).foldl (fun u n => if twyClock u then twyNull n false u else u) s

end Sys2Proof.Machine
end

