-- ==== Sys2Proof/Machine/Dispatch.lean ====
section
/-! DEFINITION. The dispatch: one arm per constructor of Instr, one direct call of its meaning. -/

namespace Sys2Proof.Machine

def exec (i : Instr) (s : State) : Host.Outcome State Fault Refusal :=
  match i with
  | .regWrite f bar2 off val poison => Sys2Proof.Machine.execRegWrite f bar2 off val poison s
  | .barBadAccessRead f bar2 off len => Sys2Proof.Machine.execBarBadAccessRead f bar2 off len s
  | .barBadAccessWrite off len => Sys2Proof.Machine.execBarBadAccessWrite off len s
  | .reg64LoRead f bar2 off => Sys2Proof.Machine.execReg64LoRead f bar2 off s
  | .reg64HiRead f off => Sys2Proof.Machine.execReg64HiRead f off s
  | .reg64LoWrite f off val => Sys2Proof.Machine.execReg64LoWrite f off val s
  | .reg64HiWrite f off val => Sys2Proof.Machine.execReg64HiWrite f off val s
  | .evtHeadWrite f val => Sys2Proof.Machine.execEvtHeadWrite f val s
  | .evtInj f code => Sys2Proof.Machine.execEvtInj f code s
  | .evtCntclr f => Sys2Proof.Machine.execEvtCntclr f s
  | .flitInject t a hdr pay tally die keysel => Sys2Proof.Machine.execFlitInject t a hdr pay tally die keysel s
  | .urgentCapRelease src => Sys2Proof.Machine.execUrgentCapRelease src s
  | .urgentLinkReserve t a n => Sys2Proof.Machine.execUrgentLinkReserve t a n s
  | .meshFlitHop t out noise => Sys2Proof.Machine.execMeshFlitHop t out noise s
  | .meshFlitEject t => Sys2Proof.Machine.execMeshFlitEject t s
  | .meshResponse t a => Sys2Proof.Machine.execMeshResponse t a s
  | .meshRequestTimeout t a tag => Sys2Proof.Machine.execMeshRequestTimeout t a tag s
  | .multicastTimeout t a => Sys2Proof.Machine.execMulticastTimeout t a s
  | .isthmusErrorWindow => Sys2Proof.Machine.execIsthmusErrorWindow s
  | .mshCntclr => Sys2Proof.Machine.execMshCntclr s
  | .reefRead t bank upset => Sys2Proof.Machine.execReefRead t bank upset s
  | .reefWrite t bank => Sys2Proof.Machine.execReefWrite t bank s
  | .reefAtomic t bank upset => Sys2Proof.Machine.execReefAtomic t bank upset s
  | .refreshOp c waited => Sys2Proof.Machine.execRefreshOp c waited s
  | .refreshBandStepDown c => Sys2Proof.Machine.execRefreshBandStepDown c s
  | .refreshClampWindow c => Sys2Proof.Machine.execRefreshClampWindow c s
  | .scrubSector c upset => Sys2Proof.Machine.execScrubSector c upset s
  | .rowRemapDone t bank row => Sys2Proof.Machine.execRowRemapDone t bank row s
  | .scrubBurstStart c => Sys2Proof.Machine.execScrubBurstStart c s
  | .scrubBurstEnd c => Sys2Proof.Machine.execScrubBurstEnd c s
  | .bar4Read f off len => Sys2Proof.Machine.execBar4Read f off len s
  | .bar4Write f off bytes poison => Sys2Proof.Machine.execBar4Write f off bytes poison s
  | .rfbInjArm v => Sys2Proof.Machine.execRfbInjArm v s
  | .rfbCntclr => Sys2Proof.Machine.execRfbCntclr s
  | .memRead m upset => Sys2Proof.Machine.execMemRead m upset s
  | .memWrite m upset => Sys2Proof.Machine.execMemWrite m upset s
  | .memKeymapWrite ix v => Sys2Proof.Machine.execMemKeymapWrite ix v s
  | .memZeroFillDone k => Sys2Proof.Machine.execMemZeroFillDone k s
  | .memRotationRegionDone k => Sys2Proof.Machine.execMemRotationRegionDone k s
  | .memCfgWrite rate => Sys2Proof.Machine.execMemCfgWrite rate s
  | .memTrainDone density ranks2 differ failed => Sys2Proof.Machine.execMemTrainDone density ranks2 differ failed s
  | .memOscCheck n drift => Sys2Proof.Machine.execMemOscCheck n drift s
  | .memRecentreDone n => Sys2Proof.Machine.execMemRecentreDone n s
  | .memCeWindow n => Sys2Proof.Machine.execMemCeWindow n s
  | .memRetrainDone n ok => Sys2Proof.Machine.execMemRetrainDone n ok s
  | .memMr4Read n code fast hot => Sys2Proof.Machine.execMemMr4Read n code fast hot s
  | .memRefresh n postpone => Sys2Proof.Machine.execMemRefresh n postpone s
  | .memScrubStripe n j upset => Sys2Proof.Machine.execMemScrubStripe n j upset s
  | .memCntclr => Sys2Proof.Machine.execMemCntclr s
  | .xltCtxBind asid => Sys2Proof.Machine.execXltCtxBind asid s
  | .xltCtxRead asid => Sys2Proof.Machine.execXltCtxRead asid s
  | .xltCtxUnbind asid => Sys2Proof.Machine.execXltCtxUnbind asid s
  | .xltSegWrite asid n => Sys2Proof.Machine.execXltSegWrite asid n s
  | .xltSegRead asid n => Sys2Proof.Machine.execXltSegRead asid n s
  | .xltSegClear asid n => Sys2Proof.Machine.execXltSegClear asid n s
  | .xltInv asid => Sys2Proof.Machine.execXltInv asid s
  | .invalidationComplete => Sys2Proof.Machine.execInvalidationComplete s
  | .invalidationTimeout => Sys2Proof.Machine.execInvalidationTimeout s
  | .atsInvalidateRequest f pasid itag => Sys2Proof.Machine.execAtsInvalidateRequest f pasid itag s
  | .atsTranslationCompletion tag ok addr size r w => Sys2Proof.Machine.execAtsTranslationCompletion tag ok addr size r w s
  | .atsTimeout tag => Sys2Proof.Machine.execAtsTimeout tag s
  | .prgResponse tag code => Sys2Proof.Machine.execPrgResponse tag code s
  | .priTimeout tag => Sys2Proof.Machine.execPriTimeout tag s
  | .xltCntclr => Sys2Proof.Machine.execXltCntclr s
  | .tqQcmdCreate q => Sys2Proof.Machine.execTqQcmdCreate q s
  | .tqQcmdRead q => Sys2Proof.Machine.execTqQcmdRead q s
  | .tqQcmdStart q => Sys2Proof.Machine.execTqQcmdStart q s
  | .tqQcmdStop q => Sys2Proof.Machine.execTqQcmdStop q s
  | .tqQcmdAbort q => Sys2Proof.Machine.execTqQcmdAbort q s
  | .tqQcmdDestroy q => Sys2Proof.Machine.execTqQcmdDestroy q s
  | .tqQcmdResume q => Sys2Proof.Machine.execTqQcmdResume q s
  | .tqCntclr => Sys2Proof.Machine.execTqCntclr s
  | .dbTail f p v => Sys2Proof.Machine.execDbTail f p v s
  | .dbCplhead f p v => Sys2Proof.Machine.execDbCplhead f p v s
  | .dbRechead f p v => Sys2Proof.Machine.execDbRechead f p v s
  | .dbResume f p v => Sys2Proof.Machine.execDbResume f p v s
  | .dbAbort f p v => Sys2Proof.Machine.execDbAbort f p v s
  | .batchFetchDone q => Sys2Proof.Machine.execBatchFetchDone q s
  | .batchAccept q => Sys2Proof.Machine.execBatchAccept q s
  | .tideNop q => Sys2Proof.Machine.execTideNop q s
  | .tideJump q => Sys2Proof.Machine.execTideJump q s
  | .tideBrc q => Sys2Proof.Machine.execTideBrc q s
  | .tideLoop q => Sys2Proof.Machine.execTideLoop q s
  | .tideSeti q => Sys2Proof.Machine.execTideSeti q s
  | .tideAddi q => Sys2Proof.Machine.execTideAddi q s
  | .tideWait q => Sys2Proof.Machine.execTideWait q s
  | .waitTimeout q => Sys2Proof.Machine.execWaitTimeout q s
  | .tideCset q => Sys2Proof.Machine.execTideCset q s
  | .tideCadd q => Sys2Proof.Machine.execTideCadd q s
  | .tideFence q => Sys2Proof.Machine.execTideFence q s
  | .tideMark q => Sys2Proof.Machine.execTideMark q s
  | .tideAdvise q => Sys2Proof.Machine.execTideAdvise q s
  | .tideOpnd q => Sys2Proof.Machine.execTideOpnd q s
  | .tideCopy e => Sys2Proof.Machine.execTideCopy e s
  | .tidePrefetch e => Sys2Proof.Machine.execTidePrefetch e s
  | .tideFill e => Sys2Proof.Machine.execTideFill e s
  | .tideReckon e => Sys2Proof.Machine.execTideReckon e s
  | .tideKcall e => Sys2Proof.Machine.execTideKcall e s
  | .tidePut e => Sys2Proof.Machine.execTidePut e s
  | .tideGet e => Sys2Proof.Machine.execTideGet e s
  | .tideColl e => Sys2Proof.Machine.execTideColl e s
  | .ferryPieceDone q asn dseq k noise => Sys2Proof.Machine.execFerryPieceDone q asn dseq k noise s
  | .commandCommit q asn dseq noise held => Sys2Proof.Machine.execCommandCommit q asn dseq noise held s
  | .stagedEffectsApply q => Sys2Proof.Machine.execStagedEffectsApply q s
  | .tileFence t => Sys2Proof.Machine.execTileFence t s
  | .tileFenceReport q t => Sys2Proof.Machine.execTileFenceReport q t s
  | .kcallTimeout q asn dseq => Sys2Proof.Machine.execKcallTimeout q asn dseq s
  | .collTimeout q asn dseq => Sys2Proof.Machine.execCollTimeout q asn dseq s
  | .counterHostWrite ix hi => Sys2Proof.Machine.execCounterHostWrite ix hi s
  | .instanceStart c => Sys2Proof.Machine.execInstanceStart c s
  | .kernelImageSector q asn dseq k => Sys2Proof.Machine.execKernelImageSector q asn dseq k s
  | .instanceAbort c => Sys2Proof.Machine.execInstanceAbort c s
  | .instanceException e => Sys2Proof.Machine.execInstanceException e s
  | .loadResponse c => Sys2Proof.Machine.execLoadResponse c s
  | .writeAck c => Sys2Proof.Machine.execWriteAck c s
  | .reckonerExecute c upset => Sys2Proof.Machine.execReckonerExecute c upset s
  | .add c => Sys2Proof.Machine.execAdd c s
  | .sub c => Sys2Proof.Machine.execSub c s
  | .and c => Sys2Proof.Machine.execAnd c s
  | .or c => Sys2Proof.Machine.execOr c s
  | .xor c => Sys2Proof.Machine.execXor c s
  | .sll c => Sys2Proof.Machine.execSll c s
  | .srl c => Sys2Proof.Machine.execSrl c s
  | .sra c => Sys2Proof.Machine.execSra c s
  | .slt c => Sys2Proof.Machine.execSlt c s
  | .sltu c => Sys2Proof.Machine.execSltu c s
  | .mul c => Sys2Proof.Machine.execMul c s
  | .mulhu c => Sys2Proof.Machine.execMulhu c s
  | .mulh c => Sys2Proof.Machine.execMulh c s
  | .divu c => Sys2Proof.Machine.execDivu c s
  | .remu c => Sys2Proof.Machine.execRemu c s
  | .ramap c => Sys2Proof.Machine.execRamap c s
  | .addi c => Sys2Proof.Machine.execAddi c s
  | .andi c => Sys2Proof.Machine.execAndi c s
  | .ori c => Sys2Proof.Machine.execOri c s
  | .xori c => Sys2Proof.Machine.execXori c s
  | .slti c => Sys2Proof.Machine.execSlti c s
  | .sltiu c => Sys2Proof.Machine.execSltiu c s
  | .shi c => Sys2Proof.Machine.execShi c s
  | .lsh c => Sys2Proof.Machine.execLsh c s
  | .ldbu c => Sys2Proof.Machine.execLdbu c s
  | .ldhu c => Sys2Proof.Machine.execLdhu c s
  | .ldwu c => Sys2Proof.Machine.execLdwu c s
  | .ldws c => Sys2Proof.Machine.execLdws c s
  | .ldd c => Sys2Proof.Machine.execLdd c s
  | .stb c => Sys2Proof.Machine.execStb c s
  | .sth c => Sys2Proof.Machine.execSth c s
  | .stw c => Sys2Proof.Machine.execStw c s
  | .std c => Sys2Proof.Machine.execStd c s
  | .kld c => Sys2Proof.Machine.execKld c s
  | .kst c => Sys2Proof.Machine.execKst c s
  | .amoAdd c => Sys2Proof.Machine.execAmoAdd c s
  | .amoSwap c => Sys2Proof.Machine.execAmoSwap c s
  | .amoCas c => Sys2Proof.Machine.execAmoCas c s
  | .amoMaxu c => Sys2Proof.Machine.execAmoMaxu c s
  | .amoMinu c => Sys2Proof.Machine.execAmoMinu c s
  | .amoOr c => Sys2Proof.Machine.execAmoOr c s
  | .amoAnd c => Sys2Proof.Machine.execAmoAnd c s
  | .cntAdd c => Sys2Proof.Machine.execCntAdd c s
  | .cntSet c => Sys2Proof.Machine.execCntSet c s
  | .cntRead c => Sys2Proof.Machine.execCntRead c s
  | .beq c => Sys2Proof.Machine.execBeq c s
  | .bne c => Sys2Proof.Machine.execBne c s
  | .blt c => Sys2Proof.Machine.execBlt c s
  | .bge c => Sys2Proof.Machine.execBge c s
  | .bltu c => Sys2Proof.Machine.execBltu c s
  | .bgeu c => Sys2Proof.Machine.execBgeu c s
  | .jal c => Sys2Proof.Machine.execJal c s
  | .jalr c => Sys2Proof.Machine.execJalr c s
  | .csrr c => Sys2Proof.Machine.execCsrr c s
  | .csrw c => Sys2Proof.Machine.execCsrw c s
  | .exit c => Sys2Proof.Machine.execExit c s
  | .wack c => Sys2Proof.Machine.execWack c s
  | .ksync c => Sys2Proof.Machine.execKsync c s
  | .trap c => Sys2Proof.Machine.execTrap c s
  | .kmov c => Sys2Proof.Machine.execKmov c s
  | .kxor c => Sys2Proof.Machine.execKxor c s
  | .kins c => Sys2Proof.Machine.execKins c s
  | .kext c => Sys2Proof.Machine.execKext c s
  | .kbc c => Sys2Proof.Machine.execKbc c s
  | .krand c => Sys2Proof.Machine.execKrand c s
  | .ktally c => Sys2Proof.Machine.execKtally c s
  | .kdig c => Sys2Proof.Machine.execKdig c s
  | .kmdot c => Sys2Proof.Machine.execKmdot c s
  | .kdot c => Sys2Proof.Machine.execKdot c s
  | .kzacc c => Sys2Proof.Machine.execKzacc c s
  | .ksha c => Sys2Proof.Machine.execKsha c s
  | .krnd c => Sys2Proof.Machine.execKrnd c s
  | .kint c => Sys2Proof.Machine.execKint c s
  | .kput c => Sys2Proof.Machine.execKput c s
  | .kadda c => Sys2Proof.Machine.execKadda c s
  | .beadCntclr => Sys2Proof.Machine.execBeadCntclr s
  | .reckonCheckDone q asn dseq held => Sys2Proof.Machine.execReckonCheckDone q asn dseq held s
  | .tlyCtxWrite asid => Sys2Proof.Machine.execTlyCtxWrite asid s
  | .tlyCtxRead asid => Sys2Proof.Machine.execTlyCtxRead asid s
  | .tlyCntclr => Sys2Proof.Machine.execTlyCntclr s
  | .journalLocalDurable => Sys2Proof.Machine.execJournalLocalDurable s
  | .logReappend => Sys2Proof.Machine.execLogReappend s
  | .mirrorAckTimeout => Sys2Proof.Machine.execMirrorAckTimeout s
  | .hblTkhead v => Sys2Proof.Machine.execHblTkhead v s
  | .hblTkEnable on => Sys2Proof.Machine.execHblTkEnable on s
  | .hblCntclr => Sys2Proof.Machine.execHblCntclr s
  | .takeover d => Sys2Proof.Machine.execTakeover d s
  | .collReadyDurable q asn dseq damaged => Sys2Proof.Machine.execCollReadyDurable q asn dseq damaged s
  | .collCommitDurable q asn dseq => Sys2Proof.Machine.execCollCommitDurable q asn dseq s
  | .collMemberLost d => Sys2Proof.Machine.execCollMemberLost d s
  | .memberBeat => Sys2Proof.Machine.execMemberBeat s
  | .memberFailDeclare d => Sys2Proof.Machine.execMemberFailDeclare d s
  | .graceExpiry d => Sys2Proof.Machine.execGraceExpiry d s
  | .stewardCollectDone reports => Sys2Proof.Machine.execStewardCollectDone reports s
  | .shlFrameReceive p fr => Sys2Proof.Machine.execShlFrameReceive p fr s
  | .shlRead p => Sys2Proof.Machine.execShlRead p s
  | .shlWrite p => Sys2Proof.Machine.execShlWrite p s
  | .shlAck p => Sys2Proof.Machine.execShlAck p s
  | .shlAbort p => Sys2Proof.Machine.execShlAbort p s
  | .shlDoorbell p => Sys2Proof.Machine.execShlDoorbell p s
  | .shlCounter p => Sys2Proof.Machine.execShlCounter p s
  | .shlWatch p => Sys2Proof.Machine.execShlWatch p s
  | .shlReplayTimeout p => Sys2Proof.Machine.execShlReplayTimeout p s
  | .shlRetrainDone p rate mods => Sys2Proof.Machine.execShlRetrainDone p rate mods s
  | .shlRetrainTimeout p => Sys2Proof.Machine.execShlRetrainTimeout p s
  | .shlPortEnable p => Sys2Proof.Machine.execShlPortEnable p s
  | .shlPortDisable p => Sys2Proof.Machine.execShlPortDisable p s
  | .shlLinkUp p rate mods => Sys2Proof.Machine.execShlLinkUp p rate mods s
  | .shlTrainTimeout p => Sys2Proof.Machine.execShlTrainTimeout p s
  | .shlCapabilityReceive p blk => Sys2Proof.Machine.execShlCapabilityReceive p blk s
  | .shlNegotiateTimeout p => Sys2Proof.Machine.execShlNegotiateTimeout p s
  | .shlLinkDown p => Sys2Proof.Machine.execShlLinkDown p s
  | .shlTelemetry p m => Sys2Proof.Machine.execShlTelemetry p m s
  | .shlTelemetryMiss p => Sys2Proof.Machine.execShlTelemetryMiss p s
  | .shlCntclr => Sys2Proof.Machine.execShlCntclr s
  | .twyLinkEnable n => Sys2Proof.Machine.execTwyLinkEnable n s
  | .twyLinkDisable n => Sys2Proof.Machine.execTwyLinkDisable n s
  | .twyBlockLock n => Sys2Proof.Machine.execTwyBlockLock n s
  | .twyDetectTimeout n => Sys2Proof.Machine.execTwyDetectTimeout n s
  | .twyConfigReceive n die link mode enc maxRate version auth h => Sys2Proof.Machine.execTwyConfigReceive n die link mode enc maxRate version auth h s
  | .twyConfigTimeout n => Sys2Proof.Machine.execTwyConfigTimeout n s
  | .twyDwellDone n lanes => Sys2Proof.Machine.execTwyDwellDone n lanes s
  | .twyPauseDone n => Sys2Proof.Machine.execTwyPauseDone n s
  | .twyPauseTimeout n => Sys2Proof.Machine.execTwyPauseTimeout n s
  | .twyHoldExpiry n => Sys2Proof.Machine.execTwyHoldExpiry n s
  | .twyCmdRetrain n => Sys2Proof.Machine.execTwyCmdRetrain n s
  | .twyCmdRestore n => Sys2Proof.Machine.execTwyCmdRestore n s
  | .twyCmdDown n => Sys2Proof.Machine.execTwyCmdDown n s
  | .twyCmdTest n farOk => Sys2Proof.Machine.execTwyCmdTest n farOk s
  | .twyCmdTestend n => Sys2Proof.Machine.execTwyCmdTestend n s
  | .twyFrameReceive n fr uncorr skips => Sys2Proof.Machine.execTwyFrameReceive n fr uncorr skips s
  | .twyWrite n => Sys2Proof.Machine.execTwyWrite n s
  | .twyRead n => Sys2Proof.Machine.execTwyRead n s
  | .twyReadData n => Sys2Proof.Machine.execTwyReadData n s
  | .twyAck n => Sys2Proof.Machine.execTwyAck n s
  | .twyError n => Sys2Proof.Machine.execTwyError n s
  | .twyAbort n => Sys2Proof.Machine.execTwyAbort n s
  | .twyFence n => Sys2Proof.Machine.execTwyFence n s
  | .twyDoorbell n => Sys2Proof.Machine.execTwyDoorbell n s
  | .twyJournal n => Sys2Proof.Machine.execTwyJournal n s
  | .twyJack n => Sys2Proof.Machine.execTwyJack n s
  | .twyColl n => Sys2Proof.Machine.execTwyColl n s
  | .twyRoute n => Sys2Proof.Machine.execTwyRoute n s
  | .twyForward n => Sys2Proof.Machine.execTwyForward n s
  | .leaseClaimReceive n => Sys2Proof.Machine.execLeaseClaimReceive n s
  | .leaseRenewReceive n => Sys2Proof.Machine.execLeaseRenewReceive n s
  | .leaseReleaseReceive n => Sys2Proof.Machine.execLeaseReleaseReceive n s
  | .memberBeatReceive n => Sys2Proof.Machine.execMemberBeatReceive n s
  | .stewardDecisionReceive n => Sys2Proof.Machine.execStewardDecisionReceive n s
  | .resetNoticeReceive n => Sys2Proof.Machine.execResetNoticeReceive n s
  | .linkReportReceive n => Sys2Proof.Machine.execLinkReportReceive n s
  | .identityReportReceive n => Sys2Proof.Machine.execIdentityReportReceive n s
  | .memberJoin n => Sys2Proof.Machine.execMemberJoin n s
  | .rosterChangeReceive n => Sys2Proof.Machine.execRosterChangeReceive n s
  | .enrolForwardReceive n => Sys2Proof.Machine.execEnrolForwardReceive n s
  | .activateForwardReceive n fleet => Sys2Proof.Machine.execActivateForwardReceive n fleet s
  | .turnDoneReceive n => Sys2Proof.Machine.execTurnDoneReceive n s
  | .twyReplayTimeout n => Sys2Proof.Machine.execTwyReplayTimeout n s
  | .twyLosTimeout n => Sys2Proof.Machine.execTwyLosTimeout n s
  | .twyBerWindow n rates seen => Sys2Proof.Machine.execTwyBerWindow n rates seen s
  | .twyErrorWindow n => Sys2Proof.Machine.execTwyErrorWindow n s
  | .twySpareTrainDone n passed => Sys2Proof.Machine.execTwySpareTrainDone n passed s
  | .twySwapDone n => Sys2Proof.Machine.execTwySwapDone n s
  | .twyRateTrialEnd n => Sys2Proof.Machine.execTwyRateTrialEnd n s
  | .twyWidthWindow n long load => Sys2Proof.Machine.execTwyWidthWindow n long load s
  | .twyKeyUpdate n tx => Sys2Proof.Machine.execTwyKeyUpdate n tx s
  | .twyCntclr => Sys2Proof.Machine.execTwyCntclr s
  | .pciLinkUp speed width flit => Sys2Proof.Machine.execPciLinkUp speed width flit s
  | .pciLinkDown => Sys2Proof.Machine.execPciLinkDown s
  | .pciReadCompletion tag data poison ok => Sys2Proof.Machine.execPciReadCompletion tag data poison ok s
  | .pciCompletionTimeout tag => Sys2Proof.Machine.execPciCompletionTimeout tag s
  | .vfFlr v => Sys2Proof.Machine.execVfFlr v s
  | .msixUnmask v => Sys2Proof.Machine.execMsixUnmask v s
  | .pciCntclr => Sys2Proof.Machine.execPciCntclr s
  | .qosTokenTick => Sys2Proof.Machine.execQosTokenTick s
  | .qosWindow => Sys2Proof.Machine.execQosWindow s
  | .qosMissWindow => Sys2Proof.Machine.execQosMissWindow s
  | .qosPaceWindow pct => Sys2Proof.Machine.execQosPaceWindow pct s
  | .qosIsthmusWindow cycles => Sys2Proof.Machine.execQosIsthmusWindow cycles s
  | .qosWakeholdWrite hold => Sys2Proof.Machine.execQosWakeholdWrite hold s
  | .qosCntclr => Sys2Proof.Machine.execQosCntclr s
  | .currentSample j lo hi mv => Sys2Proof.Machine.execCurrentSample j lo hi mv s
  | .tempSample t q fail => Sys2Proof.Machine.execTempSample t q fail s
  | .throttleStep => Sys2Proof.Machine.execThrottleStep s
  | .throttleReleaseStep => Sys2Proof.Machine.execThrottleReleaseStep s
  | .thermalTrip t => Sys2Proof.Machine.execThermalTrip t s
  | .railLimitStep k mean calm => Sys2Proof.Machine.execRailLimitStep k mean calm s
  | .droopTrip src => Sys2Proof.Machine.execDroopTrip src s
  | .droopRelease src => Sys2Proof.Machine.execDroopRelease src s
  | .droopHoldEnd src => Sys2Proof.Machine.execDroopHoldEnd src s
  | .undervoltage c => Sys2Proof.Machine.execUndervoltage c s
  | .avsTransactionDone k mv => Sys2Proof.Machine.execAvsTransactionDone k mv s
  | .pllLockLoss n => Sys2Proof.Machine.execPllLockLoss n s
  | .slackEntry => Sys2Proof.Machine.execSlackEntry s
  | .slackExit coves => Sys2Proof.Machine.execSlackExit coves s
  | .coveGate c => Sys2Proof.Machine.execCoveGate c s
  | .coveWakeRequest c => Sys2Proof.Machine.execCoveWakeRequest c s
  | .coveAwake c => Sys2Proof.Machine.execCoveAwake c s
  | .avfsWindow pct => Sys2Proof.Machine.execAvfsWindow pct s
  | .avfsVoltageStep low spare => Sys2Proof.Machine.execAvfsVoltageStep low spare s
  | .cdLimitUpdate => Sys2Proof.Machine.execCdLimitUpdate s
  | .cdPowerWindow p => Sys2Proof.Machine.execCdPowerWindow p s
  | .brkCntclr => Sys2Proof.Machine.execBrkCntclr s
  | .spdmRequest src => Sys2Proof.Machine.execSpdmRequest src s
  | .getRecordKey who asid gen => Sys2Proof.Machine.execGetRecordKey who asid gen s
  | .mctpMessage t m => Sys2Proof.Machine.execMctpMessage t m s
  | .keyGen => Sys2Proof.Machine.execKeyGen s
  | .keyRotate => Sys2Proof.Machine.execKeyRotate s
  | .keyDestroy => Sys2Proof.Machine.execKeyDestroy s
  | .rootRotate => Sys2Proof.Machine.execRootRotate s
  | .rootRetire => Sys2Proof.Machine.execRootRetire s
  | .leaseRelease => Sys2Proof.Machine.execLeaseRelease s
  | .enrol => Sys2Proof.Machine.execEnrol s
  | .enrolTimeout => Sys2Proof.Machine.execEnrolTimeout s
  | .rosterRead => Sys2Proof.Machine.execRosterRead s
  | .identRead => Sys2Proof.Machine.execIdentRead s
  | .hldCntclr => Sys2Proof.Machine.execHldCntclr s
  | .leaseListenEnd => Sys2Proof.Machine.execLeaseListenEnd s
  | .leaseLapse => Sys2Proof.Machine.execLeaseLapse s
  | .leaseBackoffEnd => Sys2Proof.Machine.execLeaseBackoffEnd s
  | .leaseQuietEnd => Sys2Proof.Machine.execLeaseQuietEnd s
  | .leaseRenewTimer => Sys2Proof.Machine.execLeaseRenewTimer s
  | .powerOn => Sys2Proof.Machine.execPowerOn s
  | .vaoBrownout => Sys2Proof.Machine.execVaoBrownout s
  | .resetNAssert => Sys2Proof.Machine.execResetNAssert s
  | .resetNRelease tray slot sbsel recov => Sys2Proof.Machine.execResetNRelease tray slot sbsel recov s
  | .phaseHbootDone ok flash => Sys2Proof.Machine.execPhaseHbootDone ok flash s
  | .phasePowerDone unlocked => Sys2Proof.Machine.execPhasePowerDone unlocked s
  | .phaseBringupDone => Sys2Proof.Machine.execPhaseBringupDone s
  | .perstNRise => Sys2Proof.Machine.execPerstNRise s
  | .perstNFall => Sys2Proof.Machine.execPerstNFall s
  | .pciHotReset => Sys2Proof.Machine.execPciHotReset s
  | .pfFlr => Sys2Proof.Machine.execPfFlr s
  | .glbResetWarm => Sys2Proof.Machine.execGlbResetWarm s
  | .glbResetCold => Sys2Proof.Machine.execGlbResetCold s
  | .warmReset => Sys2Proof.Machine.execWarmReset s
  | .warmResetReturn failed bad => Sys2Proof.Machine.execWarmResetReturn failed bad s
  | .takeoverQueryAnswer n bad => Sys2Proof.Machine.execTakeoverQueryAnswer n bad s
  | .hostGo => Sys2Proof.Machine.execHostGo s
  | .leave => Sys2Proof.Machine.execLeave s
  | .leaveComplete => Sys2Proof.Machine.execLeaveComplete s
  | .rejoin => Sys2Proof.Machine.execRejoin s
  | .refclkTwyLoss => Sys2Proof.Machine.execRefclkTwyLoss s
  | .refclkTwyReturn => Sys2Proof.Machine.execRefclkTwyReturn s
  | .fwuBegin => Sys2Proof.Machine.execFwuBegin s
  | .fwuChunk => Sys2Proof.Machine.execFwuChunk s
  | .fwuEnd => Sys2Proof.Machine.execFwuEnd s
  | .fwuCancel => Sys2Proof.Machine.execFwuCancel s
  | .fwuActivate fleet => Sys2Proof.Machine.execFwuActivate fleet s
  | .fwuActCancel => Sys2Proof.Machine.execFwuActCancel s
  | .fwuRecovExit => Sys2Proof.Machine.execFwuRecovExit s
  | .pldmRequestUpdate t => Sys2Proof.Machine.execPldmRequestUpdate t s
  | .pldmPassComponentTable t comps => Sys2Proof.Machine.execPldmPassComponentTable t comps s
  | .pldmUpdateComponent t comp => Sys2Proof.Machine.execPldmUpdateComponent t comp s
  | .pldmFirmwareData t bytes flash => Sys2Proof.Machine.execPldmFirmwareData t bytes flash s
  | .pldmActivateFirmware t fleet => Sys2Proof.Machine.execPldmActivateFirmware t fleet s
  | .pldmCancelUpdateComponent t => Sys2Proof.Machine.execPldmCancelUpdateComponent t s
  | .pldmCancelUpdate t => Sys2Proof.Machine.execPldmCancelUpdate t s
  | .queryDeviceIdentifiers t => Sys2Proof.Machine.execQueryDeviceIdentifiers t s
  | .getFirmwareParameters t => Sys2Proof.Machine.execGetFirmwareParameters t s
  | .fwuTurnStart => Sys2Proof.Machine.execFwuTurnStart s
  | .fwuDrainEnd => Sys2Proof.Machine.execFwuDrainEnd s
  | .fwuOverwriteDone => Sys2Proof.Machine.execFwuOverwriteDone s
  | .fwuActivationDone alone => Sys2Proof.Machine.execFwuActivationDone alone s
  | .fwuTurnTimeout => Sys2Proof.Machine.execFwuTurnTimeout s
  | .illegalInstruction c => Sys2Proof.Machine.execIllegalInstruction c s
  | .instructionFetchFault c => Sys2Proof.Machine.execInstructionFetchFault c s
  | .takeoverQueryReceive n => Sys2Proof.Machine.execTakeoverQueryReceive n s
  | .departureReportReceive n => Sys2Proof.Machine.execDepartureReportReceive n s
  | .mirrorLossReportReceive n => Sys2Proof.Machine.execMirrorLossReportReceive n s
  | .clampDurationIrq loop inst => Sys2Proof.Machine.execClampDurationIrq loop inst s
  | .hldCommandComplete => Sys2Proof.Machine.execHldCommandComplete s
  | .fwuCommandComplete flash => Sys2Proof.Machine.execFwuCommandComplete flash s
  | .priEnable f alloc => Sys2Proof.Machine.execPriEnable f alloc s
  | .vfEnable n => Sys2Proof.Machine.execVfEnable n s

end Sys2Proof.Machine
end

