-- ==== Sys2Proof/Machine/Step.lean ====
section
/-! DEFINITION. One step of the block: the command at the front of the queue takes effect; on an empty queue one
always-on tick of 40 ns passes (log entries 2 and 45). No row of the table gives a command bits, so `withFetchWord` finds none. -/

namespace Sys2Proof.Machine

/-- One always-on tick passes: the time that event records carry advances (R863), and idle links send null frames (R585). -/
def tick (s : State) : State := nullFrames { s with time := s.time + 1 }

/-- One step: the front command with the rest of the queue, or a tick. -/
def step (s : State) : Host.Outcome State Fault Refusal :=
  match s.pending with
  | [] => .next (tick s)
  | c :: rest => exec c { s with pending := rest }

/-- The state with the command that a table word spells put at the front of its queue; no word spells one. -/
def State.withFetchWord (s : State) (nbits w : Nat) : State :=
  match decodeTableWord nbits w with
  | none => s
  | some c => { s with pending := c :: s.pending }

end Sys2Proof.Machine
end

