-- ==== Sys2Proof/Safety.lean ====
section
/-! DEFINITION. What statements say of a command: that it completes with a next state, and what it leaves as it was. -/

namespace Sys2Proof.Machine

/-- A command completes in a state, and what it leaves has a property. -/
def Completes (i : Instr) (s : State) (p : State → Prop) : Prop := ∃ t, exec i s = .next t ∧ p t

/-- Two states differ in their registers alone. -/
def OnlyRegs (s t : State) : Prop := t = { s with regs := t.regs }

/-- Every register but those named, each with its index, reads as before. -/
def RegsBut (l : List (Reg × Nat)) (s t : State) : Prop := ∀ r i, (r, i) ∉ l → getReg t r i = getReg s r i

/-- Every register, at every index, but those named reads as before. -/
def RegsButAll (l : List Reg) (s t : State) : Prop := ∀ r i, r ∉ l → getReg t r i = getReg s r i

/-- The registers that record events and count what is written to the host: a command that posts an event may change
them, whatever else it does (R657, R862, R866, R870, R874, R875). -/
def eventRegs : List Reg := [.EVT_SEVCNT, .EVT_LOST, .EVT_TAIL, .EVT_STAT, .PCI_DMAWR_LO, .PCI_DMAWR_HI]

/-- What no host access of a register but its own touches: the stores and engines beyond the registers, the event rings, the
host port and the outputs. -/
def StoresKept (s t : State) : Prop :=
  t.msh = s.msh ∧ t.reef = s.reef ∧ t.mem = s.mem ∧ t.hld = s.hld ∧ t.xlt = s.xlt ∧ t.tq = s.tq ∧ t.bead = s.bead ∧
    t.hbl = s.hbl ∧ t.shl = s.shl ∧ t.twy = s.twy ∧ t.brk = s.brk ∧ t.fwu = s.fwu ∧ t.rst = s.rst ∧
    t.time = s.time ∧ t.pending = s.pending

/-- The reset value of the register that a key of `State.regs` names. -/
def keyReset (k : Nat) : BitVec 32 := regReset (Reg.ofNat (k % 512)) (k / 512)

/-- The canonical form of the stores: the registers, the Reef's sectors and LPDDR's sectors stand in strictly rising order,
and no register and no Reef sector is listed at the value that an unlisted one has, so that equal contents are equal data. -/
def Canonical (s : State) : Bool :=
  mapWf s.regs keyReset && mapWf s.reef.secs secBlank && mapSorted s.mem.secs

/-- Registers whose 32-bit write does nothing beyond their fields: neither a half of a pair, nor one with a check across
fields or with an effect of its own (R11, R12, R801, R782, R838; Machine/HostRegs.lean `regWrite`, `afterWrite`). -/
def plainReg (r : Reg) : Bool :=
  r.hi?.isNone && r.lo?.isNone &&
    !([.FWU_WIN, .GLB_RESET, .HLD_CMD, .TWY_LINKCTL, .TWY_RATETH, .BRK_AVFSENV, .RFB_REFENV, .QOS_TOKA, .BRK_PSCTL] : List Reg).contains r

/-- A field of a 32-bit write is judged for reserved encodings: a WO field, or an RW field without a row of its own. -/
def judged (f : Fld) : Bool := f.acc == .wo || (f.acc == .rw && !f.ownRow)

/-- The rows that clear a block's counting registers, with the registers that its table names (R126, R172, R277, R350, R411,
R454, R511, R561, R625, R657, R687, R742, R784). -/
def clearRows : List (Instr × List Reg) := [
  (.mshCntclr, [.MSH_CRCERR, .MSH_TMOCNT, .MSH_URGHELD, .MSH_ISTHERR, .MSH_WAKECNT, .MSH_ISTHS2N_LO, .MSH_ISTHS2N_HI,
    .MSH_ISTHN2S_LO, .MSH_ISTHN2S_HI, .MSH_ISTHBP_LO, .MSH_ISTHBP_HI]),
  (.rfbCntclr, [.RFB_CECNT, .RFB_UECNT, .RFB_TALLYERR, .RFB_SCRUBPASS, .RFB_CONFLICT_LO, .RFB_CONFLICT_HI, .RFB_REFWAIT_LO,
    .RFB_REFWAIT_HI]),
  (.xltCntclr, [.XLT_L1MISS, .XLT_L2MISS, .XLT_ATSREQ, .XLT_PRIREQ, .XLT_FAULTS, .XLT_RETRANS]),
  (.tqCntclr, [.TQ_REFUSED, .TQ_DBOVF, .TQ_ACCEPTED_LO, .TQ_ACCEPTED_HI]),
  (.beadCntclr, [.BEAD_FAULTS, .BEAD_RETRIES, .BEAD_LAUNCHES_LO, .BEAD_LAUNCHES_HI]),
  (.tlyCntclr, [.TLY_PASS, .TLY_FAIL, .TLY_UNCHECKED, .TLY_GAP, .TLY_DIGERR, .TLY_TALLYERR, .TLY_HOLD_LO, .TLY_HOLD_HI]),
  (.hblCntclr, [.HBL_UNMIRACC, .HBL_RECOVER, .HBL_TAKEOVER, .HBL_DUPDROP, .HBL_RESEND, .HBL_INTERRUPT, .HBL_HOLD]),
  (.shlCntclr, [.SHL_CRCERR, .SHL_REPLAY, .SHL_RETRAIN, .SHL_TALLYERR, .SHL_RANGEERR, .SHL_RDSEC_LO, .SHL_RDSEC_HI,
    .SHL_WRSEC_LO, .SHL_WRSEC_HI, .SHL_BPCYC_LO, .SHL_BPCYC_HI]),
  (.twyCntclr, [.TWY_CLAMPDUR, .TWY_CRCERR, .TWY_REPLAY, .TWY_UNCORR, .TWY_AUTHERR, .TWY_SKIP, .TWY_CHANGES, .TWY_TXFR_LO,
    .TWY_TXFR_HI, .TWY_NOCRD_LO, .TWY_NOCRD_HI, .TWY_LANEERR]),
  (.pciCntclr, [.PCI_CPLTMO, .PCI_POISRX, .PCI_DBDROP, .PCI_DMARD_LO, .PCI_DMARD_HI, .PCI_DMAWR_LO, .PCI_DMAWR_HI, .PCI_NOCRD_LO,
    .PCI_NOCRD_HI]),
  (.qosCntclr, [.QOS_MISS, .QOS_MISSOVR, .QOS_CLAMPDUR]),
  (.brkCntclr, [.BRK_OVERRIDES, .BRK_THRCNT, .BRK_CLAMPDUR, .BRK_DROOPCNT]),
  (.hldCntclr, [.HLD_CONFLICTS, .HLD_BADLEASE])]

/-- An invalidation of an ASID has started (R258): it stands last in line, the context's generation has advanced, and neither
level of the caches holds an entry of the ASID. -/
def InvStarted (asid : Nat) (who : InvBy) (s t : State) : Prop :=
  t.xlt.invs = s.xlt.invs ++ [{ asid := asid, gen := ((ctxAt s asid).gen + 1) % 2 ^ 32, who := who }] ∧
    ctxAt t asid = { ctxAt s asid with gen := ((ctxAt s asid).gen + 1) % 2 ^ 32 } ∧ flag t F.XLT_INVSTAT.BUSY = true ∧
    (∀ e ∈ t.xlt.l1, ∀ x ∈ e.2, x.asid ≠ asid) ∧ ∀ e ∈ t.xlt.l2, ∀ x ∈ e.2, x.asid ≠ asid

/-- The dispatched instances that an invalidation aborts when its time is over: their queue, batch and dispatch number
(R260, R334). -/
def oldHolders (s : State) (v : Inval) : List (Nat × Nat × Nat) :=
  s.tq.queues.flatMap (fun (e : Nat × TQueue) => e.2.batches.flatMap (fun b =>
    (b.insts.filter (fun i => holdsOld v e.2.asid i && !i.collCommitted)).map (fun i => (e.1, b.first, i.dseq))))

/-- The sequencer of a queue may execute a command of the OP named: that of a batch at its present place (R295, R335). -/
def AtSeq (s : State) (q op : Nat) (b : Batch) : Prop :=
  frameRuns s = true ∧ (queueAt s q).next = some b ∧ cOp (wordAt b.words b.seq.pos) = op

/-- An engine has room, the turn is that of a queue, and the queue's sequencer stands at a command of the OP named, which has
not committed before and awaits no page (R255, R280). -/
def AtTurn (s : State) (e q op : Nat) (b : Batch) : Prop :=
  engineLoad s e < 16 ∧ turnOf s e = some q ∧ AtSeq s q op b ∧ b.committedHere = false ∧
    s.xlt.waits.any (fun w => w.what == .redo && w.queue == q) = false

/-- The rows by which an engine dispatches a command: the engine, and the command's OP. -/
def engineRows (f : Fin 32) (e : Fin 8) : List (Instr × Nat × Nat) :=
  [(.tideCopy f, f, 0x10), (.tideFill f, f, 0x12), (.tideReckon e, 32 + e, 0x20), (.tideKcall e, 32 + e, 0x21),
    (.tidePut e, 40 + e, 0x30), (.tideGet e, 40 + e, 0x31), (.tideColl e, 40 + e, 0x32)]

/-- The operands of the command at which a batch's sequencer stands. -/
def hereOpnds (b : Batch) : List Opnd := cmdOpnds b b.seq.pos

/-- None of them is of an older generation than the context (R255). -/
def Fresh (s : State) (q : Nat) (b : Batch) : Prop := staleOpnds s (queueAt s q).asid (hereOpnds b) = []

/-- What the dispatch's translation of the operands gives (R255). -/
def redone (s : State) (e q op : Nat) (b : Batch) : ReOp × State :=
  reTranslate op e (queueAt s q).asid ((queueAt s q).regot.filter (fun g => g.job == (b.first, b.seq.dseq))) (hereOpnds b) [] 0 s

/-- The tiles on which a kernel of a queue's ASID and a batch's mark runs (R311). -/
def fenceTiles (s : State) (x : TQueue) (b : Batch) : List Nat :=
  ((s.bead.cores.filter (fun e => e.2.job.isSome && e.2.asid == x.asid && e.2.mark == b.seq.mark)).map
    (fun e => e.1 / 2)).eraseDups

/-- A core stands at a legal instruction: its cove is awake, an instance runs, and the word at its pc has been loaded. -/
def AtIns (s : State) (c : Nat) (w : KWord) : Prop :=
  coreRuns s c = true ∧ (coreAt s c).active = true ∧ (coreAt s c).fetch = some w ∧ legal (coreAt s c).device w = true

/-- No g register of a core awaits a value. -/
def Landed (s : State) (c : Nat) : Prop := ∀ n, mapFind (coreAt s c).busy n = none

/-- The instructions of format R: FN, and rd as a function of rs1 and rs2 (R358). -/
def rrTable (c : CoreId) : List (Instr × Nat × (BitVec 64 → BitVec 64 → BitVec 64)) := [
  (.add c, 0, fun a b => BitVec.ofNat 64 (a.toNat + b.toNat)), (.sub c, 1, fun a b => a - b),
  (.and c, 2, fun a b => a &&& b), (.or c, 3, fun a b => a ||| b), (.xor c, 4, fun a b => a ^^^ b),
  (.sll c, 5, fun a b => BitVec.ofNat 64 (a.toNat * 2 ^ (b.toNat % 64))),
  (.srl c, 6, fun a b => BitVec.ofNat 64 (a.toNat / 2 ^ (b.toNat % 64))),
  (.sra c, 7, fun a b => a.sshiftRight (b.toNat % 64)),
  (.slt c, 8, fun a b => if a.toInt < b.toInt then 1 else 0), (.sltu c, 9, fun a b => if a.toNat < b.toNat then 1 else 0),
  (.mul c, 10, fun a b => BitVec.ofNat 64 (a.toNat * b.toNat)),
  (.mulhu c, 11, fun a b => BitVec.ofNat 64 (a.toNat * b.toNat / 2 ^ 64)),
  (.mulh c, 12, fun a b => BitVec.ofInt 64 (a.toInt * b.toInt / 2 ^ 64)),
  (.divu c, 13, fun a b => if b = 0 then BitVec.allOnes 64 else BitVec.ofNat 64 (a.toNat / b.toNat)),
  (.remu c, 14, fun a b => if b = 0 then a else BitVec.ofNat 64 (a.toNat % b.toNat)),
  (.ramap c, 15, fun a _ => if a.toNat < carveBase then
      BitVec.ofNat 64 (0x100000000 + (hashPlace a.toNat).tile * 0x200000 + (hashPlace a.toNat).so) else a)]

/-- The instructions of format I that compute: OP, and rd as a function of rs1 and the word's immediate (R357, R358). -/
def riTable (c : CoreId) : List (Instr × Nat × (BitVec 64 → KWord → BitVec 64)) := [
  (.addi c, 1, fun a w => a + (w.extractLsb' 16 16).signExtend 64),
  (.andi c, 2, fun a w => a &&& (w.extractLsb' 16 16).zeroExtend 64),
  (.ori c, 3, fun a w => a ||| (w.extractLsb' 16 16).zeroExtend 64),
  (.xori c, 4, fun a w => a ^^^ (w.extractLsb' 16 16).zeroExtend 64),
  (.slti c, 5, fun a w => if a.toInt < ((w.extractLsb' 16 16).signExtend 64).toInt then 1 else 0),
  (.sltiu c, 6, fun a w => if a.toNat < ((w.extractLsb' 16 16).signExtend 64).toNat then 1 else 0),
  (.shi c, 7, fun a w =>
    if bitsAt w 22 2 = 0 then a <<< bitsAt w 16 6 else if bitsAt w 22 2 = 1 then a >>> bitsAt w 16 6
    else a.sshiftRight (bitsAt w 16 6)),
  (.lsh c, 8, fun a w => (a <<< 16) ||| (w.extractLsb' 16 16).zeroExtend 64)]

/-- The branches: OP and comparison (R358). -/
def brTable (c : CoreId) : List (Instr × Nat × (BitVec 64 → BitVec 64 → Bool)) := [
  (.beq c, 0x28, fun a b => decide (a = b)), (.bne c, 0x29, fun a b => decide (a ≠ b)),
  (.blt c, 0x2A, fun a b => decide (a.toInt < b.toInt)), (.bge c, 0x2B, fun a b => decide (b.toInt ≤ a.toInt)),
  (.bltu c, 0x2C, fun a b => decide (a.toNat < b.toNat)), (.bgeu c, 0x2D, fun a b => decide (b.toNat ≤ a.toNat))]

/-- The loads: OP, bytes, sign-extended (R358). -/
def ldTable (c : CoreId) : List (Instr × Nat × Nat × Bool) :=
  [(.ldbu c, 0x10, 1, false), (.ldhu c, 0x11, 2, false), (.ldwu c, 0x12, 4, false), (.ldws c, 0x13, 4, true),
    (.ldd c, 0x14, 8, false)]

/-- The stores: OP, and the base-2 logarithm of the bytes (R358). -/
def stTable (c : CoreId) : List (Instr × Nat × Nat) := [(.stb c, 0x18, 0), (.sth c, 0x19, 1), (.stw c, 0x1A, 2), (.std c, 0x1B, 3)]

/-- The atomics: AOP, and the new value from the old one, the operand, the comparand and the bits (R358, R367). -/
def amoTable (c : CoreId) : List (Instr × Nat × (Nat → Nat → Nat → Nat → Nat)) := [
  (.amoAdd c, 1, fun old x _ n => (old + x) % 2 ^ n), (.amoSwap c, 2, fun _ x _ _ => x),
  (.amoCas c, 3, fun old x cmp _ => if old = cmp then x else old), (.amoMaxu c, 4, fun old x _ _ => max old x),
  (.amoMinu c, 5, fun old x _ _ => min old x), (.amoOr c, 6, fun old x _ _ => old ||| x),
  (.amoAnd c, 7, fun old x _ _ => old &&& x)]

/-- The Reckoner's instructions of OP 0x38: FN, and their effect on the core (R358, R385-R397). -/
def kTable (c : CoreId) (point : Nat) : List (Instr × Nat × (KIns → Core → Core)) := [
  (.kmov c, 0, kMov), (.kxor c, 1, kXor), (.kins c, 2, kIns), (.kext c, 3, kExt), (.kbc c, 4, kBc), (.krand c, 5, kRand),
  (.ktally c, 6, kTally), (.kdig c, 7, kDig point), (.kmdot c, 8, kMdot), (.kdot c, 16, kDot), (.kzacc c, 17, kZacc),
  (.ksha c, 18, kSha), (.krnd c, 19, kRnd), (.kint c, 20, kInt), (.kadda c, 22, kAdda)]

/-- The outputs of a COLL on this die, sector by sector, as its TYPE of collective makes them (R330, R490). -/
def collOuts (x : TQueue) (c : Cmd) (i : Inst) (s : State) : List (Nat × Sector) × State :=
  (List.range (cSectors c)).foldl (fun (a : List (Nat × Sector) × State) k =>
    match collOutput x c i k a.2 with
    | (some d, u) => (a.1 ++ [(k, d)], u)
    | (none, u) => (a.1, u)) ([], s)

/-- The outputs written to DST after the staging area has been used: the first error met, or 0 (R490). -/
def collStored (x : TQueue) (i : Inst) (o : List (Nat × Sector) × State) : Nat × State :=
  o.1.foldl (fun (a : Nat × State) (p : Nat × Sector) =>
    match i.sector 1 p.1 with
    | none => a
    | some y =>
      (if a.1 = 0 then (engWrite y x.share i.snap.mark x.asid p.2 (tallyOf p.2) false a.2).1 else a.1,
        (engWrite y x.share i.snap.mark x.asid p.2 (tallyOf p.2) false a.2).2)) (0, o.2)

/-- A MEMBER message of a kind. -/
def isMember (k : Nat) (m : TwyMsg) : Bool := m.op == 0x12 && memberKind m == k

/-- What a message does where the die holds the steward's lease; elsewhere it does nothing. -/
def atSteward (f : TwyMsg → State → State) (m : TwyMsg) (u : State) : State := if role u = 3 then f m u else u

/-- No wait. -/
def noWait (_ : State) (_ : TwyMsg) : Nat × Bool := (0, false)

/-- The rows that serve a message received on a link: when they run, the VC, the messages meant, what one of them waits for in
the mesh and the memories that it reaches (R115, R158, R183, R192, R205), and what is done with it
(R461, R485, R504, R508, R577, R618, R682, R762, R770, R775, R809, R817-R820, R842, R843). -/
inductive Served (n : LinkId) :
    Instr → (State → Bool) → Nat → (State → TwyMsg → Bool) → (State → TwyMsg → Nat × Bool) → (TwyMsg → State → State) → Prop
  | write : Served n (.twyWrite n) frameRuns 2 (fun _ m => m.op == 1) (fun s m => inboundWait s n m m.data.length 2) (twyWrite n)
  | read : Served n (.twyRead n) frameRuns 2 (fun _ m => m.op == 2) (fun s m => inboundWait s n m (readCount m) 1) (twyRead n)
  | readData : Served n (.twyReadData n) frameRuns 3 (fun _ m => m.op == 3) dataWait gatherData
  | ack : Served n (.twyAck n) frameRuns 3 (fun _ m => m.op == 4) noWait gatherAck
  | error : Served n (.twyError n) frameRuns 3 (fun _ m => m.op == 5) noWait
      (fun m => gatherError m.tag (if m.status = Status.TLY_MISMATCH then Status.TQ_DIGEST else m.status))
  | abort : Served n (.twyAbort n) frameRuns 0 (fun _ m => m.op == 8) noWait (twyUrgent n)
  | fence : Served n (.twyFence n) frameRuns 0 (fun _ m => m.op == 9) noWait (twyUrgent n)
  | doorbell : Served n (.twyDoorbell n) frameRuns 0 (fun _ m => m.op == 0x0A) noWait (twyUrgent n)
  | journal : Served n (.twyJournal n) frameRuns 1 (fun _ m => m.op == 0x10) noWait
      (fun m => slotJournal m.src (m.data.map (fun d => d.1)))
  | jack : Served n (.twyJack n) frameRuns 1 (fun _ m => m.op == 0x11) noWait (fun m => partnerAcked m.src m.seq)
  | coll : Served n (.twyColl n) frameRuns 1 (fun s m => m.op == 0x13 && (collMessage m s).1) noWait (fun m u => (collMessage m u).2)
  | route : Served n (.twyRoute n) frameRuns 1 (fun _ m => m.op == 0x14) noWait twyRoute
  | claim : Served n (.leaseClaimReceive n) headRuns 1
      (fun _ m => isMember mkLease m && !(leaseByte m 1 1 == 2 || leaseByte m 1 1 == 3)) noWait leaseReceive
  | renew : Served n (.leaseRenewReceive n) headRuns 1 (fun _ m => isMember mkLease m && leaseByte m 1 1 == 2) noWait leaseReceive
  | release : Served n (.leaseReleaseReceive n) headRuns 1 (fun _ m => isMember mkLease m && leaseByte m 1 1 == 3) noWait leaseReceive
  | beat : Served n (.memberBeatReceive n) headRuns 1 (fun _ m => isMember mkBeat m) noWait
      (atSteward fun m => stewBeat m.src (byteField m.body 1 1 == 1))
  | decision : Served n (.stewardDecisionReceive n) headRuns 1 (fun _ m => isMember mkDecision m) noWait
      (fun m u => turnObey (decisionTake (byteField m.body 4 4) (byteField m.body 8 1) (byteField m.body 9 1 % 32)
        (byteField m.body 10 4) u))
  | reset : Served n (.resetNoticeReceive n) headRuns 1 (fun _ m => isMember mkReset m) noWait
      (atSteward fun m => stewReset m.src (byteField m.body 1 1))
  | link : Served n (.linkReportReceive n) headRuns 1 (fun _ m => isMember mkLink m) noWait
      (atSteward fun m => stewLinks m.src (m.data.map (fun d => d.1)))
  | ident : Served n (.identityReportReceive n) headRuns 1 (fun _ m => isMember mkIdent m) noWait
      (atSteward fun m => stewIdent (byteField m.body 1 1 % 32)
        (BitVec.ofNat 384 (secField ((m.data.headD (0, 0)).1) 0 48)))
  | join : Served n (.memberJoin n) headRuns 1 (fun _ m => isMember mkJoin m) noWait
      (atSteward fun m u => if trusted u m.src then stewJoin m.src u else u)
  | turnDone : Served n (.turnDoneReceive n) headRuns 1 (fun _ m => isMember mkTurnDone m) noWait (atSteward fun m => turnOver m.src)
  | departure : Served n (.departureReportReceive n) headRuns 1 (fun _ m => isMember mkDeparture m) noWait
      (atSteward fun m u => if byteField m.body 1 1 = 1 then stewLeft m.src u else stewLeaving m.src u)
  | mirrorLoss : Served n (.mirrorLossReportReceive n) headRuns 1 (fun _ m => isMember mkMirrorLoss m) noWait
      (atSteward fun m => stewMirrorLoss m.src)
  | query : Served n (.takeoverQueryReceive n) headRuns 1 (fun _ m => isMember mkQuery m) noWait
      (fun m u => twySend (memberMsg u mkAnswer m.src [(1, 1, boolNat (u.hbl.taken.getLsbD m.src))] []) u)

/-- HLD_QUAR already says of a die what will hold once link n knows no peer (R71). -/
def QuarSettled (s : State) (n d : Nat) : Prop :=
  treatQuar (setF F.TWY_PEER.VALID n 0 s) d = (getReg s .HLD_QUAR 0).getLsbD d

/-- A message that a row serves stands on a link: the oldest of its VC that is for this die and of the row's kind. -/
def Waiting (s : State) (n vc : Nat) (p : State → TwyMsg → Bool) (m : TwyMsg) : Prop :=
  rxPick s n vc (fun m => m.dst == ownDie s && p s m) = some m

/-- A step goes on: it answers a next state. -/
def StepSafe (s : State) : Prop := ∃ t, step s = .next t

end Sys2Proof.Machine
end

