-- ==== Sys2Proof/Certificates/Slice0/Obligations.lean ====
section
/-! DEFINITION. The statements for the provers. -/

open Sys2Proof Sys2Proof.Machine

/-! ### The step, reset, events, registers -/

/-- The command at the front of the queue runs on the state with the queue's rest. On an empty queue one tick of 40 ns passes: with
no Tideway link ACTIVE nothing else happens, and a link that alone is ACTIVE, and has room in its replay buffer, sends one frame
without messages (R585). What log entries 1, 2 and 45 say is the model's choice. -/
def Obligations.StepRunsTheFrontCommand : Prop :=
  (∀ (c : Instr) (rest : List Instr) (s : State), step { s with pending := c :: rest } = exec c { s with pending := rest }) ∧
  (∀ s : State, s.pending = [] → (∀ n, n < 24 → linkState s n ≠ 4) → step s = .next { s with time := s.time + 1 }) ∧
  (∀ (n : LinkId) (s : State), s.pending = [] → twyClock s = true → linkState s n.val = 4 →
    (∀ k, k < 24 → k ≠ n.val → linkState s k ≠ 4) → (linkAt s n.val).replay.length < 256 →
    step s = .next (sendFrame n.val [] false false (linkAt s n.val) { s with time := s.time + 1 }))

/-- Right after reset: PHASE 0, every register of the tables at its table's value, no command waiting, no event held, nothing
sent, and every cove gated at 500 mV. -/
def Obligations.ResetLeavesTheTablesValues : Prop :=
  (∀ r i, getReg State.reset r i = regReset r i) ∧ phase State.reset = 0 ∧ State.reset.pending = [] ∧
  State.reset.out = [] ∧ State.reset.evt.held = [] ∧ State.reset.evt.rings = [] ∧
  (∀ c : CoveId, getF State.reset F.BRK_COVESTAT.STATE c = 2 ∧ getF State.reset F.BRK_COVESTAT.MV c = 500) ∧
  getReg State.reset .MSH_COVEAWAKE 0 = 0

/-- The canonical form of the stores: registers, Reef sectors and LPDDR sectors stand in rising order, and no register
and no Reef sector is listed at the value that an unlisted one has. -/
def Obligations.ResetIsCanonical : Prop := Canonical State.reset = true

/-- Every step keeps the canonical form of the registers, of the Reef and of LPDDR, whatever command runs. -/
def Obligations.StepKeepsCanonicalForm : Prop :=
  ∀ s t : State, Canonical s = true → step s = .next t → Canonical t = true

/-- No step stops: every command, in every state, answers a next state. That a command not due changes nothing is the model's
choice (log entry 4). -/
def Obligations.NoStepStops : Prop := ∀ s : State, StepSafe s

/-- R862, R867: a posted event increments EVT_SEVCNT of its severity, and while the rings are ready and have room writes one record to
each ring that the routing rules name: ring 0 always, and the ring of a virtual function exactly when the event's context is bound
to it or its queue lies in its range. The record holds the event's code, its severity, the time and what the rule gave it. The
registers that no event concerns, and the stores, stay. -/
def Obligations.EventsAreCountedAndRecorded : Prop :=
  (∀ (e : EvArgs) (s : State) (sev : Nat), sev = e.sev.getD ((evSev? e.code).getD 0) → sev < 4 →
    getF (post e s) F.EVT_SEVCNT.COUNT sev = min (getF s F.EVT_SEVCNT.COUNT sev + 1) (2 ^ 32 - 1) ∧
    (∀ r i, r ∉ eventRegs → getReg (post e s) r i = getReg s r i) ∧ StoresKept s (post e s) ∧
    (∀ v, v < 32 → s.evt.ready = true → unread s v < 4095 → ¬ (sev = 3 ∧ s.evt.fatal = true) →
      (v ∉ evRings s e.asid e.queue → getReg (post e s) .EVT_TAIL v = getReg s .EVT_TAIL v) ∧
      (v ∈ evRings s e.asid e.queue → getReg (post e s) .EVT_TAIL v = getReg s .EVT_TAIL v + 1 ∧
        ∃ r, mapFind (post e s).evt.rings (v * 4096 + (getReg s .EVT_TAIL v).toNat % 4096) = some r ∧
          r.code = BitVec.ofNat 16 e.code ∧ r.sev = BitVec.ofNat 2 sev ∧ r.inj = e.inj ∧
          r.time = BitVec.ofNat 64 s.time ∧ r.asid = BitVec.ofNat 16 e.asid ∧
          r.mark = BitVec.ofNat 16 e.mark ∧ r.inst = BitVec.ofNat 16 e.inst ∧
          r.detail0 = BitVec.ofNat 32 e.d0 ∧ r.detail1 = BitVec.ofNat 64 e.d1))) ∧
  (∀ (s : State) (asid : Nat) (q : Option Nat) (v : Nat),
    v ∈ evRings s asid q ↔ v = 0 ∨ (v < 32 ∧
      ((asid ≠ 0 ∧ asidFunc s asid = some v) ∨ ∃ k, q = some k ∧ inVfRange s v k = true)))

/-- R8, R11: a 32-bit write by the PF to a register without effects of its own changes no other register and no store; it sets
every RW field to the value written, but a field whose value is reserved keeps its own; clears the ones written of W1C fields;
leaves RO fields; and posts one NOTE, REG_RSVD, exactly where an encoding was reserved. What log entries 19 and 102 say is the
model's choice. -/
def Obligations.RegisterWriteFollowsAccessCodes : Prop :=
  ∀ (s : State) (off : BitVec 28) (val : BitVec 32) (r : Reg) (i : Nat),
    barOpen s = true → off.toNat % 4 = 0 → regFind Reg.table off.toNat = some (r, i) → plainReg r = true →
    ∃ (u : State) (b : Bool), exec (.regWrite 0 false off val false) s = .next (noteRsvd b u) ∧
      OnlyRegs s u ∧ RegsBut [(r, ownIndex 0 r i)] s u ∧
      (b = true ↔ ∃ f ∈ r.info.flds, judged f = true ∧ fldLegal f (bitsAt val f.bit f.width) = false) ∧
      ∀ f ∈ r.info.flds,
        (f.acc = .rw → f.ownRow = false → fldLegal f (bitsAt val f.bit f.width) = true →
          getF u f (ownIndex 0 r i) = bitsAt val f.bit f.width) ∧
        (f.acc = .rw → (f.ownRow = true ∨ fldLegal f (bitsAt val f.bit f.width) = false) →
          getF u f (ownIndex 0 r i) = getF s f (ownIndex 0 r i)) ∧
        (f.acc = .w1c → getF u f (ownIndex 0 r i)
          = getF s f (ownIndex 0 r i) - (getF s f (ownIndex 0 r i) &&& bitsAt val f.bit f.width)) ∧
        ((f.acc = .ro ∨ f.acc = .wo) → getF u f (ownIndex 0 r i) = getF s f (ownIndex 0 r i))

/-- R6, R7: a read of BAR0 or BAR2 that is not exactly 4 bytes wide and 4-byte aligned completes with 0xFFFF_FFFF, such a write is
discarded, and each posts one NOTE event, REG_ACCESS. -/
def Obligations.BadAccessIsAnsweredAndNoted : Prop :=
  evSev? Ev.REG_ACCESS = some 0 ∧
  ∀ (f : Func) (bar2 : Bool) (off : BitVec 28) (len : BitVec 13) (s : State), barOpen s = true →
    ¬ (off.toNat % 4 = 0 ∧ len.toNat = 4) → ∃ e : EvArgs, e.code = Ev.REG_ACCESS ∧ e.sev = none ∧ e.inj = false ∧
      exec (.barBadAccessRead f bar2 off len) s
        = .next { post e s with out := (post e s).out ++ [.barValue f 0xFFFFFFFF#32] } ∧
      exec (.barBadAccessWrite off len) s = .next (post e s)

/-- R12-R14: a read of a `_LO` register returns its half, captures the other half in the requester's shadow and leaves every other
function's shadow; a read of a `_HI` register returns the requester's shadow. A write to a `_LO` register changes no register; the
write to the matching `_HI` register then gives both halves their values, reserved bits apart. (The counters TQ_CNT are stated
with COUNTER_HOST_WRITE.) What log entries 15, 101 and 102 say is the model's choice. -/
def Obligations.PairsAreReadAndWrittenInHalves : Prop :=
  (∀ (f g : Func) (s : State) (off : BitVec 28) (lo hi : Reg) (i : Nat),
    readOpen s off.toNat = true → twoFold off.toNat = false → off.toNat % 4 = 0 →
    regFind Reg.table off.toNat = some (lo, i) → lo.hi? = some hi →
    Completes (.reg64LoRead f false off) s (fun t =>
      t.out = s.out ++ [.barValue f (regView s f.val lo i)] ∧
      mapGet t.pci.shadow f.val 0 = regView s f.val hi i ∧
      (g ≠ f → mapGet t.pci.shadow g.val 0 = mapGet s.pci.shadow g.val 0) ∧ t.regs = s.regs)) ∧
  (∀ (f : Func) (s : State) (off : BitVec 28) (lo hi : Reg) (i : Nat),
    readOpen s off.toNat = true → twoFold off.toNat = false → off.toNat % 4 = 0 →
    regFind Reg.table off.toNat = some (hi, i) → hi.hi? = none → hi.lo? = some lo →
    exec (.reg64HiRead f off) s = .next { s with out := s.out ++ [.barValue f (mapGet s.pci.shadow f.val 0)] }) ∧
  (∀ (s : State) (off : BitVec 28) (lo : Reg) (i : Nat) (v : BitVec 32),
    writeOpen s off.toNat = true → regFind Reg.table off.toNat = some (lo, i) → lo.hi?.isSome = true →
    pairWritable lo = true →
    Completes (.reg64LoWrite 0 off v) s (fun t =>
      t.regs = s.regs ∧ mapGet t.pci.loHeld (regKey lo i) 0 = v)) ∧
  (∀ (s : State) (off : BitVec 28) (lo hi : Reg) (i : Nat) (w : BitVec 32),
    writeOpen s off.toNat = true → regFind Reg.table off.toNat = some (hi, i) → hi.lo? = some lo → lo ≠ hi →
    lo ≠ .TQ_CNT_LO → pairWritable hi = true →
    Completes (.reg64HiWrite 0 off w) s (fun t =>
      getReg t lo i = rwBits lo (mapGet s.pci.loHeld (regKey lo i) (getReg s lo i)) ∧
      getReg t hi i = rwBits hi w ∧ RegsBut [(lo, i), (hi, i)] s t ∧
      mapFind t.pci.loHeld (regKey lo i) = none))

/-- R871, R883, R884: EVT_HEAD takes a value that leaves at most 4,096 records unread, and where the ring had lost records one
EVT_LOST record follows; another value is reserved. EVT_INJ posts the code with INJ set; a FATAL or unlisted code is reserved, and
a virtual function's write is discarded. EVT_CNTCLR zeroes the function's EVT_LOST, and from the PF EVT_SEVCNT. That a command not
due changes nothing, and the readings of log entries 4, 20 and 100, are the model's choice. -/
def Obligations.EventBlockRows : Prop :=
  (∀ (f : Func) (v : BitVec 32) (s : State), barOpen s = true → (getReg s .EVT_TAIL f - v).toNat ≤ 4096 →
    exec (.evtHeadWrite f v) s = .next (tryLost f (setReg .EVT_HEAD f v s)) ∧
    (mapGet s.evt.lostSince f 0 = 0 → tryLost f (setReg .EVT_HEAD f v s) = setReg .EVT_HEAD f v s)) ∧
  (∀ (f : Func) (v : BitVec 32) (s : State), barOpen s = true → 4096 < (getReg s .EVT_TAIL f - v).toNat →
    exec (.evtHeadWrite f v) s = .next (post { code := Ev.REG_RSVD } s)) ∧
  (∀ (c : BitVec 16) (sev : Nat) (s : State), barOpen s = true → evSev? c.toNat = some sev → sev ≠ 3 →
    exec (.evtInj 0 c) s = .next (post { code := c.toNat, inj := true } s)) ∧
  (∀ (c : BitVec 16) (s : State), barOpen s = true → (evSev? c.toNat = none ∨ evSev? c.toNat = some 3) →
    exec (.evtInj 0 c) s = .next (post { code := Ev.REG_RSVD } s)) ∧
  (∀ (f : Func) (c : BitVec 16) (s : State), f ≠ 0 → exec (.evtInj f c) s = .next s) ∧
  (∀ (f : Func) (s : State), barOpen s = true →
    Completes (.evtCntclr f) s (fun t => OnlyRegs s t ∧ getReg t .EVT_LOST f = 0 ∧
      (f = 0 → ∀ k, getReg t .EVT_SEVCNT k = 0) ∧
      (f ≠ 0 → RegsBut [(.EVT_LOST, f.val)] s t) ∧
      (∀ r j, r ≠ .EVT_LOST → r ≠ .EVT_SEVCNT → getReg t r j = getReg s r j)))
/-! ### Counters cleared by the host -/

/-- A write of 1 to a block's CNTCLR zeroes the counting registers that its table names, at every index, and changes nothing else;
MEM_CNTCLR zeroes CE and RETRAINS of every MEM_CHSTAT and leaves the register's other fields. That a command not due changes
nothing is the model's choice (log entry 4). -/
def Obligations.CounterClearRows : Prop :=
  (∀ (c : Instr) (l : List Reg) (s : State), (c, l) ∈ clearRows → barOpen s = true →
    Completes c s (fun t => OnlyRegs s t ∧ RegsButAll l s t ∧ ∀ r ∈ l, ∀ i, getReg t r i = 0)) ∧
  (∀ (s : State) (n : ChanId), barOpen s = true →
    Completes .memCntclr s (fun t => OnlyRegs s t ∧ RegsButAll [.MEM_CHSTAT] s t ∧
      getF t F.MEM_CHSTAT.CE n = 0 ∧ getF t F.MEM_CHSTAT.RETRAINS n = 0 ∧
      getF t F.MEM_CHSTAT.MR4 n = getF s F.MEM_CHSTAT.MR4 n ∧ getF t F.MEM_CHSTAT.HOT n = getF s F.MEM_CHSTAT.HOT n))

/-! ### The counting frame -/

/-- R79-R82, R90, R91, R103, R105, R122, R678, R683: the flit of an agent that its tile has, with a free TAG and a target, enters its
router as the header rules form it, and what it awaits is recorded; an urgent flit, of an agent that may send one, passes its cap
and starts an interval, or is held and counted; one to another die waits for a link, and begins its interval when a link takes it.
When the interval ends the oldest held flit goes, or the cap is free. That a command not due changes nothing, and the readings of
log entries 4, 8 and 26, are the model's choice. -/
def Obligations.FlitsEnterTheMesh : Prop :=
  (∀ (t : TileId) (a : Fin 8) (hdr : BitVec 128) (pay : Sector) (tally : BitVec 32) (die : Option Die) (k : Fin 64) (s : State)
      (f : Flit), f = formFlit s t.val a.val hdr pay tally →
    frameRuns s = true → hasAgent t.val a.val = true → f.rejected = false → tagFree s t a f = true →
    (f.vc ≠ 0 → exec (.flitInject t a hdr pay tally die k) s = .next (inject t a f (expect t a f k s))) ∧
    (f.vc = 0 → mayUrge a.val = true → die = none → srcOf t a ∉ s.msh.capBusy →
      exec (.flitInject t a hdr pay tally die k) s
        = .next (inject t a f { s with msh := { s.msh with capBusy := s.msh.capBusy ++ [srcOf t a] } })) ∧
    (f.vc = 0 → mayUrge a.val = true → die = none → srcOf t a ∈ s.msh.capBusy →
      Completes (.flitInject t a hdr pay tally die k) s (fun u =>
        u.msh = { s.msh with capHeld := s.msh.capHeld ++ [{ tile := t, code := a, die := none, flit := f }] } ∧
        getF u F.MSH_URGHELD.COUNT = min (getF s F.MSH_URGHELD.COUNT + 1) (2 ^ 32 - 1) ∧
        RegsBut [(.MSH_URGHELD, 0)] s u)) ∧
    (f.vc = 0 → mayUrge a.val = true → ∀ d, die = some d → srcOf t a ∉ s.msh.capBusy →
      exec (.flitInject t a hdr pay tally die k) s
        = .next { s with msh := { s.msh with
            linkWait := s.msh.linkWait ++ [{ tile := t, code := a, die := some d, flit := f }] } }) ∧
    (f.vc = 0 → mayUrge a.val = true → ∀ d, die = some d → srcOf t a ∈ s.msh.capBusy →
      Completes (.flitInject t a hdr pay tally die k) s (fun u =>
        u.msh = { s.msh with linkWait := s.msh.linkWait ++ [{ tile := t, code := a, die := some d, flit := f }] } ∧
        getF u F.MSH_URGHELD.COUNT = min (getF s F.MSH_URGHELD.COUNT + 1) (2 ^ 32 - 1) ∧
        RegsBut [(.MSH_URGHELD, 0)] s u)) ∧
    (f.vc = 0 → mayUrge a.val = false → exec (.flitInject t a hdr pay tally die k) s = .next s)) ∧
  (∀ (src : UrgSrc) (s : State), frameRuns s = true → src ∈ s.msh.capBusy →
    (s.msh.capHeld.find? (fun w => decide (srcOf w.tile w.code = src)) = none →
      exec (.urgentCapRelease src) s
        = .next { s with msh := { s.msh with capBusy := s.msh.capBusy.filter (fun u => decide (u ≠ src)) } }) ∧
    (∀ w, s.msh.capHeld.find? (fun w => decide (srcOf w.tile w.code = src)) = some w →
      exec (.urgentCapRelease src) s
        = .next (inject w.tile w.code w.flit { s with msh := { s.msh with capHeld := s.msh.capHeld.erase w } }))) ∧
  (∀ (t : TileId) (a : Fin 8) (n : LinkId) (s : State) (w : UrgWait) (d : Die), frameRuns s = true →
    s.msh.linkWait.find? (fun w => decide (w.tile = t ∧ w.code = a)) = some w → w.die = some d →
    .link n ∉ s.msh.capBusy → srcOf t a ∉ s.msh.capBusy → mapFind s.msh.reserved n.val = none →
    getF s F.TWY_STATUS.STATE n.val = 4 → (∃ h ∈ nextHops s d.val, h.1 = n.val) →
    Completes (.urgentLinkReserve t a n) s (fun u =>
      mapFind u.msh.reserved n.val = some w ∧ u.msh.linkWait = s.msh.linkWait.erase w ∧
      u.msh.capBusy = s.msh.capBusy ++ [srcOf t a] ∧ u.regs = s.regs))

/-- R85, R88, R93, R109, R117: a router's grant takes the winning flit from its buffer and sends it on every branch of its route;
the destination's router hands over the next flit of its ejection port that its agent takes. Nothing happens at a gated cove. At
the end of a one-second window (R111-R113) a crossing whose errors exceed DOWN_LIM stops the die with ISTHMUS_DOWN, and one whose
errors exceed DEGRADE_LIM is marked weak; with no crossing over either, nothing but the counts of the window changes. That a
command not due changes nothing, and the readings of log entries 4, 8, 9, 10, 11 and 110, are the model's choice. -/
def Obligations.RoutersMoveFlits : Prop :=
  (∀ (t : TileId) (out : Fin 7) (noise : BitVec 704) (s : State) (c : Cand),
    frameRuns s = true → coveAwake s (coveOf t.val) = true → respBlocked s t.val out.val = false →
    granted s t.val out.val = some c →
    exec (.meshFlitHop t out noise) s = .next ((routeOuts t.val c.slot.flit).foldl
      (fun u o => forward t.val o c.vc (if o = out.val then c.slot.flit.noisy noise else c.slot.flit) u)
      (setBuf t.val c.port c.vc ((bufAt (afterGrant t.val c s) t.val c.port c.vc).drop 1) (afterGrant t.val c s)))) ∧
  (∀ (t : TileId) (v : Nat) (f : Flit) (rest : List Flit) (s : State),
    frameRuns s = true → coveAwake s (coveOf t.val) = true → ejectNext s t.val = some v →
    mapGet s.msh.eject (t.val * 4 + v) [] = f :: rest →
    exec (.meshFlitEject t) s
      = .next (ejectFlit t.val f { s with msh := { s.msh with eject := mapSet s.msh.eject (t.val * 4 + v) [] rest } })) ∧
  (∀ (t : TileId) (out : Fin 7) (noise : BitVec 704) (s : State), coveAwake s (coveOf t.val) = false →
    exec (.meshFlitHop t out noise) s = .next s ∧ exec (.meshFlitEject t) s = .next s) ∧
  (∀ s : State, clocksRun s = true →
    (∀ x, x < 48 → mapGet s.msh.isthWin (2 * x) 0 + mapGet s.msh.isthWin (2 * x + 1) 0 ≤ getF s F.MSH_ISTHLIM.DEGRADE_LIM ∧
      mapGet s.msh.isthWin (2 * x) 0 + mapGet s.msh.isthWin (2 * x + 1) 0 ≤ getF s F.MSH_ISTHLIM.DOWN_LIM) →
    exec .isthmusErrorWindow s = .next { s with msh := { s.msh with isthWin := [] } }) ∧
  (∀ (x : Nat) (s : State), getF s F.MSH_ISTHLIM.DOWN_LIM
      < mapGet s.msh.isthWin (2 * x) 0 + mapGet s.msh.isthWin (2 * x + 1) 0 →
    isthmusWindow x s = fatal { code := Ev.ISTHMUS_DOWN, inst := x }
      (if getF s F.MSH_ISTHLIM.DEGRADE_LIM < mapGet s.msh.isthWin (2 * x) 0 + mapGet s.msh.isthWin (2 * x + 1) 0 then
        post { code := Ev.ISTHMUS_WEAK, inst := x } (putPairBit .MSH_ISTHWEAK_LO .MSH_ISTHWEAK_HI x true s)
      else s)) ∧
  (∀ (x : Nat) (s : State), getF s F.MSH_ISTHLIM.DEGRADE_LIM
      < mapGet s.msh.isthWin (2 * x) 0 + mapGet s.msh.isthWin (2 * x + 1) 0 →
    mapGet s.msh.isthWin (2 * x) 0 + mapGet s.msh.isthWin (2 * x + 1) 0 ≤ getF s F.MSH_ISTHLIM.DOWN_LIM →
    isthmusWindow x s
      = post { code := Ev.ISTHMUS_WEAK, inst := x } (putPairBit .MSH_ISTHWEAK_LO .MSH_ISTHWEAK_HI x true s))

/-- R102, R104, R118: a source takes its oldest answer, and a request or a multicast stream that is not answered in time completes
with MESH_TIMEOUT; the request's timeout is counted and posted. A request of an engine gives its command MESH_TIMEOUT, where
nothing failed before. That a command not due changes nothing, and the readings of log entries 4, 12 and 118, are the model's
choice. -/
def Obligations.SourcesTakeAnswersAndTimeouts : Prop :=
  (∀ (t : TileId) (a : Fin 8) (f : Flit) (s : State), frameRuns s = true → portOf t.val a.val = none →
    (inboxOf s t.val a.val).find? (fun f => f.vc == 3) = some f → f.tag ≠ 0xFFFF →
    exec (.meshResponse t a) s = .next (takeAnswer t.val a.val f (setInbox t.val a.val ((inboxOf s t.val a.val).erase f) s))) ∧
  (∀ (t : TileId) (a : Fin 8) (tag : BitVec 16) (o : Outst) (s : State), frameRuns s = true → portOf t.val a.val = none →
    mapFind s.msh.outst (outKey t.val a.val tag.toNat) = some o →
    Completes (.meshRequestTimeout t a tag) s (fun u =>
      mapFind u.msh.outst (outKey t.val a.val tag.toNat) = none ∧
      answersOf u t.val a.val = answersOf s t.val a.val ++ [.error tag.toNat Status.MESH_TIMEOUT] ∧
      getF u F.MSH_TMOCNT.COUNT = min (getF s F.MSH_TMOCNT.COUNT + 1) (2 ^ 32 - 1) ∧
      RegsButAll (.MSH_TMOCNT :: eventRegs) s u)) ∧
  (∀ (t : TileId) (a : Fin 8) (tag : BitVec 16) (q : Nat) (b : Batch) (i : Inst) (s : State), frameRuns s = true →
    portOf t.val a.val = none → mapFind s.msh.outst (outKey t.val a.val tag.toNat) = none →
    engineRequest s t.val a.val tag.toNat = some (q, b, i) → i.op ≠ 0x21 →
    exec (.meshRequestTimeout t a tag) s = .next (putInst q b.first
      { i with xfer := { i.xfer with err := if i.xfer.err = 0 then Status.MESH_TIMEOUT else i.xfer.err } }
      (post { code := Ev.MESH_TIMEOUT, asid := (queueAt s q).asid, queue := some q, mark := i.snap.mark, inst := t.val,
              d0 := Status.MESH_TIMEOUT, d1 := b.first + i.idx } (bump F.MSH_TMOCNT.COUNT 0 s)))) ∧
  (∀ (t : TileId) (a : Fin 8) (m : McStream) (s : State), frameRuns s = true →
    mapFind s.msh.streams (agentKey t.val a.val) = some m →
    Completes (.multicastTimeout t a) s (fun u =>
      mapFind u.msh.streams (agentKey t.val a.val) = none ∧
      answersOf u t.val a.val = answersOf s t.val a.val ++ [.error 0xFFFF Status.MESH_TIMEOUT] ∧ u.regs = s.regs))

/-! ### The Reef -/

/-- R131-R133: a slice serves the oldest request of a bank. A READ is answered by READ_DATA of each of its sectors; a WRITE whose
tally agrees stores its sector and is acknowledged, one whose tally does not is answered TLY_MISMATCH and stores nothing; an
ATOMIC with a legal operand reads and rewrites its sector, one with an illegal operand is answered RFB_ATOMIC. A request to a hole
or beyond the local pool (R138, R139) is refused. A write of a sector (R128, R162, R163) stores the data, the tally, the
mark and the poison given, clears what errors had left there, and leaves every other sector. That a command not due changes
nothing, and the readings of log entries 4, 14, 16, 18, 21, 111 and 112, are the model's choice. -/
def Obligations.SlicesServeRequests : Prop :=
  (∀ (t : TileId) (bank : Fin 8) (upset : Fin 81) (f : Flit) (s : State), frameRuns s = true → sliceRuns s t.val = true →
    sliceHead s t.val bank.val 0 = some f → flitRefusal s t.val f = none →
    exec (.reefRead t bank upset) s = .next ((List.range (flitSectors f)).foldl (fun u i =>
        sliceReply t.val f 4 0 (i + 1 == flitSectors f)
          (readSec t.val ((flitSo s t.val f + 64 * i) % 0x200000) (f.addr + 64 * i) (if i = 0 then upset.val else 0) 0 u).1.2.2
          (f.addr + 64 * i)
          (readSec t.val ((flitSo s t.val f + 64 * i) % 0x200000) (f.addr + 64 * i) (if i = 0 then upset.val else 0) 0 u).1.1
          (readSec t.val ((flitSo s t.val f + 64 * i) % 0x200000) (f.addr + 64 * i) (if i = 0 then upset.val else 0) 0 u).1.2.1
          (readSec t.val ((flitSo s t.val f + 64 * i) % 0x200000) (f.addr + 64 * i) (if i = 0 then upset.val else 0) 0 u).2)
        (takeAccess t.val f s))) ∧
  (∀ (t : TileId) (bank : Fin 8) (f : Flit) (s : State), frameRuns s = true → sliceRuns s t.val = true →
    sliceHead s t.val bank.val 1 = some f → flitRefusal s t.val f = none →
    (tallyOk f.pay f.tally = true →
      exec (.reefWrite t bank) s = .next (sliceReply t.val f 5 0 false false f.addr 0 0
        (writeSec t.val (flitSo s t.val f) f.pay f.tally (BitVec.ofNat 16 f.mark) f.poison (takeAccess t.val f s)))) ∧
    (tallyOk f.pay f.tally = false →
      exec (.reefWrite t bank) s = .next (sliceError t.val f Status.TLY_MISMATCH
        (post { code := Ev.TLY_TALLY, mark := f.mark, inst := t.val, d0 := Status.TQ_DIGEST, d1 := f.addr }
          (bump F.TLY_TALLYERR.COUNT 0 (takeAccess t.val f s)))))) ∧
  (∀ (t : TileId) (bank : Fin 8) (upset : Fin 81) (f : Flit) (s : State), frameRuns s = true → sliceRuns s t.val = true →
    sliceHead s t.val bank.val 3 = some f → flitRefusal s t.val f = none → atomicOk f.pay = true →
    ∀ (old : Option (Sector × BitVec 32)) (u : State),
      rmwSec t.val (flitSo s t.val f) f.addr upset.val 0 (BitVec.ofNat 16 f.mark) f.poison (fun d => atomicApply d f.pay)
        (takeAccess t.val f s) = (old, u) →
      exec (.reefAtomic t bank upset) s = .next (match old with
        | none => sliceError t.val f Status.RFB_POISONED u
        | some (d, y) => if secField f.pay 0 1 = 0 then sliceReply t.val f 5 0 false false f.addr 0 0 u
            else sliceReply t.val f 4 0 true false f.addr d y u)) ∧
  (∀ (t : TileId) (bank : Fin 8) (upset : Fin 81) (f : Flit) (s : State), frameRuns s = true → sliceRuns s t.val = true →
    sliceHead s t.val bank.val 3 = some f → flitRefusal s t.val f = none → atomicOk f.pay = false →
    exec (.reefAtomic t bank upset) s = .next (sliceError t.val f Status.RFB_ATOMIC
      (post { code := Ev.RFB_ATOMIC, mark := f.mark, inst := t.val, d0 := Status.RFB_ATOMIC, d1 := f.addr }
        (takeAccess t.val f s)))) ∧
  (∀ (t : TileId) (bank : Fin 8) (upset : Fin 81) (f : Flit) (st : Nat) (s : State), frameRuns s = true →
    sliceRuns s t.val = true → flitRefusal s t.val f = some st →
    (sliceHead s t.val bank.val 0 = some f →
      exec (.reefRead t bank upset) s = .next (sliceRefuse t.val f st (takeAccess t.val f s))) ∧
    (sliceHead s t.val bank.val 1 = some f →
      exec (.reefWrite t bank) s = .next (sliceRefuse t.val f st (takeAccess t.val f s))) ∧
    (sliceHead s t.val bank.val 3 = some f →
      exec (.reefAtomic t bank upset) s = .next (sliceRefuse t.val f st (takeAccess t.val f s)))) ∧
  (∀ (tile so : Nat) (d : Sector) (y : BitVec 32) (m : BitVec 16) (p : Bool) (s : State),
    (secAt (writeSec tile so d y m p s) (secKey tile so)).data = d ∧
    (secAt (writeSec tile so d y m p s) (secKey tile so)).tally = y ∧
    (secAt (writeSec tile so d y m p s) (secKey tile so)).poison = p ∧
    (secAt (writeSec tile so d y m p s) (secKey tile so)).mark = m ∧
    (s.reef.inj = none → (secAt (writeSec tile so d y m p s) (secKey tile so)).errs = 0) ∧
    (∀ k, k ≠ secKey tile so → secAt (writeSec tile so d y m p s) k = secAt s k) ∧
    (writeSec tile so d y m p s).mem = s.mem)

/-- R146, R147, R149, R152: a refresh operation advances its cove's row pointer, by one row in band 0 and by two above it, modulo
128; a cove that has been cool enough steps down one band, but not to below MIN_BAND. The patrol scrub (R154-R159) takes the
sector at its place and moves on by one, wrapping at the end of the cove; a burst starts on a cove whose clock does not run, and
ends when it has scrubbed the cove, which gates again in slack; a finished remap is counted and posted. That a command not due changes nothing, and the
readings of log entries 4, 17, 18 and 22, are the model's choice. -/
def Obligations.RefreshAndScrub : Prop :=
  (∀ (c : CoveId) (w : BitVec 16) (s : State), s.evt.ready = true →
    Completes (.refreshOp c w) s (fun t =>
      mapGet t.reef.refRow c.val 0
        = (mapGet s.reef.refRow c.val 0 + (if getF s F.RFB_REFSTAT.BAND c.val = 0 then 1 else 2)) % 128 ∧
      t.reef.secs = s.reef.secs ∧ RegsBut [(.RFB_REFWAIT_LO, 0), (.RFB_REFWAIT_HI, 0)] s t)) ∧
  (∀ (c : CoveId) (s : State), mapGet s.reef.cool c.val false = true →
    getF s F.RFB_REFENV.MIN_BAND < getF s F.RFB_REFSTAT.BAND c.val →
    Completes (.refreshBandStepDown c) s (fun t =>
      getF t F.RFB_REFSTAT.BAND c.val = getF s F.RFB_REFSTAT.BAND c.val - 1 ∧ t.reef.secs = s.reef.secs)) ∧
  (∀ (c : CoveId) (s : State), (clampOf s 4 c.val).isSome = false → minHolds s c.val = true →
    mapGet s.reef.minHeld c.val false = true →
    Completes (.refreshClampWindow c) s (fun t => (clampOf t 4 c.val).isSome = true ∧ t.reef.secs = s.reef.secs)) ∧
  (∀ (c : CoveId) (upset : Fin 81) (s : State), scrubRuns s c.val = true →
    Completes (.scrubSector c upset) s (fun t =>
      mapGet t.reef.scrubPos c.val 0 = (mapGet s.reef.scrubPos c.val 0 + 1) % (96 * 32768))) ∧
  (∀ (c : CoveId) (s : State), s.evt.ready = true → phase s ≠ 6 → coveAwake s c.val = false →
    mapGet s.reef.burst c.val 0 = 0 →
    Completes (.scrubBurstStart c) s (fun t =>
      mapGet t.reef.burst c.val 0 = 96 * 32768 + 1 ∧ t.brk.burstReq.getLsbD c.val = true ∧ t.regs = s.regs)) ∧
  (∀ (c : CoveId) (s : State), mapGet s.reef.burst c.val 0 = 1 →
    Completes (.scrubBurstEnd c) s (fun t =>
      mapGet t.reef.burst c.val 0 = 0 ∧ t.brk.burstReq.getLsbD c.val = false ∧
      (getF s F.BRK_PSSTAT.STATE ≠ 2 → t.regs = s.regs) ∧
      (getF s F.BRK_PSSTAT.STATE = 2 → coveState t c.val = 2 ∧ coveMv t c.val = 500 ∧
        RegsBut [(.MSH_COVEAWAKE, 0), (.BRK_COVESTAT, c.val)] s t))) ∧
  (∀ (t : TileId) (bank : Fin 8) (row : Fin 128) (s : State),
    (t.val * 8 + bank.val) * 128 + row.val ∈ s.reef.remapping →
    Completes (.rowRemapDone t bank row) s (fun u =>
      u.reef.remapping = s.reef.remapping.erase ((t.val * 8 + bank.val) * 128 + row.val) ∧
      getF u F.RFB_SPARED.ROWS = min (getF s F.RFB_SPARED.ROWS + 1) (2 ^ F.RFB_SPARED.ROWS.width - 1) ∧
      RegsButAll (.RFB_SPARED :: eventRegs) s u))

/-- R166-R169: a BAR4 access through the window reads or writes Reef bytes; one to a hole, to the carve-out, beyond the window or
while the window is disabled reads all 0xFF, or is discarded, and posts one NOTE; so does one while the BARs are closed and the
window disabled. An armed injection (R172) is disarmed by BYTES 0. That a command not due changes nothing, and the readings of
log entries 4, 23, 101, 113 and 120, are the model's choice. -/
def Obligations.Bar4Window : Prop :=
  (∀ (f : Func) (off : BitVec 32) (len : Fin 4097) (ra : Nat) (s : State), barOpen s = true →
    bar4Ra s f off.toNat len.val = some ra →
    ∀ (bs : List Byte) (p : Bool) (u : State),
      bar4Sectors (ra / 64 * 64) ((ra % 64 + len.val + 63) / 64) (bar4Wake ra len.val s) = ((bs, p), u) →
      exec (.bar4Read f off len) s
        = .next { u with out := u.out ++ [.bar4Data f ((bs.drop (ra % 64)).take len.val) p] }) ∧
  (∀ (f : Func) (off : BitVec 32) (bytes : List Byte) (p : Bool) (ra : Nat) (s : State), barOpen s = true →
    bar4Ra s f off.toNat bytes.length = some ra →
    exec (.bar4Write f off bytes p) s
      = .next (bar4Store (bytes.length / 64 + 2) ra bytes p (bar4Wake ra bytes.length s))) ∧
  (∀ (f : Func) (off : BitVec 32) (len : Fin 4097) (s : State), barOpen s = true → bar4Ra s f off.toNat len.val = none →
    exec (.bar4Read f off len) s = .next
      { post { code := Ev.RFB_BAR4, d1 := off.toNat } s with
        out := (post { code := Ev.RFB_BAR4, d1 := off.toNat } s).out ++ [.bar4Data f (List.replicate len.val 0xFF) false] }) ∧
  (∀ (f : Func) (off : BitVec 32) (bytes : List Byte) (p : Bool) (s : State), barOpen s = true →
    bar4Ra s f off.toNat bytes.length = none →
    exec (.bar4Write f off bytes p) s = .next (post { code := Ev.RFB_BAR4, d1 := off.toNat } s)) ∧
  (∀ (f : Func) (off : BitVec 32) (len : Fin 4097) (bytes : List Byte) (p : Bool) (s : State), barOpen s = false →
    flag s F.RFB_BAR4CTL.EN = false →
    exec (.bar4Read f off len) s = .next
      { post { code := Ev.RFB_BAR4, d1 := off.toNat } s with
        out := (post { code := Ev.RFB_BAR4, d1 := off.toNat } s).out ++ [.bar4Data f (List.replicate len.val 0xFF) false] } ∧
    exec (.bar4Write f off bytes p) s = .next (post { code := Ev.RFB_BAR4, d1 := off.toNat } s)) ∧
  (∀ (v : BitVec 32) (s : State), barOpen s = true → fldLegal F.RFB_INJCTL.BYTES (bitsAt v 0 4) = true →
    Completes (.rfbInjArm v) s (fun t => getF t F.RFB_INJCTL.BYTES = bitsAt v 0 4 ∧
      (bitsAt v 0 4 = 0 → t.reef.inj = none) ∧
      (getF t F.RFB_INJCTL.ARMED = 1 ↔
        if v.getLsbD 8 then t.reef.inj.isSome = true else bitsAt v 0 4 ≠ 0 ∧ flag s F.RFB_INJCTL.ARMED = true)))

/-! ### External memory -/

/-- R183, R189, R191, R217, R218: a controller serves the request whose turn it is. An admitted READ is answered with the decoded
sector; an admitted WRITE whose tally agrees stores its sector and is acknowledged, one whose tally does not is answered
TLY_MISMATCH and stores nothing; an access outside memory or with the wrong key selector is answered with an ERROR. A write of a
sector stores the data, the tally and the poison given under the current generation of its region's slot, and leaves every other
sector. That a command not due changes nothing, and the readings of log entries 4, 26, 27, 30, 111 and 114, are the model's
choice. -/
def Obligations.ControllersServeRequests : Prop :=
  (∀ (m : Fin 12) (upset : Fin 73) (r : QReq) (q : MemReq) (s : State), frameRuns s = true → memNext s m.val = some (r, q) →
    (q.op = 0 → lpRefusal s q.d q.keysel = none →
      exec (.memRead m upset) s = .next (memReply q 4 (lpRead q.d q.mark upset.val (memTaken m.val r q s)).1.2.2
        (lpRead q.d q.mark upset.val (memTaken m.val r q s)).1.1 (lpRead q.d q.mark upset.val (memTaken m.val r q s)).1.2.1
        (lpRead q.d q.mark upset.val (memTaken m.val r q s)).2)) ∧
    (q.op = 1 → lpRefusal s q.d q.keysel = none →
      (tallyOk q.pay q.tally = true → exec (.memWrite m upset) s
        = .next (memReply q 5 false 0 0 (lpWrite q.d q.pay q.tally q.poison (memTaken m.val r q s)))) ∧
      (tallyOk q.pay q.tally = false → exec (.memWrite m upset) s
        = .next (memReply q 6 false (BitVec.ofNat 512 Status.TLY_MISMATCH) 0
          (post { code := Ev.TLY_TALLY, mark := q.mark, inst := lpChan q.d, d0 := Status.TQ_DIGEST, d1 := lpBase + q.d }
            (bump F.TLY_TALLYERR.COUNT 0 (memTaken m.val r q s)))))) ∧
    (q.op = 3 → lpRefusal s q.d q.keysel = none → atomicOk q.pay = true →
      ∀ (old : Option (Sector × BitVec 32)) (u : State),
        lpUpdate q.d q.mark upset.val q.poison (fun x => atomicApply x q.pay) (memTaken m.val r q s) = (old, u) →
        exec (.memWrite m upset) s = .next (match old with
          | none => memReply q 6 false (BitVec.ofNat 512 Status.MEM_POISONED) 0 u
          | some (x, y) => if secField q.pay 0 1 = 0 then memReply q 5 false 0 0 u else memReply q 4 false x y u)) ∧
    (q.op ≠ 0 → ∀ st, lpRefusal s q.d q.keysel = some st → exec (.memWrite m upset) s
      = .next (memReply q 6 false (BitVec.ofNat 512 st) 0 (lpRefuse q.d q.mark st (memTaken m.val r q s))))) ∧
  (∀ (m : Fin 12) (upset : Fin 73) (r : QReq) (q : MemReq) (st : Nat) (s : State), frameRuns s = true →
    memNext s m.val = some (r, q) → q.op = 0 → lpRefusal s q.d q.keysel = some st →
    Completes (.memRead m upset) s (fun t => ∃ u, t = memReply q 6 false (BitVec.ofNat 512 st) 0 (lpRefuse q.d q.mark st u) ∧
      u.mem.secs = s.mem.secs ∧ ∀ k, k < 12 → ∀ p ∈ memQueue u k, ¬ (p.src = q.src ∧ p.tag = q.tag ∧ p.op = 0))) ∧
  (∀ (d : Nat) (x : Sector) (y : BitVec 32) (p : Bool) (s : State),
    (lpAt (lpWrite d x y p s) (d / 64)).data = x ∧ (lpAt (lpWrite d x y p s) (d / 64)).tally = y ∧
    (lpAt (lpWrite d x y p s) (d / 64)).poison = p ∧ (lpAt (lpWrite d x y p s) (d / 64)).errs = 0 ∧
    (lpAt (lpWrite d x y p s) (d / 64)).gen = curGen s (keyEntry s (regionOf d)).1 ∧
    (∀ k, k ≠ d / 64 → lpAt (lpWrite d x y p s) k = lpAt s k) ∧ (lpWrite d x y p s).regs = s.regs)

/-- R192, R196-R198: a region's zero fill ends with no sector of the region listed and the region no longer filling, and every
sector of other regions as it was; a region's rotation pass counts one region less. That a command not due changes nothing, and
the readings of log entries 4 and 31, are the model's choice. -/
def Obligations.KeyRegionsFillAndRotate : Prop :=
  (∀ (k : Fin 5464) (s : State), clocksRun s = true → k.val ∈ s.mem.filling →
    Completes (.memZeroFillDone k) s (fun t =>
      t.mem.filling = s.mem.filling.erase k.val ∧ (∀ e ∈ t.mem.secs, e.1 / 2 ^ 20 ≠ k.val) ∧
      (∀ e ∈ s.mem.secs, e.1 / 2 ^ 20 ≠ k.val → e ∈ t.mem.secs) ∧ RegsBut [(.MEM_KEYSTAT, 0)] s t)) ∧
  (∀ (k : Fin 5464) (s : State), clocksRun s = true → k.val ∈ s.mem.rot →
    2 ≤ getF s F.MEM_ROTSTAT.PENDING (keyEntry s k.val).1 → (keyEntry s k.val).1 < 64 →
    Completes (.memRotationRegionDone k) s (fun t =>
      t.mem.rot = s.mem.rot.erase k.val ∧
      getF t F.MEM_ROTSTAT.PENDING (keyEntry s k.val).1 = getF s F.MEM_ROTSTAT.PENDING (keyEntry s k.val).1 - 1)) ∧
  (∀ (i : Fin 1366) (v : BitVec 32) (s : State), barOpen s = true →
    (∀ j, j < 4 → regionUsable s (4 * i.val + j) = true ∧ keyEntry s (4 * i.val + j) = (0, false)) →
    (∀ j, j < 4 → bitAt v (8 * j + 7) = false) →
    Completes (.memKeymapWrite i v) s (fun t => t.mem = s.mem ∧ ∀ j, j < 4 → keyEntry t (4 * i.val + j) = (bitsAt v (8 * j) 6, false)))

/-- R174, R175, R200, R203-R210, R213, R220: what the channels' rows do: the rate chosen, training's end, a re-centring pause and its
end, a retraining and its end, MR4, refreshes and the patrol scrub. MEM_CHUP shows the channels that serve. That a command not due changes nothing, and the readings of
log entries 4, 18 and 28, are the model's choice. -/
def Obligations.ChannelRows : Prop :=
  (∀ (rate : Fin 4) (s : State), barOpen s = true →
    Completes (.memCfgWrite rate) s (fun t => getF t F.MEM_CFG.RATE = rate.val ∧ t.mem = { s.mem with rateCfg := some rate.val } ∧
      RegsBut [(.MEM_CFG, 0)] s t)) ∧
  (∀ (d : Fin 3) (r2 : Bool) (s : State), clocksRun s = true → phase s = 2 → s.mem.trained = false →
    (∀ n, n < 48 → mapGet s.mem.paused n 0 = 0) →
    Completes (.memTrainDone d r2 false none) s (fun t => t.mem.trained = true ∧ getF t F.MEM_CFG.DENSITY = d.val ∧
      getF t F.MEM_CFG.RANKS2 = boolNat r2 ∧ get64 t .MEM_CHUP_LO .MEM_CHUP_HI 0 = 2 ^ 48 - 1)) ∧
  (∀ (n : ChanId) (d : BitVec 10) (s : State), clocksRun s = true → chanServes s n.val = true →
    getF s F.MEM_RETRAIN.DRIFT_PS < d.toNat →
    exec (.memOscCheck n d) s = .next (setPause n.val 1 s)) ∧
  (∀ (n : ChanId) (s : State), clocksRun s = true → mapGet s.mem.paused n.val 0 = 1 →
    exec (.memRecentreDone n) s = .next (setPause n.val 0 s)) ∧
  (∀ (n kind : Nat) (s : State), (setPause n kind s).mem = { s.mem with paused := mapSet s.mem.paused n 0 kind } ∧
    RegsBut [(.MEM_CHUP_LO, 0), (.MEM_CHUP_HI, 0)] s (setPause n kind s) ∧
    ∀ k, k < 48 → (get64 (setPause n kind s) .MEM_CHUP_LO .MEM_CHUP_HI 0).testBit k = chanServes (setPause n kind s) k) ∧
  (∀ (n : ChanId) (s : State), clocksRun s = true → getF s F.MEM_RETRAIN.CE_LIM < mapGet s.mem.ceWin n.val 0 →
    mapFind s.mem.lastWeak n.val = none →
    Completes (.memCeWindow n) s (fun t => mapGet t.mem.paused n.val 0 = 2 ∧ mapGet t.mem.ceWin n.val 0 = 0 ∧
      RegsButAll (.MEM_CHSTAT :: .MEM_CHUP_LO :: .MEM_CHUP_HI :: eventRegs) s t)) ∧
  (∀ (n : ChanId) (s : State), clocksRun s = true → 2 ≤ mapGet s.mem.paused n.val 0 →
    exec (.memRetrainDone n true) s = .next (setPause n.val 0 s) ∧
    exec (.memRetrainDone n false) s = .next (fatal { code := Ev.MEM_CHDOWN, inst := n.val } s)) ∧
  (∀ (n : ChanId) (code : Fin 8) (fast hot : Bool) (s : State), s.mem.trained = true →
    Completes (.memMr4Read n code fast hot) s (fun t => getF t F.MEM_CHSTAT.MR4 n.val = code.val ∧
      getF t F.MEM_CHSTAT.HOT n.val = boolNat hot ∧ mapGet t.mem.derated n.val false = fast)) ∧
  (∀ (n : ChanId) (s : State), s.mem.trained = true → refreshDue s n.val = true →
    Completes (.memRefresh n false) s (fun t => mapGet t.mem.postponed n.val 0 = 0 ∧ mapGet t.mem.refAt n.val 0 = s.time ∧
      mapGet t.mem.refreshes n.val 0 = mapGet s.mem.refreshes n.val 0 + mapGet s.mem.postponed n.val 0 + 1 ∧ t.regs = s.regs)) ∧
  (∀ (n : ChanId) (j : Fin 8) (u : Fin 73) (s : State), clocksRun s = true → scrubFree s n.val = true →
    Completes (.memScrubStripe n j u) s (fun t => mapGet t.mem.scrubPos n.val 0
      = if mapGet s.mem.scrubPos n.val 0 + 1 < stripesOf (getF s F.MEM_CFG.DENSITY) then mapGet s.mem.scrubPos n.val 0 + 1 else 0))

/-! ### Translation -/

/-- R224-R228: a bind puts a free context to use with what XLT_CTXA and XLT_CTXB hold, keeps its generation and counts the bind;
it is refused with PASID_IN_USE or BOUND; a read shows the stored values; an unbind of a bound context without queues starts an
invalidation, with queues it is refused. What log entries 32 and 38 say is the model's choice. -/
def Obligations.ContextCommands : Prop :=
  (∀ (asid : BitVec 16) (s : State), ctxReady s = true → asid ≠ 0 → (ctxAt s asid.toNat).bound = false →
    (isWindow asid.toNat = false →
      pasidInUse s asid.toNat (getF s F.XLT_CTXA.FUNC) (getF s F.XLT_CTXA.PASID) = false) →
    Completes (.xltCtxBind asid) s (fun t =>
      (ctxAt t asid.toNat).bound = true ∧ (ctxAt t asid.toNat).func = getF s F.XLT_CTXA.FUNC ∧
      (ctxAt t asid.toNat).pasid = getF s F.XLT_CTXA.PASID ∧ (ctxAt t asid.toNat).keysel = getF s F.XLT_CTXB.KEYSEL ∧
      (ctxAt t asid.toNat).priEn = flag s F.XLT_CTXA.PRI_EN ∧
      (isWindow asid.toNat = false → (ctxAt t asid.toNat).shared = flag s F.XLT_CTXA.MODE) ∧
      1 ≤ (ctxAt t asid.toNat).point ∧ (ctxAt t asid.toNat).point ≤ 2 ^ 61 - 2 ∧
      (ctxAt t asid.toNat).gen = (ctxAt s asid.toNat).gen ∧
      (ctxAt t asid.toNat).binds = (ctxAt s asid.toNat).binds + 1 ∧ getF t F.XLT_CTXSTAT.ERR = 0 ∧
      (∀ b, b ≠ asid.toNat → ctxAt t b = ctxAt s b) ∧ RegsBut [(.XLT_CTXSTAT, 0)] s t)) ∧
  (∀ (asid : BitVec 16) (s : State), ctxReady s = true → asid ≠ 0 → isWindow asid.toNat = false →
    (pasidInUse s asid.toNat (getF s F.XLT_CTXA.FUNC) (getF s F.XLT_CTXA.PASID) = true →
      exec (.xltCtxBind asid) s = .next (setF F.XLT_CTXSTAT.ERR 0 2 s)) ∧
    (pasidInUse s asid.toNat (getF s F.XLT_CTXA.FUNC) (getF s F.XLT_CTXA.PASID) = false →
      (ctxAt s asid.toNat).bound = true → exec (.xltCtxBind asid) s = .next (setF F.XLT_CTXSTAT.ERR 0 3 s))) ∧
  (∀ (asid : BitVec 16) (s : State), ctxReady s = true → asid ≠ 0 →
    (ctxAt s asid.toNat).pasid < 2 ^ 20 → (ctxAt s asid.toNat).func < 32 →
    Completes (.xltCtxRead asid) s (fun t =>
      getF t F.XLT_CTXA.PASID = (ctxAt s asid.toNat).pasid ∧ getF t F.XLT_CTXA.FUNC = (ctxAt s asid.toNat).func ∧
      flag t F.XLT_CTXA.MODE = (ctxAt s asid.toNat).shared ∧ flag t F.XLT_CTXA.PRI_EN = (ctxAt s asid.toNat).priEn ∧
      flag t F.XLT_CTXA.BOUND = (ctxAt s asid.toNat).bound ∧
      getReg t .XLT_CTXGEN 0 = BitVec.ofNat 32 (ctxAt s asid.toNat).gen ∧ OnlyRegs s t ∧
      RegsButAll [.XLT_CTXA, .XLT_CTXB, .XLT_CTXGEN, .XLT_CTXSTAT] s t)) ∧
  (∀ (asid : BitVec 16) (s : State), ctxReady s = true → asid ≠ 0 → (ctxAt s asid.toNat).bound = true →
    (queuesBound s asid.toNat = true → exec (.xltCtxUnbind asid) s = .next (setF F.XLT_CTXSTAT.ERR 0 4 s)) ∧
    (queuesBound s asid.toNat = false → Completes (.xltCtxUnbind asid) s (fun t =>
      InvStarted asid.toNat .unbind s t ∧ flag t F.XLT_CTXSTAT.BUSY = true ∧
      RegsBut [(.XLT_CTXSTAT, 0), (.XLT_INVSTAT, 0)] s t)))

/-- R232-R235: a segment write whose every check passes stores the segment and starts an invalidation; one that fails a check
leaves the segment and shows the check's number; a read shows the stored segment; a clear removes it. What log entries 36, 37 and
38 say is the model's choice. -/
def Obligations.SegmentCommands : Prop :=
  (∀ (asid : BitVec 16) (n : Fin 16) (s : State), barOpen s = true →
    (segErr s asid.toNat n.val (segRegs s) = 0 →
      Completes (.xltSegWrite asid n) s (fun t => segAt t asid.toNat n.val = segRegs s ∧ InvStarted asid.toNat .seg s t ∧
        flag t F.XLT_SEGSTAT.BUSY = true ∧ (∀ m, m ≠ n.val → m < 16 → segAt t asid.toNat m = segAt s asid.toNat m) ∧
        RegsBut [(.XLT_SEGSTAT, 0), (.XLT_INVSTAT, 0)] s t)) ∧
    (segErr s asid.toNat n.val (segRegs s) ≠ 0 → Completes (.xltSegWrite asid n) s (fun t =>
      getF t F.XLT_SEGSTAT.ERR = segErr s asid.toNat n.val (segRegs s) ∧ t.xlt = s.xlt ∧ RegsBut [(.XLT_SEGSTAT, 0)] s t))) ∧
  (∀ (asid : Nat) (n : Nat) (g : Seg) (s : State), segErr s asid n g = 0 →
    (ctxAt s asid).bound = true ∧ (ctxAt s asid).shared = false ∧ 65536 ≤ g.len ∧ g.start + g.len ≤ 2 ^ 57 ∧
    (∀ j, j < 16 → j ≠ n → (segAt s asid j).valid = true → segsMeet g (segAt s asid j) = false) ∧
    (g.host = false → paOk s g.base g.len = true) ∧ (bitAt g.attr 3 = true → bitAt g.attr 1 = true) ∧
    (bitAt g.attr 4 = true → bitAt g.attr 1 = true ∧ bitAt g.attr 2 = true) ∧
    (isWindow asid = true → bitAt g.attr 3 = false)) ∧
  (∀ (asid : BitVec 16) (n : Fin 16) (s : State), barOpen s = true → (ctxAt s asid.toNat).bound = true →
    (segAt s asid.toNat n.val).start < 2 ^ 64 → (segAt s asid.toNat n.val).base < 2 ^ 64 →
    Completes (.xltSegRead asid n) s (fun t =>
      get64 t .XLT_SEGSTART_LO .XLT_SEGSTART_HI 0 = (segAt s asid.toNat n.val).start ∧
      get64 t .XLT_SEGBASE_LO .XLT_SEGBASE_HI 0 = (segAt s asid.toNat n.val).base ∧
      getReg t .XLT_SEGATTR 0 = (segAt s asid.toNat n.val).attr ∧ getF t F.XLT_SEGSTAT.ERR = 0 ∧ OnlyRegs s t)) ∧
  (∀ (asid : BitVec 16) (n : Fin 16) (s : State), barOpen s = true → (ctxAt s asid.toNat).bound = true →
    (ctxAt s asid.toNat).shared = false → flag s F.XLT_SEGSTAT.BUSY = false → flag s F.XLT_CTXSTAT.BUSY = false →
    Completes (.xltSegClear asid n) s (fun t => segAt t asid.toNat n.val = {} ∧ InvStarted asid.toNat .seg s t ∧
      RegsBut [(.XLT_SEGSTAT, 0), (.XLT_INVSTAT, 0)] s t))

/-- R257-R263: a write of XLT_INV starts an invalidation, or is discarded with a NOTE while one is in progress; one completes, in
order of arrival, once no dispatched instance holds an older generation, and counts in SEQ; when its time is over the holders are
aborted and it completes; the host's invalidations cover the contexts of their function and PASID. That a command not due changes
nothing, and the readings of log entries 4 and 32, are the model's choice. -/
def Obligations.Invalidations : Prop :=
  (∀ (asid : BitVec 16) (s : State), barOpen s = true →
    (flag s F.XLT_INVSTAT.BUSY = true →
      exec (.xltInv asid) s = .next (post { code := Ev.XLT_INVBUSY, asid := asid.toNat } s)) ∧
    (flag s F.XLT_INVSTAT.BUSY = false → Completes (.xltInv asid) s (fun t =>
      InvStarted asid.toNat .reg s t ∧ RegsBut [(.XLT_INVSTAT, 0)] s t))) ∧
  (∀ (s : State) (v : Inval) (rest : List Inval), s.xlt.invs = v :: rest →
    (invBlocked s v = true → exec .invalidationComplete s = .next s) ∧
    (invBlocked s v = false → Completes .invalidationComplete s (fun t =>
      t.xlt.invs = rest ∧ getF t F.XLT_INVSTAT.SEQ = (getF s F.XLT_INVSTAT.SEQ + 1) % 2 ^ 16 ∧
      (flag t F.XLT_INVSTAT.BUSY = true ↔ rest ≠ []) ∧
      (v.who = .seg → flag t F.XLT_SEGSTAT.BUSY = false) ∧
      (v.who = .unbind → (ctxAt t v.asid).bound = false ∧ (ctxAt t v.asid).gen = (ctxAt s v.asid).gen ∧
        flag t F.XLT_CTXSTAT.BUSY = false ∧ ∀ n, n < 16 → segAt t v.asid n = {}) ∧
      t.tq = s.tq ∧ RegsButAll (.XLT_INVSTAT :: .XLT_SEGSTAT :: .XLT_CTXSTAT :: eventRegs) s t))) ∧
  (∀ (s : State) (v : Inval) (rest : List Inval), clocksRun s = true → s.xlt.invs = v :: rest →
    (invBlocked s v = true → exec .invalidationTimeout s
      = .next (invFinish (post { code := Ev.XLT_INVABORT, asid := v.asid, d0 := Status.XLT_INVABORT }
          (setF F.XLT_INVSTAT.ABORTED 0 1
            ((oldHolders s v).foldl (fun u p => endInst p.1 p.2.1 p.2.2 Status.XLT_INVABORT true u) s))))) ∧
    (invBlocked s v = false → exec .invalidationTimeout s = .next s)) ∧
  (∀ (f : Func) (pasid : Option (BitVec 20)) (itag : Fin 32) (s : State), clocksRun s = true →
    ((∀ e ∈ s.xlt.ctxs, e.2.bound = true → e.2.func ≠ f.val) →
      exec (.atsInvalidateRequest f pasid itag) s = .next (hostSend (.invDone f itag) s)) ∧
    (∀ (a : Nat) (p : BitVec 20), pasid = some p → isWindow a = false →
      s.xlt.ctxs.filter (fun e => e.2.bound && e.2.func == f.val && (!isWindow e.1 && e.2.pasid == p.toNat)) = [(a, ctxAt s a)] →
      Completes (.atsInvalidateRequest f pasid itag) s (fun t => InvStarted a (.ats f itag) s t)))

/-- R239-R248, R252: what a completion of a waiting translation comes to. The page goes to who waits for it where it grants the
access; a refusal carries XLT_ATS, XLT_PAGESIZE, XLT_PERM or XLT_PRI; a Success repeats the request once. That a command not due
changes nothing, and the readings of log entries 4 and 73, are the model's choice. -/
def Obligations.HostTranslations : Prop :=
  (∀ (tag : Nat) (ok : Bool) (addr : BitVec 64) (size : Fin 64) (r wr : Bool) (w : AtsWait) (s : State),
    clocksRun s = true → waitAtTag s tag = some w → w.pri = false → w.gen = (ctxAt s w.asid).gen →
    (ok = false → exec (.atsTranslationCompletion tag ok addr size r wr) s = .next (pageResult w none Refuse.XLT_ATS s)) ∧
    (ok = true → size.val < 30 →
      exec (.atsTranslationCompletion tag ok addr size r wr) s = .next (pageResult w none Refuse.XLT_PAGESIZE s)) ∧
    (ok = true → 30 ≤ size.val → grants (completedPage s w.page addr.toNat (2 ^ size.val) r wr).perms w.acc = true →
      exec (.atsTranslationCompletion tag ok addr size r wr) s
        = .next (pageResult w (some (completedPage s w.page addr.toNat (2 ^ size.val) r wr)) 0 s)) ∧
    (ok = true → 30 ≤ size.val → grants (completedPage s w.page addr.toNat (2 ^ size.val) r wr).perms w.acc = false →
      exec (.atsTranslationCompletion tag ok addr size r wr) s = .next
        (if w.again then pageResult w none Refuse.XLT_PERM s
          else if (ctxAt s w.asid).priEn = true ∧ mapGet s.xlt.priAlloc (ctxAt s w.asid).func 0 ≠ 0 then pageRequest w s
          else pageResult w none Refuse.XLT_PRI s))) ∧
  (∀ (w : AtsWait) (p : Option Page) (code : Nat) (s : State), w.what = .redo →
    (((queueAt s w.queue).running.map (fun b => (b.first, b.seq.dseq))) = some w.job →
      (queueAt (pageResult w p code s) w.queue).regot = (queueAt s w.queue).regot ++ [gotOf w p code]) ∧
    (((queueAt s w.queue).running.map (fun b => (b.first, b.seq.dseq))) ≠ some w.job →
      queueAt (pageResult w p code s) w.queue = queueAt s w.queue) ∧
    (pageResult w p code s).xlt.waits = s.xlt.waits.filter (fun x => x.tag != w.tag) ∧
    (pageResult w p code s).regs = s.regs) ∧
  (∀ (tag : Nat) (w : AtsWait) (s : State), clocksRun s = true → waitAtTag s tag = some w → w.pri = false →
    exec (.atsTimeout tag) s = .next (pageResult w none Refuse.XLT_ATS s)) ∧
  (∀ (tag : Nat) (w : AtsWait) (s : State), clocksRun s = true → waitAtTag s tag = some w → w.pri = true → w.held = false →
    (∀ x ∈ s.xlt.waits, x.held = false) → w.what ≠ .batch →
    (w.what ≠ .nobody → (ctxAt s w.asid).bound = true → (ctxAt s w.asid).func = w.func → (ctxAt s w.asid).pasid = w.pasid →
      Completes (.prgResponse tag 0) s (fun t =>
        t.xlt.waits = s.xlt.waits.filter (fun x => x.tag != w.tag)
          ++ [{ w with tag := s.xlt.nextTag, pri := false, held := false, again := true, gen := (ctxAt s w.asid).gen }] ∧
        getF t F.XLT_ATSREQ.COUNT = min (getF s F.XLT_ATSREQ.COUNT + 1) (2 ^ 32 - 1) ∧
        RegsButAll [.XLT_ATSREQ, .PCI_DMAWR_LO, .PCI_DMAWR_HI] s t)) ∧
    (w.what = .nobody → exec (.prgResponse tag 0) s = .next (dropWait w.tag s)) ∧
    Completes (.prgResponse tag 15) s (fun t => mapGet t.xlt.priAlloc w.func 0 = 0 ∧
      t.xlt.waits = s.xlt.waits.filter (fun x => x.tag != w.tag) ∧ RegsButAll eventRegs s t) ∧
    Completes (.priTimeout tag) s (fun t => t = pageResult w none Refuse.XLT_PRI s)) ∧
  (∀ (f : Func) (alloc : BitVec 32) (s : State), clocksRun s = true → (∀ x ∈ s.xlt.waits, x.held = false) →
    Completes (.priEnable f alloc) s (fun t => mapGet t.xlt.priAlloc f.val 0 = min alloc.toNat 512 ∧ t.regs = s.regs ∧
      t.xlt.waits = s.xlt.waits))
/-! ### Tide queues -/

/-- R284, R286, R287, R334, R350: the queue commands. A legal descriptor makes a queue STOPPED; START makes it RUNNING; STOP ends
at STOPPED when no batch is left; ABORT stops it and discards what is not accepted; DESTROY releases a STOPPED queue; RESUME goes
on past the refused batch; READ shows the descriptor; a command in another state reports ERR 2 and changes no queue. What log
entries 52, 58 and 59 say is the model's choice. -/
def Obligations.QueueCommands : Prop :=
  (∀ (q : QueueId) (s : State), barOpen s = true →
    (createErr s (queueAt s q.val) { desc := qdRegs s } = 0 → Completes (.tqQcmdCreate q) s (fun t =>
      queueAt t q.val = { desc := qdRegs s, st := 1 } ∧ (∀ p, p ≠ q.val → queueAt t p = queueAt s p) ∧
      getF t F.TQ_QSTAT.ERR = 0 ∧ getF t F.TQ_QSTAT.BUSY = 0 ∧ RegsBut [(.TQ_QSTAT, 0)] s t)) ∧
    (createErr s (queueAt s q.val) { desc := qdRegs s } ≠ 0 →
      exec (.tqQcmdCreate q) s = .next (qErr (createErr s (queueAt s q.val) { desc := qdRegs s }) s))) ∧
  (∀ (q : QueueId) (s : State), barOpen s = true → (queueAt s q.val).st < 8 → Completes (.tqQcmdRead q) s (fun t =>
    (∀ j, j < 16 → getReg t .TQ_QD j = BitVec.ofNat 32 ((queueAt s q.val).word j 0 32)) ∧
    getF t F.TQ_QSTAT.STATE = (queueAt s q.val).st ∧ OnlyRegs s t ∧ RegsButAll [.TQ_QD, .TQ_QSTAT] s t)) ∧
  (∀ (q : QueueId) (s : State), barOpen s = true →
    ((queueAt s q.val).st = 1 → (queueAt s q.val).tails = [] → Completes (.tqQcmdStart q) s (fun t =>
      queueAt t q.val = { queueAt s q.val with st := 2 } ∧ getF t F.TQ_QSTAT.ERR = 0 ∧
      (∀ p, p ≠ q.val → queueAt t p = queueAt s p) ∧ RegsBut [(.TQ_QSTAT, 0)] s t)) ∧
    ((queueAt s q.val).st ≠ 1 → exec (.tqQcmdStart q) s = .next (qErr 2 s))) ∧
  (∀ (q : QueueId) (s : State), barOpen s = true →
    ((queueAt s q.val).st = 2 → (queueAt s q.val).batches = [] → (∀ p f, (queueAt s p).fetch = some f → f.held = false) →
      Completes (.tqQcmdStop q) s (fun t =>
        queueAt t q.val = { queueAt s q.val with st := 1, fetch := none } ∧ getF t F.TQ_QSTAT.ERR = 0 ∧
        RegsBut [(.TQ_QSTAT, 0)] s t)) ∧
    ((queueAt s q.val).st ≠ 2 → exec (.tqQcmdStop q) s = .next (qErr 2 s))) ∧
  (∀ (q : QueueId) (s : State), barOpen s = true →
    (((queueAt s q.val).st = 2 ∨ (queueAt s q.val).st = 3 ∨ (queueAt s q.val).st = 4) → (queueAt s q.val).batches = [] →
      jHead s < s.hbl.oldest + areaSize → (∀ p f, (queueAt s p).fetch = some f → f.held = false) →
      Completes (.tqQcmdAbort q) s (fun t => (queueAt t q.val).st = 1 ∧ (queueAt t q.val).tails = [] ∧
        (queueAt t q.val).fetch = none ∧ (queueAt t q.val).last = (queueAt s q.val).head ∧
        (queueAt t q.val).desc = (queueAt s q.val).desc ∧ getF t F.TQ_QSTAT.ERR = 0)) ∧
    ((queueAt s q.val).st = 1 → exec (.tqQcmdAbort q) s = .next (qErr 2 s))) ∧
  (∀ (q : QueueId) (s : State), barOpen s = true →
    ((queueAt s q.val).st = 1 → exec (.tqQcmdDestroy q) s = .next (qErr 0 (closeQueue q s))) ∧
    ((queueAt s q.val).st = 1 → (queueAt s q.val).batches = [] → (∀ p f, (queueAt s p).fetch = some f → f.held = false) →
      Completes (.tqQcmdDestroy q) s (fun t => queueAt t q.val = {} ∧ (∀ p, p ≠ q.val → queueAt t p = queueAt s p) ∧
        RegsBut [(.TQ_QSTAT, 0)] s t)) ∧
    ((queueAt s q.val).st ≠ 1 → exec (.tqQcmdDestroy q) s = .next (qErr 2 s))) ∧
  (∀ (q : QueueId) (s : State), barOpen s = true →
    ((queueAt s q.val).st = 3 → (queueAt s q.val).tails = [] → Completes (.tqQcmdResume q) s (fun t =>
      queueAt t q.val = { queueAt s q.val with st := 2, head := (queueAt s q.val).skip } ∧ getF t F.TQ_QSTAT.ERR = 0)) ∧
    ((queueAt s q.val).st ≠ 3 → exec (.tqQcmdResume q) s = .next (qErr 2 s)))

/-- R287-R289, R325, R342, R630, R631: the doorbell pages. A tail is recorded, or noted where the queue is disabled or its tail
does not move, and a 65th pending tail stops the queue; a consumption index frees the slots up to it; RESUME and ABORT act as
their queue commands; a page beyond a function's range does nothing, and one of a queue bound elsewhere is dropped and noted. What
log entry 57 says is the model's choice. -/
def Obligations.DoorbellPages : Prop :=
  (∀ (q : QueueId) (v : BitVec 32) (s : State), barOpen s = true →
    ((queueAt s q.val).st = 0 →
      exec (.dbTail 0 q v) s = .next (post { code := Ev.TQ_DBDISABLED, queue := some q.val } s)) ∧
    ((queueAt s q.val).st = 1 → v.toNat % (queueAt s q.val).ringSize ≠ (queueAt s q.val).last →
      Completes (.dbTail 0 q v) s (fun t => queueAt t q.val = { queueAt s q.val with
          last := v.toNat % (queueAt s q.val).ringSize,
          tails := (queueAt s q.val).tails ++ [v.toNat % (queueAt s q.val).ringSize] } ∧
        (∀ p, p ≠ q.val → queueAt t p = queueAt s p) ∧ t.regs = s.regs)) ∧
    ((queueAt s q.val).st ≠ 0 → v.toNat % (queueAt s q.val).ringSize = (queueAt s q.val).last →
      Completes (.dbTail 0 q v) s (fun t => t.tq = s.tq ∧ RegsButAll eventRegs s t)) ∧
    ((queueAt s q.val).st = 2 → 64 ≤ (queueAt s q.val).tails.length →
      v.toNat % (queueAt s q.val).ringSize ≠ (queueAt s q.val).last →
      Completes (.dbTail 0 q v) s (fun t => (queueAt t q.val).st = 1 ∧ (queueAt t q.val).tails = [] ∧
        getF t F.TQ_DBOVF.COUNT = min (getF s F.TQ_DBOVF.COUNT + 1) (2 ^ F.TQ_DBOVF.COUNT.width - 1)))) ∧
  (∀ (q : QueueId) (v : BitVec 32) (s : State), barOpen s = true → (queueAt s q.val).st ≠ 0 →
    (queueAt s q.val).held = [] → (queueAt s q.val).batches = [] → (∀ p f, (queueAt s p).fetch = some f → f.held = false) →
    Completes (.dbCplhead 0 q v) s (fun t => queueAt t q.val = { queueAt s q.val with
      cplHead := consumed (queueAt s q.val).cplHead (queueAt s q.val).cplTail (queueAt s q.val).cplSize v.toNat } ∧
      t.regs = s.regs)) ∧
  (∀ (q : QueueId) (v : BitVec 32) (s : State), barOpen s = true → (queueAt s q.val).st ≠ 0 → (queueAt s q.val).cls = 1 →
    Completes (.dbRechead 0 q v) s (fun t => queueAt t q.val = { queueAt s q.val with
      recHead := consumed (queueAt s q.val).recHead (queueAt s q.val).recTail (queueAt s q.val).recSize v.toNat } ∧
      t.regs = s.regs)) ∧
  (∀ head tail size n : Nat, 0 < n → n < size → head + n ≤ tail → consumed head tail size ((head + n) % size) = head + n) ∧
  (∀ (q : QueueId) (s : State), barOpen s = true →
    ((queueAt s q.val).st = 3 → (queueAt s q.val).tails = [] → Completes (.dbResume 0 q 1) s (fun t =>
      queueAt t q.val = { queueAt s q.val with st := 2, head := (queueAt s q.val).skip } ∧ t.regs = s.regs)) ∧
    exec (.dbAbort 0 q 1) s = .next (abortQueue q.val 0 s)) ∧
  (∀ (f : Func) (p : QueueId) (v : BitVec 32) (s : State), barOpen s = true → f ≠ 0 →
    (pageQueue s f.val p.val = none → exec (.dbTail f p v) s = .next s ∧ exec (.dbCplhead f p v) s = .next s ∧
      exec (.dbRechead f p v) s = .next s ∧ exec (.dbAbort f p v) s = .next s) ∧
    (∀ q, pageQueue s f.val p.val = some q → (queueAt s q).st ≠ 0 → (ctxAt s (queueAt s q).asid).func ≠ f.val →
      Completes (.dbTail f p v) s (fun t => t.tq = s.tq ∧
        getF t F.PCI_DBDROP.COUNT = min (getF s F.PCI_DBDROP.COUNT + 1) (2 ^ F.PCI_DBDROP.COUNT.width - 1) ∧
        RegsButAll (.PCI_DBDROP :: eventRegs) s t)))

/-- R249, R252, R287, R292, R294, R309, R350, R465, R466: a fetched batch whose every command is checked and translated is
journaled; a command that is not legal refuses its batch; a durable batch is accepted, which moves HEAD and the ASNs on; a host
write of a counter takes effect at its upper half. That a command not due changes nothing, and the readings of log entries 4, 33,
42 and 49, are the model's choice. -/
def Obligations.BatchesAndCounters : Prop :=
  (∀ (q : QueueId) (f : Fetch) (s : State), frameRuns s = true → (queueAt s q.val).fetch = some f → f.full = true →
    f.count ≤ f.done.length → batchEntries s + (1 + (f.done.map TCmd.entries).sum) ≤ 65536 →
    Completes (.batchFetchDone q) s (fun t => ∃ b, (queueAt t q.val).fetch = none ∧ b.first = (queueAt s q.val).asn ∧
      b.cmds = f.done ∧ b.ring = (queueAt s q.val).head ∧ b.accepted = false ∧ b.lsn = jHead t - 1 ∧
      ∃ before, (queueAt t q.val).batches = before ++ [b])) ∧
  (∀ (q : QueueId) (f : Fetch) (s : State), frameRuns s = true → (queueAt s q.val).fetch = some f → f.full = true →
    f.done.length < f.count → f.part = [] → checkCmd s (queueAt s q.val) f.ws f.done.length ≠ 0 →
    Completes (.batchFetchDone q) s (fun t => (queueAt t q.val).st = 3 ∧ (queueAt t q.val).fetch = none ∧
      (queueAt t q.val).head = (queueAt s q.val).head ∧
      getF t F.TQ_REFUSED.COUNT = min (getF s F.TQ_REFUSED.COUNT + 1) (2 ^ F.TQ_REFUSED.COUNT.width - 1))) ∧
  (∀ (q : QueueId) (b : Batch) (s : State), frameRuns s = true → (queueAt s q.val).newest = some b →
    (queueAt s q.val).st = 2 → (queueAt s q.val).tails.length ≤ 1 → (queueAt s q.val).roomy = true →
    (durable s b.lsn = false → exec (.batchAccept q) s = .next s) ∧
    (withheld s = true → exec (.batchAccept q) s = .next s) ∧
    (durable s b.lsn = true → withheld s = false → Completes (.batchAccept q) s (fun t =>
      (queueAt t q.val).asn = (queueAt s q.val).asn + b.cmds.length ∧
      (queueAt t q.val).head = (queueAt s q.val).tails.headD (queueAt s q.val).head ∧ (queueAt t q.val).tails = [] ∧
      (queueAt t q.val).cplTail = (queueAt s q.val).cplTail + 1 ∧
      (queueAt t q.val).batches = ((queueAt s q.val).setBatch
        (Batch.close { b with accepted := true, unmir := !mirrored s })).batches ∧
      get64 t .TQ_ACCEPTED_LO .TQ_ACCEPTED_HI 0 = (get64 s .TQ_ACCEPTED_LO .TQ_ACCEPTED_HI 0 + b.cmds.length) % 2 ^ 64))) ∧
  (∀ (i : BitVec 16) (hi : BitVec 32) (s : State), barOpen s = true → s.tq.queues = [] →
    Completes (.counterHostWrite i hi) s (fun t =>
      counterAt t i.toNat = (mapGet s.pci.loHeld (regKey .TQ_CNT_LO i.toNat) (getReg s .TQ_CNT_LO i.toNat)).toNat
        + hi.toNat * 2 ^ 32 ∧
      mapFind t.pci.loHeld (regKey .TQ_CNT_LO i.toNat) = none ∧ ∀ j, j ≠ i.toNat → counterAt t j = counterAt s j))
/-! ### Running accepted batches -/

/-- R299-R312, R322: what the sequencer does at each control command. It goes on at the next command or at the branch's target;
SETI, ADDI and LOOP write their index register; MARK the bits that the queue's mask admits; a WAIT that does not hold yet keeps
the sequencer where it is, and one whose limit elapses ends with TQ_WAITTMO; CSET and CADD are dispatched without an engine; a
FENCE sends its urgent flit and waits for its tiles' reports; a completed command raises its counter. That a command not due
changes nothing, and the readings of log entries 4, 33, 67 and 117, are the model's choice. -/
def Obligations.SequencerRunsControlCommands : Prop :=
  (∀ (q : QueueId) (b : Batch) (s : State) (x : TQueue) (w : Cmd), x = queueAt s q.val → w = wordAt b.words b.seq.pos →
    (AtSeq s q 0x00 b → exec (.tideNop q) s = .next (seqDone q x b (b.seq.pos + 1) id s)) ∧
    (AtSeq s q 0x01 b → exec (.tideJump q) s = .next (seqDone q x b (target b.words b.seq.pos).toNat id s)) ∧
    (AtSeq s q 0x02 b → mapFind b.outcomes b.seq.dseq = none →
      exec (.tideBrc q) s = .next (seqDone q x b
        (if condHolds (cCond w) (counterAt s (x.cbase + cCounter w)) (cValue w) then (target b.words b.seq.pos).toNat
          else b.seq.pos + 1) id
        (modBatch q b.first (fun d => { d with
            outcomes := mapIns d.outcomes b.seq.dseq (condHolds (cCond w) (counterAt s (x.cbase + cCounter w)) (cValue w)) })
          (jOutcome q b (condHolds (cCond w) (counterAt s (x.cbase + cCounter w)) (cValue w)) s)))) ∧
    (AtSeq s q 0x03 b → exec (.tideLoop q) s = .next (seqDone q x b
      (if (b.seq.reg (cIreg w) + 1) % 2 ^ 32 < cImm w then (target b.words b.seq.pos).toNat else b.seq.pos + 1)
      (Snap.setReg (cIreg w) ((b.seq.reg (cIreg w) + 1) % 2 ^ 32)) s)) ∧
    (AtSeq s q 0x04 b → exec (.tideSeti q) s = .next (seqDone q x b (b.seq.pos + 1) (Snap.setReg (cIreg w) (cImm w)) s)) ∧
    (AtSeq s q 0x05 b → exec (.tideAddi q) s
      = .next (seqDone q x b (b.seq.pos + 1) (Snap.setReg (cIreg w) (b.seq.reg (cIreg w) + cImm w)) s)) ∧
    (AtSeq s q 0x0A b → exec (.tideMark q) s = .next (seqDone q x b (b.seq.pos + 1)
      (fun p => { p with mark := (x.mark &&& (2 ^ 16 - 1 - x.markMask)) ||| (cBits w &&& x.markMask) }) s)) ∧
    (AtSeq s q 0x0B b → exec (.tideAdvise q) s = .next (seqDone q x b (b.seq.pos + 1) id
      (advise q x.eng x.asid (cVa w) (cSectors w * 64) (cAccess w) s))) ∧
    (AtSeq s q 0x0C b → exec (.tideOpnd q) s
      = .next (settle q (modBatch q b.first (fun c => Batch.goto c (b.seq.pos + 1)) s)))) ∧
  (∀ (q : QueueId) (b : Batch) (s : State), AtSeq s q 0x06 b → b.committedHere = false → b.lost.contains b.seq.pos = false →
    mapFind b.outcomes b.seq.dseq = none →
    condHolds (cCond (wordAt b.words b.seq.pos))
      (counterAt s ((queueAt s q.val).cbase + cCounter (wordAt b.words b.seq.pos))) (cValue (wordAt b.words b.seq.pos)) = false →
    exec (.tideWait q) s = .next (modBatch q b.first (fun c => { c with waiting := true }) s)) ∧
  (∀ (q : QueueId) (b : Batch) (s : State), frameRuns s = true → (queueAt s q.val).running = some b → b.waiting = true →
    exec (.waitTimeout q) s = .next (waitEnd q Status.TQ_WAITTMO b s)) ∧
  (∀ (q : QueueId) (b : Batch) (s : State), b.committedHere = false →
    (AtSeq s q 0x07 b →
      exec (.tideCset q) s = .next (dispatch q b { newInst b [] with result := some Status.OK } s)) ∧
    (AtSeq s q 0x08 b →
      exec (.tideCadd q) s = .next (dispatch q b { newInst b [] with result := some Status.OK } s))) ∧
  (∀ (q : QueueId) (b : Batch) (s : State), AtSeq s q 0x09 b →
    (cScope (wordAt b.words b.seq.pos) = 0 ∨ fenceTiles s (queueAt s q.val) b = [] →
      exec (.tideFence q) s = .next (seqDone q (queueAt s q.val) b (b.seq.pos + 1) id s)) ∧
    (cScope (wordAt b.words b.seq.pos) ≠ 0 → fenceTiles s (queueAt s q.val) b ≠ [] →
      ∀ u : State, u = modBatch q b.first (fun d => { d with
          fencing := true, fence := fenceTiles s (queueAt s q.val) b, fenceId := s.bead.fenceNext }) s →
        exec (.tideFence q) s = .next (engineUrgent (queueAt s q.val).eng
          (fenceFlit s.bead.fenceNext (queueAt s q.val).asid b.seq.mark (fenceTiles s (queueAt s q.val) b))
          { u with bead := { u.bead with fenceNext := (s.bead.fenceNext + 1) % 2 ^ 32 } }))) ∧
  (∀ (q : QueueId) (b : Batch) (t : TileId) (s : State), frameRuns s = true → (queueAt s q.val).running = some b →
    b.fencing = true → b.fence.contains t.val = true → s.bead.reports.contains (t.val, b.fenceId) = true →
    b.fence.filter (fun u => u != t.val) ≠ [] →
    exec (.tileFenceReport q t) s = .next (modBatch q b.first (fun d =>
      { d with fence := b.fence.filter (fun u => u != t.val), fencing := true })
      { s with bead := { s.bead with reports := s.bead.reports.erase (t.val, b.fenceId) } })) ∧
  (∀ (q : QueueId) (b : Batch) (t : TileId) (s : State), frameRuns s = true → (queueAt s q.val).running = some b →
    s.bead.reports.contains (t.val, b.fenceId) = false → exec (.tileFenceReport q t) s = .next s) ∧
  (∀ (q pos : Nat) (b : Batch) (g : Snap → Snap) (s : State), b ∈ (queueAt s q).batches → b.isOver = false → b.ended = false →
    b.accepted = true → (∀ c ∈ (queueAt s q).batches, c.first = b.first → c = b) → pos < b.cmds.length →
    signalOf (queueAt s q) b = none →
    ∃ c ∈ (queueAt (seqDone q (queueAt s q) b pos g s) q).batches, c.first = b.first ∧ c.isOver = false ∧
      c.seq = { g b.seq with dseq := (g b.seq).dseq + 1, pos := pos } ∧ c.insts = b.insts)

/-- R255, R280, R281, R315, R329, R557: each engine serves the queue whose turn it is; the command at which that queue's sequencer
stands is dispatched as an instance with its operands. One whose step is out of its range completes with TQ_INDEX, a RECKON
whose compute die has failed with TQ_COMPUTE, and one of which an old translation fails with XLT_GONE; where a page of it must be
translated by the host, the host is asked. That a command not due changes nothing, and the readings of log entries 4, 61 and 67,
are the model's choice. -/
def Obligations.EnginesDispatchInTurn : Prop :=
  (∀ (e : Fin 32) (q : Nat) (b : Batch) (c : Cmd) (s : State), c = wordAt b.words b.seq.pos → Fresh s q b →
    (AtTurn s e q 0x10 b →
      (indexBad b c = false → exec (.tideCopy e) s = .next (ferryBegin q b c (hereOpnds b) (useTurn e q 0 s))) ∧
      (indexBad b c = true → exec (.tideCopy e) s = .next (failDispatch q b Status.TQ_INDEX (useTurn e q 0 s)))) ∧
    (AtTurn s e q 0x11 b → prefetchOpen s = true →
      (indexBad b c = false → exec (.tidePrefetch e) s = .next (ferryBegin q b c (hereOpnds b) (useTurn e q 0 s))) ∧
      (indexBad b c = true → exec (.tidePrefetch e) s = .next (failDispatch q b Status.TQ_INDEX (useTurn e q 0 s)))) ∧
    (AtTurn s e q 0x12 b →
      (indexBad b c = false → exec (.tideFill e) s = .next (ferryBegin q b c (hereOpnds b) (useTurn e q 0 s))) ∧
      (indexBad b c = true → exec (.tideFill e) s = .next (failDispatch q b Status.TQ_INDEX (useTurn e q 0 s))))) ∧
  (∀ (e : Fin 8) (q : Nat) (b : Batch) (c : Cmd) (s : State), c = wordAt b.words b.seq.pos → Fresh s q b →
    (AtTurn s (32 + e) q 0x20 b →
      (b.lost.contains b.seq.pos = false → exec (.tideReckon e) s
        = .next (reckonBegin e q (queueAt s q) b c (hereOpnds b) (useTurn (32 + e) q 0 s))) ∧
      (b.lost.contains b.seq.pos = true → exec (.tideReckon e) s
        = .next (failDispatch q b Status.TQ_COMPUTE (useTurn (32 + e) q 0 s)))) ∧
    (AtTurn s (32 + e) q 0x21 b →
      (stageSlots b (newInst b (hereOpnds b)) = [] → exec (.tideKcall e) s
        = .next (kcallBegin e q (queueAt s q) b c (hereOpnds b) [] (useTurn (32 + e) q 0 s))) ∧
      (stageSlots b (newInst b (hereOpnds b)) ≠ [] → ∀ n u, stagePick (useTurn (32 + e) q 0 s) = (some n, u) →
        exec (.tideKcall e) s = .next (kcallBegin e q (queueAt s q) b c (hereOpnds b)
          (stageLayout (0xBD400000 + n * 0x40000) (stageSlots b (newInst b (hereOpnds b)))) u))) ∧
    (AtTurn s (40 + e) q 0x30 b →
      (indexBad b c = false → exec (.tidePut e) s
        = .next (gatherBegin q (queueAt s q) b c (hereOpnds b) (useTurn (40 + e) q 0 s))) ∧
      (indexBad b c = true → exec (.tidePut e) s
        = .next (failDispatch q b Status.TQ_INDEX (useTurn (40 + e) q 0 s)))) ∧
    (AtTurn s (40 + e) q 0x31 b →
      (indexBad b c = false → exec (.tideGet e) s
        = .next (gatherBegin q (queueAt s q) b c (hereOpnds b) (useTurn (40 + e) q 0 s))) ∧
      (indexBad b c = true → exec (.tideGet e) s
        = .next (failDispatch q b Status.TQ_INDEX (useTurn (40 + e) q 0 s)))) ∧
    (AtTurn s (40 + e) q 0x32 b → exec (.tideColl e) s
      = .next (collStart q (queueAt s q) b c (hereOpnds b) (useTurn (40 + e) q 0 s)))) ∧
  (∀ s : State, (∃ n, n < 64 ∧ stageFree s n = true) →
    ∃ n u, stagePick s = (some n, u) ∧ n < 64 ∧ stageFree s n = true ∧ u = { s with free := u.free }) ∧
  (∀ (f : Fin 32) (e : Fin 8) (i : Instr) (n op q : Nat) (b : Batch) (s : State), (i, n, op) ∈ engineRows f e →
    AtTurn s n q op b →
    (∀ k u, redone s n q op b = (.gone k, u) → exec i s = .next (failDispatch q b Status.XLT_GONE (useTurn n q k u))) ∧
    (∀ pg acc u, redone s n q op b = (.need pg acc, u) → exec i s = .next
      (atsRequest .redo q n (queueAt s q).asid pg acc (redoNoWrite (hereOpnds b) pg) (b.first, b.seq.dseq) u))) ∧
  (∀ (e : Fin 32) (q : Nat) (b : Batch) (l : List Opnd) (s u : State), AtTurn s e q 0x10 b →
    redone s e q 0x10 b = (.ok l, u) → indexBad b (wordAt b.words b.seq.pos) = false →
    exec (.tideCopy e) s = .next (ferryBegin q b (wordAt b.words b.seq.pos) l
      (useTurn e q (staleOpnds s (queueAt s q).asid (hereOpnds b)).length u))) ∧
  (∀ (e q n : Nat) (s : State), (queueAt s q).st ≠ 0 →
    queueAt (useTurn e q n s) q = { queueAt s q with regot := [] } ∧
    (∀ p, p ≠ q → queueAt (useTurn e q n s) p = queueAt s p) ∧ RegsBut [(.XLT_RETRANS, 0)] s (useTurn e q n s)) ∧
  (∀ (q : Nat) (b : Batch) (i : Inst) (s : State), b ∈ (queueAt s q).batches →
    ∃ c ∈ (queueAt (dispatch q b i s) q).batches, c.first = b.first ∧ c.insts = b.insts ++ [i] ∧
      c.seq = { b.seq with dseq := b.seq.dseq + 1, pos := b.seq.pos + 1 })

/-- R282, R327, R422, R444, R469, R474, R489-R492: how dispatched instances end. A dealt piece's digests join its command's; a
finished instance commits, or fails with its status; what is staged is applied once its entry is durable; a KCALL or a COLL that
takes too long completes with TQ_KTIMEOUT or TQ_PEER. Accesses that a gated cove keeps from memory ask it to wake and are made
later (R114, R115). That a command not due changes nothing, and the readings of log entries 4, 47, 48, 60 and 69, are the model's
choice. -/
def Obligations.InstancesEndAndApply : Prop :=
  (∀ (q : QueueId) (asn : BitVec 64) (dseq : BitVec 32) (k : Nat) (noise : Option (Nat × BitVec 512)) (b : Batch) (i : Inst)
      (m : Mv) (s s1 : State), frameRuns s = true → instOf s q.val asn.toNat dseq.toNat = some (b, i) → i.phase = .run →
    (mapFind i.xfer.dealt k).isSome = true → pieceReady (b.cmdOf i) i k = true →
    engineWait s (pieceEngine (queueAt s q.val) i k)
      (ferryPlaces (b.cmdOf i) i (pieceRest i (cSectors (b.cmdOf i)) k)) = none →
    pieceFinish (queueAt s q.val) (b.cmdOf i) i k noise s = (m, s1) →
    exec (.ferryPieceDone q asn dseq k noise) s = .next (dealAll (putInst q.val b.first { i with xfer := { i.xfer with
      dealt := mapDel i.xfer.dealt k
      digs := mapIns i.xfer.digs k (m.hs, m.hd)
      err := if i.xfer.err = 0 then m.err else i.xfer.err
      poison := i.xfer.poison || m.poison } } s1))) ∧
  (∀ (q : QueueId) (asn : BitVec 64) (dseq : BitVec 32) (noise : Option (Nat × BitVec 512)) (held : BitVec 32) (b : Batch)
      (i : Inst) (s : State), frameRuns s = true → instOf s q.val asn.toNat dseq.toNat = some (b, i) → i.phase = .run →
    ((i.op = 0x07 ∨ i.op = 0x08) →
      exec (.commandCommit q asn dseq noise held) s = .next (stageInst q.val b.first dseq.toNat Status.OK s)) ∧
    ((i.op = 0x10 ∨ i.op = 0x11 ∨ i.op = 0x12) → ferryReady (b.cmdOf i) i = false →
      exec (.commandCommit q asn dseq noise held) s = .next (ferryPump q.val b.first dseq.toNat s)) ∧
    ((i.op = 0x10 ∨ i.op = 0x11 ∨ i.op = 0x12) → ferryReady (b.cmdOf i) i = true →
      ∀ w, engineWait s (queueAt s q.val).eng (ferryLeft (b.cmdOf i) i) = some w →
        exec (.commandCommit q asn dseq noise held) s = .next (askWake w s)) ∧
    ((i.op = 0x30 ∨ i.op = 0x31) → gatherReady s b i = true →
      engineWait s (queueAt s q.val).eng (gatherLeft s b i) = none →
      ∀ st s1, gatherFinish q.val (queueAt s q.val) b (b.cmdOf i) i noise s = (st, s1) →
        exec (.commandCommit q asn dseq noise held) s = .next (commitOr q.val b.first dseq.toNat st s1)) ∧
    (i.op = 0x20 → ∀ v st, i.verdict = some v → i.result = some st →
      exec (.commandCommit q asn dseq noise held) s = .next (commitReckon q.val b i st held.toNat s)) ∧
    (i.op = 0x21 → ∀ l, i.launch = some l → (l.again = false ∨ l.st ≠ 0) → launchBusy s l.id = false →
      exec (.commandCommit q asn dseq noise held) s = .next (commitOr q.val b.first dseq.toNat
        (if l.st ≠ 0 then l.st else if l.poison then Status.TQ_POISON else Status.OK) s)) ∧
    ((i.op = 0x10 ∨ i.op = 0x11 ∨ i.op = 0x12) → ferryReady (b.cmdOf i) i = true →
      engineWait s (queueAt s q.val).eng (ferryLeft (b.cmdOf i) i) = none →
      ∀ m s1 st s2, ferryFinish (queueAt s q.val) (b.cmdOf i) i noise s = (m, s1) →
        transferStatus q.val (queueAt s q.val) i m s1 = (st, s2) →
        exec (.commandCommit q asn dseq noise held) s = .next (commitOr q.val b.first dseq.toNat st s2)) ∧
    (i.op = 0x32 → ∀ st, i.result = some st →
      exec (.commandCommit q asn dseq noise held) s = .next (commitOr q.val b.first dseq.toNat st s)) ∧
    (i.op = 0x32 → i.result = none → i.xfer.err ≠ 0 → ∀ cs, i.coll = some cs → cs.commitLsn = 0 →
      exec (.commandCommit q asn dseq noise held) s = .next (commitOr q.val b.first dseq.toNat i.xfer.err s))) ∧
  (∀ (q : QueueId) (b : Batch) (i : Inst) (s : State), frameRuns s = true → oldestStaged (queueAt s q.val) = some (b, i) →
    (durable s i.lsn = true → engineWait s (queueAt s q.val).eng (applyPlaces s i) = none →
      exec (.stagedEffectsApply q) s = .next (applyInst q.val b i s)) ∧
    (durable s i.lsn = false → exec (.stagedEffectsApply q) s = .next s)) ∧
  (∀ (q : QueueId) (asn : BitVec 64) (dseq : BitVec 32) (b : Batch) (i : Inst) (l : Launch) (s : State), frameRuns s = true →
    instOf s q.val asn.toNat dseq.toNat = some (b, i) → i.op = 0x21 → i.phase = .run → i.launch = some l → l.st = 0 →
    exec (.kcallTimeout q asn dseq) s = .next (killLaunch l.id
      (putInst q.val b.first { i with launch := some { l with st := Status.TQ_KTIMEOUT } } s))) ∧
  (∀ (q : QueueId) (asn : BitVec 64) (dseq : BitVec 32) (b : Batch) (i : Inst) (cs : CollSt) (s : State), frameRuns s = true →
    instOf s q.val asn.toNat dseq.toNat = some (b, i) → i.coll = some cs → i.working = true →
    (cs.commitLsn = 0 →
      exec (.collTimeout q asn dseq) s = .next (failInst q.val b.first dseq.toNat Status.TQ_PEER true s)) ∧
    (cs.readyLsn ≠ 0 → cs.readySent = false → cs.interrupted = false → durable s (cs.readyLsn - 1) = true →
      (exec (.collReadyDurable q asn dseq false) s = .next (collTry q.val b.first dseq.toNat
        ((collPeers s (b.cmdOf i)).foldl (fun u d => collSend (queueAt s q.val) i (b.cmdOf i) { cs with readySent := true } 0
            (boolNat i.xfer.poison) d u)
          (putInst q.val b.first { i with coll := some { cs with readySent := true } } s)))) ∧
      exec (.collReadyDurable q asn dseq true) s = .next (failInst q.val b.first dseq.toNat Status.TQ_DIGEST true
        (post { code := Ev.TLY_DIGEST, asid := (queueAt s q.val).asid, queue := some q.val, mark := i.snap.mark,
                inst := (queueAt s q.val).eng, d0 := Status.TQ_DIGEST + i.idx * 2 ^ 16 } (bump F.TLY_DIGERR.COUNT 0 s)))) ∧
    (cs.commitLsn ≠ 0 → durable s (cs.commitLsn - 1) = true →
      engineWait s (queueAt s q.val).eng (contribPlaces s (b.cmdOf i) i (groupMembers (cGroup (b.cmdOf i)))
        ++ (List.range (cSectors (b.cmdOf i))).filterMap (fun k => (i.sector 1 k).map (fun y => (2, y)))) = none →
      exec (.collCommitDurable q asn dseq) s = .next (putInst q.val b.first
        { i with result := some (collStored (queueAt s q.val) i (collOuts (queueAt s q.val) (b.cmdOf i) i s)).1 }
        (collStored (queueAt s q.val) i (collOuts (queueAt s q.val) (b.cmdOf i) i s)).2))) ∧
  (∀ (q : QueueId) (asn : BitVec 64) (dseq held : BitVec 32) (b : Batch) (i : Inst) (l : Launch) (r : DispRec) (s : State),
    frameRuns s = true → instOf s q.val asn.toNat dseq.toNat = some (b, i) → i.launch = some l → b.disp dseq.toNat = some r →
    i.op = 0x20 → i.phase = .run → i.verdict = none → l.st ≠ 0 → launchBusy s l.id = false → i.opnds = [] →
    Completes (.reckonCheckDone q asn dseq held) s (fun t =>
      getF t F.TLY_UNCHECKED.COUNT = min (getF s F.TLY_UNCHECKED.COUNT + 1) (2 ^ F.TLY_UNCHECKED.COUNT.width - 1) ∧
      getF t F.TLY_PASS.COUNT = getF s F.TLY_PASS.COUNT ∧ getF t F.TLY_FAIL.COUNT = getF s F.TLY_FAIL.COUNT))
/-! ### Bead cores -/

/-- R351, R357, R358: the instructions that compute write rd and go on at the next instruction; branches go on at their target
where the comparison holds; JAL and JALR leave the address after them in rd. g0 reads 0 and takes no write; an instruction that
reads a register which still awaits a value does nothing. What log entry 62 says is the model's choice. -/
def Obligations.ArithmeticAndBranchInstructions : Prop :=
  (∀ (c : CoreId) (i : Instr) (fn : Nat) (op : BitVec 64 → BitVec 64 → BitVec 64) (w : KWord) (s : State),
    (i, fn, op) ∈ rrTable c → AtIns s c w → kOp w = 0 → kFn w = fn →
    (Landed s c → exec i s = .next (setCore c
      (((coreAt s c).wr (kF6 w) (op ((coreAt s c).gr (kF11 w)) ((coreAt s c).gr (kF16 w)))).goto ((coreAt s c).pc + 4)) s)) ∧
    ((mapFind (coreAt s c).busy (kF11 w)).isSome = true → (coreAt s c).late = none → exec i s = .next s)) ∧
  (∀ (c : CoreId) (i : Instr) (o : Nat) (op : BitVec 64 → KWord → BitVec 64) (w : KWord) (s : State),
    (i, o, op) ∈ riTable c → AtIns s c w → kOp w = o → Landed s c →
    exec i s = .next (setCore c
      (((coreAt s c).wr (kF6 w) (op ((coreAt s c).gr (kF11 w)) w)).goto ((coreAt s c).pc + 4)) s)) ∧
  (∀ (c : CoreId) (i : Instr) (o : Nat) (cmp : BitVec 64 → BitVec 64 → Bool) (w : KWord) (s : State),
    (i, o, cmp) ∈ brTable c → AtIns s c w → kOp w = o → Landed s c →
    exec i s = .next (setCore c ((coreAt s c).goto
      (if cmp ((coreAt s c).gr (kF6 w)) ((coreAt s c).gr (kF11 w))
        then (BitVec.ofNat 64 (coreAt s c).pc + (w.extractLsb' 16 16).signExtend 64 * 4).toNat else (coreAt s c).pc + 4)) s)) ∧
  (∀ (c : CoreId) (w : KWord) (s : State), AtIns s c w → Landed s c →
    (kOp w = 0x2E → exec (.jal c) s = .next (setCore c
      (((coreAt s c).wr (kF6 w) (BitVec.ofNat 64 ((coreAt s c).pc + 4))).goto
        (BitVec.ofNat 64 (coreAt s c).pc + (w.extractLsb' 11 21).signExtend 64 * 4).toNat) s)) ∧
    (kOp w = 0x2F → exec (.jalr c) s = .next (setCore c
      (((coreAt s c).wr (kF6 w) (BitVec.ofNat 64 ((coreAt s c).pc + 4))).goto
        (((coreAt s c).gr (kF11 w) + (w.extractLsb' 16 16).signExtend 64).toNat / 4 * 4)) s))) ∧
  (∀ (k : Core) (n m : Nat) (v : BitVec 64), (k.wr n v).gr m = (if m = n ∧ n ≠ 0 then v else k.gr m) ∧ k.gr 0 = 0 ∧
    ((k.wr n v).goto m).pc = m % 2 ^ 64 ∧ ((k.wr n v).goto m).retired = k.retired + 1 ∧
    ((k.wr n v).goto m).scratch = k.scratch ∧ ((k.wr n v).goto m).k = k.k)

/-- R360-R369: an access that is misaligned or not admitted raises ALIGN or ACCESS and moves nothing; one in the scratch is done
at once; one in a window goes out as one flit with a free TAG; one to a sector with an unacknowledged write waits. What log
entries 62 and 66 say is the model's choice. -/
def Obligations.MemoryInstructions : Prop :=
  (∀ (c : CoreId) (i : Instr) (o n : Nat) (signed : Bool) (w : KWord) (a : Nat) (s : State), (i, o, n, signed) ∈ ldTable c →
    AtIns s c w → kOp w = o → Landed s c → a = ((coreAt s c).gr (kF11 w) + kSimm w).toNat →
    (a % n ≠ 0 → exec i s = .next (takeExc c 3 false (coreAt s c).pc a 0 s)) ∧
    (a % n = 0 → inScratch a n = false → inWindow (coreAt s c) a n 0 = false →
      exec i s = .next (takeExc c 4 false (coreAt s c).pc a 0 s)) ∧
    (a % n = 0 → inScratch a n = true → sectorHeld (coreAt s c) a = false →
      exec i s = .next (setCore c
        (((coreAt s c).wr (kF6 w) (loadValue (scratchRead (coreAt s c) a n) n signed)).goto ((coreAt s c).pc + 4)) s)) ∧
    (a % n = 0 → inScratch a n = false → inWindow (coreAt s c) a n 0 = true → sectorHeld (coreAt s c) a = false →
      (coreAt s c).loads < 16 → ∀ t, freeTag s c = some t →
      Completes i s (fun u => ∃ u0, u = setCore c { (((coreAt s c).await (kF6 w)).goto ((coreAt s c).pc + 4)) with
          outs := (coreAt s c).outs ++ [{ tag := t, tok := (coreAt s c).serial, req := .load (kF6 w) n signed (a % 64),
                                          pc := (coreAt s c).pc, addr := a }], tag := t + 1 } u0 ∧
        u0 = coreSend c 0 t a 0 0 false s)) ∧
    (a % n = 0 → (inScratch a n = true ∨ inWindow (coreAt s c) a n 0 = true) → sectorHeld (coreAt s c) a = true →
      exec i s = .next s)) ∧
  (∀ (c : CoreId) (i : Instr) (o z : Nat) (w : KWord) (a : Nat) (s : State), (i, o, z) ∈ stTable c →
    AtIns s c w → kOp w = o → Landed s c → a = ((coreAt s c).gr (kF11 w) + kSimm w).toNat →
    (a % 2 ^ z ≠ 0 → exec i s = .next (takeExc c 3 false (coreAt s c).pc a 0 s)) ∧
    (a % 2 ^ z = 0 → inScratch a (2 ^ z) = true → sectorHeld (coreAt s c) a = false →
      exec i s = .next (setCore c ((scratchWrite a (2 ^ z) ((coreAt s c).gr (kF6 w)).toNat (coreAt s c)).goto
        ((coreAt s c).pc + 4)) s)) ∧
    (a % 2 ^ z = 0 → inScratch a (2 ^ z) = false → inWindow (coreAt s c) a (2 ^ z) 1 = true → sectorHeld (coreAt s c) a = false →
      (coreAt s c).writes.length < 32 → ∀ t, freeTag s c = some t →
      exec i s = .next (setCore c { ((coreAt s c).goto ((coreAt s c).pc + 4)) with
          writes := (coreAt s c).writes ++ [{ tag := t, sec := a / 64, pc := (coreAt s c).pc, addr := a, kst := false }]
          tag := t + 1 }
        (coreSend c 3 t a (atomicPay 0 z (a % 64) ((coreAt s c).gr (kF6 w)) 0) 0 false s)))) ∧
  (∀ (c : CoreId) (i : Instr) (aop z a : Nat) (f : Nat → Nat → Nat → Nat → Nat) (w : KWord) (s : State), (i, aop, f) ∈ amoTable c →
    AtIns s c w → kOp w = 0x20 → kFn w = aop + 8 * z → (z = 2 ∨ z = 3) → Landed s c →
    a = ((coreAt s c).gr (kF11 w)).toNat → a % 2 ^ z = 0 → inScratch a (2 ^ z) = true → sectorHeld (coreAt s c) a = false →
    exec i s = .next (setCore c
      (((scratchWrite a (2 ^ z) (f (scratchRead (coreAt s c) a (2 ^ z))
          (((coreAt s c).gr (kF16 w)).toNat % 2 ^ (8 * 2 ^ z)) (((coreAt s c).gr (kF6 w)).toNat % 2 ^ (8 * 2 ^ z)) (8 * 2 ^ z))
        (coreAt s c)).wr (kF6 w) (BitVec.ofNat 64 (scratchRead (coreAt s c) a (2 ^ z)))).goto ((coreAt s c).pc + 4)) s)) ∧
  (∀ (k : Core) (a v j : Nat), scratchBase ≤ a → j < 8 →
    mapGet (scratchWrite a 8 v k).scratch (a - scratchBase + j) 0 = BitVec.ofNat 8 (v / 2 ^ (8 * j)) ∧
    (∀ b, (b < a - scratchBase ∨ a - scratchBase + 8 ≤ b) →
      mapGet (scratchWrite a 8 v k).scratch b 0 = mapGet k.scratch b 0)) ∧
  (∀ (c : CoreId) (cause pc addr sub : Nat) (late : Bool) (j : KPend) (s : State), (coreAt s c).job = some j →
    (takeExc c cause late pc addr sub s).bead.excs
      = s.bead.excs ++ [{ job := j, core := c, cause := cause, late := late, pc := pc, addr := addr, sub := sub }] ∧
    (coreAt (takeExc c cause late pc addr sub s) c).active = false ∧
    (takeExc c cause late pc addr sub s).regs = s.regs ∧ (takeExc c cause late pc addr sub s).reef = s.reef)

/-- R381-R384, R400-R404: counters and CSRs of a core, its synchronisation points and its exceptions. A counter outside the
queue's window or a seventeenth staged update raises CNTLIM; a CNT of a device kernel is illegal; KSYNC, WACK and EXIT wait until the core is idle, and take a late
exception that is pending; TRAP, an illegal instruction and a fetch outside the image raise their causes. What log entries 64 and
66 say is the model's choice. -/
def Obligations.CountersCsrsAndSync : Prop :=
  (∀ (c : CoreId) (w : KWord) (j : KPend) (s : State), AtIns s c w → Landed s c → kOp w = 0x21 → (coreAt s c).job = some j →
    ((queueAt s j.queue).ccount ≤ ((coreAt s c).gr (kF11 w)).toNat →
      (kFn w = 0 → exec (.cntAdd c) s = .next (takeExc c 5 false (coreAt s c).pc 0 0 s)) ∧
      (kFn w = 1 → exec (.cntSet c) s = .next (takeExc c 5 false (coreAt s c).pc 0 0 s)) ∧
      (kFn w = 2 → exec (.cntRead c) s = .next (takeExc c 5 false (coreAt s c).pc 0 0 s))) ∧
    (((coreAt s c).gr (kF11 w)).toNat < (queueAt s j.queue).ccount →
      (kFn w = 2 → exec (.cntRead c) s = .next (setCore c (((coreAt s c).wr (kF6 w) (BitVec.ofNat 64
        (counterAt s ((queueAt s j.queue).cbase + ((coreAt s c).gr (kF11 w)).toNat)))).goto ((coreAt s c).pc + 4)) s)) ∧
      ((coreAt s c).staged < 16 →
        (kFn w = 0 → exec (.cntAdd c) s = .next (modLaunch j (fun l => { l with
            counters := l.counters ++ [(j.index, (queueAt s j.queue).cbase + ((coreAt s c).gr (kF11 w)).toNat, false,
              ((coreAt s c).gr (kF16 w)).toNat)] })
          (setCore c { (coreAt s c).goto ((coreAt s c).pc + 4) with staged := (coreAt s c).staged + 1 } s))) ∧
        (kFn w = 1 → exec (.cntSet c) s = .next (modLaunch j (fun l => { l with
            counters := l.counters ++ [(j.index, (queueAt s j.queue).cbase + ((coreAt s c).gr (kF11 w)).toNat, true,
              ((coreAt s c).gr (kF16 w)).toNat)] })
          (setCore c { (coreAt s c).goto ((coreAt s c).pc + 4) with staged := (coreAt s c).staged + 1 } s)))) ∧
      (16 ≤ (coreAt s c).staged → kFn w = 0 →
        exec (.cntAdd c) s = .next (takeExc c 5 false (coreAt s c).pc 0 0 s)))) ∧
  (∀ (c : CoreId) (w : KWord) (s : State), AtIns s c w → Landed s c →
    (kOp w = 0x30 → kImm w ≠ 0 → exec (.csrr c) s = .next (setCore c
      (((coreAt s c).wr (kF6 w) (BitVec.ofNat 64 (csrValue (coreAt s c) (kImm w)))).goto ((coreAt s c).pc + 4)) s)) ∧
    (kOp w = 0x31 → kImm w = 0x14 → exec (.csrw c) s = .next (setCore c
      ({ coreAt s c with rctr := ((coreAt s c).gr (kF11 w)).extractLsb' 0 32 }.goto ((coreAt s c).pc + 4)) s)) ∧
    (kOp w = 0x31 → ∀ n, n < 4 → kImm w = 0x10 + n → Completes (.csrw c) s (fun t =>
      bitsAt (coreAt t c).seed (64 * n) 64 = ((coreAt s c).gr (kF11 w)).toNat ∧
      (∀ m, m < 4 → m ≠ n → bitsAt (coreAt t c).seed (64 * m) 64 = bitsAt (coreAt s c).seed (64 * m) 64)))) ∧
  (∀ (c : CoreId) (w : KWord) (s : State), AtIns s c w → kOp w = 0x32 →
    (∀ l, (coreAt s c).late = some l → kImm w = 2 → exec (.ksync c) s = .next (takeLate c l s)) ∧
    ((coreAt s c).late = none → (coreAt s c).kq = [] → (coreAt s c).outs = [] →
      (kImm w = 2 → exec (.ksync c) s = .next (setCore c ((coreAt s c).goto ((coreAt s c).pc + 4)) s)) ∧
      ((coreAt s c).writes = [] →
        (kImm w = 1 → exec (.wack c) s = .next (setCore c ((coreAt s c).goto ((coreAt s c).pc + 4)) s)) ∧
        (kImm w = 0 → exec (.exit c) s = .next (setCore c (idleCore (coreAt s c)) s))) ∧
      ((coreAt s c).writes ≠ [] → kImm w = 1 → exec (.wack c) s = .next s)) ∧
    (kImm w = 3 → exec (.trap c) s = .next (takeExc c 6 false (coreAt s c).pc 0 0 s))) ∧
  (∀ (c : CoreId) (w : KWord) (s : State), coreRuns s c = true → (coreAt s c).active = true →
    ((coreAt s c).fetch = some w → legal (coreAt s c).device w = false →
      exec (.illegalInstruction c) s = .next (takeExc c 2 false (coreAt s c).pc 0 0 s)) ∧
    (kOp w = 0x21 → legal true w = false) ∧
    ((coreAt s c).fetchBad = true → exec (.instructionFetchFault c) s = .next (takeExc c 1 false (coreAt s c).pc 0 0 s)))

/-- R385-R399, R403: a Reckoner that is empty and not stopped executes what its core hands it at once; otherwise the instruction
joins its queue, and RECKONER_EXECUTE executes it in order; an ECC error in what it reads is its late HWERR, one in the core's
own store that of the instruction at the pc. What each instruction leaves in the k registers, the accumulators and the g register. What log entries 65, 66 and 72 say is the model's choice. -/
def Obligations.ReckonerInstructions : Prop :=
  (∀ (c : CoreId) (i : Instr) (fn : Nat) (f : KIns → Core → Core) (w : KWord) (e : KIns) (s : State),
    (i, fn, f) ∈ kTable c (ctxAt s (coreAt s c).asid).point → AtIns s c w → Landed s c → kOp w = 0x38 → kKfn w = fn →
    (coreAt s c).kq.length < 32 → (coreAt s c).kstop = false →
    e = { word := w, pc := (coreAt s c).pc, g := (coreAt s c).gr (kG w), tok := (coreAt s c).serial, addr := 0, data := none } →
    ((coreAt s c).kq = [] → exec i s = .next (setCore c
      (f e ((if kWrites fn then (coreAt s c).await (kG w) else coreAt s c).goto ((coreAt s c).pc + 4))) s)) ∧
    ((coreAt s c).kq ≠ [] → exec i s = .next (setCore c
      { (if kWrites fn then (coreAt s c).await (kG w) else coreAt s c).goto ((coreAt s c).pc + 4) with
        kq := (coreAt s c).kq ++ [e] } s))) ∧
  (∀ (c : CoreId) (w : KWord) (e : KIns) (b : BitVec 1) (s s1 : State), AtIns s c w → Landed s c → kOp w = 0x38 →
    kKfn w = 21 → (coreAt s c).kq = [] → (coreAt s c).kstop = false → draw 1 s = (b, s1) →
    e = { word := w, pc := (coreAt s c).pc, g := (coreAt s c).gr (kG w), tok := (coreAt s c).serial, addr := 0, data := none } →
    exec (.kput c) s = .next (setCore c (kPut (b == 1) e ((coreAt s c).goto ((coreAt s c).pc + 4))) s1)) ∧
  (∀ (c : CoreId) (w : KWord) (a : Nat) (s : State), AtIns s c w → Landed s c →
    a = ((coreAt s c).gr (kF11 w) + kSimm w).toNat → a % 64 = 0 → (coreAt s c).kq = [] → (coreAt s c).kstop = false →
    sectorHeld (coreAt s c) a = false → inScratch a 64 = true →
    (kOp w = 0x1C → Completes (.kld c) s (fun t =>
      (coreAt t c).kr (kF6 w) = { v := BitVec.ofNat 512 (scratchRead (coreAt s c) a 64), poison := false } ∧
      (coreAt t c).scratch = (coreAt s c).scratch ∧ t.regs = s.regs)) ∧
    (kOp w = 0x1D → Completes (.kst c) s (fun t =>
      (coreAt t c).scratch = (scratchWrite a 64 ((coreAt s c).kr (kF6 w)).v.toNat (coreAt s c)).scratch ∧
      (∀ n, (coreAt t c).kr n = (coreAt s c).kr n) ∧ t.regs = s.regs))) ∧
  (∀ (c : CoreId) (i : KIns) (rest : List KIns) (s : State), coreRuns s c = true → (coreAt s c).kq = i :: rest →
    (coreAt s c).ended = false → (coreAt s c).abort = false →
    (kReady s c i = true →
      exec (.reckonerExecute c .none) s = .next (kRun c i (setCore c { coreAt s c with kq := rest } s))) ∧
    (kReady s c i = false → exec (.reckonerExecute c .none) s = .next s) ∧
    exec (.reckonerExecute c .reckoner) s = .next (setCore c ((coreAt s c).recErr 10 i) s)) ∧
  (∀ (c : CoreId) (s : State), coreRuns s c = true → (coreAt s c).active = true →
    exec (.reckonerExecute c .core) s = .next (setCore c ((coreAt s c).lateErr 10 (coreAt s c).pc 0 0) s)) ∧
  (∀ (i : KIns) (k : Core) (n : Nat), n ≠ kKd i.word →
    (kMov i k).kr (kKd i.word) = k.kr (kKa i.word) ∧ (kMov i k).kr n = k.kr n ∧
    ((kXor i k).kr (kKd i.word)).v = (k.kr (kKa i.word)).v ^^^ (k.kr (kKb i.word)).v ∧ (kXor i k).kr n = k.kr n ∧
    ((kXor i k).kr (kKd i.word)).poison = ((k.kr (kKa i.word)).poison || (k.kr (kKb i.word)).poison) ∧
    (∀ j, j < 8 → secField ((kBc i k).kr (kKd i.word)).v (8 * j) 8 = i.g.toNat) ∧
    secField ((kIns i k).kr (kKd i.word)).v (8 * (kKb i.word % 8)) 8 = i.g.toNat ∧
    ((kRand i k).kr (kKd i.word)).v = chachaBlock k.seed k.rctr ∧ (kRand i k).rctr = k.rctr + 1 ∧
    (kZacc i k).ar (kKd i.word) = {} ∧
    ((kAdda i k).ar (kKd i.word)).v = (k.ar (kKd i.word)).v + (k.ar (kKa i.word)).v ∧
    ((kDot i k).ar (kKd i.word)).v = (k.ar (kKd i.word)).v
      + BitVec.ofInt 768 (dotLanes (kG i.word) (k.kr (kKa i.word)).v (k.kr (kKb i.word)).v).1) ∧
  (∀ (i : KIns) (k : Core), kG i.word ≠ 0 → mapFind k.busy (kG i.word) = some i.tok →
    ((k.kr (kKa i.word)).poison = false → (kTally i k).gr (kG i.word) = BitVec.ofNat 64 (tallyOf (k.kr (kKa i.word)).v).toNat) ∧
    ((k.kr (kKd i.word)).poison = false →
      (kExt i k).gr (kG i.word) = BitVec.ofNat 64 (secField (k.kr (kKd i.word)).v (8 * (kKb i.word % 8)) 8)) ∧
    ((k.ar (kKa i.word)).poison = false → (k.ar (kKa i.word)).nonfinite = true →
      (kRnd i k).gr (kG i.word) = 0x7FF8000000000000) ∧
    ((k.ar (kKa i.word)).nonfinite = true → (kInt i k).kstop = true))

/-- R354, R369, R370, R372, R377, R386, R401-R408: answers that reach a core, and the life of an instance: it starts on an idle
core with its arguments, its image arrives, an abort or an ABORT flit with its LAUNCH value ends it, an exception ends its launch
or, after HWERR, has it run once more, and a tile answers a FENCE when the writes issued before it are acknowledged. That a command not due
changes nothing, and the readings of log entries 4 and 63, are the model's choice. -/
def Obligations.InstancesOnCores : Prop :=
  (∀ (c : CoreId) (t : Nat) (d : Sector) (p : Bool) (o : KOut) (s : State), coreRuns s c = true →
    coreAnswer s c (fun t => !((coreAt s c).writes.any (fun w => w.tag == t))) = some (.atomic t d p) →
    (coreAt s c).outs.find? (fun o => o.tag == t) = some o →
    exec (.loadResponse c) s = .next (setCore c (landData o d p { coreAt s c with outs := (coreAt s c).outs.erase o })
      (dropAnswer c (.atomic t d p) s))) ∧
  (∀ (c : CoreId) (t : Nat) (d : Sector) (p : Bool) (s : State), coreRuns s c = true →
    coreAnswer s c (fun t => !((coreAt s c).writes.any (fun w => w.tag == t))) = some (.atomic t d p) →
    (coreAt s c).outs.find? (fun o => o.tag == t) = none →
    exec (.loadResponse c) s = .next (setCore c { coreAt s c with old := (coreAt s c).old.filter (fun o => o.1 != t) }
      (dropAnswer c (.atomic t d p) s))) ∧
  (∀ (o : KOut) (d : Sector) (rd n off : Nat) (sg : Bool) (k : Core), o.req = .load rd n sg off → rd ≠ 0 →
    (mapFind k.busy rd = some o.tok → (landData o d false k).gr rd = loadValue (secField d off n) n sg) ∧
    (k.late = none → (landData o d true k).late.isSome = true ∧ (landData o d true k).gr rd = k.gr rd)) ∧
  (∀ (c : CoreId) (t : Nat) (p : Bool) (w : KWr) (s : State), coreRuns s c = true →
    coreAnswer s c (fun t => (coreAt s c).writes.any (fun w => w.tag == t)) = some (.ack t p) →
    (coreAt s c).writes.find? (fun w => w.tag == t) = some w → (coreAt s c).ended = false →
    exec (.writeAck c) s = .next (setCore c { coreAt s c with writes := (coreAt s c).writes.erase w }
      (fencePaid c t (dropAnswer c (.ack t p) s)))) ∧
  (∀ (c : CoreId) (j : KPend) (rest : List KPend) (b : Batch) (i : Inst) (l : Launch) (s : State), coreRuns s c = true →
    pendAt s c = j :: rest → waitAt s c = [] → (∀ k ∈ j :: rest, k.device = false) → (coreAt s c).job = none →
    jobInst s j = some (b, i) → i.launch = some l → l.copied = true → (mapFind l.image 0).isSome = true →
    Completes (.instanceStart c) s (fun t =>
      coreAt t c = enterCore (coreAt s c) c (queueAt s j.queue) b i l j (cParam (b.cmdOf i)) ∧ pendAt t c = rest ∧
      get64 t .BEAD_LAUNCHES_LO .BEAD_LAUNCHES_HI 0 = (get64 s .BEAD_LAUNCHES_LO .BEAD_LAUNCHES_HI 0 + 1) % 2 ^ 64 ∧
      RegsBut [(.BEAD_LAUNCHES_LO, 0), (.BEAD_LAUNCHES_HI, 0)] s t)) ∧
  (∀ (k : Core) (c : Nat) (x : TQueue) (b : Batch) (i : Inst) (l : Launch) (j : KPend) (p : Nat),
    (enterCore k c x b i l j p).pc = 0 ∧ (enterCore k c x b i l j p).gr 1 = BitVec.ofNat 64 p ∧
    (enterCore k c x b i l j p).gr 2 = BitVec.ofNat 64 j.index ∧
    (enterCore k c x b i l j p).gr 3 = BitVec.ofNat 64 l.cores.length ∧
    (enterCore k c x b i l j p).gr 4 = BitVec.ofNat 64 (whereAmI c) ∧
    (enterCore k c x b i l j p).gr 7 = BitVec.ofNat 64 (2 ^ 63) ∧ (enterCore k c x b i l j p).old = k.old) ∧
  (∀ (q : QueueId) (asn : BitVec 64) (dseq : BitVec 32) (k : Fin 1024) (b : Batch) (i : Inst) (l : Launch) (y : Extent)
      (d : Sector) (s : State), frameRuns s = true → instOf s q.val asn.toNat dseq.toNat = some (b, i) → i.launch = some l →
    i.sector 0 k.val = some y → i.op = 0x21 → k.val < cCodesec (b.cmdOf i) → mapFind l.image k.val = none → y.host = true →
    mapFind i.xfer.buf k.val = some (d, false) →
    Completes (.kernelImageSector q asn dseq k) s (fun t =>
      (∀ c j, (coreAt s c).job = some j → j.launch = l.id → mapFind (coreAt t c).code k.val = some d) ∧ t.regs = s.regs)) ∧
  (∀ (c : CoreId) (s : State), coreRuns s c = true → (coreAt s c).job.isSome = true →
    (coreAt s c).abort = true → (coreAt s c).ended = false → abortFlit s c = none →
    exec (.instanceAbort c) s = .next (endInstance c s)) ∧
  (∀ (c : CoreId) (j : KPend) (f : Flit) (u s : State), coreRuns s c = true → (coreAt s c).job = some j →
    (coreAt s c).ended = false → abortFlit s c = some f →
    u = setInbox (c / 2) (c % 2) ((inboxOf s (c / 2) (c % 2)).erase f) s →
    (secField f.pay 0 4 = j.launch → exec (.instanceAbort c) s = .next (endInstance c u)) ∧
    (secField f.pay 0 4 ≠ j.launch → (coreAt s c).abort = false → exec (.instanceAbort c) s = .next u)) ∧
  (∀ (c : CoreId) (s : State), ((coreAt s c).writes = [] → coreAt (endInstance c s) c = idleCore (coreAt s c)) ∧
    ((coreAt s c).writes ≠ [] → (coreAt (endInstance c s) c).ended = true ∧
      (coreAt (endInstance c s) c).writes = (coreAt s c).writes)) ∧
  (∀ (e : Fin 8) (x : KExc) (s : State), frameRuns s = true →
    s.bead.excs.find? (fun x => x.job.launch % 8 == e.val) = some x → x.cause < 16 → jobInst s x.job = none →
    Completes (.instanceException e) s (fun t => t.bead.excs = s.bead.excs.erase x ∧
      getF t F.BEAD_FAULTS.COUNT = min (getF s F.BEAD_FAULTS.COUNT + 1) (2 ^ F.BEAD_FAULTS.COUNT.width - 1) ∧
      flag t F.BEAD_FAULT.VALID = true ∧
      (flag s F.BEAD_FAULT.VALID = true → getReg t .BEAD_FAULT 0 = getReg s .BEAD_FAULT 0) ∧ t.tq = s.tq)) ∧
  (∀ (e : Fin 8) (x : KExc) (b : Batch) (i : Inst) (l : Launch) (u s : State), frameRuns s = true →
    s.bead.excs.find? (fun x => x.job.launch % 8 == e.val) = some x → jobInst s x.job = some (b, i) → i.launch = some l →
    u = recordFault x { s with bead := { s.bead with excs := s.bead.excs.erase x } } →
    (x.cause ≠ 10 → l.again = false → exec (.instanceException e) s = .next (putInst x.job.queue b.first
      { i with launch := some { l with st := if l.st = 0 then causeStatus x.cause else l.st, again := false } }
      (sendAborts l.id (some x.core) u))) ∧
    (x.cause = 10 → flag s F.BEAD_CTL.HWRETRY = true → l.retried = false → l.st = 0 →
      exec (.instanceException e) s = .next (bump F.BEAD_RETRIES.COUNT 0 (putInst x.job.queue b.first
        { i with launch := some { l with retried := true, again := true } }
        (sendAborts l.id (some x.core) (coreOff x u)))))) ∧
  (∀ (t : TileId) (f : KFence) (s : State), frameRuns s = true → coveAwake s (coveOf t.val) = true →
    (s.bead.fences.find? (fun f => f.tile == t.val && f.owed.isEmpty) = some f →
      exec (.tileFence t) s = .next { s with bead := { s.bead with
        fences := s.bead.fences.erase f, reports := s.bead.reports ++ [(t.val, f.id)] } }) ∧
    (s.bead.fences.find? (fun f => f.tile == t.val && f.owed.isEmpty) = none → exec (.tileFence t) s = .next s))
/-! ### Reckoning -/

/-- R444, R453, R454: the verdict of a RECKON by the first case that applies: poison, an operand that could not be read, a
kernel's exception, an unchecked pair of formats, no failing element, or some; and the commands that write and read a context's
reckon parameters. What log entries 48, 53, 72 and 74 say is the model's choice. -/
def Obligations.ReckonVerdictsAndParameters : Prop :=
  (∀ (c : Cmd) (d : RkData) (r : DispRec) (point err st : Nat) (poison gap unmir : Bool),
    (poison = true ∨ st = Status.TQ_POISON → (reckonVerdict c d r point err st poison gap unmir).1.verdict = 3 ∧
      (reckonVerdict c d r point err st poison gap unmir).2 = Status.TQ_POISON) ∧
    (poison = false → st ≠ Status.TQ_POISON → err ≠ 0 → (reckonVerdict c d r point err st poison gap unmir).1.verdict = 3 ∧
      (reckonVerdict c d r point err st poison gap unmir).2 = err) ∧
    (poison = false → st ≠ Status.TQ_POISON → err = 0 → st ≠ 0 →
      (reckonVerdict c d r point err st poison gap unmir).1.verdict = 3 ∧
      (reckonVerdict c d r point err st poison gap unmir).2 = Status.TQ_KFAULT) ∧
    ((reckonFails c d r.seed r.params).1 = none → (reckonVerdict c d r point 0 0 false gap unmir).1.verdict = 3 ∧
      (reckonVerdict c d r point 0 0 false gap unmir).2 = Status.OK) ∧
    ((reckonFails c d r.seed r.params).1 = some [] → (reckonVerdict c d r point 0 0 false gap unmir).1.verdict = 1 ∧
      (reckonVerdict c d r point 0 0 false gap unmir).1.failed = 0 ∧
      (reckonVerdict c d r point 0 0 false gap unmir).2 = Status.OK) ∧
    (∀ f l, (reckonFails c d r.seed r.params).1 = some (f :: l) →
      (reckonVerdict c d r point 0 0 false gap unmir).1.verdict = 2 ∧
      (reckonVerdict c d r point 0 0 false gap unmir).1.failed = min (l.length + 1) (2 ^ 32 - 1) ∧
      (reckonVerdict c d r point 0 0 false gap unmir).2 = Status.TQ_RECKFAIL)) ∧
  (∀ (asid : BitVec 16) (s : State), barOpen s = true →
    ((ctxAt s asid.toNat).bound = true → ctxaOk (getReg s .TLY_CTXA 0) = true → Completes (.tlyCtxWrite asid) s (fun t =>
      ctxAt t asid.toNat = { ctxAt s asid.toNat with reck := getReg s .TLY_CTXA 0 } ∧
      (∀ b, b ≠ asid.toNat → ctxAt t b = ctxAt s b) ∧ getF t F.TLY_CTXSTAT.ERR = 0 ∧ RegsBut [(.TLY_CTXSTAT, 0)] s t)) ∧
    ((ctxAt s asid.toNat).bound = true → ctxaOk (getReg s .TLY_CTXA 0) = false → Completes (.tlyCtxWrite asid) s (fun t =>
      t.xlt = s.xlt ∧ getF t F.TLY_CTXSTAT.ERR = 2)) ∧
    ((ctxAt s asid.toNat).bound = false → Completes (.tlyCtxWrite asid) s (fun t =>
      t.xlt = s.xlt ∧ getF t F.TLY_CTXSTAT.ERR = 1)) ∧
    ((ctxAt s asid.toNat).bound = true → Completes (.tlyCtxRead asid) s (fun t =>
      getReg t .TLY_CTXA 0 = (ctxAt s asid.toNat).reck ∧ getF t F.TLY_CTXSTAT.ERR = 0 ∧ OnlyRegs s t ∧
      RegsBut [(.TLY_CTXA, 0), (.TLY_CTXSTAT, 0)] s t)))

/-! ### The Harbour log and the steward -/

/-- R24, R25, R461, R462, R480, R499, R505, R506: an entry becomes durable in the Reef, the oldest place is reclaimed and what is
live there is appended again; a partner that has acknowledged everything makes the die mirrored, one that stops ends that; a
takeover is begun, and written while TK_EN allows. That a command not due changes nothing, and the readings of log entries 4, 77
and 78, are the model's choice. -/
def Obligations.JournalMirrorAndTakeover : Prop :=
  (∀ (s : State) (lsn : Nat), durable s lsn = true ↔ lsn < s.hbl.local_ ∧ (mirrored s = true → lsn < s.hbl.acked)) ∧
  (∀ s : State, frameRuns s = true → s.hbl.local_ < jHead s → s.tq.queues = [] →
    exec .journalLocalDurable s = .next { s with hbl := { s.hbl with local_ := s.hbl.local_ + 1 } }) ∧
  (∀ s : State, frameRuns s = true → s.hbl.oldest < jHead s →
    (mapFind s.hbl.own (s.hbl.oldest % areaSize) = none →
      exec .logReappend s = .next { s with hbl := { s.hbl with oldest := s.hbl.oldest + 1 } }) ∧
    (∀ e, mapFind s.hbl.own (s.hbl.oldest % areaSize) = some e → jLsn e = s.hbl.oldest → entryLive s e = true →
      Completes .logReappend s (fun t => t.hbl.oldest = s.hbl.oldest + 1 ∧ jHead t = (jHead s + 1) % 2 ^ 48))) ∧
  (∀ s : State, frameRuns s = true → getF s F.HBL_PARTNER.STATE = 2 → s.hbl.acked < s.hbl.goal → mirrored s = true → role s ≠ 3 →
    Completes .mirrorAckTimeout s (fun t => mirrored t = false ∧ flag t F.HBL_PARTNER.VALID = false ∧
      getF t F.HBL_PARTNER.STATE = 0 ∧ t.hbl = s.hbl)) ∧
  (∀ s : State, getF s F.HBL_PARTNER.STATE = 1 → s.hbl.goal ≤ s.hbl.acked →
    mirrored (mirrorReached s) = true ∧ getF (mirrorReached s) F.HBL_PARTNER.STATE = 2 ∧ (mirrorReached s).hbl = s.hbl) ∧
  (∀ (d : Die) (x : Takeover) (s : State), frameRuns s = true → s.hbl.tk.find? (fun t => t.die == d.val && !t.begun) = some x →
    flag s F.HBL_CTL.TK_EN = false →
    Completes (.takeover d) s (fun t =>
      t.hbl.tk = s.hbl.tk.map (fun u => if u = x then { x with begun := true, recs := slotRecords s x.slot d } else u) ∧
      getF t F.HBL_TAKEOVER.COUNT = min (getF s F.HBL_TAKEOVER.COUNT + 1) (2 ^ F.HBL_TAKEOVER.COUNT.width - 1) ∧
      RegsButAll (.HBL_TAKEOVER :: eventRegs) s t)) ∧
  (∀ (v : BitVec 16) (s : State), barOpen s = true → s.hbl.tk = [] → Completes (.hblTkhead v) s (fun t =>
    t.hbl.tkHead = consumed s.hbl.tkHead s.hbl.tkTail (tkSize s) (v.toNat % tkSize s) ∧ t.regs = s.regs)) ∧
  (∀ (on : Bool) (s : State), barOpen s = true → s.hbl.tk = [] → Completes (.hblTkEnable on) s (fun t =>
    flag t F.HBL_CTL.TK_EN = on ∧ OnlyRegs s t ∧ RegsBut [(.HBL_CTL, 0)] s t)) ∧
  (∀ (d : Die) (s : State), frameRuns s = true → exec (.collMemberLost d) s = .next (reportLinks (collLost d s)))

/-- R24, R69, R70, R494, R504, R508, R772, R821, R509, R764, R767: the lease's timers, the steward's beats, declarations and collection, the
discard of a decision whose epoch is below the highest seen, and of one that names a quarantined die partner or client; a link of a
quarantined, departed or withdrawn die carries only the messages of R772; a mirrored die that gets another partner has lost the one
it had. That a command not due changes nothing, and the readings of log entries 4, 77, 84
and 88, are the model's choice. -/
def Obligations.StewardAndLeaseTimers : Prop :=
  (∀ s : State, headRuns s = true → role s = 0 → flag s F.HLD_ROLE.SVALID = false →
    Completes .leaseListenEnd s (fun t => role t = 1 ∧ t.hld = { s.hld with claimWait := eligible s } ∧
      RegsBut [(.HLD_ROLE, 0)] s t)) ∧
  (∀ s : State, headRuns s = true → role s = 1 → s.hld.claimWait = false →
    Completes .leaseLapse s (fun t => role t = 1 ∧ flag t F.HLD_ROLE.SVALID = false ∧
      t.hld = { s.hld with claimWait := eligible s } ∧ RegsBut [(.HLD_ROLE, 0)] s t)) ∧
  (∀ s : State, headRuns s = true → role s = 1 → s.hld.claimWait = true → eligible s = true →
    Completes .leaseBackoffEnd s (fun t => role t = 2 ∧ getF t F.HLD_EPOCH.EPOCH = (getF s F.HLD_EPOCH.EPOCH + 1) % 2 ^ 32 ∧
      t.hld.holdEpoch = getF s F.HLD_EPOCH.EPOCH + 1 ∧ t.hld.rseq = 0 ∧ flag t F.HLD_ROLE.SVALID = false)) ∧
  (∀ s : State, headRuns s = true → role s = 2 →
    Completes .leaseQuietEnd s (fun t => role t = 3 ∧ getF t F.HLD_ROLE.STEWARD = ownDie s ∧ flag t F.HLD_ROLE.SVALID = true ∧
      t.hld.stew.ready = false ∧ t.hld.rseq = s.hld.rseq + 1)) ∧
  (∀ s : State, headRuns s = true → role s = 3 →
    Completes .leaseRenewTimer s (fun t => role t = 3 ∧ t.hld = { s.hld with rseq := s.hld.rseq + 1 })) ∧
  (∀ s : State, headRuns s = true → role s = 3 → present s (ownDie s) = true → s.hld.stew.notice.getLsbD (ownDie s) = false →
    Completes .memberBeat s (fun t => mapFind t.hld.stew.beats (ownDie s) = some s.time ∧ t.regs = s.regs)) ∧
  (∀ (d : Die) (s : State), acts s = true →
    (s.hld.stew.notice.getLsbD d = false → exec (.memberFailDeclare d) s = .next (stewFail d s) ∧
      exec (.graceExpiry d) s = .next s) ∧
    (s.hld.stew.notice.getLsbD d = true → exec (.graceExpiry d) s = .next (stewFail d s) ∧
      exec (.memberFailDeclare d) s = .next s) ∧
    (present s d.val = false → stewFail d s = s)) ∧
  (∀ (reports : List MemberReport) (s : State), headRuns s = true → role s = 3 → s.hld.stew.ready = false →
    exec (.stewardCollectDone reports) s = .next (collectDone reports s)) ∧
  (∀ (epoch act d x : Nat) (s : State),
    (epoch < max s.hbl.decEpoch (getF s F.HLD_EPOCH.EPOCH) →
      decisionTake epoch act d x s = post { code := Ev.HBL_STALEDEC, d0 := epoch } s) ∧
    (max s.hbl.decEpoch (getF s F.HLD_EPOCH.EPOCH) ≤ epoch →
      decisionTake epoch 8 d x s = { setMember d true s with hbl := { s.hbl with decEpoch := epoch } } ∧
      (mayMirror s d = false → ∀ act, act = 1 ∨ act = 2 →
        decisionTake epoch act d x s = { s with hbl := { s.hbl with decEpoch := epoch } }))) ∧
  (∀ (n : Nat) (m : TwyMsg) (s : State), (quarMsg m = true ↔ m.op = 0x12 ∧ (memberKind m = mkRoster ∨ memberKind m = mkEnrol ∨
      memberKind m = mkSpdm)) ∧
    (((getReg s .HLD_QUAR 0).getLsbD (getF s F.TWY_PEER.DIE n) = true ∨ flag s F.GLB_STATUS.LEFT = true ∨ role s = 4) →
      quarMsg m = false → linkCarries s m n = false ∧ mayPass s n m = false)) ∧
  (∀ (d : Nat) (s : State), ((getReg s .HLD_QUAR 0).getLsbD d = true ∨ flag s F.HLD_ROLE.QUAR = true ∨ role s = 4) →
    mayMirror s d = false) ∧
  (∀ (d : Nat) (s : State), mirrored s = true →
    ¬(flag s F.HBL_PARTNER.VALID = true ∧ getF s F.HBL_PARTNER.DIE = d ∧ getF s F.HBL_PARTNER.STATE ≠ 0) →
    ∀ u, u = setF F.HBL_PARTNER.DIE 0 d (setF F.HBL_PARTNER.VALID 0 1 (setF F.HBL_PARTNER.STATE 0 1 (mirrorLost s))) →
    (liveInOrder { u with hbl := { u.hbl with goal := 0, acked := 0 } } = [] →
      partnerAssign d s = mirrorReached { u with hbl := { u.hbl with goal := 0, acked := 0 } }))

/-! ### Messages between dies -/

/-- R577, R580, R583, R618, R682: the rows that serve messages take the oldest one meant out of its link's list, do with it what
the row says, and return its credits; one whose access must wait stays, and asks for the coves on its way to wake; a message for
another die is forwarded once. That a command not due changes nothing, and the
readings of log entries 4 and 77, are the model's choice. -/
def Obligations.MessagesAreServed : Prop :=
  (∀ (n : LinkId) (i : Instr) (g : State → Bool) (vc : Nat) (p : State → TwyMsg → Bool) (w : State → TwyMsg → Nat × Bool)
      (f : TwyMsg → State → State) (m : TwyMsg) (s : State), Served n i g vc p w f → g s = true →
    (Waiting s n vc p m → w s m = (0, false) → exec i s = .next (linkReturn n (f m (rxDrop n m s)))) ∧
    (Waiting s n vc p m → w s m ≠ (0, false) → exec i s = .next (askWake (w s m).1 s)) ∧
    (rxPick s n vc (fun m => m.dst == ownDie s && p s m) = none → exec i s = .next s)) ∧
  (∀ (n : LinkId) (m : TwyMsg) (s : State), headRuns s = true →
    Waiting s n 1 (fun _ m => m.op == 0x12 && memberKind m == mkRoster) m →
    (m.src = getF s F.HLD_ROLE.STEWARD → flag s F.HLD_ROLE.SVALID = true → exec (.rosterChangeReceive n) s = .next (linkReturn n
      (rosterStore (byteField m.body 1 1 % 32) (rosterRead ((m.data.headD (0, 0)).1)) (rxDrop n m s)))) ∧
    (flag s F.HLD_ROLE.SVALID = false → exec (.rosterChangeReceive n) s = .next (linkReturn n (rxDrop n m s)))) ∧
  (∀ (n : LinkId) (m : TwyMsg) (v : BitVec 2048) (s : State), headRuns s = true →
    Waiting s n 1 (fun _ m => m.op == 0x12 && memberKind m == mkEnrol) m → v = enrolBits (m.data.map (fun d => d.1)) →
    (role s = 3 → exec (.enrolForwardReceive n) s = .next (linkReturn n
      (if enrolOk v (rxDrop n m s) = true then enrolApply v (rxDrop n m s) else rxDrop n m s))) ∧
    (role s ≠ 3 → exec (.enrolForwardReceive n) s = .next (linkReturn n (rxDrop n m s)))) ∧
  (∀ (n : LinkId) (m : TwyMsg) (fleet : List FleetReport) (s : State), headRuns s = true →
    Waiting s n 1 (fun _ m => m.op == 0x12 && memberKind m == mkActivate) m → role s = 3 →
    exec (.activateForwardReceive n fleet) s
      = .next (linkReturn n (activateHere m.src (byteField m.body 1 1 == 1) fleet (rxDrop n m s)).2)) ∧
  (∀ (n : LinkId) (m : TwyMsg) (s : State), frameRuns s = true →
    [0, 1, 2, 3].findSome? (fun vc => rxPick s n vc (fun m => m.dst != ownDie s)) = some m →
    (m.hop = 0 → exec (.twyForward n) s
      = .next (linkReturn n (twySend { m with hop := 1, agent := 128 + m.src } (rxDrop n m s)))) ∧
    (m.hop ≠ 0 → exec (.twyForward n) s = .next (linkReturn n
      (post { code := Ev.TWY_BADMSG, inst := n, d1 := getF s F.TWY_PEER.DIE n } (rxDrop n m s))))) ∧
  (∀ (n : Nat) (m : TwyMsg) (s : State) (k : Nat),
    rxList (rxDrop n m s) n m.hop m.vc = (rxList s n m.hop m.vc).erase m ∧
    (k ≠ rxKey n m.hop m.vc → mapGet (rxDrop n m s).twy.rx k [] = mapGet s.twy.rx k []) ∧ (rxDrop n m s).regs = s.regs ∧
    mapGet (linkAt (rxDrop n m s) n).giveBack (hopVc m) 0
      = mapGet (linkAt s n).giveBack (hopVc m) 0 + (m.data.length + 1))

/-- R268-R271, R319, R482-R487: a put is applied at its receiver once. One of another pair epoch is refused, one already applied
is only acknowledged, one whose counter was refused is refused again, an access that is not admitted is answered XLT_REMOTE and
stores nothing; a put's data are acknowledged without effect on the window, its release marks it as applied and signals, unless
its counter is refused. What log entries 47, 69 and 79 say is the model's choice. -/
def Obligations.PutsAreAppliedOnce : Prop :=
  (∀ (n : Nat) (m : TwyMsg) (r : PutRx) (s0 s : State), r = (mapGet s.hbl.rxPairs m.src {}).reach m.seq →
    s0 = { s with hbl := { s.hbl with rxPairs := mapIns s.hbl.rxPairs m.src r } } →
    (m.epoch ≠ r.epoch → twyWrite n m s = twyAnswer m 5 Status.XLT_REMOTE false [] s) ∧
    (m.epoch = r.epoch → m.seq ∈ r.refused → putKind m = putFinal →
      twyWrite n m s = twyAnswer m 5 Status.TQ_RCNT false [] (bump F.HBL_DUPDROP.COUNT 0 s0)) ∧
    (m.epoch = r.epoch → (m.seq ∉ r.refused ∨ putKind m ≠ putFinal) → r.done m.seq = true →
      (twyWrite n m s).reef = s.reef ∧ (twyWrite n m s).mem = s.mem ∧ (twyWrite n m s).tq = s.tq ∧
        (twyWrite n m s).hbl.rxPairs = s0.hbl.rxPairs) ∧
    (m.epoch = r.epoch → (m.seq ∉ r.refused ∨ putKind m ≠ putFinal) → r.done m.seq = false →
      (∀ s1, inboundPlace m.src m.addr (64 * m.data.length) 2 (linkHalf n) s0 = (none, s1) →
        twyWrite n m s = inboundRefuse m s1 ∧ (twyWrite n m s).reef = s.reef ∧ (twyWrite n m s).mem = s.mem) ∧
      (∀ s1 p s2, inboundPlace m.src m.addr (64 * m.data.length) 2 (linkHalf n) s0 = (some p, s1) →
        writeSectors p m s1 = (0, s2) →
        (putKind m = putData → twyWrite n m s = twyAnswer m 4 0 false [] s2) ∧
        (putKind m = putFinal → rcntRefused s2 m = false → twyWrite n m s = twyAnswer m 4 0 false [] s2) ∧
        (putKind m = putFinal → rcntRefused s2 m = true →
          twyWrite n m s = twyAnswer m 5 Status.TQ_RCNT false [] (putSeen m true s2)) ∧
        (putKind m = putRelease → rcntRefused s2 m = false → twyWrite n m s = twyAnswer m 4 0 false []
          (if m.rsig then counterAdd m.rcnt 1 (putSeen m false s2) else putSeen m false s2)) ∧
        (putKind m = putRelease → rcntRefused s2 m = true →
          twyWrite n m s = twyAnswer m 5 Status.TQ_RCNT false [] (putSeen m true s2))))) ∧
  (∀ (m : TwyMsg) (bad : Bool) (s : State), (mapGet (putSeen m bad s).hbl.rxPairs m.src {}).done m.seq = true ∧
    (putSeen m bad s).tq = s.tq ∧ (∀ d, d ≠ m.src →
      mapGet (putSeen m bad s).hbl.rxPairs d {} = mapGet s.hbl.rxPairs d {})) ∧
  (∀ (r : PutRx) (psn : Nat), (psn ≤ r.low + 4096 → r.reach psn = r) ∧ psn ≤ (r.reach psn).low + 4096 ∧
    r.low ≤ (r.reach psn).low ∧ (r.reach psn).epoch = r.epoch) ∧
  (∀ (r : PutRx) (psn k : Nat), (r.mark psn).done psn = true ∧ (r.done k = true → (r.mark psn).done k = true) ∧
    (r.done k = false → k ≠ psn → (r.mark psn).done k = false)) ∧
  (∀ (s : State) (w off d len acc half : Nat), w < 64 → off < 2 ^ 40 →
    ((ctxAt s (0xFFC0 + w)).bound = false ∨ bitAt (getReg s .XLT_WINSRC w) d = false) →
    (inboundPlace d (0x400000000000 + w * 2 ^ 40 + off) len acc half s).1 = none)
/-! ### Tideway links -/

/-- R71, R570-R573, R592, R594, R605, R612, R625: bring-up. EN begins it, a lock sends the own block, the peer's block and its
authentication lead to the dwells, the best rate and width that they found make the link ACTIVE; a timeout, a mismatch, a command
or EN at 0 take it DOWN, and then it knows no peer; TEST runs at MAXRATE with a generator on every lane selected. TWY_UP shows the
links that are ACTIVE. That a command not due changes nothing, and the readings of log entries 4 and 87,
are the model's choice. -/
def Obligations.LinksComeUp : Prop :=
  (∀ (n : LinkId) (s : State), barOpen s = true →
    (flag s F.TWY_LINKCTL.EN n = true → exec (.twyLinkEnable n) s = .next s) ∧
    (flag s F.TWY_LINKCTL.EN n = false → linkState s n = 0 → twyClock s = true → Completes (.twyLinkEnable n) s (fun t =>
      flag t F.TWY_LINKCTL.EN n = true ∧ linkState t n = 1 ∧ (linkAt t n).off = false ∧
      (∀ m, m ≠ n.val → linkAt t m = linkAt s m) ∧
      RegsBut [(.TWY_LINKCTL, n), (.TWY_STATUS, n), (.TWY_UP, 0)] s t)) ∧
    (linkState s n ≠ 4 → linkState s n ≠ 5 → QuarSettled s n (getF s F.TWY_PEER.DIE n) →
      Completes (.twyLinkDisable n) s (fun t => flag t F.TWY_LINKCTL.EN n = false ∧ linkState t n = 0 ∧
        flag t F.TWY_PEER.VALID n = false ∧ (linkAt t n).off = true ∧ (∀ m, m ≠ n.val → linkAt t m = linkAt s m)) ∧
      Completes (.twyCmdDown n) s (fun t => linkState t n = 0 ∧ flag t F.TWY_PEER.VALID n = false ∧ (linkAt t n).off = true ∧
        RegsBut [(.TWY_STATUS, n), (.TWY_LANEST, n), (.TWY_LANEMAP, n), (.TWY_UP, 0), (.TWY_PEER, n)] s t)) ∧
    exec (.twyLinkDisable n) s = .next (linkDown n true (setF F.TWY_LINKCTL.EN n 0 s)) ∧
    exec (.twyCmdDown n) s = .next (linkDown n true s)) ∧
  (∀ (n : LinkId) (farOk : Bool) (s : State), barOpen s = true → twyClock s = true →
    (¬(getF s F.TWY_TEST.LOOP n = 3 ∧ farOk = false) → Completes (.twyCmdTest n farOk) s (fun t => linkState t n = 6 ∧
      getF t F.TWY_STATUS.RATE n = getF s F.TWY_LINKCTL.MAXRATE n ∧ (getReg t .TWY_UP 0).getLsbD n = false ∧
      (prbsTaps (getF s F.TWY_TEST.PRBS n) = none → (linkAt t n).gens = []) ∧
      (∀ taps, prbsTaps (getF s F.TWY_TEST.PRBS n) = some taps → ∀ k ∈ testLanes s n,
        ∃ g, mapFind (linkAt t n).gens k = some g ∧ g.toNat % 2 ^ taps.1 ≠ 0))) ∧
    (linkState s n ≠ 4 → linkState s n ≠ 5 → QuarSettled s n (getF s F.TWY_PEER.DIE n) → getF s F.TWY_TEST.LOOP n = 3 →
      farOk = false → Completes (.twyCmdTest n farOk) s (fun t => linkState t n = 0)) ∧
    (linkState s n = 6 → Completes (.twyCmdTestend n) s (fun t => linkState t n = 0 ∧ getF t F.TWY_STATUS.RATE n = 0 ∧
      OnlyRegs s t ∧ RegsBut [(.TWY_STATUS, n), (.TWY_UP, 0)] s t))) ∧
  (∀ (n : LinkId) (s : State), clocksRun s = true → twyClock s = true →
    (linkState s n = 0 → flag s F.TWY_LINKCTL.EN n = true → (linkAt s n).off = false → Completes (.twyHoldExpiry n) s (fun t =>
      linkState t n = 1 ∧ OnlyRegs s t ∧ RegsBut [(.TWY_STATUS, n), (.TWY_UP, 0)] s t)) ∧
    (linkState s n = 1 → Completes (.twyBlockLock n) s (fun t => linkState t n = 2 ∧ (linkAt t n).tried = true ∧
      t.out = s.out ++ [.twyConfig n (ownDie s) (getF s F.TWY_LINKCTL.MODE n) (getF s F.TWY_LINKCTL.ENC n)
        (getF s F.TWY_LINKCTL.MAXRATE n)] ∧ RegsBut [(.TWY_STATUS, n), (.TWY_UP, 0)] s t)) ∧
    (linkState s n = 1 → Completes (.twyDetectTimeout n) s (fun t => linkState t n = 0 ∧ (linkAt t n).tried = true ∧
      ((linkAt s n).tried = true → RegsBut [(.TWY_STATUS, n), (.TWY_UP, 0)] s t))) ∧
    (linkState s n = 2 → QuarSettled s n (getF s F.TWY_PEER.DIE n) → Completes (.twyConfigTimeout n) s (fun t =>
      linkState t n = 0 ∧ flag t F.TWY_PEER.VALID n = false ∧
      getReg t .TWY_LANEST n = regReset .TWY_LANEST n ∧ getReg t .TWY_LANEMAP n = regReset .TWY_LANEMAP n ∧
      RegsButAll (.TWY_STATUS :: .TWY_UP :: .TWY_LANEST :: .TWY_LANEMAP :: .TWY_PEER :: eventRegs) s t))) ∧
  (∀ (n : LinkId) (die : Die) (link : Fin 32) (mode enc : Bool) (maxRate : Fin 8) (version : BitVec 8) (auth : Bool)
      (h : BitVec 384) (s : State), twyClock s = true → linkState s n = 2 →
    (mode ≠ flag s F.TWY_LINKCTL.MODE n ∨ enc ≠ flag s F.TWY_LINKCTL.ENC n ∨ version ≠ 1 ∨ auth = false →
      QuarSettled s n die → Completes (.twyConfigReceive n die link mode enc maxRate version auth h) s (fun t =>
        linkState t n = 0 ∧
        getF t F.TWY_PEER.DIE n = die ∧ getF t F.TWY_PEER.LINK n = link ∧ flag t F.TWY_PEER.VALID n = false)) ∧
    (mode = flag s F.TWY_LINKCTL.MODE n → enc = flag s F.TWY_LINKCTL.ENC n → version = 1 → auth = true →
      Completes (.twyConfigReceive n die link mode enc maxRate version auth h) s (fun t => linkState t n = 3 ∧
        (linkAt t n).step = 0 ∧ (linkAt t n).passed = []))) ∧
  (∀ (n : LinkId) (lanes : BitVec 9) (s : State), twyClock s = true → linkState s n = 3 →
    ((linkAt s n).step < (linkAt s n).top → exec (.twyDwellDone n lanes) s = .next (setLink n
      { linkAt s n with passed := mapSet (linkAt s n).passed (linkAt s n).step 0 lanes
                        step := (linkAt s n).step + 1 } s)) ∧
    (∀ l, l = { linkAt s n with passed := mapSet (linkAt s n).passed (linkAt s n).step 0 lanes } → l.top ≤ l.step →
      (bringUp (flag s F.TWY_LINKCTL.EBB_ALLOW n) l = none → Completes (.twyDwellDone n lanes) s (fun t => linkState t n = 0)) ∧
      (∀ r w, bringUp (flag s F.TWY_LINKCTL.EBB_ALLOW n) l = some (r, w) →
        exec (.twyDwellDone n lanes) s = .next (linkActivate n r w (setLink n l s))))) ∧
  (∀ (ebb : Bool) (l : TwyLink) (r w : Nat), bringUp ebb l = some (r, w) →
    r ≤ l.top ∧ widthLanes w ≤ (passedAt l r).length ∧
    ((w = 0 ∧ (∀ q, r < q → q ≤ l.top → (passedAt l q).length < 8)) ∨
      (ebb = true ∧ 1 ≤ w ∧ w ≤ 3 ∧ ∀ q, q ≤ l.top → (passedAt l q).length < 8 ∧ (r < q → passedAt l q = [])))) ∧
  (∀ (n : LinkId) (v : Nat) (s : State), v < 8 → linkState (setLinkState n v s) n = v ∧
    (getReg (setLinkState n v s) .TWY_UP 0).getLsbD n = (v == 4) ∧
    (∀ m : LinkId, m ≠ n → linkState (setLinkState n v s) m = linkState s m ∧
      (getReg (setLinkState n v s) .TWY_UP 0).getLsbD m = (getReg s .TWY_UP 0).getLsbD m))

/-- R583, R584, R591, R592, R596, R599, R605, R607, R610: pauses, weak lanes and the loops. A link pauses for a retrain, a lost signal, a rate
or a width and is ACTIVE again when both ends are done; a spare takes a weak lane's place, which is retired; RESTORE trains a
retired lane; a trial of a higher rate is given up where the down condition holds; a window under TEST counts the bit errors that
a lane's checker finds, and a checker finds none in its pattern. That a command not due changes nothing, and the readings of log
entries 4, 86, 87 and 119, are the model's choice. -/
def Obligations.LinksPauseAndSwapLanes : Prop :=
  (∀ (n : LinkId) (s : State), twyClock s = true → linkState s n = 4 →
    (barOpen s = true → Completes (.twyCmdRetrain n) s (fun t => linkState t n = 5 ∧ (getReg t .TWY_UP 0).getLsbD n = false ∧
      linkAt t n = { linkAt s n with pause := some .retrain, pauseAt := s.time, want := 0 } ∧
      getF t F.TWY_CHANGES.PAUSES n = min (getF s F.TWY_CHANGES.PAUSES n + 1) (2 ^ F.TWY_CHANGES.PAUSES.width - 1) ∧
      RegsButAll (.TWY_STATUS :: .TWY_UP :: .TWY_CHANGES :: eventRegs) s t)) ∧
    Completes (.twyLosTimeout n) s (fun t => linkState t n = 5 ∧
      linkAt t n = { linkAt s n with pause := some .loss, pauseAt := s.time, want := 0 } ∧
      RegsButAll (.TWY_STATUS :: .TWY_UP :: .TWY_CHANGES :: eventRegs) s t)) ∧
  (∀ (n : LinkId) (s : State), twyClock s = true → linkState s n = 5 →
    exec (.twyPauseTimeout n) s = .next (linkDown n false s) ∧
    (∀ p, (linkAt s n).pause = some p → p = .loss ∨ p = .retrain → (linkAt s n).txq = [] → (linkAt s n).acting = none →
      (linkAt s n).training = none → (linkAt s n).weak = [] → (linkAt s n).restoring = [] →
      Completes (.twyPauseDone n) s (fun t => linkState t n = 4 ∧ (getReg t .TWY_UP 0).getLsbD n = true ∧
        linkAt t n = { linkAt s n with pause := none, resends := 0, nakSent := false } ∧
        RegsButAll (.TWY_STATUS :: .TWY_UP :: eventRegs) s t))) ∧
  (∀ (n : LinkId) (want : Nat) (s : State), want < 8 →
    getF (pauseEffect n .rate want s) F.TWY_STATUS.RATE n = want ∧
    (linkAt (pauseEffect n .rate want s) n).trial = decide (getF s F.TWY_STATUS.RATE n < want) ∧
    pauseEffect n .loss want s = s ∧ pauseEffect n .retrain want s = s) ∧
  (∀ (n : LinkId) (s : State), twyClock s = true → barOpen s = true → linkState s n = 4 → (linkAt s n).acting = none →
    (linkAt s n).training = none → (linkAt s n).weak = [] →
    (∀ k ks, lanesIn s n 2 = k :: ks → Completes (.twyCmdRestore n) s (fun t => laneSt t n k = 3 ∧
      (linkAt t n).training = some k ∧ (linkAt t n).restoring = k :: ks ∧
      (∀ j, j < 9 → j ≠ k → laneSt t n j = laneSt s n j))) ∧
    (lanesIn s n 2 = [] → exec (.twyCmdRestore n) s = .next (widenNow n (setLink n { linkAt s n with restoring := [] } s)))) ∧
  (∀ (n : LinkId) (w k : Nat) (s : State), twyClock s = true → linkState s n = 4 → (linkAt s n).training = some k → w < 9 → k < 9 →
    ((linkAt s n).acting = some w → 256 ≤ (linkAt s n).replay.length → Completes (.twySpareTrainDone n true) s (fun t =>
      linkAt t n = { linkAt s n with swapping := some k, training := none } ∧ t.regs = s.regs)) ∧
    ((linkAt s n).acting = some w → exec (.twySpareTrainDone n false) s = .next (ebbOrDown n w
      (twyEvent n Ev.TWY_SPAREFAIL k 0 0 (setLaneSt n k 2 (setLink n { linkAt s n with training := none } s))))) ∧
    ((linkAt s n).acting = none → (linkAt s n).weak = [] → ∀ j js, (linkAt s n).restoring = [k, j] ++ js → j ≠ k → j < 9 →
      (∀ x ∈ js, x ≠ k) →
      Completes (.twySpareTrainDone n true) s (fun t => laneSt t n k = 1 ∧ laneSt t n j = 3 ∧
        (linkAt t n).training = some j))) ∧
  (∀ (n : LinkId) (w k i : Nat) (s : State), twyClock s = true → linkState s n = 4 → (linkAt s n).acting = some w →
    (linkAt s n).swapping = some k → (linkAt s n).training = none → (linkAt s n).weak = [] → (linkAt s n).restoring = [] →
    w < 9 → k < 9 → w ≠ k → i < 8 → laneMap s n i = w → (∀ j, j < i → laneMap s n j ≠ w) →
    Completes (.twySwapDone n) s (fun t => laneSt t n w = 2 ∧ laneSt t n k = 0 ∧ laneMap t n i = k ∧
      (∀ j, j < 8 → j ≠ i → laneMap t n j = laneMap s n j) ∧
      (linkAt t n).acting = none ∧ (linkAt t n).swapping = none ∧
      getF t F.TWY_CHANGES.SWAPS n = min (getF s F.TWY_CHANGES.SWAPS n + 1) (2 ^ F.TWY_CHANGES.SWAPS.width - 1))) ∧
  (∀ (n : LinkId) (s : State), twyClock s = true → linkState s n = 4 → ∀ down,
    down = decide (3 ≤ ((lanesIn s n 0).filter (fun a => decide (getF s F.TWY_RATETH.DN < laneBer s n a))).length) →
    ((linkAt s n).trial = false → exec (.twyRateTrialEnd n) s = .next s) ∧
    ((linkAt s n).trial = true → down = false →
      exec (.twyRateTrialEnd n) s = .next (setLink n { linkAt s n with trial := false } s)) ∧
    ((linkAt s n).trial = true → down = true → Completes (.twyRateTrialEnd n) s (fun t => linkState t n = 5 ∧
      (linkAt t n).pause = some .rate ∧ (linkAt t n).want = getF s F.TWY_STATUS.RATE n - 1 ∧ (linkAt t n).trial = false))) ∧
  (∀ (n : LinkId) (load : BitVec 16) (s : State), twyClock s = true → linkState s n = 4 →
    (2 * load.toNat ≤ getF s F.TWY_STATUS.P n → exec (.twyWidthWindow n false load) s = .next s) ∧
    (getF s F.TWY_STATUS.P n ≤ 10 * load.toNat → exec (.twyWidthWindow n true load) s = .next (clampEnd 2 n s)) ∧
    (∀ v, 10 * load.toNat < getF s F.TWY_STATUS.P n → clampOf s 2 n = none →
      getF s F.TWY_LINKCTL.WMIN n = 3 →
      [3, 2, 1].find? (fun v => decide (4 * load.toNat ≤ twyP (getF s F.TWY_STATUS.RATE n) v)
        && decide (getF s F.TWY_STATUS.WIDTH n < v)) = some v →
      Completes (.twyWidthWindow n true load) s (fun t => linkState t n = 5 ∧ (linkAt t n).pause = some .narrow ∧
        (linkAt t n).want = v))) ∧
  (∀ (n : LinkId) (rates : List (BitVec 16)) (seen : List LaneSeen) (s : State), twyClock s = true → linkState s n = 4 →
    exec (.twyBerWindow n rates seen) s
      = .next (rateLoop n (lanesNext n (findWeak n (publishLanes n rates seen s)))) ∧
    (∀ l, l < 9 → laneBer (publishLanes n rates seen s) n l = (rates.getD l 0).toNat ∧
      getF (publishLanes n rates seen s) F.TWY_LANEERR.COUNT (9 * n + l)
        = min (getF s F.TWY_LANEERR.COUNT (9 * n + l) + (seen.getD l {}).errs.toNat) (2 ^ F.TWY_LANEERR.COUNT.width - 1))) ∧
  (∀ (n : LinkId) (rates : List (BitVec 16)) (seen : List LaneSeen) (s : State), twyClock s = true → linkState s n = 6 →
    (prbsTaps (getF s F.TWY_TEST.PRBS n) = none → exec (.twyBerWindow n rates seen) s = .next s) ∧
    (∀ taps, prbsTaps (getF s F.TWY_TEST.PRBS n) = some taps → Completes (.twyBerWindow n rates seen) s (fun t =>
      ∀ k ∈ testLanes s n, ∀ c, c = prbsCheck taps (mapGet (linkAt s n).chks k {}) (seen.getD k {}).bits →
        mapGet (linkAt t n).chks k {} = c ∧ getF t F.TWY_LANEERR.COUNT (9 * n + k)
          = min (getF s F.TWY_LANEERR.COUNT (9 * n + k) + (c.errs - (mapGet (linkAt s n).chks k {}).errs))
              (2 ^ F.TWY_LANEERR.COUNT.width - 1)))) ∧
  (∀ (kind : Nat) (taps : Nat × Nat) (r : BitVec 31) (m : Nat), prbsTaps kind = some taps → r.toNat % 2 ^ taps.1 ≠ 0 →
    (prbsCheck taps {} (prbsRun taps m r).1).errs = 0) ∧
  (∀ (n : LinkId) (s : State), twyClock s = true → linkState s n = 4 →
    ((linkAt s n).errWin ≤ getF s F.TWY_CTL.ILIM →
      exec (.twyErrorWindow n) s = .next (setLink n { linkAt s n with errWin := 0, authWin := 0 } s)) ∧
    (∀ k ks, getF s F.TWY_CTL.ILIM < (linkAt s n).errWin → (byBer s n (lanesIn s n 0)).reverse = k :: ks →
      exec (.twyErrorWindow n) s
        = .next (lanesNext n (laneWeak n k (setLink n { linkAt s n with errWin := 0, authWin := 0 } s)))))

/-- R564, R575-R591: frames on a link. A damaged one is counted and discarded, and a replay asked for; the expected one gives its
credits, its acknowledgement and its slots; header and data slots make messages up; the replay buffer is sent again, and the
eighth time begins a pause; a key update draws a new key for one direction. What log entries 45, 46 and 87 say is the model's
choice. -/
def Obligations.LinkFrames : Prop :=
  (∀ (n : LinkId) (fr : BitVec 2048) (s : State), twyClock s = true → linkState s n = 4 → (linkAt s n).nakSent = true →
    Completes (.twyFrameReceive n fr true 0) s (fun t =>
      getF t F.TWY_UNCORR.COUNT n = min (getF s F.TWY_UNCORR.COUNT n + 1) (2 ^ F.TWY_UNCORR.COUNT.width - 1) ∧
      linkAt t n = { linkAt s n with errWin := (linkAt s n).errWin + 1 } ∧ t.out = s.out ∧ t.twy.rx = s.twy.rx ∧
      RegsBut [(.TWY_UNCORR, n)] s t) ∧
    (byteField fr 252 4 ≠ (crc32c (byteSlice fr 0 252)).toNat → Completes (.twyFrameReceive n fr false 0) s (fun t =>
      getF t F.TWY_CRCERR.COUNT n = min (getF s F.TWY_CRCERR.COUNT n + 1) (2 ^ F.TWY_CRCERR.COUNT.width - 1) ∧
      linkAt t n = { linkAt s n with errWin := (linkAt s n).errWin + 1 } ∧ t.out = s.out ∧ t.twy.rx = s.twy.rx ∧
      RegsBut [(.TWY_CRCERR, n)] s t)) ∧
    (∀ clear, byteField fr 252 4 = (crc32c (byteSlice fr 0 252)).toNat → openFrame s n fr = some clear →
      byteField fr 0 8 = ((linkAt s n).rxNext + 1) % 2 ^ 64 → exec (.twyFrameReceive n fr false 0) s = .next s)) ∧
  (∀ (n : LinkId) (fr clear : BitVec 2048) (s u : State), twyClock s = true → linkState s n = 4 →
    byteField fr 252 4 = (crc32c (byteSlice fr 0 252)).toNat → openFrame s n fr = some clear →
    byteField fr 0 8 = (linkAt s n).rxNext % 2 ^ 64 →
    u = twyAckNak n fr (setLink n
      { twyCredits fr (linkAt s n) with rxNext := (linkAt s n).rxNext + 1, nakSent := false } s) →
    exec (.twyFrameReceive n fr false 0) s = .next
      (if (frameSlots n clear u).out.length = u.out.length then twyNull n false (frameSlots n clear u)
        else frameSlots n clear u)) ∧
  (∀ (n : LinkId) (b : BitVec 544) (s : State),
    (twyHeaderOk b = true → byteField b 2 1 = 0 → mayPass s n (readHeader b) = true →
      rxList (takeTwySlot n 1 b s) n (readHeader b).hop (readHeader b).vc
        = rxList s n (readHeader b).hop (readHeader b).vc ++ [readHeader b]) ∧
    (twyHeaderOk b = true → byteField b 2 1 ≠ 0 → (readHeader b).vc ≠ 0 →
      (linkAt (takeTwySlot n 1 b s) n).rx = some { msg := readHeader b, need := byteField b 2 1 } ∧
      (takeTwySlot n 1 b s).twy.rx = s.twy.rx) ∧
    (∀ r, (linkAt s n).rxUrg = none → (linkAt s n).rx = some r →
      (r.need = 1 → mayPass s n { r.msg with data := r.msg.data ++ [(b.extractLsb' 0 512, b.extractLsb' 512 32)] } = true →
        rxList (takeTwySlot n 2 b s) n r.msg.hop r.msg.vc = rxList s n r.msg.hop r.msg.vc
          ++ [{ r.msg with data := r.msg.data ++ [(b.extractLsb' 0 512, b.extractLsb' 512 32)] }] ∧
        (linkAt (takeTwySlot n 2 b s) n).rx = none) ∧
      (2 ≤ r.need → (linkAt (takeTwySlot n 2 b s) n).rx = some
          { msg := { r.msg with data := r.msg.data ++ [(b.extractLsb' 0 512, b.extractLsb' 512 32)] }, need := r.need - 1 } ∧
        (takeTwySlot n 2 b s).twy.rx = s.twy.rx))) ∧
  (∀ (n : LinkId) (s : State), twyClock s = true → linkState s n = 4 →
    ((linkAt s n).replay = [] → exec (.twyReplayTimeout n) s = .next s) ∧
    ((linkAt s n).replay ≠ [] → (linkAt s n).resends < 7 → Completes (.twyReplayTimeout n) s (fun t =>
      t.out = s.out ++ (linkAt s n).replay.map (fun f => Out.twyFrame n f.2) ∧
      linkAt t n = { linkAt s n with resends := (linkAt s n).resends + 1 } ∧ linkState t n = 4 ∧
      getF t F.TWY_REPLAY.COUNT n = min (getF s F.TWY_REPLAY.COUNT n + 1) (2 ^ F.TWY_REPLAY.COUNT.width - 1) ∧
      RegsBut [(.TWY_REPLAY, n)] s t)) ∧
    ((linkAt s n).replay ≠ [] → 7 ≤ (linkAt s n).resends → Completes (.twyReplayTimeout n) s (fun t =>
      linkState t n = 5 ∧ (linkAt t n).pause = some .loss))) ∧
  (∀ (n : LinkId) (k : BitVec 256) (s s1 : State), twyClock s = true → (linkState s n = 4 ∨ linkState s n = 5) →
    flag s F.TWY_STATUS.ENC n = true → draw 256 s = (k, s1) →
    exec (.twyKeyUpdate n true) s = .next (setLink n { linkAt s n with
      txKey := k, txEpoch := ((linkAt s n).txEpoch + 1) % 256, txFirst := (linkAt s n).fseq } s1) ∧
    exec (.twyKeyUpdate n false) s = .next (setLink n { linkAt s n with
      rxPrev := (linkAt s n).rxKey, rxKey := k, rxEpoch := ((linkAt s n).rxEpoch + 1) % 256 } s1)) ∧
  (∀ (n a : Nat) (s : State), (∀ f ∈ (linkAt s n).replay, fseqBits f.1 ≠ a) → twyAcked n a s = s)
/-! ### Shoreline ports -/

/-- R513, R530-R535, R546, R556, R557: a port's life. EN takes it from DOWN to training, a trained link sends the capability
block, negotiation ends ACTIVE with the best that both sides offer or FAILED; a retrain ends at the rate and modules found, never
above those in use; a link that is lost, or a retrain without end, is FAILED and drops what it had open. That a command not due
changes nothing, and the readings of log entries 4 and 76, are the model's choice. -/
def Obligations.PortsComeUp : Prop :=
  (∀ (p : PortId) (s : State), barOpen s = true →
    (flag s F.SHL_PCTL.EN p = false → portState s p = 0 → clocksRun s = true → Completes (.shlPortEnable p) s (fun t =>
      flag t F.SHL_PCTL.EN p = true ∧ portState t p = 1 ∧ portAt t p = (portAt s p).dropped ∧
      (∀ q, q ≠ p.val → portAt t q = portAt s q) ∧ RegsBut [(.SHL_PCTL, p), (.SHL_PSTAT, p)] s t)) ∧
    (flag s F.SHL_PCTL.EN p = true → Completes (.shlPortEnable p) s (fun t =>
      flag t F.SHL_PCTL.EN p = true ∧ portState t p = portState s p ∧ t.shl = s.shl)) ∧
    (portState s p = 5 → Completes (.shlPortDisable p) s (fun t => flag t F.SHL_PCTL.EN p = false ∧ portState t p = 0 ∧
      portAt t p = (portAt s p).dropped ∧ RegsBut [(.SHL_PCTL, p), (.SHL_PSTAT, p)] s t)) ∧
    (portState s p ≠ 5 → Completes (.shlPortDisable p) s (fun t => flag t F.SHL_PCTL.EN p = false ∧
      portState t p = portState s p ∧ t.shl = s.shl ∧ RegsBut [(.SHL_PCTL, p)] s t))) ∧
  (∀ (p : PortId) (rate : Fin 6) (mods : Fin 16) (s : State), clocksRun s = true →
    (portState s p = 1 → mods.val ≠ 0 → Completes (.shlLinkUp p rate mods) s (fun t => portState t p = 2 ∧
      portAt t p = { portAt s p with train := (mods.val, rate.val) } ∧
      t.out = s.out ++ [.shlCap p (ownCap (portAt s p).fresh)] ∧ RegsBut [(.SHL_PSTAT, p)] s t)) ∧
    (portState s p = 1 → Completes (.shlTrainTimeout p) s (fun t => portState t p = 0 ∧ t.shl = s.shl ∧
      RegsButAll (.SHL_PSTAT :: eventRegs) s t)) ∧
    (portState s p = 2 → Completes (.shlNegotiateTimeout p) s (fun t => portState t p = 5 ∧ t.shl = s.shl ∧
      RegsButAll (.SHL_PSTAT :: eventRegs) s t)) ∧
    (portState s p = 4 → widest mods.val = none → exec (.shlRetrainDone p rate mods) s = .next s) ∧
    (∀ w, portState s p = 4 → widest mods.val = some w → (portAt s p).txq = [] →
      rate.val ≤ getF s F.SHL_PSTAT.RATE p → Completes (.shlRetrainDone p rate mods) s (fun t => portState t p = 3 ∧
        getF t F.SHL_PSTAT.RATE p = rate ∧ getF t F.SHL_PSTAT.MODS p = min (getF s F.SHL_PSTAT.MODS p) w ∧
        portAt t p = { portAt s p with resends := 0, replaysMs := 0, nakSent := false } ∧
        (rate.val = getF s F.SHL_PSTAT.RATE p → getF s F.SHL_PSTAT.MODS p ≤ w →
          t.out = s.out ++ (portAt s p).replay.map (fun f => Out.shlFrame p f.2)))) ∧
    (portState s p = 3 → s.tq.queues = [] → Completes (.shlLinkDown p) s (fun t => portState t p = 5 ∧
      portAt t p = { portAt s p with open_ := [], txq := [], replay := [], rx := [], watches := [], fences := [] } ∧
      RegsButAll (.SHL_PSTAT :: eventRegs) s t)) ∧
    (portState s p = 4 → s.tq.queues = [] → Completes (.shlRetrainTimeout p) s (fun t => portState t p = 5 ∧
      portAt t p = { portAt s p with open_ := [], txq := [], replay := [], rx := [], watches := [], fences := [] } ∧
      RegsButAll (.SHL_PSTAT :: eventRegs) s t))) ∧
  (∀ (p : PortId) (blk : BitVec 256) (s : State), clocksRun s = true → portState s p = 2 →
    (capModules s p (byteField blk 6 1) (portAt s p).train.1 = none ∨ byteField blk 4 1 ≠ 1 ∨ byteField blk 12 1 < 2 ∨
        byteField blk 13 1 < 4 ∨ byteField blk 14 2 < 48 →
      Completes (.shlCapabilityReceive p blk) s (fun t => portState t p = 5 ∧ t.shl = s.shl ∧
        (∀ j, j < 8 → getReg t .SHL_CAP (8 * p + j) = blk.extractLsb' (32 * j) 32) ∧
        RegsButAll (.SHL_CAP :: .SHL_PSTAT :: eventRegs) s t)) ∧
    (∀ m, capModules s p (byteField blk 6 1) (portAt s p).train.1 = some m → byteField blk 4 1 = 1 → 2 ≤ byteField blk 12 1 →
      4 ≤ byteField blk 13 1 → 48 ≤ byteField blk 14 2 →
      Completes (.shlCapabilityReceive p blk) s (fun t => portState t p = 3 ∧ getF t F.SHL_PSTAT.MODS p = m ∧
        getF t F.SHL_PSTAT.RATE p
          = min (min (byteField blk 7 1) 5) (min (getF s F.SHL_PCTL.MAXRATE p) (portAt s p).train.2) ∧
        getF t F.SHL_PSTAT.URGENT p = byteField blk 8 1 % 2 ∧ getF t F.SHL_PSTAT.TALLY p = byteField blk 8 1 / 2 % 2 ∧
        getF t F.SHL_PSTAT.TELEM p = byteField blk 8 1 / 4 % 2 ∧
        mapGet (portAt t p).credit 0 0 = byteField blk 12 1 ∧ mapGet (portAt t p).credit 1 0 = byteField blk 13 1 ∧
        mapGet (portAt t p).credit 3 0 = byteField blk 14 2 ∧ (portAt t p).fresh = false ∧
        (portAt t p).cseq = (if (portAt s p).fresh ∨ byteField blk 8 1 / 8 % 2 = 1 then 0 else (portAt s p).cseq) ∧
        (∀ j, j < 8 → getReg t .SHL_CAP (8 * p + j) = blk.extractLsb' (32 * j) 32) ∧
        RegsButAll [.SHL_CAP, .SHL_PSTAT] s t))) ∧
  (∀ mask, mask < 16 → (widest mask = none ↔ mask = 0) ∧ (widest mask = some 2 ↔ mask = 15))

/-- R515-R530: frames of a port. A damaged one is counted and a replay asked for, one received before changes nothing but what it
acknowledges, the expected one gives its credits and its slots; a slot that passes waits for its service in order of arrival, one
that does not is noted and its credit returned; the replay buffer is sent again, and the eighth time begins a retrain. What log
entries 45 and 76 say is the model's choice. -/
def Obligations.PortFrames : Prop :=
  (∀ (p : PortId) (fr : BitVec 2048) (s : State), clocksRun s = true → portState s p = 3 →
    (byteField fr 252 4 ≠ (crc32c (byteSlice fr 0 252)).toNat → (portAt s p).nakSent = true →
      Completes (.shlFrameReceive p fr) s (fun t =>
        getF t F.SHL_CRCERR.COUNT p = min (getF s F.SHL_CRCERR.COUNT p + 1) (2 ^ F.SHL_CRCERR.COUNT.width - 1) ∧
        t.shl = s.shl ∧ t.out = s.out ∧ RegsBut [(.SHL_CRCERR, p)] s t)) ∧
    (byteField fr 252 4 = (crc32c (byteSlice fr 0 252)).toNat → frFseq fr = ((portAt s p).rxNext + 1) % 65536 →
      (portAt s p).nakSent = true → exec (.shlFrameReceive p fr) s = .next s) ∧
    (∀ u v, byteField fr 252 4 = (crc32c (byteSlice fr 0 252)).toNat → frFseq fr = (portAt s p).rxNext % 65536 →
      u = shlAckNak p fr (setPort p
        { shlCredits fr (portAt s p) with rxNext := (portAt s p).rxNext + 1, nakSent := false } s) →
      v = shlTakeSlot p (frSlot fr 2) (shlTakeSlot p (frSlot fr 1) (shlTakeSlot p (frSlot fr 0) u)) →
      exec (.shlFrameReceive p fr) s = .next (if v.out.length = u.out.length then shlNull p false v else v))) ∧
  (∀ (p : PortId) (b : BitVec 640) (s : State),
    (slotNull b = true → shlTakeSlot p b s = s) ∧
    (slotNull b = false → slotOk (flag s F.SHL_PSTAT.URGENT p) b = true →
      mapGet (portAt (shlTakeSlot p b s) p).rx (slotVc b) []
        = mapGet (portAt s p).rx (slotVc b) [] ++ [((portAt s p).rxSeq, b)] ∧
      (∀ v, v ≠ slotVc b → mapGet (portAt (shlTakeSlot p b s) p).rx v [] = mapGet (portAt s p).rx v []) ∧
      (portAt (shlTakeSlot p b s) p).rxSeq = (portAt s p).rxSeq + 1 ∧ (shlTakeSlot p b s).regs = s.regs) ∧
    (slotNull b = false → slotOk (flag s F.SHL_PSTAT.URGENT p) b = false → slotVc b ≠ 2 →
      (portAt (shlTakeSlot p b s) p).rx = (portAt s p).rx ∧
      mapGet (portAt (shlTakeSlot p b s) p).giveBack (slotVc b) 0 = mapGet (portAt s p).giveBack (slotVc b) 0 + 1 ∧
      RegsButAll eventRegs s (shlTakeSlot p b s))) ∧
  (∀ (p : PortId) (n : Nat) (s : State), clocksRun s = true → portState s p = 3 →
    n = (if 25000 ≤ s.time - (portAt s p).replayAt then 1 else (portAt s p).replaysMs + 1) →
    ((portAt s p).replay = [] → exec (.shlReplayTimeout p) s = .next s) ∧
    ((portAt s p).replay ≠ [] → Completes (.shlReplayTimeout p) s (fun t =>
      t.out = s.out ++ (portAt s p).replay.map (fun f => Out.shlFrame p f.2) ∧
      getF t F.SHL_REPLAY.COUNT p = min (getF s F.SHL_REPLAY.COUNT p + 1) (2 ^ F.SHL_REPLAY.COUNT.width - 1) ∧
      (portAt t p).resends = (portAt s p).resends + 1 ∧ (portAt t p).replaysMs = n ∧
      (7 ≤ (portAt s p).resends ∨ getF s F.SHL_CTL.REPLAY_LIM < n → portState t p = 4 ∧
        getF t F.SHL_RETRAIN.COUNT p = min (getF s F.SHL_RETRAIN.COUNT p + 1) (2 ^ F.SHL_RETRAIN.COUNT.width - 1)) ∧
      ((portAt s p).resends < 7 → n ≤ getF s F.SHL_CTL.REPLAY_LIM →
        portState t p = 3 ∧ RegsBut [(.SHL_REPLAY, p)] s t)))) ∧
  (∀ (a k : Nat) (x : ShlPort),
    (x.replay.findIdx? (fun f => f.1 == a) = some k → (shlAcked a x).replay = x.replay.drop (k + 1) ∧
      (shlAcked a x).resends = 0) ∧
    (x.replay.findIdx? (fun f => f.1 == a) = none → shlAcked a x = x))

/-- R519-R523, R537-R552: what a compute die's messages do. A READ or WRITE inside a window is injected; one outside is answered
SHL_RANGE; a WRITE with a wrong tally word is answered SHL_TALLY and stores nothing. A COUNTER takes effect in its turn and after
the WRITEs before it, a WATCH waits for its counter, a DOORBELL reaches a queue of the port's window, an ABORT is injected as
urgent, an ACK answers a FENCE. What log entries 75 and 76 say is the model's choice. -/
def Obligations.PortMessages : Prop :=
  (∀ (p : PortId) (n : Nat) (b : BitVec 640) (s : State), frameRuns s = true → portState s p = 3 →
    (rxHead s p 2 0 = some (n, b) →
      (shlPlace s p b = none → Completes (.shlRead p) s (fun t =>
        getF t F.SHL_RANGEERR.COUNT p = min (getF s F.SHL_RANGEERR.COUNT p + 1) (2 ^ F.SHL_RANGEERR.COUNT.width - 1) ∧
        t.msh = s.msh ∧ RegsButAll (.SHL_RANGEERR :: eventRegs) s t)) ∧
      (∀ r, shlPlace s p b = some r →
        exec (.shlRead p) s = .next (shlReturn p (shlInject p n b r 0 (rxTake p 2 s))))) ∧
    (rxHead s p 2 1 = some (n, b) →
      (shlPlace s p b = none → Completes (.shlWrite p) s (fun t =>
        getF t F.SHL_RANGEERR.COUNT p = min (getF s F.SHL_RANGEERR.COUNT p + 1) (2 ^ F.SHL_RANGEERR.COUNT.width - 1) ∧
        t.msh = s.msh ∧ t.reef = s.reef ∧ RegsButAll (.SHL_RANGEERR :: eventRegs) s t)) ∧
      (∀ r, shlPlace s p b = some r →
        (flag s F.SHL_PSTAT.TALLY p = false → exec (.shlWrite p) s
          = .next (shlReturn p (shlInject p n b r (tallyOf (slotPay b)) (rxTake p 2 s)))) ∧
        (flag s F.SHL_PSTAT.TALLY p = true → tallyOk (slotPay b) (slotTally b) = true → exec (.shlWrite p) s
          = .next (shlReturn p (shlInject p n b r (slotTally b) (rxTake p 2 s)))) ∧
        (flag s F.SHL_PSTAT.TALLY p = true → tallyOk (slotPay b) (slotTally b) = false →
          Completes (.shlWrite p) s (fun t =>
            getF t F.SHL_TALLYERR.COUNT p = min (getF s F.SHL_TALLYERR.COUNT p + 1) (2 ^ F.SHL_TALLYERR.COUNT.width - 1) ∧
            getF t F.TLY_TALLYERR.COUNT 0 = min (getF s F.TLY_TALLYERR.COUNT 0 + 1) (2 ^ F.TLY_TALLYERR.COUNT.width - 1) ∧
            t.msh = s.msh ∧ t.reef = s.reef))))) ∧
  (∀ (p : PortId) (b : BitVec 640) (r : ReefPlace) (s : State), shlPlace s p b = some r →
    reefPlace (slotLocal b) = some r ∧ secSys (secKey r.tile r.so) = false ∧
    ∃ w, w < 8 ∧ flag s F.SHL_WINB.VALID (8 * p + w) = true ∧ flag s F.SHL_WINB.VIEW (8 * p + w) = slotView b ∧
      getF s F.SHL_WINA.BASE (8 * p + w) * 65536 ≤ slotAddr b ∧
      slotAddr b + 64 * (slotLen b + 1)
        ≤ getF s F.SHL_WINA.BASE (8 * p + w) * 65536 + getF s F.SHL_WINA.LEN (8 * p + w) * 65536) ∧
  (∀ (p : PortId) (n : Nat) (b : BitVec 640) (s : State), frameRuns s = true → portState s p = 3 →
    (rxHead s p (urgentVc s p) 5 = some (n, b) → Completes (.shlAck p) s (fun t =>
      (portAt t p).fences = (portAt s p).fences.erase (slotTag b) ∧ t.regs = s.regs ∧ t.msh = s.msh)) ∧
    (rxHead s p (urgentVc s p) 5 = none → rxHead s p 3 5 = some (n, b) → Completes (.shlAck p) s (fun t =>
      (portAt t p).fences = (portAt s p).fences ∧ t.regs = s.regs ∧ t.msh = s.msh)) ∧
    (rxHead s p (urgentVc s p) 8 = some (n, b) →
      exec (.shlAbort p) s = .next (shlReturn p (shlAbort p b (rxTake p (urgentVc s p) s)))) ∧
    (rxHead s p (urgentVc s p) 0xA = some (n, b) →
      (∀ q, q = getF s F.SHL_DBWIN.BASE p + slotTarget b % 1024 → slotTarget b % 1024 < getF s F.SHL_DBWIN.COUNT p → q < 1024 →
        exec (.shlDoorbell p) s
          = .next (shlReturn p (doorbell q (secField (slotPay b) 0 4) (rxTake p (urgentVc s p) s)))) ∧
      (getF s F.SHL_DBWIN.COUNT p ≤ slotTarget b % 1024 → Completes (.shlDoorbell p) s (fun t =>
        t.tq = s.tq ∧ RegsButAll eventRegs s t)))) ∧
  (∀ (p : PortId) (n : Nat) (b : BitVec 640) (cs : Nat) (s : State), frameRuns s = true → portState s p = 3 →
    rxHead s p 1 0xB = some (n, b) → cs = secField (slotPay b) 12 4 →
    (writesBefore s p n = true → exec (.shlCounter p) s = .next s) ∧
    (writesBefore s p n = false → cs = ((portAt s p).cseq + 1) % 2 ^ 32 →
      (∀ i, cntOf s p (slotTarget b % 65536) = some i → exec (.shlCounter p) s = .next (shlReturn p
        (shlAckSlot p (slotTag b) (slotMark b) false
          (if secField (slotPay b) 8 1 = 1 then counterSet i (secField (slotPay b) 0 8)
              (setPort p { portAt (rxTake p 1 s) p with cseq := cs } (rxTake p 1 s))
            else counterAdd i (secField (slotPay b) 0 8)
              (setPort p { portAt (rxTake p 1 s) p with cseq := cs } (rxTake p 1 s)))))) ∧
      (cntOf s p (slotTarget b % 65536) = none → Completes (.shlCounter p) s (fun t =>
        (portAt t p).cseq = cs ∧ t.tq = s.tq ∧ t.regs = s.regs))) ∧
    (writesBefore s p n = false → cs ≠ ((portAt s p).cseq + 1) % 2 ^ 32 → Completes (.shlCounter p) s (fun t =>
      (portAt t p).cseq = (portAt s p).cseq ∧ t.tq = s.tq ∧ t.regs = s.regs))) ∧
  (∀ (p : PortId) (n : Nat) (b : BitVec 640) (w : ShlWatch) (s : State), frameRuns s = true → portState s p = 3 →
    rxHead s p 1 0xC = some (n, b) →
    w = { tag := slotTag b, mark := slotMark b, index := slotTarget b % 65536, cond := slotTarget b / 65536 % 4
          value := secField (slotPay b) 0 8 } →
    (∀ c, cntOf s p w.index = some c →
      (condHolds w.cond (counterAt s c) w.value = true →
        exec (.shlWatch p) s = .next (shlReturn p (shlNote p w (counterAt s c) (rxTake p 1 s)))) ∧
      (condHolds w.cond (counterAt s c) w.value = false → (portAt s p).watches.length < 64 →
        Completes (.shlWatch p) s (fun t => (portAt t p).watches = (portAt s p).watches ++ [w] ∧ t.regs = s.regs))) ∧
    (cntOf s p w.index = none → Completes (.shlWatch p) s (fun t =>
      (portAt t p).watches = (portAt s p).watches ∧ t.regs = s.regs))) ∧
  (∀ (p : PortId) (m : BitVec 128) (s : State), telemOn s p = true →
    Completes (.shlTelemetry p m) s (fun t => getF t F.SHL_TELEMA.VOUT p = byteField m 0 2 ∧
      getF t F.SHL_TELEMB.IOUT p = byteField m 2 2 ∧ getF t F.SHL_TELEMA.TJ p = byteField m 4 2 ∧
      getF t F.SHL_TELEMB.PSTATE p = byteField m 6 1 ∧ (portAt t p).missed = false ∧
      RegsBut [(.SHL_TELEMA, p), (.SHL_TELEMB, p)] s t) ∧
    ((portAt s p).missed = false → Completes (.shlTelemetryMiss p) s (fun t => (portAt t p).missed = true ∧
      RegsButAll eventRegs s t)) ∧
    ((portAt s p).missed = true → exec (.shlTelemetryMiss p) s = .next s))

/-! ### The host port and regulation -/

/-- R627, R642, R645, R651, R652, R654, R655, R657: the host link up and down, completions of reads of host memory, MSI-X and
virtual functions. A completion that fails refuses the batch or fails the command; a Function Level Reset masks the function's
vectors and consumes its event records (R873). That a command not due changes nothing, and the readings of log entries 4 and 91, are the model's choice. -/
def Obligations.HostPortRows : Prop :=
  (∀ (speed : Fin 16) (width : Fin 32) (flit : Bool) (s : State), s.rst.perst = true → 1 ≤ phase s → s.pci.held = [] →
    Completes (.pciLinkUp speed width flit) s (fun t => flag t F.PCI_LINK.UP = true ∧ getF t F.PCI_LINK.SPEED = speed ∧
      getF t F.PCI_LINK.WIDTH = width ∧ flag t F.PCI_LINK.FLIT = flit ∧
      flag t F.PCI_LINK.DEGRADED = decide (speed.val < 6 ∨ width.val < 16) ∧ RegsButAll (.PCI_LINK :: eventRegs) s t ∧
      (6 ≤ speed.val → 16 ≤ width.val → RegsBut [(.PCI_LINK, 0)] s t))) ∧
  (∀ s : State, (flag s F.PCI_LINK.UP = true → Completes .pciLinkDown s (fun t => flag t F.PCI_LINK.UP = false ∧
      RegsButAll (.PCI_LINK :: eventRegs) s t)) ∧
    (flag s F.PCI_LINK.UP = false → exec .pciLinkDown s = .next s)) ∧
  (∀ (tag : Nat) (data : List Sector) (poison : Bool) (s : State), clocksRun s = true →
    (mapFind s.tq.reads tag = none → ∀ ok, exec (.pciReadCompletion tag data poison ok) s = .next s) ∧
    (∀ r, mapFind s.tq.reads tag = some r →
      exec (.pciReadCompletion tag data poison false) s = .next (readFailed tag s) ∧
      (data.length < readSectors r → exec (.pciReadCompletion tag data poison true) s = .next s)) ∧
    (∀ q pos n f, mapFind s.tq.reads tag = some (.ring q pos n) → (queueAt s q).fetch = some f → ceilDiv n 2 ≤ data.length →
      Completes (.pciReadCompletion tag data false true) s (fun t =>
        queueAt t q = { queueAt s q with fetch := some { f with words := ringWords pos n data f.words } } ∧
        (∀ p, p ≠ q → queueAt t p = queueAt s p) ∧ mapFind t.tq.reads tag = none ∧
        get64 t .PCI_DMARD_LO .PCI_DMARD_HI 0
          = (get64 s .PCI_DMARD_LO .PCI_DMARD_HI 0 + 64 * ceilDiv n 2) % 2 ^ 64 ∧
        RegsBut [(.PCI_DMARD_LO, 0), (.PCI_DMARD_HI, 0)] s t)) ∧
    (∀ q a d pos n, mapFind s.tq.reads tag = some (.data q a d pos n) → instOf s q a d = none → n ≤ data.length →
      Completes (.pciReadCompletion tag data true true) s (fun t => mapFind t.tq.reads tag = none ∧
        getF t F.PCI_POISRX.COUNT = min (getF s F.PCI_POISRX.COUNT + 1) (2 ^ F.PCI_POISRX.COUNT.width - 1) ∧
        (∀ p, queueAt t p = queueAt s p)))) ∧
  (∀ (tag : Nat) (s : State), clocksRun s = true →
    (mapFind s.tq.reads tag = none → exec (.pciCompletionTimeout tag) s = .next s) ∧
    (∀ r, mapFind s.tq.reads tag = some r → exec (.pciCompletionTimeout tag) s
      = .next (readFailed tag (post { code := Ev.PCI_CPLTMO, d1 := tag } (bump F.PCI_CPLTMO.COUNT 0 s)))) ∧
    (∀ q pos n, mapFind s.tq.reads tag = some (.ring q pos n) → (queueAt s q).fetch = none →
      Completes (.pciCompletionTimeout tag) s (fun t => mapFind t.tq.reads tag = none ∧
        getF t F.PCI_CPLTMO.COUNT = min (getF s F.PCI_CPLTMO.COUNT + 1) (2 ^ F.PCI_CPLTMO.COUNT.width - 1) ∧
        RegsButAll (.PCI_CPLTMO :: eventRegs) s t))) ∧
  (∀ (v : Func) (s : State), clocksRun s = true → v ≠ 0 →
    exec (.vfFlr v) s = .next (vfFlr v s) ∧ exec (.vfFlr 0) s = .next s ∧
    (queuesOf s v = [] → s.xlt.ctxs.filter (fun e => e.2.bound && e.2.func == v.val) = [] → mapGet s.evt.lostSince v 0 = 0 →
      RegsBut [(.EVT_HEAD, v), (.EVT_CTL, v)] s (vfFlr v s) ∧ getReg (vfFlr v s) .EVT_HEAD v = getReg s .EVT_TAIL v ∧
      getReg (vfFlr v s) .EVT_CTL v = regReset .EVT_CTL v ∧ (∀ k, k / 64 = v.val → mapGet (vfFlr v s).pci.unmasked k false = false) ∧
      (∀ k, k / 64 ≠ v.val → mapGet (vfFlr v s).pci.unmasked k false = mapGet s.pci.unmasked k false))) ∧
  (∀ (v : Fin 2048) (s : State), barOpen s = true → s.pci.held = [] → s.qos.host = [] →
    Completes (.msixUnmask v) s (fun t => mapGet t.pci.unmasked v false = true ∧ mapGet t.pci.vecPend v false = false ∧
      (∀ w, w ≠ v.val → mapGet t.pci.unmasked w false = mapGet s.pci.unmasked w false) ∧
      (mapGet s.pci.vecPend v false = true → hostOpen s = true → t.out = s.out ++ [.host (.msix v)]) ∧
      (mapGet s.pci.vecPend v false = true → hostOpen s = false → t.out = s.out ∧ t.pci.held = [.msix v]) ∧
      (mapGet s.pci.vecPend v false = false → t.out = s.out ∧ t.regs = s.regs))) ∧
  (∀ (n : Func) (s : State), barOpen s = true → Completes (.vfEnable n) s (fun t => t.regs = s.regs ∧
    ∀ k, k < 32 → t.pci.vfEn.getLsbD k = decide (1 ≤ k ∧ k ≤ n.val)))

/-- R661, R662, R664, R669, R670, R672-R676: buckets fill at RATE up to BURST, use is counted anew in every window, a class whose
misses pass MISSLIM is noted, prefetch is paced while a port's compute die lacks credits, the Isthmus is hot from 90 % until it
falls below 75 %; a write of the wake-hold wakes the gated coves that it names. That a command not due changes nothing, and the
readings of log entries 4, 29, 93 and 94, are the model's choice. -/
def Obligations.RegulationRows : Prop :=
  (∀ s : State, frameRuns s = true → (∀ n, (linkAt s n).txq = []) → s.qos.host = [] →
    Completes .qosTokenTick s (fun t => t.regs = s.regs ∧ t.out = s.out ∧ ∀ r j c, r < 3 → c < 16 → j ∈ qosUnits r →
      tokens t r j c = (if getF s F.QOS_TOKA.RATE (16 * r + c) = 0 then tokens s r j c
        else min (bucketGain s r c).2 (tokens s r j c + (bucketGain s r c).1)))) ∧
  (∀ s : State, frameRuns s = true → (∀ n, (linkAt s n).txq = []) → s.qos.host = [] → s.brk.clamps = [] →
    (∀ r c, heldByMax s r c = false) → exec .qosWindow s = .next { s with qos := { s.qos with used := [], winAt := s.time } }) ∧
  (∀ (r j c : Nat) (s : State), tokens (takeTokens r j c s) r j c = tokens s r j c - 768 ∧
    mapGet (takeTokens r j c s).qos.used (qosKey r j c) 0 = mapGet s.qos.used (qosKey r j c) 0 + 64) ∧
  (∀ (r : Nat) (q : QReq) (acting : Bool) (s : State), r < 3 → q.cls < 16 →
    (pastTarget s r q = true → getF (countMiss r q true acting s) F.QOS_MISS.COUNT (16 * r + q.cls)
      = min (getF s F.QOS_MISS.COUNT (16 * r + q.cls) + 1) (2 ^ F.QOS_MISS.COUNT.width - 1)) ∧
    (pastTarget s r q = false → countMiss r q true acting s = s) ∧ countMiss r q false acting s = s) ∧
  (∀ s : State, frameRuns s = true →
    (s.qos.winMiss = [] → exec .qosMissWindow s = .next { s with qos := { s.qos with winMiss := [], winOver := [] } }) ∧
    (∀ c n, s.qos.winMiss = [(c, n)] → flag s F.QOS_TOKB.MISSIRQ c = false →
      (getF s F.QOS_CTL.MISSLIM < n → Completes .qosMissWindow s (fun t => t.qos.winMiss = [] ∧ t.qos.winOver = [] ∧
        (∃ sev, getF t F.EVT_SEVCNT.COUNT sev ≠ getF s F.EVT_SEVCNT.COUNT sev ∨
          getF s F.EVT_SEVCNT.COUNT sev = 2 ^ F.EVT_SEVCNT.COUNT.width - 1) ∧ RegsButAll eventRegs s t)) ∧
      (n ≤ getF s F.QOS_CTL.MISSLIM → exec .qosMissWindow s = .next { s with qos := { s.qos with winMiss := [], winOver := [] } }))) ∧
  (∀ (pct : List (Fin 101)) (s : State), frameRuns s = true → Completes (.qosPaceWindow pct) s (fun t => t.regs = s.regs ∧
    (t.qos.paced = true ↔ ∃ p, p < 8 ∧ getF s F.QOS_PACE.BPPCT < (pct.map (fun x => x.val)).getD p 0))) ∧
  (∀ (cycles : BitVec 32) (a b busy pct : Nat) (s : State), frameRuns s = true → cycles ≠ 0 →
    a = get64 s .MSH_ISTHS2N_LO .MSH_ISTHS2N_HI 0 → b = get64 s .MSH_ISTHN2S_LO .MSH_ISTHN2S_HI 0 →
    s.qos.isthS2N ≤ a → s.qos.isthN2S ≤ b → busy = max (a - s.qos.isthS2N) (b - s.qos.isthN2S) →
    pct = min 100 (busy * 100 / (48 * cycles.toNat)) →
    Completes (.qosIsthmusWindow cycles) s (fun t => getF t F.QOS_ISTHUSE.PCT = pct ∧ t.qos.isthS2N = a ∧ t.qos.isthN2S = b ∧
      (90 ≤ pct → flag t F.QOS_STATUS.ISTH_HOT = true) ∧ (pct < 75 → flag t F.QOS_STATUS.ISTH_HOT = false) ∧
      (75 ≤ pct → pct < 90 → flag t F.QOS_STATUS.ISTH_HOT = flag s F.QOS_STATUS.ISTH_HOT) ∧
      RegsButAll (.QOS_ISTHUSE :: .QOS_STATUS :: eventRegs) s t)) ∧
  (∀ (hold : BitVec 16) (s : State), barOpen s = true →
    (getF s F.BRK_PSSTAT.STATE = 2 → Completes (.qosWakeholdWrite hold) s (fun t => getF t F.QOS_WAKEHOLD.HOLD = hold.toNat ∧
      OnlyRegs s t ∧ RegsBut [(.QOS_WAKEHOLD, 0)] s t)) ∧
    (getF s F.BRK_PSSTAT.STATE ≠ 2 → Completes (.qosWakeholdWrite hold) s (fun t => getF t F.QOS_WAKEHOLD.HOLD = hold.toNat ∧
      (∀ c, c < 16 → coveState t c
        = (if hold.getLsbD c = true ∧ coveState s c = 2 then 3 else coveState s c)) ∧
      RegsButAll [.QOS_WAKEHOLD, .BRK_COVESTAT] s t)))

/-! ### Breakwater -/

/-- R202, R691, R692, R698-R702, R705-R707, R733-R736: the frequency loop, the cove regulators, gating and waking, slack. The frame
clock takes the lowest of the loop's choice and the caps; a gated cove stands at 500 mV and wakes to a target in 550-900 mV; after
more than 100 ms of self-refresh the end of slack retrains every channel. That
a command not due changes nothing, and the readings of log entries 4, 90 and 92, are the model's choice. -/
def Obligations.ClockAndCoves : Prop :=
  (∀ (cause : Nat) (s : State), s.brk.loopF < 4 →
    fcode (fcodeUpdate cause s) = min s.brk.loopF (min s.brk.capI s.brk.capT)) ∧
  (∀ (pct : Fin 101) (s : State), clocksRun s = true → s.brk.loopF < 4 → clampOf s 3 0 = none → s.brk.overs = [] →
    (getF s F.BRK_AVFSENV.FMIN = getF s F.BRK_AVFSENV.FMAX → Completes (.avfsWindow pct) s (fun t =>
      t.brk.loopF = getF s F.BRK_AVFSENV.FMIN ∧ clampOf t 3 0 = none)) ∧
    (getF s F.BRK_AVFSENV.FMIN < getF s F.BRK_AVFSENV.FMAX →
      (pct.val < 25 → getF s F.BRK_AVFSENV.FMIN < s.brk.loopF → Completes (.avfsWindow pct) s (fun t =>
        t.brk.loopF = s.brk.loopF - 1 ∧ fcode t = min (s.brk.loopF - 1) (min s.brk.capI s.brk.capT))) ∧
      (pct.val < 25 → s.brk.loopF = getF s F.BRK_AVFSENV.FMIN → s.brk.loopF ≤ min s.brk.capI s.brk.capT →
        Completes (.avfsWindow pct) s (fun t => t.brk.loopF = s.brk.loopF ∧ (clampOf t 3 0).isSome = true ∧
          (getReg t .BRK_CLAMPST 0).getLsbD 2 = true)) ∧
      (60 < pct.val → s.brk.loopF < getF s F.BRK_AVFSENV.FMAX → Completes (.avfsWindow pct) s (fun t =>
        t.brk.loopF = s.brk.loopF + 1 ∧ fcode t = min (s.brk.loopF + 1) (min s.brk.capI s.brk.capT))) ∧
      (25 ≤ pct.val → pct.val ≤ 60 → exec (.avfsWindow pct) s = .next s))) ∧
  (∀ (low spare : BitVec 16) (s : State), clocksRun s = true → Completes (.avfsVoltageStep low spare) s (fun t =>
    RegsButAll [.BRK_COVESTAT] s t ∧ ∀ c, c < 16 → coveState t c = coveState s c ∧
      (coveState s c = 2 → coveMv t c = coveMv s c) ∧
      (coveState s c ≠ 2 → low.getLsbD c = false → coveMv t c
        = (if spare.getLsbD c = true ∧ 550 < coveMv s c then coveMv s c - 5 else coveMv s c)) ∧
      (coveState s c ≠ 2 → low.getLsbD c = true → coveMv s c < 900 → flag s F.BRK_RAILSTAT.AVSFAIL (c / 8) = false →
        max 950 (min 1150 ((coveMv s c + 209) / 5 * 5)) ≤ getF s F.BRK_RAILSTAT.MV (c / 8) → coveMv t c = coveMv s c + 5) ∧
      (coveState s c ≠ 2 → low.getLsbD c = true → 900 ≤ coveMv s c ∨ flag s F.BRK_RAILSTAT.AVSFAIL (c / 8) = true →
        coveMv t c = coveMv s c))) ∧
  (∀ (k : Fin 4) (s : State),
    (∀ v : BitVec 16, Completes (.avsTransactionDone k (some v)) s (fun t => getF t F.BRK_RAILSTAT.MV k = v.toNat ∧
      flag t F.BRK_RAILSTAT.AVSFAIL k = false ∧ mapGet t.brk.avsMiss k 0 = 0 ∧ RegsBut [(.BRK_RAILSTAT, k)] s t)) ∧
    (mapGet s.brk.avsMiss k 0 = 2 → Completes (.avsTransactionDone k none) s (fun t =>
      flag t F.BRK_RAILSTAT.AVSFAIL k = true ∧ RegsButAll (.BRK_RAILSTAT :: eventRegs) s t)) ∧
    (mapGet s.brk.avsMiss k 0 < 2 → Completes (.avsTransactionDone k none) s (fun t =>
      mapGet t.brk.avsMiss k 0 = mapGet s.brk.avsMiss k 0 + 1 ∧ t.regs = s.regs))) ∧
  (∀ (c : CoveId) (s : State), clocksRun s = true →
    (coveState s c = 0 → coveIdle s c = true → Completes (.coveGate c) s (fun t => coveState t c = 2 ∧ coveMv t c = 500 ∧
      (getReg t .MSH_COVEAWAKE 0).getLsbD c = false ∧ RegsBut [(.BRK_COVESTAT, c), (.MSH_COVEAWAKE, 0)] s t)) ∧
    (coveIdle s c = false → exec (.coveGate c) s = .next s)) ∧
  (∀ (c : CoveId) (s : State), 1 ≤ phase s → phase s ≤ 5 →
    (wakeAsked s c = true → coveState s c = 2 → Completes (.coveWakeRequest c) s (fun t => coveState t c = 3 ∧
      550 ≤ coveMv t c ∧ coveMv t c ≤ 900 ∧ RegsBut [(.BRK_COVESTAT, c)] s t)) ∧
    (wakeAsked s c = false → exec (.coveWakeRequest c) s = .next s) ∧
    (coveState s c = 3 → Completes (.coveAwake c) s (fun t => coveState t c = 0 ∧
      (getReg t .MSH_COVEAWAKE 0).getLsbD c = true ∧ t.brk.wakeReq.getLsbD c = false ∧
      (s.brk.wakeReq.getLsbD c = true → getF t F.MSH_WAKECNT.COUNT c
        = min (getF s F.MSH_WAKECNT.COUNT c + 1) (2 ^ F.MSH_WAKECNT.COUNT.width - 1)) ∧
      (s.brk.wakeReq.getLsbD c = false → RegsBut [(.BRK_COVESTAT, c), (.MSH_COVEAWAKE, 0)] s t)))) ∧
  (∀ s : State, phase s = 3 → clocksRun s = true → flag s F.BRK_PSCTL.SLACK_EN = true → fullyIdle s = true →
    Completes .slackEntry s (fun t => getF t F.BRK_PSSTAT.STATE = 2 ∧ fcode t = fcode s ∧ t.mem.selfRefresh = true ∧
      clocksRun t = false ∧ (∀ c, c < 16 → coveState t c = 2 ∧ coveMv t c = 500))) ∧
  (∀ (coves : BitVec 16) (s : State), phase s = 3 → getF s F.BRK_PSSTAT.STATE = 2 →
    Completes (.slackExit coves) s (fun t => getF t F.BRK_PSSTAT.STATE = (if fcode s = 3 then 0 else 1) ∧ fcode t = fcode s ∧
      t.mem.selfRefresh = false ∧ clocksRun t = true ∧
      (s.mem.selfRefresh = true → 2500000 < s.time - s.mem.parkedAt →
        t.mem.steps = [4, 5, 7] ∧ ∀ n, n < 48 → mapGet t.mem.paused n 0 = 3) ∧
      (s.time - s.mem.parkedAt ≤ 2500000 → t.mem.paused = s.mem.paused) ∧
      ∀ c, c < 16 → coves.getLsbD c = true → coveState s c = 2 → coveState t c = 3))

/-- R716, R717: BRK_ISAMP of its sensor holds a sample: CODE is the low conversion where RANGE is 0 and the high one where it is 1;
RANGE is 0 where the low range converted and did not clip, 1 where only the high range converted or the low one clipped beside it;
TRANS tells a dual window, OVER a clipped high conversion, and SEQ is the sample's number, which wraps. Nothing but the sample, the
sensor's state and its energy changes. -/
def Obligations.SamplesAreHeld : Prop :=
  ∀ (j : Fin 21) (lo hi : BitVec 14) (mv : BitVec 11) (x : CurSense) (s : State), x = mapGet s.brk.isens j {} →
    Completes (.currentSample j lo hi mv) s (fun t =>
      (0 < x.dual → (bitsAt (getReg t .BRK_ISAMP j) 14 1 = 0 ↔ lo ≠ 16383)) ∧
      (x.dual = 0 → x.high = true → bitsAt (getReg t .BRK_ISAMP j) 14 1 = 1) ∧
      (x.dual = 0 → x.high = false → lo ≠ 16383 → bitsAt (getReg t .BRK_ISAMP j) 14 1 = 0) ∧
      bitsAt (getReg t .BRK_ISAMP j) 0 14
        = (if bitsAt (getReg t .BRK_ISAMP j) 14 1 = 0 then lo.toNat else hi.toNat) ∧
      bitsAt (getReg t .BRK_ISAMP j) 15 1 = boolNat (decide (0 < x.dual)) ∧
      bitsAt (getReg t .BRK_ISAMP j) 16 1 = boolNat (bitsAt (getReg t .BRK_ISAMP j) 14 1 == 1 && hi == 16383) ∧
      bitsAt (getReg t .BRK_ISAMP j) 17 15 = x.seq % 2 ^ 15 ∧
      mapGet t.brk.isens j {} = senseNext x lo.toNat hi.toNat ∧
      RegsBut [(.BRK_ISAMP, j), (.BRK_ENERGY_LO, j), (.BRK_ENERGY_HI, j)] s t)

/-- R708-R725: droop, undervoltage, current, temperature and compute-die power. What each sensor leaves in its registers, the caps
that a limit puts on the frame clock and lifts again, and the events that stop the die (the sample register has a statement of its own, SamplesAreHeld). That a command not due changes nothing,
and the readings of log entries 4 and 92, are the model's choice. -/
def Obligations.SensorsAndLimits : Prop :=
  (∀ (src : Fin 18) (s : State), clocksRun s = true →
    Completes (.droopTrip src) s (fun t => flag t F.BRK_PSSTAT.DROOP = true ∧ mapFind t.brk.trips src = some false ∧
      ∀ c ∈ tripCoves src, flag t F.BRK_COVESTAT.DRP c = true ∧
        getF t F.BRK_DROOPCNT.COUNT c = min (getF s F.BRK_DROOPCNT.COUNT c + 1) (2 ^ F.BRK_DROOPCNT.COUNT.width - 1)) ∧
    (∀ b, mapFind s.brk.trips src = some b → Completes (.droopRelease src) s (fun t =>
      mapFind t.brk.trips src = some true ∧ t.regs = s.regs)) ∧
    (s.brk.trips = [(src.val, true)] → Completes (.droopHoldEnd src) s (fun t => flag t F.BRK_PSSTAT.DROOP = false ∧
      t.brk.trips = [] ∧ (∀ c, c < 16 → flag t F.BRK_COVESTAT.DRP c = false) ∧
      RegsButAll [.BRK_COVESTAT, .BRK_PSSTAT] s t))) ∧
  (∀ (c : CoveId) (n : Fin 4) (s : State), 1 ≤ phase s → phase s ≤ 5 →
    exec (.undervoltage c) s = .next (fatal { code := Ev.BRK_UV, inst := c } s) ∧
    exec (.pllLockLoss n) s = .next (fatal { code := Ev.BRK_PLL, inst := n } s)) ∧
  (∀ (t : Fin 64) (s : State), phase s ≠ 0 → phase s ≠ 6 → mapGet s.brk.hotRun t 0 = 2 →
    Completes (.thermalTrip t) s (fun u => u.brk.thermTrip = true ∧ u.mem.selfRefresh = true ∧ phase u = 6 ∧
      getF u F.GLB_FAILCODE.CODE = Ev.BRK_TRIP)) ∧
  (∀ (e : EvArgs) (s : State), phase s ≠ 6 → e.code < 65536 → phase (fatal e s) = 6 ∧
    getF (fatal e s) F.GLB_FAILCODE.CODE = e.code ∧ getReg (fatal e s) .TWY_UP 0 = 0 ∧
    (∀ p, p < 8 → portState (fatal e s) p = 0) ∧ (∀ n, n < 24 → linkState (fatal e s) n = 0) ∧ clocksRun (fatal e s) = false) ∧
  (∀ (x : CurSense) (lo hi : Nat),
    (x.dual = 0 → x.high = false → x.hold = 0 → 15019 ≤ lo → (senseNext x lo hi).dual = 4) ∧
    (x.dual = 0 → x.high = true → x.hold = 0 → hi ≤ 1228 → 15 ≤ x.run → (senseNext x lo hi).dual = 4) ∧
    (x.dual = 1 → (senseNext x lo hi).high = !x.high ∧ (senseNext x lo hi).hold = 4 ∧ (senseNext x lo hi).dual = 0)) ∧
  (∀ (t : Fin 64) (q : BitVec 12) (fail : Bool) (s : State), phase s ≠ 0 → Completes (.tempSample t q fail) s (fun u =>
    flag u F.BRK_TEMP.FAIL t = fail ∧ (fail = false → getF u F.BRK_TEMP.TEMP t = q.toNat) ∧
    mapGet u.brk.hotRun t 0
      = (if fail = false ∧ 460 ≤ q.toInt then min (mapGet s.brk.hotRun t 0 + 1) 2 else 0) ∧
    (fail = true → flag u F.RFB_REFSTAT.SENSFAIL (t / 4) = true))) ∧
  (∀ s : State, s.brk.loopF < 4 →
    (flag s F.BRK_PSSTAT.THROTTLE = true → dieHot s = true → Completes .throttleStep s (fun t =>
      t.brk.capT = min s.brk.capT (fcode s) - 1 ∧ fcode t = min s.brk.loopF (min s.brk.capI (min s.brk.capT (fcode s) - 1)))) ∧
    (∀ q, flag s F.BRK_PSSTAT.THROTTLE = true → dieTemp s = some q → q < throttleQ s - 12 →
      Completes .throttleReleaseStep s (fun t => t.brk.capT = min 3 (s.brk.capT + 1) ∧
        flag t F.BRK_PSSTAT.THROTTLE = decide (s.brk.capT < 2) ∧
        fcode t = min s.brk.loopF (min s.brk.capI (min 3 (s.brk.capT + 1))))) ∧
    (flag s F.BRK_PSSTAT.THROTTLE = false → exec .throttleStep s = .next s ∧ exec .throttleReleaseStep s = .next s)) ∧
  (∀ (k : Fin 4) (mean : BitVec 20) (calm : Bool) (s : State), 1 ≤ phase s → phase s ≤ 5 → s.brk.loopF < 4 →
    (getF s F.BRK_RAILLIM.AMPS k * 1000 < mean.toNat → s.brk.railOver = 0 →
      Completes (.railLimitStep k mean calm) s (fun t => flag t F.BRK_PSSTAT.LIMIT = true ∧ t.brk.capI = fcode s - 1 ∧
        fcode t = min s.brk.loopF (min (fcode s - 1) s.brk.capT) ∧ t.brk.railOver.getLsbD k = true ∧
        getF t F.BRK_THRCNT.COUNT = min (getF s F.BRK_THRCNT.COUNT + 1) (2 ^ F.BRK_THRCNT.COUNT.width - 1))) ∧
    (getF s F.BRK_RAILLIM.AMPS k * 1000 < mean.toNat → s.brk.railOver ≠ 0 →
      Completes (.railLimitStep k mean calm) s (fun t => flag t F.BRK_PSSTAT.LIMIT = true ∧
        t.brk.capI = min s.brk.capI (fcode s) - 1 ∧ getF t F.BRK_THRCNT.COUNT = getF s F.BRK_THRCNT.COUNT)) ∧
    (mean.toNat ≤ getF s F.BRK_RAILLIM.AMPS k * 1000 → bitAt (getReg s .BRK_ISAMP (16 + k)) 16 = false → s.brk.railOver = 0 →
      exec (.railLimitStep k mean calm) s = .next s)) ∧
  (∀ s : State, clocksRun s = true → (∀ p, p < 8 → cdLimitOf s p < 65536) →
    Completes .cdLimitUpdate s (fun t => (∀ p, p < 8 → getF t F.BRK_CDLIM.WATTS p = cdLimitOf s p) ∧
      RegsButAll [.BRK_CDLIM] s t)) ∧
  (∀ (p : PortId) (s : State), clocksRun s = true →
    (portState s p = 3 → getF s F.BRK_CDLIM.WATTS p * 105000 < cdPower s p →
      Completes (.cdPowerWindow p) s (fun t => t.brk.cdOver.getLsbD p = true ∧
        (s.brk.cdOver.getLsbD p = true → t.regs = s.regs) ∧ RegsButAll eventRegs s t)) ∧
    (cdPower s p ≤ getF s F.BRK_CDLIM.WATTS p * 105000 → Completes (.cdPowerWindow p) s (fun t =>
      t.brk.cdOver.getLsbD p = false ∧ t.regs = s.regs)))

/-- R609, R665, R727, R728, R730, R876: clamps and overrides of the adaptive loops. A clamp begins once and is shown, it ends with
its duration, and raises its interrupt once when it has lasted long enough; an override is posted as a quantity leaves its
envelope and as it returns. That a command not due changes nothing is the model's choice (log entry 4). -/
def Obligations.ClampsAndOverrides : Prop :=
  (∀ (loop inst : Nat) (s : State), 1 ≤ loop → loop ≤ 6 →
    (clampOf s loop inst = none → clampOf (clampBegin loop inst s) loop inst
        = some { loop := loop, inst := inst, start := s.time, raised := false } ∧
      (getReg (clampBegin loop inst s) .BRK_CLAMPST 0).getLsbD (loop - 1) = true ∧ clampEnd loop inst s = s) ∧
    (∀ c, clampOf s loop inst = some c → clampBegin loop inst s = s ∧
      (loop = 3 → getReg (clampEnd 3 inst s) .BRK_CLAMPDUR 3
        = BitVec.ofNat 32 (min (msBetween c.start s.time) (2 ^ 32 - 1))) ∧
      (s.brk.clamps = [c] → (clampEnd loop inst s).brk.clamps = [] ∧
        (getReg (clampEnd loop inst s) .BRK_CLAMPST 0).getLsbD (loop - 1) = false))) ∧
  (∀ (loop : Fin 7) (inst : Fin 48) (c : Clamp) (s : State),
    (clampOf s loop inst = none → exec (.clampDurationIrq loop inst) s = .next s) ∧
    (clampOf s loop inst = some c → c.raised = true ∨ (clampIrq s loop inst).1 = false →
      exec (.clampDurationIrq loop inst) s = .next s) ∧
    (clampOf s loop inst = some c → c.raised = false → (clampIrq s loop inst).1 = true →
      Completes (.clampDurationIrq loop inst) s (fun t => flag t F.EVT_PEND.CLAMP = true ∧
        t.brk.clamps = s.brk.clamps.map (fun k => if k = c then { k with raised := true } else k) ∧
        (flag s F.EVT_PEND.CLAMP = true → t.regs = s.regs ∧ t.out = s.out)))) ∧
  (∀ (loop inst cause : Nat) (s : State),
    (s.brk.overs.find? (fun o => o.1 == loop && o.2.1 == inst) = none →
      (overrideSet loop inst cause true s).brk.overs = s.brk.overs ++ [(loop, inst, cause)] ∧
      getF (overrideSet loop inst cause true s) F.BRK_OVERRIDES.COUNT
        = min (getF s F.BRK_OVERRIDES.COUNT + 1) (2 ^ F.BRK_OVERRIDES.COUNT.width - 1) ∧
      overrideSet loop inst cause false s = s) ∧
    (∀ o, s.brk.overs.find? (fun o => o.1 == loop && o.2.1 == inst) = some o →
      overrideSet loop inst cause true s = s ∧
      (overrideSet loop inst cause false s).brk.overs = s.brk.overs.erase o ∧
      getF (overrideSet loop inst cause false s) F.BRK_OVERRIDES.COUNT
        = min (getF s F.BRK_OVERRIDES.COUNT + 1) (2 ^ F.BRK_OVERRIDES.COUNT.width - 1)))

/-! ### Headland -/

/-- R196, R751-R753, R756-R758, R774-R777, R780-R782: the mailbox. One command runs at a time, a second one is discarded and
noted; the effect of each, with the ERR and responses that its completion shows: keys drawn, rotated and destroyed, the record
root rotated and retired, the lease released, the roster and the identity read. What log entries 83 and 96 say is the model's
choice. -/
def Obligations.MailboxCommands : Prop :=
  (∀ (i : Instr) (s : State), i ∈ [Instr.keyGen, .keyRotate, .keyDestroy, .rootRotate, .rootRetire, .leaseRelease, .enrol,
      .rosterRead, .identRead] → barOpen s = true → flag s F.HLD_STAT.BUSY = true →
    exec i s = .next (post { code := Ev.HLD_MBXBUSY } s)) ∧
  (∀ (k : Nat) (s : State), barOpen s = true → flag s F.HLD_STAT.BUSY = false → k = mbxArg s 0 →
    (63 < k → ∀ i ∈ [Instr.keyGen, .keyRotate, .keyDestroy], Completes i s (fun t => t.hld = { s.hld with mbx := some (1, []) } ∧
      flag t F.HLD_STAT.BUSY = true ∧ RegsBut [(.HLD_STAT, 0)] s t)) ∧
    (k ≤ 63 → flag s F.HLD_ROLE.QUAR = false → getF s F.HLD_SLOTST.STATE k = 0 → Completes .keyGen s (fun t =>
      t.hld.mbx = some (0, []) ∧ getF t F.HLD_SLOTST.STATE k = 1 ∧ getF t F.HLD_SLOTST.CURGEN k = 0 ∧ curGen t k = 0 ∧
      (mapFind t.hld.keys (2 * k)).isSome = true ∧ (∀ j, j ≠ 2 * k → mapFind t.hld.keys j = mapFind s.hld.keys j) ∧
      RegsBut [(.HLD_STAT, 0), (.HLD_SLOTST, k), (.MEM_ROTSTAT, k)] s t)) ∧
    (k ≤ 63 → flag s F.HLD_ROLE.QUAR = true → Completes .keyGen s (fun t => t.hld = { s.hld with mbx := some (3, []) } ∧
      RegsBut [(.HLD_STAT, 0)] s t)) ∧
    (k ≤ 63 → getF s F.HLD_SLOTST.STATE k = 1 → getF s F.MEM_ROTSTAT.PENDING k = 0 → ∀ g, g = 1 - getF s F.HLD_SLOTST.CURGEN k →
      Completes .keyRotate s (fun t => t.hld.mbx = some (0, [g]) ∧ getF t F.HLD_SLOTST.CURGEN k = g ∧
        (mapFind t.hld.keys (2 * k + g)).isSome = true ∧ flag t F.HLD_STAT.BUSY = true ∧
        (slotUsed s k = true → getF t F.HLD_SLOTST.STATE k = 2 ∧ 0 < getF t F.MEM_ROTSTAT.PENDING k) ∧
        (slotUsed s k = false → getF t F.HLD_SLOTST.STATE k = 1 ∧ mapFind t.hld.keys (2 * k + (1 - g)) = none))) ∧
    (k ≤ 63 → slotUsed s k = false → getF s F.HLD_SLOTST.STATE k = 1 → Completes .keyDestroy s (fun t =>
      t.hld.mbx = some (0, []) ∧ getF t F.HLD_SLOTST.STATE k = 0 ∧ mapFind t.hld.keys (2 * k) = none ∧
      mapFind t.hld.keys (2 * k + 1) = none ∧ RegsBut [(.HLD_STAT, 0), (.HLD_SLOTST, k)] s t)) ∧
    (k ≤ 63 → slotUsed s k = true → Completes .keyDestroy s (fun t => t.hld = { s.hld with mbx := some (6, []) } ∧
      RegsBut [(.HLD_STAT, 0)] s t))) ∧
  (∀ (g : Nat) (s : State), barOpen s = true → flag s F.HLD_STAT.BUSY = false → g = 1 - s.hld.rootGen →
    (flag s F.HLD_ROOTGEN.BOTH = false → Completes .rootRotate s (fun t => t.hld.mbx = some (0, [g]) ∧ t.hld.rootGen = g ∧
      (mapFind t.hld.roots g).isSome = true ∧ flag t F.HLD_ROOTGEN.BOTH = true ∧ getF t F.HLD_ROOTGEN.CUR = g ∧
      RegsBut [(.HLD_STAT, 0), (.HLD_ROOTGEN, 0)] s t)) ∧
    (flag s F.HLD_ROOTGEN.BOTH = true →
      Completes .rootRotate s (fun t => t.hld = { s.hld with mbx := some (5, []) } ∧ RegsBut [(.HLD_STAT, 0)] s t) ∧
      (rootNeeded s g = false → Completes .rootRetire s (fun t => t.hld.mbx = some (0, []) ∧ t.hld.rootGen = s.hld.rootGen ∧
        mapFind t.hld.roots g = none ∧ flag t F.HLD_ROOTGEN.BOTH = false)) ∧
      (rootNeeded s g = true → Completes .rootRetire s (fun t => t.hld = { s.hld with mbx := some (5, []) } ∧
        RegsBut [(.HLD_STAT, 0)] s t)))) ∧
  (∀ s : State, barOpen s = true → flag s F.HLD_STAT.BUSY = false →
    (role s = 3 → Completes .leaseRelease s (fun t => role t = 1 ∧ t.hld.mbx = some (0, []))) ∧
    (role s ≠ 3 → Completes .leaseRelease s (fun t => t.hld = { s.hld with mbx := some (2, []) } ∧
      RegsBut [(.HLD_STAT, 0)] s t)) ∧
    Completes .rosterRead s (fun t => t.hld = { s.hld with mbx := some (0, []) } ∧
      (∀ d i, d < 32 → i < 16 → getF t F.HLD_BUF.DATA (16 * d + i) = bitsAt (rosterData (rosterOf s d)) (32 * i) 32) ∧
      RegsButAll [.HLD_STAT, .HLD_BUF] s t) ∧
    (1 < mbxArg s 0 → Completes .identRead s (fun t => t.hld = { s.hld with mbx := some (1, []) } ∧
      RegsBut [(.HLD_STAT, 0)] s t)) ∧
    (mbxArg s 0 ≤ 1 → Completes .identRead s (fun t =>
      t.hld.mbx = some (0, [(Config.certChain (mbxArg s 0) (activeHash s 1)).length]) ∧
      RegsButAll [.HLD_STAT, .HLD_BUF] s t)) ∧
    (∀ v, v = enrolBits ((List.range 4).map (bufSector s)) →
      (role s = 3 → exec .enrol s = .next (mailbox (fun u =>
        if enrolOk v s = true then (0, [], enrolApply v u) else (4, [], u)) s)) ∧
      (role s ≠ 3 → flag s F.HLD_ROLE.SVALID = false → Completes .enrol s (fun t => flag t F.HLD_STAT.BUSY = true ∧
        t.hld = (if Config.operatorHash = none then { s.hld with mbx := some (4, []) }
          else { s.hld with enrolWait := some (enrolDie v, byteField v 8 8) }))))) ∧
  (∀ s : State, (s.hld.mbx = none → exec .hldCommandComplete s = .next s) ∧
    (∀ err rsp, s.hld.mbx = some (err, rsp) → exec .hldCommandComplete s = .next (mbxDone err rsp s)) ∧
    (s.hld.enrolWait = none → exec .enrolTimeout s = .next s) ∧
    (∀ w, s.hld.enrolWait = some w → exec .enrolTimeout s = .next (mbxDone 2 [] s))) ∧
  (∀ (err : Nat) (rsp : List Nat) (s : State), err < 8 → flag (mbxDone err rsp s) F.HLD_STAT.DONE = true ∧
    flag (mbxDone err rsp s) F.HLD_STAT.BUSY = false ∧ getF (mbxDone err rsp s) F.HLD_STAT.ERR = err ∧
    (mbxDone err rsp s).hld.mbx = none ∧ (mbxDone err rsp s).hld.enrolWait = none ∧
    (∀ i v, i < 8 → rsp[i]? = some v → v < 2 ^ 32 → getF (mbxDone err rsp s) F.HLD_RSP.VALUE i = v))

/-- R745-R747, R756, R778, R779, R825: attestation. A transport that is not in use answers nothing; requests are answered in
SPDM's order of states, a record key is given only in a secured session, for a bound context and a live generation; a message type
that is not known is discarded. That a command not due changes nothing, and the readings of log entries 4 and 95, are the model's
choice. -/
def Obligations.AttestationRequests : Prop :=
  (∀ (t : Transport) (r : SpdmReq) (s : State), 1 ≤ phase s →
    (sidebandUp s t = false → exec (.spdmRequest (.mctp t r)) s = .next s) ∧
    (∀ a c, sidebandUp s t = true → spdmRespond s (spdmAt s t.num) r = (a, c) →
      Completes (.spdmRequest (.mctp t r)) s (fun u => u.out = s.out ++ [.spdm t a] ∧ spdmAt u t.num = c ∧
        (∀ k, k ≠ t.num → spdmAt u k = spdmAt s k) ∧ u.regs = s.regs))) ∧
  (∀ (n : LinkId) (m : TwyMsg) (s : State), 1 ≤ phase s → Waiting s n 1 (fun _ m => isMember mkSpdm m) m →
    (byteField m.body 1 1 = 1 → exec (.spdmRequest (.link n)) s = .next (linkReturn n (rxDrop n m s))) ∧
    (∀ a u, byteField m.body 1 1 ≠ 1 → spdmServe (3 + m.src) (spdmDecode m) (rxDrop n m s) = (a, u) →
      exec (.spdmRequest (.link n)) s = .next (linkReturn n (twySend (spdmReply m.src a u) u)))) ∧
  (∀ (s : State) (c : Spdm) (r : SpdmReq), c.level < 3 → c.session = none → c.exchange = none →
    r ≠ .getVersion → r ≠ .getCapabilities → (∀ b, r ≠ .negotiate b) → spdmRespond s c r = (.error, c)) ∧
  (∀ (s : State) (c : Spdm),
    (spdmRespond s c .getVersion).2 = { level := 1 } ∧
    (1 ≤ c.level → (spdmRespond s c .getCapabilities).2.level = max 2 c.level) ∧
    (2 ≤ c.level → (spdmRespond s c (.negotiate true)).2.level = 3) ∧
    (∀ nonce index, c.level = 3 → 1 ≤ index.toNat → index.toNat ≤ 6 → spdmRespond s c (.getMeasurements index nonce)
      = (.done (bytesOf (activeHash s index.toNat) 48)
          (Config.ecdsaSign (ownDie s) (bytesOf nonce 32 ++ bytesOf (activeHash s index.toNat) 48)), c)) ∧
    (∀ k, c.exchange = some k → (spdmRespond s c (.finish true)).2.session = some k ∧
      (spdmRespond s c (.finish false)).2.session = none)) ∧
  (∀ (who : Fin 35) (asid : BitVec 16) (gen : Byte) (s : State), 1 ≤ phase s →
    ((spdmAt s who).session = none ∨ (ctxAt s asid.toNat).bound = false ∨ mapFind s.hld.roots gen.toNat = none →
      exec (.getRecordKey who asid gen) s
        = .next { s with out := s.out ++ [.recordKey who asid.toNat gen.toNat none] }) ∧
    ((spdmAt s who).session ≠ none → (ctxAt s asid.toNat).bound = true → mapFind s.hld.roots gen.toNat ≠ none →
      exec (.getRecordKey who asid gen) s
        = .next { s with out := s.out ++ [.recordKey who asid.toNat gen.toNat (some (recordKey s asid.toNat gen.toNat))] })) ∧
  (∀ (t : Transport) (s : State), 1 ≤ phase s →
    (sidebandUp s t = true →
      (∀ e : Byte, e ≠ 0 → Completes (.mctpMessage t (.setEid e)) s (fun u => mapGet u.hld.eid t.num 0 = e ∧
        u.out = s.out ++ [.mctp t e] ∧ u.regs = s.regs)) ∧
      exec (.mctpMessage t .getEid) s = .next { s with out := s.out ++ [.mctp t (mapGet s.hld.eid t.num 0)] } ∧
      (∀ k, exec (.mctpMessage t (.other k)) s = .next s) ∧
      (∀ r, (spdmAt s t.num).session = none → exec (.mctpMessage t (.secured r)) s = .next s) ∧
      (∀ r, exec (.mctpMessage t (.spdm r)) s = exec (.spdmRequest (.mctp t r)) s)) ∧
    (sidebandUp s t = false → ∀ m, exec (.mctpMessage t m) s = .next s))

/-! ### Start-up, resets and roles -/

/-- R111, R112, R789, R790, R792-R795, R797, R800, R806, R852, R872, R906, R908: a cold start. A cold reset leaves every register
but those of flash, fuses and straps at its reset value, the stores empty and the eight pins inputs, and the weak wires of the
Isthmus are replaced; the straps are sampled as RESET_N rises; each phase ends in the next, in ROM recovery, or with the die
stopped; Headland's start leaves the flash interface in quad mode and the pins as it configures them. That a command not due
changes nothing, and the readings of log entries 4, 5, 98, 110 and 121, are the model's choice. -/
def Obligations.ColdStartPhases : Prop :=
  (∀ (cause : Nat) (i : Instr) (s : State), (cause, i) ∈ [(0, Instr.powerOn), (0, .vaoBrownout), (1, .resetNAssert)] →
    Completes i s (fun t => phase t = 0 ∧ getF t F.GLB_RSTCAUSE.CAUSE = cause ∧
      (∀ r j, r ∉ coldRegs → r ∉ [Reg.GLB_RSTCAUSE, .MEM_CFG, .FWU_ACTST, .FWU_STGBUNDLE] → getReg t r j = regReset r j) ∧
      t.reef = {} ∧ t.tq = {} ∧ t.xlt = {} ∧ t.bead = {} ∧ t.hbl = {} ∧ t.shl = {} ∧ t.pci = {} ∧ t.evt = {} ∧
      t.msh = { isthSpared := s.msh.isthSpared ||| BitVec.ofNat 48 (get64 s .MSH_ISTHWEAK_LO .MSH_ISTHWEAK_HI 0) } ∧
      (∀ n, gpioInput t n = true) ∧ spiQuad t = false ∧
      t.hld = { roster := s.hld.roster } ∧ t.mem.secs = [] ∧ t.pending = s.pending ∧
      t.rst.perst = s.rst.perst ∧ t.rst.ready = false ∧ t.rst.warm = 0 ∧
      (i ≠ .vaoBrownout → t.rst.resetN = false))) ∧
  (∀ (tray : Fin 4) (slot : Fin 8) (sbsel recov : Bool) (s : State),
    (s.rst.resetN = true → exec (.resetNRelease tray slot sbsel recov) s = .next s) ∧
    (s.rst.resetN = false → Completes (.resetNRelease tray slot sbsel recov) s (fun t => t.rst.resetN = true ∧
      t.rst.start = s.time ∧ phase t = 0 ∧ ownDie t = 8 * tray.val + slot.val ∧ getF t F.GLB_STRAP.TRAY = tray ∧
      getF t F.GLB_STRAP.SLOT = slot ∧ flag t F.GLB_STRAP.SBSEL = sbsel ∧ flag t F.GLB_STRAP.RECOV = recov ∧
      t.out = s.out ++ (if s.rst.perst = true then [.pciTrain] else [])))) ∧
  (∀ (ok flash : Bool) (s : State),
    (phase s ≠ 0 ∨ s.rst.resetN = false → exec (.phaseHbootDone ok flash) s = .next s) ∧
    (phase s = 0 → s.rst.resetN = true →
      (ok = false → Completes (.phaseHbootDone ok flash) s (fun t => phase t = 6)) ∧
      (ok = true → flag s F.GLB_STRAP.RECOV = true → Completes (.phaseHbootDone ok flash) s (fun t => phase t = 7 ∧
        getF t F.FWU_RECOV.REASON = 1)) ∧
      (ok = true → flag s F.GLB_STRAP.RECOV = false → s.fwu.marker = 2 → Completes (.phaseHbootDone ok flash) s (fun t =>
        phase t = 7 ∧ getF t F.FWU_RECOV.REASON = 3)) ∧
      (ok = true → flag s F.GLB_STRAP.RECOV = false → s.fwu.marker = 3 → 2 ≤ s.fwu.boots →
        Completes (.phaseHbootDone ok flash) s (fun t => phase t = 7 ∧ getF t F.FWU_RECOV.REASON = 4)) ∧
      (ok = true → flag s F.GLB_STRAP.RECOV = false → s.fwu.marker = 0 → flash = false →
        Completes (.phaseHbootDone ok flash) s (fun t => phase t = 7 ∧ getF t F.FWU_RECOV.REASON = 2)) ∧
      (ok = true → flag s F.GLB_STRAP.RECOV = false → s.fwu.marker = 0 → flash = true → mapFind s.fwu.active 1 = none →
        Completes (.phaseHbootDone ok flash) s (fun t => phase t = 1 ∧ spiQuad t = true ∧
          t.rst.gpio = some (Config.gpioOutputs (runBundle t)))))) ∧
  (∀ s : State,
    (phase s ≠ 1 → ∀ u, exec (.phasePowerDone u) s = .next s) ∧
    (phase s = 1 → (∀ n, exec (.phasePowerDone (some n)) s = .next (fatal { code := Ev.BRK_PLL, inst := n.val } s)) ∧
      Completes (.phasePowerDone none) s (fun t => phase t = 2 ∧ t.msh.isthTrained = true ∧ t.evt.ready = true ∧ t.evt.held = [] ∧ coveState t 0 = 0 ∧
        (∀ p, p < 8 → flag s F.SHL_PCTL.EN p = true → portState s p = 0 → portState t p = 1) ∧
        (∀ n, n < 24 → flag s F.TWY_LINKCTL.EN n = true → linkState s n = 0 → (linkAt s n).off = false →
          s.twy.noClock = false → getF s F.BRK_PSSTAT.STATE ≠ 2 → linkState t n = 1)))) ∧
  (∀ s : State,
    (phase s = 2 → s.mem.trained = true → (∀ p, p < 8 → portState s p = 0 ∨ portState s p = 3 ∨ portState s p = 5) →
      Completes .phaseBringupDone s (fun t => phase t = 3 ∧ t.rst.ready = true ∧ t.fwu.boots = 0 ∧
        RegsButAll [.GLB_STATUS, .GLB_PHASET] s t)) ∧
    (phase s ≠ 2 ∨ s.mem.trained = false → exec .phaseBringupDone s = .next s))

/-- R111, R202, R211, R493-R498, R800-R811, R815, R816: sources of a warm reset, and what one leaves and restores. A source asks for it once;
a failed die ignores it; a commanded cold reset starts over. Blocks, cores and ports are reset, accepted batches stand at their
checkpoints, requests to the host wait for HOST_GO; recovery ends in PHASE 3, or stops the die where the log is broken in both
copies. That a command not due changes nothing, and the readings of log entries 4 and 98, are the model's choice. -/
def Obligations.WarmResets : Prop :=
  (∀ (cause : Nat) (i : Instr) (s : State), (cause, i) ∈ [(8, Instr.glbResetWarm), (9, .perstNFall), (10, .pciHotReset), (11, .pfFlr)] →
    phase s = 3 → s.rst.warm = 0 → s.rst.resetN = true → s.rst.ready = true → s.rst.perst = true → s.rst.perstSeen = true →
    flag s F.PCI_LINK.UP = true → Completes i s (fun t => t.rst.warm = 1 ∧ getF t F.GLB_RSTCAUSE.CAUSE = cause ∧
      phase t = 3 ∧ t.reef = s.reef ∧ t.tq = s.tq ∧ (i = .glbResetWarm ∨ i = .pfFlr → RegsBut [(.GLB_RSTCAUSE, 0)] s t))) ∧
  (∀ s : State, phase s = 6 → exec .glbResetWarm s = .next s ∧ exec .glbResetCold s = .next s ∧ exec .pfFlr s = .next s) ∧
  (∀ s : State, 3 ≤ phase s → phase s ≤ 5 → role s ≠ 3 → flag s F.HLD_ROLE.SVALID = false →
    exec .glbResetCold s = .next (coldReset 2 s)) ∧
  (∀ s : State,
    (s.rst.perst = true → exec .perstNRise s = .next s) ∧
    (s.rst.perst = false → Completes .perstNRise s (fun t => t.rst.perst = true ∧ t.rst.perstSeen = true ∧ t.regs = s.regs ∧
      t.out = s.out ++ (if s.rst.resetN = true then [.pciTrain] else []))) ∧
    (s.rst.perst = true → Completes .perstNFall s (fun t => flag t F.PCI_LINK.UP = false))) ∧
  (∀ s : State, s.rst.warm ≠ 1 → exec .warmReset s = .next s) ∧
  (∀ s v w : State, s.rst.warm = 1 →
    v = (if role (slackLeave s) = 3 then leaseRelease 1 (slackLeave s) else toSteward mkReset [(1, 1, 1)] [] id (slackLeave s)) →
    w = setF F.GLB_STATUS.HOST_WAIT 0 1 (bump F.GLB_RSTCAUSE.WARMS 0 v) →
    exec .warmReset s = .next (portReset (dropReceiving (blocksReset (hostHold (memPark
      (setPhase 4 { w with rst := { w.rst with warm := 2, start := s.time } }))))))) ∧
  (∀ s : State, (∀ p, p < 8 → portState (blocksReset s) p = 0) ∧ (∀ c, c < 16 → coveState (blocksReset s) c = 2) ∧
    (blocksReset s).bead = {} ∧ (blocksReset s).tq.reads = [] ∧ (blocksReset s).xlt.waits = [] ∧ (blocksReset s).reef = s.reef ∧
    (blocksReset s).xlt.ctxs = s.xlt.ctxs ∧ (blocksReset s).mem = s.mem ∧ phase (blocksReset s) = phase s ∧
    (∀ q x, mapFind s.tq.queues q = some x → mapFind (blocksReset s).tq.queues q = some x.parked)) ∧
  (∀ x : TQueue, x.parked.desc = x.desc ∧ x.parked.st = x.st ∧ x.parked.fetch = none ∧ x.parked.tails = [] ∧
    x.parked.batches.length = (x.batches.filter (fun b => b.accepted)).length) ∧
  (∀ s : State, (hostHold s).qos.host = [] ∧ (hostHold s).regs = s.regs ∧
    (∀ a v, (HostReq.msix v ∈ s.pci.held → HostReq.msix v ∈ (hostHold s).pci.held) ∧
      (∀ b c d e, HostReq.read a b c d e ∉ (hostHold s).pci.held))) ∧
  (∀ (failed : Option ChanId) (bad : Bool) (s : State),
    (s.rst.warm ≠ 2 → s.rst.warm ≠ 3 → exec (.warmResetReturn failed bad) s = .next s) ∧
    (s.rst.warm = 3 → flag s F.HBL_PARTNER.VALID = false →
      exec (.warmResetReturn failed bad) s = .next (recoverDone bad s)) ∧
    (∀ n, s.rst.warm = 2 → failed = some n → exec (.warmResetReturn failed bad) s
      = .next (fatal { code := Ev.MEM_CHDOWN, inst := n.val } s)) ∧
    (s.rst.warm = 2 → failed = none → exec (.warmResetReturn failed bad) s = .next (
      let rate := getF s F.MEM_CFG.RATE
      let u := setPhase 5 (wakeHeld (portsStart (isthmusTrain (selfRefreshOff { s with mem := { s.mem with
        rate := rate, steps := if rate = s.mem.rate then [4, 5, 7] else [1, 2, 3, 4, 5, 6, 7] } }))))
      if flag u F.HBL_PARTNER.VALID then takeoverAsk u else recoverDone bad { u with rst := { u.rst with warm := 3 } }))) ∧
  (∀ s : State, phase s ≠ 6 → phase (recoverDone true s) = 6 ∧ phase (recoverDone false s) = 3 ∧
    (recoverDone false s).rst.warm = 0) ∧
  (∀ (n : LinkId) (bad : Bool) (m : TwyMsg) (s : State), headRuns s = true → Waiting s n 1 (fun _ m => isMember mkAnswer m) m →
    (s.rst.warm = 3 → m.src = getF s F.HBL_PARTNER.DIE →
      exec (.takeoverQueryAnswer n bad) s = .next (linkReturn n
        (if byteField m.body 1 1 = 1 then post { code := Ev.GLB_TAKENOVER, inst := m.src } (coldReset 4 (rxDrop n m s))
          else recoverDone bad (rxDrop n m s)))) ∧
    (s.rst.warm ≠ 3 → exec (.takeoverQueryAnswer n bad) s = .next (linkReturn n (rxDrop n m s)))) ∧
  (∀ s : State, barOpen s = true → s.pci.held = [] → Completes .hostGo s (fun t => flag t F.GLB_STATUS.HOST_WAIT = false ∧
    RegsBut [(.GLB_STATUS, 0)] s t)) ∧
  (∀ s : State, barOpen s = true → s.qos.host = [] → flag s F.PCI_LINK.UP = true →
    Completes .hostGo s (fun t => t.pci.held = [] ∧ t.out = s.out ++ s.pci.held.map (fun r => Out.host r)))

/-- R788, R817-R821, R896: leaving a tray, rejoining it, and the loss of REFCLK_TWY. That a command not due changes nothing is the
model's choice (log entry 4). -/
def Obligations.LeavingAndRejoining : Prop :=
  (∀ s : State, barOpen s = true → flag s F.GLB_STATUS.LEAVING = false → flag s F.GLB_STATUS.LEFT = false →
    exec .leave s = .next (leaveStart s) ∧
    (role s ≠ 3 → flag s F.HLD_ROLE.SVALID = false → Completes .leave s (fun t => flag t F.GLB_STATUS.LEAVING = true ∧
      OnlyRegs s t ∧ RegsBut [(.GLB_STATUS, 0)] s t))) ∧
  (∀ s : State, flag s F.GLB_STATUS.LEAVING = true ∨ flag s F.GLB_STATUS.LEFT = true → exec .leave s = .next s) ∧
  (∀ s : State, barOpen s = true → flag s F.GLB_STATUS.LEAVING = true → flag s F.GLB_STATUS.LEFT = false →
    (noBatches s = true → Completes .leaveComplete s (fun t => flag t F.GLB_STATUS.LEFT = true)) ∧
    (noBatches s = false → exec .leaveComplete s = .next s)) ∧
  (∀ s : State, barOpen s = true → flag s F.GLB_STATUS.LEFT = true →
    exec .rejoin s = .next (rejoin s) ∧
    (role s ≠ 3 → flag s F.HLD_ROLE.SVALID = false → Completes .rejoin s (fun t => flag t F.GLB_STATUS.LEAVING = false ∧
      flag t F.GLB_STATUS.LEFT = false ∧ t.hld.members.getLsbD (ownDie s) = false ∧ RegsBut [(.GLB_STATUS, 0)] s t))) ∧
  (∀ s : State, flag s F.GLB_STATUS.LEFT = false → exec .rejoin s = .next s) ∧
  (∀ s : State,
    (s.twy.noClock = true → exec .refclkTwyLoss s = .next s) ∧
    (s.twy.noClock = false → (∀ n, n < 24 → linkState s n = 0) → Completes .refclkTwyLoss s (fun t =>
      t.twy = { s.twy with noClock := true } ∧ twyClock t = false ∧ RegsButAll eventRegs s t)) ∧
    exec .refclkTwyReturn s = .next { s with twy := { s.twy with noClock := false } })

/-! ### Firmware update -/

/-- R830, R831, R836-R838, R848, R856, R859, R908: staging over the FWU window. One command runs at a time; BEGIN erases a component
and opens a session, and WP_N is high; CHUNK takes bytes in order, END checks the image, CANCEL erases it; the completion shows ERR; a wrong state,
session or component is refused with its code and changes nothing. What log entries 96, 99 and 121 say is the model's choice. -/
def Obligations.UpdateWindowCommands : Prop :=
  (∀ (i : Instr) (s : State), i ∈ [Instr.fwuBegin, .fwuChunk, .fwuEnd, .fwuCancel, .fwuActCancel, .fwuActivate []] →
    barOpen s = true → flag s F.FWU_STAT.BUSY = true → exec i s = .next (post { code := Ev.FWU_BUSY } s)) ∧
  (∀ (k : Nat) (s : State), barOpen s = true → flag s F.FWU_STAT.BUSY = false → k = getF s F.FWU_ARG.VALUE 0 →
    (actState s ≠ 0 → ∀ i ∈ [Instr.fwuBegin, .fwuCancel], Completes i s (fun t => t.fwu = { s.fwu with cmd := some (7, 0) } ∧
      flag t F.FWU_STAT.BUSY = true ∧ RegsBut [(.FWU_STAT, 0)] s t)) ∧
    (actState s = 0 → s.fwu.session.isSome = true → Completes .fwuBegin s (fun t => t.fwu = { s.fwu with cmd := some (12, 0) } ∧
      RegsBut [(.FWU_STAT, 0)] s t)) ∧
    (actState s = 0 → s.fwu.session = none → (k = 0 ∨ 6 < k) → ∀ i ∈ [Instr.fwuBegin, .fwuCancel], Completes i s (fun t =>
      t.fwu = { s.fwu with cmd := some (2, 0) } ∧ RegsBut [(.FWU_STAT, 0)] s t)) ∧
    (actState s = 0 → s.fwu.session = none → 1 ≤ k → k ≤ 6 →
      Completes .fwuBegin s (fun t => t.fwu.cmd = some (0, k) ∧ t.fwu.session = some (none, k) ∧ compState t k = 1 ∧
        wpHigh t = true ∧
        stagedOf t k = [] ∧ (∀ j, j ≠ k → stagedOf t j = stagedOf s j) ∧ getF t F.FWU_COMPST.VERSION k = 0 ∧
        RegsButAll [.FWU_STAT, .FWU_COMPST, .FWU_STGBUNDLE, .FWU_ROOT] s t) ∧
      Completes .fwuCancel s (fun t => t.fwu.cmd = some (0, k) ∧ t.fwu.session = none ∧ compState t k = 0 ∧ stagedOf t k = [])) ∧
    (∀ j, actState s = 0 → s.fwu.session = some (none, j) → 1 ≤ j → j ≤ 6 →
      (getF s F.FWU_OFFSET.BYTES ≠ (stagedOf s j).length ∨ getF s F.FWU_LEN.BYTES = 0 → Completes .fwuChunk s (fun t =>
        t.fwu = { s.fwu with cmd := some (7, j) } ∧ RegsBut [(.FWU_STAT, 0)] s t)) ∧
      (getF s F.FWU_OFFSET.BYTES = (stagedOf s j).length → getF s F.FWU_LEN.BYTES ≠ 0 →
        (stagedOf s j).length + getF s F.FWU_LEN.BYTES < 512 → 4 ∣ getF s F.FWU_LEN.BYTES → Completes .fwuChunk s (fun t =>
          t.fwu.cmd = some (0, j) ∧ stagedOf t j = stagedOf s j ++ winBytes s (getF s F.FWU_LEN.BYTES) ∧
          t.fwu.session = s.fwu.session)) ∧
      (imgWhole (stagedOf s j) = false → Completes .fwuEnd s (fun t => t.fwu = { s.fwu with cmd := some (7, j) } ∧
        RegsBut [(.FWU_STAT, 0)] s t)) ∧
      (imgWhole (stagedOf s j) = true → Completes .fwuEnd s (fun t => t.fwu.cmd = some (bodyErr (stagedOf s j), j) ∧
        t.fwu.session = none ∧ compState t j = (if bodyErr (stagedOf s j) = 0 then 2 else 3))) ∧
      Completes .fwuCancel s (fun t => t.fwu.cmd = some (0, j) ∧ t.fwu.session = none ∧ compState t j = 0 ∧
        stagedOf t j = [])) ∧
    (s.fwu.session = none → Completes .fwuChunk s (fun t => t.fwu = { s.fwu with cmd := some (7, 0) }) ∧
      Completes .fwuEnd s (fun t => t.fwu = { s.fwu with cmd := some (7, 0) }))) ∧
  (∀ (flash : Bool) (s : State),
    (s.fwu.cmd = none → exec (.fwuCommandComplete flash) s = .next s) ∧
    (∀ err k, s.fwu.cmd = some (err, k) → err < 16 → Completes (.fwuCommandComplete flash) s (fun t => t.fwu.cmd = none ∧
      flag t F.FWU_STAT.BUSY = false ∧ flag t F.FWU_STAT.DONE = true ∧
      (flash = false → getF t F.FWU_STAT.ERR = err ∧ t.fwu = { s.fwu with cmd := none } ∧ RegsBut [(.FWU_STAT, 0)] s t) ∧
      (flash = true → s.fwu.session = some (none, k) → 1 ≤ k → k ≤ 6 → phase s ≠ 7 → getF t F.FWU_STAT.ERR = 10 ∧
        t.fwu.session = none ∧ compState t k = 3 ∧ getF t F.FWU_COMPST.LASTERR k = 10)))) ∧
  (∀ s : State, phase s = 7 → flag s F.FWU_STAT.BUSY = false → allActiveOk s = true → role s ≠ 3 →
    flag s F.HLD_ROLE.SVALID = false → Completes .fwuRecovExit s (fun t => phase t = 0 ∧ getF t F.GLB_RSTCAUSE.CAUSE = 3 ∧
      t.fwu.marker = 0 ∧ t.fwu.newHead = true ∧ t.fwu.active = s.fwu.active)) ∧
  (∀ s : State, barOpen s = true → flag s F.FWU_STAT.BUSY = false → Completes .fwuRecovExit s (fun t =>
    t.fwu = { s.fwu with cmd := some (7, 0) } ∧ RegsBut [(.FWU_STAT, 0)] s t))

/-- R834, R835, R841-R849, R854: activation. Arming is cancelled; a turn whose set passes drains and then overwrites; every staged
image goes to its active place and the die boots it; at the end the security version is fused and the staging area is empty. The
steward starts turns one at a time and halts the rollout when one runs out. That a command not due changes nothing, and the
readings of log entries 4 and 99, are the model's choice. -/
def Obligations.ActivationRows : Prop :=
  (∀ (fleet : List FleetReport) (s : State), barOpen s = true → flag s F.FWU_STAT.BUSY = false →
    (role s ≠ 3 → flag s F.HLD_ROLE.SVALID = false → Completes (.fwuActivate fleet) s (fun t =>
      t.fwu = { s.fwu with cmd := some (7, 0) } ∧ RegsBut [(.FWU_STAT, 0)] s t)) ∧
    (role s = 3 → s.hld.stew.ready = true → s.hld.stew.rollout = {} → getReg s .FWU_ARG 0 = 0 →
      fleetOk s [ownDie s] fleet = false → Completes (.fwuActivate fleet) s (fun t =>
        t.fwu = { s.fwu with cmd := some (11, 0) } ∧ t.hld = s.hld)) ∧
    (role s = 3 → s.hld.stew.ready = true → s.hld.stew.rollout = {} → getReg s .FWU_ARG 0 = 0 →
      fleetOk s [ownDie s] fleet = true → exec (.fwuActivate fleet) s = .next (fwuCommand (fun u =>
        (0, 0, decideAll 9 (ownDie u) 0 (setRollout { armed := [ownDie u] } u))) s)) ∧
    (actState s ≠ 1 → Completes .fwuActCancel s (fun t => t.fwu = { s.fwu with cmd := some (7, 0) } ∧
      RegsBut [(.FWU_STAT, 0)] s t)) ∧
    (actState s = 1 → role s ≠ 3 → flag s F.HLD_ROLE.SVALID = false → Completes .fwuActCancel s (fun t => actState t = 0 ∧
      t.fwu = { s.fwu with marker := 0, turnDue := false, cmd := some (0, 0) } ∧
      RegsBut [(.FWU_STAT, 0), (.FWU_ACTST, 0)] s t))) ∧
  (∀ s : State,
    (headRuns s = true → actState s = 2 → Completes .fwuDrainEnd s (fun t => actState t = 3 ∧ t.fwu.marker = 2 ∧
      t.fwu.loader = (loaderCopy s).getD 2 ∧ RegsBut [(.FWU_ACTST, 0)] s t)) ∧
    (actState s ≠ 2 → exec .fwuDrainEnd s = .next s)) ∧
  (∀ s : State,
    (s.fwu.marker ≠ 2 → exec .fwuOverwriteDone s = .next s) ∧
    (∀ k e, s.fwu.marker = 2 → phase s ≠ 7 → stagedBad s = some (k, e) → Completes .fwuOverwriteDone s (fun t =>
      t.fwu = s.fwu ∧ getF t F.FWU_COMPST.LASTERR k = e ∧ RegsBut [(.FWU_COMPST, k)] s t)) ∧
    (s.fwu.marker = 2 → phase s ≠ 7 → role s ≠ 3 → flag s F.HLD_ROLE.SVALID = false → ∃ t, exec .fwuOverwriteDone s = .next t ∧
      (stagedBad s = none → phase t = 0 ∧ t.fwu.marker = 3 ∧ t.fwu.active = activeAfter s ∧ t.fwu.newHead = true ∧
        getF t F.GLB_RSTCAUSE.CAUSE = 3))) ∧
  (∀ s : State, (∀ k, 1 ≤ k → k ≤ 6 → k ≠ 2 → mapFind (activeAfter s) k = some (stagedOf s k)) ∧
    (s.fwu.loader = 2 → mapFind (activeAfter s) 7 = some (stagedOf s 2) ∧
      mapFind (activeAfter s) 2 = mapFind s.fwu.active 2) ∧
    (s.fwu.loader = 7 → mapFind (activeAfter s) 2 = some (stagedOf s 2) ∧
      mapFind (activeAfter s) 7 = mapFind s.fwu.active 7)) ∧
  (∀ (alone : Bool) (s : State),
    (actState s ≠ 4 ∨ phase s ≠ 3 ∨ (mirrored s = false ∧ alone = false) → exec (.fwuActivationDone alone) s = .next s) ∧
    (actState s = 4 → phase s = 3 → (mirrored s = true ∨ alone = true) → role s ≠ 3 → flag s F.HLD_ROLE.SVALID = false →
      Completes (.fwuActivationDone alone) s (fun t => actState t = 0 ∧ t.fwu.marker = 0 ∧ t.fwu.staged = [] ∧
        getF t F.FWU_SVN.FUSED = max (getF s F.FWU_SVN.FUSED) (hSvn (stagedHead s 1)) % 2 ^ F.FWU_SVN.FUSED.width ∧
        (rootAdvances s = false → getF t F.FWU_ROOT.REVOKED = getF s F.FWU_ROOT.REVOKED) ∧
        (∀ k, 1 ≤ k → k ≤ 6 → compState t k = 0)))) ∧
  (∀ s : State, acts s = true →
    (nextTurn s = none → exec .fwuTurnStart s = .next s) ∧
    (s.hld.stew.rollout.turn.isSome = true → exec .fwuTurnStart s = .next s) ∧
    (∀ d r, nextTurn s = some d → r = s.hld.stew.rollout → r.turn = none → mirrored s = true →
      exec .fwuTurnStart s = .next (turnObey (decideAll 10 d 0
        (setRollout { armed := r.armed.filter (fun k => k != d), turn := some d } s)))) ∧
    (s.hld.stew.rollout.turn = none → exec .fwuTurnTimeout s = .next s) ∧
    (∀ d, s.hld.stew.rollout.turn = some d → s.hld.stew.rollout.armed = [] → exec .fwuTurnTimeout s
      = .next (decideAll 13 d 0 (setRollout {} (post { code := Ev.FWU_HALT, inst := d } (setF F.FWU_ACTST.HALTED 0 1 s)))))) ∧
  (∀ s : State, actState s = 1 → s.fwu.turnDue = true → role s ≠ 3 → flag s F.HLD_ROLE.SVALID = false →
    (if stagedPass s = true then actState (turnObey s) = 2 ∧ flag (turnObey s) F.GLB_STATUS.LEAVING = true
      else actState (turnObey s) = 0 ∧ (turnObey s).fwu.marker = 0))

/-- R836, R837, R840, R855: PLDM for firmware update over a transport in use. A session is opened once, a component is asked for
from its first byte, 512 bytes first and then up to 1,024; a command out of its session is answered STATE. That a command not due
changes nothing, and the readings of log entries 4 and 99, are the model's choice. -/
def Obligations.PldmCommands : Prop :=
  (∀ (t : Transport) (s : State), 1 ≤ phase s → sidebandUp s t = true →
    exec (.queryDeviceIdentifiers t) s = .next { s with out := s.out ++ [.pldm t (.identifiers (getReg s .GLB_ID 0))] } ∧
    exec (.getFirmwareParameters t) s = .next { s with out := s.out ++ [.pldm t (.parameters
      ((List.range' 1 6).map (fun k => BitVec.ofNat 24 (activeVersion s (activePlace s k))))
      ((List.range' 1 6).map (fun k => BitVec.ofNat 24 (getF s F.FWU_COMPST.VERSION k))))] } ∧
    (s.fwu.session.isSome = true →
      exec (.pldmRequestUpdate t) s = .next { s with out := s.out ++ [.pldm t (.requestUpdate 12)] }) ∧
    (s.fwu.session = none → exec (.pldmRequestUpdate t) s = .next { s with
      fwu := { s.fwu with session := some (some t, 0) }, out := s.out ++ [.pldm t (.requestUpdate 0)] }) ∧
    (∀ comps : List (Fin 8), exec (.pldmPassComponentTable t comps) s = .next { s with out := s.out ++ [.pldm t (.passTable
      (if pldmOpen t s = false then 7 else if comps.all (fun k => 1 ≤ k.val && k.val ≤ 6) then 0 else 2))] }) ∧
    (∀ k : Fin 8, s.fwu.session ≠ some (some t, 0) ∨ frozen s = true →
      exec (.pldmUpdateComponent t k) s = .next { s with out := s.out ++ [.pldm t (.updateComponent 7)] }) ∧
    (∀ k : Fin 8, s.fwu.session = some (some t, 0) → frozen s = false → phase s ≠ 7 →
      (k.val = 0 ∨ k.val = 7 → exec (.pldmUpdateComponent t k) s = .next { s with out := s.out ++ [.pldm t (.updateComponent 2)] }) ∧
      (1 ≤ k.val → k.val ≤ 6 → Completes (.pldmUpdateComponent t k) s (fun u => u.fwu.session = some (some t, k.val) ∧
        compState u k = 1 ∧ stagedOf u k = [] ∧
        u.out = s.out ++ [.pldm t (.updateComponent 0), .pldm t (.requestData 0 512)]))) ∧
    (pldmOpen t s = false → ∀ fleet,
      exec (.pldmActivateFirmware t fleet) s = .next { s with out := s.out ++ [.pldm t (.activate 7)] } ∧
      exec (.pldmCancelUpdateComponent t) s = .next { s with out := s.out ++ [.pldm t (.cancelComponent 7)] } ∧
      exec (.pldmCancelUpdate t) s = .next { s with out := s.out ++ [.pldm t (.cancelUpdate 7)] } ∧
      ∀ bs flash, exec (.pldmFirmwareData t bs flash) s = .next s) ∧
    (∀ k, s.fwu.session = some (some t, k) → 1 ≤ k → k ≤ 6 → frozen s = false → phase s ≠ 7 →
      (∀ bs, bs ≠ [] → bs.length ≤ pldmNext s k → Completes (.pldmFirmwareData t bs true) s (fun u => compState u k = 3 ∧
        getF u F.FWU_COMPST.LASTERR k = 10 ∧ u.fwu.session = some (some t, 0) ∧
        u.out = s.out ++ [.pldm t (.transferComplete 10)])) ∧
      (∀ bs, bs ≠ [] → (stagedOf s k).length + bs.length < 512 → Completes (.pldmFirmwareData t bs false) s (fun u =>
        stagedOf u k = stagedOf s k ++ bs ∧ u.fwu.session = s.fwu.session ∧
        u.out = s.out ++ [.pldm t (.requestData ((stagedOf s k).length + bs.length)
          (512 - ((stagedOf s k).length + bs.length)))])) ∧
      Completes (.pldmCancelUpdateComponent t) s (fun u => u.fwu.session = some (some t, 0) ∧ compState u k = 0 ∧
        stagedOf u k = [] ∧ u.out = s.out ++ [.pldm t (.cancelComponent 0)]) ∧
      Completes (.pldmCancelUpdate t) s (fun u => u.fwu.session = none ∧ compState u k = 0 ∧ stagedOf u k = [] ∧
        u.out = s.out ++ [.pldm t (.cancelUpdate 0)]))) ∧
  (∀ (t : Transport) (fleet : List FleetReport) (e : Nat) (s u : State), 1 ≤ phase s → phase s ≠ 7 → sidebandUp s t = true →
    pldmOpen t s = true → activate false 0 fleet s = (e, u) → exec (.pldmActivateFirmware t fleet) s
      = .next (pldmSay t (.activate e) (if e = 0 then setSession none u else u)))
end

