-- ==== Sys2Proof/Laws/Map.lean ====
section
/-! SUPPORT. What the sparse-map operations do: reads after writes, and that the canonical form is kept. -/

namespace Sys2Proof.Machine

/-- A read after a listing of the same key. -/
@[simp] theorem mapGet_mapIns_same {α : Type} (m : Map α) (k : Nat) (v d : α) : mapGet (mapIns m k v) k d = v := by
  induction m with
  | nil => simp [mapIns, mapGet]
  | cons e t ih =>
    obtain ⟨j, w⟩ := e
    simp only [mapIns]
    split
    · simp [mapGet]
    · split
      · simp [mapGet]
      · rename_i h; simp [mapGet, h, ih]

/-- A listing leaves every other key alone. -/
theorem mapGet_mapIns_ne {α : Type} (m : Map α) {k k' : Nat} (v d : α) (h : k' ≠ k) :
    mapGet (mapIns m k v) k' d = mapGet m k' d := by
  have hn : k ≠ k' := fun e => h e.symm
  induction m with
  | nil => simp [mapIns, mapGet, hn]
  | cons e t ih =>
    obtain ⟨j, w⟩ := e
    simp only [mapIns]
    split
    · simp [mapGet, hn]
    · split
      · rename_i e; subst e; simp [mapGet, hn]
      · simp only [mapGet, ih]

/-- A removed key reads as the default. -/
@[simp] theorem mapGet_mapDel_same {α : Type} (m : Map α) (k : Nat) (d : α) : mapGet (mapDel m k) k d = d := by
  induction m with
  | nil => rfl
  | cons e t ih =>
    obtain ⟨j, w⟩ := e
    by_cases h : j = k
    · simpa [mapDel, h] using ih
    · have hb : (j != k) = true := by simpa using h
      simpa [mapDel, hb, mapGet, h] using ih

/-- A removal leaves every other key alone. -/
theorem mapGet_mapDel_ne {α : Type} (m : Map α) {k k' : Nat} (d : α) (h : k' ≠ k) :
    mapGet (mapDel m k) k' d = mapGet m k' d := by
  induction m with
  | nil => rfl
  | cons e t ih =>
    obtain ⟨j, w⟩ := e
    by_cases hj : j = k
    · subst hj
      have hn : ¬ j = k' := fun e => h e.symm
      simpa [mapDel, mapGet, hn] using ih
    · have hb : (j != k) = true := by simpa using hj
      have hd : mapDel ((j, w) :: t) k = (j, w) :: mapDel t k := by simp [mapDel, hb]
      rw [hd]
      simp only [mapGet, ih]

/-- A read after a write of the same key. -/
@[simp] theorem mapGet_mapSet_same {α : Type} [DecidableEq α] (m : Map α) (k : Nat) (d v : α) :
    mapGet (mapSet m k d v) k d = v := by
  unfold mapSet
  split
  · rename_i h; simp [h]
  · simp

/-- A write leaves every other key alone. -/
theorem mapGet_mapSet_ne {α : Type} [DecidableEq α] (m : Map α) {k k' : Nat} (d v d' : α) (h : k' ≠ k) :
    mapGet (mapSet m k d v) k' d' = mapGet m k' d' := by
  unfold mapSet
  split
  · exact mapGet_mapDel_ne m d' h
  · exact mapGet_mapIns_ne m v d' h

/-- Every key of a list lies above a bound. -/
def above {α : Type} (b : Nat) (m : Map α) : Prop := ∀ e ∈ m, b < e.1

/-- A rising list is its head and a rising rest above it. -/
theorem mapSorted_cons {α : Type} (j : Nat) (w : α) (m : Map α) :
    mapSorted ((j, w) :: m) = true ↔ above j m ∧ mapSorted m = true := by
  induction m generalizing j w with
  | nil => simp [mapSorted, above]
  | cons e t ih =>
    obtain ⟨k, x⟩ := e
    simp only [mapSorted, Bool.and_eq_true, decide_eq_true_eq]
    constructor
    · rintro ⟨hjk, ht⟩
      refine ⟨?_, ht⟩
      intro e he
      rcases List.mem_cons.mp he with rfl | he
      · exact hjk
      · exact Nat.lt_trans hjk (((ih k x).mp ht).1 e he)
    · rintro ⟨ha, ht⟩
      exact ⟨ha (k, x) (List.mem_cons_self ..), ht⟩

/-- Listing a key above a bound keeps the bound. -/
theorem above_mapIns {α : Type} {b k : Nat} {m : Map α} (v : α) (hb : b < k) (h : above b m) : above b (mapIns m k v) := by
  induction m with
  | nil => intro e he; simp [mapIns] at he; simp [he, hb]
  | cons e t ih =>
    obtain ⟨j, w⟩ := e
    have ht : above b t := fun e he => h e (List.mem_cons_of_mem _ he)
    simp only [mapIns]
    split
    · intro e he
      rcases List.mem_cons.mp he with rfl | he
      · exact hb
      · exact h e he
    · split
      · intro e he
        rcases List.mem_cons.mp he with rfl | he
        · exact hb
        · exact ht e he
      · intro e he
        rcases List.mem_cons.mp he with rfl | he
        · exact h (j, w) (List.mem_cons_self ..)
        · exact ih ht e he

/-- Listing a key keeps the rising order. -/
theorem mapSorted_mapIns {α : Type} {m : Map α} (k : Nat) (v : α) (h : mapSorted m = true) :
    mapSorted (mapIns m k v) = true := by
  induction m with
  | nil => rfl
  | cons e t ih =>
    obtain ⟨j, w⟩ := e
    obtain ⟨ha, ht⟩ := (mapSorted_cons j w t).mp h
    simp only [mapIns]
    split
    · rename_i hk
      refine (mapSorted_cons k v _).mpr ⟨?_, h⟩
      intro e he
      rcases List.mem_cons.mp he with rfl | he
      · exact hk
      · exact Nat.lt_trans hk (ha e he)
    · split
      · rename_i hk; subst hk
        exact (mapSorted_cons j v t).mpr ⟨ha, ht⟩
      · rename_i h1 h2
        exact (mapSorted_cons j w _).mpr ⟨above_mapIns v (by omega) ha, ih ht⟩

/-- Leaving out entries keeps the rising order. -/
theorem mapSorted_filter {α : Type} {m : Map α} (p : Nat × α → Bool) (h : mapSorted m = true) :
    mapSorted (m.filter p) = true := by
  induction m with
  | nil => rfl
  | cons e t ih =>
    obtain ⟨j, w⟩ := e
    obtain ⟨ha, ht⟩ := (mapSorted_cons j w t).mp h
    by_cases hp : p (j, w) = true
    · rw [List.filter_cons_of_pos hp]
      exact (mapSorted_cons j w _).mpr ⟨fun e he => ha e (List.mem_filter.mp he).1, ih ht⟩
    · rw [List.filter_cons_of_neg hp]
      exact ih ht

/-- Removing a key keeps the rising order. -/
theorem mapSorted_mapDel {α : Type} {m : Map α} (k : Nat) (h : mapSorted m = true) : mapSorted (mapDel m k) = true :=
  mapSorted_filter _ h

/-- Writing a key keeps the rising order. -/
theorem mapSorted_mapSet {α : Type} [DecidableEq α] {m : Map α} (k : Nat) (d v : α) (h : mapSorted m = true) :
    mapSorted (mapSet m k d v) = true := by
  unfold mapSet
  split
  · exact mapSorted_mapDel k h
  · exact mapSorted_mapIns k v h

/-- What listing a key can list. -/
theorem mem_mapIns {α : Type} {m : Map α} {k : Nat} {v : α} {e : Nat × α} (h : e ∈ mapIns m k v) : e = (k, v) ∨ e ∈ m := by
  induction m with
  | nil => simp [mapIns] at h; exact .inl h
  | cons x t ih =>
    obtain ⟨j, w⟩ := x
    simp only [mapIns] at h
    split at h
    · rcases List.mem_cons.mp h with h | h
      · exact .inl h
      · exact .inr h
    · split at h
      · rcases List.mem_cons.mp h with h | h
        · exact .inl h
        · exact .inr (List.mem_cons_of_mem _ h)
      · rcases List.mem_cons.mp h with h | h
        · exact .inr (h ▸ List.mem_cons_self ..)
        · rcases ih h with h | h
          · exact .inl h
          · exact .inr (List.mem_cons_of_mem _ h)

/-- A map with defaults stays canonical when a key is set with its own default. -/
theorem mapWf_mapSet {α : Type} [DecidableEq α] {m : Map α} {d : Nat → α} (k : Nat) (v : α) (h : mapWf m d = true) :
    mapWf (mapSet m k (d k) v) d = true := by
  simp only [mapWf, Bool.and_eq_true, List.all_eq_true, decide_eq_true_eq] at h ⊢
  refine ⟨mapSorted_mapSet k _ _ h.1, fun e he => ?_⟩
  unfold mapSet at he
  split at he
  · exact h.2 e (List.mem_filter.mp he).1
  · rename_i hv
    rcases mem_mapIns he with rfl | he
    · exact hv
    · exact h.2 e he

/-- A map with defaults stays canonical when entries are left out. -/
theorem mapWf_filter {α : Type} [DecidableEq α] {m : Map α} {d : Nat → α} (p : Nat × α → Bool) (h : mapWf m d = true) :
    mapWf (m.filter p) d = true := by
  simp only [mapWf, Bool.and_eq_true, List.all_eq_true, decide_eq_true_eq] at h ⊢
  exact ⟨mapSorted_filter p h.1, fun e he => h.2 e (List.mem_filter.mp he).1⟩

/-- A read of a map of which entries are left out by key. -/
theorem mapGet_filter_key {α : Type} (m : Map α) (p : Nat → Bool) (k : Nat) (d : α) :
    mapGet (m.filter (fun e => p e.1)) k d = if p k then mapGet m k d else d := by
  induction m with
  | nil => simp [mapGet]
  | cons e t ih =>
    obtain ⟨j, w⟩ := e
    by_cases hj : j = k
    · subst hj
      by_cases hp : p j = true
      · simp [List.filter, hp, mapGet]
      · have hp' : p j = false := by simpa using hp
        rw [List.filter_cons_of_neg (by simp [hp']), ih]
        simp [hp']
    · by_cases hp : p j = true
      · rw [List.filter_cons_of_pos (by simp [hp])]
        simp only [mapGet, hj, if_false, ih]
      · rw [List.filter_cons_of_neg (by simp [hp]), ih]
        simp only [mapGet, hj, if_false]

end Sys2Proof.Machine
end

