-- ==== Sys2Proof/Laws/Regs.lean ====
section
/-! SUPPORT. Reads after writes of registers and fields, for every register and every field of the tables. -/

namespace Sys2Proof.Machine

/-! ### Keys -/

theorem Reg.ctorIdx_lt (r : Reg) : r.ctorIdx < 512 := by cases r <;> decide

theorem Reg.ctorIdx_inj {r q : Reg} (h : r.ctorIdx = q.ctorIdx) : r = q := by
  have e := congrArg Reg.ofNat h
  simpa [Reg.ofNat_ctorIdx] using e

theorem regKey_mod (r : Reg) (i : Nat) : regKey r i % 512 = r.ctorIdx := by
  have := r.ctorIdx_lt; unfold regKey; omega

theorem regKey_div (r : Reg) (i : Nat) : regKey r i / 512 = i := by
  have := r.ctorIdx_lt; unfold regKey; omega

theorem regKey_inj {r q : Reg} {i j : Nat} : regKey r i = regKey q j ↔ r = q ∧ i = j := by
  constructor
  · intro h
    exact ⟨Reg.ctorIdx_inj (by rw [← regKey_mod r i, h, regKey_mod]), by rw [← regKey_div r i, h, regKey_div]⟩
  · rintro ⟨rfl, rfl⟩; rfl

/-! ### Registers -/

/-- A register read after a register write. -/
@[simp] theorem getReg_setReg (r q : Reg) (i j : Nat) (v : BitVec 32) (s : State) :
    getReg (setReg r i v s) q j = if q = r ∧ j = i then v else getReg s q j := by
  unfold getReg setReg
  split
  · rename_i h; obtain ⟨rfl, rfl⟩ := h; simp
  · rename_i h
    exact mapGet_mapSet_ne _ _ _ _ (fun e => h (regKey_inj.mp e))

/-- A register read after a register is cleared. -/
@[simp] theorem getReg_clearReg (r q : Reg) (j : Nat) (s : State) :
    getReg (clearReg r s) q j = if q = r then regReset q j else getReg s q j := by
  unfold getReg clearReg
  simp only [mapGet_filter_key s.regs (fun k => k % 512 != r.ctorIdx), regKey_mod]
  by_cases h : q = r
  · simp [h]
  · have hn : q.ctorIdx ≠ r.ctorIdx := fun e => h (Reg.ctorIdx_inj e)
    simp [h, hn]

/-- A register read after some registers are cleared. -/
theorem getReg_clearRegs (rs : List Reg) (q : Reg) (j : Nat) (s : State) :
    getReg (clearRegs rs s) q j = if q ∈ rs then regReset q j else getReg s q j := by
  unfold clearRegs
  induction rs generalizing s with
  | nil => simp
  | cons r rs ih =>
    rw [List.foldl_cons, ih]
    by_cases h : q ∈ rs
    · simp [h]
    · by_cases e : q = r <;> simp [h, e]

/-! ### Bits -/

theorem bitsAt_lt {n : Nat} (v : BitVec n) (lo w : Nat) : bitsAt v lo w < 2 ^ w :=
  Nat.mod_lt _ (Nat.two_pow_pos w)

/-- The value of a word with some of its bits replaced. -/
theorem putBits_toNat (v : BitVec 32) (lo w x : Nat) (h : lo + w ≤ 32) :
    (putBits v lo w x).toNat
      = v.toNat % 2 ^ lo + (x % 2 ^ w) * 2 ^ lo + v.toNat / 2 ^ (lo + w) * 2 ^ (lo + w) := by
  unfold putBits
  rw [BitVec.toNat_ofNat, Nat.mod_eq_of_lt]
  have h1 : v.toNat % 2 ^ lo < 2 ^ lo := Nat.mod_lt _ (Nat.two_pow_pos lo)
  have h2 : x % 2 ^ w + 1 ≤ 2 ^ w := Nat.mod_lt _ (Nat.two_pow_pos w)
  have h3 : (x % 2 ^ w) * 2 ^ lo + 2 ^ lo ≤ 2 ^ (lo + w) := by
    have := Nat.mul_le_mul_right (2 ^ lo) h2
    rw [Nat.add_mul, Nat.one_mul, ← Nat.pow_add, Nat.add_comm w lo] at this
    exact this
  have h4 : v.toNat / 2 ^ (lo + w) + 1 ≤ 2 ^ (32 - (lo + w)) := by
    apply (Nat.div_lt_iff_lt_mul (Nat.two_pow_pos _)).mpr
    rw [← Nat.pow_add, Nat.sub_add_cancel h]
    exact v.isLt
  have h5 := Nat.mul_le_mul_right (2 ^ (lo + w)) h4
  rw [Nat.add_mul, Nat.one_mul, ← Nat.pow_add, Nat.sub_add_cancel h] at h5
  omega

/-- The replaced bits. -/
theorem bitsAt_putBits_same (v : BitVec 32) (lo w x : Nat) (h : lo + w ≤ 32) :
    bitsAt (putBits v lo w x) lo w = x % 2 ^ w := by
  unfold bitsAt
  rw [putBits_toNat v lo w x h]
  have h1 : v.toNat % 2 ^ lo < 2 ^ lo := Nat.mod_lt _ (Nat.two_pow_pos lo)
  have e : v.toNat % 2 ^ lo + (x % 2 ^ w) * 2 ^ lo + v.toNat / 2 ^ (lo + w) * 2 ^ (lo + w)
      = v.toNat % 2 ^ lo + 2 ^ lo * (x % 2 ^ w + 2 ^ w * (v.toNat / 2 ^ (lo + w))) := by
    rw [Nat.mul_add, Nat.mul_comm (2 ^ lo) (x % 2 ^ w), ← Nat.mul_assoc, ← Nat.pow_add,
      Nat.mul_comm (2 ^ (lo + w))]
    omega
  rw [e, Nat.add_mul_div_left _ _ (Nat.two_pow_pos lo), Nat.div_eq_of_lt h1, Nat.zero_add, Nat.add_mul_mod_self_left,
    Nat.mod_mod]

/-- A bit of a word with some of its bits replaced. -/
theorem getLsbD_putBits (v : BitVec 32) (lo w x k : Nat) (h : lo + w ≤ 32) :
    (putBits v lo w x).getLsbD k = if lo ≤ k ∧ k < lo + w then x.testBit (k - lo) else v.getLsbD k := by
  have h1 : v.toNat % 2 ^ lo < 2 ^ lo := Nat.mod_lt _ (Nat.two_pow_pos lo)
  have h2 : x % 2 ^ w < 2 ^ w := Nat.mod_lt _ (Nat.two_pow_pos w)
  unfold BitVec.getLsbD
  rw [putBits_toNat v lo w x h]
  have e : v.toNat % 2 ^ lo + (x % 2 ^ w) * 2 ^ lo + v.toNat / 2 ^ (lo + w) * 2 ^ (lo + w)
      = 2 ^ lo * (2 ^ w * (v.toNat / 2 ^ (lo + w)) + x % 2 ^ w) + v.toNat % 2 ^ lo := by
    rw [Nat.mul_add, ← Nat.mul_assoc, ← Nat.pow_add, Nat.mul_comm (2 ^ lo) (x % 2 ^ w),
      Nat.mul_comm (2 ^ (lo + w))]
    omega
  rw [e]
  rw [Nat.testBit_two_pow_mul_add _ h1]
  by_cases ha : k < lo
  · have : ¬ (lo ≤ k ∧ k < lo + w) := by omega
    simp [ha, this, Nat.testBit_mod_two_pow]
  · rw [Nat.testBit_two_pow_mul_add _ h2]
    by_cases hb : k - lo < w
    · have hc : lo ≤ k ∧ k < lo + w := by omega
      simp [ha, hb, hc, Nat.testBit_mod_two_pow]
    · have hc : ¬ (lo ≤ k ∧ k < lo + w) := by omega
      simp only [ha, if_false, hb, hc, Nat.testBit_div_two_pow]
      congr 1
      omega

/-- Bits apart from the replaced ones stay. -/
theorem bitsAt_putBits_ne (v : BitVec 32) (lo w x lo' w' : Nat) (h : lo + w ≤ 32)
    (hd : lo + w ≤ lo' ∨ lo' + w' ≤ lo) : bitsAt (putBits v lo w x) lo' w' = bitsAt v lo' w' := by
  unfold bitsAt
  apply Nat.eq_of_testBit_eq
  intro k
  simp only [Nat.testBit_mod_two_pow, Nat.testBit_div_two_pow]
  by_cases hk : k < w'
  · have e := getLsbD_putBits v lo w x (lo' + k) h
    have hn : ¬ (lo ≤ lo' + k ∧ lo' + k < lo + w) := by omega
    simp only [hn, if_false] at e
    simp only [BitVec.getLsbD] at e
    simp [hk, Nat.add_comm k lo', e]
  · simp [hk]

/-! ### Fields -/

/-- A field lies in its register. -/
def Fld.fits (f : Fld) : Bool := decide (f.bit + f.width ≤ 32)

/-- Two fields at their indices share no bit. -/
def apart (f : Fld) (i : Nat) (g : Fld) (j : Nat) : Bool :=
  f.reg != g.reg || i != j || decide (f.bit + f.width ≤ g.bit ∨ g.bit + g.width ≤ f.bit)

/-- A field read after it is written. -/
theorem getF_setF_same (f : Fld) (i v : Nat) (s : State) (h : f.fits = true) :
    getF (setF f i v s) f i = v % 2 ^ f.width := by
  unfold getF setF
  simp only [getReg_setReg, and_self, if_true]
  exact bitsAt_putBits_same _ _ _ _ (by simpa [Fld.fits] using h)

/-- A field read after another is written. -/
theorem getF_setF_ne (f g : Fld) (i j v : Nat) (s : State) (hf : f.fits = true) (h : apart f i g j = true) :
    getF (setF f i v s) g j = getF s g j := by
  unfold getF setF
  simp only [getReg_setReg]
  split
  · rename_i e
    obtain ⟨er, ei⟩ := e
    subst ei
    rw [← er]
    refine bitsAt_putBits_ne _ _ _ _ _ _ (by simpa [Fld.fits] using hf) ?_
    simpa [apart, er] using h
  · rfl

/-- A field read after a register write to another register or index. -/
theorem getF_setReg_ne (r : Reg) (g : Fld) (i j : Nat) (v : BitVec 32) (s : State) (h : g.reg ≠ r ∨ j ≠ i) :
    getF (setReg r i v s) g j = getF s g j := by
  unfold getF
  rw [getReg_setReg, if_neg (by rcases h with h | h <;> simp [h])]

/-- A register read after a field of another register or index is written. -/
theorem getReg_setF_ne (f : Fld) (q : Reg) (i j v : Nat) (s : State) (h : q ≠ f.reg ∨ j ≠ i) :
    getReg (setF f i v s) q j = getReg s q j := by
  unfold setF
  rw [getReg_setReg, if_neg (by rcases h with h | h <;> simp [h])]

/-- A counting field after it is bumped. -/
theorem getF_bumpBy_same (f : Fld) (i n : Nat) (s : State) (h : f.fits = true) :
    getF (bumpBy f i n s) f i = min (getF s f i + n) (2 ^ f.width - 1) := by
  unfold bumpBy
  rw [getF_setF_same _ _ _ _ h, Nat.mod_eq_of_lt]
  have := Nat.two_pow_pos f.width
  omega

theorem getF_bump_same (f : Fld) (i : Nat) (s : State) (h : f.fits = true) :
    getF (bump f i s) f i = min (getF s f i + 1) (2 ^ f.width - 1) := getF_bumpBy_same f i 1 s h

theorem getF_bumpBy_ne (f g : Fld) (i j n : Nat) (s : State) (hf : f.fits = true) (h : apart f i g j = true) :
    getF (bumpBy f i n s) g j = getF s g j := getF_setF_ne f g i j _ s hf h

theorem getF_bump_ne (f g : Fld) (i j : Nat) (s : State) (hf : f.fits = true) (h : apart f i g j = true) :
    getF (bump f i s) g j = getF s g j := getF_setF_ne f g i j _ s hf h

/-- A register pair read after it is written, at a value below 2^64. -/
theorem get64_set64_same (lo hi : Reg) (i v : Nat) (s : State) (h : lo ≠ hi) :
    get64 (set64 lo hi i v s) lo hi i = v % 2 ^ 64 := by
  unfold get64 set64
  simp [h]
  omega

end Sys2Proof.Machine
end

