-- ==== Sys2Proof/Laws/State.lean ====
section
/-! SUPPORT. What the named updates of the state leave alone: one lemma for each field and update, so that no proof
unfolds a record update. A register update touches `regs`
alone, an output `out` alone, a draw `free` alone. -/

namespace Sys2Proof.Machine

/-! ### setReg -/

@[simp] theorem setReg_time (r : Reg) (i : Nat) (v : BitVec 32) (s : State) : (setReg r i v s).time = s.time := by dsimp only [setReg]
@[simp] theorem setReg_free (r : Reg) (i : Nat) (v : BitVec 32) (s : State) : (setReg r i v s).free = s.free := by dsimp only [setReg]
@[simp] theorem setReg_pending (r : Reg) (i : Nat) (v : BitVec 32) (s : State) : (setReg r i v s).pending = s.pending := by dsimp only [setReg]
@[simp] theorem setReg_out (r : Reg) (i : Nat) (v : BitVec 32) (s : State) : (setReg r i v s).out = s.out := by dsimp only [setReg]
@[simp] theorem setReg_evt (r : Reg) (i : Nat) (v : BitVec 32) (s : State) : (setReg r i v s).evt = s.evt := by dsimp only [setReg]
@[simp] theorem setReg_msh (r : Reg) (i : Nat) (v : BitVec 32) (s : State) : (setReg r i v s).msh = s.msh := by dsimp only [setReg]
@[simp] theorem setReg_pci (r : Reg) (i : Nat) (v : BitVec 32) (s : State) : (setReg r i v s).pci = s.pci := by dsimp only [setReg]
@[simp] theorem setReg_reef (r : Reg) (i : Nat) (v : BitVec 32) (s : State) : (setReg r i v s).reef = s.reef := by dsimp only [setReg]
@[simp] theorem setReg_mem (r : Reg) (i : Nat) (v : BitVec 32) (s : State) : (setReg r i v s).mem = s.mem := by dsimp only [setReg]
@[simp] theorem setReg_qos (r : Reg) (i : Nat) (v : BitVec 32) (s : State) : (setReg r i v s).qos = s.qos := by dsimp only [setReg]
@[simp] theorem setReg_hld (r : Reg) (i : Nat) (v : BitVec 32) (s : State) : (setReg r i v s).hld = s.hld := by dsimp only [setReg]
@[simp] theorem setReg_xlt (r : Reg) (i : Nat) (v : BitVec 32) (s : State) : (setReg r i v s).xlt = s.xlt := by dsimp only [setReg]
@[simp] theorem setReg_tq (r : Reg) (i : Nat) (v : BitVec 32) (s : State) : (setReg r i v s).tq = s.tq := by dsimp only [setReg]
@[simp] theorem setReg_bead (r : Reg) (i : Nat) (v : BitVec 32) (s : State) : (setReg r i v s).bead = s.bead := by dsimp only [setReg]
@[simp] theorem setReg_hbl (r : Reg) (i : Nat) (v : BitVec 32) (s : State) : (setReg r i v s).hbl = s.hbl := by dsimp only [setReg]
@[simp] theorem setReg_shl (r : Reg) (i : Nat) (v : BitVec 32) (s : State) : (setReg r i v s).shl = s.shl := by dsimp only [setReg]
@[simp] theorem setReg_twy (r : Reg) (i : Nat) (v : BitVec 32) (s : State) : (setReg r i v s).twy = s.twy := by dsimp only [setReg]
@[simp] theorem setReg_brk (r : Reg) (i : Nat) (v : BitVec 32) (s : State) : (setReg r i v s).brk = s.brk := by dsimp only [setReg]
@[simp] theorem setReg_fwu (r : Reg) (i : Nat) (v : BitVec 32) (s : State) : (setReg r i v s).fwu = s.fwu := by dsimp only [setReg]
@[simp] theorem setReg_rst (r : Reg) (i : Nat) (v : BitVec 32) (s : State) : (setReg r i v s).rst = s.rst := by dsimp only [setReg]

/-! ### setF -/

@[simp] theorem setF_time (f : Fld) (i v : Nat) (s : State) : (setF f i v s).time = s.time := by simp only [setF, setReg_time]
@[simp] theorem setF_free (f : Fld) (i v : Nat) (s : State) : (setF f i v s).free = s.free := by simp only [setF, setReg_free]
@[simp] theorem setF_pending (f : Fld) (i v : Nat) (s : State) : (setF f i v s).pending = s.pending := by simp only [setF, setReg_pending]
@[simp] theorem setF_out (f : Fld) (i v : Nat) (s : State) : (setF f i v s).out = s.out := by simp only [setF, setReg_out]
@[simp] theorem setF_evt (f : Fld) (i v : Nat) (s : State) : (setF f i v s).evt = s.evt := by simp only [setF, setReg_evt]
@[simp] theorem setF_msh (f : Fld) (i v : Nat) (s : State) : (setF f i v s).msh = s.msh := by simp only [setF, setReg_msh]
@[simp] theorem setF_pci (f : Fld) (i v : Nat) (s : State) : (setF f i v s).pci = s.pci := by simp only [setF, setReg_pci]
@[simp] theorem setF_reef (f : Fld) (i v : Nat) (s : State) : (setF f i v s).reef = s.reef := by simp only [setF, setReg_reef]
@[simp] theorem setF_mem (f : Fld) (i v : Nat) (s : State) : (setF f i v s).mem = s.mem := by simp only [setF, setReg_mem]
@[simp] theorem setF_qos (f : Fld) (i v : Nat) (s : State) : (setF f i v s).qos = s.qos := by simp only [setF, setReg_qos]
@[simp] theorem setF_hld (f : Fld) (i v : Nat) (s : State) : (setF f i v s).hld = s.hld := by simp only [setF, setReg_hld]
@[simp] theorem setF_xlt (f : Fld) (i v : Nat) (s : State) : (setF f i v s).xlt = s.xlt := by simp only [setF, setReg_xlt]
@[simp] theorem setF_tq (f : Fld) (i v : Nat) (s : State) : (setF f i v s).tq = s.tq := by simp only [setF, setReg_tq]
@[simp] theorem setF_bead (f : Fld) (i v : Nat) (s : State) : (setF f i v s).bead = s.bead := by simp only [setF, setReg_bead]
@[simp] theorem setF_hbl (f : Fld) (i v : Nat) (s : State) : (setF f i v s).hbl = s.hbl := by simp only [setF, setReg_hbl]
@[simp] theorem setF_shl (f : Fld) (i v : Nat) (s : State) : (setF f i v s).shl = s.shl := by simp only [setF, setReg_shl]
@[simp] theorem setF_twy (f : Fld) (i v : Nat) (s : State) : (setF f i v s).twy = s.twy := by simp only [setF, setReg_twy]
@[simp] theorem setF_brk (f : Fld) (i v : Nat) (s : State) : (setF f i v s).brk = s.brk := by simp only [setF, setReg_brk]
@[simp] theorem setF_fwu (f : Fld) (i v : Nat) (s : State) : (setF f i v s).fwu = s.fwu := by simp only [setF, setReg_fwu]
@[simp] theorem setF_rst (f : Fld) (i v : Nat) (s : State) : (setF f i v s).rst = s.rst := by simp only [setF, setReg_rst]

/-! ### bumpBy -/

@[simp] theorem bumpBy_time (f : Fld) (i n : Nat) (s : State) : (bumpBy f i n s).time = s.time := by simp only [bumpBy, setF_time]
@[simp] theorem bumpBy_free (f : Fld) (i n : Nat) (s : State) : (bumpBy f i n s).free = s.free := by simp only [bumpBy, setF_free]
@[simp] theorem bumpBy_pending (f : Fld) (i n : Nat) (s : State) : (bumpBy f i n s).pending = s.pending := by simp only [bumpBy, setF_pending]
@[simp] theorem bumpBy_out (f : Fld) (i n : Nat) (s : State) : (bumpBy f i n s).out = s.out := by simp only [bumpBy, setF_out]
@[simp] theorem bumpBy_evt (f : Fld) (i n : Nat) (s : State) : (bumpBy f i n s).evt = s.evt := by simp only [bumpBy, setF_evt]
@[simp] theorem bumpBy_msh (f : Fld) (i n : Nat) (s : State) : (bumpBy f i n s).msh = s.msh := by simp only [bumpBy, setF_msh]
@[simp] theorem bumpBy_pci (f : Fld) (i n : Nat) (s : State) : (bumpBy f i n s).pci = s.pci := by simp only [bumpBy, setF_pci]
@[simp] theorem bumpBy_reef (f : Fld) (i n : Nat) (s : State) : (bumpBy f i n s).reef = s.reef := by simp only [bumpBy, setF_reef]
@[simp] theorem bumpBy_mem (f : Fld) (i n : Nat) (s : State) : (bumpBy f i n s).mem = s.mem := by simp only [bumpBy, setF_mem]
@[simp] theorem bumpBy_qos (f : Fld) (i n : Nat) (s : State) : (bumpBy f i n s).qos = s.qos := by simp only [bumpBy, setF_qos]
@[simp] theorem bumpBy_hld (f : Fld) (i n : Nat) (s : State) : (bumpBy f i n s).hld = s.hld := by simp only [bumpBy, setF_hld]
@[simp] theorem bumpBy_xlt (f : Fld) (i n : Nat) (s : State) : (bumpBy f i n s).xlt = s.xlt := by simp only [bumpBy, setF_xlt]
@[simp] theorem bumpBy_tq (f : Fld) (i n : Nat) (s : State) : (bumpBy f i n s).tq = s.tq := by simp only [bumpBy, setF_tq]
@[simp] theorem bumpBy_bead (f : Fld) (i n : Nat) (s : State) : (bumpBy f i n s).bead = s.bead := by simp only [bumpBy, setF_bead]
@[simp] theorem bumpBy_hbl (f : Fld) (i n : Nat) (s : State) : (bumpBy f i n s).hbl = s.hbl := by simp only [bumpBy, setF_hbl]
@[simp] theorem bumpBy_shl (f : Fld) (i n : Nat) (s : State) : (bumpBy f i n s).shl = s.shl := by simp only [bumpBy, setF_shl]
@[simp] theorem bumpBy_twy (f : Fld) (i n : Nat) (s : State) : (bumpBy f i n s).twy = s.twy := by simp only [bumpBy, setF_twy]
@[simp] theorem bumpBy_brk (f : Fld) (i n : Nat) (s : State) : (bumpBy f i n s).brk = s.brk := by simp only [bumpBy, setF_brk]
@[simp] theorem bumpBy_fwu (f : Fld) (i n : Nat) (s : State) : (bumpBy f i n s).fwu = s.fwu := by simp only [bumpBy, setF_fwu]
@[simp] theorem bumpBy_rst (f : Fld) (i n : Nat) (s : State) : (bumpBy f i n s).rst = s.rst := by simp only [bumpBy, setF_rst]

/-! ### bump -/

@[simp] theorem bump_time (f : Fld) (i : Nat) (s : State) : (bump f i s).time = s.time := by simp only [bump, bumpBy_time]
@[simp] theorem bump_free (f : Fld) (i : Nat) (s : State) : (bump f i s).free = s.free := by simp only [bump, bumpBy_free]
@[simp] theorem bump_pending (f : Fld) (i : Nat) (s : State) : (bump f i s).pending = s.pending := by simp only [bump, bumpBy_pending]
@[simp] theorem bump_out (f : Fld) (i : Nat) (s : State) : (bump f i s).out = s.out := by simp only [bump, bumpBy_out]
@[simp] theorem bump_evt (f : Fld) (i : Nat) (s : State) : (bump f i s).evt = s.evt := by simp only [bump, bumpBy_evt]
@[simp] theorem bump_msh (f : Fld) (i : Nat) (s : State) : (bump f i s).msh = s.msh := by simp only [bump, bumpBy_msh]
@[simp] theorem bump_pci (f : Fld) (i : Nat) (s : State) : (bump f i s).pci = s.pci := by simp only [bump, bumpBy_pci]
@[simp] theorem bump_reef (f : Fld) (i : Nat) (s : State) : (bump f i s).reef = s.reef := by simp only [bump, bumpBy_reef]
@[simp] theorem bump_mem (f : Fld) (i : Nat) (s : State) : (bump f i s).mem = s.mem := by simp only [bump, bumpBy_mem]
@[simp] theorem bump_qos (f : Fld) (i : Nat) (s : State) : (bump f i s).qos = s.qos := by simp only [bump, bumpBy_qos]
@[simp] theorem bump_hld (f : Fld) (i : Nat) (s : State) : (bump f i s).hld = s.hld := by simp only [bump, bumpBy_hld]
@[simp] theorem bump_xlt (f : Fld) (i : Nat) (s : State) : (bump f i s).xlt = s.xlt := by simp only [bump, bumpBy_xlt]
@[simp] theorem bump_tq (f : Fld) (i : Nat) (s : State) : (bump f i s).tq = s.tq := by simp only [bump, bumpBy_tq]
@[simp] theorem bump_bead (f : Fld) (i : Nat) (s : State) : (bump f i s).bead = s.bead := by simp only [bump, bumpBy_bead]
@[simp] theorem bump_hbl (f : Fld) (i : Nat) (s : State) : (bump f i s).hbl = s.hbl := by simp only [bump, bumpBy_hbl]
@[simp] theorem bump_shl (f : Fld) (i : Nat) (s : State) : (bump f i s).shl = s.shl := by simp only [bump, bumpBy_shl]
@[simp] theorem bump_twy (f : Fld) (i : Nat) (s : State) : (bump f i s).twy = s.twy := by simp only [bump, bumpBy_twy]
@[simp] theorem bump_brk (f : Fld) (i : Nat) (s : State) : (bump f i s).brk = s.brk := by simp only [bump, bumpBy_brk]
@[simp] theorem bump_fwu (f : Fld) (i : Nat) (s : State) : (bump f i s).fwu = s.fwu := by simp only [bump, bumpBy_fwu]
@[simp] theorem bump_rst (f : Fld) (i : Nat) (s : State) : (bump f i s).rst = s.rst := by simp only [bump, bumpBy_rst]

/-! ### set64 -/

@[simp] theorem set64_time (lo hi : Reg) (i v : Nat) (s : State) : (set64 lo hi i v s).time = s.time := by simp only [set64, setReg_time]
@[simp] theorem set64_free (lo hi : Reg) (i v : Nat) (s : State) : (set64 lo hi i v s).free = s.free := by simp only [set64, setReg_free]
@[simp] theorem set64_pending (lo hi : Reg) (i v : Nat) (s : State) : (set64 lo hi i v s).pending = s.pending := by simp only [set64, setReg_pending]
@[simp] theorem set64_out (lo hi : Reg) (i v : Nat) (s : State) : (set64 lo hi i v s).out = s.out := by simp only [set64, setReg_out]
@[simp] theorem set64_evt (lo hi : Reg) (i v : Nat) (s : State) : (set64 lo hi i v s).evt = s.evt := by simp only [set64, setReg_evt]
@[simp] theorem set64_msh (lo hi : Reg) (i v : Nat) (s : State) : (set64 lo hi i v s).msh = s.msh := by simp only [set64, setReg_msh]
@[simp] theorem set64_pci (lo hi : Reg) (i v : Nat) (s : State) : (set64 lo hi i v s).pci = s.pci := by simp only [set64, setReg_pci]
@[simp] theorem set64_reef (lo hi : Reg) (i v : Nat) (s : State) : (set64 lo hi i v s).reef = s.reef := by simp only [set64, setReg_reef]
@[simp] theorem set64_mem (lo hi : Reg) (i v : Nat) (s : State) : (set64 lo hi i v s).mem = s.mem := by simp only [set64, setReg_mem]
@[simp] theorem set64_qos (lo hi : Reg) (i v : Nat) (s : State) : (set64 lo hi i v s).qos = s.qos := by simp only [set64, setReg_qos]
@[simp] theorem set64_hld (lo hi : Reg) (i v : Nat) (s : State) : (set64 lo hi i v s).hld = s.hld := by simp only [set64, setReg_hld]
@[simp] theorem set64_xlt (lo hi : Reg) (i v : Nat) (s : State) : (set64 lo hi i v s).xlt = s.xlt := by simp only [set64, setReg_xlt]
@[simp] theorem set64_tq (lo hi : Reg) (i v : Nat) (s : State) : (set64 lo hi i v s).tq = s.tq := by simp only [set64, setReg_tq]
@[simp] theorem set64_bead (lo hi : Reg) (i v : Nat) (s : State) : (set64 lo hi i v s).bead = s.bead := by simp only [set64, setReg_bead]
@[simp] theorem set64_hbl (lo hi : Reg) (i v : Nat) (s : State) : (set64 lo hi i v s).hbl = s.hbl := by simp only [set64, setReg_hbl]
@[simp] theorem set64_shl (lo hi : Reg) (i v : Nat) (s : State) : (set64 lo hi i v s).shl = s.shl := by simp only [set64, setReg_shl]
@[simp] theorem set64_twy (lo hi : Reg) (i v : Nat) (s : State) : (set64 lo hi i v s).twy = s.twy := by simp only [set64, setReg_twy]
@[simp] theorem set64_brk (lo hi : Reg) (i v : Nat) (s : State) : (set64 lo hi i v s).brk = s.brk := by simp only [set64, setReg_brk]
@[simp] theorem set64_fwu (lo hi : Reg) (i v : Nat) (s : State) : (set64 lo hi i v s).fwu = s.fwu := by simp only [set64, setReg_fwu]
@[simp] theorem set64_rst (lo hi : Reg) (i v : Nat) (s : State) : (set64 lo hi i v s).rst = s.rst := by simp only [set64, setReg_rst]

/-! ### add64 -/

@[simp] theorem add64_time (lo hi : Reg) (i n : Nat) (s : State) : (add64 lo hi i n s).time = s.time := by simp only [add64, set64_time]
@[simp] theorem add64_free (lo hi : Reg) (i n : Nat) (s : State) : (add64 lo hi i n s).free = s.free := by simp only [add64, set64_free]
@[simp] theorem add64_pending (lo hi : Reg) (i n : Nat) (s : State) : (add64 lo hi i n s).pending = s.pending := by simp only [add64, set64_pending]
@[simp] theorem add64_out (lo hi : Reg) (i n : Nat) (s : State) : (add64 lo hi i n s).out = s.out := by simp only [add64, set64_out]
@[simp] theorem add64_evt (lo hi : Reg) (i n : Nat) (s : State) : (add64 lo hi i n s).evt = s.evt := by simp only [add64, set64_evt]
@[simp] theorem add64_msh (lo hi : Reg) (i n : Nat) (s : State) : (add64 lo hi i n s).msh = s.msh := by simp only [add64, set64_msh]
@[simp] theorem add64_pci (lo hi : Reg) (i n : Nat) (s : State) : (add64 lo hi i n s).pci = s.pci := by simp only [add64, set64_pci]
@[simp] theorem add64_reef (lo hi : Reg) (i n : Nat) (s : State) : (add64 lo hi i n s).reef = s.reef := by simp only [add64, set64_reef]
@[simp] theorem add64_mem (lo hi : Reg) (i n : Nat) (s : State) : (add64 lo hi i n s).mem = s.mem := by simp only [add64, set64_mem]
@[simp] theorem add64_qos (lo hi : Reg) (i n : Nat) (s : State) : (add64 lo hi i n s).qos = s.qos := by simp only [add64, set64_qos]
@[simp] theorem add64_hld (lo hi : Reg) (i n : Nat) (s : State) : (add64 lo hi i n s).hld = s.hld := by simp only [add64, set64_hld]
@[simp] theorem add64_xlt (lo hi : Reg) (i n : Nat) (s : State) : (add64 lo hi i n s).xlt = s.xlt := by simp only [add64, set64_xlt]
@[simp] theorem add64_tq (lo hi : Reg) (i n : Nat) (s : State) : (add64 lo hi i n s).tq = s.tq := by simp only [add64, set64_tq]
@[simp] theorem add64_bead (lo hi : Reg) (i n : Nat) (s : State) : (add64 lo hi i n s).bead = s.bead := by simp only [add64, set64_bead]
@[simp] theorem add64_hbl (lo hi : Reg) (i n : Nat) (s : State) : (add64 lo hi i n s).hbl = s.hbl := by simp only [add64, set64_hbl]
@[simp] theorem add64_shl (lo hi : Reg) (i n : Nat) (s : State) : (add64 lo hi i n s).shl = s.shl := by simp only [add64, set64_shl]
@[simp] theorem add64_twy (lo hi : Reg) (i n : Nat) (s : State) : (add64 lo hi i n s).twy = s.twy := by simp only [add64, set64_twy]
@[simp] theorem add64_brk (lo hi : Reg) (i n : Nat) (s : State) : (add64 lo hi i n s).brk = s.brk := by simp only [add64, set64_brk]
@[simp] theorem add64_fwu (lo hi : Reg) (i n : Nat) (s : State) : (add64 lo hi i n s).fwu = s.fwu := by simp only [add64, set64_fwu]
@[simp] theorem add64_rst (lo hi : Reg) (i n : Nat) (s : State) : (add64 lo hi i n s).rst = s.rst := by simp only [add64, set64_rst]

/-! ### clearReg -/

@[simp] theorem clearReg_time (r : Reg) (s : State) : (clearReg r s).time = s.time := by dsimp only [clearReg]
@[simp] theorem clearReg_free (r : Reg) (s : State) : (clearReg r s).free = s.free := by dsimp only [clearReg]
@[simp] theorem clearReg_pending (r : Reg) (s : State) : (clearReg r s).pending = s.pending := by dsimp only [clearReg]
@[simp] theorem clearReg_out (r : Reg) (s : State) : (clearReg r s).out = s.out := by dsimp only [clearReg]
@[simp] theorem clearReg_evt (r : Reg) (s : State) : (clearReg r s).evt = s.evt := by dsimp only [clearReg]
@[simp] theorem clearReg_msh (r : Reg) (s : State) : (clearReg r s).msh = s.msh := by dsimp only [clearReg]
@[simp] theorem clearReg_pci (r : Reg) (s : State) : (clearReg r s).pci = s.pci := by dsimp only [clearReg]
@[simp] theorem clearReg_reef (r : Reg) (s : State) : (clearReg r s).reef = s.reef := by dsimp only [clearReg]
@[simp] theorem clearReg_mem (r : Reg) (s : State) : (clearReg r s).mem = s.mem := by dsimp only [clearReg]
@[simp] theorem clearReg_qos (r : Reg) (s : State) : (clearReg r s).qos = s.qos := by dsimp only [clearReg]
@[simp] theorem clearReg_hld (r : Reg) (s : State) : (clearReg r s).hld = s.hld := by dsimp only [clearReg]
@[simp] theorem clearReg_xlt (r : Reg) (s : State) : (clearReg r s).xlt = s.xlt := by dsimp only [clearReg]
@[simp] theorem clearReg_tq (r : Reg) (s : State) : (clearReg r s).tq = s.tq := by dsimp only [clearReg]
@[simp] theorem clearReg_bead (r : Reg) (s : State) : (clearReg r s).bead = s.bead := by dsimp only [clearReg]
@[simp] theorem clearReg_hbl (r : Reg) (s : State) : (clearReg r s).hbl = s.hbl := by dsimp only [clearReg]
@[simp] theorem clearReg_shl (r : Reg) (s : State) : (clearReg r s).shl = s.shl := by dsimp only [clearReg]
@[simp] theorem clearReg_twy (r : Reg) (s : State) : (clearReg r s).twy = s.twy := by dsimp only [clearReg]
@[simp] theorem clearReg_brk (r : Reg) (s : State) : (clearReg r s).brk = s.brk := by dsimp only [clearReg]
@[simp] theorem clearReg_fwu (r : Reg) (s : State) : (clearReg r s).fwu = s.fwu := by dsimp only [clearReg]
@[simp] theorem clearReg_rst (r : Reg) (s : State) : (clearReg r s).rst = s.rst := by dsimp only [clearReg]

/-! ### setPhase -/

@[simp] theorem setPhase_time (p : Nat) (s : State) : (setPhase p s).time = s.time := by simp only [setPhase, setF_time]
@[simp] theorem setPhase_free (p : Nat) (s : State) : (setPhase p s).free = s.free := by simp only [setPhase, setF_free]
@[simp] theorem setPhase_pending (p : Nat) (s : State) : (setPhase p s).pending = s.pending := by simp only [setPhase, setF_pending]
@[simp] theorem setPhase_out (p : Nat) (s : State) : (setPhase p s).out = s.out := by simp only [setPhase, setF_out]
@[simp] theorem setPhase_evt (p : Nat) (s : State) : (setPhase p s).evt = s.evt := by simp only [setPhase, setF_evt]
@[simp] theorem setPhase_msh (p : Nat) (s : State) : (setPhase p s).msh = s.msh := by simp only [setPhase, setF_msh]
@[simp] theorem setPhase_pci (p : Nat) (s : State) : (setPhase p s).pci = s.pci := by simp only [setPhase, setF_pci]
@[simp] theorem setPhase_reef (p : Nat) (s : State) : (setPhase p s).reef = s.reef := by simp only [setPhase, setF_reef]
@[simp] theorem setPhase_mem (p : Nat) (s : State) : (setPhase p s).mem = s.mem := by simp only [setPhase, setF_mem]
@[simp] theorem setPhase_qos (p : Nat) (s : State) : (setPhase p s).qos = s.qos := by simp only [setPhase, setF_qos]
@[simp] theorem setPhase_hld (p : Nat) (s : State) : (setPhase p s).hld = s.hld := by simp only [setPhase, setF_hld]
@[simp] theorem setPhase_xlt (p : Nat) (s : State) : (setPhase p s).xlt = s.xlt := by simp only [setPhase, setF_xlt]
@[simp] theorem setPhase_tq (p : Nat) (s : State) : (setPhase p s).tq = s.tq := by simp only [setPhase, setF_tq]
@[simp] theorem setPhase_bead (p : Nat) (s : State) : (setPhase p s).bead = s.bead := by simp only [setPhase, setF_bead]
@[simp] theorem setPhase_hbl (p : Nat) (s : State) : (setPhase p s).hbl = s.hbl := by simp only [setPhase, setF_hbl]
@[simp] theorem setPhase_shl (p : Nat) (s : State) : (setPhase p s).shl = s.shl := by simp only [setPhase, setF_shl]
@[simp] theorem setPhase_twy (p : Nat) (s : State) : (setPhase p s).twy = s.twy := by simp only [setPhase, setF_twy]
@[simp] theorem setPhase_brk (p : Nat) (s : State) : (setPhase p s).brk = s.brk := by simp only [setPhase, setF_brk]
@[simp] theorem setPhase_fwu (p : Nat) (s : State) : (setPhase p s).fwu = s.fwu := by simp only [setPhase, setF_fwu]
@[simp] theorem setPhase_rst (p : Nat) (s : State) : (setPhase p s).rst = s.rst := by simp only [setPhase, setF_rst]

/-! ### draw -/

@[simp] theorem draw_regs (w : Nat) (s : State) : ((draw w s).2).regs = s.regs := by dsimp only [draw]
@[simp] theorem draw_time (w : Nat) (s : State) : ((draw w s).2).time = s.time := by dsimp only [draw]
@[simp] theorem draw_pending (w : Nat) (s : State) : ((draw w s).2).pending = s.pending := by dsimp only [draw]
@[simp] theorem draw_out (w : Nat) (s : State) : ((draw w s).2).out = s.out := by dsimp only [draw]
@[simp] theorem draw_evt (w : Nat) (s : State) : ((draw w s).2).evt = s.evt := by dsimp only [draw]
@[simp] theorem draw_msh (w : Nat) (s : State) : ((draw w s).2).msh = s.msh := by dsimp only [draw]
@[simp] theorem draw_pci (w : Nat) (s : State) : ((draw w s).2).pci = s.pci := by dsimp only [draw]
@[simp] theorem draw_reef (w : Nat) (s : State) : ((draw w s).2).reef = s.reef := by dsimp only [draw]
@[simp] theorem draw_mem (w : Nat) (s : State) : ((draw w s).2).mem = s.mem := by dsimp only [draw]
@[simp] theorem draw_qos (w : Nat) (s : State) : ((draw w s).2).qos = s.qos := by dsimp only [draw]
@[simp] theorem draw_hld (w : Nat) (s : State) : ((draw w s).2).hld = s.hld := by dsimp only [draw]
@[simp] theorem draw_xlt (w : Nat) (s : State) : ((draw w s).2).xlt = s.xlt := by dsimp only [draw]
@[simp] theorem draw_tq (w : Nat) (s : State) : ((draw w s).2).tq = s.tq := by dsimp only [draw]
@[simp] theorem draw_bead (w : Nat) (s : State) : ((draw w s).2).bead = s.bead := by dsimp only [draw]
@[simp] theorem draw_hbl (w : Nat) (s : State) : ((draw w s).2).hbl = s.hbl := by dsimp only [draw]
@[simp] theorem draw_shl (w : Nat) (s : State) : ((draw w s).2).shl = s.shl := by dsimp only [draw]
@[simp] theorem draw_twy (w : Nat) (s : State) : ((draw w s).2).twy = s.twy := by dsimp only [draw]
@[simp] theorem draw_brk (w : Nat) (s : State) : ((draw w s).2).brk = s.brk := by dsimp only [draw]
@[simp] theorem draw_fwu (w : Nat) (s : State) : ((draw w s).2).fwu = s.fwu := by dsimp only [draw]
@[simp] theorem draw_rst (w : Nat) (s : State) : ((draw w s).2).rst = s.rst := by dsimp only [draw]

/-! ### clearRegs -/

/-- Clearing registers touches `regs` alone. -/
theorem clearRegs_rest (rs : List Reg) (s : State) : clearRegs rs s = { s with regs := (clearRegs rs s).regs } := by
  unfold clearRegs
  induction rs generalizing s with
  | nil => rfl
  | cons r rs ih => rw [List.foldl_cons, ih]; rfl

@[simp] theorem clearRegs_time (rs : List Reg) (s : State) : (clearRegs rs s).time = s.time := by rw [clearRegs_rest]
@[simp] theorem clearRegs_free (rs : List Reg) (s : State) : (clearRegs rs s).free = s.free := by rw [clearRegs_rest]
@[simp] theorem clearRegs_pending (rs : List Reg) (s : State) : (clearRegs rs s).pending = s.pending := by rw [clearRegs_rest]
@[simp] theorem clearRegs_out (rs : List Reg) (s : State) : (clearRegs rs s).out = s.out := by rw [clearRegs_rest]
@[simp] theorem clearRegs_evt (rs : List Reg) (s : State) : (clearRegs rs s).evt = s.evt := by rw [clearRegs_rest]
@[simp] theorem clearRegs_msh (rs : List Reg) (s : State) : (clearRegs rs s).msh = s.msh := by rw [clearRegs_rest]
@[simp] theorem clearRegs_pci (rs : List Reg) (s : State) : (clearRegs rs s).pci = s.pci := by rw [clearRegs_rest]
@[simp] theorem clearRegs_reef (rs : List Reg) (s : State) : (clearRegs rs s).reef = s.reef := by rw [clearRegs_rest]
@[simp] theorem clearRegs_mem (rs : List Reg) (s : State) : (clearRegs rs s).mem = s.mem := by rw [clearRegs_rest]
@[simp] theorem clearRegs_qos (rs : List Reg) (s : State) : (clearRegs rs s).qos = s.qos := by rw [clearRegs_rest]
@[simp] theorem clearRegs_hld (rs : List Reg) (s : State) : (clearRegs rs s).hld = s.hld := by rw [clearRegs_rest]
@[simp] theorem clearRegs_xlt (rs : List Reg) (s : State) : (clearRegs rs s).xlt = s.xlt := by rw [clearRegs_rest]
@[simp] theorem clearRegs_tq (rs : List Reg) (s : State) : (clearRegs rs s).tq = s.tq := by rw [clearRegs_rest]
@[simp] theorem clearRegs_bead (rs : List Reg) (s : State) : (clearRegs rs s).bead = s.bead := by rw [clearRegs_rest]
@[simp] theorem clearRegs_hbl (rs : List Reg) (s : State) : (clearRegs rs s).hbl = s.hbl := by rw [clearRegs_rest]
@[simp] theorem clearRegs_shl (rs : List Reg) (s : State) : (clearRegs rs s).shl = s.shl := by rw [clearRegs_rest]
@[simp] theorem clearRegs_twy (rs : List Reg) (s : State) : (clearRegs rs s).twy = s.twy := by rw [clearRegs_rest]
@[simp] theorem clearRegs_brk (rs : List Reg) (s : State) : (clearRegs rs s).brk = s.brk := by rw [clearRegs_rest]
@[simp] theorem clearRegs_fwu (rs : List Reg) (s : State) : (clearRegs rs s).fwu = s.fwu := by rw [clearRegs_rest]
@[simp] theorem clearRegs_rst (rs : List Reg) (s : State) : (clearRegs rs s).rst = s.rst := by rw [clearRegs_rest]

end Sys2Proof.Machine
end

