-- ==== Sys2Proof/Laws/Events.lean ====
section
/-! SUPPORT. What posting an event and sending a request to the host can change: nothing beyond the event rings, the host
port's queues, the outputs, and the few registers that count them. -/

namespace Sys2Proof.Machine

/-- What the event and host-port operations may change of the state: these fields, and of the registers these. -/
def postReg (r : Reg) : Bool :=
  match r with
  | .EVT_SEVCNT | .EVT_LOST | .EVT_TAIL | .EVT_STAT | .PCI_DMAWR_LO | .PCI_DMAWR_HI => true
  | _ => false

/-- Two states agree on everything that posting an event leaves alone. -/
structure PostFrame (s t : State) : Prop where
  reg : ∀ r i, postReg r = false → getReg t r i = getReg s r i
  time : t.time = s.time
  free : t.free = s.free
  pending : t.pending = s.pending
  msh : t.msh = s.msh
  reef : t.reef = s.reef
  mem : t.mem = s.mem
  hld : t.hld = s.hld
  xlt : t.xlt = s.xlt
  tq : t.tq = s.tq
  bead : t.bead = s.bead
  hbl : t.hbl = s.hbl
  shl : t.shl = s.shl
  twy : t.twy = s.twy
  brk : t.brk = s.brk
  fwu : t.fwu = s.fwu
  rst : t.rst = s.rst
  ready : t.evt.ready = s.evt.ready
  unmasked : t.pci.unmasked = s.pci.unmasked
  vfEn : t.pci.vfEn = s.pci.vfEn
  shadow : t.pci.shadow = s.pci.shadow
  loHeld : t.pci.loHeld = s.pci.loHeld
  nextTag : t.pci.nextTag = s.pci.nextTag

theorem PostFrame.refl (s : State) : PostFrame s s := by constructor <;> intros <;> rfl

theorem PostFrame.trans {s t u : State} (h : PostFrame s t) (k : PostFrame t u) : PostFrame s u where
  reg r i e := (k.reg r i e).trans (h.reg r i e)
  time := k.time.trans h.time
  free := k.free.trans h.free
  pending := k.pending.trans h.pending
  msh := k.msh.trans h.msh
  reef := k.reef.trans h.reef
  mem := k.mem.trans h.mem
  hld := k.hld.trans h.hld
  xlt := k.xlt.trans h.xlt
  tq := k.tq.trans h.tq
  bead := k.bead.trans h.bead
  hbl := k.hbl.trans h.hbl
  shl := k.shl.trans h.shl
  twy := k.twy.trans h.twy
  brk := k.brk.trans h.brk
  fwu := k.fwu.trans h.fwu
  rst := k.rst.trans h.rst
  ready := k.ready.trans h.ready
  unmasked := k.unmasked.trans h.unmasked
  vfEn := k.vfEn.trans h.vfEn
  shadow := k.shadow.trans h.shadow
  loHeld := k.loHeld.trans h.loHeld
  nextTag := k.nextTag.trans h.nextTag

/-- A write to one of the registers that posting may change. -/
theorem PostFrame.setReg (r : Reg) (i : Nat) (v : BitVec 32) (s : State) (h : postReg r = true) :
    PostFrame s (Machine.setReg r i v s) := by
  constructor <;> intros <;> try rfl
  rename_i q j hq
  rw [getReg_setReg, if_neg]
  rintro ⟨rfl, -⟩
  simp [h] at hq

/-- Changes of the fields that posting may change. -/
theorem PostFrame.evt (s : State) (e : EvtState) (h : e.ready = s.evt.ready) : PostFrame s { s with evt := e } := by
  constructor <;> intros <;> first | rfl | exact h

theorem PostFrame.out (s : State) (l : List Out) : PostFrame s { s with out := l } := by
  constructor <;> intros <;> rfl

theorem PostFrame.qos (s : State) (q : QosState) : PostFrame s { s with qos := q } := by
  constructor <;> intros <;> rfl

theorem PostFrame.pciHeld (s : State) (l : List HostReq) : PostFrame s { s with pci := { s.pci with held := l } } := by
  constructor <;> intros <;> rfl

theorem PostFrame.vecPend (s : State) (m : Map Bool) : PostFrame s { s with pci := { s.pci with vecPend := m } } := by
  constructor <;> intros <;> rfl

theorem PostFrame.setF (f : Fld) (i v : Nat) (s : State) (h : postReg f.reg = true) :
    PostFrame s (Machine.setF f i v s) := PostFrame.setReg _ _ _ _ h

/-- A fold of steps that each keep the frame keeps it. -/
theorem PostFrame.foldl {α : Type} (g : State → α → State) (h : ∀ u a, PostFrame u (g u a)) (l : List α) (s : State) :
    PostFrame s (l.foldl g s) := by
  induction l generalizing s with
  | nil => exact .refl s
  | cons a l ih => exact (h s a).trans (ih (g s a))

theorem PostFrame.hostEmit (r : HostReq) (s : State) : PostFrame s (Machine.hostEmit r s) := by
  unfold Machine.hostEmit add64 set64
  exact (PostFrame.out s _).trans ((PostFrame.setReg _ _ _ _ rfl).trans (PostFrame.setReg _ _ _ _ rfl))

theorem PostFrame.hostSend (r : HostReq) (s : State) : PostFrame s (Machine.hostSend r s) := by
  unfold Machine.hostSend
  split
  · split
    · exact .hostEmit r s
    · exact .qos s _
  · exact .pciHeld s _

theorem PostFrame.raiseVec (v : Nat) (s : State) : PostFrame s (Machine.raiseVec v s) := by
  unfold Machine.raiseVec
  split
  · exact .hostSend _ s
  · exact .vecPend s _

theorem PostFrame.ringIrq (f sev : Nat) (s : State) : PostFrame s (Machine.ringIrq f sev s) := by
  unfold Machine.ringIrq
  split
  · dsimp only
    split
    · exact (PostFrame.setF F.EVT_STAT.IRQPEND f 1 s rfl).trans (.raiseVec _ _)
    · exact (PostFrame.setF F.EVT_STAT.IRQPEND f 1 s rfl).trans (.setF F.EVT_STAT.VECOWN f 1 _ rfl)
  · exact .refl s

theorem PostFrame.ringWrite (f : Nat) (r : EvtRec) (s : State) : PostFrame s (Machine.ringWrite f r s) := by
  unfold Machine.ringWrite
  split
  · have h1 := PostFrame.evt s
      { s.evt with rings := mapIns s.evt.rings (f * 4096 + (getReg s .EVT_TAIL f).toNat % 4096) r } rfl
    exact (h1.trans (PostFrame.setReg .EVT_TAIL f _ _ rfl)).trans (PostFrame.ringIrq f r.sev.toNat _)
  · have h : PostFrame s (bump F.EVT_LOST.COUNT f s) := PostFrame.setF F.EVT_LOST.COUNT f _ s rfl
    exact h.trans (PostFrame.evt (bump F.EVT_LOST.COUNT f s) _ rfl)

/-- The part of a posting that writes, holds or loses the record. -/
theorem PostFrame.place (s u : State) (ready : Bool) (n : Nat) (r : EvtRec) (rings : List Nat) (h : PostFrame s u) :
    PostFrame s (if ready then rings.foldl (fun w f => Machine.ringWrite f r w) u
      else if n < 64 then { u with evt := { u.evt with held := u.evt.held ++ [(r, rings)] } }
      else rings.foldl (fun w f => bump F.EVT_LOST.COUNT f w) u) := by
  split
  · exact h.trans (PostFrame.foldl _ (fun w f => .ringWrite f r w) _ _)
  · split
    · exact h.trans (PostFrame.evt u _ rfl)
    · exact h.trans (PostFrame.foldl _ (fun w f => PostFrame.setF F.EVT_LOST.COUNT f _ w rfl) _ _)

/-- Posting an event changes nothing beyond its frame (R862). -/
theorem PostFrame.post (e : EvArgs) (s : State) : PostFrame s (Machine.post e s) := by
  have hb : PostFrame s (bump F.EVT_SEVCNT.COUNT (e.sev.getD ((evSev? e.code).getD 0)) s) :=
    PostFrame.setF F.EVT_SEVCNT.COUNT _ _ s rfl
  unfold Machine.post
  dsimp only
  split
  · exact hb
  · by_cases h3 : e.sev.getD ((evSev? e.code).getD 0) = 3
    · simp only [h3, if_true]
      exact PostFrame.place s _ _ _ _ _ ((h3 ▸ hb).trans (PostFrame.evt _ _ rfl))
    · simp only [h3, if_false]
      exact PostFrame.place s _ _ _ _ _ hb

/-- A register that posting leaves alone. -/
theorem getReg_post (e : EvArgs) (s : State) (r : Reg) (i : Nat) (h : postReg r = false) :
    getReg (post e s) r i = getReg s r i := (PostFrame.post e s).reg r i h

/-- A field that posting leaves alone. -/
theorem getF_post (e : EvArgs) (s : State) (f : Fld) (i : Nat) (h : postReg f.reg = false) :
    getF (post e s) f i = getF s f i := by unfold getF; rw [getReg_post e s _ _ h]

@[simp] theorem post_time (e : EvArgs) (s : State) : (post e s).time = s.time := (PostFrame.post e s).time
@[simp] theorem post_free (e : EvArgs) (s : State) : (post e s).free = s.free := (PostFrame.post e s).free
@[simp] theorem post_pending (e : EvArgs) (s : State) : (post e s).pending = s.pending := (PostFrame.post e s).pending
@[simp] theorem post_msh (e : EvArgs) (s : State) : (post e s).msh = s.msh := (PostFrame.post e s).msh
@[simp] theorem post_reef (e : EvArgs) (s : State) : (post e s).reef = s.reef := (PostFrame.post e s).reef
@[simp] theorem post_mem (e : EvArgs) (s : State) : (post e s).mem = s.mem := (PostFrame.post e s).mem
@[simp] theorem post_hld (e : EvArgs) (s : State) : (post e s).hld = s.hld := (PostFrame.post e s).hld
@[simp] theorem post_xlt (e : EvArgs) (s : State) : (post e s).xlt = s.xlt := (PostFrame.post e s).xlt
@[simp] theorem post_tq (e : EvArgs) (s : State) : (post e s).tq = s.tq := (PostFrame.post e s).tq
@[simp] theorem post_bead (e : EvArgs) (s : State) : (post e s).bead = s.bead := (PostFrame.post e s).bead
@[simp] theorem post_hbl (e : EvArgs) (s : State) : (post e s).hbl = s.hbl := (PostFrame.post e s).hbl
@[simp] theorem post_shl (e : EvArgs) (s : State) : (post e s).shl = s.shl := (PostFrame.post e s).shl
@[simp] theorem post_twy (e : EvArgs) (s : State) : (post e s).twy = s.twy := (PostFrame.post e s).twy
@[simp] theorem post_brk (e : EvArgs) (s : State) : (post e s).brk = s.brk := (PostFrame.post e s).brk
@[simp] theorem post_fwu (e : EvArgs) (s : State) : (post e s).fwu = s.fwu := (PostFrame.post e s).fwu
@[simp] theorem post_rst (e : EvArgs) (s : State) : (post e s).rst = s.rst := (PostFrame.post e s).rst

end Sys2Proof.Machine
end

