-- ==== Sys2Proof/Laws/PerInstr.lean ====
section
/-! SUPPORT. The family `noWord`, one lemma per command: no word spells it, since the spec's table gives its row no bits. -/

namespace Sys2Proof.Laws
open Sys2Proof.Machine

/-- No word of any length spells the command. -/
def noWord.Statement (i : Instr) : Prop := ∀ nbits w, decodeTableWord nbits w ≠ some i

theorem noWord_all (i : Instr) : noWord.Statement i := fun _ _ h => nomatch h

theorem noWord.regWrite (f : Func) (bar2 : Bool) (off : BitVec 28) (val : BitVec 32) (poison : Bool) : noWord.Statement (.regWrite f bar2 off val poison) := noWord_all _
theorem noWord.barBadAccessRead (f : Func) (bar2 : Bool) (off : BitVec 28) (len : BitVec 13) : noWord.Statement (.barBadAccessRead f bar2 off len) := noWord_all _
theorem noWord.barBadAccessWrite (off : BitVec 28) (len : BitVec 13) : noWord.Statement (.barBadAccessWrite off len) := noWord_all _
theorem noWord.reg64LoRead (f : Func) (bar2 : Bool) (off : BitVec 28) : noWord.Statement (.reg64LoRead f bar2 off) := noWord_all _
theorem noWord.reg64HiRead (f : Func) (off : BitVec 28) : noWord.Statement (.reg64HiRead f off) := noWord_all _
theorem noWord.reg64LoWrite (f : Func) (off : BitVec 28) (val : BitVec 32) : noWord.Statement (.reg64LoWrite f off val) := noWord_all _
theorem noWord.reg64HiWrite (f : Func) (off : BitVec 28) (val : BitVec 32) : noWord.Statement (.reg64HiWrite f off val) := noWord_all _
theorem noWord.evtHeadWrite (f : Func) (val : BitVec 32) : noWord.Statement (.evtHeadWrite f val) := noWord_all _
theorem noWord.evtInj (f : Func) (code : BitVec 16) : noWord.Statement (.evtInj f code) := noWord_all _
theorem noWord.evtCntclr (f : Func) : noWord.Statement (.evtCntclr f) := noWord_all _
theorem noWord.flitInject (t : TileId) (a : Fin 8) (hdr : BitVec 128) (pay : Sector) (tally : BitVec 32) (die : Option Die) (keysel : Fin 64) : noWord.Statement (.flitInject t a hdr pay tally die keysel) := noWord_all _
theorem noWord.urgentCapRelease (src : UrgSrc) : noWord.Statement (.urgentCapRelease src) := noWord_all _
theorem noWord.urgentLinkReserve (t : TileId) (a : Fin 8) (n : LinkId) : noWord.Statement (.urgentLinkReserve t a n) := noWord_all _
theorem noWord.meshFlitHop (t : TileId) (out : Fin 7) (noise : BitVec 704) : noWord.Statement (.meshFlitHop t out noise) := noWord_all _
theorem noWord.meshFlitEject (t : TileId) : noWord.Statement (.meshFlitEject t) := noWord_all _
theorem noWord.meshResponse (t : TileId) (a : Fin 8) : noWord.Statement (.meshResponse t a) := noWord_all _
theorem noWord.meshRequestTimeout (t : TileId) (a : Fin 8) (tag : BitVec 16) : noWord.Statement (.meshRequestTimeout t a tag) := noWord_all _
theorem noWord.multicastTimeout (t : TileId) (a : Fin 8) : noWord.Statement (.multicastTimeout t a) := noWord_all _
theorem noWord.isthmusErrorWindow : noWord.Statement .isthmusErrorWindow := noWord_all _
theorem noWord.mshCntclr : noWord.Statement .mshCntclr := noWord_all _
theorem noWord.reefRead (t : TileId) (bank : Fin 8) (upset : Fin 81) : noWord.Statement (.reefRead t bank upset) := noWord_all _
theorem noWord.reefWrite (t : TileId) (bank : Fin 8) : noWord.Statement (.reefWrite t bank) := noWord_all _
theorem noWord.reefAtomic (t : TileId) (bank : Fin 8) (upset : Fin 81) : noWord.Statement (.reefAtomic t bank upset) := noWord_all _
theorem noWord.refreshOp (c : CoveId) (waited : BitVec 16) : noWord.Statement (.refreshOp c waited) := noWord_all _
theorem noWord.refreshBandStepDown (c : CoveId) : noWord.Statement (.refreshBandStepDown c) := noWord_all _
theorem noWord.refreshClampWindow (c : CoveId) : noWord.Statement (.refreshClampWindow c) := noWord_all _
theorem noWord.scrubSector (c : CoveId) (upset : Fin 81) : noWord.Statement (.scrubSector c upset) := noWord_all _
theorem noWord.rowRemapDone (t : TileId) (bank : Fin 8) (row : Fin 128) : noWord.Statement (.rowRemapDone t bank row) := noWord_all _
theorem noWord.scrubBurstStart (c : CoveId) : noWord.Statement (.scrubBurstStart c) := noWord_all _
theorem noWord.scrubBurstEnd (c : CoveId) : noWord.Statement (.scrubBurstEnd c) := noWord_all _
theorem noWord.bar4Read (f : Func) (off : BitVec 32) (len : Fin 4097) : noWord.Statement (.bar4Read f off len) := noWord_all _
theorem noWord.bar4Write (f : Func) (off : BitVec 32) (bytes : List Byte) (poison : Bool) : noWord.Statement (.bar4Write f off bytes poison) := noWord_all _
theorem noWord.rfbInjArm (v : BitVec 32) : noWord.Statement (.rfbInjArm v) := noWord_all _
theorem noWord.rfbCntclr : noWord.Statement .rfbCntclr := noWord_all _
theorem noWord.memRead (m : Fin 12) (upset : Fin 73) : noWord.Statement (.memRead m upset) := noWord_all _
theorem noWord.memWrite (m : Fin 12) (upset : Fin 73) : noWord.Statement (.memWrite m upset) := noWord_all _
theorem noWord.memKeymapWrite (i : Fin 1366) (v : BitVec 32) : noWord.Statement (.memKeymapWrite i v) := noWord_all _
theorem noWord.memZeroFillDone (k : Fin 5464) : noWord.Statement (.memZeroFillDone k) := noWord_all _
theorem noWord.memRotationRegionDone (k : Fin 5464) : noWord.Statement (.memRotationRegionDone k) := noWord_all _
theorem noWord.memCfgWrite (rate : Fin 4) : noWord.Statement (.memCfgWrite rate) := noWord_all _
theorem noWord.memTrainDone (density : Fin 3) (ranks2 : Bool) (differ : Bool) (failed : Option (ChanId × Fin 7)) : noWord.Statement (.memTrainDone density ranks2 differ failed) := noWord_all _
theorem noWord.memOscCheck (n : ChanId) (drift : BitVec 10) : noWord.Statement (.memOscCheck n drift) := noWord_all _
theorem noWord.memRecentreDone (n : ChanId) : noWord.Statement (.memRecentreDone n) := noWord_all _
theorem noWord.memCeWindow (n : ChanId) : noWord.Statement (.memCeWindow n) := noWord_all _
theorem noWord.memRetrainDone (n : ChanId) (ok : Bool) : noWord.Statement (.memRetrainDone n ok) := noWord_all _
theorem noWord.memMr4Read (n : ChanId) (code : Fin 8) (fast : Bool) (hot : Bool) : noWord.Statement (.memMr4Read n code fast hot) := noWord_all _
theorem noWord.memRefresh (n : ChanId) (postpone : Bool) : noWord.Statement (.memRefresh n postpone) := noWord_all _
theorem noWord.memScrubStripe (n : ChanId) (j : Fin 8) (upset : Fin 73) : noWord.Statement (.memScrubStripe n j upset) := noWord_all _
theorem noWord.memCntclr : noWord.Statement .memCntclr := noWord_all _
theorem noWord.xltCtxBind (asid : BitVec 16) : noWord.Statement (.xltCtxBind asid) := noWord_all _
theorem noWord.xltCtxRead (asid : BitVec 16) : noWord.Statement (.xltCtxRead asid) := noWord_all _
theorem noWord.xltCtxUnbind (asid : BitVec 16) : noWord.Statement (.xltCtxUnbind asid) := noWord_all _
theorem noWord.xltSegWrite (asid : BitVec 16) (n : Fin 16) : noWord.Statement (.xltSegWrite asid n) := noWord_all _
theorem noWord.xltSegRead (asid : BitVec 16) (n : Fin 16) : noWord.Statement (.xltSegRead asid n) := noWord_all _
theorem noWord.xltSegClear (asid : BitVec 16) (n : Fin 16) : noWord.Statement (.xltSegClear asid n) := noWord_all _
theorem noWord.xltInv (asid : BitVec 16) : noWord.Statement (.xltInv asid) := noWord_all _
theorem noWord.invalidationComplete : noWord.Statement .invalidationComplete := noWord_all _
theorem noWord.invalidationTimeout : noWord.Statement .invalidationTimeout := noWord_all _
theorem noWord.atsInvalidateRequest (f : Func) (pasid : Option (BitVec 20)) (itag : Fin 32) : noWord.Statement (.atsInvalidateRequest f pasid itag) := noWord_all _
theorem noWord.atsTranslationCompletion (tag : Nat) (ok : Bool) (addr : BitVec 64) (size : Fin 64) (r : Bool) (w : Bool) : noWord.Statement (.atsTranslationCompletion tag ok addr size r w) := noWord_all _
theorem noWord.atsTimeout (tag : Nat) : noWord.Statement (.atsTimeout tag) := noWord_all _
theorem noWord.prgResponse (tag : Nat) (code : Fin 16) : noWord.Statement (.prgResponse tag code) := noWord_all _
theorem noWord.priTimeout (tag : Nat) : noWord.Statement (.priTimeout tag) := noWord_all _
theorem noWord.xltCntclr : noWord.Statement .xltCntclr := noWord_all _
theorem noWord.tqQcmdCreate (q : QueueId) : noWord.Statement (.tqQcmdCreate q) := noWord_all _
theorem noWord.tqQcmdRead (q : QueueId) : noWord.Statement (.tqQcmdRead q) := noWord_all _
theorem noWord.tqQcmdStart (q : QueueId) : noWord.Statement (.tqQcmdStart q) := noWord_all _
theorem noWord.tqQcmdStop (q : QueueId) : noWord.Statement (.tqQcmdStop q) := noWord_all _
theorem noWord.tqQcmdAbort (q : QueueId) : noWord.Statement (.tqQcmdAbort q) := noWord_all _
theorem noWord.tqQcmdDestroy (q : QueueId) : noWord.Statement (.tqQcmdDestroy q) := noWord_all _
theorem noWord.tqQcmdResume (q : QueueId) : noWord.Statement (.tqQcmdResume q) := noWord_all _
theorem noWord.tqCntclr : noWord.Statement .tqCntclr := noWord_all _
theorem noWord.dbTail (f : Func) (p : QueueId) (v : BitVec 32) : noWord.Statement (.dbTail f p v) := noWord_all _
theorem noWord.dbCplhead (f : Func) (p : QueueId) (v : BitVec 32) : noWord.Statement (.dbCplhead f p v) := noWord_all _
theorem noWord.dbRechead (f : Func) (p : QueueId) (v : BitVec 32) : noWord.Statement (.dbRechead f p v) := noWord_all _
theorem noWord.dbResume (f : Func) (p : QueueId) (v : BitVec 32) : noWord.Statement (.dbResume f p v) := noWord_all _
theorem noWord.dbAbort (f : Func) (p : QueueId) (v : BitVec 32) : noWord.Statement (.dbAbort f p v) := noWord_all _
theorem noWord.batchFetchDone (q : QueueId) : noWord.Statement (.batchFetchDone q) := noWord_all _
theorem noWord.batchAccept (q : QueueId) : noWord.Statement (.batchAccept q) := noWord_all _
theorem noWord.tideNop (q : QueueId) : noWord.Statement (.tideNop q) := noWord_all _
theorem noWord.tideJump (q : QueueId) : noWord.Statement (.tideJump q) := noWord_all _
theorem noWord.tideBrc (q : QueueId) : noWord.Statement (.tideBrc q) := noWord_all _
theorem noWord.tideLoop (q : QueueId) : noWord.Statement (.tideLoop q) := noWord_all _
theorem noWord.tideSeti (q : QueueId) : noWord.Statement (.tideSeti q) := noWord_all _
theorem noWord.tideAddi (q : QueueId) : noWord.Statement (.tideAddi q) := noWord_all _
theorem noWord.tideWait (q : QueueId) : noWord.Statement (.tideWait q) := noWord_all _
theorem noWord.waitTimeout (q : QueueId) : noWord.Statement (.waitTimeout q) := noWord_all _
theorem noWord.tideCset (q : QueueId) : noWord.Statement (.tideCset q) := noWord_all _
theorem noWord.tideCadd (q : QueueId) : noWord.Statement (.tideCadd q) := noWord_all _
theorem noWord.tideFence (q : QueueId) : noWord.Statement (.tideFence q) := noWord_all _
theorem noWord.tideMark (q : QueueId) : noWord.Statement (.tideMark q) := noWord_all _
theorem noWord.tideAdvise (q : QueueId) : noWord.Statement (.tideAdvise q) := noWord_all _
theorem noWord.tideOpnd (q : QueueId) : noWord.Statement (.tideOpnd q) := noWord_all _
theorem noWord.tideCopy (e : Fin 32) : noWord.Statement (.tideCopy e) := noWord_all _
theorem noWord.tidePrefetch (e : Fin 32) : noWord.Statement (.tidePrefetch e) := noWord_all _
theorem noWord.tideFill (e : Fin 32) : noWord.Statement (.tideFill e) := noWord_all _
theorem noWord.tideReckon (e : Fin 8) : noWord.Statement (.tideReckon e) := noWord_all _
theorem noWord.tideKcall (e : Fin 8) : noWord.Statement (.tideKcall e) := noWord_all _
theorem noWord.tidePut (e : Fin 8) : noWord.Statement (.tidePut e) := noWord_all _
theorem noWord.tideGet (e : Fin 8) : noWord.Statement (.tideGet e) := noWord_all _
theorem noWord.tideColl (e : Fin 8) : noWord.Statement (.tideColl e) := noWord_all _
theorem noWord.ferryPieceDone (q : QueueId) (asn : BitVec 64) (dseq : BitVec 32) (k : Nat) (noise : Option (Nat × BitVec 512)) : noWord.Statement (.ferryPieceDone q asn dseq k noise) := noWord_all _
theorem noWord.commandCommit (q : QueueId) (asn : BitVec 64) (dseq : BitVec 32) (noise : Option (Nat × BitVec 512)) (held : BitVec 32) : noWord.Statement (.commandCommit q asn dseq noise held) := noWord_all _
theorem noWord.stagedEffectsApply (q : QueueId) : noWord.Statement (.stagedEffectsApply q) := noWord_all _
theorem noWord.tileFence (t : TileId) : noWord.Statement (.tileFence t) := noWord_all _
theorem noWord.tileFenceReport (q : QueueId) (t : TileId) : noWord.Statement (.tileFenceReport q t) := noWord_all _
theorem noWord.kcallTimeout (q : QueueId) (asn : BitVec 64) (dseq : BitVec 32) : noWord.Statement (.kcallTimeout q asn dseq) := noWord_all _
theorem noWord.collTimeout (q : QueueId) (asn : BitVec 64) (dseq : BitVec 32) : noWord.Statement (.collTimeout q asn dseq) := noWord_all _
theorem noWord.counterHostWrite (i : BitVec 16) (hi : BitVec 32) : noWord.Statement (.counterHostWrite i hi) := noWord_all _
theorem noWord.instanceStart (c : CoreId) : noWord.Statement (.instanceStart c) := noWord_all _
theorem noWord.kernelImageSector (q : QueueId) (asn : BitVec 64) (dseq : BitVec 32) (k : Fin 1024) : noWord.Statement (.kernelImageSector q asn dseq k) := noWord_all _
theorem noWord.instanceAbort (c : CoreId) : noWord.Statement (.instanceAbort c) := noWord_all _
theorem noWord.instanceException (e : Fin 8) : noWord.Statement (.instanceException e) := noWord_all _
theorem noWord.loadResponse (c : CoreId) : noWord.Statement (.loadResponse c) := noWord_all _
theorem noWord.writeAck (c : CoreId) : noWord.Statement (.writeAck c) := noWord_all _
theorem noWord.reckonerExecute (c : CoreId) (upset : EccSite) : noWord.Statement (.reckonerExecute c upset) := noWord_all _
theorem noWord.add (c : CoreId) : noWord.Statement (.add c) := noWord_all _
theorem noWord.sub (c : CoreId) : noWord.Statement (.sub c) := noWord_all _
theorem noWord.and (c : CoreId) : noWord.Statement (.and c) := noWord_all _
theorem noWord.or (c : CoreId) : noWord.Statement (.or c) := noWord_all _
theorem noWord.xor (c : CoreId) : noWord.Statement (.xor c) := noWord_all _
theorem noWord.sll (c : CoreId) : noWord.Statement (.sll c) := noWord_all _
theorem noWord.srl (c : CoreId) : noWord.Statement (.srl c) := noWord_all _
theorem noWord.sra (c : CoreId) : noWord.Statement (.sra c) := noWord_all _
theorem noWord.slt (c : CoreId) : noWord.Statement (.slt c) := noWord_all _
theorem noWord.sltu (c : CoreId) : noWord.Statement (.sltu c) := noWord_all _
theorem noWord.mul (c : CoreId) : noWord.Statement (.mul c) := noWord_all _
theorem noWord.mulhu (c : CoreId) : noWord.Statement (.mulhu c) := noWord_all _
theorem noWord.mulh (c : CoreId) : noWord.Statement (.mulh c) := noWord_all _
theorem noWord.divu (c : CoreId) : noWord.Statement (.divu c) := noWord_all _
theorem noWord.remu (c : CoreId) : noWord.Statement (.remu c) := noWord_all _
theorem noWord.ramap (c : CoreId) : noWord.Statement (.ramap c) := noWord_all _
theorem noWord.addi (c : CoreId) : noWord.Statement (.addi c) := noWord_all _
theorem noWord.andi (c : CoreId) : noWord.Statement (.andi c) := noWord_all _
theorem noWord.ori (c : CoreId) : noWord.Statement (.ori c) := noWord_all _
theorem noWord.xori (c : CoreId) : noWord.Statement (.xori c) := noWord_all _
theorem noWord.slti (c : CoreId) : noWord.Statement (.slti c) := noWord_all _
theorem noWord.sltiu (c : CoreId) : noWord.Statement (.sltiu c) := noWord_all _
theorem noWord.shi (c : CoreId) : noWord.Statement (.shi c) := noWord_all _
theorem noWord.lsh (c : CoreId) : noWord.Statement (.lsh c) := noWord_all _
theorem noWord.ldbu (c : CoreId) : noWord.Statement (.ldbu c) := noWord_all _
theorem noWord.ldhu (c : CoreId) : noWord.Statement (.ldhu c) := noWord_all _
theorem noWord.ldwu (c : CoreId) : noWord.Statement (.ldwu c) := noWord_all _
theorem noWord.ldws (c : CoreId) : noWord.Statement (.ldws c) := noWord_all _
theorem noWord.ldd (c : CoreId) : noWord.Statement (.ldd c) := noWord_all _
theorem noWord.stb (c : CoreId) : noWord.Statement (.stb c) := noWord_all _
theorem noWord.sth (c : CoreId) : noWord.Statement (.sth c) := noWord_all _
theorem noWord.stw (c : CoreId) : noWord.Statement (.stw c) := noWord_all _
theorem noWord.std (c : CoreId) : noWord.Statement (.std c) := noWord_all _
theorem noWord.kld (c : CoreId) : noWord.Statement (.kld c) := noWord_all _
theorem noWord.kst (c : CoreId) : noWord.Statement (.kst c) := noWord_all _
theorem noWord.amoAdd (c : CoreId) : noWord.Statement (.amoAdd c) := noWord_all _
theorem noWord.amoSwap (c : CoreId) : noWord.Statement (.amoSwap c) := noWord_all _
theorem noWord.amoCas (c : CoreId) : noWord.Statement (.amoCas c) := noWord_all _
theorem noWord.amoMaxu (c : CoreId) : noWord.Statement (.amoMaxu c) := noWord_all _
theorem noWord.amoMinu (c : CoreId) : noWord.Statement (.amoMinu c) := noWord_all _
theorem noWord.amoOr (c : CoreId) : noWord.Statement (.amoOr c) := noWord_all _
theorem noWord.amoAnd (c : CoreId) : noWord.Statement (.amoAnd c) := noWord_all _
theorem noWord.cntAdd (c : CoreId) : noWord.Statement (.cntAdd c) := noWord_all _
theorem noWord.cntSet (c : CoreId) : noWord.Statement (.cntSet c) := noWord_all _
theorem noWord.cntRead (c : CoreId) : noWord.Statement (.cntRead c) := noWord_all _
theorem noWord.beq (c : CoreId) : noWord.Statement (.beq c) := noWord_all _
theorem noWord.bne (c : CoreId) : noWord.Statement (.bne c) := noWord_all _
theorem noWord.blt (c : CoreId) : noWord.Statement (.blt c) := noWord_all _
theorem noWord.bge (c : CoreId) : noWord.Statement (.bge c) := noWord_all _
theorem noWord.bltu (c : CoreId) : noWord.Statement (.bltu c) := noWord_all _
theorem noWord.bgeu (c : CoreId) : noWord.Statement (.bgeu c) := noWord_all _
theorem noWord.jal (c : CoreId) : noWord.Statement (.jal c) := noWord_all _
theorem noWord.jalr (c : CoreId) : noWord.Statement (.jalr c) := noWord_all _
theorem noWord.csrr (c : CoreId) : noWord.Statement (.csrr c) := noWord_all _
theorem noWord.csrw (c : CoreId) : noWord.Statement (.csrw c) := noWord_all _
theorem noWord.exit (c : CoreId) : noWord.Statement (.exit c) := noWord_all _
theorem noWord.wack (c : CoreId) : noWord.Statement (.wack c) := noWord_all _
theorem noWord.ksync (c : CoreId) : noWord.Statement (.ksync c) := noWord_all _
theorem noWord.trap (c : CoreId) : noWord.Statement (.trap c) := noWord_all _
theorem noWord.kmov (c : CoreId) : noWord.Statement (.kmov c) := noWord_all _
theorem noWord.kxor (c : CoreId) : noWord.Statement (.kxor c) := noWord_all _
theorem noWord.kins (c : CoreId) : noWord.Statement (.kins c) := noWord_all _
theorem noWord.kext (c : CoreId) : noWord.Statement (.kext c) := noWord_all _
theorem noWord.kbc (c : CoreId) : noWord.Statement (.kbc c) := noWord_all _
theorem noWord.krand (c : CoreId) : noWord.Statement (.krand c) := noWord_all _
theorem noWord.ktally (c : CoreId) : noWord.Statement (.ktally c) := noWord_all _
theorem noWord.kdig (c : CoreId) : noWord.Statement (.kdig c) := noWord_all _
theorem noWord.kmdot (c : CoreId) : noWord.Statement (.kmdot c) := noWord_all _
theorem noWord.kdot (c : CoreId) : noWord.Statement (.kdot c) := noWord_all _
theorem noWord.kzacc (c : CoreId) : noWord.Statement (.kzacc c) := noWord_all _
theorem noWord.ksha (c : CoreId) : noWord.Statement (.ksha c) := noWord_all _
theorem noWord.krnd (c : CoreId) : noWord.Statement (.krnd c) := noWord_all _
theorem noWord.kint (c : CoreId) : noWord.Statement (.kint c) := noWord_all _
theorem noWord.kput (c : CoreId) : noWord.Statement (.kput c) := noWord_all _
theorem noWord.kadda (c : CoreId) : noWord.Statement (.kadda c) := noWord_all _
theorem noWord.beadCntclr : noWord.Statement .beadCntclr := noWord_all _
theorem noWord.reckonCheckDone (q : QueueId) (asn : BitVec 64) (dseq : BitVec 32) (held : BitVec 32) : noWord.Statement (.reckonCheckDone q asn dseq held) := noWord_all _
theorem noWord.tlyCtxWrite (asid : BitVec 16) : noWord.Statement (.tlyCtxWrite asid) := noWord_all _
theorem noWord.tlyCtxRead (asid : BitVec 16) : noWord.Statement (.tlyCtxRead asid) := noWord_all _
theorem noWord.tlyCntclr : noWord.Statement .tlyCntclr := noWord_all _
theorem noWord.journalLocalDurable : noWord.Statement .journalLocalDurable := noWord_all _
theorem noWord.logReappend : noWord.Statement .logReappend := noWord_all _
theorem noWord.mirrorAckTimeout : noWord.Statement .mirrorAckTimeout := noWord_all _
theorem noWord.hblTkhead (v : BitVec 16) : noWord.Statement (.hblTkhead v) := noWord_all _
theorem noWord.hblTkEnable (on : Bool) : noWord.Statement (.hblTkEnable on) := noWord_all _
theorem noWord.hblCntclr : noWord.Statement .hblCntclr := noWord_all _
theorem noWord.takeover (d : Die) : noWord.Statement (.takeover d) := noWord_all _
theorem noWord.collReadyDurable (q : QueueId) (asn : BitVec 64) (dseq : BitVec 32) (damaged : Bool) : noWord.Statement (.collReadyDurable q asn dseq damaged) := noWord_all _
theorem noWord.collCommitDurable (q : QueueId) (asn : BitVec 64) (dseq : BitVec 32) : noWord.Statement (.collCommitDurable q asn dseq) := noWord_all _
theorem noWord.collMemberLost (d : Die) : noWord.Statement (.collMemberLost d) := noWord_all _
theorem noWord.memberBeat : noWord.Statement .memberBeat := noWord_all _
theorem noWord.memberFailDeclare (d : Die) : noWord.Statement (.memberFailDeclare d) := noWord_all _
theorem noWord.graceExpiry (d : Die) : noWord.Statement (.graceExpiry d) := noWord_all _
theorem noWord.stewardCollectDone (reports : List MemberReport) : noWord.Statement (.stewardCollectDone reports) := noWord_all _
theorem noWord.shlFrameReceive (p : PortId) (fr : BitVec 2048) : noWord.Statement (.shlFrameReceive p fr) := noWord_all _
theorem noWord.shlRead (p : PortId) : noWord.Statement (.shlRead p) := noWord_all _
theorem noWord.shlWrite (p : PortId) : noWord.Statement (.shlWrite p) := noWord_all _
theorem noWord.shlAck (p : PortId) : noWord.Statement (.shlAck p) := noWord_all _
theorem noWord.shlAbort (p : PortId) : noWord.Statement (.shlAbort p) := noWord_all _
theorem noWord.shlDoorbell (p : PortId) : noWord.Statement (.shlDoorbell p) := noWord_all _
theorem noWord.shlCounter (p : PortId) : noWord.Statement (.shlCounter p) := noWord_all _
theorem noWord.shlWatch (p : PortId) : noWord.Statement (.shlWatch p) := noWord_all _
theorem noWord.shlReplayTimeout (p : PortId) : noWord.Statement (.shlReplayTimeout p) := noWord_all _
theorem noWord.shlRetrainDone (p : PortId) (rate : Fin 6) (mods : Fin 16) : noWord.Statement (.shlRetrainDone p rate mods) := noWord_all _
theorem noWord.shlRetrainTimeout (p : PortId) : noWord.Statement (.shlRetrainTimeout p) := noWord_all _
theorem noWord.shlPortEnable (p : PortId) : noWord.Statement (.shlPortEnable p) := noWord_all _
theorem noWord.shlPortDisable (p : PortId) : noWord.Statement (.shlPortDisable p) := noWord_all _
theorem noWord.shlLinkUp (p : PortId) (rate : Fin 6) (mods : Fin 16) : noWord.Statement (.shlLinkUp p rate mods) := noWord_all _
theorem noWord.shlTrainTimeout (p : PortId) : noWord.Statement (.shlTrainTimeout p) := noWord_all _
theorem noWord.shlCapabilityReceive (p : PortId) (blk : BitVec 256) : noWord.Statement (.shlCapabilityReceive p blk) := noWord_all _
theorem noWord.shlNegotiateTimeout (p : PortId) : noWord.Statement (.shlNegotiateTimeout p) := noWord_all _
theorem noWord.shlLinkDown (p : PortId) : noWord.Statement (.shlLinkDown p) := noWord_all _
theorem noWord.shlTelemetry (p : PortId) (m : BitVec 128) : noWord.Statement (.shlTelemetry p m) := noWord_all _
theorem noWord.shlTelemetryMiss (p : PortId) : noWord.Statement (.shlTelemetryMiss p) := noWord_all _
theorem noWord.shlCntclr : noWord.Statement .shlCntclr := noWord_all _
theorem noWord.twyLinkEnable (n : LinkId) : noWord.Statement (.twyLinkEnable n) := noWord_all _
theorem noWord.twyLinkDisable (n : LinkId) : noWord.Statement (.twyLinkDisable n) := noWord_all _
theorem noWord.twyBlockLock (n : LinkId) : noWord.Statement (.twyBlockLock n) := noWord_all _
theorem noWord.twyDetectTimeout (n : LinkId) : noWord.Statement (.twyDetectTimeout n) := noWord_all _
theorem noWord.twyConfigReceive (n : LinkId) (die : Die) (link : Fin 32) (mode : Bool) (enc : Bool) (maxRate : Fin 8) (version : BitVec 8) (auth : Bool) (h : BitVec 384) : noWord.Statement (.twyConfigReceive n die link mode enc maxRate version auth h) := noWord_all _
theorem noWord.twyConfigTimeout (n : LinkId) : noWord.Statement (.twyConfigTimeout n) := noWord_all _
theorem noWord.twyDwellDone (n : LinkId) (lanes : BitVec 9) : noWord.Statement (.twyDwellDone n lanes) := noWord_all _
theorem noWord.twyPauseDone (n : LinkId) : noWord.Statement (.twyPauseDone n) := noWord_all _
theorem noWord.twyPauseTimeout (n : LinkId) : noWord.Statement (.twyPauseTimeout n) := noWord_all _
theorem noWord.twyHoldExpiry (n : LinkId) : noWord.Statement (.twyHoldExpiry n) := noWord_all _
theorem noWord.twyCmdRetrain (n : LinkId) : noWord.Statement (.twyCmdRetrain n) := noWord_all _
theorem noWord.twyCmdRestore (n : LinkId) : noWord.Statement (.twyCmdRestore n) := noWord_all _
theorem noWord.twyCmdDown (n : LinkId) : noWord.Statement (.twyCmdDown n) := noWord_all _
theorem noWord.twyCmdTest (n : LinkId) (farOk : Bool) : noWord.Statement (.twyCmdTest n farOk) := noWord_all _
theorem noWord.twyCmdTestend (n : LinkId) : noWord.Statement (.twyCmdTestend n) := noWord_all _
theorem noWord.twyFrameReceive (n : LinkId) (fr : BitVec 2048) (uncorr : Bool) (skips : BitVec 8) : noWord.Statement (.twyFrameReceive n fr uncorr skips) := noWord_all _
theorem noWord.twyWrite (n : LinkId) : noWord.Statement (.twyWrite n) := noWord_all _
theorem noWord.twyRead (n : LinkId) : noWord.Statement (.twyRead n) := noWord_all _
theorem noWord.twyReadData (n : LinkId) : noWord.Statement (.twyReadData n) := noWord_all _
theorem noWord.twyAck (n : LinkId) : noWord.Statement (.twyAck n) := noWord_all _
theorem noWord.twyError (n : LinkId) : noWord.Statement (.twyError n) := noWord_all _
theorem noWord.twyAbort (n : LinkId) : noWord.Statement (.twyAbort n) := noWord_all _
theorem noWord.twyFence (n : LinkId) : noWord.Statement (.twyFence n) := noWord_all _
theorem noWord.twyDoorbell (n : LinkId) : noWord.Statement (.twyDoorbell n) := noWord_all _
theorem noWord.twyJournal (n : LinkId) : noWord.Statement (.twyJournal n) := noWord_all _
theorem noWord.twyJack (n : LinkId) : noWord.Statement (.twyJack n) := noWord_all _
theorem noWord.twyColl (n : LinkId) : noWord.Statement (.twyColl n) := noWord_all _
theorem noWord.twyRoute (n : LinkId) : noWord.Statement (.twyRoute n) := noWord_all _
theorem noWord.twyForward (n : LinkId) : noWord.Statement (.twyForward n) := noWord_all _
theorem noWord.leaseClaimReceive (n : LinkId) : noWord.Statement (.leaseClaimReceive n) := noWord_all _
theorem noWord.leaseRenewReceive (n : LinkId) : noWord.Statement (.leaseRenewReceive n) := noWord_all _
theorem noWord.leaseReleaseReceive (n : LinkId) : noWord.Statement (.leaseReleaseReceive n) := noWord_all _
theorem noWord.memberBeatReceive (n : LinkId) : noWord.Statement (.memberBeatReceive n) := noWord_all _
theorem noWord.stewardDecisionReceive (n : LinkId) : noWord.Statement (.stewardDecisionReceive n) := noWord_all _
theorem noWord.resetNoticeReceive (n : LinkId) : noWord.Statement (.resetNoticeReceive n) := noWord_all _
theorem noWord.linkReportReceive (n : LinkId) : noWord.Statement (.linkReportReceive n) := noWord_all _
theorem noWord.identityReportReceive (n : LinkId) : noWord.Statement (.identityReportReceive n) := noWord_all _
theorem noWord.memberJoin (n : LinkId) : noWord.Statement (.memberJoin n) := noWord_all _
theorem noWord.rosterChangeReceive (n : LinkId) : noWord.Statement (.rosterChangeReceive n) := noWord_all _
theorem noWord.enrolForwardReceive (n : LinkId) : noWord.Statement (.enrolForwardReceive n) := noWord_all _
theorem noWord.activateForwardReceive (n : LinkId) (fleet : List FleetReport) : noWord.Statement (.activateForwardReceive n fleet) := noWord_all _
theorem noWord.turnDoneReceive (n : LinkId) : noWord.Statement (.turnDoneReceive n) := noWord_all _
theorem noWord.twyReplayTimeout (n : LinkId) : noWord.Statement (.twyReplayTimeout n) := noWord_all _
theorem noWord.twyLosTimeout (n : LinkId) : noWord.Statement (.twyLosTimeout n) := noWord_all _
theorem noWord.twyBerWindow (n : LinkId) (rates : List (BitVec 16)) (seen : List LaneSeen) :
    noWord.Statement (.twyBerWindow n rates seen) := noWord_all _
theorem noWord.twyErrorWindow (n : LinkId) : noWord.Statement (.twyErrorWindow n) := noWord_all _
theorem noWord.twySpareTrainDone (n : LinkId) (passed : Bool) : noWord.Statement (.twySpareTrainDone n passed) := noWord_all _
theorem noWord.twySwapDone (n : LinkId) : noWord.Statement (.twySwapDone n) := noWord_all _
theorem noWord.twyRateTrialEnd (n : LinkId) : noWord.Statement (.twyRateTrialEnd n) := noWord_all _
theorem noWord.twyWidthWindow (n : LinkId) (long : Bool) (load : BitVec 16) : noWord.Statement (.twyWidthWindow n long load) := noWord_all _
theorem noWord.twyKeyUpdate (n : LinkId) (tx : Bool) : noWord.Statement (.twyKeyUpdate n tx) := noWord_all _
theorem noWord.twyCntclr : noWord.Statement .twyCntclr := noWord_all _
theorem noWord.pciLinkUp (speed : Fin 16) (width : Fin 32) (flit : Bool) : noWord.Statement (.pciLinkUp speed width flit) := noWord_all _
theorem noWord.pciLinkDown : noWord.Statement .pciLinkDown := noWord_all _
theorem noWord.pciReadCompletion (tag : Nat) (data : List Sector) (poison : Bool) (ok : Bool) : noWord.Statement (.pciReadCompletion tag data poison ok) := noWord_all _
theorem noWord.pciCompletionTimeout (tag : Nat) : noWord.Statement (.pciCompletionTimeout tag) := noWord_all _
theorem noWord.vfFlr (v : Func) : noWord.Statement (.vfFlr v) := noWord_all _
theorem noWord.msixUnmask (v : Fin 2048) : noWord.Statement (.msixUnmask v) := noWord_all _
theorem noWord.pciCntclr : noWord.Statement .pciCntclr := noWord_all _
theorem noWord.qosTokenTick : noWord.Statement .qosTokenTick := noWord_all _
theorem noWord.qosWindow : noWord.Statement .qosWindow := noWord_all _
theorem noWord.qosMissWindow : noWord.Statement .qosMissWindow := noWord_all _
theorem noWord.qosPaceWindow (pct : List (Fin 101)) : noWord.Statement (.qosPaceWindow pct) := noWord_all _
theorem noWord.qosIsthmusWindow (cycles : BitVec 32) : noWord.Statement (.qosIsthmusWindow cycles) := noWord_all _
theorem noWord.qosWakeholdWrite (hold : BitVec 16) : noWord.Statement (.qosWakeholdWrite hold) := noWord_all _
theorem noWord.qosCntclr : noWord.Statement .qosCntclr := noWord_all _
theorem noWord.currentSample (j : Fin 21) (lo : BitVec 14) (hi : BitVec 14) (mv : BitVec 11) : noWord.Statement (.currentSample j lo hi mv) := noWord_all _
theorem noWord.tempSample (t : Fin 64) (q : BitVec 12) (fail : Bool) : noWord.Statement (.tempSample t q fail) := noWord_all _
theorem noWord.throttleStep : noWord.Statement .throttleStep := noWord_all _
theorem noWord.throttleReleaseStep : noWord.Statement .throttleReleaseStep := noWord_all _
theorem noWord.thermalTrip (t : Fin 64) : noWord.Statement (.thermalTrip t) := noWord_all _
theorem noWord.railLimitStep (k : Fin 4) (mean : BitVec 20) (calm : Bool) : noWord.Statement (.railLimitStep k mean calm) := noWord_all _
theorem noWord.droopTrip (src : Fin 18) : noWord.Statement (.droopTrip src) := noWord_all _
theorem noWord.droopRelease (src : Fin 18) : noWord.Statement (.droopRelease src) := noWord_all _
theorem noWord.droopHoldEnd (src : Fin 18) : noWord.Statement (.droopHoldEnd src) := noWord_all _
theorem noWord.undervoltage (c : CoveId) : noWord.Statement (.undervoltage c) := noWord_all _
theorem noWord.avsTransactionDone (k : Fin 4) (mv : Option (BitVec 16)) : noWord.Statement (.avsTransactionDone k mv) := noWord_all _
theorem noWord.pllLockLoss (n : Fin 4) : noWord.Statement (.pllLockLoss n) := noWord_all _
theorem noWord.slackEntry : noWord.Statement .slackEntry := noWord_all _
theorem noWord.slackExit (coves : BitVec 16) : noWord.Statement (.slackExit coves) := noWord_all _
theorem noWord.coveGate (c : CoveId) : noWord.Statement (.coveGate c) := noWord_all _
theorem noWord.coveWakeRequest (c : CoveId) : noWord.Statement (.coveWakeRequest c) := noWord_all _
theorem noWord.coveAwake (c : CoveId) : noWord.Statement (.coveAwake c) := noWord_all _
theorem noWord.avfsWindow (pct : Fin 101) : noWord.Statement (.avfsWindow pct) := noWord_all _
theorem noWord.avfsVoltageStep (low : BitVec 16) (spare : BitVec 16) : noWord.Statement (.avfsVoltageStep low spare) := noWord_all _
theorem noWord.cdLimitUpdate : noWord.Statement .cdLimitUpdate := noWord_all _
theorem noWord.cdPowerWindow (p : PortId) : noWord.Statement (.cdPowerWindow p) := noWord_all _
theorem noWord.brkCntclr : noWord.Statement .brkCntclr := noWord_all _
theorem noWord.spdmRequest (src : SpdmFrom) : noWord.Statement (.spdmRequest src) := noWord_all _
theorem noWord.getRecordKey (who : Fin 35) (asid : BitVec 16) (gen : Byte) : noWord.Statement (.getRecordKey who asid gen) := noWord_all _
theorem noWord.mctpMessage (t : Transport) (m : MctpBody) : noWord.Statement (.mctpMessage t m) := noWord_all _
theorem noWord.keyGen : noWord.Statement .keyGen := noWord_all _
theorem noWord.keyRotate : noWord.Statement .keyRotate := noWord_all _
theorem noWord.keyDestroy : noWord.Statement .keyDestroy := noWord_all _
theorem noWord.rootRotate : noWord.Statement .rootRotate := noWord_all _
theorem noWord.rootRetire : noWord.Statement .rootRetire := noWord_all _
theorem noWord.leaseRelease : noWord.Statement .leaseRelease := noWord_all _
theorem noWord.enrol : noWord.Statement .enrol := noWord_all _
theorem noWord.enrolTimeout : noWord.Statement .enrolTimeout := noWord_all _
theorem noWord.rosterRead : noWord.Statement .rosterRead := noWord_all _
theorem noWord.identRead : noWord.Statement .identRead := noWord_all _
theorem noWord.hldCntclr : noWord.Statement .hldCntclr := noWord_all _
theorem noWord.leaseListenEnd : noWord.Statement .leaseListenEnd := noWord_all _
theorem noWord.leaseLapse : noWord.Statement .leaseLapse := noWord_all _
theorem noWord.leaseBackoffEnd : noWord.Statement .leaseBackoffEnd := noWord_all _
theorem noWord.leaseQuietEnd : noWord.Statement .leaseQuietEnd := noWord_all _
theorem noWord.leaseRenewTimer : noWord.Statement .leaseRenewTimer := noWord_all _
theorem noWord.powerOn : noWord.Statement .powerOn := noWord_all _
theorem noWord.vaoBrownout : noWord.Statement .vaoBrownout := noWord_all _
theorem noWord.resetNAssert : noWord.Statement .resetNAssert := noWord_all _
theorem noWord.resetNRelease (tray : Fin 4) (slot : Fin 8) (sbsel : Bool) (recov : Bool) : noWord.Statement (.resetNRelease tray slot sbsel recov) := noWord_all _
theorem noWord.phaseHbootDone (ok : Bool) (flash : Bool) : noWord.Statement (.phaseHbootDone ok flash) := noWord_all _
theorem noWord.phasePowerDone (unlocked : Option (Fin 4)) : noWord.Statement (.phasePowerDone unlocked) := noWord_all _
theorem noWord.phaseBringupDone : noWord.Statement .phaseBringupDone := noWord_all _
theorem noWord.perstNRise : noWord.Statement .perstNRise := noWord_all _
theorem noWord.perstNFall : noWord.Statement .perstNFall := noWord_all _
theorem noWord.pciHotReset : noWord.Statement .pciHotReset := noWord_all _
theorem noWord.pfFlr : noWord.Statement .pfFlr := noWord_all _
theorem noWord.glbResetWarm : noWord.Statement .glbResetWarm := noWord_all _
theorem noWord.glbResetCold : noWord.Statement .glbResetCold := noWord_all _
theorem noWord.warmReset : noWord.Statement .warmReset := noWord_all _
theorem noWord.warmResetReturn (failed : Option ChanId) (bad : Bool) : noWord.Statement (.warmResetReturn failed bad) := noWord_all _
theorem noWord.takeoverQueryAnswer (n : LinkId) (bad : Bool) : noWord.Statement (.takeoverQueryAnswer n bad) := noWord_all _
theorem noWord.hostGo : noWord.Statement .hostGo := noWord_all _
theorem noWord.leave : noWord.Statement .leave := noWord_all _
theorem noWord.leaveComplete : noWord.Statement .leaveComplete := noWord_all _
theorem noWord.rejoin : noWord.Statement .rejoin := noWord_all _
theorem noWord.refclkTwyLoss : noWord.Statement .refclkTwyLoss := noWord_all _
theorem noWord.refclkTwyReturn : noWord.Statement .refclkTwyReturn := noWord_all _
theorem noWord.fwuBegin : noWord.Statement .fwuBegin := noWord_all _
theorem noWord.fwuChunk : noWord.Statement .fwuChunk := noWord_all _
theorem noWord.fwuEnd : noWord.Statement .fwuEnd := noWord_all _
theorem noWord.fwuCancel : noWord.Statement .fwuCancel := noWord_all _
theorem noWord.fwuActivate (fleet : List FleetReport) : noWord.Statement (.fwuActivate fleet) := noWord_all _
theorem noWord.fwuActCancel : noWord.Statement .fwuActCancel := noWord_all _
theorem noWord.fwuRecovExit : noWord.Statement .fwuRecovExit := noWord_all _
theorem noWord.pldmRequestUpdate (t : Transport) : noWord.Statement (.pldmRequestUpdate t) := noWord_all _
theorem noWord.pldmPassComponentTable (t : Transport) (comps : List (Fin 8)) : noWord.Statement (.pldmPassComponentTable t comps) := noWord_all _
theorem noWord.pldmUpdateComponent (t : Transport) (comp : Fin 8) : noWord.Statement (.pldmUpdateComponent t comp) := noWord_all _
theorem noWord.pldmFirmwareData (t : Transport) (bytes : List Byte) (flash : Bool) : noWord.Statement (.pldmFirmwareData t bytes flash) := noWord_all _
theorem noWord.pldmActivateFirmware (t : Transport) (fleet : List FleetReport) : noWord.Statement (.pldmActivateFirmware t fleet) := noWord_all _
theorem noWord.pldmCancelUpdateComponent (t : Transport) : noWord.Statement (.pldmCancelUpdateComponent t) := noWord_all _
theorem noWord.pldmCancelUpdate (t : Transport) : noWord.Statement (.pldmCancelUpdate t) := noWord_all _
theorem noWord.queryDeviceIdentifiers (t : Transport) : noWord.Statement (.queryDeviceIdentifiers t) := noWord_all _
theorem noWord.getFirmwareParameters (t : Transport) : noWord.Statement (.getFirmwareParameters t) := noWord_all _
theorem noWord.fwuTurnStart : noWord.Statement .fwuTurnStart := noWord_all _
theorem noWord.fwuDrainEnd : noWord.Statement .fwuDrainEnd := noWord_all _
theorem noWord.fwuOverwriteDone : noWord.Statement .fwuOverwriteDone := noWord_all _
theorem noWord.fwuActivationDone (alone : Bool) : noWord.Statement (.fwuActivationDone alone) := noWord_all _
theorem noWord.fwuTurnTimeout : noWord.Statement .fwuTurnTimeout := noWord_all _
theorem noWord.illegalInstruction (c : CoreId) : noWord.Statement (.illegalInstruction c) := noWord_all _
theorem noWord.instructionFetchFault (c : CoreId) : noWord.Statement (.instructionFetchFault c) := noWord_all _
theorem noWord.takeoverQueryReceive (n : LinkId) : noWord.Statement (.takeoverQueryReceive n) := noWord_all _
theorem noWord.departureReportReceive (n : LinkId) : noWord.Statement (.departureReportReceive n) := noWord_all _
theorem noWord.mirrorLossReportReceive (n : LinkId) : noWord.Statement (.mirrorLossReportReceive n) := noWord_all _
theorem noWord.clampDurationIrq (loop : Fin 7) (inst : Fin 48) : noWord.Statement (.clampDurationIrq loop inst) := noWord_all _
theorem noWord.hldCommandComplete : noWord.Statement .hldCommandComplete := noWord_all _
theorem noWord.fwuCommandComplete (flash : Bool) : noWord.Statement (.fwuCommandComplete flash) := noWord_all _
theorem noWord.priEnable (f : Func) (alloc : BitVec 32) : noWord.Statement (.priEnable f alloc) := noWord_all _
theorem noWord.vfEnable (n : Func) : noWord.Statement (.vfEnable n) := noWord_all _

end Sys2Proof.Laws
end

