-- ==== Sys2Proof/WellFormed.lean ====
section
/-! DEFINITION. Well-formed commands: what an operand's type does not already say. A command that is not well formed
names no event of the spec; its meaning leaves the state as it is or treats it as the nearest event (log entry 104). -/

namespace Sys2Proof

/-- An offset is 4-byte aligned (R5, R6). -/
def aligned {w : Nat} (off : BitVec w) : Bool := off.toNat % 4 == 0

/-- The occurrences of an adaptive loop: links, the die, coves, resource classes, Reckon engines (the loop table of 15, R726). -/
def loopInsts (loop : Nat) : Nat := [0, 24, 24, 1, 16, 48, 8].getD loop 0

/-- A firmware component by number, 1 to 6 (R824). -/
def component (c : Fin 8) : Bool := decide (1 ≤ c.val ∧ c.val ≤ 6)

/-- A list names nothing twice. -/
def distinct : List Nat → Bool
  | [] => true
  | x :: rest => !rest.contains x && distinct rest

/-- A command is well formed. -/
def Instr.wf (i : Instr) : Bool :=
  match i with
  | .regWrite _ _ off _ _ => aligned off
  | .barBadAccessRead _ _ off len => !(aligned off && len == 4)
  | .barBadAccessWrite off len => !(aligned off && len == 4)
  | .reg64LoRead _ _ off => aligned off
  | .reg64HiRead _ off => aligned off
  | .reg64LoWrite _ off _ => aligned off
  | .reg64HiWrite _ off _ => aligned off
  | .evtHeadWrite _ _ => true
  | .evtInj _ _ => true
  | .evtCntclr _ => true
  | .flitInject _ _ _ _ _ _ _ => true
  | .urgentCapRelease _ => true
  | .urgentLinkReserve _ _ _ => true
  | .meshFlitHop _ _ _ => true
  | .meshFlitEject _ => true
  | .meshResponse _ _ => true
  | .meshRequestTimeout _ _ _ => true
  | .multicastTimeout _ _ => true
  | .isthmusErrorWindow => true
  | .mshCntclr => true
  | .reefRead _ _ _ => true
  | .reefWrite _ _ => true
  | .reefAtomic _ _ _ => true
  | .refreshOp _ _ => true
  | .refreshBandStepDown _ => true
  | .refreshClampWindow _ => true
  | .scrubSector _ _ => true
  | .rowRemapDone _ _ _ => true
  | .scrubBurstStart _ => true
  | .scrubBurstEnd _ => true
  | .bar4Read _ _ len => len.val != 0
  | .bar4Write _ _ bytes _ => decide (0 < bytes.length ∧ bytes.length ≤ 512)
  | .rfbInjArm _ => true
  | .rfbCntclr => true
  | .memRead _ _ => true
  | .memWrite _ _ => true
  | .memKeymapWrite _ _ => true
  | .memZeroFillDone _ => true
  | .memRotationRegionDone _ => true
  | .memCfgWrite _ => true
  | .memTrainDone _ _ _ _ => true
  | .memOscCheck _ _ => true
  | .memRecentreDone _ => true
  | .memCeWindow _ => true
  | .memRetrainDone _ _ => true
  | .memMr4Read _ _ _ _ => true
  | .memRefresh _ _ => true
  | .memScrubStripe _ _ _ => true
  | .memCntclr => true
  | .xltCtxBind _ => true
  | .xltCtxRead _ => true
  | .xltCtxUnbind _ => true
  | .xltSegWrite _ _ => true
  | .xltSegRead _ _ => true
  | .xltSegClear _ _ => true
  | .xltInv _ => true
  | .invalidationComplete => true
  | .invalidationTimeout => true
  | .atsInvalidateRequest _ _ _ => true
  | .atsTranslationCompletion _ _ _ _ _ _ => true
  | .atsTimeout _ => true
  | .prgResponse _ _ => true
  | .priTimeout _ => true
  | .xltCntclr => true
  | .tqQcmdCreate _ => true
  | .tqQcmdRead _ => true
  | .tqQcmdStart _ => true
  | .tqQcmdStop _ => true
  | .tqQcmdAbort _ => true
  | .tqQcmdDestroy _ => true
  | .tqQcmdResume _ => true
  | .tqCntclr => true
  | .dbTail _ _ _ => true
  | .dbCplhead _ _ _ => true
  | .dbRechead _ _ _ => true
  | .dbResume _ _ _ => true
  | .dbAbort _ _ _ => true
  | .batchFetchDone _ => true
  | .batchAccept _ => true
  | .tideNop _ => true
  | .tideJump _ => true
  | .tideBrc _ => true
  | .tideLoop _ => true
  | .tideSeti _ => true
  | .tideAddi _ => true
  | .tideWait _ => true
  | .waitTimeout _ => true
  | .tideCset _ => true
  | .tideCadd _ => true
  | .tideFence _ => true
  | .tideMark _ => true
  | .tideAdvise _ => true
  | .tideOpnd _ => true
  | .tideCopy _ => true
  | .tidePrefetch _ => true
  | .tideFill _ => true
  | .tideReckon _ => true
  | .tideKcall _ => true
  | .tidePut _ => true
  | .tideGet _ => true
  | .tideColl _ => true
  | .ferryPieceDone _ _ _ _ _ => true
  | .commandCommit _ _ _ _ _ => true
  | .stagedEffectsApply _ => true
  | .tileFence _ => true
  | .tileFenceReport _ _ => true
  | .kcallTimeout _ _ _ => true
  | .collTimeout _ _ _ => true
  | .counterHostWrite _ _ => true
  | .instanceStart _ => true
  | .kernelImageSector _ _ _ _ => true
  | .instanceAbort _ => true
  | .instanceException _ => true
  | .loadResponse _ => true
  | .writeAck _ => true
  | .reckonerExecute _ _ => true
  | .add _ => true
  | .sub _ => true
  | .and _ => true
  | .or _ => true
  | .xor _ => true
  | .sll _ => true
  | .srl _ => true
  | .sra _ => true
  | .slt _ => true
  | .sltu _ => true
  | .mul _ => true
  | .mulhu _ => true
  | .mulh _ => true
  | .divu _ => true
  | .remu _ => true
  | .ramap _ => true
  | .addi _ => true
  | .andi _ => true
  | .ori _ => true
  | .xori _ => true
  | .slti _ => true
  | .sltiu _ => true
  | .shi _ => true
  | .lsh _ => true
  | .ldbu _ => true
  | .ldhu _ => true
  | .ldwu _ => true
  | .ldws _ => true
  | .ldd _ => true
  | .stb _ => true
  | .sth _ => true
  | .stw _ => true
  | .std _ => true
  | .kld _ => true
  | .kst _ => true
  | .amoAdd _ => true
  | .amoSwap _ => true
  | .amoCas _ => true
  | .amoMaxu _ => true
  | .amoMinu _ => true
  | .amoOr _ => true
  | .amoAnd _ => true
  | .cntAdd _ => true
  | .cntSet _ => true
  | .cntRead _ => true
  | .beq _ => true
  | .bne _ => true
  | .blt _ => true
  | .bge _ => true
  | .bltu _ => true
  | .bgeu _ => true
  | .jal _ => true
  | .jalr _ => true
  | .csrr _ => true
  | .csrw _ => true
  | .exit _ => true
  | .wack _ => true
  | .ksync _ => true
  | .trap _ => true
  | .kmov _ => true
  | .kxor _ => true
  | .kins _ => true
  | .kext _ => true
  | .kbc _ => true
  | .krand _ => true
  | .ktally _ => true
  | .kdig _ => true
  | .kmdot _ => true
  | .kdot _ => true
  | .kzacc _ => true
  | .ksha _ => true
  | .krnd _ => true
  | .kint _ => true
  | .kput _ => true
  | .kadda _ => true
  | .beadCntclr => true
  | .reckonCheckDone _ _ _ _ => true
  | .tlyCtxWrite _ => true
  | .tlyCtxRead _ => true
  | .tlyCntclr => true
  | .journalLocalDurable => true
  | .logReappend => true
  | .mirrorAckTimeout => true
  | .hblTkhead _ => true
  | .hblTkEnable _ => true
  | .hblCntclr => true
  | .takeover _ => true
  | .collReadyDurable _ _ _ _ => true
  | .collCommitDurable _ _ _ => true
  | .collMemberLost _ => true
  | .memberBeat => true
  | .memberFailDeclare _ => true
  | .graceExpiry _ => true
  | .stewardCollectDone reports => distinct (reports.map (fun r => r.die.val))
  | .shlFrameReceive _ _ => true
  | .shlRead _ => true
  | .shlWrite _ => true
  | .shlAck _ => true
  | .shlAbort _ => true
  | .shlDoorbell _ => true
  | .shlCounter _ => true
  | .shlWatch _ => true
  | .shlReplayTimeout _ => true
  | .shlRetrainDone _ _ mods => mods.val != 0
  | .shlRetrainTimeout _ => true
  | .shlPortEnable _ => true
  | .shlPortDisable _ => true
  | .shlLinkUp _ _ mods => mods.val != 0
  | .shlTrainTimeout _ => true
  | .shlCapabilityReceive _ _ => true
  | .shlNegotiateTimeout _ => true
  | .shlLinkDown _ => true
  | .shlTelemetry _ _ => true
  | .shlTelemetryMiss _ => true
  | .shlCntclr => true
  | .twyLinkEnable _ => true
  | .twyLinkDisable _ => true
  | .twyBlockLock _ => true
  | .twyDetectTimeout _ => true
  | .twyConfigReceive _ _ _ _ _ _ _ _ _ => true
  | .twyConfigTimeout _ => true
  | .twyDwellDone _ _ => true
  | .twyPauseDone _ => true
  | .twyPauseTimeout _ => true
  | .twyHoldExpiry _ => true
  | .twyCmdRetrain _ => true
  | .twyCmdRestore _ => true
  | .twyCmdDown _ => true
  | .twyCmdTest _ _ => true
  | .twyCmdTestend _ => true
  | .twyFrameReceive _ _ _ _ => true
  | .twyWrite _ => true
  | .twyRead _ => true
  | .twyReadData _ => true
  | .twyAck _ => true
  | .twyError _ => true
  | .twyAbort _ => true
  | .twyFence _ => true
  | .twyDoorbell _ => true
  | .twyJournal _ => true
  | .twyJack _ => true
  | .twyColl _ => true
  | .twyRoute _ => true
  | .twyForward _ => true
  | .leaseClaimReceive _ => true
  | .leaseRenewReceive _ => true
  | .leaseReleaseReceive _ => true
  | .memberBeatReceive _ => true
  | .stewardDecisionReceive _ => true
  | .resetNoticeReceive _ => true
  | .linkReportReceive _ => true
  | .identityReportReceive _ => true
  | .memberJoin _ => true
  | .rosterChangeReceive _ => true
  | .enrolForwardReceive _ => true
  | .activateForwardReceive _ fleet => distinct (fleet.map (fun r => r.die.val))
  | .turnDoneReceive _ => true
  | .twyReplayTimeout _ => true
  | .twyLosTimeout _ => true
  | .twyBerWindow _ rates seen => decide (rates.length = 9 ∧ seen.length = 9)
  | .twyErrorWindow _ => true
  | .twySpareTrainDone _ _ => true
  | .twySwapDone _ => true
  | .twyRateTrialEnd _ => true
  | .twyWidthWindow _ _ _ => true
  | .twyKeyUpdate _ _ => true
  | .twyCntclr => true
  | .pciLinkUp _ _ _ => true
  | .pciLinkDown => true
  | .pciReadCompletion _ data _ _ => decide (data.length ≤ 64)
  | .pciCompletionTimeout _ => true
  | .vfFlr v => v.val != 0
  | .msixUnmask _ => true
  | .pciCntclr => true
  | .qosTokenTick => true
  | .qosWindow => true
  | .qosMissWindow => true
  | .qosPaceWindow pct => decide (pct.length = 8)
  | .qosIsthmusWindow _ => true
  | .qosWakeholdWrite _ => true
  | .qosCntclr => true
  | .currentSample _ _ _ _ => true
  | .tempSample _ _ _ => true
  | .throttleStep => true
  | .throttleReleaseStep => true
  | .thermalTrip _ => true
  | .railLimitStep _ _ _ => true
  | .droopTrip _ => true
  | .droopRelease _ => true
  | .droopHoldEnd _ => true
  | .undervoltage _ => true
  | .avsTransactionDone _ _ => true
  | .pllLockLoss _ => true
  | .slackEntry => true
  | .slackExit _ => true
  | .coveGate _ => true
  | .coveWakeRequest _ => true
  | .coveAwake _ => true
  | .avfsWindow _ => true
  | .avfsVoltageStep _ _ => true
  | .cdLimitUpdate => true
  | .cdPowerWindow _ => true
  | .brkCntclr => true
  | .spdmRequest _ => true
  | .getRecordKey _ _ _ => true
  | .mctpMessage _ _ => true
  | .keyGen => true
  | .keyRotate => true
  | .keyDestroy => true
  | .rootRotate => true
  | .rootRetire => true
  | .leaseRelease => true
  | .enrol => true
  | .enrolTimeout => true
  | .rosterRead => true
  | .identRead => true
  | .hldCntclr => true
  | .leaseListenEnd => true
  | .leaseLapse => true
  | .leaseBackoffEnd => true
  | .leaseQuietEnd => true
  | .leaseRenewTimer => true
  | .powerOn => true
  | .vaoBrownout => true
  | .resetNAssert => true
  | .resetNRelease _ _ _ _ => true
  | .phaseHbootDone _ _ => true
  | .phasePowerDone _ => true
  | .phaseBringupDone => true
  | .perstNRise => true
  | .perstNFall => true
  | .pciHotReset => true
  | .pfFlr => true
  | .glbResetWarm => true
  | .glbResetCold => true
  | .warmReset => true
  | .warmResetReturn _ _ => true
  | .takeoverQueryAnswer _ _ => true
  | .hostGo => true
  | .leave => true
  | .leaveComplete => true
  | .rejoin => true
  | .refclkTwyLoss => true
  | .refclkTwyReturn => true
  | .fwuBegin => true
  | .fwuChunk => true
  | .fwuEnd => true
  | .fwuCancel => true
  | .fwuActivate fleet => distinct (fleet.map (fun r => r.die.val))
  | .fwuActCancel => true
  | .fwuRecovExit => true
  | .pldmRequestUpdate _ => true
  | .pldmPassComponentTable _ comps => comps.all component
  | .pldmUpdateComponent _ comp => component comp
  | .pldmFirmwareData _ bytes _ => decide (0 < bytes.length)
  | .pldmActivateFirmware _ fleet => distinct (fleet.map (fun r => r.die.val))
  | .pldmCancelUpdateComponent _ => true
  | .pldmCancelUpdate _ => true
  | .queryDeviceIdentifiers _ => true
  | .getFirmwareParameters _ => true
  | .fwuTurnStart => true
  | .fwuDrainEnd => true
  | .fwuOverwriteDone => true
  | .fwuActivationDone _ => true
  | .fwuTurnTimeout => true
  | .illegalInstruction _ => true
  | .instructionFetchFault _ => true
  | .takeoverQueryReceive _ => true
  | .departureReportReceive _ => true
  | .mirrorLossReportReceive _ => true
  | .clampDurationIrq loop inst => decide (inst.val < loopInsts loop.val)
  | .hldCommandComplete => true
  | .fwuCommandComplete _ => true
  | .priEnable _ _ => true
  | .vfEnable n => n.val != 0

end Sys2Proof
end

