-- ==== Sys2Proof/Tests/Slice0.lean ====
section
/-! SUPPORT. This model's own tests: ill-formed commands are refused, and every statement that has hypotheses has, clause by clause, a state
and operands that meet them. -/

namespace Sys2Proof.Tests
open Sys2Proof Sys2Proof.Machine

set_option Elab.async false


/-- A state in PHASE 3 with every cove awake, memory trained and the rings ready. -/
def w0 : State :=
  { setF F.MEM_CAP.UNITS 0 0x1000000 (setReg .MEM_CHUP_LO 0 0xFFFFFFFF (setReg .MEM_CHUP_HI 0 0xFFFF
      (setF F.MSH_COVEAWAKE.AWAKE 0 0xFFFF (setF F.GLB_STATUS.PHASE 0 3 State.reset)))) with
    evt := { State.reset.evt with ready := true }, rst := { State.reset.rst with ready := true }
    mem := { State.reset.mem with trained := true } }

/-- A flit of the fields given, with nothing in it. -/
def fl (a : FlitArgs) : Flit := { hdr := unicastHdr a, pay := 0, tally := 0, crc := 0 }

/-- A request that waits at a memory controller. -/
def mq (op d keysel : Nat) : MemReq :=
  { op := op, d := d, pay := 0, tally := tallyOf 0, poison := false, mark := 1, share := 2, keysel := keysel, last := true, port := agentKey 47 5,
    src := agentKey 0 0, tag := 3, arr := 0, held := false }

/-- A queue descriptor of an ASID and a class: rings of 64, mark 1, weight 1, sixteen counters from 8 on. -/
def qdesc (asid cls : Nat) : BitVec 512 :=
  BitVec.ofNat 512 (2 ^ 12 + 6 * 2 ^ 64 + 6 * 2 ^ 69 + 6 * 2 ^ 74 + 4 * 2 ^ 84 + cls * 2 ^ 88 + asid * 2 ^ 96 + 2 ^ 112 + 2 ^ 128 + 2 ^ 156
    + 8 * 2 ^ 160 + 16 * 2 ^ 176 + 2 ^ 204 + 2 ^ 268)

/-- A RUNNING queue of ASID 5 and a class. -/
def qrun (cls : Nat) : TQueue := { desc := qdesc 5 cls, st := 2 }

/-- A state with context 5 bound, and the segments, queues and waiting translations given. -/
def wx (segs : Map Seg) (queues : Map TQueue) (waits : List AtsWait) : State :=
  { w0 with xlt := { w0.xlt with ctxs := [(5, { bound := true, func := 0, pasid := 7, gen := 3, point := 9 })], segs := segs, waits := waits },
            tq := { w0.tq with queues := queues } }

/-- A waiting translation of ASID 5. -/
def aw (what : XFor) (pri : Bool) : AtsWait :=
  { tag := 4, what := what, queue := 1, engine := 0, asid := 5, page := 2, acc := 1, gen := 3, pri := pri, held := false, again := false }

/-- A queue at a state of R287, with the tails and batches given. -/
def qst (st : Nat) (tails : List Nat) (batches : List Batch) : TQueue :=
  { desc := qdesc 5 0, st := st, tails := tails, batches := batches, asn := 1 }

/-- Registers that hold a legal descriptor for ASID 5. -/
def qregs (s : State) : State :=
  (List.range 16).foldl (fun u j => setReg .TQ_QD j (BitVec.ofNat 32 ((qdesc 5 1).toNat / 2 ^ (32 * j))) u) s

/-- A command of a batch. -/
def tc (w : Nat) : TCmd := { word := BitVec.ofNat 256 w, opnds := [] }

/-- A batch not yet accepted, and one accepted, of the commands given. -/
def bnew (ws : List Nat) : Batch := { first := 1, ring := 0, cmds := ws.map tc }
def bacc (ws : List Nat) : Batch := { bnew ws with accepted := true }

/-- A fetched batch of commands, of which the first `n` are checked. -/
def fet (ws : List Nat) (n : Nat) : Fetch :=
  { tail := ws.length, first := 0, count := ws.length, words := (List.range ws.length).zip (ws.map (BitVec.ofNat 256)), done := (ws.take n).map tc }

/-- A dispatched instance of an OP with no operand. -/
def inst (op : Nat) : Inst := { idx := 0, dseq := 1, op := op, last := true, snap := {}, opnds := [] }

/-- An accepted batch of one command, with its instance. -/
def bi (w : Nat) (i : Inst) : Batch := { bacc [w] with insts := [i], seq := { dseq := 2, pos := 1 }, isOver := true }

/-- A state whose queue 1 runs a batch, and one whose batch has the instance given. -/
def wq (cls : Nat) (b : Batch) : State := wx [] [(1, { qrun cls with batches := [b], asn := 2 })] []
def wi (cls w : Nat) (i : Inst) : State := wq cls (bi w i)

/-- The job of a core: instance 0 of launch 9. -/
def jb : KPend := { launch := 9, queue := 1, asn := 1, dseq := 1, index := 0, device := false }

/-- A core at address 0 of an image that begins with the word given; g1 and g2 hold values, and a window covers 4 KiB. -/
def kc (w : Nat) (g1 g2 : BitVec 64) : Core :=
  { job := some jb, asid := 5, codeLen := 64, code := [(0, BitVec.ofNat 512 w)], g := [(1, g1), (2, g2)],
    wins := [some { base := 0x110000000, len := 4096, perm := 3 }] }

/-- A state in which core 6 is as given. -/
def wk (k : Core) : State :=
  let s := setF F.RFB_PLACE.LOCAL_SLOTS 0 256 (wx [] [(1, qrun 1)] [])
  { s with bead := { s.bead with cores := [(6, k)] } }

/-- A state in which link 3 has received a message. -/
def wm (m : TwyMsg) (s : State) : State := { s with twy := { s.twy with rx := [(rxKey 3 m.hop m.vc, [m])] } }

/-- A message from die 4 to this die. -/
def msg (op vc : Nat) (body : BitVec 256) : TwyMsg := { op := op, vc := vc, src := 4, dst := 0, body := body }

/-- A state in which this die has a role (R757). -/
def wr (r : Nat) : State := setF F.HLD_ROLE.ROLE 0 r w0

/-- This die as a steward that acts. -/
def wst : State := { wr 3 with hld := { w0.hld with stew := { ready := true, present := 0x11 } } }

/-- Window 0 bound, open to die 4, with a segment over the local Reef view. -/
def wput : State :=
  setReg .XLT_WINSRC 0 0x10 (setF F.RFB_PLACE.LOCAL_SLOTS 0 256 { w0 with
    xlt := { w0.xlt with ctxs := [(65472, { bound := true })],
                         segs := [(65472 * 16, { start := 0, len := 65536, base := 0x100000000, attr := 0x7 })] } })

/-- Link 3 in a state of R570, with what else it holds. -/
def wl (st : Nat) (l : TwyLink) : State := setLinkState 3 st { w0 with twy := { w0.twy with links := [(3, l)] } }

/-- A frame whose last bytes are the CRC of the others. -/
def sealFr (v : Nat) : BitVec 2048 :=
  BitVec.ofNat 2048 (v + (crc32c (byteSlice (BitVec.ofNat 2048 v) 0 252)).toNat * 2 ^ 2016)

/-- Port 3 in a state of R531, with what else it holds, and one window over the start of the local view. -/
def wp (st : Nat) (x : ShlPort) : State :=
  setF F.SHL_WINA.LEN 24 1 (setReg .SHL_WINB 24 (putBit (putBit (putBit (putBit 0 F.SHL_WINB.VALID.bit true) F.SHL_WINB.VIEW.bit true) F.SHL_WINB.R.bit true) F.SHL_WINB.W.bit true) (setF F.SHL_PSTAT.STATE 3 st
    { w0 with shl := { w0.shl with ports := [(3, x)] } }))

/-- A slot of the fields given. -/
def slot (vc op view target pay tally : Nat) : BitVec 640 :=
  BitVec.ofNat 640 (vc + op * 2 ^ 2 + view * 2 ^ 12 + 9 * 2 ^ 16 + target * 2 ^ 44 + pay * 2 ^ 96 + tally * 2 ^ 608)

/-- Port 3, ACTIVE, with one slot that waits on its VC. -/
def ws (b : BitVec 640) : State := wp 3 { rx := [(slotVc b, [(0, b)])], rxSeq := 1 }

/-- A pair is made of its parts. -/
theorem pair_eq {α β : Type} (p : α × β) : p = (p.1, p.2) := rfl

/-- With no instance dispatched every staging buffer is free: the one picked is the open number drawn. -/
theorem stagePick_free {s : State} (h : ∀ e ∈ s.tq.queues, ∀ b ∈ e.2.batches, b.insts = []) :
    stagePick s = (some (((draw 6 s).1.toNat + 0) % 64), (draw 6 s).2) := by
  have e : (List.range 64).map (fun k => ((draw 6 s).1.toNat + k) % 64)
      = ((draw 6 s).1.toNat + 0) % 64 :: (List.range' 1 63).map (fun k => ((draw 6 s).1.toNat + k) % 64) := rfl
  show (((List.range 64).map (fun k => ((draw 6 s).1.toNat + k) % 64)).find? (stageFree (draw 6 s).2), (draw 6 s).2) = _
  rw [e, List.find?_cons_of_pos]
  have h2 : s.tq.queues.any (fun (q : Nat × TQueue) => q.2.batches.any (fun b => b.insts.any (fun i =>
      match i.launch with
      | some l => l.stages.any (fun (p : Nat × Nat) => decide (0xBD400000 + (((draw 6 s).1.toNat + 0) % 64) * 0x40000 ≤ p.2
          ∧ p.2 < 0xBD400000 + (((draw 6 s).1.toNat + 0) % 64) * 0x40000 + 0x40000))
      | none => false))) = false := by
    rw [List.any_eq_false]
    intro e he hb
    obtain ⟨b, hb1, hb2⟩ := List.any_eq_true.mp hb
    rw [h e he b hb1] at hb2
    simp at hb2
  exact congrArg Bool.not h2

/-- A pair whose first part is known. -/
theorem pair_of {α β : Type} {p : α × β} {a : α} (h : p.1 = a) : p = (a, p.2) := by rw [← h]

/-- A pair whose first part is there. -/
theorem pair_some {α β : Type} {p : Option α × β} (h : p.1.isSome = true) : p = (some (p.1.get h), p.2) := by
  rw [Option.some_get]

/-- Where no listed queue's fetch is held, no queue's is. -/
theorem unheld {s : State} (h : ∀ e ∈ s.tq.queues, ∀ f ∈ e.2.fetch, f.held = false) (p : Nat) (f : Fetch)
    (hf : (queueAt s p).fetch = some f) : f.held = false := by
  have h1 : ∀ l : Map TQueue, (∀ e ∈ l, ∀ f ∈ e.2.fetch, f.held = false) → (mapGet l p {}).fetch = some f → f.held = false := by
    intro l
    induction l with
    | nil => intro _ h2; simp [mapGet] at h2
    | cons a l ih =>
      intro h3 h4
      simp only [mapGet] at h4
      split at h4
      · exact h3 a List.mem_cons_self f (by simpa using h4)
      · exact ih (fun e he => h3 e (List.mem_cons_of_mem _ he)) h4
  exact h1 _ h hf

/-- Where nothing waits at a unit, no class is held by its limit. -/
theorem none_waits {s : State} (h : ∀ r j, waitingClasses s r j = []) (r c : Nat) : heldByMax s r c = false := by
  unfold heldByMax
  exact List.any_eq_false.2 (fun j _ => by simp [h])

/-- In that state no refresh region uses a key slot. -/
theorem keymap_w0 (j : Nat) : getReg w0 .MEM_KEYMAP j = 0 := by
  have h : getReg w0 .MEM_KEYMAP j = getReg (setF F.MEM_CAP.UNITS 0 0x1000000 (setReg .MEM_CHUP_LO 0 0xFFFFFFFF (setReg .MEM_CHUP_HI 0 0xFFFF
      (setF F.MSH_COVEAWAKE.AWAKE 0 0xFFFF (setF F.GLB_STATUS.PHASE 0 3 State.reset))))) .MEM_KEYMAP j := by simp only [w0, getReg]
  rw [h, getReg_setF_ne _ _ _ _ _ _ (.inl (by decide)), getReg_setReg, if_neg (by simp), getReg_setReg, if_neg (by simp),
    getReg_setF_ne _ _ _ _ _ _ (.inl (by decide)), getReg_setF_ne _ _ _ _ _ _ (.inl (by decide))]
  have h1 : ∀ f ∈ Reg.MEM_KEYMAP.info.flds, f.reg = .MEM_KEYMAP ∧ f.reset = 0 := by decide +kernel
  have h2 : Reg.MEM_KEYMAP.info.flds.map (fun f => fldReset f j % 2 ^ f.width * 2 ^ f.bit) = Reg.MEM_KEYMAP.info.flds.map (fun _ => 0) :=
    List.map_congr_left (fun f hf => by simp [fldReset, h1 f hf])
  show BitVec.ofNat 32 _ = 0
  rw [h2]
  decide +kernel

/-- Where the key map is empty, no slot is in use. -/
theorem none_used {s : State} (h : ∀ j, getReg s .MEM_KEYMAP j = 0) (k : Nat) : slotUsed s k = false := by
  unfold slotUsed
  exact List.any_eq_false.2 (fun r _ => by simp [keyEntry, h, bitAt])

/-! ### Ill-formed commands are refused -/

theorem test_wf_offset_not_aligned : Instr.wf (.regWrite 0 false 2 0 false) = false ∧ Instr.wf (.reg64LoRead 0 false 6) = false ∧
    Instr.wf (.reg64HiRead 0 5) = false ∧ Instr.wf (.reg64LoWrite 0 3 0) = false ∧ Instr.wf (.reg64HiWrite 0 1 0) = false := by decide +kernel
theorem test_wf_bad_access_is_bad : Instr.wf (.barBadAccessRead 0 false 8 4) = false ∧ Instr.wf (.barBadAccessWrite 8 4) = false ∧
    Instr.wf (.barBadAccessRead 0 false 8 8) = true := by decide +kernel
theorem test_wf_bar4_lengths : Instr.wf (.bar4Read 0 0 0) = false ∧ Instr.wf (.bar4Write 0 0 [] false) = false ∧
    Instr.wf (.bar4Write 0 0 (List.replicate 513 0) false) = false := by decide +kernel
theorem test_wf_reports_name_a_die_once : Instr.wf (.fwuActivate [⟨4, none, 0⟩, ⟨4, none, 0⟩]) = false ∧
    Instr.wf (.activateForwardReceive 3 [⟨4, none, 0⟩, ⟨4, none, 0⟩]) = false ∧
    Instr.wf (.pldmActivateFirmware .pcie [⟨4, none, 0⟩, ⟨4, none, 0⟩]) = false ∧
    Instr.wf (.stewardCollectDone [⟨4, none, [], 0, [], 0⟩, ⟨4, none, [], 0, [], 0⟩]) = false := by decide +kernel
theorem test_wf_no_modules : Instr.wf (.shlLinkUp 3 0 0) = false ∧ Instr.wf (.shlRetrainDone 3 0 0) = false := by decide +kernel
theorem test_wf_lanes_and_ports : Instr.wf (.twyBerWindow 3 [] []) = false ∧ Instr.wf (.qosPaceWindow [0]) = false := by decide +kernel
theorem test_wf_host_port : Instr.wf (.pciReadCompletion 0 (List.replicate 65 0) false true) = false ∧ Instr.wf (.vfFlr 0) = false ∧
    Instr.wf (.vfEnable 0) = false := by decide +kernel
theorem test_wf_clamp_of_a_loop : Instr.wf (.clampDurationIrq 3 1) = false ∧ Instr.wf (.clampDurationIrq 0 0) = false := by decide +kernel
theorem test_wf_components : Instr.wf (.pldmPassComponentTable .pcie [7]) = false ∧ Instr.wf (.pldmUpdateComponent .pcie 0) = false ∧
    Instr.wf (.pldmFirmwareData .pcie [] false) = false := by decide +kernel

/-! ### Worked cases of the spec, with the results it gives -/

/-- 09: the CRC-32C of the nine ASCII bytes "123456789". -/
theorem test_case_crc32c : crc32c (("123456789".toList).map (fun c => BitVec.ofNat 8 c.toNat)) = 0xE3069283 := by decide +kernel

/-- 04, Worked case (R134, R136): RA 0x0123_4840 is tile 123 in cove 2, offset 0x9040, bank 3; the next granule is tile 632. -/
theorem test_case_hashed_view : hashPlace 0x01234840 = { isLocal := false, tile := 123, so := 0x9040 } ∧ coveOf 123 = 2 ∧
    bankOf 0x9040 = 3 ∧ (hashPlace 0x01235000).tile = 632 := by decide +kernel

/-- 04, Worked case (R138): with LOCAL_SLOTS 16, RA 0x4000_1040 falls in a hole and RA 0x0123_4840 does not. -/
theorem test_case_hole : placeRefusal (setF F.RFB_PLACE.LOCAL_SLOTS 0 16 w0) (hashPlace 0x40001040) = some Status.RFB_HOLE ∧
    placeRefusal (setF F.RFB_PLACE.LOCAL_SLOTS 0 16 w0) (hashPlace 0x01234840) = none := by decide +kernel

/-- 05, Worked case (R185): D = 0x4_8000_5A40 lies in region 288, on channel 43, controller 7, stripe 786,432. -/
theorem test_case_channel : regionOf 0x480005A40 = 288 ∧ lpChan 0x480005A40 = 43 ∧ ctrlOf 43 = 7 ∧ lpStripe 0x480005A40 = 786432 := by
  decide +kernel

/-- 05, Worked case (R177, R185, R188): its data and metadata entry on the channel, and the number of its sector, the tweak. -/
theorem test_case_channel_bytes : dataAddr 0x480005A40 = 0x1B000140 ∧ metaAddr 0x480005A40 = 0x1B000228 ∧
    0x480005A40 / 64 = 0x12000169 ∧ lpOffset 43 786432 5 = 0x480005A40 := by decide +kernel

/-- R187: the block cipher is AES-256, which enciphers the example block of FIPS 197, appendix C.3, as the standard prints it. -/
theorem test_case_aes : aesBlock (List.range 32) ((List.range 16).map (fun i => i * 17))
    = [0x8E, 0xA2, 0xB7, 0xCA, 0x51, 0x67, 0x45, 0xBF, 0xEA, 0xFC, 0x49, 0x90, 0x4B, 0x49, 0x60, 0x89] := by decide +kernel

/-- R592: a PRBS7 generator runs through 127 states, and a checker of its bits counts none of them and each bit turned over. -/
theorem test_prbs : (prbsRun (7, 6) 127 1).2.toNat % 128 = 1 ∧ (prbsRun (7, 6) 126 1).2.toNat % 128 ≠ 1 ∧
    (prbsCheck (7, 6) {} (prbsRun (7, 6) 40 1).1).errs = 0 ∧
    (prbsCheck (7, 6) {} ((prbsRun (7, 6) 40 1).1.set 20 (!(prbsRun (7, 6) 40 1).1.getD 20 false))).errs = 1 := by decide +kernel

/-- The header of the broadcast of 03, Worked case. -/
def castFlit : Flit := { hdr := 0x000000000080175D0604010091A01546, pay := 0, tally := 0, crc := 0 }

/-- 03, Worked case (R80, R81, R93): its fields, its 192 targets and its rail. -/
theorem test_case_broadcast : castFlit.vc = 2 ∧ castFlit.op = 1 ∧ castFlit.cast = 1 ∧ castFlit.srcX = 21 ∧ castFlit.srcY = 0 ∧
    castFlit.srcAgent = 4 ∧ castFlit.mark = 0x0123 ∧ castFlit.share = 2 ∧ castFlit.dstAgent = 2 ∧ castFlit.nTargets = 192 ∧
    castFlit.offset = 0x10000 ∧ railOf castFlit = 0 := by decide +kernel

/-- The event of 19, Worked case. -/
def caseEvent : EvArgs := { code := Ev.RFB_UE, asid := 0x42, queue := some 40, mark := 0x2A00, inst := 194, d1 := 0x4C001040 }

/-- 19, Worked case (R863): bytes 0-7 of its record on die 2. -/
theorem test_case_record : recWord (evRecord (setF F.GLB_DIE.DIE 0 2 w0) caseEvent 2) 0 = 0x02020206 ∧
    recWord (evRecord (setF F.GLB_DIE.DIE 0 2 w0) caseEvent 2) 1 = 0x04280042 := by decide +kernel

/-- 15, Worked case (R724): eight compute dies of 160 W under ASMLIM 1,450 receive 157 W each. -/
theorem test_case_budget : cdLimitOf ((List.range 8).foldl (fun u p => setF F.SHL_PSTAT.STATE p 3 (setReg .SHL_CAP (8 * p + 4) 160 u)) w0) 3
    = 157 := by decide +kernel

/-- 15, Worked case (R716, R717): the first sample of the dual window, with SEQ 0x123, reads 0x0246_C6CC. -/
theorem test_case_dual_sample : Completes (.currentSample 5 16383 1740 800)
    { w0 with brk := { w0.brk with isens := [(5, { dual := 4, seq := 0x123 })] } } (fun t => getReg t .BRK_ISAMP 5 = 0x0246C6CC) :=
  ⟨_, rfl, by decide +kernel⟩

/-- 15, Worked case (R720): sensor 21 reads 100.25 degrees and FCODE drops to 2. -/
theorem test_case_throttle : Completes (.tempSample 21 401 false) w0 (fun t => fcode t = 2) := ⟨_, rfl, by decide +kernel⟩

/-! ### Every statement has hypotheses that some state meets -/

/-- The hypotheses of StepRunsTheFrontCommand are met, clause by clause. -/
theorem test_wit_StepRunsTheFrontCommand :
    (∃ (s : State), s.pending = [] ∧ (∀ (n : Nat), n < 24 → linkState s n ≠ 4)) ∧
    (∃ (n : LinkId) (s : State), s.pending = [] ∧ twyClock s = true ∧ linkState s ↑n = 4 ∧ (∀ (k : Nat), k < 24 → k ≠ ↑n → linkState
      s k ≠ 4) ∧ (linkAt s ↑n).replay.length < 256) :=
  ⟨⟨State.reset, by decide +kernel⟩,
   ⟨3, wl 4 {}, by decide +kernel⟩⟩

/-- The hypotheses of StepKeepsCanonicalForm are met, clause by clause. -/
theorem test_wit_StepKeepsCanonicalForm :
    (∃ (s : State) (t : State), Canonical s = true ∧ step s = .next t) :=
  ⟨State.reset, (match step State.reset with | .next t => t | _ => State.reset), by exact ⟨by decide +kernel, rfl⟩⟩

/-- The hypotheses of EventsAreCountedAndRecorded are met, clause by clause. -/
theorem test_wit_EventsAreCountedAndRecorded :
    (∃ (e : EvArgs) (sev : Nat) (r : Reg), sev = e.sev.getD ((evSev? e.code).getD 0) ∧ sev < 4 ∧ ¬r ∈ eventRegs) ∧
    (∃ (e : EvArgs) (s : State) (sev : Nat) (v : Nat), sev = e.sev.getD ((evSev? e.code).getD 0) ∧ sev < 4 ∧ v < 32 ∧ s.evt.ready =
      true ∧ unread s v < 4095 ∧ ¬(sev = 3 ∧ s.evt.fatal = true) ∧ ¬v ∈ evRings s e.asid e.queue) ∧
    (∃ (e : EvArgs) (s : State) (sev : Nat) (v : Nat), sev = e.sev.getD ((evSev? e.code).getD 0) ∧ sev < 4 ∧ v < 32 ∧ s.evt.ready =
      true ∧ unread s v < 4095 ∧ ¬(sev = 3 ∧ s.evt.fatal = true) ∧ v ∈ evRings s e.asid e.queue) :=
  ⟨⟨{ code := Ev.REG_RSVD }, 0, .GLB_STATUS, by decide +kernel⟩,
   ⟨{ code := Ev.REG_RSVD }, w0, 0, 31, by decide +kernel⟩,
   ⟨{ code := Ev.REG_RSVD, sev := some 3, asid := 5, d0 := 7 }, w0, 3, 0, by decide +kernel⟩⟩

/-- The hypotheses of RegisterWriteFollowsAccessCodes are met, clause by clause. -/
theorem test_wit_RegisterWriteFollowsAccessCodes :
    (∃ (s : State) (off : BitVec 28) (r : Reg) (i : Nat), barOpen s = true ∧ off.toNat % 4 = 0 ∧ regFind Reg.table off.toNat = some
      (r, i) ∧ plainReg r = true) :=
  ⟨w0, 0xF00004, .EVT_CTL, 0, by decide +kernel⟩

/-- The hypotheses of BadAccessIsAnsweredAndNoted are met, clause by clause. -/
theorem test_wit_BadAccessIsAnsweredAndNoted :
    (∃ (off : BitVec 28) (len : BitVec 13) (s : State), barOpen s = true ∧ ¬(off.toNat % 4 = 0 ∧ len.toNat = 4)) :=
  ⟨2, 4, w0, by decide +kernel⟩

/-- The hypotheses of PairsAreReadAndWrittenInHalves are met, clause by clause. -/
theorem test_wit_PairsAreReadAndWrittenInHalves :
    (∃ (s : State) (off : BitVec 28) (lo : Reg) (hi : Reg) (i : Nat), readOpen s off.toNat = true ∧ twoFold off.toNat = false ∧
      off.toNat % 4 = 0 ∧ regFind Reg.table off.toNat = some (lo, i) ∧ lo.hi? = some hi) ∧
    (∃ (s : State) (off : BitVec 28) (lo : Reg) (hi : Reg) (i : Nat), readOpen s off.toNat = true ∧ twoFold off.toNat = false ∧
      off.toNat % 4 = 0 ∧ regFind Reg.table off.toNat = some (hi, i) ∧ hi.hi? = none ∧ hi.lo? = some lo) ∧
    (∃ (s : State) (off : BitVec 28) (lo : Reg) (i : Nat), writeOpen s off.toNat = true ∧ regFind Reg.table off.toNat = some (lo, i) ∧
      lo.hi?.isSome = true ∧ pairWritable lo = true) ∧
    (∃ (s : State) (off : BitVec 28) (lo : Reg) (hi : Reg) (i : Nat), writeOpen s off.toNat = true ∧ regFind Reg.table off.toNat =
      some (hi, i) ∧ hi.lo? = some lo ∧ lo ≠ hi ∧ lo ≠ Reg.TQ_CNT_LO ∧ pairWritable hi = true) :=
  ⟨⟨setReg .XLT_SEGSTART_HI 0 5 w0, 0x400048, .XLT_SEGSTART_LO, .XLT_SEGSTART_HI, 0, by decide +kernel⟩,
   ⟨{ w0 with pci := { w0.pci with shadow := [(0, 7)] } }, 0x40004C, .XLT_SEGSTART_LO, .XLT_SEGSTART_HI, 0, by decide +kernel⟩,
   ⟨w0, 0x400048, .XLT_SEGSTART_LO, 0, by decide +kernel⟩,
   ⟨{ w0 with pci := { w0.pci with loHeld := [(regKey .XLT_SEGSTART_LO 0, 0x12345678)] } }, 0x40004C, .XLT_SEGSTART_LO,
     .XLT_SEGSTART_HI, 0, by decide +kernel⟩⟩

/-- The hypotheses of EventBlockRows are met, clause by clause. -/
theorem test_wit_EventBlockRows :
    (∃ (f : Func) (v : BitVec 32) (s : State), barOpen s = true ∧ (getReg s Reg.EVT_TAIL ↑f - v).toNat ≤ 4096 ∧ mapGet s.evt.lostSince
      (↑f) 0 = 0) ∧
    (∃ (f : Func) (v : BitVec 32) (s : State), barOpen s = true ∧ 4096 < (getReg s Reg.EVT_TAIL ↑f - v).toNat) ∧
    (∃ (c : BitVec 16) (sev : Nat) (s : State), barOpen s = true ∧ evSev? c.toNat = some sev ∧ sev ≠ 3) ∧
    (∃ (c : BitVec 16) (s : State), barOpen s = true ∧ (evSev? c.toNat = none ∨ evSev? c.toNat = some 3)) ∧
    (∃ (f : Func), f ≠ 0) ∧
    (∃ (s : State), barOpen s = true) :=
  ⟨⟨3, 0, setReg .EVT_TAIL 3 4096 w0, by decide +kernel⟩,
   ⟨0, 0, setReg .EVT_TAIL 0 4097 w0, by decide +kernel⟩,
   ⟨BitVec.ofNat 16 Ev.REG_RSVD, 0, w0, by decide +kernel⟩,
   ⟨0xFFFF, w0, by decide +kernel⟩,
   ⟨31, by decide +kernel⟩,
   ⟨setReg .EVT_LOST 0 9 (setReg .EVT_SEVCNT 2 8 w0), by decide +kernel⟩⟩

/-- The hypotheses of CounterClearRows are met, clause by clause. -/
theorem test_wit_CounterClearRows :
    (∃ (c : Instr) (l : List Reg) (s : State), (c, l) ∈ clearRows ∧ barOpen s = true) ∧
    (∃ (s : State), barOpen s = true) :=
  ⟨⟨.hldCntclr, [.HLD_CONFLICTS, .HLD_BADLEASE], setReg .HLD_CONFLICTS 0 7 w0, by decide +kernel⟩,
   ⟨setReg .MEM_CHSTAT 47 0xFFFFFFFF w0, by decide +kernel⟩⟩

/-- The hypotheses of FlitsEnterTheMesh are met, clause by clause. -/
theorem test_wit_FlitsEnterTheMesh :
    (∃ (t : TileId) (a : Fin 8) (hdr : BitVec 128) (pay : Sector) (tally : BitVec 32) (s : State) (f : Flit), f = formFlit s (↑t)
      (↑a) hdr pay tally ∧ frameRuns s = true ∧ hasAgent ↑t ↑a = true ∧ f.rejected = false ∧ tagFree s (↑t) (↑a) f = true ∧ f.vc ≠
      0) ∧
    (∃ (t : TileId) (a : Fin 8) (hdr : BitVec 128) (pay : Sector) (tally : BitVec 32) (die : Option Die) (s : State) (f : Flit), f =
      formFlit s (↑t) (↑a) hdr pay tally ∧ frameRuns s = true ∧ hasAgent ↑t ↑a = true ∧ f.rejected = false ∧ tagFree s (↑t) (↑a) f =
      true ∧ f.vc = 0 ∧ mayUrge ↑a = true ∧ die = none ∧ ¬srcOf t a ∈ s.msh.capBusy) ∧
    (∃ (t : TileId) (a : Fin 8) (hdr : BitVec 128) (pay : Sector) (tally : BitVec 32) (die : Option Die) (s : State) (f : Flit), f =
      formFlit s (↑t) (↑a) hdr pay tally ∧ frameRuns s = true ∧ hasAgent ↑t ↑a = true ∧ f.rejected = false ∧ tagFree s (↑t) (↑a) f =
      true ∧ f.vc = 0 ∧ mayUrge ↑a = true ∧ die = none ∧ srcOf t a ∈ s.msh.capBusy) ∧
    (∃ (t : TileId) (a : Fin 8) (hdr : BitVec 128) (pay : Sector) (tally : BitVec 32) (die : Option Die) (s : State) (f : Flit) (d :
      Die), f = formFlit s (↑t) (↑a) hdr pay tally ∧ frameRuns s = true ∧ hasAgent ↑t ↑a = true ∧ f.rejected = false ∧ tagFree s
      (↑t) (↑a) f = true ∧ f.vc = 0 ∧ mayUrge ↑a = true ∧ die = some d ∧ ¬srcOf t a ∈ s.msh.capBusy) ∧
    (∃ (t : TileId) (a : Fin 8) (hdr : BitVec 128) (pay : Sector) (tally : BitVec 32) (die : Option Die) (s : State) (f : Flit) (d :
      Die), f = formFlit s (↑t) (↑a) hdr pay tally ∧ frameRuns s = true ∧ hasAgent ↑t ↑a = true ∧ f.rejected = false ∧ tagFree s
      (↑t) (↑a) f = true ∧ f.vc = 0 ∧ mayUrge ↑a = true ∧ die = some d ∧ srcOf t a ∈ s.msh.capBusy) ∧
    (∃ (t : TileId) (a : Fin 8) (hdr : BitVec 128) (pay : Sector) (tally : BitVec 32) (s : State) (f : Flit), f = formFlit s (↑t)
      (↑a) hdr pay tally ∧ frameRuns s = true ∧ hasAgent ↑t ↑a = true ∧ f.rejected = false ∧ tagFree s (↑t) (↑a) f = true ∧ f.vc = 0
      ∧ mayUrge ↑a = false) ∧
    (∃ (src : UrgSrc) (s : State), frameRuns s = true ∧ src ∈ s.msh.capBusy ∧ List.find? (fun (w : UrgWait) => decide (srcOf w.tile
      w.code = src)) s.msh.capHeld = none) ∧
    (∃ (src : UrgSrc) (s : State) (w : UrgWait), frameRuns s = true ∧ src ∈ s.msh.capBusy ∧ List.find? (fun (w : UrgWait) => decide
      (srcOf w.tile w.code = src)) s.msh.capHeld = some w) ∧
    (∃ (t : TileId) (a : Fin 8) (n : LinkId) (s : State) (w : UrgWait) (d : Die), frameRuns s = true ∧ List.find? (fun (w : UrgWait)
      => decide (w.tile = t ∧ w.code = a)) s.msh.linkWait = some w ∧ w.die = some d ∧ ¬UrgSrc.link n ∈ s.msh.capBusy ∧ ¬srcOf t a ∈
      s.msh.capBusy ∧ mapFind s.msh.reserved ↑n = none ∧ getF s F.TWY_STATUS.STATE ↑n = 4 ∧ (∃ (h : Nat × Nat), h ∈ nextHops s ↑d ∧
      h.fst = ↑n)) :=
  ⟨⟨0, 0, unicastHdr { vc := 2, op := 0, dst := 1535, dstAgent := 2, tag := 5 }, 0, 0, w0, _, rfl, by decide +kernel⟩,
   ⟨1535, 6, unicastHdr { vc := 0, op := 10, dst := 5, dstAgent := 3, tag := 0 }, 0, 0, none, w0, _, rfl, by decide +kernel⟩,
   ⟨0, 4, unicastHdr { vc := 0, op := 10, dst := 5, dstAgent := 3, tag := 0 }, 0, 0, none,
     { w0 with msh := { w0.msh with capBusy := [srcOf 0 4] } }, _, rfl, by decide +kernel⟩,
   ⟨0, 4, unicastHdr { vc := 0, op := 10, dst := 5, dstAgent := 3, tag := 0 }, 0, 0, some 31, w0, _, 31, rfl, by decide +kernel⟩,
   ⟨0, 4, unicastHdr { vc := 0, op := 10, dst := 5, dstAgent := 3, tag := 0 }, 0, 0, some 31,
     { w0 with msh := { w0.msh with capBusy := [srcOf 0 4] } }, _, 31, rfl, by decide +kernel⟩,
   ⟨0, 3, unicastHdr { vc := 0, op := 10, dst := 5, dstAgent := 3, tag := 0 }, 0, 0, w0, _, rfl, by decide +kernel⟩,
   ⟨.link 23, { w0 with msh := { w0.msh with capBusy := [.link 23] } }, by decide +kernel⟩,
   ⟨.agent 0 0,
     { w0 with msh := { w0.msh with capBusy := [.agent 0 0], capHeld := [{ tile := 0, code := 0, die := none, flit := fl { vc := 0, op := 10, dst := 5, dstAgent := 3, tag := 0 } }] } },
     { tile := 0, code := 0, die := none, flit := fl { vc := 0, op := 10, dst := 5, dstAgent := 3, tag := 0 } }, by decide +kernel⟩,
   ⟨0, 4, 12, setF F.TWY_STATUS.STATE 12 4 (setF F.TWY_ROUTEB.HOP3 4 0x12C
     ({ w0 with msh := { w0.msh with linkWait := [{ tile := 0, code := 4, die := some 4, flit := fl { vc := 0, op := 10, dst := 5, dstAgent := 3, tag := 0 } }] } })),
     { tile := 0, code := 4, die := some 4, flit := fl { vc := 0, op := 10, dst := 5, dstAgent := 3, tag := 0 } }, 4,
     by decide +kernel⟩⟩

/-- The hypotheses of RoutersMoveFlits are met, clause by clause. -/
theorem test_wit_RoutersMoveFlits :
    (∃ (t : TileId) (out : Fin 7) (s : State) (c : Cand), frameRuns s = true ∧ coveAwake s (coveOf ↑t) = true ∧ respBlocked s ↑t
      ↑out = false ∧ granted s ↑t ↑out = some c) ∧
    (∃ (t : TileId) (v : Nat) (f : Flit) (rest : List Flit) (s : State), frameRuns s = true ∧ coveAwake s (coveOf ↑t) = true ∧
      ejectNext s ↑t = some v ∧ mapGet s.msh.eject (↑t * 4 + v) [] = f :: rest) ∧
    (∃ (t : TileId) (s : State), coveAwake s (coveOf ↑t) = false) ∧
    (∃ (s : State), clocksRun s = true ∧ (∀ (x : Nat), x < 48 → mapGet s.msh.isthWin (2 * x) 0 + mapGet s.msh.isthWin (2 * x + 1) 0
      ≤ getF s F.MSH_ISTHLIM.DEGRADE_LIM ∧ mapGet s.msh.isthWin (2 * x) 0 + mapGet s.msh.isthWin (2 * x + 1) 0 ≤ getF s
      F.MSH_ISTHLIM.DOWN_LIM)) ∧
    (∃ (x : Nat) (s : State), getF s F.MSH_ISTHLIM.DOWN_LIM < mapGet s.msh.isthWin (2 * x) 0 + mapGet s.msh.isthWin (2 * x + 1) 0) ∧
    (∃ (x : Nat) (s : State), getF s F.MSH_ISTHLIM.DEGRADE_LIM < mapGet s.msh.isthWin (2 * x) 0 + mapGet s.msh.isthWin (2 * x + 1) 0
      ∧ mapGet s.msh.isthWin (2 * x) 0 + mapGet s.msh.isthWin (2 * x + 1) 0 ≤ getF s F.MSH_ISTHLIM.DOWN_LIM) :=
  ⟨⟨47, 3, pushBuf 47 6 2 (fl { vc := 2, op := 0, dst := 1535, dstAgent := 2, tag := 5 }) w0,
     { port := 6, vc := 2, slot := { flit := fl { vc := 2, op := 0, dst := 1535, dstAgent := 2, tag := 5 }, seq := 0 } },
     by decide +kernel⟩,
   ⟨5, 0, fl { vc := 0, op := 10, dst := 5, dstAgent := 3, tag := 0 }, [],
     { w0 with msh := { w0.msh with eject := [(20, [fl { vc := 0, op := 10, dst := 5, dstAgent := 3, tag := 0 }])] } },
     by decide +kernel⟩,
   ⟨0, State.reset, by decide +kernel⟩,
   ⟨{ w0 with msh := { w0.msh with isthWin := [(2, 1)] } }, by refine ⟨?_, ?_⟩ <;> first | decide +kernel⟩,
   ⟨1, { w0 with msh := { w0.msh with isthWin := [(2, 60000), (3, 60000)] } }, by decide +kernel⟩,
   ⟨1, setF F.MSH_ISTHLIM.DEGRADE_LIM 0 9 { w0 with msh := { w0.msh with isthWin := [(2, 9), (3, 1)] } }, by decide +kernel⟩⟩

/-- The hypotheses of SourcesTakeAnswersAndTimeouts are met, clause by clause. -/
theorem test_wit_SourcesTakeAnswersAndTimeouts :
    (∃ (t : TileId) (a : Fin 8) (f : Flit) (s : State), frameRuns s = true ∧ portOf ↑t ↑a = none ∧ List.find? (fun (f : Flit) =>
      f.vc == 3) (inboxOf s ↑t ↑a) = some f ∧ f.tag ≠ 65535) ∧
    (∃ (t : TileId) (a : Fin 8) (tag : BitVec 16) (o : Outst) (s : State), frameRuns s = true ∧ portOf ↑t ↑a = none ∧ mapFind
      s.msh.outst (outKey (↑t) (↑a) tag.toNat) = some o) ∧
    (∃ (t : TileId) (a : Fin 8) (tag : BitVec 16) (q : Nat) (b : Batch) (i : Inst) (s : State), frameRuns s = true ∧ portOf ↑t ↑a =
      none ∧ mapFind s.msh.outst (outKey (↑t) (↑a) tag.toNat) = none ∧ engineRequest s (↑t) (↑a) tag.toNat = some (q, b, i) ∧ i.op ≠
      33) ∧
    (∃ (t : TileId) (a : Fin 8) (m : McStream) (s : State), frameRuns s = true ∧ mapFind s.msh.streams (agentKey ↑t ↑a) = some m) :=
  ⟨⟨0, 0, fl { vc := 3, op := 5, dst := 0, dstAgent := 0, tag := 9 }, deliver 0 0 (fl
     { vc := 3, op := 5, dst := 0, dstAgent := 0, tag := 9 })
     { w0 with msh := { w0.msh with outst := [(9, { op := 1, left := 1, addr := 64, mark := 0 })] } }, by decide +kernel⟩,
   ⟨0, 0, 9, { op := 1, left := 1, addr := 64, mark := 0 },
     { w0 with msh := { w0.msh with outst := [(9, { op := 1, left := 1, addr := 64, mark := 0 })] } }, by decide +kernel⟩,
   ⟨18, 4, 1, 1, bi 0x10 (inst 0x10), inst 0x10, wi 0 0x10 (inst 0x10), by decide +kernel⟩,
   ⟨0, 2, { addressed := 3, answered := 2, errors := 0 },
     { w0 with msh := { w0.msh with streams := [(2, { addressed := 3, answered := 2, errors := 0 })] } }, by decide +kernel⟩⟩

/-- The hypotheses of SlicesServeRequests are met, clause by clause. -/
theorem test_wit_SlicesServeRequests :
    (∃ (t : TileId) (bank : Fin 8) (f : Flit) (s : State), frameRuns s = true ∧ sliceRuns s ↑t = true ∧ sliceHead s (↑t) (↑bank) 0 =
      some f ∧ flitRefusal s (↑t) f = none) ∧
    (∃ (t : TileId) (bank : Fin 8) (f : Flit) (s : State), frameRuns s = true ∧ sliceRuns s ↑t = true ∧ sliceHead s (↑t) (↑bank) 1 =
      some f ∧ flitRefusal s (↑t) f = none ∧ tallyOk f.pay f.tally = true) ∧
    (∃ (t : TileId) (bank : Fin 8) (f : Flit) (s : State), frameRuns s = true ∧ sliceRuns s ↑t = true ∧ sliceHead s (↑t) (↑bank) 1 =
      some f ∧ flitRefusal s (↑t) f = none ∧ tallyOk f.pay f.tally = false) ∧
    (∃ (t : TileId) (bank : Fin 8) (upset : Fin 81) (f : Flit) (s : State) (old : Option (Sector × BitVec 32)) (u : State),
      frameRuns s = true ∧ sliceRuns s ↑t = true ∧ sliceHead s (↑t) (↑bank) 3 = some f ∧ flitRefusal s (↑t) f = none ∧ atomicOk
      f.pay = true ∧ rmwSec (↑t) (flitSo s (↑t) f) f.addr (↑upset) 0 (BitVec.ofNat 16 f.mark) f.poison (fun (d : Sector) =>
      atomicApply d f.pay) (takeAccess (↑t) f s) = (old, u)) ∧
    (∃ (t : TileId) (bank : Fin 8) (f : Flit) (s : State), frameRuns s = true ∧ sliceRuns s ↑t = true ∧ sliceHead s (↑t) (↑bank) 3 =
      some f ∧ flitRefusal s (↑t) f = none ∧ atomicOk f.pay = false) ∧
    (∃ (t : TileId) (bank : Fin 8) (f : Flit) (st : Nat) (s : State), frameRuns s = true ∧ sliceRuns s ↑t = true ∧ flitRefusal s
      (↑t) f = some st ∧ sliceHead s (↑t) (↑bank) 0 = some f) ∧
    (∃ (t : TileId) (bank : Fin 8) (f : Flit) (st : Nat) (s : State), frameRuns s = true ∧ sliceRuns s ↑t = true ∧ flitRefusal s
      (↑t) f = some st ∧ sliceHead s (↑t) (↑bank) 1 = some f) ∧
    (∃ (t : TileId) (bank : Fin 8) (f : Flit) (st : Nat) (s : State), frameRuns s = true ∧ sliceRuns s ↑t = true ∧ flitRefusal s
      (↑t) f = some st ∧ sliceHead s (↑t) (↑bank) 3 = some f) ∧
    (∃ (s : State), s.reef.inj = none) ∧
    (∃ (tile : Nat) (so : Nat) (k : Nat), k ≠ secKey tile so) :=
  ⟨⟨0, 0, fl { vc := 2, op := 0, dst := 0, dstAgent := 2, tag := 5, addr := 0x100000000, len := 0 }, deliver 0 2 (fl
     { vc := 2, op := 0, dst := 0, dstAgent := 2, tag := 5, addr := 0x100000000, len := 0 }) (setF F.RFB_PLACE.LOCAL_SLOTS 0 256 w0),
     by decide +kernel⟩,
   ⟨0, 0, { fl { vc := 2, op := 1, dst := 0, dstAgent := 2, tag := 5, addr := 0x100000000 } with tally := tallyOf 0 }, deliver 0 2
     { fl { vc := 2, op := 1, dst := 0, dstAgent := 2, tag := 5, addr := 0x100000000 } with tally := tallyOf 0 } (setF
     F.RFB_PLACE.LOCAL_SLOTS 0 256 w0), by decide +kernel⟩,
   ⟨0, 0, { fl { vc := 2, op := 1, dst := 0, dstAgent := 2, tag := 5, addr := 0x100000000 } with tally := tallyOf 0 + 1 }, deliver 0
     2 { fl { vc := 2, op := 1, dst := 0, dstAgent := 2, tag := 5, addr := 0x100000000 } with tally := tallyOf 0 + 1 } (setF
     F.RFB_PLACE.LOCAL_SLOTS 0 256 w0), by decide +kernel⟩,
   ⟨0, 0, 0, { fl { vc := 2, op := 3, dst := 0, dstAgent := 2, tag := 5, addr := 0x100000000 } with pay := 0x201 }, deliver 0 2
     { fl { vc := 2, op := 3, dst := 0, dstAgent := 2, tag := 5, addr := 0x100000000 } with pay := 0x201 } (setF
     F.RFB_PLACE.LOCAL_SLOTS 0 256 w0), _, _, by decide +kernel, by decide +kernel, by decide +kernel, by decide +kernel,
     by decide +kernel, pair_eq _⟩,
   ⟨0, 0, { fl { vc := 2, op := 3, dst := 0, dstAgent := 2, tag := 5, addr := 0x100000000 } with pay := 8 }, deliver 0 2
     { fl { vc := 2, op := 3, dst := 0, dstAgent := 2, tag := 5, addr := 0x100000000 } with pay := 8 } (setF
     F.RFB_PLACE.LOCAL_SLOTS 0 256 w0), by decide +kernel⟩,
   ⟨0, 0, { fl { vc := 2, op := 0, dst := 0, dstAgent := 2, tag := 5, addr := 0x100000000 } with tally := tallyOf 0 },
     Status.RFB_LOCAL_RANGE, deliver 0 2
     { fl { vc := 2, op := 0, dst := 0, dstAgent := 2, tag := 5, addr := 0x100000000 } with tally := tallyOf 0 } w0,
     by decide +kernel⟩,
   ⟨0, 0, { fl { vc := 2, op := 1, dst := 0, dstAgent := 2, tag := 5, addr := 0x100000000 } with tally := tallyOf 0 },
     Status.RFB_LOCAL_RANGE, deliver 0 2
     { fl { vc := 2, op := 1, dst := 0, dstAgent := 2, tag := 5, addr := 0x100000000 } with tally := tallyOf 0 } w0,
     by decide +kernel⟩,
   ⟨0, 0, { fl { vc := 2, op := 3, dst := 0, dstAgent := 2, tag := 5, addr := 0x100000000 } with pay := 0x201 },
     Status.RFB_LOCAL_RANGE, deliver 0 2
     { fl { vc := 2, op := 3, dst := 0, dstAgent := 2, tag := 5, addr := 0x100000000 } with pay := 0x201 } w0, by decide +kernel⟩,
   ⟨w0, by decide +kernel⟩,
   ⟨0, 0, 1, by decide +kernel⟩⟩

/-- The hypotheses of RefreshAndScrub are met, clause by clause. -/
theorem test_wit_RefreshAndScrub :
    (∃ (s : State), s.evt.ready = true) ∧
    (∃ (c : CoveId) (s : State), mapGet s.reef.cool (↑c) false = true ∧ getF s F.RFB_REFENV.MIN_BAND < getF s F.RFB_REFSTAT.BAND ↑c)
      ∧
    (∃ (c : CoveId) (s : State), (clampOf s 4 ↑c).isSome = false ∧ minHolds s ↑c = true ∧ mapGet s.reef.minHeld (↑c) false = true) ∧
    (∃ (c : CoveId) (s : State), scrubRuns s ↑c = true) ∧
    (∃ (c : CoveId) (s : State), s.evt.ready = true ∧ phase s ≠ 6 ∧ coveAwake s ↑c = false ∧ mapGet s.reef.burst (↑c) 0 = 0) ∧
    (∃ (c : CoveId) (s : State), mapGet s.reef.burst (↑c) 0 = 1) ∧
    (∃ (t : TileId) (bank : Fin 8) (row : Fin 128) (s : State), (t.val * 8 + bank.val) * 128 + row.val ∈ s.reef.remapping) :=
  ⟨⟨{ w0 with reef := { w0.reef with refRow := [(3, 127)] } }, by decide +kernel⟩,
   ⟨0, setF F.RFB_REFSTAT.BAND 0 3 { w0 with reef := { w0.reef with cool := [(0, true)] } }, by decide +kernel⟩,
   ⟨0, setF F.RFB_REFENV.MIN_BAND 0 3 (setF F.RFB_REFSTAT.BAND 0 3
     { w0 with reef := { w0.reef with minHeld := [(0, true)] }, brk := { w0.brk with tempSeen := [(0, true)] } }), by decide +kernel⟩,
   ⟨15, { w0 with reef := { w0.reef with scrubPos := [(15, 96 * 32768 - 1)] } }, by decide +kernel⟩,
   ⟨0, setF F.MSH_COVEAWAKE.AWAKE 0 0 w0, by decide +kernel⟩,
   ⟨0, { w0 with reef := { w0.reef with burst := [(0, 1)] } }, by decide +kernel⟩,
   ⟨1535, 7, 127, { w0 with reef := { w0.reef with remapping := [1572863] } }, by decide +kernel⟩⟩

/-- The hypotheses of Bar4Window are met, clause by clause. -/
theorem test_wit_Bar4Window :
    (∃ (f : Func) (off : BitVec 32) (len : Fin 4097) (ra : Nat) (s : State) (bs : List Byte) (p : Bool) (u : State), barOpen s =
      true ∧ bar4Ra s f off.toNat ↑len = some ra ∧ bar4Sectors (ra / 64 * 64) ((ra % 64 + ↑len + 63) / 64) (bar4Wake ra (↑len) s) =
      ((bs, p), u)) ∧
    (∃ (f : Func) (off : BitVec 32) (bytes : List Byte) (ra : Nat) (s : State), barOpen s = true ∧ bar4Ra s f off.toNat bytes.length
      = some ra) ∧
    (∃ (f : Func) (off : BitVec 32) (len : Fin 4097) (s : State), barOpen s = true ∧ bar4Ra s f off.toNat ↑len = none) ∧
    (∃ (f : Func) (off : BitVec 32) (bytes : List Byte) (s : State), barOpen s = true ∧ bar4Ra s f off.toNat bytes.length = none) ∧
    (∃ (s : State), barOpen s = false ∧ flag s F.RFB_BAR4CTL.EN = false) ∧
    (∃ (v : BitVec 32) (s : State), barOpen s = true ∧ fldLegal F.RFB_INJCTL.BYTES (bitsAt v 0 4) = true) :=
  ⟨⟨0, 0x10000040, 4, 0x10000040, setF F.RFB_BAR4CTL.EN 0 1 (setF F.RFB_PLACE.LOCAL_SLOTS 0 256 w0), _, _, _, by decide +kernel,
     by decide +kernel, rfl⟩,
   ⟨0, 0x10000040, [1,2,3], 0x10000040, setF F.RFB_BAR4CTL.EN 0 1 (setF F.RFB_PLACE.LOCAL_SLOTS 0 256 w0), by decide +kernel⟩,
   ⟨0, 0, 4, w0, by decide +kernel⟩,
   ⟨31, 0, [1], setF F.RFB_BAR4CTL.EN 0 1 w0, by decide +kernel⟩,
   ⟨State.reset, by decide +kernel⟩,
   ⟨0x101, w0, by decide +kernel⟩⟩

/-- The hypotheses of ControllersServeRequests are met, clause by clause. -/
theorem test_wit_ControllersServeRequests :
    (∃ (m : Fin 12) (r : QReq) (q : MemReq) (s : State), frameRuns s = true ∧ memNext s ↑m = some (r, q) ∧ q.op = 0 ∧ lpRefusal s
      q.d q.keysel = none) ∧
    (∃ (m : Fin 12) (r : QReq) (q : MemReq) (s : State), frameRuns s = true ∧ memNext s ↑m = some (r, q) ∧ q.op = 1 ∧ lpRefusal s
      q.d q.keysel = none ∧ tallyOk q.pay q.tally = true) ∧
    (∃ (m : Fin 12) (r : QReq) (q : MemReq) (s : State), frameRuns s = true ∧ memNext s ↑m = some (r, q) ∧ q.op = 1 ∧ lpRefusal s
      q.d q.keysel = none ∧ tallyOk q.pay q.tally = false) ∧
    (∃ (m : Fin 12) (upset : Fin 73) (r : QReq) (q : MemReq) (s : State) (old : Option (Sector × BitVec 32)) (u : State), frameRuns
      s = true ∧ memNext s ↑m = some (r, q) ∧ q.op = 3 ∧ lpRefusal s q.d q.keysel = none ∧ atomicOk q.pay = true ∧ lpUpdate q.d
      q.mark (↑upset) q.poison (fun (x : Sector) => atomicApply x q.pay) (memTaken (↑m) r q s) = (old, u)) ∧
    (∃ (m : Fin 12) (r : QReq) (q : MemReq) (s : State) (st : Nat), frameRuns s = true ∧ memNext s ↑m = some (r, q) ∧ q.op ≠ 0 ∧
      lpRefusal s q.d q.keysel = some st) ∧
    (∃ (m : Fin 12) (r : QReq) (q : MemReq) (st : Nat) (s : State), frameRuns s = true ∧ memNext s ↑m = some (r, q) ∧ q.op = 0 ∧
      lpRefusal s q.d q.keysel = some st) ∧
    (∃ (d : Nat) (k : Nat), k ≠ d / 64) :=
  ⟨⟨0, { cls := 2, arr := 0, idx := 0 }, mq 0 0 3, setKeyEntry 0 3 true (setMemQueue 0 [mq 0 0 3] w0), by decide +kernel⟩,
   ⟨0, { cls := 2, arr := 0, idx := 0 }, mq 1 0 3, setKeyEntry 0 3 true (setMemQueue 0 [mq 1 0 3] w0), by decide +kernel⟩,
   ⟨0, { cls := 2, arr := 0, idx := 0 }, { mq 1 0 3 with tally := tallyOf 0 + 1 }, setKeyEntry 0 3 true (setMemQueue 0
     [{ mq 1 0 3 with tally := tallyOf 0 + 1 }] w0), by decide +kernel⟩,
   ⟨0, 0, { cls := 2, arr := 0, idx := 0 }, { mq 3 0 3 with pay := 0x201 }, setKeyEntry 0 3 true (setMemQueue 0
     [{ mq 3 0 3 with pay := 0x201 }] w0), _, _, by decide +kernel, by decide +kernel, by decide +kernel, by decide +kernel,
     by decide +kernel, pair_eq _⟩,
   ⟨0, { cls := 2, arr := 0, idx := 0 }, mq 1 0 3, setMemQueue 0 [mq 1 0 3] w0, Status.MEM_KEYSEL, by decide +kernel⟩,
   ⟨0, { cls := 2, arr := 0, idx := 0 }, mq 0 0 3, Status.MEM_KEYSEL, setMemQueue 0 [mq 0 0 3] w0, by decide +kernel⟩,
   ⟨64, 2, by decide +kernel⟩⟩

/-- The hypotheses of KeyRegionsFillAndRotate are met, clause by clause. -/
theorem test_wit_KeyRegionsFillAndRotate :
    (∃ (k : Fin 5464) (s : State), clocksRun s = true ∧ ↑k ∈ s.mem.filling) ∧
    (∃ (k : Fin 5464) (s : State), clocksRun s = true ∧ ↑k ∈ s.mem.rot ∧ 2 ≤ getF s F.MEM_ROTSTAT.PENDING (keyEntry s ↑k).fst ∧
      (keyEntry s ↑k).fst < 64) ∧
    (∃ (i : Fin 1366) (v : BitVec 32) (s : State), barOpen s = true ∧ (∀ (j : Nat), j < 4 → regionUsable s (4 * ↑i + j) = true ∧
      keyEntry s (4 * ↑i + j) = (0, false)) ∧ ∀ (j : Nat), j < 4 → bitAt v (8 * j + 7) = false) :=
  ⟨⟨5463,
     { w0 with mem := { w0.mem with filling := [5463], secs := [(5, { data := 1, tally := 2, gen := 0, poison := false, errs := 0, passes := 0 }), (5463 * 1048576, { data := 1, tally := 2, gen := 0, poison := false, errs := 0, passes := 0 })] } },
     by decide +kernel⟩,
   ⟨2, setKeyEntry 2 5 true (setF F.MEM_ROTSTAT.PENDING 5 2 { w0 with mem := { w0.mem with rot := [2, 9] } }), by decide +kernel⟩,
   ⟨0, 0x3F3F3F3F, w0, by refine ⟨?_, ?_, ?_⟩ <;> first | decide +kernel⟩⟩

/-- The hypotheses of ChannelRows are met, clause by clause. -/
theorem test_wit_ChannelRows :
    (∃ (s : State), barOpen s = true) ∧
    (∃ (s : State), clocksRun s = true ∧ phase s = 2 ∧ s.mem.trained = false ∧ (∀ (n : Nat), n < 48 → mapGet s.mem.paused n 0 = 0))
      ∧
    (∃ (n : ChanId) (d : BitVec 10) (s : State), clocksRun s = true ∧ chanServes s ↑n = true ∧ getF s F.MEM_RETRAIN.DRIFT_PS <
      d.toNat) ∧
    (∃ (n : ChanId) (s : State), clocksRun s = true ∧ mapGet s.mem.paused (↑n) 0 = 1) ∧
    (∃ (k : Nat), k < 48) ∧
    (∃ (n : ChanId) (s : State), clocksRun s = true ∧ getF s F.MEM_RETRAIN.CE_LIM < mapGet s.mem.ceWin (↑n) 0 ∧ mapFind
      s.mem.lastWeak ↑n = none) ∧
    (∃ (n : ChanId) (s : State), clocksRun s = true ∧ 2 ≤ mapGet s.mem.paused (↑n) 0) ∧
    (∃ (s : State), s.mem.trained = true) ∧
    (∃ (n : ChanId) (s : State), s.mem.trained = true ∧ refreshDue s ↑n = true) ∧
    (∃ (n : ChanId) (s : State), clocksRun s = true ∧ scrubFree s ↑n = true) :=
  ⟨⟨w0, by decide +kernel⟩,
   ⟨setF F.GLB_STATUS.PHASE 0 2 { w0 with mem := { w0.mem with trained := false } }, by decide +kernel⟩,
   ⟨47, 1023, w0, by decide +kernel⟩,
   ⟨0, { w0 with mem := { w0.mem with paused := [(0, 1)] } }, by decide +kernel⟩,
   ⟨47, by decide +kernel⟩,
   ⟨0, { w0 with mem := { w0.mem with ceWin := [(0, 70000)] } }, by decide +kernel⟩,
   ⟨47, { w0 with mem := { w0.mem with paused := [(47, 3)] } }, by decide +kernel⟩,
   ⟨{ w0 with mem := { w0.mem with postponed := [(0, 3)], refreshes := [(0, 10)] } }, by decide +kernel⟩,
   ⟨0, { w0 with time := Config.refreshTicks (getF w0 F.MEM_CHSTAT.MR4 0) }, by decide +kernel, decide_eq_true (Nat.le_of_eq
     (Nat.zero_add _))⟩,
   ⟨0, { w0 with mem := { w0.mem with scrubPos := [(0, stripesOf 0 - 1)] } }, by decide +kernel⟩⟩

/-- The hypotheses of ContextCommands are met, clause by clause. -/
theorem test_wit_ContextCommands :
    (∃ (asid : BitVec 16) (s : State), ctxReady s = true ∧ asid ≠ 0 ∧ (ctxAt s asid.toNat).bound = false ∧ (isWindow asid.toNat =
      false → pasidInUse s asid.toNat (getF s F.XLT_CTXA.FUNC) (getF s F.XLT_CTXA.PASID) = false)) ∧
    (∃ (asid : BitVec 16) (s : State), ctxReady s = true ∧ asid ≠ 0 ∧ isWindow asid.toNat = false ∧ pasidInUse s asid.toNat (getF s
      F.XLT_CTXA.FUNC) (getF s F.XLT_CTXA.PASID) = true) ∧
    (∃ (asid : BitVec 16) (s : State), ctxReady s = true ∧ asid ≠ 0 ∧ isWindow asid.toNat = false ∧ pasidInUse s asid.toNat (getF s
      F.XLT_CTXA.FUNC) (getF s F.XLT_CTXA.PASID) = false ∧ (ctxAt s asid.toNat).bound = true) ∧
    (∃ (asid : BitVec 16) (s : State), ctxReady s = true ∧ asid ≠ 0 ∧ (ctxAt s asid.toNat).pasid < 2 ^ 20 ∧ (ctxAt s asid.toNat).func
      < 32) ∧
    (∃ (asid : BitVec 16) (s : State), ctxReady s = true ∧ asid ≠ 0 ∧ (ctxAt s asid.toNat).bound = true ∧ queuesBound s asid.toNat =
      true) ∧
    (∃ (asid : BitVec 16) (s : State), ctxReady s = true ∧ asid ≠ 0 ∧ (ctxAt s asid.toNat).bound = true ∧ queuesBound s asid.toNat =
      false) :=
  ⟨⟨0xFFBF, setReg .XLT_CTXA 0 0x00300021 w0, by decide +kernel⟩,
   ⟨6, setF F.XLT_CTXA.PASID 0 7 (wx [] [] []), by decide +kernel⟩,
   ⟨5, wx [] [] [], by decide +kernel⟩,
   ⟨5, wx [] [] [], by decide +kernel⟩,
   ⟨5, wx [] [(3, qrun 0)] [], by decide +kernel⟩,
   ⟨5, wx [] [] [], by decide +kernel⟩⟩

/-- The hypotheses of SegmentCommands are met, clause by clause. -/
theorem test_wit_SegmentCommands :
    (∃ (asid : BitVec 16) (n : Fin 16) (s : State), barOpen s = true ∧ segErr s asid.toNat (↑n) (segRegs s) = 0) ∧
    (∃ (asid : BitVec 16) (n : Fin 16) (s : State), barOpen s = true ∧ segErr s asid.toNat (↑n) (segRegs s) ≠ 0) ∧
    (∃ (asid : Nat) (n : Nat) (g : Seg) (s : State) (j : Nat), segErr s asid n g = 0 ∧ j < 16 ∧ j ≠ n ∧ (segAt s asid j).valid = true) ∧
    (∃ (asid : Nat) (n : Nat) (g : Seg) (s : State), segErr s asid n g = 0 ∧ g.host = false) ∧
    (∃ (asid : Nat) (n : Nat) (g : Seg) (s : State), segErr s asid n g = 0 ∧ bitAt g.attr 3 = true) ∧
    (∃ (asid : Nat) (n : Nat) (g : Seg) (s : State), segErr s asid n g = 0 ∧ bitAt g.attr 4 = true) ∧
    (∃ (asid : Nat) (n : Nat) (g : Seg) (s : State), segErr s asid n g = 0 ∧ isWindow asid = true) ∧
    (∃ (asid : BitVec 16) (n : Fin 16) (s : State), barOpen s = true ∧ (ctxAt s asid.toNat).bound = true ∧ (segAt s asid.toNat
      ↑n).start < 2 ^ 64 ∧ (segAt s asid.toNat ↑n).base < 2 ^ 64) ∧
    (∃ (asid : BitVec 16) (s : State), barOpen s = true ∧ (ctxAt s asid.toNat).bound = true ∧ (ctxAt s asid.toNat).shared = false ∧
      flag s F.XLT_SEGSTAT.BUSY = false ∧ flag s F.XLT_CTXSTAT.BUSY = false) :=
  ⟨⟨5, 15, setReg .XLT_SEGATTR 0 0x27 (setF F.XLT_SEGLEN.UNITS 0 1 (wx [] [] [])), by decide +kernel⟩,
   ⟨5, 0, wx [] [] [], by decide +kernel⟩,
   ⟨5, 0, { start := 0, len := 65536, base := 0, attr := 0x27 }, wx [(81, { start := 65536, len := 65536, base := 0, attr := 0x23 })]
     [] [], 1, by decide +kernel⟩,
   ⟨5, 0, { start := 0, len := 65536, base := 0x10000000000, attr := 0x7 }, wx [] [] [], by decide +kernel⟩,
   ⟨5, 0, { start := 0, len := 65536, base := 0, attr := 0x2B }, wx [] [] [], by decide +kernel⟩,
   ⟨5, 0, { start := 0, len := 65536, base := 0, attr := 0x37 }, wx [] [] [], by decide +kernel⟩,
   ⟨65472, 0, { start := 0, len := 65536, base := 0, attr := 0x27 },
     { w0 with xlt := { w0.xlt with ctxs := [(65472, { bound := true })] } }, by decide +kernel⟩,
   ⟨5, 1, wx [(81, { start := 65536, len := 65536, base := 0, attr := 0x23 })] [] [], by decide +kernel⟩,
   ⟨5, wx [(81, { start := 65536, len := 65536, base := 0, attr := 0x23 })] [] [], by decide +kernel⟩⟩

/-- The hypotheses of Invalidations are met, clause by clause. -/
theorem test_wit_Invalidations :
    (∃ (s : State), barOpen s = true ∧ flag s F.XLT_INVSTAT.BUSY = true) ∧
    (∃ (s : State), barOpen s = true ∧ flag s F.XLT_INVSTAT.BUSY = false) ∧
    (∃ (s : State) (v : Inval) (rest : List Inval), s.xlt.invs = v :: rest ∧ invBlocked s v = true) ∧
    (∃ (s : State) (v : Inval) (rest : List Inval), s.xlt.invs = v :: rest ∧ invBlocked s v = false) ∧
    (∃ (s : State) (v : Inval) (rest : List Inval), clocksRun s = true ∧ s.xlt.invs = v :: rest ∧ invBlocked s v = true) ∧
    (∃ (s : State) (v : Inval) (rest : List Inval), clocksRun s = true ∧ s.xlt.invs = v :: rest ∧ invBlocked s v = false) ∧
    (∃ (f : Func) (s : State), clocksRun s = true ∧ (∀ (e : Nat × Ctx), e ∈ s.xlt.ctxs → e.snd.bound = true → e.snd.func ≠ ↑f)) ∧
    (∃ (f : Func) (pasid : Option (BitVec 20)) (s : State) (a : Nat) (p : BitVec 20), clocksRun s = true ∧ pasid = some p ∧ isWindow
      a = false ∧ List.filter (fun (e : Nat × Ctx) => e.snd.bound && e.snd.func == ↑f && (!isWindow e.fst && e.snd.pasid ==
      p.toNat)) s.xlt.ctxs = [(a, ctxAt s a)]) :=
  ⟨⟨setF F.XLT_INVSTAT.BUSY 0 1 w0, by decide +kernel⟩,
   ⟨wx [] [] [], by decide +kernel⟩,
   ⟨{ wx [] [(3, { qrun 0 with batches := [{ first := 1, ring := 0, cmds := [], accepted := true, insts := [{ idx := 0, dseq := 1, op := 16, last := true, snap := {}, opnds := [{ num := 0, va := 0, bytes := 64, acc := 1, gen := 3, exts := [] }] }] }] })] [] with xlt := { (wx [] [] []).xlt with invs := [{ asid := 5, gen := 4, who := .reg }] } },
     { asid := 5, gen := 4, who := .reg }, [], by decide +kernel⟩,
   ⟨{ w0 with xlt := { (wx [] [] []).xlt with segs := [(81, { start := 65536, len := 65536, base := 0, attr := 0x23 })], invs := [{ asid := 5, gen := 4, who := .unbind }, { asid := 6, gen := 4, who := .reg }] } },
     { asid := 5, gen := 4, who := .unbind }, [{ asid := 6, gen := 4, who := .reg }], by decide +kernel⟩,
   ⟨{ wq 0 (bi 4294967312 { inst 16 with opnds := [{ num := 0, va := 0, bytes := 64, acc := 1, gen := 2, exts := [] }] }) with xlt := { w0.xlt with invs := [{ asid := 5, gen := 3, who := .reg }] } },
     { asid := 5, gen := 3, who := .reg }, [], by decide +kernel⟩,
   ⟨{ wq 0 (bi 4294967312 { inst 16 with opnds := [{ num := 0, va := 0, bytes := 64, acc := 1, gen := 3, exts := [] }] }) with xlt := { w0.xlt with invs := [{ asid := 5, gen := 3, who := .reg }] } },
     { asid := 5, gen := 3, who := .reg }, [], by decide +kernel⟩,
   ⟨31, wx [] [] [], by refine ⟨?_, ?_⟩ <;> first | decide +kernel⟩,
   ⟨0, some 7, wx [] [] [], 5, 7, by decide +kernel⟩⟩

/-- The hypotheses of HostTranslations are met, clause by clause. -/
theorem test_wit_HostTranslations :
    (∃ (tag : Nat) (ok : Bool) (w : AtsWait) (s : State), clocksRun s = true ∧ waitAtTag s tag = some w ∧ w.pri = false ∧ w.gen =
      (ctxAt s w.asid).gen ∧ ok = false) ∧
    (∃ (tag : Nat) (ok : Bool) (size : Fin 64) (w : AtsWait) (s : State), clocksRun s = true ∧ waitAtTag s tag = some w ∧ w.pri =
      false ∧ w.gen = (ctxAt s w.asid).gen ∧ ok = true ∧ ↑size < 30) ∧
    (∃ (tag : Nat) (ok : Bool) (addr : BitVec 64) (size : Fin 64) (r : Bool) (wr : Bool) (w : AtsWait) (s : State), clocksRun s =
      true ∧ waitAtTag s tag = some w ∧ w.pri = false ∧ w.gen = (ctxAt s w.asid).gen ∧ ok = true ∧ 30 ≤ ↑size ∧ grants
      (completedPage s w.page addr.toNat (2 ^ size.val) r wr).perms w.acc = true) ∧
    (∃ (tag : Nat) (ok : Bool) (addr : BitVec 64) (size : Fin 64) (r : Bool) (wr : Bool) (w : AtsWait) (s : State), clocksRun s =
      true ∧ waitAtTag s tag = some w ∧ w.pri = false ∧ w.gen = (ctxAt s w.asid).gen ∧ ok = true ∧ 30 ≤ ↑size ∧ grants
      (completedPage s w.page addr.toNat (2 ^ size.val) r wr).perms w.acc = false) ∧
    (∃ (w : AtsWait) (s : State), w.what = XFor.redo ∧ Option.map (fun (b : Batch) => (b.first, b.seq.dseq)) (queueAt s
      w.queue).running = some w.job) ∧
    (∃ (w : AtsWait) (s : State), w.what = XFor.redo ∧ Option.map (fun (b : Batch) => (b.first, b.seq.dseq)) (queueAt s
      w.queue).running ≠ some w.job) ∧
    (∃ (tag : Nat) (w : AtsWait) (s : State), clocksRun s = true ∧ waitAtTag s tag = some w ∧ w.pri = false) ∧
    (∃ (tag : Nat) (w : AtsWait) (s : State), clocksRun s = true ∧ waitAtTag s tag = some w ∧ w.pri = true ∧ w.held = false ∧ (∀ (x
      : AtsWait), x ∈ s.xlt.waits → x.held = false) ∧ w.what ≠ XFor.batch ∧ w.what ≠ XFor.nobody ∧ (ctxAt s w.asid).bound = true ∧
      (ctxAt s w.asid).func = w.func ∧ (ctxAt s w.asid).pasid = w.pasid) ∧
    (∃ (tag : Nat) (w : AtsWait) (s : State), clocksRun s = true ∧ waitAtTag s tag = some w ∧ w.pri = true ∧ w.held = false ∧ (∀ (x
      : AtsWait), x ∈ s.xlt.waits → x.held = false) ∧ w.what ≠ XFor.batch ∧ w.what = XFor.nobody) ∧
    (∃ (s : State), clocksRun s = true ∧ (∀ (x : AtsWait), x ∈ s.xlt.waits → x.held = false)) :=
  ⟨⟨4, false, aw .redo false, wx [] [(1, qrun 0)] [aw .redo false], by decide +kernel⟩,
   ⟨4, true, 29, aw .redo false, wx [] [(1, qrun 0)] [aw .redo false], by decide +kernel⟩,
   ⟨4, true, 0x80000000, 30, true, false, aw .redo false, wx [] [(1, qrun 0)] [aw .redo false], by decide +kernel⟩,
   ⟨4, true, 0x80000000, 30, false, true, aw .redo false, wx [] [(1, qrun 0)] [aw .redo false], by decide +kernel⟩,
   ⟨{ aw .redo false with job := (1, 0) }, wq 0 (bacc [4294967312]), by decide +kernel⟩,
   ⟨aw .redo false, wq 0 (bacc [4294967312]), by decide +kernel⟩,
   ⟨4, aw .advise false, wx [] [(1, qrun 0)] [aw .advise false], by decide +kernel⟩,
   ⟨4, { aw .redo true with func := 0, pasid := 7 }, wx [] [(1, qrun 0)] [{ aw .redo true with func := 0, pasid := 7 }],
     by decide +kernel⟩,
   ⟨4, aw .nobody true, wx [] [(1, qrun 0)] [aw .nobody true], by decide +kernel⟩,
   ⟨wx [] [] [aw .redo true], by refine ⟨?_, ?_⟩ <;> first | decide +kernel | exact unheld (by decide +kernel)⟩⟩

/-- The hypotheses of QueueCommands are met, clause by clause. -/
theorem test_wit_QueueCommands :
    (∃ (q : QueueId) (s : State), barOpen s = true ∧ createErr s (queueAt s ↑q) { desc := qdRegs s } = 0) ∧
    (∃ (q : QueueId) (s : State), barOpen s = true ∧ createErr s (queueAt s ↑q) { desc := qdRegs s } ≠ 0) ∧
    (∃ (q : QueueId) (s : State), barOpen s = true ∧ (queueAt s ↑q).st < 8) ∧
    (∃ (q : QueueId) (s : State), barOpen s = true ∧ (queueAt s ↑q).st = 1 ∧ (queueAt s ↑q).tails = []) ∧
    (∃ (q : QueueId) (s : State), barOpen s = true ∧ (queueAt s ↑q).st ≠ 1) ∧
    (∃ (q : QueueId) (s : State), barOpen s = true ∧ (queueAt s ↑q).st = 2 ∧ (queueAt s ↑q).batches = [] ∧ (∀ (p : Nat) (f : Fetch),
      (queueAt s p).fetch = some f → f.held = false)) ∧
    (∃ (q : QueueId) (s : State), barOpen s = true ∧ (queueAt s ↑q).st ≠ 2) ∧
    (∃ (q : QueueId) (s : State), barOpen s = true ∧ ((queueAt s ↑q).st = 2 ∨ (queueAt s ↑q).st = 3 ∨ (queueAt s ↑q).st = 4) ∧
      (queueAt s ↑q).batches = [] ∧ jHead s < s.hbl.oldest + areaSize ∧ (∀ (p : Nat) (f : Fetch), (queueAt s p).fetch = some f →
      f.held = false)) ∧
    (∃ (q : QueueId) (s : State), barOpen s = true ∧ (queueAt s ↑q).st = 1 ∧ (queueAt s ↑q).batches = [] ∧ (∀ (p : Nat) (f : Fetch),
      (queueAt s p).fetch = some f → f.held = false)) ∧
    (∃ (q : QueueId) (s : State), barOpen s = true ∧ (queueAt s ↑q).st = 3 ∧ (queueAt s ↑q).tails = []) ∧
    (∃ (q : QueueId) (s : State), barOpen s = true ∧ (queueAt s ↑q).st ≠ 3) :=
  ⟨⟨1023, qregs (wx [] [] []), by decide +kernel⟩,
   ⟨0, w0, by decide +kernel⟩,
   ⟨1, wx [] [(1, qst 4 [] [])] [], by decide +kernel⟩,
   ⟨1, wx [] [(1, qst 1 [] [])] [], by decide +kernel⟩,
   ⟨1, wx [] [(1, qst 2 [] [])] [], by decide +kernel⟩,
   ⟨1, wx [] [(1, qst 2 [] [])] [], by refine ⟨?_, ?_, ?_, ?_⟩ <;> first | decide +kernel | exact unheld (by decide +kernel)⟩,
   ⟨1, wx [] [(1, qst 1 [] [])] [], by decide +kernel⟩,
   ⟨1, wx [] [(1, { qst 2 [9] [] with fetch := some (fet [0] 0) })] [],
     by refine ⟨?_, ?_, ?_, ?_, ?_⟩ <;> first | decide +kernel | exact unheld (by decide +kernel)⟩,
   ⟨1, wx [] [(1, qst 1 [] [])] [], by refine ⟨?_, ?_, ?_, ?_⟩ <;> first | decide +kernel | exact unheld (by decide +kernel)⟩,
   ⟨1, wx [] [(1, { qst 3 [] [] with skip := 7 })] [], by decide +kernel⟩,
   ⟨1, wx [] [(1, qst 2 [] [])] [], by decide +kernel⟩⟩

/-- The hypotheses of DoorbellPages are met, clause by clause. -/
theorem test_wit_DoorbellPages :
    (∃ (q : QueueId) (s : State), barOpen s = true ∧ (queueAt s ↑q).st = 0) ∧
    (∃ (q : QueueId) (v : BitVec 32) (s : State), barOpen s = true ∧ (queueAt s ↑q).st = 1 ∧ v.toNat % (queueAt s ↑q).ringSize ≠
      (queueAt s ↑q).last) ∧
    (∃ (q : QueueId) (v : BitVec 32) (s : State), barOpen s = true ∧ (queueAt s ↑q).st ≠ 0 ∧ v.toNat % (queueAt s ↑q).ringSize =
      (queueAt s ↑q).last) ∧
    (∃ (q : QueueId) (v : BitVec 32) (s : State), barOpen s = true ∧ (queueAt s ↑q).st = 2 ∧ 64 ≤ (queueAt s ↑q).tails.length ∧
      v.toNat % (queueAt s ↑q).ringSize ≠ (queueAt s ↑q).last) ∧
    (∃ (q : QueueId) (s : State), barOpen s = true ∧ (queueAt s ↑q).st ≠ 0 ∧ (queueAt s ↑q).held = [] ∧ (queueAt s ↑q).batches = []
      ∧ (∀ (p : Nat) (f : Fetch), (queueAt s p).fetch = some f → f.held = false)) ∧
    (∃ (q : QueueId) (s : State), barOpen s = true ∧ (queueAt s ↑q).st ≠ 0 ∧ (queueAt s ↑q).cls = 1) ∧
    (∃ (head : Nat) (tail : Nat) (size : Nat) (n : Nat), 0 < n ∧ n < size ∧ head + n ≤ tail) ∧
    (∃ (q : QueueId) (s : State), barOpen s = true ∧ (queueAt s ↑q).st = 3 ∧ (queueAt s ↑q).tails = []) ∧
    (∃ (s : State), barOpen s = true) ∧
    (∃ (f : Func) (p : QueueId) (s : State), barOpen s = true ∧ f ≠ 0 ∧ pageQueue s ↑f ↑p = none) ∧
    (∃ (f : Func) (p : QueueId) (s : State) (q : Nat), barOpen s = true ∧ f ≠ 0 ∧ pageQueue s ↑f ↑p = some q ∧ (queueAt s q).st ≠ 0
      ∧ (ctxAt s (queueAt s q).asid).func ≠ ↑f) :=
  ⟨⟨0, w0, by decide +kernel⟩,
   ⟨1, 63, wx [] [(1, qst 1 [] [])] [], by decide +kernel⟩,
   ⟨1, 64, wx [] [(1, qst 2 [] [])] [], by decide +kernel⟩,
   ⟨1, 63, wx [] [(1, qst 2 (List.replicate 64 5) [])] [], by decide +kernel⟩,
   ⟨1, wx [] [(1, { qst 2 [] [] with cplTail := 70, cplHead := 60 })] [],
     by refine ⟨?_, ?_, ?_, ?_, ?_⟩ <;> first | decide +kernel | exact unheld (by decide +kernel)⟩,
   ⟨1, wx [] [(1, { qrun 1 with recTail := 70, recHead := 60 })] [], by decide +kernel⟩,
   ⟨60, 70, 64, 10, by decide +kernel⟩,
   ⟨1, wx [] [(1, { qst 3 [] [] with skip := 7 })] [], by decide +kernel⟩,
   ⟨w0, by decide +kernel⟩,
   ⟨31, 1023, w0, by decide +kernel⟩,
   ⟨2, 0, setF F.PCI_VFQ.BASE 2 1 (setF F.PCI_VFQ.COUNT 2 1 { wx [] [(1, qst 2 [] [])] [] with pci := { w0.pci with vfEn := 4 } }), 1,
     by decide +kernel⟩⟩

/-- The hypotheses of BatchesAndCounters are met, clause by clause. -/
theorem test_wit_BatchesAndCounters :
    (∃ (q : QueueId) (f : Fetch) (s : State), frameRuns s = true ∧ (queueAt s ↑q).fetch = some f ∧ f.full = true ∧ f.count ≤
      f.done.length ∧ batchEntries s + (1 + (List.map TCmd.entries f.done).sum) ≤ 65536) ∧
    (∃ (q : QueueId) (f : Fetch) (s : State), frameRuns s = true ∧ (queueAt s ↑q).fetch = some f ∧ f.full = true ∧ f.done.length <
      f.count ∧ f.part = [] ∧ checkCmd s (queueAt s ↑q) f.ws f.done.length ≠ 0) ∧
    (∃ (q : QueueId) (b : Batch) (s : State), frameRuns s = true ∧ (queueAt s ↑q).newest = some b ∧ (queueAt s ↑q).st = 2 ∧ (queueAt s
      ↑q).tails.length ≤ 1 ∧ (queueAt s ↑q).roomy = true ∧ durable s b.lsn = false) ∧
    (∃ (q : QueueId) (b : Batch) (s : State), frameRuns s = true ∧ (queueAt s ↑q).newest = some b ∧ (queueAt s ↑q).st = 2 ∧ (queueAt s
      ↑q).tails.length ≤ 1 ∧ (queueAt s ↑q).roomy = true ∧ withheld s = true) ∧
    (∃ (q : QueueId) (b : Batch) (s : State), frameRuns s = true ∧ (queueAt s ↑q).newest = some b ∧ (queueAt s ↑q).st = 2 ∧ (queueAt s
      ↑q).tails.length ≤ 1 ∧ (queueAt s ↑q).roomy = true ∧ durable s b.lsn = true ∧ withheld s = false) ∧
    (∃ (s : State), barOpen s = true ∧ s.tq.queues = []) :=
  ⟨⟨1, fet [0, 0x100] 2, wx [] [(1, { qst 2 [2] [] with fetch := some (fet [0, 0x100] 2) })] [], by decide +kernel⟩,
   ⟨1, fet [0, 0xFF] 1, wx [] [(1, { qst 2 [2] [] with fetch := some (fet [0, 0xFF] 1) })] [], by decide +kernel⟩,
   ⟨1, bnew [0], wx [] [(1, qst 2 [1] [bnew [0]])] [], by decide +kernel⟩,
   ⟨1, bnew [0], wx [] [(1, qst 2 [1] [bnew [0]])] [], by decide +kernel⟩,
   ⟨1, bnew [0], setF F.HBL_CTL.ALLOW_UNMIRRORED 0 1 { wx [] [(1, qst 2 [1] [bnew [0]])] [] with hbl := { w0.hbl with local_ := 1 } },
     by decide +kernel⟩,
   ⟨{ w0 with pci := { w0.pci with loHeld := [(regKey .TQ_CNT_LO 9, 5)] } }, by decide +kernel⟩⟩

/-- The hypotheses of SequencerRunsControlCommands are met, clause by clause. -/
theorem test_wit_SequencerRunsControlCommands :
    (∃ (q : QueueId) (b : Batch) (s : State) (x : TQueue) (w : Cmd), x = queueAt s ↑q ∧ w = wordAt b.words b.seq.pos ∧ AtSeq s (↑q)
      0 b) ∧
    (∃ (q : QueueId) (b : Batch) (s : State) (x : TQueue) (w : Cmd), x = queueAt s ↑q ∧ w = wordAt b.words b.seq.pos ∧ AtSeq s (↑q)
      1 b) ∧
    (∃ (q : QueueId) (b : Batch) (s : State) (x : TQueue) (w : Cmd), x = queueAt s ↑q ∧ w = wordAt b.words b.seq.pos ∧ AtSeq s (↑q)
      2 b ∧ mapFind b.outcomes b.seq.dseq = none) ∧
    (∃ (q : QueueId) (b : Batch) (s : State) (x : TQueue) (w : Cmd), x = queueAt s ↑q ∧ w = wordAt b.words b.seq.pos ∧ AtSeq s (↑q)
      3 b) ∧
    (∃ (q : QueueId) (b : Batch) (s : State) (x : TQueue) (w : Cmd), x = queueAt s ↑q ∧ w = wordAt b.words b.seq.pos ∧ AtSeq s (↑q)
      4 b) ∧
    (∃ (q : QueueId) (b : Batch) (s : State) (x : TQueue) (w : Cmd), x = queueAt s ↑q ∧ w = wordAt b.words b.seq.pos ∧ AtSeq s (↑q)
      5 b) ∧
    (∃ (q : QueueId) (b : Batch) (s : State) (x : TQueue) (w : Cmd), x = queueAt s ↑q ∧ w = wordAt b.words b.seq.pos ∧ AtSeq s (↑q)
      10 b) ∧
    (∃ (q : QueueId) (b : Batch) (s : State) (x : TQueue) (w : Cmd), x = queueAt s ↑q ∧ w = wordAt b.words b.seq.pos ∧ AtSeq s (↑q)
      11 b) ∧
    (∃ (q : QueueId) (b : Batch) (s : State) (x : TQueue) (w : Cmd), x = queueAt s ↑q ∧ w = wordAt b.words b.seq.pos ∧ AtSeq s (↑q)
      12 b) ∧
    (∃ (q : QueueId) (b : Batch) (s : State), AtSeq s (↑q) 6 b ∧ b.committedHere = false ∧ b.lost.contains b.seq.pos = false ∧
      mapFind b.outcomes b.seq.dseq = none ∧ condHolds (cCond (wordAt b.words b.seq.pos)) (counterAt s ((queueAt s ↑q).cbase +
      cCounter (wordAt b.words b.seq.pos))) (cValue (wordAt b.words b.seq.pos)) = false) ∧
    (∃ (q : QueueId) (b : Batch) (s : State), frameRuns s = true ∧ (queueAt s ↑q).running = some b ∧ b.waiting = true) ∧
    (∃ (q : QueueId) (b : Batch) (s : State), b.committedHere = false ∧ AtSeq s (↑q) 7 b) ∧
    (∃ (q : QueueId) (b : Batch) (s : State), b.committedHere = false ∧ AtSeq s (↑q) 8 b) ∧
    (∃ (q : QueueId) (b : Batch) (s : State), AtSeq s (↑q) 9 b ∧ (cScope (wordAt b.words b.seq.pos) = 0 ∨ fenceTiles s (queueAt s
      ↑q) b = [])) ∧
    (∃ (q : QueueId) (b : Batch) (s : State) (u : State), AtSeq s (↑q) 9 b ∧ cScope (wordAt b.words b.seq.pos) ≠ 0 ∧ fenceTiles s
      (queueAt s ↑q) b ≠ [] ∧ u = modBatch (↑q) b.first (fun (d : Batch) =>
      { d with fence := fenceTiles s (queueAt s ↑q) b, fencing := true, fenceId := s.bead.fenceNext }) s) ∧
    (∃ (q : QueueId) (b : Batch) (t : TileId) (s : State), frameRuns s = true ∧ (queueAt s ↑q).running = some b ∧ b.fencing = true ∧
      b.fence.contains ↑t = true ∧ s.bead.reports.contains (↑t, b.fenceId) = true ∧ List.filter (fun (u : Nat) => u != ↑t) b.fence ≠
      []) ∧
    (∃ (q : QueueId) (b : Batch) (t : TileId) (s : State), frameRuns s = true ∧ (queueAt s ↑q).running = some b ∧
      s.bead.reports.contains (↑t, b.fenceId) = false) ∧
    (∃ (q : Nat) (pos : Nat) (b : Batch) (s : State), b ∈ (queueAt s q).batches ∧ b.isOver = false ∧ b.ended = false ∧ b.accepted =
      true ∧ (∀ (c : Batch), c ∈ (queueAt s q).batches → c.first = b.first → c = b) ∧ pos < b.cmds.length ∧ signalOf (queueAt s q) b
      = none) :=
  ⟨⟨1, bacc [0, 0], wq 0 (bacc [0, 0]), queueAt (wq 0 (bacc [0, 0])) 1, wordAt [0] 0, by unfold AtSeq; decide +kernel⟩,
   ⟨1, bacc [4294967297, 0], wq 0 (bacc [4294967297, 0]), queueAt (wq 0 (bacc [4294967297, 0])) 1, wordAt [4294967297] 0,
     by unfold AtSeq; decide +kernel⟩,
   ⟨1, bacc [36893488151714070530, 0], wq 0 (bacc [36893488151714070530, 0]), queueAt (wq 0 (bacc [36893488151714070530, 0])) 1,
     wordAt [36893488151714070530] 0, by unfold AtSeq; decide +kernel⟩,
   ⟨1, bacc [92235690693384732675, 0], wq 0 (bacc [92235690693384732675, 0]), queueAt (wq 0 (bacc [92235690693384732675, 0])) 1,
     wordAt [92235690693384732675] 0, by unfold AtSeq; decide +kernel⟩,
   ⟨1, bacc [166021541088316096516, 0], wq 0 (bacc [166021541088316096516, 0]), queueAt (wq 0 (bacc [166021541088316096516, 0])) 1,
     wordAt [166021541088316096516] 0, by unfold AtSeq; decide +kernel⟩,
   ⟨1, bacc [79228162495818156469787820037, 0], wq 0 (bacc [79228162495818156469787820037, 0]), queueAt (wq 0 (bacc
     [79228162495818156469787820037, 0])) 1, wordAt [79228162495818156469787820037] 0, by unfold AtSeq; decide +kernel⟩,
   ⟨1, bacc [18446744073709551626, 0], wq 0 (bacc [18446744073709551626, 0]), queueAt (wq 0 (bacc [18446744073709551626, 0])) 1,
     wordAt [18446744073709551626] 0, by unfold AtSeq; decide +kernel⟩,
   ⟨1, bacc [1180591620721706270731, 0], wq 0 (bacc [1180591620721706270731, 0]), queueAt (wq 0 (bacc [1180591620721706270731, 0])) 1,
     wordAt [1180591620721706270731] 0, by unfold AtSeq; decide +kernel⟩,
   ⟨1, bacc [4294967308, 0], wq 0 (bacc [4294967308, 0]), queueAt (wq 0 (bacc [4294967308, 0])) 1, wordAt [4294967308] 0,
     by unfold AtSeq; decide +kernel⟩,
   ⟨1, bacc [1701411834604692317335319781232550608902], wq 0 (bacc [1701411834604692317335319781232550608902]),
     by unfold AtSeq; decide +kernel⟩,
   ⟨1, { bacc [1701411834604692317335319781232550608902] with waiting := true }, wq 0
     { bacc [1701411834604692317335319781232550608902] with waiting := true }, by decide +kernel⟩,
   ⟨1, bacc [1701411834604692317335319781232550608903], wq 0 (bacc [1701411834604692317335319781232550608903]),
     by unfold AtSeq; decide +kernel⟩,
   ⟨1, bacc [1701411834604692317335319781232550608904], wq 0 (bacc [1701411834604692317335319781232550608904]),
     by unfold AtSeq; decide +kernel⟩,
   ⟨1, bacc [281474976710665], wq 0 (bacc [281474976710665]), by unfold AtSeq; decide +kernel⟩,
   ⟨1, bacc [281474976710665],
     { wq 0 (bacc [281474976710665]) with bead := { w0.bead with cores := [(6, { job := some jb, asid := 5, mark := 0 })] } }, _,
     by unfold AtSeq; decide +kernel, by decide +kernel, by decide +kernel, rfl⟩,
   ⟨1, { bacc [281474976710665] with fencing := true, fence := [3, 9], fenceId := 7 }, 3,
     { wq 0 { bacc [281474976710665] with fencing := true, fence := [3, 9], fenceId := 7 } with bead := { w0.bead with reports := [(3, 7)] } },
     by decide +kernel⟩,
   ⟨1, { bacc [281474976710665] with fencing := true, fence := [3, 9], fenceId := 7 }, 3,
     { wq 0 { bacc [281474976710665] with fencing := true, fence := [3, 9], fenceId := 7 } with bead := { w0.bead with reports := [(3, 8)] } },
     by decide +kernel⟩,
   ⟨1, 1, bacc [0, 0], wq 0 (bacc [0, 0]), by decide +kernel⟩⟩

/-- The hypotheses of EnginesDispatchInTurn are met, clause by clause. -/
theorem test_wit_EnginesDispatchInTurn :
    (∃ (e : Fin 32) (q : Nat) (b : Batch) (c : Cmd) (s : State), c = wordAt b.words b.seq.pos ∧ Fresh s q b ∧ AtTurn s (↑e) q 16 b ∧
      indexBad b c = false) ∧
    (∃ (e : Fin 32) (q : Nat) (b : Batch) (c : Cmd) (s : State), c = wordAt b.words b.seq.pos ∧ Fresh s q b ∧ AtTurn s (↑e) q 16 b ∧
      indexBad b c = true) ∧
    (∃ (e : Fin 32) (q : Nat) (b : Batch) (c : Cmd) (s : State), c = wordAt b.words b.seq.pos ∧ Fresh s q b ∧ AtTurn s (↑e) q 17 b ∧
      prefetchOpen s = true ∧ indexBad b c = false) ∧
    (∃ (e : Fin 32) (q : Nat) (b : Batch) (c : Cmd) (s : State), c = wordAt b.words b.seq.pos ∧ Fresh s q b ∧ AtTurn s (↑e) q 17 b ∧
      prefetchOpen s = true ∧ indexBad b c = true) ∧
    (∃ (e : Fin 32) (q : Nat) (b : Batch) (c : Cmd) (s : State), c = wordAt b.words b.seq.pos ∧ Fresh s q b ∧ AtTurn s (↑e) q 18 b ∧
      indexBad b c = false) ∧
    (∃ (e : Fin 32) (q : Nat) (b : Batch) (c : Cmd) (s : State), c = wordAt b.words b.seq.pos ∧ Fresh s q b ∧ AtTurn s (↑e) q 18 b ∧
      indexBad b c = true) ∧
    (∃ (e : Fin 8) (q : Nat) (b : Batch) (c : Cmd) (s : State), c = wordAt b.words b.seq.pos ∧ Fresh s q b ∧ AtTurn s (32 + ↑e) q 32
      b ∧ b.lost.contains b.seq.pos = false) ∧
    (∃ (e : Fin 8) (q : Nat) (b : Batch) (c : Cmd) (s : State), c = wordAt b.words b.seq.pos ∧ Fresh s q b ∧ AtTurn s (32 + ↑e) q 32
      b ∧ b.lost.contains b.seq.pos = true) ∧
    (∃ (e : Fin 8) (q : Nat) (b : Batch) (c : Cmd) (s : State), c = wordAt b.words b.seq.pos ∧ Fresh s q b ∧ AtTurn s (32 + ↑e) q 33
      b ∧ stageSlots b (newInst b (hereOpnds b)) = []) ∧
    (∃ (e : Fin 8) (q : Nat) (b : Batch) (c : Cmd) (s : State) (n : Nat) (u : State), c = wordAt b.words b.seq.pos ∧ Fresh s q b ∧
      AtTurn s (32 + ↑e) q 33 b ∧ stageSlots b (newInst b (hereOpnds b)) ≠ [] ∧ stagePick (useTurn (32 + ↑e) q 0 s) = (some n, u)) ∧
    (∃ (e : Fin 8) (q : Nat) (b : Batch) (c : Cmd) (s : State), c = wordAt b.words b.seq.pos ∧ Fresh s q b ∧ AtTurn s (40 + ↑e) q 48
      b ∧ indexBad b c = false) ∧
    (∃ (e : Fin 8) (q : Nat) (b : Batch) (c : Cmd) (s : State), c = wordAt b.words b.seq.pos ∧ Fresh s q b ∧ AtTurn s (40 + ↑e) q 48
      b ∧ indexBad b c = true) ∧
    (∃ (e : Fin 8) (q : Nat) (b : Batch) (c : Cmd) (s : State), c = wordAt b.words b.seq.pos ∧ Fresh s q b ∧ AtTurn s (40 + ↑e) q 49
      b ∧ indexBad b c = false) ∧
    (∃ (e : Fin 8) (q : Nat) (b : Batch) (c : Cmd) (s : State), c = wordAt b.words b.seq.pos ∧ Fresh s q b ∧ AtTurn s (40 + ↑e) q 49
      b ∧ indexBad b c = true) ∧
    (∃ (e : Fin 8) (q : Nat) (b : Batch) (c : Cmd) (s : State), c = wordAt b.words b.seq.pos ∧ Fresh s q b ∧ AtTurn s (40 + ↑e) q 50
      b) ∧
    (∃ (s : State), (∃ (n : Nat), n < 64 ∧ stageFree s n = true)) ∧
    (∃ (f : Fin 32) (e : Fin 8) (i : Instr) (n : Nat) (op : Nat) (q : Nat) (b : Batch) (s : State) (k : Nat) (u : State), (i, n, op)
      ∈ engineRows f e ∧ AtTurn s n q op b ∧ redone s n q op b = (ReOp.gone k, u)) ∧
    (∃ (f : Fin 32) (e : Fin 8) (i : Instr) (n : Nat) (op : Nat) (q : Nat) (b : Batch) (s : State) (pg : Nat) (acc : Nat) (u :
      State), (i, n, op) ∈ engineRows f e ∧ AtTurn s n q op b ∧ redone s n q op b = (ReOp.need pg acc, u)) ∧
    (∃ (e : Fin 32) (q : Nat) (b : Batch) (l : List Opnd) (s : State) (u : State), AtTurn s (↑e) q 16 b ∧ redone s (↑e) q 16 b =
      (ReOp.ok l, u) ∧ indexBad b (wordAt b.words b.seq.pos) = false) ∧
    (∃ (q : Nat) (s : State) (p : Nat), (queueAt s q).st ≠ 0 ∧ p ≠ q) ∧
    (∃ (q : Nat) (b : Batch) (s : State), b ∈ (queueAt s q).batches) :=
  ⟨⟨0, 1, bacc [4294967312], 4294967312, wq 0 (bacc [4294967312]), by unfold Fresh AtTurn AtSeq; decide +kernel⟩,
   ⟨0, 1,
     { bacc [822821326779692274565886784962330536821945058726679040348913680] with seq := { iregs := [0, 0, 0, 5, 0, 0, 0, 0] } },
     822821326779692274565886784962330536821945058726679040348913680, wq 0
     ({ bacc [822821326779692274565886784962330536821945058726679040348913680] with seq := { iregs := [0, 0, 0, 5, 0, 0, 0, 0] } }),
     by unfold Fresh AtTurn AtSeq; decide +kernel⟩,
   ⟨0, 1, bacc [4294967313], 4294967313, wq 0 (bacc [4294967313]), by unfold Fresh AtTurn AtSeq; decide +kernel⟩,
   ⟨0, 1,
     { bacc [822821326779692274565886784962330536821945058726679040348913681] with seq := { iregs := [0, 0, 0, 5, 0, 0, 0, 0] } },
     822821326779692274565886784962330536821945058726679040348913681, wq 0
     ({ bacc [822821326779692274565886784962330536821945058726679040348913681] with seq := { iregs := [0, 0, 0, 5, 0, 0, 0, 0] } }),
     by unfold Fresh AtTurn AtSeq; decide +kernel⟩,
   ⟨0, 1, bacc [4294967314], 4294967314, wq 0 (bacc [4294967314]), by unfold Fresh AtTurn AtSeq; decide +kernel⟩,
   ⟨0, 1,
     { bacc [822821326779692274565886784962330536821945058726679040348913682] with seq := { iregs := [0, 0, 0, 5, 0, 0, 0, 0] } },
     822821326779692274565886784962330536821945058726679040348913682, wq 0
     ({ bacc [822821326779692274565886784962330536821945058726679040348913682] with seq := { iregs := [0, 0, 0, 5, 0, 0, 0, 0] } }),
     by unfold Fresh AtTurn AtSeq; decide +kernel⟩,
   ⟨0, 1, bacc [4294967328], 4294967328, wq 1 (bacc [4294967328]), by unfold Fresh AtTurn AtSeq; decide +kernel⟩,
   ⟨0, 1, { bacc [4294967328] with lost := [0] }, 4294967328, wq 1 ({ bacc [4294967328] with lost := [0] }),
     by unfold Fresh AtTurn AtSeq; decide +kernel⟩,
   ⟨0, 1, bacc [4294967329], 4294967329, wq 1 (bacc [4294967329]), by unfold Fresh AtTurn AtSeq; decide +kernel⟩,
   ⟨0, 1, { bacc [266781375666015755355285692226510572748812, 33] with seq := { pos := 1 } }, 33, wq 1
     { bacc [266781375666015755355285692226510572748812, 33] with seq := { pos := 1 } }, _, _, by decide +kernel,
     by unfold Fresh; decide +kernel, by unfold AtTurn AtSeq; decide +kernel, by decide +kernel, stagePick_free
     (by decide +kernel)⟩,
   ⟨0, 1, bacc [4294967344], 4294967344, wq 2 (bacc [4294967344]), by unfold Fresh AtTurn AtSeq; decide +kernel⟩,
   ⟨0, 1,
     { bacc [822821326779692274565886784962330536821945058726679040348913712] with seq := { iregs := [0, 0, 0, 5, 0, 0, 0, 0] } },
     822821326779692274565886784962330536821945058726679040348913712, wq 2
     ({ bacc [822821326779692274565886784962330536821945058726679040348913712] with seq := { iregs := [0, 0, 0, 5, 0, 0, 0, 0] } }),
     by unfold Fresh AtTurn AtSeq; decide +kernel⟩,
   ⟨0, 1, bacc [4294967345], 4294967345, wq 2 (bacc [4294967345]), by unfold Fresh AtTurn AtSeq; decide +kernel⟩,
   ⟨0, 1,
     { bacc [822821326779692274565886784962330536821945058726679040348913713] with seq := { iregs := [0, 0, 0, 5, 0, 0, 0, 0] } },
     822821326779692274565886784962330536821945058726679040348913713, wq 2
     ({ bacc [822821326779692274565886784962330536821945058726679040348913713] with seq := { iregs := [0, 0, 0, 5, 0, 0, 0, 0] } }),
     by unfold Fresh AtTurn AtSeq; decide +kernel⟩,
   ⟨0, 1, bacc [4294967346], 4294967346, wq 2 (bacc [4294967346]), by unfold Fresh AtTurn AtSeq; decide +kernel⟩,
   ⟨w0, 0, by decide +kernel⟩,
   ⟨0, 0, .tideCopy 0, 0, 16, 1,
     { bacc [4294967312] with cmds := [{ word := 4294967312, opnds := [{ num := 0, va := 0, bytes := 64, acc := 1, gen := 2, exts := [] }] }] },
     wq 0
     { bacc [4294967312] with cmds := [{ word := 4294967312, opnds := [{ num := 0, va := 0, bytes := 64, acc := 1, gen := 2, exts := [] }] }] },
     0, _, by simp [engineRows], by unfold AtTurn AtSeq; decide +kernel, pair_of (by decide +kernel)⟩,
   ⟨0, 0, .tideCopy 0, 0, 16, 1,
     { bacc [4294967312] with cmds := [{ word := 4294967312, opnds := [{ num := 0, va := 0, bytes := 64, acc := 1, gen := 2, exts := [] }] }] },
     { wq 0 { bacc [4294967312] with cmds := [{ word := 4294967312, opnds := [{ num := 0, va := 0, bytes := 64, acc := 1, gen := 2, exts := [] }] }] } with xlt := { w0.xlt with ctxs := [(5, { bound := true, shared := true, func := 0, pasid := 7, gen := 3, point := 9 })] } },
     0, 1, _, by simp [engineRows], by unfold AtTurn AtSeq; decide +kernel, pair_of (by decide +kernel)⟩,
   ⟨0, 1, bacc [4294967312], [], wq 0 (bacc [4294967312]), _, by unfold AtTurn AtSeq; decide +kernel, pair_of (by decide +kernel),
     by decide +kernel⟩,
   ⟨1, wx [] [(1, qrun 0)] [], 2, by decide +kernel⟩,
   ⟨1, bacc [4294967312], wq 0 (bacc [4294967312]), by decide +kernel⟩⟩

/-- The hypotheses of InstancesEndAndApply are met, clause by clause. -/
theorem test_wit_InstancesEndAndApply :
    (∃ (q : QueueId) (asn : BitVec 64) (dseq : BitVec 32) (k : Nat) (noise : Option (Nat × BitVec 512)) (b : Batch) (i : Inst) (m :
      Mv) (s : State) (s1 : State), frameRuns s = true ∧ instOf s (↑q) asn.toNat dseq.toNat = some (b, i) ∧ i.phase = IPhase.run ∧
      (mapFind i.xfer.dealt k).isSome = true ∧ pieceReady (b.cmdOf i) i k = true ∧ engineWait s (pieceEngine (queueAt s ↑q) i k)
      (ferryPlaces (b.cmdOf i) i (pieceRest i (cSectors (b.cmdOf i)) k)) = none ∧ pieceFinish (queueAt s ↑q) (b.cmdOf i) i k noise s
      = (m, s1)) ∧
    (∃ (q : QueueId) (asn : BitVec 64) (dseq : BitVec 32) (b : Batch) (i : Inst) (s : State), frameRuns s = true ∧ instOf s (↑q)
      asn.toNat dseq.toNat = some (b, i) ∧ i.phase = IPhase.run ∧ (i.op = 7 ∨ i.op = 8)) ∧
    (∃ (q : QueueId) (asn : BitVec 64) (dseq : BitVec 32) (b : Batch) (i : Inst) (s : State), frameRuns s = true ∧ instOf s (↑q)
      asn.toNat dseq.toNat = some (b, i) ∧ i.phase = IPhase.run ∧ (i.op = 16 ∨ i.op = 17 ∨ i.op = 18) ∧ ferryReady (b.cmdOf i) i =
      false) ∧
    (∃ (q : QueueId) (asn : BitVec 64) (dseq : BitVec 32) (b : Batch) (i : Inst) (s : State) (w : Nat), frameRuns s = true ∧ instOf
      s (↑q) asn.toNat dseq.toNat = some (b, i) ∧ i.phase = IPhase.run ∧ (i.op = 16 ∨ i.op = 17 ∨ i.op = 18) ∧ ferryReady (b.cmdOf
      i) i = true ∧ engineWait s (queueAt s ↑q).eng (ferryLeft (b.cmdOf i) i) = some w) ∧
    (∃ (q : QueueId) (asn : BitVec 64) (dseq : BitVec 32) (noise : Option (Nat × BitVec 512)) (b : Batch) (i : Inst) (s : State) (st
      : Nat) (s1 : State), frameRuns s = true ∧ instOf s (↑q) asn.toNat dseq.toNat = some (b, i) ∧ i.phase = IPhase.run ∧ (i.op = 48
      ∨ i.op = 49) ∧ gatherReady s b i = true ∧ engineWait s (queueAt s ↑q).eng (gatherLeft s b i) = none ∧ gatherFinish (↑q)
      (queueAt s ↑q) b (b.cmdOf i) i noise s = (st, s1)) ∧
    (∃ (q : QueueId) (asn : BitVec 64) (dseq : BitVec 32) (b : Batch) (i : Inst) (s : State) (v : Verdict) (st : Nat), frameRuns s =
      true ∧ instOf s (↑q) asn.toNat dseq.toNat = some (b, i) ∧ i.phase = IPhase.run ∧ i.op = 32 ∧ i.verdict = some v ∧ i.result =
      some st) ∧
    (∃ (q : QueueId) (asn : BitVec 64) (dseq : BitVec 32) (b : Batch) (i : Inst) (s : State) (l : Launch), frameRuns s = true ∧
      instOf s (↑q) asn.toNat dseq.toNat = some (b, i) ∧ i.phase = IPhase.run ∧ i.op = 33 ∧ i.launch = some l ∧ (l.again = false ∨
      l.st ≠ 0) ∧ launchBusy s l.id = false) ∧
    (∃ (q : QueueId) (asn : BitVec 64) (dseq : BitVec 32) (noise : Option (Nat × BitVec 512)) (b : Batch) (i : Inst) (s : State) (m
      : Mv) (s1 : State) (st : Nat) (s2 : State), frameRuns s = true ∧ instOf s (↑q) asn.toNat dseq.toNat = some (b, i) ∧ i.phase =
      IPhase.run ∧ (i.op = 16 ∨ i.op = 17 ∨ i.op = 18) ∧ ferryReady (b.cmdOf i) i = true ∧ engineWait s (queueAt s ↑q).eng
      (ferryLeft (b.cmdOf i) i) = none ∧ ferryFinish (queueAt s ↑q) (b.cmdOf i) i noise s = (m, s1) ∧ transferStatus (↑q) (queueAt s
      ↑q) i m s1 = (st, s2)) ∧
    (∃ (q : QueueId) (asn : BitVec 64) (dseq : BitVec 32) (b : Batch) (i : Inst) (s : State) (st : Nat), frameRuns s = true ∧ instOf
      s (↑q) asn.toNat dseq.toNat = some (b, i) ∧ i.phase = IPhase.run ∧ i.op = 50 ∧ i.result = some st) ∧
    (∃ (q : QueueId) (asn : BitVec 64) (dseq : BitVec 32) (b : Batch) (i : Inst) (s : State) (cs : CollSt), frameRuns s = true ∧
      instOf s (↑q) asn.toNat dseq.toNat = some (b, i) ∧ i.phase = IPhase.run ∧ i.op = 50 ∧ i.result = none ∧ i.xfer.err ≠ 0 ∧
      i.coll = some cs ∧ cs.commitLsn = 0) ∧
    (∃ (q : QueueId) (b : Batch) (i : Inst) (s : State), frameRuns s = true ∧ oldestStaged (queueAt s ↑q) = some (b, i) ∧ durable s
      i.lsn = true ∧ engineWait s (queueAt s ↑q).eng (applyPlaces s i) = none) ∧
    (∃ (q : QueueId) (b : Batch) (i : Inst) (s : State), frameRuns s = true ∧ oldestStaged (queueAt s ↑q) = some (b, i) ∧ durable s
      i.lsn = false) ∧
    (∃ (q : QueueId) (asn : BitVec 64) (dseq : BitVec 32) (b : Batch) (i : Inst) (l : Launch) (s : State), frameRuns s = true ∧
      instOf s (↑q) asn.toNat dseq.toNat = some (b, i) ∧ i.op = 33 ∧ i.phase = IPhase.run ∧ i.launch = some l ∧ l.st = 0) ∧
    (∃ (q : QueueId) (asn : BitVec 64) (dseq : BitVec 32) (b : Batch) (i : Inst) (cs : CollSt) (s : State), frameRuns s = true ∧
      instOf s (↑q) asn.toNat dseq.toNat = some (b, i) ∧ i.coll = some cs ∧ i.working = true ∧ cs.commitLsn = 0) ∧
    (∃ (q : QueueId) (asn : BitVec 64) (dseq : BitVec 32) (b : Batch) (i : Inst) (cs : CollSt) (s : State), frameRuns s = true ∧
      instOf s (↑q) asn.toNat dseq.toNat = some (b, i) ∧ i.coll = some cs ∧ i.working = true ∧ cs.readyLsn ≠ 0 ∧ cs.readySent =
      false ∧ cs.interrupted = false ∧ durable s (cs.readyLsn - 1) = true) ∧
    (∃ (q : QueueId) (asn : BitVec 64) (dseq : BitVec 32) (b : Batch) (i : Inst) (cs : CollSt) (s : State), frameRuns s = true ∧
      instOf s (↑q) asn.toNat dseq.toNat = some (b, i) ∧ i.coll = some cs ∧ i.working = true ∧ cs.commitLsn ≠ 0 ∧ durable s
      (cs.commitLsn - 1) = true ∧ engineWait s (queueAt s ↑q).eng (contribPlaces s (b.cmdOf i) i (groupMembers (cGroup (b.cmdOf i)))
      ++ List.filterMap (fun (k : Nat) => Option.map (fun (y : Extent) => (2, y)) (i.sector 1 k)) (List.range (cSectors (b.cmdOf
      i)))) = none) ∧
    (∃ (q : QueueId) (asn : BitVec 64) (dseq : BitVec 32) (b : Batch) (i : Inst) (l : Launch) (r : DispRec) (s : State), frameRuns s
      = true ∧ instOf s (↑q) asn.toNat dseq.toNat = some (b, i) ∧ i.launch = some l ∧ b.disp dseq.toNat = some r ∧ i.op = 32 ∧
      i.phase = IPhase.run ∧ i.verdict = none ∧ l.st ≠ 0 ∧ launchBusy s l.id = false ∧ i.opnds = []) :=
  ⟨⟨1, 1, 1, 0, none, bi 4294967312 { inst 16 with xfer := { dealt := [(0, 0)] } }, { inst 16 with xfer := { dealt := [(0, 0)] } },
     _, wi 0 4294967312 { inst 16 with xfer := { dealt := [(0, 0)] } }, _, by decide +kernel, by decide +kernel,
     by decide +kernel, by decide +kernel, by decide +kernel, by decide +kernel, pair_eq _⟩,
   ⟨1, 1, 1, bi 1701411834604692317335319781232550608903 (inst 7), inst 7, wi 0 1701411834604692317335319781232550608903 (inst 7),
     by decide +kernel⟩,
   ⟨1, 1, 1, bi 4294967312
     { inst 16 with opnds := [{ num := 0, va := 0, bytes := 64, acc := 1, gen := 3, exts := [{ host := true, addr := 0x100000000, sectors := 1, keysel := 0 }] }] },
     { inst 16 with opnds := [{ num := 0, va := 0, bytes := 64, acc := 1, gen := 3, exts := [{ host := true, addr := 0x100000000, sectors := 1, keysel := 0 }] }] },
     wi 0 4294967312
     { inst 16 with opnds := [{ num := 0, va := 0, bytes := 64, acc := 1, gen := 3, exts := [{ host := true, addr := 0x100000000, sectors := 1, keysel := 0 }] }] },
     by decide +kernel⟩,
   ⟨1, 1, 1, bi 4294967312
     { inst 16 with opnds := [{ num := 0, va := 0, bytes := 64, acc := 1, gen := 3, exts := [{ host := false, addr := 0x100000000, sectors := 1, keysel := 0 }] }, { num := 1, va := 0, bytes := 64, acc := 2, gen := 3, exts := [{ host := false, addr := 0x100000040, sectors := 1, keysel := 0 }] }] },
     { inst 16 with opnds := [{ num := 0, va := 0, bytes := 64, acc := 1, gen := 3, exts := [{ host := false, addr := 0x100000000, sectors := 1, keysel := 0 }] }, { num := 1, va := 0, bytes := 64, acc := 2, gen := 3, exts := [{ host := false, addr := 0x100000040, sectors := 1, keysel := 0 }] }] },
     setF F.RFB_PLACE.LOCAL_SLOTS 0 256 (setF F.MSH_COVEAWAKE.AWAKE 0 0 (wi 0 4294967312
     { inst 16 with opnds := [{ num := 0, va := 0, bytes := 64, acc := 1, gen := 3, exts := [{ host := false, addr := 0x100000000, sectors := 1, keysel := 0 }] }, { num := 1, va := 0, bytes := 64, acc := 2, gen := 3, exts := [{ host := false, addr := 0x100000040, sectors := 1, keysel := 0 }] }] })),
     3, by decide +kernel⟩,
   ⟨1, 1, 1, none, bi 48 (inst 48), inst 48, wi 2 48 (inst 48), _, _, by decide +kernel, by decide +kernel, by decide +kernel,
     by decide +kernel, by decide +kernel, by decide +kernel, pair_eq _⟩,
   ⟨1, 1, 1, bi 32
     { inst 32 with verdict := some { verdict := 0, flags := 0, checked := 1, failed := 0, first := 0, digA := 0, digB := 0, digC := 0, kvec := 0 }, result := some 0 },
     { inst 32 with verdict := some { verdict := 0, flags := 0, checked := 1, failed := 0, first := 0, digA := 0, digB := 0, digC := 0, kvec := 0 }, result := some 0 },
     wi 1 32
     { inst 32 with verdict := some { verdict := 0, flags := 0, checked := 1, failed := 0, first := 0, digA := 0, digB := 0, digC := 0, kvec := 0 }, result := some 0 },
     { verdict := 0, flags := 0, checked := 1, failed := 0, first := 0, digA := 0, digB := 0, digC := 0, kvec := 0 }, 0,
     by decide +kernel⟩,
   ⟨1, 1, 1, bi 33 { inst 33 with launch := some { id := 9 } }, { inst 33 with launch := some { id := 9 } }, wi 1 33
     { inst 33 with launch := some { id := 9 } }, { id := 9 }, by decide +kernel⟩,
   ⟨1, 1, 1, none, bi 4294967312 (inst 16), inst 16, wi 0 4294967312 (inst 16), _, _, _, _, by decide +kernel, by decide +kernel,
     by decide +kernel, by decide +kernel, by decide +kernel, by decide +kernel, pair_eq _, pair_eq _⟩,
   ⟨1, 1, 1, bi 50 { inst 50 with result := some 0 }, { inst 50 with result := some 0 }, wi 2 50 { inst 50 with result := some 0 }, 0,
     by decide +kernel⟩,
   ⟨1, 1, 1, bi 50 { inst 50 with xfer := { err := 5 }, coll := some { ordinal := 1 } },
     { inst 50 with xfer := { err := 5 }, coll := some { ordinal := 1 } }, wi 2 50
     { inst 50 with xfer := { err := 5 }, coll := some { ordinal := 1 } }, { ordinal := 1 }, by decide +kernel⟩,
   ⟨1, bi 1701411834604692317335319781232550608903 { inst 7 with phase := .staged }, { inst 7 with phase := .staged },
     { wi 0 1701411834604692317335319781232550608903 { inst 7 with phase := .staged } with hbl := { w0.hbl with local_ := 1 } },
     by decide +kernel⟩,
   ⟨1, bi 1701411834604692317335319781232550608903 { inst 7 with phase := .staged }, { inst 7 with phase := .staged },
     { wi 0 1701411834604692317335319781232550608903 { inst 7 with phase := .staged } with hbl := { w0.hbl with local_ := 0 } },
     by decide +kernel⟩,
   ⟨1, 1, 1, bi 33 { inst 33 with launch := some { id := 9 } }, { inst 33 with launch := some { id := 9 } }, { id := 9 }, wi 1 33
     { inst 33 with launch := some { id := 9 } }, by decide +kernel⟩,
   ⟨1, 1, 1, bi 50 { inst 50 with coll := some { ordinal := 1 } }, { inst 50 with coll := some { ordinal := 1 } }, { ordinal := 1 },
     wi 2 50 { inst 50 with coll := some { ordinal := 1 } }, by decide +kernel⟩,
   ⟨1, 1, 1, bi 50 { inst 50 with coll := some { ordinal := 1, readyLsn := 1 } },
     { inst 50 with coll := some { ordinal := 1, readyLsn := 1 } }, { ordinal := 1, readyLsn := 1 },
     { wi 2 50 { inst 50 with coll := some { ordinal := 1, readyLsn := 1 } } with hbl := { w0.hbl with local_ := 1 } },
     by decide +kernel⟩,
   ⟨1, 1, 1, bi 50 { inst 50 with coll := some { ordinal := 1, commitLsn := 1 } },
     { inst 50 with coll := some { ordinal := 1, commitLsn := 1 } }, { ordinal := 1, commitLsn := 1 },
     { wi 2 50 { inst 50 with coll := some { ordinal := 1, commitLsn := 1 } } with hbl := { w0.hbl with local_ := 1 } },
     by decide +kernel⟩,
   ⟨1, 1, 1,
     { bi 32 { inst 32 with launch := some { id := 9, st := 5 } } with disps := [{ dseq := 1, seed := 0, params := 0, psn := 0, count := 0, die := 0, epoch := 0, lsn := 0 }] },
     { inst 32 with launch := some { id := 9, st := 5 } }, { id := 9, st := 5 },
     { dseq := 1, seed := 0, params := 0, psn := 0, count := 0, die := 0, epoch := 0, lsn := 0 }, wq 1
     { bi 32 { inst 32 with launch := some { id := 9, st := 5 } } with disps := [{ dseq := 1, seed := 0, params := 0, psn := 0, count := 0, die := 0, epoch := 0, lsn := 0 }] },
     by decide +kernel⟩⟩

/-- The hypotheses of ArithmeticAndBranchInstructions are met, clause by clause. -/
theorem test_wit_ArithmeticAndBranchInstructions :
    (∃ (c : CoreId) (i : Instr) (fn : Nat) (op : BitVec 64 → BitVec 64 → BitVec 64) (w : KWord) (s : State), (i, fn, op) ∈ rrTable c ∧
      AtIns s (↑c) w ∧ kOp w = 0 ∧ kFn w = fn ∧ Landed s ↑c) ∧
    (∃ (c : CoreId) (i : Instr) (fn : Nat) (op : BitVec 64 → BitVec 64 → BitVec 64) (w : KWord) (s : State), (i, fn, op) ∈ rrTable c ∧
      AtIns s (↑c) w ∧ kOp w = 0 ∧ kFn w = fn ∧ (mapFind (coreAt s ↑c).busy (kF11 w)).isSome = true ∧ (coreAt s ↑c).late = none) ∧
    (∃ (c : CoreId) (i : Instr) (o : Nat) (op : BitVec 64 → KWord → BitVec 64) (w : KWord) (s : State), (i, o, op) ∈ riTable c ∧ AtIns
      s (↑c) w ∧ kOp w = o ∧ Landed s ↑c) ∧
    (∃ (c : CoreId) (i : Instr) (o : Nat) (cmp : BitVec 64 → BitVec 64 → Bool) (w : KWord) (s : State), (i, o, cmp) ∈ brTable c ∧
      AtIns s (↑c) w ∧ kOp w = o ∧ Landed s ↑c) ∧
    (∃ (c : CoreId) (w : KWord) (s : State), AtIns s (↑c) w ∧ Landed s ↑c ∧ kOp w = 46) ∧
    (∃ (c : CoreId) (w : KWord) (s : State), AtIns s (↑c) w ∧ Landed s ↑c ∧ kOp w = 47) :=
  ⟨⟨6, .add 6, 0, fun a b => BitVec.ofNat 64 (a.toNat + b.toNat), 133312, wk (kc 133312 0xFFFFFFFFFFFFFFFF 3),
     by refine ⟨by simp [rrTable], ?_, ?_, ?_, ?_⟩ <;> first | decide +kernel | (unfold AtIns; decide +kernel) | exact fun _ => rfl⟩,
   ⟨6, .add 6, 0, fun a b => BitVec.ofNat 64 (a.toNat + b.toNat), 133312, wk ({ kc 133312 5 3 with busy := [(1, 0)] }),
     by refine ⟨by simp [rrTable], ?_, ?_, ?_, ?_, ?_⟩ <;> first | decide +kernel | (unfold AtIns; decide +kernel)⟩,
   ⟨6, .addi 6, 1, fun a w => a + (w.extractLsb' 16 16).signExtend 64, 2147485889, wk (kc 2147485889 0xFFFFFFFFFFFFFFFF 3),
     by refine ⟨by simp [riTable], ?_, ?_, ?_⟩ <;> first | decide +kernel | (unfold AtIns; decide +kernel) | exact fun _ => rfl⟩,
   ⟨6, .beq 6, 0x28, fun a b => decide (a = b), 2147485800, wk (kc 2147485800 0xFFFFFFFFFFFFFFFF 3),
     by refine ⟨by simp [brTable], ?_, ?_, ?_⟩ <;> first | decide +kernel | (unfold AtIns; decide +kernel) | exact fun _ => rfl⟩,
   ⟨6, 4294965358, wk (kc 4294965358 0xFFFFFFFFFFFFFFFF 3),
     by refine ⟨?_, ?_, ?_⟩ <;> first | decide +kernel | (unfold AtIns; decide +kernel) | exact fun _ => rfl⟩,
   ⟨6, 4294905967, wk (kc 4294905967 0xFFFFFFFFFFFFFFFF 3),
     by refine ⟨?_, ?_, ?_⟩ <;> first | decide +kernel | (unfold AtIns; decide +kernel) | exact fun _ => rfl⟩⟩

/-- The hypotheses of MemoryInstructions are met, clause by clause. -/
theorem test_wit_MemoryInstructions :
    (∃ (c : CoreId) (i : Instr) (o : Nat) (n : Nat) (signed : Bool) (w : KWord) (a : Nat) (s : State), (i, o, n, signed) ∈ ldTable c ∧
      AtIns s (↑c) w ∧ kOp w = o ∧ Landed s ↑c ∧ a = ((coreAt s ↑c).gr (kF11 w) + kSimm w).toNat ∧ a % n ≠ 0) ∧
    (∃ (c : CoreId) (i : Instr) (o : Nat) (n : Nat) (signed : Bool) (w : KWord) (a : Nat) (s : State), (i, o, n, signed) ∈ ldTable c ∧
      AtIns s (↑c) w ∧ kOp w = o ∧ Landed s ↑c ∧ a = ((coreAt s ↑c).gr (kF11 w) + kSimm w).toNat ∧ a % n = 0 ∧ inScratch a n = false ∧
      inWindow (coreAt s ↑c) a n 0 = false) ∧
    (∃ (c : CoreId) (i : Instr) (o : Nat) (n : Nat) (signed : Bool) (w : KWord) (a : Nat) (s : State), (i, o, n, signed) ∈ ldTable c ∧
      AtIns s (↑c) w ∧ kOp w = o ∧ Landed s ↑c ∧ a = ((coreAt s ↑c).gr (kF11 w) + kSimm w).toNat ∧ a % n = 0 ∧ inScratch a n = true ∧
      sectorHeld (coreAt s ↑c) a = false) ∧
    (∃ (c : CoreId) (i : Instr) (o : Nat) (n : Nat) (signed : Bool) (w : KWord) (a : Nat) (s : State) (t : Nat), (i, o, n, signed) ∈
      ldTable c ∧ AtIns s (↑c) w ∧ kOp w = o ∧ Landed s ↑c ∧ a = ((coreAt s ↑c).gr (kF11 w) + kSimm w).toNat ∧ a % n = 0 ∧ inScratch a n
      = false ∧ inWindow (coreAt s ↑c) a n 0 = true ∧ sectorHeld (coreAt s ↑c) a = false ∧ (coreAt s ↑c).loads < 16 ∧ freeTag s ↑c =
      some t) ∧
    (∃ (c : CoreId) (i : Instr) (o : Nat) (n : Nat) (signed : Bool) (w : KWord) (a : Nat) (s : State), (i, o, n, signed) ∈ ldTable c ∧
      AtIns s (↑c) w ∧ kOp w = o ∧ Landed s ↑c ∧ a = ((coreAt s ↑c).gr (kF11 w) + kSimm w).toNat ∧ a % n = 0 ∧ (inScratch a n = true ∨
      inWindow (coreAt s ↑c) a n 0 = true) ∧ sectorHeld (coreAt s ↑c) a = true) ∧
    (∃ (c : CoreId) (i : Instr) (o : Nat) (z : Nat) (w : KWord) (a : Nat) (s : State), (i, o, z) ∈ stTable c ∧ AtIns s (↑c) w ∧ kOp w
      = o ∧ Landed s ↑c ∧ a = ((coreAt s ↑c).gr (kF11 w) + kSimm w).toNat ∧ a % 2 ^ z ≠ 0) ∧
    (∃ (c : CoreId) (i : Instr) (o : Nat) (z : Nat) (w : KWord) (a : Nat) (s : State), (i, o, z) ∈ stTable c ∧ AtIns s (↑c) w ∧ kOp w
      = o ∧ Landed s ↑c ∧ a = ((coreAt s ↑c).gr (kF11 w) + kSimm w).toNat ∧ a % 2 ^ z = 0 ∧ inScratch a (2 ^ z) = true ∧ sectorHeld
      (coreAt s ↑c) a = false) ∧
    (∃ (c : CoreId) (i : Instr) (o : Nat) (z : Nat) (w : KWord) (a : Nat) (s : State) (t : Nat), (i, o, z) ∈ stTable c ∧ AtIns s (↑c)
      w ∧ kOp w = o ∧ Landed s ↑c ∧ a = ((coreAt s ↑c).gr (kF11 w) + kSimm w).toNat ∧ a % 2 ^ z = 0 ∧ inScratch a (2 ^ z) = false ∧
      inWindow (coreAt s ↑c) a (2 ^ z) 1 = true ∧ sectorHeld (coreAt s ↑c) a = false ∧ (coreAt s ↑c).writes.length < 32 ∧ freeTag s ↑c =
      some t) ∧
    (∃ (c : CoreId) (i : Instr) (aop : Nat) (z : Nat) (a : Nat) (f : Nat → Nat → Nat → Nat → Nat) (w : KWord) (s : State), (i, aop, f)
      ∈ amoTable c ∧ AtIns s (↑c) w ∧ kOp w = 32 ∧ kFn w = aop + 8 * z ∧ (z = 2 ∨ z = 3) ∧ Landed s ↑c ∧ a = ((coreAt s ↑c).gr (kF11
      w)).toNat ∧ a % 2 ^ z = 0 ∧ inScratch a (2 ^ z) = true ∧ sectorHeld (coreAt s ↑c) a = false) ∧
    (∃ (a : Nat) (j : Nat) (b : Nat), scratchBase ≤ a ∧ j < 8 ∧ (b < a - scratchBase ∨ a - scratchBase + 8 ≤ b)) ∧
    (∃ (c : CoreId) (j : KPend) (s : State), (coreAt s ↑c).job = some j) :=
  ⟨⟨6, .ldws 6, 0x13, 4, true, 526547, 9, wk (kc 526547 1 3),
     by refine ⟨?_, ?_, ?_, ?_, ?_, ?_⟩ <;> first | decide +kernel | (unfold AtIns; decide +kernel) | exact fun _ => rfl | simp [ldTable]⟩,
   ⟨6, .ldws 6, 0x13, 4, true, 526547, 8, wk (kc 526547 0 3),
     by refine ⟨?_, ?_, ?_, ?_, ?_, ?_, ?_, ?_⟩ <;> first | decide +kernel | (unfold AtIns; decide +kernel) | exact fun _ => rfl | simp [ldTable]⟩,
   ⟨6, .ldws 6, 0x13, 4, true, 526547, 9223372036854775816, wk
     ({ kc 526547 0x8000000000000000 3 with scratch := [(8, 1), (11, 0x80)] }),
     by refine ⟨?_, ?_, ?_, ?_, ?_, ?_, ?_, ?_⟩ <;> first | decide +kernel | (unfold AtIns; decide +kernel) | exact fun _ => rfl | simp [ldTable]⟩,
   ⟨6, .ldws 6, 0x13, 4, true, 526547, 4563402760, wk (kc 526547 0x110000000 3), 0,
     by refine ⟨?_, ?_, ?_, ?_, ?_, ?_, ?_, ?_, ?_, ?_, ?_⟩ <;> first | decide +kernel | (unfold AtIns; decide +kernel) | exact fun _ => rfl | simp [ldTable]⟩,
   ⟨6, .ldws 6, 0x13, 4, true, 526547, 9223372036854775816, wk
     ({ kc 526547 0x8000000000000000 3 with writes := [{ tag := 0, sec := 144115188075855872, pc := 0, addr := 0, kst := false }] }),
     by refine ⟨?_, ?_, ?_, ?_, ?_, ?_, ?_, ?_⟩ <;> first | decide +kernel | (unfold AtIns; decide +kernel) | exact fun _ => rfl | simp [ldTable]⟩,
   ⟨6, .std 6, 0x1B, 3, 526491, 9, wk (kc 526491 1 3),
     by refine ⟨?_, ?_, ?_, ?_, ?_, ?_⟩ <;> first | decide +kernel | (unfold AtIns; decide +kernel) | exact fun _ => rfl | simp [stTable]⟩,
   ⟨6, .std 6, 0x1B, 3, 526491, 9223372036854775816, wk (kc 526491 0x8000000000000000 3),
     by refine ⟨?_, ?_, ?_, ?_, ?_, ?_, ?_, ?_⟩ <;> first | decide +kernel | (unfold AtIns; decide +kernel) | exact fun _ => rfl | simp [stTable]⟩,
   ⟨6, .std 6, 0x1B, 3, 526491, 4563402760, wk (kc 526491 0x110000000 3), 0,
     by refine ⟨?_, ?_, ?_, ?_, ?_, ?_, ?_, ?_, ?_, ?_, ?_⟩ <;> first | decide +kernel | (unfold AtIns; decide +kernel) | exact fun _ => rfl | simp [stTable]⟩,
   ⟨6, .amoAdd 6, 1, 3, 9223372036854775808, fun old x _ n => (old + x) % 2 ^ n, 52562144, wk
     ({ kc 52562144 0x8000000000000000 3 with scratch := [(0, 0xFF)] }),
     by refine ⟨by simp [amoTable], ?_, ?_, ?_, ?_, ?_, ?_, ?_, ?_, ?_⟩ <;> first | decide +kernel | (unfold AtIns; decide +kernel) | exact fun _ => rfl⟩,
   ⟨9223372036854775816, 7, 16, by decide +kernel⟩,
   ⟨6, jb, wk (kc 0 0 0), by decide +kernel⟩⟩

/-- The hypotheses of CountersCsrsAndSync are met, clause by clause. -/
theorem test_wit_CountersCsrsAndSync :
    (∃ (c : CoreId) (w : KWord) (j : KPend) (s : State), AtIns s (↑c) w ∧ Landed s ↑c ∧ kOp w = 33 ∧ (coreAt s ↑c).job = some j ∧
      (queueAt s j.queue).ccount ≤ ((coreAt s ↑c).gr (kF11 w)).toNat ∧ kFn w = 0) ∧
    (∃ (c : CoreId) (w : KWord) (j : KPend) (s : State), AtIns s (↑c) w ∧ Landed s ↑c ∧ kOp w = 33 ∧ (coreAt s ↑c).job = some j ∧
      (queueAt s j.queue).ccount ≤ ((coreAt s ↑c).gr (kF11 w)).toNat ∧ kFn w = 1) ∧
    (∃ (c : CoreId) (w : KWord) (j : KPend) (s : State), AtIns s (↑c) w ∧ Landed s ↑c ∧ kOp w = 33 ∧ (coreAt s ↑c).job = some j ∧
      (queueAt s j.queue).ccount ≤ ((coreAt s ↑c).gr (kF11 w)).toNat ∧ kFn w = 2) ∧
    (∃ (c : CoreId) (w : KWord) (j : KPend) (s : State), AtIns s (↑c) w ∧ Landed s ↑c ∧ kOp w = 33 ∧ (coreAt s ↑c).job = some j ∧
      ((coreAt s ↑c).gr (kF11 w)).toNat < (queueAt s j.queue).ccount ∧ kFn w = 2) ∧
    (∃ (c : CoreId) (w : KWord) (j : KPend) (s : State), AtIns s (↑c) w ∧ Landed s ↑c ∧ kOp w = 33 ∧ (coreAt s ↑c).job = some j ∧
      ((coreAt s ↑c).gr (kF11 w)).toNat < (queueAt s j.queue).ccount ∧ (coreAt s ↑c).staged < 16 ∧ kFn w = 0) ∧
    (∃ (c : CoreId) (w : KWord) (j : KPend) (s : State), AtIns s (↑c) w ∧ Landed s ↑c ∧ kOp w = 33 ∧ (coreAt s ↑c).job = some j ∧
      ((coreAt s ↑c).gr (kF11 w)).toNat < (queueAt s j.queue).ccount ∧ (coreAt s ↑c).staged < 16 ∧ kFn w = 1) ∧
    (∃ (c : CoreId) (w : KWord) (j : KPend) (s : State), AtIns s (↑c) w ∧ Landed s ↑c ∧ kOp w = 33 ∧ (coreAt s ↑c).job = some j ∧
      ((coreAt s ↑c).gr (kF11 w)).toNat < (queueAt s j.queue).ccount ∧ 16 ≤ (coreAt s ↑c).staged ∧ kFn w = 0) ∧
    (∃ (c : CoreId) (w : KWord) (s : State), AtIns s (↑c) w ∧ Landed s ↑c ∧ kOp w = 48 ∧ kImm w ≠ 0) ∧
    (∃ (c : CoreId) (w : KWord) (s : State), AtIns s (↑c) w ∧ Landed s ↑c ∧ kOp w = 49 ∧ kImm w = 20) ∧
    (∃ (c : CoreId) (w : KWord) (s : State) (n : Nat), AtIns s (↑c) w ∧ Landed s ↑c ∧ kOp w = 49 ∧ n < 4 ∧ kImm w = 16 + n) ∧
    (∃ (c : CoreId) (w : KWord) (s : State) (l : Nat × Nat × Nat × Nat), AtIns s (↑c) w ∧ kOp w = 50 ∧ (coreAt s ↑c).late = some l ∧
      kImm w = 2) ∧
    (∃ (c : CoreId) (w : KWord) (s : State), AtIns s (↑c) w ∧ kOp w = 50 ∧ (coreAt s ↑c).late = none ∧ (coreAt s ↑c).kq = [] ∧
      (coreAt s ↑c).outs = [] ∧ kImm w = 2) ∧
    (∃ (c : CoreId) (w : KWord) (s : State), AtIns s (↑c) w ∧ kOp w = 50 ∧ (coreAt s ↑c).late = none ∧ (coreAt s ↑c).kq = [] ∧
      (coreAt s ↑c).outs = [] ∧ (coreAt s ↑c).writes = [] ∧ kImm w = 1) ∧
    (∃ (c : CoreId) (w : KWord) (s : State), AtIns s (↑c) w ∧ kOp w = 50 ∧ (coreAt s ↑c).late = none ∧ (coreAt s ↑c).kq = [] ∧
      (coreAt s ↑c).outs = [] ∧ (coreAt s ↑c).writes = [] ∧ kImm w = 0) ∧
    (∃ (c : CoreId) (w : KWord) (s : State), AtIns s (↑c) w ∧ kOp w = 50 ∧ (coreAt s ↑c).late = none ∧ (coreAt s ↑c).kq = [] ∧
      (coreAt s ↑c).outs = [] ∧ (coreAt s ↑c).writes ≠ [] ∧ kImm w = 1) ∧
    (∃ (c : CoreId) (w : KWord) (s : State), AtIns s (↑c) w ∧ kOp w = 50 ∧ kImm w = 3) ∧
    (∃ (c : CoreId) (w : KWord) (s : State), coreRuns s ↑c = true ∧ (coreAt s ↑c).active = true ∧ (coreAt s ↑c).fetch = some w ∧
      legal (coreAt s ↑c).device w = false) ∧
    (∃ (c : CoreId) (w : KWord) (s : State), coreRuns s ↑c = true ∧ (coreAt s ↑c).active = true ∧ kOp w = 33) ∧
    (∃ (c : CoreId) (s : State), coreRuns s ↑c = true ∧ (coreAt s ↑c).active = true ∧ (coreAt s ↑c).fetchBad = true) :=
  ⟨⟨6, 133345, jb, wk (kc 133345 16 3),
     by refine ⟨?_, ?_, ?_, ?_, ?_, ?_⟩ <;> first | decide +kernel | (unfold AtIns; decide +kernel) | exact fun _ => rfl⟩,
   ⟨6, 2230497, jb, wk (kc 2230497 16 3),
     by refine ⟨?_, ?_, ?_, ?_, ?_, ?_⟩ <;> first | decide +kernel | (unfold AtIns; decide +kernel) | exact fun _ => rfl⟩,
   ⟨6, 4196577, jb, wk (kc 4196577 16 3),
     by refine ⟨?_, ?_, ?_, ?_, ?_, ?_⟩ <;> first | decide +kernel | (unfold AtIns; decide +kernel) | exact fun _ => rfl⟩,
   ⟨6, 4196577, jb, wk (kc 4196577 15 3),
     by refine ⟨?_, ?_, ?_, ?_, ?_, ?_⟩ <;> first | decide +kernel | (unfold AtIns; decide +kernel) | exact fun _ => rfl⟩,
   ⟨6, 133345, jb, wk (kc 133345 15 3),
     by refine ⟨?_, ?_, ?_, ?_, ?_, ?_, ?_⟩ <;> first | decide +kernel | (unfold AtIns; decide +kernel) | exact fun _ => rfl⟩,
   ⟨6, 2230497, jb, wk (kc 2230497 15 3),
     by refine ⟨?_, ?_, ?_, ?_, ?_, ?_, ?_⟩ <;> first | decide +kernel | (unfold AtIns; decide +kernel) | exact fun _ => rfl⟩,
   ⟨6, 133345, jb, wk ({ kc 133345 15 3 with staged := 16 }),
     by refine ⟨?_, ?_, ?_, ?_, ?_, ?_, ?_⟩ <;> first | decide +kernel | (unfold AtIns; decide +kernel) | exact fun _ => rfl⟩,
   ⟨6, 65776, wk (kc 65776 1 3),
     by refine ⟨?_, ?_, ?_, ?_⟩ <;> first | decide +kernel | (unfold AtIns; decide +kernel) | exact fun _ => rfl⟩,
   ⟨6, 1314865, wk (kc 1314865 1 3),
     by refine ⟨?_, ?_, ?_, ?_⟩ <;> first | decide +kernel | (unfold AtIns; decide +kernel) | exact fun _ => rfl⟩,
   ⟨6, 1249329, wk ({ kc 1249329 1 7 with seed := 0x123456789ABCDEF0123456789ABCDEF0 }), 3,
     by refine ⟨?_, ?_, ?_, ?_, ?_⟩ <;> first | decide +kernel | (unfold AtIns; decide +kernel) | exact fun _ => rfl⟩,
   ⟨6, 131122, wk ({ kc 131122 1 7 with late := some (8, 4, 0, 0) }), (8, 4, 0, 0), by unfold AtIns; decide +kernel⟩,
   ⟨6, 131122, wk ({ kc 131122 1 7 with writes := [{ tag := 0, sec := 0, pc := 0, addr := 0, kst := false }] }),
     by unfold AtIns; decide +kernel⟩,
   ⟨6, 65586, wk (kc 65586 1 3), by unfold AtIns; decide +kernel⟩,
   ⟨6, 50, wk (kc 50 1 3), by unfold AtIns; decide +kernel⟩,
   ⟨6, 65586, wk ({ kc 65586 1 7 with writes := [{ tag := 0, sec := 0, pc := 0, addr := 0, kst := false }] }),
     by unfold AtIns; decide +kernel⟩,
   ⟨6, 196658, wk (kc 196658 1 3), by unfold AtIns; decide +kernel⟩,
   ⟨6, 63, wk (kc 63 1 3), by decide +kernel⟩,
   ⟨6, 33, wk (kc 0 0 0), by decide +kernel⟩,
   ⟨6, wk { kc 0 0 0 with pc := 61 }, by decide +kernel⟩⟩

/-- The hypotheses of ReckonerInstructions are met, clause by clause. -/
theorem test_wit_ReckonerInstructions :
    (∃ (c : CoreId) (i : Instr) (fn : Nat) (f : KIns → Core → Core) (w : KWord) (e : KIns) (s : State), (i, fn, f) ∈ kTable c (ctxAt
      s (coreAt s ↑c).asid).point ∧ AtIns s (↑c) w ∧ Landed s ↑c ∧ kOp w = 56 ∧ kKfn w = fn ∧ (coreAt s ↑c).kq.length < 32 ∧ (coreAt
      s ↑c).kstop = false ∧ e =
      { word := w, pc := (coreAt s ↑c).pc, g := (coreAt s ↑c).gr (kG w), tok := (coreAt s ↑c).serial, addr := 0, data := none } ∧
      (coreAt s ↑c).kq = []) ∧
    (∃ (c : CoreId) (i : Instr) (fn : Nat) (f : KIns → Core → Core) (w : KWord) (e : KIns) (s : State), (i, fn, f) ∈ kTable c (ctxAt
      s (coreAt s ↑c).asid).point ∧ AtIns s (↑c) w ∧ Landed s ↑c ∧ kOp w = 56 ∧ kKfn w = fn ∧ (coreAt s ↑c).kq.length < 32 ∧ (coreAt
      s ↑c).kstop = false ∧ e =
      { word := w, pc := (coreAt s ↑c).pc, g := (coreAt s ↑c).gr (kG w), tok := (coreAt s ↑c).serial, addr := 0, data := none } ∧
      (coreAt s ↑c).kq ≠ []) ∧
    (∃ (c : CoreId) (w : KWord) (e : KIns) (b : BitVec 1) (s : State) (s1 : State), AtIns s (↑c) w ∧ Landed s ↑c ∧ kOp w = 56 ∧ kKfn
      w = 21 ∧ (coreAt s ↑c).kq = [] ∧ (coreAt s ↑c).kstop = false ∧ draw 1 s = (b, s1) ∧ e =
      { word := w, pc := (coreAt s ↑c).pc, g := (coreAt s ↑c).gr (kG w), tok := (coreAt s ↑c).serial, addr := 0, data := none }) ∧
    (∃ (c : CoreId) (w : KWord) (a : Nat) (s : State), AtIns s (↑c) w ∧ Landed s ↑c ∧ a = ((coreAt s ↑c).gr (kF11 w) + kSimm
      w).toNat ∧ a % 64 = 0 ∧ (coreAt s ↑c).kq = [] ∧ (coreAt s ↑c).kstop = false ∧ sectorHeld (coreAt s ↑c) a = false ∧ inScratch a
      64 = true ∧ kOp w = 28) ∧
    (∃ (c : CoreId) (w : KWord) (a : Nat) (s : State), AtIns s (↑c) w ∧ Landed s ↑c ∧ a = ((coreAt s ↑c).gr (kF11 w) + kSimm
      w).toNat ∧ a % 64 = 0 ∧ (coreAt s ↑c).kq = [] ∧ (coreAt s ↑c).kstop = false ∧ sectorHeld (coreAt s ↑c) a = false ∧ inScratch a
      64 = true ∧ kOp w = 29) ∧
    (∃ (c : CoreId) (i : KIns) (rest : List KIns) (s : State), coreRuns s ↑c = true ∧ (coreAt s ↑c).kq = i :: rest ∧ (coreAt s
      ↑c).ended = false ∧ (coreAt s ↑c).abort = false ∧ kReady s (↑c) i = true) ∧
    (∃ (c : CoreId) (i : KIns) (rest : List KIns) (s : State), coreRuns s ↑c = true ∧ (coreAt s ↑c).kq = i :: rest ∧ (coreAt s
      ↑c).ended = false ∧ (coreAt s ↑c).abort = false ∧ kReady s (↑c) i = false) ∧
    (∃ (c : CoreId) (s : State), coreRuns s ↑c = true ∧ (coreAt s ↑c).active = true) ∧
    (∃ (i : KIns) (n : Nat) (j : Nat), n ≠ kKd i.word ∧ j < 8) ∧
    (∃ (i : KIns) (k : Core), kG i.word ≠ 0 ∧ mapFind k.busy (kG i.word) = some i.tok ∧ (k.kr (kKa i.word)).poison = false) ∧
    (∃ (i : KIns) (k : Core), kG i.word ≠ 0 ∧ mapFind k.busy (kG i.word) = some i.tok ∧ (k.kr (kKd i.word)).poison = false) ∧
    (∃ (i : KIns) (k : Core), kG i.word ≠ 0 ∧ mapFind k.busy (kG i.word) = some i.tok ∧ (k.ar (kKa i.word)).poison = false ∧ (k.ar
      (kKa i.word)).nonfinite = true) ∧
    (∃ (i : KIns) (k : Core), kG i.word ≠ 0 ∧ mapFind k.busy (kG i.word) = some i.tok ∧ (k.ar (kKa i.word)).nonfinite = true) :=
  ⟨⟨6, .kmov 6, 0, kMov, 1099896, { word := 1099896, pc := 0, g := (kc 1099896 0 0).gr 4, tok := 0, addr := 0, data := none }, wk
     ({ kc 1099896 0 0 with k := [(2, { v := 77, poison := true })] }),
     by refine ⟨by simp [kTable], ?_, ?_, ?_, ?_, ?_, ?_, ?_, ?_⟩ <;> first | decide +kernel | (unfold AtIns; decide +kernel) | exact fun _ => rfl⟩,
   ⟨6, .kmov 6, 0, kMov, 1099896, { word := 1099896, pc := 0, g := (kc 1099896 0 0).gr 4, tok := 0, addr := 0, data := none }, wk
     ({ kc 1099896 0 0 with kq := [{ word := 1099896, pc := 0, g := 0, tok := 0, addr := 0, data := none }] }),
     by refine ⟨by simp [kTable], ?_, ?_, ?_, ?_, ?_, ?_, ?_, ?_⟩ <;> first | decide +kernel | (unfold AtIns; decide +kernel) | exact fun _ => rfl⟩,
   ⟨6, 176736376, { word := 176736376, pc := 0, g := (kc 176736376 0 6).gr 2, tok := 0, addr := 0, data := none }, (draw 1 (wk (kc
     176736376 0 6))).1, wk (kc 176736376 0 6), (draw 1 (wk (kc 176736376 0 6))).2,
     by refine ⟨?_, ?_, ?_, ?_, ?_, ?_, ?_, ?_⟩ <;> first | decide +kernel | (unfold AtIns; decide +kernel) | exact fun _ => rfl | rfl⟩,
   ⟨6, 4196572, 9223372036854775872, wk ({ kc 4196572 0x8000000000000000 0 with scratch := [(64, 1), (127, 2)] }),
     by refine ⟨?_, ?_, ?_, ?_, ?_, ?_, ?_, ?_, ?_⟩ <;> first | decide +kernel | (unfold AtIns; decide +kernel) | exact fun _ => rfl⟩,
   ⟨6, 4196573, 9223372036854775872, wk ({ kc 4196573 0x8000000000000000 0 with k := [(3, { v := 0xABCDEF })] }),
     by refine ⟨?_, ?_, ?_, ?_, ?_, ?_, ?_, ?_, ?_⟩ <;> first | decide +kernel | (unfold AtIns; decide +kernel) | exact fun _ => rfl⟩,
   ⟨6, { word := 1099896, pc := 0, g := 0, tok := 0, addr := 0, data := none },
     [{ word := 1099896, pc := 0, g := 0, tok := 0, addr := 0, data := none }], wk
     { kc 0 0 0 with kq := [{ word := 1099896, pc := 0, g := 0, tok := 0, addr := 0, data := none }, { word := 1099896, pc := 0, g := 0, tok := 0, addr := 0, data := none }] },
     by decide +kernel⟩,
   ⟨6, { word := 4196572, pc := 0, g := 0, tok := 0, addr := 0, data := none },
     [{ word := 1099896, pc := 0, g := 0, tok := 0, addr := 0, data := none }], wk
     { kc 0 0 0 with kq := [{ word := 4196572, pc := 0, g := 0, tok := 0, addr := 0, data := none }, { word := 1099896, pc := 0, g := 0, tok := 0, addr := 0, data := none }] },
     by decide +kernel⟩,
   ⟨6, wk (kc 0 0 0), by decide +kernel⟩,
   ⟨{ word := 1132664, pc := 0, g := 0x1122334455667788, tok := 0, addr := 0, data := none }, 9, 7, by decide +kernel⟩,
   ⟨{ word := 1132664, pc := 0, g := 0x1122334455667788, tok := 0, addr := 0, data := none },
     { k := [(1, { v := 5 }), (2, { v := 0x3F800000 }), (5, { v := 0x40400000 })], a := [(1, { v := 3 }), (2, { v := 0x1234567, nonfinite := true })], seed := 99, rctr := 0xFFFFFFFF, busy := [(4, 0)] },
     by decide +kernel⟩,
   ⟨{ word := 1132664, pc := 0, g := 0x1122334455667788, tok := 0, addr := 0, data := none },
     { k := [(1, { v := 5 }), (2, { v := 0x3F800000 }), (5, { v := 0x40400000 })], a := [(1, { v := 3 }), (2, { v := 0x1234567, nonfinite := true })], seed := 99, rctr := 0xFFFFFFFF, busy := [(4, 0)] },
     by decide +kernel⟩,
   ⟨{ word := 1132664, pc := 0, g := 0x1122334455667788, tok := 0, addr := 0, data := none },
     { k := [(1, { v := 5 }), (2, { v := 0x3F800000 }), (5, { v := 0x40400000 })], a := [(1, { v := 3 }), (2, { v := 0x1234567, nonfinite := true })], seed := 99, rctr := 0xFFFFFFFF, busy := [(4, 0)] },
     by decide +kernel⟩,
   ⟨{ word := 1132664, pc := 0, g := 0x1122334455667788, tok := 0, addr := 0, data := none },
     { k := [(1, { v := 5 }), (2, { v := 0x3F800000 }), (5, { v := 0x40400000 })], a := [(1, { v := 3 }), (2, { v := 0x1234567, nonfinite := true })], seed := 99, rctr := 0xFFFFFFFF, busy := [(4, 0)] },
     by decide +kernel⟩⟩

/-- The hypotheses of InstancesOnCores are met, clause by clause. -/
theorem test_wit_InstancesOnCores :
    (∃ (c : CoreId) (t : Nat) (d : Sector) (p : Bool) (o : KOut) (s : State), coreRuns s ↑c = true ∧ (coreAnswer s ↑c fun (t : Nat)
      => !(coreAt s ↑c).writes.any fun (w : KWr) => w.tag == t) = some (Answer.atomic t d p) ∧ List.find? (fun (o : KOut) => o.tag
      == t) (coreAt s ↑c).outs = some o) ∧
    (∃ (c : CoreId) (t : Nat) (d : Sector) (p : Bool) (s : State), coreRuns s ↑c = true ∧ (coreAnswer s ↑c fun (t : Nat) => !(coreAt
      s ↑c).writes.any fun (w : KWr) => w.tag == t) = some (Answer.atomic t d p) ∧ List.find? (fun (o : KOut) => o.tag == t) (coreAt
      s ↑c).outs = none) ∧
    (∃ (o : KOut) (rd : Nat) (n : Nat) (off : Nat) (sg : Bool) (k : Core), o.req = KReq.load rd n sg off ∧ rd ≠ 0 ∧ mapFind k.busy
      rd = some o.tok) ∧
    (∃ (o : KOut) (rd : Nat) (n : Nat) (off : Nat) (sg : Bool) (k : Core), o.req = KReq.load rd n sg off ∧ rd ≠ 0 ∧ k.late = none) ∧
    (∃ (c : CoreId) (t : Nat) (p : Bool) (w : KWr) (s : State), coreRuns s ↑c = true ∧ (coreAnswer s ↑c fun (t : Nat) => (coreAt s
      ↑c).writes.any fun (w : KWr) => w.tag == t) = some (Answer.ack t p) ∧ List.find? (fun (w : KWr) => w.tag == t) (coreAt s
      ↑c).writes = some w ∧ (coreAt s ↑c).ended = false) ∧
    (∃ (c : CoreId) (j : KPend) (rest : List KPend) (b : Batch) (i : Inst) (l : Launch) (s : State), coreRuns s ↑c = true ∧ pendAt s
      ↑c = j :: rest ∧ waitAt s ↑c = [] ∧ (∀ (k : KPend), k ∈ j :: rest → k.device = false) ∧ (coreAt s ↑c).job = none ∧ jobInst s j
      = some (b, i) ∧ i.launch = some l ∧ l.copied = true ∧ (mapFind l.image 0).isSome = true) ∧
    (∃ (q : QueueId) (asn : BitVec 64) (dseq : BitVec 32) (k : Fin 1024) (b : Batch) (i : Inst) (l : Launch) (y : Extent) (d :
      Sector) (s : State), frameRuns s = true ∧ instOf s (↑q) asn.toNat dseq.toNat = some (b, i) ∧ i.launch = some l ∧ i.sector 0 ↑k
      = some y ∧ i.op = 33 ∧ ↑k < cCodesec (b.cmdOf i) ∧ mapFind l.image ↑k = none ∧ y.host = true ∧ mapFind i.xfer.buf ↑k = some
      (d, false)) ∧
    (∃ (c : CoreId) (s : State), coreRuns s ↑c = true ∧ (coreAt s ↑c).job.isSome = true ∧ (coreAt s ↑c).abort = true ∧ (coreAt s
      ↑c).ended = false ∧ abortFlit s ↑c = none) ∧
    (∃ (c : CoreId) (j : KPend) (f : Flit) (u : State) (s : State), coreRuns s ↑c = true ∧ (coreAt s ↑c).job = some j ∧ (coreAt s
      ↑c).ended = false ∧ abortFlit s ↑c = some f ∧ u = setInbox (↑c / 2) (↑c % 2) ((inboxOf s (↑c / 2) (↑c % 2)).erase f) s ∧
      secField f.pay 0 4 = j.launch) ∧
    (∃ (c : CoreId) (j : KPend) (f : Flit) (u : State) (s : State), coreRuns s ↑c = true ∧ (coreAt s ↑c).job = some j ∧ (coreAt s
      ↑c).ended = false ∧ abortFlit s ↑c = some f ∧ u = setInbox (↑c / 2) (↑c % 2) ((inboxOf s (↑c / 2) (↑c % 2)).erase f) s ∧
      secField f.pay 0 4 ≠ j.launch ∧ (coreAt s ↑c).abort = false) ∧
    (∃ (c : CoreId) (s : State), (coreAt s ↑c).writes = []) ∧
    (∃ (c : CoreId) (s : State), (coreAt s ↑c).writes ≠ []) ∧
    (∃ (e : Fin 8) (x : KExc) (s : State), frameRuns s = true ∧ List.find? (fun (x : KExc) => x.job.launch % 8 == ↑e) s.bead.excs =
      some x ∧ x.cause < 16 ∧ jobInst s x.job = none) ∧
    (∃ (e : Fin 8) (x : KExc) (b : Batch) (i : Inst) (l : Launch) (u : State) (s : State), frameRuns s = true ∧ List.find? (fun (x :
      KExc) => x.job.launch % 8 == ↑e) s.bead.excs = some x ∧ jobInst s x.job = some (b, i) ∧ i.launch = some l ∧ u = recordFault x
      { s with bead := { s.bead with excs := s.bead.excs.erase x } } ∧ x.cause ≠ 10 ∧ l.again = false) ∧
    (∃ (e : Fin 8) (x : KExc) (b : Batch) (i : Inst) (l : Launch) (u : State) (s : State), frameRuns s = true ∧ List.find? (fun (x :
      KExc) => x.job.launch % 8 == ↑e) s.bead.excs = some x ∧ jobInst s x.job = some (b, i) ∧ i.launch = some l ∧ u = recordFault x
      { s with bead := { s.bead with excs := s.bead.excs.erase x } } ∧ x.cause = 10 ∧ flag s F.BEAD_CTL.HWRETRY = true ∧ l.retried =
      false ∧ l.st = 0) ∧
    (∃ (t : TileId) (f : KFence) (s : State), frameRuns s = true ∧ coveAwake s (coveOf ↑t) = true ∧ List.find? (fun (f : KFence) =>
      f.tile == ↑t && f.owed.isEmpty) s.bead.fences = some f) ∧
    (∃ (t : TileId) (s : State), frameRuns s = true ∧ coveAwake s (coveOf ↑t) = true ∧ List.find? (fun (f : KFence) => f.tile == ↑t
      && f.owed.isEmpty) s.bead.fences = none) :=
  ⟨⟨6, 4,
     6703903964971298549787012499102923063739682910296196688861780721860882015036773488400937149083451713845015929093243025426876941405973284973216824503042048,
     false, { tag := 4, tok := 7, req := .load 3 4 true 60, pc := 0, addr := 0x11000003C },
     { wk { kc 0 0 0 with outs := [{ tag := 4, tok := 7, req := .load 3 4 true 60, pc := 0, addr := 0x11000003C }], busy := [(3, 7)] } with msh := { w0.msh with arrived := [(24, [.atomic 4 6703903964971298549787012499102923063739682910296196688861780721860882015036773488400937149083451713845015929093243025426876941405973284973216824503042048 false])] } },
     by decide +kernel⟩,
   ⟨6, 4, 5, false, { wk (kc 0 0 0) with msh := { w0.msh with arrived := [(24, [.atomic 4 5 false])] } }, by decide +kernel⟩,
   ⟨{ tag := 4, tok := 7, req := .load 3 4 true 60, pc := 0, addr := 0x11000003C }, 3, 4, 60, true, { busy := [(3, 7)] },
     by decide +kernel⟩,
   ⟨{ tag := 4, tok := 7, req := .load 3 4 true 60, pc := 0, addr := 0x11000003C }, 3, 4, 60, true, { busy := [(3, 7)] },
     by decide +kernel⟩,
   ⟨6, 4, false, { tag := 4, sec := 9, pc := 0, addr := 0, kst := false },
     { wk { kc 0 0 0 with writes := [{ tag := 4, sec := 9, pc := 0, addr := 0, kst := false }] } with msh := { w0.msh with arrived := [(24, [.ack 4 false])] } },
     by decide +kernel⟩,
   ⟨6, jb, [], bi 79228162514264337593543950369
     { inst 33 with launch := some { id := 9, cores := [6], image := [(0, 5)], copied := true } },
     { inst 33 with launch := some { id := 9, cores := [6], image := [(0, 5)], copied := true } },
     { id := 9, cores := [6], image := [(0, 5)], copied := true },
     { wi 1 79228162514264337593543950369 { inst 33 with launch := some { id := 9, cores := [6], image := [(0, 5)], copied := true } } with bead := { w0.bead with pend := [(6, [jb])] } },
     by decide +kernel⟩,
   ⟨1, 1, 1, 0, bi 79228162514264337593543950369
     { inst 33 with launch := some { id := 9, cores := [6] }, opnds := [{ num := 0, va := 0, bytes := 64, acc := 8, gen := 3, exts := [{ host := true, addr := 0, sectors := 1, keysel := 0 }] }], xfer := { buf := [(0, (5, false))] } },
     { inst 33 with launch := some { id := 9, cores := [6] }, opnds := [{ num := 0, va := 0, bytes := 64, acc := 8, gen := 3, exts := [{ host := true, addr := 0, sectors := 1, keysel := 0 }] }], xfer := { buf := [(0, (5, false))] } },
     { id := 9, cores := [6] }, { host := true, addr := 0, sectors := 1, keysel := 0 }, 5,
     { wi 1 79228162514264337593543950369 { inst 33 with launch := some { id := 9, cores := [6] }, opnds := [{ num := 0, va := 0, bytes := 64, acc := 8, gen := 3, exts := [{ host := true, addr := 0, sectors := 1, keysel := 0 }] }], xfer := { buf := [(0, (5, false))] } } with bead := { w0.bead with cores := [(6, { kc 0 0 0 with code := [] })] } },
     by decide +kernel⟩,
   ⟨6, wk { kc 0 0 0 with abort := true }, by decide +kernel⟩,
   ⟨6, jb, { fl { vc := 0, op := 8, dst := 3, dstAgent := 0, tag := 0 } with pay := 9 }, _,
     { wk (kc 0 0 0) with msh := { w0.msh with inbox := [(24, [{ fl { vc := 0, op := 8, dst := 3, dstAgent := 0, tag := 0 } with pay := 9 }])] } },
     by decide +kernel, by decide +kernel, by decide +kernel, by decide +kernel, rfl, by decide +kernel⟩,
   ⟨6, jb, { fl { vc := 0, op := 8, dst := 3, dstAgent := 0, tag := 0 } with pay := 10 }, _,
     { wk (kc 0 0 0) with msh := { w0.msh with inbox := [(24, [{ fl { vc := 0, op := 8, dst := 3, dstAgent := 0, tag := 0 } with pay := 10 }])] } },
     by decide +kernel, by decide +kernel, by decide +kernel, by decide +kernel, rfl, by decide +kernel⟩,
   ⟨6, wk (kc 0 0 0), by decide +kernel⟩,
   ⟨6, wk { kc 0 0 0 with writes := [{ tag := 4, sec := 9, pc := 0, addr := 0, kst := false }] }, by decide +kernel⟩,
   ⟨1, { job := jb, core := 6, cause := 15, late := false, pc := 4, addr := 8, sub := 0 },
     { w0 with bead := { w0.bead with excs := [{ job := jb, core := 6, cause := 15, late := false, pc := 4, addr := 8, sub := 0 }] } },
     by decide +kernel⟩,
   ⟨1, { job := jb, core := 6, cause := 15, late := false, pc := 4, addr := 8, sub := 0 }, bi 79228162514264337593543950369
     { inst 33 with launch := some { id := 9, cores := [6] } }, { inst 33 with launch := some { id := 9, cores := [6] } },
     { id := 9, cores := [6] }, _,
     { wi 1 79228162514264337593543950369 { inst 33 with launch := some { id := 9, cores := [6] } } with bead := { w0.bead with excs := [{ job := jb, core := 6, cause := 15, late := false, pc := 4, addr := 8, sub := 0 }] } },
     by decide +kernel, by decide +kernel, by decide +kernel, by decide +kernel, rfl, by decide +kernel⟩,
   ⟨1, { job := jb, core := 6, cause := 10, late := false, pc := 4, addr := 8, sub := 0 }, bi 79228162514264337593543950369
     { inst 33 with launch := some { id := 9, cores := [6] } }, { inst 33 with launch := some { id := 9, cores := [6] } },
     { id := 9, cores := [6] }, _, setF F.BEAD_CTL.HWRETRY 0 1
     ({ wi 1 79228162514264337593543950369 { inst 33 with launch := some { id := 9, cores := [6] } } with bead := { w0.bead with excs := [{ job := jb, core := 6, cause := 10, late := false, pc := 4, addr := 8, sub := 0 }] } }),
     by decide +kernel, by decide +kernel, by decide +kernel, by decide +kernel, rfl, by decide +kernel⟩,
   ⟨3, { tile := 3, id := 7, owed := [] }, { w0 with bead := { w0.bead with fences := [{ tile := 3, id := 7, owed := [] }] } },
     by decide +kernel⟩,
   ⟨3, w0, by decide +kernel⟩⟩

/-- The hypotheses of ReckonVerdictsAndParameters are met, clause by clause. -/
theorem test_wit_ReckonVerdictsAndParameters :
    (∃ (st : Nat) (poison : Bool), (poison = true ∨ st = Status.TQ_POISON)) ∧
    (∃ (err : Nat) (st : Nat) (poison : Bool), poison = false ∧ st ≠ Status.TQ_POISON ∧ err ≠ 0) ∧
    (∃ (err : Nat) (st : Nat) (poison : Bool), poison = false ∧ st ≠ Status.TQ_POISON ∧ err = 0 ∧ st ≠ 0) ∧
    (∃ (c : Cmd) (d : RkData) (r : DispRec), (reckonFails c d r.seed r.params).fst = none) ∧
    (∃ (c : Cmd) (d : RkData) (r : DispRec), (reckonFails c d r.seed r.params).fst = some []) ∧
    (∃ (c : Cmd) (d : RkData) (r : DispRec) (f : Nat) (l : List Nat), (reckonFails c d r.seed r.params).fst = some (f :: l)) ∧
    (∃ (asid : BitVec 16) (s : State), barOpen s = true ∧ (ctxAt s asid.toNat).bound = true ∧ ctxaOk (getReg s Reg.TLY_CTXA 0) =
      true) ∧
    (∃ (asid : BitVec 16) (s : State), barOpen s = true ∧ (ctxAt s asid.toNat).bound = true ∧ ctxaOk (getReg s Reg.TLY_CTXA 0) =
      false) ∧
    (∃ (asid : BitVec 16) (s : State), barOpen s = true ∧ (ctxAt s asid.toNat).bound = false) :=
  ⟨⟨Status.TQ_POISON, false, by decide +kernel⟩,
   ⟨5, 0, false, by decide +kernel⟩,
   ⟨0, 5, false, by decide +kernel⟩,
   ⟨5843319957424815429421181243789612172697403424, { a := [0xFFFF] },
     { dseq := 1, seed := 5, params := 0x61902, psn := 0, count := 0, die := 0, epoch := 0, lsn := 0 }, by decide +kernel⟩,
   ⟨5775893006419431472885913565327007297302429728, {},
     { dseq := 1, seed := 5, params := 0x61902, psn := 0, count := 0, die := 0, epoch := 0, lsn := 0 }, by decide +kernel⟩,
   ⟨5775893006419431472885913565327007301597397024, { c := [1] },
     { dseq := 1, seed := 5, params := 0x61902, psn := 0, count := 0, die := 0, epoch := 0, lsn := 0 }, 0, [], by decide +kernel⟩,
   ⟨5, setReg .TLY_CTXA 0 (BitVec.ofNat 32 (1 + 2 ^ 3 + 11 * 2 ^ 10)) (wx [] [] []), by decide +kernel⟩,
   ⟨5, setReg .TLY_CTXA 0 0 (wx [] [] []), by decide +kernel⟩,
   ⟨6, wx [] [] [], by decide +kernel⟩⟩

/-- The hypotheses of JournalMirrorAndTakeover are met, clause by clause. -/
theorem test_wit_JournalMirrorAndTakeover :
    (∃ (s : State), frameRuns s = true ∧ s.hbl.local_ < jHead s ∧ s.tq.queues = []) ∧
    (∃ (s : State), frameRuns s = true ∧ s.hbl.oldest < jHead s ∧ mapFind s.hbl.own (s.hbl.oldest % areaSize) = none) ∧
    (∃ (s : State) (e : BitVec 512), frameRuns s = true ∧ s.hbl.oldest < jHead s ∧ mapFind s.hbl.own (s.hbl.oldest % areaSize) =
      some e ∧ jLsn e = s.hbl.oldest ∧ entryLive s e = true) ∧
    (∃ (s : State), frameRuns s = true ∧ getF s F.HBL_PARTNER.STATE = 2 ∧ s.hbl.acked < s.hbl.goal ∧ mirrored s = true ∧ role s ≠ 3)
      ∧
    (∃ (s : State), getF s F.HBL_PARTNER.STATE = 1 ∧ s.hbl.goal ≤ s.hbl.acked) ∧
    (∃ (d : Die) (x : Takeover) (s : State), frameRuns s = true ∧ List.find? (fun (t : Takeover) => t.die == ↑d && !t.begun)
      s.hbl.tk = some x ∧ flag s F.HBL_CTL.TK_EN = false) ∧
    (∃ (s : State), barOpen s = true ∧ s.hbl.tk = []) :=
  ⟨⟨setReg .HBL_HEAD_LO 0 1 w0, by decide +kernel⟩,
   ⟨setReg .HBL_HEAD_LO 0 1 w0, by decide +kernel⟩,
   ⟨setReg .HBL_HEAD_LO 0 1
     { wx [] [(1, { qrun 0 with batches := [{ bacc [0] with entries := 1 }], asn := 2 })] [] with hbl := { w0.hbl with own := [(0, (jEntry w0 0 1 1 0 0 [(12, 8, 1)]))] } },
     (jEntry w0 0 1 1 0 0 [(12, 8, 1)]), by decide +kernel⟩,
   ⟨setF F.HBL_PARTNER.STATE 0 2 (setF F.GLB_STATUS.MIRRORED 0 1 { w0 with hbl := { w0.hbl with goal := 5 } }), by decide +kernel⟩,
   ⟨setF F.HBL_PARTNER.STATE 0 1 w0, by decide +kernel⟩,
   ⟨4, { die := 4, slot := 1 }, { w0 with hbl := { w0.hbl with tk := [{ die := 4, slot := 1 }] } }, by decide +kernel⟩,
   ⟨w0, by decide +kernel⟩⟩

/-- The hypotheses of StewardAndLeaseTimers are met, clause by clause. -/
theorem test_wit_StewardAndLeaseTimers :
    (∃ (s : State), headRuns s = true ∧ role s = 0 ∧ flag s F.HLD_ROLE.SVALID = false) ∧
    (∃ (s : State), headRuns s = true ∧ role s = 1 ∧ s.hld.claimWait = false) ∧
    (∃ (s : State), headRuns s = true ∧ role s = 1 ∧ s.hld.claimWait = true ∧ eligible s = true) ∧
    (∃ (s : State), headRuns s = true ∧ role s = 2) ∧
    (∃ (s : State), headRuns s = true ∧ role s = 3 ∧ present s (ownDie s) = true ∧ s.hld.stew.notice.getLsbD (ownDie s) = false) ∧
    (∃ (d : Die) (s : State), acts s = true ∧ s.hld.stew.notice.getLsbD ↑d = false) ∧
    (∃ (d : Die) (s : State), acts s = true ∧ s.hld.stew.notice.getLsbD ↑d = true) ∧
    (∃ (d : Die) (s : State), acts s = true ∧ present s ↑d = false) ∧
    (∃ (s : State), headRuns s = true ∧ role s = 3 ∧ s.hld.stew.ready = false) ∧
    (∃ (epoch : Nat) (s : State), epoch < max s.hbl.decEpoch (getF s F.HLD_EPOCH.EPOCH)) ∧
    (∃ (epoch : Nat) (s : State), max s.hbl.decEpoch (getF s F.HLD_EPOCH.EPOCH) ≤ epoch) ∧
    (∃ (epoch : Nat) (d : Nat) (s : State) (act : Nat), max s.hbl.decEpoch (getF s F.HLD_EPOCH.EPOCH) ≤ epoch ∧ mayMirror s d =
      false ∧ (act = 1 ∨ act = 2)) ∧
    (∃ (n : Nat) (m : TwyMsg) (s : State), ((getReg s Reg.HLD_QUAR 0).getLsbD (getF s F.TWY_PEER.DIE n) = true ∨ flag s
      F.GLB_STATUS.LEFT = true ∨ role s = 4) ∧ quarMsg m = false) ∧
    (∃ (d : Nat) (s : State), ((getReg s Reg.HLD_QUAR 0).getLsbD d = true ∨ flag s F.HLD_ROLE.QUAR = true ∨ role s = 4)) ∧
    (∃ (d : Nat) (s : State) (u : State), mirrored s = true ∧ ¬(flag s F.HBL_PARTNER.VALID = true ∧ getF s F.HBL_PARTNER.DIE = d ∧
      getF s F.HBL_PARTNER.STATE ≠ 0) ∧ u = setF F.HBL_PARTNER.DIE 0 d (setF F.HBL_PARTNER.VALID 0 1 (setF F.HBL_PARTNER.STATE 0 1
      (mirrorLost s))) ∧ liveInOrder { u with hbl := { u.hbl with acked := 0, goal := 0 } } = []) :=
  ⟨⟨wr 0, by decide +kernel⟩,
   ⟨setF F.HLD_ROLE.SVALID 0 1 (wr 1), by decide +kernel⟩,
   ⟨setReg .HLD_MEMBERS 0 1 { wr 1 with hld := { w0.hld with claimWait := true } }, by decide +kernel⟩,
   ⟨wr 2, by decide +kernel⟩,
   ⟨wst, by decide +kernel⟩,
   ⟨4, wst, by decide +kernel⟩,
   ⟨4, { wst with hld := { wst.hld with stew := { wst.hld.stew with notice := 0x10 } } }, by decide +kernel⟩,
   ⟨31, wst, by decide +kernel⟩,
   ⟨wr 3, by decide +kernel⟩,
   ⟨4, setF F.HLD_EPOCH.EPOCH 0 5 w0, by decide +kernel⟩,
   ⟨5, setF F.HLD_EPOCH.EPOCH 0 5 w0, by decide +kernel⟩,
   ⟨5, 4, setReg .HLD_QUAR 0 0x10 w0, 2, by decide +kernel⟩,
   ⟨3, msg 2 1 0, setF F.TWY_PEER.DIE 3 4 (setReg .HLD_QUAR 0 0x10 w0), by decide +kernel⟩,
   ⟨4, setReg .HLD_QUAR 0 0x10 w0, by decide +kernel⟩,
   ⟨4, setF F.GLB_STATUS.MIRRORED 0 1 w0, _, by decide +kernel, by decide +kernel, rfl, by decide +kernel⟩⟩

/-- The hypotheses of MessagesAreServed are met, clause by clause. -/
theorem test_wit_MessagesAreServed :
    (∃ (n : LinkId) (i : Instr) (g : State → Bool) (vc : Nat) (p : State → TwyMsg → Bool) (w : State → TwyMsg → Nat × Bool) (f :
      TwyMsg → State → State) (m : TwyMsg) (s : State), Served n i g vc p w f ∧ g s = true ∧ Waiting s (↑n) vc p m ∧ w s m = (0,
      false)) ∧
    (∃ (n : LinkId) (i : Instr) (g : State → Bool) (vc : Nat) (p : State → TwyMsg → Bool) (w : State → TwyMsg → Nat × Bool) (f :
      TwyMsg → State → State) (m : TwyMsg) (s : State), Served n i g vc p w f ∧ g s = true ∧ Waiting s (↑n) vc p m ∧ w s m ≠ (0,
      false)) ∧
    (∃ (n : LinkId) (i : Instr) (g : State → Bool) (vc : Nat) (p : State → TwyMsg → Bool) (w : State → TwyMsg → Nat × Bool) (f :
      TwyMsg → State → State) (s : State), Served n i g vc p w f ∧ g s = true ∧ (rxPick s (↑n) vc fun (m : TwyMsg) => m.dst ==
      ownDie s && p s m) = none) ∧
    (∃ (n : LinkId) (m : TwyMsg) (s : State), headRuns s = true ∧ Waiting s (↑n) 1 (fun (_ : State) (m : TwyMsg) => m.op == 18 &&
      memberKind m == mkRoster) m ∧ m.src = getF s F.HLD_ROLE.STEWARD ∧ flag s F.HLD_ROLE.SVALID = true) ∧
    (∃ (n : LinkId) (m : TwyMsg) (s : State), headRuns s = true ∧ Waiting s (↑n) 1 (fun (_ : State) (m : TwyMsg) => m.op == 18 &&
      memberKind m == mkRoster) m ∧ flag s F.HLD_ROLE.SVALID = false) ∧
    (∃ (n : LinkId) (m : TwyMsg) (v : BitVec 2048) (s : State), headRuns s = true ∧ Waiting s (↑n) 1 (fun (_ : State) (m : TwyMsg)
      => m.op == 18 && memberKind m == mkEnrol) m ∧ v = enrolBits (List.map (fun (d : Sector × BitVec 32) => d.fst) m.data) ∧ role s
      = 3) ∧
    (∃ (n : LinkId) (m : TwyMsg) (v : BitVec 2048) (s : State), headRuns s = true ∧ Waiting s (↑n) 1 (fun (_ : State) (m : TwyMsg)
      => m.op == 18 && memberKind m == mkEnrol) m ∧ v = enrolBits (List.map (fun (d : Sector × BitVec 32) => d.fst) m.data) ∧ role s
      ≠ 3) ∧
    (∃ (n : LinkId) (m : TwyMsg) (s : State), headRuns s = true ∧ Waiting s (↑n) 1 (fun (_ : State) (m : TwyMsg) => m.op == 18 &&
      memberKind m == mkActivate) m ∧ role s = 3) ∧
    (∃ (n : LinkId) (m : TwyMsg) (s : State), frameRuns s = true ∧ List.findSome? (fun (vc : Nat) => rxPick s (↑n) vc fun (m :
      TwyMsg) => m.dst != ownDie s) [0, 1, 2, 3] = some m ∧ m.hop = 0) ∧
    (∃ (n : LinkId) (m : TwyMsg) (s : State), frameRuns s = true ∧ List.findSome? (fun (vc : Nat) => rxPick s (↑n) vc fun (m :
      TwyMsg) => m.dst != ownDie s) [0, 1, 2, 3] = some m ∧ m.hop ≠ 0) ∧
    (∃ (n : Nat) (m : TwyMsg) (k : Nat), k ≠ rxKey n m.hop m.vc) :=
  ⟨⟨3, .twyJack 3, frameRuns, 1, fun _ m => m.op == 0x11, noWait, fun m => partnerAcked m.src m.seq, msg 0x11 1 0, wm (msg 0x11 1 0)
     w0, .jack, by decide +kernel, by unfold Waiting; decide +kernel, by decide +kernel⟩,
   ⟨3, .twyWrite 3, frameRuns, 2, fun _ m => m.op == 1, fun s m => inboundWait s 3 m m.data.length 2, twyWrite 3,
     { msg 1 2 0 with addr := 0x400000000000, data := [(0, 0)] }, wm { msg 1 2 0 with addr := 0x400000000000, data := [(0, 0)] }
     (setF F.MSH_COVEAWAKE.AWAKE 0 0 wput), .write, by decide +kernel, by unfold Waiting; decide +kernel, by decide +kernel⟩,
   ⟨3, .twyJack 3, frameRuns, 1, fun _ m => m.op == 0x11, noWait, fun m => partnerAcked m.src m.seq, w0, .jack, by decide +kernel,
     by decide +kernel⟩,
   ⟨3, msg 0x12 1 8, wm (msg 0x12 1 8) (setF F.HLD_ROLE.STEWARD 0 4 (setF F.HLD_ROLE.SVALID 0 1 w0)),
     by unfold Waiting; decide +kernel⟩,
   ⟨3, msg 0x12 1 8, wm (msg 0x12 1 8) w0, by unfold Waiting; decide +kernel⟩,
   ⟨3, msg 0x12 1 9, enrolBits [], wm (msg 0x12 1 9) wst, by unfold Waiting; decide +kernel⟩,
   ⟨3, msg 0x12 1 9, enrolBits [], wm (msg 0x12 1 9) w0, by unfold Waiting; decide +kernel⟩,
   ⟨3, msg 0x12 1 10, wm (msg 0x12 1 10) wst, by unfold Waiting; decide +kernel⟩,
   ⟨3, { msg 1 2 0 with dst := 9 }, wm { msg 1 2 0 with dst := 9 } w0, by decide +kernel⟩,
   ⟨3, { msg 1 2 0 with dst := 9, hop := 1 }, wm { msg 1 2 0 with dst := 9, hop := 1 } w0, by decide +kernel⟩,
   ⟨3, msg 0x11 1 0, 0, by decide +kernel⟩⟩

/-- The hypotheses of PutsAreAppliedOnce are met, clause by clause. -/
theorem test_wit_PutsAreAppliedOnce :
    (∃ (m : TwyMsg) (r : PutRx) (s0 : State) (s : State), r = PutRx.reach m.seq (mapGet s.hbl.rxPairs m.src { }) ∧ s0 =
      { s with hbl := { s.hbl with rxPairs := mapIns s.hbl.rxPairs m.src r } } ∧ m.epoch ≠ r.epoch) ∧
    (∃ (m : TwyMsg) (r : PutRx) (s0 : State) (s : State), r = PutRx.reach m.seq (mapGet s.hbl.rxPairs m.src { }) ∧ s0 =
      { s with hbl := { s.hbl with rxPairs := mapIns s.hbl.rxPairs m.src r } } ∧ m.epoch = r.epoch ∧ m.seq ∈ r.refused ∧ putKind m =
      putFinal) ∧
    (∃ (m : TwyMsg) (r : PutRx) (s0 : State) (s : State), r = PutRx.reach m.seq (mapGet s.hbl.rxPairs m.src { }) ∧ s0 =
      { s with hbl := { s.hbl with rxPairs := mapIns s.hbl.rxPairs m.src r } } ∧ m.epoch = r.epoch ∧ (¬m.seq ∈ r.refused ∨ putKind m
      ≠ putFinal) ∧ r.done m.seq = true) ∧
    (∃ (n : Nat) (m : TwyMsg) (r : PutRx) (s0 : State) (s : State) (s1 : State), r = PutRx.reach m.seq (mapGet s.hbl.rxPairs m.src
      { }) ∧ s0 = { s with hbl := { s.hbl with rxPairs := mapIns s.hbl.rxPairs m.src r } } ∧ m.epoch = r.epoch ∧ (¬m.seq ∈ r.refused
      ∨ putKind m ≠ putFinal) ∧ r.done m.seq = false ∧ inboundPlace m.src m.addr (64 * m.data.length) 2 (linkHalf n) s0 = (none,
      s1)) ∧
    (∃ (n : Nat) (m : TwyMsg) (r : PutRx) (s0 : State) (s : State) (s1 : State) (p : Inbound) (s2 : State), r = PutRx.reach m.seq
      (mapGet s.hbl.rxPairs m.src { }) ∧ s0 = { s with hbl := { s.hbl with rxPairs := mapIns s.hbl.rxPairs m.src r } } ∧ m.epoch =
      r.epoch ∧ (¬m.seq ∈ r.refused ∨ putKind m ≠ putFinal) ∧ r.done m.seq = false ∧ inboundPlace m.src m.addr (64 * m.data.length)
      2 (linkHalf n) s0 = (some p, s1) ∧ writeSectors p m s1 = (0, s2) ∧ putKind m = putData) ∧
    (∃ (n : Nat) (m : TwyMsg) (r : PutRx) (s0 : State) (s : State) (s1 : State) (p : Inbound) (s2 : State), r = PutRx.reach m.seq
      (mapGet s.hbl.rxPairs m.src { }) ∧ s0 = { s with hbl := { s.hbl with rxPairs := mapIns s.hbl.rxPairs m.src r } } ∧ m.epoch =
      r.epoch ∧ (¬m.seq ∈ r.refused ∨ putKind m ≠ putFinal) ∧ r.done m.seq = false ∧ inboundPlace m.src m.addr (64 * m.data.length)
      2 (linkHalf n) s0 = (some p, s1) ∧ writeSectors p m s1 = (0, s2) ∧ putKind m = putFinal ∧ rcntRefused s2 m = false) ∧
    (∃ (n : Nat) (m : TwyMsg) (r : PutRx) (s0 : State) (s : State) (s1 : State) (p : Inbound) (s2 : State), r = PutRx.reach m.seq
      (mapGet s.hbl.rxPairs m.src { }) ∧ s0 = { s with hbl := { s.hbl with rxPairs := mapIns s.hbl.rxPairs m.src r } } ∧ m.epoch =
      r.epoch ∧ (¬m.seq ∈ r.refused ∨ putKind m ≠ putFinal) ∧ r.done m.seq = false ∧ inboundPlace m.src m.addr (64 * m.data.length)
      2 (linkHalf n) s0 = (some p, s1) ∧ writeSectors p m s1 = (0, s2) ∧ putKind m = putFinal ∧ rcntRefused s2 m = true) ∧
    (∃ (n : Nat) (m : TwyMsg) (r : PutRx) (s0 : State) (s : State) (s1 : State) (p : Inbound) (s2 : State), r = PutRx.reach m.seq
      (mapGet s.hbl.rxPairs m.src { }) ∧ s0 = { s with hbl := { s.hbl with rxPairs := mapIns s.hbl.rxPairs m.src r } } ∧ m.epoch =
      r.epoch ∧ (¬m.seq ∈ r.refused ∨ putKind m ≠ putFinal) ∧ r.done m.seq = false ∧ inboundPlace m.src m.addr (64 * m.data.length)
      2 (linkHalf n) s0 = (some p, s1) ∧ writeSectors p m s1 = (0, s2) ∧ putKind m = putRelease ∧ rcntRefused s2 m = false) ∧
    (∃ (n : Nat) (m : TwyMsg) (r : PutRx) (s0 : State) (s : State) (s1 : State) (p : Inbound) (s2 : State), r = PutRx.reach m.seq
      (mapGet s.hbl.rxPairs m.src { }) ∧ s0 = { s with hbl := { s.hbl with rxPairs := mapIns s.hbl.rxPairs m.src r } } ∧ m.epoch =
      r.epoch ∧ (¬m.seq ∈ r.refused ∨ putKind m ≠ putFinal) ∧ r.done m.seq = false ∧ inboundPlace m.src m.addr (64 * m.data.length)
      2 (linkHalf n) s0 = (some p, s1) ∧ writeSectors p m s1 = (0, s2) ∧ putKind m = putRelease ∧ rcntRefused s2 m = true) ∧
    (∃ (m : TwyMsg) (d : Nat), d ≠ m.src) ∧
    (∃ (r : PutRx) (psn : Nat), psn ≤ r.low + 4096) ∧
    (∃ (r : PutRx) (k : Nat), r.done k = true) ∧
    (∃ (r : PutRx) (psn : Nat) (k : Nat), r.done k = false ∧ k ≠ psn) ∧
    (∃ (s : State) (w : Nat) (off : Nat) (d : Nat), w < 64 ∧ off < 2 ^ 40 ∧ ((ctxAt s (65472 + w)).bound = false ∨ bitAt (getReg s
      Reg.XLT_WINSRC w) d = false)) :=
  ⟨⟨{ msg 1 2 0 with epoch := 1 }, _, _, w0, rfl, rfl, by decide +kernel⟩,
   ⟨{ msg 1 2 0 with seq := 4, tag := 16384 }, _, _,
     { w0 with hbl := { w0.hbl with rxPairs := [(4, { low := 4, refused := [4] })] } }, rfl, rfl, by decide +kernel⟩,
   ⟨{ msg 1 2 0 with seq := 4 }, _, _, { w0 with hbl := { w0.hbl with rxPairs := [(4, { low := 4 })] } }, rfl, rfl,
     by decide +kernel⟩,
   ⟨3, { msg 1 2 0 with seq := 4096, addr := 0x400000000000, data := [(0, 0)] }, _, _, w0, _, rfl, rfl, by decide +kernel, Or.inl
     (by decide +kernel), by decide +kernel, pair_of (by decide +kernel)⟩,
   ⟨3, { msg 1 2 0 with seq := 1, addr := 0x400000000000, data := [(0, tallyOf 0)], tag := 0, rsig := false }, _, _, wput, _, _, _,
     rfl, rfl, by decide +kernel, Or.inl (by decide +kernel), by decide +kernel, pair_some (by decide +kernel), pair_of
     (by decide +kernel), by decide +kernel⟩,
   ⟨3, { msg 1 2 0 with seq := 1, addr := 0x400000000000, data := [(0, tallyOf 0)], tag := 16384, rsig := false }, _, _, wput, _, _,
     _, rfl, rfl, by decide +kernel, Or.inl (by decide +kernel), by decide +kernel, pair_some (by decide +kernel), pair_of
     (by decide +kernel), by decide +kernel, by decide +kernel⟩,
   ⟨3, { msg 1 2 0 with seq := 1, addr := 0x400000000000, data := [(0, tallyOf 0)], tag := 16384, rsig := true }, _, _, wput, _, _,
     _, rfl, rfl, by decide +kernel, Or.inl (by decide +kernel), by decide +kernel, pair_some (by decide +kernel), pair_of
     (by decide +kernel), by decide +kernel, by decide +kernel⟩,
   ⟨3, { msg 1 2 0 with seq := 1, addr := 0x400000000000, data := [(0, tallyOf 0)], tag := 32768, rsig := false }, _, _, wput, _, _,
     _, rfl, rfl, by decide +kernel, Or.inl (by decide +kernel), by decide +kernel, pair_some (by decide +kernel), pair_of
     (by decide +kernel), by decide +kernel, by decide +kernel⟩,
   ⟨3, { msg 1 2 0 with seq := 1, addr := 0x400000000000, data := [(0, tallyOf 0)], tag := 32768, rsig := true }, _, _, wput, _, _,
     _, rfl, rfl, by decide +kernel, Or.inl (by decide +kernel), by decide +kernel, pair_some (by decide +kernel), pair_of
     (by decide +kernel), by decide +kernel, by decide +kernel⟩,
   ⟨msg 1 2 0, 5, by decide +kernel⟩,
   ⟨{ low := 3, seen := [5] }, 4099, by decide +kernel⟩,
   ⟨{ low := 3, seen := [5] }, 5, by decide +kernel⟩,
   ⟨{ low := 3, seen := [5] }, 4, 6, by decide +kernel⟩,
   ⟨w0, 63, 1099511627775, 4, by decide +kernel⟩⟩

/-- The hypotheses of LinksComeUp are met, clause by clause. -/
theorem test_wit_LinksComeUp :
    (∃ (n : LinkId) (s : State), barOpen s = true ∧ flag s F.TWY_LINKCTL.EN ↑n = true) ∧
    (∃ (n : LinkId) (s : State), barOpen s = true ∧ flag s F.TWY_LINKCTL.EN ↑n = false ∧ linkState s ↑n = 0 ∧ twyClock s = true) ∧
    (∃ (n : LinkId) (s : State), barOpen s = true ∧ linkState s ↑n ≠ 4 ∧ linkState s ↑n ≠ 5 ∧ QuarSettled s (↑n) (getF s
      F.TWY_PEER.DIE ↑n)) ∧
    (∃ (s : State), barOpen s = true) ∧
    (∃ (n : LinkId) (farOk : Bool) (s : State), barOpen s = true ∧ twyClock s = true ∧ ¬(getF s F.TWY_TEST.LOOP ↑n = 3 ∧ farOk =
      false)) ∧
    (∃ (n : LinkId) (farOk : Bool) (s : State), barOpen s = true ∧ twyClock s = true ∧ linkState s ↑n ≠ 4 ∧ linkState s ↑n ≠ 5 ∧
      QuarSettled s (↑n) (getF s F.TWY_PEER.DIE ↑n) ∧ getF s F.TWY_TEST.LOOP ↑n = 3 ∧ farOk = false) ∧
    (∃ (n : LinkId) (s : State), barOpen s = true ∧ twyClock s = true ∧ linkState s ↑n = 6) ∧
    (∃ (n : LinkId) (s : State), clocksRun s = true ∧ twyClock s = true ∧ linkState s ↑n = 0 ∧ flag s F.TWY_LINKCTL.EN ↑n = true ∧
      (linkAt s ↑n).off = false) ∧
    (∃ (n : LinkId) (s : State), clocksRun s = true ∧ twyClock s = true ∧ linkState s ↑n = 1) ∧
    (∃ (n : LinkId) (s : State), clocksRun s = true ∧ twyClock s = true ∧ linkState s ↑n = 2 ∧ QuarSettled s (↑n) (getF s
      F.TWY_PEER.DIE ↑n)) ∧
    (∃ (n : LinkId) (die : Die) (mode : Bool) (enc : Bool) (version : BitVec 8) (auth : Bool) (s : State), twyClock s = true ∧
      linkState s ↑n = 2 ∧ (mode ≠ flag s F.TWY_LINKCTL.MODE ↑n ∨ enc ≠ flag s F.TWY_LINKCTL.ENC ↑n ∨ version ≠ 1 ∨ auth = false) ∧
      QuarSettled s ↑n ↑die) ∧
    (∃ (n : LinkId) (mode : Bool) (enc : Bool) (version : BitVec 8) (auth : Bool) (s : State), twyClock s = true ∧ linkState s ↑n =
      2 ∧ mode = flag s F.TWY_LINKCTL.MODE ↑n ∧ enc = flag s F.TWY_LINKCTL.ENC ↑n ∧ version = 1 ∧ auth = true) ∧
    (∃ (n : LinkId) (s : State), twyClock s = true ∧ linkState s ↑n = 3 ∧ (linkAt s ↑n).step < (linkAt s ↑n).top) ∧
    (∃ (n : LinkId) (lanes : BitVec 9) (s : State) (l : TwyLink), twyClock s = true ∧ linkState s ↑n = 3 ∧ l =
      { linkAt s ↑n with passed := mapSet (linkAt s ↑n).passed (linkAt s ↑n).step 0 lanes } ∧ l.top ≤ l.step ∧ bringUp (flag s
      F.TWY_LINKCTL.EBB_ALLOW ↑n) l = none) ∧
    (∃ (n : LinkId) (lanes : BitVec 9) (s : State) (l : TwyLink) (r : Nat) (w : Nat), twyClock s = true ∧ linkState s ↑n = 3 ∧ l =
      { linkAt s ↑n with passed := mapSet (linkAt s ↑n).passed (linkAt s ↑n).step 0 lanes } ∧ l.top ≤ l.step ∧ bringUp (flag s
      F.TWY_LINKCTL.EBB_ALLOW ↑n) l = some (r, w)) ∧
    (∃ (ebb : Bool) (l : TwyLink) (r : Nat) (w : Nat), bringUp ebb l = some (r, w)) ∧
    (∃ (v : Nat), v < 8) ∧
    (∃ (n : LinkId) (v : Nat) (m : LinkId), v < 8 ∧ m ≠ n) :=
  ⟨⟨3, setF F.TWY_LINKCTL.EN 3 1 w0, by decide +kernel⟩,
   ⟨3, setF F.TWY_LINKCTL.EN 3 0 w0, by decide +kernel⟩,
   ⟨3, wl 3 { txq := [] }, by unfold QuarSettled; decide +kernel⟩,
   ⟨w0, by decide +kernel⟩,
   ⟨3, false, wl 4 {}, by decide +kernel⟩,
   ⟨3, false, setF F.TWY_TEST.LOOP 3 3 (wl 0 {}), by unfold QuarSettled; decide +kernel⟩,
   ⟨3, wl 6 {}, by decide +kernel⟩,
   ⟨3, setF F.TWY_LINKCTL.EN 3 1 (wl 0 {}), by decide +kernel⟩,
   ⟨3, wl 1 { tried := true }, by decide +kernel⟩,
   ⟨3, wl 2 {}, by unfold QuarSettled; decide +kernel⟩,
   ⟨3, 4, true, false, 1, true, wl 2 {}, by unfold QuarSettled; decide +kernel⟩,
   ⟨3, false, false, 1, true, wl 2 {}, by decide +kernel⟩,
   ⟨3, wl 3 { step := 1, top := 2 }, by decide +kernel⟩,
   ⟨3, 0x7F, setF F.TWY_LINKCTL.EBB_ALLOW 3 0 (wl 3 { step := 2, top := 2 }), _, by decide +kernel, by decide +kernel, rfl,
     by decide +kernel, by decide +kernel⟩,
   ⟨3, 0xFF, wl 3 { step := 2, top := 2 }, _, 2, 0, by decide +kernel, by decide +kernel, rfl, by decide +kernel, by decide +kernel⟩,
   ⟨true, { top := 2, passed := [(1, 0x0F)] }, 1, 1, by decide +kernel⟩,
   ⟨4, by decide +kernel⟩,
   ⟨3, 4, 4, by decide +kernel⟩⟩

/-- The hypotheses of LinksPauseAndSwapLanes are met, clause by clause. -/
theorem test_wit_LinksPauseAndSwapLanes :
    (∃ (n : LinkId) (s : State), twyClock s = true ∧ linkState s ↑n = 4 ∧ barOpen s = true) ∧
    (∃ (n : LinkId) (s : State) (p : PauseFor), twyClock s = true ∧ linkState s ↑n = 5 ∧ (linkAt s ↑n).pause = some p ∧ (p =
      PauseFor.loss ∨ p = PauseFor.retrain) ∧ (linkAt s ↑n).txq = [] ∧ (linkAt s ↑n).acting = none ∧ (linkAt s ↑n).training = none ∧
      (linkAt s ↑n).weak = [] ∧ (linkAt s ↑n).restoring = []) ∧
    (∃ (want : Nat), want < 8) ∧
    (∃ (n : LinkId) (s : State) (k : Nat) (ks : List Nat), twyClock s = true ∧ barOpen s = true ∧ linkState s ↑n = 4 ∧ (linkAt s
      ↑n).acting = none ∧ (linkAt s ↑n).training = none ∧ (linkAt s ↑n).weak = [] ∧ lanesIn s (↑n) 2 = k :: ks) ∧
    (∃ (n : LinkId) (s : State), twyClock s = true ∧ barOpen s = true ∧ linkState s ↑n = 4 ∧ (linkAt s ↑n).acting = none ∧ (linkAt s
      ↑n).training = none ∧ (linkAt s ↑n).weak = [] ∧ lanesIn s (↑n) 2 = []) ∧
    (∃ (n : LinkId) (w : Nat) (k : Nat) (s : State), twyClock s = true ∧ linkState s ↑n = 4 ∧ (linkAt s ↑n).training = some k ∧ w <
      9 ∧ k < 9 ∧ (linkAt s ↑n).acting = some w ∧ 256 ≤ (linkAt s ↑n).replay.length) ∧
    (∃ (n : LinkId) (w : Nat) (k : Nat) (s : State) (j : Nat) (js : List Nat), twyClock s = true ∧ linkState s ↑n = 4 ∧ (linkAt s
      ↑n).training = some k ∧ w < 9 ∧ k < 9 ∧ (linkAt s ↑n).acting = none ∧ (linkAt s ↑n).weak = [] ∧ (linkAt s ↑n).restoring = [k,
      j] ++ js ∧ j ≠ k ∧ j < 9 ∧ (∀ (x : Nat), x ∈ js → x ≠ k)) ∧
    (∃ (n : LinkId) (w : Nat) (k : Nat) (i : Nat) (s : State), twyClock s = true ∧ linkState s ↑n = 4 ∧ (linkAt s ↑n).acting = some
      w ∧ (linkAt s ↑n).swapping = some k ∧ (linkAt s ↑n).training = none ∧ (linkAt s ↑n).weak = [] ∧ (linkAt s ↑n).restoring = [] ∧
      w < 9 ∧ k < 9 ∧ w ≠ k ∧ i < 8 ∧ laneMap s (↑n) i = w ∧ (∀ (j : Nat), j < i → laneMap s (↑n) j ≠ w)) ∧
    (∃ (n : LinkId) (s : State) (down : Bool), twyClock s = true ∧ linkState s ↑n = 4 ∧ down = decide (3 ≤ (List.filter (fun (a :
      Nat) => decide (getF s F.TWY_RATETH.DN < laneBer s (↑n) a)) (lanesIn s (↑n) 0)).length) ∧ (linkAt s ↑n).trial = false) ∧
    (∃ (n : LinkId) (s : State) (down : Bool), twyClock s = true ∧ linkState s ↑n = 4 ∧ down = decide (3 ≤ (List.filter (fun (a :
      Nat) => decide (getF s F.TWY_RATETH.DN < laneBer s (↑n) a)) (lanesIn s (↑n) 0)).length) ∧ (linkAt s ↑n).trial = true ∧ down =
      false) ∧
    (∃ (n : LinkId) (s : State) (down : Bool), twyClock s = true ∧ linkState s ↑n = 4 ∧ down = decide (3 ≤ (List.filter (fun (a :
      Nat) => decide (getF s F.TWY_RATETH.DN < laneBer s (↑n) a)) (lanesIn s (↑n) 0)).length) ∧ (linkAt s ↑n).trial = true ∧ down =
      true) ∧
    (∃ (n : LinkId) (load : BitVec 16) (s : State), twyClock s = true ∧ linkState s ↑n = 4 ∧ 2 * load.toNat ≤ getF s F.TWY_STATUS.P
      ↑n) ∧
    (∃ (n : LinkId) (load : BitVec 16) (s : State), twyClock s = true ∧ linkState s ↑n = 4 ∧ getF s F.TWY_STATUS.P ↑n ≤ 10 *
      load.toNat) ∧
    (∃ (n : LinkId) (load : BitVec 16) (s : State) (v : Nat), twyClock s = true ∧ linkState s ↑n = 4 ∧ 10 * load.toNat < getF s
      F.TWY_STATUS.P ↑n ∧ clampOf s 2 ↑n = none ∧ getF s F.TWY_LINKCTL.WMIN ↑n = 3 ∧ List.find? (fun (v : Nat) => decide (4 *
      load.toNat ≤ twyP (getF s F.TWY_STATUS.RATE ↑n) v) && decide (getF s F.TWY_STATUS.WIDTH ↑n < v)) [3, 2, 1] = some v) ∧
    (∃ (n : LinkId) (s : State) (l : Nat), twyClock s = true ∧ linkState s ↑n = 4 ∧ l < 9) ∧
    (∃ (n : LinkId) (s : State), twyClock s = true ∧ linkState s ↑n = 6 ∧ prbsTaps (getF s F.TWY_TEST.PRBS ↑n) = none) ∧
    (∃ (n : LinkId) (s : State) (taps : Nat × Nat), twyClock s = true ∧ linkState s ↑n = 6 ∧ prbsTaps (getF s F.TWY_TEST.PRBS ↑n) =
      some taps) ∧
    (∃ (kind : Nat) (taps : Nat × Nat) (r : BitVec 31), prbsTaps kind = some taps ∧ r.toNat % 2 ^ taps.fst ≠ 0) ∧
    (∃ (n : LinkId) (s : State), twyClock s = true ∧ linkState s ↑n = 4 ∧ (linkAt s ↑n).errWin ≤ getF s F.TWY_CTL.ILIM) ∧
    (∃ (n : LinkId) (s : State) (k : Nat) (ks : List Nat), twyClock s = true ∧ linkState s ↑n = 4 ∧ getF s F.TWY_CTL.ILIM < (linkAt
      s ↑n).errWin ∧ (byBer s (↑n) (lanesIn s (↑n) 0)).reverse = k :: ks) :=
  ⟨⟨3, wl 4 {}, by decide +kernel⟩,
   ⟨3, wl 5 { pause := some .retrain, resends := 3 }, .retrain, by decide +kernel⟩,
   ⟨4, by decide +kernel⟩,
   ⟨3, setLaneSt 3 8 2 (wl 4 {}), 8, [], by decide +kernel⟩,
   ⟨3, wl 4 {}, by decide +kernel⟩,
   ⟨3, 2, 8, setLaneSt 3 8 3 (wl 4 { training := some 8, acting := some 2, replay := List.replicate 256 (0, 0) }), by decide +kernel⟩,
   ⟨3, 2, 8, setLaneSt 3 8 3 (wl 4 { training := some 8, restoring := [8, 7] }), 7, [],
     by refine ⟨?_, ?_, ?_, ?_, ?_, ?_, ?_, ?_, ?_, ?_, ?_⟩ <;> first | decide +kernel⟩,
   ⟨3, 2, 8, 2, wl 4 { acting := some 2, swapping := some 8 },
     by refine ⟨?_, ?_, ?_, ?_, ?_, ?_, ?_, ?_, ?_, ?_, ?_, ?_, ?_⟩ <;> first | decide +kernel⟩,
   ⟨3, wl 4 {}, false, by decide +kernel⟩,
   ⟨3, wl 4 { trial := true }, false, by decide +kernel⟩,
   ⟨3, setF F.TWY_STATUS.RATE 3 4 (setF F.TWY_LANEBER.RATE 27 0xFFFF (setF F.TWY_LANEBER.RATE 28 0xFFFF (setF F.TWY_LANEBER.RATE 29
     0xFFFF (wl 4 { trial := true })))), true, by decide +kernel⟩,
   ⟨3, 0, wl 4 {}, by decide +kernel⟩,
   ⟨3, 0, wl 4 {}, by decide +kernel⟩,
   ⟨3, 0, setF F.TWY_LINKCTL.WMIN 3 3 (setF F.TWY_STATUS.P 3 1000 (setF F.TWY_STATUS.RATE 3 1 (wl 4 {}))), 3, by decide +kernel⟩,
   ⟨3, wl 4 {}, 8, by decide +kernel⟩,
   ⟨3, setF F.TWY_TEST.PRBS 3 0 (wl 6 {}), by decide +kernel⟩,
   ⟨3, setF F.TWY_TEST.PRBS 3 1 (wl 6 {}), _, by decide +kernel, by decide +kernel, rfl⟩,
   ⟨1, (7, 6), 5, by decide +kernel⟩,
   ⟨3, wl 4 { errWin := 10 }, by decide +kernel⟩,
   ⟨3, wl 4 { errWin := 11 }, (byBer (wl 4 { errWin := 11 }) 3 (lanesIn (wl 4 { errWin := 11 }) 3 0)).reverse.headD 0, (byBer (wl 4
     { errWin := 11 }) 3 (lanesIn (wl 4 { errWin := 11 }) 3 0)).reverse.tail,
     by refine ⟨by decide +kernel, by decide +kernel, by decide +kernel, ?_⟩; cases h : (byBer (wl 4 { errWin := 11 }) 3 (lanesIn (wl 4 { errWin := 11 }) 3 0)).reverse with | nil => exact absurd (congrArg List.length h) (by rw [List.length_reverse, byBer, List.length_mergeSort]; decide +kernel) | cons a l => exact h⟩⟩

/-- The hypotheses of LinkFrames are met, clause by clause. -/
theorem test_wit_LinkFrames :
    (∃ (n : LinkId) (s : State), twyClock s = true ∧ linkState s ↑n = 4 ∧ (linkAt s ↑n).nakSent = true) ∧
    (∃ (n : LinkId) (fr : BitVec 2048) (s : State), twyClock s = true ∧ linkState s ↑n = 4 ∧ (linkAt s ↑n).nakSent = true ∧
      byteField fr 252 4 ≠ (crc32c (byteSlice fr 0 252)).toNat) ∧
    (∃ (n : LinkId) (fr : BitVec 2048) (s : State) (clear : BitVec 2048), twyClock s = true ∧ linkState s ↑n = 4 ∧ (linkAt s
      ↑n).nakSent = true ∧ byteField fr 252 4 = (crc32c (byteSlice fr 0 252)).toNat ∧ openFrame s (↑n) fr = some clear ∧ byteField
      fr 0 8 = ((linkAt s ↑n).rxNext + 1) % 2 ^ 64) ∧
    (∃ (n : LinkId) (fr : BitVec 2048) (clear : BitVec 2048) (s : State) (u : State), twyClock s = true ∧ linkState s ↑n = 4 ∧
      byteField fr 252 4 = (crc32c (byteSlice fr 0 252)).toNat ∧ openFrame s (↑n) fr = some clear ∧ byteField fr 0 8 = (linkAt s
      ↑n).rxNext % 2 ^ 64 ∧ u = twyAckNak (↑n) fr (setLink (↑n)
      ({ twyCredits fr (linkAt s ↑n) with rxNext := (linkAt s ↑n).rxNext + 1, nakSent := false }) s)) ∧
    (∃ (n : LinkId) (b : BitVec 544) (s : State), twyHeaderOk b = true ∧ byteField b 2 1 = 0 ∧ mayPass s (↑n) (readHeader b) = true)
      ∧
    (∃ (b : BitVec 544), twyHeaderOk b = true ∧ byteField b 2 1 ≠ 0 ∧ (readHeader b).vc ≠ 0) ∧
    (∃ (n : LinkId) (b : BitVec 544) (s : State) (r : TwyRx), (linkAt s ↑n).rxUrg = none ∧ (linkAt s ↑n).rx = some r ∧ r.need = 1 ∧
      mayPass s (↑n) ({ r.msg with data := r.msg.data ++ [(BitVec.extractLsb' 0 512 b, BitVec.extractLsb' 512 32 b)] }) = true) ∧
    (∃ (n : LinkId) (s : State) (r : TwyRx), (linkAt s ↑n).rxUrg = none ∧ (linkAt s ↑n).rx = some r ∧ 2 ≤ r.need) ∧
    (∃ (n : LinkId) (s : State), twyClock s = true ∧ linkState s ↑n = 4 ∧ (linkAt s ↑n).replay = []) ∧
    (∃ (n : LinkId) (s : State), twyClock s = true ∧ linkState s ↑n = 4 ∧ (linkAt s ↑n).replay ≠ [] ∧ (linkAt s ↑n).resends < 7) ∧
    (∃ (n : LinkId) (s : State), twyClock s = true ∧ linkState s ↑n = 4 ∧ (linkAt s ↑n).replay ≠ [] ∧ 7 ≤ (linkAt s ↑n).resends) ∧
    (∃ (n : LinkId) (k : BitVec 256) (s : State) (s1 : State), twyClock s = true ∧ (linkState s ↑n = 4 ∨ linkState s ↑n = 5) ∧ flag
      s F.TWY_STATUS.ENC ↑n = true ∧ draw 256 s = (k, s1)) ∧
    (∃ (n : Nat) (a : Nat) (s : State), (∀ (f : Nat × BitVec 2048), f ∈ (linkAt s n).replay → fseqBits f.fst ≠ a)) :=
  ⟨⟨3, wl 4 { nakSent := true, rxNext := 5 }, by decide +kernel⟩,
   ⟨3, 1, wl 4 { nakSent := true, rxNext := 5 }, by decide +kernel⟩,
   ⟨3, sealFr 6, wl 4 { nakSent := true, rxNext := 5 }, sealFr 6, by decide +kernel⟩,
   ⟨3, sealFr 5, sealFr 5, wl 4 { nakSent := true, rxNext := 5 }, _, by decide +kernel, by decide +kernel, by decide +kernel,
     by decide +kernel, by decide +kernel, rfl⟩,
   ⟨3, 0x0111, wl 4 {}, by decide +kernel⟩,
   ⟨0x040110, by decide +kernel⟩,
   ⟨3, 77, wl 4 { rx := some { msg := msg 0x10 1 0, need := 1 } }, { msg := msg 0x10 1 0, need := 1 }, by decide +kernel⟩,
   ⟨3, wl 4 { rx := some { msg := msg 0x10 1 0, need := 2 } }, { msg := msg 0x10 1 0, need := 2 }, by decide +kernel⟩,
   ⟨3, wl 4 {}, by decide +kernel⟩,
   ⟨3, wl 4 { replay := [(0, 5)], resends := 6 }, by decide +kernel⟩,
   ⟨3, wl 4 { replay := [(0, 5)], resends := 7 }, by decide +kernel⟩,
   ⟨3, (draw 256 (setF F.TWY_STATUS.ENC 3 1 (wl 4 {}))).1, setF F.TWY_STATUS.ENC 3 1 (wl 4 {}), (draw 256 (setF F.TWY_STATUS.ENC 3 1
     (wl 4 {}))).2, by refine ⟨?_, ?_, ?_, ?_⟩ <;> first | decide +kernel | rfl⟩,
   ⟨3, 9, wl 4 { replay := [(5, 5)] }, by first | decide +kernel⟩⟩

/-- The hypotheses of PortsComeUp are met, clause by clause. -/
theorem test_wit_PortsComeUp :
    (∃ (p : PortId) (s : State), barOpen s = true ∧ flag s F.SHL_PCTL.EN ↑p = false ∧ portState s ↑p = 0 ∧ clocksRun s = true) ∧
    (∃ (p : PortId) (s : State), barOpen s = true ∧ flag s F.SHL_PCTL.EN ↑p = true) ∧
    (∃ (p : PortId) (s : State), barOpen s = true ∧ portState s ↑p = 5) ∧
    (∃ (p : PortId) (s : State), barOpen s = true ∧ portState s ↑p ≠ 5) ∧
    (∃ (p : PortId) (mods : Fin 16) (s : State), clocksRun s = true ∧ portState s ↑p = 1 ∧ ↑mods ≠ 0) ∧
    (∃ (p : PortId) (s : State), clocksRun s = true ∧ portState s ↑p = 1) ∧
    (∃ (p : PortId) (s : State), clocksRun s = true ∧ portState s ↑p = 2) ∧
    (∃ (p : PortId) (mods : Fin 16) (s : State), clocksRun s = true ∧ portState s ↑p = 4 ∧ widest ↑mods = none) ∧
    (∃ (p : PortId) (rate : Fin 6) (mods : Fin 16) (s : State) (w : Nat), clocksRun s = true ∧ portState s ↑p = 4 ∧ widest ↑mods =
      some w ∧ (portAt s ↑p).txq = [] ∧ ↑rate ≤ getF s F.SHL_PSTAT.RATE ↑p) ∧
    (∃ (p : PortId) (s : State), clocksRun s = true ∧ portState s ↑p = 3 ∧ s.tq.queues = []) ∧
    (∃ (p : PortId) (s : State), clocksRun s = true ∧ portState s ↑p = 4 ∧ s.tq.queues = []) ∧
    (∃ (p : PortId) (blk : BitVec 256) (s : State), clocksRun s = true ∧ portState s ↑p = 2 ∧ (capModules s (↑p) (byteField blk 6 1)
      (portAt s ↑p).train.fst = none ∨ byteField blk 4 1 ≠ 1 ∨ byteField blk 12 1 < 2 ∨ byteField blk 13 1 < 4 ∨ byteField blk 14 2 <
      48)) ∧
    (∃ (p : PortId) (blk : BitVec 256) (s : State) (m : Nat), clocksRun s = true ∧ portState s ↑p = 2 ∧ capModules s (↑p) (byteField
      blk 6 1) (portAt s ↑p).train.fst = some m ∧ byteField blk 4 1 = 1 ∧ 2 ≤ byteField blk 12 1 ∧ 4 ≤ byteField blk 13 1 ∧ 48 ≤
      byteField blk 14 2) ∧
    (∃ (mask : Nat), mask < 16) :=
  ⟨⟨3, setF F.SHL_PCTL.EN 3 0 (wp 0 { cseq := 7 }), by decide +kernel⟩,
   ⟨3, setF F.SHL_PCTL.EN 3 1 (wp 0 {}), by decide +kernel⟩,
   ⟨3, wp 5 { cseq := 7 }, by decide +kernel⟩,
   ⟨3, wp 3 {}, by decide +kernel⟩,
   ⟨3, 15, wp 1 {}, by decide +kernel⟩,
   ⟨3, wp 1 {}, by decide +kernel⟩,
   ⟨3, wp 2 {}, by decide +kernel⟩,
   ⟨3, 0, wp 4 {}, by decide +kernel⟩,
   ⟨3, 2, 3, setF F.SHL_PSTAT.RATE 3 2 (setF F.SHL_PSTAT.MODS 3 1 (wp 4 { replay := [(0, 5)] })), 1, by decide +kernel⟩,
   ⟨3, wp 3 { replay := [(0, 5)], cseq := 7 }, by decide +kernel⟩,
   ⟨3, wp 4 { replay := [(0, 5)], cseq := 7 }, by decide +kernel⟩,
   ⟨3, 0, wp 2 {}, by decide +kernel⟩,
   ⟨3, 249311537304411638443254204860465152, setF F.SHL_PCTL.MODS 3 2 (wp 2 { train := (15, 5), cseq := 8, fresh := false }), 2,
     by decide +kernel⟩,
   ⟨15, by decide +kernel⟩⟩

/-- The hypotheses of PortFrames are met, clause by clause. -/
theorem test_wit_PortFrames :
    (∃ (p : PortId) (fr : BitVec 2048) (s : State), clocksRun s = true ∧ portState s ↑p = 3 ∧ byteField fr 252 4 ≠ (crc32c
      (byteSlice fr 0 252)).toNat ∧ (portAt s ↑p).nakSent = true) ∧
    (∃ (p : PortId) (fr : BitVec 2048) (s : State), clocksRun s = true ∧ portState s ↑p = 3 ∧ byteField fr 252 4 = (crc32c
      (byteSlice fr 0 252)).toNat ∧ frFseq fr = ((portAt s ↑p).rxNext + 1) % 65536 ∧ (portAt s ↑p).nakSent = true) ∧
    (∃ (p : PortId) (fr : BitVec 2048) (s : State) (u : State) (v : State), clocksRun s = true ∧ portState s ↑p = 3 ∧ byteField fr
      252 4 = (crc32c (byteSlice fr 0 252)).toNat ∧ frFseq fr = (portAt s ↑p).rxNext % 65536 ∧ u = shlAckNak (↑p) fr (setPort (↑p)
      ({ shlCredits fr (portAt s ↑p) with rxNext := (portAt s ↑p).rxNext + 1, nakSent := false }) s) ∧ v = shlTakeSlot (↑p) (frSlot
      fr 2) (shlTakeSlot (↑p) (frSlot fr 1) (shlTakeSlot (↑p) (frSlot fr 0) u))) ∧
    (∃ (b : BitVec 640), slotNull b = true) ∧
    (∃ (p : PortId) (b : BitVec 640) (s : State) (v : Nat), slotNull b = false ∧ slotOk (flag s F.SHL_PSTAT.URGENT ↑p) b = true ∧ v
      ≠ slotVc b) ∧
    (∃ (p : PortId) (b : BitVec 640) (s : State), slotNull b = false ∧ slotOk (flag s F.SHL_PSTAT.URGENT ↑p) b = false ∧ slotVc b ≠
      2) ∧
    (∃ (p : PortId) (n : Nat) (s : State), clocksRun s = true ∧ portState s ↑p = 3 ∧ (n = if 25000 ≤ s.time - (portAt s ↑p).replayAt
      then 1 else (portAt s ↑p).replaysMs + 1) ∧ (portAt s ↑p).replay = []) ∧
    (∃ (p : PortId) (n : Nat) (s : State), clocksRun s = true ∧ portState s ↑p = 3 ∧ (n = if 25000 ≤ s.time - (portAt s ↑p).replayAt
      then 1 else (portAt s ↑p).replaysMs + 1) ∧ (portAt s ↑p).replay ≠ []) ∧
    (∃ (a : Nat) (k : Nat) (x : ShlPort), List.findIdx? (fun (f : Nat × BitVec 2048) => f.fst == a) x.replay = some k) ∧
    (∃ (a : Nat) (x : ShlPort), List.findIdx? (fun (f : Nat × BitVec 2048) => f.fst == a) x.replay = none) :=
  ⟨⟨3, 1, wp 3 { nakSent := true }, by decide +kernel⟩,
   ⟨3, sealFr (2 ^ 1920), wp 3 { nakSent := true }, by decide +kernel⟩,
   ⟨3, sealFr 0, wp 3 {}, _, _, by decide +kernel, by decide +kernel, by decide +kernel, by decide +kernel, rfl, rfl⟩,
   ⟨0, by decide +kernel⟩,
   ⟨3, slot 2 0 1 0 0 0, wp 3 {}, 1, by decide +kernel⟩,
   ⟨3, slot 1 0 1 0 0 0, wp 3 {}, by decide +kernel⟩,
   ⟨3, 1, wp 3 {}, by decide +kernel⟩,
   ⟨3, 1, wp 3 { replay := [(0, 5)] }, by decide +kernel⟩,
   ⟨6, 1, { replay := [(5, 5), (6, 5), (7, 5)], resends := 4 }, by decide +kernel⟩,
   ⟨9, { replay := [(5, 5), (6, 5), (7, 5)], resends := 4 }, by decide +kernel⟩⟩

/-- The hypotheses of PortMessages are met, clause by clause. -/
theorem test_wit_PortMessages :
    (∃ (p : PortId) (n : Nat) (b : BitVec 640) (s : State), frameRuns s = true ∧ portState s ↑p = 3 ∧ rxHead s (↑p) 2 0 = some (n, b)
      ∧ shlPlace s (↑p) b = none) ∧
    (∃ (p : PortId) (n : Nat) (b : BitVec 640) (s : State) (r : ReefPlace), frameRuns s = true ∧ portState s ↑p = 3 ∧ rxHead s (↑p) 2
      0 = some (n, b) ∧ shlPlace s (↑p) b = some r) ∧
    (∃ (p : PortId) (n : Nat) (b : BitVec 640) (s : State), frameRuns s = true ∧ portState s ↑p = 3 ∧ rxHead s (↑p) 2 1 = some (n, b)
      ∧ shlPlace s (↑p) b = none) ∧
    (∃ (p : PortId) (n : Nat) (b : BitVec 640) (s : State) (r : ReefPlace), frameRuns s = true ∧ portState s ↑p = 3 ∧ rxHead s (↑p) 2
      1 = some (n, b) ∧ shlPlace s (↑p) b = some r ∧ flag s F.SHL_PSTAT.TALLY ↑p = false) ∧
    (∃ (p : PortId) (n : Nat) (b : BitVec 640) (s : State) (r : ReefPlace), frameRuns s = true ∧ portState s ↑p = 3 ∧ rxHead s (↑p) 2
      1 = some (n, b) ∧ shlPlace s (↑p) b = some r ∧ flag s F.SHL_PSTAT.TALLY ↑p = true ∧ tallyOk (slotPay b) (slotTally b) = true) ∧
    (∃ (p : PortId) (n : Nat) (b : BitVec 640) (s : State) (r : ReefPlace), frameRuns s = true ∧ portState s ↑p = 3 ∧ rxHead s (↑p) 2
      1 = some (n, b) ∧ shlPlace s (↑p) b = some r ∧ flag s F.SHL_PSTAT.TALLY ↑p = true ∧ tallyOk (slotPay b) (slotTally b) = false) ∧
    (∃ (p : PortId) (b : BitVec 640) (r : ReefPlace) (s : State), shlPlace s (↑p) b = some r) ∧
    (∃ (p : PortId) (n : Nat) (b : BitVec 640) (s : State), frameRuns s = true ∧ portState s ↑p = 3 ∧ rxHead s (↑p) (urgentVc s ↑p) 5
      = some (n, b)) ∧
    (∃ (p : PortId) (n : Nat) (b : BitVec 640) (s : State), frameRuns s = true ∧ portState s ↑p = 3 ∧ rxHead s (↑p) (urgentVc s ↑p) 5
      = none ∧ rxHead s (↑p) 3 5 = some (n, b)) ∧
    (∃ (p : PortId) (n : Nat) (b : BitVec 640) (s : State), frameRuns s = true ∧ portState s ↑p = 3 ∧ rxHead s (↑p) (urgentVc s ↑p) 8
      = some (n, b)) ∧
    (∃ (p : PortId) (n : Nat) (b : BitVec 640) (s : State) (q : Nat), frameRuns s = true ∧ portState s ↑p = 3 ∧ rxHead s (↑p)
      (urgentVc s ↑p) 10 = some (n, b) ∧ q = getF s F.SHL_DBWIN.BASE ↑p + slotTarget b % 1024 ∧ slotTarget b % 1024 < getF s
      F.SHL_DBWIN.COUNT ↑p ∧ q < 1024) ∧
    (∃ (p : PortId) (n : Nat) (b : BitVec 640) (s : State), frameRuns s = true ∧ portState s ↑p = 3 ∧ rxHead s (↑p) (urgentVc s ↑p) 10
      = some (n, b) ∧ getF s F.SHL_DBWIN.COUNT ↑p ≤ slotTarget b % 1024) ∧
    (∃ (p : PortId) (n : Nat) (b : BitVec 640) (cs : Nat) (s : State), frameRuns s = true ∧ portState s ↑p = 3 ∧ rxHead s (↑p) 1 11 =
      some (n, b) ∧ cs = secField (slotPay b) 12 4 ∧ writesBefore s (↑p) n = true) ∧
    (∃ (p : PortId) (n : Nat) (b : BitVec 640) (cs : Nat) (s : State) (i : Nat), frameRuns s = true ∧ portState s ↑p = 3 ∧ rxHead s
      (↑p) 1 11 = some (n, b) ∧ cs = secField (slotPay b) 12 4 ∧ writesBefore s (↑p) n = false ∧ cs = ((portAt s ↑p).cseq + 1) % 2 ^ 32
      ∧ cntOf s (↑p) (slotTarget b % 65536) = some i) ∧
    (∃ (p : PortId) (n : Nat) (b : BitVec 640) (cs : Nat) (s : State), frameRuns s = true ∧ portState s ↑p = 3 ∧ rxHead s (↑p) 1 11 =
      some (n, b) ∧ cs = secField (slotPay b) 12 4 ∧ writesBefore s (↑p) n = false ∧ cs = ((portAt s ↑p).cseq + 1) % 2 ^ 32 ∧ cntOf s
      (↑p) (slotTarget b % 65536) = none) ∧
    (∃ (p : PortId) (n : Nat) (b : BitVec 640) (cs : Nat) (s : State), frameRuns s = true ∧ portState s ↑p = 3 ∧ rxHead s (↑p) 1 11 =
      some (n, b) ∧ cs = secField (slotPay b) 12 4 ∧ writesBefore s (↑p) n = false ∧ cs ≠ ((portAt s ↑p).cseq + 1) % 2 ^ 32) ∧
    (∃ (p : PortId) (n : Nat) (b : BitVec 640) (w : ShlWatch) (s : State) (c : Nat), frameRuns s = true ∧ portState s ↑p = 3 ∧ rxHead
      s (↑p) 1 12 = some (n, b) ∧ w =
      { tag := slotTag b, mark := slotMark b, index := slotTarget b % 65536, cond := slotTarget b / 65536 % 4, value := secField (slotPay b) 0 8 }
      ∧ cntOf s (↑p) w.index = some c ∧ condHolds w.cond (counterAt s c) w.value = true) ∧
    (∃ (p : PortId) (n : Nat) (b : BitVec 640) (w : ShlWatch) (s : State) (c : Nat), frameRuns s = true ∧ portState s ↑p = 3 ∧ rxHead
      s (↑p) 1 12 = some (n, b) ∧ w =
      { tag := slotTag b, mark := slotMark b, index := slotTarget b % 65536, cond := slotTarget b / 65536 % 4, value := secField (slotPay b) 0 8 }
      ∧ cntOf s (↑p) w.index = some c ∧ condHolds w.cond (counterAt s c) w.value = false ∧ (portAt s ↑p).watches.length < 64) ∧
    (∃ (p : PortId) (n : Nat) (b : BitVec 640) (w : ShlWatch) (s : State), frameRuns s = true ∧ portState s ↑p = 3 ∧ rxHead s (↑p) 1
      12 = some (n, b) ∧ w =
      { tag := slotTag b, mark := slotMark b, index := slotTarget b % 65536, cond := slotTarget b / 65536 % 4, value := secField (slotPay b) 0 8 }
      ∧ cntOf s (↑p) w.index = none) ∧
    (∃ (p : PortId) (s : State), telemOn s ↑p = true ∧ (portAt s ↑p).missed = false) ∧
    (∃ (p : PortId) (s : State), telemOn s ↑p = true ∧ (portAt s ↑p).missed = true) :=
  ⟨⟨3, 0, slot 2 0 0 0 0 0, (ws (slot 2 0 0 0 0 0)), by decide +kernel⟩,
   ⟨3, 0, slot 2 0 1 0 0 0, (ws (slot 2 0 1 0 0 0)), { isLocal := true, tile := 0, so := 0 }, by decide +kernel⟩,
   ⟨3, 0, slot 2 1 0 0 0 0, (ws (slot 2 1 0 0 0 0)), by decide +kernel⟩,
   ⟨3, 0, slot 2 1 1 0 0 0, (ws (slot 2 1 1 0 0 0)), { isLocal := true, tile := 0, so := 0 }, by decide +kernel⟩,
   ⟨3, 0, slot 2 1 1 0 0 (tallyOf 0).toNat, setF F.SHL_PSTAT.TALLY 3 1 (ws (slot 2 1 1 0 0 (tallyOf 0).toNat)),
     { isLocal := true, tile := 0, so := 0 }, by decide +kernel⟩,
   ⟨3, 0, slot 2 1 1 0 0 ((tallyOf 0).toNat + 1), setF F.SHL_PSTAT.TALLY 3 1 (ws (slot 2 1 1 0 0 ((tallyOf 0).toNat + 1))),
     { isLocal := true, tile := 0, so := 0 }, by decide +kernel⟩,
   ⟨3, slot 2 0 1 0 0 0, { isLocal := true, tile := 0, so := 0 }, (ws (slot 2 0 1 0 0 0)), by decide +kernel⟩,
   ⟨3, 0, slot 1 5 0 0 0 0, (ws (slot 1 5 0 0 0 0)), by decide +kernel⟩,
   ⟨3, 0, slot 3 5 0 0 0 0, (ws (slot 3 5 0 0 0 0)), by decide +kernel⟩,
   ⟨3, 0, slot 1 8 0 0 0 0, (ws (slot 1 8 0 0 0 0)), by decide +kernel⟩,
   ⟨3, 0, slot 1 10 0 4 5 0, setF F.SHL_DBWIN.BASE 3 3 (setF F.SHL_DBWIN.COUNT 3 5 (ws (slot 1 10 0 4 5 0))), 7, by decide +kernel⟩,
   ⟨3, 0, slot 1 10 0 4 5 0, (ws (slot 1 10 0 4 5 0)), by decide +kernel⟩,
   ⟨3, 1, slot 1 11 0 2 79228162514264337593543950341 0, 1, setF F.SHL_CNTWIN.BASE 3 100 (setF F.SHL_CNTWIN.COUNT 3 8 (wp 3
     { rx := [(1, [(1, slot 1 11 0 2 79228162514264337593543950341 0)])], open_ := [{ tile := 0, ftag := 0, tag := 0, write := true, arr := 0 }] })),
     by decide +kernel⟩,
   ⟨3, 0, slot 1 11 0 2 79228162514264337593543950341 0, 1, setF F.SHL_CNTWIN.BASE 3 100 (setF F.SHL_CNTWIN.COUNT 3 8 (ws (slot 1 11 0
     2 79228162514264337593543950341 0))), 102, by decide +kernel⟩,
   ⟨3, 0, slot 1 11 0 9 79228162514264337593543950341 0, 1, setF F.SHL_CNTWIN.BASE 3 100 (setF F.SHL_CNTWIN.COUNT 3 8 (ws (slot 1 11 0
     9 79228162514264337593543950341 0))), by decide +kernel⟩,
   ⟨3, 0, slot 1 11 0 2 237684487542793012780631851013 0, 3, setF F.SHL_CNTWIN.BASE 3 100 (setF F.SHL_CNTWIN.COUNT 3 8 (ws (slot 1 11
     0 2 237684487542793012780631851013 0))), by decide +kernel⟩,
   ⟨3, 0, slot 1 12 0 2 0 0, { tag := 9, mark := 0, index := 2, cond := 0, value := 0 }, setF F.SHL_CNTWIN.BASE 3 100 (setF
     F.SHL_CNTWIN.COUNT 3 8 (ws (slot 1 12 0 2 0 0))), 102, by decide +kernel⟩,
   ⟨3, 0, slot 1 12 0 2 5 0, { tag := 9, mark := 0, index := 2, cond := 0, value := 5 }, setF F.SHL_CNTWIN.BASE 3 100 (setF
     F.SHL_CNTWIN.COUNT 3 8 (ws (slot 1 12 0 2 5 0))), 102, by decide +kernel⟩,
   ⟨3, 0, slot 1 12 0 9 5 0, { tag := 9, mark := 0, index := 9, cond := 0, value := 5 }, setF F.SHL_CNTWIN.BASE 3 100 (setF
     F.SHL_CNTWIN.COUNT 3 8 (ws (slot 1 12 0 9 5 0))), by decide +kernel⟩,
   ⟨3, setF F.SHL_PSTAT.TELEM 3 1 (wp 3 {}), by decide +kernel⟩,
   ⟨3, setF F.SHL_PSTAT.TELEM 3 1 (wp 3 { missed := true }), by decide +kernel⟩⟩

/-- The hypotheses of HostPortRows are met, clause by clause. -/
theorem test_wit_HostPortRows :
    (∃ (s : State), s.rst.perst = true ∧ 1 ≤ phase s ∧ s.pci.held = []) ∧
    (∃ (s : State), flag s F.PCI_LINK.UP = true) ∧
    (∃ (s : State), flag s F.PCI_LINK.UP = false) ∧
    (∃ (tag : Nat) (s : State), clocksRun s = true ∧ mapFind s.tq.reads tag = none) ∧
    (∃ (tag : Nat) (s : State) (r : ReadFor), clocksRun s = true ∧ mapFind s.tq.reads tag = some r) ∧
    (∃ (tag : Nat) (data : List Sector) (s : State) (r : ReadFor), clocksRun s = true ∧ mapFind s.tq.reads tag = some r ∧
      data.length < readSectors r) ∧
    (∃ (tag : Nat) (data : List Sector) (s : State) (q : Nat) (pos : Nat) (n : Nat) (f : Fetch), clocksRun s = true ∧ mapFind
      s.tq.reads tag = some (ReadFor.ring q pos n) ∧ (queueAt s q).fetch = some f ∧ ceilDiv n 2 ≤ data.length) ∧
    (∃ (tag : Nat) (data : List Sector) (s : State) (q : Nat) (a : Nat) (d : Nat) (pos : Nat) (n : Nat), clocksRun s = true ∧
      mapFind s.tq.reads tag = some (ReadFor.data q a d pos n) ∧ instOf s q a d = none ∧ n ≤ data.length) ∧
    (∃ (tag : Nat) (s : State) (q : Nat) (pos : Nat) (n : Nat), clocksRun s = true ∧ mapFind s.tq.reads tag = some (ReadFor.ring q
      pos n) ∧ (queueAt s q).fetch = none) ∧
    (∃ (v : Func) (s : State) (k : Nat), clocksRun s = true ∧ v ≠ 0 ∧ queuesOf s ↑v = [] ∧ List.filter (fun (e : Nat × Ctx) =>
      e.snd.bound && e.snd.func == ↑v) s.xlt.ctxs = [] ∧ mapGet s.evt.lostSince (↑v) 0 = 0 ∧ k / 64 = ↑v) ∧
    (∃ (v : Func) (s : State) (k : Nat), clocksRun s = true ∧ v ≠ 0 ∧ queuesOf s ↑v = [] ∧ List.filter (fun (e : Nat × Ctx) =>
      e.snd.bound && e.snd.func == ↑v) s.xlt.ctxs = [] ∧ mapGet s.evt.lostSince (↑v) 0 = 0 ∧ k / 64 ≠ ↑v) ∧
    (∃ (s : State), barOpen s = true ∧ s.pci.held = [] ∧ s.qos.host = []) :=
  ⟨⟨{ w0 with rst := { w0.rst with perst := true } }, by decide +kernel⟩,
   ⟨setF F.PCI_LINK.UP 0 1 w0, by decide +kernel⟩,
   ⟨w0, by decide +kernel⟩,
   ⟨3, w0, by decide +kernel⟩,
   ⟨3, { w0 with tq := { w0.tq with reads := [(3, .ring 1 0 2)] } }, .ring 1 0 2, by decide +kernel⟩,
   ⟨3, [], { w0 with tq := { w0.tq with reads := [(3, .ring 1 0 2)] } }, .ring 1 0 2, by decide +kernel⟩,
   ⟨3, [5],
     { wx [] [(1, { qst 2 [2] [] with fetch := some { tail := 2, first := 0, count := 2 } })] [] with tq := { (wx [] [(1, { qst 2 [2] [] with fetch := some { tail := 2, first := 0, count := 2 } })] []).tq with reads := [(3, .ring 1 0 2)] } },
     1, 0, 2, { tail := 2, first := 0, count := 2 }, by decide +kernel⟩,
   ⟨3, [5], { w0 with tq := { w0.tq with reads := [(3, .data 1 1 1 0 1)] } }, 1, 1, 1, 0, 1, by decide +kernel⟩,
   ⟨3, { w0 with tq := { w0.tq with reads := [(3, .ring 1 0 2)] } }, 1, 0, 2, by decide +kernel⟩,
   ⟨2, { w0 with pci := { w0.pci with unmasked := [(5, true), (130, true)] } }, 130, by decide +kernel⟩,
   ⟨2, { w0 with pci := { w0.pci with unmasked := [(5, true), (130, true)] } }, 5, by decide +kernel⟩,
   ⟨{ w0 with pci := { w0.pci with vecPend := [(5, true)] } }, by decide +kernel⟩⟩

/-- The hypotheses of RegulationRows are met, clause by clause. -/
theorem test_wit_RegulationRows :
    (∃ (s : State), frameRuns s = true ∧ (∀ (n : Nat), (linkAt s n).txq = []) ∧ s.qos.host = [] ∧ s.brk.clamps = [] ∧ (∀ (r c :
      Nat), heldByMax s r c = false)) ∧
    (∃ (r : Nat) (q : QReq) (s : State), r < 3 ∧ q.cls < 16 ∧ pastTarget s r q = true) ∧
    (∃ (r : Nat) (q : QReq) (s : State), r < 3 ∧ q.cls < 16 ∧ pastTarget s r q = false) ∧
    (∃ (s : State), frameRuns s = true ∧ s.qos.winMiss = []) ∧
    (∃ (s : State) (c : Nat) (n : Nat), frameRuns s = true ∧ s.qos.winMiss = [(c, n)] ∧ flag s F.QOS_TOKB.MISSIRQ c = false ∧ getF s
      F.QOS_CTL.MISSLIM < n) ∧
    (∃ (s : State) (c : Nat) (n : Nat), frameRuns s = true ∧ s.qos.winMiss = [(c, n)] ∧ flag s F.QOS_TOKB.MISSIRQ c = false ∧ n ≤
      getF s F.QOS_CTL.MISSLIM) ∧
    (∃ (cycles : BitVec 32) (a : Nat) (b : Nat) (busy : Nat) (pct : Nat) (s : State), frameRuns s = true ∧ cycles ≠ 0 ∧ a = get64 s
      Reg.MSH_ISTHS2N_LO Reg.MSH_ISTHS2N_HI 0 ∧ b = get64 s Reg.MSH_ISTHN2S_LO Reg.MSH_ISTHN2S_HI 0 ∧ s.qos.isthS2N ≤ a ∧
      s.qos.isthN2S ≤ b ∧ busy = max (a - s.qos.isthS2N) (b - s.qos.isthN2S) ∧ pct = min 100 (busy * 100 / (48 * cycles.toNat))) ∧
    (∃ (s : State), barOpen s = true ∧ getF s F.BRK_PSSTAT.STATE = 2) ∧
    (∃ (s : State), barOpen s = true ∧ getF s F.BRK_PSSTAT.STATE ≠ 2) :=
  ⟨⟨{ w0 with qos := { w0.qos with used := [(3, 64)] } },
     by exact ⟨by decide +kernel, fun _ => rfl, rfl, rfl, fun r c => none_waits (fun r j => match r with | 0 => rfl | 1 => rfl | _ + 2 => rfl) r c⟩⟩,
   ⟨0, { cls := 2, arr := 0, idx := 0 }, { setF F.QOS_TOKB.TARGET 2 4 w0 with time := 5 }, by decide +kernel⟩,
   ⟨0, { cls := 2, arr := 0, idx := 0 }, { setF F.QOS_TOKB.TARGET 2 4 w0 with time := 1 }, by decide +kernel⟩,
   ⟨w0, by decide +kernel⟩,
   ⟨setF F.QOS_CTL.MISSLIM 0 2 { w0 with qos := { w0.qos with winMiss := [(2, 3)], winOver := [(2, true)] } }, 2, 3,
     by decide +kernel⟩,
   ⟨setF F.QOS_CTL.MISSLIM 0 2 { w0 with qos := { w0.qos with winMiss := [(2, 2)], winOver := [(2, true)] } }, 2, 2,
     by decide +kernel⟩,
   ⟨1, 48, 5, 38, 79, setReg .MSH_ISTHS2N_LO 0 48 (setReg .MSH_ISTHN2S_LO 0 5 { w0 with qos := { w0.qos with isthS2N := 10 } }),
     by decide +kernel⟩,
   ⟨setF F.BRK_PSSTAT.STATE 0 2 w0, by decide +kernel⟩,
   ⟨setF F.BRK_COVESTAT.STATE 1 2 w0, by decide +kernel⟩⟩

/-- The hypotheses of ClockAndCoves are met, clause by clause. -/
theorem test_wit_ClockAndCoves :
    (∃ (s : State), s.brk.loopF < 4) ∧
    (∃ (s : State), clocksRun s = true ∧ s.brk.loopF < 4 ∧ clampOf s 3 0 = none ∧ s.brk.overs = [] ∧ getF s F.BRK_AVFSENV.FMIN =
      getF s F.BRK_AVFSENV.FMAX) ∧
    (∃ (pct : Fin 101) (s : State), clocksRun s = true ∧ s.brk.loopF < 4 ∧ clampOf s 3 0 = none ∧ s.brk.overs = [] ∧ getF s
      F.BRK_AVFSENV.FMIN < getF s F.BRK_AVFSENV.FMAX ∧ ↑pct < 25 ∧ getF s F.BRK_AVFSENV.FMIN < s.brk.loopF) ∧
    (∃ (pct : Fin 101) (s : State), clocksRun s = true ∧ s.brk.loopF < 4 ∧ clampOf s 3 0 = none ∧ s.brk.overs = [] ∧ getF s
      F.BRK_AVFSENV.FMIN < getF s F.BRK_AVFSENV.FMAX ∧ ↑pct < 25 ∧ s.brk.loopF = getF s F.BRK_AVFSENV.FMIN ∧ s.brk.loopF ≤ min
      s.brk.capI s.brk.capT) ∧
    (∃ (pct : Fin 101) (s : State), clocksRun s = true ∧ s.brk.loopF < 4 ∧ clampOf s 3 0 = none ∧ s.brk.overs = [] ∧ getF s
      F.BRK_AVFSENV.FMIN < getF s F.BRK_AVFSENV.FMAX ∧ 60 < ↑pct ∧ s.brk.loopF < getF s F.BRK_AVFSENV.FMAX) ∧
    (∃ (pct : Fin 101) (s : State), clocksRun s = true ∧ s.brk.loopF < 4 ∧ clampOf s 3 0 = none ∧ s.brk.overs = [] ∧ getF s
      F.BRK_AVFSENV.FMIN < getF s F.BRK_AVFSENV.FMAX ∧ 25 ≤ ↑pct ∧ ↑pct ≤ 60) ∧
    (∃ (k : Fin 4) (s : State), mapGet s.brk.avsMiss (↑k) 0 = 2) ∧
    (∃ (k : Fin 4) (s : State), mapGet s.brk.avsMiss (↑k) 0 < 2) ∧
    (∃ (c : CoveId) (s : State), clocksRun s = true ∧ coveState s ↑c = 0 ∧ coveIdle s ↑c = true) ∧
    (∃ (c : CoveId) (s : State), clocksRun s = true ∧ coveIdle s ↑c = false) ∧
    (∃ (c : CoveId) (s : State), 1 ≤ phase s ∧ phase s ≤ 5 ∧ wakeAsked s ↑c = true ∧ coveState s ↑c = 2) ∧
    (∃ (c : CoveId) (s : State), 1 ≤ phase s ∧ phase s ≤ 5 ∧ wakeAsked s ↑c = false) ∧
    (∃ (c : CoveId) (s : State), 1 ≤ phase s ∧ phase s ≤ 5 ∧ coveState s ↑c = 3) ∧
    (∃ (s : State), phase s = 3 ∧ clocksRun s = true ∧ flag s F.BRK_PSCTL.SLACK_EN = true ∧ fullyIdle s = true) ∧
    (∃ (s : State), phase s = 3 ∧ getF s F.BRK_PSSTAT.STATE = 2) :=
  ⟨⟨{ w0 with brk := { w0.brk with capI := 1 } }, by decide +kernel⟩,
   ⟨setF F.BRK_AVFSENV.FMIN 0 2 (setF F.BRK_AVFSENV.FMAX 0 2 w0), by decide +kernel⟩,
   ⟨10, setF F.BRK_AVFSENV.FMIN 0 1 (setF F.BRK_AVFSENV.FMAX 0 3 w0), by decide +kernel⟩,
   ⟨10, setF F.BRK_AVFSENV.FMIN 0 1 (setF F.BRK_AVFSENV.FMAX 0 3 { w0 with brk := { w0.brk with loopF := 1 } }), by decide +kernel⟩,
   ⟨61, setF F.BRK_AVFSENV.FMIN 0 1 (setF F.BRK_AVFSENV.FMAX 0 3 { w0 with brk := { w0.brk with loopF := 1 } }), by decide +kernel⟩,
   ⟨60, setF F.BRK_AVFSENV.FMIN 0 1 (setF F.BRK_AVFSENV.FMAX 0 3 w0), by decide +kernel⟩,
   ⟨2, { w0 with brk := { w0.brk with avsMiss := [(2, 2)] } }, by decide +kernel⟩,
   ⟨2, { w0 with brk := { w0.brk with avsMiss := [(2, 1)] } }, by decide +kernel⟩,
   ⟨3, setF F.BRK_COVESTAT.STATE 3 0 (setF F.BRK_COVECTL.GATE_EN 0 0xFFFF w0), by decide +kernel⟩,
   ⟨3, setF F.BRK_COVECTL.GATE_EN 0 0 w0, by decide +kernel⟩,
   ⟨3, setF F.BRK_COVESTAT.STATE 3 2 { w0 with brk := { w0.brk with wakeReq := 8 } }, by decide +kernel⟩,
   ⟨3, setF F.BRK_COVESTAT.STATE 3 2 w0, by decide +kernel⟩,
   ⟨3, setF F.BRK_COVESTAT.STATE 3 3 { w0 with brk := { w0.brk with wakeReq := 8 } }, by decide +kernel⟩,
   ⟨setF F.BRK_PSCTL.SLACK_EN 0 1 w0, by decide +kernel⟩,
   ⟨setF F.BRK_COVESTAT.STATE 3 2 (setF F.BRK_PSSTAT.STATE 0 2 w0), by decide +kernel⟩⟩

/-- The hypotheses of SamplesAreHeld are met, clause by clause. -/
theorem test_wit_SamplesAreHeld :
    (∃ (j : Fin 21) (x : CurSense) (s : State), x = mapGet s.brk.isens ↑j { }) :=
  ⟨2, {}, w0, by decide +kernel⟩

/-- The hypotheses of SensorsAndLimits are met, clause by clause. -/
theorem test_wit_SensorsAndLimits :
    (∃ (src : Fin 18) (s : State) (b : Bool), clocksRun s = true ∧ mapFind s.brk.trips ↑src = some b) ∧
    (∃ (src : Fin 18) (s : State), clocksRun s = true ∧ s.brk.trips = [(↑src, true)]) ∧
    (∃ (s : State), 1 ≤ phase s ∧ phase s ≤ 5) ∧
    (∃ (t : Fin 64) (s : State), phase s ≠ 0 ∧ phase s ≠ 6 ∧ mapGet s.brk.hotRun (↑t) 0 = 2) ∧
    (∃ (e : EvArgs) (s : State) (p : Nat), phase s ≠ 6 ∧ e.code < 65536 ∧ p < 8) ∧
    (∃ (e : EvArgs) (s : State) (n : Nat), phase s ≠ 6 ∧ e.code < 65536 ∧ n < 24) ∧
    (∃ (x : CurSense) (lo : Nat), x.dual = 0 ∧ x.high = false ∧ x.hold = 0 ∧ 15019 ≤ lo) ∧
    (∃ (x : CurSense) (hi : Nat), x.dual = 0 ∧ x.high = true ∧ x.hold = 0 ∧ hi ≤ 1228 ∧ 15 ≤ x.run) ∧
    (∃ (x : CurSense), x.dual = 1) ∧
    (∃ (s : State), phase s ≠ 0) ∧
    (∃ (s : State), s.brk.loopF < 4 ∧ flag s F.BRK_PSSTAT.THROTTLE = true ∧ dieHot s = true) ∧
    (∃ (s : State) (q : Int), s.brk.loopF < 4 ∧ flag s F.BRK_PSSTAT.THROTTLE = true ∧ dieTemp s = some q ∧ q < throttleQ s - 12) ∧
    (∃ (s : State), s.brk.loopF < 4 ∧ flag s F.BRK_PSSTAT.THROTTLE = false) ∧
    (∃ (k : Fin 4) (mean : BitVec 20) (s : State), 1 ≤ phase s ∧ phase s ≤ 5 ∧ s.brk.loopF < 4 ∧ getF s F.BRK_RAILLIM.AMPS ↑k * 1000 <
      mean.toNat ∧ s.brk.railOver = 0) ∧
    (∃ (k : Fin 4) (mean : BitVec 20) (s : State), 1 ≤ phase s ∧ phase s ≤ 5 ∧ s.brk.loopF < 4 ∧ getF s F.BRK_RAILLIM.AMPS ↑k * 1000 <
      mean.toNat ∧ s.brk.railOver ≠ 0) ∧
    (∃ (k : Fin 4) (mean : BitVec 20) (s : State), 1 ≤ phase s ∧ phase s ≤ 5 ∧ s.brk.loopF < 4 ∧ mean.toNat ≤ getF s
      F.BRK_RAILLIM.AMPS ↑k * 1000 ∧ bitAt (getReg s Reg.BRK_ISAMP (16 + ↑k)) 16 = false ∧ s.brk.railOver = 0) ∧
    (∃ (s : State), clocksRun s = true ∧ ∀ (p : Nat), p < 8 → cdLimitOf s p < 65536) ∧
    (∃ (p : PortId) (s : State), clocksRun s = true ∧ portState s ↑p = 3 ∧ getF s F.BRK_CDLIM.WATTS ↑p * 105000 < cdPower s ↑p) ∧
    (∃ (p : PortId) (s : State), clocksRun s = true ∧ cdPower s ↑p ≤ getF s F.BRK_CDLIM.WATTS ↑p * 105000) :=
  ⟨⟨3, { w0 with brk := { w0.brk with trips := [(3, false)] } }, false, by decide +kernel⟩,
   ⟨3, setF F.BRK_PSSTAT.DROOP 0 1 (setF F.BRK_COVESTAT.DRP 3 1 { w0 with brk := { w0.brk with trips := [(3, true)] } }),
     by decide +kernel⟩,
   ⟨w0, by decide +kernel⟩,
   ⟨5, { w0 with brk := { w0.brk with hotRun := [(5, 2)] } }, by decide +kernel⟩,
   ⟨{ code := Ev.BRK_UV }, w0, 3, by decide +kernel⟩,
   ⟨{ code := Ev.BRK_UV }, w0, 3, by decide +kernel⟩,
   ⟨{}, 15019, by decide +kernel⟩,
   ⟨{ high := true, run := 15 }, 1228, by decide +kernel⟩,
   ⟨{ dual := 1 }, by decide +kernel⟩,
   ⟨{ w0 with brk := { w0.brk with hotRun := [(5, 1)] } }, by decide +kernel⟩,
   ⟨setF F.BRK_TEMP.TEMP 5 400 (setF F.BRK_PSSTAT.THROTTLE 0 1 { w0 with brk := { w0.brk with tempSeen := [(5, true)], capT := 2 } }),
     by decide +kernel⟩,
   ⟨setF F.BRK_TEMP.TEMP 5 40 (setF F.BRK_PSSTAT.THROTTLE 0 1 { w0 with brk := { w0.brk with tempSeen := [(5, true)], capT := 1 } }),
     40, by decide +kernel⟩,
   ⟨w0, by decide +kernel⟩,
   ⟨1, 500000, setF F.BRK_RAILLIM.AMPS 1 400 w0, by decide +kernel⟩,
   ⟨1, 500000, setF F.BRK_RAILLIM.AMPS 1 400 { w0 with brk := { w0.brk with railOver := 1 } }, by decide +kernel⟩,
   ⟨1, 300000, setF F.BRK_RAILLIM.AMPS 1 400 w0, by decide +kernel⟩,
   ⟨setF F.SHL_PSTAT.STATE 3 3 w0, by refine ⟨?_, ?_⟩ <;> first | decide +kernel⟩,
   ⟨3, setF F.SHL_PSTAT.STATE 3 3 (setF F.SHL_PSTAT.TELEM 3 1 (setF F.SHL_TELEMA.VOUT 3 900 (setF F.SHL_TELEMB.IOUT 3 900 w0))),
     by decide +kernel⟩,
   ⟨3, w0, by decide +kernel⟩⟩

/-- The hypotheses of ClampsAndOverrides are met, clause by clause. -/
theorem test_wit_ClampsAndOverrides :
    (∃ (loop : Nat) (inst : Nat) (s : State), 1 ≤ loop ∧ loop ≤ 6 ∧ clampOf s loop inst = none) ∧
    (∃ (loop : Nat) (inst : Nat) (s : State) (c : Clamp), 1 ≤ loop ∧ loop ≤ 6 ∧ clampOf s loop inst = some c ∧ loop = 3) ∧
    (∃ (loop : Nat) (inst : Nat) (s : State) (c : Clamp), 1 ≤ loop ∧ loop ≤ 6 ∧ clampOf s loop inst = some c ∧ s.brk.clamps = [c]) ∧
    (∃ (loop : Fin 7) (inst : Fin 48) (s : State), clampOf s ↑loop ↑inst = none) ∧
    (∃ (loop : Fin 7) (inst : Fin 48) (c : Clamp) (s : State), clampOf s ↑loop ↑inst = some c ∧ (c.raised = true ∨ (clampIrq s ↑loop
      ↑inst).fst = false)) ∧
    (∃ (loop : Fin 7) (inst : Fin 48) (c : Clamp) (s : State), clampOf s ↑loop ↑inst = some c ∧ c.raised = false ∧ (clampIrq s ↑loop
      ↑inst).fst = true) ∧
    (∃ (loop : Nat) (inst : Nat) (s : State), List.find? (fun (o : Nat × Nat × Nat) => o.fst == loop && o.snd.fst == inst) s.brk.overs
      = none) ∧
    (∃ (loop : Nat) (inst : Nat) (s : State) (o : Nat × Nat × Nat), List.find? (fun (o : Nat × Nat × Nat) => o.fst == loop &&
      o.snd.fst == inst) s.brk.overs = some o) :=
  ⟨⟨3, 0, w0, by decide +kernel⟩,
   ⟨3, 0, { w0 with time := 50000, brk := { w0.brk with clamps := [{ loop := 3, inst := 0, start := 0, raised := false }] } },
     { loop := 3, inst := 0, start := 0, raised := false }, by decide +kernel⟩,
   ⟨3, 0, clampBegin 3 0 w0, { loop := 3, inst := 0, start := 0, raised := false }, by decide +kernel⟩,
   ⟨3, 0, w0, by decide +kernel⟩,
   ⟨3, 0, { loop := 3, inst := 0, start := 0, raised := true },
     { w0 with time := 50000, brk := { w0.brk with clamps := [{ loop := 3, inst := 0, start := 0, raised := true }] } },
     by decide +kernel⟩,
   ⟨3, 0, { loop := 3, inst := 0, start := 0, raised := false }, setF F.BRK_CLAMPIRQ.EN 0 1
     { w0 with time := 50000, brk := { w0.brk with clamps := [{ loop := 3, inst := 0, start := 0, raised := false }] } },
     by decide +kernel⟩,
   ⟨3, 0, w0, by decide +kernel⟩,
   ⟨3, 0, { w0 with brk := { w0.brk with overs := [(3, 0, 5)] } }, (3, 0, 5), by decide +kernel⟩⟩

/-- The hypotheses of MailboxCommands are met, clause by clause. -/
theorem test_wit_MailboxCommands :
    (∃ (i : Instr) (s : State), i ∈ [Instr.keyGen, Instr.keyRotate, Instr.keyDestroy, Instr.rootRotate, Instr.rootRetire,
      Instr.leaseRelease, Instr.enrol, Instr.rosterRead, Instr.identRead] ∧ barOpen s = true ∧ flag s F.HLD_STAT.BUSY = true) ∧
    (∃ (k : Nat) (s : State) (i : Instr), barOpen s = true ∧ flag s F.HLD_STAT.BUSY = false ∧ k = mbxArg s 0 ∧ 63 < k ∧ i ∈
      [Instr.keyGen, Instr.keyRotate, Instr.keyDestroy]) ∧
    (∃ (k : Nat) (s : State), barOpen s = true ∧ flag s F.HLD_STAT.BUSY = false ∧ k = mbxArg s 0 ∧ k ≤ 63 ∧ flag s F.HLD_ROLE.QUAR =
      false ∧ getF s F.HLD_SLOTST.STATE k = 0) ∧
    (∃ (k : Nat) (s : State), barOpen s = true ∧ flag s F.HLD_STAT.BUSY = false ∧ k = mbxArg s 0 ∧ k ≤ 63 ∧ flag s F.HLD_ROLE.QUAR =
      true) ∧
    (∃ (k : Nat) (s : State) (g : Nat), barOpen s = true ∧ flag s F.HLD_STAT.BUSY = false ∧ k = mbxArg s 0 ∧ k ≤ 63 ∧ getF s
      F.HLD_SLOTST.STATE k = 1 ∧ getF s F.MEM_ROTSTAT.PENDING k = 0 ∧ g = 1 - getF s F.HLD_SLOTST.CURGEN k) ∧
    (∃ (k : Nat) (s : State), barOpen s = true ∧ flag s F.HLD_STAT.BUSY = false ∧ k = mbxArg s 0 ∧ k ≤ 63 ∧ slotUsed s k = false ∧
      getF s F.HLD_SLOTST.STATE k = 1) ∧
    (∃ (k : Nat) (s : State), barOpen s = true ∧ flag s F.HLD_STAT.BUSY = false ∧ k = mbxArg s 0 ∧ k ≤ 63 ∧ slotUsed s k = true) ∧
    (∃ (g : Nat) (s : State), barOpen s = true ∧ flag s F.HLD_STAT.BUSY = false ∧ g = 1 - s.hld.rootGen ∧ flag s F.HLD_ROOTGEN.BOTH =
      false) ∧
    (∃ (g : Nat) (s : State), barOpen s = true ∧ flag s F.HLD_STAT.BUSY = false ∧ g = 1 - s.hld.rootGen ∧ flag s F.HLD_ROOTGEN.BOTH =
      true ∧ rootNeeded s g = false) ∧
    (∃ (g : Nat) (s : State), barOpen s = true ∧ flag s F.HLD_STAT.BUSY = false ∧ g = 1 - s.hld.rootGen ∧ flag s F.HLD_ROOTGEN.BOTH =
      true ∧ rootNeeded s g = true) ∧
    (∃ (s : State), barOpen s = true ∧ flag s F.HLD_STAT.BUSY = false ∧ role s = 3) ∧
    (∃ (s : State), barOpen s = true ∧ flag s F.HLD_STAT.BUSY = false ∧ role s ≠ 3) ∧
    (∃ (s : State), barOpen s = true ∧ flag s F.HLD_STAT.BUSY = false ∧ 1 < mbxArg s 0) ∧
    (∃ (s : State), barOpen s = true ∧ flag s F.HLD_STAT.BUSY = false ∧ mbxArg s 0 ≤ 1) ∧
    (∃ (s : State) (v : BitVec 2048), barOpen s = true ∧ flag s F.HLD_STAT.BUSY = false ∧ v = enrolBits (List.map (bufSector s)
      (List.range 4)) ∧ role s = 3) ∧
    (∃ (s : State) (v : BitVec 2048), barOpen s = true ∧ flag s F.HLD_STAT.BUSY = false ∧ v = enrolBits (List.map (bufSector s)
      (List.range 4)) ∧ role s ≠ 3 ∧ flag s F.HLD_ROLE.SVALID = false) ∧
    (∃ (s : State), s.hld.mbx = none) ∧
    (∃ (s : State) (err : Nat) (rsp : List Nat), s.hld.mbx = some (err, rsp)) ∧
    (∃ (s : State), s.hld.enrolWait = none) ∧
    (∃ (s : State) (w : Nat × Nat), s.hld.enrolWait = some w) ∧
    (∃ (err : Nat) (rsp : List Nat) (i : Nat) (v : Nat), err < 8 ∧ i < 8 ∧ rsp[i]? = some v ∧ v < 2 ^ 32) :=
  ⟨⟨.keyGen, setF F.HLD_STAT.BUSY 0 1 w0, by decide +kernel⟩,
   ⟨64, setF F.HLD_ARG.VALUE 0 64 w0, .keyGen, by decide +kernel⟩,
   ⟨5, setF F.HLD_ARG.VALUE 0 5 w0, by decide +kernel⟩,
   ⟨5, setF F.HLD_ROLE.QUAR 0 1 (setF F.HLD_ARG.VALUE 0 5 w0), by decide +kernel⟩,
   ⟨5, setF F.HLD_SLOTST.STATE 5 1 (setF F.HLD_ARG.VALUE 0 5 w0), 1, by decide +kernel⟩,
   ⟨5, setF F.HLD_SLOTST.STATE 5 1 (setF F.HLD_ARG.VALUE 0 5 w0),
     by exact ⟨by decide +kernel, by decide +kernel, by decide +kernel, by decide, none_used (fun j => by rw [getReg_setF_ne _ _ _ _ _ _ (.inl (by decide)), getReg_setF_ne _ _ _ _ _ _ (.inl (by decide)), keymap_w0]) 5, by decide +kernel⟩⟩,
   ⟨5, setReg .MEM_KEYMAP 0 0x85 (setF F.HLD_SLOTST.STATE 5 1 (setF F.HLD_ARG.VALUE 0 5 w0)), by decide +kernel⟩,
   ⟨1, w0, by decide +kernel⟩,
   ⟨1, setF F.HLD_ROOTGEN.BOTH 0 1 w0, by decide +kernel⟩,
   ⟨1, setF F.HLD_ROOTGEN.BOTH 0 1 (wq 0 { bnew [0] with sent := [.record (some 1) {} 0 128 (1 * 2 ^ 240)] }), by decide +kernel⟩,
   ⟨wst, by decide +kernel⟩,
   ⟨w0, by decide +kernel⟩,
   ⟨setF F.HLD_ARG.VALUE 0 2 w0, by decide +kernel⟩,
   ⟨setF F.HLD_ARG.VALUE 0 1 w0, by decide +kernel⟩,
   ⟨wst, 0, by decide +kernel⟩,
   ⟨w0, 0, by decide +kernel⟩,
   ⟨w0, by decide +kernel⟩,
   ⟨{ w0 with hld := { w0.hld with mbx := some (3, [7]) } }, 3, [7], by decide +kernel⟩,
   ⟨w0, by decide +kernel⟩,
   ⟨{ w0 with hld := { w0.hld with enrolWait := some (4, 9) } }, (4, 9), by decide +kernel⟩,
   ⟨3, [7], 0, 7, by decide +kernel⟩⟩

/-- The hypotheses of AttestationRequests are met, clause by clause. -/
theorem test_wit_AttestationRequests :
    (∃ (t : Transport) (s : State), 1 ≤ phase s ∧ sidebandUp s t = false) ∧
    (∃ (t : Transport) (r : SpdmReq) (s : State) (a : SpdmAns) (c : Spdm), 1 ≤ phase s ∧ sidebandUp s t = true ∧ spdmRespond s
      (spdmAt s t.num) r = (a, c)) ∧
    (∃ (n : LinkId) (m : TwyMsg) (s : State), 1 ≤ phase s ∧ Waiting s (↑n) 1 (fun (_ : State) (m : TwyMsg) => isMember mkSpdm m) m ∧
      byteField m.body 1 1 = 1) ∧
    (∃ (n : LinkId) (m : TwyMsg) (s : State) (a : SpdmAns) (u : State), 1 ≤ phase s ∧ Waiting s (↑n) 1 (fun (_ : State) (m : TwyMsg)
      => isMember mkSpdm m) m ∧ byteField m.body 1 1 ≠ 1 ∧ spdmServe (3 + m.src) (spdmDecode m) (rxDrop (↑n) m s) = (a, u)) ∧
    (∃ (c : Spdm) (r : SpdmReq), c.level < 3 ∧ c.session = none ∧ c.exchange = none ∧ r ≠ SpdmReq.getVersion ∧ r ≠
      SpdmReq.getCapabilities ∧ (∀ (b : Bool), r ≠ SpdmReq.negotiate b)) ∧
    (∃ (c : Spdm), 1 ≤ c.level) ∧
    (∃ (c : Spdm), 2 ≤ c.level) ∧
    (∃ (c : Spdm) (index : Byte), c.level = 3 ∧ 1 ≤ BitVec.toNat index ∧ BitVec.toNat index ≤ 6) ∧
    (∃ (c : Spdm) (k : BitVec 256), c.exchange = some k) ∧
    (∃ (who : Fin 35) (asid : BitVec 16) (gen : Byte) (s : State), 1 ≤ phase s ∧ ((spdmAt s ↑who).session = none ∨ (ctxAt s
      asid.toNat).bound = false ∨ mapFind s.hld.roots (BitVec.toNat gen) = none)) ∧
    (∃ (who : Fin 35) (asid : BitVec 16) (gen : Byte) (s : State), 1 ≤ phase s ∧ (spdmAt s ↑who).session ≠ none ∧ (ctxAt s
      asid.toNat).bound = true ∧ mapFind s.hld.roots (BitVec.toNat gen) ≠ none) ∧
    (∃ (t : Transport) (s : State) (e : Byte), 1 ≤ phase s ∧ sidebandUp s t = true ∧ e ≠ 0) ∧
    (∃ (t : Transport) (s : State), 1 ≤ phase s ∧ sidebandUp s t = true ∧ (spdmAt s t.num).session = none) :=
  ⟨⟨.pcie, w0, by decide +kernel⟩,
   ⟨.pcie, .keyUpdate, setF F.PCI_LINK.UP 0 1 w0, .error, {}, by decide +kernel⟩,
   ⟨3, msg 0x12 1 0x110, wm (msg 0x12 1 0x110) w0, by unfold Waiting; decide +kernel⟩,
   ⟨3, msg 0x12 1 0x60010, wm (msg 0x12 1 0x60010) w0, _, _, by decide +kernel, by unfold Waiting; decide +kernel, by decide +kernel,
     pair_eq _⟩,
   ⟨{ level := 2 }, .getDigests, by refine ⟨?_, ?_, ?_, ?_, ?_, ?_⟩ <;> first | decide +kernel⟩,
   ⟨{ level := 1 }, by decide +kernel⟩,
   ⟨{ level := 2 }, by decide +kernel⟩,
   ⟨{ level := 3 }, 6, by decide +kernel⟩,
   ⟨{ level := 3, exchange := some 7 }, 7, by decide +kernel⟩,
   ⟨3, 5, 0, wx [] [] [], by decide +kernel⟩,
   ⟨3, 5, 0, { wx [] [] [] with hld := { w0.hld with roots := [(0, 9)], spdm := [(3, { session := some 7 })] } }, by decide +kernel⟩,
   ⟨.pcie, setF F.PCI_LINK.UP 0 1 w0, 9, by decide +kernel⟩,
   ⟨.pcie, setF F.PCI_LINK.UP 0 1 w0, by decide +kernel⟩⟩

/-- The hypotheses of ColdStartPhases are met, clause by clause. -/
theorem test_wit_ColdStartPhases :
    (∃ (cause : Nat) (i : Instr), (cause, i) ∈ [(0, Instr.powerOn), (0, Instr.vaoBrownout), (1, Instr.resetNAssert)]) ∧
    (∃ (s : State), s.rst.resetN = true) ∧
    (∃ (s : State), s.rst.resetN = false) ∧
    (∃ (s : State), phase s ≠ 0 ∨ s.rst.resetN = false) ∧
    (∃ (ok : Bool) (s : State), phase s = 0 ∧ s.rst.resetN = true ∧ ok = false) ∧
    (∃ (ok : Bool) (s : State), phase s = 0 ∧ s.rst.resetN = true ∧ ok = true ∧ flag s F.GLB_STRAP.RECOV = true) ∧
    (∃ (ok : Bool) (s : State), phase s = 0 ∧ s.rst.resetN = true ∧ ok = true ∧ flag s F.GLB_STRAP.RECOV = false ∧ s.fwu.marker = 2) ∧
    (∃ (ok : Bool) (s : State), phase s = 0 ∧ s.rst.resetN = true ∧ ok = true ∧ flag s F.GLB_STRAP.RECOV = false ∧ s.fwu.marker = 3 ∧
      2 ≤ s.fwu.boots) ∧
    (∃ (ok : Bool) (flash : Bool) (s : State), phase s = 0 ∧ s.rst.resetN = true ∧ ok = true ∧ flag s F.GLB_STRAP.RECOV = false ∧
      s.fwu.marker = 0 ∧ flash = false) ∧
    (∃ (ok : Bool) (flash : Bool) (s : State), phase s = 0 ∧ s.rst.resetN = true ∧ ok = true ∧ flag s F.GLB_STRAP.RECOV = false ∧
      s.fwu.marker = 0 ∧ flash = true ∧ mapFind s.fwu.active 1 = none) ∧
    (∃ (s : State), phase s ≠ 1) ∧
    (∃ (s : State), phase s = 1) ∧
    (∃ (s : State), phase s = 2 ∧ s.mem.trained = true ∧ ∀ (p : Nat), p < 8 → portState s p = 0 ∨ portState s p = 3 ∨ portState s p =
      5) ∧
    (∃ (s : State), phase s ≠ 2 ∨ s.mem.trained = false) :=
  ⟨⟨1, .resetNAssert, by decide +kernel⟩,
   ⟨w0, by decide +kernel⟩,
   ⟨{ w0 with rst := { w0.rst with resetN := false, perst := true } }, by decide +kernel⟩,
   ⟨w0, by decide +kernel⟩,
   ⟨false, State.reset, by decide +kernel⟩,
   ⟨true, setF F.GLB_STRAP.RECOV 0 1 State.reset, by decide +kernel⟩,
   ⟨true, { State.reset with fwu := { State.reset.fwu with marker := 2 } }, by decide +kernel⟩,
   ⟨true, { State.reset with fwu := { State.reset.fwu with marker := 3, boots := 2 } }, by decide +kernel⟩,
   ⟨true, false, State.reset, by decide +kernel⟩,
   ⟨true, true, State.reset, by decide +kernel⟩,
   ⟨w0, by decide +kernel⟩,
   ⟨setF F.SHL_PCTL.EN 3 1 (setF F.TWY_LINKCTL.EN 1 1 (setF F.GLB_STATUS.PHASE 0 1 State.reset)), by decide +kernel⟩,
   ⟨setF F.GLB_STATUS.PHASE 0 2 w0, by refine ⟨?_, ?_, ?_⟩ <;> first | decide +kernel⟩,
   ⟨w0, by decide +kernel⟩⟩

/-- The hypotheses of WarmResets are met, clause by clause. -/
theorem test_wit_WarmResets :
    (∃ (cause : Nat) (i : Instr) (s : State), (cause, i) ∈ [(8, Instr.glbResetWarm), (9, Instr.perstNFall), (10, Instr.pciHotReset),
      (11, Instr.pfFlr)] ∧ phase s = 3 ∧ s.rst.warm = 0 ∧ s.rst.resetN = true ∧ s.rst.ready = true ∧ s.rst.perst = true ∧
      s.rst.perstSeen = true ∧ flag s F.PCI_LINK.UP = true) ∧
    (∃ (s : State), phase s = 6) ∧
    (∃ (s : State), 3 ≤ phase s ∧ phase s ≤ 5 ∧ role s ≠ 3 ∧ flag s F.HLD_ROLE.SVALID = false) ∧
    (∃ (s : State), s.rst.perst = true) ∧
    (∃ (s : State), s.rst.perst = false) ∧
    (∃ (s : State), s.rst.warm ≠ 1) ∧
    (∃ (s : State) (v : State) (w : State), s.rst.warm = 1 ∧ (v = if role (slackLeave s) = 3 then leaseRelease 1 (slackLeave s) else
      toSteward mkReset [(1, 1, 1)] [] id (slackLeave s)) ∧ w = setF F.GLB_STATUS.HOST_WAIT 0 1 (bump F.GLB_RSTCAUSE.WARMS 0 v)) ∧
    (∃ (p : Nat), p < 8) ∧
    (∃ (c : Nat), c < 16) ∧
    (∃ (s : State) (q : Nat) (x : TQueue), mapFind s.tq.queues q = some x) ∧
    (∃ (s : State) (v : Nat), HostReq.msix v ∈ s.pci.held) ∧
    (∃ (s : State), s.rst.warm ≠ 2 ∧ s.rst.warm ≠ 3) ∧
    (∃ (s : State), s.rst.warm = 3 ∧ flag s F.HBL_PARTNER.VALID = false) ∧
    (∃ (failed : Option ChanId) (s : State) (n : ChanId), s.rst.warm = 2 ∧ failed = some n) ∧
    (∃ (failed : Option ChanId) (s : State), s.rst.warm = 2 ∧ failed = none) ∧
    (∃ (s : State), phase s ≠ 6) ∧
    (∃ (n : LinkId) (m : TwyMsg) (s : State), headRuns s = true ∧ Waiting s (↑n) 1 (fun (_ : State) (m : TwyMsg) => isMember
      mkAnswer m) m ∧ s.rst.warm = 3 ∧ m.src = getF s F.HBL_PARTNER.DIE) ∧
    (∃ (n : LinkId) (m : TwyMsg) (s : State), headRuns s = true ∧ Waiting s (↑n) 1 (fun (_ : State) (m : TwyMsg) => isMember
      mkAnswer m) m ∧ s.rst.warm ≠ 3) ∧
    (∃ (s : State), barOpen s = true ∧ s.pci.held = []) ∧
    (∃ (s : State), barOpen s = true ∧ s.qos.host = [] ∧ flag s F.PCI_LINK.UP = true) :=
  ⟨⟨8, .glbResetWarm, setF F.PCI_LINK.UP 0 1 { w0 with rst := { w0.rst with perst := true, perstSeen := true } }, by decide +kernel⟩,
   ⟨setF F.GLB_STATUS.PHASE 0 6 w0, by decide +kernel⟩,
   ⟨w0, by decide +kernel⟩,
   ⟨{ w0 with rst := { w0.rst with perst := true } }, by decide +kernel⟩,
   ⟨w0, by decide +kernel⟩,
   ⟨w0, by decide +kernel⟩,
   ⟨{ w0 with rst := { w0.rst with warm := 1 } }, toSteward mkReset [(1, 1, 1)] [] id (slackLeave
     { w0 with rst := { w0.rst with warm := 1 } }), setF F.GLB_STATUS.HOST_WAIT 0 1 (bump F.GLB_RSTCAUSE.WARMS 0 (toSteward mkReset [(1,
     1, 1)] [] id (slackLeave { w0 with rst := { w0.rst with warm := 1 } }))), by decide +kernel⟩,
   ⟨3, by decide +kernel⟩,
   ⟨3, by decide +kernel⟩,
   ⟨wx [] [(1, qrun 0)] [], 1, qrun 0, by decide +kernel⟩,
   ⟨{ w0 with pci := { w0.pci with held := [.msix 5] } }, 5, by decide +kernel⟩,
   ⟨w0, by decide +kernel⟩,
   ⟨{ w0 with rst := { w0.rst with warm := 3 } }, by decide +kernel⟩,
   ⟨some 4, { w0 with rst := { w0.rst with warm := 2 } }, 4, by decide +kernel⟩,
   ⟨none, { w0 with rst := { w0.rst with warm := 2 } }, by decide +kernel⟩,
   ⟨w0, by decide +kernel⟩,
   ⟨3, msg 0x12 1 0xD, setF F.HBL_PARTNER.DIE 0 4 (wm (msg 0x12 1 0xD) { w0 with rst := { w0.rst with warm := 3 } }),
     by unfold Waiting; decide +kernel⟩,
   ⟨3, msg 0x12 1 0xD, wm (msg 0x12 1 0xD) w0, by unfold Waiting; decide +kernel⟩,
   ⟨setF F.GLB_STATUS.HOST_WAIT 0 1 w0, by decide +kernel⟩,
   ⟨setF F.PCI_LINK.UP 0 1 { w0 with pci := { w0.pci with held := [.msix 5] } }, by decide +kernel⟩⟩

/-- The hypotheses of LeavingAndRejoining are met, clause by clause. -/
theorem test_wit_LeavingAndRejoining :
    (∃ (s : State), barOpen s = true ∧ flag s F.GLB_STATUS.LEAVING = false ∧ flag s F.GLB_STATUS.LEFT = false ∧ role s ≠ 3 ∧ flag s
      F.HLD_ROLE.SVALID = false) ∧
    (∃ (s : State), flag s F.GLB_STATUS.LEAVING = true ∨ flag s F.GLB_STATUS.LEFT = true) ∧
    (∃ (s : State), barOpen s = true ∧ flag s F.GLB_STATUS.LEAVING = true ∧ flag s F.GLB_STATUS.LEFT = false ∧ noBatches s = true) ∧
    (∃ (s : State), barOpen s = true ∧ flag s F.GLB_STATUS.LEAVING = true ∧ flag s F.GLB_STATUS.LEFT = false ∧ noBatches s = false) ∧
    (∃ (s : State), barOpen s = true ∧ flag s F.GLB_STATUS.LEFT = true ∧ role s ≠ 3 ∧ flag s F.HLD_ROLE.SVALID = false) ∧
    (∃ (s : State), flag s F.GLB_STATUS.LEFT = false) ∧
    (∃ (s : State), s.twy.noClock = true) ∧
    (∃ (s : State), s.twy.noClock = false ∧ ∀ (n : Nat), n < 24 → linkState s n = 0) :=
  ⟨⟨w0, by decide +kernel⟩,
   ⟨setF F.GLB_STATUS.LEFT 0 1 w0, by decide +kernel⟩,
   ⟨setF F.GLB_STATUS.LEAVING 0 1 w0, by decide +kernel⟩,
   ⟨setF F.GLB_STATUS.LEAVING 0 1 (wx [] [(1, qst 2 [] [bacc [0]])] []), by decide +kernel⟩,
   ⟨setF F.GLB_STATUS.LEFT 0 1 (setF F.GLB_STATUS.LEAVING 0 1 w0), by decide +kernel⟩,
   ⟨w0, by decide +kernel⟩,
   ⟨{ w0 with twy := { w0.twy with noClock := true } }, by decide +kernel⟩,
   ⟨w0, by refine ⟨?_, ?_⟩ <;> first | decide +kernel⟩⟩

/-- The hypotheses of UpdateWindowCommands are met, clause by clause. -/
theorem test_wit_UpdateWindowCommands :
    (∃ (i : Instr) (s : State), i ∈ [Instr.fwuBegin, Instr.fwuChunk, Instr.fwuEnd, Instr.fwuCancel, Instr.fwuActCancel,
      Instr.fwuActivate []] ∧ barOpen s = true ∧ flag s F.FWU_STAT.BUSY = true) ∧
    (∃ (k : Nat) (s : State) (i : Instr), barOpen s = true ∧ flag s F.FWU_STAT.BUSY = false ∧ k = getF s F.FWU_ARG.VALUE ∧ actState s
      ≠ 0 ∧ i ∈ [Instr.fwuBegin, Instr.fwuCancel]) ∧
    (∃ (k : Nat) (s : State), barOpen s = true ∧ flag s F.FWU_STAT.BUSY = false ∧ k = getF s F.FWU_ARG.VALUE ∧ actState s = 0 ∧
      s.fwu.session.isSome = true) ∧
    (∃ (k : Nat) (s : State) (i : Instr), barOpen s = true ∧ flag s F.FWU_STAT.BUSY = false ∧ k = getF s F.FWU_ARG.VALUE ∧ actState s
      = 0 ∧ s.fwu.session = none ∧ (k = 0 ∨ 6 < k) ∧ i ∈ [Instr.fwuBegin, Instr.fwuCancel]) ∧
    (∃ (k : Nat) (s : State), barOpen s = true ∧ flag s F.FWU_STAT.BUSY = false ∧ k = getF s F.FWU_ARG.VALUE ∧ actState s = 0 ∧
      s.fwu.session = none ∧ 1 ≤ k ∧ k ≤ 6) ∧
    (∃ (k : Nat) (s : State) (j : Nat), barOpen s = true ∧ flag s F.FWU_STAT.BUSY = false ∧ k = getF s F.FWU_ARG.VALUE ∧ actState s =
      0 ∧ s.fwu.session = some (none, j) ∧ 1 ≤ j ∧ j ≤ 6 ∧ (getF s F.FWU_OFFSET.BYTES ≠ (stagedOf s j).length ∨ getF s F.FWU_LEN.BYTES =
      0)) ∧
    (∃ (k : Nat) (s : State) (j : Nat), barOpen s = true ∧ flag s F.FWU_STAT.BUSY = false ∧ k = getF s F.FWU_ARG.VALUE ∧ actState s =
      0 ∧ s.fwu.session = some (none, j) ∧ 1 ≤ j ∧ j ≤ 6 ∧ getF s F.FWU_OFFSET.BYTES = (stagedOf s j).length ∧ getF s F.FWU_LEN.BYTES ≠
      0 ∧ (stagedOf s j).length + getF s F.FWU_LEN.BYTES < 512 ∧ 4 ∣ getF s F.FWU_LEN.BYTES) ∧
    (∃ (k : Nat) (s : State) (j : Nat), barOpen s = true ∧ flag s F.FWU_STAT.BUSY = false ∧ k = getF s F.FWU_ARG.VALUE ∧ actState s =
      0 ∧ s.fwu.session = some (none, j) ∧ 1 ≤ j ∧ j ≤ 6 ∧ imgWhole (stagedOf s j) = false) ∧
    (∃ (k : Nat) (s : State) (j : Nat), barOpen s = true ∧ flag s F.FWU_STAT.BUSY = false ∧ k = getF s F.FWU_ARG.VALUE ∧ actState s =
      0 ∧ s.fwu.session = some (none, j) ∧ 1 ≤ j ∧ j ≤ 6 ∧ imgWhole (stagedOf s j) = true) ∧
    (∃ (k : Nat) (s : State), barOpen s = true ∧ flag s F.FWU_STAT.BUSY = false ∧ k = getF s F.FWU_ARG.VALUE ∧ s.fwu.session = none) ∧
    (∃ (s : State), s.fwu.cmd = none) ∧
    (∃ (s : State) (err : Nat) (k : Nat), s.fwu.cmd = some (err, k) ∧ err < 16) ∧
    (∃ (s : State), phase s = 7 ∧ flag s F.FWU_STAT.BUSY = false ∧ allActiveOk s = true ∧ role s ≠ 3 ∧ flag s F.HLD_ROLE.SVALID =
      false) ∧
    (∃ (s : State), barOpen s = true ∧ flag s F.FWU_STAT.BUSY = false) :=
  ⟨⟨.fwuBegin, setF F.FWU_STAT.BUSY 0 1 w0, by decide +kernel⟩,
   ⟨0, setF F.FWU_ACTST.STATE 0 1 w0, .fwuCancel, by decide +kernel⟩,
   ⟨0, { w0 with fwu := { w0.fwu with session := some (none, 4) } }, by decide +kernel⟩,
   ⟨7, setF F.FWU_ARG.VALUE 0 7 w0, .fwuCancel, by decide +kernel⟩,
   ⟨3, setF F.FWU_ARG.VALUE 0 3 { w0 with fwu := { w0.fwu with staged := [(2, [1]), (3, [2])] } }, by decide +kernel⟩,
   ⟨0, setF F.FWU_OFFSET.BYTES 0 4 { w0 with fwu := { w0.fwu with session := some (none, 4) } }, 4, by decide +kernel⟩,
   ⟨0, setF F.FWU_LEN.BYTES 0 4 { w0 with fwu := { w0.fwu with session := some (none, 4) } }, 4, by decide +kernel⟩,
   ⟨0, { w0 with fwu := { w0.fwu with session := some (none, 4) } }, 4, by decide +kernel⟩,
   ⟨0, { w0 with fwu := { w0.fwu with session := some (none, 4), staged := [(4, List.replicate 512 0)] } }, 4, by decide +kernel⟩,
   ⟨0, w0, by decide +kernel⟩,
   ⟨w0, by decide +kernel⟩,
   ⟨{ w0 with fwu := { w0.fwu with session := some (none, 4), cmd := some (5, 4) } }, 5, 4, by decide +kernel⟩,
   ⟨setF F.GLB_STATUS.PHASE 0 7 w0, by decide +kernel⟩,
   ⟨w0, by decide +kernel⟩⟩

/-- The hypotheses of ActivationRows are met, clause by clause. -/
theorem test_wit_ActivationRows :
    (∃ (s : State), barOpen s = true ∧ flag s F.FWU_STAT.BUSY = false ∧ role s ≠ 3 ∧ flag s F.HLD_ROLE.SVALID = false) ∧
    (∃ (fleet : List FleetReport) (s : State), barOpen s = true ∧ flag s F.FWU_STAT.BUSY = false ∧ role s = 3 ∧ s.hld.stew.ready =
      true ∧ s.hld.stew.rollout = { } ∧ getReg s Reg.FWU_ARG 0 = 0 ∧ fleetOk s [ownDie s] fleet = false) ∧
    (∃ (fleet : List FleetReport) (s : State), barOpen s = true ∧ flag s F.FWU_STAT.BUSY = false ∧ role s = 3 ∧ s.hld.stew.ready =
      true ∧ s.hld.stew.rollout = { } ∧ getReg s Reg.FWU_ARG 0 = 0 ∧ fleetOk s [ownDie s] fleet = true) ∧
    (∃ (s : State), barOpen s = true ∧ flag s F.FWU_STAT.BUSY = false ∧ actState s ≠ 1) ∧
    (∃ (s : State), barOpen s = true ∧ flag s F.FWU_STAT.BUSY = false ∧ actState s = 1 ∧ role s ≠ 3 ∧ flag s F.HLD_ROLE.SVALID =
      false) ∧
    (∃ (s : State), headRuns s = true ∧ actState s = 2) ∧
    (∃ (s : State), actState s ≠ 2) ∧
    (∃ (s : State), s.fwu.marker ≠ 2) ∧
    (∃ (s : State) (k : Nat) (e : Nat), s.fwu.marker = 2 ∧ phase s ≠ 7 ∧ stagedBad s = some (k, e)) ∧
    (∃ (s : State), s.fwu.marker = 2 ∧ phase s ≠ 7 ∧ role s ≠ 3 ∧ flag s F.HLD_ROLE.SVALID = false) ∧
    (∃ (k : Nat), 1 ≤ k ∧ k ≤ 6 ∧ k ≠ 2) ∧
    (∃ (s : State), s.fwu.loader = 2) ∧
    (∃ (s : State), s.fwu.loader = 7) ∧
    (∃ (alone : Bool) (s : State), actState s ≠ 4 ∨ phase s ≠ 3 ∨ mirrored s = false ∧ alone = false) ∧
    (∃ (alone : Bool) (s : State), actState s = 4 ∧ phase s = 3 ∧ (mirrored s = true ∨ alone = true) ∧ role s ≠ 3 ∧ flag s
      F.HLD_ROLE.SVALID = false) ∧
    (∃ (s : State), acts s = true ∧ nextTurn s = none) ∧
    (∃ (s : State), acts s = true ∧ s.hld.stew.rollout.turn.isSome = true) ∧
    (∃ (s : State) (d : Nat) (r : Rollout), acts s = true ∧ nextTurn s = some d ∧ r = s.hld.stew.rollout ∧ r.turn = none ∧ mirrored s
      = true) ∧
    (∃ (s : State), acts s = true ∧ s.hld.stew.rollout.turn = none) ∧
    (∃ (s : State) (d : Nat), acts s = true ∧ s.hld.stew.rollout.turn = some d ∧ s.hld.stew.rollout.armed = []) ∧
    (∃ (s : State), actState s = 1 ∧ s.fwu.turnDue = true ∧ role s ≠ 3 ∧ flag s F.HLD_ROLE.SVALID = false) :=
  ⟨⟨w0, by decide +kernel⟩,
   ⟨[], wst, by decide +kernel⟩,
   ⟨[], (List.range' 1 6).foldl (fun u k => setF F.FWU_COMPST.STATE k 2 u) wst, by decide +kernel⟩,
   ⟨w0, by decide +kernel⟩,
   ⟨setF F.FWU_ACTST.STATE 0 1 w0, by decide +kernel⟩,
   ⟨setF F.FWU_ACTST.STATE 0 2 w0, by decide +kernel⟩,
   ⟨w0, by decide +kernel⟩,
   ⟨w0, by decide +kernel⟩,
   ⟨{ w0 with fwu := { w0.fwu with marker := 2 } }, 1, 9, by decide +kernel⟩,
   ⟨{ w0 with fwu := { w0.fwu with marker := 2 } }, by decide +kernel⟩,
   ⟨3, by decide +kernel⟩,
   ⟨w0, by decide +kernel⟩,
   ⟨{ w0 with fwu := { w0.fwu with loader := 7 } }, by decide +kernel⟩,
   ⟨false, w0, by decide +kernel⟩,
   ⟨true, setF F.FWU_ACTST.STATE 0 4 { w0 with fwu := { w0.fwu with staged := [(1, [5])] } }, by decide +kernel⟩,
   ⟨wst, by decide +kernel⟩,
   ⟨{ wst with hld := { wst.hld with stew := { wst.hld.stew with rollout := { armed := [3], turn := some 4 } } } }, by decide +kernel⟩,
   ⟨setF F.GLB_STATUS.MIRRORED 0 1 { wst with hld := { wst.hld with stew := { wst.hld.stew with rollout := { armed := [3] } } } }, 3,
     { armed := [3] }, by decide +kernel⟩,
   ⟨wst, by decide +kernel⟩,
   ⟨{ wst with hld := { wst.hld with stew := { wst.hld.stew with rollout := { armed := [], turn := some 4 } } } }, 4,
     by decide +kernel⟩,
   ⟨setF F.FWU_ACTST.STATE 0 1 { w0 with fwu := { w0.fwu with turnDue := true } }, by decide +kernel⟩⟩

/-- The hypotheses of PldmCommands are met, clause by clause. -/
theorem test_wit_PldmCommands :
    (∃ (t : Transport) (s : State), 1 ≤ phase s ∧ sidebandUp s t = true ∧ s.fwu.session.isSome = true) ∧
    (∃ (t : Transport) (s : State), 1 ≤ phase s ∧ sidebandUp s t = true ∧ s.fwu.session = none) ∧
    (∃ (t : Transport) (s : State), 1 ≤ phase s ∧ sidebandUp s t = true ∧ (s.fwu.session ≠ some (some t, 0) ∨ frozen s = true)) ∧
    (∃ (t : Transport) (s : State) (k : Fin 8), 1 ≤ phase s ∧ sidebandUp s t = true ∧ s.fwu.session = some (some t, 0) ∧ frozen s =
      false ∧ phase s ≠ 7 ∧ (↑k = 0 ∨ ↑k = 7)) ∧
    (∃ (t : Transport) (s : State) (k : Fin 8), 1 ≤ phase s ∧ sidebandUp s t = true ∧ s.fwu.session = some (some t, 0) ∧ frozen s =
      false ∧ phase s ≠ 7 ∧ 1 ≤ ↑k ∧ ↑k ≤ 6) ∧
    (∃ (t : Transport) (s : State), 1 ≤ phase s ∧ sidebandUp s t = true ∧ pldmOpen t s = false) ∧
    (∃ (t : Transport) (s : State) (k : Nat) (bs : List Byte), 1 ≤ phase s ∧ sidebandUp s t = true ∧ s.fwu.session = some (some t, k)
      ∧ 1 ≤ k ∧ k ≤ 6 ∧ frozen s = false ∧ phase s ≠ 7 ∧ bs ≠ [] ∧ bs.length ≤ pldmNext s k) ∧
    (∃ (t : Transport) (s : State) (k : Nat) (bs : List Byte), 1 ≤ phase s ∧ sidebandUp s t = true ∧ s.fwu.session = some (some t, k)
      ∧ 1 ≤ k ∧ k ≤ 6 ∧ frozen s = false ∧ phase s ≠ 7 ∧ bs ≠ [] ∧ (stagedOf s k).length + bs.length < 512) ∧
    (∃ (t : Transport) (fleet : List FleetReport) (e : Nat) (s : State) (u : State), 1 ≤ phase s ∧ phase s ≠ 7 ∧ sidebandUp s t = true
      ∧ pldmOpen t s = true ∧ activate false 0 fleet s = (e, u)) :=
  ⟨⟨.i3c, { w0 with fwu := { w0.fwu with session := some (some .i3c, 4) } }, by decide +kernel⟩,
   ⟨.i3c, w0, by decide +kernel⟩,
   ⟨.i3c, w0, by decide +kernel⟩,
   ⟨.i3c, { w0 with fwu := { w0.fwu with session := some (some .i3c, 0) } }, 7, by decide +kernel⟩,
   ⟨.i3c, { w0 with fwu := { w0.fwu with session := some (some .i3c, 0) } }, 3, by decide +kernel⟩,
   ⟨.i3c, w0, by decide +kernel⟩,
   ⟨.i3c, { w0 with fwu := { w0.fwu with session := some (some .i3c, 4) } }, 4, [1], by decide +kernel⟩,
   ⟨.i3c, { w0 with fwu := { w0.fwu with session := some (some .i3c, 4) } }, 4, [1], by decide +kernel⟩,
   ⟨.i3c, [], (activate false 0 [] { w0 with fwu := { w0.fwu with session := some (some .i3c, 0) } }).1,
     { w0 with fwu := { w0.fwu with session := some (some .i3c, 0) } }, (activate false 0 []
     { w0 with fwu := { w0.fwu with session := some (some .i3c, 0) } }).2, by decide +kernel⟩⟩

end Sys2Proof.Tests
end

section
/-! Accesses of BAR0 and BAR2 that are not 4 bytes wide and 4-byte aligned (R6, R7). -/

namespace Sys2Proof.Machine

/-- `goodAccess` decides the condition of R6. -/
theorem goodAccess_iff (off : BitVec 28) (len : BitVec 13) :
    goodAccess off len = true ↔ off.toNat % 4 = 0 ∧ len.toNat = 4 := by
  simp [goodAccess, BitVec.toNat_eq]

/-- R6: the answer is the last thing sent, after whatever posting the event sent. -/
theorem badRead_eq (f : Func) (s : State) :
    badRead f s = { post { code := Ev.REG_ACCESS } s with
      out := (post { code := Ev.REG_ACCESS } s).out ++ [.barValue f 0xFFFFFFFF#32] } := rfl

theorem exec_barBadAccessRead (f : Func) (bar2 : Bool) {off : BitVec 28} {len : BitVec 13} (s : State)
    (hbad : ¬ goodAccess off len = true) : exec (.barBadAccessRead f bar2 off len) s = .next (badRead f s) :=
  congrArg Host.Outcome.next (if_neg hbad)

theorem exec_barBadAccessWrite {off : BitVec 28} {len : BitVec 13} (s : State) (hbad : ¬ goodAccess off len = true) :
    exec (.barBadAccessWrite off len) s = .next (badWrite s) :=
  congrArg Host.Outcome.next (if_neg hbad)

/-- Table 19 lists REG_ACCESS with the severity NOTE (R882). -/
theorem evSev?_regAccess : evSev? Ev.REG_ACCESS = some 0 := by decide

/-- Settles O8: read and write both post the event with the defaults of `EvArgs`, whose severity is the table's. -/
theorem badAccessIsAnsweredAndNoted : Obligations.BadAccessIsAnsweredAndNoted := by
  refine ⟨evSev?_regAccess, fun f bar2 off len s _ hmis => ?_⟩
  have hbad : ¬ goodAccess off len = true := mt (goodAccess_iff off len).1 hmis
  refine ⟨{ code := Ev.REG_ACCESS }, rfl, rfl, rfl, ?_, ?_⟩
  · rw [exec_barBadAccessRead f bar2 s hbad, badRead_eq]
  · rw [exec_barBadAccessWrite s hbad, badWrite]

end Sys2Proof.Machine
end

section
/-! The sample that a current sensor reports (R716) and its layout in BRK_ISAMP (R717). -/

namespace Sys2Proof.Machine

theorem boolNat_lt_two (b : Bool) : boolNat b < 2 := by cases b <;> decide

theorem boolNat_not_eq_zero_iff (b : Bool) : boolNat (!b) = 0 ↔ b = true := by cases b <;> decide

theorem boolNat_beq_one (b : Bool) : (boolNat b == 1) = b := by cases b <;> decide

/-- Adding to a 64-bit count leaves every register but its pair alone. -/
theorem getReg_add64_ne {lo hi q : Reg} {i j : Nat} (n : Nat) (s : State) (hlo : ¬ (q = lo ∧ j = i))
    (hhi : ¬ (q = hi ∧ j = i)) : getReg (add64 lo hi i n s) q j = getReg s q j := by
  rw [add64, set64, getReg_setReg, if_neg hhi, getReg_setReg, if_neg hlo]

/-! ### Which conversion is reported (R716) -/

/-- A sample reports its low conversion: it exists, and did not clip beside a high one. -/
def reportsLow (x : CurSense) (lo : Nat) : Bool :=
  (decide (0 < x.dual) || !x.high) && (lo != 16383 || !(decide (0 < x.dual) || x.high))

theorem reportsLow_dual {x : CurSense} (lo : Nat) (hdual : 0 < x.dual) : reportsLow x lo = true ↔ lo ≠ 16383 := by
  simp [reportsLow, hdual]

theorem reportsLow_single {x : CurSense} (lo : Nat) (hdual : x.dual = 0) : reportsLow x lo = !x.high := by
  cases hhigh : x.high <;> simp [reportsLow, hdual, hhigh]

/-! ### The layout of a sample (R717) -/

/-- The word of BRK_ISAMP from its fields. -/
def sampleWord (code : Nat) (range trans isOver : Bool) (seq : Nat) : BitVec 32 :=
  BitVec.ofNat 32 (code % 16384 + boolNat range * 2 ^ 14 + boolNat trans * 2 ^ 15 + boolNat isOver * 2 ^ 16
    + seq % 2 ^ 15 * 2 ^ 17)

section
variable (code : Nat) (range trans isOver : Bool) (seq : Nat)

/-- The fields fit in 32 bits, so the word loses none of them. -/
theorem sampleWord_toNat : (sampleWord code range trans isOver seq).toNat
    = code % 16384 + boolNat range * 16384 + boolNat trans * 32768 + boolNat isOver * 65536 + seq % 32768 * 131072 := by
  have hrange := boolNat_lt_two range
  have htrans := boolNat_lt_two trans
  have hover := boolNat_lt_two isOver
  rw [sampleWord, BitVec.toNat_ofNat]
  omega

theorem sampleWord_code : bitsAt (sampleWord code range trans isOver seq) 0 14 = code % 16384 := by
  rw [bitsAt, sampleWord_toNat]
  omega

theorem sampleWord_range : bitsAt (sampleWord code range trans isOver seq) 14 1 = boolNat range := by
  have hrange := boolNat_lt_two range
  rw [bitsAt, sampleWord_toNat]
  omega

theorem sampleWord_trans : bitsAt (sampleWord code range trans isOver seq) 15 1 = boolNat trans := by
  have hrange := boolNat_lt_two range
  have htrans := boolNat_lt_two trans
  rw [bitsAt, sampleWord_toNat]
  omega

theorem sampleWord_over : bitsAt (sampleWord code range trans isOver seq) 16 1 = boolNat isOver := by
  have hrange := boolNat_lt_two range
  have htrans := boolNat_lt_two trans
  have hover := boolNat_lt_two isOver
  rw [bitsAt, sampleWord_toNat]
  omega

theorem sampleWord_seq : bitsAt (sampleWord code range trans isOver seq) 17 15 = seq % 2 ^ 15 := by
  have hrange := boolNat_lt_two range
  have htrans := boolNat_lt_two trans
  have hover := boolNat_lt_two isOver
  rw [bitsAt, sampleWord_toNat]
  omega

end

/-! ### What a sample leaves -/

/-- The word that a sample of a sensor in state `x` reports. -/
def reported (x : CurSense) (lo hi : Nat) : BitVec 32 :=
  sampleWord (if reportsLow x lo then lo else hi) (!reportsLow x lo) (decide (0 < x.dual))
    (!reportsLow x lo && hi == 16383) x.seq

section
variable (j lo hi mv : Nat) (s : State)

theorem currentSample_isamp :
    getReg (currentSample j lo hi mv s) .BRK_ISAMP j = reported (mapGet s.brk.isens j {}) lo hi := by
  rw [currentSample, getReg_add64_ne _ _ (by simp) (by simp), getReg_setReg, if_pos ⟨rfl, rfl⟩]
  rfl

theorem currentSample_isens :
    mapGet (currentSample j lo hi mv s).brk.isens j {} = senseNext (mapGet s.brk.isens j {}) lo hi := by
  simp [currentSample]

theorem currentSample_regsBut :
    RegsBut [(.BRK_ISAMP, j), (.BRK_ENERGY_LO, j), (.BRK_ENERGY_HI, j)] s (currentSample j lo hi mv s) := by
  intro r i hri
  simp only [List.mem_cons, List.not_mem_nil, or_false, not_or, Prod.mk.injEq] at hri
  obtain ⟨hisamp, helo, hehi⟩ := hri
  rw [currentSample, getReg_add64_ne _ _ helo hehi, getReg_setReg, if_neg hisamp]
  rfl

end

/-- RANGE is 0 in a sample that reports its low conversion. -/
theorem reported_range_eq_zero_iff (x : CurSense) (lo hi : Nat) :
    bitsAt (reported x lo hi) 14 1 = 0 ↔ reportsLow x lo = true := by
  rw [reported, sampleWord_range, boolNat_not_eq_zero_iff]

theorem reported_range_single {x : CurSense} (lo hi : Nat) (hdual : x.dual = 0) :
    bitsAt (reported x lo hi) 14 1 = boolNat x.high := by
  rw [reported, sampleWord_range, reportsLow_single lo hdual, Bool.not_not]

/-- CODE is a conversion of 14 bits, in the range that RANGE tells. -/
theorem reported_code (x : CurSense) {lo hi : Nat} (hlo : lo < 16384) (hhi : hi < 16384) :
    bitsAt (reported x lo hi) 0 14 = if bitsAt (reported x lo hi) 14 1 = 0 then lo else hi := by
  simp only [reported_range_eq_zero_iff]
  rw [reported, sampleWord_code]
  split
  · exact Nat.mod_eq_of_lt hlo
  · exact Nat.mod_eq_of_lt hhi

theorem reported_over (x : CurSense) (lo hi : Nat) :
    bitsAt (reported x lo hi) 16 1 = boolNat (bitsAt (reported x lo hi) 14 1 == 1 && hi == 16383) := by
  rw [reported, sampleWord_range, boolNat_beq_one, sampleWord_over]

/-- A converter's code is its clipped one (R713) as a word and as a number alike. -/
theorem toNat_eq_clipped_iff (c : BitVec 14) : c.toNat = 16383 ↔ c = 16383 :=
  ⟨fun h => BitVec.eq_of_toNat_eq h, fun h => congrArg BitVec.toNat h⟩

theorem toNat_beq_clipped (c : BitVec 14) : (c.toNat == 16383) = (c == 16383) := by
  rw [Bool.eq_iff_iff, beq_iff_eq, beq_iff_eq, toNat_eq_clipped_iff]

/-- Settles O50: BRK_ISAMP holds `reported`, whose range `reportsLow` decides by the sensor's range and window. -/
theorem samplesAreHeld : Obligations.SamplesAreHeld := by
  rintro j lo hi mv x s rfl
  refine ⟨currentSample j lo.toNat hi.toNat mv.toNat s, rfl, ?_⟩
  dsimp only
  rw [currentSample_isamp]
  refine ⟨fun hdual => ?_, fun hdual hhigh => ?_, fun hdual hlow _ => ?_, reported_code _ lo.isLt hi.isLt,
    sampleWord_trans .., ?_, sampleWord_seq .., currentSample_isens .., currentSample_regsBut _ _ _ _ s⟩
  · rw [reported_range_eq_zero_iff, reportsLow_dual _ hdual, Ne, toNat_eq_clipped_iff]
  · rw [reported_range_single _ _ hdual, hhigh]
    rfl
  · rw [reported_range_single _ _ hdual, hlow]
    rfl
  · rw [reported_over, toNat_beq_clipped]

end Sys2Proof.Machine
end

section
/-! Posting an event: what it counts, and which rings gain its record (R862, R866, R867). -/

namespace Sys2Proof.Machine

/-! ### Listed entries of a sparse map -/

theorem mapFind_mapIns_same {α : Type} (m : Map α) (k : Nat) (v : α) : mapFind (mapIns m k v) k = some v := by
  induction m with
  | nil => simp [mapIns, mapFind]
  | cons e t ih =>
    obtain ⟨j, w⟩ := e
    by_cases hlt : k < j
    · simp [mapIns, hlt, mapFind]
    · by_cases heq : j = k
      · simp [mapIns, heq, mapFind]
      · simp [mapIns, hlt, heq, mapFind, ih]

theorem mapFind_mapIns_ne {α : Type} (m : Map α) {k k' : Nat} (v : α) (h : k ≠ k') :
    mapFind (mapIns m k v) k' = mapFind m k' := by
  induction m with
  | nil => simp [mapIns, mapFind, h]
  | cons e t ih =>
    obtain ⟨j, w⟩ := e
    by_cases hlt : k < j
    · simp [mapIns, hlt, mapFind, h]
    · by_cases heq : j = k
      · simp [mapIns, heq, mapFind, h]
      · simp [mapIns, hlt, heq, mapFind, ih]

/-! ### Requests to the host and interrupts leave the event rings alone -/

theorem getReg_setEvt (s : State) (x : EvtState) (r : Reg) (i : Nat) : getReg { s with evt := x } r i = getReg s r i := rfl

theorem getReg_bump_ne (f : Fld) {q : Reg} {i j : Nat} (s : State) (h : q ≠ f.reg ∨ j ≠ i) :
    getReg (bump f i s) q j = getReg s q j := getReg_setF_ne f q i j _ s h

theorem hostSend_evt (r : HostReq) (s : State) : (hostSend r s).evt = s.evt := by
  unfold hostSend
  split
  · split
    · simp [hostEmit]
    · rfl
  · rfl

theorem raiseVec_evt (v : Nat) (s : State) : (raiseVec v s).evt = s.evt := by
  unfold raiseVec
  split
  · exact hostSend_evt ..
  · rfl

theorem ringIrq_evt (f sev : Nat) (s : State) : (ringIrq f sev s).evt = s.evt := by
  unfold ringIrq
  split
  · dsimp only
    split
    · rw [raiseVec_evt, setF_evt]
    · rw [setF_evt, setF_evt]
  · rfl

/-- The registers in which sending a request (R657) or an interrupt (R874, R875) leaves a trace. -/
def irqRegs : List Reg := [.EVT_STAT, .PCI_DMAWR_LO, .PCI_DMAWR_HI]

section
variable {q : Reg} (hq : q ∉ irqRegs) (j : Nat)
include hq

theorem getReg_hostSend (r : HostReq) (s : State) : getReg (hostSend r s) q j = getReg s q j := by
  simp only [irqRegs, List.mem_cons, List.not_mem_nil, or_false, not_or] at hq
  obtain ⟨-, hlo, hhi⟩ := hq
  unfold hostSend
  split
  · split
    · exact getReg_add64_ne _ _ (fun h => hlo h.1) (fun h => hhi h.1)
    · rfl
  · rfl

theorem getReg_raiseVec (v : Nat) (s : State) : getReg (raiseVec v s) q j = getReg s q j := by
  unfold raiseVec
  split
  · exact getReg_hostSend hq j ..
  · rfl

theorem getReg_ringIrq (f sev : Nat) (s : State) : getReg (ringIrq f sev s) q j = getReg s q j := by
  have hstat : q ≠ .EVT_STAT := fun h => hq (by simp [irqRegs, h])
  unfold ringIrq
  split
  · dsimp only
    split
    · rw [getReg_raiseVec hq, getReg_setF_ne _ _ _ _ _ _ (.inl hstat)]
    · rw [getReg_setF_ne _ _ _ _ _ _ (.inl hstat), getReg_setF_ne _ _ _ _ _ _ (.inl hstat)]
  · rfl

end

/-! ### Writing one record (R866, R870) -/

/-- A ring takes a record: a slot is free, and the last one is kept for a FATAL record (R870). -/
def ringTakes (f : Nat) (r : EvtRec) (s : State) : Prop := unread s f < 4095 ∨ (r.sev = 3 ∧ unread s f < 4096)

section
variable {f : Nat} {r : EvtRec} {s : State}

theorem ringWrite_of_takes (h : ringTakes f r s) :
    ringWrite f r s = ringIrq f r.sev.toNat (setReg .EVT_TAIL f (getReg s .EVT_TAIL f + 1)
      { s with evt := { s.evt with
          rings := mapIns s.evt.rings (f * 4096 + (getReg s .EVT_TAIL f).toNat % 4096) r } }) := if_pos h

/-- A full ring loses the record: it is counted, and no ring changes. -/
theorem ringWrite_of_full (h : ¬ ringTakes f r s) :
    ∃ lost, ringWrite f r s
      = { bump F.EVT_LOST.COUNT f s with evt := { (bump F.EVT_LOST.COUNT f s).evt with lostSince := lost } } :=
  ⟨_, if_neg h⟩

end

theorem getReg_ringWrite_sevcnt (f : Nat) (r : EvtRec) (s : State) (i : Nat) :
    getReg (ringWrite f r s) .EVT_SEVCNT i = getReg s .EVT_SEVCNT i := by
  by_cases h : ringTakes f r s
  · rw [ringWrite_of_takes h, getReg_ringIrq (by decide), getReg_setReg, if_neg (by simp), getReg_setEvt]
  · obtain ⟨lost, heq⟩ := ringWrite_of_full h
    rw [heq, getReg_setEvt, getReg_bump_ne F.EVT_LOST.COUNT s (.inl (by decide))]

/-- Ring `v` holds the same records, written and consumed, in both states. -/
structure RingKept (v : Nat) (s t : State) : Prop where
  tail : getReg t .EVT_TAIL v = getReg s .EVT_TAIL v
  head : getReg t .EVT_HEAD v = getReg s .EVT_HEAD v
  slots : ∀ n, mapFind t.evt.rings (v * 4096 + n % 4096) = mapFind s.evt.rings (v * 4096 + n % 4096)

/-- Ring `v` gains the record `r` in its next slot (R866). -/
structure RingGains (v : Nat) (r : EvtRec) (s t : State) : Prop where
  tail : getReg t .EVT_TAIL v = getReg s .EVT_TAIL v + 1
  slot : mapFind t.evt.rings (v * 4096 + (getReg s .EVT_TAIL v).toNat % 4096) = some r

section
variable {v : Nat} {r : EvtRec} {s t u : State}

theorem RingKept.refl (v : Nat) (s : State) : RingKept v s s := ⟨rfl, rfl, fun _ => rfl⟩

theorem RingKept.trans (h : RingKept v s t) (k : RingKept v t u) : RingKept v s u :=
  ⟨k.tail.trans h.tail, k.head.trans h.head, fun n => (k.slots n).trans (h.slots n)⟩

theorem RingKept.unread (h : RingKept v s t) : unread t v = unread s v := by
  rw [Machine.unread, h.tail, h.head, Machine.unread]

theorem RingKept.trans_gains (h : RingKept v s t) (k : RingGains v r t u) : RingGains v r s u :=
  ⟨by rw [k.tail, h.tail], by rw [← h.tail]; exact k.slot⟩

theorem RingGains.trans_kept (h : RingGains v r s t) (k : RingKept v t u) : RingGains v r s u :=
  ⟨k.tail.trans h.tail, (k.slots _).trans h.slot⟩

end

/-- Slots of different rings have different keys. -/
theorem slotKey_ne {f v : Nat} (h : f ≠ v) (m n : Nat) : f * 4096 + m % 4096 ≠ v * 4096 + n % 4096 := by omega

theorem ringWrite_kept {f v : Nat} (h : f ≠ v) (r : EvtRec) (s : State) : RingKept v s (ringWrite f r s) := by
  have hhead := (PostFrame.ringWrite f r s).reg .EVT_HEAD v rfl
  by_cases htakes : ringTakes f r s
  · refine ⟨?_, hhead, fun n => ?_⟩
    · rw [ringWrite_of_takes htakes, getReg_ringIrq (by decide), getReg_setReg, if_neg (fun e => h e.2.symm),
        getReg_setEvt]
    · rw [ringWrite_of_takes htakes, ringIrq_evt, setReg_evt]
      exact mapFind_mapIns_ne _ _ (slotKey_ne h _ _)
  · obtain ⟨lost, heq⟩ := ringWrite_of_full htakes
    refine ⟨?_, hhead, fun n => ?_⟩
    · rw [heq, getReg_setEvt, getReg_bump_ne F.EVT_LOST.COUNT s (.inl (by decide))]
    · rw [heq, bump_evt]

theorem ringWrite_gains {v : Nat} {s : State} (h : unread s v < 4095) (r : EvtRec) :
    RingGains v r s (ringWrite v r s) := by
  rw [ringWrite_of_takes (.inl h)]
  constructor
  · rw [getReg_ringIrq (by decide), getReg_setReg, if_pos ⟨rfl, rfl⟩]
  · rw [ringIrq_evt, setReg_evt]
    exact mapFind_mapIns_same ..

/-! ### Writing one record to several rings -/

/-- Writes a record to each of some rings (R862). -/
def ringWrites (r : EvtRec) (rings : List Nat) (s : State) : State := rings.foldl (fun u f => ringWrite f r u) s

theorem getReg_ringWrites_sevcnt (r : EvtRec) (rings : List Nat) (s : State) (i : Nat) :
    getReg (ringWrites r rings s) .EVT_SEVCNT i = getReg s .EVT_SEVCNT i := by
  induction rings generalizing s with
  | nil => rfl
  | cons f rings ih => exact (ih _).trans (getReg_ringWrite_sevcnt f r s i)

theorem ringWrites_kept {v : Nat} {rings : List Nat} (h : v ∉ rings) (r : EvtRec) (s : State) :
    RingKept v s (ringWrites r rings s) := by
  induction rings generalizing s with
  | nil => exact .refl v s
  | cons f rings ih =>
    obtain ⟨hne, hrest⟩ := not_or.1 (mt List.mem_cons.2 h)
    exact (ringWrite_kept (Ne.symm hne) r s).trans (ih hrest _)

/-- Each ring is written once, so it gains one record. -/
theorem ringWrites_gains {v : Nat} {rings : List Nat} (hnodup : rings.Nodup) (hmem : v ∈ rings) (r : EvtRec)
    {s : State} (hroom : unread s v < 4095) : RingGains v r s (ringWrites r rings s) := by
  induction rings generalizing s with
  | nil => cases hmem
  | cons f rings ih =>
    obtain ⟨hf, hrest⟩ := List.nodup_cons.1 hnodup
    by_cases hfv : f = v
    · subst hfv
      exact (ringWrite_gains hroom r).trans_kept (ringWrites_kept hf r _)
    · have hkept := ringWrite_kept hfv r s
      exact hkept.trans_gains
        (ih hrest (List.mem_of_ne_of_mem (Ne.symm hfv) hmem) (by rwa [hkept.unread]))

/-! ### The rings that an event goes to (R867) -/

theorem mem_evRings (s : State) (asid : Nat) (queue : Option Nat) (v : Nat) :
    v ∈ evRings s asid queue ↔ v = 0 ∨ (v < 32 ∧
      ((asid ≠ 0 ∧ asidFunc s asid = some v) ∨ ∃ k, queue = some k ∧ inVfRange s v k = true)) := by
  by_cases hv : v = 0
  · simp [evRings, hv]
  · cases queue <;> simp [evRings, hv]

theorem evRings_nodup (s : State) (asid : Nat) (queue : Option Nat) : (evRings s asid queue).Nodup :=
  List.nodup_cons.2 ⟨by simp, List.nodup_range.filter _⟩

/-! ### Posting -/

/-- The severity of an event: its own, or else its code's in Table 19 (R882). -/
def EvArgs.severity (e : EvArgs) : Nat := e.sev.getD ((evSev? e.code).getD 0)

/-- An event is counted, and the first FATAL one noted (R862, R877). -/
def counted (sev : Nat) (s : State) : State :=
  let t := bump F.EVT_SEVCNT.COUNT sev s
  if sev = 3 then { t with evt := { t.evt with fatal := true } } else t

theorem getReg_counted (sev : Nat) (s : State) (r : Reg) (i : Nat) :
    getReg (counted sev s) r i = getReg (bump F.EVT_SEVCNT.COUNT sev s) r i := by
  unfold counted
  dsimp only
  split
  · exact getReg_setEvt ..
  · rfl

theorem counted_rings (sev : Nat) (s : State) : (counted sev s).evt.rings = s.evt.rings := by
  unfold counted
  dsimp only
  split <;> simp

theorem counted_kept (v sev : Nat) (s : State) : RingKept v s (counted sev s) :=
  ⟨by rw [getReg_counted, getReg_bump_ne _ _ (.inl (by decide))],
   by rw [getReg_counted, getReg_bump_ne _ _ (.inl (by decide))], fun n => by rw [counted_rings]⟩

/-- Keeps a record for its rings until the Reef is initialised (R872). -/
def holdRecord (r : EvtRec) (rings : List Nat) (s : State) : State :=
  { s with evt := { s.evt with held := s.evt.held ++ [(r, rings)] } }

/-- Counts a record as lost to each of its rings (R872). -/
def loseRecord (rings : List Nat) (s : State) : State := rings.foldl (fun u f => bump F.EVT_LOST.COUNT f u) s

theorem getReg_holdRecord (r : EvtRec) (rings : List Nat) (s : State) (q : Reg) (i : Nat) :
    getReg (holdRecord r rings s) q i = getReg s q i := getReg_setEvt ..

theorem getReg_loseRecord_sevcnt (rings : List Nat) (s : State) (i : Nat) :
    getReg (loseRecord rings s) .EVT_SEVCNT i = getReg s .EVT_SEVCNT i := by
  induction rings generalizing s with
  | nil => rfl
  | cons f rings ih =>
    rw [loseRecord, List.foldl_cons, ← loseRecord, ih, getReg_bump_ne F.EVT_LOST.COUNT s (.inl (by decide))]

/-- What posting can do: a second FATAL event is only counted (R877); else the record is written to its rings (R862),
held for them, or lost to them all (R872). -/
theorem post_eq (e : EvArgs) (s : State) : post e s =
    if e.severity = 3 ∧ s.evt.fatal = true then bump F.EVT_SEVCNT.COUNT e.severity s
    else if s.evt.ready = true then
      ringWrites (evRecord s e e.severity) (evRings s e.asid e.queue) (counted e.severity s)
    else if s.evt.held.length < 64 then
      holdRecord (evRecord s e e.severity) (evRings s e.asid e.queue) (counted e.severity s)
    else loseRecord (evRings s e.asid e.queue) (counted e.severity s) := rfl

/-- However its record fares, the event is counted once. -/
theorem getReg_post_sevcnt (e : EvArgs) (s : State) (i : Nat) :
    getReg (post e s) .EVT_SEVCNT i = getReg (bump F.EVT_SEVCNT.COUNT e.severity s) .EVT_SEVCNT i := by
  rw [post_eq]
  split
  · rfl
  · split
    · rw [getReg_ringWrites_sevcnt, getReg_counted]
    · split
      · rw [getReg_holdRecord, getReg_counted]
      · rw [getReg_loseRecord_sevcnt, getReg_counted]

theorem getF_post_sevcnt (e : EvArgs) (s : State) :
    getF (post e s) F.EVT_SEVCNT.COUNT e.severity
      = min (getF s F.EVT_SEVCNT.COUNT e.severity + 1) (2 ^ 32 - 1) :=
  (congrArg (bitsAt · _ _) (getReg_post_sevcnt e s _)).trans (getF_bump_same F.EVT_SEVCNT.COUNT _ s rfl)

/-- With ready rings the record is written, but for a second FATAL event. -/
theorem post_of_ready {e : EvArgs} {s : State} (hready : s.evt.ready = true)
    (hfirst : ¬ (e.severity = 3 ∧ s.evt.fatal = true)) :
    post e s = ringWrites (evRecord s e e.severity) (evRings s e.asid e.queue) (counted e.severity s) := by
  rw [post_eq, if_neg hfirst, if_pos hready]

theorem postReg_eq_false_of_notMem {r : Reg} (h : r ∉ eventRegs) : postReg r = false := by
  unfold postReg
  split <;> simp_all [eventRegs]

theorem PostFrame.storesKept {s t : State} (h : PostFrame s t) : StoresKept s t :=
  ⟨h.msh, h.reef, h.mem, h.hld, h.xlt, h.tq, h.bead, h.hbl, h.shl, h.twy, h.brk, h.fwu, h.rst, h.time, h.pending⟩

/-- Settles O6: with ready rings, posting is `ringWrites` to `evRings`, of which each ring with room gains one record. -/
theorem eventsAreCountedAndRecorded : Obligations.EventsAreCountedAndRecorded := by
  refine ⟨?_, mem_evRings⟩
  rintro e s sev hsev -
  obtain rfl : sev = e.severity := hsev
  have hframe := PostFrame.post e s
  refine ⟨getF_post_sevcnt e s, fun r i hr => hframe.reg r i (postReg_eq_false_of_notMem hr), hframe.storesKept,
    fun v _ hready hroom hfirst => ?_⟩
  rw [post_of_ready hready hfirst]
  have hcounted := counted_kept v e.severity s
  refine ⟨fun hv => (hcounted.trans (ringWrites_kept hv _ _)).tail, fun hv => ?_⟩
  obtain ⟨htail, hslot⟩ := hcounted.trans_gains
    (ringWrites_gains (evRings_nodup ..) hv (evRecord s e e.severity) (by rwa [hcounted.unread]))
  exact ⟨htail, _, hslot, rfl, rfl, rfl, rfl, rfl, rfl, rfl, rfl, rfl⟩

end Sys2Proof.Machine
end

section
/-! The step, the state after reset, and the idle tick (R585). -/

namespace Sys2Proof.Machine

/-- Settles O3: nothing is listed after reset. -/
theorem resetIsCanonical : Obligations.ResetIsCanonical := by
  unfold Obligations.ResetIsCanonical
  decide

/-- Nothing is listed after reset, so every register reads as its table says. -/
theorem getReg_reset (r : Reg) (i : Nat) : getReg State.reset r i = regReset r i := rfl

theorem coveStat_reset (i : Nat) : regReset .BRK_COVESTAT i = regReset .BRK_COVESTAT 0 := rfl

/-- Settles O2: the register values are `getReg_reset`; the fields follow from the tables' rows. -/
theorem resetLeavesTheTablesValues : Obligations.ResetLeavesTheTablesValues := by
  refine ⟨getReg_reset, by decide, rfl, rfl, rfl, rfl, fun c => ?_, by decide⟩
  have hreg : getReg State.reset .BRK_COVESTAT c = regReset .BRK_COVESTAT 0 := coveStat_reset c
  constructor
  · show bitsAt (getReg State.reset .BRK_COVESTAT c) _ _ = 2
    rw [hreg]
    decide
  · show bitsAt (getReg State.reset .BRK_COVESTAT c) _ _ = 500
    rw [hreg]
    decide

/-- Every arm of the dispatch answers a next state. -/
theorem exec_next (c : Instr) (s : State) : ∃ t, exec c s = .next t := by
  cases c <;> exact ⟨_, rfl⟩

/-- Settles O5: a tick goes on, and so does every command by `exec_next`. -/
theorem noStepStops : Obligations.NoStepStops := by
  intro s
  unfold StepSafe step
  cases s.pending with
  | nil => exact ⟨_, rfl⟩
  | cons c rest => exact exec_next c _

/-! ### Null frames -/

/-- A fold whose every step leaves the start as it is. -/
theorem foldl_of_fixed {α β : Type} {f : β → α → β} {l : List α} {b : β} (h : ∀ a ∈ l, f b a = b) :
    l.foldl f b = b := by
  induction l with
  | nil => rfl
  | cons a l ih =>
    rw [List.foldl_cons, h a List.mem_cons_self]
    exact ih fun a' ha' => h a' (List.mem_cons_of_mem a ha')

/-- A fold over a list without repetitions of which the step at `n` alone does something. -/
theorem foldl_of_single {α β : Type} {f : β → α → β} {l : List α} {n : α} {b b' : β} (hnodup : l.Nodup) (hn : n ∈ l)
    (hb : f b n = b') (hbefore : ∀ k ∈ l, k ≠ n → f b k = b) (hafter : ∀ k ∈ l, k ≠ n → f b' k = b') :
    l.foldl f b = b' := by
  obtain ⟨pre, post, rfl⟩ := List.append_of_mem hn
  obtain ⟨-, hpost, hdisj⟩ := List.nodup_append.1 hnodup
  have hpre : pre.foldl f b = b :=
    foldl_of_fixed fun k hk => hbefore k (by simp [hk]) (hdisj k hk n (by simp))
  have hrest : post.foldl f b' = b' :=
    foldl_of_fixed fun k hk => hafter k (by simp [hk]) (fun e => (List.nodup_cons.1 hpost).1 (e ▸ hk))
  rw [List.foldl_append, hpre, List.foldl_cons, hb, hrest]

theorem twyNull_of_not_active {s : State} {n : Nat} (nak : Bool) (h : linkState s n ≠ 4) : twyNull n nak s = s := by
  simp [twyNull, h]

theorem twyNull_of_room {s : State} {n : Nat} (nak : Bool) (h : linkState s n = 4)
    (hroom : (linkAt s n).replay.length < 256) : twyNull n nak s = sendFrame n [] nak false (linkAt s n) s := by
  simp [twyNull, h, Nat.not_le.2 hroom]

/-- Sending a frame counts it and changes no other register (R625 TWY_TXFR). -/
theorem linkState_sendFrame (n k : Nat) (slots : List (Nat × BitVec 544)) (nak swap : Bool) (l : TwyLink) (s : State) :
    linkState (sendFrame n slots nak swap l s) k = linkState s k := by
  unfold linkState getF sendFrame
  rw [getReg_add64_ne _ _ (fun h => Reg.noConfusion h.1) (fun h => Reg.noConfusion h.1)]
  rfl

theorem nullFrames_of_none_active {s : State} (h : ∀ n < 24, linkState s n ≠ 4) : nullFrames s = s :=
  foldl_of_fixed fun n hn => by
    rw [twyNull_of_not_active false (h n (List.mem_range.1 hn)), ite_self]

theorem nullFrames_of_one_active {s : State} {n : Nat} (hn : n < 24) (hclock : twyClock s = true)
    (hactive : linkState s n = 4) (hothers : ∀ k < 24, k ≠ n → linkState s k ≠ 4)
    (hroom : (linkAt s n).replay.length < 256) :
    nullFrames s = sendFrame n [] false false (linkAt s n) s := by
  refine foldl_of_single List.nodup_range (List.mem_range.2 hn) ?_ (fun k hk hkn => ?_) (fun k hk hkn => ?_)
  · rw [if_pos hclock, twyNull_of_room false hactive hroom]
  · rw [twyNull_of_not_active false (hothers k (List.mem_range.1 hk) hkn), ite_self]
  · rw [twyNull_of_not_active false (by rw [linkState_sendFrame]; exact hothers k (List.mem_range.1 hk) hkn), ite_self]

theorem step_of_pending_nil {s : State} (h : s.pending = []) : step s = .next (nullFrames { s with time := s.time + 1 }) := by
  unfold step
  split
  · rfl
  · simp_all

/-- Settles O1: an empty queue is a tick, whose null frames go out at the ACTIVE links. -/
theorem stepRunsTheFrontCommand : Obligations.StepRunsTheFrontCommand := by
  refine ⟨fun _ _ _ => rfl, fun s hempty hidle => ?_, fun n s hempty hclock hactive hothers hroom => ?_⟩
  · rw [step_of_pending_nil hempty]
    exact congrArg Host.Outcome.next (nullFrames_of_none_active hidle)
  · rw [step_of_pending_nil hempty]
    exact congrArg Host.Outcome.next (nullFrames_of_one_active n.isLt hclock hactive hothers hroom)

end Sys2Proof.Machine
end

section
/-! A 32-bit write of a plain register, field by field (R8, R11). -/

namespace Sys2Proof.Machine

/-! ### States that differ in registers alone -/

theorem OnlyRegs.refl (s : State) : OnlyRegs s s := rfl

theorem OnlyRegs.trans {s t u : State} (h : OnlyRegs s t) (k : OnlyRegs t u) : OnlyRegs s u := by
  unfold OnlyRegs at *
  rw [k, h]

theorem OnlyRegs.setReg (r : Reg) (i : Nat) (v : BitVec 32) (s : State) : OnlyRegs s (setReg r i v s) := rfl

theorem OnlyRegs.setF (f : Fld) (i v : Nat) (s : State) : OnlyRegs s (setF f i v s) := rfl

theorem RegsBut.refl (l : List (Reg × Nat)) (s : State) : RegsBut l s s := fun _ _ _ => rfl

theorem RegsBut.trans {l : List (Reg × Nat)} {s t u : State} (h : RegsBut l s t) (k : RegsBut l t u) : RegsBut l s u :=
  fun r i hri => (k r i hri).trans (h r i hri)

theorem RegsBut.setReg {l : List (Reg × Nat)} {r : Reg} {i : Nat} (h : (r, i) ∈ l) (v : BitVec 32) (s : State) :
    RegsBut l s (setReg r i v s) := fun q j hqj => by
  rw [getReg_setReg, if_neg]
  rintro ⟨rfl, rfl⟩
  exact hqj h

theorem RegsBut.setF {l : List (Reg × Nat)} {f : Fld} {i : Nat} (h : (f.reg, i) ∈ l) (v : Nat) (s : State) :
    RegsBut l s (setF f i v s) := RegsBut.setReg h _ s

/-! ### The layout of the tables -/

/-- Fields that share no bit, pairwise. -/
def fldsApart : List Fld → Bool
  | [] => true
  | f :: fs => fs.all (fun g => decide (f.bit + f.width ≤ g.bit ∨ g.bit + g.width ≤ f.bit)) && fldsApart fs

/-- The fields of a register lie in it, each in bits of its own. -/
def fldsOf (r : Reg) (fs : List Fld) : Prop := (∀ f ∈ fs, f.reg = r ∧ f.fits = true) ∧ fldsApart fs = true

theorem fldsOf_info (r : Reg) : fldsOf r r.info.flds := by
  have h : (r.info.flds.all (fun f => f.reg == r && f.fits) && fldsApart r.info.flds) = true := by cases r <;> rfl
  simpa [fldsOf] using h

theorem fldsOf_cons {r : Reg} {f : Fld} {fs : List Fld} (h : fldsOf r (f :: fs)) :
    f.reg = r ∧ f.fits = true ∧ (∀ i, ∀ g ∈ fs, apart f i g i = true ∧ apart g i f i = true) ∧ fldsOf r fs := by
  obtain ⟨hall, hapart⟩ := h
  simp only [fldsApart, Bool.and_eq_true, List.all_eq_true, decide_eq_true_eq] at hapart
  refine ⟨(hall f (by simp)).1, (hall f (by simp)).2, fun i g hg => ?_, fun g hg => hall g (by simp [hg]), hapart.2⟩
  have hbits := hapart.1 g hg
  simp [apart, hbits, hbits.symm]

/-! ### One field -/

/-- What a write of `val` makes of a field that holds `old` (R8, R11). -/
def fldAfter (f : Fld) (val : BitVec 32) (old : Nat) : Nat :=
  match f.acc with
  | .ro | .wo => old
  | .w1c => old - (old &&& bitsAt val f.bit f.width)
  | .rw => if f.ownRow = false ∧ fldLegal f (bitsAt val f.bit f.width) = true then bitsAt val f.bit f.width else old

/-- A write gives a field an encoding that its table reserves. -/
def fldRsvd (val : BitVec 32) (f : Fld) : Bool := judged f && !fldLegal f (bitsAt val f.bit f.width)

section
variable (f : Fld) (i : Nat) (val : BitVec 32) (p : State × Bool)

/-- A write of a field leaves the state, or sets that field. -/
theorem writeFld_cases : (writeFld f i val p).1 = p.1 ∨ ∃ v, (writeFld f i val p).1 = setF f i v p.1 := by
  unfold writeFld
  dsimp only
  split
  · exact .inl rfl
  · split <;> exact .inl rfl
  · exact .inr ⟨_, rfl⟩
  · split
    · exact .inl rfl
    · split
      · exact .inr ⟨_, rfl⟩
      · exact .inl rfl

theorem writeFld_rsvd : (writeFld f i val p).2 = (p.2 || fldRsvd val f) := by
  unfold writeFld fldRsvd judged
  dsimp only
  split <;> rename_i h
  · simp [h]
  · split <;> simp_all
  · simp [h]
  · split
    · simp_all
    · split <;> simp_all

theorem getF_writeFld_same (hfits : f.fits = true) : getF (writeFld f i val p).1 f i = fldAfter f val (getF p.1 f i) := by
  have hold : getF p.1 f i < 2 ^ f.width := bitsAt_lt ..
  have hval : bitsAt val f.bit f.width < 2 ^ f.width := bitsAt_lt ..
  unfold writeFld fldAfter
  cases f.acc <;> dsimp only
  case wo => split <;> rfl
  case w1c => rw [getF_setF_same f i _ _ hfits, Nat.mod_eq_of_lt (Nat.lt_of_le_of_lt (Nat.sub_le ..) hold)]
  case rw =>
    split <;> rename_i hrow
    · rw [if_neg (by simp [hrow])]
    · split <;> rename_i hlegal
      · rw [getF_setF_same f i _ _ hfits, Nat.mod_eq_of_lt hval, if_pos ⟨by simpa using hrow, hlegal⟩]
      · rw [if_neg (by simp [hlegal])]

theorem getF_writeFld_ne (hfits : f.fits = true) (g : Fld) (j : Nat) (h : apart f i g j = true) :
    getF (writeFld f i val p).1 g j = getF p.1 g j := by
  obtain heq | ⟨v, heq⟩ := writeFld_cases f i val p
  · rw [heq]
  · rw [heq, getF_setF_ne f g i j v p.1 hfits h]

theorem OnlyRegs.writeFld : OnlyRegs p.1 (writeFld f i val p).1 := by
  obtain heq | ⟨v, heq⟩ := writeFld_cases f i val p
  · rw [heq]
    exact .refl _
  · rw [heq]
    exact .setF ..

theorem RegsBut.writeFld : RegsBut [(f.reg, i)] p.1 (writeFld f i val p).1 := by
  obtain heq | ⟨v, heq⟩ := writeFld_cases f i val p
  · rw [heq]
    exact RegsBut.refl _ _
  · rw [heq]
    exact RegsBut.setF (by simp) _ _

end

/-! ### All fields of a register -/

/-- Writes some fields, one after another. -/
def writeList (fs : List Fld) (i : Nat) (val : BitVec 32) (p : State × Bool) : State × Bool :=
  fs.foldl (fun p f => writeFld f i val p) p

section
variable {r : Reg} {fs : List Fld} (h : fldsOf r fs) (i : Nat) (val : BitVec 32) (p : State × Bool)

theorem writeList_rsvd (fs : List Fld) : (writeList fs i val p).2 = (p.2 || fs.any (fldRsvd val)) := by
  induction fs generalizing p with
  | nil => simp [writeList]
  | cons f fs ih => exact (ih _).trans (by rw [writeFld_rsvd, List.any_cons, Bool.or_assoc])

theorem OnlyRegs.writeList (fs : List Fld) : OnlyRegs p.1 (writeList fs i val p).1 := by
  induction fs generalizing p with
  | nil => exact .refl _
  | cons f fs ih => exact (OnlyRegs.writeFld f i val p).trans (ih _)

include h

theorem RegsBut.writeList : RegsBut [(r, i)] p.1 (writeList fs i val p).1 := by
  induction fs generalizing p with
  | nil => exact RegsBut.refl _ _
  | cons f fs ih =>
    obtain ⟨hreg, -, -, hrest⟩ := fldsOf_cons h
    exact (hreg ▸ RegsBut.writeFld f i val p).trans (ih hrest _)

theorem getF_writeList_ne {g : Fld} (hg : ∀ f ∈ fs, apart f i g i = true) :
    getF (Machine.writeList fs i val p).1 g i = getF p.1 g i := by
  induction fs generalizing p with
  | nil => rfl
  | cons f fs ih =>
    obtain ⟨-, hfits, -, hrest⟩ := fldsOf_cons h
    exact (ih hrest _ fun f' hf' => hg f' (by simp [hf'])).trans (getF_writeFld_ne f i val p hfits g i (hg f (by simp)))

theorem getF_writeList {g : Fld} (hg : g ∈ fs) :
    getF (Machine.writeList fs i val p).1 g i = fldAfter g val (getF p.1 g i) := by
  induction fs generalizing p with
  | nil => cases hg
  | cons f fs ih =>
    obtain ⟨-, hfits, hothers, hrest⟩ := fldsOf_cons h
    obtain rfl | hg := List.mem_cons.1 hg
    · exact (getF_writeList_ne hrest i val _ fun f' hf' => (hothers i f' hf').2).trans
        (getF_writeFld_same g i val p hfits)
    · exact (ih hrest _ hg).trans
        (congrArg _ (getF_writeFld_ne f i val p hfits g i (hothers i g hg).1))

end

/-! ### The row -/

section
variable {r : Reg} (hplain : plainReg r = true) (i : Nat) (val : BitVec 32) (s : State)
include hplain

theorem crossCheck_of_plain (old : State) (p : State × Bool) : crossCheck r i old p = p := by
  unfold crossCheck
  split
  · exact absurd hplain (by decide)
  · exact absurd hplain (by decide)
  · exact absurd hplain (by decide)
  · rfl

theorem afterWrite_of_plain : afterWrite r i s = s := by
  unfold afterWrite
  split
  · exact absurd hplain (by decide)
  · exact absurd hplain (by decide)
  · exact absurd hplain (by decide)
  · exact absurd hplain (by decide)
  · exact absurd hplain (by decide)
  · rfl

/-- The write of a plain register: its fields, then the NOTE of a reserved encoding. -/
theorem regWrite_of_plain : regWrite r i val s =
    noteRsvd (r.info.flds.any (fldRsvd val)) (writeList r.info.flds i val (s, false)).1 := by
  have hfields : regWrite r i val s = fieldsWrite r i val s := by
    unfold regWrite
    split
    · exact absurd hplain (by decide)
    · exact absurd hplain (by decide)
    · exact absurd hplain (by decide)
    · rw [if_neg]
      simp only [plainReg, Bool.and_eq_true, Option.isNone_iff_eq_none] at hplain
      simp [hplain]
  rw [hfields, fieldsWrite, crossCheck_of_plain hplain, afterWrite_of_plain hplain]
  have hrsvd := writeList_rsvd i val (s, false) r.info.flds
  rw [Bool.false_or] at hrsvd
  rw [← hrsvd]
  rfl

end

theorem exec_regWrite_pf {s : State} {off : BitVec 28} {r : Reg} {i : Nat} (val : BitVec 32) (hopen : barOpen s = true)
    (halign : off.toNat % 4 = 0) (hfind : regFind Reg.table off.toNat = some (r, i)) :
    exec (.regWrite 0 false off val false) s = .next (regWrite r (ownIndex 0 r i) val s) := by
  have hw : writeOpen s off.toNat = true := by simp [writeOpen, hopen]
  show execRegWrite 0 false off val false s = _
  simp [execRegWrite, halign, hw, hfind, mayWrite]

/-- Settles O7: the fields share no bit, so each ends as `fldAfter` says. -/
theorem registerWriteFollowsAccessCodes : Obligations.RegisterWriteFollowsAccessCodes := by
  intro s off val r i hopen halign hfind hplain
  have hflds := fldsOf_info r
  refine ⟨(writeList r.info.flds (ownIndex 0 r i) val (s, false)).1, r.info.flds.any (fldRsvd val), ?_,
    OnlyRegs.writeList _ _ (s, false) _, RegsBut.writeList hflds _ _ (s, false), ?_, fun f hf => ?_⟩
  · rw [exec_regWrite_pf val hopen halign hfind, regWrite_of_plain hplain]
  · simp [fldRsvd]
  · rw [getF_writeList hflds _ _ _ hf]
    refine ⟨fun hacc hrow hlegal => ?_, fun hacc hkept => ?_, fun hacc => ?_, fun hacc => ?_⟩
    · simp [fldAfter, hacc, hrow, hlegal]
    · obtain hrow | hrsvd := hkept <;> simp [fldAfter, *]
    · simp [fldAfter, hacc]
    · obtain hacc | hacc := hacc <;> simp [fldAfter, hacc]

end Sys2Proof.Machine
end

section
/-! Register pairs (R12-R14) and the rows of the event block (R871, R883, R884). -/

namespace Sys2Proof.Machine

/-- A command whose meaning is a next state completes in it. -/
theorem Completes.of_eq {c : Instr} {s t : State} {p : State → Prop} (h : exec c s = .next t) (hp : p t) :
    Completes c s p := ⟨t, h, hp⟩

theorem mapFind_mapDel_same {α : Type} (m : Map α) (k : Nat) : mapFind (mapDel m k) k = none := by
  induction m with
  | nil => rfl
  | cons e m ih =>
    obtain ⟨j, v⟩ := e
    by_cases h : j = k
    · simpa [mapDel, h] using ih
    · have hdel : mapDel ((j, v) :: m) k = (j, v) :: mapDel m k := by simp [mapDel, h]
      rw [hdel, mapFind, if_neg h, ih]

theorem writeOpen_of_barOpen {s : State} (off : Nat) (h : barOpen s = true) : writeOpen s off = true := by
  simp [writeOpen, h]

/-! ### Reads (R13) -/

section
variable {f : Func} {s : State} {off : BitVec 28} {r : Reg} {i : Nat} (hopen : readOpen s off.toNat = true)
  (hone : twoFold off.toNat = false) (halign : off.toNat % 4 = 0) (hfind : regFind Reg.table off.toNat = some (r, i))
include hopen hone halign hfind

theorem exec_reg64LoRead_lo {hi : Reg} (hhi : r.hi? = some hi) : exec (.reg64LoRead f false off) s
    = .next (complete f (regView s f.val r i) (setShadow f.val (regView s f.val hi i) s)) := by
  show execReg64LoRead f false off s = _
  simp [execReg64LoRead, barRead, halign, hopen, hone, hfind, hhi]

theorem exec_reg64HiRead_hi {lo : Reg} (hhi : r.hi? = none) (hlo : r.lo? = some lo) :
    exec (.reg64HiRead f off) s = .next (complete f (mapGet s.pci.shadow f.val 0) s) := by
  show execReg64HiRead f off s = _
  simp [execReg64HiRead, barRead, halign, hopen, hone, hfind, hhi, hlo]

end

/-! ### Writes (R14) -/

section
variable {s : State} {off : BitVec 28} {r : Reg} {i : Nat} (hopen : writeOpen s off.toNat = true)
  (hfind : regFind Reg.table off.toNat = some (r, i)) (hrw : pairWritable r = true)
include hopen hfind hrw

theorem exec_reg64LoWrite_pf (v : BitVec 32) (hhi : r.hi?.isSome = true) :
    exec (.reg64LoWrite 0 off v) s = .next (loHold r i v s) := by
  show execReg64LoWrite 0 off v s = _
  simp [execReg64LoWrite, hopen, hfind, hhi, mayWrite, hrw]

theorem exec_reg64HiWrite_pf (w : BitVec 32) {lo : Reg} (hlo : r.lo? = some lo) :
    exec (.reg64HiWrite 0 off w) s = .next (pairWrite lo r i w s) := by
  show execReg64HiWrite 0 off w s = _
  simp [execReg64HiWrite, hopen, hfind, hlo, mayWrite, hrw]

end

/-- The held half and the written one take effect together. -/
theorem pairWrite_eq {lo : Reg} (hi : Reg) (i : Nat) (w : BitVec 32) (s : State) (h : lo ≠ .TQ_CNT_LO) :
    pairWrite lo hi i w s = setReg hi i (rwBits hi w)
      (setReg lo i (rwBits lo (mapGet s.pci.loHeld (regKey lo i) (getReg s lo i)))
        { s with pci := { s.pci with loHeld := mapDel s.pci.loHeld (regKey lo i) } }) := if_neg h

/-- Settles O9: both halves of a read and of a write go through the requester's shadow and the held half. -/
theorem pairsAreReadAndWrittenInHalves : Obligations.PairsAreReadAndWrittenInHalves := by
  refine ⟨fun f g s off lo hi i hopen hone halign hfind hhi => ?_, fun f s off lo hi i hopen hone halign hfind hhi hlo => ?_,
    fun s off lo i v hopen hfind hhi hrw => ?_, fun s off lo hi i w hopen hfind hlo hne hcnt hrw => ?_⟩
  · exact .of_eq (exec_reg64LoRead_lo hopen hone halign hfind hhi) ⟨rfl, mapGet_mapSet_same ..,
      fun hgf => mapGet_mapSet_ne _ _ _ _ (fun e => hgf (Fin.ext e)), rfl⟩
  · rw [exec_reg64HiRead_hi hopen hone halign hfind hhi hlo, complete]
  · exact .of_eq (exec_reg64LoWrite_pf hopen hfind hrw v hhi) ⟨rfl, mapGet_mapIns_same ..⟩
  · refine .of_eq (exec_reg64HiWrite_pf hopen hfind hrw w hlo) ?_
    rw [pairWrite_eq hi i w s hcnt]
    refine ⟨?_, ?_, fun r j hrj => ?_, mapFind_mapDel_same ..⟩
    · rw [getReg_setReg, if_neg (fun e => hne e.1), getReg_setReg, if_pos ⟨rfl, rfl⟩]
    · rw [getReg_setReg, if_pos ⟨rfl, rfl⟩]
    · simp only [List.mem_cons, List.not_mem_nil, or_false, not_or, Prod.mk.injEq] at hrj
      rw [getReg_setReg, if_neg hrj.2, getReg_setReg, if_neg hrj.1]
      rfl

/-! ### The event block -/

theorem exec_evtHeadWrite {s : State} (f : Func) (v : BitVec 32) (hopen : barOpen s = true) :
    exec (.evtHeadWrite f v) s = .next (evtHeadWrite f.val v s) :=
  congrArg Host.Outcome.next (if_pos hopen)

theorem exec_evtInj_pf {s : State} (c : BitVec 16) (hopen : barOpen s = true) :
    exec (.evtInj 0 c) s = .next (evtInject c.toNat s) :=
  congrArg Host.Outcome.next (if_pos (by simp [hopen]))

theorem exec_evtInj_vf {f : Func} (c : BitVec 16) (s : State) (hf : f ≠ 0) : exec (.evtInj f c) s = .next s :=
  congrArg Host.Outcome.next (if_neg (by simp [hf]))

theorem exec_evtCntclr {s : State} (f : Func) (hopen : barOpen s = true) :
    exec (.evtCntclr f) s = .next (evtCntclr f.val s) :=
  congrArg Host.Outcome.next (if_pos hopen)

/-- Where a ring has lost nothing, no record tells of a loss (R870). -/
theorem tryLost_of_none_lost {f : Nat} {s : State} (h : mapGet s.evt.lostSince f 0 = 0) : tryLost f s = s := by
  simp [tryLost, h]

theorem noteRsvd_true (s : State) : noteRsvd true s = post { code := Ev.REG_RSVD } s := if_pos rfl

theorem evtInject_of_listed {code sev : Nat} (s : State) (h : evSev? code = some sev) (hnf : sev ≠ 3) :
    evtInject code s = post { code := code, inj := true } s := by
  rw [evtInject, h]
  exact if_neg hnf

theorem evtInject_of_reserved {code : Nat} (s : State) (h : evSev? code = none ∨ evSev? code = some 3) :
    evtInject code s = post { code := Ev.REG_RSVD } s := by
  rw [evtInject, ← noteRsvd_true]
  obtain h | h := h <;> rw [h]
  exact if_pos rfl

/-- The table gives the counters of lost and of posted events the reset value 0. -/
theorem regReset_sevcnt (k : Nat) : regReset .EVT_SEVCNT k = 0 := rfl

theorem OnlyRegs.clearReg (r : Reg) (s : State) : OnlyRegs s (clearReg r s) := rfl

theorem evtCntclr_of_pf (s : State) : evtCntclr 0 s = clearReg .EVT_SEVCNT (setReg .EVT_LOST 0 0 s) := rfl

theorem evtCntclr_of_vf {f : Nat} (s : State) (h : f ≠ 0) : evtCntclr f s = setReg .EVT_LOST f 0 s := if_neg h

/-- Settles O10. -/
theorem eventBlockRows : Obligations.EventBlockRows := by
  refine ⟨fun f v s hopen hle => ⟨?_, ?_⟩, fun f v s hopen hgt => ?_, fun c sev s hopen hsev hnf => ?_,
    fun c s hopen hbad => ?_, fun f c s hf => exec_evtInj_vf c s hf, fun f s hopen => ?_⟩
  · rw [exec_evtHeadWrite f v hopen, evtHeadWrite, if_neg (Nat.not_lt.2 hle)]
  · intro hlost
    exact tryLost_of_none_lost (by rw [setReg_evt, hlost])
  · rw [exec_evtHeadWrite f v hopen, evtHeadWrite, if_pos hgt, noteRsvd_true]
  · rw [exec_evtInj_pf c hopen, evtInject_of_listed s hsev hnf]
  · rw [exec_evtInj_pf c hopen, evtInject_of_reserved s hbad]
  · refine .of_eq (exec_evtCntclr f hopen) ?_
    by_cases hf : f = 0
    · subst hf
      rw [show ((0 : Func) : Nat) = 0 from rfl, evtCntclr_of_pf]
      refine ⟨(OnlyRegs.setReg ..).trans (.clearReg ..), by simp, fun _ k => ?_, fun h => absurd rfl h,
        fun r j hl hc => by simp [hl, hc]⟩
      rw [getReg_clearReg, if_pos rfl, regReset_sevcnt]
    · have hfv : f.val ≠ 0 := fun e => hf (Fin.ext e)
      rw [evtCntclr_of_vf s hfv]
      exact ⟨.setReg .., by simp, fun h => absurd h hf, fun _ => RegsBut.setReg (by simp) _ _,
        fun r j hl _ => by simp [hl]⟩

end Sys2Proof.Machine
end

section
/-! The rows that clear a block's counters (R126, R172, R220, R277, R350, R411, R454, R511, R561, R625, R657, R687, R742, R784). -/

namespace Sys2Proof.Machine

/-- A register whose fields all reset to 0 and to no value of their index. -/
def Reg.resetsToZero (r : Reg) : Bool :=
  r.info.flds.all (fun f => f.reset == 0 && !([.TWY_LINKCTL, .BRK_RAILCFG, .BRK_RAILLIM, .BEAD_AVAIL] : List Reg).contains f.reg)

theorem fldReset_eq_zero {f : Fld} (i : Nat) (hz : f.reset = 0)
    (hreg : f.reg ∉ ([.TWY_LINKCTL, .BRK_RAILCFG, .BRK_RAILLIM, .BEAD_AVAIL] : List Reg)) : fldReset f i = 0 := by
  unfold fldReset
  split <;> simp_all

theorem regReset_eq_zero {r : Reg} (h : r.resetsToZero = true) (i : Nat) : regReset r i = 0 := by
  have hsum : (r.info.flds.map (fun f => fldReset f i % 2 ^ f.width * 2 ^ f.bit)).sum = 0 := by
    refine List.sum_eq_zero_iff_forall_eq_nat.2 fun x hx => ?_
    obtain ⟨f, hf, rfl⟩ := List.mem_map.1 hx
    have hf := List.all_eq_true.1 h f hf
    simp only [Bool.and_eq_true, beq_iff_eq, Bool.not_eq_true', List.contains_eq_mem, decide_eq_false_iff_not] at hf
    simp [fldReset_eq_zero i hf.1 hf.2]
  rw [regReset, hsum]
  rfl

theorem OnlyRegs.clearRegs (rs : List Reg) (s : State) : OnlyRegs s (clearRegs rs s) := clearRegs_rest rs s

theorem RegsButAll.clearRegs (rs : List Reg) (s : State) : RegsButAll rs s (clearRegs rs s) := fun r i hr => by
  rw [getReg_clearRegs, if_neg hr]

theorem exec_clearRow {c : Instr} {l : List Reg} {s : State} (hrow : (c, l) ∈ clearRows) (hopen : barOpen s = true) :
    exec c s = .next (clearRegs l s) := by
  simp only [clearRows, List.mem_cons, List.not_mem_nil, or_false, Prod.mk.injEq] at hrow
  obtain h | h | h | h | h | h | h | h | h | h | h | h | h := hrow <;>
    (obtain ⟨rfl, rfl⟩ := h; exact congrArg Host.Outcome.next (if_pos hopen))

theorem clearRows_resetsToZero : ∀ e ∈ clearRows, ∀ r ∈ e.2, r.resetsToZero = true := by
  have h : clearRows.all (fun e => e.2.all Reg.resetsToZero) = true := rfl
  simpa using h

/-! ### MEM_CNTCLR (R220) -/

/-- What a fold leaves at one place: only the step at that place counts. -/
theorem foldl_read {α β γ : Type} {f : β → α → β} (g : β → γ) {l : List α} {n : α} (b : β) (hnodup : l.Nodup) (hn : n ∈ l)
    (hne : ∀ k ∈ l, k ≠ n → ∀ u, g (f u k) = g u) : ∃ u, g u = g b ∧ g (l.foldl f b) = g (f u n) := by
  have hfold : ∀ (l' : List α) (b' : β), (∀ k ∈ l', ∀ u, g (f u k) = g u) → g (l'.foldl f b') = g b' := by
    intro l' b' h
    induction l' generalizing b' with
    | nil => rfl
    | cons k l' ih => rw [List.foldl_cons, ih _ fun a ha => h a (by simp [ha]), h k (by simp)]
  obtain ⟨pre, post, rfl⟩ := List.append_of_mem hn
  obtain ⟨-, hpost, hdisj⟩ := List.nodup_append.1 hnodup
  refine ⟨pre.foldl f b, hfold pre b fun k hk => hne k (by simp [hk]) (hdisj k hk n (by simp)), ?_⟩
  rw [List.foldl_append, List.foldl_cons, hfold post _ fun k hk => hne k (by simp [hk]) ?_]
  rintro rfl
  exact (List.nodup_cons.1 hpost).1 hk

/-- The counters of one channel cleared. -/
def clearChan (n : Nat) (s : State) : State := setF F.MEM_CHSTAT.CE n 0 (setF F.MEM_CHSTAT.RETRAINS n 0 s)

theorem memClear_eq (s : State) : memClear s = (List.range 48).foldl (fun u n => clearChan n u) s := rfl

/-- Clearing channel by channel reads, at channel n, as clearing that channel. -/
theorem getReg_memClear {n : Nat} (hn : n < 48) (s : State) :
    getReg (memClear s) .MEM_CHSTAT n = getReg (clearChan n s) .MEM_CHSTAT n := by
  have hne : ∀ k ∈ List.range 48, k ≠ n → ∀ u, getReg (clearChan k u) .MEM_CHSTAT n = getReg u .MEM_CHSTAT n := by
    intro k _ hk u
    rw [clearChan, getReg_setF_ne _ _ _ _ _ _ (.inr hk.symm), getReg_setF_ne _ _ _ _ _ _ (.inr hk.symm)]
  obtain ⟨u, hu, hfold⟩ := foldl_read (fun u => getReg u .MEM_CHSTAT n) s List.nodup_range (List.mem_range.2 hn) hne
  rw [memClear_eq, hfold]
  simp only [clearChan, setF, getReg_setReg, F.MEM_CHSTAT.CE, F.MEM_CHSTAT.RETRAINS, and_self, if_true, hu]

theorem getF_memClear {f : Fld} (hf : f.reg = .MEM_CHSTAT) {n : Nat} (hn : n < 48) (s : State) :
    getF (memClear s) f n = getF (clearChan n s) f n := by
  rw [getF, hf, getReg_memClear hn, getF, hf]

theorem getF_clearChan_ne {f : Fld} {n : Nat} (s : State) (hce : apart F.MEM_CHSTAT.CE n f n = true)
    (hre : apart F.MEM_CHSTAT.RETRAINS n f n = true) : getF (clearChan n s) f n = getF s f n := by
  rw [clearChan, getF_setF_ne _ _ _ _ _ _ rfl hce, getF_setF_ne _ _ _ _ _ _ rfl hre]

theorem onlyRegs_memClear (s : State) : OnlyRegs s (memClear s) := by
  rw [memClear_eq]
  generalize List.range 48 = l
  induction l generalizing s with
  | nil => exact .refl s
  | cons n l ih => exact ((OnlyRegs.setF F.MEM_CHSTAT.RETRAINS n 0 s).trans (.setF F.MEM_CHSTAT.CE n 0 _)).trans (ih _)

theorem regsButAll_memClear (s : State) : RegsButAll [.MEM_CHSTAT] s (memClear s) := by
  rw [memClear_eq]
  generalize List.range 48 = l
  intro r i hr
  simp only [List.mem_singleton] at hr
  induction l generalizing s with
  | nil => rfl
  | cons n l ih =>
    rw [List.foldl_cons, ih, clearChan, getReg_setF_ne _ _ _ _ _ _ (.inl hr), getReg_setF_ne _ _ _ _ _ _ (.inl hr)]

/-- The fields of MEM_CHSTAT share no bit. -/
theorem chstat_apart (n : Nat) :
    apart F.MEM_CHSTAT.CE n F.MEM_CHSTAT.MR4 n = true ∧ apart F.MEM_CHSTAT.RETRAINS n F.MEM_CHSTAT.MR4 n = true ∧
    apart F.MEM_CHSTAT.CE n F.MEM_CHSTAT.HOT n = true ∧ apart F.MEM_CHSTAT.RETRAINS n F.MEM_CHSTAT.HOT n = true ∧
    apart F.MEM_CHSTAT.CE n F.MEM_CHSTAT.RETRAINS n = true := by
  simp [apart, F.MEM_CHSTAT.CE, F.MEM_CHSTAT.MR4, F.MEM_CHSTAT.RETRAINS, F.MEM_CHSTAT.HOT]

/-- Settles O11: the rows of `clearRows` return registers to their reset value, which is 0. -/
theorem counterClearRows : Obligations.CounterClearRows := by
  refine ⟨fun c l s hrow hopen => .of_eq (exec_clearRow hrow hopen) ⟨.clearRegs .., RegsButAll.clearRegs _ _,
    fun r hr i => ?_⟩, fun s n hopen => .of_eq (t := memClear s) (congrArg Host.Outcome.next (if_pos hopen)) ?_⟩
  · rw [getReg_clearRegs, if_pos hr, regReset_eq_zero (clearRows_resetsToZero _ hrow r hr)]
  · obtain ⟨hcm, hrm, hch, hrh, hcr⟩ := chstat_apart n
    refine ⟨onlyRegs_memClear s, regsButAll_memClear s, ?_, ?_, ?_, ?_⟩
    · rw [getF_memClear rfl n.isLt, clearChan, getF_setF_same _ _ _ _ rfl]
      rfl
    · rw [getF_memClear rfl n.isLt, clearChan, getF_setF_ne _ _ _ _ _ _ rfl hcr, getF_setF_same _ _ _ _ rfl]
      rfl
    · rw [getF_memClear rfl n.isLt, getF_clearChan_ne s hcm hrm]
    · rw [getF_memClear rfl n.isLt, getF_clearChan_ne s hch hrh]

end Sys2Proof.Machine
end

section
/-! Flits that enter the mesh (R79-R82, R90, R91, R103, R105, R122, R678, R683) and that routers move (R85, R88, R93, R109-R117). -/

namespace Sys2Proof.Machine

/-! ### When a command is due -/

theorem onFrame_of_runs {s : State} (h : frameRuns s = true) (f : State → State) : onFrame s f = .next (f s) :=
  congrArg Host.Outcome.next (if_pos h)

theorem onClock_of_runs {s : State} (h : clocksRun s = true) (f : State → State) : onClock s f = .next (f s) :=
  congrArg Host.Outcome.next (if_pos h)

@[simp] theorem onlyIf_true (f : State → State) (s : State) : onlyIf true f s = f s := rfl

@[simp] theorem onlyIf_false (f : State → State) (s : State) : onlyIf false f s = s := rfl

theorem onFrame_id (s : State) : onFrame s (fun u => u) = .next s := congrArg Host.Outcome.next (ite_self s)

/-- A counting field of known width after it is bumped. -/
theorem getF_bump_of_width {f : Fld} {w : Nat} (hw : f.width = w) (hfits : f.fits = true) (i : Nat) (s : State) :
    getF (bump f i s) f i = min (getF s f i + 1) (2 ^ w - 1) := by
  rw [getF_bump_same f i s hfits, hw]

/-- Registers read by `regs` alone. -/
theorem getReg_congr {s t : State} (h : t.regs = s.regs) (r : Reg) (i : Nat) : getReg t r i = getReg s r i := by
  rw [getReg, h, getReg]

theorem getF_congr {s t : State} (h : t.regs = s.regs) (f : Fld) (i : Nat) : getF t f i = getF s f i := by
  rw [getF, getReg_congr h, getF]

theorem RegsBut.of_regs_eq {l : List (Reg × Nat)} {s t : State} (h : t.regs = s.regs) : RegsBut l s t :=
  fun r i _ => getReg_congr h r i

theorem RegsBut.bump {l : List (Reg × Nat)} {f : Fld} {i : Nat} (h : (f.reg, i) ∈ l) (s : State) :
    RegsBut l s (bump f i s) := RegsBut.setF h _ s

theorem getF_setMsh (s : State) (m : MeshState) (f : Fld) (i : Nat) : getF { s with msh := m } f i = getF s f i := rfl

/-! ### What injecting a flit leaves alone -/

/-- Two states agree but for the buffers and inboxes of the mesh and the wake requests. -/
structure InjectFrame (s t : State) : Prop where
  regs : t.regs = s.regs
  reserved : t.msh.reserved = s.msh.reserved
  linkWait : t.msh.linkWait = s.msh.linkWait
  capBusy : t.msh.capBusy = s.msh.capBusy

theorem InjectFrame.refl (s : State) : InjectFrame s s := ⟨rfl, rfl, rfl, rfl⟩

theorem InjectFrame.trans {s t u : State} (h : InjectFrame s t) (k : InjectFrame t u) : InjectFrame s u :=
  ⟨k.regs.trans h.regs, k.reserved.trans h.reserved, k.linkWait.trans h.linkWait, k.capBusy.trans h.capBusy⟩

theorem InjectFrame.foldl {α : Type} {g : State → α → State} (h : ∀ u a, InjectFrame u (g u a)) (l : List α) (s : State) :
    InjectFrame s (l.foldl g s) := by
  induction l generalizing s with
  | nil => exact .refl s
  | cons a l ih => exact (h s a).trans (ih _)

theorem InjectFrame.adjMove (s : State) : InjectFrame s (adjMove s) := by
  unfold Machine.adjMove
  refine InjectFrame.trans (t := { s with msh := { s.msh with adjHeld := [] } }) ⟨rfl, rfl, rfl, rfl⟩ (.foldl (fun u f => ?_) ..)
  dsimp only
  split <;> exact ⟨rfl, rfl, rfl, rfl⟩

theorem InjectFrame.inject (t a : Nat) (f : Flit) (s : State) : InjectFrame s (inject t a f s) := by
  unfold Machine.inject
  dsimp only
  split
  · refine InjectFrame.trans ?_ (.adjMove _)
    exact ⟨rfl, rfl, rfl, rfl⟩
  · exact ⟨rfl, rfl, rfl, rfl⟩

/-! ### FLIT_INJECT -/

section
variable {s : State} (hrun : frameRuns s = true)
include hrun

section
variable {t : TileId} {a : Fin 8} {hdr : BitVec 128} {pay : Sector} {tally : BitVec 32} {k : Fin 64}
  (hagent : hasAgent t.val a.val = true) (hrej : (formFlit s t a hdr pay tally).rejected = false)
  (htag : tagFree s t a (formFlit s t a hdr pay tally) = true)
include hagent hrej htag

/-- A flit on another channel than the urgent one goes at once. -/
theorem exec_flitInject_plain (die : Option Die) (hvc : (formFlit s t a hdr pay tally).vc ≠ 0) :
    exec (.flitInject t a hdr pay tally die k) s = .next (inject t a (formFlit s t a hdr pay tally)
      (expect t a (formFlit s t a hdr pay tally) k s)) := by
  show onFrame s _ = _
  rw [onFrame_of_runs hrun]
  simp [flitInject, hagent, hrej, htag, hvc]

theorem exec_flitInject_urgent (hvc : (formFlit s t a hdr pay tally).vc = 0) (hurge : mayUrge a.val = true) :
    exec (.flitInject t a hdr pay tally none k) s = .next (injectUrgent t a (formFlit s t a hdr pay tally) s) := by
  show onFrame s _ = _
  rw [onFrame_of_runs hrun]
  simp [flitInject, hagent, hrej, htag, hvc, hurge]

/-- An urgent flit to another die waits for a link; where its source's cap is busy, it is counted. -/
theorem exec_flitInject_urgent_die (d : Die) (hvc : (formFlit s t a hdr pay tally).vc = 0) (hurge : mayUrge a.val = true) :
    exec (.flitInject t a hdr pay tally (some d) k) s = .next
      { (if s.msh.capBusy.contains (srcOf t a) then bump F.MSH_URGHELD.COUNT 0 s else s) with
        msh := { s.msh with linkWait := s.msh.linkWait ++
          [{ tile := t, code := a, die := some d, flit := formFlit s t a hdr pay tally }] } } := by
  show onFrame s _ = _
  rw [onFrame_of_runs hrun, flitInject]
  dsimp only
  have hmsh : (if s.msh.capBusy.contains (srcOf t a) = true then bump F.MSH_URGHELD.COUNT 0 s else s).msh = s.msh := by
    split
    · exact bump_msh ..
    · rfl
  rw [if_neg (by simp [hagent, hrej, htag, hurge]), if_pos hvc, hmsh]

end

/-- An agent that may send no urgent flit is not heard (R678). -/
theorem exec_flitInject_barred (t : TileId) (a : Fin 8) (hdr : BitVec 128) (pay : Sector) (tally : BitVec 32)
    (die : Option Die) (k : Fin 64) (hvc : (formFlit s t a hdr pay tally).vc = 0) (hbar : mayUrge a.val = false) :
    exec (.flitInject t a hdr pay tally die k) s = .next s := by
  show onFrame s _ = _
  rw [onFrame_of_runs hrun]
  simp [flitInject, hvc, hbar]

/-! ### The end of an interval, and a link's reservation -/

theorem exec_urgentCapRelease {src : UrgSrc} (hbusy : src ∈ s.msh.capBusy) :
    exec (.urgentCapRelease src) s = .next (capRelease src s) := by
  show onFrame s _ = _
  rw [onFrame_of_runs hrun]
  simp [hbusy]

theorem exec_urgentLinkReserve (t : TileId) (a : Fin 8) (n : LinkId) :
    exec (.urgentLinkReserve t a n) s = .next (linkReserve t a n s) := by
  show onFrame s _ = _
  exact onFrame_of_runs hrun _

end

/-- The state in which a link has granted a reservation to a waiting flit, whose interval begins. -/
def reserved (t : TileId) (a : Fin 8) (n : LinkId) (w : UrgWait) (s : State) : State :=
  { s with msh := { s.msh with
      linkWait := s.msh.linkWait.erase w
      capBusy := s.msh.capBusy ++ [srcOf t a]
      reserved := mapIns s.msh.reserved n.val w } }

theorem linkReserve_of_granted {t : TileId} {a : Fin 8} {n : LinkId} {s : State} {w : UrgWait} {d : Die}
    (hw : s.msh.linkWait.find? (fun w => decide (w.tile = t ∧ w.code = a)) = some w) (hd : w.die = some d)
    (hlink : .link n ∉ s.msh.capBusy) (hsrc : srcOf t a ∉ s.msh.capBusy) (hnone : mapFind s.msh.reserved n.val = none)
    (hactive : getF s F.TWY_STATUS.STATE n.val = 4) (hhop : ∃ h ∈ nextHops s d.val, h.1 = n.val) :
    ∃ f, linkReserve t a n s = inject t a f (Machine.reserved t a n w s) := by
  have hany : (nextHops s d.val).any (fun h => h.1 == n.val) = true := by simpa using hhop
  rw [linkReserve, hw]
  dsimp only
  rw [hd]
  dsimp only
  rw [if_neg (by simp [hlink, hsrc, hnone, hactive, hany])]
  exact ⟨_, rfl⟩

/-- Settles O12. -/
theorem flitsEnterTheMesh : Obligations.FlitsEnterTheMesh := by
  refine ⟨?_, fun src s hrun hbusy => ⟨fun hnone => ?_, fun w hw => ?_⟩,
    fun t a n s w d hrun hw hd hlink hsrc hnone hactive hhop => ?_⟩
  · rintro t a hdr pay tally die k s f rfl hrun hagent hrej htag
    refine ⟨exec_flitInject_plain hrun hagent hrej htag die, ?_, ?_, ?_, ?_,
      exec_flitInject_barred hrun t a hdr pay tally die k⟩
    · rintro hvc hurge rfl hfree
      rw [exec_flitInject_urgent hrun hagent hrej htag hvc hurge, injectUrgent, if_neg (by simpa using hfree)]
    · rintro hvc hurge rfl hbusy
      refine .of_eq (exec_flitInject_urgent hrun hagent hrej htag hvc hurge) ?_
      rw [injectUrgent, if_pos (by simpa using hbusy)]
      refine ⟨bump_msh .., ?_, (RegsBut.of_regs_eq rfl).trans (RegsBut.bump (by simp [F.MSH_URGHELD.COUNT]) _)⟩
      rw [getF_bump_of_width (w := 32) rfl rfl, getF_setMsh]
    · rintro hvc hurge d rfl hfree
      rw [exec_flitInject_urgent_die hrun hagent hrej htag d hvc hurge, if_neg (by simpa using hfree)]
    · rintro hvc hurge d rfl hbusy
      refine .of_eq (exec_flitInject_urgent_die hrun hagent hrej htag d hvc hurge) ?_
      rw [if_pos (by simpa using hbusy)]
      refine ⟨rfl, ?_, (RegsBut.bump (by simp [F.MSH_URGHELD.COUNT]) s).trans (RegsBut.of_regs_eq rfl)⟩
      rw [getF_setMsh, getF_bump_of_width (w := 32) rfl rfl]
  · rw [exec_urgentCapRelease hrun hbusy, capRelease, hnone]
  · rw [exec_urgentCapRelease hrun hbusy, capRelease, hw]
  · obtain ⟨f, hf⟩ := linkReserve_of_granted hw hd hlink hsrc hnone hactive hhop
    refine .of_eq (exec_urgentLinkReserve hrun t a n) ?_
    rw [hf]
    have hframe := InjectFrame.inject t a f (Machine.reserved t a n w s)
    refine ⟨?_, hframe.linkWait, hframe.capBusy, hframe.regs⟩
    rw [hframe.reserved]
    exact mapFind_mapIns_same ..

/-! ### Routers -/

section
variable {t : TileId} {s : State} (hrun : frameRuns s = true) (hawake : coveAwake s (coveOf t.val) = true)
include hrun hawake

theorem exec_meshFlitHop (out : Fin 7) (noise : BitVec 704) :
    exec (.meshFlitHop t out noise) s = .next (meshHop t out noise s) := by
  show onFrame s _ = _
  rw [onFrame_of_runs hrun, hawake, onlyIf_true]

theorem exec_meshFlitEject : exec (.meshFlitEject t) s = .next (meshEject t s) := by
  show onFrame s _ = _
  rw [onFrame_of_runs hrun, hawake, onlyIf_true]

end

/-- Where no crossing has more errors than either limit allows, a window's end does nothing at any of them (R112, R113). -/
theorem isthmusWindow_of_quiet {x : Nat} {s : State}
    (hweak : mapGet s.msh.isthWin (2 * x) 0 + mapGet s.msh.isthWin (2 * x + 1) 0 ≤ getF s F.MSH_ISTHLIM.DEGRADE_LIM)
    (hdown : mapGet s.msh.isthWin (2 * x) 0 + mapGet s.msh.isthWin (2 * x + 1) 0 ≤ getF s F.MSH_ISTHLIM.DOWN_LIM) :
    isthmusWindow x s = s := by
  rw [isthmusWindow, if_neg (Nat.not_lt.2 hdown), if_neg (Nat.not_lt.2 hweak)]

/-- Settles O13. -/
theorem routersMoveFlits : Obligations.RoutersMoveFlits := by
  refine ⟨fun t out noise s c hrun hawake hresp hgrant => ?_, fun t v f rest s hrun hawake hnext hbuf => ?_,
    fun t out noise s hgated => ⟨?_, ?_⟩, fun s hclock hquiet => ?_, fun x s hdown => ?_, fun x s hweak hdown => ?_⟩
  · rw [exec_meshFlitHop hrun hawake]
    simp only [meshHop, hresp, Bool.false_eq_true, if_false, hgrant, Cand.outs]
  · rw [exec_meshFlitEject hrun hawake]
    simp only [meshEject, hnext, hbuf]
  · show onFrame s _ = _
    rw [hgated]
    exact onFrame_id s
  · show onFrame s _ = _
    rw [hgated]
    exact onFrame_id s
  · show onClock s _ = _
    rw [onClock_of_runs hclock, isthmusWindows, foldl_of_fixed fun x hx => ?_]
    obtain ⟨hweak, hdown⟩ := hquiet x (List.mem_range.1 hx)
    rw [isthmusWindow_of_quiet hweak hdown, ite_self]
  · rw [isthmusWindow, if_pos hdown]
  · rw [isthmusWindow, if_pos hweak, if_neg (Nat.not_lt.2 hdown)]

end Sys2Proof.Machine
end

section
/-! Reads of fields after writes, by side conditions that `decide` closes for the fields of the tables; single bits; frames. -/

namespace Sys2Proof.Machine

/-! ### Fields -/

theorem getF_setF_of_reg {f g : Fld} (h : f.reg ≠ g.reg) (i j v : Nat) (s : State) : getF (setF f i v s) g j = getF s g j :=
  getF_setReg_ne _ _ _ _ _ _ (.inl h.symm)

theorem getF_setF_of_index {f g : Fld} {i j : Nat} (h : j ≠ i) (v : Nat) (s : State) : getF (setF f i v s) g j = getF s g j :=
  getF_setReg_ne _ _ _ _ _ _ (.inr h)

theorem getF_setF_of_bits {f g : Fld} (hf : f.fits = true) (h : f.bit + f.width ≤ g.bit ∨ g.bit + g.width ≤ f.bit)
    (i j v : Nat) (s : State) : getF (setF f i v s) g j = getF s g j :=
  getF_setF_ne f g i j v s hf (by simp [apart, h])

theorem getF_setF_of_lt {f : Fld} (hf : f.fits = true) {v : Nat} (h : v < 2 ^ f.width) (i : Nat) (s : State) :
    getF (setF f i v s) f i = v := by rw [getF_setF_same f i v s hf, Nat.mod_eq_of_lt h]

theorem getF_setReg_of_reg {r : Reg} {g : Fld} (h : r ≠ g.reg) (i j : Nat) (v : BitVec 32) (s : State) :
    getF (setReg r i v s) g j = getF s g j := getF_setReg_ne _ _ _ _ _ _ (.inl h.symm)

theorem getReg_setF_of_reg {f : Fld} {r : Reg} (h : f.reg ≠ r) (i j v : Nat) (s : State) :
    getReg (setF f i v s) r j = getReg s r j := getReg_setF_ne _ _ _ _ _ _ (.inl h.symm)

theorem getF_bump_of_reg {f g : Fld} (h : f.reg ≠ g.reg) (i j : Nat) (s : State) : getF (bump f i s) g j = getF s g j :=
  getF_setF_of_reg h ..

theorem getF_bumpBy_of_reg {f g : Fld} (h : f.reg ≠ g.reg) (i n j : Nat) (s : State) :
    getF (bumpBy f i n s) g j = getF s g j := getF_setF_of_reg h ..

theorem getF_lt (s : State) (f : Fld) (i : Nat) : getF s f i < 2 ^ f.width := bitsAt_lt ..

/-- A one-bit field holds what was written as a condition. -/
theorem flag_setF_boolNat {f : Fld} (hf : f.fits = true) (hw : f.width = 1) (i : Nat) (b : Bool) (s : State) :
    flag (setF f i (boolNat b) s) f i = b := by
  rw [flag, getF_setF_of_lt hf (by rw [hw]; exact boolNat_lt_two b), boolNat_beq_one]

/-! ### Single bits -/

theorem getLsbD_ofNat_two_pow {n i j : Nat} (hi : i < n) : (BitVec.ofNat n (2 ^ i)).getLsbD j = decide (j = i) := by
  rw [BitVec.getLsbD_ofNat, Nat.testBit_two_pow]
  by_cases h : j = i
  · simp [h, hi]
  · simp [h, Ne.symm h]

theorem getLsbD_putBit {n : Nat} (v : BitVec n) {i : Nat} (hi : i < n) (j : Nat) (b : Bool) :
    (putBit v i b).getLsbD j = if j = i then b else v.getLsbD j := by
  have hone := fun k => getLsbD_ofNat_two_pow (j := k) hi
  unfold putBit
  generalize BitVec.ofNat n (2 ^ i) = one at hone
  cases b
  · rw [if_neg Bool.false_ne_true, BitVec.getLsbD_and, BitVec.getLsbD_not, hone]
    by_cases hj : j = i
    · simp [hj]
    · by_cases hlt : j < n
      · rw [if_neg hj, decide_eq_true hlt, decide_eq_false hj, Bool.not_false, Bool.and_true, Bool.and_true]
      · rw [BitVec.getLsbD_of_ge v j (Nat.not_lt.1 hlt), Bool.false_and, ite_self]
  · by_cases hj : j = i <;> simp [hone, hj]

/-! ### Frames -/

theorem RegsBut.mono {l l' : List (Reg × Nat)} {s t : State} (h : RegsBut l s t) (hl : ∀ e ∈ l, e ∈ l') : RegsBut l' s t :=
  fun r i hri => h r i fun hm => hri (hl _ hm)

theorem RegsButAll.refl (l : List Reg) (s : State) : RegsButAll l s s := fun _ _ _ => rfl

theorem RegsButAll.trans {l : List Reg} {s t u : State} (h : RegsButAll l s t) (k : RegsButAll l t u) : RegsButAll l s u :=
  fun r i hr => (k r i hr).trans (h r i hr)

theorem RegsButAll.mono {l l' : List Reg} {s t : State} (h : RegsButAll l s t) (hl : ∀ r ∈ l, r ∈ l') : RegsButAll l' s t :=
  fun r i hr => h r i fun hm => hr (hl _ hm)

theorem RegsButAll.of_regs_eq {l : List Reg} {s t : State} (h : t.regs = s.regs) : RegsButAll l s t :=
  fun r i _ => getReg_congr h r i

theorem RegsBut.toAll {l : List (Reg × Nat)} {l' : List Reg} {s t : State} (h : RegsBut l s t)
    (hl : ∀ e ∈ l, e.1 ∈ l') : RegsButAll l' s t := fun r i hr => h r i fun hm => hr (hl _ hm)

theorem RegsButAll.setReg {l : List Reg} {r : Reg} (h : r ∈ l) (i : Nat) (v : BitVec 32) (s : State) :
    RegsButAll l s (setReg r i v s) := fun q j hq => by
  rw [getReg_setReg, if_neg]
  rintro ⟨rfl, -⟩
  exact hq h

theorem RegsButAll.setF {l : List Reg} {f : Fld} (h : f.reg ∈ l) (i v : Nat) (s : State) :
    RegsButAll l s (setF f i v s) := RegsButAll.setReg h _ _ s

theorem RegsButAll.bump {l : List Reg} {f : Fld} (h : f.reg ∈ l) (i : Nat) (s : State) :
    RegsButAll l s (bump f i s) := RegsButAll.setF h _ _ s

theorem RegsButAll.post (e : EvArgs) (s : State) : RegsButAll eventRegs s (post e s) := fun r i hr =>
  getReg_post e s r i (postReg_eq_false_of_notMem hr)

theorem RegsBut.add64 {l : List (Reg × Nat)} {lo hi : Reg} {i : Nat} (hlo : (lo, i) ∈ l) (hhi : (hi, i) ∈ l) (n : Nat)
    (s : State) : RegsBut l s (add64 lo hi i n s) := fun r j hrj =>
  getReg_add64_ne n s (by rintro ⟨rfl, rfl⟩; exact hrj hlo) (by rintro ⟨rfl, rfl⟩; exact hrj hhi)

/-! ### Policy events (R727, R730) -/

/-- POLICY_OVERRIDE is posted and counted: nothing else. -/
theorem policyOverride_eq (loop inst cause : Nat) (s : State) : policyOverride loop inst cause s
    = bump F.BRK_OVERRIDES.COUNT 0 (post { code := Ev.POLICY_OVERRIDE, inst := loop, d0 := inst, d1 := cause * 2 ^ 32 } s) := rfl

theorem getF_policyOverride {f : Fld} (hev : postReg f.reg = false) (hover : f.reg ≠ .BRK_OVERRIDES)
    (loop inst cause i : Nat) (s : State) : getF (policyOverride loop inst cause s) f i = getF s f i := by
  rw [policyOverride_eq, getF_bump_of_reg (by exact hover.symm), getF_post _ _ _ _ hev]

@[simp] theorem policyOverride_reef (loop inst cause : Nat) (s : State) :
    (policyOverride loop inst cause s).reef = s.reef := by rw [policyOverride_eq, bump_reef, post_reef]

@[simp] theorem clampStatus_reef (loop inst : Nat) (on : Bool) (s : State) : (clampStatus loop inst on s).reef = s.reef := by
  unfold clampStatus
  dsimp only
  split
  · simp
  · split <;> simp

@[simp] theorem clampStatus_brk (loop inst : Nat) (on : Bool) (s : State) : (clampStatus loop inst on s).brk = s.brk := by
  unfold clampStatus
  dsimp only
  split
  · simp
  · split <;> simp

/-- A clamp that begins stands last among the clamps in force. -/
theorem clampBegin_of_none {loop inst : Nat} {s : State} (h : (clampOf s loop inst).isSome = false) :
    (clampBegin loop inst s).brk.clamps
      = s.brk.clamps ++ [{ loop := loop, inst := inst, start := s.time, raised := false }] ∧
    (clampBegin loop inst s).reef = s.reef := by
  unfold clampBegin
  rw [if_neg (by simp [h])]
  simp

theorem clampOf_clampBegin {loop inst : Nat} {s : State} (h : (clampOf s loop inst).isSome = false) :
    (clampOf (clampBegin loop inst s) loop inst).isSome = true := by
  rw [clampOf, (clampBegin_of_none h).1]
  simp [List.find?_append]

end Sys2Proof.Machine
end

section
/-! The Reef: slices (R128-R133, R138, R139, R162, R163), refresh and scrub (R146-R159), the BAR4 window (R166-R172). -/

namespace Sys2Proof.Machine

/-! ### Slices -/

section
variable {t : TileId} {s : State} (hrun : frameRuns s = true) (hawake : sliceRuns s t.val = true)
include hrun hawake

theorem exec_reefRead (bank : Fin 8) (upset : Fin 81) :
    exec (.reefRead t bank upset) s = .next (reefRead t bank upset s) := by
  show onFrame s _ = _
  rw [onFrame_of_runs hrun, hawake, onlyIf_true]

theorem exec_reefWrite (bank : Fin 8) : exec (.reefWrite t bank) s = .next (reefWrite t bank s) := by
  show onFrame s _ = _
  rw [onFrame_of_runs hrun, hawake, onlyIf_true]

theorem exec_reefAtomic (bank : Fin 8) (upset : Fin 81) :
    exec (.reefAtomic t bank upset) s = .next (reefAtomic t bank upset s) := by
  show onFrame s _ = _
  rw [onFrame_of_runs hrun, hawake, onlyIf_true]

end

theorem serveFlit_of_admitted {tile : Nat} {f : Flit} {s : State} (g : Nat → State → State)
    (h : flitRefusal s tile f = none) : serveFlit tile f g s = g (flitSo s tile f) (takeAccess tile f s) := by
  rw [serveFlit, h]

theorem serveFlit_of_refused {tile : Nat} {f : Flit} {s : State} (g : Nat → State → State) {st : Nat}
    (h : flitRefusal s tile f = some st) : serveFlit tile f g s = sliceRefuse tile f st (takeAccess tile f s) := by
  rw [serveFlit, h]

theorem secAt_of_secs {s t : State} {key : Nat} {r : ReefSec}
    (h : t.reef.secs = mapSet s.reef.secs key (secBlank key) r) (k : Nat) :
    secAt t k = if k = key then r else secAt s k := by
  rw [secAt, h]
  by_cases hk : k = key
  · rw [if_pos hk, hk, mapGet_mapSet_same]
  · rw [if_neg hk, mapGet_mapSet_ne _ _ _ _ hk, secAt]

/-- The erroneous bytes that an armed injection puts into a write of the sector under a key (R172). -/
def armedErrs (s : State) (key : Nat) : Option Nat :=
  match s.reef.inj with
  | some (k, n) => if k = key then some n else none
  | none => none

theorem armedErrs_of_unarmed {s : State} (h : s.reef.inj = none) (key : Nat) : armedErrs s key = none := by
  rw [armedErrs, h]

/-- The sector that a write leaves (R131, R162). -/
def writtenSec (tile so : Nat) (d : Sector) (y : BitVec 32) (m : BitVec 16) (p : Bool) (s : State) : ReefSec :=
  { data := d, tally := y, poison := p, sys := secSys (secKey tile so), mark := m,
    errs := (armedErrs s (secKey tile so)).getD 0, passes := (secAt s (secKey tile so)).passes }

theorem writeSec_eq (tile so : Nat) (d : Sector) (y : BitVec 32) (m : BitVec 16) (p : Bool) (s : State) :
    writeSec tile so d y m p s =
      match armedErrs s (secKey tile so) with
      | none => setSec (secKey tile so) (writtenSec tile so d y m p s) s
      | some _ => setF F.RFB_INJCTL.ARMED 0 0
        { setSec (secKey tile so) (writtenSec tile so d y m p s) s with
          reef := { (setSec (secKey tile so) (writtenSec tile so d y m p s) s).reef with inj := none } } := rfl

theorem secs_writeSec (tile so : Nat) (d : Sector) (y : BitVec 32) (m : BitVec 16) (p : Bool) (s : State) :
    (writeSec tile so d y m p s).reef.secs
      = mapSet s.reef.secs (secKey tile so) (secBlank (secKey tile so)) (writtenSec tile so d y m p s) := by
  rw [writeSec_eq]
  cases armedErrs s (secKey tile so) with
  | none => rfl
  | some _ =>
    dsimp only
    rw [setF_reef]
    rfl

theorem mem_writeSec (tile so : Nat) (d : Sector) (y : BitVec 32) (m : BitVec 16) (p : Bool) (s : State) :
    (writeSec tile so d y m p s).mem = s.mem := by
  rw [writeSec_eq]
  cases armedErrs s (secKey tile so) with
  | none => rfl
  | some _ =>
    dsimp only
    rw [setF_mem]
    rfl

theorem secAt_writeSec (tile so : Nat) (d : Sector) (y : BitVec 32) (m : BitVec 16) (p : Bool) (s : State) (k : Nat) :
    secAt (writeSec tile so d y m p s) k = if k = secKey tile so then writtenSec tile so d y m p s else secAt s k :=
  secAt_of_secs (secs_writeSec ..) k

/-- Settles O15: a slice's rows serve what `sliceHead` gives, by `serveFlit`; a written sector is `writtenSec`. -/
theorem slicesServeRequests : Obligations.SlicesServeRequests := by
  refine ⟨fun t bank upset f s hrun hawake hhead hplace => ?_, fun t bank f s hrun hawake hhead hplace => ⟨fun hok => ?_, fun hbad => ?_⟩,
    fun t bank upset f s hrun hawake hhead hplace hok old u hrmw => ?_, fun t bank upset f s hrun hawake hhead hplace hbad => ?_,
    fun t bank upset f st s hrun hawake hplace => ⟨fun hhead => ?_, fun hhead => ?_, fun hhead => ?_⟩,
    fun tile so d y m p s => ?_⟩
  · rw [exec_reefRead hrun hawake, reefRead, hhead]
    exact congrArg _ (serveFlit_of_admitted _ hplace)
  · rw [exec_reefWrite hrun hawake, reefWrite, hhead]
    exact congrArg _ ((serveFlit_of_admitted _ hplace).trans (if_pos hok))
  · rw [exec_reefWrite hrun hawake, reefWrite, hhead]
    exact congrArg _ ((serveFlit_of_admitted _ hplace).trans (if_neg (by simp [hbad])))
  · rw [exec_reefAtomic hrun hawake, reefAtomic, hhead]
    dsimp only
    rw [serveFlit_of_admitted _ hplace, if_neg (by simp [hok])]
    generalize rmwSec _ _ _ _ _ _ _ _ _ = p at hrmw ⊢
    subst hrmw
    rfl
  · rw [exec_reefAtomic hrun hawake, reefAtomic, hhead]
    exact congrArg _ ((serveFlit_of_admitted _ hplace).trans (if_pos (by simp [hbad])))
  · rw [exec_reefRead hrun hawake, reefRead, hhead]
    exact congrArg _ (serveFlit_of_refused _ hplace)
  · rw [exec_reefWrite hrun hawake, reefWrite, hhead]
    exact congrArg _ (serveFlit_of_refused _ hplace)
  · rw [exec_reefAtomic hrun hawake, reefAtomic, hhead]
    exact congrArg _ (serveFlit_of_refused _ hplace)
  · rw [secAt_writeSec, if_pos rfl]
    exact ⟨rfl, rfl, rfl, rfl, fun hinj => congrArg (·.getD 0) (armedErrs_of_unarmed hinj _),
      fun k hk => by rw [secAt_writeSec, if_neg hk], mem_writeSec ..⟩

/-! ### Refresh (R146-R153) -/

theorem exec_refreshOp {s : State} (c : CoveId) (w : BitVec 16) (hready : s.evt.ready = true) :
    exec (.refreshOp c w) s = .next (refreshOp c w.toNat s) := congrArg Host.Outcome.next (if_pos hready)

theorem noteCool_regs (c : Nat) (s : State) : (noteCool c s).regs = s.regs := rfl

theorem noteCool_secs (c : Nat) (s : State) : (noteCool c s).reef.secs = s.reef.secs := rfl

/-- The band shown is the one given, and showing it touches no sector. -/
theorem getF_showBand {b : Nat} (hb : b < 4) (c : Nat) (s : State) : getF (showBand c b s) F.RFB_REFSTAT.BAND c = b := by
  have hset : getF (setF F.RFB_REFSTAT.BAND c b s) F.RFB_REFSTAT.BAND c = b := getF_setF_of_lt rfl hb c s
  unfold showBand
  dsimp only
  split
  · rw [getF_policyOverride rfl (by decide), getF_setF_of_bits rfl (by decide), hset]
  · rw [getF_setF_of_bits rfl (by decide), hset]

@[simp] theorem showBand_reef (c b : Nat) (s : State) : (showBand c b s).reef = s.reef := by
  unfold showBand
  dsimp only
  split <;> simp

theorem bandStepDown_of_cool {c : Nat} {s : State} (hcool : mapGet s.reef.cool c false = true)
    (hmin : getF s F.RFB_REFENV.MIN_BAND < getF s F.RFB_REFSTAT.BAND c) :
    bandStepDown c s = noteCool c (showBand c (getF s F.RFB_REFSTAT.BAND c - 1) s) :=
  if_pos (by simp [hcool, hmin])

/-! ### Scrub (R154-R159) -/

/-- SCRUB_SECTOR moves the cove's place on, whatever it finds. -/
theorem scrubPos_scrubSector (c upset : Nat) (s : State) :
    mapGet (scrubSector c upset s).reef.scrubPos c 0 = (mapGet s.reef.scrubPos c 0 + 1) % (96 * 32768) := by
  unfold scrubSector
  dsimp only
  split
  · rw [bumpBy_reef]
    exact mapGet_mapSet_same ..
  · exact mapGet_mapSet_same ..

theorem scrubBurstStart_of_idle {c : Nat} {s : State} (hgated : coveAwake s c = false) (hidle : mapGet s.reef.burst c 0 = 0) :
    scrubBurstStart c s = { s with
        reef := { s.reef with burst := mapSet s.reef.burst c 0 (96 * 32768 + 1) }
        brk := { s.brk with burstReq := putBit s.brk.burstReq c true } } :=
  if_neg (by simp [hgated, hidle])

/-- Following the rails writes to AVSBus alone. -/
theorem railsFollow_eq (b s : State) : ∃ l, railsFollow b s = { s with out := l } := by
  unfold railsFollow
  generalize [0, 1] = hs
  induction hs generalizing s with
  | nil => exact ⟨s.out, rfl⟩
  | cons h hs ih =>
    obtain ⟨l, hl⟩ : ∃ l, (if vinTarget b h = vinTarget s h then s
        else { s with out := s.out ++ [.avsTarget h (vinTarget s h)] }) = { s with out := l } := by
      split
      · exact ⟨s.out, rfl⟩
      · exact ⟨_, rfl⟩
    rw [List.foldl_cons, hl]
    obtain ⟨l', hl'⟩ := ih { s with out := l }
    exact ⟨l', hl'⟩

@[simp] theorem railsFollow_regs (b s : State) : (railsFollow b s).regs = s.regs := by
  obtain ⟨l, hl⟩ := railsFollow_eq b s
  rw [hl]

@[simp] theorem railsFollow_reef (b s : State) : (railsFollow b s).reef = s.reef := by
  obtain ⟨l, hl⟩ := railsFollow_eq b s
  rw [hl]

@[simp] theorem railsFollow_brk (b s : State) : (railsFollow b s).brk = s.brk := by
  obtain ⟨l, hl⟩ := railsFollow_eq b s
  rw [hl]

@[simp] theorem gateCove_reef (c : Nat) (s : State) : (gateCove c s).reef = s.reef := by simp [gateCove]

@[simp] theorem gateCove_brk (c : Nat) (s : State) : (gateCove c s).brk = s.brk := by simp [gateCove]

/-- A gated cove shows STATE 2 at 500 mV (R692, R707). -/
theorem coveState_gateCove (c : Nat) (s : State) : coveState (gateCove c s) c = 2 := by
  unfold coveState gateCove
  rw [getF_setReg_of_reg (by decide), getF_setF_of_lt rfl (by decide)]

theorem coveMv_gateCove (c : Nat) (s : State) : coveMv (gateCove c s) c = 500 := by
  unfold coveMv gateCove
  rw [getF_setReg_of_reg (by decide), getF_setF_of_bits rfl (by decide), getF_setF_of_lt rfl (by decide)]

theorem regsBut_gateCove (c : Nat) (s : State) :
    RegsBut [(.MSH_COVEAWAKE, 0), (.BRK_COVESTAT, c)] s (gateCove c s) := by
  unfold gateCove
  exact ((RegsBut.setF (by simp [F.BRK_COVESTAT.MV]) _ _).trans
    (RegsBut.setF (by simp [F.BRK_COVESTAT.STATE]) _ _)).trans (RegsBut.setReg (by simp) _ _)

theorem burst_burstDone (c : CoveId) (s : State) : mapGet (burstDone c s).reef.burst c 0 = 0 ∧
    (burstDone c s).brk.burstReq.getLsbD c = false :=
  ⟨by simp [burstDone], by rw [burstDone, getLsbD_putBit _ c.isLt, if_pos rfl]⟩

theorem scrubBurstEnd_of_done {c : Nat} {s : State} (h : mapGet s.reef.burst c 0 = 1) :
    scrubBurstEnd c s = if getF s F.BRK_PSSTAT.STATE = 2 then railsFollow (burstDone c s) (gateCove c (burstDone c s))
      else burstDone c s := if_pos h

theorem rowRemapDone_of_mem {tile bank row : Nat} {s : State} (h : (tile * 8 + bank) * 128 + row ∈ s.reef.remapping) :
    rowRemapDone tile bank row s = post { code := Ev.RFB_ROWSPARE, inst := tile, d0 := bank, d1 := row }
      (bump F.RFB_SPARED.ROWS 0
        { s with reef := { s.reef with remapping := s.reef.remapping.erase ((tile * 8 + bank) * 128 + row) } }) :=
  if_pos (by simpa using h)

/-- Settles O16. -/
theorem refreshAndScrub : Obligations.RefreshAndScrub := by
  refine ⟨fun c w s hready => ?_, fun c s hcool hmin => ?_, fun c s hnone hmin hheld => ?_, fun c upset s hruns => ?_,
    fun c s hready hphase hgated hidle => ?_, fun c s hlast => ?_, fun t bank row s hmem => ?_⟩
  · refine .of_eq (exec_refreshOp c w hready) ⟨?_, ?_, ?_⟩
    · rw [refreshOp, add64, set64, setReg_reef, setReg_reef, mapGet_mapSet_same]
    · rw [refreshOp, add64, set64, setReg_reef, setReg_reef]
    · exact (RegsBut.of_regs_eq rfl).trans (RegsBut.add64 (by simp) (by simp) _ _)
  · refine .of_eq (t := bandStepDown c s) rfl ?_
    rw [bandStepDown_of_cool hcool hmin, getF_congr (noteCool_regs ..), noteCool_secs, showBand_reef]
    exact ⟨getF_showBand (Nat.lt_of_le_of_lt (Nat.sub_le ..) (getF_lt s F.RFB_REFSTAT.BAND c)) c s, rfl⟩
  · refine .of_eq (t := refreshClampWindow c s) rfl ?_
    rw [refreshClampWindow, clampSet, hmin, hheld, if_pos (Bool.and_self true)]
    have hsecs : (clampBegin 4 c s).reef.secs = s.reef.secs := congrArg ReefState.secs (clampBegin_of_none hnone).2
    exact ⟨clampOf_clampBegin hnone, hsecs⟩
  · exact .of_eq (t := scrubSector c upset s) (congrArg Host.Outcome.next (if_pos hruns)) (scrubPos_scrubSector ..)
  · refine .of_eq (t := scrubBurstStart c s) (congrArg Host.Outcome.next (if_pos (by simp [hready, hphase]))) ?_
    rw [scrubBurstStart_of_idle hgated hidle]
    exact ⟨by simp, by rw [getLsbD_putBit _ c.isLt, if_pos rfl], rfl⟩
  · refine .of_eq (t := scrubBurstEnd c s) rfl ?_
    obtain ⟨hburst, hreq⟩ := burst_burstDone c s
    rw [scrubBurstEnd_of_done hlast]
    by_cases hslack : getF s F.BRK_PSSTAT.STATE = 2
    · rw [if_pos hslack]
      refine ⟨by simpa using hburst, by simpa using hreq, fun h => absurd hslack h, fun _ => ⟨?_, ?_, ?_⟩⟩
      · rw [coveState, getF_congr (railsFollow_regs ..)]
        exact coveState_gateCove ..
      · rw [coveMv, getF_congr (railsFollow_regs ..)]
        exact coveMv_gateCove ..
      · exact ((RegsBut.of_regs_eq rfl).trans (regsBut_gateCove c (burstDone c s))).trans
          (RegsBut.of_regs_eq (railsFollow_regs ..))
    · rw [if_neg hslack]
      exact ⟨hburst, hreq, fun _ => rfl, fun h => absurd h hslack⟩
  · refine .of_eq (t := rowRemapDone t bank row s) rfl ?_
    rw [rowRemapDone_of_mem hmem]
    refine ⟨by simp, ?_, ?_⟩
    · rw [getF_post _ _ _ _ rfl, getF_bump_same _ _ _ rfl]
      rfl
    · exact ((RegsButAll.of_regs_eq rfl).trans (RegsButAll.bump (f := F.RFB_SPARED.ROWS) (List.mem_cons_self ..) _ _)).trans
        (RegsButAll.mono (RegsButAll.post _ _) fun r hr => List.mem_cons_of_mem _ hr)

end Sys2Proof.Machine
end

section
/-! The BAR4 window (R166-R169) and the injection of errors (R172). -/

namespace Sys2Proof.Machine

/-! ### Accesses -/

section
variable {f : Func} {s : State}

theorem bar4Read_of_window {o n ra : Nat} (hopen : barOpen s = true) (hra : bar4Ra s f o n = some ra) {bs : List Byte}
    {p : Bool} {u : State}
    (hsecs : bar4Sectors (ra / 64 * 64) ((ra % 64 + n + 63) / 64) (bar4Wake ra n s) = ((bs, p), u)) :
    bar4Read f o n s = { u with out := u.out ++ [.bar4Data f ((bs.drop (ra % 64)).take n) p] } := by
  simp [bar4Read, hopen, hra, hsecs]

theorem bar4Read_of_outside {o n : Nat} (hopen : barOpen s = true) (hra : bar4Ra s f o n = none) :
    bar4Read f o n s
      = { bar4Note o s with out := (bar4Note o s).out ++ [.bar4Data f (List.replicate n 0xFF) false] } := by
  simp [bar4Read, hopen, hra]

theorem bar4Read_of_shut {o n : Nat} (hopen : barOpen s = false) (hen : flag s F.RFB_BAR4CTL.EN = false) :
    bar4Read f o n s
      = { bar4Note o s with out := (bar4Note o s).out ++ [.bar4Data f (List.replicate n 0xFF) false] } := by
  simp [bar4Read, hopen, bar4Shut, hen]

theorem bar4Write_of_window {o ra : Nat} {bs : List Byte} (p : Bool) (hopen : barOpen s = true)
    (hra : bar4Ra s f o bs.length = some ra) :
    bar4Write f o bs p s = bar4Store (bs.length / 64 + 2) ra bs p (bar4Wake ra bs.length s) := by
  simp [bar4Write, hopen, hra]

theorem bar4Write_of_outside {o : Nat} {bs : List Byte} (p : Bool) (hopen : barOpen s = true)
    (hra : bar4Ra s f o bs.length = none) : bar4Write f o bs p s = bar4Note o s := by
  simp [bar4Write, hopen, hra]

theorem bar4Write_of_shut (o : Nat) (bs : List Byte) (p : Bool) (hopen : barOpen s = false)
    (hen : flag s F.RFB_BAR4CTL.EN = false) : bar4Write f o bs p s = bar4Note o s := by
  simp [bar4Write, hopen, bar4Shut, hen]

end

/-! ### Injection (R172) -/

/-- The fields of RFB_INJCTL after a write, with the NOTE of a reserved one. -/
def injFields (v : BitVec 32) (s : State) : State :=
  noteRsvd (writeFlds .RFB_INJCTL 0 v s).2 (writeFlds .RFB_INJCTL 0 v s).1

/-- What an injection armed now would hit: the addressed sector, with the bytes to spoil. -/
def injTarget (s : State) : Option (Nat × Nat) :=
  match reefPlace (getF s F.RFB_INJADDR.ADDR * 64 + (if flag s F.RFB_INJCTL.VIEW then localBase else 0)) with
  | some p => if getF s F.RFB_INJCTL.BYTES = 0 then none else some (secKey p.tile p.so, getF s F.RFB_INJCTL.BYTES)
  | none => none

theorem injTarget_of_no_bytes {s : State} (h : getF s F.RFB_INJCTL.BYTES = 0) : injTarget s = none := by
  unfold injTarget
  split
  · rw [if_pos h]
  · rfl

/-- Arms an injection, or disarms it. -/
def injArm (tgt : Option (Nat × Nat)) (s : State) : State :=
  setF F.RFB_INJCTL.ARMED 0 (boolNat tgt.isSome) { s with reef := { s.reef with inj := tgt } }

theorem rfbInjArm_eq (v : BitVec 32) (s : State) : rfbInjArm v s =
    if bitAt v 8 then injArm (injTarget (injFields v s)) (injFields v s)
    else if getF (injFields v s) F.RFB_INJCTL.BYTES = 0 then injArm none (injFields v s)
    else injFields v s := rfl

theorem inj_injArm (tgt : Option (Nat × Nat)) (s : State) : (injArm tgt s).reef.inj = tgt := by
  rw [injArm, setF_reef]

theorem armed_injArm (tgt : Option (Nat × Nat)) (s : State) : flag (injArm tgt s) F.RFB_INJCTL.ARMED = tgt.isSome :=
  flag_setF_boolNat rfl rfl 0 _ _

theorem bytes_injArm (tgt : Option (Nat × Nat)) (s : State) :
    getF (injArm tgt s) F.RFB_INJCTL.BYTES = getF s F.RFB_INJCTL.BYTES := by
  rw [injArm, getF_setF_of_bits rfl (by decide)]
  exact getF_congr rfl ..

theorem getF_noteRsvd {f : Fld} (h : postReg f.reg = false) (b : Bool) (i : Nat) (s : State) :
    getF (noteRsvd b s) f i = getF s f i := by
  unfold noteRsvd
  split
  · exact getF_post _ _ _ _ h
  · rfl

theorem getF_injFields {f : Fld} (hf : f ∈ Reg.RFB_INJCTL.info.flds) (hreg : f.reg = .RFB_INJCTL) (v : BitVec 32) (s : State) :
    getF (injFields v s) f = fldAfter f v (getF s f) := by
  rw [injFields, getF_noteRsvd (by rw [hreg]; rfl)]
  exact getF_writeList (fldsOf_info .RFB_INJCTL) 0 v (s, false) hf

theorem bytes_injFields {v : BitVec 32} (s : State) (h : fldLegal F.RFB_INJCTL.BYTES (bitsAt v 0 4) = true) :
    getF (injFields v s) F.RFB_INJCTL.BYTES = bitsAt v 0 4 := by
  rw [getF_injFields (by decide) rfl, fldAfter]
  exact if_pos ⟨rfl, h⟩

/-- ARMED is RO: the write alone leaves it. -/
theorem armed_injFields (v : BitVec 32) (s : State) :
    getF (injFields v s) F.RFB_INJCTL.ARMED = getF s F.RFB_INJCTL.ARMED := by
  rw [getF_injFields (by decide) rfl, fldAfter]
  rfl

theorem flag_eq_true_iff (s : State) (f : Fld) (i : Nat) : flag s f i = true ↔ getF s f i = 1 := by
  rw [flag, beq_iff_eq]

/-- Settles O17. -/
theorem bar4Window : Obligations.Bar4Window := by
  refine ⟨fun f off len ra s hopen hra bs p u hsecs => ?_, fun f off bytes p ra s hopen hra => ?_,
    fun f off len s hopen hra => ?_, fun f off bytes p s hopen hra => ?_, fun f off len bytes p s hopen hen => ⟨?_, ?_⟩,
    fun v s hopen hlegal => ?_⟩
  · exact congrArg Host.Outcome.next (bar4Read_of_window hopen hra hsecs)
  · exact congrArg Host.Outcome.next (bar4Write_of_window p hopen hra)
  · exact congrArg Host.Outcome.next (bar4Read_of_outside hopen hra)
  · exact congrArg Host.Outcome.next (bar4Write_of_outside p hopen hra)
  · exact congrArg Host.Outcome.next (bar4Read_of_shut hopen hen)
  · exact congrArg Host.Outcome.next (bar4Write_of_shut off.toNat bytes p hopen hen)
  · refine .of_eq (t := rfbInjArm v s) (congrArg Host.Outcome.next (if_pos hopen)) ?_
    have hbytes := bytes_injFields s hlegal
    rw [rfbInjArm_eq, hbytes, ← flag_eq_true_iff]
    by_cases harm : bitAt v 8 = true
    · have hbit : v.getLsbD 8 = true := harm
      rw [if_pos harm, if_pos hbit, bytes_injArm, inj_injArm, armed_injArm]
      exact ⟨hbytes, fun h0 => injTarget_of_no_bytes (hbytes.trans h0), Iff.rfl⟩
    · have hbit : ¬ v.getLsbD 8 = true := harm
      rw [if_neg harm, if_neg hbit]
      by_cases h0 : bitsAt v 0 4 = 0
      · rw [if_pos h0, bytes_injArm, inj_injArm, armed_injArm]
        exact ⟨hbytes, fun _ => rfl, by simp [h0]⟩
      · rw [if_neg h0, flag_eq_true_iff, armed_injFields]
        exact ⟨hbytes, fun h => absurd h h0, by simp [h0, flag_eq_true_iff]⟩

end Sys2Proof.Machine
end

section
/-! LPDDR controllers (R183, R189, R191, R217, R218). -/

namespace Sys2Proof.Machine

/-! ### What serving a request counts (R661, R663, R669) -/

/-- The registers that count guarantee misses (R669). -/
def missRegs : List Reg := [.QOS_MISS, .QOS_MISSOVR]

theorem qosPick_snd (r j : Nat) (l : List QReq) (s : State) : ∃ q, (qosPick r j l s).2 = { s with qos := q } := by
  unfold qosPick
  dsimp only
  split <;> exact ⟨_, rfl⟩

@[simp] theorem qosPick_mem (r j : Nat) (l : List QReq) (s : State) : (qosPick r j l s).2.mem = s.mem := by
  obtain ⟨q, hq⟩ := qosPick_snd r j l s
  rw [hq]

@[simp] theorem countMiss_mem (r : Nat) (q : QReq) (b c : Bool) (s : State) : (countMiss r q b c s).mem = s.mem := by
  unfold countMiss
  dsimp only
  split
  · split <;> simp
  · rfl

theorem RegsButAll.countMiss (r : Nat) (q : QReq) (b c : Bool) (s : State) :
    RegsButAll missRegs s (countMiss r q b c s) := by
  have hmiss : RegsButAll missRegs s (Machine.bump F.QOS_MISS.COUNT (16 * r + q.cls) s) :=
    RegsButAll.bump (f := F.QOS_MISS.COUNT) (by decide) _ s
  unfold Machine.countMiss
  dsimp only
  generalize Machine.bump F.QOS_MISS.COUNT (16 * r + q.cls) s = u at hmiss ⊢
  split
  · refine hmiss.trans ?_
    split
    · refine RegsButAll.trans ?_ (RegsButAll.bump (f := F.QOS_MISSOVR.COUNT) (by decide) _ _)
      exact RegsButAll.of_regs_eq rfl
    · exact RegsButAll.of_regs_eq rfl
  · exact RegsButAll.refl _ s

@[simp] theorem takeTokens_regs (r j c : Nat) (s : State) : (takeTokens r j c s).regs = s.regs := by dsimp only [takeTokens]

@[simp] theorem takeTokens_mem (r j c : Nat) (s : State) : (takeTokens r j c s).mem = s.mem := by dsimp only [takeTokens]

/-- A request that is taken leaves its controller's queue; of external memory nothing else changes. -/
theorem memTaken_mem (m : Nat) (r : QReq) (q : MemReq) (s : State) :
    (memTaken m r q s).mem = { s.mem with queue := mapSet s.mem.queue m [] ((memQueue s m).eraseIdx r.idx) } := by
  rw [memTaken, takeTokens_mem, countMiss_mem, setMemQueue, memQueue, memQueue, qosPick_mem]

theorem regsButAll_memTaken (m : Nat) (r : QReq) (q : MemReq) (s : State) :
    RegsButAll missRegs s (memTaken m r q s) := by
  obtain ⟨x, hx⟩ := qosPick_snd 0 m (memReqs s m) s
  have hpick : RegsButAll missRegs s (setMemQueue m ((memQueue (qosPick 0 m (memReqs s m) s).2 m).eraseIdx r.idx)
      (qosPick 0 m (memReqs s m) s).2) := by
    rw [hx]
    exact RegsButAll.of_regs_eq rfl
  exact (hpick.trans (RegsButAll.countMiss _ _ _ _ _)).trans (RegsButAll.of_regs_eq (takeTokens_regs ..))

/-! ### Refusals (R186, R191) -/

/-- A refusal rests on the capacity and the key map alone. -/
theorem lpRefusal_congr {s t : State} (hcap : getReg t .MEM_CAP 0 = getReg s .MEM_CAP 0)
    (hmap : ∀ i, getReg t .MEM_KEYMAP i = getReg s .MEM_KEYMAP i) (d keysel : Nat) :
    lpRefusal t d keysel = lpRefusal s d keysel := by
  have hbytes : lpBytes t = lpBytes s := congrArg (fun v => bitsAt v _ _ * 4096) hcap
  have hkey : ∀ k, keyEntry t k = keyEntry s k := fun k => by rw [keyEntry, hmap, keyEntry]
  rw [lpRefusal, hbytes, hkey, lpRefusal]

theorem lpRefusal_memTaken (m : Nat) (r : QReq) (q : MemReq) (s : State) (d keysel : Nat) :
    lpRefusal (memTaken m r q s) d keysel = lpRefusal s d keysel :=
  lpRefusal_congr (regsButAll_memTaken m r q s _ _ (by decide)) (fun _ => regsButAll_memTaken m r q s _ _ (by decide)) ..

/-! ### Service -/

section
variable {m : Fin 12} {upset : Fin 73} {r : QReq} {q : MemReq} {s : State} (hrun : frameRuns s = true)
  (hnext : memNext s m.val = some (r, q))
include hrun hnext

theorem exec_memRead (hop : q.op = 0) :
    exec (.memRead m upset) s = .next (memComplete upset q (memTaken m r q s)) := by
  show onFrame s _ = _
  rw [onFrame_of_runs hrun, memRead, memServe, hnext]
  simp [hop]

theorem exec_memWrite (hop : q.op ≠ 0) :
    exec (.memWrite m upset) s = .next (memComplete upset q (memTaken m r q s)) := by
  show onFrame s _ = _
  rw [onFrame_of_runs hrun, memWrite, memServe, hnext]
  simp [hop]

end

theorem memComplete_of_admitted {q : MemReq} {s : State} (upset : Nat) (h : lpRefusal s q.d q.keysel = none) :
    memComplete upset q s = memDo upset q s := by rw [memComplete, h]

/-- The sectors that wait behind a refused READ of several sectors, out of every queue. -/
def dropRefused (q : MemReq) (s : State) : State :=
  (List.range 12).foldl (fun u k =>
    setMemQueue k ((memQueue u k).filter (fun p => !(p.src == q.src && p.tag == q.tag && p.op == 0))) u) s

theorem memComplete_of_refused {q : MemReq} {s : State} (upset : Nat) {st : Nat}
    (h : lpRefusal s q.d q.keysel = some st) : memComplete upset q s =
      memReply q 6 false (BitVec.ofNat 512 st) 0 (lpRefuse q.d q.mark st (if q.op = 0 then dropRefused q s else s)) := by
  rw [memComplete, h]
  rfl

theorem memQueue_setMemQueue (m k : Nat) (l : List MemReq) (s : State) :
    memQueue (setMemQueue m l s) k = if k = m then l else memQueue s k := by
  unfold memQueue setMemQueue
  by_cases h : k = m
  · rw [if_pos h, h, mapGet_mapSet_same]
  · rw [if_neg h, mapGet_mapSet_ne _ _ _ _ h]

theorem secs_dropRefused (q : MemReq) (s : State) : (dropRefused q s).mem.secs = s.mem.secs := by
  unfold dropRefused
  generalize List.range 12 = l
  induction l generalizing s with
  | nil => rfl
  | cons k l ih => exact ih _

/-- No READ of the refused one's source and tag is left in any queue. -/
theorem memQueue_dropRefused {q p : MemReq} {s : State} {k : Nat} (hk : k < 12) (hp : p ∈ memQueue (dropRefused q s) k) :
    ¬ (p.src = q.src ∧ p.tag = q.tag ∧ p.op = 0) := by
  obtain ⟨u, -, hu⟩ := foldl_read
    (f := fun u k => setMemQueue k ((memQueue u k).filter (fun p => !(p.src == q.src && p.tag == q.tag && p.op == 0))) u)
    (fun u => memQueue u k) s List.nodup_range (List.mem_range.2 hk)
    (fun j _ hj u => by rw [memQueue_setMemQueue, if_neg hj.symm])
  rw [dropRefused, hu, memQueue_setMemQueue, if_pos rfl, List.mem_filter] at hp
  rintro ⟨hsrc, htag, hop⟩
  simp [hsrc, htag, hop] at hp

section
variable {q : MemReq} {s : State} (upset : Nat)

theorem memDo_of_read (hop : q.op = 0) : memDo upset q s = memReply q 4 (lpRead q.d q.mark upset s).1.2.2
    (lpRead q.d q.mark upset s).1.1 (lpRead q.d q.mark upset s).1.2.1 (lpRead q.d q.mark upset s).2 := if_pos hop

theorem memDo_of_write (hop : q.op = 1) : memDo upset q s =
    if tallyOk q.pay q.tally then memReply q 5 false 0 0 (lpWrite q.d q.pay q.tally q.poison s)
    else memReply q 6 false (BitVec.ofNat 512 Status.TLY_MISMATCH) 0
      (post { code := Ev.TLY_TALLY, mark := q.mark, inst := lpChan q.d, d0 := Status.TQ_DIGEST, d1 := lpBase + q.d }
        (bump F.TLY_TALLYERR.COUNT 0 s)) := by
  rw [memDo, if_neg (by omega), if_pos hop]

theorem memDo_of_atomic (hop : q.op = 3) (hok : atomicOk q.pay = true) {old : Option (Sector × BitVec 32)} {u : State}
    (hupdate : lpUpdate q.d q.mark upset q.poison (fun x => atomicApply x q.pay) s = (old, u)) :
    memDo upset q s = (match (generalizing := false) old with
      | none => memReply q 6 false (BitVec.ofNat 512 Status.MEM_POISONED) 0 u
      | some (x, y) => if secField q.pay 0 1 = 0 then memReply q 5 false 0 0 u else memReply q 4 false x y u) := by
  rw [memDo, if_neg (by omega), if_neg (by omega), if_neg (by simp [hok]), hupdate] <;> cases old <;> rfl

end

/-! ### Sectors -/

theorem mapFind_mapDel_ne {α : Type} (m : Map α) {k j : Nat} (h : j ≠ k) : mapFind (mapDel m k) j = mapFind m j := by
  induction m with
  | nil => rfl
  | cons e m ih =>
    obtain ⟨i, v⟩ := e
    by_cases hik : i = k
    · subst hik
      simpa [mapDel, mapFind, Ne.symm h] using ih
    · have hdel : mapDel ((i, v) :: m) k = (i, v) :: mapDel m k := by simp [mapDel, hik]
      rw [hdel, mapFind, mapFind, ih]

/-- A sector read after one is replaced. -/
theorem lpAt_lpPut (j k : Nat) (r : LpSec) (s : State) : lpAt (lpPut k r s) j = if j = k then r else lpAt s j := by
  have hblank : lpBlank (lpPut k r s) j = lpBlank s j := rfl
  rw [lpAt, hblank, lpPut]
  dsimp only
  by_cases hj : j = k
  · subst hj
    by_cases hr : r = lpBlank s j
    · rw [if_pos hr, if_pos rfl, mapFind_mapDel_same, hr]
      rfl
    · rw [if_neg hr, if_pos rfl, mapFind_mapIns_same]
      rfl
  · rw [if_neg hj, lpAt]
    split
    · rw [mapFind_mapDel_ne _ hj]
    · rw [mapFind_mapIns_ne _ _ (Ne.symm hj)]

/-- Touching a metadata sector changes no sector and no register. -/
theorem lpAt_lpTouch (d k : Nat) (s : State) : lpAt (lpTouch d s) k = lpAt s k := rfl

/-- The sector that a write leaves (R189, R195, R218). -/
def lpWritten (d : Nat) (x : Sector) (y : BitVec 32) (p : Bool) (s : State) : LpSec :=
  { data := x, tally := y, gen := curGen s (keyEntry s (regionOf d)).1, poison := p, errs := 0
    passes := (lpAt s (d / 64)).passes }

theorem lpAt_lpWrite (d : Nat) (x : Sector) (y : BitVec 32) (p : Bool) (s : State) (k : Nat) :
    lpAt (lpWrite d x y p s) k = if k = d / 64 then lpWritten d x y p s else lpAt s k :=
  (lpAt_lpPut k (d / 64) _ _).trans (by rw [lpAt_lpTouch]; rfl)

/-- Settles O18. -/
theorem controllersServeRequests : Obligations.ControllersServeRequests := by
  refine ⟨fun m upset r q s hrun hnext => ⟨fun hop hadm => ?_, fun hop hadm => ⟨fun hok => ?_, fun hbad => ?_⟩,
    fun hop hadm hok old u hupdate => ?_, fun hop st href => ?_⟩, fun m upset r q st s hrun hnext hop href => ?_,
    fun d x y p s => ?_⟩
  · rw [exec_memRead hrun hnext hop, memComplete_of_admitted _ ((lpRefusal_memTaken ..).trans hadm), memDo_of_read _ hop]
  · rw [exec_memWrite hrun hnext (by omega), memComplete_of_admitted _ ((lpRefusal_memTaken ..).trans hadm),
      memDo_of_write _ hop, if_pos hok]
  · rw [exec_memWrite hrun hnext (by omega), memComplete_of_admitted _ ((lpRefusal_memTaken ..).trans hadm),
      memDo_of_write _ hop, if_neg (by simp [hbad])]
  · rw [exec_memWrite hrun hnext (by omega), memComplete_of_admitted _ ((lpRefusal_memTaken ..).trans hadm),
      memDo_of_atomic _ hop hok hupdate] <;> cases old <;> rfl
  · rw [exec_memWrite hrun hnext hop, memComplete_of_refused _ ((lpRefusal_memTaken ..).trans href), if_neg hop]
  · refine .of_eq (exec_memRead hrun hnext hop) ⟨dropRefused q (memTaken m r q s), ?_, ?_, fun k hk p hp =>
      memQueue_dropRefused hk hp⟩
    · rw [memComplete_of_refused _ ((lpRefusal_memTaken ..).trans href), if_pos hop]
    · rw [secs_dropRefused, memTaken_mem]
  · rw [lpAt_lpWrite, if_pos rfl]
    exact ⟨rfl, rfl, rfl, rfl, rfl, fun k hk => by rw [lpAt_lpWrite, if_neg hk], rfl⟩

end Sys2Proof.Machine
end

section
/-! Key regions (R190-R198). -/

namespace Sys2Proof.Machine

/-! ### Fill and rotation -/

theorem memZeroFillDone_of_filling {k : Nat} {s : State} (h : k ∈ s.mem.filling) :
    memZeroFillDone k s = showFilling { s with mem := { s.mem with
        filling := s.mem.filling.erase k
        secs := s.mem.secs.filter (fun e => e.1 / 2 ^ 20 != k)
        regionGen := mapSet s.mem.regionGen k 0 (curGen s (keyEntry s k).1) } } := if_pos (by simpa using h)

@[simp] theorem showFilling_mem (s : State) : (showFilling s).mem = s.mem := by rw [showFilling, setF_mem]

theorem regsBut_showFilling (s : State) : RegsBut [(.MEM_KEYSTAT, 0)] s (showFilling s) :=
  RegsBut.setF (f := F.MEM_KEYSTAT.FILLING) (by decide) _ s

/-- The state in which every sector of region k is under generation g. -/
def rotated (k g : Nat) (s : State) : State :=
  { s with mem := { s.mem with
      secs := s.mem.secs.map (fun (e : Nat × LpSec) => if e.1 / 2 ^ 20 = k then (e.1, { e.2 with gen := g }) else e)
      regionGen := mapSet s.mem.regionGen k 0 g } }

/-- The sectors of region k that are as the fill left them are listed no more. -/
def unlisted (k : Nat) (s : State) : State :=
  { s with mem := { s.mem with secs := s.mem.secs.filter (fun e => !(e.1 / 2 ^ 20 == k && decide (e.2 = lpBlank s e.1))) } }

theorem memRotationRegionDone_of_rot {k : Nat} {s : State} (h : k ∈ s.mem.rot) : memRotationRegionDone k s
    = rotLess k (keyEntry s k).1 (unlisted k (rotated k (curGen s (keyEntry s k).1) s)) := if_pos (by simpa using h)

/-- With more than one region left, PENDING falls by one and the rotation goes on (R198). -/
theorem rotLess_of_more {k slot : Nat} {s : State} (h : 2 ≤ getF s F.MEM_ROTSTAT.PENDING slot) :
    rotLess k slot s = setF F.MEM_ROTSTAT.PENDING slot (getF s F.MEM_ROTSTAT.PENDING slot - 1)
      { s with mem := { s.mem with rot := s.mem.rot.erase k } } := by
  have hn : getF { s with mem := { s.mem with rot := s.mem.rot.erase k } } F.MEM_ROTSTAT.PENDING slot
      = getF s F.MEM_ROTSTAT.PENDING slot := getF_congr rfl ..
  rw [rotLess]
  dsimp only
  rw [hn, if_neg (by omega)]

/-! ### The key map (R190-R197) -/

/-- The register that holds the entry of region 4 i + j. -/
theorem keyEntry_eq {j : Nat} (hj : j < 4) (i : Nat) (s : State) : keyEntry s (4 * i + j)
    = (bitsAt (getReg s .MEM_KEYMAP i) (8 * j) 6, bitAt (getReg s .MEM_KEYMAP i) (8 * j + 7)) := by
  rw [keyEntry, show (4 * i + j) / 4 = i by omega, show (4 * i + j) % 4 = j by omega]

theorem setKeyEntry_eq {j : Nat} (hj : j < 4) (i sel : Nat) (valid : Bool) (s : State) : setKeyEntry (4 * i + j) sel valid s
    = setReg .MEM_KEYMAP i (putBit (putBits (getReg s .MEM_KEYMAP i) (8 * j) 6 sel) (8 * j + 7) valid) s := by
  rw [setKeyEntry, show (4 * i + j) / 4 = i by omega, show (4 * i + j) % 4 = j by omega]

theorem testBit_bitsAt {n : Nat} (v : BitVec n) (lo w k : Nat) :
    (bitsAt v lo w).testBit k = (decide (k < w) && v.getLsbD (lo + k)) := by
  rw [bitsAt, Nat.testBit_mod_two_pow, Nat.testBit_div_two_pow, BitVec.testBit_toNat, Nat.add_comm]

/-- Setting one bit leaves the bits beside it. -/
theorem bitsAt_putBit_of_outside {n : Nat} (v : BitVec n) {i : Nat} (hi : i < n) (b : Bool) {lo w : Nat}
    (h : i < lo ∨ lo + w ≤ i) : bitsAt (putBit v i b) lo w = bitsAt v lo w := by
  refine Nat.eq_of_testBit_eq fun k => ?_
  rw [testBit_bitsAt, testBit_bitsAt]
  by_cases hk : k < w
  · rw [getLsbD_putBit v hi, if_neg (by omega)]
  · rw [decide_eq_false hk, Bool.false_and, Bool.false_and]

theorem keyEntry_setKeyEntry {i j l sel : Nat} (hj : j < 4) (hl : l < 4) (hsel : sel < 64) (valid : Bool) (s : State) :
    keyEntry (setKeyEntry (4 * i + j) sel valid s) (4 * i + l)
      = if l = j then (sel, valid) else keyEntry s (4 * i + l) := by
  rw [keyEntry_eq hl, setKeyEntry_eq hj, getReg_setReg, if_pos ⟨rfl, rfl⟩, keyEntry_eq hl, bitAt, bitAt,
    getLsbD_putBit _ (by omega), bitsAt_putBit_of_outside _ (by omega) _ (by omega)]
  by_cases hlj : l = j
  · subst hlj
    rw [if_pos rfl, if_pos rfl, bitsAt_putBits_same _ _ _ _ (by omega), Nat.mod_eq_of_lt (by exact hsel)]
  · rw [if_neg hlj, if_neg (by omega), bitsAt_putBits_ne _ _ _ _ _ _ (by omega) (by omega),
      getLsbD_putBits _ _ _ _ _ (by omega), if_neg (by omega)]

/-- An entry without VALID, before and after, takes its SEL. -/
theorem keymapEntry_of_invalid {k : Nat} {u : State} (sel : Nat) (b : Bool) (husable : regionUsable u k = true)
    (hold : (keyEntry u k).2 = false) : keymapEntry k sel false (u, b) = (setKeyEntry k sel false u, b) := by
  simp [keymapEntry, husable, hold]

theorem regionUsable_setKeyEntry (j k sel : Nat) (valid : Bool) (s : State) :
    regionUsable (setKeyEntry j sel valid s) k = regionUsable s k := by
  rw [regionUsable, lpBytes, setKeyEntry, getF_setReg_of_reg (by decide), regionUsable, lpBytes]

/-- The first `n` entries of a write to the register of four regions. -/
def keymapEntries (i : Nat) (v : BitVec 32) (n : Nat) (s : State) : State × Bool :=
  (List.range n).foldl (fun p j => keymapEntry (4 * i + j) (bitsAt v (8 * j) 6) (bitAt v (8 * j + 7)) p) (s, false)

theorem keymapEntries_succ (i : Nat) (v : BitVec 32) (n : Nat) (s : State) : keymapEntries i v (n + 1) s
    = keymapEntry (4 * i + n) (bitsAt v (8 * n) 6) (bitAt v (8 * n + 7)) (keymapEntries i v n s) := by
  rw [keymapEntries, List.range_succ, List.foldl_append, ← keymapEntries, List.foldl_cons, List.foldl_nil]

/-- The row as an equation of functions, in which the entries stand unevaluated. -/
theorem memKeymapWrite_def : memKeymapWrite = fun i v s =>
    match (List.range 4).foldl (fun p j => keymapEntry (4 * i + j) (bitsAt v (8 * j) 6) (bitAt v (8 * j + 7)) p) (s, false) with
    | (u, rsvd) => if rsvd then post { code := Ev.REG_RSVD } u else u := rfl

theorem memKeymapWrite_of_entries {i : Nat} {v : BitVec 32} {s u : State} (h : keymapEntries i v 4 s = (u, false)) :
    memKeymapWrite i v s = u := by
  refine (congrFun (congrFun (congrFun memKeymapWrite_def i) v) s).trans ?_
  rw [keymapEntries] at h
  generalize List.foldl _ _ _ = x at h ⊢
  subst h
  rfl

theorem exec_memKeymapWrite {s : State} (i : Fin 1366) (v : BitVec 32) (hopen : barOpen s = true) :
    exec (.memKeymapWrite i v) s = .next (memKeymapWrite i v s) := by
  show Host.Outcome.next (onlyIf (barOpen s) _ s) = _
  rw [hopen, onlyIf_true]

/-- `u` is `s` with the entries of the first `n` of four invalid regions written. -/
structure KeymapPrefix (i : Nat) (v : BitVec 32) (n : Nat) (s u : State) : Prop where
  mem : u.mem = s.mem
  usable : ∀ k, regionUsable u k = regionUsable s k
  done : ∀ j, j < 4 → j < n → keyEntry u (4 * i + j) = (bitsAt v (8 * j) 6, false)
  todo : ∀ j, j < 4 → n ≤ j → keyEntry u (4 * i + j) = (0, false)

theorem KeymapPrefix.succ {i n : Nat} {v : BitVec 32} {s u : State} (h : KeymapPrefix i v n s u) (hn : n < 4) :
    KeymapPrefix i v (n + 1) s (setKeyEntry (4 * i + n) (bitsAt v (8 * n) 6) false u) where
  mem := (setReg_mem ..).trans h.mem
  usable k := (regionUsable_setKeyEntry ..).trans (h.usable k)
  done j hj hjn := by
    rw [keyEntry_setKeyEntry hn hj (bitsAt_lt ..)]
    split
    next heq => rw [heq]
    next hne => exact h.done j hj (by omega)
  todo j hj hjn := by
    rw [keyEntry_setKeyEntry hn hj (bitsAt_lt ..), if_neg (by omega)]
    exact h.todo j hj (by omega)

theorem keymapEntries_prefix {i : Nat} {v : BitVec 32} {s : State}
    (hfree : ∀ j, j < 4 → regionUsable s (4 * i + j) = true ∧ keyEntry s (4 * i + j) = (0, false))
    (hinvalid : ∀ j, j < 4 → bitAt v (8 * j + 7) = false) {n : Nat} (hn : n ≤ 4) :
    ∃ u, keymapEntries i v n s = (u, false) ∧ KeymapPrefix i v n s u := by
  induction n with
  | zero => exact ⟨s, rfl, rfl, fun _ => rfl, fun j _ h => absurd h (Nat.not_lt_zero j), fun j hj _ => (hfree j hj).2⟩
  | succ n ih =>
    obtain ⟨u, hfold, hu⟩ := ih (by omega)
    refine ⟨_, ?_, hu.succ hn⟩
    have husable : regionUsable u (4 * i + n) = true := (hu.usable _).trans (hfree n hn).1
    have hold : (keyEntry u (4 * i + n)).2 = false := congrArg Prod.snd (hu.todo n hn (Nat.le_refl _))
    rw [keymapEntries_succ, hfold, hinvalid n hn, keymapEntry_of_invalid _ _ husable hold]

/-- Settles O19. -/
theorem keyRegionsFillAndRotate : Obligations.KeyRegionsFillAndRotate := by
  refine ⟨fun k s hclock hfill => ?_, fun k s hclock hrot hmore _ => ?_, fun i v s hopen hfree hinvalid => ?_⟩
  · refine .of_eq (t := memZeroFillDone k s) (onClock_of_runs hclock _) ?_
    rw [memZeroFillDone_of_filling hfill, showFilling_mem]
    refine ⟨rfl, fun e he => ?_, fun e he hk => ?_, ?_⟩
    · simpa using (List.mem_filter.1 he).2
    · exact List.mem_filter.2 ⟨he, by simpa using hk⟩
    · refine RegsBut.trans ?_ (regsBut_showFilling _)
      exact RegsBut.of_regs_eq rfl
  · refine .of_eq (t := memRotationRegionDone k s) (onClock_of_runs hclock _) ?_
    have hpend : getF (unlisted k (rotated k (curGen s (keyEntry s k).1) s)) F.MEM_ROTSTAT.PENDING (keyEntry s k).1
        = getF s F.MEM_ROTSTAT.PENDING (keyEntry s k).1 := getF_congr rfl ..
    have hlt := getF_lt s F.MEM_ROTSTAT.PENDING (keyEntry s k).1
    rw [memRotationRegionDone_of_rot hrot, rotLess_of_more (by rw [hpend]; exact hmore), hpend, setF_mem]
    exact ⟨rfl, getF_setF_of_lt rfl (Nat.lt_of_le_of_lt (Nat.sub_le ..) hlt) _ _⟩
  · obtain ⟨u, hfold, hu⟩ := keymapEntries_prefix hfree hinvalid (Nat.le_refl 4)
    refine .of_eq (exec_memKeymapWrite i v hopen) ?_
    rw [memKeymapWrite_of_entries hfold]
    exact ⟨hu.mem, fun j hj => hu.done j hj hj⟩

end Sys2Proof.Machine
end

section
/-! The channels of LPDDR: rate, training, pauses, MR4, refresh, scrub (R174, R175, R200-R210, R213, R220). -/

namespace Sys2Proof.Machine

/-! ### A register pair as a set of bits -/

/-- The number whose bits below `n` are those of a predicate. -/
def maskBelow (p : Nat → Bool) (n : Nat) : Nat := ((List.range n).map (fun i => if p i then 2 ^ i else 0)).sum

theorem maskBelow_succ (p : Nat → Bool) (n : Nat) :
    maskBelow p (n + 1) = maskBelow p n + if p n then 2 ^ n else 0 := by
  simp [maskBelow, List.range_succ]

theorem maskBelow_lt (p : Nat → Bool) (n : Nat) : maskBelow p n < 2 ^ n := by
  induction n with
  | zero => simp [maskBelow]
  | succ n ih =>
    rw [maskBelow_succ, Nat.pow_succ]
    split <;> omega

theorem testBit_maskBelow (p : Nat → Bool) (n k : Nat) : (maskBelow p n).testBit k = (decide (k < n) && p k) := by
  induction n with
  | zero => simp [maskBelow]
  | succ n ih =>
    have hlt := maskBelow_lt p n
    rw [maskBelow_succ]
    by_cases hp : p n = true
    · rw [if_pos hp, Nat.add_comm, show 2 ^ n + maskBelow p n = 2 ^ n * 1 + maskBelow p n by omega,
        Nat.testBit_two_pow_mul_add 1 hlt, ih]
      by_cases hk : k < n
      · simp [hk, Nat.lt_succ_of_lt hk]
      · by_cases hkn : k = n
        · simp [hkn, hp]
        · have hsub : k - n ≠ 0 := by omega
          have hgt : ¬ k < n + 1 := by omega
          rw [decide_eq_false hgt, Bool.false_and, if_neg hk]
          exact Bool.eq_false_iff.2 fun h => hsub (Nat.testBit_one_eq_true_iff_self_eq_zero.1 h)
    · rw [if_neg hp, Nat.add_zero, ih]
      by_cases hk : k = n
      · simp [hk, hp]
      · have hiff : k < n + 1 ↔ k < n := by omega
        simp [hiff]

theorem maskBelow_congr {p q : Nat → Bool} {n : Nat} (h : ∀ k < n, p k = q k) : maskBelow p n = maskBelow q n := by
  refine congrArg List.sum (List.map_congr_left fun k hk => ?_)
  rw [h k (List.mem_range.1 hk)]

/-! ### MEM_CHUP (R220) -/

theorem showChannels_eq (s : State) :
    showChannels s = set64 .MEM_CHUP_LO .MEM_CHUP_HI 0 (maskBelow (chanServes s) 48) s := rfl

@[simp] theorem showChannels_mem (s : State) : (showChannels s).mem = s.mem := by rw [showChannels_eq, set64_mem]

theorem chanServes_congr {s t : State} (h : t.mem = s.mem) (n : Nat) : chanServes t n = chanServes s n := by
  rw [chanServes, h, chanServes]

theorem get64_showChannels (s : State) :
    get64 (showChannels s) .MEM_CHUP_LO .MEM_CHUP_HI 0 = maskBelow (chanServes s) 48 := by
  have hlt := maskBelow_lt (chanServes s) 48
  rw [showChannels_eq, get64_set64_same _ _ _ _ _ (by decide),
    Nat.mod_eq_of_lt (Nat.lt_of_lt_of_le hlt (Nat.pow_le_pow_right (by decide) (by decide)))]

theorem RegsBut.set64 {l : List (Reg × Nat)} {lo hi : Reg} {i : Nat} (hlo : (lo, i) ∈ l) (hhi : (hi, i) ∈ l) (v : Nat)
    (s : State) : RegsBut l s (set64 lo hi i v s) := by
  rw [Machine.set64]
  exact RegsBut.trans (RegsBut.setReg hlo _ _) (RegsBut.setReg hhi _ _)

theorem regsBut_showChannels (s : State) : RegsBut [(.MEM_CHUP_LO, 0), (.MEM_CHUP_HI, 0)] s (showChannels s) := by
  rw [showChannels_eq]
  exact RegsBut.set64 (by simp) (by simp) _ _

theorem getF_showChannels {f : Fld} (hlo : f.reg ≠ .MEM_CHUP_LO) (hhi : f.reg ≠ .MEM_CHUP_HI) (i : Nat) (s : State) :
    getF (showChannels s) f i = getF s f i := by
  rw [getF, regsBut_showChannels s _ _ (by simp [hlo, hhi]), getF]

/-! ### Pauses (R203-R206) -/

@[simp] theorem setPause_mem (n kind : Nat) (s : State) :
    (setPause n kind s).mem = { s.mem with paused := mapSet s.mem.paused n 0 kind } := by rw [setPause, showChannels_mem]

theorem regsBut_setPause (n kind : Nat) (s : State) :
    RegsBut [(.MEM_CHUP_LO, 0), (.MEM_CHUP_HI, 0)] s (setPause n kind s) := by
  refine RegsBut.trans ?_ (regsBut_showChannels _)
  exact RegsBut.of_regs_eq rfl

theorem testBit_chup_setPause (n kind : Nat) (s : State) {k : Nat} (hk : k < 48) :
    (get64 (setPause n kind s) .MEM_CHUP_LO .MEM_CHUP_HI 0).testBit k = chanServes (setPause n kind s) k := by
  rw [setPause, get64_showChannels, testBit_maskBelow, decide_eq_true hk, Bool.true_and,
    chanServes_congr (showChannels_mem _)]

theorem memOscCheck_of_drift {n drift : Nat} {s : State} (hserves : chanServes s n = true)
    (h : getF s F.MEM_RETRAIN.DRIFT_PS < drift) : memOscCheck n drift s = setPause n 1 s :=
  if_pos (by simp [hserves, h])

/-- The state in which channel n has been found weak (R204). -/
def weakened (n : Nat) (s : State) : State :=
  { s with mem := { s.mem with ceWin := mapSet s.mem.ceWin n 0 0, lastWeak := mapIns s.mem.lastWeak n s.time } }

/-- The channel has been found weak within the last ten seconds. -/
def recentlyWeak (n : Nat) (s : State) : Bool :=
  match mapFind s.mem.lastWeak n with
  | some t => decide (s.time < t + 250000000)
  | none => false

theorem memCeWindow_def : memCeWindow = fun n s =>
    let recent := recentlyWeak n s
    let ce := mapGet s.mem.ceWin n 0
    let s1 := { s with mem := { s.mem with ceWin := mapSet s.mem.ceWin n 0 0 } }
    if decide (getF s F.MEM_RETRAIN.CE_LIM < ce) && !recent then
      let s2 := { s1 with mem := { s1.mem with lastWeak := mapIns s1.mem.lastWeak n s1.time } }
      post { code := Ev.MEM_CHWEAK, inst := n } (bump F.MEM_CHSTAT.RETRAINS n (setPause n 2 s2))
    else s1 := rfl

theorem memCeWindow_of_many {n : Nat} {s : State} (hmany : getF s F.MEM_RETRAIN.CE_LIM < mapGet s.mem.ceWin n 0)
    (hfirst : mapFind s.mem.lastWeak n = none) : memCeWindow n s
      = post { code := Ev.MEM_CHWEAK, inst := n } (bump F.MEM_CHSTAT.RETRAINS n (setPause n 2 (weakened n s))) := by
  rw [memCeWindow_def]
  dsimp only
  rw [recentlyWeak, hfirst, decide_eq_true hmany, weakened, Bool.not_false, Bool.and_self, if_pos rfl]

theorem memRetrainDone_of_ok {n : Nat} {s : State} (h : 2 ≤ mapGet s.mem.paused n 0) :
    memRetrainDone n true s = setPause n 0 s := if_pos h

theorem memRetrainDone_of_failed {n : Nat} {s : State} (h : 2 ≤ mapGet s.mem.paused n 0) :
    memRetrainDone n false s = fatal { code := Ev.MEM_CHDOWN, inst := n } s := by simp [memRetrainDone, h]

/-! ### Training (R200, R201) -/

/-- The packages' density and ranks are shown, with the capacity that they give (R176). -/
def trainShown (d : Nat) (r2 : Bool) (s : State) : State :=
  setF F.MEM_CAP.UNITS 0 (6 * stripesOf d) (setF F.MEM_CFG.DENSITY 0 d (setF F.MEM_CFG.RANKS2 0 (boolNat r2) s))

/-- Every training step is done and the channels leave self-refresh. -/
def trainedState (s : State) : State :=
  { s with mem := { s.mem with trained := true, steps := [1, 2, 3, 4, 5, 6, 7], selfRefresh := false } }

theorem getF_trainedState (s : State) (f : Fld) (i : Nat) : getF (trainedState s) f i = getF s f i := rfl

theorem trained_trainedState (s : State) : (trainedState s).mem.trained = true := rfl

theorem selfRefresh_trainedState (s : State) : (trainedState s).mem.selfRefresh = false := rfl

theorem paused_trainedState (s : State) : (trainedState s).mem.paused = s.mem.paused := rfl

theorem memTrainDone_of_ok {d : Nat} {r2 : Bool} {s : State} (hphase : phase s = 2) (hnew : s.mem.trained = false) :
    memTrainDone d r2 false none s = showChannels (trainedState (trainShown d r2 s)) := by
  simp [memTrainDone, hphase, hnew, selfRefreshOff, trainShown, trainedState]

@[simp] theorem trainShown_mem (d : Nat) (r2 : Bool) (s : State) : (trainShown d r2 s).mem = s.mem := by simp [trainShown]

theorem density_trainShown (d : Fin 3) (r2 : Bool) (s : State) : getF (trainShown d r2 s) F.MEM_CFG.DENSITY = d.val := by
  rw [trainShown, getF_setF_of_reg (by decide), getF_setF_of_lt rfl (Nat.lt_trans d.isLt (by decide))]

theorem ranks_trainShown (d : Nat) (r2 : Bool) (s : State) : getF (trainShown d r2 s) F.MEM_CFG.RANKS2 = boolNat r2 := by
  rw [trainShown, getF_setF_of_reg (by decide), getF_setF_of_bits rfl (by decide),
    getF_setF_of_lt rfl (boolNat_lt_two r2)]

theorem maskBelow_of_all {p : Nat → Bool} {n : Nat} (h : ∀ k < n, p k = true) : maskBelow p n = 2 ^ n - 1 := by
  refine Nat.eq_of_testBit_eq fun k => ?_
  rw [testBit_maskBelow, Nat.testBit_two_pow_sub_one]
  by_cases hk : k < n
  · simp [hk, h k hk]
  · simp [hk]

theorem chup_trained {d : Nat} {r2 : Bool} {s : State} (hrun : ∀ n, n < 48 → mapGet s.mem.paused n 0 = 0) :
    get64 (showChannels (trainedState (trainShown d r2 s))) .MEM_CHUP_LO .MEM_CHUP_HI 0 = 2 ^ 48 - 1 := by
  rw [get64_showChannels]
  refine maskBelow_of_all fun k hk => ?_
  rw [chanServes, trained_trainedState, selfRefresh_trainedState, paused_trainedState, trainShown_mem, hrun k hk]
  rfl

/-! ### MR4 (R207-R210) -/

/-- What MR4 says of a channel. -/
def mr4Shown (n code : Nat) (fast hot : Bool) (s : State) : State :=
  let s1 := setF F.MEM_CHSTAT.HOT n (boolNat hot) (setF F.MEM_CHSTAT.MR4 n code s)
  { s1 with mem := { s1.mem with derated := mapSet s1.mem.derated n false fast } }

theorem memMr4Read_eq (n code : Nat) (fast hot : Bool) (s : State) : memMr4Read n code fast hot s =
    oversubUpdate 0 (if hot && !flag s F.MEM_CHSTAT.HOT n then post { code := Ev.MEM_HOT, inst := n } (mr4Shown n code fast hot s)
      else mr4Shown n code fast hot s) := rfl

@[simp] theorem oversubUpdate_mem (r : Nat) (s : State) : (oversubUpdate r s).mem = s.mem := by
  unfold oversubUpdate
  dsimp only
  split <;> simp

theorem getF_oversubUpdate {f : Fld} (hev : postReg f.reg = false) (hq : f.reg ≠ .QOS_STATUS) (r i : Nat) (s : State) :
    getF (oversubUpdate r s) f i = getF s f i := by
  unfold oversubUpdate
  dsimp only
  split
  · rw [getF_post _ _ _ _ hev, getF_setReg_of_reg hq.symm]
  · rw [getF_setReg_of_reg hq.symm]

theorem getF_memMr4Read {f : Fld} (hreg : f.reg = .MEM_CHSTAT) (n code : Nat) (fast hot : Bool) (s : State) :
    getF (memMr4Read n code fast hot s) f n = getF (mr4Shown n code fast hot s) f n := by
  rw [memMr4Read_eq, getF_oversubUpdate (by rw [hreg]; rfl) (by rw [hreg]; decide)]
  split
  · exact getF_post _ _ _ _ (by rw [hreg]; rfl)
  · rfl

theorem mem_memMr4Read (n code : Nat) (fast hot : Bool) (s : State) :
    (memMr4Read n code fast hot s).mem = { s.mem with derated := mapSet s.mem.derated n false fast } := by
  rw [memMr4Read_eq, oversubUpdate_mem]
  split
  · rw [post_mem]
    simp [mr4Shown]
  · simp [mr4Shown]

theorem mr4Shown_regs (n code : Nat) (fast hot : Bool) (s : State) : (mr4Shown n code fast hot s).regs
    = (setF F.MEM_CHSTAT.HOT n (boolNat hot) (setF F.MEM_CHSTAT.MR4 n code s)).regs := rfl

theorem mr4_mr4Shown (n : Nat) (code : Fin 8) (fast hot : Bool) (s : State) :
    getF (mr4Shown n code fast hot s) F.MEM_CHSTAT.MR4 n = code.val := by
  rw [getF_congr (mr4Shown_regs ..), getF_setF_of_bits rfl (by decide), getF_setF_of_lt rfl code.isLt]

theorem hot_mr4Shown (n code : Nat) (fast hot : Bool) (s : State) :
    getF (mr4Shown n code fast hot s) F.MEM_CHSTAT.HOT n = boolNat hot := by
  rw [getF_congr (mr4Shown_regs ..), getF_setF_of_lt rfl (boolNat_lt_two hot)]

/-! ### Scrub -/

theorem scrubPos_memScrubStripe (n j upset : Nat) (s : State) :
    mapGet (memScrubStripe n j upset s).mem.scrubPos n 0 = if mapGet s.mem.scrubPos n 0 + 1 < stripesOf (getF s F.MEM_CFG.DENSITY)
      then mapGet s.mem.scrubPos n 0 + 1 else 0 := mapGet_mapSet_same ..

/-- Settles O20: each row through the equation of its branch; MEM_CHUP as a set of bits below 48. -/
theorem channelRows : Obligations.ChannelRows := by
  refine ⟨fun rate s hopen => ?_, fun d r2 s hclock hphase hnew hrun => ?_, fun n d s hclock hserves hdrift => ?_,
    fun n s hclock hpaused => ?_, fun n kind s => ⟨setPause_mem .., regsBut_setPause n kind s, fun k hk => testBit_chup_setPause n kind s hk⟩,
    fun n s hclock hmany hfirst => ?_, fun n s hclock hpaused => ⟨?_, ?_⟩, fun n code fast hot s htrained => ?_,
    fun n s htrained hdue => ?_, fun n j u s hclock hfree => ?_⟩
  · refine .of_eq (t := memCfgWrite rate s) (congrArg Host.Outcome.next (if_pos hopen)) ⟨?_, setF_mem .., ?_⟩
    · exact getF_setF_of_lt rfl rate.isLt _ _
    · refine RegsBut.trans ?_ (RegsBut.setF (f := F.MEM_CFG.RATE) (by decide) _ _)
      exact RegsBut.of_regs_eq rfl
  · refine .of_eq (t := memTrainDone d r2 false none s) (onClock_of_runs hclock _) ?_
    rw [memTrainDone_of_ok hphase hnew]
    refine ⟨by rw [showChannels_mem, trained_trainedState], ?_, ?_, ?_⟩
    · rw [getF_showChannels (by decide) (by decide), getF_trainedState, density_trainShown]
    · rw [getF_showChannels (by decide) (by decide), getF_trainedState, ranks_trainShown]
    · exact chup_trained hrun
  · show onClock s _ = _
    rw [onClock_of_runs hclock, memOscCheck_of_drift hserves hdrift]
  · show onClock s _ = _
    rw [onClock_of_runs hclock, memRecentreDone, if_pos hpaused]
  · refine .of_eq (t := memCeWindow n s) (onClock_of_runs hclock _) ?_
    rw [memCeWindow_of_many hmany hfirst, post_mem, bump_mem, setPause_mem]
    refine ⟨by simp, by simp [weakened], ?_⟩
    have hweak : RegsButAll (.MEM_CHSTAT :: .MEM_CHUP_LO :: .MEM_CHUP_HI :: eventRegs) s (weakened n s) :=
      RegsButAll.of_regs_eq rfl
    have hpause : RegsButAll (.MEM_CHSTAT :: .MEM_CHUP_LO :: .MEM_CHUP_HI :: eventRegs) (weakened n s)
        (setPause n 2 (weakened n s)) := (regsBut_setPause n 2 _).toAll (by simp)
    refine RegsButAll.trans (RegsButAll.trans hweak hpause) (RegsButAll.trans ?_
      (RegsButAll.mono (RegsButAll.post _ _) (by simp +contextual)))
    exact RegsButAll.bump (f := F.MEM_CHSTAT.RETRAINS) (List.mem_cons_self ..) _ _
  · show onClock s _ = _
    rw [onClock_of_runs hclock, memRetrainDone_of_ok hpaused]
  · show onClock s _ = _
    rw [onClock_of_runs hclock, memRetrainDone_of_failed hpaused]
  · refine .of_eq (t := memMr4Read n code fast hot s) (congrArg Host.Outcome.next (if_pos htrained)) ?_
    rw [getF_memMr4Read rfl, getF_memMr4Read rfl, mem_memMr4Read]
    exact ⟨mr4_mr4Shown .., hot_mr4Shown .., mapGet_mapSet_same ..⟩
  · refine .of_eq (t := memRefresh n false s) (congrArg Host.Outcome.next (if_pos (by simp [htrained, hdue]))) ?_
    simp [memRefresh]
  · refine .of_eq (t := memScrubStripe n j u s) ?_ (scrubPos_memScrubStripe ..)
    show onClock s _ = _
    rw [onClock_of_runs hclock, hfree, onlyIf_true]

end Sys2Proof.Machine
end

section
/-! Contexts, segments and the start of an invalidation (R224-R235, R257, R258). -/

namespace Sys2Proof.Machine

/-! ### Contexts and segments as tables -/

theorem ctxAt_congr {s t : State} (h : t.xlt = s.xlt) (a : Nat) : ctxAt t a = ctxAt s a := by rw [ctxAt, h, ctxAt]

theorem segAt_congr {s t : State} (h : t.xlt = s.xlt) (a n : Nat) : segAt t a n = segAt s a n := by rw [segAt, h, segAt]

@[simp] theorem ctxAt_setF (f : Fld) (i v : Nat) (s : State) (a : Nat) : ctxAt (setF f i v s) a = ctxAt s a :=
  ctxAt_congr (setF_xlt ..) a

@[simp] theorem segAt_setF (f : Fld) (i v : Nat) (s : State) (a n : Nat) : segAt (setF f i v s) a n = segAt s a n :=
  segAt_congr (setF_xlt ..) a n

theorem ctxAt_setCtx_same (a : Nat) (c : Ctx) (s : State) : ctxAt (setCtx a c s) a = c :=
  mapGet_mapSet_same s.xlt.ctxs a {} c

theorem ctxAt_setCtx_ne {a b : Nat} (h : b ≠ a) (c : Ctx) (s : State) : ctxAt (setCtx a c s) b = ctxAt s b :=
  mapGet_mapSet_ne s.xlt.ctxs {} c {} h

theorem ctxAt_setSeg (a n : Nat) (g : Seg) (s : State) (b : Nat) : ctxAt (setSeg a n g s) b = ctxAt s b := rfl

theorem invs_setSeg (a n : Nat) (g : Seg) (s : State) : (setSeg a n g s).xlt.invs = s.xlt.invs := rfl

theorem segAt_setSeg_same (a n : Nat) (g : Seg) (s : State) : segAt (setSeg a n g s) a n = g :=
  mapGet_mapSet_same s.xlt.segs (a * 16 + n) {} g

theorem segAt_setSeg_ne {n m : Nat} (h : m ≠ n) (a : Nat) (g : Seg) (s : State) :
    segAt (setSeg a n g s) a m = segAt s a m :=
  mapGet_mapSet_ne s.xlt.segs {} g {} (by omega)

theorem regs_setCtx (a : Nat) (c : Ctx) (s : State) : (setCtx a c s).regs = s.regs := rfl

theorem regs_setSeg (a n : Nat) (g : Seg) (s : State) : (setSeg a n g s).regs = s.regs := rfl

theorem toNat_ne_zero_of_ne {n : Nat} {v : BitVec n} (h : v ≠ 0) : v.toNat ≠ 0 :=
  fun h0 => h (BitVec.eq_of_toNat_eq (by simpa using h0))

/-! ### The start of an invalidation (R258) -/

/-- A cache without the entries of an ASID. -/
def withoutAsid (asid : Nat) (m : Map (List XEnt)) : Map (List XEnt) :=
  (m.map (fun (e : Nat × List XEnt) => (e.1, e.2.filter (fun x => x.asid != asid)))).filter
    (fun (e : Nat × List XEnt) => e.2 ≠ [])

theorem asid_ne_of_withoutAsid {asid : Nat} {m : Map (List XEnt)} {e : Nat × List XEnt} (he : e ∈ withoutAsid asid m)
    {x : XEnt} (hx : x ∈ e.2) : x.asid ≠ asid := by
  obtain ⟨e', -, rfl⟩ := List.mem_map.1 (List.mem_filter.1 he).1
  simpa using (List.mem_filter.1 hx).2

theorem invStart_xlt (asid : Nat) (who : InvBy) (s : State) : (invStart asid who s).xlt = { s.xlt with
    ctxs := mapSet s.xlt.ctxs asid {} { ctxAt s asid with gen := ((ctxAt s asid).gen + 1) % 2 ^ 32 }
    l1 := withoutAsid asid s.xlt.l1
    l2 := withoutAsid asid s.xlt.l2
    invs := s.xlt.invs ++ [{ asid := asid, gen := ((ctxAt s asid).gen + 1) % 2 ^ 32, who := who }] } := by
  rw [invStart, setF_xlt]
  rfl

theorem segAt_invStart (asid : Nat) (who : InvBy) (s : State) (a n : Nat) : segAt (invStart asid who s) a n = segAt s a n := by
  rw [segAt, invStart_xlt, segAt]

theorem regsBut_invStart (asid : Nat) (who : InvBy) (s : State) : RegsBut [(.XLT_INVSTAT, 0)] s (invStart asid who s) := by
  refine RegsBut.trans ?_ (RegsBut.setF (f := F.XLT_INVSTAT.BUSY) (by decide) _ _)
  exact RegsBut.of_regs_eq rfl

theorem getF_invStart {f : Fld} (h : f.reg ≠ .XLT_INVSTAT) (asid : Nat) (who : InvBy) (s : State) (i : Nat) :
    getF (invStart asid who s) f i = getF s f i := by
  rw [getF, regsBut_invStart asid who s _ _ (by simp [h]), getF]

theorem busy_invStart (asid : Nat) (who : InvBy) (s : State) : flag (invStart asid who s) F.XLT_INVSTAT.BUSY = true := by
  rw [flag, invStart, getF_setF_of_lt rfl (by decide)]
  rfl

/-- An invalidation is started in a state whose context and invalidations are those of `s`. -/
theorem invStarted_invStart {asid : Nat} {s u : State} (hinvs : u.xlt.invs = s.xlt.invs) (hctx : ctxAt u asid = ctxAt s asid)
    (who : InvBy) : InvStarted asid who s (invStart asid who u) := by
  refine ⟨by rw [invStart_xlt, hinvs, hctx], ?_, busy_invStart asid who u, ?_, ?_⟩
  · rw [ctxAt, invStart_xlt, ← hctx]
    exact mapGet_mapSet_same _ _ _ _
  · rw [invStart_xlt]
    exact fun e he x hx => asid_ne_of_withoutAsid he hx
  · rw [invStart_xlt]
    exact fun e he x hx => asid_ne_of_withoutAsid he hx

/-! ### Binds (R225, R226) -/

theorem next_onlyIf {c : Bool} (h : c = true) (f : State → State) (s : State) :
    (Host.Outcome.next (onlyIf c f s) : Result) = .next (f s) := by rw [h, onlyIf_true]

/-- The context that a bind makes of XLT_CTXA, XLT_CTXB and the value drawn. -/
def boundCtx (s : State) (asid : Nat) : Ctx :=
  { ctxAt s asid with
    bound := true, func := getF s F.XLT_CTXA.FUNC, pasid := getF s F.XLT_CTXA.PASID,
    shared := flag s F.XLT_CTXA.MODE && !isWindow asid, priEn := flag s F.XLT_CTXA.PRI_EN,
    keysel := getF s F.XLT_CTXB.KEYSEL, point := (draw 61 s).1.toNat % (2 ^ 61 - 2) + 1,
    binds := (ctxAt s asid).binds + 1, reck := reckDefault }

theorem xltBind_of_ok {asid : Nat} {s : State} (h : bindErr s asid = 0) :
    xltBind asid s = setCtx asid (boundCtx s asid) (draw 61 (setF F.XLT_CTXSTAT.ERR 0 0 s)).2 := by
  unfold xltBind
  rw [h]
  rfl

theorem xltBind_of_err {asid e : Nat} {s : State} (h : bindErr s asid = e) (he : e ≠ 0) :
    xltBind asid s = setF F.XLT_CTXSTAT.ERR 0 e s := by
  simp [xltBind, h, he]

theorem bindErr_of_free {asid : Nat} {s : State} (hne : asid ≠ 0) (hfree : (ctxAt s asid).bound = false)
    (huse : isWindow asid = false → pasidInUse s asid (getF s F.XLT_CTXA.FUNC) (getF s F.XLT_CTXA.PASID) = false) :
    bindErr s asid = 0 := by
  cases hw : isWindow asid
  · simp [bindErr, hne, hfree, hw, huse hw]
  · simp [bindErr, hne, hfree, hw]

theorem bindErr_of_inUse {asid : Nat} {s : State} (hne : asid ≠ 0) (hw : isWindow asid = false)
    (huse : pasidInUse s asid (getF s F.XLT_CTXA.FUNC) (getF s F.XLT_CTXA.PASID) = true) : bindErr s asid = 2 := by
  simp [bindErr, hne, hw, huse]

theorem bindErr_of_bound {asid : Nat} {s : State} (hne : asid ≠ 0)
    (huse : pasidInUse s asid (getF s F.XLT_CTXA.FUNC) (getF s F.XLT_CTXA.PASID) = false)
    (hb : (ctxAt s asid).bound = true) : bindErr s asid = 3 := by
  simp [bindErr, hne, huse, hb]

theorem err_setF_ctxstat (s : State) {v : Nat} (h : v < 2 ^ F.XLT_CTXSTAT.ERR.width) :
    getF (setF F.XLT_CTXSTAT.ERR 0 v s) F.XLT_CTXSTAT.ERR = v := getF_setF_of_lt rfl h _ _

theorem ctxAt_draw (w : Nat) (s : State) (a : Nat) : ctxAt (draw w s).2 a = ctxAt s a := rfl

theorem getF_draw (w : Nat) (s : State) (f : Fld) (i : Nat) : getF (draw w s).2 f i = getF s f i := rfl

theorem getF_setCtx (a : Nat) (c : Ctx) (s : State) (f : Fld) (i : Nat) : getF (setCtx a c s) f i = getF s f i := rfl

theorem point_range (n : Nat) : 1 ≤ n % (2 ^ 61 - 2) + 1 ∧ n % (2 ^ 61 - 2) + 1 ≤ 2 ^ 61 - 2 :=
  ⟨Nat.le_add_left _ _, Nat.mod_lt n (by decide)⟩

theorem regsBut_xltBind_of_ok {asid : Nat} {s : State} (h : bindErr s asid = 0) :
    RegsBut [(.XLT_CTXSTAT, 0)] s (xltBind asid s) := by
  rw [xltBind_of_ok h]
  refine RegsBut.trans (RegsBut.setF (f := F.XLT_CTXSTAT.ERR) (i := 0) (by decide) 0 s) ?_
  exact RegsBut.of_regs_eq rfl

theorem err_xltBind_of_ok {asid : Nat} {s : State} (h : bindErr s asid = 0) :
    getF (xltBind asid s) F.XLT_CTXSTAT.ERR = 0 := by
  rw [xltBind_of_ok h, getF_setCtx, getF_draw]
  exact err_setF_ctxstat s (by decide)

/-! ### Reading a context (R277) -/

/-- XLT_CTXA as a read shows it. -/
def ctxaWord (c : Ctx) : Nat :=
  c.pasid + c.func * 2 ^ 20 + boolNat c.shared * 2 ^ 25 + boolNat c.priEn * 2 ^ 26 + boolNat c.bound * 2 ^ 27

theorem ctxaWord_fields {c : Ctx} (hp : c.pasid < 2 ^ 20) (hf : c.func < 32) :
    bitsAt (BitVec.ofNat 32 (ctxaWord c)) 0 20 = c.pasid ∧ bitsAt (BitVec.ofNat 32 (ctxaWord c)) 20 5 = c.func ∧
      bitsAt (BitVec.ofNat 32 (ctxaWord c)) 25 1 = boolNat c.shared ∧
      bitsAt (BitVec.ofNat 32 (ctxaWord c)) 26 1 = boolNat c.priEn ∧
      bitsAt (BitVec.ofNat 32 (ctxaWord c)) 27 1 = boolNat c.bound := by
  have hs := boolNat_lt_two c.shared
  have hq := boolNat_lt_two c.priEn
  have hb := boolNat_lt_two c.bound
  simp only [bitsAt, BitVec.toNat_ofNat, ctxaWord]
  refine ⟨?_, ?_, ?_, ?_, ?_⟩ <;> omega

theorem xltCtxRead_eq (asid : Nat) (s : State) : xltCtxRead asid s =
    setF F.XLT_CTXSTAT.ERR 0 (if asid = 0 then 1 else 0)
      (setReg .XLT_CTXGEN 0 (BitVec.ofNat 32 (ctxAt s asid).gen)
        (setReg .XLT_CTXB 0 (BitVec.ofNat 32 (ctxAt s asid).keysel)
          (setReg .XLT_CTXA 0 (BitVec.ofNat 32 (ctxaWord (ctxAt s asid))) s))) := rfl

theorem getReg_xltCtxRead_ctxa (asid : Nat) (s : State) :
    getReg (xltCtxRead asid s) .XLT_CTXA 0 = BitVec.ofNat 32 (ctxaWord (ctxAt s asid)) := by
  rw [xltCtxRead_eq, getReg_setF_of_reg (by decide)]
  simp

theorem getReg_xltCtxRead_ctxgen (asid : Nat) (s : State) :
    getReg (xltCtxRead asid s) .XLT_CTXGEN 0 = BitVec.ofNat 32 (ctxAt s asid).gen := by
  rw [xltCtxRead_eq, getReg_setF_of_reg (by decide)]
  simp

theorem onlyRegs_xltCtxRead (asid : Nat) (s : State) : OnlyRegs s (xltCtxRead asid s) := by
  rw [xltCtxRead_eq]
  exact OnlyRegs.trans (OnlyRegs.trans (OnlyRegs.trans (OnlyRegs.setReg ..) (OnlyRegs.setReg ..)) (OnlyRegs.setReg ..))
    (OnlyRegs.setF ..)

theorem regsButAll_xltCtxRead (asid : Nat) (s : State) :
    RegsButAll [.XLT_CTXA, .XLT_CTXB, .XLT_CTXGEN, .XLT_CTXSTAT] s (xltCtxRead asid s) := by
  rw [xltCtxRead_eq]
  refine RegsButAll.trans (RegsButAll.trans (RegsButAll.trans (RegsButAll.setReg (by decide) _ _ _)
    (RegsButAll.setReg (by decide) _ _ _)) (RegsButAll.setReg (by decide) _ _ _)) (RegsButAll.setF (by decide) _ _ _)

theorem boolNat_beq (b : Bool) : (boolNat b == 1) = b := by cases b <;> rfl

/-! ### Unbinds (R227, R228) -/

theorem xltUnbind_of_queues {asid : Nat} {s : State} (hne : asid ≠ 0) (hb : (ctxAt s asid).bound = true)
    (hq : queuesBound s asid = true) : xltUnbind asid s = setF F.XLT_CTXSTAT.ERR 0 4 s := by
  simp [xltUnbind, unbindErr, hne, hb, hq]

theorem xltUnbind_of_ok {asid : Nat} {s : State} (hne : asid ≠ 0) (hb : (ctxAt s asid).bound = true)
    (hq : queuesBound s asid = false) :
    xltUnbind asid s = invStart asid .unbind (setF F.XLT_CTXSTAT.BUSY 0 1 (setF F.XLT_CTXSTAT.ERR 0 0 s)) := by
  simp [xltUnbind, unbindErr, hne, hb, hq]

theorem flag_setF_one {f : Fld} (hf : f.fits = true) (hw : f.width = 1) (i : Nat) (s : State) :
    flag (setF f i 1 s) f i = true := flag_setF_boolNat hf hw i true s

theorem flag_congr {s t : State} {f : Fld} {i : Nat} (h : getF t f i = getF s f i) : flag t f i = flag s f i := by
  rw [flag, h, flag]

/-- Settles O21: each command through the equation of its branch, and the start of an invalidation once. -/
theorem contextCommands : Obligations.ContextCommands := by
  refine ⟨fun asid s hready hne hfree huse => ?_, fun asid s hready hne hwin => ⟨fun huse => ?_, fun huse hbound => ?_⟩,
    fun asid s hready hne hpasid hfunc => ?_, fun asid s hready hne hbound => ⟨fun hq => ?_, fun hq => ?_⟩⟩
  · have hok := bindErr_of_free (toNat_ne_zero_of_ne hne) hfree huse
    refine .of_eq (t := xltBind asid.toNat s) (next_onlyIf hready _ s) ?_
    have hctx : ctxAt (xltBind asid.toNat s) asid.toNat = boundCtx s asid.toNat := by
      rw [xltBind_of_ok hok, ctxAt_setCtx_same]
    have hothers : ∀ b, b ≠ asid.toNat → ctxAt (xltBind asid.toNat s) b = ctxAt s b := fun b hb => by
      rw [xltBind_of_ok hok, ctxAt_setCtx_ne hb, ctxAt_draw, ctxAt_setF]
    obtain ⟨hone, hmost⟩ := point_range (draw 61 s).1.toNat
    rw [hctx]
    exact ⟨rfl, rfl, rfl, rfl, rfl, fun hw => by simp [boundCtx, hw], hone, hmost, rfl, rfl, err_xltBind_of_ok hok, hothers,
      regsBut_xltBind_of_ok hok⟩
  · exact (next_onlyIf hready _ s).trans
      (congrArg _ (xltBind_of_err (bindErr_of_inUse (toNat_ne_zero_of_ne hne) hwin huse) (by decide)))
  · exact (next_onlyIf hready _ s).trans
      (congrArg _ (xltBind_of_err (bindErr_of_bound (toNat_ne_zero_of_ne hne) huse hbound) (by decide)))
  · refine .of_eq (t := xltCtxRead asid.toNat s) (next_onlyIf hready _ s) ?_
    obtain ⟨h1, h2, h3, h4, h5⟩ := ctxaWord_fields hpasid hfunc
    simp only [flag, getF]
    refine ⟨?_, ?_, ?_, ?_, ?_, getReg_xltCtxRead_ctxgen .., onlyRegs_xltCtxRead .., regsButAll_xltCtxRead _ _⟩
    · exact (congrArg (bitsAt · 0 20) (getReg_xltCtxRead_ctxa ..)).trans h1
    · exact (congrArg (bitsAt · 20 5) (getReg_xltCtxRead_ctxa ..)).trans h2
    · rw [← boolNat_beq (ctxAt s asid.toNat).shared, ← h3]
      exact congrArg (bitsAt · 25 1 == 1) (getReg_xltCtxRead_ctxa ..)
    · rw [← boolNat_beq (ctxAt s asid.toNat).priEn, ← h4]
      exact congrArg (bitsAt · 26 1 == 1) (getReg_xltCtxRead_ctxa ..)
    · rw [← boolNat_beq (ctxAt s asid.toNat).bound, ← h5]
      exact congrArg (bitsAt · 27 1 == 1) (getReg_xltCtxRead_ctxa ..)
  · exact (next_onlyIf hready _ s).trans (congrArg _ (xltUnbind_of_queues (toNat_ne_zero_of_ne hne) hbound hq))
  · refine .of_eq (t := xltUnbind asid.toNat s) (next_onlyIf hready _ s) ?_
    rw [xltUnbind_of_ok (toNat_ne_zero_of_ne hne) hbound hq]
    refine ⟨invStarted_invStart (by rw [setF_xlt, setF_xlt]) (by simp) _, ?_, ?_⟩
    · rw [flag_congr (getF_invStart (by decide) ..), flag_setF_one rfl rfl]
    · refine RegsBut.trans ?_ (RegsBut.mono (regsBut_invStart _ _ _) (by simp))
      exact RegsBut.trans (RegsBut.setF (f := F.XLT_CTXSTAT.ERR) (i := 0) (by decide) _ _)
        (RegsBut.setF (f := F.XLT_CTXSTAT.BUSY) (i := 0) (by decide) _ _)

end Sys2Proof.Machine
end

section
/-! Segment commands (R232-R235) and the completion of invalidations (R257-R263). -/

namespace Sys2Proof.Machine

/-! ### The checks of a segment (R234) -/

/-- A chain of checks gives 0 when its first check passes and the rest gives 0. -/
theorem check_eq_zero {c : Prop} [Decidable c] {k r : Nat} : (if c then k + 1 else r) = 0 ↔ ¬ c ∧ r = 0 := by
  split <;> simp [*]

theorem checks_of_segErr {s : State} {asid n : Nat} {g : Seg} (h : segErr s asid n g = 0) :
    (!(ctxAt s asid).bound || (ctxAt s asid).shared) = false ∧ (g.len < 65536 || 2 ^ 57 < g.start + g.len) = false ∧
      ((List.range 16).any fun j => j != n && (segAt s asid j).valid && segsMeet g (segAt s asid j)) = false ∧
      (!g.host && !paOk s g.base g.len) = false ∧
      ((bitAt g.attr 3 && !bitAt g.attr 1) || (bitAt g.attr 4 && !(bitAt g.attr 1 && bitAt g.attr 2))
        || (isWindow asid && bitAt g.attr 3)) = false ∧
      (flag s F.XLT_SEGSTAT.BUSY || flag s F.XLT_CTXSTAT.BUSY) = false := by
  unfold segErr at h
  simp only [check_eq_zero, Bool.not_eq_true, and_true] at h
  exact h

theorem segErr_lt (s : State) (asid n : Nat) (g : Seg) : segErr s asid n g < 2 ^ F.XLT_SEGSTAT.ERR.width := by
  unfold segErr
  (repeat' split) <;> decide

/-! ### Segment commands -/

theorem xltSegWrite_of_ok {asid n : Nat} {s : State} (h : segErr s asid n (segRegs s) = 0) : xltSegWrite asid n s
    = invStart asid .seg (setF F.XLT_SEGSTAT.BUSY 0 1 (setSeg asid n (segRegs s) (setF F.XLT_SEGSTAT.ERR 0 0 s))) := by
  simp [xltSegWrite, h]

theorem xltSegWrite_of_err {asid n : Nat} {s : State} (h : segErr s asid n (segRegs s) ≠ 0) :
    xltSegWrite asid n s = setF F.XLT_SEGSTAT.ERR 0 (segErr s asid n (segRegs s)) s := by
  simp [xltSegWrite, h]

theorem xltSegClear_of_ok {asid n : Nat} {s : State} (hb : (ctxAt s asid).bound = true)
    (hsh : (ctxAt s asid).shared = false) (hseg : flag s F.XLT_SEGSTAT.BUSY = false)
    (hctx : flag s F.XLT_CTXSTAT.BUSY = false) : xltSegClear asid n s
    = invStart asid .seg (setF F.XLT_SEGSTAT.BUSY 0 1 (setSeg asid n {} (setF F.XLT_SEGSTAT.ERR 0 0 s))) := by
  simp [xltSegClear, hb, hsh, hseg, hctx]

/-- A segment is replaced and its ASID's invalidation starts. -/
def segReplaced (asid n : Nat) (g : Seg) (s : State) : State :=
  invStart asid .seg (setF F.XLT_SEGSTAT.BUSY 0 1 (setSeg asid n g (setF F.XLT_SEGSTAT.ERR 0 0 s)))

theorem segAt_segReplaced_same (asid n : Nat) (g : Seg) (s : State) : segAt (segReplaced asid n g s) asid n = g := by
  rw [segReplaced, segAt_invStart, segAt_setF, segAt_setSeg_same]

theorem segAt_segReplaced_ne {n m : Nat} (h : m ≠ n) (asid : Nat) (g : Seg) (s : State) :
    segAt (segReplaced asid n g s) asid m = segAt s asid m := by
  rw [segReplaced, segAt_invStart, segAt_setF, segAt_setSeg_ne h, segAt_setF]

theorem invStarted_segReplaced (asid n : Nat) (g : Seg) (s : State) : InvStarted asid .seg s (segReplaced asid n g s) :=
  invStarted_invStart (by rw [setF_xlt, invs_setSeg, setF_xlt]) (by rw [ctxAt_setF, ctxAt_setSeg, ctxAt_setF]) _

theorem busy_segReplaced (asid n : Nat) (g : Seg) (s : State) :
    flag (segReplaced asid n g s) F.XLT_SEGSTAT.BUSY = true := by
  rw [segReplaced, flag_congr (getF_invStart (by decide) ..), flag_setF_one rfl rfl]

theorem regsBut_segReplaced (asid n : Nat) (g : Seg) (s : State) :
    RegsBut [(.XLT_SEGSTAT, 0), (.XLT_INVSTAT, 0)] s (segReplaced asid n g s) := by
  refine RegsBut.trans ?_ (RegsBut.mono (regsBut_invStart _ _ _) (by simp))
  refine RegsBut.trans ?_ (RegsBut.setF (f := F.XLT_SEGSTAT.BUSY) (i := 0) (by decide) _ _)
  refine RegsBut.trans (RegsBut.setF (f := F.XLT_SEGSTAT.ERR) (i := 0) (by decide) 0 s) ?_
  exact RegsBut.of_regs_eq (regs_setSeg ..)

/-! ### Reading a segment (R277) -/

theorem get64_setReg_of_reg {r lo hi : Reg} (hlo : r ≠ lo) (hhi : r ≠ hi) (i j : Nat) (v : BitVec 32) (s : State) :
    get64 (setReg r i v s) lo hi j = get64 s lo hi j := by
  simp [get64, hlo.symm, hhi.symm]

theorem get64_setF_of_reg {f : Fld} {lo hi : Reg} (hlo : f.reg ≠ lo) (hhi : f.reg ≠ hi) (i j v : Nat) (s : State) :
    get64 (setF f i v s) lo hi j = get64 s lo hi j := get64_setReg_of_reg hlo hhi ..

theorem get64_set64_of_reg {a b lo hi : Reg} (h1 : a ≠ lo) (h2 : a ≠ hi) (h3 : b ≠ lo) (h4 : b ≠ hi) (i j v : Nat)
    (s : State) : get64 (set64 a b i v s) lo hi j = get64 s lo hi j := by
  rw [set64, get64_setReg_of_reg h3 h4, get64_setReg_of_reg h1 h2]

theorem get64_set64_of_lt {lo hi : Reg} (h : lo ≠ hi) {v : Nat} (hv : v < 2 ^ 64) (i : Nat) (s : State) :
    get64 (set64 lo hi i v s) lo hi i = v := by
  rw [get64_set64_same _ _ _ _ _ h, Nat.mod_eq_of_lt hv]

theorem xltSegRead_eq {asid n : Nat} {s : State} (hb : (ctxAt s asid).bound = true) : xltSegRead asid n s =
    setF F.XLT_SEGSTAT.ERR 0 0 (setReg .XLT_SEGATTR 0 (segAt s asid n).attr
      (setF F.XLT_SEGLEN.UNITS 0 ((segAt s asid n).len / 65536)
        (set64 .XLT_SEGBASE_LO .XLT_SEGBASE_HI 0 (segAt s asid n).base
          (set64 .XLT_SEGSTART_LO .XLT_SEGSTART_HI 0 (segAt s asid n).start s)))) := by
  rw [xltSegRead, hb]
  rfl

theorem onlyRegs_set64 (lo hi : Reg) (i v : Nat) (s : State) : OnlyRegs s (set64 lo hi i v s) :=
  OnlyRegs.trans (OnlyRegs.setReg ..) (OnlyRegs.setReg ..)

theorem onlyRegs_xltSegRead {asid n : Nat} {s : State} (hb : (ctxAt s asid).bound = true) :
    OnlyRegs s (xltSegRead asid n s) := by
  rw [xltSegRead_eq hb]
  exact OnlyRegs.trans (OnlyRegs.trans (OnlyRegs.trans (OnlyRegs.trans (onlyRegs_set64 ..) (onlyRegs_set64 ..))
    (OnlyRegs.setF ..)) (OnlyRegs.setReg ..)) (OnlyRegs.setF ..)

/-- Settles O22: a write or a clear is `segReplaced`, a read shows the segment field by field. -/
theorem segmentCommands : Obligations.SegmentCommands := by
  refine ⟨fun asid n s hopen => ⟨fun hok => ?_, fun herr => ?_⟩, fun asid n g s hok => ?_,
    fun asid n s hopen hb hstart hbase => ?_, fun asid n s hopen hb hsh hseg hctx => ?_⟩
  · refine .of_eq (t := xltSegWrite asid.toNat n s) (next_onlyIf hopen _ s) ?_
    rw [xltSegWrite_of_ok hok]
    exact ⟨segAt_segReplaced_same .., invStarted_segReplaced .., busy_segReplaced ..,
      fun m hm _ => segAt_segReplaced_ne hm .., regsBut_segReplaced _ _ _ _⟩
  · refine .of_eq (t := xltSegWrite asid.toNat n s) (next_onlyIf hopen _ s) ?_
    rw [xltSegWrite_of_err herr]
    exact ⟨getF_setF_of_lt rfl (segErr_lt ..) _ _, setF_xlt .., RegsBut.setF (by decide) _ _⟩
  · obtain ⟨hctx, hlen, hmeet, hpa, hattr, -⟩ := checks_of_segErr hok
    obtain ⟨hb, hsh⟩ : (ctxAt s asid).bound = true ∧ (ctxAt s asid).shared = false := by simpa using hctx
    obtain ⟨hle, hend⟩ : 65536 ≤ g.len ∧ g.start + g.len ≤ 2 ^ 57 := by simpa using hlen
    refine ⟨hb, hsh, hle, hend, fun j hj hjn hv => ?_, fun hhost => ?_, ?_⟩
    · have hnone := List.any_eq_false.1 hmeet j (List.mem_range.2 hj)
      simpa [hjn, hv] using hnone
    · simpa [hhost] using hpa
    · revert hattr
      cases bitAt g.attr 3 <;> cases bitAt g.attr 1 <;> cases bitAt g.attr 4 <;> cases bitAt g.attr 2 <;> simp
  · refine .of_eq (t := xltSegRead asid.toNat n s) (next_onlyIf hopen _ s) ?_
    refine ⟨?_, ?_, ?_, ?_, onlyRegs_xltSegRead hb⟩
    · rw [xltSegRead_eq hb, get64_setF_of_reg (by decide) (by decide), get64_setReg_of_reg (by decide) (by decide),
        get64_setF_of_reg (by decide) (by decide), get64_set64_of_reg (by decide) (by decide) (by decide) (by decide),
        get64_set64_of_lt (by decide) hstart]
    · rw [xltSegRead_eq hb, get64_setF_of_reg (by decide) (by decide), get64_setReg_of_reg (by decide) (by decide),
        get64_setF_of_reg (by decide) (by decide), get64_set64_of_lt (by decide) hbase]
    · rw [xltSegRead_eq hb, getReg_setF_of_reg (by decide), getReg_setReg, if_pos ⟨rfl, rfl⟩]
    · rw [xltSegRead_eq hb]
      exact getF_setF_of_lt rfl (by decide) _ _
  · refine .of_eq (t := xltSegClear asid.toNat n s) (next_onlyIf hopen _ s) ?_
    rw [xltSegClear_of_ok hb hsh hseg hctx]
    exact ⟨segAt_segReplaced_same .., invStarted_segReplaced .., regsBut_segReplaced _ _ _ _⟩

/-! ### The completion of an invalidation (R259, R261) -/

/-- The invalidation at the front is taken out: SEQ advances and BUSY tells whether others follow. -/
def invPopped (rest : List Inval) (s : State) : State :=
  let s1 := { s with xlt := { s.xlt with invs := rest } }
  setF F.XLT_INVSTAT.BUSY 0 (boolNat (rest ≠ [])) (setF F.XLT_INVSTAT.SEQ 0 ((getF s1 F.XLT_INVSTAT.SEQ + 1) % 2 ^ 16) s1)

/-- The context and the segments of an ASID are given up (R228). -/
def released (asid : Nat) (s : State) : State :=
  { s with xlt := { s.xlt with
      ctxs := mapSet s.xlt.ctxs asid {} { gen := (ctxAt s asid).gen, binds := (ctxAt s asid).binds }
      segs := s.xlt.segs.filter (fun (e : Nat × Seg) => e.1 / 16 != asid) } }

/-- Who started an invalidation is served. -/
def invServed (v : Inval) (rest : List Inval) (s : State) : State :=
  match v.who with
  | .reg => s
  | .seg => setF F.XLT_SEGSTAT.BUSY 0 0 s
  | .unbind => setF F.XLT_CTXSTAT.BUSY 0 0 (released v.asid s)
  | .ats f t => if rest.any (fun w => decide (w.who = .ats f t)) then s else hostSend (.invDone f t) s



theorem invServed_eq (v : Inval) (rest : List Inval) (s : State) : (match v.who with
    | .reg => s
    | .seg => setF F.XLT_SEGSTAT.BUSY 0 0 s
    | .unbind =>
      let c := ctxAt s v.asid
      let s1 := setCtx v.asid { gen := c.gen, binds := c.binds } s
      let s2 := { s1 with xlt := { s1.xlt with segs := s1.xlt.segs.filter (fun (e : Nat × Seg) => e.1 / 16 != v.asid) } }
      setF F.XLT_CTXSTAT.BUSY 0 0 s2
    | .ats f t => if rest.any (fun w => decide (w.who = .ats f t)) then s else hostSend (.invDone f t) s)
      = invServed v rest s := rfl

theorem invFinish_of_cons {s : State} {v : Inval} {rest : List Inval} (h : s.xlt.invs = v :: rest) :
    invFinish s = invServed v rest (invPopped rest s) := by
  unfold invFinish
  split
  · rename_i hnil
    simp [hnil] at h
  · rename_i hcons
    obtain ⟨rfl, rfl⟩ := List.cons.inj (hcons.symm.trans h)
    extract_lets _ s1 s2 s3 c s4 _ s5
    show _ = invServed _ _ s3
    exact invServed_eq _ _ s3

theorem RegsButAll.hostSend (r : HostReq) (s : State) : RegsButAll eventRegs s (Machine.hostSend r s) :=
  fun q i hq => (PostFrame.hostSend r s).reg q i (postReg_eq_false_of_notMem hq)

theorem invPopped_xlt (rest : List Inval) (s : State) : (invPopped rest s).xlt = { s.xlt with invs := rest } := by
  rw [invPopped, setF_xlt, setF_xlt]

theorem regsButAll_invPopped (rest : List Inval) (s : State) : RegsButAll [.XLT_INVSTAT] s (invPopped rest s) := by
  refine RegsButAll.trans ?_ (RegsButAll.setF (f := F.XLT_INVSTAT.BUSY) (by decide) _ _ _)
  refine RegsButAll.trans ?_ (RegsButAll.setF (f := F.XLT_INVSTAT.SEQ) (by decide) _ _ _)
  exact RegsButAll.of_regs_eq rfl

theorem seq_invPopped (rest : List Inval) (s : State) :
    getF (invPopped rest s) F.XLT_INVSTAT.SEQ = (getF s F.XLT_INVSTAT.SEQ + 1) % 2 ^ 16 := by
  rw [invPopped, getF_setF_of_bits rfl (by decide)]
  exact getF_setF_of_lt rfl (Nat.mod_lt _ (Nat.two_pow_pos 16)) _ _

theorem busy_invPopped (rest : List Inval) (s : State) : flag (invPopped rest s) F.XLT_INVSTAT.BUSY = true ↔ rest ≠ [] := by
  rw [invPopped, flag_setF_boolNat rfl rfl, decide_eq_true_eq]

/-- What serving who started an invalidation does not change: the invalidations that follow, the queues, and XLT_INVSTAT. -/
theorem invServed_frame (v : Inval) (rest : List Inval) (s : State) :
    (invServed v rest s).xlt.invs = s.xlt.invs ∧ (invServed v rest s).tq = s.tq ∧
      RegsButAll (.XLT_SEGSTAT :: .XLT_CTXSTAT :: eventRegs) s (invServed v rest s) := by
  unfold invServed
  split
  · exact ⟨rfl, rfl, RegsButAll.refl _ _⟩
  · exact ⟨by rw [setF_xlt], setF_tq .., RegsButAll.setF (by decide) _ _ _⟩
  · refine ⟨by rw [setF_xlt]; rfl, setF_tq .., ?_⟩
    refine RegsButAll.trans ?_ (RegsButAll.setF (f := F.XLT_CTXSTAT.BUSY) (by decide) _ _ _)
    exact RegsButAll.of_regs_eq rfl
  · split
    · exact ⟨rfl, rfl, RegsButAll.refl _ _⟩
    · refine ⟨congrArg XltState.invs (PostFrame.hostSend _ s).xlt, (PostFrame.hostSend _ s).tq, ?_⟩
      exact RegsButAll.mono (RegsButAll.hostSend _ _) (by simp +contextual)

theorem getF_of_regsButAll {l : List Reg} {s t : State} (h : RegsButAll l s t) {f : Fld} (hf : f.reg ∉ l) (i : Nat) :
    getF t f i = getF s f i := by rw [getF, h _ _ hf, getF]

theorem busy_seg_invServed {v : Inval} (h : v.who = .seg) (rest : List Inval) (s : State) :
    flag (invServed v rest s) F.XLT_SEGSTAT.BUSY = false := by
  rw [invServed, h]
  exact flag_setF_boolNat rfl rfl 0 false s

theorem segAt_released (asid n : Nat) (hn : n < 16) (s : State) : segAt (released asid s) asid n = {} := by
  show mapGet (s.xlt.segs.filter _) _ _ = _
  rw [mapGet_filter_key s.xlt.segs (fun k => k / 16 != asid), if_neg]
  simp
  omega

theorem unbound_invServed {v : Inval} (h : v.who = .unbind) (rest : List Inval) (s : State) :
    (ctxAt (invServed v rest s) v.asid).bound = false ∧ (ctxAt (invServed v rest s) v.asid).gen = (ctxAt s v.asid).gen ∧
      flag (invServed v rest s) F.XLT_CTXSTAT.BUSY = false ∧ ∀ n, n < 16 → segAt (invServed v rest s) v.asid n = {} := by
  have hctx : ctxAt (released v.asid s) v.asid = { gen := (ctxAt s v.asid).gen, binds := (ctxAt s v.asid).binds } :=
    mapGet_mapSet_same s.xlt.ctxs v.asid {} _
  rw [invServed, h]
  dsimp only
  rw [ctxAt_setF, hctx]
  exact ⟨rfl, rfl, flag_setF_boolNat rfl rfl 0 false _, fun n hn => by rw [segAt_setF, segAt_released _ _ hn]⟩

theorem invComplete_of_cons {s : State} {v : Inval} {rest : List Inval} (h : s.xlt.invs = v :: rest) :
    invComplete s = if invBlocked s v then s else invFinish s := by rw [invComplete, h]

theorem invTimeout_of_blocked {s : State} {v : Inval} {rest : List Inval} (h : s.xlt.invs = v :: rest)
    (hb : invBlocked s v = true) : invTimeout s
      = invFinish (post { code := Ev.XLT_INVABORT, asid := v.asid, d0 := Status.XLT_INVABORT }
          (setF F.XLT_INVSTAT.ABORTED 0 1
            ((oldHolders s v).foldl (fun u p => endInst p.1 p.2.1 p.2.2 Status.XLT_INVABORT true u) s))) := by
  simp only [invTimeout, h, hb]
  rfl

theorem invTimeout_of_free {s : State} {v : Inval} {rest : List Inval} (h : s.xlt.invs = v :: rest)
    (hb : invBlocked s v = false) : invTimeout s = s := by
  simp [invTimeout, h, hb]

/-! ### The host's invalidations (R263) -/

theorem atsInvalidate_of_none {f itag : Nat} {pasid : Option Nat} {s : State}
    (h : ∀ e ∈ s.xlt.ctxs, e.2.bound = true → e.2.func ≠ f) :
    atsInvalidate f pasid itag s = hostSend (.invDone f itag) s := by
  have hnone : ∀ (c : Nat × Ctx → Bool), (s.xlt.ctxs.filter (fun e => e.2.bound && e.2.func == f && c e)) = [] := fun c => by
    refine List.filter_eq_nil_iff.2 fun e he hb => ?_
    simp only [Bool.and_eq_true, beq_iff_eq] at hb
    exact h e he hb.1.1 hb.1.2
  unfold atsInvalidate
  dsimp only
  rw [hnone, List.map_nil, if_pos rfl]

theorem atsInvalidate_of_one {f itag p a : Nat} {s : State}
    (h : s.xlt.ctxs.filter (fun e => e.2.bound && e.2.func == f && (!isWindow e.1 && e.2.pasid == p)) = [(a, ctxAt s a)]) :
    atsInvalidate f (some p) itag s = invStart a (.ats f itag) s := by
  unfold atsInvalidate
  dsimp only
  rw [h]
  rfl

/-- Settles O23: the completion is `invPopped` and then `invServed`, by who started the invalidation. -/
theorem invalidations : Obligations.Invalidations := by
  refine ⟨fun asid s hopen => ⟨fun hbusy => ?_, fun hfree => ?_⟩, fun s v rest hinvs => ⟨fun hb => ?_, fun hb => ?_⟩,
    fun s v rest hclock hinvs => ⟨fun hb => ?_, fun hb => ?_⟩, fun f pasid itag s hclock => ⟨fun hnone => ?_, ?_⟩⟩
  · refine (next_onlyIf hopen _ s).trans (congrArg _ ?_)
    exact if_pos hbusy
  · refine .of_eq (t := xltInv asid.toNat s) (next_onlyIf hopen _ s) ?_
    rw [xltInv, hfree, if_neg Bool.false_ne_true]
    exact ⟨invStarted_invStart rfl rfl _, regsBut_invStart _ _ _⟩
  · show Host.Outcome.next (invComplete s) = _
    rw [invComplete_of_cons hinvs, if_pos hb]
  · refine .of_eq (t := invComplete s) rfl ?_
    rw [invComplete_of_cons hinvs, hb, if_neg Bool.false_ne_true, invFinish_of_cons hinvs]
    obtain ⟨hrest, htq, hregs⟩ := invServed_frame v rest (invPopped rest s)
    refine ⟨by rw [hrest, invPopped_xlt], ?_, ?_, fun hw => busy_seg_invServed hw .., fun hw => ?_, ?_, ?_⟩
    · rw [getF_of_regsButAll hregs (by decide), seq_invPopped]
    · rw [flag_congr (getF_of_regsButAll hregs (by decide) 0), busy_invPopped]
    · have hctx : ctxAt (invPopped rest s) v.asid = ctxAt s v.asid := by rw [ctxAt, invPopped_xlt, ctxAt]
      rw [← hctx]
      exact unbound_invServed hw ..
    · rw [htq, invPopped, setF_tq, setF_tq]
    · exact RegsButAll.trans (RegsButAll.mono (regsButAll_invPopped _ _) (by simp)) (RegsButAll.mono hregs (by simp +contextual))
  · exact (next_onlyIf hclock _ s).trans (congrArg _ (invTimeout_of_blocked hinvs hb))
  · exact (next_onlyIf hclock _ s).trans (congrArg _ (invTimeout_of_free hinvs hb))
  · exact (next_onlyIf hclock _ s).trans (congrArg _ (atsInvalidate_of_none hnone))
  · intro a p hp hwin hone
    subst hp
    refine .of_eq (t := invStart a (.ats f itag) s) ?_ (invStarted_invStart rfl rfl _)
    exact (next_onlyIf hclock _ s).trans (congrArg _ (atsInvalidate_of_one hone))

end Sys2Proof.Machine
end

section
/-! Translation with the host's help (R239-R248, R252). -/

namespace Sys2Proof.Machine

/-! ### What a waiting translation has come to -/

/-- The state in which a page, where there is one, has filled the caches and the request is gone. -/
def waitEnded (w : AtsWait) (p : Option Page) (s : State) : State :=
  match p with
  | some g => if w.what = .nobody then dropWait w.tag s else fillPage w g (dropWait w.tag s)
  | none => dropWait w.tag s

theorem waits_dropWait (tag : Nat) (s : State) :
    (dropWait tag s).xlt.waits = s.xlt.waits.filter (fun w => w.tag != tag) := rfl

theorem fillPage_frame (w : AtsWait) (p : Page) (s : State) :
    (fillPage w p s).tq = s.tq ∧ (fillPage w p s).regs = s.regs ∧ (fillPage w p s).xlt.waits = s.xlt.waits := by
  unfold fillPage
  dsimp only
  split
  · exact ⟨rfl, rfl, rfl⟩
  · exact ⟨rfl, rfl, rfl⟩

theorem waitEnded_frame (w : AtsWait) (p : Option Page) (s : State) : (waitEnded w p s).tq = s.tq ∧
    (waitEnded w p s).regs = s.regs ∧ (waitEnded w p s).xlt.waits = s.xlt.waits.filter (fun x => x.tag != w.tag) := by
  cases p with
  | none => exact ⟨rfl, rfl, rfl⟩
  | some g =>
    rw [waitEnded]
    split
    · exact ⟨rfl, rfl, rfl⟩
    · exact fillPage_frame w g (dropWait w.tag s)

theorem queueAt_congr {s t : State} (h : t.tq = s.tq) (q : Nat) : queueAt t q = queueAt s q := by rw [queueAt, h, queueAt]

@[simp] theorem queueAt_setQueue_same (q : Nat) (x : TQueue) (s : State) : queueAt (setQueue q x s) q = x :=
  mapGet_mapSet_same s.tq.queues q {} x

theorem queueAt_setQueue_ne {p q : Nat} (h : p ≠ q) (x : TQueue) (s : State) : queueAt (setQueue q x s) p = queueAt s p :=
  mapGet_mapSet_ne s.tq.queues {} x {} h

theorem pageResult_eq (w : AtsWait) (p : Option Page) (code : Nat) (s : State) : pageResult w p code s =
    match w.what with
    | .advise | .nobody => waitEnded w p s
    | .redo =>
      if ((queueAt (waitEnded w p s) w.queue).running.map (fun b => (b.first, b.seq.dseq))) = some w.job then
        setQueue w.queue { queueAt (waitEnded w p s) w.queue with
          regot := (queueAt (waitEnded w p s) w.queue).regot ++ [gotOf w p code] } (waitEnded w p s)
      else waitEnded w p s
    | .batch =>
      match (queueAt (waitEnded w p s) w.queue).fetch with
      | none => waitEnded w p s
      | some f => batchGo w.queue (setQueue w.queue { queueAt (waitEnded w p s) w.queue with
          fetch := some { f with got := f.got ++ [gotOf w p code] } } (waitEnded w p s)) := rfl

theorem pageResult_of_redo {w : AtsWait} (hw : w.what = .redo) (p : Option Page) (code : Nat) (s : State) :
    pageResult w p code s =
      if ((queueAt s w.queue).running.map (fun b => (b.first, b.seq.dseq))) = some w.job then
        setQueue w.queue { queueAt s w.queue with regot := (queueAt s w.queue).regot ++ [gotOf w p code] } (waitEnded w p s)
      else waitEnded w p s := by
  rw [← queueAt_congr (waitEnded_frame w p s).1, pageResult_eq, hw]

theorem pageResult_of_unused {w : AtsWait} (hw : w.what = .advise ∨ w.what = .nobody) (p : Option Page) (code : Nat)
    (s : State) : pageResult w p code s = waitEnded w p s := by
  rw [pageResult_eq]
  rcases hw with hw | hw <;> rw [hw]

/-- Outside a batch's fetch, what a translation has come to changes no register and ends its own request only. -/
theorem pageResult_frame {w : AtsWait} (hw : w.what ≠ .batch) (p : Option Page) (code : Nat) (s : State) :
    (pageResult w p code s).regs = s.regs ∧
      (pageResult w p code s).xlt.waits = s.xlt.waits.filter (fun x => x.tag != w.tag) := by
  obtain ⟨-, hregs, hwaits⟩ := waitEnded_frame w p s
  cases hwhat : w.what with
  | batch => exact absurd hwhat hw
  | advise => rw [pageResult_of_unused (.inl hwhat)]; exact ⟨hregs, hwaits⟩
  | nobody => rw [pageResult_of_unused (.inr hwhat)]; exact ⟨hregs, hwaits⟩
  | redo =>
    rw [pageResult_of_redo hwhat]
    split
    · exact ⟨hregs, hwaits⟩
    · exact ⟨hregs, hwaits⟩

/-! ### Completions (R240-R245) -/

theorem atsCompletion_of_wait {tag : Nat} {w : AtsWait} {s : State} (h : waitAtTag s tag = some w) (hpri : w.pri = false)
    (hgen : w.gen = (ctxAt s w.asid).gen) (ok : Bool) (addr size : Nat) (r wr : Bool) :
    atsCompletion tag ok addr size r wr s =
      if !ok then pageResult w none Refuse.XLT_ATS s
      else if size < 30 then pageResult w none Refuse.XLT_PAGESIZE s
      else if grants (completedPage s w.page addr (2 ^ size) r wr).perms w.acc then
        pageResult w (some (completedPage s w.page addr (2 ^ size) r wr)) 0 s
      else match lackCode s w.asid w.again with
        | some code => pageResult w none code s
        | none => pageRequest w s := by
  simp only [atsCompletion, h, hpri, hgen, ne_eq, not_true_eq_false, Bool.false_eq_true, if_false] <;> rfl

theorem lackCode_eq (s : State) (asid : Nat) (again : Bool) : lackCode s asid again =
    if again then some Refuse.XLT_PERM
    else if (ctxAt s asid).priEn && mapGet s.xlt.priAlloc (ctxAt s asid).func 0 != 0 then none
    else some Refuse.XLT_PRI := rfl

/-! ### Page requests (R245-R248) -/

theorem priRelease_of_none_held {s : State} (h : ∀ x ∈ s.xlt.waits, x.held = false) (fuel f : Nat) :
    priRelease fuel f s = s := by
  cases fuel with
  | zero => rfl
  | succ fuel =>
    have hnone : s.xlt.waits.find? (fun w => w.held && w.func == f) = none :=
      List.find?_eq_none.2 fun x hx => by simp [h x hx]
    rw [priRelease, hnone]

theorem none_held_of_filter {s t : State} {p : AtsWait → Bool} (h : ∀ x ∈ s.xlt.waits, x.held = false)
    (ht : t.xlt.waits = s.xlt.waits.filter p) : ∀ x ∈ t.xlt.waits, x.held = false := by
  intro x hx
  rw [ht] at hx
  exact h x (List.mem_filter.1 hx).1

theorem prgResponse_of_wait {tag : Nat} {w : AtsWait} {s : State} (h : waitAtTag s tag = some w) (hpri : w.pri = true)
    (hheld : w.held = false) :
    prgResponse tag 0 s = priRelease ((repeatAts w true s).xlt.waits.length + 1) w.func (repeatAts w true s) := by
  simp only [prgResponse, h, hpri, hheld, Bool.not_true, Bool.or_self, Bool.false_eq_true, if_false, if_true]

/-- Page requests are off for a function (R247). -/
def priOff (w : AtsWait) (s : State) : State :=
  { s with xlt := { s.xlt with priAlloc := mapDel s.xlt.priAlloc w.func } }

theorem prgResponse_of_failure {tag : Nat} {w : AtsWait} {s : State} (h : waitAtTag s tag = some w) (hpri : w.pri = true)
    (hheld : w.held = false) : ∃ fuel, prgResponse tag 15 s = priRelease fuel w.func
      (post { code := Ev.XLT_PRIOFF, asid := w.asid, inst := w.func } (priOff w (pageResult w none Refuse.XLT_PRI s))) := by
  refine ⟨(post { code := Ev.XLT_PRIOFF, asid := w.asid, inst := w.func }
    (priOff w (pageResult w none Refuse.XLT_PRI s))).xlt.waits.length + 1, ?_⟩
  simp only [prgResponse, h, hpri, hheld, Bool.not_true, Bool.or_self, Bool.false_eq_true, if_false, if_true,
    show ¬ (15 = 0) by decide, priOff]

theorem priTimeout_of_wait {tag : Nat} {w : AtsWait} {s : State} (h : waitAtTag s tag = some w) (hpri : w.pri = true)
    (hheld : w.held = false) : ∃ fuel, priTimeout tag s = priRelease fuel w.func (pageResult w none Refuse.XLT_PRI s) := by
  refine ⟨(pageResult w none Refuse.XLT_PRI s).xlt.waits.length + 1, ?_⟩
  simp only [priTimeout, h, hpri, hheld, Bool.not_true, Bool.or_self, Bool.false_eq_true, if_false]

/-- The host's allocation for a function (R248). -/
def priAllotted (f alloc : Nat) (s : State) : State :=
  { s with xlt := { s.xlt with priAlloc := mapSet s.xlt.priAlloc f 0 (min alloc 512) } }

theorem priEnable_eq (f alloc : Nat) (s : State) :
    priEnable f alloc s = priRelease ((priAllotted f alloc s).xlt.waits.length + 1) f (priAllotted f alloc s) := rfl

theorem none_held_priAllotted {s : State} (h : ∀ x ∈ s.xlt.waits, x.held = false) (f alloc : Nat) :
    ∀ x ∈ (priAllotted f alloc s).xlt.waits, x.held = false := h

theorem waits_sendAts (w : AtsWait) (s : State) :
    (sendAts w s).xlt.waits = s.xlt.waits ++ [{ w with tag := s.xlt.nextTag }] := by
  rw [sendAts, (PostFrame.hostSend _ _).xlt, bump_xlt]

/-- The registers that a request to the host counts in. -/
theorem getReg_hostSend_of_notDma {r : Reg} (hlo : r ≠ .PCI_DMAWR_LO) (hhi : r ≠ .PCI_DMAWR_HI) (q : HostReq) (i : Nat)
    (s : State) : getReg (hostSend q s) r i = getReg s r i := by
  unfold hostSend
  split
  · split
    · rw [hostEmit, add64, set64, getReg_setReg, if_neg (by simp [hhi]), getReg_setReg, if_neg (by simp [hlo])]
      rfl
    · rfl
  · rfl

theorem regsButAll_hostSend (q : HostReq) (s : State) : RegsButAll [.PCI_DMAWR_LO, .PCI_DMAWR_HI] s (hostSend q s) :=
  fun r i hr => getReg_hostSend_of_notDma (fun h => hr (by simp [h])) (fun h => hr (by simp [h])) q i s

theorem regsButAll_sendAts (w : AtsWait) (s : State) :
    RegsButAll [.XLT_ATSREQ, .PCI_DMAWR_LO, .PCI_DMAWR_HI] s (sendAts w s) := by
  refine RegsButAll.trans ?_ (RegsButAll.mono (regsButAll_hostSend _ _) (by simp))
  refine RegsButAll.trans ?_ (RegsButAll.bump (f := F.XLT_ATSREQ.COUNT) (by decide) _ _)
  exact RegsButAll.of_regs_eq rfl

/-- Another translation waits for the host under the next tag. -/
def waitAdded (w : AtsWait) (s : State) : State :=
  { s with xlt := { s.xlt with waits := s.xlt.waits ++ [{ w with tag := s.xlt.nextTag }], nextTag := s.xlt.nextTag + 1 } }

theorem getF_waitAdded (w : AtsWait) (s : State) (f : Fld) (i : Nat) : getF (waitAdded w s) f i = getF s f i := rfl

theorem sendAts_eq (w : AtsWait) (s : State) : sendAts w s =
    hostSend (.ats s.xlt.nextTag w.func w.pasid (BitVec.ofNat 64 (w.page * 2 ^ 30)) w.noWrite)
      (bump F.XLT_ATSREQ.COUNT 0 (waitAdded w s)) := rfl

theorem atsreq_sendAts (w : AtsWait) (s : State) :
    getF (sendAts w s) F.XLT_ATSREQ.COUNT = min (getF s F.XLT_ATSREQ.COUNT + 1) (2 ^ 32 - 1) := by
  rw [sendAts_eq, getF_of_regsButAll (regsButAll_hostSend _ _) (by decide), getF_bump_of_width (w := 32) rfl rfl,
    getF_waitAdded]

theorem repeatAts_of_bound {w : AtsWait} {s : State} (hw : w.what ≠ .nobody) (hb : (ctxAt s w.asid).bound = true)
    (hf : (ctxAt s w.asid).func = w.func) (hp : (ctxAt s w.asid).pasid = w.pasid) : repeatAts w true s =
      sendAts { w with pri := false, held := false, again := true, gen := (ctxAt s w.asid).gen } (dropWait w.tag s) := by
  rw [repeatAts, if_neg]
  simp [hw, hb, hf, hp]

theorem repeatAts_of_nobody {w : AtsWait} (hw : w.what = .nobody) (again : Bool) (s : State) :
    repeatAts w again s = dropWait w.tag s := by
  rw [repeatAts]
  exact if_pos (.inl hw)

/-- Settles O24: a completion through its equation, and `pageResult` by what waits; with nothing held, `priRelease` does
nothing. -/
theorem hostTranslations : Obligations.HostTranslations := by
  refine ⟨fun tag ok addr size r wr w s hclock hwait hpri hgen => ?_, fun w p code s hw => ⟨fun hjob => ?_, fun hjob => ?_, ?_⟩,
    fun tag w s hclock hwait hpri => ?_,
    fun tag w s hclock hwait hpri hheld hnone hbatch => ⟨fun hwhat hb hf hp => ?_, fun hwhat => ?_, ?_, ?_⟩,
    fun f alloc s hclock hnone => ?_⟩
  · have hexec : exec (.atsTranslationCompletion tag ok addr size r wr) s
        = .next (atsCompletion tag ok addr.toNat size r wr s) := next_onlyIf hclock _ s
    rw [hexec, atsCompletion_of_wait hwait hpri hgen]
    refine ⟨fun hok => by simp [hok], fun hok hsize => by simp [hok, hsize], fun hok hsize hgrants => ?_,
      fun hok hsize hgrants => ?_⟩
    · simp [hok, Nat.not_lt.2 hsize, hgrants]
    · rw [lackCode_eq]
      simp only [hok, Nat.not_lt.2 hsize, hgrants, Bool.not_true, Bool.false_eq_true, if_false]
      cases w.again with
      | true => rfl
      | false =>
        by_cases hreq : (ctxAt s w.asid).priEn = true ∧ mapGet s.xlt.priAlloc (ctxAt s w.asid).func 0 ≠ 0
        · simp [hreq]
        · simp only [hreq, Bool.false_eq_true, if_false]
          rw [if_neg (by simpa using hreq)]
  · rw [pageResult_of_redo hw, if_pos hjob, queueAt_setQueue_same]
  · rw [pageResult_of_redo hw, if_neg hjob, queueAt_congr (waitEnded_frame w p s).1]
  · exact (pageResult_frame (by rw [hw]; decide) p code s).symm
  · refine (next_onlyIf hclock _ s).trans (congrArg _ ?_)
    simp [atsTimeout, hwait, hpri]
  · refine .of_eq (t := prgResponse tag 0 s) (next_onlyIf hclock _ s) ?_
    have hwaits := waits_sendAts { w with pri := false, held := false, again := true, gen := (ctxAt s w.asid).gen }
      (dropWait w.tag s)
    have hfree : ∀ x ∈ (repeatAts w true s).xlt.waits, x.held = false := by
      rw [repeatAts_of_bound hwhat hb hf hp, hwaits]
      intro x hx
      rcases List.mem_append.1 hx with hx | hx
      · exact hnone x (List.mem_filter.1 hx).1
      · rw [List.mem_singleton.1 hx]
    rw [prgResponse_of_wait hwait hpri hheld, priRelease_of_none_held hfree, repeatAts_of_bound hwhat hb hf hp]
    exact ⟨hwaits, atsreq_sendAts .., regsButAll_sendAts _ _⟩
  · refine (next_onlyIf hclock _ s).trans (congrArg _ ?_)
    show prgResponse tag 0 s = _
    rw [prgResponse_of_wait hwait hpri hheld, repeatAts_of_nobody hwhat,
      priRelease_of_none_held (none_held_of_filter hnone (waits_dropWait ..))]
  · refine .of_eq (t := prgResponse tag 15 s) (next_onlyIf hclock _ s) ?_
    obtain ⟨hregs, hwaits⟩ := pageResult_frame hbatch none Refuse.XLT_PRI s
    obtain ⟨fuel, heq⟩ := prgResponse_of_failure hwait hpri hheld
    rw [heq, priRelease_of_none_held (none_held_of_filter hnone (by rw [post_xlt]; exact hwaits)), post_xlt]
    refine ⟨mapGet_mapDel_same .., hwaits, RegsButAll.trans ?_ (RegsButAll.post _ _)⟩
    exact RegsButAll.of_regs_eq hregs
  · refine .of_eq (t := priTimeout tag s) (next_onlyIf hclock _ s) ?_
    obtain ⟨-, hwaits⟩ := pageResult_frame hbatch none Refuse.XLT_PRI s
    obtain ⟨fuel, heq⟩ := priTimeout_of_wait hwait hpri hheld
    rw [heq, priRelease_of_none_held (none_held_of_filter hnone hwaits)]
  · refine .of_eq (t := priEnable f alloc.toNat s) (next_onlyIf hclock _ s) ?_
    rw [priEnable_eq, priRelease_of_none_held (none_held_priAllotted hnone f.val alloc.toNat)]
    exact ⟨mapGet_mapSet_same .., rfl, rfl⟩

end Sys2Proof.Machine
end

section
/-! What sending changes: to the host, over a Tideway link, on a Shoreline port. Beyond the state of the links, the ports, the
host port and the event rings it changes only the registers that count what was sent. -/

namespace Sys2Proof.Machine

/-- The registers that sending changes: those of posting, the counted misses, and the frames sent. -/
def sendReg (r : Reg) : Bool :=
  match r with
  | .QOS_MISS | .QOS_MISSOVR | .TWY_TXFR_LO | .TWY_TXFR_HI => true
  | r => postReg r

/-- Two states agree on everything that sending leaves alone. -/
structure SendFrame (s t : State) : Prop where
  reg : ∀ r i, sendReg r = false → getReg t r i = getReg s r i
  time : t.time = s.time
  free : t.free = s.free
  pending : t.pending = s.pending
  msh : t.msh = s.msh
  reef : t.reef = s.reef
  mem : t.mem = s.mem
  hld : t.hld = s.hld
  xlt : t.xlt = s.xlt
  tq : t.tq = s.tq
  bead : t.bead = s.bead
  hbl : t.hbl = s.hbl
  brk : t.brk = s.brk
  fwu : t.fwu = s.fwu
  rst : t.rst = s.rst
  ready : t.evt.ready = s.evt.ready
  unmasked : t.pci.unmasked = s.pci.unmasked
  vfEn : t.pci.vfEn = s.pci.vfEn
  shadow : t.pci.shadow = s.pci.shadow
  loHeld : t.pci.loHeld = s.pci.loHeld
  nextTag : t.pci.nextTag = s.pci.nextTag

theorem postReg_of_sendReg {r : Reg} (h : sendReg r = false) : postReg r = false := by
  unfold sendReg at h
  split at h
  · cases h
  · cases h
  · cases h
  · cases h
  · exact h

namespace SendFrame

theorem refl (s : State) : SendFrame s s := by constructor <;> intros <;> rfl

theorem trans {s t u : State} (h : SendFrame s t) (k : SendFrame t u) : SendFrame s u where
  reg r i e := (k.reg r i e).trans (h.reg r i e)
  time := k.time.trans h.time
  free := k.free.trans h.free
  pending := k.pending.trans h.pending
  msh := k.msh.trans h.msh
  reef := k.reef.trans h.reef
  mem := k.mem.trans h.mem
  hld := k.hld.trans h.hld
  xlt := k.xlt.trans h.xlt
  tq := k.tq.trans h.tq
  bead := k.bead.trans h.bead
  hbl := k.hbl.trans h.hbl
  brk := k.brk.trans h.brk
  fwu := k.fwu.trans h.fwu
  rst := k.rst.trans h.rst
  ready := k.ready.trans h.ready
  unmasked := k.unmasked.trans h.unmasked
  vfEn := k.vfEn.trans h.vfEn
  shadow := k.shadow.trans h.shadow
  loHeld := k.loHeld.trans h.loHeld
  nextTag := k.nextTag.trans h.nextTag

theorem of_postFrame {s t : State} (h : PostFrame s t) : SendFrame s t where
  reg r i e := h.reg r i (postReg_of_sendReg e)
  time := h.time
  free := h.free
  pending := h.pending
  msh := h.msh
  reef := h.reef
  mem := h.mem
  hld := h.hld
  xlt := h.xlt
  tq := h.tq
  bead := h.bead
  hbl := h.hbl
  brk := h.brk
  fwu := h.fwu
  rst := h.rst
  ready := h.ready
  unmasked := h.unmasked
  vfEn := h.vfEn
  shadow := h.shadow
  loHeld := h.loHeld
  nextTag := h.nextTag

theorem setReg (r : Reg) (i : Nat) (v : BitVec 32) (s : State) (h : sendReg r = true) :
    SendFrame s (Machine.setReg r i v s) := by
  constructor <;> intros <;> try rfl
  rename_i q j hq
  rw [getReg_setReg, if_neg]
  rintro ⟨rfl, -⟩
  simp [h] at hq

theorem setF (f : Fld) (i v : Nat) (s : State) (h : sendReg f.reg = true) : SendFrame s (Machine.setF f i v s) :=
  setReg _ _ _ _ h

theorem bump (f : Fld) (i : Nat) (s : State) (h : sendReg f.reg = true) : SendFrame s (Machine.bump f i s) :=
  setReg _ _ _ _ h

theorem out (s : State) (l : List Out) : SendFrame s { s with out := l } := by constructor <;> intros <;> rfl

theorem qos (s : State) (q : QosState) : SendFrame s { s with qos := q } := by constructor <;> intros <;> rfl

theorem twy (s : State) (x : TwyState) : SendFrame s { s with twy := x } := by constructor <;> intros <;> rfl

theorem setLink (n : Nat) (l : TwyLink) (s : State) : SendFrame s (Machine.setLink n l s) := twy s _

theorem setPort (p : Nat) (x : ShlPort) (s : State) : SendFrame s (Machine.setPort p x s) := by
  constructor <;> intros <;> rfl

/-- A fold of steps that each keep the frame keeps it. -/
theorem foldl {α : Type} (g : State → α → State) (h : ∀ u a, SendFrame u (g u a)) (l : List α) (s : State) :
    SendFrame s (l.foldl g s) := by
  induction l generalizing s with
  | nil => exact refl s
  | cons a l ih => exact (h s a).trans (ih (g s a))

theorem post (e : EvArgs) (s : State) : SendFrame s (Machine.post e s) := of_postFrame (.post e s)

theorem hostSend (r : HostReq) (s : State) : SendFrame s (Machine.hostSend r s) := of_postFrame (.hostSend r s)

theorem hostEmit (r : HostReq) (s : State) : SendFrame s (Machine.hostEmit r s) := of_postFrame (.hostEmit r s)

theorem raiseVec (v : Nat) (s : State) : SendFrame s (Machine.raiseVec v s) := of_postFrame (.raiseVec v s)

/-! ### Regulation and the host port -/

theorem takeTokens (r j c : Nat) (s : State) : SendFrame s (Machine.takeTokens r j c s) := qos s _

theorem takeSectors (r j c n : Nat) (s : State) : SendFrame s (Machine.takeSectors r j c n s) := qos s _

theorem qosPick (r j : Nat) (l : List QReq) (s : State) : SendFrame s (Machine.qosPick r j l s).2 := by
  obtain ⟨q, hq⟩ := qosPick_snd r j l s
  rw [hq]
  exact qos s q

theorem countMiss (r : Nat) (q : QReq) (held acting : Bool) (s : State) :
    SendFrame s (Machine.countMiss r q held acting s) := by
  unfold Machine.countMiss
  dsimp only
  split
  · have h := (bump F.QOS_MISS.COUNT (16 * r + q.cls) s rfl).trans (qos _ { (Machine.bump F.QOS_MISS.COUNT (16 * r + q.cls) s).qos with
      winMiss := mapSet (Machine.bump F.QOS_MISS.COUNT (16 * r + q.cls) s).qos.winMiss (16 * r + q.cls) 0
        (mapGet (Machine.bump F.QOS_MISS.COUNT (16 * r + q.cls) s).qos.winMiss (16 * r + q.cls) 0 + 1)
      winOver := mapSet (Machine.bump F.QOS_MISS.COUNT (16 * r + q.cls) s).qos.winOver (16 * r + q.cls) false
        (mapGet (Machine.bump F.QOS_MISS.COUNT (16 * r + q.cls) s).qos.winOver (16 * r + q.cls) false || acting) })
    split
    · exact h.trans (bump F.QOS_MISSOVR.COUNT _ _ rfl)
    · exact h
  · exact refl s

theorem hostPump (fuel : Nat) (s : State) : SendFrame s (Machine.hostPump fuel s) := by
  induction fuel generalizing s with
  | zero => exact refl s
  | succ fuel ih =>
    unfold Machine.hostPump
    split
    · exact refl s
    · split
      · exact (qos s _).trans ((hostEmit _ _).trans (ih _))
      · dsimp only
        have hpick := qosPick 2 0 ((List.range (s.qos.host.takeWhile (fun v => v.cls.isSome)).length).filterMap (fun i =>
          ((s.qos.host.takeWhile (fun v => v.cls.isSome))[i]?).map (fun v =>
            ({ cls := v.cls.getD 0, arr := v.arr, idx := i } : QReq)))) s
        split
        · exact hpick
        · split
          · exact hpick
          · refine trans ?_ (ih _)
            refine trans ?_ (hostEmit _ _)
            refine trans ?_ (takeSectors _ _ _ _ _)
            exact (hpick.trans (qos _ _)).trans (countMiss _ _ _ _ _)

theorem hostDma (share mark : Nat) (r : HostReq) (s : State) : SendFrame s (Machine.hostDma share mark r s) := by
  unfold Machine.hostDma
  split
  · exact (qos s _).trans (hostPump _ _)
  · exact hostSend r s

/-! ### Tideway links -/

theorem takeSlot (n i : Nat) (s : State) : SendFrame s (Machine.takeSlot n i s).1 := by
  unfold Machine.takeSlot
  dsimp only
  split
  · exact refl s
  · split
    · exact (setLink _ _ _).trans (takeTokens _ _ _ _)
    · exact setLink _ _ _

theorem nextPlain (n : Nat) (s : State) : SendFrame s (Machine.nextPlain n s).2 := by
  unfold Machine.nextPlain
  dsimp only
  split
  · exact refl s
  · split
    · exact refl s
    · split
      · exact refl s
      · split
        · exact refl s
        · rename_i hpick
          have h := qosPick 1 n ((readyTx (linkAt s n)).filterMap (fun i => ((linkAt s n).txq[i]?).map (fun t =>
            ({ cls := twyClass s t.msg, arr := t.arr, idx := i } : QReq)))) s
          rw [hpick] at h
          exact h.trans (countMiss _ _ _ _ _)

theorem fillSlots (fuel n room : Nat) (s : State) (acc : List (Nat × BitVec 544)) :
    SendFrame s (Machine.fillSlots fuel n room s acc).2 := by
  induction fuel generalizing room s acc with
  | zero => exact refl s
  | succ fuel ih =>
    unfold Machine.fillSlots
    split
    · exact (takeSlot n _ s).trans ((takeSlot n _ _).trans (ih _ _ _))
    · split
      · exact refl s
      · have hplain := nextPlain n s
        split
        · exact refl s
        · rename_i hnext
          rw [hnext] at hplain
          exact hplain.trans ((takeSlot n _ _).trans (ih _ _ _))

theorem add64 (lo hi : Reg) (i n : Nat) (s : State) (hlo : sendReg lo = true) (hhi : sendReg hi = true) :
    SendFrame s (Machine.add64 lo hi i n s) := by
  unfold Machine.add64 set64
  exact (setReg lo _ _ _ hlo).trans (setReg hi _ _ _ hhi)

theorem sendFrame (n : Nat) (slots : List (Nat × BitVec 544)) (nak swap : Bool) (l : TwyLink) (s : State) :
    SendFrame s (Machine.sendFrame n slots nak swap l s) := by
  unfold Machine.sendFrame
  exact (setLink _ _ _).trans ((out _ _).trans (add64 _ _ _ _ _ rfl rfl))

theorem twyPump (fuel n : Nat) (s : State) : SendFrame s (Machine.twyPump fuel n s) := by
  induction fuel generalizing s with
  | zero => exact refl s
  | succ fuel ih =>
    unfold Machine.twyPump
    split
    · exact refl s
    · have hfill := fillSlots 3 n 3 s []
      dsimp only
      split
      · exact refl s
      · exact hfill.trans ((sendFrame _ _ _ _ _ _).trans (ih _))

theorem twyFlush (n : Nat) (s : State) : SendFrame s (Machine.twyFlush n s) := twyPump _ _ _

theorem twyNull (n : Nat) (nak : Bool) (s : State) : SendFrame s (Machine.twyNull n nak s) := by
  unfold Machine.twyNull
  dsimp only
  split
  · exact refl s
  · exact sendFrame _ _ _ _ _ _

theorem twyOn (n : Nat) (m : TwyMsg) (s : State) : SendFrame s (Machine.twyOn n m s) := by
  unfold Machine.twyOn
  exact (setLink _ _ _).trans (twyFlush _ _)

theorem twySend (m : TwyMsg) (s : State) : SendFrame s (Machine.twySend m s) := by
  unfold Machine.twySend
  dsimp only
  split
  · exact twy s _
  · split
    · exact twy s _
    · split
      · exact twy s _
      · exact twyOn _ _ _

theorem twyRetry (s : State) : SendFrame s (Machine.twyRetry s) := by
  unfold Machine.twyRetry
  exact (twy s _).trans (foldl _ (fun u m => twySend m u) _ _)

theorem linkHand (n : Nat) (s : State) : SendFrame s (Machine.linkHand n s) := by
  unfold Machine.linkHand
  dsimp only
  split
  · exact refl s
  · exact (setLink _ _ _).trans (foldl _ (fun u m => twySend m u) _ _)

/-! ### Shoreline ports -/

theorem shlSendFrame (p : Nat) (slots : List (BitVec 640)) (nak : Bool) (x : ShlPort) (s : State) :
    SendFrame s (Machine.shlSendFrame p slots nak x s) := by
  unfold Machine.shlSendFrame
  exact (setPort _ _ _).trans (out _ _)

theorem shlPump (fuel p : Nat) (s : State) : SendFrame s (Machine.shlPump fuel p s) := by
  induction fuel generalizing s with
  | zero => exact refl s
  | succ fuel ih =>
    unfold Machine.shlPump
    dsimp only
    split
    · exact refl s
    · split
      · exact refl s
      · exact (shlSendFrame _ _ _ _ _).trans (ih _)

theorem shlFlush (p : Nat) (s : State) : SendFrame s (Machine.shlFlush p s) := shlPump _ _ _

theorem shlNull (p : Nat) (nak : Bool) (s : State) : SendFrame s (Machine.shlNull p nak s) := by
  unfold Machine.shlNull
  dsimp only
  split
  · exact refl s
  · exact shlSendFrame _ _ _ _ _

theorem shlSend (p vc : Nat) (slot : BitVec 640) (s : State) : SendFrame s (Machine.shlSend p vc slot s) := by
  unfold Machine.shlSend
  exact (setPort _ _ _).trans (shlFlush _ _)

theorem shlWatchFire (i v : Nat) (s : State) : SendFrame s (Machine.shlWatchFire i v s) := by
  unfold Machine.shlWatchFire
  refine foldl _ (fun u p => ?_) _ _
  dsimp only
  split
  · exact (setPort _ _ _).trans (foldl _ (fun t w => shlSend _ _ _ _) _ _)
  · exact foldl _ (fun t w => shlSend _ _ _ _) _ _

theorem getF {s t : State} (h : SendFrame s t) {f : Fld} (hf : sendReg f.reg = false) (i : Nat) :
    Machine.getF t f i = Machine.getF s f i := by rw [Machine.getF, h.reg _ _ hf, Machine.getF]

theorem get64 {s t : State} (h : SendFrame s t) {lo hi : Reg} (hlo : sendReg lo = false) (hhi : sendReg hi = false)
    (i : Nat) : Machine.get64 t lo hi i = Machine.get64 s lo hi i := by
  rw [Machine.get64, h.reg _ _ hlo, h.reg _ _ hhi, Machine.get64]

end SendFrame

end Sys2Proof.Machine
end

section
/-! Queues as a table, and the queue commands (R284-R287, R334, R350). -/

namespace Sys2Proof.Machine

/-! ### Queues as a table -/

@[simp] theorem queueAt_setF (f : Fld) (i v : Nat) (s : State) (q : Nat) : queueAt (setF f i v s) q = queueAt s q :=
  queueAt_congr (setF_tq ..) q

theorem regs_setQueue (q : Nat) (x : TQueue) (s : State) : (setQueue q x s).regs = s.regs := rfl

theorem regs_dropFetch (q : Nat) (s : State) : (dropFetch q s).regs = s.regs := rfl

theorem queueAt_dropFetch_same (q : Nat) (s : State) : queueAt (dropFetch q s) q =
    { queueAt s q with fetch := none, batches := (queueAt s q).batches.filter (fun b => b.accepted) } :=
  mapGet_mapSet_same s.tq.queues q {} _

theorem queueAt_dropFetch_ne {p q : Nat} (h : p ≠ q) (s : State) : queueAt (dropFetch q s) p = queueAt s p :=
  mapGet_mapSet_ne s.tq.queues {} _ {} h

theorem queueAt_dropWaits (mine : AtsWait → Bool) (s : State) (q : Nat) : queueAt (dropWaits mine s) q = queueAt s q := rfl

/-! ### No batch is held, no record is due -/

/-- No queue holds back a checked batch (R463). -/
def NoneHeld (s : State) : Prop := ∀ p f, (queueAt s p).fetch = some f → f.held = false

theorem NoneHeld.of_queue {s t : State} {q : Nat} (h : NoneHeld s) (hq : (queueAt t q).fetch = none)
    (hne : ∀ p, p ≠ q → queueAt t p = queueAt s p) : NoneHeld t := by
  intro p f hf
  by_cases hp : p = q
  · rw [hp, hq] at hf
    cases hf
  · rw [hne p hp] at hf
    exact h p f hf

theorem unhold_of_noneHeld {s : State} (h : NoneHeld s) : unhold s = s := by
  refine foldl_of_fixed fun q _ => ?_
  cases hf : (queueAt s q).fetch with
  | none => rfl
  | some f => simp [h q f hf]

theorem settle_of_no_batches {q : Nat} {s : State} (h : (queueAt s q).batches = []) : settle q s = s := by
  simp [settle, TQueue.work, h, emitLoop, emitOne]

theorem startFetch_of_no_tails {q : Nat} {s : State} (h : (queueAt s q).tails = []) : startFetch q s = s := by
  simp [startFetch, h]

/-! ### The report of a queue command -/

@[simp] theorem queueAt_qErr (e : Nat) (s : State) (q : Nat) : queueAt (qErr e s) q = queueAt s q := by
  rw [qErr, queueAt_setF, queueAt_setF]

theorem err_qErr {e : Nat} (h : e < 16) (s : State) : getF (qErr e s) F.TQ_QSTAT.ERR = e := getF_setF_of_lt rfl h _ _

theorem busy_qErr (e : Nat) (s : State) : getF (qErr e s) F.TQ_QSTAT.BUSY = 0 := by
  rw [qErr, getF_setF_of_bits rfl (by decide)]
  exact getF_setF_of_lt rfl (by decide) _ _

theorem regsBut_qErr (e : Nat) (s : State) : RegsBut [(.TQ_QSTAT, 0)] s (qErr e s) :=
  RegsBut.trans (RegsBut.setF (f := F.TQ_QSTAT.BUSY) (i := 0) (by decide) 0 s)
    (RegsBut.setF (f := F.TQ_QSTAT.ERR) (i := 0) (by decide) e _)

/-- A queue command that ends with a report after a step that changes no register. -/
theorem regsBut_qErr_of_regs {s t : State} (h : t.regs = s.regs) (e : Nat) : RegsBut [(.TQ_QSTAT, 0)] s (qErr e t) :=
  RegsBut.trans (RegsBut.of_regs_eq h) (regsBut_qErr e t)

/-! ### Reading the descriptor (R350) -/

/-- Writes elements 0 to n-1 of a register. -/
def setAll (r : Reg) (g : Nat → BitVec 32) (n : Nat) (s : State) : State :=
  (List.range n).foldl (fun u j => setReg r j (g j) u) s

theorem setAll_succ (r : Reg) (g : Nat → BitVec 32) (n : Nat) (s : State) :
    setAll r g (n + 1) s = setReg r n (g n) (setAll r g n s) := by
  simp [setAll, List.range_succ]

theorem getReg_setAll (r : Reg) (g : Nat → BitVec 32) (n : Nat) (s : State) (q : Reg) (j : Nat) :
    getReg (setAll r g n s) q j = if q = r ∧ j < n then g j else getReg s q j := by
  induction n with
  | zero => simp [setAll]
  | succ n ih =>
    rw [setAll_succ, getReg_setReg, ih]
    by_cases hq : q = r
    · by_cases hj : j = n
      · simp [hq, hj]
      · have hlt : j < n + 1 ↔ j < n := by omega
        simp [hq, hj, hlt]
    · simp [hq]

theorem OnlyRegs.setAll (r : Reg) (g : Nat → BitVec 32) (n : Nat) (s : State) : OnlyRegs s (setAll r g n s) := by
  induction n with
  | zero => exact OnlyRegs.refl s
  | succ n ih =>
    rw [setAll_succ]
    exact OnlyRegs.trans ih (OnlyRegs.setReg ..)

theorem queueRead_eq (q : Nat) (s : State) : queueRead q s = qErr 0 (setF F.TQ_QSTAT.STATE 0 (queueAt s q).st
    (setAll .TQ_QD (fun j => BitVec.ofNat 32 ((queueAt s q).word j 0 32)) 16 s)) := rfl

theorem state_qErr (e : Nat) (s : State) : getF (qErr e s) F.TQ_QSTAT.STATE = getF s F.TQ_QSTAT.STATE := by
  rw [qErr, getF_setF_of_bits rfl (by decide), getF_setF_of_bits rfl (by decide)]

theorem onlyRegs_qErr (e : Nat) (s : State) : OnlyRegs s (qErr e s) := OnlyRegs.trans (OnlyRegs.setF ..) (OnlyRegs.setF ..)

/-! ### Journal entries while the area has room (R456, R462) -/

theorem jRoom_of_room {s : State} (h : jHead s < s.hbl.oldest + areaSize) (n : Nat) : jRoom n s = s := by
  cases n with
  | zero => rfl
  | succ n => rw [jRoom, if_pos h]

theorem tq_jMirror (e : BitVec 512) (s : State) : (jMirror e s).tq = s.tq := by
  unfold jMirror
  split
  · exact (SendFrame.twySend _ _).tq
  · rfl

theorem tq_jPut (mk : Nat → BitVec 512) (s : State) : (jPut mk s).tq = s.tq := by
  rw [jPut, tq_jMirror, set64_tq]

theorem tq_jAppend_of_room {s : State} (h : jHead s < s.hbl.oldest + areaSize) (queue kind count opnd : Nat)
    (body : List (Nat × Nat × Nat)) : (jAppend queue kind count opnd body s).tq = s.tq := by
  rw [jAppend, jRoom_of_room h]
  exact tq_jPut _ s

/-! ### The commands -/

theorem queueStart_of_stopped {q : Nat} {s : State} (h : (queueAt s q).st = 1) (htails : (queueAt s q).tails = []) :
    queueStart q s = qErr 0 (setQueue q { queueAt s q with st := 2 } s) := by
  have hfetch : startFetch q (setQueue q { queueAt s q with st := 2 } s) = setQueue q { queueAt s q with st := 2 } s :=
    startFetch_of_no_tails (by rw [queueAt_setQueue_same]; exact htails)
  rw [queueStart]
  dsimp only
  rw [if_neg (by simp [h]), if_neg (by simp [htails]), hfetch]

/-- A queue without batches that stops, with no batch held anywhere. -/
theorem queueStop_of_running {q : Nat} {s : State} (h : (queueAt s q).st = 2) (hnone : (queueAt s q).batches = [])
    (hheld : NoneHeld s) : ∃ t, queueStop q s = qErr 0 t ∧ queueAt t q = { queueAt s q with st := 1, fetch := none } ∧
      t.regs = s.regs := by
  have hdrop : queueAt (dropFetch q (setQueue q { queueAt s q with st := 4 } s)) q
      = { queueAt s q with st := 4, fetch := none, batches := [] } := by
    rw [queueAt_dropFetch_same, queueAt_setQueue_same, hnone, List.filter_nil]
  have hafter : afterBatch q 0 (dropFetch q (setQueue q { queueAt s q with st := 4 } s))
      = setQueue q { queueAt s q with st := 1, fetch := none, batches := [] }
          (dropFetch q (setQueue q { queueAt s q with st := 4 } s)) := by
    simp [afterBatch, hdrop]
  refine ⟨setQueue q { queueAt s q with st := 1, fetch := none, batches := [] }
    (dropFetch q (setQueue q { queueAt s q with st := 4 } s)), ?_, ?_, ?_⟩
  · rw [queueStop]
    dsimp only
    rw [if_neg (by simp [h]), hafter, unhold_of_noneHeld]
    refine hheld.of_queue (q := q) (by rw [queueAt_setQueue_same]) fun p hp => ?_
    rw [queueAt_setQueue_ne hp, queueAt_dropFetch_ne hp, queueAt_setQueue_ne hp]
  · rw [queueAt_setQueue_same, ← hnone]
  · rw [regs_setQueue, regs_dropFetch, regs_setQueue]

/-- A queue without batches that is aborted while the journal has room, with no batch held anywhere. -/
theorem queueAt_abortQueue {q cause : Nat} {s : State} (h : (queueAt s q).st = 2 ∨ (queueAt s q).st = 3 ∨ (queueAt s q).st = 4)
    (hnone : (queueAt s q).batches = []) (hroom : jHead s < s.hbl.oldest + areaSize) (hheld : NoneHeld s) :
    queueAt (abortQueue q cause s) q = { queueAt s q with
      tails := [], last := (queueAt s q).head, st := 1, regot := [], fetch := none, batches := [] } := by
  rw [abortQueue]
  dsimp only
  rw [if_pos h]
  generalize hs1 : jAppend q 0x09 0 0 [(12, 8, (queueAt s q).lowestOpen), (20, 1, cause)] s = s1
  have htq : s1.tq = s.tq := by rw [← hs1, tq_jAppend_of_room hroom]
  generalize hs2 : dropWaits (fun w => w.what == .redo && w.queue == q) (dropFetch q s1) = s2
  have hq2 : queueAt s2 q = { queueAt s q with fetch := none, batches := [] } := by
    rw [← hs2, queueAt_dropWaits, queueAt_dropFetch_same, queueAt_congr htq, hnone, List.filter_nil]
  have hne2 : ∀ p, p ≠ q → queueAt s2 p = queueAt s p := fun p hp => by
    rw [← hs2, queueAt_dropWaits, queueAt_dropFetch_ne hp, queueAt_congr htq]
  rw [hq2, queueAt_setQueue_same]
  dsimp only [List.foldl_nil]
  rw [settle_of_no_batches (by rw [queueAt_setQueue_same]), unhold_of_noneHeld, queueAt_setQueue_same]
  refine hheld.of_queue (q := q) (by rw [queueAt_setQueue_same]) fun p hp => ?_
  rw [queueAt_setQueue_ne hp, hne2 p hp]

theorem tq_destroyQueue (q : Nat) (s : State) : (destroyQueue q s).tq = (setQueue q {} (dropFetch q s)).tq := rfl

theorem queueAt_destroyQueue_same (q : Nat) (s : State) : queueAt (destroyQueue q s) q = {} := by
  rw [queueAt_congr (tq_destroyQueue q s), queueAt_setQueue_same]

theorem queueAt_destroyQueue_ne {p q : Nat} (h : p ≠ q) (s : State) : queueAt (destroyQueue q s) p = queueAt s p := by
  rw [queueAt_congr (tq_destroyQueue q s), queueAt_setQueue_ne h, queueAt_dropFetch_ne h]

theorem regs_destroyQueue (q : Nat) (s : State) : (destroyQueue q s).regs = s.regs := by
  have h : (destroyQueue q s).regs = (setQueue q {} (dropFetch q s)).regs := rfl
  rw [h, regs_setQueue, regs_dropFetch]

theorem closeQueue_of_no_batches {q : Nat} {s : State} (hnone : (queueAt s q).batches = []) (hheld : NoneHeld s) :
    closeQueue q s = destroyQueue q s := by
  rw [closeQueue]
  simp only [hnone, List.foldl_nil, stagedInsts, List.flatMap_nil, List.length_nil, applyAll]
  refine unhold_of_noneHeld (hheld.of_queue (q := q) (by rw [queueAt_destroyQueue_same]) fun p hp => ?_)
  rw [queueAt_destroyQueue_ne hp]

theorem resumeQueue_of_refused {q : Nat} {s : State} (h : (queueAt s q).st = 3) (htails : (queueAt s q).tails = []) :
    resumeQueue q s = setQueue q { queueAt s q with st := 2, head := (queueAt s q).skip } s := by
  have hfetch : startFetch q (setQueue q { queueAt s q with st := 2, head := (queueAt s q).skip } s)
      = setQueue q { queueAt s q with st := 2, head := (queueAt s q).skip } s :=
    startFetch_of_no_tails (by rw [queueAt_setQueue_same]; exact htails)
  rw [resumeQueue, if_pos h]
  exact hfetch

/-- Settles O25: each command through the equation of its branch, with the report last. -/
theorem queueCommands : Obligations.QueueCommands := by
  refine ⟨fun q s hopen => ⟨fun hok => ?_, fun herr => ?_⟩, fun q s hopen hst => ?_,
    fun q s hopen => ⟨fun hst htails => ?_, fun hst => ?_⟩, fun q s hopen => ⟨fun hst hnone hheld => ?_, fun hst => ?_⟩,
    fun q s hopen => ⟨fun hst hnone hroom hheld => ?_, fun hst => ?_⟩,
    fun q s hopen => ⟨fun hst => ?_, fun hst hnone hheld => ?_, fun hst => ?_⟩,
    fun q s hopen => ⟨fun hst htails => ?_, fun hst => ?_⟩⟩
  · refine .of_eq (t := qErr 0 (setQueue q { desc := qdRegs s, st := 1 } s)) ?_ ?_
    · refine (next_onlyIf hopen _ s).trans (congrArg _ ?_)
      rw [queueCreate]
      exact if_pos hok
    · refine ⟨?_, fun p hp => ?_, err_qErr (by decide) _, busy_qErr _ _, regsBut_qErr_of_regs (regs_setQueue ..) 0⟩
      · rw [queueAt_qErr, queueAt_setQueue_same]
      · rw [queueAt_qErr, queueAt_setQueue_ne hp]
  · refine (next_onlyIf hopen _ s).trans (congrArg _ ?_)
    rw [queueCreate]
    exact if_neg herr
  · refine .of_eq (t := queueRead q s) (next_onlyIf hopen _ s) ?_
    rw [queueRead_eq]
    refine ⟨fun j hj => ?_, ?_, ?_, ?_⟩
    · rw [regsBut_qErr 0 _ _ _ (by simp), getReg_setF_of_reg (by decide), getReg_setAll, if_pos ⟨rfl, hj⟩]
    · rw [state_qErr]
      exact getF_setF_of_lt rfl hst _ _
    · exact OnlyRegs.trans (OnlyRegs.trans (OnlyRegs.setAll ..) (OnlyRegs.setF ..)) (onlyRegs_qErr ..)
    · refine RegsButAll.trans (RegsButAll.trans ?_ (RegsButAll.setF (by decide) _ _ _)) ((regsBut_qErr 0 _).toAll (by simp))
      intro r i hr
      rw [getReg_setAll, if_neg fun h => hr (by simp [h.1])]
  · refine .of_eq (t := queueStart q s) (next_onlyIf hopen _ s) ?_
    rw [queueStart_of_stopped hst htails]
    refine ⟨?_, err_qErr (by decide) _, fun p hp => ?_, regsBut_qErr_of_regs (regs_setQueue ..) 0⟩
    · rw [queueAt_qErr, queueAt_setQueue_same]
    · rw [queueAt_qErr, queueAt_setQueue_ne hp]
  · refine (next_onlyIf hopen _ s).trans (congrArg _ ?_)
    rw [queueStart]
    exact if_pos hst
  · refine .of_eq (t := queueStop q s) (next_onlyIf hopen _ s) ?_
    obtain ⟨t, heq, hq, hregs⟩ := queueStop_of_running hst hnone hheld
    rw [heq]
    exact ⟨by rw [queueAt_qErr, hq], err_qErr (by decide) _, regsBut_qErr_of_regs hregs 0⟩
  · refine (next_onlyIf hopen _ s).trans (congrArg _ ?_)
    rw [queueStop]
    exact if_pos hst
  · refine .of_eq (t := queueAbort q s) (next_onlyIf hopen _ s) ?_
    rw [queueAbort, if_pos hst, queueAt_qErr, queueAt_abortQueue hst hnone hroom hheld]
    exact ⟨rfl, rfl, rfl, rfl, rfl, err_qErr (by decide) _⟩
  · refine (next_onlyIf hopen _ s).trans (congrArg _ ?_)
    rw [queueAbort]
    exact if_neg (by omega)
  · refine (next_onlyIf hopen _ s).trans (congrArg _ ?_)
    exact if_pos hst
  · refine .of_eq (t := queueDestroy q s) (next_onlyIf hopen _ s) ?_
    rw [queueDestroy, if_pos hst, closeQueue_of_no_batches hnone hheld]
    refine ⟨?_, fun p hp => ?_, regsBut_qErr_of_regs (regs_destroyQueue ..) 0⟩
    · rw [queueAt_qErr, queueAt_destroyQueue_same]
    · rw [queueAt_qErr, queueAt_destroyQueue_ne hp]
  · refine (next_onlyIf hopen _ s).trans (congrArg _ ?_)
    exact if_neg hst
  · refine .of_eq (t := qErr 0 (resumeQueue q s)) ?_ ?_
    · refine (next_onlyIf hopen _ s).trans (congrArg _ ?_)
      exact if_pos hst
    · rw [queueAt_qErr, resumeQueue_of_refused hst htails, queueAt_setQueue_same]
      exact ⟨rfl, err_qErr (by decide) _⟩
  · refine (next_onlyIf hopen _ s).trans (congrArg _ ?_)
    exact if_neg hst

end Sys2Proof.Machine
end

section
/-! Writes of the doorbell pages (R287-R289, R325, R342, R630, R631). -/

namespace Sys2Proof.Machine

theorem doorbellPage_of_pf (p : Nat) (k : Nat → State → State) (s : State) : doorbellPage 0 p k s = k p s := by
  simp [doorbellPage, pageQueue]

theorem doorbellPage_of_none {f p : Nat} {s : State} (h : pageQueue s f p = none) (k : Nat → State → State) :
    doorbellPage f p k s = s := by
  rw [doorbellPage, h]

theorem doorbellPage_of_elsewhere {f p q : Nat} {s : State} (h : pageQueue s f p = some q) (hf : f ≠ 0)
    (hst : (queueAt s q).st ≠ 0) (hfunc : (ctxAt s (queueAt s q).asid).func ≠ f) (k : Nat → State → State) :
    doorbellPage f p k s = post
      { code := Ev.PCI_DBRANGE, asid := (queueAt s q).asid, queue := some q, mark := (queueAt s q).mark }
      (bump F.PCI_DBDROP.COUNT 0 s) := by
  rw [doorbellPage, h]
  dsimp only
  rw [if_pos (by simp [hf, hst, hfunc])]

/-- A page's write with the window open and, for a RESUME or an ABORT, the value 1. -/
theorem exec_page {c : Bool} (h : c = true) (f p : Nat) (k : Nat → State → State) (s : State) :
    (Host.Outcome.next (onlyIf c (doorbellPage f p k) s) : Result) = .next (doorbellPage f p k s) := next_onlyIf h _ s

theorem exec_page_of_pf {c : Bool} (h : c = true) (p : Nat) (k : Nat → State → State) (s : State) :
    (Host.Outcome.next (onlyIf c (doorbellPage 0 p k) s) : Result) = .next (k p s) := by
  rw [exec_page h, doorbellPage_of_pf]

/-! ### Tails -/

/-- A queue with a further tail. -/
def TQueue.withTail (x : TQueue) (t : Nat) : TQueue := { x with last := t, tails := x.tails ++ [t] }

theorem doorbell_eq (q tail : Nat) (s : State) : doorbell q tail s =
    if (queueAt s q).st = 0 then post { code := Ev.TQ_DBDISABLED, queue := some q } s
    else if tail % (queueAt s q).ringSize = (queueAt s q).last then
      post { code := Ev.TQ_DBSAME, asid := (queueAt s q).asid, queue := some q, mark := (queueAt s q).mark,
             inst := (queueAt s q).eng } s
    else if ((queueAt s q).st = 2 ∨ (queueAt s q).st = 3) ∧ 64 ≤ (queueAt s q).tails.length then
      doorbellOverflow q (setQueue q ((queueAt s q).withTail (tail % (queueAt s q).ringSize)) s)
    else startFetch q (setQueue q ((queueAt s q).withTail (tail % (queueAt s q).ringSize)) s) := rfl

theorem startFetch_of_not_running {q : Nat} {s : State} (h : (queueAt s q).st ≠ 2) : startFetch q s = s := by
  unfold startFetch
  dsimp only
  split
  · rfl
  · rw [if_neg fun hand => h hand.1]

theorem queueAt_post (e : EvArgs) (s : State) (q : Nat) : queueAt (post e s) q = queueAt s q := queueAt_congr (post_tq ..) q

theorem queueAt_bump (f : Fld) (i : Nat) (s : State) (q : Nat) : queueAt (bump f i s) q = queueAt s q :=
  queueAt_congr (bump_tq ..) q

/-- What an overflow leaves (R287). -/
theorem queueAt_doorbellOverflow (q : Nat) (s : State) : (queueAt (doorbellOverflow q s) q).st = 1 ∧
    (queueAt (doorbellOverflow q s) q).tails = [] := by
  rw [doorbellOverflow, queueAt_post, queueAt_bump, queueAt_setQueue_same]
  exact ⟨rfl, rfl⟩

theorem dbovf_doorbellOverflow (q : Nat) (s : State) : getF (doorbellOverflow q s) F.TQ_DBOVF.COUNT
    = min (getF s F.TQ_DBOVF.COUNT + 1) (2 ^ F.TQ_DBOVF.COUNT.width - 1) := by
  rw [doorbellOverflow, getF_post _ _ _ _ rfl, getF_bump_same _ _ _ rfl, getF_congr (s := dropFetch q s) (regs_setQueue ..),
    getF_congr (regs_dropFetch q s)]

/-! ### Consumption indices -/

theorem consumed_forward {head tail size n : Nat} (hn : 0 < n) (hsize : n < size) (htail : head + n ≤ tail) :
    consumed head tail size ((head + n) % size) = head + n := by
  have hadv : ((head + n) % size + size - head % size) % size = n := by
    have hlt := Nat.mod_lt head (by omega : 0 < size)
    by_cases hwrap : head % size + n < size
    · have hmod : (head + n) % size = head % size + n := by
        rw [Nat.add_mod, Nat.mod_eq_of_lt hsize, Nat.mod_eq_of_lt hwrap]
      rw [hmod, show head % size + n + size - head % size = n + size by omega, Nat.add_mod_right, Nat.mod_eq_of_lt hsize]
    · have hmod : (head + n) % size = head % size + n - size := by
        rw [Nat.add_mod, Nat.mod_eq_of_lt hsize, Nat.mod_eq_sub_mod (by omega), Nat.mod_eq_of_lt (by omega)]
      rw [hmod, show head % size + n - size + size - head % size = n by omega, Nat.mod_eq_of_lt hsize]
  rw [consumed, hadv, if_neg (by simp; omega)]
  omega

theorem cplHeadWrite_of_idle {q v : Nat} {s : State} (hst : (queueAt s q).st ≠ 0) (hrecs : (queueAt s q).held = [])
    (hnone : (queueAt s q).batches = []) (hheld : NoneHeld s) : cplHeadWrite q v s =
      setQueue q { queueAt s q with
        cplHead := consumed (queueAt s q).cplHead (queueAt s q).cplTail (queueAt s q).cplSize v } s := by
  generalize hx : ({ queueAt s q with
    cplHead := consumed (queueAt s q).cplHead (queueAt s q).cplTail (queueAt s q).cplSize v } : TQueue) = x
  have hxq : queueAt (setQueue q x s) q = x := queueAt_setQueue_same q x s
  have hxrecs : x.held = [] := by rw [← hx, ← hrecs]
  have hxnone : x.batches = [] := by rw [← hx, ← hnone]
  have hflush : flushRecs 1 q (setQueue q x s) = setQueue q x s := by simp [flushRecs, hxrecs]
  have hfetch : ∀ p, (queueAt (setQueue q x s) p).fetch = (queueAt s p).fetch := fun p => by
    by_cases hp : p = q
    · rw [hp, hxq, ← hx]
    · rw [queueAt_setQueue_ne hp]
  rw [cplHeadWrite, if_neg hst, hx, hrecs]
  show unhold (settle q (flushRecs 1 q (setQueue q x s))) = _
  rw [hflush, settle_of_no_batches (by rw [hxq, hxnone]), unhold_of_noneHeld]
  intro p f hf
  rw [hfetch] at hf
  exact hheld p f hf

/-- Settles O26: the PF's pages act on the queue they name; a virtual function's on one that is its own. -/
theorem doorbellPages : Obligations.DoorbellPages := by
  refine ⟨fun q v s hopen => ⟨fun hst => ?_, fun hst hne => ?_, fun hst hsame => ?_, fun hst hlen hne => ?_⟩,
    fun q v s hopen hst hrecs hnone hheld => ?_, fun q v s hopen hst hcls => ?_,
    fun head tail size n hn hsize htail => consumed_forward hn hsize htail, fun q s hopen => ⟨fun hst htails => ?_, ?_⟩,
    fun f p v s hopen hf => ⟨fun hnone => ⟨?_, ?_, ?_, ?_⟩, fun q hq hst hfunc => ?_⟩⟩
  · refine (exec_page_of_pf hopen q _ s).trans (congrArg _ ?_)
    rw [doorbell_eq, if_pos hst]
  · refine .of_eq (t := doorbell q v.toNat s) (exec_page_of_pf hopen q _ s) ?_
    rw [doorbell_eq, if_neg (by omega), if_neg hne, if_neg (by omega), startFetch_of_not_running]
    · exact ⟨queueAt_setQueue_same .., fun p hp => queueAt_setQueue_ne hp .., regs_setQueue ..⟩
    · rw [queueAt_setQueue_same, TQueue.withTail]
      show (queueAt s q).st ≠ 2
      omega
  · refine .of_eq (t := doorbell q v.toNat s) (exec_page_of_pf hopen q _ s) ?_
    rw [doorbell_eq, if_neg hst, if_pos hsame]
    exact ⟨post_tq .., RegsButAll.post _ _⟩
  · refine .of_eq (t := doorbell q v.toNat s) (exec_page_of_pf hopen q _ s) ?_
    rw [doorbell_eq, if_neg (by omega), if_neg hne, if_pos ⟨.inl hst, hlen⟩]
    obtain ⟨hstopped, hempty⟩ := queueAt_doorbellOverflow q
      (setQueue q ((queueAt s q).withTail (v.toNat % (queueAt s q).ringSize)) s)
    refine ⟨hstopped, hempty, ?_⟩
    rw [dbovf_doorbellOverflow, getF_congr (s := s) (regs_setQueue ..)]
  · refine .of_eq (t := cplHeadWrite q v.toNat s) (exec_page_of_pf hopen q _ s) ?_
    rw [cplHeadWrite_of_idle hst hrecs hnone hheld]
    exact ⟨queueAt_setQueue_same .., regs_setQueue ..⟩
  · refine .of_eq (t := recHeadWrite q v.toNat s) (exec_page_of_pf hopen q _ s) ?_
    rw [recHeadWrite]
    dsimp only
    rw [if_neg (by simp [hst, hcls])]
    exact ⟨queueAt_setQueue_same .., regs_setQueue ..⟩
  · refine .of_eq (t := resumeQueue q s) (exec_page_of_pf (by simp [hopen]) q _ s) ?_
    rw [resumeQueue_of_refused hst htails]
    exact ⟨queueAt_setQueue_same .., regs_setQueue ..⟩
  · exact exec_page_of_pf (by simp [hopen]) q _ s
  · exact (exec_page hopen f p _ s).trans (congrArg _ (doorbellPage_of_none hnone _))
  · exact (exec_page hopen f p _ s).trans (congrArg _ (doorbellPage_of_none hnone _))
  · exact (exec_page hopen f p _ s).trans (congrArg _ (doorbellPage_of_none hnone _))
  · by_cases hv : v = 1
    · exact (exec_page (by simp [hopen, hv]) f p _ s).trans (congrArg _ (doorbellPage_of_none hnone _))
    · show Host.Outcome.next (onlyIf (barOpen s && v == 1) _ s) = _
      rw [show (v == 1) = false by simpa using hv, Bool.and_false, onlyIf_false]
  · refine .of_eq (t := doorbellPage f p (fun q => doorbell q v.toNat) s) (exec_page hopen f p _ s) ?_
    rw [doorbellPage_of_elsewhere hq (fun h => hf (Fin.ext h)) hst hfunc, getF_post _ _ _ _ rfl,
      getF_bump_same _ _ _ rfl]
    refine ⟨by rw [post_tq, bump_tq], rfl, ?_⟩
    refine RegsButAll.trans ?_ (RegsButAll.mono (RegsButAll.post _ _) (by simp +contextual))
    exact RegsButAll.bump (f := F.PCI_DBDROP.COUNT) (List.mem_cons_self ..) _ _

end Sys2Proof.Machine
end

section
/-! Batches are journaled, refused and accepted; counters are written by the host (R249, R292, R294, R309, R465, R466). -/

namespace Sys2Proof.Machine

/-! ### Records of a queue -/

theorem recWritten_of_other {r : CRec} (h1 : r.kind ≠ 1) (h2 : r.kind ≠ 2) (q : Nat) (h : HostReq) (s : State) :
    recWritten q r h s = s := by
  unfold recWritten
  split
  · rfl
  · rw [if_neg h1, if_neg h2]

/-- A record that closes no command and no batch, without an interrupt: it takes a slot and goes to the host. -/
theorem putRec_of_other {r : CRec} (h1 : r.kind ≠ 1) (h2 : r.kind ≠ 2) (hirq : r.irq = false) (q : Nat) (s : State) :
    putRec q r s = hostSend (recReq q r s) (setQueue q { queueAt s q with cplTail := (queueAt s q).cplTail + 1 } s) := by
  rw [putRec, recWritten_of_other h1 h2, hirq, if_neg Bool.false_ne_true]

theorem queueAt_hostSend (r : HostReq) (s : State) (q : Nat) : queueAt (hostSend r s) q = queueAt s q :=
  queueAt_congr (PostFrame.hostSend r s).tq q

/-- The part of a queue that a refusal's record leaves: state, fetch and head. -/
theorem sendRec_of_other {r : CRec} (h1 : r.kind ≠ 1) (h2 : r.kind ≠ 2) (hirq : r.irq = false) (q : Nat) (s : State) :
    (queueAt (sendRec q r s) q).st = (queueAt s q).st ∧ (queueAt (sendRec q r s) q).fetch = (queueAt s q).fetch ∧
      (queueAt (sendRec q r s) q).head = (queueAt s q).head ∧ RegsButAll eventRegs s (sendRec q r s) := by
  unfold sendRec
  dsimp only
  split
  · rw [putRec_of_other h1 h2 hirq, queueAt_hostSend, queueAt_setQueue_same]
    refine ⟨rfl, rfl, rfl, RegsButAll.trans ?_ (RegsButAll.hostSend _ _)⟩
    exact RegsButAll.of_regs_eq (regs_setQueue ..)
  · rw [queueAt_setQueue_same]
    exact ⟨rfl, rfl, rfl, RegsButAll.of_regs_eq (regs_setQueue ..)⟩

/-! ### A batch is refused (R252, R292) -/

/-- The queue after the refusal and its events, before the record. -/
def refusedQueue (q st k : Nat) (s : State) : State :=
  let x := queueAt s q
  let s1 := dropFetch q s
  let s2 := setQueue q { queueAt s1 q with st := 3, skip := x.tails.headD x.head, tails := x.tails.tail } s1
  let s3 := bump F.TQ_REFUSED.COUNT 0 (if 0x200 ≤ st then bump F.XLT_FAULTS.COUNT 0 s2 else s2)
  if 0x100 ≤ st then
    post { code := refuseEvent st, asid := x.asid, queue := some q, mark := x.mark, inst := x.eng, d0 := st + k * 2 ^ 16, d1 := x.head } s3
  else s3

/-- The REFUSE record. -/
def refuseRec (head st k opnd : Nat) : CRec :=
  { kind := 3, asn := head, status := st, count := k, unmir := false, opnd := opnd, irq := false }

theorem refuseBatch_eq (q st k opnd : Nat) (s : State) : refuseBatch q st k opnd s =
    sendRec q (refuseRec (queueAt s q).head st k opnd) (refusedQueue q st k s) := rfl

theorem queueAt_ite (c : Prop) [Decidable c] (s t : State) (q : Nat) :
    queueAt (if c then s else t) q = if c then queueAt s q else queueAt t q := by split <;> rfl

theorem queueAt_refusedQueue (q st k : Nat) (s : State) : (queueAt (refusedQueue q st k s) q).st = 3 ∧
    (queueAt (refusedQueue q st k s) q).fetch = none ∧ (queueAt (refusedQueue q st k s) q).head = (queueAt s q).head := by
  unfold refusedQueue
  dsimp only
  rw [queueAt_ite, queueAt_post, ite_self, queueAt_bump, queueAt_ite, queueAt_bump, ite_self, queueAt_setQueue_same,
    queueAt_dropFetch_same]
  exact ⟨rfl, rfl, rfl⟩

theorem getF_ite (c : Prop) [Decidable c] (s t : State) (f : Fld) (i : Nat) :
    getF (if c then s else t) f i = if c then getF s f i else getF t f i := by split <;> rfl

theorem refused_refusedQueue (q st k : Nat) (s : State) : getF (refusedQueue q st k s) F.TQ_REFUSED.COUNT
    = min (getF s F.TQ_REFUSED.COUNT + 1) (2 ^ F.TQ_REFUSED.COUNT.width - 1) := by
  unfold refusedQueue
  dsimp only
  rw [getF_ite, getF_post _ _ _ _ rfl, ite_self, getF_bump_same _ _ _ rfl, getF_ite, getF_bump_of_reg (by decide), ite_self,
    getF_congr (s := dropFetch q s) (regs_setQueue ..), getF_congr (regs_dropFetch q s)]

theorem batchGo_of_full {q : Nat} {f : Fetch} {s : State} (h : (queueAt s q).fetch = some f) (hfull : f.full = true) :
    batchGo q s = batchRun (3 * f.count + 1) q s := by
  rw [batchGo, h]
  exact if_pos hfull

theorem batchRun_of_checked {q fuel : Nat} {f : Fetch} {s : State} (h : (queueAt s q).fetch = some f)
    (hdone : f.count ≤ f.done.length) : batchRun (fuel + 1) q s = tryJournal q s := by
  rw [batchRun, h]
  exact if_pos hdone

theorem batchRun_of_illegal {q fuel : Nat} {f : Fetch} {s : State} (h : (queueAt s q).fetch = some f)
    (hmore : f.done.length < f.count) (hpart : f.part = []) (hbad : checkCmd s (queueAt s q) f.ws f.done.length ≠ 0) :
    batchRun (fuel + 1) q s = refuseBatch q (checkCmd s (queueAt s q) f.ws f.done.length) f.done.length 0 s := by
  rw [batchRun, h]
  dsimp only
  rw [if_neg (by omega), if_pos hpart, if_pos (by simp [hbad])]

/-! ### A batch is journaled (R465) -/

theorem jHead_setQueue (q : Nat) (x : TQueue) (s : State) : jHead (setQueue q x s) = jHead s := rfl

/-- The batch that a fetch becomes with its entries below LSN `head`. -/
def journaled (x : TQueue) (f : Fetch) (head : Nat) : Batch :=
  { first := x.asn
    ring := x.head
    cmds := f.done
    entries := 1 + (f.done.map TCmd.entries).sum
    lsn := head - 1
    seq := { mark := x.mark } }

theorem tryJournal_of_room {q : Nat} {f : Fetch} {s : State} (h : (queueAt s q).fetch = some f)
    (hroom : batchEntries s + (1 + (f.done.map TCmd.entries).sum) ≤ 65536) :
    ∃ u : State, tryJournal q s = setQueue q { queueAt u q with
      fetch := none
      batches := (queueAt u q).batches ++ [journaled (queueAt s q) f (jHead u)] } u := by
  rw [tryJournal, h]
  dsimp only
  rw [if_neg (by omega)]
  exact ⟨_, rfl⟩

/-! ### Acceptance (R294, R466) -/

/-- The queue once its batch is accepted. -/
def TQueue.acceptOf (x : TQueue) (b : Batch) (un : Bool) : TQueue :=
  { x.setBatch (Batch.close { b with accepted := true, unmir := un }) with
    asn := x.asn + b.cmds.length, head := x.tails.headD x.head, tails := x.tails.tail }

/-- The state in which the batch is accepted, before its record. -/
def acceptedState (q : Nat) (b : Batch) (s : State) : State :=
  let s1 := add64 .TQ_ACCEPTED_LO .TQ_ACCEPTED_HI 0 b.cmds.length (setQueue q ((queueAt s q).acceptOf b (!mirrored s)) s)
  if !mirrored s then bump F.HBL_UNMIRACC.COUNT 0 s1 else s1

/-- The ACCEPT record. -/
def acceptRec (b : Batch) (un : Bool) : CRec :=
  { kind := 0, asn := b.first, status := 0, count := b.cmds.length, unmir := un, opnd := 0, irq := false }

theorem acceptBatch_of_newest {q : Nat} {b : Batch} {s : State} (h : (queueAt s q).newest = some b) : acceptBatch q s =
    if (queueAt s q).st = 2 ∧ durable s b.lsn = true ∧ withheld s = false ∧ (queueAt s q).roomy = true then
      startFetch q (putRec q (acceptRec b (!mirrored s)) (acceptedState q b s))
    else s := by
  rw [acceptBatch, h]
  rfl

theorem queueAt_acceptedState (q : Nat) (b : Batch) (s : State) :
    queueAt (acceptedState q b s) q = (queueAt s q).acceptOf b (!mirrored s) := by
  unfold acceptedState
  dsimp only
  rw [queueAt_ite, queueAt_bump, ite_self, queueAt_congr (add64_tq ..), queueAt_setQueue_same]

theorem get64_bump_of_reg {f : Fld} {lo hi : Reg} (hlo : f.reg ≠ lo) (hhi : f.reg ≠ hi) (i j : Nat) (s : State) :
    get64 (bump f i s) lo hi j = get64 s lo hi j := get64_setF_of_reg hlo hhi ..

theorem get64_ite (c : Prop) [Decidable c] (s t : State) (lo hi : Reg) (i : Nat) :
    get64 (if c then s else t) lo hi i = if c then get64 s lo hi i else get64 t lo hi i := by split <;> rfl

theorem get64_congr {s t : State} (h : t.regs = s.regs) (lo hi : Reg) (i : Nat) : get64 t lo hi i = get64 s lo hi i := by
  rw [get64, getReg_congr h, getReg_congr h, get64]

theorem get64_add64_same {lo hi : Reg} (h : lo ≠ hi) (i n : Nat) (s : State) :
    get64 (add64 lo hi i n s) lo hi i = (get64 s lo hi i + n) % 2 ^ 64 := by
  rw [add64, get64_set64_same _ _ _ _ _ h]

theorem accepted_acceptedState (q : Nat) (b : Batch) (s : State) : get64 (acceptedState q b s) .TQ_ACCEPTED_LO .TQ_ACCEPTED_HI 0
    = (get64 s .TQ_ACCEPTED_LO .TQ_ACCEPTED_HI 0 + b.cmds.length) % 2 ^ 64 := by
  unfold acceptedState
  dsimp only
  rw [get64_ite, get64_bump_of_reg (by decide) (by decide), ite_self, get64_add64_same (by decide),
    get64_congr (s := s) (regs_setQueue ..)]

/-- The record of an acceptance leaves no tail to fetch where at most one was recorded. -/
theorem acceptBatch_of_due {q : Nat} {b : Batch} {s : State} (h : (queueAt s q).newest = some b)
    (hdue : (queueAt s q).st = 2 ∧ durable s b.lsn = true ∧ withheld s = false ∧ (queueAt s q).roomy = true)
    (htails : (queueAt s q).tails.length ≤ 1) : queueAt (acceptBatch q s) q = { (queueAt s q).acceptOf b (!mirrored s) with
      cplTail := (queueAt s q).cplTail + 1 } ∧ RegsButAll eventRegs (acceptedState q b s) (acceptBatch q s) := by
  have hempty : (queueAt s q).tails.tail = [] := List.eq_nil_of_length_eq_zero (by rw [List.length_tail]; omega)
  rw [acceptBatch_of_newest h, if_pos hdue, putRec_of_other (by simp [acceptRec]) (by simp [acceptRec]) rfl, queueAt_acceptedState]
  generalize recReq q _ (acceptedState q b s) = r
  have hq : queueAt (hostSend r (setQueue q { (queueAt s q).acceptOf b (!mirrored s) with
      cplTail := ((queueAt s q).acceptOf b (!mirrored s)).cplTail + 1 } (acceptedState q b s))) q
      = { (queueAt s q).acceptOf b (!mirrored s) with cplTail := (queueAt s q).cplTail + 1 } := by
    rw [queueAt_hostSend, queueAt_setQueue_same]
    rfl
  have htail : ({ (queueAt s q).acceptOf b (!mirrored s) with cplTail := (queueAt s q).cplTail + 1 } : TQueue).tails = [] :=
    hempty
  rw [startFetch_of_no_tails (by rw [hq, htail])]
  refine ⟨hq, RegsButAll.trans ?_ (RegsButAll.hostSend _ _)⟩
  exact RegsButAll.of_regs_eq (regs_setQueue ..)

theorem get64_of_regsButAll {l : List Reg} {s t : State} (h : RegsButAll l s t) {lo hi : Reg} (hlo : lo ∉ l) (hhi : hi ∉ l)
    (i : Nat) : get64 t lo hi i = get64 s lo hi i := by rw [get64, h _ _ hlo, h _ _ hhi, get64]

/-! ### Host writes of counters (R309) -/

/-- The half held for a counter's _HI write is used up. -/
def loTaken (i : Nat) (s : State) : State :=
  { s with pci := { s.pci with loHeld := mapDel s.pci.loHeld (regKey .TQ_CNT_LO i) } }

theorem counterSet_of_no_queues {s : State} (h : s.tq.queues = []) (i v : Nat) :
    counterSet i v s = shlWatchFire i v (set64 .TQ_CNT_LO .TQ_CNT_HI i v s) := by
  have hq : (shlWatchFire i v (set64 .TQ_CNT_LO .TQ_CNT_HI i v s)).tq.queues = [] := by
    rw [(SendFrame.shlWatchFire _ _ _).tq, set64_tq, h]
  simp only [counterSet, counterWrite, hq, h, List.map_nil, List.foldl_nil]
  rfl

theorem exec_counterHostWrite {i : BitVec 16} {hi : BitVec 32} {s : State} (hopen : barOpen s = true) :
    exec (.counterHostWrite i hi) s = .next (counterSet i.toNat
      ((mapGet s.pci.loHeld (regKey .TQ_CNT_LO i.toNat) (getReg s .TQ_CNT_LO i.toNat)).toNat + hi.toNat * 2 ^ 32)
      (loTaken i.toNat s)) := next_onlyIf hopen _ s

theorem get64_set64_of_index {lo hi : Reg} {i j : Nat} (hlh : lo ≠ hi) (h : j ≠ i) (v : Nat) (s : State) :
    get64 (set64 lo hi i v s) lo hi j = get64 s lo hi j := by
  simp [get64, set64, h, hlh]

theorem counterAt_loTaken (i : Nat) (s : State) (j : Nat) : counterAt (loTaken i s) j = counterAt s j := rfl

theorem mapFind_mapDel_self {α : Type} (m : Map α) (k : Nat) : mapFind (mapDel m k) k = none := mapFind_mapDel_same m k

/-- Settles O27: a fetched batch by what `batchRun` finds, acceptance by its one condition, and the counter's write with no
queue to wake. -/
theorem batchesAndCounters : Obligations.BatchesAndCounters := by
  refine ⟨fun q f s hrun hfetch hfull hdone hroom => ?_, fun q f s hrun hfetch hfull hmore hpart hbad => ?_,
    fun q b s hrun hnew hst htails hroomy => ⟨fun hdur => ?_, fun hheld => ?_, fun hdur hheld => ?_⟩,
    fun i hi s hopen hnone => ?_⟩
  · refine .of_eq (t := tryJournal q s) ?_ ?_
    · refine (next_onlyIf hrun _ s).trans (congrArg _ ?_)
      rw [batchGo_of_full hfetch hfull, batchRun_of_checked hfetch hdone]
    · obtain ⟨u, hu⟩ := tryJournal_of_room hfetch hroom
      rw [hu, queueAt_setQueue_same, jHead_setQueue]
      exact ⟨_, rfl, rfl, rfl, rfl, rfl, rfl, _, rfl⟩
  · refine .of_eq (t := refuseBatch q (checkCmd s (queueAt s q) f.ws f.done.length) f.done.length 0 s) ?_ ?_
    · refine (next_onlyIf hrun _ s).trans (congrArg _ ?_)
      rw [batchGo_of_full hfetch hfull, batchRun_of_illegal hfetch hmore hpart hbad]
    · generalize checkCmd s (queueAt s q) f.ws f.done.length = st
      rw [refuseBatch_eq]
      obtain ⟨hst, hfet, hhead, hregs⟩ := sendRec_of_other (r := refuseRec (queueAt s q).head st f.done.length 0)
        (by simp [refuseRec]) (by simp [refuseRec]) rfl q (refusedQueue q st f.done.length s)
      obtain ⟨hst', hfet', hhead'⟩ := queueAt_refusedQueue q st f.done.length s
      exact ⟨hst.trans hst', hfet.trans hfet', hhead.trans hhead',
        (getF_of_regsButAll hregs (by decide) 0).trans (refused_refusedQueue ..)⟩
  · refine (next_onlyIf hrun _ s).trans (congrArg _ ?_)
    rw [acceptBatch_of_newest hnew, if_neg (by simp [hdur])]
  · refine (next_onlyIf hrun _ s).trans (congrArg _ ?_)
    rw [acceptBatch_of_newest hnew, if_neg (by simp [hheld])]
  · refine .of_eq (t := acceptBatch q s) (next_onlyIf hrun _ s) ?_
    obtain ⟨hq, hregs⟩ := acceptBatch_of_due hnew ⟨hst, hdur, hheld, hroomy⟩ htails
    rw [hq, get64_of_regsButAll hregs (by decide) (by decide), accepted_acceptedState]
    exact ⟨rfl, rfl, List.eq_nil_of_length_eq_zero (by simp [TQueue.acceptOf]; omega), rfl, rfl, rfl⟩
  · refine .of_eq (exec_counterHostWrite hopen) ?_
    rw [counterSet_of_no_queues (s := loTaken i.toNat s) hnone]
    generalize hv : (mapGet s.pci.loHeld (regKey .TQ_CNT_LO i.toNat) (getReg s .TQ_CNT_LO i.toNat)).toNat
      + hi.toNat * 2 ^ 32 = v
    have hlt : v < 2 ^ 64 := by
      have hlo := (mapGet s.pci.loHeld (regKey .TQ_CNT_LO i.toNat) (getReg s .TQ_CNT_LO i.toNat)).isLt
      have hhi := hi.isLt
      omega
    have hframe := SendFrame.shlWatchFire i.toNat v (set64 .TQ_CNT_LO .TQ_CNT_HI i.toNat v (loTaken i.toNat s))
    refine ⟨?_, ?_, fun j hj => ?_⟩
    · rw [counterAt, hframe.get64 rfl rfl, get64_set64_of_lt (by decide) hlt]
    · rw [hframe.loHeld, set64_pci]
      exact mapFind_mapDel_same ..
    · rw [counterAt, hframe.get64 rfl rfl, get64_set64_of_index (by decide) hj, ← counterAt, counterAt_loTaken]

end Sys2Proof.Machine
end

section
/-! The sequencer's control commands (R299-R312): why a batch without commands can retire the one at work. -/

namespace Sys2Proof.Machine

/-- The end of a batch's END record: the batch that holds its ASN leaves the queue. -/
theorem queueAt_retireBatch {q : Nat} {b : Batch} {s : State} (hroom : jHead s < s.hbl.oldest + areaSize) (herr : b.err = 0)
    (hst : (queueAt s q).st ≠ 4) : queueAt (retireBatch q b s) q = { queueAt s q with
      batches := (queueAt s q).batches.filter (fun c => c.first != b.first) } := by
  rw [retireBatch]
  generalize hs1 : jAppend q 0x0D 0 0 [(12, 8, b.first), (20, 8, b.first + b.cmds.length - 1)] s = s1
  have hq : queueAt s1 q = queueAt s q := by rw [← hs1, queueAt_congr (tq_jAppend_of_room hroom ..)]
  dsimp only
  rw [herr, hq, afterBatch, queueAt_setQueue_same]
  dsimp only
  rw [if_neg (by simp), if_neg (fun h => hst h.1), queueAt_setQueue_same]

/-- A batch without commands whose END record is due: its last ASN is the one before it (R341, R344). -/
def emptyBatch : Batch := { first := 1, ring := 0, cmds := [], accepted := true, isOver := true }

/-- A batch of one NOP at which the sequencer stands. -/
def nopBatch : Batch := { first := 0, ring := 0, cmds := [{ word := 0, opnds := [] }], accepted := true }

/-- The NOP's batch after the jump to its own place. -/
def nopBatchOnce : Batch := { nopBatch with seq := { dseq := 1 }, ran := [0] }

/-- A queue with the batches given. -/
def queueOf (bs : List Batch) : TQueue := { batches := bs }

/-- The state in which queue 0 holds both batches. -/
def emptyFirst : State := setQueue 0 (queueOf [emptyBatch, nopBatch]) {}

theorem signalOf_nopBatch : signalOf (queueOf [emptyBatch, nopBatch]) nopBatch = none := by decide

theorem seqDone_emptyFirst : seqDone 0 (queueOf [emptyBatch, nopBatch]) nopBatch 0 id emptyFirst
    = settle 0 (setQueue 0 (queueOf [emptyBatch, nopBatchOnce]) emptyFirst) := by
  rw [seqDone, signalOf_nopBatch, modBatch, emptyFirst, queueAt_setQueue_same]
  rfl

/-- The END record of the batch without commands takes a slot. -/
def endSlotTaken (s : State) : State :=
  hostSend (recReq 0 (endRec emptyBatch) (setQueue 0 (queueOf [{ emptyBatch with ended := true }, nopBatchOnce]) s))
    (setQueue 0 { queueOf [{ emptyBatch with ended := true }, nopBatchOnce] with cplTail := 1 }
      (setQueue 0 (queueOf [{ emptyBatch with ended := true }, nopBatchOnce]) s))

theorem queueAt_endSlotTaken (s : State) :
    queueAt (endSlotTaken s) 0 = { queueOf [{ emptyBatch with ended := true }, nopBatchOnce] with cplTail := 1 } := by
  rw [endSlotTaken, queueAt_hostSend, queueAt_setQueue_same]

theorem batchOf_endRec : TQueue.batchOf { queueOf [{ emptyBatch with ended := true }, nopBatchOnce] with cplTail := 1 }
    (endRec emptyBatch).asn = some nopBatchOnce := by
  simp [TQueue.batchOf, queueOf, emptyBatch, nopBatchOnce, nopBatch, endRec]

theorem roomy_queueOf (bs : List Batch) : (queueOf bs).roomy = true := by
  simp [TQueue.roomy, queueOf, TQueue.cplSize, Nat.two_pow_pos]

theorem sendRec_end (s : State) : sendRec 0 (endRec emptyBatch)
    (setQueue 0 (queueOf [{ emptyBatch with ended := true }, nopBatchOnce]) s) = retireBatch 0 nopBatchOnce (endSlotTaken s) := by
  have hslot : hostSend (recReq 0 (endRec emptyBatch) (setQueue 0 (queueOf [{ emptyBatch with ended := true }, nopBatchOnce]) s))
      (setQueue 0 { queueOf [{ emptyBatch with ended := true }, nopBatchOnce] with
          cplTail := (queueOf [{ emptyBatch with ended := true }, nopBatchOnce]).cplTail + 1 }
        (setQueue 0 (queueOf [{ emptyBatch with ended := true }, nopBatchOnce]) s)) = endSlotTaken s := rfl
  rw [sendRec, queueAt_setQueue_same, if_pos (roomy_queueOf _), putRec, queueAt_setQueue_same, if_neg (by simp [endRec]), hslot,
    recWritten, queueAt_endSlotTaken, batchOf_endRec]
  dsimp only
  rw [if_neg (by simp [endRec]), if_pos (by simp [endRec])]

theorem emitOne_emptyFirst {s : State} (h : queueAt s 0 = queueOf [emptyBatch, nopBatchOnce]) :
    emitOne 0 s = (true, retireBatch 0 nopBatchOnce (endSlotTaken s)) := by
  rw [emitOne, h]
  show (true, sendRec 0 (endRec emptyBatch) (putBatch 0 { emptyBatch with ended := true } s)) = _
  rw [putBatch, h]
  exact congrArg (Prod.mk true) (sendRec_end s)

theorem emitLoop_of_all_ended {q fuel : Nat} {s : State} (h : ∀ b ∈ (queueAt s q).batches, b.ended = true) :
    emitLoop fuel q s = s := by
  cases fuel with
  | zero => rfl
  | succ fuel =>
    have hnone : (queueAt s q).batches.find? (fun b => !b.ended) = none :=
      List.find?_eq_none.2 fun b hb => by simp [h b hb]
    rw [emitLoop, emitOne, hnone]

/-- The jump of the NOP's batch ends with that batch gone: the END record of the batch before it names ASN 0. -/
theorem batches_seqDone_emptyFirst : (queueAt (seqDone 0 (queueOf [emptyBatch, nopBatch]) nopBatch 0 id emptyFirst) 0).batches
    = [{ emptyBatch with ended := true }] := by
  generalize hs : setQueue 0 (queueOf [emptyBatch, nopBatchOnce]) emptyFirst = s
  have hq : queueAt s 0 = queueOf [emptyBatch, nopBatchOnce] := by rw [← hs, queueAt_setQueue_same]
  have hhead : jHead (endSlotTaken s) = 0 := by
    rw [endSlotTaken, jHead, (SendFrame.hostSend _ _).get64 rfl rfl, ← jHead, jHead_setQueue, jHead_setQueue, ← hs,
      jHead_setQueue]
    decide
  have hretired : queueAt (retireBatch 0 nopBatchOnce (endSlotTaken s)) 0
      = { queueOf [{ emptyBatch with ended := true }] with cplTail := 1 } := by
    rw [queueAt_retireBatch (by rw [hhead, areaSize]; omega) rfl (by rw [queueAt_endSlotTaken]; decide), queueAt_endSlotTaken]
    rfl
  rw [seqDone_emptyFirst, hs, settle, hq]
  show (queueAt (emitLoop (5 + 1) 0 s) 0).batches = _
  rw [emitLoop, emitOne_emptyFirst hq]
  dsimp only
  rw [emitLoop_of_all_ended, hretired]
  · rfl
  · rw [hretired]
    decide

/-- Refutes O28: the last clause does not ask that the batches' ASNs be apart or that every batch have a command. In
`emptyFirst` the END record of a batch without commands names the ASN before that batch, which is the NOP's: the NOP's batch,
not over, is retired. -/
theorem not_sequencerRunsControlCommands : ¬ Obligations.SequencerRunsControlCommands := by
  rintro ⟨-, -, -, -, -, -, -, hgo⟩
  have hq : queueAt emptyFirst 0 = queueOf [emptyBatch, nopBatch] := by rw [emptyFirst, queueAt_setQueue_same]
  have hstay := hgo 0 0 nopBatch id emptyFirst (by rw [hq]; simp [queueOf]) rfl rfl rfl
    (by rw [hq]; simp [queueOf, emptyBatch, nopBatch]) (by decide) (by rw [hq]; exact signalOf_nopBatch)
  rw [hq, batches_seqDone_emptyFirst] at hstay
  obtain ⟨c, hc, hfirst, -⟩ := hstay
  rw [List.mem_singleton.1 hc] at hfirst
  exact absurd hfirst (by decide)

end Sys2Proof.Machine
end

section
/-! Engines dispatch the data commands of the queue whose turn it is (R255, R280, R281, R315, R329, R557). -/

namespace Sys2Proof.Machine

/-! ### The dispatch at an engine's turn (R255) -/

theorem engineStep_of_turn {s : State} {e q op : Nat} {b : Batch} (h : AtTurn s e q op b)
    (f : Nat → TQueue → Batch → Cmd → List Opnd → State → State) : engineStep op e f s =
      match redone s e q op b with
      | (.gone n, s1) => failDispatch q b Status.XLT_GONE (useTurn e q n s1)
      | (.need pg acc, s1) =>
        atsRequest .redo q e (queueAt s q).asid pg acc (redoNoWrite (hereOpnds b) pg) (b.first, b.seq.dseq) s1
      | (.lacks pg acc, s1) =>
        (match lackCode s1 (queueAt s q).asid
            (((queueAt s q).regot.filter (fun g => g.job == (b.first, b.seq.dseq))).any (fun g => g.page == pg && g.again)) with
          | some _ => failDispatch q b Status.XLT_GONE (useTurn e q 0 s1)
          | none => sendPri (newWait .redo q e (queueAt s q).asid pg acc (redoNoWrite (hereOpnds b) pg) (b.first, b.seq.dseq) s1) s1)
      | (.ok l, s1) => f q (queueAt s q) b (wordAt b.words b.seq.pos) l
          (useTurn e q (staleOpnds s (queueAt s q).asid (hereOpnds b)).length s1) := by
  obtain ⟨hload, hturn, ⟨hrun, hnext, hop⟩, hnew, hwait⟩ := h
  rw [engineStep, hrun]
  dsimp only
  rw [if_neg (by simp [hload]), hturn]
  dsimp only
  rw [hnext]
  dsimp only
  rw [if_neg (by simp [hop]), hnew, if_neg Bool.false_ne_true, hwait, if_neg Bool.false_ne_true] <;> rfl

/-- Operands of the context's present generation stay as they are. -/
theorem reTranslate_of_fresh {s : State} {asid : Nat} (op e : Nat) (got : List Got) {l : List Opnd}
    (h : staleOpnds s asid l = []) (acc : List Opnd) (n : Nat) :
    reTranslate op e asid got l acc n s = (.ok (acc ++ l), s) := by
  induction l generalizing acc with
  | nil => rw [reTranslate, List.append_nil]
  | cons o l ih =>
    obtain ⟨hgen, hrest⟩ : o.gen = (ctxAt s asid).gen ∧ staleOpnds s asid l = [] := by
      simp only [staleOpnds, List.filter_eq_nil_iff] at h ⊢
      exact ⟨by simpa using h o List.mem_cons_self, fun a ha => h a (List.mem_cons_of_mem o ha)⟩
    rw [reTranslate, if_pos hgen, ih hrest, List.append_assoc, List.singleton_append]

theorem redone_of_fresh {s : State} {q : Nat} {b : Batch} (h : Fresh s q b) (e op : Nat) :
    redone s e q op b = (.ok (hereOpnds b), s) := reTranslate_of_fresh op e _ h [] 0

theorem engineStep_of_fresh {s : State} {e q op : Nat} {b : Batch} (h : AtTurn s e q op b) (hfresh : Fresh s q b)
    (f : Nat → TQueue → Batch → Cmd → List Opnd → State → State) :
    engineStep op e f s = f q (queueAt s q) b (wordAt b.words b.seq.pos) (hereOpnds b) (useTurn e q 0 s) := by
  rw [engineStep_of_turn h, redone_of_fresh hfresh, show staleOpnds s (queueAt s q).asid (hereOpnds b) = [] from hfresh]
  rfl

/-- Each row of the engines is a step of its engine for its OP. -/
theorem exec_engineRow {f : Fin 32} {e : Fin 8} {i : Instr} {n op : Nat} (h : (i, n, op) ∈ engineRows f e) (s : State) :
    ∃ g, exec i s = .next (engineStep op n g s) := by
  simp only [engineRows, List.mem_cons, List.not_mem_nil, or_false, Prod.mk.injEq] at h
  rcases h with ⟨rfl, rfl, rfl⟩ | ⟨rfl, rfl, rfl⟩ | ⟨rfl, rfl, rfl⟩ | ⟨rfl, rfl, rfl⟩ | ⟨rfl, rfl, rfl⟩ | ⟨rfl, rfl, rfl⟩
    | ⟨rfl, rfl, rfl⟩
  · exact ⟨_, rfl⟩
  · exact ⟨_, rfl⟩
  · exact ⟨_, rfl⟩
  · exact ⟨_, rfl⟩
  · exact ⟨_, rfl⟩
  · exact ⟨_, rfl⟩
  · exact ⟨_, rfl⟩

/-! ### The first step of a command -/

theorem ferryStart_of_legal {b : Batch} {c : Cmd} (h : indexBad b c = false) (q : Nat) (x : TQueue) (l : List Opnd) (s : State) :
    ferryStart q x b c l s = ferryBegin q b c l s := by rw [ferryStart, h, if_neg Bool.false_ne_true]

theorem ferryStart_of_bad {b : Batch} {c : Cmd} (h : indexBad b c = true) (q : Nat) (x : TQueue) (l : List Opnd) (s : State) :
    ferryStart q x b c l s = failDispatch q b Status.TQ_INDEX s := if_pos h

theorem gatherStart_of_legal {b : Batch} {c : Cmd} (h : indexBad b c = false) (q : Nat) (x : TQueue) (l : List Opnd)
    (s : State) : gatherStart q x b c l s = gatherBegin q x b c l s := by rw [gatherStart, h, if_neg Bool.false_ne_true]

theorem gatherStart_of_bad {b : Batch} {c : Cmd} (h : indexBad b c = true) (q : Nat) (x : TQueue) (l : List Opnd) (s : State) :
    gatherStart q x b c l s = failDispatch q b Status.TQ_INDEX s := if_pos h

theorem kcallStart_of_unstaged {b : Batch} {l : List Opnd} (h : stageSlots b (newInst b l) = []) (e q : Nat) (x : TQueue)
    (c : Cmd) (s : State) : kcallStart e q x b c l s = kcallBegin e q x b c l [] s := if_pos h

theorem kcallStart_of_staged {b : Batch} {l : List Opnd} (h : stageSlots b (newInst b l) ≠ []) {s u : State} {n : Nat}
    (hpick : stagePick s = (some n, u)) (e q : Nat) (x : TQueue) (c : Cmd) : kcallStart e q x b c l s =
      kcallBegin e q x b c l (stageLayout (0xBD400000 + n * 0x40000) (stageSlots b (newInst b l))) u := by
  rw [kcallStart, if_neg h, hpick]

/-! ### Staging buffers (R329) -/

theorem stagePick_of_free {s : State} (h : ∃ n, n < 64 ∧ stageFree s n = true) :
    ∃ n u, stagePick s = (some n, u) ∧ n < 64 ∧ stageFree s n = true ∧ u = { s with free := u.free } := by
  obtain ⟨n, hn, hfree⟩ := h
  generalize hr : (draw 6 s).1.toNat = r
  have hsome : (((List.range 64).map (fun k => (r + k) % 64)).find? (stageFree s)).isSome = true := by
    refine List.find?_isSome.2 ⟨n, List.mem_map.2 ⟨(n + 64 * r - r) % 64, List.mem_range.2 (Nat.mod_lt _ (by decide)), ?_⟩, hfree⟩
    omega
  obtain ⟨m, hm⟩ := Option.isSome_iff_exists.1 hsome
  obtain ⟨k, -, hk⟩ := List.mem_map.1 (List.mem_of_find?_eq_some hm)
  refine ⟨m, (draw 6 s).2, ?_, by rw [← hk]; exact Nat.mod_lt _ (by decide), List.find?_some hm, rfl⟩
  rw [← hm, ← hr]
  rfl

/-! ### What a turn and a dispatch leave -/

theorem queueAt_takeTurn (e q : Nat) (s : State) (p : Nat) : queueAt (takeTurn e q s) p = queueAt s p := rfl

theorem regs_takeTurn (e q : Nat) (s : State) : (takeTurn e q s).regs = s.regs := rfl

theorem queueAt_useTurn_same (e q n : Nat) (s : State) :
    queueAt (useTurn e q n s) q = { queueAt s q with regot := [] } := by
  rw [useTurn, queueAt_congr (bumpBy_tq ..), queueAt_takeTurn, queueAt_setQueue_same]

theorem queueAt_useTurn_ne {p q : Nat} (h : p ≠ q) (e n : Nat) (s : State) :
    queueAt (useTurn e q n s) p = queueAt s p := by
  rw [useTurn, queueAt_congr (bumpBy_tq ..), queueAt_takeTurn, queueAt_setQueue_ne h]

theorem regsBut_useTurn (e q n : Nat) (s : State) : RegsBut [(.XLT_RETRANS, 0)] s (useTurn e q n s) := by
  rw [useTurn, bumpBy]
  refine RegsBut.trans ?_ (RegsBut.setF (f := F.XLT_RETRANS.COUNT) (i := 0) (by decide) _ _)
  exact RegsBut.of_regs_eq (by rw [regs_takeTurn, regs_setQueue])

theorem close_fields (b : Batch) : (Batch.close b).first = b.first ∧ (Batch.close b).insts = b.insts ∧
    (Batch.close b).seq = b.seq := by
  rw [Batch.close]
  split <;> exact ⟨rfl, rfl, rfl⟩

theorem goto_fields (b : Batch) (pos : Nat) : (b.goto pos).first = b.first ∧ (b.goto pos).insts = b.insts ∧
    (b.goto pos).seq = { b.seq with dseq := b.seq.dseq + 1, pos := pos } := by
  rw [Batch.goto]
  exact close_fields _

theorem mem_batches_modBatch {q : Nat} {b : Batch} {s : State} (h : b ∈ (queueAt s q).batches) (f : Batch → Batch) :
    f b ∈ (queueAt (modBatch q b.first f s) q).batches := by
  rw [modBatch, queueAt_setQueue_same]
  exact List.mem_map.2 ⟨b, h, if_pos rfl⟩

/-- Settles O29: an engine's step at its queue's turn through `engineStep_of_turn`, with nothing to translate again through
`engineStep_of_fresh`. -/
theorem enginesDispatchInTurn : Obligations.EnginesDispatchInTurn := by
  refine ⟨fun e q b c s hc hfresh => ⟨fun h => ⟨fun hi => ?_, fun hi => ?_⟩, fun h hopen => ⟨fun hi => ?_, fun hi => ?_⟩,
      fun h => ⟨fun hi => ?_, fun hi => ?_⟩⟩,
    fun e q b c s hc hfresh => ⟨fun h => ⟨fun hlost => ?_, fun hlost => ?_⟩, fun h => ⟨fun hs => ?_, fun hs n u hpick => ?_⟩,
      fun h => ⟨fun hi => ?_, fun hi => ?_⟩, fun h => ⟨fun hi => ?_, fun hi => ?_⟩, fun h => ?_⟩,
    fun s h => stagePick_of_free h, fun f e i n op q b s hrow h => ⟨fun k u hgone => ?_, fun pg acc u hneed => ?_⟩,
    fun e q b l s u h hdone hi => ?_,
    fun e q n s _ => ⟨queueAt_useTurn_same .., fun p hp => queueAt_useTurn_ne hp .., regsBut_useTurn e q n s⟩,
    fun q b i s hb => ?_⟩
  · refine congrArg Host.Outcome.next ?_
    rw [engineStep_of_fresh h hfresh, ← hc, ferryStart_of_legal hi]
  · refine congrArg Host.Outcome.next ?_
    rw [engineStep_of_fresh h hfresh, ← hc, ferryStart_of_bad hi]
  · refine (next_onlyIf hopen _ s).trans (congrArg Host.Outcome.next ?_)
    rw [engineStep_of_fresh h hfresh, ← hc, ferryStart_of_legal hi]
  · refine (next_onlyIf hopen _ s).trans (congrArg Host.Outcome.next ?_)
    rw [engineStep_of_fresh h hfresh, ← hc, ferryStart_of_bad hi]
  · refine congrArg Host.Outcome.next ?_
    rw [engineStep_of_fresh h hfresh, ← hc, ferryStart_of_legal hi]
  · refine congrArg Host.Outcome.next ?_
    rw [engineStep_of_fresh h hfresh, ← hc, ferryStart_of_bad hi]
  · refine congrArg Host.Outcome.next ?_
    rw [engineStep_of_fresh h hfresh, ← hc, reckonStart, hlost, if_neg Bool.false_ne_true]
  · refine congrArg Host.Outcome.next ?_
    rw [engineStep_of_fresh h hfresh, ← hc, reckonStart, hlost, if_pos rfl]
  · refine congrArg Host.Outcome.next ?_
    rw [engineStep_of_fresh h hfresh, ← hc, kcallStart_of_unstaged hs]
  · refine congrArg Host.Outcome.next ?_
    rw [engineStep_of_fresh h hfresh, ← hc, kcallStart_of_staged hs hpick]
  · refine congrArg Host.Outcome.next ?_
    rw [engineStep_of_fresh h hfresh, ← hc, gatherStart_of_legal hi]
  · refine congrArg Host.Outcome.next ?_
    rw [engineStep_of_fresh h hfresh, ← hc, gatherStart_of_bad hi]
  · refine congrArg Host.Outcome.next ?_
    rw [engineStep_of_fresh h hfresh, ← hc, gatherStart_of_legal hi]
  · refine congrArg Host.Outcome.next ?_
    rw [engineStep_of_fresh h hfresh, ← hc, gatherStart_of_bad hi]
  · refine congrArg Host.Outcome.next ?_
    rw [engineStep_of_fresh h hfresh, ← hc]
  · obtain ⟨g, hexec⟩ := exec_engineRow hrow s
    rw [hexec, engineStep_of_turn h, hgone]
  · obtain ⟨g, hexec⟩ := exec_engineRow hrow s
    rw [hexec, engineStep_of_turn h, hneed]
  · refine congrArg Host.Outcome.next ?_
    rw [engineStep_of_turn h, hdone]
    exact ferryStart_of_legal hi ..
  · obtain ⟨hfirst, hinsts, hseq⟩ := goto_fields { b with insts := b.insts ++ [i] } (b.seq.pos + 1)
    exact ⟨_, mem_batches_modBatch hb _, hfirst, hinsts, hseq⟩

end Sys2Proof.Machine
end

section
/-! How dispatched instances end, and what they staged is applied (R282, R327, R422, R444, R469, R474, R489-R492). -/

namespace Sys2Proof.Machine

/-! ### Accesses that reach their memory at once (R114, R115) -/

theorem whenReached_of_none {s : State} {e : Nat} {xs : List (Nat × Extent)} (h : engineWait s e xs = none)
    (f : State → State) : whenReached e xs f s = f s := by rw [whenReached, h]

theorem whenReached_of_some {s : State} {e m : Nat} {xs : List (Nat × Extent)} (h : engineWait s e xs = some m)
    (f : State → State) : whenReached e xs f s = askWake m s := by rw [whenReached, h]

/-! ### COMMAND_COMMIT (R469) -/

section Commit

variable {q asn dseq held : Nat} {noise : Option (Nat × BitVec 512)} {b : Batch} {i : Inst} {s : State}

theorem commandCommit_of_counter (hinst : instOf s q asn dseq = some (b, i)) (hphase : i.phase = .run)
    (hop : i.op = 0x07 ∨ i.op = 0x08) : commandCommit q asn dseq noise held s = stageInst q b.first dseq Status.OK s := by
  rcases hop with hop | hop
  · simp [commandCommit, hinst, hphase, hop]
  · simp [commandCommit, hinst, hphase, hop]

theorem commandCommit_of_ferry_early (hinst : instOf s q asn dseq = some (b, i)) (hphase : i.phase = .run)
    (hop : i.op = 0x10 ∨ i.op = 0x11 ∨ i.op = 0x12) (hready : ferryReady (b.cmdOf i) i = false) :
    commandCommit q asn dseq noise held s = ferryPump q b.first dseq s := by
  rcases hop with hop | hop | hop
  · simp [commandCommit, hinst, hphase, hop, hready]
  · simp [commandCommit, hinst, hphase, hop, hready]
  · simp [commandCommit, hinst, hphase, hop, hready]

theorem commandCommit_of_ferry_asleep (hinst : instOf s q asn dseq = some (b, i)) (hphase : i.phase = .run)
    (hop : i.op = 0x10 ∨ i.op = 0x11 ∨ i.op = 0x12) (hready : ferryReady (b.cmdOf i) i = true) {w : Nat}
    (hwait : engineWait s (queueAt s q).eng (ferryLeft (b.cmdOf i) i) = some w) :
    commandCommit q asn dseq noise held s = askWake w s := by
  rcases hop with hop | hop | hop
  · simp [commandCommit, hinst, hphase, hop, hready, whenReached_of_some hwait]
  · simp [commandCommit, hinst, hphase, hop, hready, whenReached_of_some hwait]
  · simp [commandCommit, hinst, hphase, hop, hready, whenReached_of_some hwait]

theorem commandCommit_of_ferry (hinst : instOf s q asn dseq = some (b, i)) (hphase : i.phase = .run)
    (hop : i.op = 0x10 ∨ i.op = 0x11 ∨ i.op = 0x12) (hready : ferryReady (b.cmdOf i) i = true)
    (hwait : engineWait s (queueAt s q).eng (ferryLeft (b.cmdOf i) i) = none) {m : Mv} {st : Nat} {s1 s2 : State}
    (hfinish : ferryFinish (queueAt s q) (b.cmdOf i) i noise s = (m, s1))
    (hstatus : transferStatus q (queueAt s q) i m s1 = (st, s2)) :
    commandCommit q asn dseq noise held s = commitOr q b.first dseq st s2 := by
  rcases hop with hop | hop | hop
  · simp [commandCommit, hinst, hphase, hop, hready, whenReached_of_none hwait, hfinish, hstatus]
  · simp [commandCommit, hinst, hphase, hop, hready, whenReached_of_none hwait, hfinish, hstatus]
  · simp [commandCommit, hinst, hphase, hop, hready, whenReached_of_none hwait, hfinish, hstatus]

theorem commandCommit_of_gather (hinst : instOf s q asn dseq = some (b, i)) (hphase : i.phase = .run)
    (hop : i.op = 0x30 ∨ i.op = 0x31) (hready : gatherReady s b i = true)
    (hwait : engineWait s (queueAt s q).eng (gatherLeft s b i) = none) {st : Nat} {s1 : State}
    (hfinish : gatherFinish q (queueAt s q) b (b.cmdOf i) i noise s = (st, s1)) :
    commandCommit q asn dseq noise held s = commitOr q b.first dseq st s1 := by
  rcases hop with hop | hop
  · simp [commandCommit, hinst, hphase, hop, hready, whenReached_of_none hwait, hfinish]
  · simp [commandCommit, hinst, hphase, hop, hready, whenReached_of_none hwait, hfinish]

theorem commandCommit_of_reckon (hinst : instOf s q asn dseq = some (b, i)) (hphase : i.phase = .run) (hop : i.op = 0x20)
    {v : Verdict} {st : Nat} (hv : i.verdict = some v) (hst : i.result = some st) :
    commandCommit q asn dseq noise held s = commitReckon q b i st held s := by
  simp [commandCommit, hinst, hphase, hop, hv, hst]

theorem commandCommit_of_kcall (hinst : instOf s q asn dseq = some (b, i)) (hphase : i.phase = .run) (hop : i.op = 0x21)
    {l : Launch} (hl : i.launch = some l) (hagain : l.again = false ∨ l.st ≠ 0) (hbusy : launchBusy s l.id = false) :
    commandCommit q asn dseq noise held s = commitOr q b.first dseq
      (if l.st ≠ 0 then l.st else if l.poison then Status.TQ_POISON else Status.OK) s := by
  have hrerun : ¬ (l.again = true ∧ l.st = 0) := by
    rcases hagain with h | h
    · simp [h]
    · simp [h]
  simp [commandCommit, hinst, hphase, hop, hl, hrerun, hbusy]

theorem commandCommit_of_coll (hinst : instOf s q asn dseq = some (b, i)) (hphase : i.phase = .run) (hop : i.op = 0x32)
    {st : Nat} (hst : i.result = some st) :
    commandCommit q asn dseq noise held s = commitOr q b.first dseq st s := by
  simp [commandCommit, hinst, hphase, hop, hst]

theorem commandCommit_of_coll_error (hinst : instOf s q asn dseq = some (b, i)) (hphase : i.phase = .run) (hop : i.op = 0x32)
    (hst : i.result = none) (herr : i.xfer.err ≠ 0) {cs : CollSt} (hcs : i.coll = some cs) (hlsn : cs.commitLsn = 0) :
    commandCommit q asn dseq noise held s = commitOr q b.first dseq i.xfer.err s := by
  simp [commandCommit, hinst, hphase, hop, hst, herr, hcs, hlsn]

end Commit

/-! ### The verdict of a RECKON that ended in an exception (R444, R446) -/

theorem reckonVerdict_of_exception (c : Cmd) (d : RkData) (r : DispRec) (point err : Nat) {st : Nat} (hst : st ≠ 0)
    (poison gap unmir : Bool) : (reckonVerdict c d r point err st poison gap unmir).1.verdict = 3 := by
  unfold reckonVerdict
  dsimp only
  split
  · rfl
  · split
    · rfl
    · rfl

theorem reckonRead_of_no_opnds {i : Inst} (h : i.opnds = []) (x : TQueue) (c : Cmd) (role : Nat) (s : State) :
    reckonRead x c i role s = ([], 0, false, s) := by
  simp [reckonRead, Inst.opnd, h]

theorem reckonPlaces_of_no_opnds {i : Inst} (h : i.opnds = []) (b : Batch) : reckonPlaces b i = [] := by
  simp [reckonPlaces, Inst.opnd, h]

theorem regs_endInstance (c : Nat) (s : State) : (endInstance c s).regs = s.regs := rfl

theorem regs_endLaunch (id : Nat) (s : State) : (endLaunch id s).regs = s.regs := by
  unfold endLaunch
  generalize s.bead.cores = l
  induction l generalizing s with
  | nil => rfl
  | cons e l ih =>
    rw [List.foldl_cons, ih]
    split
    · split
      · exact regs_endInstance _ _
      · rfl
    · rfl

theorem regs_putBatch (q : Nat) (b : Batch) (s : State) : (putBatch q b s).regs = s.regs := rfl

theorem regs_putInst (q first : Nat) (i : Inst) (s : State) : (putInst q first i s).regs = s.regs := by
  unfold putInst
  split
  · exact regs_putBatch _ _ _
  · rfl

theorem verdictNotes_of_unchecked {v : Verdict} (h : v.verdict = 3) (q : Nat) (x : TQueue) (asn : Nat) (i : Inst) (st : Nat)
    (s : State) : verdictNotes q x asn i v st s = post
      { code := Ev.TLY_UNCHECKED, asid := x.asid, queue := some q, mark := i.snap.mark, inst := x.eng,
        d0 := st + i.idx * 2 ^ 16, d1 := asn }
      (bump F.TLY_UNCHECKED.COUNT 0 (if v.flags % 2 = 1 then bump F.TLY_GAP.COUNT 0 s else s)) := by
  unfold verdictNotes
  dsimp only
  split
  · omega
  · omega
  · rfl

/-- The counters of an UNCHECKED verdict (R446). -/
theorem verdictNotes_unchecked {v : Verdict} (h : v.verdict = 3) (q : Nat) (x : TQueue) (asn : Nat) (i : Inst) (st : Nat)
    (s : State) : getF (verdictNotes q x asn i v st s) F.TLY_UNCHECKED.COUNT
        = min (getF s F.TLY_UNCHECKED.COUNT + 1) (2 ^ F.TLY_UNCHECKED.COUNT.width - 1) ∧
      getF (verdictNotes q x asn i v st s) F.TLY_PASS.COUNT = getF s F.TLY_PASS.COUNT ∧
      getF (verdictNotes q x asn i v st s) F.TLY_FAIL.COUNT = getF s F.TLY_FAIL.COUNT := by
  rw [verdictNotes_of_unchecked h]
  refine ⟨?_, ?_, ?_⟩
  · rw [getF_post _ _ _ _ rfl, getF_bump_same _ _ _ rfl, getF_ite, getF_bump_of_reg (by decide), ite_self]
  · rw [getF_post _ _ _ _ rfl, getF_bump_of_reg (by decide), getF_ite, getF_bump_of_reg (by decide), ite_self]
  · rw [getF_post _ _ _ _ rfl, getF_bump_of_reg (by decide), getF_ite, getF_bump_of_reg (by decide), ite_self]

theorem getF_add64_of_reg {f : Fld} {lo hi : Reg} (hlo : lo ≠ f.reg) (hhi : hi ≠ f.reg) (i j n : Nat) (s : State) :
    getF (add64 lo hi i n s) f j = getF s f j := by
  rw [add64, set64, getF_setReg_of_reg hhi, getF_setReg_of_reg hlo]

/-- A RECKON without operands whose launch ended in an exception: its verdict is UNCHECKED. -/
theorem reckonDone_of_exception {q asn dseq held : Nat} {b : Batch} {i : Inst} {l : Launch} {r : DispRec} {s : State}
    (hinst : instOf s q asn dseq = some (b, i)) (hl : i.launch = some l) (hr : b.disp dseq = some r) (hop : i.op = 0x20)
    (hphase : i.phase = .run) (hv : i.verdict = none) (hst : l.st ≠ 0) (hbusy : launchBusy s l.id = false)
    (hopnds : i.opnds = []) : ∃ v st, v.verdict = 3 ∧ reckonDone q asn dseq held s =
      verdictNotes q (queueAt s q) (b.first + i.idx) i v st (putInst q b.first { i with verdict := some v, result := some st }
        (endLaunch l.id (add64 .TLY_HOLD_LO .TLY_HOLD_HI 0 held s))) := by
  have hwait : engineWait s (queueAt s q).eng (reckonPlaces b i) = none := by
    rw [reckonPlaces_of_no_opnds hopnds]
    rfl
  simp only [reckonDone, hinst, hl, hr, hop, hphase, hv, hst, hbusy, reckonRead_of_no_opnds hopnds, whenReached_of_none hwait,
    if_false, and_false, ne_eq, not_true_eq_false, Option.isSome_none, Bool.false_eq_true, or_self, Bool.not_false, Bool.not_true]
  exact ⟨_, _, reckonVerdict_of_exception _ _ _ _ _ hst _ _ _, rfl⟩

theorem collCommitDurable_of_reached {q asn dseq : Nat} {b : Batch} {i : Inst} {cs : CollSt} {s : State}
    (hinst : instOf s q asn dseq = some (b, i)) (hcs : i.coll = some cs) (hwork : i.working = true) (hlsn : cs.commitLsn ≠ 0)
    (hdur : durable s (cs.commitLsn - 1) = true)
    (hwait : engineWait s (queueAt s q).eng (contribPlaces s (b.cmdOf i) i (groupMembers (cGroup (b.cmdOf i)))
      ++ (List.range (cSectors (b.cmdOf i))).filterMap (fun k => (i.sector 1 k).map (fun y => (2, y)))) = none) :
    collCommitDurable q asn dseq s = putInst q b.first
      { i with result := some (collStored (queueAt s q) i (collOuts (queueAt s q) (b.cmdOf i) i s)).1 }
      (collStored (queueAt s q) i (collOuts (queueAt s q) (b.cmdOf i) i s)).2 := by
  unfold collCommitDurable
  rw [hinst]
  dsimp only
  rw [hcs]
  dsimp only
  rw [if_neg (by simp [hwork, hdur, hlsn]), whenReached_of_none hwait]
  rfl

/-- Settles O30: COMMAND_COMMIT by the kind of command, and the other rows through the equation of their branch. -/
theorem instancesEndAndApply : Obligations.InstancesEndAndApply := by
  refine ⟨fun q asn dseq k noise b i m s s1 hrun hinst hphase hdealt hready hwait hfinish => ?_,
    fun q asn dseq noise held b i s hrun hinst hphase => ?_, fun q b i s hrun hold => ⟨fun hdur hwait => ?_, fun hdur => ?_⟩,
    fun q asn dseq b i l s hrun hinst hop hphase hl hst => ?_,
    fun q asn dseq b i cs s hrun hinst hcs hwork => ⟨fun hlsn => ?_, fun hlsn hsent hint hdur => ⟨?_, ?_⟩,
      fun hlsn hdur hwait => ?_⟩,
    fun q asn dseq held b i l r s hrun hinst hl hr hop hphase hv hst hbusy hopnds => ?_⟩
  · refine (next_onlyIf hrun _ s).trans (congrArg Host.Outcome.next ?_)
    have hsome : (mapFind i.xfer.dealt k).isNone = false := by rw [← Option.not_isSome, hdealt]; rfl
    simp [ferryPiece, hinst, hphase, hsome, hready, whenReached_of_none hwait, hfinish]
  · have hexec : exec (.commandCommit q asn dseq noise held) s
        = .next (commandCommit q asn.toNat dseq.toNat noise held.toNat s) := next_onlyIf hrun _ s
    rw [hexec]
    refine ⟨fun hop => ?_, fun hop hready => ?_, fun hop hready w hwait => ?_, fun hop hready hwait st s1 hfinish => ?_,
      fun hop v st hv hst => ?_, fun hop l hl hagain hbusy => ?_,
      fun hop hready hwait m s1 st s2 hfinish hstatus => ?_, fun hop st hst => ?_, fun hop hst herr cs hcs hlsn => ?_⟩
    · rw [commandCommit_of_counter hinst hphase hop]
    · rw [commandCommit_of_ferry_early hinst hphase hop hready]
    · rw [commandCommit_of_ferry_asleep hinst hphase hop hready hwait]
    · rw [commandCommit_of_gather hinst hphase hop hready hwait hfinish]
    · rw [commandCommit_of_reckon hinst hphase hop hv hst]
    · rw [commandCommit_of_kcall hinst hphase hop hl hagain hbusy]
    · rw [commandCommit_of_ferry hinst hphase hop hready hwait hfinish hstatus]
    · rw [commandCommit_of_coll hinst hphase hop hst]
    · rw [commandCommit_of_coll_error hinst hphase hop hst herr hcs hlsn]
  · refine (next_onlyIf hrun _ s).trans (congrArg Host.Outcome.next ?_)
    simp [stagedApply, hold, hdur, whenReached_of_none hwait]
  · refine (next_onlyIf hrun _ s).trans (congrArg Host.Outcome.next ?_)
    simp [stagedApply, hold, hdur]
  · refine (next_onlyIf hrun _ s).trans (congrArg Host.Outcome.next ?_)
    simp [kcallTimeout, hinst, hl, hop, hphase, hst]
  · refine (next_onlyIf hrun _ s).trans (congrArg Host.Outcome.next ?_)
    simp [collTimeout, hinst, hcs, hwork, hlsn]
  · refine (next_onlyIf hrun _ s).trans (congrArg Host.Outcome.next ?_)
    simp [collReadyDurable, hinst, hcs, hwork, hlsn, hsent, hint, hdur]
  · refine (next_onlyIf hrun _ s).trans (congrArg Host.Outcome.next ?_)
    simp [collReadyDurable, hinst, hcs, hwork, hlsn, hsent, hint, hdur]
  · refine (next_onlyIf hrun _ s).trans (congrArg Host.Outcome.next ?_)
    rw [collCommitDurable_of_reached hinst hcs hwork hlsn hdur hwait]
  · refine .of_eq (t := reckonDone q asn.toNat dseq.toNat held.toNat s) (next_onlyIf hrun _ s) ?_
    obtain ⟨v, st, hv3, heq⟩ := reckonDone_of_exception (held := held.toNat) hinst hl hr hop hphase hv hst hbusy hopnds
    obtain ⟨hunch, hpass, hfail⟩ := verdictNotes_unchecked hv3 q (queueAt s q) (b.first + i.idx) i st
      (putInst q b.first { i with verdict := some v, result := some st }
        (endLaunch l.id (add64 .TLY_HOLD_LO .TLY_HOLD_HI 0 held.toNat s)))
    rw [heq, hunch, hpass, hfail]
    have hkept : ∀ f : Fld, f.reg ≠ .TLY_HOLD_LO → f.reg ≠ .TLY_HOLD_HI → getF (putInst q b.first
        { i with verdict := some v, result := some st } (endLaunch l.id (add64 .TLY_HOLD_LO .TLY_HOLD_HI 0 held.toNat s))) f
          = getF s f := fun f hlo hhi => by
      rw [getF_congr (regs_putInst ..), getF_congr (regs_endLaunch ..), getF_add64_of_reg hlo.symm hhi.symm]
    rw [hkept _ (by decide) (by decide), hkept _ (by decide) (by decide), hkept _ (by decide) (by decide)]
    exact ⟨rfl, rfl, rfl⟩

end Sys2Proof.Machine
end


/-! ### Bead instructions that compute, branch and jump (R351, R357, R358) -/
section

namespace Sys2Proof.Machine

/-- An instruction at the pc, with every value that its core awaits there, does what its row says. -/
theorem issue_of_landed {c : Nat} {w : KWord} {s : State} (h : AtIns s c w) {p : KWord → Bool} (hp : p w = true)
    (hl : Landed s c) (reads : KWord → List Nat) (f : Core → KWord → State → State) :
    issue c p reads f s = f (coreAt s c) w s := by
  obtain ⟨hrun, hact, hfetch, hlegal⟩ := h
  have hl' : ∀ n, mapFind (coreAt s c).busy n = none := hl
  simp [issue, hrun, hact, hfetch, hlegal, hp, hl']

/-- An instruction which reads a register that still awaits its value waits, where no late exception is pending. -/
theorem issue_of_busy {c : Nat} {w : KWord} {s : State} (h : AtIns s c w) {p : KWord → Bool} (hp : p w = true)
    {reads : KWord → List Nat} {n : Nat} (hn : n ∈ reads w) (hb : (mapFind (coreAt s c).busy n).isSome = true)
    (hlate : (coreAt s c).late = none) (f : Core → KWord → State → State) : issue c p reads f s = s := by
  obtain ⟨hrun, hact, hfetch, hlegal⟩ := h
  have hany : (reads w).any (fun n => (mapFind (coreAt s c).busy n).isSome) = true := List.any_eq_true.2 ⟨n, hn, hb⟩
  simp only [issue, hrun, hact, hfetch, hlegal, hp, hany, hlate, Bool.not_true, Bool.or_self, Bool.and_self,
    Bool.false_eq_true, if_false, if_true]

theorem isR_of {fn : Nat} {w : KWord} (h0 : kOp w = 0) (hfn : kFn w = fn) : isR fn w = true := by
  simp [isR, h0, hfn]

theorem isOp_of {o : Nat} {w : KWord} (h : kOp w = o) : isOp o w = true := by
  simp [isOp, h]

/-- The zero-extended immediate as a bit vector. -/
theorem kUimm_eq (w : KWord) : kUimm w = (w.extractLsb' 16 16).zeroExtend 64 := by
  apply BitVec.eq_of_toNat_eq
  simp [kUimm, kImm, bitsAt, Nat.shiftRight_eq_div_pow]

theorem bit64_slt (a b : BitVec 64) : bit64 (a.slt b) = if a.toInt < b.toInt then 1 else 0 := by
  simp [bit64, BitVec.slt]

theorem bit64_ult (a b : BitVec 64) : bit64 (a.ult b) = if a.toNat < b.toNat then 1 else 0 := by
  simp [bit64, BitVec.ult]

/-- R358: every row of format R computes its function. -/
theorem exec_rrTable (c : CoreId) : ∀ r ∈ rrTable c, ∀ s, exec r.1 s = .next (aluR r.2.1 r.2.2 c s) := by
  simp only [rrTable, List.forall_mem_cons, List.not_mem_nil, false_imp_iff, implies_true, and_true]
  refine ⟨fun s => ?_, fun _ => rfl, fun _ => rfl, fun _ => rfl, fun _ => rfl, fun s => ?_, fun s => ?_, fun _ => rfl,
    fun s => ?_, fun s => ?_, fun s => ?_, fun _ => rfl, fun _ => rfl, fun s => ?_, fun s => ?_, fun _ => rfl⟩
  · exact congrArg (fun f => Host.Outcome.next (aluR 0 f c s)) (funext fun a => funext fun b => by
      apply BitVec.eq_of_toNat_eq; simp)
  · exact congrArg (fun f => Host.Outcome.next (aluR 5 f c s)) (funext fun a => funext fun b => by
      apply BitVec.eq_of_toNat_eq; simp [Nat.shiftLeft_eq])
  · exact congrArg (fun f => Host.Outcome.next (aluR 6 f c s)) (funext fun a => funext fun b => by
      apply BitVec.eq_of_toNat_eq
      have := Nat.div_le_self a.toNat (2 ^ (b.toNat % 64))
      simp [Nat.shiftRight_eq_div_pow, Nat.mod_eq_of_lt (Nat.lt_of_le_of_lt this a.isLt)])
  · exact congrArg (fun f => Host.Outcome.next (aluR 8 f c s)) (funext fun a => funext fun b => bit64_slt a b)
  · exact congrArg (fun f => Host.Outcome.next (aluR 9 f c s)) (funext fun a => funext fun b => bit64_ult a b)
  · exact congrArg (fun f => Host.Outcome.next (aluR 10 f c s)) (funext fun a => funext fun b => by
      apply BitVec.eq_of_toNat_eq; simp)
  · exact congrArg (fun f => Host.Outcome.next (aluR 13 f c s)) (funext fun a => funext fun b => by
      have := Nat.div_le_self a.toNat b.toNat
      split
      · rfl
      · apply BitVec.eq_of_toNat_eq; simp [Nat.mod_eq_of_lt (Nat.lt_of_le_of_lt this a.isLt)])
  · exact congrArg (fun f => Host.Outcome.next (aluR 14 f c s)) (funext fun a => funext fun b => by
      have := Nat.mod_le a.toNat b.toNat
      split
      · rfl
      · apply BitVec.eq_of_toNat_eq; simp [Nat.mod_eq_of_lt (Nat.lt_of_le_of_lt this a.isLt)])

/-- R358: what a format I row leaves in rd, for an immediate that the row admits. -/
def RiRow (c : CoreId) (r : Instr × Nat × (BitVec 64 → KWord → BitVec 64)) : Prop :=
  ∃ op, (∀ s, exec r.1 s = .next (aluI r.2.1 op c s)) ∧
    ∀ d a w, kOp w = r.2.1 → legal d w = true → op a w = r.2.2 a w

theorem riRow_of_eq {c : CoreId} {i : Instr} {o : Nat} {op op' : BitVec 64 → KWord → BitVec 64}
    (h : ∀ s, exec i s = .next (aluI o op c s)) (he : ∀ a w, op a w = op' a w) : RiRow c (i, o, op') :=
  ⟨op, h, fun _ a w _ _ => he a w⟩

/-- The kind of SHI, from a legal immediate. -/
theorem shiftImm_of_legal (d : Bool) (a : BitVec 64) (w : KWord) (ho : kOp w = 7) (hl : legal d w = true) :
    shiftImm a w = if bitsAt w 22 2 = 0 then a <<< bitsAt w 16 6 else if bitsAt w 22 2 = 1 then a >>> bitsAt w 16 6
      else a.sshiftRight (bitsAt w 16 6) := by
  have himm : kImm w < 0xC0 := by simpa [legal, ho] using hl
  have hn : kImm w % 64 = bitsAt w 16 6 := by
    simp only [kImm, bitsAt]; omega
  have hk : kImm w / 64 = bitsAt w 22 2 := by
    simp only [kImm, bitsAt] at himm ⊢; omega
  have h3 : bitsAt w 22 2 < 3 := by omega
  rw [shiftImm, hn, hk]
  generalize bitsAt w 22 2 = k at h3 ⊢
  match k, h3 with
  | 0, _ => rfl
  | 1, _ => rfl
  | 2, _ => rfl

theorem riRow_riTable (c : CoreId) : ∀ r ∈ riTable c, RiRow c r := by
  simp only [riTable, List.forall_mem_cons, List.not_mem_nil, false_imp_iff, implies_true, and_true]
  exact ⟨riRow_of_eq (fun _ => rfl) (fun _ _ => rfl), riRow_of_eq (fun _ => rfl) (fun _ w => by rw [← kUimm_eq]),
    riRow_of_eq (fun _ => rfl) (fun _ w => by rw [← kUimm_eq]), riRow_of_eq (fun _ => rfl) (fun _ w => by rw [← kUimm_eq]),
    riRow_of_eq (fun _ => rfl) (fun a w => bit64_slt a (kSimm w)), riRow_of_eq (fun _ => rfl) (fun a w => bit64_ult a (kSimm w)),
    ⟨shiftImm, fun _ => rfl, fun d a w ho hl => shiftImm_of_legal d a w ho hl⟩,
    riRow_of_eq (fun _ => rfl) (fun _ w => by rw [← kUimm_eq])⟩

/-- R357: every branch compares as its row says. -/
theorem exec_brTable (c : CoreId) : ∀ r ∈ brTable c, ∀ s, exec r.1 s = .next (branchIf r.2.1 r.2.2 c s) := by
  simp only [brTable, List.forall_mem_cons, List.not_mem_nil, false_imp_iff, implies_true, and_true]
  refine ⟨fun s => ?_, fun s => ?_, fun s => rfl, fun s => ?_, fun s => rfl, fun s => ?_⟩
  · exact congrArg (fun f => Host.Outcome.next (branchIf 0x28 f c s)) (funext fun a => funext fun b => by
      rw [Bool.eq_iff_iff]; simp)
  · exact congrArg (fun f => Host.Outcome.next (branchIf 0x29 f c s)) (funext fun a => funext fun b => by
      rw [Bool.eq_iff_iff]; simp)
  · exact congrArg (fun f => Host.Outcome.next (branchIf 0x2B f c s)) (funext fun a => funext fun b => by
      simp [BitVec.slt, ← decide_not])
  · exact congrArg (fun f => Host.Outcome.next (branchIf 0x2D f c s)) (funext fun a => funext fun b => by
      simp [BitVec.ult, ← decide_not])

@[simp] theorem Core.gr_zero (k : Core) : k.gr 0 = 0 := rfl

/-- R351: a g register reads what was last written to it; g0 reads 0. -/
theorem Core.gr_wr (k : Core) (n m : Nat) (v : BitVec 64) :
    (k.wr n v).gr m = if m = n ∧ n ≠ 0 then v else k.gr m := by
  by_cases hn : n = 0
  · simp [Core.wr, hn]
  · by_cases hm : m = n
    · simp [Core.wr, Core.gr, hn, hm, mapGet_mapSet_same]
    · simp [Core.wr, Core.gr, hn, hm, mapGet_mapSet_ne]

theorem Core.wr_frame (k : Core) (n : Nat) (v : BitVec 64) :
    (k.wr n v).retired = k.retired ∧ (k.wr n v).scratch = k.scratch ∧ (k.wr n v).k = k.k := by
  unfold Core.wr
  split <;> exact ⟨rfl, rfl, rfl⟩

/-- A register's write leaves the pc where the instruction retires. -/
theorem Core.retire_wr (k : Core) (n : Nat) (v : BitVec 64) : (k.wr n v).retire = (k.wr n v).goto (k.pc + 4) := by
  have hpc : (k.wr n v).pc = k.pc := by
    unfold Core.wr
    split <;> rfl
  rw [Core.retire, hpc]

theorem exec_aluR {c : CoreId} {i : Instr} {fn : Nat} {op : BitVec 64 → BitVec 64 → BitVec 64} {w : KWord} {s : State}
    (hx : exec i s = .next (aluR fn op c s)) (hat : AtIns s c w) (h0 : kOp w = 0) (hfn : kFn w = fn) (hl : Landed s c) :
    exec i s = .next (setCore c
      (((coreAt s c).wr (kF6 w) (op ((coreAt s c).gr (kF11 w)) ((coreAt s c).gr (kF16 w)))).goto ((coreAt s c).pc + 4)) s) := by
  rw [hx, aluR, issue_of_landed hat (isR_of h0 hfn) hl, Core.retire_wr]

/-- Settles O31, row by row through `issue_of_landed`. -/
theorem arithmeticAndBranchInstructions : Obligations.ArithmeticAndBranchInstructions := by
  unfold Obligations.ArithmeticAndBranchInstructions
  refine ⟨?_, ?_, ?_, ?_, ?_⟩
  · intro c i fn op w s hrow hat h0 hfn
    have hx := exec_rrTable c _ hrow s
    exact ⟨exec_aluR hx hat h0 hfn,
      fun hb hlate => hx.trans (congrArg Host.Outcome.next
        (issue_of_busy hat (isR_of h0 hfn) (List.mem_cons_self ..) hb hlate _))⟩
  · intro c i o op w s hrow hat ho hl
    obtain ⟨op', hx, heq⟩ := riRow_riTable c _ hrow
    have hlegal := hat.2.2.2
    rw [hx, aluI, issue_of_landed hat (isOp_of ho) hl, heq _ _ _ ho hlegal, Core.retire_wr]
  · intro c i o cmp w s hrow hat ho hl
    exact (exec_brTable c _ hrow s).trans (congrArg Host.Outcome.next (issue_of_landed hat (isOp_of ho) hl _ _))
  · intro c w s hat hl
    exact ⟨fun ho => congrArg Host.Outcome.next (issue_of_landed hat (isOp_of ho) hl _ _),
      fun ho => congrArg Host.Outcome.next (issue_of_landed hat (isOp_of ho) hl _ _)⟩
  · intro k n m v
    obtain ⟨hret, hscr, hk⟩ := Core.wr_frame k n v
    exact ⟨Core.gr_wr k n m v, rfl, rfl, congrArg (· + 1) hret, hscr, hk⟩

end Sys2Proof.Machine

end


/-! ### Bead instructions that load, store and update memory (R360-R369) -/
section

namespace Sys2Proof.Machine

/-! #### The check of an access (R362, R363) -/

theorem accessCause_of_misaligned {k : Core} {a n perm : Nat} (h : a % n ≠ 0) : accessCause k a n perm = 3 := if_pos h

theorem accessCause_of_outside {k : Core} {a n perm : Nat} (h : a % n = 0) (hscr : inScratch a n = false)
    (hwin : inWindow k a n perm = false) : accessCause k a n perm = 4 := by
  simp [accessCause, h, hscr, hwin]

theorem accessCause_of_admitted {k : Core} {a n perm : Nat} (h : a % n = 0)
    (hin : inScratch a n = true ∨ inWindow k a n perm = true) : accessCause k a n perm = 0 := by
  rcases hin with hscr | hwin
  · simp [accessCause, h, hscr]
  · simp [accessCause, h, hwin]

/-! #### Loads -/
section
variable {c : CoreId} {o n : Nat} {signed : Bool} {w : KWord} {a : Nat} {s : State}
  (hat : AtIns s c w) (ho : kOp w = o) (hl : Landed s c) (ha : a = ((coreAt s c).gr (kF11 w) + kSimm w).toNat)
include hat ho hl ha

theorem gLoad_of_refused {e : Nat} (he : accessCause (coreAt s c) a n 0 = e) (hne : e ≠ 0) :
    gLoad o n signed c s = takeExc c e false (coreAt s c).pc a 0 s := by
  subst ha
  rw [gLoad, issue_of_landed hat (isOp_of ho) hl]
  dsimp only
  rw [he, if_pos hne]

theorem gLoad_of_held (he : accessCause (coreAt s c) a n 0 = 0) (hheld : sectorHeld (coreAt s c) a = true) :
    gLoad o n signed c s = s := by
  subst ha
  rw [gLoad, issue_of_landed hat (isOp_of ho) hl]
  dsimp only
  rw [if_neg (Classical.not_not.2 he), if_pos hheld]

theorem gLoad_of_scratch (he : accessCause (coreAt s c) a n 0 = 0) (hheld : sectorHeld (coreAt s c) a = false)
    (hscr : inScratch a n = true) : gLoad o n signed c s
      = setCore c (((coreAt s c).wr (kF6 w) (loadValue (scratchRead (coreAt s c) a n) n signed)).goto ((coreAt s c).pc + 4)) s := by
  subst ha
  rw [gLoad, issue_of_landed hat (isOp_of ho) hl]
  dsimp only
  rw [if_neg (Classical.not_not.2 he), if_neg (Bool.eq_false_iff.1 hheld), if_pos hscr, Core.retire_wr]

theorem gLoad_of_window (he : accessCause (coreAt s c) a n 0 = 0) (hheld : sectorHeld (coreAt s c) a = false)
    (hscr : inScratch a n = false) (hloads : (coreAt s c).loads < 16) {t : Nat} (ht : freeTag s c = some t) :
    gLoad o n signed c s = setCore c { (((coreAt s c).await (kF6 w)).goto ((coreAt s c).pc + 4)) with
        outs := (coreAt s c).outs ++ [{ tag := t, tok := (coreAt s c).serial, req := .load (kF6 w) n signed (a % 64),
                                        pc := (coreAt s c).pc, addr := a }], tag := t + 1 }
      (coreSend c 0 t a 0 0 false s) := by
  subst ha
  rw [gLoad, issue_of_landed hat (isOp_of ho) hl]
  dsimp only
  rw [if_neg (Classical.not_not.2 he), if_neg (Bool.eq_false_iff.1 hheld), if_neg (Bool.eq_false_iff.1 hscr), ht]
  exact if_neg (Nat.not_le.2 hloads)

end

theorem exec_ldTable (c : CoreId) : ∀ r ∈ ldTable c, ∀ s, exec r.1 s = .next (gLoad r.2.1 r.2.2.1 r.2.2.2 c s) := by
  simp only [ldTable, List.forall_mem_cons, List.not_mem_nil, false_imp_iff, implies_true, and_true]
  exact ⟨fun _ => rfl, fun _ => rfl, fun _ => rfl, fun _ => rfl, fun _ => rfl⟩

/-! #### Stores -/
section
variable {c : CoreId} {o z : Nat} {w : KWord} {a : Nat} {s : State}
  (hat : AtIns s c w) (ho : kOp w = o) (hl : Landed s c) (ha : a = ((coreAt s c).gr (kF11 w) + kSimm w).toNat)
include hat ho hl ha

theorem gStore_of_refused {e : Nat} (he : accessCause (coreAt s c) a (2 ^ z) 1 = e) (hne : e ≠ 0) :
    gStore o z c s = takeExc c e false (coreAt s c).pc a 0 s := by
  subst ha
  rw [gStore, issue_of_landed hat (isOp_of ho) hl]
  dsimp only
  rw [he, if_pos hne]

theorem gStore_of_scratch (he : accessCause (coreAt s c) a (2 ^ z) 1 = 0) (hheld : sectorHeld (coreAt s c) a = false)
    (hscr : inScratch a (2 ^ z) = true) : gStore o z c s
      = setCore c ((scratchWrite a (2 ^ z) ((coreAt s c).gr (kF6 w)).toNat (coreAt s c)).goto ((coreAt s c).pc + 4)) s := by
  subst ha
  rw [gStore, issue_of_landed hat (isOp_of ho) hl]
  dsimp only
  rw [if_neg (Classical.not_not.2 he), if_neg (Bool.eq_false_iff.1 hheld), if_pos hscr]
  rfl

theorem gStore_of_window (he : accessCause (coreAt s c) a (2 ^ z) 1 = 0) (hheld : sectorHeld (coreAt s c) a = false)
    (hscr : inScratch a (2 ^ z) = false) (hwrites : (coreAt s c).writes.length < 32) {t : Nat} (ht : freeTag s c = some t) :
    gStore o z c s = setCore c { ((coreAt s c).goto ((coreAt s c).pc + 4)) with
        writes := (coreAt s c).writes ++ [{ tag := t, sec := a / 64, pc := (coreAt s c).pc, addr := a, kst := false }]
        tag := t + 1 }
      (coreSend c 3 t a (atomicPay 0 z (a % 64) ((coreAt s c).gr (kF6 w)) 0) 0 false s) := by
  subst ha
  rw [gStore, issue_of_landed hat (isOp_of ho) hl]
  dsimp only
  rw [if_neg (Classical.not_not.2 he), if_neg (Bool.eq_false_iff.1 hheld), if_neg (Bool.eq_false_iff.1 hscr), ht]
  exact if_neg (Nat.not_le.2 hwrites)

end

theorem exec_stTable (c : CoreId) : ∀ r ∈ stTable c, ∀ s, exec r.1 s = .next (gStore r.2.1 r.2.2 c s) := by
  simp only [stTable, List.forall_mem_cons, List.not_mem_nil, false_imp_iff, implies_true, and_true]
  exact ⟨fun _ => rfl, fun _ => rfl, fun _ => rfl, fun _ => rfl⟩

/-! #### Atomics -/

/-- Every AMO row runs its operation, and knows its code below 8. -/
theorem exec_amoTable (c : CoreId) : ∀ r ∈ amoTable c, (∀ s, exec r.1 s = .next (amo r.2.1 c s)) ∧ r.2.1 < 8 ∧
    atomicNew r.2.1 = r.2.2 := by
  simp only [amoTable, List.forall_mem_cons, List.not_mem_nil, false_imp_iff, implies_true, and_true]
  exact ⟨⟨fun _ => rfl, by decide, rfl⟩, ⟨fun _ => rfl, by decide, rfl⟩, ⟨fun _ => rfl, by decide, rfl⟩,
    ⟨fun _ => rfl, by decide, rfl⟩, ⟨fun _ => rfl, by decide, rfl⟩, ⟨fun _ => rfl, by decide, rfl⟩,
    ⟨fun _ => rfl, by decide, rfl⟩⟩

/-- An AMO in the scratch takes effect at once. -/
theorem amo_of_scratch {c : CoreId} {aop z a : Nat} {w : KWord} {s : State} (hat : AtIns s c w) (ho : kOp w = 0x20)
    (hfn : kFn w = aop + 8 * z) (haop : aop < 8) (hl : Landed s c) (ha : a = ((coreAt s c).gr (kF11 w)).toNat)
    (hal : a % 2 ^ z = 0) (hscr : inScratch a (2 ^ z) = true) (hheld : sectorHeld (coreAt s c) a = false) :
    amo aop c s = setCore c
      (((scratchWrite a (2 ^ z) (atomicNew aop (scratchRead (coreAt s c) a (2 ^ z))
          (((coreAt s c).gr (kF16 w)).toNat % 2 ^ (8 * 2 ^ z)) (((coreAt s c).gr (kF6 w)).toNat % 2 ^ (8 * 2 ^ z)) (8 * 2 ^ z))
        (coreAt s c)).wr (kF6 w) (BitVec.ofNat 64 (scratchRead (coreAt s c) a (2 ^ z)))).goto ((coreAt s c).pc + 4)) s := by
  have hz : kFn w / 8 = z := by omega
  have hamo : isAmo aop w = true := by
    have : kFn w % 8 = aop := by omega
    simp [isAmo, ho, this]
  subst ha
  rw [amo, issue_of_landed hat hamo hl]
  dsimp only
  rw [hz, if_neg (Classical.not_not.2 (accessCause_of_admitted hal (.inl hscr))), if_neg (Bool.eq_false_iff.1 hheld), if_pos hscr,
    Core.retire_wr]
  rfl

/-! #### The scratch -/

/-- Bytes written one after the other to a map are read back at their places, and no other place changes. -/
theorem mapGet_foldl_mapSet (m : Map (BitVec 8)) (base n : Nat) (g : Nat → BitVec 8) (b : Nat) :
    mapGet ((List.range n).foldl (fun m j => mapSet m (base + j) 0 (g j)) m) b 0
      = if base ≤ b ∧ b < base + n then g (b - base) else mapGet m b 0 := by
  induction n with
  | zero => simp [show ¬ (base ≤ b ∧ b < base) by omega]
  | succ n ih =>
    rw [List.range_succ, List.foldl_append]
    by_cases hb : b = base + n
    · subst hb
      simp [mapGet_mapSet_same]
    · simp only [List.foldl_cons, List.foldl_nil]
      rw [mapGet_mapSet_ne _ _ _ _ hb, ih]
      exact ite_congr (propext (by omega)) (fun _ => rfl) (fun _ => rfl)

theorem mapGet_scratchWrite (a n v b : Nat) (k : Core) : mapGet (scratchWrite a n v k).scratch b 0
    = if a - scratchBase ≤ b ∧ b < a - scratchBase + n then BitVec.ofNat 8 (v / 2 ^ (8 * (b - (a - scratchBase))))
      else mapGet k.scratch b 0 := mapGet_foldl_mapSet ..

/-! #### Exceptions -/

theorem coreAt_setCore (c d : Nat) (k : Core) (s : State) : coreAt (setCore c k s) d = if d = c then k else coreAt s d := by
  by_cases hd : d = c
  · subst hd
    simp [coreAt, setCore, mapGet_mapSet_same]
  · simp [coreAt, setCore, hd, mapGet_mapSet_ne]

/-- An instance that has ended executes nothing more. -/
theorem active_endInstance (c : Nat) (s : State) : (coreAt (endInstance c s) c).active = false := by
  rw [endInstance, coreAt_setCore, if_pos rfl]
  split
  · rfl
  · simp [Core.active]

theorem takeExc_of_job {c : Nat} {j : KPend} {s : State} (h : (coreAt s c).job = some j) (cause : Nat) (late : Bool)
    (pc addr sub : Nat) : takeExc c cause late pc addr sub s = endInstance c { s with bead := { s.bead with
      excs := s.bead.excs ++ [{ job := j, core := c, cause := cause, late := late, pc := pc, addr := addr, sub := sub }] } } := by
  rw [takeExc, h]

/-- Settles O32. -/
theorem memoryInstructions : Obligations.MemoryInstructions := by
  unfold Obligations.MemoryInstructions
  refine ⟨?_, ?_, ?_, ?_, ?_⟩
  · intro c i o n signed w a s hrow hat ho hl ha
    have hx := exec_ldTable c _ hrow s
    refine ⟨fun h => ?_, fun h hscr hwin => ?_, fun h hscr hheld => ?_, fun h hscr hwin hheld hloads t ht => ?_,
      fun h hin hheld => ?_⟩
    · rw [hx, gLoad_of_refused hat ho hl ha (accessCause_of_misaligned h) (by decide)]
    · rw [hx, gLoad_of_refused hat ho hl ha (accessCause_of_outside h hscr hwin) (by decide)]
    · rw [hx, gLoad_of_scratch hat ho hl ha (accessCause_of_admitted h (.inl hscr)) hheld hscr]
    · exact .of_eq (hx.trans (congrArg Host.Outcome.next
        (gLoad_of_window hat ho hl ha (accessCause_of_admitted h (.inr hwin)) hheld hscr hloads ht))) ⟨_, rfl, rfl⟩
    · rw [hx, gLoad_of_held hat ho hl ha (accessCause_of_admitted h hin) hheld]
  · intro c i o z w a s hrow hat ho hl ha
    have hx := exec_stTable c _ hrow s
    refine ⟨fun h => ?_, fun h hscr hheld => ?_, fun h hscr hwin hheld hwrites t ht => ?_⟩
    · rw [hx, gStore_of_refused hat ho hl ha (accessCause_of_misaligned h) (by decide)]
    · rw [hx, gStore_of_scratch hat ho hl ha (accessCause_of_admitted h (.inl hscr)) hheld hscr]
    · rw [hx, gStore_of_window hat ho hl ha (accessCause_of_admitted h (.inr hwin)) hheld hscr hwrites ht]
  · intro c i aop z a f w s hrow hat ho hfn _ hl ha hal hscr hheld
    obtain ⟨hx, haop, hf⟩ := exec_amoTable c _ hrow
    rw [hx, amo_of_scratch hat ho hfn haop hl ha hal hscr hheld, hf]
  · intro k a v j _ hj
    refine ⟨?_, fun b hb => ?_⟩
    · rw [mapGet_scratchWrite, if_pos (by omega), Nat.add_sub_cancel_left]
    · rw [mapGet_scratchWrite, if_neg (by omega)]
  · intro c cause pc addr sub late j s hj
    rw [takeExc_of_job hj]
    exact ⟨rfl, active_endInstance _ _, rfl, rfl⟩

end Sys2Proof.Machine

end


/-! ### Bead instructions on counters, CSRs and synchronisation, and exceptions (R381-R384, R400-R404) -/
section

namespace Sys2Proof.Machine

/-- An instruction that reads no g register never waits for one. -/
theorem issue_of_reads_nothing {c : Nat} {w : KWord} {s : State} (h : AtIns s c w) {p : KWord → Bool} (hp : p w = true)
    (f : Core → KWord → State → State) : issue c p (fun _ => []) f s = f (coreAt s c) w s := by
  obtain ⟨hrun, hact, hfetch, hlegal⟩ := h
  simp [issue, hrun, hact, hfetch, hlegal, hp]

theorem isCnt_of {fn : Nat} {w : KWord} (ho : kOp w = 0x21) (hfn : kFn w = fn) : isCnt fn w = true := by
  simp [isCnt, ho, hfn]

theorem isSys_of {imm : Nat} {w : KWord} (ho : kOp w = 0x32) (hi : kImm w = imm) : isSys imm w = true := by
  simp [isSys, ho, hi]

/-! #### Counters (R382-R384) -/
section
variable {c : CoreId} {fn : Nat} {w : KWord} {j : KPend} {s : State}
  (hat : AtIns s c w) (hl : Landed s c) (ho : kOp w = 0x21) (hfn : kFn w = fn) (hj : (coreAt s c).job = some j)
  (reads : KWord → List Nat) (f : Core → KWord → KPend → Nat → State → State)
include hat hl ho hfn hj

theorem cntOp_of_beyond (h : (queueAt s j.queue).ccount ≤ ((coreAt s c).gr (kF11 w)).toNat) :
    cntOp fn reads f c s = takeExc c 5 false (coreAt s c).pc 0 0 s := by
  rw [cntOp, issue_of_landed hat (isCnt_of ho hfn) hl, hj]
  exact if_pos h

theorem cntOp_of_within (h : ((coreAt s c).gr (kF11 w)).toNat < (queueAt s j.queue).ccount) :
    cntOp fn reads f c s = f (coreAt s c) w j ((queueAt s j.queue).cbase + ((coreAt s c).gr (kF11 w)).toNat) s := by
  rw [cntOp, issue_of_landed hat (isCnt_of ho hfn) hl, hj]
  exact if_neg (Nat.not_le.2 h)

end

theorem stageCnt_of_room {k : Core} (h : k.staged < 16) (set : Bool) (c : Nat) (w : KWord) (j : KPend) (i : Nat) (s : State) :
    stageCnt set c k w j i s = modLaunch j (fun l => { l with counters := l.counters ++ [(j.index, i, set, (k.gr (kF16 w)).toNat)] })
      (setCore c { k.goto (k.pc + 4) with staged := k.staged + 1 } s) := if_neg (Nat.not_le.2 h)

theorem stageCnt_of_full {k : Core} (h : 16 ≤ k.staged) (set : Bool) (c : Nat) (w : KWord) (j : KPend) (i : Nat) (s : State) :
    stageCnt set c k w j i s = takeExc c 5 false k.pc 0 0 s := if_pos h

/-! #### CSRs (R400) -/

/-- R400: a CSRW of RSEED n replaces those 64 bits of the seed and keeps the others. -/
theorem bitsAt_csrSet {n m : Nat} (hn : n < 4) (hm : m < 4) (v : BitVec 64) (k : Core) :
    bitsAt (csrSet (0x10 + n) v k).seed (64 * m) 64 = if m = n then v.toNat else bitsAt k.seed (64 * m) 64 := by
  have hv := v.isLt
  have hx := k.seed.isLt
  rw [csrSet, if_neg (by omega)]
  simp only [bitsAt, BitVec.toNat_ofNat, show (0x10 + n) % 4 = n by omega]
  generalize v.toNat = y at hv ⊢
  generalize k.seed.toNat = x at hx ⊢
  obtain rfl | rfl | rfl | rfl : n = 0 ∨ n = 1 ∨ n = 2 ∨ n = 3 := by omega
  all_goals
    obtain rfl | rfl | rfl | rfl : m = 0 ∨ m = 1 ∨ m = 2 ∨ m = 3 := by omega
    all_goals simp only [Nat.reduceMul, Nat.reduceAdd, Nat.reducePow, Nat.reduceEqDiff, if_true, if_false]; omega

theorem seed_retire (k : Core) : k.retire.seed = k.seed := rfl

/-! #### Synchronisation points (R401, R402) -/
section
variable {c : CoreId} {imm : Nat} {w : KWord} {s : State} (hat : AtIns s c w) (ho : kOp w = 0x32) (hi : kImm w = imm)
  (ready : Core → Bool) (f : Core → State → State)
include hat ho hi

theorem syncPoint_of_late {l : Nat × Nat × Nat × Nat} (h : (coreAt s c).late = some l) :
    syncPoint imm ready f c s = takeLate c l s := by
  rw [syncPoint, issue_of_reads_nothing hat (isSys_of ho hi), h]

theorem syncPoint_of_ready (h : (coreAt s c).late = none) (hr : ready (coreAt s c) = true) :
    syncPoint imm ready f c s = f (coreAt s c) s := by
  rw [syncPoint, issue_of_reads_nothing hat (isSys_of ho hi), h]
  exact if_pos hr

theorem syncPoint_of_waiting (h : (coreAt s c).late = none) (hr : ready (coreAt s c) = false) :
    syncPoint imm ready f c s = s := by
  rw [syncPoint, issue_of_reads_nothing hat (isSys_of ho hi), h]
  exact if_neg (Bool.eq_false_iff.1 hr)

end

theorem synced_of_idle {k : Core} (hkq : k.kq = []) (houts : k.outs = []) : k.synced = true := by
  simp [Core.synced, hkq, houts]

/-- Settles O33. -/
theorem countersCsrsAndSync : Obligations.CountersCsrsAndSync := by
  unfold Obligations.CountersCsrsAndSync
  refine ⟨?_, ?_, ?_, ?_⟩
  · intro c w j s hat hl ho hj
    refine ⟨fun h => ⟨fun hfn => congrArg Host.Outcome.next (cntOp_of_beyond hat hl ho hfn hj _ _ h),
      fun hfn => congrArg Host.Outcome.next (cntOp_of_beyond hat hl ho hfn hj _ _ h),
      fun hfn => congrArg Host.Outcome.next (cntOp_of_beyond hat hl ho hfn hj _ _ h)⟩, fun h => ⟨fun hfn => ?_,
      fun hroom => ⟨fun hfn => ?_, fun hfn => ?_⟩, fun hfull hfn => ?_⟩⟩
    · refine (congrArg Host.Outcome.next (cntOp_of_within hat hl ho hfn hj _ _ h)).trans ?_
      rw [Core.retire_wr]
    · exact congrArg Host.Outcome.next ((cntOp_of_within hat hl ho hfn hj _ _ h).trans (stageCnt_of_room hroom ..))
    · exact congrArg Host.Outcome.next ((cntOp_of_within hat hl ho hfn hj _ _ h).trans (stageCnt_of_room hroom ..))
    · exact congrArg Host.Outcome.next ((cntOp_of_within hat hl ho hfn hj _ _ h).trans (stageCnt_of_full hfull ..))
  · intro c w s hat hl
    refine ⟨fun ho hi => ?_, fun ho hi => ?_, fun ho n hn hi => ?_⟩
    · refine (congrArg Host.Outcome.next (issue_of_reads_nothing hat (isOp_of ho) _)).trans ?_
      rw [if_neg hi, Core.retire_wr]
    · refine (congrArg Host.Outcome.next (issue_of_landed hat (isOp_of ho) hl _ _)).trans ?_
      rw [hi]
      rfl
    · refine .of_eq (congrArg Host.Outcome.next (issue_of_landed hat (isOp_of ho) hl _ _)) ?_
      rw [coreAt_setCore, if_pos rfl, seed_retire, hi]
      exact ⟨(bitsAt_csrSet hn hn _ _).trans (if_pos rfl), fun m hm hne => (bitsAt_csrSet hn hm _ _).trans (if_neg hne)⟩
  · intro c w s hat ho
    refine ⟨fun l hlate hi => congrArg Host.Outcome.next (syncPoint_of_late hat ho hi _ _ hlate),
      fun hlate hkq houts => ?_,
      fun hi => congrArg Host.Outcome.next (issue_of_reads_nothing hat (isSys_of ho hi) _)⟩
    have hsync := synced_of_idle hkq houts
    refine ⟨fun hi => congrArg Host.Outcome.next (syncPoint_of_ready hat ho hi _ _ hlate hsync), fun hw => ?_, fun hw hi =>
      congrArg Host.Outcome.next (syncPoint_of_waiting hat ho hi _ _ hlate (by simp [hw]))⟩
    have hready : ((coreAt s c).synced && (coreAt s c).writes.isEmpty) = true := by simp [hsync, hw]
    refine ⟨fun hi => congrArg Host.Outcome.next (syncPoint_of_ready hat ho hi _ _ hlate hready), fun hi => ?_⟩
    refine congrArg Host.Outcome.next ((syncPoint_of_ready hat ho hi _ _ hlate hready).trans ?_)
    rw [endInstance, if_pos hw]
  · intro c w s hrun hact
    refine ⟨fun hfetch hl => ?_, fun ho => ?_, fun hbad => ?_⟩
    · refine congrArg Host.Outcome.next ?_
      simp [illegalInstruction, hrun, hact, hfetch, hl]
    · simp [legal, ho]
    · exact congrArg Host.Outcome.next (if_pos (by simp [hrun, hact, hbad]))

end Sys2Proof.Machine

end


/-! ### Instructions of the Reckoner (R385-R399, R403) -/
section

namespace Sys2Proof.Machine

/-! #### Overwriting a place of a map -/

theorem mapIns_mapIns_same {α : Type} (m : Map α) (k : Nat) (v w : α) : mapIns (mapIns m k v) k w = mapIns m k w := by
  induction m with
  | nil => simp [mapIns]
  | cons e m ih =>
    obtain ⟨j, x⟩ := e
    by_cases hlt : k < j
    · simp [mapIns, hlt]
    · by_cases heq : j = k
      · simp [mapIns, heq]
      · simp [mapIns, hlt, heq, ih]

theorem mapDel_mapIns_same {α : Type} (m : Map α) (k : Nat) (v : α) : mapDel (mapIns m k v) k = mapDel m k := by
  induction m with
  | nil => simp [mapIns, mapDel]
  | cons e m ih =>
    obtain ⟨j, x⟩ := e
    by_cases hlt : k < j
    · simp [mapIns, mapDel, hlt]
    · by_cases heq : j = k
      · simp [mapIns, mapDel, heq]
      · simpa [mapIns, mapDel, hlt, heq] using ih

/-- A place is overwritten; a value other than the default keeps its place. -/
theorem mapSet_mapSet_same {α : Type} [DecidableEq α] (m : Map α) (k : Nat) {d v : α} (h : v ≠ d) (w : α) :
    mapSet (mapSet m k d v) k d w = mapSet m k d w := by
  have hin : mapSet m k d v = mapIns m k v := if_neg h
  rw [hin, mapSet, mapSet]
  split
  · exact mapDel_mapIns_same m k v
  · exact mapIns_mapIns_same m k v w

/-- A core in use is overwritten. -/
theorem setCore_setCore (c : Nat) {k : Core} (h : k ≠ {}) (k' : Core) (s : State) :
    setCore c k' (setCore c k s) = setCore c k' s := by
  simp only [setCore]
  rw [mapSet_mapSet_same _ _ h]

/-- A core that has retired an instruction is in use. -/
theorem goto_ne_idle (pc : Nat) (k : Core) : k.goto pc ≠ {} := fun h =>
  Nat.succ_ne_zero k.retired (congrArg Core.retired h)

/-! #### Fields of a sector -/

/-- A field of a sector reads what was put there. -/
theorem secField_secPut_same (d : Sector) {i w : Nat} (x : Nat) (h : 8 * (i + w) ≤ 512) :
    secField (secPut d i w x) i w = x % 2 ^ (8 * w) := by
  apply Nat.eq_of_testBit_eq
  intro n
  rw [secField, testBit_bitsAt]
  by_cases hn : n < 8 * w
  · have hlt : 8 * i + n < 512 := by omega
    simp only [secPut, BitVec.getLsbD_or, BitVec.getLsbD_and, BitVec.getLsbD_not, BitVec.getLsbD_ofNat, hlt,
      Nat.testBit_mul_two_pow, Nat.testBit_two_pow_sub_one, Nat.testBit_mod_two_pow]
    simp [hn]
  · simp [hn]

/-! #### Handing an instruction to the Reckoner -/

theorem isK_of {fn : Nat} {w : KWord} (ho : kOp w = 0x38) (hfn : kKfn w = fn) : isK fn w = true := by
  simp [isK, ho, hfn]

theorem kHand_of_empty {c : Nat} {k : Core} {i : KIns} {s : State} (hstop : k.kstop = false) (hkq : k.kq = [])
    (hready : kReady (setCore c k s) c i = true) : kHand c k i s = kRun c i (setCore c k s) := by
  simp [kHand, hstop, hkq, hready]

theorem kHand_of_queue {c : Nat} {k : Core} {i : KIns} {s : State} (hstop : k.kstop = false) (hkq : k.kq ≠ []) :
    kHand c k i s = setCore c { k with kq := k.kq ++ [i] } s := by
  simp [kHand, hstop, hkq]

/-- An instruction of OP 0x38 can execute at any time. -/
theorem kReady_of_op {i : KIns} (h : kOp i.word = 0x38) (s : State) (c : Nat) : kReady s c i = true := by
  simp [kReady, h]

theorem kRun_of_op {i : KIns} (h : kOp i.word = 0x38) (hfn : kKfn i.word ≠ 21) (c : Nat) (s : State) :
    kRun c i s = setCore c (kEffect (ctxAt s (coreAt s c).asid).point false i (coreAt s c)) s := by
  simp [kRun, h, hfn]

theorem kRun_of_kput {i : KIns} (h : kOp i.word = 0x38) (hfn : kKfn i.word = 21) (c : Nat) (s : State) :
    kRun c i s = setCore c (kPut ((draw 1 s).1 == 1) i (coreAt s c)) (draw 1 s).2 := by
  simp [kRun, h, hfn, kEffect]

/-- The core as it hands over an instruction: its g register, if the instruction writes one, awaits a value, and the
instruction retires. -/
def handed (fn : Nat) (w : KWord) (k : Core) : Core := (if kWrites fn then k.await (kG w) else k).goto (k.pc + 4)

theorem handed_fields (fn : Nat) (w : KWord) (k : Core) :
    (handed fn w k).kq = k.kq ∧ (handed fn w k).kstop = k.kstop ∧ (handed fn w k).asid = k.asid ∧ handed fn w k ≠ {} := by
  refine ⟨?_, ?_, ?_, goto_ne_idle _ _⟩ <;> unfold handed <;> split <;> rfl

/-- The instruction as the Reckoner takes it. -/
def handedIns (w : KWord) (k : Core) : KIns :=
  { word := w, pc := k.pc, g := k.gr (kG w), tok := k.serial, addr := 0, data := none }

theorem kIssue_of_room {c : CoreId} {fn : Nat} {w : KWord} {s : State} (hat : AtIns s c w) (hl : Landed s c)
    (ho : kOp w = 0x38) (hfn : kKfn w = fn) (hroom : (coreAt s c).kq.length < 32) :
    kIssue fn c s = kHand c (handed fn w (coreAt s c)) (handedIns w (coreAt s c)) s := by
  have hret : (if kWrites fn then (coreAt s c).await (kG w) else coreAt s c).retire = handed fn w (coreAt s c) := by
    unfold Core.retire handed
    split <;> rfl
  rw [kIssue, issue_of_landed hat (isK_of ho hfn) hl, ← hret]
  exact if_neg (Nat.not_le.2 hroom)

theorem ctxAt_setCore (c : Nat) (k : Core) (s : State) (a : Nat) : ctxAt (setCore c k s) a = ctxAt s a := rfl

theorem draw_setCore (c : Nat) (k : Core) (s : State) : draw 1 (setCore c k s) = ((draw 1 s).1, setCore c k (draw 1 s).2) := rfl

/-- R386: an instruction that finds the Reckoner empty executes at once. -/
theorem kIssue_of_empty {c : CoreId} {fn : Nat} {w : KWord} {s : State} (hat : AtIns s c w) (hl : Landed s c)
    (ho : kOp w = 0x38) (hfn : kKfn w = fn) (hne : fn ≠ 21) (hkq : (coreAt s c).kq = []) (hstop : (coreAt s c).kstop = false) :
    kIssue fn c s = setCore c (kEffect (ctxAt s (coreAt s c).asid).point false (handedIns w (coreAt s c))
      (handed fn w (coreAt s c))) s := by
  obtain ⟨hkq', hstop', hasid, hidle⟩ := handed_fields fn w (coreAt s c)
  rw [kIssue_of_room hat hl ho hfn (by simp [hkq]), kHand_of_empty (hstop'.trans hstop) (hkq'.trans hkq)
    (kReady_of_op (i := handedIns w (coreAt s c)) ho _ _), kRun_of_op (i := handedIns w (coreAt s c)) ho (hfn.symm ▸ hne),
    coreAt_setCore, if_pos rfl, ctxAt_setCore, hasid, setCore_setCore c hidle]

/-- R386: an instruction that finds instructions before it joins them. -/
theorem kIssue_of_queue {c : CoreId} {fn : Nat} {w : KWord} {s : State} (hat : AtIns s c w) (hl : Landed s c)
    (ho : kOp w = 0x38) (hfn : kKfn w = fn) (hroom : (coreAt s c).kq.length < 32) (hkq : (coreAt s c).kq ≠ [])
    (hstop : (coreAt s c).kstop = false) :
    kIssue fn c s = setCore c { handed fn w (coreAt s c) with kq := (coreAt s c).kq ++ [handedIns w (coreAt s c)] } s := by
  obtain ⟨hkq', hstop', -, -⟩ := handed_fields fn w (coreAt s c)
  rw [kIssue_of_room hat hl ho hfn hroom, kHand_of_queue (hstop'.trans hstop) (hkq'.symm ▸ hkq), hkq']

/-- R392: a KPUT that finds the Reckoner empty. -/
theorem kIssue_kput {c : CoreId} {w : KWord} {s : State} (hat : AtIns s c w) (hl : Landed s c)
    (ho : kOp w = 0x38) (hfn : kKfn w = 21) (hkq : (coreAt s c).kq = []) (hstop : (coreAt s c).kstop = false) :
    kIssue 21 c s = setCore c (kPut ((draw 1 s).1 == 1) (handedIns w (coreAt s c)) (handed 21 w (coreAt s c))) (draw 1 s).2 := by
  obtain ⟨hkq', hstop', -, hidle⟩ := handed_fields 21 w (coreAt s c)
  rw [kIssue_of_room hat hl ho hfn (by simp [hkq]), kHand_of_empty (hstop'.trans hstop) (hkq'.trans hkq)
    (kReady_of_op (i := handedIns w (coreAt s c)) ho _ _), kRun_of_kput (i := handedIns w (coreAt s c)) ho hfn,
    coreAt_setCore, if_pos rfl, draw_setCore, setCore_setCore c hidle]

/-- A row of the Reckoner's table: it issues its function, and that function's effect is the row's. -/
def KRow (c : CoreId) (point : Nat) (r : Instr × Nat × (KIns → Core → Core)) : Prop :=
  (∀ s, exec r.1 s = .next (kIssue r.2.1 c s)) ∧ r.2.1 ≠ 21 ∧
    ∀ i k, kKfn i.word = r.2.1 → kEffect point false i k = r.2.2 i k

theorem kRow_of {c : CoreId} {point fn : Nat} {i : Instr} {f : KIns → Core → Core}
    (hx : ∀ s, exec i s = .next (kIssue fn c s)) (hne : fn ≠ 21)
    (hf : ∀ j k, kKfn j.word = fn → kEffect point false j k = f j k) : KRow c point (i, fn, f) := ⟨hx, hne, hf⟩

theorem kRow_kTable (c : CoreId) (point : Nat) : ∀ r ∈ kTable c point, KRow c point r := by
  simp only [kTable, List.forall_mem_cons, List.not_mem_nil, false_imp_iff, implies_true, and_true]
  refine ⟨?_, ?_, ?_, ?_, ?_, ?_, ?_, ?_, ?_, ?_, ?_, ?_, ?_, ?_, ?_⟩ <;>
    exact kRow_of (fun _ => rfl) (by decide) (fun j k h => by simp only [kEffect, h])

/-! #### KLD and KST in the scratch -/
section
variable {c : CoreId} {w : KWord} {a : Nat} {s : State} (hat : AtIns s c w) (hl : Landed s c)
  (ha : a = ((coreAt s c).gr (kF11 w) + kSimm w).toNat) (hal : a % 64 = 0) (hkq : (coreAt s c).kq = [])
  (hstop : (coreAt s c).kstop = false) (hscr : inScratch a 64 = true)
include hat hl ha hal hkq hstop hscr

/-- A KLD of the scratch fills its k register at once (R386). -/
theorem kldIssue_of_scratch (ho : kOp w = 0x1C) (hheld : sectorHeld (coreAt s c) a = false) :
    kldIssue c s = setCore c (Core.setK (kF6 w) { v := BitVec.ofNat 512 (scratchRead (coreAt s c) a 64), poison := false }
      { (coreAt s c).retire with serial := (coreAt s c).serial + 1 }) s := by
  have he : accessCause (coreAt s c) a 64 0 = 0 := accessCause_of_admitted hal (.inl hscr)
  have hidle : { (coreAt s c).retire with serial := (coreAt s c).serial + 1 } ≠ ({} : Core) := fun h =>
    Nat.succ_ne_zero _ (congrArg Core.serial h)
  subst ha
  rw [kldIssue, issue_of_landed hat (isOp_of ho) hl]
  dsimp only
  rw [if_neg (Classical.not_not.2 he), hheld, if_neg (by simp [hkq]), if_neg (by simp [hstop]), if_pos hscr,
    kHand_of_empty (by exact hstop) (by exact hkq) (by simp only [kReady, ho]; rfl)]
  simp only [kRun, ho, coreAt_setCore, if_true, kldRetire]
  rw [setCore_setCore _ hidle]

/-- A KST to the scratch writes its bytes at once. -/
theorem kstIssue_of_scratch (ho : kOp w = 0x1D) :
    kstIssue c s = setCore c (scratchWrite a 64 ((coreAt s c).kr (kF6 w)).v.toNat (coreAt s c).retire) s := by
  have he : accessCause (coreAt s c) a 64 1 = 0 := accessCause_of_admitted hal (.inl hscr)
  subst ha
  rw [kstIssue, issue_of_landed hat (isOp_of ho) hl]
  dsimp only
  rw [if_neg (Classical.not_not.2 he), if_neg (by simp [hkq]), kHand_of_empty (by exact hstop) (by exact hkq)
    (by simp only [kReady, ho, hscr, Bool.true_or])]
  simp only [kRun, ho, kstSend, hscr, coreAt_setCore, if_true]
  rw [Core.retire, setCore_setCore _ (goto_ne_idle _ _)]
  rfl

end

/-! #### RECKONER_EXECUTE (R386) -/

theorem exec_reckonerExecute {c : CoreId} {s : State} (hrun : coreRuns s c = true) (upset : EccSite) :
    exec (.reckonerExecute c upset) s = .next (reckonerExecute c upset s) := next_onlyIf hrun _ s

section
variable {c : CoreId} {i : KIns} {rest : List KIns} {s : State} (hkq : (coreAt s c).kq = i :: rest)
  (hend : (coreAt s c).ended = false) (habort : (coreAt s c).abort = false)
include hkq hend habort

theorem reckonerExecute_of_ready (h : kReady s c i = true) :
    reckonerExecute c .none s = kRun c i (setCore c { coreAt s c with kq := rest } s) := by
  simp [reckonerExecute, hkq, hend, habort, h]

theorem reckonerExecute_of_waiting (h : kReady s c i = false) : reckonerExecute c .none s = s := by
  simp [reckonerExecute, hkq, hend, habort, h]

theorem reckonerExecute_of_upset : reckonerExecute c .reckoner s = setCore c ((coreAt s c).recErr 10 i) s := by
  simp [reckonerExecute, hkq, hend, habort]

end

/-! #### k registers, accumulators and the g register -/
section
variable (k : Core) (n m : Nat)

theorem Core.kr_setK_same (r : KReg) : (k.setK n r).kr n = r := mapGet_mapSet_same ..

theorem Core.kr_setK_ne (r : KReg) (h : m ≠ n) : (k.setK n r).kr m = k.kr m := mapGet_mapSet_ne _ _ _ _ h

theorem Core.ar_setA_same (r : KAcc) : (k.setA n r).ar n = r := mapGet_mapSet_same ..

/-- A value lands in the g register that awaits it (R402). -/
theorem Core.gr_land {tok : Nat} (hn : n ≠ 0) (h : mapFind k.busy n = some tok) (v : BitVec 64) : (k.land n tok v).gr n = v := by
  rw [Core.land, if_pos h, Core.gr, if_neg hn]
  exact mapGet_mapSet_same ..

theorem Core.kstop_recErr (cause : Nat) (i : KIns) : (k.recErr cause i).kstop = true := rfl

end

theorem Core.gr_toG {i : KIns} {k : Core} (hg : kG i.word ≠ 0) (h : mapFind k.busy (kG i.word) = some i.tok) {p : Bool}
    (hp : p = false) (v : Nat) : (k.toG i p v).gr (kG i.word) = BitVec.ofNat 64 v := by
  rw [Core.toG, if_neg (by simp [hp])]
  exact Core.gr_land _ _ hg h _

/-- The number whose n lanes of 64 bits all hold x. -/
def lanesOf (x n : Nat) : Nat := ((List.range n).map (fun k => x * 2 ^ (64 * k))).sum

theorem lanesOf_succ (x n : Nat) : lanesOf x (n + 1) = lanesOf x n + x * 2 ^ (64 * n) := by
  simp [lanesOf, List.range_succ]

theorem lanesOf_lt {x : Nat} (hx : x < 2 ^ 64) (n : Nat) : lanesOf x n < 2 ^ (64 * n) := by
  induction n with
  | zero => simp [lanesOf]
  | succ n ih =>
    have hmul : (x + 1) * 2 ^ (64 * n) ≤ 2 ^ 64 * 2 ^ (64 * n) := Nat.mul_le_mul_right _ hx
    rw [lanesOf_succ, Nat.mul_succ, Nat.pow_add, Nat.mul_comm (2 ^ (64 * n))]
    rw [Nat.succ_mul] at hmul
    omega

/-- Every lane reads x. -/
theorem lanesOf_lane {x : Nat} (hx : x < 2 ^ 64) {j n : Nat} (hj : j < n) : lanesOf x n / 2 ^ (64 * j) % 2 ^ 64 = x := by
  induction n with
  | zero => omega
  | succ n ih =>
    rw [lanesOf_succ]
    by_cases hjn : j = n
    · subst hjn
      rw [Nat.add_mul_div_right _ _ (Nat.two_pow_pos _), Nat.div_eq_of_lt (lanesOf_lt hx j), Nat.zero_add, Nat.mod_eq_of_lt hx]
    · have hsplit : x * 2 ^ (64 * n) = x * 2 ^ (64 * (n - j - 1)) * 2 ^ 64 * 2 ^ (64 * j) := by
        rw [Nat.mul_assoc, Nat.mul_assoc, ← Nat.pow_add, ← Nat.pow_add]
        congr 2
        omega
      rw [hsplit, Nat.add_mul_div_right _ _ (Nat.two_pow_pos _), Nat.add_mul_mod_self_right, ih (by omega)]

/-- KBC leaves its g value in each of the eight places (R388). -/
theorem secField_broadcast (g : BitVec 64) {j : Nat} (hj : j < 8) :
    secField (BitVec.ofNat 512 ((List.range 8).map (fun n => g.toNat * 2 ^ (64 * n))).sum) (8 * j) 8 = g.toNat := by
  have hg := g.isLt
  show (BitVec.ofNat 512 (lanesOf g.toNat 8)).toNat / 2 ^ (8 * (8 * j)) % 2 ^ (8 * 8) = g.toNat
  rw [BitVec.toNat_ofNat, Nat.mod_eq_of_lt (lanesOf_lt hg 8), ← Nat.mul_assoc]
  exact lanesOf_lane hg hj

theorem secField_kIns (d : Sector) (n : Nat) (g : BitVec 64) : secField (secPut d (8 * (n % 8)) 8 g.toNat) (8 * (n % 8)) 8 = g.toNat :=
  (secField_secPut_same d _ (by omega)).trans (Nat.mod_eq_of_lt g.isLt)

theorem Core.kr_setK_v (k : Core) (n : Nat) (v : Sector) : ((k.setK n { v := v }).kr n).v = v :=
  congrArg KReg.v (Core.kr_setK_same ..)

theorem Core.kr_rctr (k : Core) (r : BitVec 32) (n : Nat) : { k with rctr := r }.kr n = k.kr n := rfl

section
variable (i : KIns) (k : Core)

theorem kr_kBc : ((kBc i k).kr (kKd i.word)).v
    = BitVec.ofNat 512 ((List.range 8).map (fun n => i.g.toNat * 2 ^ (64 * n))).sum := Core.kr_setK_v ..

theorem kr_kIns : ((kIns i k).kr (kKd i.word)).v = secPut (k.kr (kKd i.word)).v (8 * (kKb i.word % 8)) 8 i.g.toNat := by
  rw [kIns, Core.kr_setK_same]

theorem kr_kRand : ((kRand i k).kr (kKd i.word)).v = chachaBlock k.seed k.rctr := by
  rw [kRand, Core.kr_rctr, Core.kr_setK_v]

theorem ar_kAdda : ((kAdda i k).ar (kKd i.word)).v = (k.ar (kKd i.word)).v + (k.ar (kKa i.word)).v := by
  rw [kAdda, Core.ar_setA_same]

theorem ar_kDot : ((kDot i k).ar (kKd i.word)).v = (k.ar (kKd i.word)).v
    + BitVec.ofInt 768 (dotLanes (kG i.word) (k.kr (kKa i.word)).v (k.kr (kKb i.word)).v).1 := by
  unfold kDot
  dsimp only
  rw [Core.ar_setA_same]

end

/-- A non-finite accumulator has no integer: KINT stops the Reckoner (R393). -/
theorem kstop_kInt {i : KIns} {k : Core} (h : (k.ar (kKa i.word)).nonfinite = true) : (kInt i k).kstop = true := by
  unfold kInt
  dsimp only
  split
  · rfl
  · rw [if_pos (.inl h)]
    rfl

/-- Settles O34. -/
theorem reckonerInstructions : Obligations.ReckonerInstructions := by
  unfold Obligations.ReckonerInstructions
  refine ⟨?_, ?_, ?_, ?_, ?_, ?_, ?_⟩
  · intro c i fn f w e s hrow hat hl ho hfn hroom hstop he
    obtain ⟨hx, hne, hf⟩ := kRow_kTable c _ _ hrow
    subst he
    refine ⟨fun hkq => ?_, fun hkq => ?_⟩
    · rw [hx, kIssue_of_empty hat hl ho hfn hne hkq hstop, hf _ _ hfn]
      rfl
    · rw [hx, kIssue_of_queue hat hl ho hfn hroom hkq hstop]
      rfl
  · intro c w e b s s1 hat hl ho hfn hkq hstop hdraw he
    subst he
    refine congrArg Host.Outcome.next ((kIssue_kput hat hl ho hfn hkq hstop).trans ?_)
    rw [hdraw]
    rfl
  · intro c w a s hat hl ha hal hkq hstop hheld hscr
    refine ⟨fun ho => .of_eq (congrArg Host.Outcome.next
      (kldIssue_of_scratch hat hl ha hal hkq hstop hscr ho hheld)) ?_, fun ho => .of_eq (congrArg Host.Outcome.next
      (kstIssue_of_scratch hat hl ha hal hkq hstop hscr ho)) ?_⟩
    · rw [coreAt_setCore, if_pos rfl]
      exact ⟨Core.kr_setK_same .., rfl, rfl⟩
    · rw [coreAt_setCore, if_pos rfl]
      exact ⟨rfl, fun _ => rfl, rfl⟩
  · intro c i rest s hrun hkq hend habort
    exact ⟨fun h => (exec_reckonerExecute hrun _).trans (congrArg Host.Outcome.next
        (reckonerExecute_of_ready hkq hend habort h)),
      fun h => (exec_reckonerExecute hrun _).trans (congrArg Host.Outcome.next (reckonerExecute_of_waiting hkq hend habort h)),
      (exec_reckonerExecute hrun _).trans (congrArg Host.Outcome.next (reckonerExecute_of_upset hkq hend habort))⟩
  · intro c s hrun hact
    exact (exec_reckonerExecute hrun _).trans (congrArg Host.Outcome.next (if_pos hact))
  · intro i k n hn
    have hs := Core.kr_setK_same k (kKd i.word)
    refine ⟨hs _, Core.kr_setK_ne k _ _ _ hn, congrArg KReg.v (hs _), Core.kr_setK_ne k _ _ _ hn, congrArg KReg.poison (hs _),
      fun j hj => ?_, ?_, kr_kRand i k, rfl, Core.ar_setA_same .., ar_kAdda i k, ar_kDot i k⟩
    · rw [kr_kBc, secField_broadcast _ hj]
    · rw [kr_kIns, secField_kIns]
  · intro i k hg hb
    refine ⟨fun hp => Core.gr_toG hg hb hp _, fun hp => Core.gr_toG hg hb hp _, fun hp hnf => ?_, kstop_kInt⟩
    rw [kRnd, Core.gr_toG hg hb hp, if_pos hnf]
    rfl

end Sys2Proof.Machine

end


/-! ### Answers that reach a core, and the life of an instance (R354, R369-R377, R386, R401-R408) -/
section

namespace Sys2Proof.Machine

/-! #### Answers (R369, R402) -/

theorem loadResponse_of_out {c t : Nat} {d : Sector} {p : Bool} {o : KOut} {s : State}
    (ha : coreAnswer s c (fun t => !((coreAt s c).writes.any (fun w => w.tag == t))) = some (.atomic t d p))
    (ho : (coreAt s c).outs.find? (fun o => o.tag == t) = some o) :
    loadResponse c s = setCore c (landData o d p { coreAt s c with outs := (coreAt s c).outs.erase o })
      (dropAnswer c (.atomic t d p) s) := by
  simp only [loadResponse, ha, ho]

theorem loadResponse_of_old {c t : Nat} {d : Sector} {p : Bool} {s : State}
    (ha : coreAnswer s c (fun t => !((coreAt s c).writes.any (fun w => w.tag == t))) = some (.atomic t d p))
    (ho : (coreAt s c).outs.find? (fun o => o.tag == t) = none) :
    loadResponse c s = setCore c { coreAt s c with old := (coreAt s c).old.filter (fun o => o.1 != t) }
      (dropAnswer c (.atomic t d p) s) := by
  simp only [loadResponse, ha, ho]

theorem landData_of_load {o : KOut} {rd n off : Nat} {sg : Bool} (h : o.req = .load rd n sg off) (d : Sector) (k : Core) :
    landData o d false k = k.land rd o.tok (loadValue (secField d off n) n sg) := by
  simp [landData, h]

/-- A poisoned answer to a load is a late error and delivers nothing (R404). -/
theorem landData_of_poison {o : KOut} {rd n off : Nat} {sg : Bool} (h : o.req = .load rd n sg off) (d : Sector) {k : Core}
    (hlate : k.late = none) (m : Nat) :
    (landData o d true k).late.isSome = true ∧ (landData o d true k).gr m = k.gr m := by
  unfold landData
  rw [h]
  dsimp only
  rw [if_pos rfl]
  split <;> exact ⟨by simp [Core.lateErr, hlate], rfl⟩

theorem writeAck_of_ack {c t : Nat} {p : Bool} {w : KWr} {s : State}
    (ha : coreAnswer s c (fun t => (coreAt s c).writes.any (fun w => w.tag == t)) = some (.ack t p))
    (hw : (coreAt s c).writes.find? (fun w => w.tag == t) = some w) (hend : (coreAt s c).ended = false) :
    writeAck c s = setCore c { coreAt s c with writes := (coreAt s c).writes.erase w }
      (fencePaid c t (dropAnswer c (.ack t p) s)) := by
  simp [writeAck, ha, hw, hend]

/-! #### INSTANCE_START (R377) -/

theorem nextJob_of_first {c : Nat} {j : KPend} {rest : List KPend} {s : State} (hpend : pendAt s c = j :: rest)
    (hwait : waitAt s c = []) (hdev : ∀ k ∈ j :: rest, k.device = false) : nextJob s c = some j := by
  have hnone : (j :: rest).find? (fun k => k.device) = none := List.find?_eq_none.2 fun k hk => by simp [hdev k hk]
  rw [nextJob, hpend, hwait, List.append_nil, hnone, List.head?_cons]

theorem pendTake_of_first {c : Nat} {j : KPend} {rest : List KPend} {s : State} (hpend : pendAt s c = j :: rest)
    (hwait : waitAt s c = []) : pendTake c j s = setPend c rest [] s := by
  have hw : waitAt (setPend c rest [] s) c = [] := mapGet_mapSet_same s.bead.wait c [] []
  simp [pendTake, hpend, hwait, hw, pendFill]

theorem instanceStart_of_first {c : Nat} {j : KPend} {rest : List KPend} {b : Batch} {i : Inst} {l : Launch} {s : State}
    (hpend : pendAt s c = j :: rest) (hwait : waitAt s c = []) (hdev : ∀ k ∈ j :: rest, k.device = false)
    (hidle : (coreAt s c).job = none) (hinst : jobInst s j = some (b, i)) (hl : i.launch = some l) (hcopied : l.copied = true)
    (himage : (mapFind l.image 0).isSome = true) :
    instanceStart c s = add64 .BEAD_LAUNCHES_LO .BEAD_LAUNCHES_HI 0 1
      (setCore c (enterCore (coreAt s c) c (queueAt s j.queue) b i l j (cParam (b.cmdOf i))) (setPend c rest [] s)) := by
  have hj : j.device = false := hdev j (List.mem_cons_self ..)
  have hfirst : (mapFind l.image 0).isNone = false := by simpa using himage
  simp [instanceStart, nextJob_of_first hpend hwait hdev, hinst, hl, hidle, hj, hcopied, hfirst, entryParam,
    pendTake_of_first hpend hwait]

/-- The core and its queue as an instance starts. -/
theorem started_fields (c : Nat) (k : Core) (rest : List KPend) (s : State) :
    let t := add64 .BEAD_LAUNCHES_LO .BEAD_LAUNCHES_HI 0 1 (setCore c k (setPend c rest [] s))
    coreAt t c = k ∧ pendAt t c = rest ∧
      get64 t .BEAD_LAUNCHES_LO .BEAD_LAUNCHES_HI 0 = (get64 s .BEAD_LAUNCHES_LO .BEAD_LAUNCHES_HI 0 + 1) % 2 ^ 64 ∧
      RegsBut [(.BEAD_LAUNCHES_LO, 0), (.BEAD_LAUNCHES_HI, 0)] s t :=
  ⟨mapGet_mapSet_same .., mapGet_mapSet_same .., get64_add64_same (by decide) _ _ _,
    RegsBut.add64 (by decide) (by decide) 1 (setCore c k (setPend c rest [] s))⟩

/-- R377: the g registers that an instance finds. -/
theorem gr_enterCore (k : Core) (c : Nat) (x : TQueue) (b : Batch) (i : Inst) (l : Launch) (j : KPend) (p : Nat) :
    (enterCore k c x b i l j p).gr 1 = BitVec.ofNat 64 p ∧ (enterCore k c x b i l j p).gr 2 = BitVec.ofNat 64 j.index ∧
    (enterCore k c x b i l j p).gr 3 = BitVec.ofNat 64 l.cores.length ∧
    (enterCore k c x b i l j p).gr 4 = BitVec.ofNat 64 (whereAmI c) ∧
    (enterCore k c x b i l j p).gr 7 = BitVec.ofNat 64 (2 ^ 63) := by
  refine ⟨?_, ?_, ?_, ?_, ?_⟩ <;> simp [enterCore, Core.gr, mapGet_mapSet_ne]

/-! #### KERNEL_IMAGE_SECTOR (R372) -/

/-- A core of a launch takes a sector of its image. -/
def imageToCore (id k : Nat) (d : Sector) (x : Core) : Core :=
  match x.job with
  | some j => if j.launch = id then { x with code := mapIns x.code k d } else x
  | none => x

/-- A change of every value of a map that keeps the default. -/
theorem mapGet_map_snd {α : Type} (g : α → α) {dflt : α} (hg : g dflt = dflt) (m : Map α) (c : Nat) :
    mapGet (m.map (fun p => (p.1, g p.2))) c dflt = g (mapGet m c dflt) := by
  induction m with
  | nil => exact hg.symm
  | cons e m ih =>
    obtain ⟨n, x⟩ := e
    by_cases hn : n = c
    · simp [mapGet, hn]
    · simpa [mapGet, hn] using ih

theorem imageToCore_of_job {id k : Nat} {d : Sector} {x : Core} {j : KPend} (hj : x.job = some j) (hid : j.launch = id) :
    imageToCore id k d x = { x with code := mapIns x.code k d } := by
  simp [imageToCore, hj, hid]

/-- A sector of host memory needs no cove awake (R115). -/
theorem engineWait_of_host {y : Extent} (hy : y.host = true) (s : State) (e acc : Nat) : engineWait s e [(acc, y)] = none := by
  simp [engineWait, sectorWait, hy]

theorem imageSector_of_host {q asn dseq k : Nat} {b : Batch} {i : Inst} {l : Launch} {y : Extent} {d : Sector} {s : State}
    (hinst : instOf s q asn dseq = some (b, i)) (hl : i.launch = some l) (hsec : i.sector 0 k = some y) (hop : i.op = 0x21)
    (hk : k < cCodesec (b.cmdOf i)) (hnew : mapFind l.image k = none) (hy : y.host = true)
    (hbuf : mapFind i.xfer.buf k = some (d, false)) :
    imageSector q asn dseq k s
      = let u := putInst q b.first { i with launch := some { l with image := mapIns l.image k d } } s
        { u with bead := { u.bead with cores := u.bead.cores.map (fun p => (p.1, imageToCore l.id k d p.2)) } } := by
  have hmap : ∀ m : Map Core, m.map (fun (p : Nat × Core) => match p.2.job with
      | some j => if j.launch = l.id then (p.1, { p.2 with code := mapIns p.2.code k d }) else p
      | none => p) = m.map (fun p => (p.1, imageToCore l.id k d p.2)) := fun m => by
    refine List.map_congr_left fun p _ => ?_
    obtain ⟨n, x⟩ := p
    dsimp only [imageToCore]
    split
    · split <;> rfl
    · rfl
  simp only [imageSector, hinst, hl, hsec]
  rw [if_neg (by simp [hop, hnew, hk]), whenReached_of_none (engineWait_of_host hy s _ 1)]
  simp only [hy, hbuf, if_true, Bool.false_eq_true, if_false]
  exact congrArg (fun m => { putInst q b.first { i with launch := some { l with image := mapIns l.image k d } } s with
    bead := { (putInst q b.first { i with launch := some { l with image := mapIns l.image k d } } s).bead with cores := m } }) (hmap _)

theorem bead_putInst (q first : Nat) (i : Inst) (s : State) : (putInst q first i s).bead = s.bead := by
  unfold putInst
  split <;> rfl

/-! #### INSTANCE_ABORT (R405, R406) -/

theorem instanceAbort_of_aborted {c : Nat} {s : State} (hjob : (coreAt s c).job.isSome = true) (habort : (coreAt s c).abort = true)
    (hend : (coreAt s c).ended = false) (hflit : abortFlit s c = none) : instanceAbort c s = endInstance c s := by
  obtain ⟨j, hj⟩ := Option.isSome_iff_exists.1 hjob
  simp [instanceAbort, hflit, hj, habort, hend]

section
variable {c : Nat} {j : KPend} {f : Flit} {s : State} (hjob : (coreAt s c).job = some j) (hflit : abortFlit s c = some f)
include hjob hflit

theorem instanceAbort_of_flit (hend : (coreAt s c).ended = false) (hid : secField f.pay 0 4 = j.launch) :
    instanceAbort c s = endInstance c (setInbox (c / 2) (c % 2) ((inboxOf s (c / 2) (c % 2)).erase f) s) := by
  simp [instanceAbort, hflit, hjob, hend, hid]

theorem instanceAbort_of_other_flit (habort : (coreAt s c).abort = false) (hid : secField f.pay 0 4 ≠ j.launch) :
    instanceAbort c s = setInbox (c / 2) (c % 2) ((inboxOf s (c / 2) (c % 2)).erase f) s := by
  simp [instanceAbort, hflit, hjob, habort, hid]

end

theorem coreAt_endInstance (c : Nat) (s : State) : coreAt (endInstance c s) c
    = if (coreAt s c).writes = [] then idleCore (coreAt s c) else { coreAt s c with
        ended := true, kq := [], outs := [], old := (idleCore (coreAt s c)).old, busy := [], late := none } := by
  rw [endInstance, coreAt_setCore, if_pos rfl]

/-! #### Exceptions at their engine (R407-R409) -/

/-- The record of an exception in BEAD_FAULT (R409). -/
def faultWord (x : KExc) : BitVec 32 :=
  BitVec.ofNat 32 (x.cause + boolNat x.late * 2 ^ 4 + x.sub % 256 * 2 ^ 8 + 2 ^ 16)

/-- The other registers of the record: place, queue, PC, address and ASN. -/
def faultPlace (x : KExc) (s : State) : State :=
  let s2 := setReg .BEAD_FAULTLOC 0 (BitVec.ofNat 32 (tileX (x.core / 2) + tileY (x.core / 2) * 2 ^ 8 + x.core % 2 * 2 ^ 16)) s
  let s3 := setReg .BEAD_FAULTQ 0 (BitVec.ofNat 32 (x.job.queue + x.job.launch % 8 * 2 ^ 10 + boolNat x.job.device * 2 ^ 13)) s2
  let s4 := set64 .BEAD_FAULTADDR_LO .BEAD_FAULTADDR_HI 0 x.addr (setReg .BEAD_FAULTPC 0 (BitVec.ofNat 32 (x.pc % 2 ^ 16)) s3)
  set64 .BEAD_FAULTASN_LO .BEAD_FAULTASN_HI 0 x.job.asn s4

/-- The event of an exception (R409). -/
def faultEvent (x : KExc) (s : State) : EvArgs :=
  { code := if x.cause = 10 then Ev.BEAD_HWERR else Ev.BEAD_KFAULT, asid := (queueAt s x.job.queue).asid,
    queue := some x.job.queue, inst := 32 + x.job.launch % 8, d0 := causeStatus x.cause, d1 := x.job.asn }

theorem recordFault_of_valid {x : KExc} {s : State} (h : flag s F.BEAD_FAULT.VALID = true) :
    recordFault x s = bump F.BEAD_FAULTS.COUNT 0 s := if_pos h

theorem recordFault_of_free {x : KExc} {s : State} (h : flag s F.BEAD_FAULT.VALID = false) :
    recordFault x s = if x.cause = 8 then faultPlace x (setReg .BEAD_FAULT 0 (faultWord x) (bump F.BEAD_FAULTS.COUNT 0 s))
      else post (faultEvent x s) (faultPlace x (setReg .BEAD_FAULT 0 (faultWord x) (bump F.BEAD_FAULTS.COUNT 0 s))) :=
  if_neg (by simp [h])

/-- The registers of the record but the first. -/
def faultPlaceRegs : List Reg :=
  [.BEAD_FAULTLOC, .BEAD_FAULTQ, .BEAD_FAULTPC, .BEAD_FAULTADDR_LO, .BEAD_FAULTADDR_HI, .BEAD_FAULTASN_LO, .BEAD_FAULTASN_HI]

theorem RegsButAll.set64 {l : List Reg} {lo hi : Reg} (hlo : lo ∈ l) (hhi : hi ∈ l) (i v : Nat) (s : State) :
    RegsButAll l s (Machine.set64 lo hi i v s) :=
  (RegsButAll.setReg hlo i _ s).trans (RegsButAll.setReg hhi i _ _)

theorem regsButAll_faultPlace (x : KExc) (s : State) : RegsButAll faultPlaceRegs s (faultPlace x s) := by
  unfold faultPlace
  extract_lets s2 s3 s4
  refine RegsButAll.trans (t := s4) ?_ (.set64 (by decide) (by decide) _ _ s4)
  refine RegsButAll.trans ?_ (.set64 (by decide) (by decide) _ _ _)
  refine RegsButAll.trans (t := s3) ?_ (.setReg (by decide) _ _ s3)
  exact RegsButAll.trans (t := s2) (.setReg (by decide) _ _ s) (.setReg (by decide) _ _ s2)

/-- A state agrees with one before on its cores and queues, and on the registers that no exception's record changes. -/
def FaultFrame (s t : State) : Prop :=
  t.bead = s.bead ∧ t.tq = s.tq ∧ RegsButAll (.BEAD_FAULTS :: .BEAD_FAULT :: faultPlaceRegs ++ eventRegs) s t

theorem tq_faultPlace (x : KExc) (s : State) : (faultPlace x s).tq = s.tq := rfl

theorem bead_faultPlace (x : KExc) (s : State) : (faultPlace x s).bead = s.bead := rfl

theorem FaultFrame.faultPlace {s t : State} (h : FaultFrame s t) (x : KExc) :
    FaultFrame s (Machine.faultPlace x (setReg .BEAD_FAULT 0 (faultWord x) t)) := by
  obtain ⟨hbead, htq, hregs⟩ := h
  exact ⟨(bead_faultPlace x _).trans ((setReg_bead ..).trans hbead), (tq_faultPlace x _).trans ((setReg_tq ..).trans htq),
    (hregs.trans (.setReg (r := .BEAD_FAULT) (by decide) 0 (faultWord x) t)).trans
      ((regsButAll_faultPlace x _).mono (by decide))⟩

theorem FaultFrame.post {s t : State} (h : FaultFrame s t) (e : EvArgs) : FaultFrame s (Machine.post e t) := by
  obtain ⟨hbead, htq, hregs⟩ := h
  exact ⟨(post_bead e t).trans hbead, (post_tq e t).trans htq, hregs.trans ((RegsButAll.post e t).mono (by decide))⟩

/-- What the record of an exception leaves. -/
theorem recordFault_frame (x : KExc) (s : State) : FaultFrame s (recordFault x s) := by
  have hcount : FaultFrame s (bump F.BEAD_FAULTS.COUNT 0 s) :=
    ⟨bump_bead .., bump_tq .., RegsButAll.bump (f := F.BEAD_FAULTS.COUNT) (by decide) 0 s⟩
  cases hv : flag s F.BEAD_FAULT.VALID
  case true =>
    rw [recordFault_of_valid hv]
    exact hcount
  case false =>
    rw [recordFault_of_free hv]
    split
    · exact hcount.faultPlace x
    · exact (hcount.faultPlace x).post _

/-- The count of exceptions, and the first register of the record, after one. -/
theorem recordFault_count (x : KExc) (s : State) :
    getReg (recordFault x s) .BEAD_FAULTS 0 = getReg (bump F.BEAD_FAULTS.COUNT 0 s) .BEAD_FAULTS 0 ∧
    getReg (recordFault x s) .BEAD_FAULT 0
      = if flag s F.BEAD_FAULT.VALID then getReg s .BEAD_FAULT 0 else faultWord x := by
  have hfault : ∀ t, getReg (faultPlace x t) .BEAD_FAULT 0 = getReg t .BEAD_FAULT 0 := fun t =>
    regsButAll_faultPlace x t _ _ (by decide)
  have hcount : ∀ t, getReg (faultPlace x t) .BEAD_FAULTS 0 = getReg t .BEAD_FAULTS 0 := fun t =>
    regsButAll_faultPlace x t _ _ (by decide)
  have hkeep : getReg (setReg .BEAD_FAULT 0 (faultWord x) (bump F.BEAD_FAULTS.COUNT 0 s)) .BEAD_FAULTS 0
      = getReg (bump F.BEAD_FAULTS.COUNT 0 s) .BEAD_FAULTS 0 := by rw [getReg_setReg, if_neg (by decide)]
  have hword : getReg (setReg .BEAD_FAULT 0 (faultWord x) (bump F.BEAD_FAULTS.COUNT 0 s)) .BEAD_FAULT 0 = faultWord x := by
    rw [getReg_setReg, if_pos ⟨rfl, rfl⟩]
  cases hv : flag s F.BEAD_FAULT.VALID
  case true =>
    rw [recordFault_of_valid hv]
    exact ⟨rfl, RegsButAll.bump (l := [.BEAD_FAULTS]) (by decide) 0 s _ _ (by decide)⟩
  case false =>
    rw [recordFault_of_free hv]
    split
    · exact ⟨(hcount _).trans hkeep, (hfault _).trans hword⟩
    · exact ⟨(getReg_post _ _ _ _ rfl).trans ((hcount _).trans hkeep), (getReg_post _ _ _ _ rfl).trans ((hfault _).trans hword)⟩

theorem bitsAt_faultWord {x : KExc} (h : x.cause < 16) : bitsAt (faultWord x) 16 1 = 1 := by
  have hlate := boolNat_lt_two x.late
  simp only [bitsAt, faultWord, BitVec.toNat_ofNat]
  omega

theorem jobInst_congr {s t : State} (h : t.tq = s.tq) (j : KPend) : jobInst t j = jobInst s j := by
  rw [jobInst, instOf, queueAt_congr h, jobInst, instOf]

theorem jobInst_recordFault (x : KExc) (s : State) (j : KPend) : jobInst (recordFault x s) j = jobInst s j :=
  jobInst_congr (recordFault_frame x s).2.1 j

theorem flag_recordFault_hwretry (x : KExc) (s : State) :
    flag (recordFault x s) F.BEAD_CTL.HWRETRY = flag s F.BEAD_CTL.HWRETRY :=
  flag_congr (getF_of_regsButAll (recordFault_frame x s).2.2 (by decide) 0)

/-- The state without an exception that its engine takes. -/
def excTaken (x : KExc) (s : State) : State := { s with bead := { s.bead with excs := s.bead.excs.erase x } }

theorem jobInst_excTaken (x : KExc) (s : State) (j : KPend) : jobInst (excTaken x s) j = jobInst s j := rfl

section
variable {e : Nat} {x : KExc} {s : State} (hx : s.bead.excs.find? (fun x => x.job.launch % 8 == e) = some x)
include hx

theorem instanceException_of_gone (hinst : jobInst s x.job = none) :
    instanceException e s = recordFault x (excTaken x s) := by
  have h1 := (jobInst_recordFault x (excTaken x s) x.job).trans hinst
  rw [excTaken] at h1
  simp only [instanceException, hx, h1]
  rfl

variable {b : Batch} {i : Inst} {l : Launch} (hinst : jobInst s x.job = some (b, i)) (hl : i.launch = some l)
include hinst hl

theorem instanceException_of_kernel (hc : x.cause ≠ 10) (hagain : l.again = false) :
    instanceException e s = putInst x.job.queue b.first
      { i with launch := some { l with st := if l.st = 0 then causeStatus x.cause else l.st, again := false } }
      (sendAborts l.id (some x.core) (recordFault x (excTaken x s))) := by
  have h1 := (jobInst_recordFault x (excTaken x s) x.job).trans hinst
  rw [excTaken] at h1
  simp only [instanceException, hx, h1, hl, hc, hagain, false_and, if_false, Bool.false_eq_true]
  rfl

theorem instanceException_of_retry (hc : x.cause = 10) (hretry : flag s F.BEAD_CTL.HWRETRY = true) (hfirst : l.retried = false)
    (hst : l.st = 0) : instanceException e s = bump F.BEAD_RETRIES.COUNT 0 (putInst x.job.queue b.first
      { i with launch := some { l with retried := true, again := true } }
      (sendAborts l.id (some x.core) (coreOff x (recordFault x (excTaken x s))))) := by
  have h1 := (jobInst_recordFault x (excTaken x s) x.job).trans hinst
  have h2 := (flag_recordFault_hwretry x (excTaken x s)).trans hretry
  rw [excTaken] at h1 h2
  simp only [instanceException, hx, h1, hl, hc, h2, hfirst, hst, and_self, if_true]
  rfl

end

/-! #### FENCE (R370) -/

theorem exec_tileFence {t : TileId} {s : State} (hrun : frameRuns s = true) (hcove : coveAwake s (coveOf t.val) = true) :
    exec (.tileFence t) s = .next (tileFence t s) := next_onlyIf (by rw [hrun, hcove]; rfl) _ s

/-- Settles O35. -/
theorem instancesOnCores : Obligations.InstancesOnCores := by
  unfold Obligations.InstancesOnCores
  refine ⟨?_, ?_, ?_, ?_, ?_, ?_, ?_, ?_, ?_, ?_, ?_, ?_, ?_⟩
  · intro c t d p o s hrun ha ho
    exact (next_onlyIf hrun _ s).trans (congrArg Host.Outcome.next (loadResponse_of_out ha ho))
  · intro c t d p s hrun ha ho
    exact (next_onlyIf hrun _ s).trans (congrArg Host.Outcome.next (loadResponse_of_old ha ho))
  · intro o d rd n off sg k ho hrd
    refine ⟨fun hb => ?_, fun hlate => landData_of_poison ho d hlate rd⟩
    rw [landData_of_load ho, Core.gr_land _ _ hrd hb]
  · intro c t p w s hrun ha hw hend
    exact (next_onlyIf hrun _ s).trans (congrArg Host.Outcome.next (writeAck_of_ack ha hw hend))
  · intro c j rest b i l s hrun hpend hwait hdev hidle hinst hl hcopied himage
    refine .of_eq ((next_onlyIf hrun _ s).trans (congrArg Host.Outcome.next
      (instanceStart_of_first hpend hwait hdev hidle hinst hl hcopied himage))) ?_
    exact started_fields c _ rest s
  · intro k c x b i l j p
    obtain ⟨h1, h2, h3, h4, h7⟩ := gr_enterCore k c x b i l j p
    exact ⟨rfl, h1, h2, h3, h4, h7, rfl⟩
  · intro q asn dseq k b i l y d s hrun hinst hl hsec hop hk hnew hy hbuf
    refine .of_eq ((next_onlyIf hrun _ s).trans (congrArg Host.Outcome.next
      (imageSector_of_host hinst hl hsec hop hk hnew hy hbuf))) ⟨fun c j hj hid => ?_, regs_putInst _ _ _ _⟩
    have hcore := mapGet_map_snd (imageToCore l.id k.val d) (dflt := {}) rfl s.bead.cores c
    dsimp only [coreAt] at hj ⊢
    rw [bead_putInst, hcore, imageToCore_of_job hj hid]
    exact mapFind_mapIns_same ..
  · intro c s hrun hjob habort hend hflit
    exact (next_onlyIf hrun _ s).trans (congrArg Host.Outcome.next (instanceAbort_of_aborted hjob habort hend hflit))
  · intro c j f u s hrun hjob hend hflit hu
    subst hu
    exact ⟨fun hid => (next_onlyIf hrun _ s).trans (congrArg Host.Outcome.next (instanceAbort_of_flit hjob hflit hend hid)),
      fun hid habort => (next_onlyIf hrun _ s).trans (congrArg Host.Outcome.next
        (instanceAbort_of_other_flit hjob hflit habort hid))⟩
  · intro c s
    refine ⟨fun hw => ?_, fun hw => ?_⟩
    · rw [coreAt_endInstance, if_pos hw]
    · rw [coreAt_endInstance, if_neg hw]
      exact ⟨rfl, rfl⟩
  · intro e x s hrun hx hc hinst
    obtain ⟨hbead, htq, -⟩ := recordFault_frame x (excTaken x s)
    obtain ⟨hcount, hword⟩ := recordFault_count x (excTaken x s)
    refine .of_eq ((next_onlyIf hrun _ s).trans (congrArg Host.Outcome.next (instanceException_of_gone hx hinst)))
      ⟨congrArg BeadState.excs hbead, ?_, ?_, fun hv => ?_, htq⟩
    · rw [getF, show F.BEAD_FAULTS.COUNT.reg = .BEAD_FAULTS from rfl, hcount]
      exact getF_bump_of_width (f := F.BEAD_FAULTS.COUNT) rfl (by decide) 0 (excTaken x s)
    · rw [flag_eq_true_iff, getF, show F.BEAD_FAULT.VALID.reg = .BEAD_FAULT from rfl, hword]
      split
      · rename_i hv
        exact (flag_eq_true_iff ..).1 hv
      · exact bitsAt_faultWord hc
    · exact hword.trans (if_pos hv)
  · intro e x b i l u s hrun hx hinst hl hu
    subst hu
    exact ⟨fun hc hagain => (next_onlyIf hrun _ s).trans (congrArg Host.Outcome.next
        (instanceException_of_kernel hx hinst hl hc hagain)),
      fun hc hretry hfirst hst => (next_onlyIf hrun _ s).trans (congrArg Host.Outcome.next
        (instanceException_of_retry hx hinst hl hc hretry hfirst hst))⟩
  · intro t f s hrun hcove
    refine ⟨fun hf => ?_, fun hf => ?_⟩
    · rw [exec_tileFence hrun hcove, tileFence, hf]
    · rw [exec_tileFence hrun hcove, tileFence, hf]

end Sys2Proof.Machine

end


/-! ### The verdict of a RECKON, and a context's reckon parameters (R444, R453, R454) -/
section

namespace Sys2Proof.Machine

/-! #### The verdict: one lemma per row of R444 -/
section
variable (c : Cmd) (d : RkData) (r : DispRec) (point err st : Nat) (poison gap unmir : Bool)

theorem reckonVerdict_of_poison (h : poison = true ∨ st = Status.TQ_POISON) :
    (reckonVerdict c d r point err st poison gap unmir).1.verdict = 3 ∧
      (reckonVerdict c d r point err st poison gap unmir).2 = Status.TQ_POISON := by
  unfold reckonVerdict
  dsimp only
  rw [if_pos h]
  exact ⟨rfl, rfl⟩

section
variable (hp : poison = false) (hst : st ≠ Status.TQ_POISON)
include hp hst

theorem reckonVerdict_of_unread (herr : err ≠ 0) :
    (reckonVerdict c d r point err st poison gap unmir).1.verdict = 3 ∧
      (reckonVerdict c d r point err st poison gap unmir).2 = err := by
  unfold reckonVerdict
  dsimp only
  rw [if_neg (by simp [hp, hst]), if_pos herr]
  exact ⟨rfl, rfl⟩

theorem reckonVerdict_of_kernel_fault (herr : err = 0) (hne : st ≠ 0) :
    (reckonVerdict c d r point err st poison gap unmir).1.verdict = 3 ∧
      (reckonVerdict c d r point err st poison gap unmir).2 = Status.TQ_KFAULT := by
  unfold reckonVerdict
  dsimp only
  rw [if_neg (by simp [hp, hst]), if_neg (by simp [herr]), if_pos hne]
  exact ⟨rfl, rfl⟩

end

theorem reckonVerdict_of_unchecked (h : (reckonFails c d r.seed r.params).1 = none) :
    (reckonVerdict c d r point 0 0 false gap unmir).1.verdict = 3 ∧
      (reckonVerdict c d r point 0 0 false gap unmir).2 = Status.OK := by
  unfold reckonVerdict
  dsimp only
  rw [h, if_neg (by decide), if_neg (by decide), if_neg (by decide)]
  exact ⟨rfl, rfl⟩

theorem reckonVerdict_of_pass (h : (reckonFails c d r.seed r.params).1 = some []) :
    (reckonVerdict c d r point 0 0 false gap unmir).1.verdict = 1 ∧
      (reckonVerdict c d r point 0 0 false gap unmir).1.failed = 0 ∧
      (reckonVerdict c d r point 0 0 false gap unmir).2 = Status.OK := by
  unfold reckonVerdict
  dsimp only
  rw [h, if_neg (by decide), if_neg (by decide), if_neg (by decide)]
  exact ⟨rfl, Nat.zero_min _, rfl⟩

theorem reckonVerdict_of_fail {f : Nat} {l : List Nat} (h : (reckonFails c d r.seed r.params).1 = some (f :: l)) :
    (reckonVerdict c d r point 0 0 false gap unmir).1.verdict = 2 ∧
      (reckonVerdict c d r point 0 0 false gap unmir).1.failed = min (l.length + 1) (2 ^ 32 - 1) ∧
      (reckonVerdict c d r point 0 0 false gap unmir).2 = Status.TQ_RECKFAIL := by
  unfold reckonVerdict
  dsimp only
  rw [h, if_neg (by decide), if_neg (by decide), if_neg (by decide)]
  exact ⟨rfl, rfl, rfl⟩

end

/-! #### TLY_CTX_WRITE and TLY_CTX_READ (R453, R454) -/

/-- A context with other reckon parameters. -/
def reckSet (asid : Nat) (v : BitVec 32) (s : State) : State :=
  { s with xlt := { s.xlt with ctxs := mapIns s.xlt.ctxs asid { ctxAt s asid with reck := v } } }

theorem ctxAt_reckSet (asid : Nat) (v : BitVec 32) (s : State) (b : Nat) :
    ctxAt (reckSet asid v s) b = if b = asid then { ctxAt s asid with reck := v } else ctxAt s b := by
  by_cases hb : b = asid
  · subst hb
    rw [if_pos rfl]
    exact mapGet_mapIns_same ..
  · rw [if_neg hb]
    exact mapGet_mapIns_ne _ _ _ hb

/-- Reporting a result writes TLY_CTXSTAT only. -/
theorem tlyErr_frame {e : Nat} (he : e < 8) (s : State) :
    getF (tlyErr e s) F.TLY_CTXSTAT.ERR = e ∧ RegsBut [(.TLY_CTXSTAT, 0)] s (tlyErr e s) ∧ OnlyRegs s (tlyErr e s) := by
  refine ⟨?_, ?_, ?_⟩
  · rw [tlyErr, getF_setF_same _ _ _ _ (by decide)]
    exact Nat.mod_eq_of_lt he
  · exact (RegsBut.setF (f := F.TLY_CTXSTAT.BUSY) (i := 0) (by decide) 0 s).trans
      (RegsBut.setF (f := F.TLY_CTXSTAT.ERR) (i := 0) (by decide) e _)
  · exact (OnlyRegs.setF F.TLY_CTXSTAT.BUSY 0 0 s).trans (OnlyRegs.setF F.TLY_CTXSTAT.ERR 0 e _)

theorem tlyErr_xlt (e : Nat) (s : State) : (tlyErr e s).xlt = s.xlt := rfl

section
variable {asid : BitVec 16} {s : State}

theorem tlyCtxWrite_of_bound (hb : (ctxAt s asid.toNat).bound = true) (hok : ctxaOk (getReg s .TLY_CTXA 0) = true) :
    tlyCtxWrite asid.toNat s = tlyErr 0 (reckSet asid.toNat (getReg s .TLY_CTXA 0) s) := by
  rw [tlyCtxWrite, if_neg (by simp [hb]), if_neg (by simp [hok])]
  rfl

theorem tlyCtxWrite_of_reserved (hb : (ctxAt s asid.toNat).bound = true) (hbad : ctxaOk (getReg s .TLY_CTXA 0) = false) :
    tlyCtxWrite asid.toNat s = tlyErr 2 s := by
  simp only [tlyCtxWrite, hb, hbad, Bool.not_true, Bool.not_false, Bool.false_eq_true, if_false, if_true]

theorem tlyCtxWrite_of_unbound (hb : (ctxAt s asid.toNat).bound = false) : tlyCtxWrite asid.toNat s = tlyErr 1 s := by
  simp only [tlyCtxWrite, hb, Bool.not_false, if_true]

theorem tlyCtxRead_of_bound (hb : (ctxAt s asid.toNat).bound = true) :
    tlyCtxRead asid.toNat s = tlyErr 0 (setReg .TLY_CTXA 0 (ctxAt s asid.toNat).reck s) := by
  simp only [tlyCtxRead, hb, Bool.not_true, Bool.false_eq_true, if_false]

end

/-- Settles O36. -/
theorem reckonVerdictsAndParameters : Obligations.ReckonVerdictsAndParameters := by
  unfold Obligations.ReckonVerdictsAndParameters
  refine ⟨?_, ?_⟩
  · intro c d r point err st poison gap unmir
    exact ⟨reckonVerdict_of_poison c d r point err st poison gap unmir,
      reckonVerdict_of_unread c d r point err st poison gap unmir,
      reckonVerdict_of_kernel_fault c d r point err st poison gap unmir, reckonVerdict_of_unchecked c d r point gap unmir,
      reckonVerdict_of_pass c d r point gap unmir, fun _ _ => reckonVerdict_of_fail c d r point gap unmir⟩
  · intro asid s hopen
    refine ⟨fun hb hok => ?_, fun hb hbad => ?_, fun hb => ?_, fun hb => ?_⟩
    · refine .of_eq ((next_onlyIf hopen _ s).trans (congrArg Host.Outcome.next (tlyCtxWrite_of_bound hb hok))) ?_
      obtain ⟨herr, hregs, -⟩ := tlyErr_frame (e := 0) (by decide) (reckSet asid.toNat (getReg s .TLY_CTXA 0) s)
      exact ⟨(ctxAt_reckSet ..).trans (if_pos rfl), fun b hne => (ctxAt_reckSet ..).trans (if_neg hne), herr,
        (RegsBut.of_regs_eq rfl).trans hregs⟩
    · refine .of_eq ((next_onlyIf hopen _ s).trans (congrArg Host.Outcome.next (tlyCtxWrite_of_reserved hb hbad))) ?_
      exact ⟨tlyErr_xlt 2 s, (tlyErr_frame (by decide) s).1⟩
    · refine .of_eq ((next_onlyIf hopen _ s).trans (congrArg Host.Outcome.next (tlyCtxWrite_of_unbound hb))) ?_
      exact ⟨tlyErr_xlt 1 s, (tlyErr_frame (by decide) s).1⟩
    · refine .of_eq ((next_onlyIf hopen _ s).trans (congrArg Host.Outcome.next (tlyCtxRead_of_bound hb))) ?_
      obtain ⟨herr, hregs, honly⟩ := tlyErr_frame (e := 0) (by decide) (setReg .TLY_CTXA 0 (ctxAt s asid.toNat).reck s)
      refine ⟨(hregs _ _ (by decide)).trans ?_, herr, (OnlyRegs.setReg ..).trans honly,
        (RegsBut.setReg (by decide) _ s).trans (fun r i hr => hregs r i fun hm => hr (List.mem_cons_of_mem _ hm))⟩
      rw [getReg_setReg, if_pos ⟨rfl, rfl⟩]

end Sys2Proof.Machine

end


/-! ### Entries become durable; the mirror partner, its loss, and takeover (R24, R25, R461, R462, R480, R499, R505, R506) -/
section

namespace Sys2Proof.Machine

/-! #### Durability (R461, R466) -/

theorem durable_iff (s : State) (lsn : Nat) :
    durable s lsn = true ↔ lsn < s.hbl.local_ ∧ (mirrored s = true → lsn < s.hbl.acked) := by
  rw [durable, Bool.and_eq_true, Bool.or_eq_true, decide_eq_true_iff, decide_eq_true_iff, Bool.not_eq_true', ← Bool.not_eq_true,
    ← Decidable.imp_iff_not_or]

theorem putsGo_of_no_queues {s : State} (h : s.tq.queues = []) : putsGo s = s := by
  rw [putsGo, h, List.foldl_nil]

theorem journalLocal_of_no_queues {s : State} (h : s.hbl.local_ < jHead s) (hq : s.tq.queues = []) :
    journalLocal s = { s with hbl := { s.hbl with local_ := s.hbl.local_ + 1 } } := by
  rw [journalLocal, if_neg (Nat.not_le.2 h)]
  exact putsGo_of_no_queues hq

/-! #### Reclaiming the oldest position (R462) -/

/-- The state with the oldest position reclaimed. -/
def oldestNext (s : State) : State := { s with hbl := { s.hbl with oldest := s.hbl.oldest + 1 } }

theorem jReclaim_of_empty {s : State} (h : s.hbl.oldest < jHead s) (hown : mapFind s.hbl.own (s.hbl.oldest % areaSize) = none) :
    jReclaim s = oldestNext s := by
  rw [jReclaim, if_neg (Nat.not_le.2 h), hown]
  rfl

theorem jReclaim_of_live {s : State} {e : BitVec 512} (h : s.hbl.oldest < jHead s)
    (hown : mapFind s.hbl.own (s.hbl.oldest % areaSize) = some e) (hlsn : jLsn e = s.hbl.oldest) (hlive : entryLive s e = true) :
    jReclaim s = jMoved e (jHead s) (jPut (jRenumber e) (oldestNext s)) := by
  rw [jReclaim, if_neg (Nat.not_le.2 h), hown]
  exact if_pos (by simp [hlsn, hlive])

/-- Sending a copy to the partner changes no position of the own area. -/
theorem jMirror_frame (e : BitVec 512) (s : State) :
    (jMirror e s).hbl.oldest = s.hbl.oldest ∧ jHead (jMirror e s) = jHead s := by
  unfold jMirror
  split
  · have h := SendFrame.twySend (journalMsg s e) { s with hbl := { s.hbl with goal := jLsn e + 1 } }
    exact ⟨by rw [h.hbl], h.get64 rfl rfl 0⟩
  · exact ⟨rfl, rfl⟩

/-- The state with an entry at the head and HBL_HEAD behind it. -/
def entryPut (mk : Nat → BitVec 512) (s : State) : State :=
  set64 .HBL_HEAD_LO .HBL_HEAD_HI 0 ((jHead s + 1) % 2 ^ 48)
    { s with hbl := { s.hbl with own := mapIns s.hbl.own (jHead s % areaSize) (mk (jHead s)) } }

theorem oldest_entryPut (mk : Nat → BitVec 512) (s : State) : (entryPut mk s).hbl.oldest = s.hbl.oldest := by
  rw [entryPut, set64_hbl]

theorem jHead_entryPut (mk : Nat → BitVec 512) (s : State) : jHead (entryPut mk s) = (jHead s + 1) % 2 ^ 48 := by
  rw [jHead, entryPut, get64_set64_same _ _ _ _ _ (by decide)]
  omega

theorem jPut_eq (mk : Nat → BitVec 512) (s : State) : jPut mk s = jMirror (mk (jHead s)) (entryPut mk s) := rfl

theorem jPut_frame (mk : Nat → BitVec 512) (s : State) :
    (jPut mk s).hbl.oldest = s.hbl.oldest ∧ jHead (jPut mk s) = (jHead s + 1) % 2 ^ 48 := by
  obtain ⟨hold, hhead⟩ := jMirror_frame (mk (jHead s)) (entryPut mk s)
  rw [jPut_eq, hold, hhead, oldest_entryPut, jHead_entryPut]
  exact ⟨rfl, rfl⟩

theorem jMoved_frame (e : BitVec 512) (lsn : Nat) (s : State) :
    (jMoved e lsn s).hbl = s.hbl ∧ jHead (jMoved e lsn s) = jHead s := by
  unfold jMoved
  split
  · split <;> exact ⟨rfl, rfl⟩
  · exact ⟨rfl, rfl⟩

/-! #### The mirror partner (R24, R480) -/

theorem mirrorLost_of_mirrored {s : State} (h : mirrored s = true) :
    mirrorLost s = post { code := Ev.HBL_UNMIRRORED, inst := getF s F.HBL_PARTNER.DIE }
      (setF F.GLB_STATUS.MIRRORED 0 0 (setF F.HBL_PARTNER.STATE 0 0 (setF F.HBL_PARTNER.VALID 0 0 s))) := if_pos h

/-- What losing the partner leaves of a mirrored die. -/
theorem mirrorLost_fields {s : State} (h : mirrored s = true) :
    getF (mirrorLost s) F.GLB_STATUS.MIRRORED = 0 ∧ getF (mirrorLost s) F.HBL_PARTNER.VALID = 0 ∧
    getF (mirrorLost s) F.HBL_PARTNER.STATE = 0 ∧ (mirrorLost s).hbl = s.hbl ∧ role (mirrorLost s) = role s := by
  rw [mirrorLost_of_mirrored h]
  refine ⟨?_, ?_, ?_, ?_, ?_⟩
  · rw [getF_post _ _ _ _ rfl, getF_setF_of_lt (by decide) (by decide)]
  · rw [getF_post _ _ _ _ rfl, getF_setF_of_reg (by decide), getF_setF_of_bits (by decide) (by decide),
      getF_setF_of_lt (by decide) (by decide)]
  · rw [getF_post _ _ _ _ rfl, getF_setF_of_reg (by decide), getF_setF_of_lt (by decide) (by decide)]
  · rw [post_hbl, setF_hbl, setF_hbl, setF_hbl]
  · rw [role, getF_post _ _ _ _ rfl, getF_setF_of_reg (by decide), getF_setF_of_reg (by decide),
      getF_setF_of_reg (by decide), role]

/-- A message to a steward of another die is sent, or there is no steward. -/
theorem sendFrame_toSteward {s : State} (h : role s ≠ 3) (kind : Nat) (fields : List (Nat × Nat × Nat)) (data : List Sector)
    (here : State → State) : SendFrame s (toSteward kind fields data here s) := by
  rw [toSteward, if_neg h]
  split
  · exact .twySend _ s
  · exact .refl s

theorem exec_mirrorAckTimeout {s : State} (hrun : frameRuns s = true) (hst : getF s F.HBL_PARTNER.STATE = 2)
    (hopen : s.hbl.acked < s.hbl.goal) : exec .mirrorAckTimeout s = .next
      (toSteward mkMirrorLoss [] [] (stewMirrorLoss (ownDie (mirrorLost s))) (mirrorLost s)) :=
  next_onlyIf (by simp [hrun, hst, hopen]) _ s

theorem mirrorReached_of_all {s : State} (hst : getF s F.HBL_PARTNER.STATE = 1) (hall : s.hbl.goal ≤ s.hbl.acked) :
    mirrorReached s = post { code := Ev.HBL_REMIRRORED, inst := getF s F.HBL_PARTNER.DIE }
      (setF F.GLB_STATUS.MIRRORED 0 1 (setF F.HBL_PARTNER.STATE 0 2 s)) := if_pos ⟨hst, hall⟩

/-! #### Takeover (R499, R505, R506) -/

/-- A takeover begins: it holds its records. -/
def tkBegun (d : Nat) (x : Takeover) (s : State) : State :=
  { s with hbl := { s.hbl with tk := s.hbl.tk.map (fun u =>
      if u = x then { x with begun := true, recs := slotRecords s x.slot d } else u) } }

theorem takeover_of_held {d : Nat} {x : Takeover} {s : State} (hx : s.hbl.tk.find? (fun t => t.die == d && !t.begun) = some x)
    (hen : flag s F.HBL_CTL.TK_EN = false) : takeover d s = post { code := Ev.HBL_TKWAIT, inst := d }
      (post { code := Ev.HBL_TAKEOVER, inst := d } (bump F.HBL_TAKEOVER.COUNT 0 (tkBegun d x s))) := by
  rw [takeover, hx]
  exact if_neg (by simp [hen])

theorem tkGo_of_none {s : State} (h : s.hbl.tk = []) (n : Nat) : tkGo n s = s := by
  cases n with
  | zero => rfl
  | succ n => rw [tkGo, h]

theorem tkHeadWrite_of_none {s : State} (h : s.hbl.tk = []) (v : Nat) : tkHeadWrite v s
    = { s with hbl := { s.hbl with tkHead := consumed s.hbl.tkHead s.hbl.tkTail (tkSize s) (v % tkSize s) } } :=
  tkGo_of_none (by exact h) _

theorem exec_hblTkEnable {s : State} (hopen : barOpen s = true) (h : s.hbl.tk = []) (on : Bool) :
    exec (.hblTkEnable on) s = .next (setF F.HBL_CTL.TK_EN 0 (boolNat on) s) :=
  (next_onlyIf hopen _ s).trans (congrArg Host.Outcome.next (tkGo_of_none (by exact h) _))

/-- Settles O37. -/
theorem journalMirrorAndTakeover : Obligations.JournalMirrorAndTakeover := by
  unfold Obligations.JournalMirrorAndTakeover
  refine ⟨durable_iff, ?_, ?_, ?_, ?_, ?_, ?_, ?_, ?_⟩
  · intro s hrun hlsn hq
    exact (next_onlyIf hrun _ s).trans (congrArg Host.Outcome.next (journalLocal_of_no_queues hlsn hq))
  · intro s hrun hold
    refine ⟨fun hown => ?_, fun e hown hlsn hlive => ?_⟩
    · exact (next_onlyIf hrun _ s).trans (congrArg Host.Outcome.next (jReclaim_of_empty hold hown))
    · refine .of_eq ((next_onlyIf hrun _ s).trans (congrArg Host.Outcome.next (jReclaim_of_live hold hown hlsn hlive))) ?_
      obtain ⟨hhbl, hhead⟩ := jMoved_frame e (jHead s) (jPut (jRenumber e) (oldestNext s))
      obtain ⟨hold', hhead'⟩ := jPut_frame (jRenumber e) (oldestNext s)
      exact ⟨(by rw [hhbl]; exact hold'), hhead.trans hhead'⟩
  · intro s hrun hst hopen hmir hrole
    refine .of_eq (exec_mirrorAckTimeout hrun hst hopen) ?_
    obtain ⟨hm, hv, hs, hhbl, hr⟩ := mirrorLost_fields hmir
    have hsend := sendFrame_toSteward (hr.symm ▸ hrole) mkMirrorLoss [] [] (stewMirrorLoss (ownDie (mirrorLost s)))
    refine ⟨?_, ?_, (hsend.getF rfl 0).trans hs, hsend.hbl.trans hhbl⟩
    · rw [mirrored, flag, hsend.getF rfl 0, hm]
      rfl
    · rw [flag, hsend.getF rfl 0, hv]
      rfl
  · intro s hst hall
    rw [mirrorReached_of_all hst hall]
    refine ⟨?_, ?_, ?_⟩
    · rw [mirrored, flag, getF_post _ _ _ _ rfl, getF_setF_of_lt (by decide) (by decide)]
      rfl
    · rw [getF_post _ _ _ _ rfl, getF_setF_of_reg (by decide), getF_setF_of_lt (by decide) (by decide)]
    · rw [post_hbl, setF_hbl, setF_hbl]
  · intro d x s hrun hx hen
    refine .of_eq ((next_onlyIf hrun _ s).trans (congrArg Host.Outcome.next (takeover_of_held hx hen))) ⟨?_, ?_, ?_⟩
    · rw [post_hbl, post_hbl, bump_hbl]
      rfl
    · rw [getF_post _ _ _ _ rfl, getF_post _ _ _ _ rfl, getF_bump_same _ _ _ (by decide)]
      rfl
    · exact (RegsButAll.of_regs_eq (t := tkBegun d x s) rfl).trans
        ((RegsButAll.bump (f := F.HBL_TAKEOVER.COUNT) (by decide) 0 _).trans
          (((RegsButAll.post _ _).mono (by decide)).trans ((RegsButAll.post _ _).mono (by decide))))
  · intro v s hopen htk
    exact .of_eq ((next_onlyIf hopen _ s).trans (congrArg Host.Outcome.next (tkHeadWrite_of_none htk _))) ⟨rfl, rfl⟩
  · intro on s hopen htk
    refine .of_eq (exec_hblTkEnable hopen htk on) ⟨?_, OnlyRegs.setF .., RegsBut.setF (f := F.HBL_CTL.TK_EN) (by decide) _ s⟩
    exact flag_setF_boolNat (by decide) rfl ..
  · intro d s hrun
    exact next_onlyIf hrun _ s

end Sys2Proof.Machine

end


/-! ### The timers of the lease and the steward (R24, R69, R70, R494, R504, R508, R509, R764, R767, R772, R821) -/
section

namespace Sys2Proof.Machine

/-! #### Who may hold the lease -/

/-- Whether a die may claim depends on its role by no more than its withdrawal, and not on the holder it knows. -/
theorem eligible_congr {s t : State} (hhld : t.hld.conflict = s.hld.conflict)
    (hreg : RegsBut [(.HLD_ROLE, 0)] s t) (hquar : getF t F.HLD_ROLE.QUAR = getF s F.HLD_ROLE.QUAR)
    (hrole : (role t != 4) = (role s != 4)) : eligible t = eligible s := by
  have hdie : ownDie t = ownDie s := congrArg (fun v => bitsAt v _ _) (hreg .GLB_DIE 0 (by decide))
  have hleft : flag t F.GLB_STATUS.LEFT = flag s F.GLB_STATUS.LEFT :=
    flag_congr (congrArg (fun v => bitsAt v _ _) (hreg .GLB_STATUS 0 (by decide)))
  have htrust : trusted t (ownDie t) = trusted s (ownDie s) := by
    rw [trusted, hdie, hreg _ _ (by decide), hreg _ _ (by decide), trusted]
  rw [eligible, htrust, flag_congr hquar, hrole, hhld, hleft, eligible]

theorem regsBut_noHolder (s : State) : RegsBut [(.HLD_ROLE, 0)] s (noHolder s) :=
  RegsBut.setF (f := F.HLD_ROLE.SVALID) (i := 0) (by decide) 0 s

theorem role_noHolder (s : State) : role (noHolder s) = role s := getF_setF_of_bits (by decide) (by decide) 0 0 0 s

theorem svalid_noHolder (s : State) : flag (noHolder s) F.HLD_ROLE.SVALID = false :=
  flag_setF_boolNat (f := F.HLD_ROLE.SVALID) (by decide) rfl 0 false s

theorem eligible_noHolder (s : State) : eligible (noHolder s) = eligible s :=
  eligible_congr rfl (regsBut_noHolder s) (getF_setF_of_bits (by decide) (by decide) 0 0 0 s) (by rw [role_noHolder])

/-- The role of a member. -/
theorem role_setRole {r : Nat} (hr : r < 8) (s : State) : role (setF F.HLD_ROLE.ROLE 0 r s) = r :=
  getF_setF_of_lt (f := F.HLD_ROLE.ROLE) (by decide) hr 0 s

/-! #### The lease's timers (R764, R767) -/

theorem sendFrame_leaseSend (kind : Nat) (s : State) : SendFrame s (leaseSend kind s) := by
  unfold leaseSend toTray
  refine SendFrame.foldl _ (fun u d => ?_) _ s
  split
  · exact .twySend _ u
  · exact .refl u

/-- The lease without a holder, as a wait for a claim begins. -/
def waiting (s : State) : State := { s with hld := { s.hld with claimWait := eligible s } }

theorem exec_leaseListenEnd {s : State} (hrun : headRuns s = true) (hrole : role s = 0) (hs : flag s F.HLD_ROLE.SVALID = false) :
    exec .leaseListenEnd s = .next (waiting (setF F.HLD_ROLE.ROLE 0 1 s)) := by
  have hs1 : flag (setF F.HLD_ROLE.ROLE 0 1 s) F.HLD_ROLE.SVALID = false :=
    (flag_congr (getF_setF_of_bits (by decide) (by decide) 0 0 1 s)).trans hs
  refine (next_onlyIf (by simp [hrun, hrole]) _ s).trans (congrArg Host.Outcome.next ?_)
  exact if_neg (by simp [hs1])

theorem exec_leaseLapse {s : State} (hrun : headRuns s = true) (hrole : role s = 1) (hw : s.hld.claimWait = false) :
    exec .leaseLapse s = .next (waiting (noHolder s)) := next_onlyIf (by simp [hrun, hrole, hw]) _ s

theorem exec_leaseBackoffEnd {s : State} (hrun : headRuns s = true) (hrole : role s = 1) (hw : s.hld.claimWait = true)
    (he : eligible s = true) : exec .leaseBackoffEnd s = .next (leaseClaim s) :=
  next_onlyIf (by simp [hrun, hrole, hw, he]) _ s

/-- A candidate, before its CLAIM leaves. -/
def candidate (s : State) : State :=
  setF F.HLD_ROLE.ROLE 0 2 (noHolder (setF F.HLD_EPOCH.EPOCH 0 (getF s F.HLD_EPOCH.EPOCH + 1)
    { s with hld := { s.hld with holdEpoch := getF s F.HLD_EPOCH.EPOCH + 1, rseq := 0, claimWait := false, stew := {} } }))

theorem candidate_fields (s : State) :
    role (candidate s) = 2 ∧ getF (candidate s) F.HLD_EPOCH.EPOCH = (getF s F.HLD_EPOCH.EPOCH + 1) % 2 ^ 32 ∧
    (candidate s).hld = { s.hld with holdEpoch := getF s F.HLD_EPOCH.EPOCH + 1, rseq := 0, claimWait := false, stew := {} } ∧
    flag (candidate s) F.HLD_ROLE.SVALID = false := by
  refine ⟨role_setRole (by decide) _, ?_, ?_, ?_⟩
  · rw [candidate, getF_setF_of_reg (by decide), noHolder, getF_setF_of_reg (by decide), getF_setF_same _ _ _ _ (by decide)]
    rfl
  · rw [candidate, setF_hld, noHolder, setF_hld, setF_hld]
  · rw [candidate, flag_congr (getF_setF_of_bits (by decide) (by decide) 0 0 2 _), svalid_noHolder]

/-- A steward, before its first renewal. -/
def stewardNow (s : State) : State :=
  { setF F.HLD_ROLE.ROLE 0 3 (setF F.HLD_ROLE.SVALID 0 1 (setF F.HLD_ROLE.STEWARD 0 (ownDie s) s)) with
    hld := { s.hld with stew := {} } }

theorem stewardNow_fields (s : State) : role (stewardNow s) = 3 ∧ getF (stewardNow s) F.HLD_ROLE.STEWARD = ownDie s ∧
    flag (stewardNow s) F.HLD_ROLE.SVALID = true := by
  have hdie : ownDie s < 2 ^ 5 := getF_lt s F.GLB_DIE.DIE 0
  have hregs : (stewardNow s).regs
      = (setF F.HLD_ROLE.ROLE 0 3 (setF F.HLD_ROLE.SVALID 0 1 (setF F.HLD_ROLE.STEWARD 0 (ownDie s) s))).regs := rfl
  refine ⟨?_, ?_, ?_⟩
  · rw [role, getF_congr hregs, getF_setF_of_lt (by decide) (by decide)]
  · rw [getF_congr hregs, getF_setF_of_bits (by decide) (by decide), getF_setF_of_bits (by decide) (by decide),
      getF_setF_of_lt (by decide) hdie]
  · rw [flag, getF_congr hregs, getF_setF_of_bits (by decide) (by decide), getF_setF_of_lt (by decide) (by decide)]
    rfl

theorem exec_leaseQuietEnd {s : State} (hrun : headRuns s = true) (hrole : role s = 2) :
    exec .leaseQuietEnd s = .next (leaseRenew (stewardNow s)) := next_onlyIf (by simp [hrun, hrole]) _ s

/-- A renewal is counted and sent. -/
theorem sendFrame_leaseRenew (s : State) : SendFrame { s with hld := { s.hld with rseq := s.hld.rseq + 1 } } (leaseRenew s) :=
  sendFrame_leaseSend 2 _

/-! #### Beats, declarations and collection (R494, R504, R509) -/

theorem exec_memberBeat_of_steward {s : State} (hrun : headRuns s = true) (hrole : role s = 3) :
    exec .memberBeat s = .next (stewBeat (ownDie s) (holdsTakeover s) s) :=
  (next_onlyIf hrun _ s).trans (congrArg Host.Outcome.next (if_pos hrole))

theorem stewBeat_of_present {d : Nat} {s : State} (hp : present s d = true) (hn : s.hld.stew.notice.getLsbD d = false)
    (holds : Bool) : stewBeat d holds s = setStew { s.hld.stew with
      notice := putBit s.hld.stew.notice d false
      holding := putBit s.hld.stew.holding d holds
      beats := mapIns s.hld.stew.beats d s.time } s := by
  rw [stewBeat, if_neg (by simp [hp])]
  exact if_neg (by simp [hn])

theorem next_onlyIf_of_not {c : Bool} (h : c = false) (f : State → State) (s : State) :
    (Host.Outcome.next (onlyIf c f s) : Result) = .next s := by rw [h, onlyIf_false]

/-! #### Decisions (R508) -/

theorem decisionTake_of_stale {epoch : Nat} {s : State} (h : epoch < max s.hbl.decEpoch (getF s F.HLD_EPOCH.EPOCH))
    (act d x : Nat) : decisionTake epoch act d x s = post { code := Ev.HBL_STALEDEC, d0 := epoch } s := if_pos h

theorem decisionTake_of_fresh {epoch : Nat} {s : State} (h : max s.hbl.decEpoch (getF s F.HLD_EPOCH.EPOCH) ≤ epoch)
    (act d x : Nat) :
    decisionTake epoch act d x s = decisionApply act d x { s with hbl := { s.hbl with decEpoch := epoch } } := by
  rw [decisionTake, if_neg (Nat.not_lt.2 h), Nat.max_eq_right (Nat.le_trans (Nat.le_max_left ..) h)]

/-! #### Quarantine (R772, R821) -/

theorem quarMsg_iff (m : TwyMsg) : quarMsg m = true ↔ m.op = 0x12 ∧
    (memberKind m = mkRoster ∨ memberKind m = mkEnrol ∨ memberKind m = mkSpdm) := by
  simp [quarMsg]

theorem linkShut_of {n : Nat} {s : State} (h : (getReg s .HLD_QUAR 0).getLsbD (getF s F.TWY_PEER.DIE n) = true ∨
    flag s F.GLB_STATUS.LEFT = true ∨ role s = 4) : linkShut s n = true := by
  rcases h with h | h | h
  · simp [linkShut, h]
  · simp [linkShut, h]
  · rw [role] at h
    simp [linkShut, h]

theorem mayMirror_of {d : Nat} {s : State} (h : (getReg s .HLD_QUAR 0).getLsbD d = true ∨ flag s F.HLD_ROLE.QUAR = true ∨
    role s = 4) : mayMirror s d = false := by
  rcases h with h | h | h
  · simp [mayMirror, h]
  · simp [mayMirror, h]
  · rw [role] at h
    simp [mayMirror, h]

/-- Settles O38. -/
theorem stewardAndLeaseTimers : Obligations.StewardAndLeaseTimers := by
  unfold Obligations.StewardAndLeaseTimers
  refine ⟨?_, ?_, ?_, ?_, ?_, ?_, ?_, ?_, ?_, ?_, ?_, ?_⟩
  · intro s hrun hrole hs
    have hregs : RegsBut [(.HLD_ROLE, 0)] s (setF F.HLD_ROLE.ROLE 0 1 s) :=
      RegsBut.setF (f := F.HLD_ROLE.ROLE) (i := 0) (by decide) 1 s
    have he : eligible (setF F.HLD_ROLE.ROLE 0 1 s) = eligible s :=
      eligible_congr rfl hregs (getF_setF_of_bits (by decide) (by decide) 0 0 1 s)
        (by rw [role_setRole (by decide), hrole]; rfl)
    refine .of_eq (exec_leaseListenEnd hrun hrole hs) ⟨role_setRole (by decide) s, ?_, hregs⟩
    rw [waiting, he, setF_hld]
  · intro s hrun hrole hw
    refine .of_eq (exec_leaseLapse hrun hrole hw) ⟨(role_noHolder s).trans hrole, svalid_noHolder s, ?_, regsBut_noHolder s⟩
    rw [waiting, eligible_noHolder, noHolder, setF_hld]
  · intro s hrun hrole hw he
    obtain ⟨hr, hepoch, hhld, hsv⟩ := candidate_fields s
    have hsend : SendFrame (candidate s) (leaseClaim s) := sendFrame_leaseSend 1 (candidate s)
    refine .of_eq (exec_leaseBackoffEnd hrun hrole hw he) ⟨(hsend.getF rfl 0).trans hr, (hsend.getF rfl 0).trans hepoch,
      ?_, ?_, (flag_congr (hsend.getF rfl 0)).trans hsv⟩
    · rw [hsend.hld, hhld]
    · rw [hsend.hld, hhld]
  · intro s hrun hrole
    obtain ⟨hr, hst, hsv⟩ := stewardNow_fields s
    have hsend := sendFrame_leaseRenew (stewardNow s)
    refine .of_eq (exec_leaseQuietEnd hrun hrole) ?_
    exact ⟨(hsend.getF rfl 0).trans hr, (hsend.getF rfl 0).trans hst, (flag_congr (hsend.getF rfl 0)).trans hsv,
      by rw [hsend.hld]; rfl, by rw [hsend.hld]; rfl⟩
  · intro s hrun hrole
    have hsend := sendFrame_leaseRenew s
    exact .of_eq (next_onlyIf (by simp [hrun, hrole]) _ s) ⟨(hsend.getF rfl 0).trans hrole, hsend.hld⟩
  · intro s hrun hrole hp hn
    refine .of_eq (exec_memberBeat_of_steward hrun hrole) ?_
    rw [stewBeat_of_present hp hn]
    exact ⟨mapFind_mapIns_same .., rfl⟩
  · intro d s hacts
    refine ⟨fun hn => ⟨next_onlyIf (by rw [hacts, hn]; rfl) _ s, next_onlyIf_of_not (by rw [hacts, hn]; rfl) _ s⟩,
      fun hn => ⟨next_onlyIf (by rw [hacts, hn]; rfl) _ s, next_onlyIf_of_not (by rw [hacts, hn]; rfl) _ s⟩,
      fun hp => if_pos (by simp [hp])⟩
  · intro reports s hrun hrole hready
    exact next_onlyIf (by simp [hrun, hrole, hready]) _ s
  · intro epoch act d x s
    refine ⟨fun h => decisionTake_of_stale h act d x, fun h => ⟨decisionTake_of_fresh h 8 d x, fun hno act hact => ?_⟩⟩
    have hno' : mayMirror { s with hbl := { s.hbl with decEpoch := epoch } } d = false := hno
    rw [decisionTake_of_fresh h]
    rcases hact with rfl | rfl
    · exact if_neg (by simp [hno'])
    · exact if_neg (by simp [hno'])
  · intro n m s
    refine ⟨quarMsg_iff m, fun h hm => ?_⟩
    have hshut := linkShut_of h
    simp [linkCarries, mayPass, hm, hshut]
  · intro d s h
    exact mayMirror_of h
  · intro d s _ hnew u hu hlive
    subst hu
    have hcond : ¬ (flag s F.HBL_PARTNER.VALID && getF s F.HBL_PARTNER.DIE == d && getF s F.HBL_PARTNER.STATE != 0) = true := by
      simpa [and_assoc] using hnew
    rw [partnerAssign, if_neg hcond]
    dsimp only
    rw [hlive]
    rfl

end Sys2Proof.Machine

end


/-! ### A row that serves a message takes the oldest one meant (R577, R580, R583, R618, R682) -/
section

namespace Sys2Proof.Machine

/-! #### Serving -/

/-- What a serving row comes to: nothing without a message meant, else the message is served, or its coves asked to wake. -/
def Serves (n vc : Nat) (p : TwyMsg → Bool) (w : TwyMsg → Nat × Bool) (f : TwyMsg → State → State) (s t : State) : Prop :=
  (∀ m, rxPick s n vc (fun m => m.dst == ownDie s && p m) = some m → w m = (0, false) →
    t = linkReturn n (f m (rxDrop n m s))) ∧
  (∀ m, rxPick s n vc (fun m => m.dst == ownDie s && p m) = some m → w m ≠ (0, false) → t = askWake (w m).1 s) ∧
  (rxPick s n vc (fun m => m.dst == ownDie s && p m) = none → t = s)

section
variable {n vc : Nat} {p : TwyMsg → Bool} {w : TwyMsg → Nat × Bool} {f g : TwyMsg → State → State} {s : State}

theorem serves_twyReach : Serves n vc p w f s (twyReach n vc p w f s) := by
  refine ⟨fun m h hw => ?_, fun m h hw => ?_, fun h => ?_⟩
  · rw [twyReach, h]
    dsimp only
    rw [if_pos (beq_iff_eq.2 hw), twyServe, h]
  · rw [twyReach, h]
    exact if_neg fun hc => hw (beq_iff_eq.1 hc)
  · rw [twyReach, h]

theorem serves_twyServe (hfg : ∀ m u, g m u = f m u) : Serves n vc p (noWait s) f s (twyServe n vc p g s) := by
  refine ⟨fun m h _ => ?_, fun m _ hw => absurd rfl hw, fun h => ?_⟩
  · simp only [twyServe, h, hfg]
  · simp only [twyServe, h]

end

/-- A row that serves messages in the state `s`: where it runs, it serves. -/
def ServeRow (n : LinkId) (i : Instr) (c : Bool) (vc : Nat) (p : TwyMsg → Bool) (w : TwyMsg → Nat × Bool)
    (f : TwyMsg → State → State) (s : State) : Prop :=
  ∃ h : State → State, exec i s = .next (onlyIf c h s) ∧ Serves n vc p w f s (h s)

theorem serveRow_reach {n : LinkId} {i : Instr} {c : Bool} {vc : Nat} {p : TwyMsg → Bool} {w : TwyMsg → Nat × Bool}
    {f : TwyMsg → State → State} {s : State} (h : exec i s = .next (onlyIf c (twyReach n vc p w f) s)) :
    ServeRow n i c vc p w f s := ⟨_, h, serves_twyReach⟩

theorem serveRow_of {n : LinkId} {i : Instr} {c : Bool} {vc : Nat} {p : TwyMsg → Bool} {f : TwyMsg → State → State} {s : State}
    (g : TwyMsg → State → State) (h : exec i s = .next (onlyIf c (twyServe n vc p g) s)) (hfg : ∀ m u, g m u = f m u) :
    ServeRow n i c vc p (noWait s) f s := ⟨_, h, serves_twyServe hfg⟩

/-- A row that adds a member asks for the steward's role and the member's trust at once. -/
theorem atSteward_join (m : TwyMsg) (u : State) :
    (if role u = 3 && trusted u m.src then stewJoin m.src u else u)
      = atSteward (fun m u => if trusted u m.src then stewJoin m.src u else u) m u := by
  unfold atSteward
  by_cases hr : role u = 3 <;> simp [hr]

/-- Every row of the table serves. -/
theorem serveRow_of_served {n : LinkId} {i : Instr} {g : State → Bool} {vc : Nat} {p : State → TwyMsg → Bool}
    {w : State → TwyMsg → Nat × Bool} {f : TwyMsg → State → State} (h : Served n i g vc p w f) (s : State) :
    ServeRow n i (g s) vc (p s) (w s) f s := by
  cases h with
  | write => exact serveRow_reach rfl
  | read => exact serveRow_reach rfl
  | readData => exact serveRow_reach rfl
  | ack => exact serveRow_of _ rfl fun _ _ => rfl
  | error => exact serveRow_of _ rfl fun _ _ => rfl
  | abort => exact serveRow_of _ rfl fun _ _ => rfl
  | fence => exact serveRow_of _ rfl fun _ _ => rfl
  | doorbell => exact serveRow_of _ rfl fun _ _ => rfl
  | journal => exact serveRow_of _ rfl fun _ _ => rfl
  | jack => exact serveRow_of _ rfl fun _ _ => rfl
  | coll => exact serveRow_of _ rfl fun _ _ => rfl
  | route => exact serveRow_of _ rfl fun _ _ => rfl
  | claim => exact serveRow_of _ rfl fun _ _ => rfl
  | renew => exact serveRow_of _ rfl fun _ _ => rfl
  | release => exact serveRow_of _ rfl fun _ _ => rfl
  | beat => exact serveRow_of _ rfl fun _ _ => rfl
  | decision => exact serveRow_of _ rfl fun _ _ => rfl
  | reset => exact serveRow_of _ rfl fun _ _ => rfl
  | link => exact serveRow_of _ rfl fun _ _ => rfl
  | ident => exact serveRow_of _ rfl fun _ _ => rfl
  | join => exact serveRow_of _ rfl atSteward_join
  | turnDone => exact serveRow_of _ rfl fun _ _ => rfl
  | departure => exact serveRow_of _ rfl fun _ _ => rfl
  | mirrorLoss => exact serveRow_of _ rfl fun _ _ => rfl
  | query => exact serveRow_of _ rfl fun _ _ => rfl

/-- A MEMBER row that waits for nothing, with its message at hand. -/
theorem exec_memberServe {n : LinkId} {i : Instr} {kind : Nat} {f : TwyMsg → State → State} {m : TwyMsg} {s : State}
    (hx : exec i s = .next (onlyIf (headRuns s) (memberServe n kind f) s)) (hrun : headRuns s = true)
    (hm : Waiting s n 1 (fun _ m => m.op == 0x12 && memberKind m == kind) m) :
    exec i s = .next (linkReturn n (f m (rxDrop n m s))) := by
  rw [hx, next_onlyIf hrun]
  exact congrArg Host.Outcome.next ((serves_twyServe (f := f) fun _ _ => rfl).1 m hm rfl)

/-! #### Taking a message out -/

theorem regs_rxDrop (n : Nat) (m : TwyMsg) (s : State) : (rxDrop n m s).regs = s.regs := rfl

theorem role_rxDrop (n : Nat) (m : TwyMsg) (s : State) : role (rxDrop n m s) = role s := getF_congr (regs_rxDrop n m s) _ _

theorem rx_rxDrop (n : Nat) (m : TwyMsg) (s : State) : (rxDrop n m s).twy.rx
    = mapSet s.twy.rx (rxKey n m.hop m.vc) [] ((mapGet s.twy.rx (rxKey n m.hop m.vc) []).erase m) := rfl

theorem linkAt_rxDrop (n : Nat) (m : TwyMsg) (s : State) :
    linkAt (rxDrop n m s) n = linkOwe (hopVc m) (m.data.length + 1) (linkAt s n) :=
  mapGet_mapSet_same s.twy.links n {} _

/-- Settles O39. -/
theorem messagesAreServed : Obligations.MessagesAreServed := by
  unfold Obligations.MessagesAreServed
  refine ⟨?_, ?_, ?_, ?_, ?_, ?_⟩
  · intro n i g vc p w f m s hrow hg
    obtain ⟨h, hx, hserve, hwait, hnone⟩ := serveRow_of_served hrow s
    have hrun : exec i s = .next (h s) := by rw [hx, next_onlyIf hg]
    exact ⟨fun hm hw => hrun.trans (congrArg Host.Outcome.next (hserve m hm hw)),
      fun hm hw => hrun.trans (congrArg Host.Outcome.next (hwait m hm hw)),
      fun hm => hrun.trans (congrArg Host.Outcome.next (hnone hm))⟩
  · intro n m s hrun hm
    have hx := exec_memberServe (i := .rosterChangeReceive n) rfl hrun hm
    refine ⟨fun hsrc hsv => hx.trans ?_, fun hsv => hx.trans ?_⟩
    · rw [if_pos ⟨hsrc.trans (getF_congr (regs_rxDrop n m s) _ _).symm, (flag_congr (getF_congr (regs_rxDrop n m s) _ _)).trans hsv⟩]
    · rw [if_neg (fun h => by simp [flag_congr (getF_congr (regs_rxDrop n m s) F.HLD_ROLE.SVALID 0), hsv] at h)]
  · intro n m v s hrun hm hv
    subst hv
    have hx := exec_memberServe (i := .enrolForwardReceive n) rfl hrun hm
    refine ⟨fun hr => hx.trans ?_, fun hr => hx.trans ?_⟩
    · simp only [role_rxDrop, hr, decide_true, Bool.true_and]
    · simp only [role_rxDrop, hr, decide_false, Bool.false_and, Bool.false_eq_true, if_false]
  · intro n m fleet s hrun hm hr
    have hx := exec_memberServe (i := .activateForwardReceive n fleet) rfl hrun hm
    rw [hx, if_pos ((role_rxDrop n m s).trans hr)]
  · intro n m s hrun hm
    have hx : exec (.twyForward n) s = .next (twyForward n s) := next_onlyIf hrun _ s
    refine ⟨fun hhop => hx.trans ?_, fun hhop => hx.trans ?_⟩
    · rw [twyForward, hm]
      dsimp only
      rw [if_pos hhop]
    · rw [twyForward, hm]
      dsimp only
      rw [if_neg hhop]
  · intro n m s k
    refine ⟨?_, fun hk => ?_, regs_rxDrop n m s, ?_⟩
    · rw [rxList, rx_rxDrop, mapGet_mapSet_same, rxList]
    · rw [rx_rxDrop, mapGet_mapSet_ne _ _ _ _ hk]
    · rw [linkAt_rxDrop, linkOwe, mapGet_mapSet_same]

end Sys2Proof.Machine

end


/-! ### Tideway links: what each of their operations changes, and bring-up (R71, R570-R573, R592, R594, R605, R612, R625) -/
section

namespace Sys2Proof.Machine

/-! #### The links' state (R625) -/
section
variable (n : Nat) (l : TwyLink) (s : State)

theorem linkAt_setLink_same : linkAt (setLink n l s) n = l := mapGet_mapSet_same s.twy.links n {} l

theorem linkAt_setLink_ne {m : Nat} (h : m ≠ n) : linkAt (setLink n l s) m = linkAt s m :=
  mapGet_mapSet_ne s.twy.links {} l {} h

theorem linkAt_congr {s t : State} (h : t.twy = s.twy) (m : Nat) : linkAt t m = linkAt s m := by rw [linkAt, h, linkAt]

theorem linkState_congr {s t : State} (h : getReg t .TWY_STATUS n = getReg s .TWY_STATUS n) : linkState t n = linkState s n := by
  rw [linkState, getF, show F.TWY_STATUS.STATE.reg = .TWY_STATUS from rfl, h]
  rfl

theorem linkState_setLink (m : Nat) : linkState (setLink m l s) n = linkState s n := rfl

theorem hld_setLink : (setLink n l s).hld = s.hld := rfl

theorem twy_setLinkState (v : Nat) : (setLinkState n v s).twy = s.twy := rfl

theorem hld_setLinkState (v : Nat) : (setLinkState n v s).hld = s.hld := rfl

theorem linkAt_setLinkState (v m : Nat) : linkAt (setLinkState n v s) m = linkAt s m := rfl

theorem onlyRegs_setLinkState (v : Nat) : OnlyRegs s (setLinkState n v s) :=
  (OnlyRegs.setF F.TWY_STATUS.STATE n v s).trans (OnlyRegs.setReg ..)

theorem regsBut_setLinkState (v : Nat) : RegsBut [(.TWY_STATUS, n), (.TWY_UP, 0)] s (setLinkState n v s) :=
  (RegsBut.setF (f := F.TWY_STATUS.STATE) (List.mem_cons_self ..) v s).trans
    (RegsBut.setReg (List.mem_cons_of_mem _ (List.mem_cons_self ..)) _ _)

theorem linkState_setLinkState {v : Nat} (hv : v < 16) : linkState (setLinkState n v s) n = v := by
  rw [linkState, setLinkState, getF_setReg_of_reg (by decide), getF_setF_of_lt (by decide) hv]

theorem linkState_setLinkState_ne {m : Nat} (h : m ≠ n) (v : Nat) : linkState (setLinkState n v s) m = linkState s m :=
  linkState_congr m (regsBut_setLinkState n s v _ _ (by simp [h]))

/-- TWY_UP shows the links that are ACTIVE. -/
theorem getReg_up_setLinkState (v : Nat) :
    getReg (setLinkState n v s) .TWY_UP 0 = putBit (getReg s .TWY_UP 0) n (v == 4) := by
  rw [setLinkState, getReg_setReg, if_pos ⟨rfl, rfl⟩]

theorem up_setLinkState (hn : n < 32) (v m : Nat) : (getReg (setLinkState n v s) .TWY_UP 0).getLsbD m
    = if m = n then v == 4 else (getReg s .TWY_UP 0).getLsbD m := by
  rw [getReg_up_setLinkState, getLsbD_putBit _ hn]

end

/-! #### Quarantine of a peer that a link no longer knows (R71) -/

theorem filterMap_congr_mem {α β : Type} {f g : α → Option β} {l : List α} (h : ∀ a ∈ l, f a = g a) :
    l.filterMap f = l.filterMap g := by
  induction l with
  | nil => rfl
  | cons a l ih =>
    rw [List.filterMap_cons, List.filterMap_cons, h a (List.mem_cons_self ..), ih fun b hb => h b (List.mem_cons_of_mem _ hb)]

theorem treatQuar_congr {s t : State} {d : Nat} (hhld : t.hld = s.hld)
    (hpeer : ∀ n, n < 24 → (flag t F.TWY_PEER.VALID n && getF t F.TWY_PEER.DIE n == d)
      = (flag s F.TWY_PEER.VALID n && getF s F.TWY_PEER.DIE n == d)) : treatQuar t d = treatQuar s d := by
  have hdup : duplicateDie t d = duplicateDie s d := by
    have hlist : (List.range 24).filterMap (fun n =>
          if flag t F.TWY_PEER.VALID n && getF t F.TWY_PEER.DIE n == d then mapFind t.hld.linkHash n else none)
        = (List.range 24).filterMap (fun n =>
          if flag s F.TWY_PEER.VALID n && getF s F.TWY_PEER.DIE n == d then mapFind s.hld.linkHash n else none) :=
      filterMap_congr_mem fun n hn => by rw [hpeer n (List.mem_range.1 hn), hhld]
    rw [duplicateDie, hlist, duplicateDie]
  have hros : rosterOf t d = rosterOf s d := by rw [rosterOf, hhld, rosterOf]
  have hkn : knownPeer t d = knownPeer s d := funext fun h => by rw [knownPeer, hros, knownPeer]
  rw [treatQuar, hdup, hros, hkn, hhld, treatQuar]

theorem putBit_self {n : Nat} (v : BitVec n) {i : Nat} (hi : i < n) : putBit v i (v.getLsbD i) = v := by
  apply BitVec.eq_of_getLsbD_eq
  intro j _
  rw [getLsbD_putBit v hi]
  split
  · rename_i h
    rw [h]
  · rfl

/-- HLD_QUAR that already says what will hold stays as it is. -/
theorem quarSync_of_settled {s : State} {d : Nat} (h : treatQuar s d = (getReg s .HLD_QUAR 0).getLsbD d) :
    quarSync d s = setReg .HLD_QUAR 0 (putBit (getReg s .HLD_QUAR 0) d ((getReg s .HLD_QUAR 0).getLsbD d)) s := by
  rw [quarSync, h]
  cases hb : (getReg s .HLD_QUAR 0).getLsbD d <;> rfl

/-- Rewriting a register with its own value changes no register. -/
theorem regsBut_setReg_self {l : List (Reg × Nat)} {r : Reg} {i : Nat} {v : BitVec 32} {s : State} (h : v = getReg s r i) :
    RegsBut l s (setReg r i v s) := fun q j _ => by
  rw [getReg_setReg]
  split
  · rename_i hq
    rw [h, hq.1, hq.2]
  · rfl

/-- A link that knows no peer, where its peer's quarantine does not change. -/
theorem peerGone_of_settled {n : Nat} {s : State} (h : flag s F.TWY_PEER.VALID n = true → QuarSettled s n (getF s F.TWY_PEER.DIE n)) :
    (peerGone n s).twy = s.twy ∧ flag (peerGone n s) F.TWY_PEER.VALID n = false ∧
      getF (peerGone n s) F.TWY_PEER.DIE n = getF s F.TWY_PEER.DIE n ∧
      getF (peerGone n s) F.TWY_PEER.LINK n = getF s F.TWY_PEER.LINK n ∧ RegsBut [(.TWY_PEER, n)] s (peerGone n s) ∧
      OnlyRegs s (peerGone n s) := by
  cases hv : flag s F.TWY_PEER.VALID n
  case false =>
    have hgone : peerGone n s = s := if_neg (by simp [hv])
    rw [hgone]
    exact ⟨rfl, hv, rfl, rfl, .refl _ _, .refl _⟩
  case true =>
    have hdie : getF s F.TWY_PEER.DIE n < 32 := getF_lt s F.TWY_PEER.DIE n
    generalize hd : getF s F.TWY_PEER.DIE n = d at hdie h
    generalize hu : setF F.TWY_PEER.VALID n 0 s = u
    have hquar : getReg u .HLD_QUAR 0 = getReg s .HLD_QUAR 0 := by rw [← hu, getReg_setF_of_reg (by decide)]
    have hset : treatQuar u d = (getReg u .HLD_QUAR 0).getLsbD d := by
      rw [hquar, ← hu]
      exact h hv
    have hgone : peerGone n s = setReg .HLD_QUAR 0 (putBit (getReg u .HLD_QUAR 0) d ((getReg u .HLD_QUAR 0).getLsbD d)) u := by
      rw [peerGone, if_pos hv, hd, hu, quarSync_of_settled hset]
    have hregs : RegsBut [] u (peerGone n s) := by
      rw [hgone]
      exact regsBut_setReg_self (putBit_self _ hdie)
    have hfld : ∀ f : Fld, getF (peerGone n s) f n = getF u f n := fun f => by rw [getF, hregs _ _ (by simp), getF]
    refine ⟨?_, ?_, ?_, ?_, ?_, ?_⟩
    · rw [hgone, setReg_twy, ← hu, setF_twy]
    · rw [flag, hfld, ← hu, getF_setF_of_lt (by decide) (by decide)]
      rfl
    · rw [hfld, ← hu, getF_setF_of_bits (by decide) (by decide), hd]
    · rw [hfld, ← hu, getF_setF_of_bits (by decide) (by decide)]
    · intro r i hr
      rw [hregs r i (by simp), ← hu]
      exact RegsBut.setF (f := F.TWY_PEER.VALID) (List.mem_cons_self ..) 0 s r i hr
    · rw [hgone, ← hu]
      exact (OnlyRegs.setF F.TWY_PEER.VALID n 0 s).trans (OnlyRegs.setReg ..)

/-- Where a link knows no peer already, whom it named does not matter. -/
theorem treatQuar_setValid {s t : State} {n d : Nat} (hhld : t.hld = s.hld)
    (hpeer : ∀ m, m ≠ n → getReg t .TWY_PEER m = getReg s .TWY_PEER m) :
    treatQuar (setF F.TWY_PEER.VALID n 0 t) d = treatQuar (setF F.TWY_PEER.VALID n 0 s) d := by
  refine treatQuar_congr (by rw [setF_hld, setF_hld, hhld]) fun m _ => ?_
  by_cases hm : m = n
  · subst hm
    rw [flag, getF_setF_of_lt (by decide) (by decide), flag, getF_setF_of_lt (by decide) (by decide)]
    rfl
  · have hreg : ∀ f : Fld, f.reg = .TWY_PEER → getF t f m = getF s f m := fun f hf => by rw [getF, hf, hpeer m hm, getF, hf]
    rw [flag, getF_setF_of_index hm, getF_setF_of_index hm, flag, getF_setF_of_index hm, getF_setF_of_index hm,
      hreg _ rfl, hreg _ rfl]

theorem quarSettled_congr {s t : State} {n d : Nat} (h : QuarSettled s n d) (hhld : t.hld = s.hld)
    (hpeer : ∀ m, m ≠ n → getReg t .TWY_PEER m = getReg s .TWY_PEER m)
    (hquar : getReg t .HLD_QUAR 0 = getReg s .HLD_QUAR 0) : QuarSettled t n d := by
  rw [QuarSettled, treatQuar_setValid hhld hpeer, hquar]
  exact h

/-! #### A link that was not up goes down (R612) -/

/-- A link at the state after reset, but for what it keeps: that it has been tried, and that it stays off. -/
def downed (n : Nat) (off : Bool) (s : State) : State :=
  setLink n { tried := (linkAt s n).tried, off := (linkAt s n).off || off }
    (setLinkState n 0 (setReg .TWY_STATUS n 0 (setReg .TWY_LANEST n (regReset .TWY_LANEST n)
      (setReg .TWY_LANEMAP n (regReset .TWY_LANEMAP n) s))))

theorem linkDown_of_not_up {n : Nat} {s : State} (h4 : linkState s n ≠ 4) (h5 : linkState s n ≠ 5) (off : Bool) :
    linkDown n off s = peerGone n (downed n off s) := by
  have h4' : (linkState s n == 4) = false := by simpa using h4
  have h5' : (linkState s n == 5) = false := by simpa using h5
  unfold linkDown
  simp only [h4', h5', Bool.or_self, Bool.false_eq_true, if_false, if_neg h5]
  cases (linkAt s n).pause <;> rfl

/-- The registers that going down changes on a link. -/
def downRegs (n : Nat) : List (Reg × Nat) := [(.TWY_STATUS, n), (.TWY_LANEST, n), (.TWY_LANEMAP, n), (.TWY_UP, 0)]

theorem regsBut_downed (n : Nat) (off : Bool) (s : State) : RegsBut (downRegs n) s (downed n off s) := by
  refine RegsBut.trans (t := setReg .TWY_LANEMAP n (regReset .TWY_LANEMAP n) s) (.setReg (by simp [downRegs]) _ s) ?_
  refine RegsBut.trans (RegsBut.setReg (r := .TWY_LANEST) (i := n) (by simp [downRegs]) (regReset .TWY_LANEST n) _) ?_
  refine RegsBut.trans (RegsBut.setReg (r := .TWY_STATUS) (i := n) (by simp [downRegs]) 0 _) ?_
  refine RegsBut.trans ((regsBut_setLinkState n _ 0).mono (by simp [downRegs])) ?_
  exact .of_regs_eq rfl

theorem getReg_setLink (n : Nat) (l : TwyLink) (s : State) (r : Reg) (i : Nat) : getReg (setLink n l s) r i = getReg s r i := rfl

theorem downed_fields (n : Nat) (off : Bool) (s : State) :
    linkState (downed n off s) n = 0 ∧ getReg (downed n off s) .TWY_LANEST n = regReset .TWY_LANEST n ∧
    getReg (downed n off s) .TWY_LANEMAP n = regReset .TWY_LANEMAP n ∧
    linkAt (downed n off s) n = { tried := (linkAt s n).tried, off := (linkAt s n).off || off } ∧
    (∀ m, m ≠ n → linkAt (downed n off s) m = linkAt s m) ∧ (downed n off s).hld = s.hld := by
  have hkeep : ∀ t : State, ∀ r, r ≠ .TWY_STATUS → r ≠ .TWY_UP → getReg (setLinkState n 0 t) r n = getReg t r n :=
    fun t r hs hu => regsBut_setLinkState n t 0 r n (by simp [hs, hu])
  refine ⟨?_, ?_, ?_, linkAt_setLink_same .., fun m hm => (linkAt_setLink_ne _ _ _ hm).trans (linkAt_congr ?_ m), ?_⟩
  · rw [downed, linkState_setLink, linkState_setLinkState _ _ (by decide)]
  · rw [downed, getReg_setLink, hkeep _ .TWY_LANEST (by decide) (by decide), getReg_setReg, if_neg (by simp),
      getReg_setReg, if_pos ⟨rfl, rfl⟩]
  · rw [downed, getReg_setLink, hkeep _ .TWY_LANEMAP (by decide) (by decide), getReg_setReg, if_neg (by simp),
      getReg_setReg, if_neg (by simp), getReg_setReg, if_pos ⟨rfl, rfl⟩]
  · rw [twy_setLinkState, setReg_twy, setReg_twy, setReg_twy]
  · rw [downed, hld_setLink, hld_setLinkState, setReg_hld, setReg_hld, setReg_hld]

/-- What going down leaves of a link that was not up, where its peer's quarantine does not change. -/
theorem linkDown_fields {n : Nat} {s : State} (h4 : linkState s n ≠ 4) (h5 : linkState s n ≠ 5) (off : Bool)
    (hq : flag s F.TWY_PEER.VALID n = true → QuarSettled s n (getF s F.TWY_PEER.DIE n)) :
    let t := linkDown n off s
    linkState t n = 0 ∧ flag t F.TWY_PEER.VALID n = false ∧ linkAt t n = { tried := (linkAt s n).tried, off := (linkAt s n).off || off } ∧
    (∀ m, m ≠ n → linkAt t m = linkAt s m) ∧ getF t F.TWY_PEER.DIE n = getF s F.TWY_PEER.DIE n ∧
    getF t F.TWY_PEER.LINK n = getF s F.TWY_PEER.LINK n ∧ getReg t .TWY_LANEST n = regReset .TWY_LANEST n ∧
    getReg t .TWY_LANEMAP n = regReset .TWY_LANEMAP n ∧ RegsBut ((.TWY_PEER, n) :: downRegs n) s t := by
  have hregs := regsBut_downed n off s
  obtain ⟨hst, hlanes, hmap, hlink, hne, hhld⟩ := downed_fields n off s
  have hpeer : ∀ m, getReg (downed n off s) .TWY_PEER m = getReg s .TWY_PEER m := fun m => hregs _ _ (by simp [downRegs])
  have hfld : ∀ f : Fld, f.reg = .TWY_PEER → getF (downed n off s) f n = getF s f n := fun f hf => by
    rw [getF, hf, hpeer, getF, hf]
  have hq' : flag (downed n off s) F.TWY_PEER.VALID n = true →
      QuarSettled (downed n off s) n (getF (downed n off s) F.TWY_PEER.DIE n) := fun hv => by
    rw [hfld _ rfl]
    rw [flag, hfld _ rfl] at hv
    exact quarSettled_congr (hq hv) hhld (fun m _ => hpeer m) (hregs _ _ (by simp [downRegs]))
  obtain ⟨htwy, hv, hdie, hl, hr, -⟩ := peerGone_of_settled hq'
  dsimp only
  rw [linkDown_of_not_up h4 h5]
  refine ⟨?_, hv, ?_, fun m hm => ?_, hdie.trans (hfld _ rfl), hl.trans (hfld _ rfl), ?_, ?_, ?_⟩
  · exact (linkState_congr n (hr _ _ (by simp))).trans hst
  · rw [linkAt_congr htwy, hlink]
  · rw [linkAt_congr htwy, hne m hm]
  · rw [hr _ _ (by simp), hlanes]
  · rw [hr _ _ (by simp), hmap]
  · exact (hregs.mono fun e he => List.mem_cons_of_mem _ he).trans
      (hr.mono fun e he => by
        rw [List.mem_singleton] at he
        rw [he]
        exact List.mem_cons_self ..)

/-! #### What quarantine changes: registers of the partner, the clients and the quarantine, and what is sent -/

/-- The fields that a change of quarantine, or the end of the die's own service, may set. -/
def quarFlds : List Fld := [F.HBL_PARTNER.STATE, F.HBL_PARTNER.VALID, F.HBL_PARTNER.DIE, F.GLB_STATUS.MIRRORED,
  F.HBL_CLIENTS.VALID0, F.HBL_CLIENTS.CLIENT0, F.HBL_CLIENTS.VALID1, F.HBL_CLIENTS.CLIENT1, F.HLD_ROLE.ROLE, F.HLD_ROLE.SVALID,
  F.HLD_ROLE.QUAR]

/-- A relation that what quarantine does keeps: it holds of each of its single steps, and of steps in a row. -/
structure QuarClosed (R : State → State → Prop) : Prop where
  refl : ∀ s, R s s
  trans : ∀ {s t u}, R s t → R t u → R s u
  send : ∀ {s t}, SendFrame s t → R s t
  setF : ∀ (f : Fld) (i v : Nat) (s : State), f ∈ quarFlds → R s (Machine.setF f i v s)
  quar : ∀ (v : BitVec 32) (s : State), R s (setReg .HLD_QUAR 0 v s)
  hbl : ∀ (s : State) (x : HblState), R s { s with hbl := x }
  hld : ∀ (s : State) (x : HldState), R s { s with hld := x }

namespace QuarClosed

variable {R : State → State → Prop} (hR : QuarClosed R)
include hR

omit hR in
theorem ite {c : Prop} [Decidable c] {s t u : State} (ht : R s t) (hu : R s u) : R s (if c then t else u) := by
  split
  · exact ht
  · exact hu

theorem foldl {α : Type} (l : List α) (g : State → α → State) (h : ∀ t a, R t (g t a)) (s : State) : R s (l.foldl g s) := by
  induction l generalizing s with
  | nil => exact hR.refl s
  | cons a l ih => exact hR.trans (h s a) (ih (g s a))

theorem mirrorLost (s : State) : R s (Machine.mirrorLost s) := by
  have hoff := hR.trans (hR.setF F.HBL_PARTNER.VALID 0 0 s (by decide)) (hR.setF F.HBL_PARTNER.STATE 0 0 _ (by decide))
  exact ite (hR.trans (hR.trans hoff (hR.setF F.GLB_STATUS.MIRRORED 0 0 _ (by decide))) (hR.send (.post _ _))) hoff

theorem jMirror (e : BitVec 512) (s : State) : R s (Machine.jMirror e s) :=
  ite (hR.trans (hR.hbl s _) (hR.send (.twySend (journalMsg s e) _))) (hR.refl s)

theorem mirrorReached (s : State) : R s (Machine.mirrorReached s) :=
  ite (hR.trans (hR.trans (hR.setF F.HBL_PARTNER.STATE 0 2 s (by decide)) (hR.setF F.GLB_STATUS.MIRRORED 0 1 _ (by decide)))
    (hR.send (.post _ _))) (hR.refl s)

theorem partnerAssign (d : Nat) (s : State) : R s (Machine.partnerAssign d s) := by
  refine ite (hR.refl s) (hR.trans ?_ (hR.mirrorReached _))
  refine hR.trans ?_ (hR.foldl _ _ (fun t e => hR.jMirror e t) _)
  refine hR.trans ?_ (hR.hbl _ _)
  refine hR.trans (hR.mirrorLost s) (hR.trans (hR.setF F.HBL_PARTNER.STATE 0 1 _ (by decide)) ?_)
  exact hR.trans (hR.setF F.HBL_PARTNER.VALID 0 1 _ (by decide)) (hR.setF F.HBL_PARTNER.DIE 0 d _ (by decide))

theorem setClient (k : Nat) (d : Option Nat) (s : State) : R s (Machine.setClient k d s) :=
  ite (hR.trans (hR.setF F.HBL_CLIENTS.VALID0 0 _ s (by decide)) (hR.setF F.HBL_CLIENTS.CLIENT0 0 _ _ (by decide)))
    (hR.trans (hR.setF F.HBL_CLIENTS.VALID1 0 _ s (by decide)) (hR.setF F.HBL_CLIENTS.CLIENT1 0 _ _ (by decide)))

theorem dropSlot (k : Nat) (s : State) : R s (Machine.dropSlot k s) := hR.trans (hR.setClient k none s) (hR.hbl _ _)

theorem clientAssign (d : Nat) (s : State) : R s (Machine.clientAssign d s) := by
  refine ite (hR.refl s) ?_
  split
  · exact hR.trans (hR.dropSlot _ s) (hR.setClient _ _ _)
  · exact hR.refl s

theorem clientDrop (d : Nat) (s : State) : R s (Machine.clientDrop d s) := by
  unfold Machine.clientDrop
  split
  · exact ite (hR.refl s) (hR.dropSlot _ s)
  · exact hR.refl s

/-- The decisions about partners and clients: 1 a partner, 2 a client, 3 a client no more, 7 the partner lost. -/
theorem decree (m : Nat) {act : Nat} (d x : Nat) (s : State) (h : act = 1 ∨ act = 2 ∨ act = 3 ∨ act = 7) :
    R s (Machine.decree m act d x s) := by
  refine ite ?_ (hR.send (.twySend _ _))
  rcases h with rfl | rfl | rfl | rfl
  · exact ite (hR.partnerAssign d s) (hR.refl s)
  · exact ite (hR.clientAssign d s) (hR.refl s)
  · exact hR.clientDrop d s
  · exact hR.mirrorLost s

theorem stewMove (d : Nat) (gone : Bool) (s : State) : R s (Machine.stewMove d gone s) := by
  unfold Machine.stewMove
  refine hR.foldl _ _ (fun u c => ite ?_ (hR.refl u)) s
  have hset : ∀ p, R u (setPartner c p u) := fun p => hR.hld u _
  cases partnerFor u c
  case none =>
    exact ite (hR.trans (hR.trans (hset none) (hR.decree c 0 0 _ (.inr (.inr (.inr rfl)))))
      (hR.decree d c 0 _ (.inr (.inr (.inl rfl))))) (hR.refl u)
  case some p =>
    exact hR.trans (hR.trans (hR.trans (hset (some p)) (hR.decree p c 0 _ (.inr (.inl rfl)))) (hR.decree c p 0 _ (.inl rfl)))
      (hR.decree d c 0 _ (.inr (.inr (.inl rfl))))

theorem quarBegin (d : Nat) (s : State) : R s (Machine.quarBegin d s) := by
  have hlinks := hR.foldl (peerLinks s d) _ (fun t n => hR.send (.linkHand n t)) s
  exact ite (hR.trans hlinks (hR.stewMove d true _)) hlinks

theorem quarSync (d : Nat) (s : State) : R s (Machine.quarSync d s) := by
  have hset : R s (setReg .HLD_QUAR 0 (putBit (getReg s .HLD_QUAR 0) d (treatQuar s d)) s) := hR.quar _ s
  exact ite (hR.trans hset (hR.quarBegin d _)) (ite (hR.trans hset (hR.send (.twyRetry _))) hset)

end QuarClosed

/-- The states and rates of the links are kept. -/
def StatusKept (s t : State) : Prop := ∀ n, getReg t .TWY_STATUS n = getReg s .TWY_STATUS n

namespace StatusKept

theorem setF (f : Fld) (i v : Nat) (s : State) (h : f.reg ≠ .TWY_STATUS) : StatusKept s (Machine.setF f i v s) :=
  fun n => getReg_setF_of_reg h i n v s

theorem of_sendFrame {s t : State} (h : SendFrame s t) : StatusKept s t := fun _ => h.reg _ _ rfl

theorem post (e : EvArgs) (s : State) : StatusKept s (Machine.post e s) := .of_sendFrame (.post e s)

theorem quarClosed : QuarClosed StatusKept where
  refl _ _ := rfl
  trans h k n := (k n).trans (h n)
  send := of_sendFrame
  setF f i v s hf := setF f i v s ((by decide : ∀ g ∈ quarFlds, g.reg ≠ .TWY_STATUS) f hf)
  quar v s n := by rw [getReg_setReg, if_neg (by simp)]
  hbl _ _ _ := rfl
  hld _ _ _ := rfl

theorem peerGone (n : Nat) (s : State) : StatusKept s (Machine.peerGone n s) :=
  QuarClosed.ite (quarClosed.trans (setF F.TWY_PEER.VALID n 0 s (by decide)) (quarClosed.quarSync _ _)) (quarClosed.refl s)

end StatusKept

/-- A link that was not up is DOWN after going down, whatever becomes of its peer. -/
theorem linkState_linkDown {n : Nat} {s : State} (h4 : linkState s n ≠ 4) (h5 : linkState s n ≠ 5) (off : Bool) :
    linkState (linkDown n off s) n = 0 := by
  rw [linkDown_of_not_up h4 h5, linkState_congr n (StatusKept.peerGone n _ n)]
  exact (downed_fields n off s).1

/-! #### What begins and ends a link's bring-up (R570, R612) -/

/-- A field of another register than those a step changes. -/
theorem RegsBut.getF {l : List (Reg × Nat)} {s t : State} (h : RegsBut l s t) (r : Reg) {f : Fld} (i : Nat)
    (hr : (r, i) ∉ l) (hf : f.reg = r := by rfl) : Machine.getF t f i = Machine.getF s f i := by
  subst hf
  rw [Machine.getF, h _ _ hr, Machine.getF]

theorem twyClock_congr {s t : State} (hphase : phase t = phase s) (hps : Machine.getF t F.BRK_PSSTAT.STATE = Machine.getF s F.BRK_PSSTAT.STATE)
    (htwy : t.twy.noClock = s.twy.noClock) : twyClock t = twyClock s := by
  rw [twyClock, clocksRun, hphase, hps, htwy, twyClock, clocksRun]

theorem twyDetect_of {n : Nat} {s : State} (h0 : linkState s n = 0) (hen : flag s F.TWY_LINKCTL.EN n = true)
    (hoff : (linkAt s n).off = false) (hc : twyClock s = true) : twyDetect n s = setLinkState n 1 s :=
  if_pos ⟨h0, hen, hoff, hc⟩

theorem twyEnable_eq {n : Nat} {s : State} (hen : flag s F.TWY_LINKCTL.EN n = false) (h0 : linkState s n = 0)
    (hc : twyClock s = true) :
    twyEnable n s = setLinkState n 1 (setLink n { linkAt s n with off := false } (setF F.TWY_LINKCTL.EN n 1 s)) := by
  have hset : RegsBut [(.TWY_LINKCTL, n)] s (setF F.TWY_LINKCTL.EN n 1 s) :=
    RegsBut.setF (f := F.TWY_LINKCTL.EN) (List.mem_cons_self ..) 1 s
  have hlink : linkAt (setF F.TWY_LINKCTL.EN n 1 s) n = linkAt s n := linkAt_congr (by rw [setF_twy]) n
  refine (if_neg (by simp [hen])).trans ?_
  rw [← hlink]
  refine twyDetect_of ?_ (flag_setF_one rfl rfl n s) (by rw [linkAt_setLink_same]) ?_
  · rw [linkState_setLink, linkState_congr n (hset _ _ (by simp)), h0]
  · exact (twyClock_congr (hset.getF .GLB_STATUS 0 (by simp)) (hset.getF .BRK_PSSTAT 0 (by simp)) (by rfl)).trans hc

/-- What enabling a link that is DOWN leaves. -/
theorem twyEnable_fields {n : Nat} {s : State} (hen : flag s F.TWY_LINKCTL.EN n = false) (h0 : linkState s n = 0)
    (hc : twyClock s = true) :
    flag (twyEnable n s) F.TWY_LINKCTL.EN n = true ∧ linkState (twyEnable n s) n = 1 ∧ (linkAt (twyEnable n s) n).off = false ∧
    (∀ m, m ≠ n → linkAt (twyEnable n s) m = linkAt s m) ∧
    RegsBut [(.TWY_LINKCTL, n), (.TWY_STATUS, n), (.TWY_UP, 0)] s (twyEnable n s) := by
  rw [twyEnable_eq hen h0 hc]
  generalize hu : setF F.TWY_LINKCTL.EN n 1 s = u
  have hregs := regsBut_setLinkState n (setLink n { linkAt s n with off := false } u) 1
  have hset : RegsBut [(.TWY_LINKCTL, n)] s u := hu ▸ RegsBut.setF (f := F.TWY_LINKCTL.EN) (List.mem_cons_self ..) 1 s
  refine ⟨?_, linkState_setLinkState _ _ (by decide), ?_, fun m hm => ?_, ?_⟩
  · rw [flag_congr (hregs.getF .TWY_LINKCTL n (by simp))]
    exact hu ▸ flag_setF_one rfl rfl n s
  · rw [linkAt_setLinkState, linkAt_setLink_same]
  · rw [linkAt_setLinkState, linkAt_setLink_ne _ _ _ hm]
    exact linkAt_congr (by rw [← hu, setF_twy]) m
  · exact ((hset.mono (by simp)).trans (.of_regs_eq rfl)).trans (hregs.mono (by simp))

/-- What disabling a link that is not up leaves. -/
theorem linkDisabled_fields {n : Nat} {s : State} (h4 : linkState s n ≠ 4) (h5 : linkState s n ≠ 5)
    (hq : QuarSettled s n (getF s F.TWY_PEER.DIE n)) :
    let t := linkDown n true (setF F.TWY_LINKCTL.EN n 0 s)
    flag t F.TWY_LINKCTL.EN n = false ∧ linkState t n = 0 ∧ flag t F.TWY_PEER.VALID n = false ∧ (linkAt t n).off = true ∧
      (∀ m, m ≠ n → linkAt t m = linkAt s m) := by
  generalize hu : setF F.TWY_LINKCTL.EN n 0 s = u
  have hset : RegsBut [(.TWY_LINKCTL, n)] s u := hu ▸ RegsBut.setF (f := F.TWY_LINKCTL.EN) (List.mem_cons_self ..) 0 s
  have hst : linkState u n = linkState s n := linkState_congr n (hset _ _ (by simp))
  have hdie : getF u F.TWY_PEER.DIE n = getF s F.TWY_PEER.DIE n := hset.getF .TWY_PEER n (by simp)
  have hlink : ∀ m, linkAt u m = linkAt s m := linkAt_congr (by rw [← hu, setF_twy])
  obtain ⟨h0, hv, hl, hne, -, -, -, -, hr⟩ := linkDown_fields (by rwa [hst]) (by rwa [hst]) true fun _ => by
    rw [hdie]
    exact quarSettled_congr hq (by rw [← hu, setF_hld]) (fun m _ => hset _ _ (by simp)) (hset _ _ (by simp))
  refine ⟨?_, h0, hv, by rw [hl, Bool.or_true], fun m hm => (hne m hm).trans (hlink m)⟩
  rw [flag_congr (hr.getF .TWY_LINKCTL n (by simp [downRegs])), ← hu, flag, getF_setF_of_lt (by decide) (by decide)]
  rfl

/-- What a link that is not up looks like after it was taken down by command. -/
theorem linkOff_fields {n : Nat} {s : State} (h4 : linkState s n ≠ 4) (h5 : linkState s n ≠ 5)
    (hq : QuarSettled s n (getF s F.TWY_PEER.DIE n)) :
    linkState (linkDown n true s) n = 0 ∧ flag (linkDown n true s) F.TWY_PEER.VALID n = false ∧
      (linkAt (linkDown n true s) n).off = true ∧
      RegsBut [(.TWY_STATUS, n), (.TWY_LANEST, n), (.TWY_LANEMAP, n), (.TWY_UP, 0), (.TWY_PEER, n)] s (linkDown n true s) := by
  obtain ⟨h0, hv, hl, -, -, -, -, -, hr⟩ := linkDown_fields h4 h5 true fun _ => hq
  exact ⟨h0, hv, by rw [hl, Bool.or_true], hr.mono (by simp [downRegs])⟩

/-! #### TEST (R592-R594) -/

/-- A link in TEST at a rate, whatever it was before. -/
theorem testState_fields (n : Nat) {v : Nat} (hn : n < 32) (hv : v < 8) (u : State) :
    let t := setF F.TWY_STATUS.RATE n v (setLinkState n 6 u)
    linkState t n = 6 ∧ getF t F.TWY_STATUS.RATE n = v ∧ (getReg t .TWY_UP 0).getLsbD n = false := by
  refine ⟨?_, getF_setF_of_lt (f := F.TWY_STATUS.RATE) (by decide) hv n _, ?_⟩
  · rw [linkState, getF_setF_of_bits (by decide) (by decide)]
    exact linkState_setLinkState n u (by decide)
  · rw [getReg_setF_of_reg (by decide), up_setLinkState _ _ hn, if_pos rfl]
    rfl

/-- A generator that runs, and whose register is not zero. -/
def GenRuns (taps : Nat × Nat) (n k : Nat) (s : State) : Prop :=
  ∃ g, mapFind (linkAt s n).gens k = some g ∧ g.toNat % 2 ^ taps.1 ≠ 0

theorem regs_prbsStart (taps : Nat × Nat) (n k : Nat) (s : State) : (prbsStart taps n k s).regs = s.regs := rfl

theorem gens_prbsStart (taps : Nat × Nat) (n k : Nat) (s : State) : (linkAt (prbsStart taps n k s) n).gens =
    mapIns (linkAt s n).gens k
      (if (Config.freeValue 31 s.free).toNat % 2 ^ taps.1 = 0 then 1 else Config.freeValue 31 s.free) :=
  congrArg TwyLink.gens (linkAt_setLink_same n _ _)

/-- A started generator runs, and starting another leaves those that run. -/
theorem genRuns_prbsStart {taps : Nat × Nat} (htaps : 0 < taps.1) (n k : Nat) (s : State) {j : Nat}
    (h : j = k ∨ GenRuns taps n j s) : GenRuns taps n j (prbsStart taps n k s) := by
  rw [GenRuns, gens_prbsStart]
  by_cases hj : j = k
  · subst hj
    refine ⟨_, mapFind_mapIns_same .., ?_⟩
    split
    · rw [show (1 : BitVec 31).toNat = 1 from rfl, Nat.mod_eq_of_lt (Nat.one_lt_two_pow (Nat.ne_of_gt htaps))]
      exact Nat.one_ne_zero
    · assumption
  · obtain ⟨g, hg, hne⟩ := h.resolve_left hj
    exact ⟨g, (mapFind_mapIns_ne _ _ (Ne.symm hj)).trans hg, hne⟩

/-- Starting generators changes no register, and every one of them runs then. -/
theorem prbsStart_all {taps : Nat × Nat} (htaps : 0 < taps.1) (n : Nat) (ks : List Nat) (s : State) :
    (ks.foldl (fun u k => prbsStart taps n k u) s).regs = s.regs ∧
    ∀ j, j ∈ ks ∨ GenRuns taps n j s → GenRuns taps n j (ks.foldl (fun u k => prbsStart taps n k u) s) := by
  induction ks generalizing s with
  | nil => exact ⟨rfl, fun j hj => hj.resolve_left List.not_mem_nil⟩
  | cons k ks ih =>
    obtain ⟨hregs, hruns⟩ := ih (prbsStart taps n k s)
    refine ⟨hregs.trans (regs_prbsStart taps n k s), fun j hj => hruns j ?_⟩
    rcases hj with hj | hj
    · rcases List.mem_cons.1 hj with rfl | hj
      · exact .inr (genRuns_prbsStart htaps n j s (.inl rfl))
      · exact .inl hj
    · exact .inr (genRuns_prbsStart htaps n k s (.inr hj))

theorem prbsTaps_pos {kind : Nat} {taps : Nat × Nat} (h : prbsTaps kind = some taps) : 0 < taps.1 := by
  unfold prbsTaps at h
  split at h <;> cases h <;> decide

/-- What TEST leaves of a link: its state and rate, and a generator that runs on every lane selected. -/
theorem twyTest_fields {n : Nat} {farOk : Bool} {s : State} (hn : n < 32)
    (h : ¬(getF s F.TWY_TEST.LOOP n = 3 ∧ farOk = false)) :
    linkState (twyTest n farOk s) n = 6 ∧
    getF (twyTest n farOk s) F.TWY_STATUS.RATE n = getF s F.TWY_LINKCTL.MAXRATE n ∧
    (getReg (twyTest n farOk s) .TWY_UP 0).getLsbD n = false ∧
    (prbsTaps (getF s F.TWY_TEST.PRBS n) = none → (linkAt (twyTest n farOk s) n).gens = []) ∧
    (∀ taps, prbsTaps (getF s F.TWY_TEST.PRBS n) = some taps → ∀ k ∈ testLanes s n,
      GenRuns taps n k (twyTest n farOk s)) := by
  obtain ⟨h6, hrate, hup⟩ := testState_fields n hn (v := getF s F.TWY_LINKCTL.MAXRATE n) (getF_lt s F.TWY_LINKCTL.MAXRATE n)
    (linkDown n false s)
  unfold twyTest
  dsimp only
  rw [if_neg h]
  generalize setF F.TWY_STATUS.RATE n (getF s F.TWY_LINKCTL.MAXRATE n) (setLinkState n 6 (linkDown n false s)) = u at *
  generalize hw : setLink n { linkAt u n with gens := [], chks := [] } u = w
  have hwregs : w.regs = u.regs := hw ▸ rfl
  have hfields : ∀ t : State, t.regs = u.regs → linkState t n = 6 ∧
      getF t F.TWY_STATUS.RATE n = getF s F.TWY_LINKCTL.MAXRATE n ∧ (getReg t .TWY_UP 0).getLsbD n = false := fun t ht => by
    exact ⟨(linkState_congr n (getReg_congr ht _ _)).trans h6, (getF_congr ht _ _).trans hrate,
      by rw [getReg_congr ht]; exact hup⟩
  cases htaps : prbsTaps (getF s F.TWY_TEST.PRBS n)
  case none =>
    obtain ⟨hst, hr, hu⟩ := hfields w hwregs
    exact ⟨hst, hr, hu, fun _ => hw ▸ congrArg TwyLink.gens (linkAt_setLink_same ..), fun _ hcontra => by cases hcontra⟩
  case some taps =>
    obtain ⟨hregs, hruns⟩ := prbsStart_all (prbsTaps_pos htaps) n (testLanes s n) w
    obtain ⟨hst, hr, hu⟩ := hfields _ (hregs.trans hwregs)
    refine ⟨hst, hr, hu, fun hcontra => (by cases hcontra), fun taps' htaps' k hk => ?_⟩
    obtain rfl := Option.some.inj htaps'
    exact hruns k (.inl hk)

theorem twyTest_refused {n : Nat} {farOk : Bool} {s : State} (h : getF s F.TWY_TEST.LOOP n = 3 ∧ farOk = false) :
    twyTest n farOk s = post { code := Ev.TWY_CONFIG, sev := some 0, inst := n } (linkDown n false s) := if_pos h

theorem testEnd_fields (n : Nat) (s : State) :
    let t := setLinkState n 0 (setF F.TWY_STATUS.RATE n 0 s)
    linkState t n = 0 ∧ getF t F.TWY_STATUS.RATE n = 0 ∧ OnlyRegs s t ∧ RegsBut [(.TWY_STATUS, n), (.TWY_UP, 0)] s t := by
  refine ⟨linkState_setLinkState _ _ (by decide), ?_, ?_, ?_⟩
  · rw [setLinkState, getF_setReg_of_reg (by decide), getF_setF_of_bits (by decide) (by decide),
      getF_setF_of_lt (by decide) (by decide)]
  · exact (OnlyRegs.setF F.TWY_STATUS.RATE n 0 s).trans (onlyRegs_setLinkState n _ 0)
  · exact (RegsBut.setF (f := F.TWY_STATUS.RATE) (List.mem_cons_self ..) 0 s).trans (regsBut_setLinkState n _ 0)

/-! #### From DETECT to the dwells (R570, R571) -/

theorem twyEvent_frame (n code lane cause dur : Nat) (s : State) :
    RegsButAll eventRegs s (twyEvent n code lane cause dur s) ∧ (twyEvent n code lane cause dur s).twy = s.twy ∧
    (twyEvent n code lane cause dur s).hld = s.hld :=
  ⟨.post _ s, post_twy _ s, post_hld _ s⟩

/-- A register outside the event block after an event. -/
theorem getReg_twyEvent {r : Reg} (hr : r ∉ eventRegs) (n code lane cause dur : Nat) (s : State) (i : Nat) :
    getReg (twyEvent n code lane cause dur s) r i = getReg s r i := (twyEvent_frame n code lane cause dur s).1 r i hr

/-- A link that tries anew, or gives up, from DETECT. -/
theorem setLinkState_setLink_fields (n : Nat) {v : Nat} (hv : v < 16) (l : TwyLink) (s : State) :
    let t := setLinkState n v (setLink n l s)
    linkState t n = v ∧ linkAt t n = l ∧ RegsBut [(.TWY_STATUS, n), (.TWY_UP, 0)] s t :=
  ⟨linkState_setLinkState _ _ hv, (linkAt_setLinkState ..).trans (linkAt_setLink_same ..),
    (RegsBut.of_regs_eq rfl).trans (regsBut_setLinkState n _ v)⟩

theorem blockLock_fields (n : Nat) (s : State) :
    linkState (blockLock n s) n = 2 ∧ (linkAt (blockLock n s) n).tried = true ∧
    (blockLock n s).out = s.out ++ [.twyConfig n (ownDie s) (getF s F.TWY_LINKCTL.MODE n) (getF s F.TWY_LINKCTL.ENC n)
        (getF s F.TWY_LINKCTL.MAXRATE n)] ∧ RegsBut [(.TWY_STATUS, n), (.TWY_UP, 0)] s (blockLock n s) := by
  obtain ⟨hst, hl, hr⟩ := setLinkState_setLink_fields n (v := 2) (by decide) { linkAt s n with tried := true } s
  exact ⟨hst, congrArg TwyLink.tried hl, rfl, hr.trans (.of_regs_eq rfl)⟩

theorem detectTimeout_fields (n : Nat) (s : State) :
    linkState (detectTimeout n s) n = 0 ∧ (linkAt (detectTimeout n s) n).tried = true ∧
    ((linkAt s n).tried = true → RegsBut [(.TWY_STATUS, n), (.TWY_UP, 0)] s (detectTimeout n s)) := by
  have h := setLinkState_setLink_fields n (v := 0) (by decide) { linkAt s n with tried := true }
  refine ⟨(h _).1, congrArg TwyLink.tried (h _).2.1, fun ht => ?_⟩
  have hs : detectTimeout n s = setLinkState n 0 (setLink n { linkAt s n with tried := true } s) := by
    unfold detectTimeout
    dsimp only
    rw [if_pos ht]
  rw [hs]
  exact (h s).2.2

/-- What the refusal of a configuration leaves of a link that is not up. -/
theorem configFail_fields {n : Nat} {s : State} (h4 : linkState s n ≠ 4) (h5 : linkState s n ≠ 5)
    (hq : QuarSettled s n (getF s F.TWY_PEER.DIE n)) :
    let t := configFail n s
    linkState t n = 0 ∧ flag t F.TWY_PEER.VALID n = false ∧ getF t F.TWY_PEER.DIE n = getF s F.TWY_PEER.DIE n ∧
    getF t F.TWY_PEER.LINK n = getF s F.TWY_PEER.LINK n ∧
    getReg t .TWY_LANEST n = regReset .TWY_LANEST n ∧ getReg t .TWY_LANEMAP n = regReset .TWY_LANEMAP n ∧
    RegsButAll (.TWY_STATUS :: .TWY_UP :: .TWY_LANEST :: .TWY_LANEMAP :: .TWY_PEER :: eventRegs) s t := by
  rw [configFail]
  obtain ⟨hregs, -, hhld⟩ := twyEvent_frame n Ev.TWY_CONFIG 0 0 0 s
  generalize twyEvent n Ev.TWY_CONFIG 0 0 0 s = u at hregs hhld
  have hpeer : ∀ m, getReg u .TWY_PEER m = getReg s .TWY_PEER m := fun m => hregs _ _ (by decide)
  have hst : linkState u n = linkState s n := linkState_congr n (hregs _ _ (by decide))
  have hdie : ∀ f : Fld, f.reg = .TWY_PEER → getF u f n = getF s f n := fun f hf => by rw [getF, hf, hpeer, getF, hf]
  obtain ⟨h0, hv, -, -, hd, hl, hlanes, hmap, hr⟩ := linkDown_fields (by rwa [hst]) (by rwa [hst]) false fun _ => by
    rw [hdie _ rfl]
    exact quarSettled_congr hq hhld (fun m _ => hpeer m) (hregs _ _ (by decide))
  exact ⟨h0, hv, hd.trans (hdie _ rfl), hl.trans (hdie _ rfl), hlanes, hmap,
    (hregs.mono fun r hr => by simp [hr]).trans (hr.toAll (by simp [downRegs]))⟩

/-- The peer's block is kept. -/
def peerNoted (n die link : Nat) (s : State) : State :=
  setF F.TWY_PEER.DIE n die (setF F.TWY_PEER.LINK n link (setF F.TWY_PEER.VALID n 1
    (setF F.TWY_PEER.WIRING n (boolNat (wiredPeer (ownDie s) n == some (die, link))) s)))

/-- The peer's block is kept, and wiring other than R613's is told. -/
def peerTaken (n die link : Nat) (s : State) : State :=
  if wiredPeer (ownDie s) n == some (die, link) then peerNoted n die link s
  else twyEvent n Ev.TWY_WIRING 0 0 0 (peerNoted n die link s)

theorem peerNoted_fields {n die link : Nat} (hdie : die < 32) (hlink : link < 32) (s : State) :
    getF (peerNoted n die link s) F.TWY_PEER.DIE n = die ∧ getF (peerNoted n die link s) F.TWY_PEER.LINK n = link ∧
    RegsBut [(.TWY_PEER, n)] s (peerNoted n die link s) ∧ (peerNoted n die link s).hld = s.hld := by
  have hmem : ((.TWY_PEER, n) : Reg × Nat) ∈ [((.TWY_PEER, n) : Reg × Nat)] := List.mem_cons_self ..
  refine ⟨getF_setF_of_lt (f := F.TWY_PEER.DIE) (by decide) hdie n _, ?_, ?_, ?_⟩
  · rw [peerNoted, getF_setF_of_bits (by decide) (by decide), getF_setF_of_lt (by decide) hlink]
  · refine RegsBut.trans ?_ (RegsBut.setF (f := F.TWY_PEER.DIE) hmem die _)
    refine RegsBut.trans ?_ (RegsBut.setF (f := F.TWY_PEER.LINK) hmem link _)
    exact (RegsBut.setF (f := F.TWY_PEER.WIRING) hmem _ s).trans (RegsBut.setF (f := F.TWY_PEER.VALID) hmem 1 _)
  · rw [peerNoted, setF_hld, setF_hld, setF_hld, setF_hld]

theorem peerTaken_fields {n die link : Nat} (hdie : die < 32) (hlink : link < 32) (s : State) :
    let t := peerTaken n die link s
    getF t F.TWY_PEER.DIE n = die ∧ getF t F.TWY_PEER.LINK n = link ∧ t.hld = s.hld ∧
    (∀ m, m ≠ n → getReg t .TWY_PEER m = getReg s .TWY_PEER m) ∧
    (∀ r i, r ≠ .TWY_PEER → r ∉ eventRegs → getReg t r i = getReg s r i) := by
  obtain ⟨hd, hl, hr, hh⟩ := peerNoted_fields (n := n) hdie hlink s
  have hr' : ∀ r i, r ≠ .TWY_PEER → getReg (peerNoted n die link s) r i = getReg s r i := fun r i h => hr r i (by simp [h])
  have hm : ∀ m, m ≠ n → getReg (peerNoted n die link s) .TWY_PEER m = getReg s .TWY_PEER m := fun m h => hr _ m (by simp [h])
  dsimp only
  unfold peerTaken
  split
  · exact ⟨hd, hl, hh, hm, fun r i h _ => hr' r i h⟩
  · obtain ⟨-, -, hhld⟩ := twyEvent_frame n Ev.TWY_WIRING 0 0 0 (peerNoted n die link s)
    have he := fun (r : Reg) i (h : r ∉ eventRegs) => getReg_twyEvent h n Ev.TWY_WIRING 0 0 0 (peerNoted n die link s) i
    have hf : ∀ f : Fld, f.reg = .TWY_PEER → getF (twyEvent n Ev.TWY_WIRING 0 0 0 (peerNoted n die link s)) f n
        = getF (peerNoted n die link s) f n := fun f h => by rw [getF, h, he _ _ (by decide), getF, h]
    exact ⟨(hf _ rfl).trans hd, (hf _ rfl).trans hl, hhld.trans hh, fun m h => (he _ m (by decide)).trans (hm m h),
      fun r i h h' => (he r i h').trans (hr' r i h)⟩

/-- A block that does not fit the own one is refused. -/
theorem configTake_mismatch {n die link maxRate version : Nat} {mode enc : Bool} {auth : Bool} {h : BitVec 384} {s : State}
    (hbad : mode ≠ flag s F.TWY_LINKCTL.MODE n ∨ enc ≠ flag s F.TWY_LINKCTL.ENC n ∨ version ≠ 1) :
    configTake n die link mode enc maxRate version auth h s = configFail n (peerTaken n die link s) := by
  refine if_pos ?_
  simpa [or_assoc] using hbad

/-- A peer that does not authenticate is refused. -/
theorem configTake_unauthentic {n die link maxRate version : Nat} {mode enc : Bool} {h : BitVec 384} {s : State}
    (hmode : mode = flag s F.TWY_LINKCTL.MODE n) (henc : enc = flag s F.TWY_LINKCTL.ENC n) (hv : version = 1) :
    configTake n die link mode enc maxRate version false h s =
      post { code := Ev.HLD_AUTH, inst := die } (configFail n (peerTaken n die link s)) := by
  refine (if_neg ?_).trans (if_pos rfl)
  simp [hmode, henc, hv]

/-- What a refused peer leaves of the link. -/
theorem configRefused_fields {n die link : Nat} {s : State} (hdie : die < 32) (hlink : link < 32) (h2 : linkState s n = 2)
    (hq : QuarSettled s n die) :
    let t := configFail n (peerTaken n die link s)
    linkState t n = 0 ∧ getF t F.TWY_PEER.DIE n = die ∧ getF t F.TWY_PEER.LINK n = link ∧
      flag t F.TWY_PEER.VALID n = false := by
  obtain ⟨hd, hl, hh, hm, hr⟩ := peerTaken_fields (n := n) hdie hlink s
  have hst : linkState (peerTaken n die link s) n = 2 :=
    (linkState_congr n (hr _ _ (by decide) (by decide))).trans h2
  obtain ⟨h0, hv, hd', hl', -⟩ := configFail_fields (s := peerTaken n die link s) (n := n) (by rw [hst]; decide)
    (by rw [hst]; decide) (by rw [hd]; exact quarSettled_congr hq hh hm (hr _ _ (by decide) (by decide)))
  exact ⟨h0, hd'.trans hd, hl'.trans hl, hv⟩

/-- An authentic peer whose block fits begins the dwells at the lowest rate. -/
theorem configTake_accepted {n die link maxRate version : Nat} {mode enc : Bool} {h : BitVec 384} {s : State}
    (hmode : mode = flag s F.TWY_LINKCTL.MODE n) (henc : enc = flag s F.TWY_LINKCTL.ENC n) (hv : version = 1) :
    let t := configTake n die link mode enc maxRate version true h s
    linkState t n = 3 ∧ (linkAt t n).step = 0 ∧ (linkAt t n).passed = [] := by
  have hgood : ¬(mode != flag s F.TWY_LINKCTL.MODE n || enc != flag s F.TWY_LINKCTL.ENC n || version != 1) = true := by
    simp [hmode, henc, hv]
  dsimp only
  unfold configTake
  dsimp only
  rw [if_neg hgood, if_neg (by decide)]
  refine ⟨linkState_setLinkState _ _ (by decide), ?_, ?_⟩
  · exact congrArg TwyLink.step (linkAt_setLink_same n _ _)
  · exact congrArg TwyLink.passed (linkAt_setLink_same n _ _)

/-! #### The rate and width at which a link comes up (R572, R573) -/

/-- Searching downward finds the highest. -/
theorem find_reverse_range {p : Nat → Bool} {n r : Nat} (h : (List.range n).reverse.find? p = some r) :
    r < n ∧ p r = true ∧ ∀ q, r < q → q < n → p q = false := by
  induction n with
  | zero => simp at h
  | succ n ih =>
    rw [List.range_succ, List.reverse_append, List.reverse_singleton, List.singleton_append, List.find?_cons] at h
    cases hn : p n <;> rw [hn] at h
    case true =>
      obtain rfl := Option.some.inj h
      exact ⟨Nat.lt_succ_self _, hn, fun q hr hq => by omega⟩
    case false =>
      obtain ⟨hr, hp, hall⟩ := ih h
      refine ⟨by omega, hp, fun q hrq hq => ?_⟩
      rcases Nat.lt_succ_iff_lt_or_eq.1 hq with hq | rfl
      · exact hall q hrq hq
      · exact hn

/-- A width is filled by its lanes; fewer than eight lanes do not fill x8. -/
theorem widthFor_some {k w : Nat} (h : widthFor k = some w) : widthLanes w ≤ k ∧ w ≤ 3 ∧ (k < 8 → 1 ≤ w) := by
  have hk := List.find?_some h
  have hmem := List.mem_of_find?_eq_some h
  rw [decide_eq_true_eq] at hk
  refine ⟨hk, by simp at hmem; omega, fun hlt => ?_⟩
  refine Classical.byContradiction fun hw => ?_
  obtain rfl : w = 0 := by omega
  rw [show widthLanes 0 = 8 from rfl] at hk
  omega

theorem bringUp_some {ebb : Bool} {l : TwyLink} {r w : Nat} (h : bringUp ebb l = some (r, w)) :
    r ≤ l.top ∧ widthLanes w ≤ (passedAt l r).length ∧
    ((w = 0 ∧ (∀ q, r < q → q ≤ l.top → (passedAt l q).length < 8)) ∨
      (ebb = true ∧ 1 ≤ w ∧ w ≤ 3 ∧ ∀ q, q ≤ l.top → (passedAt l q).length < 8 ∧ (r < q → passedAt l q = []))) := by
  unfold bringUp at h
  dsimp only at h
  cases h8 : (List.range (l.top + 1)).reverse.find? (fun r => decide (8 ≤ (passedAt l r).length)) <;> rw [h8] at h <;>
    dsimp only at h
  case some r' =>
    obtain ⟨hr, hp, hall⟩ := find_reverse_range h8
    obtain ⟨rfl, rfl⟩ := Prod.mk.inj (Option.some.inj h)
    rw [decide_eq_true_eq] at hp
    refine ⟨by omega, hp, .inl ⟨rfl, fun q hq htop => ?_⟩⟩
    have := hall q hq (by omega)
    simpa using this
  case none =>
    have hfew : ∀ q, q ≤ l.top → (passedAt l q).length < 8 := fun q hq => by
      have := List.find?_eq_none.1 h8 q (by simp; omega)
      simpa using this
    cases hebb : ebb <;> rw [hebb] at h
    case false => cases h
    case true =>
      rw [Bool.not_true, if_neg Bool.false_ne_true] at h
      cases h1 : (List.range (l.top + 1)).reverse.find? (fun r => decide (passedAt l r ≠ [])) <;> rw [h1] at h
      case none => cases h
      case some r' =>
        obtain ⟨hr, hp, hall⟩ := find_reverse_range h1
        obtain ⟨w', hw', hpair⟩ := Option.map_eq_some_iff.1 h
        obtain ⟨rfl, rfl⟩ := Prod.mk.inj hpair
        obtain ⟨hlanes, h3, h1'⟩ := widthFor_some hw'
        have hw1 : 1 ≤ w' := h1' (hfew _ (by omega))
        rw [Nat.max_eq_left hw1]
        refine ⟨by omega, hlanes, .inr ⟨rfl, hw1, h3, fun q hq => ⟨hfew q hq, fun hrq => ?_⟩⟩⟩
        simpa using hall q hrq (by omega)

theorem dwellDone_next {n : Nat} {s : State} (h : (linkAt s n).step < (linkAt s n).top) (lanes : BitVec 9) :
    dwellDone n lanes s = setLink n { linkAt s n with passed := mapSet (linkAt s n).passed (linkAt s n).step 0 lanes
                                                      step := (linkAt s n).step + 1 } s := if_pos h

/-- The last dwell decides. -/
theorem dwellDone_last {n : Nat} {s : State} {l : TwyLink} {lanes : BitVec 9}
    (hl : l = { linkAt s n with passed := mapSet (linkAt s n).passed (linkAt s n).step 0 lanes }) (h : l.top ≤ l.step) :
    dwellDone n lanes s = match bringUp (flag s F.TWY_LINKCTL.EBB_ALLOW n) l with
      | none => linkDown n false (setLink n l s)
      | some (r, w) => linkActivate n r w (setLink n l s) := by
  subst hl
  exact if_neg (Nat.not_lt.2 h)

/-! #### The obligation -/

/-- A clause of a link's row whose guard is the clock and the link's state. -/
theorem completes_link {i : Instr} {f : State → State} {n v : Nat} {s : State} {p : State → Prop} (hc : twyClock s = true)
    (hv : linkState s n = v) (he : exec i s = .next (onlyIf (twyClock s && linkState s n == v) f s)) (h : p (f s)) :
    Completes i s p :=
  ⟨f s, he.trans (next_onlyIf (by simp [hc, hv]) f s), h⟩

/-- Settles O41: bring-up step by step, with what going down leaves of a link that was not up stated once. -/
theorem linksComeUp : Obligations.LinksComeUp := by
  unfold Obligations.LinksComeUp
  refine ⟨fun n s hbar => ⟨fun hen => ?_, fun hen h0 hc => ?_, fun h4 h5 hq => ⟨?_, ?_⟩, ?_, ?_⟩,
    fun n farOk s hbar hc => ⟨fun h => ?_, fun h4 h5 hq hloop hfar => ?_, fun h6 => ?_⟩,
    fun n s hrun hc => ⟨fun h0 hen hoff => ?_, fun h1 => ?_, fun h1 => ?_, fun h2 hq => ?_⟩,
    fun n die link mode enc maxRate version auth h s hc h2 => ⟨fun hbad hq => ?_, fun hmode henc hver hauth => ?_⟩,
    fun n lanes s hc h3 => ⟨fun h => ?_, fun l hl htop => ⟨fun hnone => ?_, fun r w hsome => ?_⟩⟩,
    fun ebb l r w h => bringUp_some h, fun n v s hv => ⟨linkState_setLinkState _ _ (by omega), ?_, fun m hm => ?_⟩⟩
  · exact (next_onlyIf hbar (twyEnable n) s).trans (congrArg Host.Outcome.next (if_pos hen))
  · exact ⟨_, next_onlyIf hbar (twyEnable n) s, twyEnable_fields hen h0 hc⟩
  · exact ⟨_, next_onlyIf hbar (fun u => linkDown n true (setF F.TWY_LINKCTL.EN n 0 u)) s, linkDisabled_fields h4 h5 hq⟩
  · exact ⟨_, next_onlyIf hbar (linkDown n true) s, linkOff_fields h4 h5 hq⟩
  · exact next_onlyIf hbar (fun u => linkDown n true (setF F.TWY_LINKCTL.EN n 0 u)) s
  · exact next_onlyIf hbar (linkDown n true) s
  · exact ⟨_, next_onlyIf (by rw [hbar, hc]; rfl) (twyTest n farOk) s, twyTest_fields (by omega) h⟩
  · refine ⟨_, next_onlyIf (by rw [hbar, hc]; rfl) (twyTest n farOk) s, ?_⟩
    rw [twyTest_refused ⟨hloop, hfar⟩]
    exact (linkState_congr n (StatusKept.post _ _ n)).trans (linkState_linkDown h4 h5 false)
  · exact ⟨_, next_onlyIf (by simp [hbar, h6]) (fun u => setLinkState n 0 (setF F.TWY_STATUS.RATE n 0 u)) s, testEnd_fields n s⟩
  · refine ⟨_, onClock_of_runs hrun (twyDetect n), ?_⟩
    rw [twyDetect_of h0 hen hoff hc]
    exact ⟨linkState_setLinkState _ _ (by decide), onlyRegs_setLinkState n s 1, regsBut_setLinkState n s 1⟩
  · exact completes_link hc h1 rfl (blockLock_fields n s)
  · exact completes_link hc h1 rfl (detectTimeout_fields n s)
  · obtain ⟨h0, hv, -, -, hlanes, hmap, hr⟩ := configFail_fields (by rw [h2]; decide) (by rw [h2]; decide) hq
    exact completes_link hc h2 rfl ⟨h0, hv, hlanes, hmap, hr⟩
  · refine completes_link hc h2 rfl ?_
    obtain ⟨h0, hd, hl, hv⟩ := configRefused_fields die.isLt link.isLt h2 hq
    by_cases hmis : mode ≠ flag s F.TWY_LINKCTL.MODE n ∨ enc ≠ flag s F.TWY_LINKCTL.ENC n ∨ version.toNat ≠ 1
    · rw [configTake_mismatch hmis]
      exact ⟨h0, hd, hl, hv⟩
    · simp only [not_or, ne_eq, Classical.not_not] at hmis
      obtain ⟨hmode, henc, hver⟩ := hmis
      have hauth : auth = false := by
        have hver' : version = 1 := BitVec.eq_of_toNat_eq hver
        simpa [hmode, henc, hver'] using hbad
      rw [hauth, configTake_unauthentic hmode henc hver, linkState_congr n (StatusKept.post _ _ n), flag, getF_post _ _ _ _ rfl,
        getF_post _ _ _ _ rfl, getF_post _ _ _ _ rfl]
      exact ⟨h0, hd, hl, hv⟩
  · subst hauth
    exact completes_link hc h2 rfl (configTake_accepted hmode henc (by rw [hver]; rfl))
  · exact (next_onlyIf (by simp [hc, h3]) (dwellDone n lanes) s).trans (congrArg Host.Outcome.next (dwellDone_next h lanes))
  · refine completes_link hc h3 rfl ?_
    rw [dwellDone_last hl htop, hnone]
    refine linkState_linkDown ?_ ?_ false <;> rw [linkState_setLink, h3] <;> decide
  · refine (next_onlyIf (by simp [hc, h3]) (dwellDone n lanes) s).trans (congrArg Host.Outcome.next ?_)
    rw [dwellDone_last hl htop, hsome]
  · rw [up_setLinkState n s (by omega), if_pos rfl]
  · have hm' : m.val ≠ n.val := fun h => hm (Fin.ext h)
    exact ⟨linkState_setLinkState_ne n s hm' v, by rw [up_setLinkState n s (by omega), if_neg hm']⟩

end Sys2Proof.Machine

end


/-! ### Tideway links: pauses, lanes and the loops (R583, R584, R591, R592, R596, R599, R605, R607, R610) -/
section

namespace Sys2Proof.Machine

/-! #### A fold whose steps each touch one place -/

theorem foldl_read_of_kept {α σ β : Type} {g : σ → α → σ} {rd : σ → β} {l : List α}
    (h : ∀ u, ∀ b ∈ l, rd (g u b) = rd u) (u : σ) : rd (l.foldl g u) = rd u := by
  induction l generalizing u with
  | nil => rfl
  | cons b l ih => exact (ih (fun v c hc => h v c (List.mem_cons_of_mem _ hc)) (g u b)).trans (h u b (List.mem_cons_self ..))

theorem foldl_read_of_mem {α σ β : Type} {g : σ → α → σ} {rd : σ → β} {φ : β → β} {a : α} {l : List α}
    (hne : ∀ u, ∀ b ∈ l, b ≠ a → rd (g u b) = rd u) (hsame : ∀ u, rd (g u a) = φ (rd u)) (hl : l.Nodup) (ha : a ∈ l)
    (u : σ) : rd (l.foldl g u) = φ (rd u) := by
  induction l generalizing u with
  | nil => cases ha
  | cons b l ih =>
    obtain ⟨hb, hnd⟩ := List.nodup_cons.1 hl
    have hrest : ∀ v, ∀ c ∈ l, c ≠ a → rd (g v c) = rd v := fun v c hc => hne v c (List.mem_cons_of_mem _ hc)
    rcases List.mem_cons.1 ha with rfl | ha
    · exact (foldl_read_of_kept (fun v c hc => hrest v c hc fun h => hb (h ▸ hc)) (g u a)).trans (hsame u)
    · exact (ih hrest hnd ha (g u b)).trans (congrArg φ (hne u b (List.mem_cons_self ..) fun h => hb (h ▸ ha)))

/-! #### The lanes' states (R625) -/
section
variable {n k : Nat} (s : State)

theorem laneSt_congr {s t : State} (h : getReg t .TWY_LANEST n = getReg s .TWY_LANEST n) (j : Nat) : laneSt t n j = laneSt s n j := by
  rw [laneSt, h, laneSt]

theorem lanesIn_congr {s t : State} (h : getReg t .TWY_LANEST n = getReg s .TWY_LANEST n) (v : Nat) : lanesIn t n v = lanesIn s n v :=
  List.filter_congr fun j _ => by rw [laneSt_congr h]

theorem laneMap_congr {s t : State} (h : getReg t .TWY_LANEMAP n = getReg s .TWY_LANEMAP n) (j : Nat) : laneMap t n j = laneMap s n j := by
  rw [laneMap, h, laneMap]

theorem laneSt_setLaneSt_same (hk : k < 9) {v : Nat} (hv : v < 4) : laneSt (setLaneSt n k v s) n k = v := by
  rw [laneSt, setLaneSt, getReg_setReg, if_pos ⟨rfl, rfl⟩, bitsAt_putBits_same _ _ _ _ (by omega), Nat.mod_eq_of_lt (by omega)]

theorem laneSt_setLaneSt_ne (hk : k < 9) {j : Nat} (hj : j ≠ k) (v : Nat) : laneSt (setLaneSt n k v s) n j = laneSt s n j := by
  rw [laneSt, setLaneSt, getReg_setReg, if_pos ⟨rfl, rfl⟩, bitsAt_putBits_ne _ _ _ _ _ _ (by omega) (by omega), laneSt]

theorem regsBut_setLaneSt (v : Nat) : RegsBut [(.TWY_LANEST, n)] s (setLaneSt n k v s) := .setReg (List.mem_cons_self ..) _ s

theorem twy_setLaneSt (v : Nat) : (setLaneSt n k v s).twy = s.twy := rfl

theorem mem_lanesIn {v : Nat} : k ∈ lanesIn s n v ↔ k < 9 ∧ laneSt s n k = v := by
  simp [lanesIn]

theorem laneSync_frame : RegsBut [(.TWY_STATUS, n)] s (laneSync n s) ∧ (laneSync n s).twy = s.twy ∧
    linkState (laneSync n s) n = linkState s n ∧ getF (laneSync n s) F.TWY_STATUS.RATE n = getF s F.TWY_STATUS.RATE n := by
  have hmem : ((.TWY_STATUS, n) : Reg × Nat) ∈ [((.TWY_STATUS, n) : Reg × Nat)] := List.mem_cons_self ..
  unfold laneSync
  refine ⟨?_, ?_, ?_, ?_⟩
  · exact (RegsBut.setF (f := F.TWY_STATUS.SPARE) hmem _ s).trans (RegsBut.setF (f := F.TWY_STATUS.P) hmem _ _)
  · rw [setF_twy, setF_twy]
  · rw [linkState, getF_setF_of_bits (by decide) (by decide), getF_setF_of_bits (by decide) (by decide), linkState]
  · rw [getF_setF_of_bits (by decide) (by decide), getF_setF_of_bits (by decide) (by decide)]

/-- A lane in training. -/
theorem trainLane_fields (hk : k < 9) :
    laneSt (trainLane n k s) n k = 3 ∧ (∀ j, j ≠ k → laneSt (trainLane n k s) n j = laneSt s n j) ∧
    linkAt (trainLane n k s) n = { linkAt s n with training := some k } := by
  rw [trainLane]
  obtain ⟨hr, htwy, -, -⟩ := laneSync_frame (n := n) (setLaneSt n k 3 (setLink n { linkAt s n with training := some k } s))
  have hst := laneSt_congr (hr .TWY_LANEST n (by simp))
  refine ⟨?_, fun j hj => ?_, ?_⟩
  · rw [hst, laneSt_setLaneSt_same _ hk (by decide)]
  · rw [hst, laneSt_setLaneSt_ne _ hk hj]
    rfl
  · rw [linkAt_congr htwy, linkAt_congr (twy_setLaneSt _ 3), linkAt_setLink_same]

end

/-! #### What waits on a link's lanes (R597, R605) -/

/-- With no weak lane, the first lane that RESTORE has left is trained. -/
theorem lanesNext_restoring {n k : Nat} {ks : List Nat} {s : State} (h4 : linkState s n = 4) (ha : (linkAt s n).acting = none)
    (ht : (linkAt s n).training = none) (hw : (linkAt s n).weak = []) (hr : (linkAt s n).restoring = k :: ks) :
    lanesNext n s = trainLane n k (setLink n { linkAt s n with weak := [] } s) := by
  unfold lanesNext
  dsimp only
  rw [if_neg (by simp [h4, ha, ht]), hw, hr]
  simp only [List.filter_nil, byBer, List.mergeSort_nil, List.reverse_nil]

/-- With nothing waiting nothing starts. -/
theorem lanesNext_idle {n : Nat} {s : State} (h4 : linkState s n = 4) (ha : (linkAt s n).acting = none)
    (ht : (linkAt s n).training = none) (hw : (linkAt s n).weak = []) (hr : (linkAt s n).restoring = []) :
    lanesNext n s = setLink n { linkAt s n with weak := [] } s := by
  unfold lanesNext
  dsimp only
  rw [if_neg (by simp [h4, ha, ht]), hw, hr]
  simp only [List.filter_nil, byBer, List.mergeSort_nil, List.reverse_nil]

/-- A link whose weak lanes are none says so. -/
theorem linkAt_setLink_weak {n : Nat} {s : State} (hw : (linkAt s n).weak = []) :
    linkAt (setLink n { linkAt s n with weak := [] } s) n = linkAt s n := by
  rw [linkAt_setLink_same]
  cases h : linkAt s n
  rw [h] at hw
  dsimp only at hw
  rw [hw]

/-! #### A PAUSE begins and ends (R583, R584) -/

theorem pauseBegin_eq {n : Nat} {s : State} (h4 : linkState s n = 4) (p : PauseFor) (want : Nat) :
    pauseBegin n p want s = twyEvent n Ev.TWY_PAUSE_BEGIN 0 p.code 0 (bump F.TWY_CHANGES.PAUSES n (setLinkState n 5
      (setLink n { linkAt s n with pause := some p, pauseAt := s.time, want := want } s))) := if_neg (by simp [h4])

/-- What the begin of a PAUSE leaves. -/
theorem pauseBegin_fields {n : Nat} {s : State} (hn : n < 32) (h4 : linkState s n = 4) (p : PauseFor) (want : Nat) :
    let t := pauseBegin n p want s
    linkState t n = 5 ∧ (getReg t .TWY_UP 0).getLsbD n = false ∧
    linkAt t n = { linkAt s n with pause := some p, pauseAt := s.time, want := want } ∧
    getF t F.TWY_CHANGES.PAUSES n = min (getF s F.TWY_CHANGES.PAUSES n + 1) (2 ^ F.TWY_CHANGES.PAUSES.width - 1) ∧
    RegsButAll (.TWY_STATUS :: .TWY_UP :: .TWY_CHANGES :: eventRegs) s t := by
  rw [pauseBegin_eq h4]
  obtain ⟨hst, hl, hr⟩ := setLinkState_setLink_fields n (v := 5) (by decide)
    { linkAt s n with pause := some p, pauseAt := s.time, want := want } s
  have hup := up_setLinkState (n := n) (setLink n { linkAt s n with pause := some p, pauseAt := s.time, want := want } s) hn 5 n
  rw [if_pos rfl] at hup
  generalize setLinkState n 5 (setLink n { linkAt s n with pause := some p, pauseAt := s.time, want := want } s) = u at *
  have hb : RegsBut [(.TWY_CHANGES, n)] u (bump F.TWY_CHANGES.PAUSES n u) :=
    RegsBut.bump (f := F.TWY_CHANGES.PAUSES) (List.mem_cons_self ..) u
  have hcount : getF (bump F.TWY_CHANGES.PAUSES n u) F.TWY_CHANGES.PAUSES n
      = min (getF s F.TWY_CHANGES.PAUSES n + 1) (2 ^ F.TWY_CHANGES.PAUSES.width - 1) := by
    rw [getF_bump_same _ _ _ (by decide), hr.getF .TWY_CHANGES n (by simp)]
  have hltwy : (bump F.TWY_CHANGES.PAUSES n u).twy = u.twy := bump_twy ..
  generalize bump F.TWY_CHANGES.PAUSES n u = w at *
  obtain ⟨hev, htwy, -⟩ := twyEvent_frame n Ev.TWY_PAUSE_BEGIN 0 p.code 0 w
  generalize twyEvent n Ev.TWY_PAUSE_BEGIN 0 p.code 0 w = t at *
  refine ⟨?_, ?_, ?_, ?_, ?_⟩
  · rw [linkState_congr n (hev _ _ (by decide)), linkState_congr n (hb _ _ (by simp)), hst]
  · rw [hev _ _ (by decide), hb _ _ (by simp), hup]
    rfl
  · rw [linkAt_congr htwy, linkAt_congr hltwy, hl]
  · rw [← hcount, getF, hev _ _ (by decide), getF]
  · refine RegsButAll.trans ((hr.toAll (by simp)).trans (hb.toAll (by simp))) (hev.mono fun r hr => by simp [hr])

theorem twyFlush_of_empty {n : Nat} {s : State} (h : (linkAt s n).txq = []) : twyFlush n s = s := by
  have hnone : nextUrgent (linkAt s n) = none := by simp [nextUrgent, h]
  have hready : readyTx (linkAt s n) = [] := by simp [readyTx, h]
  have hplain : ∃ u, nextPlain n s = (none, u) := by
    unfold nextPlain
    simp only [h, List.length_nil, List.range_zero, List.find?_nil, hready, List.filterMap_nil]
    exact ⟨s, rfl⟩
  obtain ⟨u, hu⟩ := hplain
  have hfill : fillSlots 3 n 3 s [] = ([], s) := by
    unfold fillSlots
    rw [if_pos (by decide), hnone]
    simp only [hu]
    rfl
  unfold twyFlush twyPump
  split
  · rfl
  · rw [hfill]
    rfl

/-- What a PAUSE for a retrain or a lost signal leaves where nothing waits. -/
theorem pauseDone_fields {n : Nat} {s : State} {p : PauseFor} (hn : n < 32) (hp : (linkAt s n).pause = some p)
    (hkind : p = .loss ∨ p = .retrain) (htx : (linkAt s n).txq = []) (ha : (linkAt s n).acting = none)
    (ht : (linkAt s n).training = none) (hw : (linkAt s n).weak = []) (hr : (linkAt s n).restoring = []) :
    linkState (pauseDone n s) n = 4 ∧ (getReg (pauseDone n s) .TWY_UP 0).getLsbD n = true ∧
    linkAt (pauseDone n s) n = { linkAt s n with pause := none, resends := 0, nakSent := false } ∧
    RegsButAll (.TWY_STATUS :: .TWY_UP :: eventRegs) s (pauseDone n s) := by
  have hregs := regsBut_setLinkState n s 4
  have hst := linkState_setLinkState n s (v := 4) (by decide)
  have hup := up_setLinkState (n := n) s hn 4 n
  have hP : getF (setLinkState n 4 s) F.TWY_STATUS.P n = getF s F.TWY_STATUS.P n := by
    rw [setLinkState, getF_setReg_of_reg (by decide), getF_setF_of_bits (by decide) (by decide)]
  unfold pauseDone
  dsimp only
  generalize linkAt s n = l at *
  rw [hp]
  dsimp only
  generalize setLinkState n 4 s = u at *
  generalize hv : setLink n { l with pause := none, resends := 0, nakSent := false } u = v
  have hvl : linkAt v n = { l with pause := none, resends := 0, nakSent := false } := by rw [← hv, linkAt_setLink_same]
  have hvreg : v.regs = u.regs := by rw [← hv]; rfl
  obtain ⟨hev, htwy, -⟩ := twyEvent_frame n Ev.TWY_PAUSE_END 0 p.code ((s.time - l.pauseAt) / 25) v
  have heff : ∀ w : State, pauseEffect n p l.want w = w := fun w => by rcases hkind with rfl | rfl <;> rfl
  rw [heff]
  generalize twyEvent n Ev.TWY_PAUSE_END 0 p.code ((s.time - l.pauseAt) / 25) v = w at *
  generalize hx : { w with out := w.out ++ l.replay.map (fun (f : Nat × BitVec 2048) => Out.twyFrame n f.2) } = x
  have hreg : ∀ r i, r ∉ eventRegs → getReg x r i = getReg u r i := fun r i h => by
    rw [← hx, ← getReg_congr hvreg]
    exact hev r i h
  have hxl : linkAt x n = { l with pause := none, resends := 0, nakSent := false } := by
    rw [← hvl, ← linkAt_congr htwy n, ← hx]
    rfl
  have hx4 : linkState x n = 4 := (linkState_congr n (hreg _ _ (by decide))).trans hst
  have hxP : getF x F.TWY_STATUS.P n = getF s F.TWY_STATUS.P n := by
    rw [← hP, getF, hreg _ _ (by decide), getF]
  have hxw : (linkAt x n).weak = [] := by rw [hxl]; exact hw
  rw [if_pos hxP, twyFlush_of_empty (by rw [hxl]; exact htx), lanesNext_idle hx4 (by rw [hxl]; exact ha)
    (by rw [hxl]; exact ht) hxw (by rw [hxl]; exact hr)]
  refine ⟨hx4, ?_, ?_, ?_⟩
  · rw [getReg_setLink, hreg _ _ (by decide), hup, if_pos rfl]
    rfl
  · rw [linkAt_setLink_weak hxw, hxl]
  · refine RegsButAll.trans (hregs.toAll (by simp)) (RegsButAll.trans (t := x) (fun r i h => hreg r i ?_) (.of_regs_eq rfl))
    exact fun he => h (List.mem_cons_of_mem _ (List.mem_cons_of_mem _ he))

/-- What a PAUSE for a rate leaves. -/
theorem pauseEffect_rate (n : Nat) {want : Nat} (hw : want < 8) (s : State) :
    getF (pauseEffect n .rate want s) F.TWY_STATUS.RATE n = want ∧
    (linkAt (pauseEffect n .rate want s) n).trial = decide (getF s F.TWY_STATUS.RATE n < want) := by
  unfold pauseEffect
  dsimp only
  generalize hl : ({ linkAt s n with calm := 0, trial := decide (getF s F.TWY_STATUS.RATE n < want), bad := [] } : TwyLink) = l
  obtain ⟨-, -, -, hrate⟩ := laneSync_frame (n := n) (setF F.TWY_STATUS.RATE n want s)
  generalize laneSync n (setF F.TWY_STATUS.RATE n want s) = u at *
  obtain ⟨hev, htwy, -⟩ := twyEvent_frame n Ev.TWY_RATE 0 0 0 (setLink n l u)
  refine ⟨?_, ?_⟩
  · rw [getF, hev _ _ (by decide), getReg_setLink, ← getF, hrate, getF_setF_of_lt (by decide) hw]
  · rw [linkAt_congr htwy, linkAt_setLink_same, ← hl]

/-! #### RESTORE and the training of lanes (R598, R599, R605) -/

theorem twyRestore_eq {n : Nat} {s : State} (h4 : linkState s n = 4) : twyRestore n s =
    if (lanesIn s n 2 = [] && (linkAt s n).acting.isNone && (linkAt s n).training.isNone) = true then
      widenNow n (setLink n { linkAt s n with restoring := lanesIn s n 2 } s)
    else lanesNext n (setLink n { linkAt s n with restoring := lanesIn s n 2 } s) := if_neg (by simp [h4])

/-- RESTORE trains the first retired lane. -/
theorem twyRestore_fields {n k : Nat} {ks : List Nat} {s : State} (h4 : linkState s n = 4) (ha : (linkAt s n).acting = none)
    (ht : (linkAt s n).training = none) (hw : (linkAt s n).weak = []) (hd : lanesIn s n 2 = k :: ks) :
    laneSt (twyRestore n s) n k = 3 ∧ (linkAt (twyRestore n s) n).training = some k ∧
    (linkAt (twyRestore n s) n).restoring = k :: ks ∧
    (∀ j, j < 9 → j ≠ k → laneSt (twyRestore n s) n j = laneSt s n j) := by
  have hk : k < 9 := ((mem_lanesIn s).1 (hd ▸ List.mem_cons_self .. : k ∈ lanesIn s n 2)).1
  rw [twyRestore_eq h4, hd, if_neg (by simp)]
  generalize hu : setLink n { linkAt s n with restoring := k :: ks } s = u
  have hl : linkAt u n = { linkAt s n with restoring := k :: ks } := by rw [← hu, linkAt_setLink_same]
  have hst : ∀ j, laneSt u n j = laneSt s n j := laneSt_congr (by rw [← hu, getReg_setLink])
  have h4u : linkState u n = 4 := by rw [← hu, linkState_setLink, h4]
  rw [lanesNext_restoring h4u (by rw [hl]; exact ha) (by rw [hl]; exact ht) (by rw [hl]; exact hw) (by rw [hl])]
  generalize hv : setLink n { linkAt u n with weak := [] } u = v
  have hlv : linkAt v n = linkAt u n := hv ▸ linkAt_setLink_weak (by rw [hl]; exact hw)
  have hstv : ∀ j, laneSt v n j = laneSt u n j := laneSt_congr (by rw [← hv, getReg_setLink])
  obtain ⟨h3, hne, hlink⟩ := trainLane_fields v hk
  exact ⟨h3, by rw [hlink], by rw [hlink, hlv, hl], fun j _ hj => by rw [hne j hj, hstv, hst]⟩

/-- A lane trained for no swap is a spare; what waits goes on. -/
theorem trainDone_spare {n k : Nat} {s : State} (ht : (linkAt s n).training = some k) (ha : (linkAt s n).acting = none) :
    trainDone n true s =
      let v := laneSync n (setLaneSt n k 1 (setLink n
        { linkAt s n with training := none, restoring := (linkAt s n).restoring.filter (fun a => a != k) } s))
      if ((linkAt v n).restoring = [] && (linkAt v n).weak = []) = true then widenNow n v else lanesNext n v := by
  unfold trainDone
  dsimp only
  rw [ht, ha]
  dsimp only
  rw [if_pos rfl]

/-- A trained spare begins a swap, with a frame that says so where the replay buffer has room. -/
theorem trainDone_passed {n w k : Nat} {s : State} (ht : (linkAt s n).training = some k) (ha : (linkAt s n).acting = some w) :
    trainDone n true s =
      let v := setLink n { linkAt s n with swapping := some k, training := none } s
      if decide (256 ≤ (linkAt v n).replay.length) = true then v else sendFrame n [] false true (linkAt v n) v := by
  unfold trainDone
  dsimp only
  rw [ht, ha]
  dsimp only
  rw [if_pos rfl]

/-- A trained lane that no swap waits for is a spare, and the next one that RESTORE has left is trained. -/
theorem trainDone_restored {n k j : Nat} {js : List Nat} {s : State} (h4 : linkState s n = 4)
    (ht : (linkAt s n).training = some k) (hk : k < 9) (ha : (linkAt s n).acting = none) (hw : (linkAt s n).weak = [])
    (hr : (linkAt s n).restoring = [k, j] ++ js) (hjk : j ≠ k) (hj : j < 9) (hjs : ∀ x ∈ js, x ≠ k) :
    laneSt (trainDone n true s) n k = 1 ∧ laneSt (trainDone n true s) n j = 3 ∧
    (linkAt (trainDone n true s) n).training = some j := by
  have hleft : (linkAt s n).restoring.filter (fun a => a != k) = j :: js := by
    rw [hr, List.cons_append, List.cons_append, List.nil_append, List.filter_cons_of_neg (by simp),
      List.filter_cons_of_pos (by simpa using hjk), List.filter_eq_self.2 fun x hx => by simpa using hjs x hx]
  rw [trainDone_spare ht ha, hleft]
  dsimp only
  generalize hu : setLink n { linkAt s n with training := none, restoring := j :: js } s = u
  have hl : linkAt u n = { linkAt s n with training := none, restoring := j :: js } := by rw [← hu, linkAt_setLink_same]
  have h4u : linkState u n = 4 := by rw [← hu, linkState_setLink, h4]
  obtain ⟨hreg, htwy, hst, -⟩ := laneSync_frame (n := n) (setLaneSt n k 1 u)
  have hk1 := (laneSt_congr (hreg .TWY_LANEST n (by simp)) k).trans (laneSt_setLaneSt_same u hk (v := 1) (by decide))
  have hlv : linkAt (laneSync n (setLaneSt n k 1 u)) n = linkAt u n :=
    (linkAt_congr htwy n).trans (linkAt_congr (twy_setLaneSt u 1) n)
  have h4v : linkState (laneSync n (setLaneSt n k 1 u)) n = 4 :=
    hst.trans ((linkState_congr n (regsBut_setLaneSt u 1 _ _ (by simp))).trans h4u)
  generalize laneSync n (setLaneSt n k 1 u) = v at *
  rw [hl] at hlv
  have hne : ¬((linkAt v n).restoring = [] && (linkAt v n).weak = []) = true := by simp [hlv]
  rw [if_neg hne, lanesNext_restoring h4v (by rw [hlv]; exact ha) (by rw [hlv]) (by rw [hlv]; exact hw) (by rw [hlv])]
  obtain ⟨h3, hother, hlink⟩ := trainLane_fields (setLink n { linkAt v n with weak := [] } v) hj
  exact ⟨by rw [hother k hjk.symm, laneSt_congr (getReg_setLink ..), hk1], h3, by rw [hlink]⟩

/-- A swap begins where the replay buffer is full, with no frame sent. -/
theorem trainDone_swap {n w k : Nat} {s : State} (ht : (linkAt s n).training = some k) (ha : (linkAt s n).acting = some w)
    (hfull : 256 ≤ (linkAt s n).replay.length) :
    linkAt (trainDone n true s) n = { linkAt s n with swapping := some k, training := none } ∧
    (trainDone n true s).regs = s.regs := by
  have hl := linkAt_setLink_same n { linkAt s n with swapping := some k, training := none } s
  have heq : trainDone n true s = setLink n { linkAt s n with swapping := some k, training := none } s := by
    rw [trainDone_passed ht ha]
    dsimp only
    rw [if_pos]
    rw [hl]
    exact decide_eq_true hfull
  rw [heq]
  exact ⟨hl, rfl⟩

theorem trainDone_failed {n w k : Nat} {s : State} (ht : (linkAt s n).training = some k) (ha : (linkAt s n).acting = some w) :
    trainDone n false s = ebbOrDown n w
      (twyEvent n Ev.TWY_SPAREFAIL k 0 0 (setLaneSt n k 2 (setLink n { linkAt s n with training := none } s))) := by
  unfold trainDone
  dsimp only
  rw [ht, ha]
  rfl

/-! #### A swap ends (R599) -/

theorem laneMap_put_same (n : Nat) {i k : Nat} (hi : i < 8) (hk : k < 16) (s : State) :
    laneMap (setReg .TWY_LANEMAP n (putBits (getReg s .TWY_LANEMAP n) (4 * i) 4 k) s) n i = k := by
  rw [laneMap, getReg_setReg, if_pos ⟨rfl, rfl⟩, bitsAt_putBits_same _ _ _ _ (by omega), Nat.mod_eq_of_lt (by omega)]

theorem laneMap_put_ne (n : Nat) {i j k : Nat} (hi : i < 8) (hj : j ≠ i) (s : State) :
    laneMap (setReg .TWY_LANEMAP n (putBits (getReg s .TWY_LANEMAP n) (4 * i) 4 k) s) n j = laneMap s n j := by
  rw [laneMap, getReg_setReg, if_pos ⟨rfl, rfl⟩, bitsAt_putBits_ne _ _ _ _ _ _ (by omega) (by omega), laneMap]

/-- The place of the logical lane that a lane carries. -/
theorem find_laneMap {n w i : Nat} {s : State} (hi : i < 8) (hw : laneMap s n i = w) (hfirst : ∀ j, j < i → laneMap s n j ≠ w) :
    (List.range 8).find? (fun j => laneMap s n j == w) = some i := by
  rw [List.find?_range_eq_some]
  exact ⟨by simp [hw], List.mem_range.2 hi, fun j hj => by simpa using hfirst j hj⟩

/-- The lanes of a link after a swap: the spare k stands for the weak lane w at logical lane i. -/
def swapped (n w k i : Nat) (s : State) : State :=
  laneSync n (setLaneSt n k 0 (setLaneSt n w 2 (setReg .TWY_LANEMAP n (putBits (getReg s .TWY_LANEMAP n) (4 * i) 4 k) s)))

theorem swapped_fields {n w k i : Nat} (hw : w < 9) (hk : k < 9) (hwk : w ≠ k) (hi : i < 8) (s : State) :
    laneSt (swapped n w k i s) n w = 2 ∧ laneSt (swapped n w k i s) n k = 0 ∧ laneMap (swapped n w k i s) n i = k ∧
    (∀ j, j ≠ i → laneMap (swapped n w k i s) n j = laneMap s n j) ∧ linkState (swapped n w k i s) n = linkState s n ∧
    getF (swapped n w k i s) F.TWY_CHANGES.SWAPS n = getF s F.TWY_CHANGES.SWAPS n := by
  rw [swapped]
  have hsame := laneMap_put_same n hi (show k < 16 by omega) s
  have hne : ∀ j, j ≠ i → _ := fun j hj => laneMap_put_ne n (j := j) (k := k) hi hj s
  have h1 : RegsBut [(.TWY_LANEMAP, n)] s (setReg .TWY_LANEMAP n (putBits (getReg s .TWY_LANEMAP n) (4 * i) 4 k) s) :=
    .setReg (List.mem_cons_self ..) _ s
  generalize setReg .TWY_LANEMAP n (putBits (getReg s .TWY_LANEMAP n) (4 * i) 4 k) s = u at *
  have hw2 := laneSt_setLaneSt_same (n := n) u hw (v := 2) (by decide)
  have h2 := regsBut_setLaneSt (n := n) (k := w) u 2
  generalize setLaneSt n w 2 u = v at *
  have hk0 := laneSt_setLaneSt_same (n := n) v hk (v := 0) (by decide)
  have hw0 := laneSt_setLaneSt_ne (n := n) v hk hwk 0
  have h3 := regsBut_setLaneSt (n := n) (k := k) v 0
  generalize setLaneSt n k 0 v = x at *
  obtain ⟨h4, -, hst, -⟩ := laneSync_frame (n := n) x
  generalize laneSync n x = y at *
  have hmap : ∀ j, laneMap y n j = laneMap u n j := laneMap_congr
    (((h4 .TWY_LANEMAP n (by simp)).trans (h3 _ _ (by simp))).trans (h2 _ _ (by simp)))
  have hlane := laneSt_congr (h4 .TWY_LANEST n (by simp))
  refine ⟨by rw [hlane, hw0, hw2], by rw [hlane, hk0], by rw [hmap, hsame], fun j hj => by rw [hmap, hne j hj], ?_, ?_⟩
  · rw [hst, linkState_congr n (h3 _ _ (by simp)), linkState_congr n (h2 _ _ (by simp)), linkState_congr n (h1 _ _ (by simp))]
  · rw [h4.getF .TWY_CHANGES n (by simp), h3.getF .TWY_CHANGES n (by simp), h2.getF .TWY_CHANGES n (by simp),
      h1.getF .TWY_CHANGES n (by simp)]

theorem swapDone_eq {n w k i : Nat} {s : State} (ha : (linkAt s n).acting = some w) (hs : (linkAt s n).swapping = some k)
    (hi : (List.range 8).find? (fun j => laneMap s n j == w) = some i) :
    swapDone n s = lanesNext n (twyEvent n Ev.TWY_SPARED w 0 0 (bump F.TWY_CHANGES.SWAPS n
      (setLink n { linkAt s n with acting := none, swapping := none } (swapped n w k i s)))) := by
  unfold swapDone swapped
  dsimp only
  rw [ha, hs]
  dsimp only
  rw [hi, Option.getD_some]

theorem swapDone_fields {n w k i : Nat} {s : State} (h4 : linkState s n = 4) (ha : (linkAt s n).acting = some w)
    (hs : (linkAt s n).swapping = some k) (ht : (linkAt s n).training = none) (hweak : (linkAt s n).weak = [])
    (hr : (linkAt s n).restoring = []) (hw : w < 9) (hk : k < 9) (hwk : w ≠ k) (hi : i < 8) (hm : laneMap s n i = w)
    (hfirst : ∀ j, j < i → laneMap s n j ≠ w) :
    let t := swapDone n s
    laneSt t n w = 2 ∧ laneSt t n k = 0 ∧ laneMap t n i = k ∧ (∀ j, j < 8 → j ≠ i → laneMap t n j = laneMap s n j) ∧
      (linkAt t n).acting = none ∧ (linkAt t n).swapping = none ∧
      getF t F.TWY_CHANGES.SWAPS n = min (getF s F.TWY_CHANGES.SWAPS n + 1) (2 ^ F.TWY_CHANGES.SWAPS.width - 1) := by
  rw [swapDone_eq ha hs (find_laneMap hi hm hfirst)]
  obtain ⟨hw2, hk0, hmi, hmj, hst, hcount⟩ := swapped_fields (n := n) hw hk hwk hi s
  generalize swapped n w k i s = u at *
  generalize hl : ({ linkAt s n with acting := none, swapping := none } : TwyLink) = l
  generalize hv : setLink n l u = v
  have hvreg : ∀ r, getReg v r n = getReg u r n := fun r => by rw [← hv, getReg_setLink]
  have hvl : linkAt v n = l := by rw [← hv, linkAt_setLink_same]
  have hb : RegsBut [(.TWY_CHANGES, n)] v (bump F.TWY_CHANGES.SWAPS n v) :=
    RegsBut.bump (f := F.TWY_CHANGES.SWAPS) (List.mem_cons_self ..) v
  have hc : getF (bump F.TWY_CHANGES.SWAPS n v) F.TWY_CHANGES.SWAPS n
      = min (getF s F.TWY_CHANGES.SWAPS n + 1) (2 ^ F.TWY_CHANGES.SWAPS.width - 1) := by
    rw [getF_bump_same _ _ _ (by decide), getF, hvreg, ← getF, hcount]
  have hltwy : (bump F.TWY_CHANGES.SWAPS n v).twy = v.twy := bump_twy ..
  generalize bump F.TWY_CHANGES.SWAPS n v = x at *
  obtain ⟨hev, htwy, -⟩ := twyEvent_frame n Ev.TWY_SPARED w 0 0 x
  generalize twyEvent n Ev.TWY_SPARED w 0 0 x = y at *
  have hyl : linkAt y n = l := by rw [linkAt_congr htwy, linkAt_congr hltwy, hvl]
  have hyr : ∀ r, r ∉ eventRegs → r ≠ .TWY_CHANGES → getReg y r n = getReg u r n := fun r he hne => by
    rw [hev _ _ he, hb _ _ (by simp [hne]), hvreg]
  have hy4 : linkState y n = 4 := by rw [linkState_congr n (hyr _ (by decide) (by decide)), hst, h4]
  have hyw : (linkAt y n).weak = [] := by rw [hyl, ← hl]; exact hweak
  rw [lanesNext_idle hy4 (by rw [hyl, ← hl]) (by rw [hyl, ← hl]; exact ht) hyw (by rw [hyl, ← hl]; exact hr)]
  have hlink := linkAt_setLink_weak hyw
  have hreg := fun r => getReg_setLink n { linkAt y n with weak := [] } y r n
  generalize setLink n { linkAt y n with weak := [] } y = z at *
  have hlane := laneSt_congr ((hreg .TWY_LANEST).trans (hyr _ (by decide) (by decide)))
  have hmap := laneMap_congr ((hreg .TWY_LANEMAP).trans (hyr _ (by decide) (by decide)))
  refine ⟨by rw [hlane, hw2], by rw [hlane, hk0], by rw [hmap, hmi], fun j _ hj => by rw [hmap, hmj j hj], ?_, ?_, ?_⟩
  · rw [hlink, hyl, ← hl]
  · rw [hlink, hyl, ← hl]
  · rw [← hc, getF, hreg, hev _ _ (by decide), getF]

/-! #### The loops (R607, R610) -/

/-- A trial whose link meets the down condition is given up. -/
theorem trialEnd_down {n : Nat} {s : State} (h : (linkAt s n).trial = true)
    (hd : decide (3 ≤ ((lanesIn s n 0).filter (fun a => decide (getF s F.TWY_RATETH.DN < laneBer s n a))).length) = true) :
    trialEnd n s = pauseBegin n .rate (getF s F.TWY_STATUS.RATE n - 1) (setLink n { linkAt s n with trial := false } s) := by
  unfold trialEnd
  dsimp only
  rw [if_neg (by simp [h]), if_pos hd]

theorem trialEnd_kept {n : Nat} {s : State} (h : (linkAt s n).trial = true)
    (hd : decide (3 ≤ ((lanesIn s n 0).filter (fun a => decide (getF s F.TWY_RATETH.DN < laneBer s n a))).length) = false) :
    trialEnd n s = setLink n { linkAt s n with trial := false } s := by
  unfold trialEnd
  dsimp only
  rw [if_neg (by simp [h]), if_neg (by simp only [hd, Bool.false_eq_true, not_false_eq_true])]

theorem widthWindow_kept {n load : Nat} {s : State} (h : 2 * load ≤ getF s F.TWY_STATUS.P n) : widthWindow n false load s = s :=
  if_neg (Nat.not_lt.2 h)

theorem widthWindow_loaded {n load : Nat} {s : State} (h : getF s F.TWY_STATUS.P n ≤ 10 * load) :
    widthWindow n true load s = clampEnd 2 n s := if_neg (Nat.not_lt.2 h)

/-- A link that carries little narrows; at WMIN 3 no clamp stands in the way. -/
theorem widthWindow_narrow {n load v : Nat} {s : State} (h : 10 * load < getF s F.TWY_STATUS.P n) (hc : clampOf s 2 n = none)
    (hmin : getF s F.TWY_LINKCTL.WMIN n = 3)
    (hv : [3, 2, 1].find? (fun v => decide (4 * load ≤ twyP (getF s F.TWY_STATUS.RATE n) v)
      && decide (getF s F.TWY_STATUS.WIDTH n < v)) = some v) :
    widthWindow n true load s = pauseBegin n .narrow v s := by
  have hfind : [3, 2, 1].find? (fun v => decide (v ≤ 3) && decide (4 * load ≤ twyP (getF s F.TWY_STATUS.RATE n) v)
      && decide (getF s F.TWY_STATUS.WIDTH n < v)) = some v := by
    rw [← hv]
    rfl
  have hany : [1, 2, 3].any (fun v => decide (3 < v) && decide (4 * load ≤ twyP (getF s F.TWY_STATUS.RATE n) v)
      && decide (getF s F.TWY_STATUS.WIDTH n < v)) = false := rfl
  have hclamp : clampSet 2 n false s = s := by
    rw [clampSet, if_neg Bool.false_ne_true, clampEnd, hc]
  unfold widthWindow
  dsimp only
  rw [if_pos rfl, if_pos h, hmin, hfind, hany, hclamp]

/-! #### Windows (R591, R592) -/

theorem nineTimes_ne {n j k : Nat} (h : j ≠ k) : 9 * n + j ≠ 9 * n + k := fun e => h (Nat.add_left_cancel e)

/-- One lane's rate and errors as a window publishes them. -/
def publishLane (n : Nat) (rates : List (BitVec 16)) (seen : List LaneSeen) (s : State) (l : Nat) : State :=
  bumpBy F.TWY_LANEERR.COUNT (9 * n + l) (seen.getD l {}).errs.toNat
    (setF F.TWY_LANEBER.RATE (9 * n + l) (rates.getD l 0).toNat s)

theorem publishLanes_eq (n : Nat) (rates : List (BitVec 16)) (seen : List LaneSeen) (s : State) :
    publishLanes n rates seen s = (List.range 9).foldl (publishLane n rates seen) s := rfl

section
variable (n : Nat) (rates : List (BitVec 16)) (seen : List LaneSeen) (s : State)

theorem laneBer_publishLane_same (l : Nat) : laneBer (publishLane n rates seen s l) n l = (rates.getD l 0).toNat := by
  rw [laneBer, publishLane, getF_bumpBy_of_reg (by decide), getF_setF_of_lt (by decide) (rates.getD l 0).isLt]

theorem laneBer_publishLane_ne {j l : Nat} (h : j ≠ l) : laneBer (publishLane n rates seen s j) n l = laneBer s n l := by
  rw [laneBer, publishLane, getF_bumpBy_of_reg (by decide), getF_setF_of_index (nineTimes_ne h).symm, laneBer]

theorem count_publishLane_same (l : Nat) : getF (publishLane n rates seen s l) F.TWY_LANEERR.COUNT (9 * n + l)
    = min (getF s F.TWY_LANEERR.COUNT (9 * n + l) + (seen.getD l {}).errs.toNat) (2 ^ F.TWY_LANEERR.COUNT.width - 1) := by
  rw [publishLane, getF_bumpBy_same _ _ _ _ (by decide), getF_setF_of_reg (by decide)]

theorem count_publishLane_ne {j l : Nat} (h : j ≠ l) :
    getF (publishLane n rates seen s j) F.TWY_LANEERR.COUNT (9 * n + l) = getF s F.TWY_LANEERR.COUNT (9 * n + l) := by
  rw [publishLane, bumpBy, getF_setF_of_index (nineTimes_ne h).symm, getF_setF_of_reg (by decide)]

theorem publishLanes_fields {l : Nat} (hl : l < 9) : laneBer (publishLanes n rates seen s) n l = (rates.getD l 0).toNat ∧
    getF (publishLanes n rates seen s) F.TWY_LANEERR.COUNT (9 * n + l)
      = min (getF s F.TWY_LANEERR.COUNT (9 * n + l) + (seen.getD l {}).errs.toNat) (2 ^ F.TWY_LANEERR.COUNT.width - 1) := by
  rw [publishLanes_eq]
  have hmem := List.mem_range.2 hl
  exact ⟨foldl_read_of_mem (rd := fun u => laneBer u n l) (φ := fun _ => (rates.getD l 0).toNat)
      (fun u j _ hj => laneBer_publishLane_ne n rates seen u hj) (fun u => laneBer_publishLane_same n rates seen u l)
      List.nodup_range hmem s,
    foldl_read_of_mem (rd := fun u => getF u F.TWY_LANEERR.COUNT (9 * n + l))
      (φ := fun v => min (v + (seen.getD l {}).errs.toNat) (2 ^ F.TWY_LANEERR.COUNT.width - 1))
      (fun u j _ hj => count_publishLane_ne n rates seen u hj) (fun u => count_publishLane_same n rates seen u l)
      List.nodup_range hmem s⟩

/-- A link whose lane k has a checker. -/
def putChecker (k : Nat) (c : PrbsChk) (l : TwyLink) : TwyLink := { l with chks := mapIns l.chks k c }

/-- One lane's checker takes its bits, and its errors are counted. -/
def checkLane (taps : Nat × Nat) (s : State) (k : Nat) : State :=
  let c := mapGet (linkAt s n).chks k {}
  let c1 := prbsCheck taps c (seen.getD k {}).bits
  bumpBy F.TWY_LANEERR.COUNT (9 * n + k) (c1.errs - c.errs) (setLink n (putChecker k c1 (linkAt s n)) s)

/-- What a window reads and writes of a lane under TEST: its checker and its count of errors. -/
def laneCheck (s : State) (k : Nat) : PrbsChk × Nat := (mapGet (linkAt s n).chks k {}, getF s F.TWY_LANEERR.COUNT (9 * n + k))

theorem laneCheck_checkLane_same (taps : Nat × Nat) (k : Nat) : laneCheck n (checkLane n seen taps s k) k =
    (prbsCheck taps (laneCheck n s k).1 (seen.getD k {}).bits,
      min ((laneCheck n s k).2 + ((prbsCheck taps (laneCheck n s k).1 (seen.getD k {}).bits).errs - (laneCheck n s k).1.errs))
        (2 ^ F.TWY_LANEERR.COUNT.width - 1)) := by
  unfold laneCheck checkLane
  dsimp only
  rw [linkAt_congr (bumpBy_twy ..), linkAt_setLink_same, getF_bumpBy_same _ _ _ _ (by decide), getF, getReg_setLink, ← getF,
    putChecker, mapGet_mapIns_same]

theorem laneCheck_checkLane_ne (taps : Nat × Nat) {j k : Nat} (h : j ≠ k) :
    laneCheck n (checkLane n seen taps s j) k = laneCheck n s k := by
  unfold laneCheck checkLane
  dsimp only
  rw [linkAt_congr (bumpBy_twy ..), linkAt_setLink_same, bumpBy, getF_setF_of_index (nineTimes_ne h).symm, getF, getReg_setLink,
    ← getF, putChecker, mapGet_mapIns_ne _ _ _ h.symm]

theorem testWindow_eq {taps : Nat × Nat} (h : prbsTaps (getF s F.TWY_TEST.PRBS n) = some taps) :
    testWindow n seen s = (testLanes s n).foldl (checkLane n seen taps) s := by
  rw [testWindow, h]
  rfl

theorem nodup_testLanes : (testLanes s n).Nodup := List.nodup_range.filter _

theorem testWindow_fields {taps : Nat × Nat} (h : prbsTaps (getF s F.TWY_TEST.PRBS n) = some taps) {k : Nat}
    (hk : k ∈ testLanes s n) {c : PrbsChk} (hc : c = prbsCheck taps (mapGet (linkAt s n).chks k {}) (seen.getD k {}).bits) :
    mapGet (linkAt (testWindow n seen s) n).chks k {} = c ∧ getF (testWindow n seen s) F.TWY_LANEERR.COUNT (9 * n + k)
      = min (getF s F.TWY_LANEERR.COUNT (9 * n + k) + (c.errs - (mapGet (linkAt s n).chks k {}).errs))
          (2 ^ F.TWY_LANEERR.COUNT.width - 1) := by
  subst hc
  have hfold := foldl_read_of_mem (rd := fun u => laneCheck n u k)
    (φ := fun p => (prbsCheck taps p.1 (seen.getD k {}).bits,
      min (p.2 + ((prbsCheck taps p.1 (seen.getD k {}).bits).errs - p.1.errs)) (2 ^ F.TWY_LANEERR.COUNT.width - 1)))
    (fun u j _ hj => laneCheck_checkLane_ne n seen u taps hj) (fun u => laneCheck_checkLane_same n seen u taps k)
    (nodup_testLanes n s) hk s
  rw [testWindow_eq n seen s h]
  exact Prod.mk.inj hfold

end

/-- The errors of a second end, and where they exceed ILIM the worst lane becomes weak. -/
theorem errorWindow_weak {n k : Nat} {ks : List Nat} {s : State} (h : getF s F.TWY_CTL.ILIM < (linkAt s n).errWin)
    (hk : (byBer s n (lanesIn s n 0)).reverse = k :: ks) :
    errorWindow n s = lanesNext n (laneWeak n k (setLink n { linkAt s n with errWin := 0, authWin := 0 } s)) := by
  have hber : byBer (setLink n { linkAt s n with errWin := 0, authWin := 0 } s) n
      (lanesIn (setLink n { linkAt s n with errWin := 0, authWin := 0 } s) n 0) = byBer s n (lanesIn s n 0) := rfl
  unfold errorWindow
  dsimp only
  rw [if_pos h, hber, hk]

theorem errorWindow_calm {n : Nat} {s : State} (h : (linkAt s n).errWin ≤ getF s F.TWY_CTL.ILIM) :
    errorWindow n s = setLink n { linkAt s n with errWin := 0, authWin := 0 } s := if_neg (Nat.not_lt.2 h)

/-! #### A checker finds no error in its pattern (R592) -/

/-- Two registers hold the same last m bits. -/
def SameBits (m : Nat) (a b : BitVec 31) : Prop := ∀ i, i < m → a.getLsbD i = b.getLsbD i

/-- The last m bits are not all zero. -/
def SomeBit (m : Nat) (r : BitVec 31) : Prop := ∃ i, i < m ∧ r.getLsbD i = true

theorem someBit_iff (m : Nat) (r : BitVec 31) : SomeBit m r ↔ r.toNat % 2 ^ m ≠ 0 := by
  constructor
  · rintro ⟨i, hi, hr⟩ h0
    have hbit := Nat.testBit_mod_two_pow r.toNat m i
    rw [h0, Nat.zero_testBit] at hbit
    simp [hi] at hbit
    exact Bool.noConfusion ((hbit.symm.trans hr : false = true))
  · intro h0
    refine Classical.byContradiction fun hno => ?_
    refine h0 (Nat.eq_of_testBit_eq fun i => ?_)
    rw [Nat.testBit_mod_two_pow, Nat.zero_testBit]
    by_cases hi : i < m
    · have hf : r.getLsbD i = false := by
        refine Classical.byContradiction fun hr => ?_
        exact hno ⟨i, hi, by simpa using hr⟩
      simp only [hi, decide_true, Bool.true_and]
      exact hf
    · simp [hi]

theorem getLsbD_prbsShift (r : BitVec 31) (b : Bool) {i : Nat} (hi : i < 31) :
    (prbsShift r b).getLsbD i = if i = 0 then b else r.getLsbD (i - 1) := by
  rw [prbsShift, BitVec.getLsbD_or, BitVec.getLsbD_shiftLeft]
  rcases i with _ | i
  · cases b <;> simp
  · cases b <;> simp [hi]

theorem SameBits.shift {m : Nat} {a b : BitVec 31} (h : SameBits m a b) (x : Bool) :
    SameBits (m + 1) (prbsShift a x) (prbsShift b x) := fun i hi => by
  by_cases h31 : i < 31
  · rw [getLsbD_prbsShift _ _ h31, getLsbD_prbsShift _ _ h31]
    split
    · rfl
    · exact h (i - 1) (by omega)
  · rw [BitVec.getLsbD_of_ge _ _ (by omega), BitVec.getLsbD_of_ge _ _ (by omega)]

theorem prbsNext_congr {taps : Nat × Nat} (h1 : 0 < taps.2) (h2 : taps.2 < taps.1) {a b : BitVec 31} (h : SameBits taps.1 a b) :
    prbsNext taps a = prbsNext taps b := by
  rw [prbsNext, h _ (by omega), h _ (by omega), prbsNext]

/-- A pattern's state is never zero: its step is invertible. -/
theorem SomeBit.next {taps : Nat × Nat} (h1 : 0 < taps.2) (h2 : taps.2 < taps.1) (h31 : taps.1 ≤ 31) {r : BitVec 31}
    (h : SomeBit taps.1 r) : SomeBit taps.1 (prbsShift r (prbsNext taps r)) := by
  obtain ⟨i, hi, hr⟩ := h
  by_cases hlast : i + 1 < taps.1
  · exact ⟨i + 1, hlast, by rw [getLsbD_prbsShift _ _ (by omega), if_neg (by omega)]; exact hr⟩
  · obtain rfl : i = taps.1 - 1 := by omega
    cases htap : r.getLsbD (taps.2 - 1)
    case true => exact ⟨taps.2, h2, by rw [getLsbD_prbsShift _ _ (by omega), if_neg (by omega), htap]⟩
    case false => exact ⟨0, by omega, by rw [getLsbD_prbsShift _ _ (by omega), if_pos rfl, prbsNext, hr, htap]; rfl⟩

/-- A checker that has followed a generator: the bits that it has taken in are the generator's last ones. -/
structure Follows (taps : Nat × Nat) (c : PrbsChk) (r : BitVec 31) : Prop where
  errs : c.errs = 0
  seen : c.seen ≤ taps.1
  same : SameBits c.seen c.reg r
  some : SomeBit taps.1 r

theorem Follows.take {taps : Nat × Nat} (h1 : 0 < taps.2) (h2 : taps.2 < taps.1) (h31 : taps.1 ≤ 31) {c : PrbsChk} {r : BitVec 31}
    (h : Follows taps c r) : Follows taps (prbsTake taps c (prbsNext taps r)) (prbsShift r (prbsNext taps r)) := by
  have hsome := h.some.next h1 h2 h31
  have hshift := h.same.shift (prbsNext taps r)
  unfold prbsTake
  by_cases hload : c.seen < taps.1
  · have hzero : ¬(c.seen + 1 = taps.1 ∧ (prbsShift c.reg (prbsNext taps r)).toNat % 2 ^ taps.1 = 0) := fun ⟨hfull, h0⟩ => by
      obtain ⟨i, hi, hbit⟩ := hsome
      exact (someBit_iff ..).1 ⟨i, hi, (hshift i (by omega)).trans hbit⟩ h0
    rw [if_pos hload]
    dsimp only
    rw [if_neg hzero]
    exact ⟨h.errs, hload, hshift, hsome⟩
  · have hfull : c.seen = taps.1 := Nat.le_antisymm h.seen (Nat.not_lt.1 hload)
    have hnext : prbsNext taps c.reg = prbsNext taps r := prbsNext_congr h1 h2 (hfull ▸ h.same)
    rw [if_neg hload, hnext]
    exact ⟨by simp [h.errs], h.seen, fun i (hi : i < c.seen) => hshift i (by omega), hsome⟩

theorem Follows.check {taps : Nat × Nat} (h1 : 0 < taps.2) (h2 : taps.2 < taps.1) (h31 : taps.1 ≤ 31) (m : Nat) {c : PrbsChk}
    {r : BitVec 31} (h : Follows taps c r) : (prbsCheck taps c (prbsRun taps m r).1).errs = 0 := by
  induction m generalizing c r with
  | zero => exact h.errs
  | succ m ih => exact ih (h.take h1 h2 h31)

theorem prbsCheck_prbsRun {kind : Nat} {taps : Nat × Nat} {r : BitVec 31} (h : prbsTaps kind = some taps)
    (hr : r.toNat % 2 ^ taps.1 ≠ 0) (m : Nat) : (prbsCheck taps {} (prbsRun taps m r).1).errs = 0 := by
  have htaps : 0 < taps.2 ∧ taps.2 < taps.1 ∧ taps.1 ≤ 31 := by
    unfold prbsTaps at h
    split at h <;> cases h <;> decide
  obtain ⟨h1, h2, h31⟩ := htaps
  exact Follows.check h1 h2 h31 m ⟨rfl, Nat.zero_le _, fun i hi => absurd hi (Nat.not_lt_zero i), (someBit_iff ..).2 hr⟩

/-! #### The obligation -/

/-- Settles O42: what each row leaves of the link's lanes, its pause and its counters, from the rules of lanes and states. -/
theorem linksPauseAndSwapLanes : Obligations.LinksPauseAndSwapLanes := by
  unfold Obligations.LinksPauseAndSwapLanes
  refine ⟨fun n s hc h4 => ⟨fun hbar => ?_, ?_⟩, fun n s hc h5 => ⟨?_, fun p hp hkind htx ha ht hw hr => ?_⟩,
    fun n want s hw => ?_, fun n s hc hbar h4 ha ht hw => ⟨fun k ks hd => ?_, fun hd => ?_⟩,
    fun n w k s hc h4 ht hw hk => ⟨fun ha hfull => ?_, fun ha => ?_, fun ha hweak j js hr hjk hj hjs => ?_⟩,
    fun n w k i s hc h4 ha hs ht hweak hr hw hk hwk hi hm hfirst => ?_,
    fun n s hc h4 down hdown => ⟨fun htr => ?_, fun htr hd => ?_, fun htr hd => ?_⟩,
    fun n load s hc h4 => ⟨fun h => ?_, fun h => ?_, fun v h hcl hmin hv => ?_⟩,
    fun n rates seen s hc h4 => ⟨?_, fun l hl => publishLanes_fields n rates seen s hl⟩,
    fun n rates seen s hc h6 => ⟨fun hnone => ?_, fun taps htaps => ?_⟩,
    fun kind taps r m h hr => prbsCheck_prbsRun h hr m,
    fun n s hc h4 => ⟨fun h => ?_, fun k ks h hk => ?_⟩⟩
  · exact ⟨_, next_onlyIf (by rw [hbar, hc]; rfl) (pauseBegin n .retrain 0) s, pauseBegin_fields (by omega) h4 .retrain 0⟩
  · obtain ⟨hst, -, hl, -, hr⟩ := pauseBegin_fields (n := n) (by omega) h4 .loss 0
    exact ⟨_, next_onlyIf hc (pauseBegin n .loss 0) s, hst, hl, hr⟩
  · exact next_onlyIf (by simp [hc, h5]) (linkDown n false) s
  · exact completes_link hc h5 rfl (pauseDone_fields (by omega) hp hkind htx ha ht hw hr)
  · obtain ⟨hrate, htrial⟩ := pauseEffect_rate n hw s
    exact ⟨hrate, htrial, rfl, rfl⟩
  · exact ⟨_, next_onlyIf (by rw [hbar, hc]; rfl) (twyRestore n) s, twyRestore_fields h4 ha ht hw hd⟩
  · refine (next_onlyIf (by rw [hbar, hc]; rfl) (twyRestore n) s).trans (congrArg Host.Outcome.next ?_)
    rw [twyRestore_eq h4, hd, if_pos (by simp [ha, ht])]
  · exact completes_link hc h4 rfl (trainDone_swap ht ha hfull)
  · exact (next_onlyIf (by simp [hc, h4]) (trainDone n false) s).trans (congrArg Host.Outcome.next (trainDone_failed ht ha))
  · exact completes_link hc h4 rfl (trainDone_restored h4 ht hk ha hweak hr hjk hj hjs)
  · exact completes_link hc h4 rfl (swapDone_fields h4 ha hs ht hweak hr hw hk hwk hi hm hfirst)
  · exact (next_onlyIf (by simp [hc, h4]) (trialEnd n) s).trans (congrArg Host.Outcome.next (if_pos (by simp [htr])))
  · exact (next_onlyIf (by simp [hc, h4]) (trialEnd n) s).trans
      (congrArg Host.Outcome.next (trialEnd_kept htr (hdown.symm.trans hd)))
  · refine completes_link hc h4 rfl ?_
    rw [trialEnd_down htr (hdown.symm.trans hd)]
    have hl := linkAt_setLink_same n { linkAt s n with trial := false } s
    obtain ⟨hst, -, hlink, -⟩ := pauseBegin_fields (n := n) (s := setLink n { linkAt s n with trial := false } s) (by omega)
      (by rw [linkState_setLink, h4]) .rate (getF s F.TWY_STATUS.RATE n - 1)
    rw [hl] at hlink
    exact ⟨hst, by rw [hlink], by rw [hlink], by rw [hlink]⟩
  · exact (next_onlyIf (by simp [hc, h4]) (widthWindow n false load.toNat) s).trans
      (congrArg Host.Outcome.next (widthWindow_kept h))
  · exact (next_onlyIf (by simp [hc, h4]) (widthWindow n true load.toNat) s).trans
      (congrArg Host.Outcome.next (widthWindow_loaded h))
  · refine completes_link hc h4 rfl ?_
    rw [widthWindow_narrow h hcl hmin hv]
    obtain ⟨hst, -, hlink, -⟩ := pauseBegin_fields (n := n) (by omega) h4 .narrow v
    exact ⟨hst, by rw [hlink], by rw [hlink]⟩
  · exact (next_onlyIf hc _ s).trans (congrArg Host.Outcome.next (if_pos h4))
  · refine (next_onlyIf hc _ s).trans (congrArg Host.Outcome.next ?_)
    rw [if_neg (by rw [h6]; decide), if_pos h6, testWindow, hnone]
  · refine ⟨testWindow n seen s, (next_onlyIf hc _ s).trans (congrArg Host.Outcome.next ?_), fun k hk c hc' => ?_⟩
    · rw [if_neg (by rw [h6]; decide), if_pos h6]
    · exact testWindow_fields n seen s htaps hk hc'
  · exact (next_onlyIf (by simp [hc, h4]) (errorWindow n) s).trans (congrArg Host.Outcome.next (errorWindow_calm h))
  · exact (next_onlyIf (by simp [hc, h4]) (errorWindow n) s).trans (congrArg Host.Outcome.next (errorWindow_weak h hk))

end Sys2Proof.Machine

end


/-! ### Shoreline ports: their states and negotiation (R513, R530-R535, R546, R556, R557) -/
section

namespace Sys2Proof.Machine

/-! #### Ports -/
section
variable (p : Nat) (x : ShlPort) (s : State)

theorem portAt_setPort_same : portAt (setPort p x s) p = x := mapGet_mapSet_same s.shl.ports p {} x

theorem portAt_setPort_ne {q : Nat} (h : q ≠ p) : portAt (setPort p x s) q = portAt s q := mapGet_mapSet_ne s.shl.ports {} x {} h

theorem portAt_congr {s t : State} (h : t.shl = s.shl) (q : Nat) : portAt t q = portAt s q := by rw [portAt, h, portAt]

theorem getReg_setPort (r : Reg) (i : Nat) : getReg (setPort p x s) r i = getReg s r i := rfl

theorem getF_setPort (f : Fld) (i : Nat) : getF (setPort p x s) f i = getF s f i := rfl

theorem portState_congr {s t : State} (h : getReg t .SHL_PSTAT p = getReg s .SHL_PSTAT p) : portState t p = portState s p := by
  rw [portState, getF, show F.SHL_PSTAT.STATE.reg = .SHL_PSTAT from rfl, h]
  rfl

/-- A port's state is written. -/
theorem portState_setF_same {v : Nat} (hv : v < 8) : portState (setF F.SHL_PSTAT.STATE p v s) p = v :=
  getF_setF_of_lt (f := F.SHL_PSTAT.STATE) (by decide) hv p s

theorem regsBut_setPortState (v : Nat) : RegsBut [(.SHL_PSTAT, p)] s (setF F.SHL_PSTAT.STATE p v s) :=
  RegsBut.setF (f := F.SHL_PSTAT.STATE) (List.mem_cons_self ..) v s

theorem regsBut_setEn (v : Nat) : RegsBut [(.SHL_PCTL, p)] s (setF F.SHL_PCTL.EN p v s) :=
  RegsBut.setF (f := F.SHL_PCTL.EN) (List.mem_cons_self ..) v s

end

/-! #### EN (R556) -/

/-- What enabling a port leaves of EN. -/
theorem setEn_one_fields (p : Nat) (s : State) : flag (setF F.SHL_PCTL.EN p 1 s) F.SHL_PCTL.EN p = true ∧
    portState (setF F.SHL_PCTL.EN p 1 s) p = portState s p ∧ (setF F.SHL_PCTL.EN p 1 s).shl = s.shl :=
  ⟨flag_setF_one rfl rfl p s, portState_congr p (regsBut_setEn p s 1 _ _ (by simp)), setF_shl ..⟩

theorem flag_setEn_zero (p : Nat) (s : State) : flag (setF F.SHL_PCTL.EN p 0 s) F.SHL_PCTL.EN p = false := by
  rw [flag, getF_setF_of_lt (by decide) (by decide)]
  rfl

theorem shlStart_fields (p : Nat) (s : State) : portState (shlStart p s) p = 1 ∧ portAt (shlStart p s) p = (portAt s p).dropped ∧
    (∀ q, q ≠ p → portAt (shlStart p s) q = portAt s q) ∧ RegsBut [(.SHL_PSTAT, p)] s (shlStart p s) := by
  rw [shlStart]
  have hst := portState_setF_same p s (v := 1) (by decide)
  have hr := regsBut_setPortState p s 1
  have hshl : (setF F.SHL_PSTAT.STATE p 1 s).shl = s.shl := setF_shl ..
  generalize setF F.SHL_PSTAT.STATE p 1 s = u at *
  exact ⟨hst, portAt_setPort_same .., fun q hq => (portAt_setPort_ne _ _ _ hq).trans (portAt_congr hshl q),
    hr.trans (.of_regs_eq rfl)⟩

theorem shlEnable_started {p : Nat} {s : State} (hen : flag s F.SHL_PCTL.EN p = false) (h0 : portState s p = 0)
    (hc : clocksRun s = true) : shlEnable p s = shlStart p (setF F.SHL_PCTL.EN p 1 s) := if_pos (by simp [hen, h0, hc])

theorem shlEnable_on {p : Nat} {s : State} (hen : flag s F.SHL_PCTL.EN p = true) : shlEnable p s = setF F.SHL_PCTL.EN p 1 s :=
  if_neg (by simp [hen])

theorem shlEnable_fields {p : Nat} {s : State} (hen : flag s F.SHL_PCTL.EN p = false) (h0 : portState s p = 0)
    (hc : clocksRun s = true) :
    flag (shlEnable p s) F.SHL_PCTL.EN p = true ∧ portState (shlEnable p s) p = 1 ∧
    portAt (shlEnable p s) p = (portAt s p).dropped ∧ (∀ q, q ≠ p → portAt (shlEnable p s) q = portAt s q) ∧
    RegsBut [(.SHL_PCTL, p), (.SHL_PSTAT, p)] s (shlEnable p s) := by
  rw [shlEnable_started hen h0 hc]
  obtain ⟨hflag, -, hshl⟩ := setEn_one_fields p s
  have hset := regsBut_setEn p s 1
  generalize setF F.SHL_PCTL.EN p 1 s = u at *
  obtain ⟨hst, hp, hq, hr⟩ := shlStart_fields p u
  refine ⟨?_, hst, by rw [hp, portAt_congr hshl], fun q h => by rw [hq q h, portAt_congr hshl],
    (hset.mono (by simp)).trans (hr.mono (by simp))⟩
  rw [flag_congr (hr.getF .SHL_PCTL p (by simp)), hflag]

/-- EN at 0 takes a FAILED port to DOWN. -/
theorem shlDisable_failed {p : Nat} {s : State} (h5 : portState s p = 5) :
    flag (shlDisable p s) F.SHL_PCTL.EN p = false ∧ portState (shlDisable p s) p = 0 ∧
    portAt (shlDisable p s) p = (portAt s p).dropped ∧ RegsBut [(.SHL_PCTL, p), (.SHL_PSTAT, p)] s (shlDisable p s) := by
  have heq : shlDisable p s = setPort p (portAt (setF F.SHL_PCTL.EN p 0 s) p).dropped
      (setF F.SHL_PSTAT.STATE p 0 (setF F.SHL_PCTL.EN p 0 s)) := if_pos h5
  rw [heq]
  have hflag := flag_setEn_zero p s
  have hset := regsBut_setEn p s 0
  have hshl : (setF F.SHL_PCTL.EN p 0 s).shl = s.shl := setF_shl ..
  generalize setF F.SHL_PCTL.EN p 0 s = u at *
  have hr := regsBut_setPortState p u 0
  have hst := portState_setF_same p u (v := 0) (by decide)
  generalize setF F.SHL_PSTAT.STATE p 0 u = v at *
  refine ⟨?_, hst, by rw [portAt_setPort_same, portAt_congr hshl], ?_⟩
  · rw [flag, getF_setPort, ← flag, flag_congr (hr.getF .SHL_PCTL p (by simp)), hflag]
  · exact ((hset.mono (by simp)).trans (hr.mono (by simp))).trans (.of_regs_eq rfl)

theorem shlDisable_kept {p : Nat} {s : State} (h5 : portState s p ≠ 5) :
    flag (shlDisable p s) F.SHL_PCTL.EN p = false ∧ portState (shlDisable p s) p = portState s p ∧
    (shlDisable p s).shl = s.shl ∧ RegsBut [(.SHL_PCTL, p)] s (shlDisable p s) := by
  have heq : shlDisable p s = setF F.SHL_PCTL.EN p 0 s := if_neg h5
  rw [heq]
  exact ⟨flag_setEn_zero p s, portState_congr p (regsBut_setEn p s 0 _ _ (by simp)), setF_shl .., regsBut_setEn p s 0⟩

/-! #### Training and failure (R534, R556, R557) -/

theorem shlUp_fields {p rate mods : Nat} (hm : mods ≠ 0) (s : State) :
    portState (shlUp p rate mods s) p = 2 ∧ portAt (shlUp p rate mods s) p = { portAt s p with train := (mods, rate) } ∧
    (shlUp p rate mods s).out = s.out ++ [.shlCap p (ownCap (portAt s p).fresh)] ∧
    RegsBut [(.SHL_PSTAT, p)] s (shlUp p rate mods s) := by
  unfold shlUp
  rw [if_neg hm]
  dsimp only
  have hst := portState_setF_same p s (v := 2) (by decide)
  have hr := regsBut_setPortState p s 2
  have hout : (setF F.SHL_PSTAT.STATE p 2 s).out = s.out := setF_out ..
  generalize setF F.SHL_PSTAT.STATE p 2 s = u at *
  refine ⟨hst, mapGet_mapSet_same u.shl.ports p {} _, ?_, hr.trans (.of_regs_eq rfl)⟩
  rw [← hout]
  rfl

/-- A port enters a state with an event. -/
theorem portState_post_fields (p : Nat) {v : Nat} (hv : v < 8) (e : EvArgs) (s : State) :
    let t := post e (setF F.SHL_PSTAT.STATE p v s)
    portState t p = v ∧ t.shl = s.shl ∧ RegsButAll (.SHL_PSTAT :: eventRegs) s t := by
  have hst := portState_setF_same p s hv
  have hr := regsBut_setPortState p s v
  have hshl : (setF F.SHL_PSTAT.STATE p v s).shl = s.shl := setF_shl ..
  generalize setF F.SHL_PSTAT.STATE p v s = u at *
  have he : RegsButAll eventRegs u (post e u) := .post e u
  exact ⟨(portState_congr p (he _ _ (by decide))).trans hst, (post_shl e u).trans hshl,
    (hr.toAll (by simp)).trans (he.mono fun r hr => List.mem_cons_of_mem _ hr)⟩

/-- What a port that fails drops, where no queue holds a command. -/
theorem shlFail_fields {p : Nat} {s : State} (hq : s.tq.queues = []) :
    portState (shlFail p s) p = 5 ∧ portAt (shlFail p s) p =
      { portAt s p with open_ := [], txq := [], replay := [], rx := [], watches := [], fences := [] } ∧
    RegsButAll (.SHL_PSTAT :: eventRegs) s (shlFail p s) := by
  obtain ⟨hst, hshl, hr⟩ := portState_post_fields p (v := 5) (by decide) { code := Ev.SHL_DOWN, inst := p } s
  have htq : (post { code := Ev.SHL_DOWN, inst := p } (setF F.SHL_PSTAT.STATE p 5 s)).tq = s.tq := by rw [post_tq, setF_tq]
  unfold shlFail
  dsimp only
  generalize post { code := Ev.SHL_DOWN, inst := p } (setF F.SHL_PSTAT.STATE p 5 s) = u at *
  have hnone : ∀ x, (setPort p x u).tq.queues = [] := fun x => by rw [← hq, ← htq]; rfl
  rw [hnone, List.foldl_nil]
  exact ⟨hst, by rw [portAt_setPort_same, portAt_congr hshl], hr.trans (.of_regs_eq rfl)⟩

theorem shlFlush_of_empty {p : Nat} {s : State} (h : (portAt s p).txq = []) : shlFlush p s = s := by
  have hfill : (shlFill 3 (portAt s p) []).1 = [] := by simp [shlFill, h]
  unfold shlFlush shlPump
  dsimp only
  rw [hfill, if_pos rfl, ite_self]

theorem shlFlush_out {p : Nat} {s : State} (l : List Out) (h : (portAt s p).txq = []) :
    shlFlush p { s with out := l } = { s with out := l } := shlFlush_of_empty h

/-! #### A retrain ends (R531-R533) -/

theorem widest_le {mask w : Nat} (h : widest mask = some w) : w ≤ 2 := by
  unfold widest at h
  split at h
  · cases h
    decide
  · split at h
    · cases h
      decide
    · split at h
      · cases h
        decide
      · cases h

theorem widest_iff : ∀ mask, mask < 16 → (widest mask = none ↔ mask = 0) ∧ (widest mask = some 2 ↔ mask = 15) := by decide

/-- A port that is ACTIVE again at the rate and modules that trained. -/
def shlActive (p rate m : Nat) (s : State) : State :=
  setF F.SHL_PSTAT.STATE p 3 (setF F.SHL_PSTAT.RATE p rate (setF F.SHL_PSTAT.MODS p m s))

theorem shlActive_fields {p rate m : Nat} (hr : rate < 8) (hm : m < 4) (s : State) :
    portState (shlActive p rate m s) p = 3 ∧ getF (shlActive p rate m s) F.SHL_PSTAT.RATE p = rate ∧
    getF (shlActive p rate m s) F.SHL_PSTAT.MODS p = m ∧ (shlActive p rate m s).shl = s.shl ∧
    (shlActive p rate m s).out = s.out := by
  rw [shlActive]
  refine ⟨portState_setF_same _ _ (by decide), ?_, ?_, ?_, ?_⟩
  · rw [getF_setF_of_bits (by decide) (by decide), getF_setF_of_lt (by decide) hr]
  · rw [getF_setF_of_bits (by decide) (by decide), getF_setF_of_bits (by decide) (by decide), getF_setF_of_lt (by decide) hm]
  · rw [setF_shl, setF_shl, setF_shl]
  · rw [setF_out, setF_out, setF_out]

/-- The port after a retrain, SHL_NARROW where it lost rate or modules. -/
def shlResumed (p rate w : Nat) (s : State) : State :=
  if min (getF s F.SHL_PSTAT.MODS p) w < getF s F.SHL_PSTAT.MODS p ∨ rate < getF s F.SHL_PSTAT.RATE p then
    post { code := Ev.SHL_NARROW, inst := p } (shlActive p rate (min (getF s F.SHL_PSTAT.MODS p) w) s)
  else shlActive p rate (min (getF s F.SHL_PSTAT.MODS p) w) s

theorem shlResumed_fields {p rate w : Nat} (hr : rate < 8) (hw : w ≤ 2) (s : State) :
    portState (shlResumed p rate w s) p = 3 ∧ getF (shlResumed p rate w s) F.SHL_PSTAT.RATE p = rate ∧
    getF (shlResumed p rate w s) F.SHL_PSTAT.MODS p = min (getF s F.SHL_PSTAT.MODS p) w ∧
    portAt (shlResumed p rate w s) p = portAt s p ∧
    (rate = getF s F.SHL_PSTAT.RATE p → getF s F.SHL_PSTAT.MODS p ≤ w → (shlResumed p rate w s).out = s.out) := by
  obtain ⟨h3, hrate, hmods, hshl, hout⟩ := shlActive_fields (p := p) hr (m := min (getF s F.SHL_PSTAT.MODS p) w) (by omega) s
  unfold shlResumed
  split
  · rename_i hless
    refine ⟨?_, ?_, ?_, ?_, fun he hle => by omega⟩
    · rw [portState, getF_post _ _ _ _ rfl]
      exact h3
    · rw [getF_post _ _ _ _ rfl, hrate]
    · rw [getF_post _ _ _ _ rfl, hmods]
    · exact portAt_congr ((post_shl ..).trans hshl) p
  · exact ⟨h3, hrate, hmods, portAt_congr hshl p, fun _ _ => hout⟩

theorem shlRetrained_none {p rate mask : Nat} (h : widest mask = none) (s : State) : shlRetrained p rate mask s = s := by
  unfold shlRetrained
  dsimp only
  rw [h]

theorem shlRetrained_some {p rate mask w : Nat} {s : State} (h : widest mask = some w) (hr : rate ≤ getF s F.SHL_PSTAT.RATE p) :
    shlRetrained p rate mask s =
      let u := shlResumed p rate w s
      let v := setPort p { portAt u p with resends := 0, replaysMs := 0, nakSent := false } u
      shlFlush p { v with out := v.out ++ (portAt u p).replay.map (fun (f : Nat × BitVec 2048) => Out.shlFrame p f.2) } := by
  unfold shlRetrained
  dsimp only
  rw [h]
  dsimp only
  rw [if_neg (Nat.not_lt.2 hr)]
  rfl

theorem shlRetrained_fields {p rate mask w : Nat} {s : State} (h : widest mask = some w) (hr8 : rate < 8) (htx : (portAt s p).txq = [])
    (hr : rate ≤ getF s F.SHL_PSTAT.RATE p) :
    let t := shlRetrained p rate mask s
    portState t p = 3 ∧ getF t F.SHL_PSTAT.RATE p = rate ∧ getF t F.SHL_PSTAT.MODS p = min (getF s F.SHL_PSTAT.MODS p) w ∧
    portAt t p = { portAt s p with resends := 0, replaysMs := 0, nakSent := false } ∧
    (rate = getF s F.SHL_PSTAT.RATE p → getF s F.SHL_PSTAT.MODS p ≤ w →
      t.out = s.out ++ (portAt s p).replay.map (fun f => Out.shlFrame p f.2)) := by
  obtain ⟨h3, hrate, hmods, hport, hout⟩ := shlResumed_fields (p := p) hr8 (widest_le h) s
  rw [shlRetrained_some h hr]
  dsimp only
  generalize shlResumed p rate w s = u at *
  rw [hport]
  generalize hx : ({ portAt s p with resends := 0, replaysMs := 0, nakSent := false } : ShlPort) = x
  have hpx := portAt_setPort_same p x u
  have hxtx : x.txq = [] := by rw [← hx]; exact htx
  rw [shlFlush_out _ ((congrArg ShlPort.txq hpx).trans hxtx)]
  exact ⟨h3, hrate, hmods, hpx, fun he hle => by rw [← hout he hle]; rfl⟩

/-! #### Negotiation (R535, R546) -/

/-- The received block is kept, and its version shown. -/
def capKept (p : Nat) (blk : BitVec 256) (s : State) : State :=
  setF F.SHL_PSTAT.VER_MAJOR p (byteField blk 4 1) (setF F.SHL_PSTAT.VER_MINOR p (byteField blk 5 1)
    ((List.range 8).foldl (fun u j => setReg .SHL_CAP (8 * p + j) (blk.extractLsb' (32 * j) 32) u) s))

theorem capWords_frame (p : Nat) (blk : BitVec 256) (l : List Nat) (s : State) :
    OnlyRegs s (l.foldl (fun u j => setReg .SHL_CAP (8 * p + j) (blk.extractLsb' (32 * j) 32) u) s) ∧
    RegsButAll [.SHL_CAP] s (l.foldl (fun u j => setReg .SHL_CAP (8 * p + j) (blk.extractLsb' (32 * j) 32) u) s) := by
  induction l generalizing s with
  | nil => exact ⟨.refl s, .refl _ s⟩
  | cons j l ih =>
    obtain ⟨ho, hr⟩ := ih (setReg .SHL_CAP (8 * p + j) (blk.extractLsb' (32 * j) 32) s)
    exact ⟨(OnlyRegs.setReg ..).trans ho, (RegsButAll.setReg (List.mem_cons_self ..) _ _ s).trans hr⟩

theorem capKept_fields (p : Nat) (blk : BitVec 256) (s : State) :
    (∀ j, j < 8 → getReg (capKept p blk s) .SHL_CAP (8 * p + j) = blk.extractLsb' (32 * j) 32) ∧
    (capKept p blk s).shl = s.shl ∧ RegsButAll [.SHL_CAP, .SHL_PSTAT] s (capKept p blk s) := by
  rw [capKept]
  obtain ⟨ho, hr⟩ := capWords_frame p blk (List.range 8) s
  have hword : ∀ j, j < 8 → getReg ((List.range 8).foldl (fun u j => setReg .SHL_CAP (8 * p + j) (blk.extractLsb' (32 * j) 32) u) s)
      .SHL_CAP (8 * p + j) = blk.extractLsb' (32 * j) 32 := fun j hj =>
    foldl_read_of_mem (rd := fun u => getReg u .SHL_CAP (8 * p + j)) (φ := fun _ => blk.extractLsb' (32 * j) 32)
      (fun u k _ hk => by rw [getReg_setReg, if_neg (by omega)]) (fun u => by rw [getReg_setReg, if_pos ⟨rfl, rfl⟩])
      List.nodup_range (List.mem_range.2 hj) s
  have hshl : ((List.range 8).foldl (fun u j => setReg .SHL_CAP (8 * p + j) (blk.extractLsb' (32 * j) 32) u) s).shl = s.shl := by
    rw [ho]
  generalize (List.range 8).foldl (fun u j => setReg .SHL_CAP (8 * p + j) (blk.extractLsb' (32 * j) 32) u) s = u at *
  have hs : ∀ (f : Fld) v (t : State), f.reg = .SHL_PSTAT → RegsButAll [.SHL_PSTAT] t (setF f p v t) := fun f v t hf =>
    .setF (by simp [hf]) p v t
  refine ⟨fun j hj => ?_, by rw [setF_shl, setF_shl, hshl], ?_⟩
  · rw [hs _ _ _ rfl _ _ (by decide), hs _ _ _ rfl _ _ (by decide), hword j hj]
  · exact ((hr.mono (by simp)).trans ((hs _ _ _ rfl).mono (by simp))).trans ((hs _ _ _ rfl).mono (by simp))

/-- The features and the rate that both sides offer. -/
def capShown (p m rate : Nat) (blk : BitVec 256) (s : State) : State :=
  setF F.SHL_PSTAT.URGENT p (byteField blk 8 1 % 2) (setF F.SHL_PSTAT.TALLY p (byteField blk 8 1 / 2 % 2)
    (setF F.SHL_PSTAT.TELEM p (byteField blk 8 1 / 4 % 2) (setF F.SHL_PSTAT.MODS p m (setF F.SHL_PSTAT.RATE p rate s))))

theorem capShown_fields {p m rate : Nat} (hm : m < 4) (hr : rate < 8) (blk : BitVec 256) (s : State) :
    let t := capShown p m rate blk s
    getF t F.SHL_PSTAT.MODS p = m ∧ getF t F.SHL_PSTAT.RATE p = rate ∧ getF t F.SHL_PSTAT.URGENT p = byteField blk 8 1 % 2 ∧
    getF t F.SHL_PSTAT.TALLY p = byteField blk 8 1 / 2 % 2 ∧ getF t F.SHL_PSTAT.TELEM p = byteField blk 8 1 / 4 % 2 ∧
    t.shl = s.shl ∧ RegsButAll [.SHL_PSTAT] s t := by
  have h2 : ∀ k : Nat, k % 2 < 2 ^ 1 := fun k => Nat.mod_lt k (by decide)
  have hs : ∀ (f : Fld) v (t : State), f.reg = .SHL_PSTAT → RegsButAll [.SHL_PSTAT] t (setF f p v t) := fun f v t hf =>
    .setF (by simp [hf]) p v t
  dsimp only
  rw [capShown]
  refine ⟨?_, ?_, ?_, ?_, ?_, ?_, ?_⟩
  · rw [getF_setF_of_bits (by decide) (by decide), getF_setF_of_bits (by decide) (by decide),
      getF_setF_of_bits (by decide) (by decide), getF_setF_of_lt (by decide) hm]
  · rw [getF_setF_of_bits (by decide) (by decide), getF_setF_of_bits (by decide) (by decide),
      getF_setF_of_bits (by decide) (by decide), getF_setF_of_bits (by decide) (by decide), getF_setF_of_lt (by decide) hr]
  · exact getF_setF_of_lt (f := F.SHL_PSTAT.URGENT) (by decide) (h2 _) p _
  · rw [getF_setF_of_bits (by decide) (by decide), getF_setF_of_lt (by decide) (h2 _)]
  · rw [getF_setF_of_bits (by decide) (by decide), getF_setF_of_bits (by decide) (by decide), getF_setF_of_lt (by decide) (h2 _)]
  · rw [setF_shl, setF_shl, setF_shl, setF_shl, setF_shl]
  · refine RegsButAll.trans ?_ (hs _ _ _ rfl)
    refine RegsButAll.trans ?_ (hs _ _ _ rfl)
    refine RegsButAll.trans ?_ (hs _ _ _ rfl)
    exact (hs _ _ _ rfl).trans (hs _ _ _ rfl)

theorem capModules_le {s : State} {p theirs mask m : Nat} (h : capModules s p theirs mask = some m) : m ≤ 2 := by
  unfold capModules at h
  cases hw : widest mask <;> rw [hw] at h <;> dsimp only at h
  case none => cases h
  case some w =>
    have := List.mem_of_find?_eq_some h
    simp at this
    omega

theorem shlNegotiate_refused {p : Nat} {blk : BitVec 256} {s : State}
    (h : capModules s p (byteField blk 6 1) (portAt s p).train.1 = none ∨ byteField blk 4 1 ≠ 1 ∨ byteField blk 12 1 < 2 ∨
      byteField blk 13 1 < 4 ∨ byteField blk 14 2 < 48) : shlNegotiate p blk s = shlRefuse p (capKept p blk s) := by
  unfold shlNegotiate
  dsimp only
  cases hm : capModules s p (byteField blk 6 1) (portAt s p).train.1 <;> dsimp only
  case none => rfl
  case some m =>
    rw [hm] at h
    exact if_pos (h.resolve_left (by simp))

/-- What a port takes over of a negotiation that succeeds. -/
def portNegotiated (blk : BitVec 256) (x : ShlPort) : ShlPort :=
  { x.dropped with
    credit := [(0, byteField blk 12 1), (1, byteField blk 13 1), (3, byteField blk 14 2)]
    cseq := if (x.fresh || byteField blk 8 1 / 8 % 2 == 1) = true then 0 else x.cseq
    fresh := false }

theorem shlNegotiate_accepted {p m : Nat} {blk : BitVec 256} {s : State}
    (hm : capModules s p (byteField blk 6 1) (portAt s p).train.1 = some m)
    (hgood : ¬(byteField blk 4 1 ≠ 1 ∨ byteField blk 12 1 < 2 ∨ byteField blk 13 1 < 4 ∨ byteField blk 14 2 < 48)) :
    shlNegotiate p blk s = setF F.SHL_PSTAT.STATE p 3 (setPort p (portNegotiated blk (portAt s p))
      (capShown p m (min (min (byteField blk 7 1) 5) (min (getF s F.SHL_PCTL.MAXRATE p) (portAt s p).train.2)) blk
        (capKept p blk s))) := by
  unfold shlNegotiate
  dsimp only
  rw [hm]
  dsimp only
  rw [if_neg hgood]
  rfl

theorem shlNegotiate_refused_fields (p : Nat) (blk : BitVec 256) (s : State) :
    let t := shlRefuse p (capKept p blk s)
    portState t p = 5 ∧ t.shl = s.shl ∧ (∀ j, j < 8 → getReg t .SHL_CAP (8 * p + j) = blk.extractLsb' (32 * j) 32) ∧
      RegsButAll (.SHL_CAP :: .SHL_PSTAT :: eventRegs) s t := by
  obtain ⟨hword, hshl, hr⟩ := capKept_fields p blk s
  generalize capKept p blk s = u at *
  obtain ⟨h5, hshl', hr'⟩ := portState_post_fields p (v := 5) (by decide) { code := Ev.SHL_VERSION, inst := p } u
  rw [← shlRefuse] at h5 hshl' hr'
  exact ⟨h5, hshl'.trans hshl, fun j hj => (hr' _ _ (by decide)).trans (hword j hj),
    (hr.mono (by simp)).trans (hr'.mono fun r h => List.mem_cons_of_mem _ h)⟩

theorem shlNegotiate_accepted_fields {p m rate : Nat} (hm : m < 4) (hrate : rate < 8) (blk : BitVec 256) (x : ShlPort) (s : State) :
    let t := setF F.SHL_PSTAT.STATE p 3 (setPort p x (capShown p m rate blk (capKept p blk s)))
    portState t p = 3 ∧ getF t F.SHL_PSTAT.MODS p = m ∧ getF t F.SHL_PSTAT.RATE p = rate ∧
    getF t F.SHL_PSTAT.URGENT p = byteField blk 8 1 % 2 ∧ getF t F.SHL_PSTAT.TALLY p = byteField blk 8 1 / 2 % 2 ∧
    getF t F.SHL_PSTAT.TELEM p = byteField blk 8 1 / 4 % 2 ∧ portAt t p = x ∧
    (∀ j, j < 8 → getReg t .SHL_CAP (8 * p + j) = blk.extractLsb' (32 * j) 32) ∧ RegsButAll [.SHL_CAP, .SHL_PSTAT] s t := by
  obtain ⟨hword, hshl, hr⟩ := capKept_fields p blk s
  generalize capKept p blk s = u at *
  obtain ⟨hmods, hrt, hu, ht, hte, hshl', hr'⟩ := capShown_fields (p := p) hm hrate blk u
  generalize capShown p m rate blk u = v at *
  have hx := portAt_setPort_same p x v
  have hf := fun f => getF_setPort p x v f p
  have hreg : (setPort p x v).regs = v.regs := rfl
  generalize setPort p x v = w at *
  have hset := regsBut_setPortState p w 3
  refine ⟨portState_setF_same p w (by decide), ?_, ?_, ?_, ?_, ?_, ?_, fun j hj => ?_, ?_⟩
  · rw [getF_setF_of_bits (by decide) (by decide), hf, hmods]
  · rw [getF_setF_of_bits (by decide) (by decide), hf, hrt]
  · rw [getF_setF_of_bits (by decide) (by decide), hf, hu]
  · rw [getF_setF_of_bits (by decide) (by decide), hf, ht]
  · rw [getF_setF_of_bits (by decide) (by decide), hf, hte]
  · rw [portAt_congr (setF_shl ..), hx]
  · rw [hset _ _ (by simp), getReg_congr hreg, hr' _ _ (by decide), hword j hj]
  · refine RegsButAll.trans hr (RegsButAll.trans (hr'.mono (by simp)) ?_)
    exact RegsButAll.trans (.of_regs_eq hreg) (hset.toAll (by simp))

/-! #### The obligation -/

/-- A clause of a port's row whose guard is the clock and the port's state. -/
theorem completes_port {i : Instr} {f : State → State} {p v : Nat} {s : State} {q : State → Prop} (hc : clocksRun s = true)
    (hv : portState s p = v) (he : exec i s = .next (onlyIf (clocksRun s && portState s p == v) f s)) (h : q (f s)) :
    Completes i s q :=
  ⟨f s, he.trans (next_onlyIf (by simp [hc, hv]) f s), h⟩

/-- Settles O44: each row of a port's life by what it leaves of the port and of SHL_PSTAT. -/
theorem portsComeUp : Obligations.PortsComeUp := by
  unfold Obligations.PortsComeUp
  refine ⟨fun p s hbar => ⟨fun hen h0 hc => ?_, fun hen => ?_, fun h5 => ?_, fun h5 => ?_⟩,
    fun p rate mods s hc => ⟨fun h1 hm => ?_, fun h1 => ?_, fun h2 => ?_, fun h4 hw => ?_, fun w h4 hw htx hr => ?_,
      fun h3 hq => ?_, fun h4 hq => ?_⟩,
    fun p blk s hc h2 => ⟨fun hbad => ?_, fun m hm hver hc0 hc1 hc3 => ?_⟩, widest_iff⟩
  · exact ⟨_, next_onlyIf hbar (shlEnable p) s, shlEnable_fields hen h0 hc⟩
  · refine ⟨_, next_onlyIf hbar (shlEnable p) s, ?_⟩
    rw [shlEnable_on hen]
    exact setEn_one_fields p s
  · exact ⟨_, next_onlyIf hbar (shlDisable p) s, shlDisable_failed h5⟩
  · exact ⟨_, next_onlyIf hbar (shlDisable p) s, shlDisable_kept h5⟩
  · exact completes_port hc h1 rfl (shlUp_fields hm s)
  · exact completes_port hc h1 rfl (portState_post_fields p (by decide) { code := Ev.SHL_ABSENT, inst := p } s)
  · exact completes_port hc h2 rfl (portState_post_fields p (by decide) { code := Ev.SHL_VERSION, inst := p } s)
  · exact (next_onlyIf (by simp [hc, h4]) (shlRetrained p rate mods) s).trans
      (congrArg Host.Outcome.next (shlRetrained_none hw s))
  · exact completes_port hc h4 rfl (shlRetrained_fields hw (by omega) htx hr)
  · exact completes_port hc h3 rfl (shlFail_fields hq)
  · exact completes_port hc h4 rfl (shlFail_fields hq)
  · refine completes_port hc h2 rfl ?_
    rw [shlNegotiate_refused hbad]
    exact shlNegotiate_refused_fields p blk s
  · refine completes_port hc h2 rfl ?_
    rw [shlNegotiate_accepted hm (by omega)]
    obtain ⟨h3, hmods, hrate, hu, ht, hte, hx, hword, hr⟩ := shlNegotiate_accepted_fields (p := p) (m := m)
      (rate := min (min (byteField blk 7 1) 5) (min (getF s F.SHL_PCTL.MAXRATE p) (portAt s p).train.2))
      (Nat.lt_of_le_of_lt (capModules_le hm) (by decide)) (by omega) blk (portNegotiated blk (portAt s p)) s
    refine ⟨h3, hmods, hrate, hu, ht, hte, ?_, ?_, ?_, ?_, ?_, hword, hr⟩
    · rw [hx]; rfl
    · rw [hx]; rfl
    · rw [hx]; rfl
    · rw [hx]; rfl
    · rw [hx, portNegotiated]
      simp only [Bool.or_eq_true, beq_iff_eq]

end Sys2Proof.Machine

end


/-! ### Regulation as time passes (R661, R662, R664, R669, R670, R672-R676) -/
section

namespace Sys2Proof.Machine

/-! #### What waits at links and host port -/

theorem foldl_eq_self {α σ : Type} {g : σ → α → σ} {u : σ} (l : List α) (h : ∀ b ∈ l, g u b = u) : l.foldl g u = u := by
  induction l with
  | nil => rfl
  | cons b l ih =>
    rw [List.foldl_cons, h b (List.mem_cons_self ..)]
    exact ih fun c hc => h c (List.mem_cons_of_mem _ hc)

/-- With nothing waiting nothing is served. -/
theorem qosServe_of_empty {s : State} (hlinks : ∀ n, (linkAt s n).txq = []) (hhost : s.qos.host = []) : qosServe s = s := by
  have hflush : (List.range 24).foldl (fun u n => twyFlush n u) s = s :=
    foldl_eq_self _ fun n _ => twyFlush_of_empty (hlinks n)
  have hpump : ∀ fuel, hostPump (fuel + 1) s = s := fun fuel => by
    unfold hostPump
    rw [hhost]
  unfold qosServe
  dsimp only
  rw [hflush, hpump, ite_self]

/-! #### Token buckets (R661) -/

/-- Only the buckets differ. -/
def TokensOnly (s t : State) : Prop := ∃ m, t = { s with qos := { s.qos with tokens := m } }

theorem TokensOnly.refl (s : State) : TokensOnly s s := ⟨s.qos.tokens, rfl⟩

theorem TokensOnly.trans {s t u : State} (h : TokensOnly s t) (k : TokensOnly t u) : TokensOnly s u := by
  obtain ⟨m, rfl⟩ := h
  obtain ⟨m', rfl⟩ := k
  exact ⟨m', rfl⟩

theorem TokensOnly.foldl {α : Type} {g : State → α → State} (h : ∀ u a, TokensOnly u (g u a)) (l : List α) (s : State) :
    TokensOnly s (l.foldl g s) := by
  induction l generalizing s with
  | nil => exact .refl s
  | cons a l ih => exact (h s a).trans (ih (g s a))

/-- A bucket fills by one tick's gain up to its limit. -/
def fillBucket (r c g cap : Nat) (s : State) (j : Nat) : State :=
  { s with qos := { s.qos with tokens := mapSet s.qos.tokens (qosKey r j c) 0 (min cap (tokens s r j c + g)) } }

theorem tokens_fillBucket_same (r c g cap : Nat) (s : State) (j : Nat) :
    tokens (fillBucket r c g cap s j) r j c = min cap (tokens s r j c + g) := mapGet_mapSet_same s.qos.tokens (qosKey r j c) 0 _

theorem tokens_fillBucket_ne {r c j r' c' j' : Nat} (g cap : Nat) (s : State) (h : qosKey r j c ≠ qosKey r' j' c') :
    tokens (fillBucket r' c' g cap s j') r j c = tokens s r j c := mapGet_mapSet_ne s.qos.tokens 0 _ 0 h

theorem tokensOnly_fillBucket (r c g cap : Nat) (s : State) (j : Nat) : TokensOnly s (fillBucket r c g cap s j) := ⟨_, rfl⟩

/-- The buckets of a class at a resource's units fill, by the gain that holds in state `b`. -/
def fillClass (b : State) (r : Nat) (s : State) (c : Nat) : State :=
  if (bucketGain b r c).1 = 0 then s
  else (qosUnits r).foldl (fillBucket r c (bucketGain b r c).1 (bucketGain b r c).2) s

/-- The buckets of a resource fill. -/
def fillResource (b s : State) (r : Nat) : State := (List.range 16).foldl (fillClass b r) s

theorem tokenTick_eq (s : State) : tokenTick s = qosServe ((List.range 3).foldl (fillResource s) s) := rfl

/-- The level of a bucket after a tick: one without a rate keeps its level. -/
def bucketNext (b : State) (r c v : Nat) : Nat :=
  if (bucketGain b r c).1 = 0 then v else min (bucketGain b r c).2 (v + (bucketGain b r c).1)

theorem qosUnits_lt {r j : Nat} (h : j ∈ qosUnits r) : j < 24 := by
  have hle : [12, 24, 1].getD r 1 ≤ 24 := by
    rcases r with _ | _ | _ | r
    · decide
    · decide
    · decide
    · simp [List.getD]
  exact Nat.lt_of_lt_of_le (List.mem_range.1 h) hle

section
variable (b : State)

theorem tokensOnly_fillClass (r : Nat) (s : State) (c : Nat) : TokensOnly s (fillClass b r s c) := by
  unfold fillClass
  split
  · exact .refl s
  · exact .foldl (tokensOnly_fillBucket r c _ _) _ s

theorem tokensOnly_fillResource (s : State) (r : Nat) : TokensOnly s (fillResource b s r) :=
  .foldl (tokensOnly_fillClass b r) _ s

theorem tokens_fillClass_same {r j : Nat} (c : Nat) (hj : j ∈ qosUnits r) (s : State) :
    tokens (fillClass b r s c) r j c = bucketNext b r c (tokens s r j c) := by
  have hkey : ∀ k, k ≠ j → qosKey r j c ≠ qosKey r k c := fun k hk => by
    unfold qosKey
    omega
  unfold fillClass bucketNext
  split
  · rfl
  · exact foldl_read_of_mem (rd := fun u => tokens u r j c)
      (φ := fun v => min (bucketGain b r c).2 (v + (bucketGain b r c).1))
      (fun u k _ hk => tokens_fillBucket_ne _ _ u (hkey k hk)) (fun u => tokens_fillBucket_same r c _ _ u j)
      List.nodup_range hj s

theorem tokens_fillClass_ne {r j c r' c' : Nat} (hj : j < 24) (hc : c < 16) (hc' : c' < 16) (h : r ≠ r' ∨ c ≠ c') (s : State) :
    tokens (fillClass b r' s c') r j c = tokens s r j c := by
  have hkey : ∀ k ∈ qosUnits r', qosKey r j c ≠ qosKey r' k c' := fun k hk => by
    have := qosUnits_lt hk
    unfold qosKey
    omega
  unfold fillClass
  split
  · rfl
  · exact foldl_read_of_kept (rd := fun u => tokens u r j c) (fun u k hk => tokens_fillBucket_ne _ _ u (hkey k hk)) s

theorem tokens_fillResource_same {r j c : Nat} (hj : j ∈ qosUnits r) (hc : c < 16) (s : State) :
    tokens (fillResource b s r) r j c = bucketNext b r c (tokens s r j c) :=
  foldl_read_of_mem (rd := fun u => tokens u r j c)
    (fun u _ hc' hne => tokens_fillClass_ne b (qosUnits_lt hj) hc (List.mem_range.1 hc') (.inr hne.symm) u)
    (tokens_fillClass_same b c hj) List.nodup_range (List.mem_range.2 hc) s

theorem tokens_fillResource_ne {r j c r' : Nat} (hj : j < 24) (hc : c < 16) (h : r ≠ r') (s : State) :
    tokens (fillResource b s r') r j c = tokens s r j c :=
  foldl_read_of_kept (rd := fun u => tokens u r j c)
    (fun u _ hc' => tokens_fillClass_ne b hj hc (List.mem_range.1 hc') (.inl h) u) s

end

/-- A tick fills every bucket that has a rate, and changes nothing else where nothing waits. -/
theorem tokenTick_fields {s : State} (hlinks : ∀ n, (linkAt s n).txq = []) (hhost : s.qos.host = []) :
    TokensOnly s (tokenTick s) ∧ ∀ r j c, r < 3 → c < 16 → j ∈ qosUnits r →
      tokens (tokenTick s) r j c = bucketNext s r c (tokens s r j c) := by
  have honly : TokensOnly s ((List.range 3).foldl (fillResource s) s) := .foldl (tokensOnly_fillResource s) _ s
  have hserve : tokenTick s = (List.range 3).foldl (fillResource s) s := by
    rw [tokenTick_eq]
    obtain ⟨m, hm⟩ := honly
    rw [hm]
    exact qosServe_of_empty hlinks hhost
  rw [hserve]
  exact ⟨honly, fun r j c hr hc hj => foldl_read_of_mem (rd := fun u => tokens u r j c)
    (fun u _ _ hne => tokens_fillResource_ne s (qosUnits_lt hj) hc hne.symm u) (tokens_fillResource_same s hj hc)
    List.nodup_range (List.mem_range.2 hr) s⟩

theorem bucketGain_fst_eq_zero (s : State) (r c : Nat) : (bucketGain s r c).1 = 0 ↔ getF s F.QOS_TOKA.RATE (16 * r + c) = 0 := by
  unfold bucketGain
  dsimp only
  split <;> omega

/-! #### Windows of use and of misses (R662, R664, R669, R670) -/

theorem takeTokens_fields (r j c : Nat) (s : State) : tokens (takeTokens r j c s) r j c = tokens s r j c - 768 ∧
    mapGet (takeTokens r j c s).qos.used (qosKey r j c) 0 = mapGet s.qos.used (qosKey r j c) 0 + 64 := by
  unfold takeTokens
  dsimp only
  rw [tokens, mapGet_mapSet_same, mapGet_mapSet_same]
  exact ⟨rfl, rfl⟩

theorem clampSet_of_none {loop inst : Nat} {s : State} (h : s.brk.clamps = []) : clampSet loop inst false s = s := by
  have hnone : clampOf s loop inst = none := by rw [clampOf, h]; rfl
  rw [clampSet, if_neg Bool.false_ne_true, clampEnd, hnone]

theorem qosWindow_of_idle {s : State} (hlinks : ∀ n, (linkAt s n).txq = []) (hhost : s.qos.host = []) (hcl : s.brk.clamps = [])
    (hheld : ∀ r c, heldByMax s r c = false) : qosWindow s = { s with qos := { s.qos with used := [], winAt := s.time } } := by
  have hfold : (List.range 3).foldl (fun u r => (List.range 16).foldl (fun v c =>
      clampSet 5 (16 * r + c) (heldByMax s r c) v) u) s = s :=
    foldl_eq_self _ fun r _ => foldl_eq_self _ fun c _ => by rw [hheld, clampSet_of_none hcl]
  unfold qosWindow
  dsimp only
  rw [hfold]
  exact qosServe_of_empty hlinks hhost

/-- A counted miss: beside the counters only the windows' notes change. -/
theorem countMiss_eq {r : Nat} {q : QReq} {s : State} (h : pastTarget s r q = true) (acting : Bool) :
    ∃ x : QosState, countMiss r q true acting s =
      if acting = true then
        bump F.QOS_MISSOVR.COUNT (16 * r + q.cls) { bump F.QOS_MISS.COUNT (16 * r + q.cls) s with qos := x }
      else { bump F.QOS_MISS.COUNT (16 * r + q.cls) s with qos := x } :=
  ⟨_, if_pos (by rw [h]; rfl)⟩

theorem countMiss_counted {r : Nat} {q : QReq} {s : State} (h : pastTarget s r q = true) (acting : Bool) :
    getF (countMiss r q true acting s) F.QOS_MISS.COUNT (16 * r + q.cls)
      = min (getF s F.QOS_MISS.COUNT (16 * r + q.cls) + 1) (2 ^ F.QOS_MISS.COUNT.width - 1) := by
  obtain ⟨x, hx⟩ := countMiss_eq h acting
  rw [hx, ← getF_bump_same F.QOS_MISS.COUNT (16 * r + q.cls) s (by decide)]
  have hcount : ∀ u : State, getF { u with qos := x } F.QOS_MISS.COUNT (16 * r + q.cls)
      = getF u F.QOS_MISS.COUNT (16 * r + q.cls) := fun u => getF_congr rfl _ _
  split
  · rw [getF_bump_of_reg (by decide), hcount]
  · rw [hcount]

theorem countMiss_kept {r : Nat} {q : QReq} {held : Bool} {s : State} (h : (held && pastTarget s r q) = false) (acting : Bool) :
    countMiss r q held acting s = s := if_neg (by simp [h])

/-- Whatever its severity, a posted event is counted, or its count is at its limit. -/
theorem post_counts (e : EvArgs) (s : State) : ∃ sev, getF (post e s) F.EVT_SEVCNT.COUNT sev ≠ getF s F.EVT_SEVCNT.COUNT sev ∨
    getF s F.EVT_SEVCNT.COUNT sev = 2 ^ F.EVT_SEVCNT.COUNT.width - 1 := by
  have hlt := getF_lt s F.EVT_SEVCNT.COUNT e.severity
  refine ⟨e.severity, ?_⟩
  rw [getF_post_sevcnt, show F.EVT_SEVCNT.COUNT.width = 32 from rfl] at *
  omega

theorem missWindow_one {s : State} {c n : Nat} (h : s.qos.winMiss = [(c, n)]) (hirq : flag s F.QOS_TOKB.MISSIRQ c = false)
    (hlim : getF s F.QOS_CTL.MISSLIM < n) : ∃ e : EvArgs,
      missWindow s = { post e s with qos := { (post e s).qos with winMiss := [], winOver := [] } } := by
  refine ⟨{ code := Ev.QOS_GMISS, inst := c, d0 := n, d1 := boolNat (mapGet s.qos.winOver c false) }, ?_⟩
  unfold missWindow
  rw [h]
  dsimp only [List.foldl]
  rw [if_pos hlim, if_neg (by simp [hirq])]

theorem missWindow_few {s : State} (h : ∀ e ∈ s.qos.winMiss, e.2 ≤ getF s F.QOS_CTL.MISSLIM) :
    missWindow s = { s with qos := { s.qos with winMiss := [], winOver := [] } } := by
  unfold missWindow
  dsimp only
  rw [foldl_eq_self _ fun e he => if_neg (Nat.not_lt.2 (h e he))]

/-! #### The Isthmus (R673, R674) -/

/-- The counts with which the Isthmus' window began are kept. -/
def IsthKept (s t : State) : Prop := t.qos.isthS2N = s.qos.isthS2N ∧ t.qos.isthN2S = s.qos.isthN2S

namespace IsthKept

theorem refl (s : State) : IsthKept s s := ⟨rfl, rfl⟩

theorem trans {s t u : State} (h : IsthKept s t) (k : IsthKept t u) : IsthKept s u := ⟨k.1.trans h.1, k.2.trans h.2⟩

theorem of_qos {s t : State} (h : t.qos = s.qos) : IsthKept s t := by rw [IsthKept, h]; exact ⟨rfl, rfl⟩

theorem ite {c : Prop} [Decidable c] {s t u : State} (ht : IsthKept s t) (hu : IsthKept s u) :
    IsthKept s (if c then t else u) := by
  split
  · exact ht
  · exact hu

theorem foldl {α : Type} {g : State → α → State} (h : ∀ t a, IsthKept t (g t a)) (l : List α) (s : State) :
    IsthKept s (l.foldl g s) := by
  induction l generalizing s with
  | nil => exact refl s
  | cons a l ih => exact (h s a).trans (ih (g s a))

theorem hostSend (r : HostReq) (s : State) : IsthKept s (Machine.hostSend r s) :=
  ite (ite (of_qos (add64_qos ..)) ⟨rfl, rfl⟩) (of_qos rfl)

theorem ringIrq (f sev : Nat) (s : State) : IsthKept s (Machine.ringIrq f sev s) := by
  have hirq : IsthKept s (setF F.EVT_STAT.IRQPEND f 1 s) := of_qos (setF_qos ..)
  exact ite (ite (hirq.trans (ite (hostSend _ _) (of_qos rfl))) (hirq.trans (of_qos (setF_qos ..)))) (refl s)

theorem ringWrite (f : Nat) (r : EvtRec) (s : State) : IsthKept s (Machine.ringWrite f r s) := by
  by_cases h : ringTakes f r s
  · rw [ringWrite_of_takes h]
    have hset : ∀ (v : BitVec 32) (u : State), u.qos = s.qos → IsthKept s (setReg .EVT_TAIL f v u) := fun v u hu =>
      of_qos ((setReg_qos ..).trans hu)
    refine trans ?_ (ringIrq _ _ _)
    exact hset _ _ rfl
  · obtain ⟨lost, heq⟩ := ringWrite_of_full h
    have hb : (bump F.EVT_LOST.COUNT f s).qos = s.qos := bump_qos ..
    rw [heq]
    generalize bump F.EVT_LOST.COUNT f s = u at *
    exact of_qos hb

theorem counted (sev : Nat) (s : State) : IsthKept s (Machine.counted sev s) := by
  have hb : (bump F.EVT_SEVCNT.COUNT sev s).qos = s.qos := bump_qos ..
  unfold Machine.counted
  generalize bump F.EVT_SEVCNT.COUNT sev s = u at *
  exact ite (of_qos hb) (of_qos hb)

theorem post (e : EvArgs) (s : State) : IsthKept s (Machine.post e s) := by
  rw [post_eq]
  have hcount := counted e.severity s
  exact ite (of_qos (bump_qos ..)) (ite (hcount.trans (foldl (fun t f => ringWrite f _ t) _ _))
    (ite (hcount.trans (of_qos rfl)) (hcount.trans (foldl (fun t f => of_qos (bump_qos ..)) _ _))))

end IsthKept

/-- A window's counts are kept and its use is shown. -/
def isthShown (pct : Nat) (s : State) : State :=
  setF F.QOS_ISTHUSE.PCT 0 pct { s with qos := { s.qos with
    isthS2N := get64 s .MSH_ISTHS2N_LO .MSH_ISTHS2N_HI 0, isthN2S := get64 s .MSH_ISTHN2S_LO .MSH_ISTHN2S_HI 0
    hotAgo := s.qos.hotAgo.map (fun n => n + 1) } }

theorem isthShown_fields {pct : Nat} (hp : pct < 128) (s : State) :
    getF (isthShown pct s) F.QOS_ISTHUSE.PCT = pct ∧
    (isthShown pct s).qos.isthS2N = get64 s .MSH_ISTHS2N_LO .MSH_ISTHS2N_HI 0 ∧
    (isthShown pct s).qos.isthN2S = get64 s .MSH_ISTHN2S_LO .MSH_ISTHN2S_HI 0 ∧
    RegsButAll [.QOS_ISTHUSE] s (isthShown pct s) := by
  unfold isthShown
  generalize hu : { s with qos := { s.qos with
    isthS2N := get64 s .MSH_ISTHS2N_LO .MSH_ISTHS2N_HI 0, isthN2S := get64 s .MSH_ISTHN2S_LO .MSH_ISTHN2S_HI 0
    hotAgo := s.qos.hotAgo.map (fun n => n + 1) } } = u
  have hreg : u.regs = s.regs := by rw [← hu]
  refine ⟨getF_setF_of_lt (f := F.QOS_ISTHUSE.PCT) (by decide) hp 0 u, by rw [setF_qos, ← hu], by rw [setF_qos, ← hu], ?_⟩
  exact RegsButAll.trans (.of_regs_eq hreg) (.setF (f := F.QOS_ISTHUSE.PCT) (List.mem_cons_self ..) 0 pct u)

/-- The Isthmus becomes hot, and says so once in a while. -/
def isthHot (pct : Nat) (tell : Bool) (s : State) : State :=
  if tell then post { code := Ev.QOS_ISTHHOT, d0 := pct }
    { setF F.QOS_STATUS.ISTH_HOT 0 1 s with qos := { (setF F.QOS_STATUS.ISTH_HOT 0 1 s).qos with hotAgo := some 0 } }
  else setF F.QOS_STATUS.ISTH_HOT 0 1 s

theorem isthHot_fields (pct : Nat) (tell : Bool) (s : State) :
    flag (isthHot pct tell s) F.QOS_STATUS.ISTH_HOT = true ∧ IsthKept s (isthHot pct tell s) ∧
    RegsButAll (.QOS_STATUS :: eventRegs) s (isthHot pct tell s) := by
  have hflag := flag_setF_one (f := F.QOS_STATUS.ISTH_HOT) rfl rfl 0 s
  have histh : IsthKept s (setF F.QOS_STATUS.ISTH_HOT 0 1 s) := .of_qos (setF_qos ..)
  have hregs : RegsButAll (.QOS_STATUS :: eventRegs) s (setF F.QOS_STATUS.ISTH_HOT 0 1 s) :=
    .setF (f := F.QOS_STATUS.ISTH_HOT) (List.mem_cons_self ..) 0 1 s
  unfold isthHot
  generalize setF F.QOS_STATUS.ISTH_HOT 0 1 s = u at *
  split
  · generalize hv : { u with qos := { u.qos with hotAgo := some 0 } } = v
    have hvr : v.regs = u.regs := by rw [← hv]
    have hvq : IsthKept u v := by rw [← hv]; exact ⟨rfl, rfl⟩
    refine ⟨?_, (histh.trans hvq).trans (.post _ v), ?_⟩
    · rw [flag, getF_post _ _ _ _ rfl, getF_congr hvr, ← flag, hflag]
    · exact (hregs.trans (.of_regs_eq hvr)).trans ((RegsButAll.post _ v).mono fun r hr => List.mem_cons_of_mem _ hr)
  · exact ⟨hflag, histh, hregs⟩

/-- The use of the Isthmus in percent. -/
def isthPct (cycles : Nat) (s : State) : Nat :=
  let diff := fun (now was : Nat) => if was ≤ now then now - was else now
  let busy := max (diff (get64 s .MSH_ISTHS2N_LO .MSH_ISTHS2N_HI 0) s.qos.isthS2N)
    (diff (get64 s .MSH_ISTHN2S_LO .MSH_ISTHN2S_HI 0) s.qos.isthN2S)
  if cycles = 0 then 0 else min 100 (busy * 100 / (48 * cycles))

theorem isthUseWindow_eq (cycles : Nat) (s : State) : ∃ tell, isthUseWindow cycles s =
    if 90 ≤ isthPct cycles s then isthHot (isthPct cycles s) tell (isthShown (isthPct cycles s) s)
    else if isthPct cycles s < 75 then setF F.QOS_STATUS.ISTH_HOT 0 0 (isthShown (isthPct cycles s) s)
    else isthShown (isthPct cycles s) s := ⟨_, rfl⟩

theorem isthPct_of_cycles {cycles : Nat} {s : State} (hc : cycles ≠ 0)
    (ha : s.qos.isthS2N ≤ get64 s .MSH_ISTHS2N_LO .MSH_ISTHS2N_HI 0)
    (hb : s.qos.isthN2S ≤ get64 s .MSH_ISTHN2S_LO .MSH_ISTHN2S_HI 0) :
    isthPct cycles s = min 100 (max (get64 s .MSH_ISTHS2N_LO .MSH_ISTHS2N_HI 0 - s.qos.isthS2N)
      (get64 s .MSH_ISTHN2S_LO .MSH_ISTHN2S_HI 0 - s.qos.isthN2S) * 100 / (48 * cycles)) := by
  unfold isthPct
  dsimp only
  rw [if_neg hc, if_pos ha, if_pos hb]

theorem isthPct_le (cycles : Nat) (s : State) : isthPct cycles s ≤ 100 := by
  unfold isthPct
  dsimp only
  split
  · exact Nat.zero_le _
  · exact Nat.min_le_left ..

/-- What a window of the Isthmus leaves, by the use that it shows. -/
theorem isthUseWindow_fields (cycles : Nat) (s : State) {pct : Nat} (hpct : isthPct cycles s = pct) :
    let t := isthUseWindow cycles s
    getF t F.QOS_ISTHUSE.PCT = pct ∧
    t.qos.isthS2N = get64 s .MSH_ISTHS2N_LO .MSH_ISTHS2N_HI 0 ∧ t.qos.isthN2S = get64 s .MSH_ISTHN2S_LO .MSH_ISTHN2S_HI 0 ∧
    (90 ≤ pct → flag t F.QOS_STATUS.ISTH_HOT = true) ∧ (pct < 75 → flag t F.QOS_STATUS.ISTH_HOT = false) ∧
    (75 ≤ pct → pct < 90 → flag t F.QOS_STATUS.ISTH_HOT = flag s F.QOS_STATUS.ISTH_HOT) ∧
    RegsButAll (.QOS_ISTHUSE :: .QOS_STATUS :: eventRegs) s t := by
  obtain ⟨tell, heq⟩ := isthUseWindow_eq cycles s
  have hle := isthPct_le cycles s
  rw [hpct] at heq hle
  rw [heq]
  obtain ⟨hp, ha, hb, hr⟩ := isthShown_fields (pct := pct) (by omega) s
  generalize isthShown pct s = u at *
  have hr' : RegsButAll (.QOS_ISTHUSE :: .QOS_STATUS :: eventRegs) s u := hr.mono (by simp)
  split
  · rename_i h90
    obtain ⟨hflag, histh, hh⟩ := isthHot_fields pct tell u
    refine ⟨?_, histh.1.trans ha, histh.2.trans hb, fun _ => hflag, fun h => by omega, fun _ h => by omega,
      hr'.trans (hh.mono fun r h => List.mem_cons_of_mem _ h)⟩
    rw [getF, hh _ _ (by decide), ← getF, hp]
  · rename_i h90
    split
    · rename_i h75
      refine ⟨?_, by rw [setF_qos, ha], by rw [setF_qos, hb], fun h => absurd h h90, fun _ => ?_, fun h => by omega, ?_⟩
      · rw [getF_setF_of_reg (by decide), hp]
      · rw [flag, getF_setF_of_lt (by decide) (by decide)]
        rfl
      · exact hr'.trans (.setF (f := F.QOS_STATUS.ISTH_HOT) (by simp [F.QOS_STATUS.ISTH_HOT]) 0 0 u)
    · rename_i h75
      refine ⟨hp, ha, hb, fun h => absurd h h90, fun h => absurd h h75, fun _ _ => ?_, hr'⟩
      rw [flag, getF, hr _ _ (by decide), ← getF, ← flag]

/-! #### The wake-hold (R675, R676) -/

theorem coveTarget_fields (c : Nat) (s : State) : coveState (coveTarget c s) c = coveState s c ∧
    550 ≤ coveMv (coveTarget c s) c ∧ coveMv (coveTarget c s) c ≤ 900 ∧ RegsBut [(.BRK_COVESTAT, c)] s (coveTarget c s) ∧
    (coveTarget c s).brk = s.brk := by
  unfold coveTarget draw
  dsimp only
  have hlt : 550 + 5 * ((Config.freeValue 16 s.free).toNat % 71) ≤ 900 := by
    have := Nat.mod_lt (Config.freeValue 16 s.free).toNat (show 71 > 0 by decide)
    omega
  have hge : 550 ≤ 550 + 5 * ((Config.freeValue 16 s.free).toNat % 71) := Nat.le_add_right ..
  generalize 550 + 5 * ((Config.freeValue 16 s.free).toNat % 71) = v at *
  generalize hu : { s with free := s.free + 1 } = u
  have hur : u.regs = s.regs := by rw [← hu]
  have hub : u.brk = s.brk := by rw [← hu]
  have hv : coveMv (setF F.BRK_COVESTAT.MV c v u) c = v := by
    rw [coveMv, getF_setF_of_lt (by decide) (Nat.lt_of_le_of_lt hlt (by decide))]
  refine ⟨?_, by rw [hv]; exact hge, by rw [hv]; exact hlt, ?_, by rw [setF_brk, hub]⟩
  · rw [coveState, getF_setF_of_bits (by decide) (by decide), getF_congr hur, coveState]
  · exact RegsBut.trans (.of_regs_eq hur) (.setF (f := F.BRK_COVESTAT.MV) (List.mem_cons_self ..) v u)

theorem coveState_congr {s t : State} {c : Nat} (h : getReg t .BRK_COVESTAT c = getReg s .BRK_COVESTAT c) :
    coveState t c = coveState s c := by rw [coveState, getF, show F.BRK_COVESTAT.STATE.reg = .BRK_COVESTAT from rfl, h]; rfl

theorem coveMv_congr {s t : State} {c : Nat} (h : getReg t .BRK_COVESTAT c = getReg s .BRK_COVESTAT c) :
    coveMv t c = coveMv s c := by rw [coveMv, getF, show F.BRK_COVESTAT.MV.reg = .BRK_COVESTAT from rfl, h]; rfl

/-- What waking a gated cove leaves. -/
theorem wakeCove_gated {c : Nat} {s : State} (h : coveState s c = 2) : coveState (wakeCove c s) c = 3 ∧
    550 ≤ coveMv (wakeCove c s) c ∧ coveMv (wakeCove c s) c ≤ 900 ∧ RegsBut [(.BRK_COVESTAT, c)] s (wakeCove c s) ∧
    (wakeCove c s).brk = s.brk := by
  rw [wakeCove, if_pos h]
  have hset : RegsBut [(.BRK_COVESTAT, c)] s (setF F.BRK_COVESTAT.STATE c 3 s) :=
    .setF (f := F.BRK_COVESTAT.STATE) (List.mem_cons_self ..) 3 s
  have h3 : coveState (setF F.BRK_COVESTAT.STATE c 3 s) c = 3 := getF_setF_of_lt (f := F.BRK_COVESTAT.STATE) (by decide) (by decide) c s
  have hb : (setF F.BRK_COVESTAT.STATE c 3 s).brk = s.brk := setF_brk ..
  generalize setF F.BRK_COVESTAT.STATE c 3 s = u at *
  obtain ⟨hst, hlo, hhi, hr, hb'⟩ := coveTarget_fields c u
  have hrails := railsFollow_regs s (coveTarget c u)
  have hbrails := railsFollow_brk s (coveTarget c u)
  generalize railsFollow s (coveTarget c u) = v at *
  have hmv : coveMv v c = coveMv (coveTarget c u) c := coveMv_congr (getReg_congr hrails _ _)
  exact ⟨by rw [coveState_congr (getReg_congr hrails _ _), hst, h3], by rw [hmv]; exact hlo, by rw [hmv]; exact hhi,
    (hset.trans hr).trans (.of_regs_eq hrails), by rw [hbrails, hb', hb]⟩

theorem wakeCove_other {c : Nat} {s : State} (h : coveState s c ≠ 2) : wakeCove c s = s := if_neg h

theorem regsBut_wakeCove (c : Nat) (s : State) : RegsBut [(.BRK_COVESTAT, c)] s (wakeCove c s) := by
  by_cases h : coveState s c = 2
  · exact (wakeCove_gated h).2.2.2.1
  · rw [wakeCove_other h]
    exact .refl _ s

/-- A cove that the wake-hold names wakes. -/
def wakeIfHeld (s : State) (c : Nat) : State := if (getF s F.QOS_WAKEHOLD.HOLD).testBit c then wakeCove c s else s

theorem wakeHeld_eq (s : State) : wakeHeld s = (List.range 16).foldl wakeIfHeld s := rfl

theorem regsBut_wakeIfHeld (s : State) (c : Nat) : RegsBut [(.BRK_COVESTAT, c)] s (wakeIfHeld s c) := by
  unfold wakeIfHeld
  split
  · exact regsBut_wakeCove c s
  · exact .refl _ s

/-- The wake-hold and a cove's state. -/
def heldCove (c : Nat) (s : State) : Nat × Nat := (getF s F.QOS_WAKEHOLD.HOLD, coveState s c)

theorem heldCove_wakeIfHeld_ne {b c : Nat} (h : b ≠ c) (s : State) : heldCove c (wakeIfHeld s b) = heldCove c s := by
  have hr := regsBut_wakeIfHeld s b
  rw [heldCove, hr.getF .QOS_WAKEHOLD 0 (by simp), coveState_congr (hr _ _ (by simp [h.symm])), heldCove]

theorem heldCove_wakeIfHeld_same (c : Nat) (s : State) : heldCove c (wakeIfHeld s c) =
    ((heldCove c s).1, if (heldCove c s).1.testBit c = true ∧ (heldCove c s).2 = 2 then 3 else (heldCove c s).2) := by
  refine Prod.ext ((regsBut_wakeIfHeld s c).getF .QOS_WAKEHOLD 0 (by simp)) ?_
  unfold wakeIfHeld heldCove
  dsimp only
  by_cases hb : (getF s F.QOS_WAKEHOLD.HOLD).testBit c = true
  · rw [if_pos hb]
    by_cases h2 : coveState s c = 2
    · rw [if_pos ⟨hb, h2⟩, (wakeCove_gated h2).1]
    · rw [if_neg fun h => h2 h.2, wakeCove_other h2]
  · rw [if_neg hb, if_neg fun h => hb h.1]

theorem wakeHeld_fields (s : State) : (∀ c, c < 16 → coveState (wakeHeld s) c =
      if (getF s F.QOS_WAKEHOLD.HOLD).testBit c = true ∧ coveState s c = 2 then 3 else coveState s c) ∧
    RegsButAll [.BRK_COVESTAT] s (wakeHeld s) := by
  rw [wakeHeld_eq]
  refine ⟨fun c hc => ?_, ?_⟩
  · have hfold := foldl_read_of_mem (rd := heldCove c)
      (φ := fun p => (p.1, if p.1.testBit c = true ∧ p.2 = 2 then 3 else p.2))
      (fun u b _ hb => heldCove_wakeIfHeld_ne hb u) (heldCove_wakeIfHeld_same c) List.nodup_range (List.mem_range.2 hc) s
    exact (Prod.mk.inj hfold).2
  · generalize List.range 16 = l
    induction l generalizing s with
    | nil => exact .refl _ s
    | cons c l ih => exact ((regsBut_wakeIfHeld s c).toAll (by simp)).trans (ih (wakeIfHeld s c))

/-! #### The obligation -/

/-- Settles O48: each regulation row by what it leaves of buckets, counts, the Isthmus and the coves. -/
theorem regulationRows : Obligations.RegulationRows := by
  unfold Obligations.RegulationRows
  refine ⟨fun s hrun hlinks hhost => ?_, fun s hrun hlinks hhost hcl hheld => ?_, takeTokens_fields,
    fun r q acting s _ _ => ⟨fun h => countMiss_counted h acting, fun h => countMiss_kept (by rw [h]; rfl) acting,
      countMiss_kept rfl acting⟩,
    fun s hrun => ⟨fun h => ?_, fun c n h hirq => ⟨fun hlim => ?_, fun hlim => ?_⟩⟩,
    fun pct s hrun => ?_, fun cycles a b busy pct s hrun hc ha hb hle hle' hbusy hpct => ?_,
    fun hold s hbar => ⟨fun h2 => ?_, fun h2 => ?_⟩⟩
  · obtain ⟨⟨m, hm⟩, htok⟩ := tokenTick_fields hlinks hhost
    refine ⟨_, onFrame_of_runs hrun tokenTick, by rw [hm], by rw [hm], fun r j c hr hc hj => ?_⟩
    rw [htok r j c hr hc hj, bucketNext]
    exact ite_congr (propext (bucketGain_fst_eq_zero s r c)) (fun _ => rfl) (fun _ => rfl)
  · exact (onFrame_of_runs hrun qosWindow).trans (congrArg Host.Outcome.next (qosWindow_of_idle hlinks hhost hcl hheld))
  · exact (onFrame_of_runs hrun missWindow).trans (congrArg Host.Outcome.next (missWindow_few fun e he => by rw [h] at he; cases he))
  · obtain ⟨e, he⟩ := missWindow_one h hirq hlim
    refine ⟨_, onFrame_of_runs hrun missWindow, ?_⟩
    rw [he]
    refine ⟨rfl, rfl, post_counts e s, ?_⟩
    exact (RegsButAll.post e s).trans (.of_regs_eq rfl)
  · refine (onFrame_of_runs hrun missWindow).trans (congrArg Host.Outcome.next (missWindow_few fun e he => ?_))
    rw [h, List.mem_singleton] at he
    rw [he]
    exact hlim
  · refine ⟨_, onFrame_of_runs hrun (fun u => { u with qos := { u.qos with
      paced := (List.range 8).any (fun p => decide (getF u F.QOS_PACE.BPPCT < ((pct.map (fun x => x.val)).getD p 0))) } }), rfl, ?_⟩
    simp only [List.any_eq_true, List.mem_range, decide_eq_true_eq]
  · subst ha hb hbusy
    refine ⟨_, onFrame_of_runs hrun (isthUseWindow cycles.toNat), isthUseWindow_fields cycles.toNat s ?_⟩
    rw [isthPct_of_cycles (toNat_ne_zero_of_ne hc) hle hle', hpct]
  · have hps : getF (setF F.QOS_WAKEHOLD.HOLD 0 hold.toNat s) F.BRK_PSSTAT.STATE = 2 := by rw [getF_setF_of_reg (by decide), h2]
    refine ⟨setF F.QOS_WAKEHOLD.HOLD 0 hold.toNat s, (next_onlyIf hbar _ s).trans (congrArg Host.Outcome.next (if_pos hps)),
      getF_setF_of_lt (by decide) hold.isLt 0 s, .setF F.QOS_WAKEHOLD.HOLD 0 _ s,
      .setF (f := F.QOS_WAKEHOLD.HOLD) (List.mem_cons_self ..) _ s⟩
  · have hps : getF (setF F.QOS_WAKEHOLD.HOLD 0 hold.toNat s) F.BRK_PSSTAT.STATE ≠ 2 := by rw [getF_setF_of_reg (by decide)]; exact h2
    have hhold : getF (setF F.QOS_WAKEHOLD.HOLD 0 hold.toNat s) F.QOS_WAKEHOLD.HOLD = hold.toNat :=
      getF_setF_of_lt (by decide) hold.isLt 0 s
    have hset : RegsBut [(.QOS_WAKEHOLD, 0)] s (setF F.QOS_WAKEHOLD.HOLD 0 hold.toNat s) :=
      .setF (f := F.QOS_WAKEHOLD.HOLD) (List.mem_cons_self ..) _ s
    refine ⟨_, (next_onlyIf hbar _ s).trans (congrArg Host.Outcome.next (if_neg hps)), ?_⟩
    generalize setF F.QOS_WAKEHOLD.HOLD 0 hold.toNat s = u at *
    obtain ⟨hcove, hr⟩ := wakeHeld_fields u
    refine ⟨by rw [getF, hr _ _ (by decide), ← getF, hhold], fun c hc => ?_, (hset.toAll (by simp)).trans (hr.mono (by simp))⟩
    rw [hcove c hc, hhold, coveState_congr (hset _ _ (by simp))]
    rfl

end Sys2Proof.Machine

end


/-! ### The frame clock and the coves (R202, R691, R692, R698-R702, R705-R707, R733-R736) -/
section

namespace Sys2Proof.Machine

/-! #### What setting and following voltages leaves alone -/

/-- Only the coves' registers, the open values and what goes out may differ, as far as these rows look. -/
structure CoveFrame (s t : State) : Prop where
  regs : RegsButAll [.BRK_COVESTAT] s t
  brk : t.brk = s.brk
  mem : t.mem = s.mem
  bead : t.bead = s.bead

namespace CoveFrame

theorem refl (s : State) : CoveFrame s s := ⟨.refl _ s, rfl, rfl, rfl⟩

theorem trans {s t u : State} (h : CoveFrame s t) (k : CoveFrame t u) : CoveFrame s u :=
  ⟨h.regs.trans k.regs, k.brk.trans h.brk, k.mem.trans h.mem, k.bead.trans h.bead⟩

theorem ite {c : Prop} [Decidable c] {s t u : State} (ht : CoveFrame s t) (hu : CoveFrame s u) :
    CoveFrame s (if c then t else u) := by
  split
  · exact ht
  · exact hu

theorem foldl {α : Type} {g : State → α → State} (h : ∀ t a, CoveFrame t (g t a)) (l : List α) (s : State) :
    CoveFrame s (l.foldl g s) := by
  induction l generalizing s with
  | nil => exact refl s
  | cons a l ih => exact (h s a).trans (ih (g s a))

theorem setF {f : Fld} (hf : f.reg = .BRK_COVESTAT) (i v : Nat) (s : State) : CoveFrame s (Machine.setF f i v s) :=
  ⟨.setF (by simp [hf]) i v s, setF_brk .., setF_mem .., setF_bead ..⟩

theorem draw (w : Nat) (s : State) : CoveFrame s (Machine.draw w s).2 := ⟨.of_regs_eq rfl, rfl, rfl, rfl⟩

theorem coveTarget (c : Nat) (s : State) : CoveFrame s (Machine.coveTarget c s) := (draw 16 s).trans (setF rfl _ _ _)

theorem railsFollow (b s : State) : CoveFrame s (Machine.railsFollow b s) := by
  obtain ⟨l, hl⟩ := railsFollow_eq b s
  rw [hl]
  exact ⟨.of_regs_eq rfl, rfl, rfl, rfl⟩

theorem coveTargets (s : State) : CoveFrame s (Machine.coveTargets s) :=
  (foldl (fun u c => ite (refl u) (coveTarget c u)) _ s).trans (railsFollow _ _)

theorem wakeCove (c : Nat) (s : State) : CoveFrame s (Machine.wakeCove c s) :=
  ite (((setF rfl _ _ s).trans (coveTarget c _)).trans (railsFollow _ _)) (refl s)

theorem wakeIfHeld (s : State) (c : Nat) : CoveFrame s (Machine.wakeIfHeld s c) := ite (wakeCove c s) (refl s)

theorem wakeHeld (s : State) : CoveFrame s (Machine.wakeHeld s) := foldl wakeIfHeld _ s

theorem getF {s t : State} (h : CoveFrame s t) {f : Fld} (i : Nat) (hf : f.reg ≠ .BRK_COVESTAT) :
    Machine.getF t f i = Machine.getF s f i := by rw [Machine.getF, h.regs _ _ (by simpa using hf), Machine.getF]

end CoveFrame

/-! #### FCODE (R705, R730, R733) -/

/-- The registers that setting the frame clock changes. -/
def clockRegs : List Reg := .BRK_PSSTAT :: .BRK_COVESTAT :: .BRK_OVERRIDES :: eventRegs

/-- What an override leaves alone: all but its list, its count and the event. -/
structure OverFrame (s t : State) : Prop where
  regs : RegsButAll (.BRK_OVERRIDES :: eventRegs) s t
  brk : ∃ l, t.brk = { s.brk with overs := l }

theorem overFrame_policyOverride (loop inst cause : Nat) (l : List (Nat × Nat × Nat)) (s : State) :
    OverFrame s (policyOverride loop inst cause { s with brk := { s.brk with overs := l } }) := by
  generalize hu : { s with brk := { s.brk with overs := l } } = u
  have hur : u.regs = s.regs := by rw [← hu]
  have hub : u.brk = { s.brk with overs := l } := by rw [← hu]
  rw [policyOverride_eq]
  generalize he : ({ code := Ev.POLICY_OVERRIDE, inst := loop, d0 := inst, d1 := cause * 2 ^ 32 } : EvArgs) = e
  refine ⟨?_, l, by rw [bump_brk, post_brk, hub]⟩
  refine RegsButAll.trans (.of_regs_eq hur) (RegsButAll.trans ((RegsButAll.post e u).mono fun r hr => List.mem_cons_of_mem _ hr) ?_)
  exact .bump (f := F.BRK_OVERRIDES.COUNT) (List.mem_cons_self ..) 0 _

theorem overFrame_overrideSet (loop inst cause : Nat) (out : Bool) (s : State) : OverFrame s (overrideSet loop inst cause out s) := by
  have hrefl : OverFrame s s := ⟨.refl _ s, s.brk.overs, rfl⟩
  unfold overrideSet
  split
  · split
    · exact hrefl
    · exact overFrame_policyOverride _ _ _ _ s
  · split
    · exact overFrame_policyOverride _ _ _ _ s
    · exact hrefl

/-- A new FCODE: STATE follows it but in slack, and every cove that is not gated takes a new target. -/
def fcodeSet (v : Nat) (s : State) : State :=
  coveTargets (setF F.BRK_PSSTAT.STATE 0 (if getF s F.BRK_PSSTAT.STATE = 2 then 2 else if v = 3 then 0 else 1)
    (setF F.BRK_PSSTAT.FCODE 0 v s))

theorem fcodeSet_fields {v : Nat} (hv : v < 4) (s : State) : fcode (fcodeSet v s) = v ∧
    RegsButAll [.BRK_PSSTAT, .BRK_COVESTAT] s (fcodeSet v s) ∧ (fcodeSet v s).brk = s.brk ∧
    (∀ f : Fld, f.reg = .BRK_PSSTAT → 4 ≤ f.bit → getF (fcodeSet v s) f = getF s f) := by
  unfold fcodeSet
  generalize (if getF s F.BRK_PSSTAT.STATE = 2 then 2 else if v = 3 then 0 else 1) = x
  have hf := getF_setF_of_lt (f := F.BRK_PSSTAT.FCODE) (by decide) hv 0 s
  have hbits : ∀ f : Fld, f.reg = .BRK_PSSTAT → 4 ≤ f.bit → getF (setF F.BRK_PSSTAT.FCODE 0 v s) f = getF s f :=
    fun f _ hb => getF_setF_of_bits (f := F.BRK_PSSTAT.FCODE) (g := f) (by decide) (.inl hb) ..
  have hr : RegsButAll [.BRK_PSSTAT, .BRK_COVESTAT] s (setF F.BRK_PSSTAT.FCODE 0 v s) :=
    .setF (f := F.BRK_PSSTAT.FCODE) (List.mem_cons_self ..) 0 v s
  have hb : (setF F.BRK_PSSTAT.FCODE 0 v s).brk = s.brk := setF_brk ..
  generalize setF F.BRK_PSSTAT.FCODE 0 v s = u at *
  have hf' : getF (setF F.BRK_PSSTAT.STATE 0 x u) F.BRK_PSSTAT.FCODE = v := by
    rw [getF_setF_of_bits (by decide) (by decide), hf]
  have hbits' : ∀ f : Fld, f.reg = .BRK_PSSTAT → 4 ≤ f.bit → getF (setF F.BRK_PSSTAT.STATE 0 x u) f = getF s f :=
    fun f hreg h4 => (getF_setF_of_bits (f := F.BRK_PSSTAT.STATE) (g := f) (by decide)
      (.inl (Nat.le_trans (by decide) h4)) ..).trans (hbits f hreg h4)
  have hr' : RegsButAll [.BRK_PSSTAT, .BRK_COVESTAT] s (setF F.BRK_PSSTAT.STATE 0 x u) :=
    hr.trans (.setF (f := F.BRK_PSSTAT.STATE) (List.mem_cons_self ..) 0 x u)
  have hb' : (setF F.BRK_PSSTAT.STATE 0 x u).brk = s.brk := (setF_brk ..).trans hb
  generalize setF F.BRK_PSSTAT.STATE 0 x u = w at *
  have hc := CoveFrame.coveTargets w
  refine ⟨by rw [fcode, hc.getF 0 (by decide), hf'], hr'.trans (hc.regs.mono (by simp)), hc.brk.trans hb', fun f hreg h4 => ?_⟩
  rw [hc.getF 0 (by rw [hreg]; decide), hbits' f hreg h4]

/-- The lowest of the loop's choice and the caps (R733). -/
def fcodeWanted (s : State) : Nat := min s.brk.loopF (min s.brk.capI s.brk.capT)

theorem fcodeUpdate_eq (cause : Nat) (s : State) : ∃ out, fcodeUpdate cause s =
    overrideSet 3 0 cause out (if fcodeWanted s = fcode s then s else fcodeSet (fcodeWanted s) s) := ⟨_, rfl⟩

/-- What setting the frame clock leaves. -/
theorem fcodeUpdate_fields (cause : Nat) {s : State} (h : s.brk.loopF < 4) :
    fcode (fcodeUpdate cause s) = fcodeWanted s ∧ RegsButAll clockRegs s (fcodeUpdate cause s) ∧
    (∃ l, (fcodeUpdate cause s).brk = { s.brk with overs := l }) ∧
    (∀ f : Fld, f.reg = .BRK_PSSTAT → 4 ≤ f.bit → getF (fcodeUpdate cause s) f = getF s f) := by
  obtain ⟨out, heq⟩ := fcodeUpdate_eq cause s
  have hlt : fcodeWanted s < 4 := Nat.lt_of_le_of_lt (Nat.min_le_left ..) h
  rw [heq]
  have hset : fcode (if fcodeWanted s = fcode s then s else fcodeSet (fcodeWanted s) s) = fcodeWanted s ∧
      RegsButAll [.BRK_PSSTAT, .BRK_COVESTAT] s (if fcodeWanted s = fcode s then s else fcodeSet (fcodeWanted s) s) ∧
      (if fcodeWanted s = fcode s then s else fcodeSet (fcodeWanted s) s).brk = s.brk ∧
      (∀ f : Fld, f.reg = .BRK_PSSTAT → 4 ≤ f.bit →
        getF (if fcodeWanted s = fcode s then s else fcodeSet (fcodeWanted s) s) f = getF s f) := by
    split
    · rename_i he
      exact ⟨he.symm, .refl _ s, rfl, fun _ _ _ => rfl⟩
    · exact fcodeSet_fields hlt s
  generalize (if fcodeWanted s = fcode s then s else fcodeSet (fcodeWanted s) s) = u at *
  obtain ⟨hf, hr, hb, hbits⟩ := hset
  obtain ⟨hor, l, hob⟩ := overFrame_overrideSet 3 0 cause out u
  refine ⟨?_, ?_, ⟨l, by rw [hob, hb]⟩, fun f hreg h4 => ?_⟩
  · rw [← hf, fcode, getF, hor _ _ (by decide), ← getF, ← fcode]
  · exact (hr.mono (by simp [clockRegs])).trans (hor.mono fun r h => by simp only [clockRegs, List.mem_cons] at h ⊢; exact .inr (.inr h))
  · rw [← hbits f hreg h4]
    rw [getF, hreg, hor _ _ (by decide), getF, hreg]

/-! #### The frequency loop (R733-R735) -/

/-- The loop takes an FCODE. -/
theorem loopTaken_fields {v : Nat} {s : State} (hv : v < 4) (hc : clampOf s 3 0 = none) :
    let t := fcodeUpdate 0 (clampEnd 3 0 { s with brk := { s.brk with loopF := v } })
    t.brk.loopF = v ∧ clampOf t 3 0 = none ∧ fcode t = min v (min s.brk.capI s.brk.capT) := by
  have hend : clampEnd 3 0 { s with brk := { s.brk with loopF := v } } = { s with brk := { s.brk with loopF := v } } := by
    have hnone : clampOf { s with brk := { s.brk with loopF := v } } 3 0 = none := hc
    rw [clampEnd, hnone]
  dsimp only
  rw [hend]
  generalize hu : { s with brk := { s.brk with loopF := v } } = u
  have hub : u.brk = { s.brk with loopF := v } := by rw [← hu]
  obtain ⟨hf, -, ⟨l, hl⟩, -⟩ := fcodeUpdate_fields 0 (s := u) (by rw [hub]; exact hv)
  refine ⟨by rw [hl, hub], ?_, by rw [hf, fcodeWanted, hub]⟩
  rw [clampOf, hl, hub]
  exact hc

theorem avfsWindow_fixed {pct : Nat} {s : State} (h : getF s F.BRK_AVFSENV.FMIN = getF s F.BRK_AVFSENV.FMAX) :
    avfsWindow pct s = fcodeUpdate 0 (clampEnd 3 0 { s with brk := { s.brk with loopF := getF s F.BRK_AVFSENV.FMIN } }) :=
  if_pos h

section
variable {pct : Nat} {s : State} (hne : getF s F.BRK_AVFSENV.FMIN ≠ getF s F.BRK_AVFSENV.FMAX)
include hne

theorem avfsWindow_slower (hp : pct < 25) (hf : getF s F.BRK_AVFSENV.FMIN < s.brk.loopF) :
    avfsWindow pct s = fcodeUpdate 0 (clampEnd 3 0 { s with brk := { s.brk with loopF := s.brk.loopF - 1 } }) :=
  (if_neg hne).trans ((if_pos hp).trans (if_pos hf))

theorem avfsWindow_lowest (hp : pct < 25) (hf : ¬getF s F.BRK_AVFSENV.FMIN < s.brk.loopF)
    (hcap : s.brk.loopF ≤ min s.brk.capI s.brk.capT) : avfsWindow pct s = clampBegin 3 0 s :=
  (if_neg hne).trans ((if_pos hp).trans ((if_neg hf).trans (if_neg (by simpa using hcap))))

theorem avfsWindow_faster (hp : 60 < pct) (hf : s.brk.loopF < getF s F.BRK_AVFSENV.FMAX) :
    avfsWindow pct s = fcodeUpdate 0 (clampEnd 3 0 { s with brk := { s.brk with loopF := s.brk.loopF + 1 } }) :=
  (if_neg hne).trans ((if_neg (by omega)).trans ((if_pos hp).trans (if_pos hf)))

theorem avfsWindow_kept (hlo : 25 ≤ pct) (hhi : pct ≤ 60) (hc : clampOf s 3 0 = none) : avfsWindow pct s = s := by
  refine (if_neg hne).trans ((if_neg (by omega)).trans ((if_neg (by omega)).trans ?_))
  rw [clampEnd, hc]

end

/-- A clamp of the frequency loop begins and is shown. -/
theorem clampBegin_freq {s : State} (h : clampOf s 3 0 = none) : (clampBegin 3 0 s).brk.loopF = s.brk.loopF ∧
    (clampOf (clampBegin 3 0 s) 3 0).isSome = true ∧ (getReg (clampBegin 3 0 s) .BRK_CLAMPST 0).getLsbD 2 = true := by
  have hnone : (clampOf s 3 0).isSome = false := by rw [h]; rfl
  refine ⟨?_, clampOf_clampBegin hnone, ?_⟩
  · rw [clampBegin, if_neg (by simp [hnone])]
    dsimp only
    rw [clampStatus_brk, post_brk]
  · rw [clampBegin, if_neg (by simp [hnone])]
    dsimp only
    generalize hu : { s with brk := { s.brk with
      clamps := s.brk.clamps ++ [({ loop := 3, inst := 0, start := s.time, raised := false } : Clamp)] } } = u
    have hany : u.brk.clamps.any (fun c => c.loop == 3) = true := by
      rw [← hu]
      simp
    unfold clampStatus
    rw [post_brk, hany]
    rw [if_neg (by decide), if_neg (by decide), getReg_setReg, if_pos ⟨rfl, rfl⟩, getLsbD_putBit _ (by decide), if_pos rfl]

/-! #### The voltage loop (R690-R692, R736) -/

/-- The rail voltage that a target 5 mV above `v` needs. -/
def railNeed (v : Nat) : Nat := max 950 (min 1150 ((v + 5 + 200 + 4) / 5 * 5))

/-- One cove's step of the voltage loop. -/
def voltStep (low spare : BitVec 16) (u : State) (c : Nat) : State :=
  if coveState u c = 2 then u
  else if bitAt low c then
    if 900 ≤ coveMv u c ∨ flag u F.BRK_RAILSTAT.AVSFAIL (c / 8) = true then u
    else if getF u F.BRK_RAILSTAT.MV (c / 8) < railNeed (coveMv u c) then
      { u with out := u.out ++ [.avsTarget (c / 8) (railNeed (coveMv u c))] }
    else setF F.BRK_COVESTAT.MV c (coveMv u c + 5) u
  else if bitAt spare c && decide (550 < coveMv u c) then setF F.BRK_COVESTAT.MV c (coveMv u c - 5) u
  else u

theorem avfsVoltageStep_eq (low spare : BitVec 16) (s : State) :
    avfsVoltageStep low spare s = railsFollow s ((List.range 16).foldl (voltStep low spare) s) := rfl

/-- The target that a cove's step leaves. -/
def voltNext (low spare : BitVec 16) (c st v mv : Nat) (fail : Bool) : Nat :=
  if st = 2 then v
  else if bitAt low c then
    if 900 ≤ v ∨ fail = true then v else if mv < railNeed v then v else v + 5
  else if bitAt spare c && decide (550 < v) then v - 5
  else v

section
variable (low spare : BitVec 16) (u : State) (c : Nat)

theorem regsBut_voltStep : RegsBut [(.BRK_COVESTAT, c)] u (voltStep low spare u c) := by
  have hset : ∀ v, RegsBut [(.BRK_COVESTAT, c)] u (setF F.BRK_COVESTAT.MV c v u) := fun v =>
    .setF (f := F.BRK_COVESTAT.MV) (List.mem_cons_self ..) v u
  unfold voltStep
  split
  · exact .refl _ u
  · split
    · split
      · exact .refl _ u
      · split
        · exact .of_regs_eq rfl
        · exact hset _
    · split
      · exact hset _
      · exact .refl _ u

theorem coveState_setMv (v : Nat) : coveState (setF F.BRK_COVESTAT.MV c v u) c = coveState u c := by
  rw [coveState, getF_setF_of_bits (by decide) (by decide), coveState]

theorem coveMv_setMv {v : Nat} (hv : v < 1024) : coveMv (setF F.BRK_COVESTAT.MV c v u) c = v :=
  getF_setF_of_lt (f := F.BRK_COVESTAT.MV) (by decide) hv c u

theorem coveState_voltStep : coveState (voltStep low spare u c) c = coveState u c := by
  unfold voltStep
  split
  · rfl
  · split
    · split
      · rfl
      · split
        · exact coveState_congr rfl
        · exact coveState_setMv u c _
    · split
      · exact coveState_setMv u c _
      · rfl

theorem coveMv_voltStep : coveMv (voltStep low spare u c) c
    = voltNext low spare c (coveState u c) (coveMv u c) (getF u F.BRK_RAILSTAT.MV (c / 8)) (flag u F.BRK_RAILSTAT.AVSFAIL (c / 8)) := by
  have hlt : coveMv u c < 1024 := getF_lt u F.BRK_COVESTAT.MV c
  unfold voltStep voltNext
  split
  · rfl
  · split
    · split
      · rfl
      · rename_i h900
        split
        · exact coveMv_congr rfl
        · exact coveMv_setMv u c (by omega)
    · split
      · exact coveMv_setMv u c (by omega)
      · rfl

/-- What the voltage loop reads of a cove and its rail. -/
def voltCove (c : Nat) (u : State) : (Nat × Nat) × (Nat × Bool) :=
  ((coveState u c, coveMv u c), (getF u F.BRK_RAILSTAT.MV (c / 8), flag u F.BRK_RAILSTAT.AVSFAIL (c / 8)))

theorem voltCove_voltStep_ne {b : Nat} (h : b ≠ c) : voltCove c (voltStep low spare u b) = voltCove c u := by
  have hr := regsBut_voltStep low spare u b
  have hreg : getReg (voltStep low spare u b) .BRK_COVESTAT c = getReg u .BRK_COVESTAT c := hr _ _ (by simp [h.symm])
  rw [voltCove, coveState_congr hreg, coveMv_congr hreg, hr.getF .BRK_RAILSTAT _ (by simp), flag,
    hr.getF .BRK_RAILSTAT _ (by simp), ← flag, voltCove]

theorem voltCove_voltStep_same : voltCove c (voltStep low spare u c) =
    (((voltCove c u).1.1, voltNext low spare c (voltCove c u).1.1 (voltCove c u).1.2 (voltCove c u).2.1 (voltCove c u).2.2),
      (voltCove c u).2) := by
  have hr := regsBut_voltStep low spare u c
  have hfail : flag (voltStep low spare u c) F.BRK_RAILSTAT.AVSFAIL (c / 8) = flag u F.BRK_RAILSTAT.AVSFAIL (c / 8) :=
    flag_congr (hr.getF .BRK_RAILSTAT _ (by simp))
  rw [voltCove, coveState_voltStep, coveMv_voltStep, hr.getF .BRK_RAILSTAT _ (by simp), hfail, voltCove]

end

theorem avfsVoltageStep_fields (low spare : BitVec 16) (s : State) : RegsButAll [.BRK_COVESTAT] s (avfsVoltageStep low spare s) ∧
    ∀ c, c < 16 → coveState (avfsVoltageStep low spare s) c = coveState s c ∧ coveMv (avfsVoltageStep low spare s) c =
      voltNext low spare c (coveState s c) (coveMv s c) (getF s F.BRK_RAILSTAT.MV (c / 8)) (flag s F.BRK_RAILSTAT.AVSFAIL (c / 8)) := by
  rw [avfsVoltageStep_eq]
  have hfold : ∀ c, c < 16 → voltCove c ((List.range 16).foldl (voltStep low spare) s) = _ := fun c hc =>
    foldl_read_of_mem (rd := voltCove c) (φ := fun p => ((p.1.1, voltNext low spare c p.1.1 p.1.2 p.2.1 p.2.2), p.2))
      (fun u b _ hb => voltCove_voltStep_ne low spare u c hb) (fun u => voltCove_voltStep_same low spare u c)
      List.nodup_range (List.mem_range.2 hc) s
  have hregs : ∀ (l : List Nat) (u : State), RegsButAll [.BRK_COVESTAT] u (l.foldl (voltStep low spare) u) := fun l => by
    induction l with
    | nil => exact fun u => .refl _ u
    | cons c l ih => exact fun u => ((regsBut_voltStep low spare u c).toAll (by simp)).trans (ih _)
  have hr := hregs (List.range 16) s
  generalize (List.range 16).foldl (voltStep low spare) s = u at *
  have hrails := railsFollow_regs s u
  refine ⟨hr.trans (.of_regs_eq hrails), fun c hc => ?_⟩
  have hcove := hfold c hc
  obtain ⟨hpair, -⟩ := Prod.mk.inj hcove
  obtain ⟨hst, hmv⟩ := Prod.mk.inj hpair
  exact ⟨(coveState_congr (getReg_congr hrails _ _)).trans hst, (coveMv_congr (getReg_congr hrails _ _)).trans hmv⟩

/-! #### The rails' transactions (R691) -/

theorem avsDone_read (k v : Nat) (hv : v < 65536) (s : State) : getF (avsDone k (some v) s) F.BRK_RAILSTAT.MV k = v ∧
    flag (avsDone k (some v) s) F.BRK_RAILSTAT.AVSFAIL k = false ∧ mapGet (avsDone k (some v) s).brk.avsMiss k 0 = 0 ∧
    RegsBut [(.BRK_RAILSTAT, k)] s (avsDone k (some v) s) := by
  unfold avsDone
  dsimp only
  generalize hu : { s with brk := { s.brk with avsMiss := mapDel s.brk.avsMiss k } } = u
  have hur : u.regs = s.regs := by rw [← hu]
  have hmiss : mapGet u.brk.avsMiss k 0 = 0 := by
    rw [← hu]
    exact mapGet_mapDel_same ..
  have hmem : ((.BRK_RAILSTAT, k) : Reg × Nat) ∈ [((.BRK_RAILSTAT, k) : Reg × Nat)] := List.mem_cons_self ..
  refine ⟨?_, ?_, by rw [setF_brk, setF_brk, hmiss], ?_⟩
  · rw [getF_setF_of_bits (by decide) (by decide), getF_setF_of_lt (by decide) hv]
  · rw [flag, getF_setF_of_lt (by decide) (by decide)]
    rfl
  · exact (RegsBut.of_regs_eq hur).trans ((RegsBut.setF (f := F.BRK_RAILSTAT.MV) hmem v u).trans
      (.setF (f := F.BRK_RAILSTAT.AVSFAIL) hmem 0 _))

/-- One more transaction without an answer. -/
def avsMissed (k n : Nat) (s : State) : State := { s with brk := { s.brk with avsMiss := mapSet s.brk.avsMiss k 0 (min n 3) } }

theorem avsDone_third {k : Nat} {s : State} (h : mapGet s.brk.avsMiss k 0 = 2) : avsDone k none s =
    post { code := Ev.BRK_AVS, inst := k } (setF F.BRK_RAILSTAT.AVSFAIL k 1 (avsMissed k 3 s)) := by
  unfold avsDone
  dsimp only
  rw [h]
  exact if_pos rfl

theorem avsDone_missed {k : Nat} {s : State} (h : mapGet s.brk.avsMiss k 0 < 2) :
    avsDone k none s = avsMissed k (mapGet s.brk.avsMiss k 0 + 1) s := if_neg (by omega)

theorem avsDone_third_fields {k : Nat} {s : State} (h : mapGet s.brk.avsMiss k 0 = 2) :
    flag (avsDone k none s) F.BRK_RAILSTAT.AVSFAIL k = true ∧ RegsButAll (.BRK_RAILSTAT :: eventRegs) s (avsDone k none s) := by
  rw [avsDone_third h]
  have hr : RegsButAll (.BRK_RAILSTAT :: eventRegs) s (avsMissed k 3 s) := .of_regs_eq rfl
  generalize avsMissed k 3 s = u at *
  refine ⟨?_, hr.trans (RegsButAll.trans (.setF (f := F.BRK_RAILSTAT.AVSFAIL) (List.mem_cons_self ..) k 1 u)
    ((RegsButAll.post _ _).mono fun r h => List.mem_cons_of_mem _ h))⟩
  rw [flag, getF_post _ _ _ _ rfl, ← flag]
  exact flag_setF_one rfl rfl k u

/-! #### Gating and waking (R706, R707) -/

theorem coveGate_fields (c : Nat) (hc : c < 16) (s : State) :
    let t := railsFollow s (gateCove c s)
    coveState t c = 2 ∧ coveMv t c = 500 ∧ (getReg t .MSH_COVEAWAKE 0).getLsbD c = false ∧
      RegsBut [(.BRK_COVESTAT, c), (.MSH_COVEAWAKE, 0)] s t := by
  have hrails := railsFollow_regs s (gateCove c s)
  have hst := coveState_gateCove c s
  have hmv := coveMv_gateCove c s
  have hr := regsBut_gateCove c s
  have hawake : (getReg (gateCove c s) .MSH_COVEAWAKE 0).getLsbD c = false := by
    rw [gateCove, getReg_setReg, if_pos ⟨rfl, rfl⟩, getLsbD_putBit _ (by omega), if_pos rfl]
  dsimp only
  generalize railsFollow s (gateCove c s) = t at *
  exact ⟨(coveState_congr (getReg_congr hrails _ _)).trans hst, (coveMv_congr (getReg_congr hrails _ _)).trans hmv,
    by rw [getReg_congr hrails]; exact hawake, (hr.mono (by simp)).trans (.of_regs_eq hrails)⟩

theorem brk_adjMove (s : State) : (adjMove s).brk = s.brk := by
  unfold adjMove
  generalize hu : { s with msh := { s.msh with adjHeld := [] } } = u
  have hub : u.brk = s.brk := by rw [← hu]
  refine Eq.trans ?_ hub
  refine foldl_read_of_kept (rd := fun v : State => v.brk) (fun v f _ => ?_) u
  dsimp only
  split <;> rfl

/-- The registers of a cove whose clock runs again. -/
def coveAwoken (c : Nat) (s : State) : State :=
  setReg .MSH_COVEAWAKE 0 (putBit (getReg s .MSH_COVEAWAKE 0) c true) (setF F.BRK_COVESTAT.STATE c 0 s)

theorem coveAwoken_fields (c : Nat) (hc : c < 16) (s : State) : coveState (coveAwoken c s) c = 0 ∧
    (getReg (coveAwoken c s) .MSH_COVEAWAKE 0).getLsbD c = true ∧ (coveAwoken c s).brk = s.brk ∧
    RegsBut [(.BRK_COVESTAT, c), (.MSH_COVEAWAKE, 0)] s (coveAwoken c s) := by
  rw [coveAwoken]
  refine ⟨?_, ?_, by rw [setReg_brk, setF_brk], ?_⟩
  · rw [coveState, getF_setReg_of_reg (by decide), getF_setF_of_lt (by decide) (by decide)]
  · rw [getReg_setReg, if_pos ⟨rfl, rfl⟩, getLsbD_putBit _ (by omega), if_pos rfl]
  · exact (RegsBut.setF (f := F.BRK_COVESTAT.STATE) (List.mem_cons_self ..) 0 s).trans
      (.setReg (by simp) _ _)

/-- The wake is counted where a flit asked for it. -/
def wakeCounted (c : Nat) (asked : Bool) (s : State) : State := if asked then bump F.MSH_WAKECNT.COUNT c s else s

theorem coveWoken_eq (c : Nat) (s : State) : ∃ u : State, coveWoken c s = adjMove u ∧
    u.regs = (wakeCounted c (s.brk.wakeReq.getLsbD c) (coveAwoken c s)).regs ∧
    u.brk.wakeReq = putBit (wakeCounted c (s.brk.wakeReq.getLsbD c) (coveAwoken c s)).brk.wakeReq c false :=
  ⟨_, rfl, rfl, rfl⟩

theorem coveWoken_fields (c : Nat) (hc : c < 16) (s : State) :
    coveState (coveWoken c s) c = 0 ∧ (getReg (coveWoken c s) .MSH_COVEAWAKE 0).getLsbD c = true ∧
    (coveWoken c s).brk.wakeReq.getLsbD c = false ∧
    (s.brk.wakeReq.getLsbD c = true → getF (coveWoken c s) F.MSH_WAKECNT.COUNT c
      = min (getF s F.MSH_WAKECNT.COUNT c + 1) (2 ^ F.MSH_WAKECNT.COUNT.width - 1)) ∧
    (s.brk.wakeReq.getLsbD c = false → RegsBut [(.BRK_COVESTAT, c), (.MSH_COVEAWAKE, 0)] s (coveWoken c s)) := by
  obtain ⟨u, hu, hur, hub⟩ := coveWoken_eq c s
  obtain ⟨h0, hawake, -, hr⟩ := coveAwoken_fields c hc s
  rw [hu]
  have hadj := (InjectFrame.adjMove u).regs.trans hur
  have hreq : (adjMove u).brk.wakeReq.getLsbD c = false := by
    rw [brk_adjMove, hub, getLsbD_putBit _ (by omega), if_pos rfl]
  generalize adjMove u = t at *
  generalize coveAwoken c s = v at *
  have hcount : getF (bump F.MSH_WAKECNT.COUNT c v) F.MSH_WAKECNT.COUNT c
      = min (getF s F.MSH_WAKECNT.COUNT c + 1) (2 ^ F.MSH_WAKECNT.COUNT.width - 1) := by
    rw [getF_bump_same _ _ _ (by decide), hr.getF .MSH_WAKECNT c (by simp)]
  have hb : RegsBut [(.MSH_WAKECNT, c)] v (wakeCounted c (s.brk.wakeReq.getLsbD c) v) := by
    unfold wakeCounted
    split
    · exact .bump (f := F.MSH_WAKECNT.COUNT) (List.mem_cons_self ..) v
    · exact .refl _ v
  refine ⟨?_, ?_, hreq, fun h => ?_, fun h => ?_⟩
  · rw [coveState_congr ((getReg_congr hadj _ _).trans (hb _ _ (by simp))), h0]
  · rw [getReg_congr hadj, hb _ _ (by simp), hawake]
  · rw [← hcount, getF_congr hadj, wakeCounted, if_pos h]
  · rw [wakeCounted, if_neg (by simp [h])] at hadj
    exact hr.trans (.of_regs_eq hadj)

/-! #### Slack (R202, R699-R702) -/

/-- A state of the coves that self-refresh leaves alone. -/
theorem selfRefreshOn_fields (s : State) : (selfRefreshOn s).mem.selfRefresh = true ∧
    RegsBut [(.MEM_CHUP_LO, 0), (.MEM_CHUP_HI, 0)] s (selfRefreshOn s) := by
  unfold selfRefreshOn
  split
  · rename_i h
    exact ⟨h, .refl _ s⟩
  · refine ⟨by rw [showChannels_mem], RegsBut.trans ?_ (regsBut_showChannels _)⟩
    exact .of_regs_eq rfl

theorem mem_gateCove (c : Nat) (s : State) : (gateCove c s).mem = s.mem := by rw [gateCove, setReg_mem, setF_mem, setF_mem]

theorem gateCoves_fields (s : State) : (∀ c, c < 16 → coveState ((List.range 16).foldl (fun u c => gateCove c u) s) c = 2 ∧
      coveMv ((List.range 16).foldl (fun u c => gateCove c u) s) c = 500) ∧
    ((List.range 16).foldl (fun u c => gateCove c u) s).mem = s.mem ∧
    RegsButAll [.MSH_COVEAWAKE, .BRK_COVESTAT] s ((List.range 16).foldl (fun u c => gateCove c u) s) := by
  refine ⟨fun c hc => ?_, foldl_read_of_kept (rd := fun u : State => u.mem) (fun u c _ => mem_gateCove c u) s, ?_⟩
  · have hfold := foldl_read_of_mem (rd := fun u => (coveState u c, coveMv u c)) (φ := fun _ => (2, 500))
      (g := fun u c => gateCove c u) (l := List.range 16)
      (fun u b _ hb => by
        have hreg := regsBut_gateCove b u .BRK_COVESTAT c (by simp [hb.symm])
        rw [coveState_congr hreg, coveMv_congr hreg])
      (fun u => by rw [coveState_gateCove, coveMv_gateCove]) List.nodup_range (List.mem_range.2 hc) s
    exact Prod.mk.inj hfold
  · generalize List.range 16 = l
    induction l generalizing s with
    | nil => exact .refl _ s
    | cons c l ih => exact ((regsBut_gateCove c s).toAll (by simp)).trans (ih (gateCove c s))

theorem slackEntry_fields {s : State} : getF (slackEntry s) F.BRK_PSSTAT.STATE = 2 ∧ fcode (slackEntry s) = fcode s ∧
    (slackEntry s).mem.selfRefresh = true ∧ clocksRun (slackEntry s) = false ∧
    (∀ c, c < 16 → coveState (slackEntry s) c = 2 ∧ coveMv (slackEntry s) c = 500) := by
  unfold slackEntry
  dsimp only
  obtain ⟨hself, hr⟩ := selfRefreshOn_fields s
  generalize selfRefreshOn s = u at *
  obtain ⟨hcoves, hmem, hr'⟩ := gateCoves_fields u
  generalize (List.range 16).foldl (fun u c => gateCove c u) u = v at *
  have hst : getF (setF F.BRK_PSSTAT.STATE 0 2 v) F.BRK_PSSTAT.STATE = 2 := getF_setF_of_lt (by decide) (by decide) 0 v
  have hfc : getF (setF F.BRK_PSSTAT.STATE 0 2 v) F.BRK_PSSTAT.FCODE = getF s F.BRK_PSSTAT.FCODE := by
    rw [getF_setF_of_bits (by decide) (by decide), getF, hr' _ _ (by decide), hr _ _ (by decide), getF]
  have hm : (setF F.BRK_PSSTAT.STATE 0 2 v).mem = v.mem := setF_mem ..
  have hcv : ∀ c, getReg (setF F.BRK_PSSTAT.STATE 0 2 v) .BRK_COVESTAT c = getReg v .BRK_COVESTAT c := fun c =>
    getReg_setF_of_reg (by decide) ..
  generalize setF F.BRK_PSSTAT.STATE 0 2 v = w at *
  have hrails := CoveFrame.railsFollow s w
  have hrr := railsFollow_regs s w
  generalize railsFollow s w = t at *
  have ht2 : getF t F.BRK_PSSTAT.STATE = 2 := by rw [hrails.getF 0 (by decide), hst]
  refine ⟨ht2, by rw [fcode, hrails.getF 0 (by decide), hfc, fcode], by rw [hrails.mem, hm, hmem, hself], ?_, fun c hc => ?_⟩
  · rw [clocksRun, ht2]
    exact Bool.and_false _
  · have hreg : getReg t .BRK_COVESTAT c = getReg v .BRK_COVESTAT c := (getReg_congr hrr _ _).trans (hcv c)
    rw [coveState_congr hreg, coveMv_congr hreg]
    exact hcoves c hc

theorem paused_setPause (n kind : Nat) (s : State) : (setPause n kind s).mem.paused = mapSet s.mem.paused n 0 kind := by
  rw [setPause_mem]

theorem setPauses_fields (s : State) : (∀ n, n < 48 → mapGet ((List.range 48).foldl (fun u n => setPause n 3 u) s).mem.paused n 0 = 3) ∧
    ((List.range 48).foldl (fun u n => setPause n 3 u) s).mem.selfRefresh = s.mem.selfRefresh ∧
    ((List.range 48).foldl (fun u n => setPause n 3 u) s).mem.steps = s.mem.steps ∧
    ((List.range 48).foldl (fun u n => setPause n 3 u) s).brk = s.brk ∧
    RegsButAll [.MEM_CHUP_LO, .MEM_CHUP_HI] s ((List.range 48).foldl (fun u n => setPause n 3 u) s) := by
  refine ⟨fun n hn => ?_, foldl_read_of_kept (rd := fun u : State => u.mem.selfRefresh) (fun u n _ => by rw [setPause_mem]) s,
    foldl_read_of_kept (rd := fun u : State => u.mem.steps) (fun u n _ => by rw [setPause_mem]) s,
    foldl_read_of_kept (rd := fun u : State => u.brk) (fun u n _ => ?_) s, ?_⟩
  · exact foldl_read_of_mem (rd := fun u : State => mapGet u.mem.paused n 0) (φ := fun _ => 3)
      (fun u b _ hb => by rw [paused_setPause, mapGet_mapSet_ne u.mem.paused 0 3 0 hb.symm])
      (fun u => by rw [paused_setPause, mapGet_mapSet_same]) List.nodup_range (List.mem_range.2 hn) s
  · rw [setPause, showChannels_eq, set64_brk]
  · generalize List.range 48 = l
    induction l generalizing s with
    | nil => exact .refl _ s
    | cons n l ih => exact ((regsBut_setPause n 3 s).toAll (by simp)).trans (ih (setPause n 3 s))

theorem selfRefreshOff_fields (s : State) : (selfRefreshOff s).mem = { s.mem with selfRefresh := false } ∧
    (selfRefreshOff s).brk = s.brk ∧ RegsButAll [.MEM_CHUP_LO, .MEM_CHUP_HI] s (selfRefreshOff s) := by
  unfold selfRefreshOff
  generalize hu : { s with mem := { s.mem with selfRefresh := false } } = u
  have hur : u.regs = s.regs := by rw [← hu]
  refine ⟨by rw [showChannels_mem, ← hu], by rw [showChannels_eq, set64_brk, ← hu], ?_⟩
  exact (RegsButAll.of_regs_eq hur).trans ((regsBut_showChannels u).toAll (by simp))

/-- Leaving self-refresh; after a long time every channel retrains. -/
theorem slackRetrain_fields (s : State) : (slackRetrain s).mem.selfRefresh = false ∧ (slackRetrain s).brk = s.brk ∧
    RegsButAll [.MEM_CHUP_LO, .MEM_CHUP_HI] s (slackRetrain s) ∧
    (s.mem.selfRefresh = true → 2500000 < s.time - s.mem.parkedAt →
      (slackRetrain s).mem.steps = [4, 5, 7] ∧ ∀ n, n < 48 → mapGet (slackRetrain s).mem.paused n 0 = 3) ∧
    (s.time - s.mem.parkedAt ≤ 2500000 → (slackRetrain s).mem.paused = s.mem.paused) := by
  unfold slackRetrain
  split
  · rename_i h
    rw [Bool.and_eq_true, decide_eq_true_eq] at h
    generalize hu : { s with mem := { s.mem with steps := [4, 5, 7] } } = u
    have hur : u.regs = s.regs := by rw [← hu]
    have hub : u.brk = s.brk := by rw [← hu]
    obtain ⟨hmem, hbrk, hr⟩ := selfRefreshOff_fields u
    generalize selfRefreshOff u = v at *
    obtain ⟨hp, hself, hsteps, hb, hr'⟩ := setPauses_fields v
    refine ⟨by rw [hself, hmem], by rw [hb, hbrk, hub], (RegsButAll.of_regs_eq hur).trans (hr.trans hr'),
      fun _ _ => ⟨by rw [hsteps, hmem, ← hu], hp⟩, fun hle => by omega⟩
  · rename_i h
    obtain ⟨hmem, hbrk, hr⟩ := selfRefreshOff_fields s
    refine ⟨by rw [hmem], hbrk, hr, fun h1 h2 => absurd (by rw [h1, decide_eq_true h2]; rfl) h, fun _ => by rw [hmem]⟩

/-- A cove that something asks for wakes. -/
def wakeIfAsked (s : State) (c : Nat) : State := if wakeAsked s c then wakeCove c s else s

theorem CoveFrame.wakeIfAsked (s : State) (c : Nat) : CoveFrame s (Machine.wakeIfAsked s c) := .ite (.wakeCove c s) (.refl s)

theorem regsBut_wakeIfAsked (s : State) (c : Nat) : RegsBut [(.BRK_COVESTAT, c)] s (wakeIfAsked s c) := by
  unfold wakeIfAsked
  split
  · exact regsBut_wakeCove c s
  · exact .refl _ s

theorem wakeAsked_of_coveFrame {s t : State} (h : CoveFrame s t) (c : Nat) : wakeAsked t c = wakeAsked s c := by
  have hcores : coveCores t c = coveCores s c := by rw [coveCores, h.bead, coveCores]
  rw [wakeAsked, h.brk, h.getF 0 (by decide), hcores, h.getF 0 (by decide), wakeAsked]

/-- An asked cove that was gated is waking after all asked ones have been woken. -/
theorem wakeAll_asked {c : Nat} {s : State} (hc : c < 16) (ha : wakeAsked s c = true) (h2 : coveState s c = 2) :
    coveState ((List.range 16).foldl wakeIfAsked s) c = 3 := by
  have hfold := foldl_read_of_mem (rd := fun u => (wakeAsked u c, coveState u c))
    (φ := fun p => (p.1, if p.1 = true ∧ p.2 = 2 then 3 else p.2)) (g := wakeIfAsked) (l := List.range 16)
    (fun u b _ hb => by
      rw [wakeAsked_of_coveFrame (.wakeIfAsked u b), coveState_congr (regsBut_wakeIfAsked u b _ _ (by simp [hb.symm]))])
    (fun u => by
      refine Prod.ext (wakeAsked_of_coveFrame (.wakeIfAsked u c) c) ?_
      dsimp only
      unfold wakeIfAsked
      by_cases ha : wakeAsked u c = true
      · rw [if_pos ha]
        by_cases h2 : coveState u c = 2
        · rw [if_pos ⟨ha, h2⟩, (wakeCove_gated h2).1]
        · rw [if_neg fun h => h2 h.2, wakeCove_other h2]
      · rw [if_neg ha, if_neg fun h => ha h.1]) List.nodup_range (List.mem_range.2 hc) s
  rw [ha, h2] at hfold
  exact (Prod.mk.inj hfold).2

/-- The state in which the coves wake at the end of slack. -/
def slackOver (s : State) : State := setF F.BRK_PSSTAT.STATE 0 (if fcode s = 3 then 0 else 1) (slackRetrain s)

theorem slackLeave_eq {s : State} (h : getF s F.BRK_PSSTAT.STATE = 2) :
    slackLeave s = wakeHeld ((List.range 16).foldl wakeIfAsked (slackOver s)) := if_neg (by simp [h])

theorem slackOver_fields (s : State) : getF (slackOver s) F.BRK_PSSTAT.STATE = (if fcode s = 3 then 0 else 1) ∧
    fcode (slackOver s) = fcode s ∧ (slackOver s).mem = (slackRetrain s).mem ∧ (slackOver s).brk = s.brk ∧
    (∀ r i, r ≠ .BRK_PSSTAT → r ≠ .MEM_CHUP_LO → r ≠ .MEM_CHUP_HI → getReg (slackOver s) r i = getReg s r i) := by
  obtain ⟨-, hbrk, hr, -, -⟩ := slackRetrain_fields s
  have hlt : (if fcode s = 3 then 0 else 1) < 4 := by split <;> decide
  unfold slackOver
  generalize hx : (if fcode s = 3 then 0 else 1) = x at *
  generalize slackRetrain s = u at *
  refine ⟨getF_setF_of_lt (f := F.BRK_PSSTAT.STATE) (by decide) hlt 0 u, ?_, setF_mem .., (setF_brk ..).trans hbrk,
    fun r i h1 h2 h3 => ?_⟩
  · rw [fcode, getF_setF_of_bits (by decide) (by decide), getF, hr _ _ (by decide), ← getF, fcode]
  · rw [getReg_setF_of_reg (fun e => h1 e.symm), hr _ _ (by simp [h2, h3])]

/-- What the end of slack leaves. -/
theorem slackLeave_fields {s : State} (h3 : phase s = 3) (h2 : getF s F.BRK_PSSTAT.STATE = 2) :
    let t := slackLeave s
    getF t F.BRK_PSSTAT.STATE = (if fcode s = 3 then 0 else 1) ∧ fcode t = fcode s ∧ t.mem = (slackRetrain s).mem ∧
    clocksRun t = true ∧ (∀ c, c < 16 → s.brk.exitReq.getLsbD c = true → coveState s c = 2 → coveState t c = 3) := by
  obtain ⟨hst, hfc, hmem, hbrk, hr⟩ := slackOver_fields s
  rw [slackLeave_eq h2]
  generalize slackOver s = u at *
  have hne : getF u F.BRK_PSSTAT.STATE ≠ 2 := by
    rw [hst]
    split <;> decide
  have hframe : CoveFrame u (wakeHeld ((List.range 16).foldl wakeIfAsked u)) :=
    (CoveFrame.foldl CoveFrame.wakeIfAsked _ u).trans (.wakeHeld _)
  have hphase : phase u = 3 := by
    rw [← h3, phase, getF, hr _ _ (by decide) (by decide) (by decide), ← getF, phase]
  have hcove : ∀ c, c < 16 → s.brk.exitReq.getLsbD c = true → coveState s c = 2 →
      coveState (wakeHeld ((List.range 16).foldl wakeIfAsked u)) c = 3 := fun c hc hreq hgated => by
    have hu2 : coveState u c = 2 := (coveState_congr (hr _ _ (by decide) (by decide) (by decide))).trans hgated
    have hasked : wakeAsked u c = true := by
      rw [wakeAsked, hbrk, hreq, bne_iff_ne.2 hne]
      simp
    have h3' := wakeAll_asked hc hasked hu2
    obtain ⟨hheld, -⟩ := wakeHeld_fields ((List.range 16).foldl wakeIfAsked u)
    rw [hheld c hc, h3', if_neg fun h => absurd h.2 (by decide)]
  generalize wakeHeld ((List.range 16).foldl wakeIfAsked u) = t at *
  have htst : getF t F.BRK_PSSTAT.STATE = getF u F.BRK_PSSTAT.STATE := hframe.getF 0 (by decide)
  refine ⟨htst.trans hst, ?_, hframe.mem.trans hmem, ?_, hcove⟩
  · rw [fcode, hframe.getF 0 (by decide), ← fcode, hfc]
  · have htp : phase t = 3 := by rw [phase, hframe.getF 0 (by decide), ← phase, hphase]
    rw [clocksRun, htp, htst, bne_iff_ne.2 hne]
    rfl

/-! #### The obligation -/

/-- A clause on a step of the clock. -/
theorem completes_clock {i : Instr} {f : State → State} {s : State} {p : State → Prop} (hrun : clocksRun s = true)
    (he : exec i s = onClock s f) (h : p (f s)) : Completes i s p := ⟨f s, he.trans (onClock_of_runs hrun f), h⟩

/-- Settles O49: the clock from the loop and the caps, and the coves one by one. -/
theorem clockAndCoves : Obligations.ClockAndCoves := by
  unfold Obligations.ClockAndCoves
  refine ⟨fun cause s h => (fcodeUpdate_fields cause h).1,
    fun pct s hrun hf hcl _ => ⟨fun he => ?_, fun hlt => ⟨fun hp hf' => ?_, fun hp he hcap => ?_, fun hp hf' => ?_, fun hlo hhi => ?_⟩⟩,
    fun low spare s hrun => ?_, fun k s => ⟨fun v => ?_, fun h => ?_, fun h => ?_⟩,
    fun c s hrun => ⟨fun h0 hidle => ?_, fun hidle => ?_⟩,
    fun c s h1 h5 => ⟨fun ha h2 => ?_, fun ha => ?_, fun h3 => ?_⟩, fun s h3 hrun hen hidle => ?_,
    fun coves s h3 h2 => ?_⟩
  · refine completes_clock hrun (f := avfsWindow pct) rfl ?_
    rw [avfsWindow_fixed he]
    obtain ⟨hloop, hclamp, -⟩ := loopTaken_fields (getF_lt s F.BRK_AVFSENV.FMIN 0) hcl
    exact ⟨hloop, hclamp⟩
  · refine completes_clock hrun (f := avfsWindow pct) rfl ?_
    rw [avfsWindow_slower (Nat.ne_of_lt hlt) hp hf']
    obtain ⟨hloop, -, hfc⟩ := loopTaken_fields (v := s.brk.loopF - 1) (by omega) hcl
    exact ⟨hloop, hfc⟩
  · refine completes_clock hrun (f := avfsWindow pct) rfl ?_
    rw [avfsWindow_lowest (Nat.ne_of_lt hlt) hp (by omega) hcap]
    exact clampBegin_freq hcl
  · refine completes_clock hrun (f := avfsWindow pct) rfl ?_
    have hmax : getF s F.BRK_AVFSENV.FMAX < 4 := getF_lt s F.BRK_AVFSENV.FMAX 0
    rw [avfsWindow_faster (Nat.ne_of_lt hlt) hp hf']
    obtain ⟨hloop, -, hfc⟩ := loopTaken_fields (v := s.brk.loopF + 1) (by omega) hcl
    exact ⟨hloop, hfc⟩
  · exact (onClock_of_runs hrun (avfsWindow pct)).trans (congrArg Host.Outcome.next (avfsWindow_kept (Nat.ne_of_lt hlt) hlo hhi hcl))
  · refine completes_clock hrun (f := avfsVoltageStep low spare) rfl ?_
    obtain ⟨hr, hcove⟩ := avfsVoltageStep_fields low spare s
    refine ⟨hr, fun c hc => ?_⟩
    obtain ⟨hst, hmv⟩ := hcove c hc
    refine ⟨hst, fun h2 => ?_, fun h2 hlow => ?_, fun h2 hlow h900 hfail hneed => ?_, fun h2 hlow hor => ?_⟩
    · rw [hmv, voltNext, if_pos h2]
    · rw [hmv, voltNext, if_neg h2, bitAt, hlow, if_neg Bool.false_ne_true, bitAt]
      simp only [Bool.and_eq_true, decide_eq_true_eq]
    · have hneed' : ¬getF s F.BRK_RAILSTAT.MV (c / 8) < railNeed (coveMv s c) := Nat.not_lt.2 hneed
      rw [hmv, voltNext, if_neg h2, bitAt, if_pos hlow, hfail, if_neg (by simp; omega), if_neg hneed']
    · rw [hmv, voltNext, if_neg h2, bitAt, if_pos hlow, if_pos hor]
  · exact ⟨_, rfl, avsDone_read k v.toNat v.isLt s⟩
  · exact ⟨_, rfl, avsDone_third_fields h⟩
  · refine ⟨_, rfl, ?_⟩
    rw [Option.map_none, avsDone_missed h]
    refine ⟨(mapGet_mapSet_same s.brk.avsMiss k 0 _).trans (by omega), rfl⟩
  · refine ⟨_, (onClock_of_runs hrun _).trans (congrArg Host.Outcome.next ?_), coveGate_fields c c.isLt s⟩
    rw [h0, hidle]
    rfl
  · refine (onClock_of_runs hrun _).trans (congrArg Host.Outcome.next ?_)
    rw [hidle, Bool.and_false]
    rfl
  · refine ⟨_, next_onlyIf (by simp [h1, h5, ha]) (wakeCove c) s, ?_⟩
    obtain ⟨hst, hlo, hhi, hr, -⟩ := wakeCove_gated h2
    exact ⟨hst, hlo, hhi, hr⟩
  · exact next_onlyIf_of_not (by simp [ha]) (wakeCove c) s
  · exact ⟨_, next_onlyIf (by simp [h1, h5, h3]) (coveWoken c) s, coveWoken_fields c c.isLt s⟩
  · have hframe : frameRuns s = true := by simp [frameRuns, hrun, h3]
    exact ⟨_, next_onlyIf (by simp [h3, hframe, hen, hidle]) slackEntry s, slackEntry_fields⟩
  · refine ⟨_, next_onlyIf (by simp [h3, h2]) _ s, ?_⟩
    dsimp only
    generalize hu : { s with brk := { s.brk with exitReq := s.brk.exitReq ||| coves } } = u
    have hur : u.regs = s.regs := by rw [← hu]
    have hum : u.mem = s.mem := by rw [← hu]
    have hut : u.time = s.time := by rw [← hu]
    have hreq : ∀ c, coves.getLsbD c = true → u.brk.exitReq.getLsbD c = true := fun c hc => by
      rw [← hu]
      simp [hc]
    have hfcode : fcode u = fcode s := getF_congr hur _ _
    obtain ⟨hst, hfc, hmem, hclk, hcove⟩ := slackLeave_fields (s := u) ((getF_congr hur _ _).trans h3) ((getF_congr hur _ _).trans h2)
    obtain ⟨hself, -, -, hlong, hshort⟩ := slackRetrain_fields u
    rw [hfcode] at hst hfc
    rw [hum, hut] at hlong hshort
    refine ⟨hst, hfc, by rw [hmem, hself], hclk, fun h1 ht => ?_, fun ht => ?_, fun c hc hb hg => ?_⟩
    · rw [hmem]
      exact hlong h1 ht
    · rw [hmem]
      exact hshort ht
    · exact hcove c hc (hreq c hb) ((coveState_congr (getReg_congr hur _ _)).trans hg)

end Sys2Proof.Machine

end


/-! ### Sensors, limits and the events that stop the die (R708-R725) -/
section

namespace Sys2Proof.Machine

/-! #### The die stops (R807) -/

theorem setPhase_fields {p : Nat} (hp : p < 8) (s : State) : phase (setPhase p s) = p ∧
    RegsButAll [.GLB_STATUS, .GLB_PHASET] s (setPhase p s) := by
  rw [setPhase]
  refine ⟨?_, ?_⟩
  · rw [phase, getF_setF_of_reg (by decide), getF_setF_of_lt (by decide) hp]
  · exact RegsButAll.trans (.setF (f := F.GLB_STATUS.PHASE) (List.mem_cons_self ..) 0 p s)
      (.setF (f := F.GLB_PHASET.US) (by simp [F.GLB_PHASET.US]) p _ _)

/-- A field of the register `r` is set to 0 at the indices of a range. -/
theorem foldl_setF_zero {f : Fld} (hfits : f.fits = true) (n : Nat) (s : State) :
    (∀ i, i < n → getF ((List.range n).foldl (fun u i => setF f i 0 u) s) f i = 0) ∧
    RegsButAll [f.reg] s ((List.range n).foldl (fun u i => setF f i 0 u) s) ∧
    ((List.range n).foldl (fun u i => setF f i 0 u) s).brk = s.brk ∧
    ((List.range n).foldl (fun u i => setF f i 0 u) s).mem = s.mem := by
  refine ⟨fun i hi => ?_, ?_, foldl_read_of_kept (rd := fun u : State => u.brk) (fun u i _ => setF_brk ..) s,
    foldl_read_of_kept (rd := fun u : State => u.mem) (fun u i _ => setF_mem ..) s⟩
  · exact foldl_read_of_mem (rd := fun u => getF u f i) (φ := fun _ => 0) (g := fun u i => setF f i 0 u)
      (fun u b _ hb => getF_setF_of_index hb.symm ..) (fun u => getF_setF_of_lt hfits (Nat.two_pow_pos _) i u)
      List.nodup_range (List.mem_range.2 hi) s
  · generalize List.range n = l
    induction l generalizing s with
    | nil => exact .refl _ s
    | cons i l ih => exact (RegsButAll.setF (List.mem_cons_self ..) i 0 s).trans (ih (setF f i 0 s))

/-- What stopping the die leaves. -/
theorem dieStop_fields {code : Nat} {s : State} (h6 : phase s ≠ 6) (hcode : code < 65536) :
    phase (dieStop code s) = 6 ∧ getF (dieStop code s) F.GLB_FAILCODE.CODE = code ∧ getReg (dieStop code s) .TWY_UP 0 = 0 ∧
    (∀ p, p < 8 → portState (dieStop code s) p = 0) ∧ (∀ n, n < 24 → linkState (dieStop code s) n = 0) ∧
    (dieStop code s).brk = s.brk ∧ (dieStop code s).mem = s.mem := by
  unfold dieStop
  rw [if_neg h6]
  dsimp only
  obtain ⟨hp, -⟩ := setPhase_fields (p := 6) (by decide) s
  have hb : (setPhase 6 s).brk = s.brk := setPhase_brk ..
  have hm : (setPhase 6 s).mem = s.mem := setPhase_mem ..
  generalize setPhase 6 s = u at *
  have hc := getF_setF_of_lt (f := F.GLB_FAILCODE.CODE) (by decide) hcode 0 u
  have hp1 : phase (setF F.GLB_FAILCODE.CODE 0 code u) = 6 := by rw [phase, getF_setF_of_reg (by decide), ← phase, hp]
  have hb1 : (setF F.GLB_FAILCODE.CODE 0 code u).brk = s.brk := (setF_brk ..).trans hb
  have hm1 : (setF F.GLB_FAILCODE.CODE 0 code u).mem = s.mem := (setF_mem ..).trans hm
  generalize setF F.GLB_FAILCODE.CODE 0 code u = v at *
  obtain ⟨hport, hr, hb2, hm2⟩ := foldl_setF_zero (f := F.SHL_PSTAT.STATE) rfl 8 v
  generalize (List.range 8).foldl (fun u i => setF F.SHL_PSTAT.STATE i 0 u) v = w at *
  obtain ⟨hlink, hr', hb3, hm3⟩ := foldl_setF_zero (f := F.TWY_STATUS.STATE) rfl 24 w
  generalize (List.range 24).foldl (fun u i => setF F.TWY_STATUS.STATE i 0 u) w = x at *
  have hx : ∀ f : Fld, f.reg ≠ .TWY_STATUS → f.reg ≠ .SHL_PSTAT → ∀ i, getF x f i = getF v f i := fun f h1 h2 i => by
    rw [getF, hr' _ _ (mt List.mem_singleton.1 h1), hr _ _ (mt List.mem_singleton.1 h2), getF]
  have hup : ∀ f : Fld, f.reg ≠ .TWY_UP → ∀ i, getF (setReg .TWY_UP 0 0 x) f i = getF x f i := fun f h i =>
    getF_setReg_of_reg (fun e => h e.symm) ..
  refine ⟨?_, ?_, by rw [getReg_setReg, if_pos ⟨rfl, rfl⟩], fun p hp => ?_, fun n hn => ?_, by rw [setReg_brk, hb3, hb2, hb1],
    by rw [setReg_mem, hm3, hm2, hm1]⟩
  · rw [phase, hup _ (by decide), hx _ (by decide) (by decide), ← phase, hp1]
  · rw [hup _ (by decide), hx _ (by decide) (by decide), hc]
  · rw [portState, hup _ (by decide), getF, hr' _ _ (by decide), ← getF]
    exact hport p hp
  · rw [linkState, hup _ (by decide)]
    exact hlink n hn

theorem fatal_fields {e : EvArgs} {s : State} (h6 : phase s ≠ 6) (hcode : e.code < 65536) :
    phase (fatal e s) = 6 ∧ getF (fatal e s) F.GLB_FAILCODE.CODE = e.code ∧ getReg (fatal e s) .TWY_UP 0 = 0 ∧
    (∀ p, p < 8 → portState (fatal e s) p = 0) ∧ (∀ n, n < 24 → linkState (fatal e s) n = 0) ∧
    (fatal e s).brk = s.brk ∧ (fatal e s).mem = s.mem := by
  rw [fatal]
  have hp : phase (post { e with sev := some 3 } s) = phase s := getF_post _ _ _ _ rfl
  have hb : (post { e with sev := some 3 } s).brk = s.brk := post_brk ..
  have hm : (post { e with sev := some 3 } s).mem = s.mem := post_mem ..
  generalize post { e with sev := some 3 } s = u at *
  obtain ⟨h1, h2, h3, h4, h5, hbrk, hmem⟩ := dieStop_fields (s := u) (by rw [hp]; exact h6) hcode
  exact ⟨h1, h2, h3, h4, h5, hbrk.trans hb, hmem.trans hm⟩

theorem clocksRun_of_phase_six {s : State} (h : phase s = 6) : clocksRun s = false := by
  rw [clocksRun, h]
  rfl

theorem selfRefreshOn_brk (s : State) : (selfRefreshOn s).brk = s.brk := by
  unfold selfRefreshOn
  split
  · rfl
  · rw [showChannels_eq, set64_brk]

theorem thermalTrip_fields {t : Nat} {s : State} (h6 : phase s ≠ 6) : (thermalTrip t s).brk.thermTrip = true ∧
    (thermalTrip t s).mem.selfRefresh = true ∧ phase (thermalTrip t s) = 6 ∧
    getF (thermalTrip t s) F.GLB_FAILCODE.CODE = Ev.BRK_TRIP := by
  unfold thermalTrip
  generalize hu : { s with brk := { s.brk with thermTrip := true } } = u
  have hur : u.regs = s.regs := by rw [← hu]
  have hub : u.brk.thermTrip = true := by rw [← hu]
  obtain ⟨hself, hr⟩ := selfRefreshOn_fields u
  have hb := selfRefreshOn_brk u
  have hp : phase (selfRefreshOn u) ≠ 6 := by
    rw [phase, hr.getF .GLB_STATUS 0 (by simp), getF_congr hur]
    exact h6
  generalize selfRefreshOn u = v at *
  obtain ⟨h1, h2, -, -, -, hbrk, hmem⟩ := fatal_fields (e := { code := Ev.BRK_TRIP, inst := t }) hp
    (show Ev.BRK_TRIP < 65536 by decide)
  exact ⟨by rw [hbrk, hb, hub], by rw [hmem, hself], h1, h2⟩

/-! #### Droop (R708, R709) -/

/-- DRP of a cove as the comparators at work have it. -/
def droops (trips : Map Bool) (c : Nat) : Bool := trips.any (fun (e : Nat × Bool) => (tripCoves e.1).contains c)

theorem droopSync_fields (s : State) : flag (droopSync s) F.BRK_PSSTAT.DROOP = !s.brk.trips.isEmpty ∧
    (∀ c, c < 16 → flag (droopSync s) F.BRK_COVESTAT.DRP c = droops s.brk.trips c) ∧
    RegsButAll [.BRK_COVESTAT, .BRK_PSSTAT] s (droopSync s) ∧ (droopSync s).brk = s.brk := by
  unfold droopSync
  dsimp only
  have hdrp : ∀ c, c < 16 → flag ((List.range 16).foldl (fun u c => setF F.BRK_COVESTAT.DRP c (boolNat (droops s.brk.trips c)) u) s)
      F.BRK_COVESTAT.DRP c = droops s.brk.trips c := fun c hc =>
    foldl_read_of_mem (rd := fun u => flag u F.BRK_COVESTAT.DRP c) (φ := fun _ => droops s.brk.trips c)
      (g := fun u c => setF F.BRK_COVESTAT.DRP c (boolNat (droops s.brk.trips c)) u)
      (fun u b _ hb => flag_congr (getF_setF_of_index hb.symm ..)) (fun u => flag_setF_boolNat rfl rfl c _ u)
      List.nodup_range (List.mem_range.2 hc) s
  have hbrk : ((List.range 16).foldl (fun u c => setF F.BRK_COVESTAT.DRP c (boolNat (droops s.brk.trips c)) u) s).brk = s.brk :=
    foldl_read_of_kept (rd := fun u : State => u.brk) (fun u c _ => setF_brk ..) s
  have hregs : ∀ (l : List Nat) (u : State),
      RegsButAll [.BRK_COVESTAT] u (l.foldl (fun u c => setF F.BRK_COVESTAT.DRP c (boolNat (droops s.brk.trips c)) u) u) := fun l => by
    induction l with
    | nil => exact fun u => .refl _ u
    | cons c l ih =>
      exact fun u => (RegsButAll.setF (f := F.BRK_COVESTAT.DRP) (List.mem_cons_self ..) c _ u).trans (ih _)
  have hr := hregs (List.range 16) s
  unfold droops at hdrp hbrk hr ⊢
  generalize (List.range 16).foldl (fun u c => setF F.BRK_COVESTAT.DRP c (boolNat (s.brk.trips.any
    (fun (e : Nat × Bool) => (tripCoves e.1).contains c))) u) s = v at *
  refine ⟨flag_setF_boolNat rfl rfl 0 _ v, fun c hc => ?_, ?_, by rw [setF_brk, hbrk]⟩
  · rw [flag, getF_setF_of_reg (by decide), ← flag]
    exact hdrp c hc
  · exact (hr.mono (by simp)).trans (.setF (f := F.BRK_PSSTAT.DROOP) (by simp [F.BRK_PSSTAT.DROOP]) 0 _ v)

theorem nodup_tripCoves (src : Nat) : (tripCoves src).Nodup := by
  unfold tripCoves
  split
  · exact List.pairwise_singleton _ _
  · exact List.nodup_range.filter _

theorem tripCoves_lt {src c : Nat} (h : c ∈ tripCoves src) : c < 16 := by
  unfold tripCoves at h
  split at h
  · rw [List.mem_singleton] at h
    omega
  · exact List.mem_range.1 (List.mem_filter.1 h).1

theorem mem_of_mapFind {α : Type} {m : Map α} {k : Nat} {v : α} (h : mapFind m k = some v) : (k, v) ∈ m := by
  induction m with
  | nil => cases h
  | cons e m ih =>
    rw [mapFind] at h
    split at h
    · rename_i he
      obtain rfl := Option.some.inj h
      subst he
      exact List.mem_cons_self ..
    · exact List.mem_cons_of_mem _ (ih h)

theorem droops_mapIns {m : Map Bool} {src c : Nat} (b : Bool) (h : c ∈ tripCoves src) : droops (mapIns m src b) c = true := by
  rw [droops, List.any_eq_true]
  exact ⟨(src, b), mem_of_mapFind (mapFind_mapIns_same m src b), by simpa using h⟩

/-- What a droop trip leaves: the coves that the comparator throttles are limited and counted. -/
theorem droopTrip_fields (src : Nat) (s : State) : flag (droopTrip src s) F.BRK_PSSTAT.DROOP = true ∧
    mapFind (droopTrip src s).brk.trips src = some false ∧
    ∀ c ∈ tripCoves src, flag (droopTrip src s) F.BRK_COVESTAT.DRP c = true ∧
      getF (droopTrip src s) F.BRK_DROOPCNT.COUNT c
        = min (getF s F.BRK_DROOPCNT.COUNT c + 1) (2 ^ F.BRK_DROOPCNT.COUNT.width - 1) := by
  unfold droopTrip
  dsimp only
  have hcount : ∀ c ∈ tripCoves src, getF ((tripCoves src).foldl (fun u c => bump F.BRK_DROOPCNT.COUNT c u) s) F.BRK_DROOPCNT.COUNT c
      = min (getF s F.BRK_DROOPCNT.COUNT c + 1) (2 ^ F.BRK_DROOPCNT.COUNT.width - 1) := fun c hc =>
    foldl_read_of_mem (rd := fun u => getF u F.BRK_DROOPCNT.COUNT c)
      (φ := fun v => min (v + 1) (2 ^ F.BRK_DROOPCNT.COUNT.width - 1)) (g := fun u c => bump F.BRK_DROOPCNT.COUNT c u)
      (fun u b _ hb => getF_setF_of_index hb.symm ..) (fun u => getF_bump_same _ c u (by decide)) (nodup_tripCoves src) hc s
  generalize (tripCoves src).foldl (fun u c => bump F.BRK_DROOPCNT.COUNT c u) s = u at *
  generalize hv : { u with brk := { u.brk with trips := mapIns u.brk.trips src false } } = v
  have hvr : v.regs = u.regs := by rw [← hv]
  have hvt : v.brk.trips = mapIns u.brk.trips src false := by rw [← hv]
  obtain ⟨hdroop, hdrp, hr, hb⟩ := droopSync_fields v
  generalize droopSync v = w at *
  have hfind : mapFind v.brk.trips src = some false := by rw [hvt, mapFind_mapIns_same]
  refine ⟨?_, by rw [hb, hfind], fun c hc => ⟨by rw [hdrp c (tripCoves_lt hc), hvt, droops_mapIns false hc], ?_⟩⟩
  · cases ht : v.brk.trips
    case nil =>
      rw [ht] at hfind
      cases hfind
    case cons => rw [hdroop, ht]; rfl
  · rw [getF, hr _ _ (by decide), getReg_congr hvr, ← getF]
    exact hcount c hc

theorem droopHoldEnd_fields {src : Nat} {s : State} (h : s.brk.trips = [(src, true)]) :
    let t := droopSync { s with brk := { s.brk with trips := mapDel s.brk.trips src } }
    flag t F.BRK_PSSTAT.DROOP = false ∧ t.brk.trips = [] ∧ (∀ c, c < 16 → flag t F.BRK_COVESTAT.DRP c = false) ∧
      RegsButAll [.BRK_COVESTAT, .BRK_PSSTAT] s t := by
  generalize hv : { s with brk := { s.brk with trips := mapDel s.brk.trips src } } = v
  have hvr : v.regs = s.regs := by rw [← hv]
  have hvt : v.brk.trips = [] := by
    rw [← hv]
    simp [h, mapDel]
  obtain ⟨hdroop, hdrp, hr, hb⟩ := droopSync_fields v
  generalize droopSync v = w at *
  exact ⟨by rw [hdroop, hvt]; rfl, by rw [hb, hvt], fun c hc => by rw [hdrp c hc, hvt]; rfl,
    (RegsButAll.of_regs_eq hvr).trans hr⟩

/-! #### Current sensors (R714, R715) -/

theorem senseNext_switches {x : CurSense} (lo hi : Nat) (h : x.dual = 1) :
    (senseNext x lo hi).high = !x.high ∧ (senseNext x lo hi).hold = 4 ∧ (senseNext x lo hi).dual = 0 := by
  unfold senseNext
  dsimp only
  rw [if_pos (by omega), if_pos h]
  exact ⟨rfl, rfl, rfl⟩

theorem senseNext_leaves_low {x : CurSense} {lo : Nat} (hi : Nat) (hd : x.dual = 0) (hh : x.high = false) (hold : x.hold = 0)
    (hlo : 15019 ≤ lo) : (senseNext x lo hi).dual = 4 := by
  unfold senseNext
  dsimp only
  rw [if_neg (by omega), if_neg (by omega), if_pos (by simp [hh, hlo])]

theorem senseNext_leaves_high {x : CurSense} {hi : Nat} (lo : Nat) (hd : x.dual = 0) (hh : x.high = true) (hold : x.hold = 0)
    (hhi : hi ≤ 1228) (hrun : 15 ≤ x.run) : (senseNext x lo hi).dual = 4 := by
  unfold senseNext
  dsimp only
  rw [if_neg (by omega), if_neg (by omega), if_neg (by simp [hh]), if_pos (by simp [hh, hhi]; omega)]

/-! #### Temperature (R719-R723) -/

/-- What a sample leaves alone once it is taken: the sensors' registers, and their runs of hot samples. -/
structure TempFrame (s t : State) : Prop where
  temp : ∀ i, getReg t .BRK_TEMP i = getReg s .BRK_TEMP i
  sens : ∀ c, getF t F.RFB_REFSTAT.SENSFAIL c = getF s F.RFB_REFSTAT.SENSFAIL c
  hot : t.brk.hotRun = s.brk.hotRun

namespace TempFrame

theorem refl (s : State) : TempFrame s s := ⟨fun _ => rfl, fun _ => rfl, rfl⟩

theorem trans {s t u : State} (h : TempFrame s t) (k : TempFrame t u) : TempFrame s u :=
  ⟨fun i => (k.temp i).trans (h.temp i), fun c => (k.sens c).trans (h.sens c), k.hot.trans h.hot⟩

theorem ite {c : Prop} [Decidable c] {s t u : State} (ht : TempFrame s t) (hu : TempFrame s u) :
    TempFrame s (if c then t else u) := by
  split
  · exact ht
  · exact hu

theorem of_regs {l : List Reg} {s t : State} (h : RegsButAll l s t) (hb : t.brk.hotRun = s.brk.hotRun)
    (ht : Reg.BRK_TEMP ∉ l := by decide) (hs : Reg.RFB_REFSTAT ∉ l := by decide) : TempFrame s t :=
  ⟨fun i => h _ i ht, fun c => congrArg (bitsAt · 3 1) (h .RFB_REFSTAT c hs), hb⟩

theorem of_eq {s t : State} (h : t.regs = s.regs) (hb : t.brk.hotRun = s.brk.hotRun) : TempFrame s t :=
  of_regs (l := []) (.of_regs_eq h) hb

theorem setF {f : Fld} (hf : f.fits = true) (ht : f.reg ≠ .BRK_TEMP)
    (hs : f.reg ≠ .RFB_REFSTAT ∨ f.bit + f.width ≤ 3 ∨ 4 ≤ f.bit) (i v : Nat) (s : State) : TempFrame s (Machine.setF f i v s) := by
  refine ⟨fun j => getReg_setF_of_reg ht .., fun c => ?_, by rw [setF_brk]⟩
  rcases hs with hs | hs | hs
  · exact getF_setF_of_reg hs ..
  · exact getF_setF_of_bits (f := f) (g := F.RFB_REFSTAT.SENSFAIL) hf (.inl hs) ..
  · exact getF_setF_of_bits (f := f) (g := F.RFB_REFSTAT.SENSFAIL) hf (.inr hs) ..

theorem setReg {r : Reg} (ht : r ≠ .BRK_TEMP) (hs : r ≠ .RFB_REFSTAT) (i : Nat) (v : BitVec 32) (s : State) :
    TempFrame s (Machine.setReg r i v s) :=
  ⟨fun j => by rw [getReg_setReg, if_neg fun e => ht e.1.symm], fun c => getF_setReg_of_reg hs .., by rw [setReg_brk]⟩

theorem post (e : EvArgs) (s : State) : TempFrame s (Machine.post e s) := of_regs (.post e s) (by rw [post_brk])

theorem bump {f : Fld} (hf : f.fits = true) (ht : f.reg ≠ .BRK_TEMP) (hs : f.reg ≠ .RFB_REFSTAT) (i : Nat) (s : State) :
    TempFrame s (Machine.bump f i s) := setF hf ht (.inl hs) i _ s

theorem policyOverride (loop inst cause : Nat) (s : State) : TempFrame s (Machine.policyOverride loop inst cause s) := by
  rw [policyOverride_eq]
  exact (post _ s).trans (bump rfl (by decide) (by decide) 0 _)

theorem showBand (c b : Nat) (s : State) : TempFrame s (Machine.showBand c b s) := by
  unfold Machine.showBand
  dsimp only
  have hband := setF (f := F.RFB_REFSTAT.BAND) rfl (by decide) (.inr (by decide)) c b s
  have hover : ∀ v, TempFrame s (Machine.setF F.RFB_REFSTAT.OVERRIDE c v (Machine.setF F.RFB_REFSTAT.BAND c b s)) := fun v =>
    hband.trans (setF (f := F.RFB_REFSTAT.OVERRIDE) rfl (by decide) (.inr (by decide)) c v _)
  exact ite ((hover _).trans (policyOverride _ _ _ _)) (hover _)

theorem clampStatus (loop inst : Nat) (on : Bool) (s : State) : TempFrame s (Machine.clampStatus loop inst on s) := by
  unfold Machine.clampStatus
  dsimp only
  have hst : ∀ v, TempFrame s (Machine.setReg .BRK_CLAMPST 0 v s) := fun v => setReg (by decide) (by decide) 0 v s
  exact ite ((hst _).trans (setF (f := F.TWY_CLAMP.ACTIVE) rfl (by decide) (.inl (by decide)) _ _ _))
    (ite ((hst _).trans (setReg (by decide) (by decide) _ _ _)) (hst _))

theorem clampEnd (loop inst : Nat) (s : State) : TempFrame s (Machine.clampEnd loop inst s) := by
  unfold Machine.clampEnd
  split
  · exact refl s
  · rename_i c _
    dsimp only
    generalize hu : { s with brk := { s.brk with clamps := s.brk.clamps.erase c } } = u
    have hs : TempFrame s u := of_eq (by rw [← hu]) (by rw [← hu])
    refine trans (hs.trans ?_) (clampStatus loop inst false _)
    refine trans ?_ (post _ _)
    exact ite (setReg (by decide) (by decide) _ _ u)
      (ite (setReg (by decide) (by decide) _ _ u) (setReg (by decide) (by decide) _ _ u))

theorem refreshUpdate (c : Nat) (s : State) : TempFrame s (Machine.refreshUpdate c s) := by
  unfold Machine.refreshUpdate
  dsimp only
  have hband := fun b => (showBand c b s).trans (of_eq (noteCool_regs c _) rfl)
  generalize max _ (getF s F.RFB_REFSTAT.BAND c) = b
  have hb := hband b
  generalize noteCool c (Machine.showBand c b s) = u at hb ⊢
  refine ite hb (hb.trans (trans ?_ (clampEnd 4 c _)))
  exact of_eq rfl rfl

end TempFrame

/-- Setting the frame clock leaves alone, whatever the loop has chosen: all but these registers, and the rest of Breakwater. -/
theorem fcodeUpdate_frame (cause : Nat) (s : State) : RegsButAll clockRegs s (fcodeUpdate cause s) ∧
    ∃ l, (fcodeUpdate cause s).brk = { s.brk with overs := l } := by
  obtain ⟨out, heq⟩ := fcodeUpdate_eq cause s
  rw [heq]
  have hset : RegsButAll [.BRK_PSSTAT, .BRK_COVESTAT] s (if fcodeWanted s = fcode s then s else fcodeSet (fcodeWanted s) s) ∧
      (if fcodeWanted s = fcode s then s else fcodeSet (fcodeWanted s) s).brk = s.brk := by
    split
    · exact ⟨.refl _ s, rfl⟩
    · unfold fcodeSet
      generalize (if getF s F.BRK_PSSTAT.STATE = 2 then 2 else if fcodeWanted s = 3 then 0 else 1) = x
      generalize fcodeWanted s = v
      have hr := RegsButAll.setF (f := F.BRK_PSSTAT.FCODE) (l := [.BRK_PSSTAT, .BRK_COVESTAT]) (by decide) 0 v s
      have hr' := RegsButAll.setF (f := F.BRK_PSSTAT.STATE) (l := [.BRK_PSSTAT, .BRK_COVESTAT]) (by decide) 0 x
        (setF F.BRK_PSSTAT.FCODE 0 v s)
      have hc := CoveFrame.coveTargets (setF F.BRK_PSSTAT.STATE 0 x (setF F.BRK_PSSTAT.FCODE 0 v s))
      exact ⟨(hr.trans hr').trans (hc.regs.mono (by simp)), by rw [hc.brk, setF_brk, setF_brk]⟩
  generalize (if fcodeWanted s = fcode s then s else fcodeSet (fcodeWanted s) s) = u at *
  obtain ⟨hr, hb⟩ := hset
  obtain ⟨hor, l, hob⟩ := overFrame_overrideSet 3 0 cause out u
  exact ⟨(hr.mono (by simp [clockRegs])).trans (hor.mono fun r h => by simp only [clockRegs, List.mem_cons] at h ⊢; exact .inr (.inr h)),
    l, by rw [hob, hb]⟩

theorem TempFrame.fcodeUpdate (cause : Nat) (s : State) : TempFrame s (Machine.fcodeUpdate cause s) := by
  obtain ⟨hr, l, hl⟩ := fcodeUpdate_frame cause s
  exact of_regs hr (by rw [hl])

theorem TempFrame.throttleBegin (s : State) : TempFrame s (Machine.throttleBegin s) := by
  unfold Machine.throttleBegin
  dsimp only
  refine ite (refl s) ?_
  generalize hu : { s with brk := { s.brk with capT := fcode s - 1 } } = u
  have hs : TempFrame s u := of_eq (by rw [← hu]) (by rw [← hu])
  refine (hs.trans (setF (f := F.BRK_PSSTAT.THROTTLE) rfl (by decide) (.inl (by decide)) 0 1 u)).trans ?_
  refine (bump (f := F.BRK_THRCNT.COUNT) rfl (by decide) (by decide) 0 _).trans ((post _ _).trans (fcodeUpdate _ _))

/-- A sample of sensor t is taken over. -/
def sampleTaken (t : Nat) (q : BitVec 12) (fail : Bool) (s : State) : State :=
  setF F.BRK_TEMP.FAIL t (boolNat fail) (if fail then s else setF F.BRK_TEMP.TEMP t q.toNat s)

theorem sampleTaken_fields (t : Nat) (q : BitVec 12) (fail : Bool) (s : State) :
    flag (sampleTaken t q fail s) F.BRK_TEMP.FAIL t = fail ∧ (fail = false → getF (sampleTaken t q fail s) F.BRK_TEMP.TEMP t = q.toNat) ∧
    (sampleTaken t q fail s).brk = s.brk := by
  unfold sampleTaken
  refine ⟨flag_setF_boolNat rfl rfl t fail _, fun hf => ?_, ?_⟩
  · rw [getF_setF_of_bits (by decide) (by decide), if_neg (by simp [hf]), getF_setF_of_lt (by decide) q.isLt]
  · rw [setF_brk]
    split
    · rfl
    · exact setF_brk ..

/-- What follows a sample: the failed sensors of its cove, the event, the hottest sensor, refresh and throttle. -/
def sampleShown (t : Nat) (tell : Bool) (s : State) : State :=
  let s3 := setF F.RFB_REFSTAT.SENSFAIL (t / 4) (boolNat ((List.range 4).any (fun k => sensorFail s (4 * (t / 4) + k)))) s
  let s4 := if tell then post { code := Ev.RFB_SENSOR, inst := t } s3 else s3
  let s5 := match hottestSensor s4 with
    | some (h, i) => setF F.BRK_THERM.HOTIDX 0 i (setF F.BRK_THERM.HOTTEST 0 (h / 4).toNat s4)
    | none => s4
  throttleBegin (refreshUpdate (t / 4) s5)

theorem tempSample_eq (t : Nat) (q : BitVec 12) (fail : Bool) (s : State) : ∃ seen, tempSample t q fail s =
    sampleShown t (fail && !sensorFail s t) (sampleTaken t q fail { s with brk := { s.brk with
      tempSeen := seen
      hotRun := mapSet s.brk.hotRun t 0 (min (if (!fail && decide (460 ≤ q.toInt)) = true then mapGet s.brk.hotRun t 0 + 1 else 0) 2) } }) :=
  ⟨_, rfl⟩

theorem sampleShown_fields (t : Nat) (tell : Bool) (s : State) :
    (∀ i, getReg (sampleShown t tell s) .BRK_TEMP i = getReg s .BRK_TEMP i) ∧
    flag (sampleShown t tell s) F.RFB_REFSTAT.SENSFAIL (t / 4) = (List.range 4).any (fun k => sensorFail s (4 * (t / 4) + k)) ∧
    (sampleShown t tell s).brk.hotRun = s.brk.hotRun := by
  unfold sampleShown
  dsimp only
  generalize (List.range 4).any (fun k => sensorFail s (4 * (t / 4) + k)) = b
  have hset := flag_setF_boolNat (f := F.RFB_REFSTAT.SENSFAIL) rfl rfl (t / 4) b s
  have htemp : ∀ i, getReg (setF F.RFB_REFSTAT.SENSFAIL (t / 4) (boolNat b) s) .BRK_TEMP i = getReg s .BRK_TEMP i :=
    fun i => getReg_setF_of_reg (by decide) ..
  have hbrk : (setF F.RFB_REFSTAT.SENSFAIL (t / 4) (boolNat b) s).brk = s.brk := setF_brk ..
  generalize setF F.RFB_REFSTAT.SENSFAIL (t / 4) (boolNat b) s = u at *
  have h4 : TempFrame u (if tell = true then post { code := Ev.RFB_SENSOR, inst := t } u else u) := .ite (.post _ u) (.refl u)
  generalize (if tell = true then post { code := Ev.RFB_SENSOR, inst := t } u else u) = v at *
  have h5 : TempFrame u (throttleBegin (refreshUpdate (t / 4) (match hottestSensor v with
      | some (h, i) => setF F.BRK_THERM.HOTIDX 0 i (setF F.BRK_THERM.HOTTEST 0 (h / 4).toNat v)
      | none => v))) := by
    refine (h4.trans ?_).trans ((TempFrame.refreshUpdate _ _).trans (.throttleBegin _))
    cases hottestSensor v
    case none => exact .refl v
    case some p =>
      exact (TempFrame.setF (f := F.BRK_THERM.HOTTEST) rfl (by decide) (.inl (by decide)) 0 _ v).trans
        (TempFrame.setF (f := F.BRK_THERM.HOTIDX) rfl (by decide) (.inl (by decide)) 0 _ _)
  exact ⟨fun i => (h5.temp i).trans (htemp i), (flag_congr (h5.sens _)).trans hset, by rw [h5.hot, hbrk]⟩

/-- What a temperature sample leaves. -/
theorem tempSample_fields (t : Nat) (q : BitVec 12) (fail : Bool) (s : State) :
    flag (tempSample t q fail s) F.BRK_TEMP.FAIL t = fail ∧
    (fail = false → getF (tempSample t q fail s) F.BRK_TEMP.TEMP t = q.toNat) ∧
    mapGet (tempSample t q fail s).brk.hotRun t 0
      = (if fail = false ∧ 460 ≤ q.toInt then min (mapGet s.brk.hotRun t 0 + 1) 2 else 0) ∧
    (fail = true → flag (tempSample t q fail s) F.RFB_REFSTAT.SENSFAIL (t / 4) = true) := by
  obtain ⟨seen, heq⟩ := tempSample_eq t q fail s
  rw [heq]
  generalize hu : ({ s with brk := { s.brk with
      tempSeen := seen
      hotRun := mapSet s.brk.hotRun t 0 (min (if (!fail && decide (460 ≤ q.toInt)) = true then mapGet s.brk.hotRun t 0 + 1 else 0) 2) } }
        : State) = u
  have hhot : u.brk.hotRun = mapSet s.brk.hotRun t 0
      (min (if (!fail && decide (460 ≤ q.toInt)) = true then mapGet s.brk.hotRun t 0 + 1 else 0) 2) := by rw [← hu]
  obtain ⟨hfail, htemp, hb⟩ := sampleTaken_fields t q fail u
  generalize sampleTaken t q fail u = v at *
  obtain ⟨hreg, hsens, hrun⟩ := sampleShown_fields t (fail && !sensorFail s t) v
  generalize sampleShown t (fail && !sensorFail s t) v = w at *
  have hfld : ∀ f : Fld, f.reg = .BRK_TEMP → getF w f t = getF v f t := fun f hf => by rw [getF, hf, hreg, getF, hf]
  refine ⟨(flag_congr (hfld _ rfl)).trans hfail, fun h => (hfld _ rfl).trans (htemp h), ?_, fun h => ?_⟩
  · rw [hrun, hb, hhot, mapGet_mapSet_same]
    by_cases hc : fail = false ∧ 460 ≤ q.toInt
    · rw [if_pos hc, if_pos (by simp [hc.1, hc.2])]
    · rw [if_neg hc, if_neg (by simpa using hc)]
      rfl
  · rw [hsens, List.any_eq_true]
    refine ⟨t % 4, List.mem_range.2 (Nat.mod_lt _ (by decide)), ?_⟩
    rw [Nat.div_add_mod, sensorFail, hfail, h]

/-! #### The throttle (R720, R721) -/

/-- A cap or the loop's choice is set, and the frame clock follows. -/
theorem fcodeUpdate_capped (cause : Nat) {s u : State} (hb : u.brk.loopF = s.brk.loopF) (h : s.brk.loopF < 4) :
    fcode (fcodeUpdate cause u) = min s.brk.loopF (min u.brk.capI u.brk.capT) ∧
    (fcodeUpdate cause u).brk.capI = u.brk.capI ∧ (fcodeUpdate cause u).brk.capT = u.brk.capT ∧
    (fcodeUpdate cause u).brk.railOver = u.brk.railOver ∧
    flag (fcodeUpdate cause u) F.BRK_PSSTAT.THROTTLE = flag u F.BRK_PSSTAT.THROTTLE ∧
    flag (fcodeUpdate cause u) F.BRK_PSSTAT.LIMIT = flag u F.BRK_PSSTAT.LIMIT ∧
    getF (fcodeUpdate cause u) F.BRK_THRCNT.COUNT = getF u F.BRK_THRCNT.COUNT := by
  obtain ⟨hf, hr, ⟨l, hl⟩, hbits⟩ := fcodeUpdate_fields cause (s := u) (by rw [hb]; exact h)
  refine ⟨by rw [hf, fcodeWanted, hb], by rw [hl], by rw [hl], by rw [hl], flag_congr (hbits _ rfl (by decide)),
    flag_congr (hbits _ rfl (by decide)), ?_⟩
  rw [getF, hr _ _ (by decide), getF]

theorem throttleRelease_cool {s : State} {q : Int} (ht : flag s F.BRK_PSSTAT.THROTTLE = true) (hq : dieTemp s = some q)
    (hc : q < throttleQ s - 12) : throttleRelease s =
      let s1 := { s with brk := { s.brk with capT := min 3 (s.brk.capT + 1) } }
      fcodeUpdate Ev.BRK_THROTTLE (if min 3 (s.brk.capT + 1) = 3 then setF F.BRK_PSSTAT.THROTTLE 0 0 s1 else s1) := by
  unfold throttleRelease
  rw [hq]
  exact if_pos (by rw [ht]; dsimp only; rw [decide_eq_true hc]; rfl)

theorem throttleRelease_fields {s : State} {q : Int} (h : s.brk.loopF < 4) (ht : flag s F.BRK_PSSTAT.THROTTLE = true)
    (hq : dieTemp s = some q) (hc : q < throttleQ s - 12) :
    (throttleRelease s).brk.capT = min 3 (s.brk.capT + 1) ∧
    flag (throttleRelease s) F.BRK_PSSTAT.THROTTLE = decide (s.brk.capT < 2) ∧
    fcode (throttleRelease s) = min s.brk.loopF (min s.brk.capI (min 3 (s.brk.capT + 1))) := by
  rw [throttleRelease_cool ht hq hc]
  dsimp only
  generalize hu : { s with brk := { s.brk with capT := min 3 (s.brk.capT + 1) } } = u
  have hur : u.regs = s.regs := by rw [← hu]
  have hub : u.brk = { s.brk with capT := min 3 (s.brk.capT + 1) } := by rw [← hu]
  have hutr : flag u F.BRK_PSSTAT.THROTTLE = true := (flag_congr (getF_congr hur _ _)).trans ht
  have hset : (if min 3 (s.brk.capT + 1) = 3 then setF F.BRK_PSSTAT.THROTTLE 0 0 u else u).brk = u.brk ∧
      flag (if min 3 (s.brk.capT + 1) = 3 then setF F.BRK_PSSTAT.THROTTLE 0 0 u else u) F.BRK_PSSTAT.THROTTLE
        = decide (s.brk.capT < 2) := by
    split
    · refine ⟨setF_brk .., ?_⟩
      rw [flag, getF_setF_of_lt (by decide) (by decide), decide_eq_false (by omega)]
      rfl
    · exact ⟨rfl, by rw [hutr, decide_eq_true (by omega)]⟩
  generalize (if min 3 (s.brk.capT + 1) = 3 then setF F.BRK_PSSTAT.THROTTLE 0 0 u else u) = v at *
  obtain ⟨hvb, hvf⟩ := hset
  obtain ⟨hf, -, hcap, -, hthr, -, -⟩ := fcodeUpdate_capped Ev.BRK_THROTTLE (s := s) (u := v) (by rw [hvb, hub]) h
  exact ⟨by rw [hcap, hvb, hub], hthr.trans hvf, by rw [hf, hvb, hub]⟩

/-! #### Current limits (R712) -/

/-- A rail above its limit lowers the current cap. -/
def railCapped (k cap : Nat) (s : State) : State :=
  setF F.BRK_PSSTAT.LIMIT 0 1 { s with brk := { s.brk with capI := cap, railOver := putBit s.brk.railOver k true } }

theorem railCapped_fields {k : Nat} (hk : k < 4) (cap : Nat) (s : State) : flag (railCapped k cap s) F.BRK_PSSTAT.LIMIT = true ∧
    (railCapped k cap s).brk.capI = cap ∧ (railCapped k cap s).brk.capT = s.brk.capT ∧
    (railCapped k cap s).brk.loopF = s.brk.loopF ∧ (railCapped k cap s).brk.railOver.getLsbD k = true ∧
    getF (railCapped k cap s) F.BRK_THRCNT.COUNT = getF s F.BRK_THRCNT.COUNT := by
  unfold railCapped
  generalize hu : { s with brk := { s.brk with capI := cap, railOver := putBit s.brk.railOver k true } } = u
  have hur : u.regs = s.regs := by rw [← hu]
  refine ⟨flag_setF_one rfl rfl 0 u, by rw [setF_brk, ← hu], by rw [setF_brk, ← hu], by rw [setF_brk, ← hu], ?_, ?_⟩
  · rw [setF_brk, ← hu]
    exact (getLsbD_putBit _ hk _ _).trans (if_pos rfl)
  · rw [getF_setF_of_reg (by decide), getF_congr hur]

section
variable {k mean : Nat} {s : State} (calm : Bool) (hover : getF s F.BRK_RAILLIM.AMPS k * 1000 < mean)
include hover

/-- A limit's episode begins. -/
theorem railStep_begins (h0 : s.brk.railOver = 0) : railStep k mean calm s = fcodeUpdate Ev.BRK_RAILLIM
    (post { code := Ev.BRK_RAILLIM, inst := k, d0 := mean } (bump F.BRK_THRCNT.COUNT 0 (railCapped k (fcode s - 1) s))) := by
  have hep : (s.brk.railOver != 0) = false := by rw [h0]; rfl
  unfold railStep railCapped
  dsimp only
  rw [if_pos (by rw [decide_eq_true hover]; rfl), hep]
  simp only [Bool.false_eq_true, if_false]

theorem railStep_goes_on (h0 : s.brk.railOver ≠ 0) : railStep k mean calm s =
    fcodeUpdate Ev.BRK_RAILLIM (railCapped k (min s.brk.capI (fcode s) - 1) s) := by
  have hep : (s.brk.railOver != 0) = true := by simpa using h0
  unfold railStep railCapped
  dsimp only
  rw [if_pos (by rw [decide_eq_true hover]; rfl), hep]
  simp only [if_true]

end

theorem railStep_kept {k mean : Nat} {calm : Bool} {s : State} (hmean : mean ≤ getF s F.BRK_RAILLIM.AMPS k * 1000)
    (hbit : bitAt (getReg s .BRK_ISAMP (16 + k)) 16 = false) (h0 : s.brk.railOver = 0) : railStep k mean calm s = s := by
  unfold railStep
  dsimp only
  rw [if_neg (by rw [hbit, decide_eq_false (Nat.not_lt.2 hmean)]; decide), if_neg (by rw [h0]; simp)]

theorem railStep_begins_fields {k mean : Nat} (calm : Bool) {s : State} (hk : k < 4) (h : s.brk.loopF < 4)
    (hover : getF s F.BRK_RAILLIM.AMPS k * 1000 < mean) (h0 : s.brk.railOver = 0) :
    let t := railStep k mean calm s
    flag t F.BRK_PSSTAT.LIMIT = true ∧ t.brk.capI = fcode s - 1 ∧
    fcode t = min s.brk.loopF (min (fcode s - 1) s.brk.capT) ∧ t.brk.railOver.getLsbD k = true ∧
    getF t F.BRK_THRCNT.COUNT = min (getF s F.BRK_THRCNT.COUNT + 1) (2 ^ F.BRK_THRCNT.COUNT.width - 1) := by
  rw [railStep_begins calm hover h0]
  obtain ⟨hlim, hcap, hct, hloop, hbit, hcnt⟩ := railCapped_fields hk (fcode s - 1) s
  generalize railCapped k (fcode s - 1) s = u at *
  have hb : (post { code := Ev.BRK_RAILLIM, inst := k, d0 := mean } (bump F.BRK_THRCNT.COUNT 0 u)).brk = u.brk := by
    rw [post_brk, bump_brk]
  have hf : flag (post { code := Ev.BRK_RAILLIM, inst := k, d0 := mean } (bump F.BRK_THRCNT.COUNT 0 u)) F.BRK_PSSTAT.LIMIT = true := by
    rw [flag, getF_post _ _ _ _ rfl, getF_bump_of_reg (by decide), ← flag, hlim]
  have hc : getF (post { code := Ev.BRK_RAILLIM, inst := k, d0 := mean } (bump F.BRK_THRCNT.COUNT 0 u)) F.BRK_THRCNT.COUNT
      = min (getF s F.BRK_THRCNT.COUNT + 1) (2 ^ F.BRK_THRCNT.COUNT.width - 1) := by
    rw [getF_post _ _ _ _ rfl, getF_bump_same _ _ _ (by decide), hcnt]
  generalize post { code := Ev.BRK_RAILLIM, inst := k, d0 := mean } (bump F.BRK_THRCNT.COUNT 0 u) = v at *
  obtain ⟨hfc, hci, -, hro, -, hl, hcount⟩ := fcodeUpdate_capped Ev.BRK_RAILLIM (s := s) (u := v) (by rw [hb, hloop]) h
  exact ⟨hl.trans hf, by rw [hci, hb, hcap], by rw [hfc, hb, hcap, hct], by rw [hro, hb, hbit], hcount.trans hc⟩

theorem railStep_goes_on_fields {k mean : Nat} (calm : Bool) {s : State} (hk : k < 4) (h : s.brk.loopF < 4)
    (hover : getF s F.BRK_RAILLIM.AMPS k * 1000 < mean) (h0 : s.brk.railOver ≠ 0) :
    let t := railStep k mean calm s
    flag t F.BRK_PSSTAT.LIMIT = true ∧ t.brk.capI = min s.brk.capI (fcode s) - 1 ∧
    getF t F.BRK_THRCNT.COUNT = getF s F.BRK_THRCNT.COUNT := by
  rw [railStep_goes_on calm hover h0]
  obtain ⟨hlim, hcap, -, hloop, -, hcnt⟩ := railCapped_fields hk (min s.brk.capI (fcode s) - 1) s
  generalize railCapped k (min s.brk.capI (fcode s) - 1) s = u at *
  obtain ⟨-, hci, -, -, -, hl, hcount⟩ := fcodeUpdate_capped Ev.BRK_RAILLIM (s := s) (u := u) hloop h
  exact ⟨hl.trans hlim, hci.trans hcap, hcount.trans hcnt⟩

/-! #### Compute-die power (R724, R725) -/

/-- One port's limit is shown, and told to its compute die where it has changed. -/
def cdLimitShow (b u : State) (p : Nat) : State :=
  if getF u F.BRK_CDLIM.WATTS p = cdLimitOf b p then u
  else if portState b p = 3 then
    { setF F.BRK_CDLIM.WATTS p (cdLimitOf b p) u with
      out := (setF F.BRK_CDLIM.WATTS p (cdLimitOf b p) u).out ++ [.cdLimit p (cdLimitOf b p)] }
  else setF F.BRK_CDLIM.WATTS p (cdLimitOf b p) u

theorem cdLimitUpdate_eq (s : State) : cdLimitUpdate s = (List.range 8).foldl (cdLimitShow s) s := rfl

theorem regsBut_cdLimitShow (b u : State) (p : Nat) : RegsBut [(.BRK_CDLIM, p)] u (cdLimitShow b u p) := by
  have hset : RegsBut [(.BRK_CDLIM, p)] u (setF F.BRK_CDLIM.WATTS p (cdLimitOf b p) u) :=
    .setF (f := F.BRK_CDLIM.WATTS) (List.mem_cons_self ..) _ u
  unfold cdLimitShow
  split
  · exact .refl _ u
  · split
    · exact hset.trans (.of_regs_eq rfl)
    · exact hset

theorem watts_cdLimitShow {b : State} {p : Nat} (h : cdLimitOf b p < 65536) (u : State) :
    getF (cdLimitShow b u p) F.BRK_CDLIM.WATTS p = cdLimitOf b p := by
  have hset : getF (setF F.BRK_CDLIM.WATTS p (cdLimitOf b p) u) F.BRK_CDLIM.WATTS p = cdLimitOf b p :=
    getF_setF_of_lt (by decide) h p u
  unfold cdLimitShow
  split
  · rename_i he
    exact he
  · split
    · generalize setF F.BRK_CDLIM.WATTS p (cdLimitOf b p) u = v at *
      exact (getF_congr rfl _ _).trans hset
    · exact hset

theorem cdLimitUpdate_fields {s : State} (h : ∀ p, p < 8 → cdLimitOf s p < 65536) :
    (∀ p, p < 8 → getF (cdLimitUpdate s) F.BRK_CDLIM.WATTS p = cdLimitOf s p) ∧ RegsButAll [.BRK_CDLIM] s (cdLimitUpdate s) := by
  rw [cdLimitUpdate_eq]
  refine ⟨fun p hp => ?_, ?_⟩
  · exact foldl_read_of_mem (rd := fun u => getF u F.BRK_CDLIM.WATTS p) (φ := fun _ => cdLimitOf s p) (g := cdLimitShow s)
      (fun u q _ hq => (regsBut_cdLimitShow s u q).getF .BRK_CDLIM p (by simp [hq.symm])) (watts_cdLimitShow (h p hp))
      List.nodup_range (List.mem_range.2 hp) s
  · have hregs : ∀ (l : List Nat) (u : State), RegsButAll [.BRK_CDLIM] u (l.foldl (cdLimitShow s) u) := fun l => by
      induction l with
      | nil => exact fun u => .refl _ u
      | cons p l ih => exact fun u => ((regsBut_cdLimitShow s u p).toAll (by simp)).trans (ih _)
    exact hregs _ s

/-- The note of a port's power. -/
def cdNoted (p : Nat) (isOver : Bool) (s : State) : State :=
  { s with brk := { s.brk with cdOver := putBit s.brk.cdOver p isOver } }

theorem cdNoted_fields {p : Nat} (hp : p < 8) (isOver : Bool) (s : State) :
    (cdNoted p isOver s).brk.cdOver.getLsbD p = isOver ∧ (cdNoted p isOver s).regs = s.regs :=
  ⟨(getLsbD_putBit s.brk.cdOver hp _ _).trans (if_pos rfl), rfl⟩

theorem cdWindow_over {p : Nat} {s : State} (hp : p < 8) (h3 : portState s p = 3)
    (hover : getF s F.BRK_CDLIM.WATTS p * 105000 < cdPower s p) :
    (cdWindow p s).brk.cdOver.getLsbD p = true ∧ (s.brk.cdOver.getLsbD p = true → (cdWindow p s).regs = s.regs) ∧
      RegsButAll eventRegs s (cdWindow p s) := by
  have hisOver : (portState s p == 3 && decide (getF s F.BRK_CDLIM.WATTS p * 105000 < cdPower s p)) = true := by
    rw [h3, decide_eq_true hover]
    rfl
  have heq : cdWindow p s = if (!s.brk.cdOver.getLsbD p) = true then
      post { code := Ev.BRK_CDPWR, inst := p, d0 := cdPower s p / 100000 } (cdNoted p true s) else cdNoted p true s := by
    unfold cdWindow
    dsimp only
    rw [hisOver]
    rfl
  obtain ⟨hbit, hreg⟩ := cdNoted_fields hp true s
  rw [heq]
  generalize cdNoted p true s = u at *
  split
  · rename_i hn
    refine ⟨by rw [post_brk]; exact hbit, fun h => ?_, (RegsButAll.of_regs_eq hreg).trans (.post _ u)⟩
    rw [h] at hn
    cases hn
  · exact ⟨hbit, fun _ => hreg, .of_regs_eq hreg⟩

theorem cdWindow_within {p : Nat} {s : State} (hp : p < 8) (hle : cdPower s p ≤ getF s F.BRK_CDLIM.WATTS p * 105000) :
    (cdWindow p s).brk.cdOver.getLsbD p = false ∧ (cdWindow p s).regs = s.regs := by
  have hisOver : (portState s p == 3 && decide (getF s F.BRK_CDLIM.WATTS p * 105000 < cdPower s p)) = false := by
    rw [decide_eq_false (Nat.not_lt.2 hle), Bool.and_false]
  have heq : cdWindow p s = cdNoted p false s := by
    unfold cdWindow
    dsimp only
    rw [hisOver]
    rfl
  rw [heq]
  exact cdNoted_fields hp false s

/-! #### The obligation -/

/-- Settles O51: each sensor by its own rule, the caps by what setting the frame clock leaves. -/
theorem sensorsAndLimits : Obligations.SensorsAndLimits := by
  unfold Obligations.SensorsAndLimits
  refine ⟨fun src s hrun => ⟨?_, fun b hb => ?_, fun h => ?_⟩, fun c n s h1 h5 => ⟨?_, ?_⟩,
    fun t s h0 h6 hhot => ?_, fun e s h6 hcode => ?_,
    fun x lo hi => ⟨fun hd hh hold hlo => senseNext_leaves_low hi hd hh hold hlo,
      fun hd hh hold hhi hr => senseNext_leaves_high lo hd hh hold hhi hr, senseNext_switches lo hi⟩,
    fun t q fail s h0 => ?_, fun s h => ⟨fun ht hhot => ?_, fun q ht hq hc => ?_, fun ht => ⟨?_, ?_⟩⟩,
    fun k mean calm s h1 h5 h => ⟨fun hover h0 => ?_, fun hover h0 => ?_, fun hle hbit h0 => ?_⟩,
    fun s hrun h => ?_, fun p s hrun => ⟨fun h3 hover => ?_, fun hle => ?_⟩⟩
  · exact completes_clock hrun (f := droopTrip src) rfl (droopTrip_fields src s)
  · refine ⟨_, (onClock_of_runs hrun _).trans (congrArg Host.Outcome.next (by rw [hb])), ?_⟩
    exact ⟨mapFind_mapIns_same .., rfl⟩
  · refine ⟨_, (onClock_of_runs hrun _).trans (congrArg Host.Outcome.next (if_pos ?_)), droopHoldEnd_fields h⟩
    rw [h]
    simp [mapFind]
  · exact next_onlyIf (by simp [h1, h5]) (fatal { code := Ev.BRK_UV, inst := c }) s
  · exact next_onlyIf (by simp [h1, h5]) (fatal { code := Ev.BRK_PLL, inst := n }) s
  · exact ⟨_, next_onlyIf (by simp [h0, h6, hhot]) (thermalTrip t) s, thermalTrip_fields h6⟩
  · obtain ⟨hp, hc, hup, hports, hlinks, -, -⟩ := fatal_fields h6 hcode
    exact ⟨hp, hc, hup, hports, hlinks, clocksRun_of_phase_six hp⟩
  · exact ⟨_, next_onlyIf (by simp [h0]) (tempSample t q fail) s, tempSample_fields t q fail s⟩
  · refine ⟨_, next_onlyIf (by rw [ht, hhot]; rfl) _ s, ?_⟩
    dsimp only
    generalize hu : { s with brk := { s.brk with capT := min s.brk.capT (fcode s) - 1 } } = u
    have hub : u.brk = { s.brk with capT := min s.brk.capT (fcode s) - 1 } := by rw [← hu]
    obtain ⟨hf, -, hcap, -, -, -, -⟩ := fcodeUpdate_capped Ev.BRK_THROTTLE (s := s) (u := u) (by rw [hub]) h
    exact ⟨by rw [hcap, hub], by rw [hf, hub]⟩
  · exact ⟨_, rfl, throttleRelease_fields h ht hq hc⟩
  · exact next_onlyIf_of_not (by rw [ht]; rfl) _ s
  · exact congrArg Host.Outcome.next (if_neg (by rw [ht]; simp))
  · exact ⟨_, next_onlyIf (by simp [h1, h5]) (railStep k mean.toNat calm) s, railStep_begins_fields calm k.isLt h hover h0⟩
  · exact ⟨_, next_onlyIf (by simp [h1, h5]) (railStep k mean.toNat calm) s, railStep_goes_on_fields calm k.isLt h hover h0⟩
  · exact (next_onlyIf (by simp [h1, h5]) (railStep k mean.toNat calm) s).trans
      (congrArg Host.Outcome.next (railStep_kept hle hbit h0))
  · exact completes_clock hrun (f := cdLimitUpdate) rfl (cdLimitUpdate_fields h)
  · exact completes_clock hrun (f := cdWindow p) rfl (cdWindow_over p.isLt h3 hover)
  · exact completes_clock hrun (f := cdWindow p) rfl (cdWindow_within p.isLt hle)

end Sys2Proof.Machine

end


section
/-! PROOF (O52). Clamps and overrides of the adaptive loops: what a clamp shows as it begins and ends, its interrupt, and the
list and the count of overrides (R609, R665, R727, R728, R730, R876). -/

namespace Sys2Proof.Machine

/-! #### Clamps -/

theorem clampOf_eq_some_of_append {loop inst : Nat} {s : State} (h : clampOf s loop inst = none) :
    (s.brk.clamps ++ [({ loop := loop, inst := inst, start := s.time, raised := false } : Clamp)]).find?
      (fun c => c.loop == loop && c.inst == inst) = some { loop := loop, inst := inst, start := s.time, raised := false } := by
  rw [List.find?_append, show s.brk.clamps.find? (fun c => c.loop == loop && c.inst == inst) = none from h]
  simp

/-- The bit of a loop in BRK_CLAMPST, shown anew: whether any clamp of that loop is in force. -/
theorem clampStatus_shown {loop : Nat} (h1 : 1 ≤ loop) (h6 : loop ≤ 6) (inst : Nat) (on : Bool) (s : State) :
    (getReg (clampStatus loop inst on s) .BRK_CLAMPST 0).getLsbD (loop - 1) = s.brk.clamps.any (fun c => c.loop == loop) := by
  unfold clampStatus
  dsimp only
  generalize s.brk.clamps.any (fun c => c.loop == loop) = any
  have hset : (getReg (setReg .BRK_CLAMPST 0 (putBit (getReg s .BRK_CLAMPST 0) (loop - 1) any) s) .BRK_CLAMPST 0).getLsbD (loop - 1)
      = any := by
    rw [getReg_setReg, if_pos ⟨rfl, rfl⟩, getLsbD_putBit _ (by omega), if_pos rfl]
  split
  · rw [getReg_setF_of_reg (by decide), hset]
  · split
    · rw [getReg_setReg, if_neg (fun h => by simp at h), hset]
    · exact hset

/-- Showing a clamp changes only the registers that show clamps. -/
theorem clampStatus_regs (loop inst : Nat) (on : Bool) (s : State) :
    RegsButAll [.BRK_CLAMPST, .TWY_CLAMP, .QOS_CLAMPST] s (clampStatus loop inst on s) := by
  unfold clampStatus
  dsimp only
  have hst : ∀ v, RegsButAll [.BRK_CLAMPST, .TWY_CLAMP, .QOS_CLAMPST] s (setReg .BRK_CLAMPST 0 v s) := fun v => .setReg (by simp) 0 v s
  split
  · exact (hst _).trans (.setF (f := F.TWY_CLAMP.ACTIVE) (by simp [show F.TWY_CLAMP.ACTIVE.reg = .TWY_CLAMP from rfl]) _ _ _)
  · split
    · exact (hst _).trans (.setReg (by simp) _ _ _)
    · exact hst _

/-- A clamp that begins: last in the list, found, and shown. -/
theorem clampBegin_fields {loop : Nat} {s : State} (h1 : 1 ≤ loop) (h6 : loop ≤ 6) (inst : Nat) (h : clampOf s loop inst = none) :
    clampOf (clampBegin loop inst s) loop inst = some { loop := loop, inst := inst, start := s.time, raised := false } ∧
    (getReg (clampBegin loop inst s) .BRK_CLAMPST 0).getLsbD (loop - 1) = true := by
  have hnone : (clampOf s loop inst).isSome = false := by rw [h]; rfl
  refine ⟨by rw [clampOf, (clampBegin_of_none hnone).1, clampOf_eq_some_of_append h], ?_⟩
  rw [clampBegin, if_neg (by simp [hnone])]
  dsimp only
  rw [clampStatus_shown h1 h6, post_brk]
  simp

theorem clampEnd_of_none {loop inst : Nat} {s : State} (h : clampOf s loop inst = none) : clampEnd loop inst s = s := by
  rw [clampEnd, h]

/-- The duration of the frequency loop's clamp is kept as the clamp ends. -/
theorem clampEnd_duration {inst : Nat} {c : Clamp} {s : State} (h : clampOf s 3 inst = some c) :
    getReg (clampEnd 3 inst s) .BRK_CLAMPDUR 3 = BitVec.ofNat 32 (min (msBetween c.start s.time) (2 ^ 32 - 1)) := by
  rw [clampEnd, h]
  dsimp only
  rw [clampStatus_regs 3 inst false _ .BRK_CLAMPDUR 3 (by decide), getReg_post _ _ _ _ (by decide), if_neg (by decide),
    if_neg (by decide), getReg_setReg, if_pos ⟨rfl, rfl⟩]

/-- The last clamp of all ends, and the loop's bit with it. -/
theorem clampEnd_last {loop : Nat} (h1 : 1 ≤ loop) (h6 : loop ≤ 6) {inst : Nat} {c : Clamp} {s : State}
    (h : clampOf s loop inst = some c) (hc : s.brk.clamps = [c]) : (clampEnd loop inst s).brk.clamps = [] ∧
    (getReg (clampEnd loop inst s) .BRK_CLAMPST 0).getLsbD (loop - 1) = false := by
  rw [clampEnd, h]
  dsimp only
  rw [clampStatus_brk, clampStatus_shown h1 h6, post_brk]
  generalize hu : { s with brk := { s.brk with clamps := s.brk.clamps.erase c } } = u
  have hub : u.brk.clamps = [] := by rw [← hu, hc]; simp
  generalize BitVec.ofNat 32 (min (msBetween c.start s.time) (2 ^ 32 - 1)) = v
  have hbrk : (if loop = 1 then setReg .TWY_CLAMPDUR inst v u else if loop = 5 then setReg .QOS_CLAMPDUR (inst / 16) v u
      else setReg .BRK_CLAMPDUR loop v u).brk = u.brk := by
    split
    · rw [setReg_brk]
    · split <;> rw [setReg_brk]
  rw [hbrk, hub]
  exact ⟨rfl, rfl⟩

/-! #### A clamp's interrupt (R609, R665, R728) -/

/-- A pending bit of POLICY_CLAMP that is already 1 raises nothing (R876). -/
theorem raisePend_of_set {s : State} (h : flag s F.EVT_PEND.CLAMP = true) : raisePend true s = s := if_pos h

theorem raisePend_fields (s : State) : flag (raisePend true s) F.EVT_PEND.CLAMP = true ∧ (raisePend true s).brk = s.brk := by
  by_cases h : flag s F.EVT_PEND.CLAMP = true
  · rw [raisePend_of_set h]
    exact ⟨h, rfl⟩
  · have heq : raisePend true s = raiseVec (getF s F.EVT_PVEC.CLAMP) (setF F.EVT_PEND.CLAMP 0 1 s) := if_neg h
    have hvec := PostFrame.raiseVec (getF s F.EVT_PVEC.CLAMP) (setF F.EVT_PEND.CLAMP 0 1 s)
    rw [heq]
    have hpend := getReg_raiseVec (q := .EVT_PEND) (by decide) 0 (getF s F.EVT_PVEC.CLAMP) (setF F.EVT_PEND.CLAMP 0 1 s)
    exact ⟨(flag_congr (congrArg (bitsAt · _ _) hpend)).trans (flag_setF_one rfl rfl 0 s), hvec.brk.trans (setF_brk ..)⟩

/-- The clamp of which the interrupt has been raised. -/
def clampRaised (c : Clamp) (s : State) : State :=
  { s with brk := { s.brk with clamps := s.brk.clamps.map (fun k => if k = c then { k with raised := true } else k) } }

theorem clampDuration_due {loop inst : Nat} {c : Clamp} {s : State} (h : clampOf s loop inst = some c) (hr : c.raised = false)
    (he : (clampIrq s loop inst).1 = true) : clampDuration loop inst s = raisePend true (clampRaised c s) := by
  rw [clampDuration, h]
  dsimp only
  exact if_neg (by rw [hr, he]; decide)

theorem clampDuration_idle {loop inst : Nat} {c : Clamp} {s : State} (h : clampOf s loop inst = some c)
    (hr : c.raised = true ∨ (clampIrq s loop inst).1 = false) : clampDuration loop inst s = s := by
  rw [clampDuration, h]
  dsimp only
  exact if_pos (by rcases hr with hr | hr <;> simp [hr])

theorem clampDuration_fields {loop inst : Nat} {c : Clamp} {s : State} (h : clampOf s loop inst = some c)
    (hr : c.raised = false) (he : (clampIrq s loop inst).1 = true) :
    flag (clampDuration loop inst s) F.EVT_PEND.CLAMP = true ∧
    (clampDuration loop inst s).brk.clamps = s.brk.clamps.map (fun k => if k = c then { k with raised := true } else k) ∧
    (flag s F.EVT_PEND.CLAMP = true → (clampDuration loop inst s).regs = s.regs ∧ (clampDuration loop inst s).out = s.out) := by
  rw [clampDuration_due h hr he]
  obtain ⟨hp, hb⟩ := raisePend_fields (clampRaised c s)
  refine ⟨hp, by rw [hb, clampRaised], fun hset => ?_⟩
  rw [raisePend_of_set (s := clampRaised c s) ((flag_congr (getF_congr rfl _ _)).trans hset)]
  exact ⟨rfl, rfl⟩

/-! #### Overrides (R727, R730) -/

/-- Posting an override counts it, and leaves the list that the state has. -/
theorem policyOverride_fields (loop inst cause : Nat) {l : List (Nat × Nat × Nat)} {s u : State} (hu : u.regs = s.regs)
    (hl : u.brk.overs = l) : (policyOverride loop inst cause u).brk.overs = l ∧
    getF (policyOverride loop inst cause u) F.BRK_OVERRIDES.COUNT
      = min (getF s F.BRK_OVERRIDES.COUNT + 1) (2 ^ F.BRK_OVERRIDES.COUNT.width - 1) := by
  rw [policyOverride_eq, bump_brk, post_brk, getF_bump_same _ _ _ (by decide), getF_post _ _ _ _ rfl, getF_congr hu]
  exact ⟨hl, rfl⟩

/-- A quantity that is inside its envelope: an override begins as it leaves, and nothing happens while it stays. -/
theorem overrideSet_inside {loop inst cause : Nat} {s : State}
    (h : s.brk.overs.find? (fun o => o.1 == loop && o.2.1 == inst) = none) :
    (overrideSet loop inst cause true s).brk.overs = s.brk.overs ++ [(loop, inst, cause)] ∧
    getF (overrideSet loop inst cause true s) F.BRK_OVERRIDES.COUNT
      = min (getF s F.BRK_OVERRIDES.COUNT + 1) (2 ^ F.BRK_OVERRIDES.COUNT.width - 1) ∧
    overrideSet loop inst cause false s = s := by
  rw [overrideSet, h, overrideSet, h]
  obtain ⟨ho, hc⟩ := policyOverride_fields loop inst cause (s := s)
    (u := { s with brk := { s.brk with overs := s.brk.overs ++ [(loop, inst, cause)] } }) rfl rfl
  exact ⟨ho, hc, rfl⟩

/-- A quantity that is outside its envelope: the override ends as it returns, and nothing happens while it stays. -/
theorem overrideSet_outside {loop inst cause : Nat} {o : Nat × Nat × Nat} {s : State}
    (h : s.brk.overs.find? (fun o => o.1 == loop && o.2.1 == inst) = some o) :
    overrideSet loop inst cause true s = s ∧
    (overrideSet loop inst cause false s).brk.overs = s.brk.overs.erase o ∧
    getF (overrideSet loop inst cause false s) F.BRK_OVERRIDES.COUNT
      = min (getF s F.BRK_OVERRIDES.COUNT + 1) (2 ^ F.BRK_OVERRIDES.COUNT.width - 1) := by
  rw [overrideSet, h, overrideSet, h]
  obtain ⟨ho, hc⟩ := policyOverride_fields loop inst o.2.2 (s := s)
    (u := { s with brk := { s.brk with overs := s.brk.overs.erase o } }) rfl rfl
  exact ⟨rfl, ho, hc⟩

/-! #### The obligation -/

/-- Settles O52: clamps by what begins and ends them, their interrupt by what is pending, overrides by the list of those in force. -/
theorem clampsAndOverrides : Obligations.ClampsAndOverrides := by
  unfold Obligations.ClampsAndOverrides
  refine ⟨fun loop inst s h1 h6 => ⟨fun h => ?_, fun c h => ⟨?_, fun h3 => ?_, fun hc => clampEnd_last h1 h6 h hc⟩⟩,
    fun loop inst c s => ⟨fun h => ?_, fun h hr => ?_, fun h hr he => ⟨_, rfl, clampDuration_fields h hr he⟩⟩,
    fun loop inst cause s => ⟨overrideSet_inside, fun o => overrideSet_outside⟩⟩
  · obtain ⟨hc, hb⟩ := clampBegin_fields h1 h6 inst h
    exact ⟨hc, hb, clampEnd_of_none h⟩
  · exact if_pos (by rw [h]; rfl)
  · subst h3
    exact clampEnd_duration h
  · exact congrArg Host.Outcome.next (by rw [clampDuration, h])
  · exact congrArg Host.Outcome.next (clampDuration_idle h hr)

end Sys2Proof.Machine

end


section
/-! PROOF (O53). Headland's mailbox: each command's effect on the keys, the record root, the lease, the roster and the buffer,
and what a completion shows (R196, R751-R753, R756-R758, R774-R777, R780-R782). -/

namespace Sys2Proof.Machine

/-! #### A command that runs -/

/-- The mailbox with a command in it: BUSY, with the ERR and the responses that its completion shows. -/
def mbxHeld (err : Nat) (rsp : List Nat) (u : State) : State :=
  setF F.HLD_STAT.BUSY 0 1 { u with hld := { u.hld with mbx := some (err, rsp) } }

theorem mbxHeld_hld (err : Nat) (rsp : List Nat) (u : State) : (mbxHeld err rsp u).hld = { u.hld with mbx := some (err, rsp) } := by
  rw [mbxHeld, setF_hld]

theorem mbxHeld_busy (err : Nat) (rsp : List Nat) (u : State) : flag (mbxHeld err rsp u) F.HLD_STAT.BUSY = true :=
  flag_setF_one rfl rfl 0 _

theorem mbxHeld_regs (err : Nat) (rsp : List Nat) (u : State) : RegsBut [(.HLD_STAT, 0)] u (mbxHeld err rsp u) := by
  refine RegsBut.trans (.of_regs_eq rfl) (RegsBut.setF (f := F.HLD_STAT.BUSY) (List.mem_cons_self ..) 1 _)

/-- A field of another register is read as before. -/
theorem getF_mbxHeld {f : Fld} (h : f.reg ≠ .HLD_STAT) (err : Nat) (rsp : List Nat) (u : State) (i : Nat) :
    getF (mbxHeld err rsp u) f i = getF u f i :=
  (mbxHeld_regs err rsp u).getF f.reg i (by simp [h])

section
variable {s : State} (hopen : barOpen s = true) (hidle : flag s F.HLD_STAT.BUSY = false)
include hopen hidle

theorem mailbox_runs {f : State → Nat × List Nat × State} {err : Nat} {rsp : List Nat} {u : State} (hf : f s = (err, rsp, u)) :
    mailbox f s = mbxHeld err rsp u := by
  rw [mailbox, if_neg (by simp [hopen]), if_neg (by simp [hidle]), hf]
  rfl

/-- A command's result at completion: what its function says, held in the mailbox. -/
theorem mailbox_completes {i : Instr} {f : State → Nat × List Nat × State} (hi : exec i s = .next (mailbox f s)) {err : Nat}
    {rsp : List Nat} {u : State} (hf : f s = (err, rsp, u)) {P : State → Prop} (hP : P (mbxHeld err rsp u)) : Completes i s P :=
  ⟨_, hi.trans (congrArg Host.Outcome.next (mailbox_runs hopen hidle hf)), hP⟩

/-- A refused command leaves the state as it is but for the mailbox. -/
theorem mailbox_refused {i : Instr} {f : State → Nat × List Nat × State} (hi : exec i s = .next (mailbox f s)) {err : Nat}
    {rsp : List Nat} (hf : f s = (err, rsp, s)) : Completes i s (fun t => t.hld = { s.hld with mbx := some (err, rsp) } ∧
      flag t F.HLD_STAT.BUSY = true ∧ RegsBut [(.HLD_STAT, 0)] s t) :=
  mailbox_completes hopen hidle hi hf ⟨mbxHeld_hld .., mbxHeld_busy .., mbxHeld_regs _ _ _⟩

theorem mailbox_refused_quiet {i : Instr} {f : State → Nat × List Nat × State} (hi : exec i s = .next (mailbox f s)) {err : Nat}
    {rsp : List Nat} (hf : f s = (err, rsp, s)) : Completes i s (fun t => t.hld = { s.hld with mbx := some (err, rsp) } ∧
      RegsBut [(.HLD_STAT, 0)] s t) :=
  mailbox_completes hopen hidle hi hf ⟨mbxHeld_hld .., mbxHeld_regs _ _ _⟩

end

theorem mailbox_congr {s : State} {f g : State → Nat × List Nat × State} (h : f s = g s) : mailbox f s = mailbox g s := by
  rw [mailbox, h, mailbox]

/-- A second command is discarded and noted. -/
theorem mailbox_busy {s : State} (hopen : barOpen s = true) (h : flag s F.HLD_STAT.BUSY = true)
    (f : State → Nat × List Nat × State) : mailbox f s = post { code := Ev.HLD_MBXBUSY } s := by
  rw [mailbox, if_neg (by simp [hopen]), if_pos h]

/-! #### Keys (R196, R751-R753) -/

theorem drawKey_fields {k g : Nat} (hg : g < 2) (s : State) :
    (drawKey k g s).hld.keys = mapIns s.hld.keys (2 * k + g) (Config.freeValue 512 s.free) ∧
    getF (drawKey k g s) F.HLD_SLOTST.CURGEN k = g ∧ RegsBut [(.HLD_SLOTST, k)] s (drawKey k g s) := by
  unfold drawKey draw
  refine ⟨by rw [setF_hld], getF_setF_of_lt (f := F.HLD_SLOTST.CURGEN) (by decide) hg k _, ?_⟩
  exact RegsBut.trans (.of_regs_eq rfl) (RegsBut.setF (f := F.HLD_SLOTST.CURGEN) (List.mem_cons_self ..) g _)

/-- KEY_GEN's slot: generation 0 drawn and current. -/
def keyGenned (k : Nat) (s : State) : State := setF F.MEM_ROTSTAT.CURGEN k 0 (setF F.HLD_SLOTST.STATE k 1 (drawKey k 0 s))

theorem keyGenned_fields (k : Nat) (s : State) :
    (keyGenned k s).hld.keys = mapIns s.hld.keys (2 * k) (Config.freeValue 512 s.free) ∧
    getF (keyGenned k s) F.HLD_SLOTST.STATE k = 1 ∧ getF (keyGenned k s) F.HLD_SLOTST.CURGEN k = 0 ∧
    curGen (keyGenned k s) k = 0 ∧ RegsBut [(.HLD_SLOTST, k), (.MEM_ROTSTAT, k)] s (keyGenned k s) := by
  obtain ⟨hk, hg, hr⟩ := drawKey_fields (k := k) (g := 0) (by decide) s
  unfold keyGenned
  generalize drawKey k 0 s = u at hk hg hr
  refine ⟨by rw [setF_hld, setF_hld, hk]; rfl, ?_, ?_, getF_setF_of_lt (f := F.MEM_ROTSTAT.CURGEN) (by decide) (by decide) k _, ?_⟩
  · rw [getF_setF_of_reg (by decide), getF_setF_of_lt (by decide) (by decide)]
  · rw [getF_setF_of_reg (by decide), getF_setF_of_bits (by decide) (by decide), hg]
  · refine (hr.mono (by simp)).trans (RegsBut.trans (t := setF F.HLD_SLOTST.STATE k 1 u) ?_ ?_)
    · exact .setF (f := F.HLD_SLOTST.STATE) (List.mem_cons_self ..) 1 u
    · exact .setF (f := F.MEM_ROTSTAT.CURGEN) (List.mem_cons_of_mem _ (List.mem_cons_self ..)) 0 _

/-- The regions whose entry names a slot. -/
def slotRegions (s : State) (k : Nat) : List Nat := (List.range 5464).filter (fun r => keyEntry s r == (k, true))

theorem slotUsed_iff (s : State) (k : Nat) : slotUsed s k = true ↔ slotRegions s k ≠ [] := by
  rw [slotUsed, slotRegions, List.any_eq_true, Ne, List.filter_eq_nil_iff]
  simp only [Classical.not_forall, Classical.not_not, exists_prop]

theorem slotUsed_congr {s t : State} (h : ∀ i, getReg t .MEM_KEYMAP i = getReg s .MEM_KEYMAP i) (k : Nat) :
    slotUsed t k = slotUsed s k := by
  have he : ∀ r, keyEntry t r = keyEntry s r := fun r => by rw [keyEntry, h, keyEntry]
  rw [slotUsed, slotUsed]
  simp only [he]

/-- A rotation's pass begins: the current generation for memory, and the regions that are still to be rewritten. -/
def rotationBegun (k : Nat) (s : State) : State :=
  setF F.MEM_ROTSTAT.PENDING k (slotRegions s k).length
    { setF F.MEM_ROTSTAT.CURGEN k (1 - curGen s k) s with
      mem := { (setF F.MEM_ROTSTAT.CURGEN k (1 - curGen s k) s).mem with
        rot := (setF F.MEM_ROTSTAT.CURGEN k (1 - curGen s k) s).mem.rot ++ slotRegions s k } }

theorem rotationStart_eq (k : Nat) (s : State) : rotationStart k s
    = if slotRegions s k = [] then rotDone k (rotationBegun k s) else rotationBegun k s := rfl

theorem rotationBegun_fields (k : Nat) (s : State) : (rotationBegun k s).hld = s.hld ∧
    getF (rotationBegun k s) F.MEM_ROTSTAT.PENDING k = (slotRegions s k).length ∧
    RegsBut [(.MEM_ROTSTAT, k)] s (rotationBegun k s) := by
  have hlen : (slotRegions s k).length < 2 ^ F.MEM_ROTSTAT.PENDING.width :=
    Nat.lt_of_le_of_lt (List.length_filter_le ..) (by rw [List.length_range]; decide)
  unfold rotationBegun
  have hu : RegsBut [(.MEM_ROTSTAT, k)] s (setF F.MEM_ROTSTAT.CURGEN k (1 - curGen s k) s) :=
    .setF (f := F.MEM_ROTSTAT.CURGEN) (List.mem_cons_self ..) _ s
  have hh : (setF F.MEM_ROTSTAT.CURGEN k (1 - curGen s k) s).hld = s.hld := setF_hld ..
  generalize setF F.MEM_ROTSTAT.CURGEN k (1 - curGen s k) s = u at *
  generalize (slotRegions s k) = ks at *
  refine ⟨by rw [setF_hld, hh], getF_setF_of_lt (f := F.MEM_ROTSTAT.PENDING) (by decide) hlen k _, hu.trans (RegsBut.trans (.of_regs_eq rfl) ?_)⟩
  exact RegsBut.setF (f := F.MEM_ROTSTAT.PENDING) (List.mem_cons_self ..) _ _

/-- A slot that rotates and has no region left: the older generation's key is erased. -/
theorem rotDone_fields {k g : Nat} {s : State} (hst : getF s F.HLD_SLOTST.STATE k = 2) (hg : getF s F.HLD_SLOTST.CURGEN k = g) :
    (rotDone k s).hld = { s.hld with keys := mapDel s.hld.keys (2 * k + (1 - g)) } ∧
    getF (rotDone k s) F.HLD_SLOTST.STATE k = 1 ∧ getF (rotDone k s) F.HLD_SLOTST.CURGEN k = g := by
  unfold rotDone
  have hu := PostFrame.post { code := Ev.MEM_ROTDONE, inst := k } s
  have hst' : getF (post { code := Ev.MEM_ROTDONE, inst := k } s) F.HLD_SLOTST.STATE k = 2 := (getF_post _ _ _ _ rfl).trans hst
  have hg' : getF (post { code := Ev.MEM_ROTDONE, inst := k } s) F.HLD_SLOTST.CURGEN k = g := (getF_post _ _ _ _ rfl).trans hg
  have hh := hu.hld
  generalize post { code := Ev.MEM_ROTDONE, inst := k } s = u at *
  dsimp only
  rw [if_pos hst', hg']
  refine ⟨by rw [setF_hld, hh], getF_setF_of_lt (f := F.HLD_SLOTST.STATE) (by decide) (by decide) k _, ?_⟩
  rw [getF_setF_of_bits (by decide) (by decide)]
  exact (getF_congr rfl _ _).trans hg'

/-- The slot that KEY_ROTATE leaves: a new generation, and STATE 2 while regions are still under the other. -/
def keyRotated (k g : Nat) (s : State) : State := rotationStart k (setF F.HLD_SLOTST.STATE k 2 (drawKey k g s))

theorem keyRotated_fields {k g : Nat} (hg : g < 2) (s : State) :
    getF (keyRotated k g s) F.HLD_SLOTST.CURGEN k = g ∧ (mapFind (keyRotated k g s).hld.keys (2 * k + g)).isSome = true ∧
    (slotUsed s k = true → getF (keyRotated k g s) F.HLD_SLOTST.STATE k = 2 ∧ 0 < getF (keyRotated k g s) F.MEM_ROTSTAT.PENDING k) ∧
    (slotUsed s k = false → getF (keyRotated k g s) F.HLD_SLOTST.STATE k = 1 ∧
      mapFind (keyRotated k g s).hld.keys (2 * k + (1 - g)) = none) := by
  obtain ⟨hk, hcur, hr⟩ := drawKey_fields (k := k) hg s
  unfold keyRotated
  generalize drawKey k g s = u at hk hcur hr
  have hst : getF (setF F.HLD_SLOTST.STATE k 2 u) F.HLD_SLOTST.STATE k = 2 := getF_setF_of_lt (by decide) (by decide) k u
  have hcur2 : getF (setF F.HLD_SLOTST.STATE k 2 u) F.HLD_SLOTST.CURGEN k = g := by
    rw [getF_setF_of_bits (by decide) (by decide), hcur]
  have hr2 : RegsBut [(.HLD_SLOTST, k)] s (setF F.HLD_SLOTST.STATE k 2 u) :=
    hr.trans (.setF (f := F.HLD_SLOTST.STATE) (List.mem_cons_self ..) 2 u)
  have hkeys : (setF F.HLD_SLOTST.STATE k 2 u).hld.keys = mapIns s.hld.keys (2 * k + g) (Config.freeValue 512 s.free) := by
    rw [setF_hld, hk]
  generalize setF F.HLD_SLOTST.STATE k 2 u = w at *
  have hused : slotUsed w k = slotUsed s k := slotUsed_congr (fun i => hr2 _ _ (by simp)) k
  obtain ⟨hh, hpend, hregs⟩ := rotationBegun_fields k w
  have hstB : getF (rotationBegun k w) F.HLD_SLOTST.STATE k = 2 := (hregs.getF .HLD_SLOTST k (by simp)).trans hst
  have hcurB : getF (rotationBegun k w) F.HLD_SLOTST.CURGEN k = g := (hregs.getF .HLD_SLOTST k (by simp)).trans hcur2
  rw [rotationStart_eq, ← hused]
  by_cases hnil : slotRegions w k = []
  · have hno : slotUsed w k ≠ true := fun h => (slotUsed_iff w k).1 h hnil
    obtain ⟨hhD, hstD, hcurD⟩ := rotDone_fields hstB hcurB
    rw [if_pos hnil, hhD, hh, hkeys]
    refine ⟨hcurD, ?_, fun h => absurd h hno, fun _ => ⟨hstD, mapFind_mapDel_same ..⟩⟩
    rw [mapFind_mapDel_ne _ (by omega), mapFind_mapIns_same]
    rfl
  · have hyes : slotUsed w k = true := (slotUsed_iff w k).2 hnil
    rw [if_neg hnil, hh, hkeys, mapFind_mapIns_same]
    refine ⟨hcurB, rfl, fun _ => ⟨hstB, ?_⟩, fun h => absurd (hyes.symm.trans h) (by decide)⟩
    rw [hpend]
    exact List.length_pos_iff.2 hnil

/-- The slot that KEY_DESTROY leaves. -/
def keyErased (k : Nat) (s : State) : State :=
  setF F.HLD_SLOTST.STATE k 0 { s with hld := { s.hld with keys := mapDel (mapDel s.hld.keys (2 * k)) (2 * k + 1) } }

theorem keyErased_fields (k : Nat) (s : State) : getF (keyErased k s) F.HLD_SLOTST.STATE k = 0 ∧
    mapFind (keyErased k s).hld.keys (2 * k) = none ∧ mapFind (keyErased k s).hld.keys (2 * k + 1) = none ∧
    RegsBut [(.HLD_SLOTST, k)] s (keyErased k s) := by
  unfold keyErased
  rw [setF_hld]
  refine ⟨getF_setF_of_lt (f := F.HLD_SLOTST.STATE) (by decide) (by decide) k _, ?_, mapFind_mapDel_same .., ?_⟩
  · exact (mapFind_mapDel_ne _ (by omega)).trans (mapFind_mapDel_same ..)
  · exact RegsBut.trans (.of_regs_eq rfl) (RegsBut.setF (f := F.HLD_SLOTST.STATE) (List.mem_cons_self ..) 0 _)

section
variable {k : Nat} {s : State} (hk : k = mbxArg s 0)
include hk

theorem keyGen_of_slot (h : k ≤ 63) (hq : flag s F.HLD_ROLE.QUAR = false) (hst : getF s F.HLD_SLOTST.STATE k = 0) :
    keyGen s = (0, [], keyGenned k s) := by
  subst hk
  exact (if_neg (by omega)).trans ((if_neg (by simp [hq])).trans (if_neg (by simp [hst])))

theorem keyGen_quarantined (h : k ≤ 63) (hq : flag s F.HLD_ROLE.QUAR = true) : keyGen s = (3, [], s) := by
  subst hk
  exact (if_neg (by omega)).trans (if_pos hq)

theorem keyRotate_of_slot (h : k ≤ 63) (hst : getF s F.HLD_SLOTST.STATE k = 1) (hp : getF s F.MEM_ROTSTAT.PENDING k = 0) :
    keyRotate s = (0, [1 - getF s F.HLD_SLOTST.CURGEN k], keyRotated k (1 - getF s F.HLD_SLOTST.CURGEN k) s) := by
  subst hk
  exact (if_neg (by omega)).trans ((if_neg (by simp [hst])).trans (if_neg (by simp [hst, hp])))

theorem keyDestroy_of_slot (h : k ≤ 63) (hu : slotUsed s k = false) (hst : getF s F.HLD_SLOTST.STATE k = 1) :
    keyDestroy s = (0, [], keyErased k s) := by
  subst hk
  exact (if_neg (by omega)).trans ((if_neg (by simp [hu])).trans (if_neg (by simp [hst])))

theorem keyDestroy_used (h : k ≤ 63) (hu : slotUsed s k = true) : keyDestroy s = (6, [], s) := by
  subst hk
  exact (if_neg (by omega)).trans (if_pos hu)

theorem keyGen_badarg (h : 63 < k) : keyGen s = (1, [], s) := if_pos (hk ▸ h)

theorem keyRotate_badarg (h : 63 < k) : keyRotate s = (1, [], s) := if_pos (hk ▸ h)

theorem keyDestroy_badarg (h : 63 < k) : keyDestroy s = (1, [], s) := if_pos (hk ▸ h)

end

/-! #### The record root (R757, R758) -/

theorem setRoot_fields (gen : Nat) {both : Nat} (hb : both < 2) (s : State) :
    (setRoot gen both s).hld = { s.hld with rootGen := gen } ∧ (gen < 2 → getF (setRoot gen both s) F.HLD_ROOTGEN.CUR = gen) ∧
    getF (setRoot gen both s) F.HLD_ROOTGEN.BOTH = both ∧ RegsBut [(.HLD_ROOTGEN, 0)] s (setRoot gen both s) := by
  unfold setRoot
  generalize hu : ({ s with hld := { s.hld with rootGen := gen } } : State) = u
  have hur : u.regs = s.regs := by rw [← hu]
  have huh : u.hld = { s.hld with rootGen := gen } := by rw [← hu]
  refine ⟨by rw [setF_hld, setF_hld, huh], fun hg => ?_, getF_setF_of_lt (f := F.HLD_ROOTGEN.BOTH) (by decide) hb 0 _, ?_⟩
  · rw [getF_setF_of_bits (by decide) (by decide), getF_setF_of_lt (f := F.HLD_ROOTGEN.CUR) (by decide) hg]
  · refine RegsBut.trans (.of_regs_eq hur) (RegsBut.trans (t := setF F.HLD_ROOTGEN.CUR 0 gen u) ?_ ?_)
    · exact .setF (f := F.HLD_ROOTGEN.CUR) (List.mem_cons_self ..) gen u
    · exact .setF (f := F.HLD_ROOTGEN.BOTH) (List.mem_cons_self ..) both _

/-- ROOT_ROTATE's record root: the other generation drawn and current. -/
def rootRotated (g : Nat) (s : State) : State := setRoot g 1 (drawRoot g s)

theorem rootRotated_fields {g : Nat} (hg : g < 2) (s : State) : (rootRotated g s).hld.rootGen = g ∧
    (mapFind (rootRotated g s).hld.roots g).isSome = true ∧ flag (rootRotated g s) F.HLD_ROOTGEN.BOTH = true ∧
    getF (rootRotated g s) F.HLD_ROOTGEN.CUR = g ∧ RegsBut [(.HLD_ROOTGEN, 0)] s (rootRotated g s) := by
  obtain ⟨hh, hc, hb, hr⟩ := setRoot_fields g (both := 1) (by decide) (drawRoot g s)
  unfold rootRotated
  refine ⟨by rw [hh], ?_, (flag_eq_true_iff ..).2 hb, hc hg, RegsBut.trans (.of_regs_eq rfl) hr⟩
  rw [hh]
  exact congrArg Option.isSome (mapFind_mapIns_same ..)

/-- ROOT_RETIRE's record root: the generation that is not current erased. -/
def rootRetired (g : Nat) (s : State) : State :=
  setRoot s.hld.rootGen 0 { s with hld := { s.hld with roots := mapDel s.hld.roots g } }

theorem rootRetired_fields (g : Nat) (s : State) : (rootRetired g s).hld.rootGen = s.hld.rootGen ∧
    mapFind (rootRetired g s).hld.roots g = none ∧ flag (rootRetired g s) F.HLD_ROOTGEN.BOTH = false := by
  obtain ⟨hh, -, hb, -⟩ := setRoot_fields s.hld.rootGen (both := 0) (by decide)
    { s with hld := { s.hld with roots := mapDel s.hld.roots g } }
  unfold rootRetired
  rw [hh, flag, hb]
  exact ⟨rfl, mapFind_mapDel_same .., rfl⟩

section
variable {s : State} {g : Nat} (hg : g = 1 - s.hld.rootGen)
include hg

theorem rootRotate_of_one (h : flag s F.HLD_ROOTGEN.BOTH = false) : rootRotate s = (0, [g], rootRotated g s) := by
  subst hg
  exact if_neg (by simp [h])

theorem rootRetire_of_two (h : flag s F.HLD_ROOTGEN.BOTH = true) (hn : rootNeeded s g = false) :
    rootRetire s = (0, [], rootRetired g s) := by
  subst hg
  exact (if_neg (by simp [h])).trans (if_neg (by simp [hn]))

theorem rootRetire_needed (h : flag s F.HLD_ROOTGEN.BOTH = true) (hn : rootNeeded s g = true) : rootRetire s = (5, [], s) := by
  subst hg
  exact (if_neg (by simp [h])).trans (if_pos hn)

end

theorem rootRotate_of_two {s : State} (h : flag s F.HLD_ROOTGEN.BOTH = true) : rootRotate s = (5, [], s) := if_pos h

/-! #### The lease, the roster, the identity (R764, R782) -/

/-- A lease that is released leaves the role given. -/
theorem role_leaseRelease {next : Nat} (h : next < 8) (s : State) : role (leaseRelease next s) = next :=
  getF_setF_of_lt (f := F.HLD_ROLE.ROLE) (by decide) h 0 _

/-- One entry of the roster, written to the buffer. -/
def rosterRow (x : Sector) (d : Nat) (u : State) : State :=
  (List.range 16).foldl (fun v i => setF F.HLD_BUF.DATA (16 * d + i) (bitsAt x (32 * i) 32) v) u

theorem rosterDump_eq (s : State) :
    rosterDump s = (List.range 32).foldl (fun u d => rosterRow (rosterData (rosterOf s d)) d u) s := rfl

/-- A buffer word that no step of a fold over the buffer writes. -/
theorem bufFold_ne {l : List Nat} {at_ : Nat → Nat} {val : Nat → Nat} {k : Nat} (h : ∀ i ∈ l, at_ i ≠ k) (u : State) :
    getF (l.foldl (fun v i => setF F.HLD_BUF.DATA (at_ i) (val i) v) u) F.HLD_BUF.DATA k = getF u F.HLD_BUF.DATA k :=
  foldl_read_of_kept (rd := fun v => getF v F.HLD_BUF.DATA k) (fun v i hi => getF_setF_of_index (h i hi).symm _ v) u

/-- Writing the buffer changes only the buffer. -/
theorem bufFold_frame (l : List Nat) (at_ val : Nat → Nat) (u : State) :
    RegsButAll [.HLD_BUF] u (l.foldl (fun v i => setF F.HLD_BUF.DATA (at_ i) (val i) v) u) ∧
    (l.foldl (fun v i => setF F.HLD_BUF.DATA (at_ i) (val i) v) u).hld = u.hld := by
  induction l generalizing u with
  | nil => exact ⟨.refl _ u, rfl⟩
  | cons i l ih =>
    obtain ⟨hr, hh⟩ := ih (setF F.HLD_BUF.DATA (at_ i) (val i) u)
    exact ⟨RegsButAll.trans (.setF (f := F.HLD_BUF.DATA) (List.mem_cons_self ..) _ _ u) hr, hh.trans (setF_hld ..)⟩

theorem rosterRow_ne {x : Sector} {d k : Nat} (h : k / 16 ≠ d) (u : State) :
    getF (rosterRow x d u) F.HLD_BUF.DATA k = getF u F.HLD_BUF.DATA k :=
  bufFold_ne (fun i hi e => by
    have := List.mem_range.1 hi
    omega) u

theorem rosterRow_same {d i : Nat} (hi : i < 16) (x : Sector) (u : State) :
    getF (rosterRow x d u) F.HLD_BUF.DATA (16 * d + i) = bitsAt x (32 * i) 32 := by
  refine foldl_read_of_mem (rd := fun v => getF v F.HLD_BUF.DATA (16 * d + i)) (φ := fun _ => bitsAt x (32 * i) 32) (a := i)
    (fun v j _ hj => getF_setF_of_index (by omega) _ v) (fun v => ?_) List.nodup_range (List.mem_range.2 hi) u
  exact getF_setF_of_lt (f := F.HLD_BUF.DATA) (by decide) (bitsAt_lt ..) _ v

theorem rosterDump_frame (s : State) : RegsButAll [.HLD_BUF] s (rosterDump s) ∧ (rosterDump s).hld = s.hld := by
  rw [rosterDump_eq]
  refine List.foldlRecOn (motive := fun u => RegsButAll [.HLD_BUF] s u ∧ u.hld = s.hld) _ _ ⟨.refl _ s, rfl⟩ fun u hu d _ => ?_
  obtain ⟨hr, hh⟩ := bufFold_frame (List.range 16) (fun i => 16 * d + i) (fun i => bitsAt (rosterData (rosterOf s d)) (32 * i) 32) u
  exact ⟨hu.1.trans hr, hh.trans hu.2⟩

theorem rosterDump_word {d i : Nat} (hd : d < 32) (hi : i < 16) (s : State) :
    getF (rosterDump s) F.HLD_BUF.DATA (16 * d + i) = bitsAt (rosterData (rosterOf s d)) (32 * i) 32 := by
  rw [rosterDump_eq]
  exact foldl_read_of_mem (g := fun u e => rosterRow (rosterData (rosterOf s e)) e u)
    (rd := fun v => getF v F.HLD_BUF.DATA (16 * d + i)) (φ := fun _ => bitsAt (rosterData (rosterOf s d)) (32 * i) 32) (a := d)
    (fun v e _ he => rosterRow_ne (by omega) v) (fun v => rosterRow_same hi _ v) List.nodup_range (List.mem_range.2 hd) s

/-! #### Enrolment (R777) -/

/-- A steward applies an enrolment record that holds. -/
theorem enrol_steward {s : State} (h : role s = 3) : enrol s = mailbox (fun u =>
    if enrolOk (enrolBits ((List.range 4).map (bufSector s))) s = true then
      (0, [], enrolApply (enrolBits ((List.range 4).map (bufSector s))) u) else (4, [], u)) s := by
  unfold enrol
  dsimp only
  rw [if_pos (.inr (.inr (.inl h)))]
  refine mailbox_congr ?_
  simp only [h, decide_true, Bool.true_and]

section
variable {s : State} (hopen : barOpen s = true) (hidle : flag s F.HLD_STAT.BUSY = false) (hr : role s ≠ 3)
include hopen hidle hr

/-- Without the operator's key no record can hold. -/
theorem enrol_keyless (hop : Config.operatorHash = none) : enrol s = mbxHeld 4 [] s := by
  unfold enrol
  dsimp only
  rw [if_pos (.inr (.inr (.inr hop)))]
  exact mailbox_runs hopen hidle (if_neg (by simp [hr]))

/-- Without a steward the record waits. -/
theorem enrol_waits (hop : Config.operatorHash ≠ none) (hsv : flag s F.HLD_ROLE.SVALID = false) {v : BitVec 2048}
    (hv : v = enrolBits ((List.range 4).map (bufSector s))) : flag (enrol s) F.HLD_STAT.BUSY = true ∧
    (enrol s).hld = { s.hld with enrolWait := some (enrolDie v, byteField v 8 8) } := by
  subst hv
  unfold enrol
  dsimp only
  rw [if_neg (by simp [hopen, hidle, hr, hop])]
  generalize enrolBits ((List.range 4).map (bufSector s)) = v
  generalize hu : ({ s with hld := { s.hld with enrolWait := some (enrolDie v, byteField v 8 8) } } : State) = u
  have hur : u.regs = s.regs := by rw [← hu]
  have huh : u.hld = { s.hld with enrolWait := some (enrolDie v, byteField v 8 8) } := by rw [← hu]
  have hrole : role (setF F.HLD_STAT.BUSY 0 1 u) ≠ 3 := by
    rw [role, getF_setF_of_reg (by decide), getF_congr hur]
    exact hr
  have hsv' : ¬ flag (setF F.HLD_STAT.BUSY 0 1 u) F.HLD_ROLE.SVALID = true := by
    rw [flag_congr (getF_setF_of_reg (by decide) ..), flag_congr (getF_congr hur _ _), hsv]
    decide
  rw [toSteward, if_neg hrole, if_neg hsv']
  exact ⟨flag_setF_one rfl rfl 0 u, by rw [setF_hld, huh]⟩

end

/-! #### A completion (R781) -/

/-- One response register: the value that the command states, or an open value. -/
def rspStep (rsp : List Nat) (u : State) (i : Nat) : State :=
  match rsp[i]? with
  | some v => setF F.HLD_RSP.VALUE i v u
  | none => setReg .HLD_RSP i (draw 32 u).1 (draw 32 u).2

/-- What a completion shows, before its interrupt. -/
def mbxShown (err : Nat) (u : State) : State :=
  { setF F.HLD_STAT.DONE 0 1 (setF F.HLD_STAT.BUSY 0 0 (setF F.HLD_STAT.ERR 0 err u)) with
    hld := { (setF F.HLD_STAT.DONE 0 1 (setF F.HLD_STAT.BUSY 0 0 (setF F.HLD_STAT.ERR 0 err u))).hld with
      mbx := none, enrolWait := none } }

theorem mbxDone_eq (err : Nat) (rsp : List Nat) (s : State) : mbxDone err rsp s =
    if flag (mbxShown err ((List.range 8).foldl (rspStep rsp) s)) F.HLD_CTL.IRQ_EN then
      raiseVec (getF (mbxShown err ((List.range 8).foldl (rspStep rsp) s)) F.HLD_CTL.VECTOR)
        (mbxShown err ((List.range 8).foldl (rspStep rsp) s))
    else mbxShown err ((List.range 8).foldl (rspStep rsp) s) := rfl

theorem mbxShown_fields {err : Nat} (h : err < 8) (u : State) : flag (mbxShown err u) F.HLD_STAT.DONE = true ∧
    flag (mbxShown err u) F.HLD_STAT.BUSY = false ∧ getF (mbxShown err u) F.HLD_STAT.ERR = err ∧
    (mbxShown err u).hld.mbx = none ∧ (mbxShown err u).hld.enrolWait = none ∧
    (∀ i, getReg (mbxShown err u) .HLD_RSP i = getReg u .HLD_RSP i) := by
  unfold mbxShown
  have he := getF_setF_of_lt (f := F.HLD_STAT.ERR) (by decide) h 0 u
  have hrsp := fun i => getReg_setF_of_reg (f := F.HLD_STAT.ERR) (r := .HLD_RSP) (by decide) 0 i err u
  generalize setF F.HLD_STAT.ERR 0 err u = a at *
  have hb : getF (setF F.HLD_STAT.BUSY 0 0 a) F.HLD_STAT.BUSY = 0 := getF_setF_of_lt (by decide) (by decide) 0 a
  have he' : getF (setF F.HLD_STAT.BUSY 0 0 a) F.HLD_STAT.ERR = err := by
    rw [getF_setF_of_bits (by decide) (by decide), he]
  have hrsp' : ∀ i, getReg (setF F.HLD_STAT.BUSY 0 0 a) .HLD_RSP i = getReg u .HLD_RSP i := fun i => by
    rw [getReg_setF_of_reg (by decide), hrsp]
  generalize setF F.HLD_STAT.BUSY 0 0 a = b at *
  have hd : flag (setF F.HLD_STAT.DONE 0 1 b) F.HLD_STAT.DONE = true := flag_setF_one rfl rfl 0 b
  have hb' : flag (setF F.HLD_STAT.DONE 0 1 b) F.HLD_STAT.BUSY = false := by
    rw [flag, getF_setF_of_bits (by decide) (by decide), hb]
    rfl
  have he'' : getF (setF F.HLD_STAT.DONE 0 1 b) F.HLD_STAT.ERR = err := by
    rw [getF_setF_of_bits (by decide) (by decide), he']
  have hrsp'' : ∀ i, getReg (setF F.HLD_STAT.DONE 0 1 b) .HLD_RSP i = getReg u .HLD_RSP i := fun i => by
    rw [getReg_setF_of_reg (by decide), hrsp']
  generalize setF F.HLD_STAT.DONE 0 1 b = c at *
  exact ⟨(flag_congr (getF_congr rfl _ _)).trans hd, (flag_congr (getF_congr rfl _ _)).trans hb',
    (getF_congr rfl _ _).trans he'', rfl, rfl, hrsp''⟩

/-- The interrupt leaves what the completion shows. -/
theorem mbxDone_kept (err : Nat) (rsp : List Nat) (s : State) {q : Reg} (hq : q ∉ irqRegs) (i : Nat) :
    getReg (mbxDone err rsp s) q i = getReg (mbxShown err ((List.range 8).foldl (rspStep rsp) s)) q i := by
  rw [mbxDone_eq]
  split
  · exact getReg_raiseVec hq i ..
  · rfl

theorem mbxDone_hld (err : Nat) (rsp : List Nat) (s : State) :
    (mbxDone err rsp s).hld = (mbxShown err ((List.range 8).foldl (rspStep rsp) s)).hld := by
  rw [mbxDone_eq]
  split
  · exact (PostFrame.raiseVec _ _).hld
  · rfl

theorem rspStep_ne {rsp : List Nat} {i k : Nat} (h : i ≠ k) (u : State) :
    getF (rspStep rsp u i) F.HLD_RSP.VALUE k = getF u F.HLD_RSP.VALUE k := by
  unfold rspStep
  split
  · exact getF_setF_of_index h.symm _ u
  · refine (getF_setReg_ne _ _ _ _ _ _ (.inr h.symm)).trans ?_
    exact getF_congr rfl _ _

theorem rspStep_same {rsp : List Nat} {i v : Nat} (hi : rsp[i]? = some v) (hv : v < 2 ^ 32) (u : State) :
    getF (rspStep rsp u i) F.HLD_RSP.VALUE i = v := by
  rw [rspStep, hi]
  exact getF_setF_of_lt (f := F.HLD_RSP.VALUE) (by decide) hv i u

theorem mbxDone_fields {err : Nat} (h : err < 8) (rsp : List Nat) (s : State) : flag (mbxDone err rsp s) F.HLD_STAT.DONE = true ∧
    flag (mbxDone err rsp s) F.HLD_STAT.BUSY = false ∧ getF (mbxDone err rsp s) F.HLD_STAT.ERR = err ∧
    (mbxDone err rsp s).hld.mbx = none ∧ (mbxDone err rsp s).hld.enrolWait = none ∧
    (∀ i v, i < 8 → rsp[i]? = some v → v < 2 ^ 32 → getF (mbxDone err rsp s) F.HLD_RSP.VALUE i = v) := by
  have hstat := fun (f : Fld) (hf : f.reg = .HLD_STAT) =>
    congrArg (bitsAt · f.bit f.width) (mbxDone_kept err rsp s (q := f.reg) (by rw [hf]; decide) 0)
  have hrsp := fun i => congrArg (bitsAt · 0 32) (mbxDone_kept err rsp s (q := .HLD_RSP) (by decide) i)
  obtain ⟨hd, hb, he, hm, hw, hr⟩ := mbxShown_fields h ((List.range 8).foldl (rspStep rsp) s)
  rw [mbxDone_hld]
  refine ⟨(flag_congr (hstat F.HLD_STAT.DONE rfl)).trans hd, (flag_congr (hstat F.HLD_STAT.BUSY rfl)).trans hb,
    (hstat F.HLD_STAT.ERR rfl).trans he, hm, hw, fun i v hi hv hlt => (hrsp i).trans ?_⟩
  refine (congrArg (bitsAt · 0 32) (hr i)).trans ?_
  exact foldl_read_of_mem (rd := fun u => getF u F.HLD_RSP.VALUE i) (φ := fun _ => v) (a := i)
    (fun u j _ hj => rspStep_ne hj u) (fun u => rspStep_same hv hlt u) List.nodup_range (List.mem_range.2 hi) s

/-! #### The obligation -/

/-- The rows of the mailbox's commands each run it. -/
theorem exec_mailbox_busy {i : Instr} (hi : i ∈ [Instr.keyGen, .keyRotate, .keyDestroy, .rootRotate, .rootRetire, .leaseRelease,
    .enrol, .rosterRead, .identRead]) {s : State} (hopen : barOpen s = true) (h : flag s F.HLD_STAT.BUSY = true) :
    exec i s = .next (post { code := Ev.HLD_MBXBUSY } s) := by
  have hbusy : ∀ f, (.next (mailbox f s) : Result) = .next (post { code := Ev.HLD_MBXBUSY } s) :=
    fun f => congrArg Host.Outcome.next (mailbox_busy hopen h f)
  have henrol : enrol s = post { code := Ev.HLD_MBXBUSY } s := by
    unfold enrol
    dsimp only
    rw [if_pos (.inr (.inl h))]
    exact mailbox_busy hopen h _
  revert i
  simp only [List.forall_mem_cons, List.not_mem_nil, false_imp_iff, implies_true, and_true]
  exact ⟨hbusy _, hbusy _, hbusy _, hbusy _, hbusy _, hbusy _, congrArg Host.Outcome.next henrol, hbusy _, hbusy _⟩

theorem identRead_of_slot {s : State} (h : mbxArg s 0 ≤ 1) : (fun u : State => if 1 < mbxArg u 0 then ((1, [], u) : Nat × List Nat × State)
    else (0, [(chainOf u (mbxArg u 0)).length], bufWrite (chainOf u (mbxArg u 0)) u)) s
    = (0, [(Config.certChain (mbxArg s 0) (activeHash s 1)).length], bufWrite (chainOf s (mbxArg s 0)) s) := if_neg (by omega)

/-- Settles O53: one command at a time by the mailbox's guard, each command by what its function says of the state. -/
theorem mailboxCommands : Obligations.MailboxCommands := by
  unfold Obligations.MailboxCommands
  refine ⟨fun i s hi hopen h => exec_mailbox_busy hi hopen h,
    fun k s hopen hidle hk => ⟨fun h i hi => ?_, fun h hq hst => ?_, fun h hq => ?_, fun h hst hp g hg => ?_, fun h hu hst => ?_,
      fun h hu => ?_⟩,
    fun g s hopen hidle hg => ⟨fun h => ?_, fun h => ⟨?_, fun hn => ?_, fun hn => ?_⟩⟩,
    fun s hopen hidle => ⟨fun h => ?_, fun h => ?_, ?_, fun h => ?_, fun h => ?_, fun v hv => ⟨fun h => ?_, fun h hsv => ?_⟩⟩,
    fun s => ⟨fun h => ?_, fun err rsp h => ?_, fun h => ?_, fun w h => ?_⟩, fun err rsp s h => mbxDone_fields h rsp s⟩
  · simp only [List.mem_cons, List.not_mem_nil, or_false] at hi
    rcases hi with rfl | rfl | rfl
    · exact mailbox_refused hopen hidle rfl (keyGen_badarg hk h)
    · exact mailbox_refused hopen hidle rfl (keyRotate_badarg hk h)
    · exact mailbox_refused hopen hidle rfl (keyDestroy_badarg hk h)
  · obtain ⟨hkeys, hS, hC, hcur, hr⟩ := keyGenned_fields k s
    refine mailbox_completes hopen hidle rfl (keyGen_of_slot hk h hq hst) ?_
    rw [mbxHeld_hld, curGen, getF_mbxHeld (by decide), getF_mbxHeld (by decide), getF_mbxHeld (by decide), hkeys]
    refine ⟨rfl, hS, hC, hcur, congrArg Option.isSome (mapFind_mapIns_same ..), fun j hj => mapFind_mapIns_ne _ _ hj.symm, ?_⟩
    exact RegsBut.trans (hr.mono (by simp)) ((mbxHeld_regs 0 [] _).mono (by simp))
  · exact mailbox_refused_quiet hopen hidle rfl (keyGen_quarantined hk h hq)
  · obtain ⟨hC, hkey, hused, hfree⟩ := keyRotated_fields (k := k) (g := g) (by omega) s
    refine mailbox_completes hopen hidle rfl (keyRotate_of_slot hk h hst hp) ?_
    rw [← hg]
    generalize keyRotated k g s = t at *
    rw [mbxHeld_hld, getF_mbxHeld (by decide), getF_mbxHeld (by decide), getF_mbxHeld (by decide)]
    exact ⟨rfl, hC, hkey, mbxHeld_busy .., hused, hfree⟩
  · obtain ⟨hS, h0, h1, hr⟩ := keyErased_fields k s
    refine mailbox_completes hopen hidle rfl (keyDestroy_of_slot hk h hu hst) ?_
    rw [mbxHeld_hld, getF_mbxHeld (by decide)]
    exact ⟨rfl, hS, h0, h1, RegsBut.trans (hr.mono (by simp)) ((mbxHeld_regs 0 [] _).mono (by simp))⟩
  · exact mailbox_refused_quiet hopen hidle rfl (keyDestroy_used hk h hu)
  · obtain ⟨hgen, hroot, hB, hC, hr⟩ := rootRotated_fields (g := g) (by omega) s
    refine mailbox_completes hopen hidle rfl (rootRotate_of_one hg h) ?_
    rw [mbxHeld_hld, flag, getF_mbxHeld (by decide), getF_mbxHeld (by decide)]
    exact ⟨rfl, hgen, hroot, hB, hC, RegsBut.trans (hr.mono (by simp)) ((mbxHeld_regs 0 [g] _).mono (by simp))⟩
  · exact mailbox_refused_quiet hopen hidle rfl (rootRotate_of_two h)
  · obtain ⟨hgen, hroot, hB⟩ := rootRetired_fields g s
    refine mailbox_completes hopen hidle rfl (rootRetire_of_two hg h hn) ?_
    rw [mbxHeld_hld, flag, getF_mbxHeld (by decide)]
    exact ⟨rfl, hgen, hroot, hB⟩
  · exact mailbox_refused_quiet hopen hidle rfl (rootRetire_needed hg h hn)
  · refine mailbox_completes hopen hidle rfl (if_pos h) ?_
    rw [mbxHeld_hld, role, getF_mbxHeld (by decide)]
    exact ⟨role_leaseRelease (by decide) s, rfl⟩
  · exact mailbox_refused_quiet hopen hidle rfl (if_neg h)
  · obtain ⟨hr, hh⟩ := rosterDump_frame s
    refine mailbox_completes hopen hidle (f := fun u => (0, [], rosterDump u)) rfl rfl ?_
    rw [mbxHeld_hld, hh]
    refine ⟨rfl, fun d i hd hi => ?_, RegsButAll.trans (hr.mono (by simp)) ((mbxHeld_regs 0 [] _).toAll (by simp))⟩
    rw [getF_mbxHeld (by decide), rosterDump_word hd hi]
  · exact mailbox_refused_quiet hopen hidle rfl (if_pos h)
  · refine mailbox_completes hopen hidle rfl (identRead_of_slot h) ?_
    obtain ⟨hr, -⟩ := bufFold_frame (List.range (min 1024 (((chainOf s (mbxArg s 0)).length + 3) / 4))) id
      (fun i => bytesNat (((chainOf s (mbxArg s 0)).drop (4 * i)).take 4)) s
    rw [mbxHeld_hld]
    exact ⟨rfl, RegsButAll.trans (RegsButAll.mono hr (by simp)) ((mbxHeld_regs _ _ _).toAll (by simp))⟩
  · subst hv
    exact congrArg Host.Outcome.next (enrol_steward h)
  · refine ⟨_, rfl, ?_⟩
    by_cases hop : Config.operatorHash = none
    · rw [if_pos hop, enrol_keyless hopen hidle h hop]
      dsimp only
      rw [mbxHeld_hld]
      exact ⟨mbxHeld_busy .., rfl⟩
    · rw [if_neg hop]
      exact enrol_waits hopen hidle h hop hsv hv
  · exact congrArg Host.Outcome.next (by rw [h])
  · exact congrArg Host.Outcome.next (by rw [h])
  · exact congrArg Host.Outcome.next (if_neg (by rw [h]; decide))
  · exact congrArg Host.Outcome.next (if_pos (by rw [h]; rfl))

end Sys2Proof.Machine

end


section
/-! PROOF (O54). Attestation: SPDM's order of states, record keys, and the messages of a management transport (R745-R747, R756,
R778, R779, R825). -/

namespace Sys2Proof.Machine

theorem headAnswers_of_phase {s : State} (h : 1 ≤ phase s) : headAnswers s = true := decide_eq_true h

/-! #### A request and its answer -/

theorem spdmAt_setSpdm_same (who : Nat) (c : Spdm) (s : State) : spdmAt (setSpdm who c s) who = c := mapGet_mapSet_same ..

theorem spdmAt_setSpdm_ne {who k : Nat} (h : k ≠ who) (c : Spdm) (s : State) : spdmAt (setSpdm who c s) k = spdmAt s k :=
  mapGet_mapSet_ne _ _ _ _ h

/-- The state in which a request's answer is kept: a key exchange and a key update take an open value. -/
def spdmDrawn (r : SpdmReq) (s : State) : State :=
  match r with
  | .keyExchange | .keyUpdate => { s with free := s.free + 1 }
  | _ => s

theorem spdmDrawn_fields (r : SpdmReq) (s : State) :
    (spdmDrawn r s).regs = s.regs ∧ (spdmDrawn r s).hld = s.hld ∧ (spdmDrawn r s).out = s.out := by
  unfold spdmDrawn
  split <;> exact ⟨rfl, rfl, rfl⟩

theorem spdmServe_eq {who : Nat} {r : SpdmReq} {s : State} {a : SpdmAns} {c : Spdm} (h : spdmRespond s (spdmAt s who) r = (a, c)) :
    spdmServe who r s = (a, setSpdm who c (spdmDrawn r s)) := by
  unfold spdmServe
  rw [h]
  cases r <;> rfl

theorem spdmRequest_down {t : Transport} {s : State} (h : sidebandUp s t = false) (r : SpdmReq) : spdmRequest (.mctp t r) s = s :=
  if_pos (by rw [h]; rfl)

theorem spdmRequest_up {t : Transport} {r : SpdmReq} {s : State} {a : SpdmAns} {c : Spdm} (h : sidebandUp s t = true)
    (hr : spdmRespond s (spdmAt s t.num) r = (a, c)) : spdmRequest (.mctp t r) s
      = { setSpdm t.num c (spdmDrawn r s) with out := (setSpdm t.num c (spdmDrawn r s)).out ++ [.spdm t a] } := by
  rw [spdmRequest]
  dsimp only
  rw [if_neg (by rw [h]; decide), spdmServe_eq hr]

theorem spdmRequest_fields {t : Transport} {r : SpdmReq} {s : State} {a : SpdmAns} {c : Spdm} (h : sidebandUp s t = true)
    (hr : spdmRespond s (spdmAt s t.num) r = (a, c)) : (spdmRequest (.mctp t r) s).out = s.out ++ [.spdm t a] ∧
    spdmAt (spdmRequest (.mctp t r) s) t.num = c ∧ (∀ k, k ≠ t.num → spdmAt (spdmRequest (.mctp t r) s) k = spdmAt s k) ∧
    (spdmRequest (.mctp t r) s).regs = s.regs := by
  rw [spdmRequest_up h hr]
  obtain ⟨hregs, hhld, hout⟩ := spdmDrawn_fields r s
  generalize spdmDrawn r s = u at hregs hhld hout
  refine ⟨congrArg (· ++ _) hout, spdmAt_setSpdm_same t.num c u, fun k hk => ?_, hregs⟩
  refine (spdmAt_setSpdm_ne hk c u).trans ?_
  rw [spdmAt, hhld, spdmAt]

/-- What serving a request that came over a link does: nothing for an answer, else the answer is sent. -/
def spdmOverLink (m : TwyMsg) (u : State) : State :=
  if byteField m.body 1 1 = 1 then u
  else twySend (spdmReply m.src (spdmServe (3 + m.src) (spdmDecode m) u).1 (spdmServe (3 + m.src) (spdmDecode m) u).2)
    (spdmServe (3 + m.src) (spdmDecode m) u).2

/-- A request that comes over a link is answered over it. -/
theorem spdmRequest_link {n : LinkId} {m : TwyMsg} {s : State} (hw : Waiting s n 1 (fun _ m => isMember mkSpdm m) m) :
    spdmRequest (.link n) s = linkReturn n (spdmOverLink m (rxDrop n m s)) :=
  (serves_twyServe (p := isMember mkSpdm) (f := spdmOverLink) (g := spdmOverLink) (fun _ _ => rfl)).1 m hw rfl

/-! #### SPDM's order of states -/

/-- Before the algorithms are agreed on, a request that is not one of the first three is an error. -/
theorem spdmRespond_early {s : State} {c : Spdm} {r : SpdmReq} (hl : c.level < 3) (hs : c.session = none) (he : c.exchange = none)
    (hv : r ≠ .getVersion) (hc : r ≠ .getCapabilities) (hn : ∀ b, r ≠ .negotiate b) : spdmRespond s c r = (.error, c) := by
  have h3 : (c.level == 3) = false := beq_false_of_ne (by omega)
  cases r with
  | getVersion => exact absurd rfl hv
  | getCapabilities => exact absurd rfl hc
  | negotiate b => exact absurd rfl (hn b)
  | getMeasurements index nonce =>
    simp only [spdmRespond, h3]
    split <;> rfl
  | finish right => simp [spdmRespond, he]
  | getDigests | getCertificate | challenge | keyExchange => simp [spdmRespond, h3]
  | endSession | heartbeat | keyUpdate => simp [spdmRespond, hs]
  | vendor | unclaimed => rfl

theorem spdmRespond_measurements {s : State} {c : Spdm} {index : Byte} (nonce : BitVec 256) (hl : c.level = 3)
    (h1 : 1 ≤ index.toNat) (h6 : index.toNat ≤ 6) : spdmRespond s c (.getMeasurements index nonce)
      = (.done (bytesOf (activeHash s index.toNat) 48)
          (Config.ecdsaSign (ownDie s) (bytesOf nonce 32 ++ bytesOf (activeHash s index.toNat) 48)), c) := by
  have hm : measured s index.toNat = some (bytesOf (activeHash s index.toNat) 48) :=
    (if_neg (by omega)).trans (if_pos ⟨h1, h6⟩)
  unfold spdmRespond
  dsimp only
  rw [hm]
  dsimp only
  rw [hl]
  rfl

theorem spdmRespond_finish {s : State} {c : Spdm} {k : BitVec 256} (h : c.exchange = some k) :
    (spdmRespond s c (.finish true)).2.session = some k ∧ (spdmRespond s c (.finish false)).2.session = none := by
  unfold spdmRespond
  dsimp only
  rw [h]
  exact ⟨rfl, rfl⟩

/-! #### Record keys (R756) -/

theorem getRecordKey_refused {who asid gen : Nat} {s : State}
    (h : (spdmAt s who).session = none ∨ (ctxAt s asid).bound = false ∨ mapFind s.hld.roots gen = none) :
    getRecordKey who asid gen s = { s with out := s.out ++ [.recordKey who asid gen none] } := by
  unfold getRecordKey
  dsimp only
  rw [if_neg]
  rcases h with h | h | h <;> simp [h]

theorem getRecordKey_given {who asid gen : Nat} {s : State} (hs : (spdmAt s who).session ≠ none)
    (hb : (ctxAt s asid).bound = true) (hr : mapFind s.hld.roots gen ≠ none) :
    getRecordKey who asid gen s = { s with out := s.out ++ [.recordKey who asid gen (some (recordKey s asid gen))] } := by
  unfold getRecordKey
  dsimp only
  rw [if_pos]
  simp only [Bool.and_eq_true, Option.isSome_iff_ne_none]
  exact ⟨⟨hs, hb⟩, hr⟩

/-! #### The obligation -/

/-- Settles O54: each request by the answer that SPDM's state gives, each message of a transport by its type. -/
theorem attestationRequests : Obligations.AttestationRequests := by
  unfold Obligations.AttestationRequests
  refine ⟨fun t r s h1 => ⟨fun h => ?_, fun a c h hr => ?_⟩, fun n m s h1 hw => ⟨fun h => ?_, fun a u h hserve => ?_⟩,
    fun s c r hl hs he hv hc hn => spdmRespond_early hl hs he hv hc hn,
    fun s c => ⟨rfl, fun h => ?_, fun h => ?_, fun nonce index hl h1 h6 => spdmRespond_measurements nonce hl h1 h6,
      fun k h => spdmRespond_finish h⟩,
    fun who asid gen s h1 => ⟨fun h => ?_, fun hs hb hr => ?_⟩,
    fun t s h1 => ⟨fun h => ⟨fun e _ => ?_, ?_, fun k => ?_, fun r hs => ?_, fun r => ?_⟩, fun h m => ?_⟩⟩
  · exact (next_onlyIf (headAnswers_of_phase h1) _ s).trans (congrArg Host.Outcome.next (spdmRequest_down h r))
  · exact ⟨_, next_onlyIf (headAnswers_of_phase h1) _ s, spdmRequest_fields h hr⟩
  · refine (next_onlyIf (headAnswers_of_phase h1) _ s).trans (congrArg Host.Outcome.next ((spdmRequest_link hw).trans ?_))
    rw [spdmOverLink, if_pos h]
  · refine (next_onlyIf (headAnswers_of_phase h1) _ s).trans (congrArg Host.Outcome.next ((spdmRequest_link hw).trans ?_))
    rw [spdmOverLink, if_neg h, hserve]
  · unfold spdmRespond
    dsimp only
    rw [decide_eq_true h]
    rfl
  · unfold spdmRespond
    dsimp only
    rw [decide_eq_true h]
    rfl
  · exact (next_onlyIf (headAnswers_of_phase h1) _ s).trans (congrArg Host.Outcome.next (getRecordKey_refused h))
  · exact (next_onlyIf (headAnswers_of_phase h1) _ s).trans (congrArg Host.Outcome.next (getRecordKey_given hs hb hr))
  · have hdue : (headAnswers s && sidebandUp s t) = true := by rw [headAnswers_of_phase h1, h]; rfl
    refine ⟨_, next_onlyIf hdue (mctpTake t (.setEid e)) s, mapGet_mapSet_same .., ?_, rfl⟩
    exact congrArg (fun x => s.out ++ [Out.mctp t x]) (mapGet_mapSet_same ..)
  · have hdue : (headAnswers s && sidebandUp s t) = true := by rw [headAnswers_of_phase h1, h]; rfl
    exact next_onlyIf hdue (mctpTake t .getEid) s
  · have hdue : (headAnswers s && sidebandUp s t) = true := by rw [headAnswers_of_phase h1, h]; rfl
    exact next_onlyIf hdue (mctpTake t (.other k)) s
  · have hdue : (headAnswers s && sidebandUp s t) = true := by rw [headAnswers_of_phase h1, h]; rfl
    exact (next_onlyIf hdue (mctpTake t (.secured r)) s).trans (congrArg Host.Outcome.next (if_neg (by rw [hs]; decide)))
  · have hdue : (headAnswers s && sidebandUp s t) = true := by rw [headAnswers_of_phase h1, h]; rfl
    exact (next_onlyIf hdue (mctpTake t (.spdm r)) s).trans (next_onlyIf (headAnswers_of_phase h1) (spdmRequest (.mctp t r)) s).symm
  · exact next_onlyIf_of_not (by rw [h, Bool.and_false]) _ s

end Sys2Proof.Machine

end


section
/-! PROOF (O55). A cold start: what a cold reset leaves, the straps, and what each phase ends in (R111, R112, R789, R790,
R792-R795, R797, R800, R806, R852, R872, R906, R908). -/

namespace Sys2Proof.Machine

/-! #### A cold reset (R800, R806) -/

/-- The registers that a cold reset leaves at another value than their reset value. -/
def coldChanged : List Reg := coldRegs ++ [Reg.GLB_RSTCAUSE, .MEM_CFG, .FWU_ACTST, .FWU_STGBUNDLE]

/-- The state from which a cold reset starts over, its registers at their reset values. -/
def coldStart (s : State) : State :=
  { free := s.free, pending := s.pending, out := s.out
    hld := { roster := s.hld.roster }
    msh := { isthSpared := s.msh.isthSpared ||| BitVec.ofNat 48 (get64 s .MSH_ISTHWEAK_LO .MSH_ISTHWEAK_HI 0) }
    mem := { rateCfg := s.mem.rateCfg }
    twy := { noClock := s.twy.noClock }
    fwu := { s.fwu with turnDue := false }
    brk := { thermTrip := s.brk.thermTrip }
    rst := { resetN := s.rst.resetN, perst := s.rst.perst, perstSeen := s.rst.perst } }

theorem coldState_eq (s : State) : coldState s =
    applyRate (showFwu (setF F.FWU_ACTST.STATE 0 (markerState s.fwu.marker) (dropReceiving (keepRegs coldRegs s (coldStart s))))) := rfl

/-- What a cold reset's steps leave alone: the other registers, and all but the update state, rates, Breakwater and the outputs. -/
structure ColdFrame (s t : State) : Prop where
  regs : RegsButAll coldChanged s t
  rest : ∃ r f m b o, t = { s with regs := r, fwu := f, mem := m, brk := b, out := o } ∧ m.secs = s.mem.secs

namespace ColdFrame

theorem refl (s : State) : ColdFrame s s := ⟨.refl _ s, s.regs, s.fwu, s.mem, s.brk, s.out, rfl, rfl⟩

theorem trans {s t u : State} (h : ColdFrame s t) (k : ColdFrame t u) : ColdFrame s u := by
  obtain ⟨r, f, m, b, o, ht, hm⟩ := h.rest
  obtain ⟨r', f', m', b', o', hu, hm'⟩ := k.rest
  subst ht
  exact ⟨h.regs.trans k.regs, r', f', m', b', o', hu, hm'.trans hm⟩

theorem setReg {r : Reg} (h : r ∈ coldChanged) (i : Nat) (v : BitVec 32) (s : State) : ColdFrame s (Machine.setReg r i v s) :=
  ⟨.setReg h i v s, _, s.fwu, s.mem, s.brk, s.out, rfl, rfl⟩

theorem setF (f : Fld) (i v : Nat) (s : State) (h : f.reg ∈ coldChanged) : ColdFrame s (Machine.setF f i v s) := setReg h _ _ s

theorem foldl {α : Type} {g : State → α → State} {l : List α} (h : ∀ u, ∀ a ∈ l, ColdFrame u (g u a)) (s : State) :
    ColdFrame s (l.foldl g s) :=
  List.foldlRecOn (motive := fun u => ColdFrame s u) l g (refl s) fun u hu a ha => hu.trans (h u a ha)

theorem ite {c : Prop} [Decidable c] {s t u : State} (ht : ColdFrame s t) (hu : ColdFrame s u) :
    ColdFrame s (if c then t else u) := by
  split
  · exact ht
  · exact hu

theorem keepRegs (s t : State) : ColdFrame t (Machine.keepRegs coldRegs s t) :=
  foldl (fun u _ hr => foldl (fun v i _ => setReg (List.mem_append_left _ hr) i _ v) u) t

theorem dropReceiving (s : State) : ColdFrame s (Machine.dropReceiving s) := by
  have hfwu : ∀ f, ColdFrame s { s with fwu := f } := fun f => ⟨.of_regs_eq rfl, s.regs, f, s.mem, s.brk, s.out, rfl, rfl⟩
  refine (hfwu _).trans (foldl (fun u k _ => ite ?_ (refl u)) _)
  exact setF F.FWU_COMPST.STATE k 3 u (by decide)

theorem showFwu (s : State) : ColdFrame s (Machine.showFwu s) := by
  unfold Machine.showFwu
  dsimp only
  generalize (if stagedComplete s then hBundle (stagedHead s 1) else 0) = v
  refine (setF F.FWU_STGBUNDLE.VERSION 0 v s (by decide)).trans ?_
  generalize Machine.setF F.FWU_STGBUNDLE.VERSION 0 v s = u
  refine (setF F.FWU_STGBUNDLE.COMPLETE 0 (boolNat (stagedComplete s)) u (by decide)).trans ?_
  exact setF F.FWU_ROOT.CUR 0 ((currentRoot s).getD 0) _ (by decide)

theorem applyRate (s : State) : ColdFrame s (Machine.applyRate s) := by
  unfold Machine.applyRate
  split
  · rename_i r _
    refine trans (t := { s with mem := { s.mem with rate := r } }) ?_ (setF F.MEM_CFG.RATE 0 r _ (by decide))
    exact ⟨.of_regs_eq rfl, s.regs, s.fwu, _, s.brk, s.out, rfl, rfl⟩
  · exact refl s

theorem trainHost (s : State) : ColdFrame s (Machine.trainHost s) :=
  ite ⟨.of_regs_eq rfl, s.regs, s.fwu, s.mem, s.brk, _, rfl, rfl⟩ (refl s)

theorem coldState (s : State) : ColdFrame (coldStart s) (Machine.coldState s) := by
  rw [coldState_eq]
  refine (keepRegs s _).trans ((dropReceiving _).trans (trans ?_ ((showFwu _).trans (applyRate _))))
  exact setF F.FWU_ACTST.STATE 0 _ _ (by decide)

end ColdFrame

/-- The cold state with its boots counted and the thermal trip released. -/
def coldCounted (cause : Nat) (t : State) : State :=
  { t with
    fwu := { t.fwu with boots := if t.fwu.marker = 3 then t.fwu.boots + 1 else 0 }
    brk := { t.brk with thermTrip := t.brk.thermTrip && decide (2 ≤ cause) } }

theorem coldReset_eq (cause : Nat) (s : State) : coldReset cause s =
    trainHost (setF F.GLB_RSTCAUSE.CAUSE 0 cause (coldCounted cause (coldState s))) := rfl

theorem trainHost_regs (s : State) : (trainHost s).regs = s.regs := by
  unfold trainHost
  split <;> rfl

theorem coldReset_fields {cause : Nat} (hc : cause < 16) (s : State) : getF (coldReset cause s) F.GLB_RSTCAUSE.CAUSE = cause ∧
    ColdFrame (coldStart s) (coldReset cause s) := by
  rw [coldReset_eq]
  refine ⟨?_, ?_⟩
  · rw [getF_congr (trainHost_regs _), getF_setF_of_lt (by decide) hc]
  · have hcount : ColdFrame (coldState s) (coldCounted cause (coldState s)) := ⟨.of_regs_eq rfl, _, _, _, _, _, rfl, rfl⟩
    generalize coldCounted cause (coldState s) = u at *
    exact ((ColdFrame.coldState s).trans hcount).trans
      ((ColdFrame.setF F.GLB_RSTCAUSE.CAUSE 0 cause u (by decide)).trans (.trainHost _))

theorem getReg_coldStart (s : State) (r : Reg) (i : Nat) : getReg (coldStart s) r i = regReset r i := rfl

/-- What a cold reset leaves of the die. -/
theorem coldReset_leaves {cause : Nat} (hc : cause < 16) (s : State) :
    phase (coldReset cause s) = 0 ∧ getF (coldReset cause s) F.GLB_RSTCAUSE.CAUSE = cause ∧
    (∀ r j, r ∉ coldRegs → r ∉ [Reg.GLB_RSTCAUSE, .MEM_CFG, .FWU_ACTST, .FWU_STGBUNDLE] →
      getReg (coldReset cause s) r j = regReset r j) ∧
    (coldReset cause s).reef = {} ∧ (coldReset cause s).tq = {} ∧ (coldReset cause s).xlt = {} ∧ (coldReset cause s).bead = {} ∧
    (coldReset cause s).hbl = {} ∧ (coldReset cause s).shl = {} ∧ (coldReset cause s).pci = {} ∧ (coldReset cause s).evt = {} ∧
    (coldReset cause s).msh
      = { isthSpared := s.msh.isthSpared ||| BitVec.ofNat 48 (get64 s .MSH_ISTHWEAK_LO .MSH_ISTHWEAK_HI 0) } ∧
    (∀ n, gpioInput (coldReset cause s) n = true) ∧ spiQuad (coldReset cause s) = false ∧
    (coldReset cause s).hld = { roster := s.hld.roster } ∧ (coldReset cause s).mem.secs = [] ∧
    (coldReset cause s).pending = s.pending ∧ (coldReset cause s).rst.perst = s.rst.perst ∧
    (coldReset cause s).rst.ready = false ∧ (coldReset cause s).rst.warm = 0 ∧ (coldReset cause s).rst.resetN = s.rst.resetN := by
  obtain ⟨hcause, hregs, r, f, m, b, o, ht, hm⟩ := coldReset_fields hc s
  have hreset : ∀ r j, r ∉ coldChanged → getReg (coldReset cause s) r j = regReset r j := fun r j hr =>
    (hregs r j hr).trans (getReg_coldStart s r j)
  have hphase : phase (coldReset cause s) = 0 :=
    (congrArg (bitsAt · 0 3) (hreset .GLB_STATUS 0 (by decide))).trans (by decide)
  generalize coldReset cause s = t at *
  subst ht
  exact ⟨hphase, hcause, fun r j h1 h2 => hreset r j fun h => (List.mem_append.1 h).elim h1 h2,
    rfl, rfl, rfl, rfl, rfl, rfl, rfl, rfl, rfl, fun _ => rfl, rfl, rfl, hm, rfl, rfl, rfl, rfl, rfl⟩

/-! #### The straps (R789, R790) -/

/-- The straps as sampled. -/
def strapped (tray slot : Nat) (sbsel recov : Bool) (s : State) : State :=
  setF F.GLB_STRAP.TRAY 0 tray (setF F.GLB_STRAP.SLOT 0 slot
    (setF F.GLB_STRAP.SBSEL 0 (boolNat sbsel) (setF F.GLB_STRAP.RECOV 0 (boolNat recov) s)))

theorem strapped_fields {tray slot : Nat} (ht : tray < 4) (hs : slot < 8) (sbsel recov : Bool) (s : State) :
    getF (strapped tray slot sbsel recov s) F.GLB_STRAP.TRAY = tray ∧ getF (strapped tray slot sbsel recov s) F.GLB_STRAP.SLOT = slot ∧
    flag (strapped tray slot sbsel recov s) F.GLB_STRAP.SBSEL = sbsel ∧
    flag (strapped tray slot sbsel recov s) F.GLB_STRAP.RECOV = recov ∧
    (strapped tray slot sbsel recov s).rst = s.rst ∧ (strapped tray slot sbsel recov s).out = s.out := by
  unfold strapped
  have hrecov : flag (setF F.GLB_STRAP.RECOV 0 (boolNat recov) s) F.GLB_STRAP.RECOV = recov := flag_setF_boolNat rfl rfl 0 recov s
  generalize hu : setF F.GLB_STRAP.RECOV 0 (boolNat recov) s = u at *
  have hsb : flag (setF F.GLB_STRAP.SBSEL 0 (boolNat sbsel) u) F.GLB_STRAP.SBSEL = sbsel := flag_setF_boolNat rfl rfl 0 sbsel u
  have hrecov2 : flag (setF F.GLB_STRAP.SBSEL 0 (boolNat sbsel) u) F.GLB_STRAP.RECOV = recov :=
    (flag_congr (getF_setF_of_bits (by decide) (by decide) ..)).trans hrecov
  generalize hv : setF F.GLB_STRAP.SBSEL 0 (boolNat sbsel) u = v at *
  have hslot : getF (setF F.GLB_STRAP.SLOT 0 slot v) F.GLB_STRAP.SLOT = slot := getF_setF_of_lt (by decide) hs 0 v
  have hkeep : ∀ g : Fld, g.reg = .GLB_STRAP → 5 ≤ g.bit → flag (setF F.GLB_STRAP.TRAY 0 tray (setF F.GLB_STRAP.SLOT 0 slot v)) g
      = flag v g := fun g _ hb => by
    rw [flag_congr (getF_setF_of_bits (f := F.GLB_STRAP.TRAY) (g := g) (by decide) (.inl (Nat.le_trans (by decide) hb)) ..),
      flag_congr (getF_setF_of_bits (f := F.GLB_STRAP.SLOT) (g := g) (by decide) (.inl hb) ..)]
  refine ⟨getF_setF_of_lt (f := F.GLB_STRAP.TRAY) (by decide) ht 0 _, ?_, (hkeep _ rfl (by decide)).trans hsb,
    (hkeep _ rfl (by decide)).trans hrecov2, ?_, ?_⟩
  · rw [getF_setF_of_bits (by decide) (by decide), hslot]
  · rw [setF_rst, setF_rst, ← hv, setF_rst, ← hu, setF_rst]
  · rw [setF_out, setF_out, ← hv, setF_out, ← hu, setF_out]

/-- The die out of reset: its number, and the start of its clock. -/
def numbered (d : Nat) (s : State) : State :=
  setPhase 0 (setF F.GLB_DIE.DIE 0 d { s with rst := { s.rst with resetN := true, start := s.time } })

theorem resetRelease_eq {s : State} (h : s.rst.resetN = false) (tray slot : Nat) (sbsel recov : Bool) :
    resetRelease tray slot sbsel recov s = trainHost (numbered (8 * tray + slot) (strapped tray slot sbsel recov s)) :=
  if_neg (by rw [h]; decide)

theorem numbered_fields {d : Nat} (hd : d < 32) (s : State) : (numbered d s).rst = { s.rst with resetN := true, start := s.time } ∧
    phase (numbered d s) = 0 ∧ ownDie (numbered d s) = d ∧ (numbered d s).out = s.out ∧
    RegsButAll [.GLB_STATUS, .GLB_PHASET, .GLB_DIE] s (numbered d s) := by
  unfold numbered
  generalize hu : ({ s with rst := { s.rst with resetN := true, start := s.time } } : State) = u
  have hur : u.regs = s.regs := by rw [← hu]
  obtain ⟨hp, hr⟩ := setPhase_fields (p := 0) (by decide) (setF F.GLB_DIE.DIE 0 d u)
  refine ⟨by rw [setPhase_rst, setF_rst, ← hu], hp, ?_, by rw [setPhase_out, setF_out, ← hu], ?_⟩
  · rw [ownDie, getF, hr _ _ (by decide), ← getF, getF_setF_of_lt (by decide) hd]
  · refine RegsButAll.trans (.of_regs_eq hur) (RegsButAll.trans ?_ (hr.mono (by simp)))
    exact .setF (f := F.GLB_DIE.DIE) (by simp [show F.GLB_DIE.DIE.reg = .GLB_DIE from rfl]) 0 d u

theorem trainHost_fields {s : State} (h : s.rst.resetN = true) : (trainHost s).rst = s.rst ∧ (trainHost s).regs = s.regs ∧
    (trainHost s).out = s.out ++ (if s.rst.perst = true then [.pciTrain] else []) := by
  refine ⟨?_, trainHost_regs s, ?_⟩
  · unfold trainHost
    split <;> rfl
  · rw [trainHost, h]
    by_cases hp : s.rst.perst = true
    · rw [if_pos (by simp [hp]), if_pos hp]
    · rw [if_neg (by simp [hp]), if_neg hp, List.append_nil]

theorem resetRelease_fields {s : State} (h : s.rst.resetN = false) {tray slot : Nat} (ht : tray < 4) (hs : slot < 8)
    (sbsel recov : Bool) :
    let t := resetRelease tray slot sbsel recov s
    t.rst.resetN = true ∧ t.rst.start = s.time ∧ phase t = 0 ∧ ownDie t = 8 * tray + slot ∧ getF t F.GLB_STRAP.TRAY = tray ∧
      getF t F.GLB_STRAP.SLOT = slot ∧ flag t F.GLB_STRAP.SBSEL = sbsel ∧ flag t F.GLB_STRAP.RECOV = recov ∧
      t.out = s.out ++ (if s.rst.perst = true then [.pciTrain] else []) := by
  rw [resetRelease_eq h]
  dsimp only
  have htime : (strapped tray slot sbsel recov s).time = s.time := by unfold strapped; simp only [setF_time]
  obtain ⟨hT, hS, hB, hR, hrst, hout⟩ := strapped_fields ht hs sbsel recov s
  generalize strapped tray slot sbsel recov s = u at *
  obtain ⟨hnrst, hp, hd, hnout, hregs⟩ := numbered_fields (d := 8 * tray + slot) (by omega) u
  have hstrap : ∀ f : Fld, f.reg = .GLB_STRAP → getF (numbered (8 * tray + slot) u) f = getF u f := fun f hf => by
    rw [getF, hf, hregs _ _ (by decide), getF, hf]
  generalize numbered (8 * tray + slot) u = v at *
  obtain ⟨htrst, htregs, htout⟩ := trainHost_fields (s := v) (by rw [hnrst])
  have hreg : ∀ f : Fld, getF (trainHost v) f = getF v f := fun f => getF_congr htregs f 0
  refine ⟨by rw [htrst, hnrst], by rw [htrst, hnrst, htime], (hreg _).trans hp, (hreg _).trans hd, ?_, ?_, ?_, ?_, ?_⟩
  · rw [hreg, hstrap _ rfl, hT]
  · rw [hreg, hstrap _ rfl, hS]
  · rw [flag_congr (hreg _), flag_congr (hstrap _ rfl), hB]
  · rw [flag_congr (hreg _), flag_congr (hstrap _ rfl), hR]
  · rw [htout, hnout, hout, hnrst, hrst]

/-! #### The ROM (R792, R795, R852, R908) -/

theorem enterRecovery_fields {reason : Nat} (h : reason < 8) (s : State) :
    phase (enterRecovery reason s) = 7 ∧ getF (enterRecovery reason s) F.FWU_RECOV.REASON = reason := by
  unfold enterRecovery
  obtain ⟨hp, hr⟩ := setPhase_fields (p := 7) (by decide) (setF F.FWU_RECOV.REASON 0 reason s)
  refine ⟨hp, ?_⟩
  rw [getF, hr _ _ (by decide), ← getF, getF_setF_of_lt (by decide) h]

section
variable {s : State} (hp : phase s = 0) (hn : s.rst.resetN = true)
include hp hn

theorem hbootDone_stops (flash : Bool) : hbootDone false flash s = dieStop 0 s :=
  (if_neg (by simp [hp, hn])).trans (if_pos rfl)

theorem hbootDone_goes (flash : Bool) : hbootDone true flash s = hbootGo flash s :=
  (if_neg (by simp [hp, hn])).trans (if_neg (by decide))

end

/-- The ROM with the flash device in quad mode. -/
def romQuad (s : State) : State := { s with rst := { s.rst with quad := true } }

section
variable {s : State} (flash : Bool)

theorem hbootGo_strap (h : flag s F.GLB_STRAP.RECOV = true) : hbootGo flash s = enterRecovery 1 (romQuad s) := if_pos h

theorem hbootGo_cut (h : flag s F.GLB_STRAP.RECOV = false) (hm : s.fwu.marker = 2) :
    hbootGo flash s = enterRecovery 3 (romQuad s) := (if_neg (ne_true_of_eq_false h)).trans (if_pos hm)

theorem hbootGo_failed (h : flag s F.GLB_STRAP.RECOV = false) (hm : s.fwu.marker = 3) (hb : 2 ≤ s.fwu.boots) :
    hbootGo flash s = enterRecovery 4 (romQuad s) :=
  (if_neg (ne_true_of_eq_false h)).trans ((if_neg fun h2 => by
    have : s.fwu.marker = 2 := h2
    omega).trans (if_pos ⟨hm, hb⟩))

theorem hbootGo_marked (h : flag s F.GLB_STRAP.RECOV = false) (hm : s.fwu.marker = 0) :
    hbootGo flash s = if !(flash && activeOk (romQuad s) 1) then enterRecovery 2 (romQuad s) else headStart (romQuad s) := by
  refine (if_neg (ne_true_of_eq_false h)).trans ((if_neg fun h2 => ?_).trans (if_neg fun h3 => ?_))
  · have : s.fwu.marker = 2 := h2
    omega
  · have : s.fwu.marker = 3 := h3.1
    omega

end

/-! #### Headland's start (R793, R906, R908) -/

/-- What quarantine does leaves the reset state as it is. -/
theorem quarClosed_rst : QuarClosed (fun s t => t.rst = s.rst) where
  refl _ := rfl
  trans h k := k.trans h
  send h := h.rst
  setF f i v s _ := setF_rst f i v s
  quar _ _ := setReg_rst ..
  hbl _ _ := rfl
  hld _ _ := rfl

namespace QuarClosed
variable {R : State → State → Prop} (hR : QuarClosed R)
include hR

theorem leaseSend (kind : Nat) (s : State) : R s (Machine.leaseSend kind s) :=
  hR.foldl _ _ (fun t _ => ite (hR.send (.twySend _ t)) (hR.refl t)) s

theorem leaseRelease (next : Nat) (s : State) : R s (Machine.leaseRelease next s) := by
  have hone : R s (if role s = 3 then { Machine.leaseSend 3 s with hld := { s.hld with stew := {} } } else s) :=
    ite (hR.trans (hR.leaseSend 3 s) (hR.hld _ _)) (hR.refl s)
  unfold Machine.leaseRelease
  dsimp only
  generalize (if role s = 3 then { Machine.leaseSend 3 s with hld := { s.hld with stew := {} } } else s) = u at *
  have htwo : R s (if role s = 3 then noHolder u else u) :=
    ite (hR.trans hone (hR.setF F.HLD_ROLE.SVALID 0 0 u (by decide))) hone
  generalize (if role s = 3 then noHolder u else u) = v at *
  exact hR.trans htwo (hR.trans (hR.hld v _) (hR.setF F.HLD_ROLE.ROLE 0 next _ (by decide)))

theorem serviceEnd (s : State) : R s (Machine.serviceEnd s) := by
  refine hR.foldl _ _ (fun u k => ?_) s
  split
  · exact hR.clientDrop _ u
  · exact hR.refl u

theorem withdraw (s : State) : R s (Machine.withdraw s) :=
  ite (hR.refl s) (hR.trans (hR.trans (hR.leaseRelease 4 s) (hR.serviceEnd _))
    (hR.foldl _ _ (fun t n => hR.send (.linkHand n t)) _))

theorem withdrawEnd (s : State) : R s (Machine.withdrawEnd s) := by
  unfold Machine.withdrawEnd
  have hrole : R s (Machine.setF F.HLD_ROLE.ROLE 0 1 s) := hR.setF F.HLD_ROLE.ROLE 0 1 s (by decide)
  have h1 : role (Machine.setF F.HLD_ROLE.ROLE 0 1 s) = 1 := getF_setF_of_lt (f := F.HLD_ROLE.ROLE) (by decide) (by decide) 0 s
  generalize Machine.setF F.HLD_ROLE.ROLE 0 1 s = u at *
  have hmem : R s (setMember (ownDie s) false u) := hR.trans hrole (hR.hld u _)
  have hm1 : role (setMember (ownDie s) false u) = 1 := (getF_congr rfl _ _).trans h1
  generalize setMember (ownDie s) false u = v at *
  have hv := SendFrame.twyRetry v
  have hr1 : role (twyRetry v) ≠ 3 := by
    rw [role, hv.getF rfl, ← role, hm1]
    decide
  generalize twyRetry v = w at *
  refine ite (hR.trans hmem (hR.trans (hR.send hv) (ite (hR.refl w) (hR.send ?_)))) (hR.refl s)
  exact sendFrame_toSteward hr1 _ _ _ _

theorem ownQuarSync (s : State) : R s (Machine.ownQuarSync s) := by
  unfold Machine.ownQuarSync
  dsimp only
  generalize (s.hld.roster != [] && ((rosterOf s (ownDie s)).quar || !knownPeer s (ownDie s) Config.ownHash)) = q
  have hq : R s (Machine.setF F.HLD_ROLE.QUAR 0 (boolNat q) s) := hR.setF F.HLD_ROLE.QUAR 0 _ s (by decide)
  exact ite (hR.trans hq (hR.withdraw _)) (hR.trans hq (hR.withdrawEnd _))

end QuarClosed

theorem rosterInForce_rst (s : State) : (rosterInForce s).rst = s.rst := by
  unfold rosterInForce
  refine (quarClosed_rst.ownQuarSync _).trans ?_
  exact quarClosed_rst.foldl _ _ (fun u d => (quarClosed_rst.quarSync d _).trans (setReg_rst ..)) s

/-- A first start with an image of header `h`: CONFIG's format is read, or its defaults are taken. -/
def configRead (h : BitVec 4096) (s : State) : State :=
  if s.fwu.cfgFormat = hSetFmt h ∨ (hSetMig h ≤ s.fwu.cfgFormat ∧ s.fwu.cfgFormat < hSetFmt h) then
    { s with fwu := { s.fwu with newHead := false, cfgFormat := hSetFmt h } }
  else
    post { code := Ev.FWU_SETDEFAULT, d0 := s.fwu.cfgFormat }
      (setReg .MEM_CFG 0 (regReset .MEM_CFG 0) { s with
        fwu := { s.fwu with newHead := false, cfgFormat := hSetFmt h }, mem := { s.mem with rateCfg := none, rate := 3 } })

theorem readConfig_eq (s : State) : ∃ h, readConfig s = if !s.fwu.newHead then s else configRead h s := ⟨_, rfl⟩

theorem readConfig_rst (s : State) : (readConfig s).rst = s.rst := by
  obtain ⟨h, heq⟩ := readConfig_eq s
  rw [heq, configRead]
  split
  · rfl
  · split
    · rfl
    · rw [post_rst, setReg_rst]

theorem runBundle_congr {s t : State} (h : t.fwu = s.fwu) : runBundle t = runBundle s := by
  rw [runBundle, h, runBundle]

/-- Headland's firmware as it takes the pins over. -/
def headReady (s : State) : State :=
  setPhase 1 { s with rst := { s.rst with gpio := some (Config.gpioOutputs (runBundle s)) } }

theorem headReady_fields (s : State) : phase (headReady s) = 1 ∧ spiQuad (headReady s) = s.rst.quad ∧
    (headReady s).rst.gpio = some (Config.gpioOutputs (runBundle (headReady s))) := by
  unfold headReady
  generalize hu : ({ s with rst := { s.rst with gpio := some (Config.gpioOutputs (runBundle s)) } } : State) = u
  have hur : u.rst = { s.rst with gpio := some (Config.gpioOutputs (runBundle s)) } := by rw [← hu]
  have huf : u.fwu = s.fwu := by rw [← hu]
  refine ⟨(setPhase_fields (by decide) _).1, by rw [spiQuad, setPhase_rst, hur], ?_⟩
  rw [setPhase_rst, hur, runBundle_congr (t := setPhase 1 u) (s := s) ((setPhase_fwu ..).trans huf)]

/-- The versions that run, shown. -/
def headShown (s : State) : State :=
  setF F.GLB_FWVER.PATCH 0 (runBundle s % 256) (setF F.GLB_FWVER.MINOR 0 (runBundle s / 256 % 256)
    (setF F.GLB_FWVER.MAJOR 0 (runBundle s / 65536) (setF F.FWU_RUNBUNDLE.VERSION 0 (runBundle s) s)))

/-- A die without the Tideway clock says so. -/
def headWarned (s : State) : State := if s.twy.noClock then post { code := Ev.GLB_NOTWYCLK } s else s

theorem headStart_eq (s : State) : headStart s =
    headReady (headWarned (rosterInForce (setRoot 0 0 (drawRoot 0 (headShown (readConfig s)))))) := by
  unfold headStart headReady headWarned headShown
  with_reducible rfl

theorem headWarned_rst (s : State) : (headWarned s).rst = s.rst := by
  unfold headWarned
  split
  · rw [post_rst]
  · rfl

theorem headShown_rst (s : State) : (headShown s).rst = s.rst := by
  rw [headShown, setF_rst, setF_rst, setF_rst, setF_rst]

theorem drawnRoot_rst (s : State) : (setRoot 0 0 (drawRoot 0 s)).rst = s.rst := by
  rw [setRoot, setF_rst, setF_rst]
  rfl

theorem headStart_fields {s : State} (h : s.rst.quad = true) : phase (headStart s) = 1 ∧ spiQuad (headStart s) = true ∧
    (headStart s).rst.gpio = some (Config.gpioOutputs (runBundle (headStart s))) := by
  rw [headStart_eq]
  have hrst : (headWarned (rosterInForce (setRoot 0 0 (drawRoot 0 (headShown (readConfig s)))))).rst = s.rst := by
    rw [headWarned_rst, rosterInForce_rst, drawnRoot_rst, headShown_rst, readConfig_rst]
  generalize headWarned (rosterInForce (setRoot 0 0 (drawRoot 0 (headShown (readConfig s))))) = u at *
  obtain ⟨hp, hq, hg⟩ := headReady_fields u
  exact ⟨hp, by rw [hq, hrst, h], hg⟩

/-! #### POWER (R111, R792, R795, R872) -/

/-- A fold whose step at `a` makes of `P` `Q`, and of which the other steps keep both. -/
theorem foldl_hits {α σ : Type} {g : σ → α → σ} {P Q : σ → Prop} {a : α} {l : List α} (hP : ∀ u, ∀ b ∈ l, b ≠ a → P u → P (g u b))
    (ha : ∀ u, P u → Q (g u a)) (hQ : ∀ u, ∀ b ∈ l, b ≠ a → Q u → Q (g u b)) (hl : l.Nodup) (hmem : a ∈ l) {u : σ} (h : P u) :
    Q (l.foldl g u) := by
  induction l generalizing u with
  | nil => cases hmem
  | cons b l ih =>
    obtain ⟨hb, hnd⟩ := List.nodup_cons.1 hl
    rcases List.mem_cons.1 hmem with rfl | hmem
    · exact List.foldlRecOn (motive := Q) l g (ha u h) fun v hv c hc =>
        hQ v c (List.mem_cons_of_mem _ hc) (fun e => hb (e ▸ hc)) hv
    · exact ih (fun v c hc => hP v c (List.mem_cons_of_mem _ hc)) (fun v c hc => hQ v c (List.mem_cons_of_mem _ hc)) hnd hmem
        (hP u b (List.mem_cons_self ..) (fun e => hb (e ▸ hmem)) h)

/-- The records that waited are written once the rings are ready. -/
theorem ringWrite_held (f : Nat) (r : EvtRec) (s : State) : (ringWrite f r s).evt.held = s.evt.held := by
  by_cases h : ringTakes f r s
  · rw [ringWrite_of_takes h, ringIrq_evt, setReg_evt]
  · obtain ⟨lost, heq⟩ := ringWrite_of_full h
    have hb : (bump F.EVT_LOST.COUNT f s).evt = s.evt := bump_evt ..
    rw [heq, ← hb]

theorem evReady_eq (s : State) : evReady s =
    s.evt.held.foldl (fun u h => h.2.foldl (fun w f => ringWrite f h.1 w) u) { s with evt := { s.evt with held := [], ready := true } } :=
  rfl

theorem evReady_fields (s : State) : (evReady s).evt.held = [] ∧ (evReady s).evt.ready = true ∧ (evReady s).msh = s.msh ∧
    (evReady s).twy = s.twy ∧ RegsButAll eventRegs s (evReady s) := by
  rw [evReady_eq]
  have hstep : ∀ (P : State → Prop), (∀ u f r, P u → P (ringWrite f r u)) → P { s with evt := { s.evt with held := [], ready := true } } →
      P (s.evt.held.foldl (fun u h => h.2.foldl (fun w f => ringWrite f h.1 w) u)
        { s with evt := { s.evt with held := [], ready := true } }) := fun P h h0 =>
    List.foldlRecOn (motive := P) _ _ h0 fun u hu a _ => List.foldlRecOn (motive := P) _ _ hu fun w hw f _ => h w f a.1 hw
  refine ⟨hstep (fun u => u.evt.held = []) (fun u f r h => (ringWrite_held f r u).trans h) rfl,
    hstep (fun u => u.evt.ready = true) (fun u f r h => (PostFrame.ringWrite f r u).ready.trans h) rfl,
    hstep (fun u => u.msh = s.msh) (fun u f r h => (PostFrame.ringWrite f r u).msh.trans h) rfl,
    hstep (fun u => u.twy = s.twy) (fun u f r h => (PostFrame.ringWrite f r u).twy.trans h) rfl,
    hstep (fun u => RegsButAll eventRegs s u) (fun u f r h => h.trans fun q i hq => ?_) (.of_regs_eq rfl)⟩
  exact (PostFrame.ringWrite f r u).reg q i (postReg_eq_false_of_notMem hq)

theorem coveTarget_twy (c : Nat) (s : State) : (coveTarget c s).twy = s.twy := by
  unfold coveTarget draw
  exact setF_twy ..

theorem wakeCove_twy (c : Nat) (s : State) : (wakeCove c s).twy = s.twy := by
  unfold wakeCove
  split
  · obtain ⟨l, hl⟩ := railsFollow_eq s (coveTarget c (setF F.BRK_COVESTAT.STATE c 3 s))
    rw [hl]
    exact (coveTarget_twy c _).trans (setF_twy F.BRK_COVESTAT.STATE c 3 s)
  · rfl

theorem twy_adjMove (s : State) : (adjMove s).twy = s.twy := by
  unfold adjMove
  generalize hu : { s with msh := { s.msh with adjHeld := [] } } = u
  have hub : u.twy = s.twy := by rw [← hu]
  refine Eq.trans ?_ hub
  refine foldl_read_of_kept (rd := fun v : State => v.twy) (fun v f _ => ?_) u
  dsimp only
  split <;> rfl

/-- The registers and the clocks that a cove which has woken leaves behind, and its pending requests. -/
def coveRecorded (c : Nat) (s : State) : State :=
  { wakeCounted c (s.brk.wakeReq.getLsbD c) (coveAwoken c s) with
    brk := { (wakeCounted c (s.brk.wakeReq.getLsbD c) (coveAwoken c s)).brk with
      wakeReq := putBit (wakeCounted c (s.brk.wakeReq.getLsbD c) (coveAwoken c s)).brk.wakeReq c false
      exitReq := putBit (wakeCounted c (s.brk.wakeReq.getLsbD c) (coveAwoken c s)).brk.exitReq c false } }

theorem coveWoken_frame (c : Nat) (s : State) : (coveWoken c s).twy = s.twy ∧
    RegsButAll [.BRK_COVESTAT, .MSH_COVEAWAKE, .MSH_WAKECNT] s (coveWoken c s) := by
  have heq : coveWoken c s = adjMove (coveRecorded c s) := rfl
  have hset : RegsButAll [.BRK_COVESTAT, .MSH_COVEAWAKE, .MSH_WAKECNT] s (coveAwoken c s) := by
    refine RegsButAll.trans (t := setF F.BRK_COVESTAT.STATE c 0 s) ?_ (.setReg (by simp) _ _ _)
    exact .setF (f := F.BRK_COVESTAT.STATE) (List.mem_cons_self ..) c 0 s
  have htwy : (coveAwoken c s).twy = s.twy := by rw [coveAwoken, setReg_twy, setF_twy]
  have hcount : RegsButAll [.BRK_COVESTAT, .MSH_COVEAWAKE, .MSH_WAKECNT] (coveAwoken c s)
      (wakeCounted c (s.brk.wakeReq.getLsbD c) (coveAwoken c s)) ∧
      (wakeCounted c (s.brk.wakeReq.getLsbD c) (coveAwoken c s)).twy = (coveAwoken c s).twy := by
    unfold wakeCounted
    split
    · exact ⟨.bump (f := F.MSH_WAKECNT.COUNT) (by simp [show F.MSH_WAKECNT.COUNT.reg = .MSH_WAKECNT from rfl]) c _, bump_twy ..⟩
    · exact ⟨.refl _ _, rfl⟩
  rw [heq]
  exact ⟨(twy_adjMove _).trans (hcount.2.trans htwy),
    (hset.trans hcount.1).trans (.of_regs_eq (InjectFrame.adjMove (coveRecorded c s)).regs)⟩

theorem isthmusTrain_fields (s : State) : (isthmusTrain s).msh.isthTrained = true ∧ (isthmusTrain s).twy = s.twy ∧
    RegsButAll [.MSH_ISTHWEAK_LO, .MSH_ISTHWEAK_HI] s (isthmusTrain s) := by
  unfold isthmusTrain
  dsimp only
  rw [set64_msh, set64_twy]
  refine ⟨rfl, rfl, RegsButAll.trans (.of_regs_eq rfl) (.set64 (by simp) (by simp) 0 0 _)⟩

/-- The die with its rails, cove 0, the Isthmus and the event rings up. -/
def powered (s : State) : State := setPhase 2 (evReady (isthmusTrain (coveWoken 0 (wakeCove 0 s))))

/-- The registers that this changes. -/
def poweredRegs : List Reg := [.BRK_COVESTAT, .MSH_COVEAWAKE, .MSH_WAKECNT, .MSH_ISTHWEAK_LO, .MSH_ISTHWEAK_HI, .GLB_STATUS,
  .GLB_PHASET] ++ eventRegs

theorem powered_fields (s : State) : phase (powered s) = 2 ∧ (powered s).msh.isthTrained = true ∧ (powered s).evt.ready = true ∧
    (powered s).evt.held = [] ∧ coveState (powered s) 0 = 0 ∧ (powered s).twy = s.twy ∧ RegsButAll poweredRegs s (powered s) := by
  unfold powered
  have hw : RegsButAll poweredRegs s (wakeCove 0 s) := (CoveFrame.wakeCove 0 s).regs.mono (by simp [poweredRegs])
  have hwt := wakeCove_twy 0 s
  generalize wakeCove 0 s = a at *
  obtain ⟨hct, hcr⟩ := coveWoken_frame 0 a
  obtain ⟨hc0, -⟩ := coveWoken_fields 0 (by decide) a
  have hc : RegsButAll poweredRegs s (coveWoken 0 a) := hw.trans (hcr.mono (by simp [poweredRegs]))
  generalize coveWoken 0 a = b at *
  obtain ⟨hit, hitw, hir⟩ := isthmusTrain_fields b
  have hi : RegsButAll poweredRegs s (isthmusTrain b) := hc.trans (hir.mono (by simp [poweredRegs]))
  have hi0 : coveState (isthmusTrain b) 0 = 0 := (coveState_congr (hir _ _ (by decide))).trans hc0
  generalize isthmusTrain b = d at *
  obtain ⟨hh, hre, hm, het, her⟩ := evReady_fields d
  have hev : RegsButAll poweredRegs s (evReady d) := hi.trans (her.mono fun r hr => List.mem_append_right _ hr)
  have hev0 : coveState (evReady d) 0 = 0 := (coveState_congr (her _ _ (by decide))).trans hi0
  generalize evReady d = g at *
  obtain ⟨hp, hpr⟩ := setPhase_fields (p := 2) (by decide) g
  refine ⟨hp, by rw [setPhase_msh, hm, hit], by rw [setPhase_evt, hre], by rw [setPhase_evt, hh],
    (coveState_congr (hpr _ _ (by decide))).trans hev0, ?_, hev.trans (hpr.mono (by simp [poweredRegs]))⟩
  rw [setPhase_twy, het, hitw, hct, hwt]

/-- What starting ports and links leaves alone. -/
structure StartFrame (s t : State) : Prop where
  regs : RegsButAll [.SHL_PSTAT, .TWY_STATUS, .TWY_UP] s t
  msh : t.msh = s.msh
  evt : t.evt = s.evt
  twy : t.twy = s.twy

namespace StartFrame

theorem refl (s : State) : StartFrame s s := ⟨.refl _ s, rfl, rfl, rfl⟩

theorem trans {s t u : State} (h : StartFrame s t) (k : StartFrame t u) : StartFrame s u :=
  ⟨h.regs.trans k.regs, k.msh.trans h.msh, k.evt.trans h.evt, k.twy.trans h.twy⟩

theorem ite {c : Prop} [Decidable c] {s t u : State} (ht : StartFrame s t) (hu : StartFrame s u) :
    StartFrame s (if c then t else u) := by
  split
  · exact ht
  · exact hu

theorem shlStart (p : Nat) (s : State) : StartFrame s (Machine.shlStart p s) := by
  obtain ⟨-, -, -, hr⟩ := shlStart_fields p s
  exact ⟨hr.toAll (by simp), setF_msh F.SHL_PSTAT.STATE p 1 s, setF_evt F.SHL_PSTAT.STATE p 1 s, setF_twy F.SHL_PSTAT.STATE p 1 s⟩

theorem twyDetect (n : Nat) (s : State) : StartFrame s (Machine.twyDetect n s) :=
  ite ⟨(regsBut_setLinkState n s 1).toAll (by simp), rfl, rfl, rfl⟩ (refl s)

end StartFrame

/-- The port's step of `portsStart`. -/
def portStart (u : State) (p : Nat) : State := if flag u F.SHL_PCTL.EN p && portState u p == 0 then shlStart p u else u

theorem portStart_frame (u : State) (p : Nat) : StartFrame u (portStart u p) := .ite (.shlStart p u) (.refl u)

theorem portStart_ne {p q : Nat} (h : q ≠ p) (u : State) : portState (portStart u q) p = portState u p := by
  unfold portStart
  split
  · obtain ⟨-, -, -, hr⟩ := shlStart_fields q u
    exact portState_congr p (hr _ _ (by simp [Ne.symm h]))
  · rfl

theorem portsStart_starts {p : Nat} (hp : p < 8) {s : State} (hen : flag s F.SHL_PCTL.EN p = true) (h0 : portState s p = 0) :
    portState (portsStart s) p = 1 := by
  have hflag : ∀ u q, flag (portStart u q) F.SHL_PCTL.EN p = flag u F.SHL_PCTL.EN p := fun u q =>
    flag_congr (congrArg (bitsAt · _ _) ((portStart_frame u q).regs .SHL_PCTL p (by decide)))
  refine foldl_hits (g := portStart) (P := fun u => flag u F.SHL_PCTL.EN p = true ∧ portState u p = 0)
    (Q := fun u => portState u p = 1) (a := p) (fun u q _ hq h => ⟨(hflag u q).trans h.1, (portStart_ne hq u).trans h.2⟩) (fun u h => ?_)
    (fun u q _ hq h => (portStart_ne hq u).trans h) List.nodup_range (List.mem_range.2 hp) ⟨hen, h0⟩
  rw [portStart, if_pos (by rw [h.1, h.2]; rfl)]
  exact (shlStart_fields p u).1

theorem portsStart_frame (s : State) : StartFrame s (portsStart s) :=
  List.foldlRecOn (motive := fun u => StartFrame s u) _ _ (.refl s) fun u hu p _ => hu.trans (portStart_frame u p)

theorem twyDetects_frame (s : State) : StartFrame s ((List.range 24).foldl (fun u n => twyDetect n u) s) :=
  List.foldlRecOn (motive := fun u => StartFrame s u) _ _ (.refl s) fun u hu n _ => hu.trans (.twyDetect n u)

theorem twyDetect_ne {n m : Nat} (h : m ≠ n) (u : State) : linkState (twyDetect m u) n = linkState u n := by
  unfold twyDetect
  split
  · exact linkState_congr n (regsBut_setLinkState m u 1 _ _ (by simp [Ne.symm h]))
  · rfl

theorem twyDetects_starts {n : Nat} (hn : n < 24) {s : State} (hen : flag s F.TWY_LINKCTL.EN n = true) (h0 : linkState s n = 0)
    (hoff : (linkAt s n).off = false) (hc : twyClock s = true) :
    linkState ((List.range 24).foldl (fun u n => twyDetect n u) s) n = 1 := by
  have hkeep : ∀ u m, flag (twyDetect m u) F.TWY_LINKCTL.EN n = flag u F.TWY_LINKCTL.EN n ∧
      (linkAt (twyDetect m u) n).off = (linkAt u n).off ∧ twyClock (twyDetect m u) = twyClock u := fun u m => by
    have hf := StartFrame.twyDetect m u
    refine ⟨flag_congr (congrArg (bitsAt · _ _) (hf.regs .TWY_LINKCTL n (by decide))), by rw [linkAt_congr hf.twy], ?_⟩
    exact twyClock_congr (congrArg (bitsAt · _ _) (hf.regs .GLB_STATUS 0 (by decide)))
      (congrArg (bitsAt · _ _) (hf.regs .BRK_PSSTAT 0 (by decide))) (by rw [hf.twy])
  refine foldl_hits (g := fun u n => twyDetect n u)
    (P := fun u => linkState u n = 0 ∧ flag u F.TWY_LINKCTL.EN n = true ∧ (linkAt u n).off = false ∧ twyClock u = true)
    (Q := fun u => linkState u n = 1) (a := n) (fun u m _ hm h => ?_) (fun u h => ?_)
    (fun u m _ hm h => (twyDetect_ne hm u).trans h) List.nodup_range (List.mem_range.2 hn) ⟨h0, hen, hoff, hc⟩
  · obtain ⟨he, ho, hck⟩ := hkeep u m
    exact ⟨(twyDetect_ne hm u).trans h.1, he.trans h.2.1, ho.trans h.2.2.1, hck.trans h.2.2.2⟩
  · obtain ⟨h0, hen, hoff, hc⟩ := h
    rw [twyDetect_of h0 hen hoff hc]
    exact linkState_setLinkState n u (by decide)

theorem powerDone_eq {s : State} (h : phase s = 1) :
    powerDone none s = (List.range 24).foldl (fun u n => twyDetect n u) (portsStart (powered s)) := if_neg (by simp [h])

theorem powerDone_fields {s : State} (h : phase s = 1) :
    let t := powerDone none s
    phase t = 2 ∧ t.msh.isthTrained = true ∧ t.evt.ready = true ∧ t.evt.held = [] ∧ coveState t 0 = 0 ∧
      (∀ p, p < 8 → flag s F.SHL_PCTL.EN p = true → portState s p = 0 → portState t p = 1) ∧
      (∀ n, n < 24 → flag s F.TWY_LINKCTL.EN n = true → linkState s n = 0 → (linkAt s n).off = false →
        s.twy.noClock = false → getF s F.BRK_PSSTAT.STATE ≠ 2 → linkState t n = 1) := by
  rw [powerDone_eq h]
  dsimp only
  obtain ⟨hp, hi, hre, hh, hc0, htwy, hr⟩ := powered_fields s
  have hkeep : ∀ (f : Fld) i, f.reg ∉ poweredRegs → getF (powered s) f i = getF s f i := fun f i hf => by
    rw [getF, hr _ _ hf, getF]
  generalize powered s = u at *
  have hports := portsStart_frame u
  have hlinks := twyDetects_frame (portsStart u)
  have hall := hports.trans hlinks
  have hreg : ∀ (f : Fld) i, f.reg ∉ [Reg.SHL_PSTAT, .TWY_STATUS, .TWY_UP] →
      getF ((List.range 24).foldl (fun u n => twyDetect n u) (portsStart u)) f i = getF u f i := fun f i hf => by
    rw [getF, hall.regs _ _ hf, getF]
  refine ⟨(hreg F.GLB_STATUS.PHASE 0 (by decide)).trans hp, by rw [hall.msh, hi], by rw [hall.evt, hre], by rw [hall.evt, hh],
    (hreg F.BRK_COVESTAT.STATE 0 (by decide)).trans hc0, fun p hp8 hen h0 => ?_, fun n hn hen h0 hoff hclk hps => ?_⟩
  · have hst := portsStart_starts hp8 (s := u) ((flag_congr (hkeep F.SHL_PCTL.EN p (by decide))).trans hen)
      ((hkeep F.SHL_PSTAT.STATE p (by decide)).trans h0)
    refine Eq.trans ?_ hst
    exact foldl_read_of_kept (rd := fun v => portState v p) (fun v n _ => by
      unfold twyDetect
      split
      · exact portState_congr p (regsBut_setLinkState n v 1 _ _ (by simp))
      · rfl) _
  · have hlink : ∀ (f : Fld) i, f.reg ≠ .SHL_PSTAT → f.reg ≠ .TWY_UP → f.reg ≠ .TWY_STATUS → f.reg ∉ poweredRegs →
        getF (portsStart u) f i = getF s f i := fun f i h1 h2 h3 h4 => by
      rw [getF, hports.regs _ _ (by simp [h1, h2, h3]), ← getF, hkeep f i h4]
    have hstate : linkState (portsStart u) n = linkState u n :=
      foldl_read_of_kept (rd := fun v => linkState v n) (fun v p _ => by
        split
        · obtain ⟨-, -, -, hs⟩ := shlStart_fields p v
          exact linkState_congr n (hs _ _ (by simp))
        · rfl) u
    refine twyDetects_starts hn ((flag_congr (hlink _ _ (by decide) (by decide) (by decide) (by decide))).trans hen)
      (hstate.trans ((hkeep F.TWY_STATUS.STATE n (by decide)).trans h0)) ?_ ?_
    · rw [linkAt_congr (hports.twy.trans htwy), hoff]
    · have hphase : phase (portsStart u) = 2 :=
        (congrArg (bitsAt · 0 3) (hports.regs .GLB_STATUS 0 (by decide))).trans hp
      have hpst : getF (portsStart u) F.BRK_PSSTAT.STATE ≠ 2 := by
        rw [hlink _ _ (by decide) (by decide) (by decide) (by decide)]
        exact hps
      rw [twyClock, clocksRun, hphase, hports.twy, htwy, hclk]
      simp [hpst]

/-! #### BRINGUP (R792, R794) -/

theorem bringupDone_ready {s : State} (h2 : phase s = 2) (ht : s.mem.trained = true)
    (hp : ∀ p, p < 8 → portState s p = 0 ∨ portState s p = 3 ∨ portState s p = 5) : bringupDone s =
      setPhase 3 { s with rst := { s.rst with ready := true }, fwu := { s.fwu with boots := 0 } } := by
  refine if_pos ?_
  rw [h2, ht]
  simp only [decide_true, Bool.true_and, List.all_eq_true, List.mem_range]
  intro p h8
  rcases hp p h8 with h | h | h <;> rw [h] <;> rfl

theorem bringupDone_early {s : State} (h : phase s ≠ 2 ∨ s.mem.trained = false) : bringupDone s = s := by
  refine if_neg ?_
  rcases h with h | h <;> simp [h]

/-! #### The obligation -/

/-- The three cold resets of R800 and R891, with the state from which each starts over. -/
theorem cold_source {cause : Nat} {i : Instr} (h : (cause, i) ∈ [(0, Instr.powerOn), (0, .vaoBrownout), (1, .resetNAssert)])
    (s : State) : ∃ u : State, exec i s = .next (coldReset cause u) ∧ cause < 16 ∧ u.msh = s.msh ∧ u.regs = s.regs ∧ u.hld = s.hld ∧
      u.pending = s.pending ∧ u.rst.perst = s.rst.perst ∧ (i ≠ .vaoBrownout → u.rst.resetN = false) := by
  simp only [List.mem_cons, Prod.mk.injEq, List.not_mem_nil, or_false] at h
  obtain ⟨rfl, rfl⟩ | ⟨rfl, rfl⟩ | ⟨rfl, rfl⟩ := h
  · exact ⟨_, rfl, by decide, rfl, rfl, rfl, rfl, rfl, fun _ => rfl⟩
  · exact ⟨_, rfl, by decide, rfl, rfl, rfl, rfl, rfl, fun h => absurd rfl h⟩
  · exact ⟨_, rfl, by decide, rfl, rfl, rfl, rfl, rfl, fun _ => rfl⟩

/-- Settles O55: a cold reset by what it rebuilds, each phase by the branch that its condition takes. -/
theorem coldStartPhases : Obligations.ColdStartPhases := by
  unfold Obligations.ColdStartPhases
  refine ⟨fun cause i s h => ?_, fun tray slot sbsel recov s => ⟨fun h => ?_, fun h => ?_⟩,
    fun ok flash s => ⟨fun h => ?_, fun hp hn => ⟨fun hok => ?_, fun hok h => ?_, fun hok h hm => ?_, fun hok h hm hb => ?_,
      fun hok h hm hf => ?_, fun hok h hm hf ha => ?_⟩⟩,
    fun s => ⟨fun h u => ?_, fun h => ⟨fun n => ?_, ⟨_, rfl, powerDone_fields h⟩⟩⟩,
    fun s => ⟨fun h2 ht hp => ?_, fun h => congrArg Host.Outcome.next (bringupDone_early h)⟩⟩
  · obtain ⟨u, hx, hc, hmsh, hregs, hhld, hpend, hperst, hresetN⟩ := cold_source h s
    obtain ⟨hp, hcause, hr, h1, h2, h3, h4, h5, h6, h7, h8, hm, hg, hq, hh, hsec, hpe, hper, hrd, hwarm, hrn⟩ := coldReset_leaves hc u
    refine ⟨_, hx, hp, hcause, hr, h1, h2, h3, h4, h5, h6, h7, h8, ?_, hg, hq, by rw [hh, hhld], hsec, hpe.trans hpend,
      hper.trans hperst, hrd, hwarm, fun hi => hrn.trans (hresetN hi)⟩
    rw [hm, hmsh, get64, getReg_congr hregs, getReg_congr hregs, get64]
  · exact congrArg Host.Outcome.next (if_pos h)
  · exact ⟨_, rfl, resetRelease_fields h tray.isLt slot.isLt sbsel recov⟩
  · exact congrArg Host.Outcome.next (if_pos h)
  · subst hok
    refine ⟨_, congrArg Host.Outcome.next (hbootDone_stops hp hn flash), ?_⟩
    exact (dieStop_fields (by omega) (by decide)).1
  · subst hok
    exact ⟨_, congrArg Host.Outcome.next ((hbootDone_goes hp hn flash).trans (hbootGo_strap flash h)),
      enterRecovery_fields (by decide) _⟩
  · subst hok
    exact ⟨_, congrArg Host.Outcome.next ((hbootDone_goes hp hn flash).trans (hbootGo_cut flash h hm)),
      enterRecovery_fields (by decide) _⟩
  · subst hok
    exact ⟨_, congrArg Host.Outcome.next ((hbootDone_goes hp hn flash).trans (hbootGo_failed flash h hm hb)),
      enterRecovery_fields (by decide) _⟩
  · subst hok hf
    exact ⟨_, congrArg Host.Outcome.next ((hbootDone_goes hp hn false).trans ((hbootGo_marked false h hm).trans (if_pos rfl))),
      enterRecovery_fields (by decide) _⟩
  · subst hok hf
    have hact : activeOk (romQuad s) 1 = true := by
      rw [activeOk, show mapFind (romQuad s).fwu.active 1 = none from ha]
    refine ⟨_, congrArg Host.Outcome.next ((hbootDone_goes hp hn true).trans ((hbootGo_marked true h hm).trans (if_neg ?_))),
      headStart_fields rfl⟩
    rw [hact]
    decide
  · exact congrArg Host.Outcome.next (if_pos h)
  · exact congrArg Host.Outcome.next (if_neg (by simp [h]))
  · refine ⟨_, congrArg Host.Outcome.next (bringupDone_ready h2 ht hp), ?_⟩
    generalize hu : ({ s with rst := { s.rst with ready := true }, fwu := { s.fwu with boots := 0 } } : State) = u
    have hur : u.regs = s.regs := by rw [← hu]
    obtain ⟨h3, hr⟩ := setPhase_fields (p := 3) (by decide) u
    exact ⟨h3, by rw [setPhase_rst, ← hu], by rw [setPhase_fwu, ← hu], RegsButAll.trans (.of_regs_eq hur) hr⟩

end Sys2Proof.Machine

end


section
/-! PROOF (O56). Warm resets: their sources, what the blocks keep, the return and recovery, and the requests that waited for
HOST_GO (R111, R202, R211, R493-R498, R800-R811, R815, R816). -/

namespace Sys2Proof.Machine

/-! #### Sources (R800-R804, R816) -/

/-- A source in a die that is READY and in no reset. -/
theorem warmSource_ready (cause : Nat) {s : State} (h6 : phase s ≠ 6) (h7 : phase s ≠ 7) (hw : s.rst.warm = 0)
    (hn : s.rst.resetN = true) (hr : s.rst.ready = true) :
    warmSource cause s = setF F.GLB_RSTCAUSE.CAUSE 0 cause { s with rst := { s.rst with warm := 1 } } :=
  (if_neg (by simp [h6, h7, hw, hn])).trans (if_pos hr)

theorem warmSource_failed (cause : Nat) {s : State} (h : phase s = 6) : warmSource cause s = s := if_pos (.inl h)

/-- The warm reset that a source asks for. -/
def warmAsked (cause : Nat) (s : State) : State := setF F.GLB_RSTCAUSE.CAUSE 0 cause { s with rst := { s.rst with warm := 1 } }

theorem warmAsked_fields {cause : Nat} (hc : cause < 16) (s : State) : (warmAsked cause s).rst.warm = 1 ∧
    getF (warmAsked cause s) F.GLB_RSTCAUSE.CAUSE = cause ∧ phase (warmAsked cause s) = phase s ∧
    (warmAsked cause s).reef = s.reef ∧ (warmAsked cause s).tq = s.tq ∧ RegsBut [(.GLB_RSTCAUSE, 0)] s (warmAsked cause s) := by
  unfold warmAsked
  generalize hu : ({ s with rst := { s.rst with warm := 1 } } : State) = u
  have hur : u.regs = s.regs := by rw [← hu]
  refine ⟨by rw [setF_rst, ← hu], getF_setF_of_lt (f := F.GLB_RSTCAUSE.CAUSE) (by decide) hc 0 u, ?_, by rw [setF_reef, ← hu],
    by rw [setF_tq, ← hu], ?_⟩
  · rw [phase, getF_setF_of_reg (by decide), getF_congr hur, phase]
  · exact RegsBut.trans (.of_regs_eq hur) (.setF (f := F.GLB_RSTCAUSE.CAUSE) (List.mem_cons_self ..) cause u)

theorem pciLinkDown_fields (s : State) : flag (pciLinkDown s) F.PCI_LINK.UP = false ∧ phase (pciLinkDown s) = phase s ∧
    (pciLinkDown s).rst = s.rst ∧ (pciLinkDown s).reef = s.reef ∧ (pciLinkDown s).tq = s.tq := by
  unfold pciLinkDown
  by_cases h : flag s F.PCI_LINK.UP = true
  · rw [if_pos h]
    refine ⟨?_, ?_, by rw [post_rst, setReg_rst], by rw [post_reef, setReg_reef], by rw [post_tq, setReg_tq]⟩
    · rw [flag_congr (getF_post _ _ _ _ rfl), flag, getF, getReg_setReg, if_pos ⟨rfl, rfl⟩]
      decide
    · rw [phase, getF_post _ _ _ _ rfl, getF_setReg_of_reg (by decide), phase]
  · rw [if_neg h]
    exact ⟨eq_false_of_ne_true h, rfl, rfl, rfl, rfl⟩

theorem phase_congr {s t : State} (h : t.regs = s.regs) : phase t = phase s := getF_congr h _ _

/-- PERST_N low: the host link has ended. -/
def perstLow (s : State) : State := pciLinkDown { s with rst := { s.rst with perst := false } }

theorem perstLow_fields (s : State) : flag (perstLow s) F.PCI_LINK.UP = false ∧ phase (perstLow s) = phase s ∧
    (perstLow s).rst = { s.rst with perst := false } ∧ (perstLow s).reef = s.reef ∧ (perstLow s).tq = s.tq := by
  unfold perstLow
  generalize hu : ({ s with rst := { s.rst with perst := false } } : State) = u
  obtain ⟨h1, h2, h3, h4, h5⟩ := pciLinkDown_fields u
  exact ⟨h1, by rw [h2, phase_congr (s := s) (by rw [← hu])], by rw [h3, ← hu], by rw [h4, ← hu], by rw [h5, ← hu]⟩

/-- A restart from PHASE 1 leaves the host link down. -/
theorem restartPower_linkDown (cause : Nat) (s : State) : flag (restartPower cause s) F.PCI_LINK.UP = false := by
  have hcold := (ColdFrame.coldState s).regs .PCI_LINK 0 (by decide)
  have hkeep : ∀ t, getReg (keepRegs headRegs s t) .PCI_LINK 0 = getReg t .PCI_LINK 0 := fun t =>
    foldl_read_of_kept (rd := fun u => getReg u .PCI_LINK 0) (fun u r hr =>
      foldl_read_of_kept (rd := fun v => getReg v .PCI_LINK 0) (fun v i _ => by
        rw [getReg_setReg, if_neg]
        rintro ⟨rfl, -⟩
        revert hr
        decide) u) t
  unfold restartPower
  dsimp only
  have hstart : getReg ({ coldState s with time := s.time, hld := s.hld } : State) .PCI_LINK 0 = regReset .PCI_LINK 0 := hcold
  generalize ({ coldState s with time := s.time, hld := s.hld } : State) = t at *
  have hk := (hkeep t).trans hstart
  generalize keepRegs headRegs s t = u at *
  obtain ⟨-, hr⟩ := setPhase_fields (p := 1) (by decide) (setF F.GLB_RSTCAUSE.CAUSE 0 cause
    { u with rst := { u.rst with start := s.time, gpio := s.rst.gpio, quad := s.rst.quad } })
  have hreg := hr .PCI_LINK 0 (by decide)
  rw [getReg_setF_of_reg (by decide)] at hreg
  rw [flag, getF, show F.PCI_LINK.UP.reg = .PCI_LINK from rfl, hreg]
  refine (congrArg (fun v => (bitsAt v 11 1) == 1) hk).trans ?_
  decide

/-- No source brings the host link up. -/
theorem warmSource_linkDown (cause : Nat) {s : State} (h : flag s F.PCI_LINK.UP = false) :
    flag (warmSource cause s) F.PCI_LINK.UP = false := by
  have hset : ∀ u : State, u.regs = s.regs → flag (setF F.GLB_RSTCAUSE.CAUSE 0 cause u) F.PCI_LINK.UP = false := fun u hu => by
    rw [flag_congr (getF_setF_of_reg (by decide) ..), flag_congr (getF_congr hu _ _), h]
  unfold warmSource
  split
  · exact h
  · split
    · exact hset _ rfl
    · split
      · exact hset _ rfl
      · exact restartPower_linkDown cause s

/-! #### What the blocks keep (R493, R495, R806, R807) -/

/-- Ports go down one after the other. -/
def portsDropped (s : State) : State :=
  (List.range 8).foldl (fun u p => setPort p (portAt u p).dropped (setF F.SHL_PSTAT.STATE p 0 u)) s

/-- What resetting ports and coves keeps. -/
structure BlockFrame (s t : State) : Prop where
  regs : RegsButAll [.SHL_PSTAT, .BRK_COVESTAT, .MSH_COVEAWAKE] s t
  reef : t.reef = s.reef
  mem : t.mem = s.mem
  tq : t.tq = s.tq
  xlt : t.xlt = s.xlt

namespace BlockFrame

theorem refl (s : State) : BlockFrame s s := ⟨.refl _ s, rfl, rfl, rfl, rfl⟩

theorem trans {s t u : State} (h : BlockFrame s t) (k : BlockFrame t u) : BlockFrame s u :=
  ⟨h.regs.trans k.regs, k.reef.trans h.reef, k.mem.trans h.mem, k.tq.trans h.tq, k.xlt.trans h.xlt⟩

theorem foldl {α : Type} {g : State → α → State} (h : ∀ u a, BlockFrame u (g u a)) (l : List α) (s : State) :
    BlockFrame s (l.foldl g s) :=
  List.foldlRecOn (motive := fun u => BlockFrame s u) l g (refl s) fun u hu a _ => hu.trans (h u a)

theorem portDrop (u : State) (p : Nat) : BlockFrame u (setPort p (portAt u p).dropped (setF F.SHL_PSTAT.STATE p 0 u)) := by
  have hr : RegsButAll [.SHL_PSTAT, .BRK_COVESTAT, .MSH_COVEAWAKE] u (setF F.SHL_PSTAT.STATE p 0 u) :=
    .setF (f := F.SHL_PSTAT.STATE) (List.mem_cons_self ..) p 0 u
  have h1 : (setF F.SHL_PSTAT.STATE p 0 u).reef = u.reef := setF_reef ..
  have h2 : (setF F.SHL_PSTAT.STATE p 0 u).mem = u.mem := setF_mem ..
  have h3 : (setF F.SHL_PSTAT.STATE p 0 u).tq = u.tq := setF_tq ..
  have h4 : (setF F.SHL_PSTAT.STATE p 0 u).xlt = u.xlt := setF_xlt ..
  generalize setF F.SHL_PSTAT.STATE p 0 u = v at *
  exact ⟨hr.trans (.of_regs_eq rfl), h1, h2, h3, h4⟩

theorem gateCove (u : State) (c : Nat) : BlockFrame u (Machine.gateCove c u) := by
  unfold Machine.gateCove
  refine ⟨?_, ?_, ?_, ?_, ?_⟩
  · refine RegsButAll.trans (t := setF F.BRK_COVESTAT.STATE c 2 (setF F.BRK_COVESTAT.MV c 500 u)) ?_ (.setReg (by simp) _ _ _)
    refine RegsButAll.trans (t := setF F.BRK_COVESTAT.MV c 500 u) ?_ ?_
    · exact .setF (f := F.BRK_COVESTAT.MV) (by simp [show F.BRK_COVESTAT.MV.reg = .BRK_COVESTAT from rfl]) c 500 u
    · exact .setF (f := F.BRK_COVESTAT.STATE) (by simp [show F.BRK_COVESTAT.STATE.reg = .BRK_COVESTAT from rfl]) c 2 _
  · rw [setReg_reef, setF_reef, setF_reef]
  · rw [setReg_mem, setF_mem, setF_mem]
  · rw [setReg_tq, setF_tq, setF_tq]
  · rw [setReg_xlt, setF_xlt, setF_xlt]

end BlockFrame

theorem portsDropped_down {p : Nat} (hp : p < 8) (s : State) : portState (portsDropped s) p = 0 := by
  refine foldl_read_of_mem (g := fun u p => setPort p (portAt u p).dropped (setF F.SHL_PSTAT.STATE p 0 u))
    (rd := fun u => portState u p) (φ := fun _ => 0) (a := p) (fun u q _ hq => ?_) (fun u => ?_) List.nodup_range (List.mem_range.2 hp) s
  · exact getF_setF_of_index (f := F.SHL_PSTAT.STATE) (g := F.SHL_PSTAT.STATE) (Ne.symm hq) 0 u
  · exact portState_setF_same p u (v := 0) (by decide)

/-- The blocks with their ports down and their coves gated. -/
def blocksStopped (s : State) : State := (List.range 16).foldl (fun u c => gateCove c u) (portsDropped s)

theorem blocksStopped_fields (s : State) : (∀ p, p < 8 → portState (blocksStopped s) p = 0) ∧
    (∀ c, c < 16 → coveState (blocksStopped s) c = 2) ∧ BlockFrame s (blocksStopped s) := by
  unfold blocksStopped
  have hdown := fun p hp => portsDropped_down (p := p) hp s
  have hfr : BlockFrame s (portsDropped s) := .foldl .portDrop _ s
  generalize portsDropped s = u at *
  obtain ⟨hcoves, -⟩ := gateCoves_fields u
  refine ⟨fun p hp => ?_, fun c hc => (hcoves c hc).1, hfr.trans (.foldl .gateCove _ u)⟩
  refine Eq.trans ?_ (hdown p hp)
  refine foldl_read_of_kept (rd := fun v => portState v p) (fun v c _ => portState_congr p ?_) u
  rw [gateCove, getReg_setReg, if_neg (by simp), getReg_setF_of_reg (by decide), getReg_setF_of_reg (by decide)]

/-- What the blocks' reset forgets, once ports are down and coves gated. -/
def blocksForget (s : State) : State :=
  { s with
    msh := { seq := s.msh.seq, isthTrained := s.msh.isthTrained, isthSpared := s.msh.isthSpared }
    bead := {}
    xlt := { s.xlt with waits := [], l1 := [], l2 := [] }
    twy := { s.twy with reads := [] }
    tq := { s.tq with
      turn := [], reads := []
      queues := s.tq.queues.map (fun (e : Nat × TQueue) => (e.1, e.2.parked)) } }

theorem blocksReset_eq (s : State) : blocksReset s = blocksForget (blocksStopped s) := rfl

theorem mapFind_map_snd {α β : Type} (g : α → β) {m : Map α} {k : Nat} {x : α} (h : mapFind m k = some x) :
    mapFind (m.map (fun (e : Nat × α) => (e.1, g e.2))) k = some (g x) := by
  induction m with
  | nil => cases h
  | cons e m ih =>
    obtain ⟨j, v⟩ := e
    rw [List.map_cons, mapFind]
    rw [mapFind] at h
    split
    · rename_i hj
      rw [if_pos hj] at h
      rw [Option.some.inj h]
    · rename_i hj
      rw [if_neg hj] at h
      exact ih h

theorem blocksReset_fields (s : State) : (∀ p, p < 8 → portState (blocksReset s) p = 0) ∧
    (∀ c, c < 16 → coveState (blocksReset s) c = 2) ∧ (blocksReset s).bead = {} ∧ (blocksReset s).tq.reads = [] ∧
    (blocksReset s).xlt.waits = [] ∧ (blocksReset s).reef = s.reef ∧ (blocksReset s).xlt.ctxs = s.xlt.ctxs ∧
    (blocksReset s).mem = s.mem ∧ phase (blocksReset s) = phase s ∧
    (∀ q x, mapFind s.tq.queues q = some x → mapFind (blocksReset s).tq.queues q = some x.parked) := by
  rw [blocksReset_eq]
  obtain ⟨hp, hc, hf⟩ := blocksStopped_fields s
  generalize blocksStopped s = u at *
  have hur : (blocksForget u).regs = u.regs := rfl
  refine ⟨fun p h => (portState_congr p (getReg_congr hur _ _)).trans (hp p h),
    fun c h => (coveState_congr (getReg_congr hur _ _)).trans (hc c h), rfl, rfl, rfl, hf.reef, (congrArg XltState.ctxs hf.xlt : u.xlt.ctxs = s.xlt.ctxs), hf.mem,
    (phase_congr hur).trans (congrArg (bitsAt · 0 3) (hf.regs .GLB_STATUS 0 (by decide))), fun q x h => ?_⟩
  refine mapFind_map_snd TQueue.parked (m := u.tq.queues) ?_
  rw [hf.tq]
  exact h

/-! #### Requests to the host (R811) -/

/-- The requests that are kept through a reset. -/
def keptThroughReset : HostReq → Bool
  | .data _ _ _ _ _ _ _ | .record _ _ _ _ _ | .msix _ | .invDone _ _ => true
  | .read _ _ _ _ _ | .ats _ _ _ _ _ | .page _ _ _ _ _ => false

theorem hostHold_held (s : State) :
    (hostHold s).pci.held = (s.qos.host.map (fun w => w.req) ++ s.pci.held).filter keptThroughReset := rfl

/-- While the host takes requests, those that were held go out in their order. -/
theorem hostSend_open {s : State} (ho : hostOpen s = true) (hh : s.pci.held = []) (hq : s.qos.host = []) (r : HostReq) :
    hostOpen (hostSend r s) = true ∧ (hostSend r s).pci.held = [] ∧ (hostSend r s).qos.host = [] ∧
    (hostSend r s).out = s.out ++ [.host r] := by
  have heq : hostSend r s = hostEmit r s := (if_pos (by rw [ho, hh]; rfl)).trans (if_pos (by rw [hq]; rfl))
  have hsend := heq ▸ PostFrame.hostSend r s
  rw [heq]
  refine ⟨?_, ?_, ?_, ?_⟩
  · have hreg : ∀ f : Fld, postReg f.reg = false → getF (hostEmit r s) f = getF s f := fun f hf => by
      rw [getF, hsend.reg _ _ hf, getF]
    rw [hostOpen, flag_congr (hreg F.PCI_LINK.UP rfl), flag_congr (hreg F.GLB_STATUS.HOST_WAIT rfl), ← hostOpen, ho]
  · exact (congrArg PciState.held (add64_pci ..)).trans hh
  · exact (congrArg QosState.host (add64_qos ..)).trans hq
  · exact add64_out ..

theorem hostSends_open (l : List HostReq) {s : State} (ho : hostOpen s = true) (hh : s.pci.held = []) (hq : s.qos.host = []) :
    (l.foldl (fun u r => hostSend r u) s).pci.held = [] ∧
    (l.foldl (fun u r => hostSend r u) s).out = s.out ++ l.map (fun r => Out.host r) := by
  induction l generalizing s with
  | nil => exact ⟨hh, by simp⟩
  | cons r l ih =>
    obtain ⟨ho', hh', hq', hout⟩ := hostSend_open ho hh hq r
    obtain ⟨hheld, hrest⟩ := ih ho' hh' hq'
    refine ⟨hheld, ?_⟩
    rw [List.foldl_cons, hrest, hout, List.append_assoc, List.map_cons, List.singleton_append]

/-- The host goes on: HOST_WAIT is cleared. -/
def hostGone (s : State) : State := setF F.GLB_STATUS.HOST_WAIT 0 0 s

theorem hostGone_fields (s : State) : flag (hostGone s) F.GLB_STATUS.HOST_WAIT = false ∧
    flag (hostGone s) F.PCI_LINK.UP = flag s F.PCI_LINK.UP ∧ (hostGone s).pci = s.pci ∧ (hostGone s).qos = s.qos ∧
    (hostGone s).out = s.out ∧ RegsBut [(.GLB_STATUS, 0)] s (hostGone s) := by
  unfold hostGone
  refine ⟨?_, flag_congr (getF_setF_of_reg (by decide) ..), setF_pci .., setF_qos .., setF_out ..,
    .setF (f := F.GLB_STATUS.HOST_WAIT) (List.mem_cons_self ..) 0 s⟩
  rw [flag, getF_setF_of_lt (by decide) (by decide)]
  rfl

theorem hostFlush_of_none {s : State} (h : s.pci.held = []) : (hostFlush s).regs = s.regs := by
  unfold hostFlush
  rw [h]
  split <;> rfl

/-! #### The return and recovery (R496-R498, R807, R809) -/

/-- LPDDR retrained at the rate that MEM_CFG asks for, the Isthmus and the ports up, the held coves awake. -/
def returned (s : State) : State :=
  setPhase 5 (wakeHeld (portsStart (isthmusTrain (selfRefreshOff { s with mem := { s.mem with
    rate := getF s F.MEM_CFG.RATE, steps := if getF s F.MEM_CFG.RATE = s.mem.rate then [4, 5, 7] else [1, 2, 3, 4, 5, 6, 7] } }))))

theorem warmReturn_retrained {s : State} (h : s.rst.warm = 2) (bad : Bool) : warmReturn none bad s =
    if flag (returned s) F.HBL_PARTNER.VALID then takeoverAsk (returned s)
    else recoverDone bad { returned s with rst := { (returned s).rst with warm := 3 } } := if_pos h

theorem warmReturn_failed {s : State} (h : s.rst.warm = 2) (n : ChanId) (bad : Bool) :
    warmReturn (some n) bad s = fatal { code := Ev.MEM_CHDOWN, inst := n } s := if_pos h

theorem warmReturn_alone {s : State} (h : s.rst.warm = 3) (hp : flag s F.HBL_PARTNER.VALID = false) (failed : Option ChanId)
    (bad : Bool) : warmReturn failed bad s = recoverDone bad s := (if_neg (by omega)).trans (if_pos ⟨h, hp⟩)

theorem warmReturn_other {s : State} (h2 : s.rst.warm ≠ 2) (h3 : s.rst.warm ≠ 3) (failed : Option ChanId) (bad : Bool) :
    warmReturn failed bad s = s := (if_neg h2).trans (if_neg fun h => h3 h.1)

theorem recoverDone_bad (s : State) : recoverDone true s = fatal { code := Ev.HBL_CRC } s := if_pos rfl

theorem recoverDone_good (s : State) : phase (recoverDone false s) = 3 ∧ (recoverDone false s).rst.warm = 0 := by
  have heq : recoverDone false s = setPhase 3 { logRecover s with rst := { (logRecover s).rst with warm := 0 } } :=
    if_neg (by decide)
  rw [heq]
  generalize hu : ({ logRecover s with rst := { (logRecover s).rst with warm := 0 } } : State) = u
  exact ⟨(setPhase_fields (by decide) u).1, by rw [setPhase_rst, ← hu]⟩

/-- What serving a partner's answer does. -/
def answerTaken (bad : Bool) (m : TwyMsg) (u : State) : State :=
  if u.rst.warm = 3 ∧ m.src = getF u F.HBL_PARTNER.DIE then
    if byteField m.body 1 1 = 1 then post { code := Ev.GLB_TAKENOVER, inst := m.src } (coldReset 4 u) else recoverDone bad u
  else u

theorem exec_takeoverQueryAnswer {n : LinkId} {m : TwyMsg} {s : State} (hrun : headRuns s = true)
    (hw : Waiting s n 1 (fun _ m => isMember mkAnswer m) m) (bad : Bool) :
    exec (.takeoverQueryAnswer n bad) s = .next (linkReturn n (answerTaken bad m (rxDrop n m s))) :=
  (next_onlyIf hrun _ s).trans (congrArg Host.Outcome.next
    ((serves_twyServe (p := isMember mkAnswer) (f := answerTaken bad) (g := answerTaken bad) (fun _ _ => rfl)).1 m hw rfl))

/-! #### The obligation -/

theorem barOpen_of_phase {s : State} (h3 : 3 ≤ phase s) (h5 : phase s ≤ 5) : barOpen s = true := by simp [barOpen, h3, h5]

theorem glbOpen_failed {s : State} (h : phase s = 6) : glbOpen s = false := by simp [glbOpen, barOpen, h]

/-- The warm-reset sources of R800 in a READY die: each asks for the reset in a state that keeps phase, Reef and queues. -/
theorem warm_source {cause : Nat} {i : Instr}
    (h : (cause, i) ∈ [(8, Instr.glbResetWarm), (9, .perstNFall), (10, .pciHotReset), (11, .pfFlr)]) {s : State} (h3 : phase s = 3)
    (hw : s.rst.warm = 0) (hn : s.rst.resetN = true) (hr : s.rst.ready = true) (hp : s.rst.perst = true) (hs : s.rst.perstSeen = true)
    (hup : flag s F.PCI_LINK.UP = true) : Completes i s (fun t => t.rst.warm = 1 ∧ getF t F.GLB_RSTCAUSE.CAUSE = cause ∧
      phase t = 3 ∧ t.reef = s.reef ∧ t.tq = s.tq ∧ (i = .glbResetWarm ∨ i = .pfFlr → RegsBut [(.GLB_RSTCAUSE, 0)] s t)) := by
  simp only [List.mem_cons, Prod.mk.injEq, List.not_mem_nil, or_false] at h
  have hsrc : ∀ (c : Nat) (u : State), phase u = phase s → u.rst.warm = 0 → u.rst.resetN = true → u.rst.ready = true →
      warmSource c u = warmAsked c u := fun c u hpu hwu hnu hru =>
    warmSource_ready c (by rw [hpu, h3]; decide) (by rw [hpu, h3]; decide) hwu hnu hru
  obtain ⟨rfl, rfl⟩ | ⟨rfl, rfl⟩ | ⟨rfl, rfl⟩ | ⟨rfl, rfl⟩ := h
  · have hopen : glbOpen s = true := by rw [glbOpen, barOpen_of_phase (by omega) (by omega)]; rfl
    obtain ⟨hw1, hc, hph, hreef, htq, hregs⟩ := warmAsked_fields (cause := 8) (by decide) s
    exact ⟨_, (next_onlyIf hopen _ s).trans (congrArg Host.Outcome.next (hsrc 8 s rfl hw hn hr)), hw1, hc, hph.trans h3, hreef, htq,
      fun _ => hregs⟩
  · obtain ⟨-, hlph, hlrst, hlreef, hltq⟩ := perstLow_fields s
    have hx : exec .perstNFall s = .next (warmSource 9 (perstLow s)) :=
      congrArg Host.Outcome.next ((if_neg (by rw [hp]; decide)).trans (if_pos hs))
    rw [hsrc 9 _ hlph (by rw [hlrst]; exact hw) (by rw [hlrst]; exact hn) (by rw [hlrst]; exact hr)] at hx
    generalize perstLow s = u at *
    obtain ⟨hw1, hc, hph, hreef, htq, -⟩ := warmAsked_fields (cause := 9) (by decide) u
    exact ⟨_, hx, hw1, hc, by rw [hph, hlph, h3], hreef.trans hlreef, htq.trans hltq, fun h => by simp at h⟩
  · obtain ⟨-, hlph, hlrst, hlreef, hltq⟩ := pciLinkDown_fields s
    have hx : exec .pciHotReset s = .next (trainHost (warmSource 10 (pciLinkDown s))) := next_onlyIf hp _ s
    rw [hsrc 10 _ hlph (by rw [hlrst]; exact hw) (by rw [hlrst]; exact hn) (by rw [hlrst]; exact hr)] at hx
    generalize pciLinkDown s = u at *
    obtain ⟨hw1, hc, hph, hreef, htq, -⟩ := warmAsked_fields (cause := 10) (by decide) u
    have hrn : (warmAsked 10 u).rst.resetN = true := by
      rw [warmAsked, setF_rst]
      exact (congrArg RstState.resetN hlrst).trans hn
    generalize warmAsked 10 u = v at *
    obtain ⟨htr, htregs, -⟩ := trainHost_fields hrn
    have hrest : (trainHost v).reef = v.reef ∧ (trainHost v).tq = v.tq := by
      unfold trainHost
      split <;> exact ⟨rfl, rfl⟩
    exact ⟨_, hx, by rw [htr, hw1], (getF_congr htregs _ _).trans hc, by rw [phase_congr htregs, hph, hlph, h3],
      by rw [hrest.1, hreef, hlreef], by rw [hrest.2, htq, hltq], fun h => by simp at h⟩
  · obtain ⟨hw1, hc, hph, hreef, htq, hregs⟩ := warmAsked_fields (cause := 11) (by decide) s
    exact ⟨_, (next_onlyIf hup _ s).trans (congrArg Host.Outcome.next (hsrc 11 s rfl hw hn hr)), hw1, hc, hph.trans h3, hreef, htq,
      fun _ => hregs⟩

theorem exec_hostGo {s : State} (h : barOpen s = true) : exec .hostGo s = .next (hostFlush (hostGone s)) := next_onlyIf h _ s

/-- PERST_N falls: the host link is down, whatever the source does then. -/
theorem perstNFall_linkDown {s : State} (h : s.rst.perst = true) :
    Completes .perstNFall s (fun t => flag t F.PCI_LINK.UP = false) := by
  refine ⟨_, congrArg Host.Outcome.next (if_neg (by rw [h]; decide)), ?_⟩
  obtain ⟨hd, -⟩ := perstLow_fields s
  dsimp only
  split
  · exact warmSource_linkDown 9 hd
  · exact hd

/-- PERST_N rises: the host port trains where RESET_N is high. -/
theorem perstNRise_trains {s : State} (h : s.rst.perst = false) : Completes .perstNRise s (fun t => t.rst.perst = true ∧
    t.rst.perstSeen = true ∧ t.regs = s.regs ∧ t.out = s.out ++ (if s.rst.resetN = true then [.pciTrain] else [])) := by
  refine ⟨_, congrArg Host.Outcome.next (if_neg (by rw [h]; decide)), ?_⟩
  cases hn : s.rst.resetN <;> simp [trainHost, hn]

/-- The message that asks the steward for nothing: there is no steward. -/
theorem toSteward_of_none {s : State} (hr : role s ≠ 3) (hv : flag s F.HLD_ROLE.SVALID = false) (kind : Nat)
    (fields : List (Nat × Nat × Nat)) (data : List Sector) (here : State → State) : toSteward kind fields data here s = s :=
  (if_neg hr).trans (if_neg (ne_true_of_eq_false hv))

/-- Settles O56: sources by their guards, the reset by its blocks, the return by its branches. -/
theorem warmResets : Obligations.WarmResets := by
  unfold Obligations.WarmResets
  refine ⟨fun cause i s h h3 hw hn hr hp hs hup => warm_source h h3 hw hn hr hp hs hup, fun s h6 => ⟨?_, ?_, ?_⟩,
    fun s h3 h5 hr hv => ?_, fun s => ⟨fun h => ?_, perstNRise_trains, perstNFall_linkDown⟩, fun s h => ?_, fun s v w h hv hw => ?_,
    blocksReset_fields, fun x => ⟨rfl, rfl, rfl, rfl, List.length_map ..⟩, fun s => ⟨rfl, rfl, fun a v => ⟨fun h => ?_, fun b c d e h => ?_⟩⟩,
    fun failed bad s => ⟨fun h2 h3 => ?_, fun h3 hv => ?_, fun n h2 hf => ?_, fun h2 hf => ?_⟩,
    fun s h6 => ⟨?_, recoverDone_good s⟩, fun n bad m s hrun hw => ⟨fun h3 hd => ?_, fun h3 => ?_⟩, fun s hopen hh => ?_,
    fun s hopen hq hup => ?_⟩
  · exact next_onlyIf_of_not (glbOpen_failed h6) _ s
  · exact next_onlyIf_of_not (glbOpen_failed h6) _ s
  · cases hup : flag s F.PCI_LINK.UP
    · exact next_onlyIf_of_not hup _ s
    · exact (next_onlyIf hup _ s).trans (congrArg Host.Outcome.next (warmSource_failed 11 h6))
  · have hopen : glbOpen s = true := by rw [glbOpen, barOpen_of_phase h3 h5]; rfl
    refine (next_onlyIf hopen _ s).trans (congrArg Host.Outcome.next ?_)
    rw [commandedCold, toSteward_of_none hr hv]
  · exact congrArg Host.Outcome.next (if_pos h)
  · exact next_onlyIf_of_not (beq_false_of_ne h) _ s
  · subst hv hw
    exact next_onlyIf (beq_iff_eq.2 h) warmReset s
  · rw [hostHold_held]
    exact List.mem_filter.2 ⟨List.mem_append_right _ h, rfl⟩
  · rw [hostHold_held] at h
    exact Bool.false_ne_true (List.mem_filter.1 h).2
  · exact congrArg Host.Outcome.next (warmReturn_other h2 h3 failed bad)
  · exact congrArg Host.Outcome.next (warmReturn_alone h3 hv failed bad)
  · subst hf
    exact congrArg Host.Outcome.next (warmReturn_failed h2 n bad)
  · subst hf
    exact congrArg Host.Outcome.next (warmReturn_retrained h2 bad)
  · rw [recoverDone_bad]
    exact (fatal_fields h6 (by decide)).1
  · rw [exec_takeoverQueryAnswer hrun hw, answerTaken, if_pos ⟨h3, hd⟩]
  · rw [exec_takeoverQueryAnswer hrun hw, answerTaken, if_neg fun h => h3 h.1]
  · obtain ⟨hwait, -, hpci, -, -, hr⟩ := hostGone_fields s
    refine ⟨_, exec_hostGo hopen, ?_⟩
    have hregs := hostFlush_of_none (s := hostGone s) (by rw [hpci, hh])
    exact ⟨(flag_congr (getF_congr hregs _ _)).trans hwait, hr.trans (.of_regs_eq hregs)⟩
  · obtain ⟨hwait, hlink, hpci, hqos, hout, -⟩ := hostGone_fields s
    refine ⟨_, exec_hostGo hopen, ?_⟩
    have ho : hostOpen (hostGone s) = true := by rw [hostOpen, hlink, hup, hwait]; rfl
    have hflush : hostFlush (hostGone s) = s.pci.held.foldl (fun u r => hostSend r u)
        { hostGone s with pci := { (hostGone s).pci with held := [] } } := by
      rw [← hpci]
      exact if_pos ho
    obtain ⟨hheld, hsent⟩ := hostSends_open s.pci.held (s := { hostGone s with pci := { (hostGone s).pci with held := [] } })
      ho rfl (by rw [hqos, hq])
    rw [← hflush] at hheld hsent
    exact ⟨hheld, hsent.trans (congrArg (· ++ _) hout)⟩

end Sys2Proof.Machine

end


section
/-! PROOF (O57). Leaving a tray, rejoining it, and the loss of REFCLK_TWY (R788, R817-R821, R896). -/

namespace Sys2Proof.Machine

/-! #### Leaving (R819, R820) -/

section
variable {s : State} (hr : role s ≠ 3) (hv : flag s F.HLD_ROLE.SVALID = false)
include hr hv

/-- Without a steward, leaving is only shown. -/
theorem leaveStart_alone : leaveStart s = setF F.GLB_STATUS.LEAVING 0 1 s := by
  have hrole : role (setF F.GLB_STATUS.LEAVING 0 1 s) ≠ 3 := by
    rw [role, getF_setF_of_reg (by decide)]
    exact hr
  have hsv : flag (setF F.GLB_STATUS.LEAVING 0 1 s) F.HLD_ROLE.SVALID = false :=
    (flag_congr (getF_setF_of_reg (by decide) ..)).trans hv
  unfold leaveStart
  dsimp only
  rw [toSteward_of_none hrole hsv, if_neg hrole]

/-- The state in which a die that rejoins asks. -/
def rejoining (s : State) : State := setMember (ownDie s) false (setF F.GLB_STATUS.LEFT 0 0 (setF F.GLB_STATUS.LEAVING 0 0 s))

omit hr hv in
theorem rejoining_fields (s : State) : flag (rejoining s) F.GLB_STATUS.LEAVING = false ∧ flag (rejoining s) F.GLB_STATUS.LEFT = false ∧
    (rejoining s).hld.members.getLsbD (ownDie s) = false ∧ RegsBut [(.GLB_STATUS, 0)] s (rejoining s) := by
  unfold rejoining
  have hleaving : getF (setF F.GLB_STATUS.LEAVING 0 0 s) F.GLB_STATUS.LEAVING = 0 := getF_setF_of_lt (by decide) (by decide) 0 s
  have hr1 : RegsBut [(.GLB_STATUS, 0)] s (setF F.GLB_STATUS.LEAVING 0 0 s) :=
    .setF (f := F.GLB_STATUS.LEAVING) (List.mem_cons_self ..) 0 s
  generalize setF F.GLB_STATUS.LEAVING 0 0 s = a at *
  have hleaving2 : getF (setF F.GLB_STATUS.LEFT 0 0 a) F.GLB_STATUS.LEAVING = 0 := by
    rw [getF_setF_of_bits (by decide) (by decide), hleaving]
  have hleft : getF (setF F.GLB_STATUS.LEFT 0 0 a) F.GLB_STATUS.LEFT = 0 := getF_setF_of_lt (by decide) (by decide) 0 a
  have hr2 : RegsBut [(.GLB_STATUS, 0)] s (setF F.GLB_STATUS.LEFT 0 0 a) :=
    hr1.trans (.setF (f := F.GLB_STATUS.LEFT) (List.mem_cons_self ..) 0 a)
  generalize setF F.GLB_STATUS.LEFT 0 0 a = b at *
  refine ⟨?_, ?_, ?_, hr2.trans (.of_regs_eq rfl)⟩
  · rw [flag, getF_congr (s := b) (t := setMember (ownDie s) false b) rfl, hleaving2]
    rfl
  · rw [flag, getF_congr (s := b) (t := setMember (ownDie s) false b) rfl, hleft]
    rfl
  · exact (getLsbD_putBit b.hld.members (getF_lt s F.GLB_DIE.DIE 0) (ownDie s) false).trans (if_pos rfl)

/-- Without a steward, rejoining asks nobody. -/
theorem rejoin_alone : rejoin s = rejoining s := by
  obtain ⟨-, -, -, hregs⟩ := rejoining_fields s
  have heq : rejoin s = joinAsk (rejoining s) := rfl
  have hrole : role (rejoining s) ≠ 3 := by
    rw [role, hregs.getF .HLD_ROLE 0 (by simp)]
    exact hr
  have hsv : flag (rejoining s) F.HLD_ROLE.SVALID = false := (flag_congr (hregs.getF .HLD_ROLE 0 (by simp))).trans hv
  rw [heq, joinAsk, toSteward_of_none hrole hsv, ite_self]

end

/-- The die has left: its links carry nothing of it any more. -/
theorem leaveComplete_left (s : State) : flag (leaveComplete s) F.GLB_STATUS.LEFT = true := by
  unfold leaveComplete shutLinks
  generalize toSteward mkDeparture [(1, 1, 1)] [] (stewLeft (ownDie s)) s = u
  have hset : flag (setF F.GLB_STATUS.LEFT 0 1 u) F.GLB_STATUS.LEFT = true := flag_setF_one rfl rfl 0 u
  generalize setF F.GLB_STATUS.LEFT 0 1 u = v at *
  exact (flag_congr ((SendFrame.foldl _ (fun t n => .linkHand n t) (List.range 24) v).getF rfl 0)).trans hset

/-! #### REFCLK_TWY (R788, R896) -/

/-- The clock is gone. -/
def clockGone (s : State) : State := { s with twy := { s.twy with noClock := true } }

theorem clockLoss_of_down {s : State} (hc : s.twy.noClock = false) (hl : ∀ n, n < 24 → linkState s n = 0) :
    clockLoss s = if headRuns s then post { code := Ev.GLB_NOTWYCLK } (clockGone s) else clockGone s := by
  have hfold : (List.range 24).foldl (fun u n => if linkState u n = 0 then u else linkDown n false u) s = s :=
    foldl_of_fixed fun n hn => if_pos (hl n (List.mem_range.1 hn))
  unfold clockLoss
  rw [if_neg (by rw [hc]; decide), hfold]
  rfl

theorem clockLoss_fields {s : State} (hc : s.twy.noClock = false) (hl : ∀ n, n < 24 → linkState s n = 0) :
    (clockLoss s).twy = { s.twy with noClock := true } ∧ twyClock (clockLoss s) = false ∧ RegsButAll eventRegs s (clockLoss s) := by
  have hgone : RegsButAll eventRegs s (clockGone s) := .of_regs_eq rfl
  have htwy : (clockLoss s).twy = { s.twy with noClock := true } := by
    rw [clockLoss_of_down hc hl]
    split
    · rw [post_twy, clockGone]
    · rfl
  refine ⟨htwy, by rw [twyClock, htwy]; exact Bool.and_false _, ?_⟩
  rw [clockLoss_of_down hc hl]
  split
  · exact hgone.trans (.post _ _)
  · exact hgone

/-! #### The obligation -/

/-- Settles O57: what each row leaves without a steward, and what it does beyond. -/
theorem leavingAndRejoining : Obligations.LeavingAndRejoining := by
  unfold Obligations.LeavingAndRejoining
  refine ⟨fun s hopen hl hf => ?_, fun s h => ?_, fun s hopen hl hf => ⟨fun h => ?_, fun h => ?_⟩, fun s hopen hf => ?_,
    fun s h => ?_, fun s => ⟨fun h => ?_, fun h hdown => ⟨_, rfl, clockLoss_fields h hdown⟩, rfl⟩⟩
  · have hx : exec .leave s = .next (leaveStart s) := next_onlyIf (by rw [hopen, hl, hf]; rfl) _ s
    refine ⟨hx, fun hr hv => ⟨_, hx, ?_⟩⟩
    rw [leaveStart_alone hr hv]
    exact ⟨flag_setF_one rfl rfl 0 s, .setF F.GLB_STATUS.LEAVING 0 1 s, .setF (f := F.GLB_STATUS.LEAVING) (List.mem_cons_self ..) 1 s⟩
  · refine next_onlyIf_of_not ?_ _ s
    rcases h with h | h <;> simp [h]
  · exact ⟨_, next_onlyIf (by rw [hopen, hl, hf, h]; rfl) _ s, leaveComplete_left s⟩
  · exact next_onlyIf_of_not (by rw [h, Bool.and_false]) _ s
  · have hx : exec .rejoin s = .next (rejoin s) := next_onlyIf (by rw [hopen, hf]; rfl) _ s
    refine ⟨hx, fun hr hv => ⟨_, hx, ?_⟩⟩
    rw [rejoin_alone hr hv]
    exact rejoining_fields s
  · exact next_onlyIf_of_not (by rw [h, Bool.and_false]) _ s
  · exact congrArg Host.Outcome.next (if_pos h)

end Sys2Proof.Machine

end


section
/-! PROOF (O58). Staging over the FWU window: what receiving, checking and erasing a component leave, and what each command's
completion shows (R830, R831, R836-R838, R848, R856, R859, R908). -/

namespace Sys2Proof.Machine

/-! #### Registers that follow from flash and fuses (R839) -/

/-- The registers that the staged set shows. -/
def stagedRegs : List Reg := [.FWU_COMPST, .FWU_STGBUNDLE, .FWU_ROOT]

theorem showFwu_frame (s : State) : OnlyRegs s (showFwu s) ∧ RegsButAll [.FWU_STGBUNDLE, .FWU_ROOT] s (showFwu s) ∧
    getF (showFwu s) F.FWU_ROOT.REVOKED = getF s F.FWU_ROOT.REVOKED := by
  unfold showFwu
  dsimp only
  generalize (if stagedComplete s then hBundle (stagedHead s 1) else 0) = v
  have h1 : OnlyRegs s (setF F.FWU_STGBUNDLE.VERSION 0 v s) := .setF ..
  have r1 : RegsButAll [.FWU_STGBUNDLE, .FWU_ROOT] s (setF F.FWU_STGBUNDLE.VERSION 0 v s) :=
    .setF (f := F.FWU_STGBUNDLE.VERSION) (List.mem_cons_self ..) 0 v s
  have e1 : getF (setF F.FWU_STGBUNDLE.VERSION 0 v s) F.FWU_ROOT.REVOKED = getF s F.FWU_ROOT.REVOKED :=
    getF_setF_of_reg (by decide) ..
  generalize setF F.FWU_STGBUNDLE.VERSION 0 v s = a at *
  generalize boolNat (stagedComplete s) = c
  have h2 : OnlyRegs s (setF F.FWU_STGBUNDLE.COMPLETE 0 c a) := h1.trans (.setF ..)
  have r2 : RegsButAll [.FWU_STGBUNDLE, .FWU_ROOT] s (setF F.FWU_STGBUNDLE.COMPLETE 0 c a) :=
    r1.trans (.setF (f := F.FWU_STGBUNDLE.COMPLETE) (List.mem_cons_self ..) 0 c a)
  have e2 : getF (setF F.FWU_STGBUNDLE.COMPLETE 0 c a) F.FWU_ROOT.REVOKED = getF a F.FWU_ROOT.REVOKED :=
    getF_setF_of_reg (by decide) ..
  generalize setF F.FWU_STGBUNDLE.COMPLETE 0 c a = b at *
  generalize (currentRoot s).getD 0 = r
  refine ⟨h2.trans (.setF ..), r2.trans (.setF (f := F.FWU_ROOT.CUR) (by simp [show F.FWU_ROOT.CUR.reg = .FWU_ROOT from rfl]) 0 r b), ?_⟩
  rw [getF_setF_of_bits (by decide) (by decide), e2, e1]

/-- A component's state set, with its error where there is one, before the registers follow. -/
def compSet (k st : Nat) (err : Option Nat) (s : State) : State :=
  match err with
  | some e => setF F.FWU_COMPST.LASTERR k e (setF F.FWU_COMPST.STATE k st s)
  | none => setF F.FWU_COMPST.STATE k st s

theorem setComp_eq (k st : Nat) (err : Option Nat) (s : State) : setComp k st err s = showFwu (compSet k st err s) := by
  cases err <;> rfl

theorem compSet_fields (k : Nat) {st : Nat} (hst : st < 4) (err : Option Nat) (s : State) : OnlyRegs s (compSet k st err s) ∧
    RegsBut [(.FWU_COMPST, k)] s (compSet k st err s) ∧ compState (compSet k st err s) k = st ∧
    getF (compSet k st err s) F.FWU_COMPST.VERSION k = getF s F.FWU_COMPST.VERSION k ∧
    (∀ e, err = some e → e < 16 → getF (compSet k st err s) F.FWU_COMPST.LASTERR k = e) := by
  have h1 : OnlyRegs s (setF F.FWU_COMPST.STATE k st s) := .setF ..
  have r1 : RegsBut [(.FWU_COMPST, k)] s (setF F.FWU_COMPST.STATE k st s) :=
    .setF (f := F.FWU_COMPST.STATE) (List.mem_cons_self ..) st s
  have s1 : compState (setF F.FWU_COMPST.STATE k st s) k = st := getF_setF_of_lt (f := F.FWU_COMPST.STATE) (by decide) hst k s
  have v1 : getF (setF F.FWU_COMPST.STATE k st s) F.FWU_COMPST.VERSION k = getF s F.FWU_COMPST.VERSION k :=
    getF_setF_of_bits (by decide) (by decide) ..
  cases err with
  | none => exact ⟨h1, r1, s1, v1, fun e he => by cases he⟩
  | some x =>
    unfold compSet
    dsimp only
    generalize setF F.FWU_COMPST.STATE k st s = u at *
    refine ⟨h1.trans (.setF ..), r1.trans (.setF (f := F.FWU_COMPST.LASTERR) (List.mem_cons_self ..) x u), ?_, ?_, fun e he h16 => ?_⟩
    · rw [compState, getF_setF_of_bits (by decide) (by decide), ← compState, s1]
    · rw [getF_setF_of_bits (by decide) (by decide), v1]
    · rw [Option.some.inj he]
      exact getF_setF_of_lt (f := F.FWU_COMPST.LASTERR) (by decide) h16 k u

theorem setComp_fields (k : Nat) {st : Nat} (hst : st < 4) (err : Option Nat) (s : State) : OnlyRegs s (setComp k st err s) ∧
    RegsButAll stagedRegs s (setComp k st err s) ∧ compState (setComp k st err s) k = st ∧
    getF (setComp k st err s) F.FWU_COMPST.VERSION k = getF s F.FWU_COMPST.VERSION k ∧
    (∀ e, err = some e → e < 16 → getF (setComp k st err s) F.FWU_COMPST.LASTERR k = e) := by
  rw [setComp_eq]
  obtain ⟨h1, r1, s1, v1, e1⟩ := compSet_fields k hst err s
  generalize compSet k st err s = u at *
  obtain ⟨h2, r2, -⟩ := showFwu_frame u
  have hcomp : ∀ f : Fld, f.reg = .FWU_COMPST → getF (showFwu u) f k = getF u f k := fun f hf => by
    rw [getF, hf, r2 _ _ (by decide), getF, hf]
  exact ⟨h1.trans h2, (r1.toAll (by simp [stagedRegs])).trans (r2.mono (by simp [stagedRegs])), (hcomp _ rfl).trans s1, (hcomp _ rfl).trans v1,
    fun e he h16 => (hcomp _ rfl).trans (e1 e he h16)⟩

/-! #### Receiving outside recovery (R836, R837) -/

theorem inRecovery_congr {s t : State} (h : getReg t .GLB_STATUS 0 = getReg s .GLB_STATUS 0) : inRecovery t = inRecovery s := by
  have hp : phase t = phase s := congrArg (bitsAt · 0 3) h
  rw [inRecovery, hp, inRecovery]

/-- The staged copies with a component's image. -/
def stagedPut (k : Nat) (im : List Byte) (s : State) : State := { s with fwu := { s.fwu with staged := mapSet s.fwu.staged k [] im } }

section
variable {s : State} (hrec : inRecovery s = false)
include hrec

theorem received_staged (k : Nat) : received s k = stagedOf s k := if_neg (ne_true_of_eq_false hrec)

theorem putReceived_eq (k : Nat) (im : List Byte) : putReceived k im s = showFwu (stagedPut k im s) :=
  if_neg (ne_true_of_eq_false hrec)

theorem setOutcome_eq (k st : Nat) (err : Option Nat) : setOutcome k st err s = setComp k st err s :=
  if_neg (ne_true_of_eq_false hrec)

theorem frozen_eq : frozen s = (actState s != 0) := by rw [frozen, hrec, Bool.not_false, Bool.and_true]

theorem putReceived_fields (k : Nat) (im : List Byte) :
    (putReceived k im s).fwu = { s.fwu with staged := mapSet s.fwu.staged k [] im } ∧ (putReceived k im s).out = s.out ∧
    RegsButAll [.FWU_STGBUNDLE, .FWU_ROOT] s (putReceived k im s) := by
  rw [putReceived_eq hrec]
  obtain ⟨h, r, -⟩ := showFwu_frame (stagedPut k im s)
  have hout : (stagedPut k im s).out = s.out := rfl
  exact ⟨congrArg State.fwu h, (congrArg State.out h).trans hout, RegsButAll.trans (.of_regs_eq rfl) r⟩

/-- A component's region erased, its state set. -/
def compCleared (k st : Nat) (s : State) : State := setOutcome k st none (setF F.FWU_COMPST.VERSION k 0 (putReceived k [] s))

theorem compCleared_fields (k : Nat) {st : Nat} (hst : st < 4) :
    (compCleared k st s).fwu = { s.fwu with staged := mapSet s.fwu.staged k [] [] } ∧ (compCleared k st s).out = s.out ∧
    compState (compCleared k st s) k = st ∧ getF (compCleared k st s) F.FWU_COMPST.VERSION k = 0 ∧
    RegsButAll stagedRegs s (compCleared k st s) := by
  unfold compCleared
  obtain ⟨hf, ho, hr⟩ := putReceived_fields hrec k []
  generalize putReceived k [] s = u at *
  have r2 : RegsButAll stagedRegs s (setF F.FWU_COMPST.VERSION k 0 u) :=
    (hr.mono (by simp [stagedRegs])).trans (.setF (f := F.FWU_COMPST.VERSION) (List.mem_cons_self ..) k 0 u)
  have f2 : (setF F.FWU_COMPST.VERSION k 0 u).fwu = { s.fwu with staged := mapSet s.fwu.staged k [] [] } := (setF_fwu ..).trans hf
  have o2 : (setF F.FWU_COMPST.VERSION k 0 u).out = s.out := (setF_out ..).trans ho
  have v2 : getF (setF F.FWU_COMPST.VERSION k 0 u) F.FWU_COMPST.VERSION k = 0 := getF_setF_of_lt (by decide) (by decide) k u
  generalize setF F.FWU_COMPST.VERSION k 0 u = v at *
  rw [setOutcome_eq ((inRecovery_congr (r2 _ _ (by decide))).trans hrec)]
  obtain ⟨h3, r3, s3, v3, -⟩ := setComp_fields k hst none v
  exact ⟨(congrArg State.fwu h3).trans f2, (congrArg State.out h3).trans o2, s3, v3.trans v2, r2.trans r3⟩

end

theorem startComp_eq (k : Nat) (s : State) : startComp k s = compCleared k 1 s := rfl

theorem eraseComp_eq (k : Nat) (s : State) : eraseComp k s = compCleared k 0 s := rfl

theorem stagedOf_congr {s t : State} (h : t.fwu.staged = s.fwu.staged) (k : Nat) : stagedOf t k = stagedOf s k := by
  rw [stagedOf, h, stagedOf]

theorem stagedOf_put_same {s t : State} {k : Nat} {im : List Byte} (h : t.fwu.staged = mapSet s.fwu.staged k [] im) :
    stagedOf t k = im := by rw [stagedOf, h, mapGet_mapSet_same]

theorem stagedOf_put_ne {s t : State} {k j : Nat} {im : List Byte} (h : t.fwu.staged = mapSet s.fwu.staged k [] im) (hj : j ≠ k) :
    stagedOf t j = stagedOf s j := by rw [stagedOf, h, mapGet_mapSet_ne _ _ _ _ hj, stagedOf]

theorem getF_setSession (x : Option (Option Transport × Nat)) (u : State) (f : Fld) (i : Nat) :
    getF (setSession x u) f i = getF u f i := rfl

theorem setSession_regs (x : Option (Option Transport × Nat)) (u : State) : (setSession x u).regs = u.regs := rfl

theorem setSession_fwu (x : Option (Option Transport × Nat)) (u : State) : (setSession x u).fwu = { u.fwu with session := x } := rfl

/-! #### A command that runs (R836, R859) -/

/-- The window with a command in it: BUSY, with the ERR and the component that its completion shows. -/
def fwuHeld (err comp : Nat) (u : State) : State :=
  setF F.FWU_STAT.BUSY 0 1 { u with fwu := { u.fwu with cmd := some (err, comp) } }

theorem fwuHeld_fwu (err comp : Nat) (u : State) : (fwuHeld err comp u).fwu = { u.fwu with cmd := some (err, comp) } := by
  rw [fwuHeld, setF_fwu]

theorem fwuHeld_busy (err comp : Nat) (u : State) : flag (fwuHeld err comp u) F.FWU_STAT.BUSY = true := flag_setF_one rfl rfl 0 _

theorem fwuHeld_hld (err comp : Nat) (u : State) : (fwuHeld err comp u).hld = u.hld := by rw [fwuHeld, setF_hld]

theorem fwuHeld_regs (err comp : Nat) (u : State) : RegsBut [(.FWU_STAT, 0)] u (fwuHeld err comp u) :=
  RegsBut.trans (.of_regs_eq rfl) (RegsBut.setF (f := F.FWU_STAT.BUSY) (List.mem_cons_self ..) 1 _)

theorem getF_fwuHeld {f : Fld} (h : f.reg ≠ .FWU_STAT) (err comp : Nat) (u : State) (i : Nat) :
    getF (fwuHeld err comp u) f i = getF u f i := (fwuHeld_regs err comp u).getF f.reg i (by simp [h])

theorem barOpen_glb {s : State} (h : barOpen s = true) : glbOpen s = true := by rw [glbOpen, h]; rfl

theorem barOpen_recovery {s : State} (h : barOpen s = true) : inRecovery s = false := by
  rw [barOpen, Bool.and_eq_true, decide_eq_true_eq, decide_eq_true_eq] at h
  exact beq_false_of_ne (by omega)

section
variable {s : State} (hopen : glbOpen s = true) (hidle : flag s F.FWU_STAT.BUSY = false)
include hopen hidle

theorem fwuCommand_runs {f : State → Nat × Nat × State} {err comp : Nat} {u : State} (hf : f s = (err, comp, u)) :
    fwuCommand f s = fwuHeld err comp u := by
  rw [fwuCommand, if_neg (by simp [hopen]), if_neg (by simp [hidle]), hf]
  rfl

theorem fwuCommand_completes {i : Instr} {f : State → Nat × Nat × State} (hi : exec i s = .next (fwuCommand f s)) {err comp : Nat}
    {u : State} (hf : f s = (err, comp, u)) {P : State → Prop} (hP : P (fwuHeld err comp u)) : Completes i s P :=
  ⟨_, hi.trans (congrArg Host.Outcome.next (fwuCommand_runs hopen hidle hf)), hP⟩

/-- A refused command leaves the state as it is but for the window. -/
theorem fwuCommand_refused {i : Instr} {f : State → Nat × Nat × State} (hi : exec i s = .next (fwuCommand f s)) {err comp : Nat}
    (hf : f s = (err, comp, s)) : Completes i s (fun t => t.fwu = { s.fwu with cmd := some (err, comp) } ∧
      RegsBut [(.FWU_STAT, 0)] s t) :=
  fwuCommand_completes hopen hidle hi hf ⟨fwuHeld_fwu .., fwuHeld_regs _ _ _⟩

end

/-- A second command is discarded and noted. -/
theorem fwuCommand_busy {s : State} (hopen : glbOpen s = true) (h : flag s F.FWU_STAT.BUSY = true)
    (f : State → Nat × Nat × State) : fwuCommand f s = post { code := Ev.FWU_BUSY } s := by
  rw [fwuCommand, if_neg (by simp [hopen]), if_pos h]

/-! #### What each command comes to -/
section
variable {s : State} (hrec : inRecovery s = false)
include hrec

theorem frozen_of_act (h : actState s ≠ 0) : frozen s = true := by rw [frozen_eq hrec]; exact bne_iff_ne.2 h

theorem not_frozen (h : actState s = 0) : ¬ frozen s = true := by rw [frozen_eq hrec, h]; decide

theorem fwuBegin_frozen (h : actState s ≠ 0) : fwuBegin s = (7, 0, s) := if_pos (frozen_of_act hrec h)

theorem fwuCancel_frozen (h : actState s ≠ 0) : fwuCancel s = (7, 0, s) := if_pos (frozen_of_act hrec h)

theorem fwuBegin_open (h : actState s = 0) (hs : s.fwu.session.isSome = true) : fwuBegin s = (12, 0, s) :=
  (if_neg (not_frozen hrec h)).trans (if_pos hs)

section
variable (h : actState s = 0) (hs : s.fwu.session = none) {k : Nat} (hk : k = getF s F.FWU_ARG.VALUE 0)
include h hs hk

theorem fwuBegin_component (hbad : k = 0 ∨ 6 < k) : fwuBegin s = (2, 0, s) := by
  subst hk
  exact (if_neg (not_frozen hrec h)).trans ((if_neg (by simp [hs])).trans (if_pos hbad))

theorem fwuBegin_starts (h1 : 1 ≤ k) (h6 : k ≤ 6) : fwuBegin s = (0, k, setSession (some (none, k)) (startComp k s)) := by
  subst hk
  exact (if_neg (not_frozen hrec h)).trans ((if_neg (by simp [hs])).trans (if_neg (by omega)))

theorem fwuCancel_idle : fwuCancel s = if k = 0 ∨ 6 < k then (2, 0, s) else (0, k, eraseComp k s) := by
  subst hk
  refine (if_neg (not_frozen hrec h)).trans ?_
  rw [hs]

end

section
variable (h : actState s = 0) {j : Nat} (hs : s.fwu.session = some (none, j))
include h hs

theorem fwuCancel_session : fwuCancel s = (0, j, setSession none (eraseComp j s)) := by
  refine (if_neg (not_frozen hrec h)).trans ?_
  rw [hs]

omit h in
theorem fwuChunk_misplaced (hbad : getF s F.FWU_OFFSET.BYTES ≠ (stagedOf s j).length ∨ getF s F.FWU_LEN.BYTES = 0) :
    fwuChunk s = (7, j, s) := by
  unfold fwuChunk
  rw [hs]
  dsimp only
  rw [received_staged hrec]
  exact if_pos (.inr (hbad.elim (fun h => .inr (.inl h)) .inl))

omit h hs in
theorem takeBytes_short {bs : List Byte} (hlen : (stagedOf s j).length + bs.length < 512) :
    takeBytes j bs s = (0, putReceived j (stagedOf s j ++ bs) s) := by
  unfold takeBytes
  dsimp only
  rw [received_staged hrec]
  exact if_neg fun hc => absurd hc.2 (by rw [List.length_append]; omega)

theorem fwuChunk_short (hoff : getF s F.FWU_OFFSET.BYTES = (stagedOf s j).length) (hn : getF s F.FWU_LEN.BYTES ≠ 0)
    (hlen : (stagedOf s j).length + getF s F.FWU_LEN.BYTES < 512)
    (hwin : (winBytes s (getF s F.FWU_LEN.BYTES)).length ≤ getF s F.FWU_LEN.BYTES) : fwuChunk s
      = (0, j, putReceived j (stagedOf s j ++ winBytes s (getF s F.FWU_LEN.BYTES)) s) := by
  unfold fwuChunk
  rw [hs]
  dsimp only
  rw [received_staged hrec]
  generalize getF s F.FWU_LEN.BYTES = n at *
  generalize getF s F.FWU_OFFSET.BYTES = o at *
  have hgo : ¬ (frozen s = true ∨ n = 0 ∨ o ≠ (stagedOf s j).length ∨
      (512 ≤ (stagedOf s j).length ∧ 512 + hImgLen (imgHead (stagedOf s j)) < (stagedOf s j).length + n)) := by
    rintro (hf | hc | hc | hc)
    · exact not_frozen hrec h hf
    · exact hn hc
    · exact hc hoff
    · exact absurd hc.1 (by omega)
  rw [if_neg hgo, takeBytes_short hrec (by omega)]
  dsimp only
  rw [if_pos rfl]

omit h in
theorem fwuEnd_partial (hw : imgWhole (stagedOf s j) = false) : fwuEnd s = (7, j, s) := by
  unfold fwuEnd
  rw [hs]
  dsimp only
  rw [received_staged hrec]
  exact if_pos (.inr hw)

theorem fwuEnd_whole (hw : imgWhole (stagedOf s j) = true) : fwuEnd s = (bodyErr (stagedOf s j), j, setSession none
    (if bodyErr (stagedOf s j) = 0 then setComp j 2 none s else setComp j 3 (some (bodyErr (stagedOf s j))) s)) := by
  unfold fwuEnd finishComp
  rw [hs]
  dsimp only
  rw [received_staged hrec, setOutcome_eq hrec, setOutcome_eq hrec]
  exact if_neg (by rw [hw]; simpa using not_frozen hrec h)

end

end

theorem fwuChunk_none {s : State} (hs : s.fwu.session = none) : fwuChunk s = (7, 0, s) := by rw [fwuChunk, hs]

theorem fwuEnd_none {s : State} (hs : s.fwu.session = none) : fwuEnd s = (7, 0, s) := by rw [fwuEnd, hs]

theorem length_winBytes_le (s : State) (n : Nat) : (winBytes s n).length ≤ n := by
  have hlen : ∀ i, (bytesOf (getReg s .FWU_WIN i) 4).length = 4 := fun i => by rw [bytesOf, List.length_map, List.length_range]
  unfold winBytes
  rw [List.length_flatMap]
  simp only [hlen, List.map_const', List.length_range, List.sum_replicate_nat]
  omega

/-! #### A completion (R859) -/

/-- What a completion shows. -/
def fwuShown (err : Nat) (u : State) : State :=
  setF F.FWU_STAT.DONE 0 1 (setF F.FWU_STAT.BUSY 0 0 (setF F.FWU_STAT.ERR 0 err { u with fwu := { u.fwu with cmd := none } }))

/-- A flash write of the command failed while its component was being received. -/
def fwuBad (flash : Bool) (k : Nat) (s : State) : Bool := flash && s.fwu.session == some (none, k) && k != 0

theorem fwuComplete_eq {s : State} {err k : Nat} (h : s.fwu.cmd = some (err, k)) (flash : Bool) : fwuComplete flash s =
    fwuShown (if fwuBad flash k s then 10 else err)
      (if fwuBad flash k s then setSession none (setOutcome k 3 (some 10) s) else s) := by
  unfold fwuComplete
  rw [h]
  rfl

theorem fwuShown_fields {err : Nat} (h : err < 16) (u : State) : (fwuShown err u).fwu = { u.fwu with cmd := none } ∧
    flag (fwuShown err u) F.FWU_STAT.BUSY = false ∧ flag (fwuShown err u) F.FWU_STAT.DONE = true ∧
    getF (fwuShown err u) F.FWU_STAT.ERR = err ∧ RegsBut [(.FWU_STAT, 0)] u (fwuShown err u) := by
  unfold fwuShown
  generalize hv : ({ u with fwu := { u.fwu with cmd := none } } : State) = v
  have hvr : v.regs = u.regs := by rw [← hv]
  have hvf : v.fwu = { u.fwu with cmd := none } := by rw [← hv]
  have e1 : getF (setF F.FWU_STAT.ERR 0 err v) F.FWU_STAT.ERR = err := getF_setF_of_lt (by decide) h 0 v
  have r1 : RegsBut [(.FWU_STAT, 0)] u (setF F.FWU_STAT.ERR 0 err v) :=
    RegsBut.trans (.of_regs_eq hvr) (.setF (f := F.FWU_STAT.ERR) (List.mem_cons_self ..) err v)
  have f1 : (setF F.FWU_STAT.ERR 0 err v).fwu = { u.fwu with cmd := none } := (setF_fwu ..).trans hvf
  generalize setF F.FWU_STAT.ERR 0 err v = a at *
  have b2 : getF (setF F.FWU_STAT.BUSY 0 0 a) F.FWU_STAT.BUSY = 0 := getF_setF_of_lt (by decide) (by decide) 0 a
  have e2 : getF (setF F.FWU_STAT.BUSY 0 0 a) F.FWU_STAT.ERR = err := (getF_setF_of_bits (by decide) (by decide) ..).trans e1
  have r2 : RegsBut [(.FWU_STAT, 0)] u (setF F.FWU_STAT.BUSY 0 0 a) :=
    r1.trans (.setF (f := F.FWU_STAT.BUSY) (List.mem_cons_self ..) 0 a)
  have f2 : (setF F.FWU_STAT.BUSY 0 0 a).fwu = { u.fwu with cmd := none } := (setF_fwu ..).trans f1
  generalize setF F.FWU_STAT.BUSY 0 0 a = b at *
  refine ⟨(setF_fwu ..).trans f2, ?_, flag_setF_one rfl rfl 0 b, ?_, r2.trans (.setF (f := F.FWU_STAT.DONE) (List.mem_cons_self ..) 1 b)⟩
  · rw [flag, getF_setF_of_bits (by decide) (by decide), b2]
    rfl
  · rw [getF_setF_of_bits (by decide) (by decide), e2]

theorem fwuComplete_fields {s : State} {err k : Nat} (h : s.fwu.cmd = some (err, k)) (h16 : err < 16) (flash : Bool) :
    let t := fwuComplete flash s
    t.fwu.cmd = none ∧ flag t F.FWU_STAT.BUSY = false ∧ flag t F.FWU_STAT.DONE = true ∧
      (flash = false → getF t F.FWU_STAT.ERR = err ∧ t.fwu = { s.fwu with cmd := none } ∧ RegsBut [(.FWU_STAT, 0)] s t) ∧
      (flash = true → s.fwu.session = some (none, k) → 1 ≤ k → k ≤ 6 → phase s ≠ 7 → getF t F.FWU_STAT.ERR = 10 ∧
        t.fwu.session = none ∧ compState t k = 3 ∧ getF t F.FWU_COMPST.LASTERR k = 10) := by
  rw [fwuComplete_eq h]
  dsimp only
  have herr : (if fwuBad flash k s then 10 else err) < 16 := by
    split
    · decide
    · exact h16
  obtain ⟨hf, hb, hd, he, hr⟩ := fwuShown_fields herr
    (if fwuBad flash k s then setSession none (setOutcome k 3 (some 10) s) else s)
  refine ⟨by rw [hf], hb, hd, fun hflash => ?_, fun hflash hs h1 h6 h7 => ?_⟩
  · have hbad : fwuBad flash k s = false := by rw [hflash]; rfl
    rw [hbad, if_neg (by decide), if_neg (by decide)] at hf he hr ⊢
    exact ⟨he, hf, hr⟩
  · have hbad : fwuBad flash k s = true := by
      rw [fwuBad, hflash, hs]
      simp
      omega
    rw [hbad, if_pos rfl, if_pos rfl] at hf he hr ⊢
    rw [setOutcome_eq (beq_false_of_ne h7)] at *
    obtain ⟨-, -, hst, -, hl⟩ := setComp_fields k (st := 3) (by decide) (some 10) s
    have hlast := hl 10 rfl (by decide)
    generalize setComp k 3 (some 10) s = w at *
    refine ⟨he, by rw [hf, setSession_fwu], ?_, ?_⟩
    · rw [compState, hr.getF .FWU_COMPST k (by simp), getF_setSession]
      exact hst
    · rw [hr.getF .FWU_COMPST k (by simp), getF_setSession, hlast]

/-! #### The end of recovery (R856) -/

theorem keepRegs_fwu (rs : List Reg) (s t : State) : (keepRegs rs s t).fwu = t.fwu :=
  foldl_read_of_kept (rd := fun u : State => u.fwu) (fun u _ _ =>
    foldl_read_of_kept (rd := fun v : State => v.fwu) (fun _ _ _ => setReg_fwu ..) u) t

theorem dropReceiving_fwu (s : State) : (dropReceiving s).fwu = { s.fwu with session := none, cmd := none } :=
  foldl_read_of_kept (rd := fun u : State => u.fwu) (fun u k _ => by
    split
    · exact setF_fwu ..
    · rfl) _

theorem applyRate_fwu (s : State) : (applyRate s).fwu = s.fwu := by
  unfold applyRate
  split
  · rw [setF_fwu]
  · rfl

theorem coldState_fwu (s : State) : (coldState s).fwu = { s.fwu with turnDue := false, session := none, cmd := none } := by
  rw [coldState_eq, applyRate_fwu, show (showFwu _).fwu = _ from congrArg State.fwu (showFwu_frame _).1, setF_fwu, dropReceiving_fwu,
    keepRegs_fwu, coldStart]

/-- The update state through a cold reset: sessions end, and a boot of a new bundle is counted. -/
theorem coldReset_fwu (cause : Nat) (s : State) : (coldReset cause s).fwu = { s.fwu with
    turnDue := false, session := none, cmd := none, boots := if s.fwu.marker = 3 then s.fwu.boots + 1 else 0 } := by
  have htrain : ∀ u : State, (trainHost u).fwu = u.fwu := fun u => by
    unfold trainHost
    split <;> rfl
  rw [coldReset_eq, htrain, setF_fwu, coldCounted, coldState_fwu]

theorem commandedCold_alone {s : State} (hr : role s ≠ 3) (hv : flag s F.HLD_ROLE.SVALID = false) (cause : Nat) :
    commandedCold cause s = coldReset cause s := by rw [commandedCold, toSteward_of_none hr hv]

/-! #### The obligation -/

/-- The rows of the window's commands each run it. -/
theorem exec_fwuCommand_busy {i : Instr} (hi : i ∈ [Instr.fwuBegin, .fwuChunk, .fwuEnd, .fwuCancel, .fwuActCancel, .fwuActivate []])
    {s : State} (hopen : barOpen s = true) (h : flag s F.FWU_STAT.BUSY = true) :
    exec i s = .next (post { code := Ev.FWU_BUSY } s) := by
  have hbusy : ∀ f, (.next (fwuCommand f s) : Result) = .next (post { code := Ev.FWU_BUSY } s) :=
    fun f => congrArg Host.Outcome.next (fwuCommand_busy (barOpen_glb hopen) h f)
  revert i
  simp only [List.forall_mem_cons, List.not_mem_nil, false_imp_iff, implies_true, and_true]
  exact ⟨hbusy _, hbusy _, hbusy _, hbusy _, hbusy _, hbusy _⟩

/-- A component whose region is erased by a command that ends the session or has none. -/
theorem erased_fields {s : State} (hrec : inRecovery s = false) (k : Nat) {u : State}
    (hu : u = setSession none (eraseComp k s) ∨ (u = eraseComp k s ∧ s.fwu.session = none)) :
    (fwuHeld 0 k u).fwu.cmd = some (0, k) ∧ (fwuHeld 0 k u).fwu.session = none ∧ compState (fwuHeld 0 k u) k = 0 ∧
    stagedOf (fwuHeld 0 k u) k = [] := by
  obtain ⟨hf, -, hst, -, -⟩ := compCleared_fields hrec k (st := 0) (by decide)
  rw [← eraseComp_eq] at hf hst
  generalize eraseComp k s = w at *
  rw [fwuHeld_fwu, compState, getF_fwuHeld (by decide)]
  rcases hu with rfl | ⟨rfl, hs⟩
  · rw [setSession_fwu, getF_setSession]
    exact ⟨rfl, rfl, hst, stagedOf_put_same (s := s) (by rw [fwuHeld_fwu, setSession_fwu, hf])⟩
  · exact ⟨rfl, by rw [hf]; exact hs, hst, stagedOf_put_same (s := s) (by rw [fwuHeld_fwu, hf])⟩

/-- WP_N is high while a component is received. -/
theorem wpHigh_of_receiving {t : State} {k : Nat} (h1 : 1 ≤ k) (h6 : k ≤ 6) (h : compState t k = 1) : wpHigh t = true := by
  rw [wpHigh, flashWriting, Bool.or_eq_true, List.any_eq_true]
  exact .inr ⟨k, List.mem_range'_1.2 (by omega), beq_iff_eq.2 h⟩

/-- A component that is begun: its region erased, its session open, WP_N high. -/
theorem begun_fields {s : State} (hrec : inRecovery s = false) {k : Nat} (h1 : 1 ≤ k) (h6 : k ≤ 6) :
    let t := fwuHeld 0 k (setSession (some (none, k)) (startComp k s))
    t.fwu.cmd = some (0, k) ∧ t.fwu.session = some (none, k) ∧ compState t k = 1 ∧ wpHigh t = true ∧ stagedOf t k = [] ∧
      (∀ j, j ≠ k → stagedOf t j = stagedOf s j) ∧ getF t F.FWU_COMPST.VERSION k = 0 ∧
      RegsButAll [.FWU_STAT, .FWU_COMPST, .FWU_STGBUNDLE, .FWU_ROOT] s t := by
  dsimp only
  obtain ⟨hf, -, hst, hv, hr⟩ := compCleared_fields hrec k (st := 1) (by decide)
  rw [← startComp_eq] at hf hst hv hr
  generalize startComp k s = u at *
  have hheld := fwuHeld_regs 0 k (setSession (some (none, k)) u)
  have hstate : compState (fwuHeld 0 k (setSession (some (none, k)) u)) k = 1 := by
    rw [compState, getF_fwuHeld (by decide), getF_setSession]
    exact hst
  have hvers : getF (fwuHeld 0 k (setSession (some (none, k)) u)) F.FWU_COMPST.VERSION k = 0 := by
    rw [getF_fwuHeld (by decide), getF_setSession, hv]
  have hfwu := fwuHeld_fwu 0 k (setSession (some (none, k)) u)
  rw [setSession_fwu, hf] at hfwu
  have hsess : RegsButAll [.FWU_STAT, .FWU_COMPST, .FWU_STGBUNDLE, .FWU_ROOT] u (setSession (some (none, k)) u) :=
    .of_regs_eq (setSession_regs (some (none, k)) u)
  have hregs : RegsButAll [.FWU_STAT, .FWU_COMPST, .FWU_STGBUNDLE, .FWU_ROOT] s (fwuHeld 0 k (setSession (some (none, k)) u)) :=
    (RegsButAll.mono hr (by simp [stagedRegs])).trans (hsess.trans (hheld.toAll (by simp)))
  generalize fwuHeld 0 k (setSession (some (none, k)) u) = t at *
  have hstaged : t.fwu.staged = mapSet s.fwu.staged k [] [] := by rw [hfwu]
  exact ⟨by rw [hfwu], by rw [hfwu], hstate, wpHigh_of_receiving h1 h6 hstate, stagedOf_put_same hstaged,
    fun j hj => stagedOf_put_ne hstaged hj, hvers, hregs⟩

/-- A component whose bytes are all there: its state by the payload's check. -/
theorem ended_fields {s : State} {j e : Nat} {u : State}
    (hu : u = setSession none (if e = 0 then setComp j 2 none s else setComp j 3 (some e) s)) :
    (fwuHeld e j u).fwu.cmd = some (e, j) ∧ (fwuHeld e j u).fwu.session = none ∧
    compState (fwuHeld e j u) j = if e = 0 then 2 else 3 := by
  subst hu
  have hst : compState (if e = 0 then setComp j 2 none s else setComp j 3 (some e) s) j = if e = 0 then 2 else 3 := by
    obtain ⟨-, -, hgood, -, -⟩ := setComp_fields j (st := 2) (by decide) none s
    obtain ⟨-, -, hbad, -, -⟩ := setComp_fields j (st := 3) (by decide) (some e) s
    by_cases h0 : e = 0
    · rw [if_pos h0, if_pos h0, hgood]
    · rw [if_neg h0, if_neg h0, hbad]
  generalize (if e = 0 then setComp j 2 none s else setComp j 3 (some e) s) = w at *
  rw [fwuHeld_fwu, setSession_fwu, compState, getF_fwuHeld (by decide), getF_setSession]
  exact ⟨rfl, rfl, hst⟩

/-- Settles O58: each command by what its function says of session, component and bytes; each completion by what it shows. -/
theorem updateWindowCommands : Obligations.UpdateWindowCommands := by
  unfold Obligations.UpdateWindowCommands
  refine ⟨fun i s hi hopen h => exec_fwuCommand_busy hi hopen h,
    fun k s hopen hidle hk => ⟨fun h i hi => ?_, fun h hs => ?_, fun h hs hbad i hi => ?_, fun h hs h1 h6 => ⟨?_, ?_⟩,
      fun j h hs h1 h6 => ⟨fun hbad => ?_, fun hoff hn hlen hdvd => ?_, fun hw => ?_, fun hw => ?_, ?_⟩, fun hs => ⟨?_, ?_⟩⟩,
    fun flash s => ⟨fun h => ?_, fun err k h h16 => ⟨_, rfl, fwuComplete_fields h h16 flash⟩⟩,
    fun s h7 hidle hok hr hv => ?_, fun s hopen hidle => ?_⟩
  · have hrec := barOpen_recovery hopen
    have hrefuse : ∀ f : State → Nat × Nat × State, exec i s = .next (fwuCommand f s) → f s = (7, 0, s) →
        Completes i s (fun t => t.fwu = { s.fwu with cmd := some (7, 0) } ∧ flag t F.FWU_STAT.BUSY = true ∧
          RegsBut [(.FWU_STAT, 0)] s t) := fun f hx hf =>
      fwuCommand_completes (barOpen_glb hopen) hidle hx hf ⟨fwuHeld_fwu .., fwuHeld_busy .., fwuHeld_regs _ _ _⟩
    simp only [List.mem_cons, List.not_mem_nil, or_false] at hi
    rcases hi with rfl | rfl
    · exact hrefuse fwuBegin rfl (fwuBegin_frozen hrec h)
    · exact hrefuse fwuCancel rfl (fwuCancel_frozen hrec h)
  · exact fwuCommand_refused (barOpen_glb hopen) hidle rfl (fwuBegin_open (barOpen_recovery hopen) h hs)
  · have hrec := barOpen_recovery hopen
    simp only [List.mem_cons, List.not_mem_nil, or_false] at hi
    rcases hi with rfl | rfl
    · exact fwuCommand_refused (barOpen_glb hopen) hidle rfl (fwuBegin_component hrec h hs hk hbad)
    · exact fwuCommand_refused (barOpen_glb hopen) hidle rfl ((fwuCancel_idle hrec h hs hk).trans (if_pos hbad))
  · have hrec := barOpen_recovery hopen
    exact fwuCommand_completes (barOpen_glb hopen) hidle rfl (fwuBegin_starts hrec h hs hk h1 h6) (begun_fields hrec h1 h6)
  · have hrec := barOpen_recovery hopen
    exact fwuCommand_completes (barOpen_glb hopen) hidle rfl ((fwuCancel_idle hrec h hs hk).trans (if_neg (by omega)))
      (erased_fields hrec k (.inr ⟨rfl, hs⟩))
  · exact fwuCommand_refused (barOpen_glb hopen) hidle rfl (fwuChunk_misplaced (barOpen_recovery hopen) hs hbad)
  · have hrec := barOpen_recovery hopen
    refine fwuCommand_completes (barOpen_glb hopen) hidle rfl
      (fwuChunk_short hrec h hs hoff hn hlen (length_winBytes_le s _)) ?_
    obtain ⟨hf, -, -⟩ := putReceived_fields hrec j (stagedOf s j ++ winBytes s (getF s F.FWU_LEN.BYTES))
    refine ⟨by rw [fwuHeld_fwu], stagedOf_put_same (s := s) ?_, ?_⟩
    · rw [fwuHeld_fwu, hf]
    · rw [fwuHeld_fwu, hf]
  · exact fwuCommand_refused (barOpen_glb hopen) hidle rfl (fwuEnd_partial (barOpen_recovery hopen) hs hw)
  · exact fwuCommand_completes (barOpen_glb hopen) hidle rfl (fwuEnd_whole (barOpen_recovery hopen) h hs hw) (ended_fields rfl)
  · have hrec := barOpen_recovery hopen
    exact fwuCommand_completes (barOpen_glb hopen) hidle rfl (fwuCancel_session hrec h hs) (erased_fields hrec j (.inl rfl))
  · exact fwuCommand_completes (barOpen_glb hopen) hidle rfl (fwuChunk_none hs) (fwuHeld_fwu ..)
  · exact fwuCommand_completes (barOpen_glb hopen) hidle rfl (fwuEnd_none hs) (fwuHeld_fwu ..)
  · exact congrArg Host.Outcome.next (by rw [fwuComplete, h])
  · have hx : exec .fwuRecovExit s = .next (commandedCold 3 { s with fwu := { s.fwu with marker := 0, boots := 0, newHead := true } }) :=
      congrArg Host.Outcome.next (if_pos (by rw [inRecovery, h7, hidle, hok]; rfl))
    generalize hu : ({ s with fwu := { s.fwu with marker := 0, boots := 0, newHead := true } } : State) = u at hx
    have hur : u.regs = s.regs := by rw [← hu]
    have huf : u.fwu = { s.fwu with marker := 0, boots := 0, newHead := true } := by rw [← hu]
    rw [commandedCold_alone (mt (getF_congr hur _ _).symm.trans hr) ((flag_congr (getF_congr hur _ _)).trans hv)] at hx
    obtain ⟨hp, hc, -⟩ := coldReset_leaves (cause := 3) (by decide) u
    refine ⟨_, hx, hp, hc, ?_, ?_, ?_⟩ <;> rw [coldReset_fwu, huf]
  · have hrec := barOpen_recovery hopen
    have hx : exec .fwuRecovExit s = .next (fwuCommand (fun u => (if inRecovery u then 11 else 7, 0, u)) s) :=
      congrArg Host.Outcome.next (if_neg (by simp [hrec]))
    exact fwuCommand_refused (barOpen_glb hopen) hidle hx (by rw [hrec]; rfl)

end Sys2Proof.Machine

end


section
/-! PROOF (O59). Activation of a staged set: on the die that takes its turn, and as the steward runs it (R834, R835,
R841-R849, R854). -/

namespace Sys2Proof.Machine

theorem fwuCommand_congr {s : State} {f g : State → Nat × Nat × State} (h : f s = g s) : fwuCommand f s = fwuCommand g s := by
  rw [fwuCommand, h, fwuCommand]

/-! #### The commands ACTIVATE and its cancelling (R841, R842, R844) -/

/-- What FWU_ACTIVATE does. -/
def fwuActivateOf (fleet : List FleetReport) (u : State) : Nat × Nat × State :=
  if inRecovery u then (7, 0, u)
  else ((activate (bitAt (getReg u .FWU_ARG 0) 0) (getF u F.FWU_ARG.VALUE 1) fleet u).1, 0,
    (activate (bitAt (getReg u .FWU_ARG 0) 0) (getF u F.FWU_ARG.VALUE 1) fleet u).2)

theorem exec_fwuActivate (fleet : List FleetReport) (s : State) :
    exec (.fwuActivate fleet) s = .next (fwuCommand (fwuActivateOf fleet) s) := rfl

theorem fwuActivateOf_of {fleet : List FleetReport} {s u : State} {e : Nat} (hrec : inRecovery s = false)
    (h : activate (bitAt (getReg s .FWU_ARG 0) 0) (getF s F.FWU_ARG.VALUE 1) fleet s = (e, u)) :
    fwuActivateOf fleet s = (e, 0, u) := by
  rw [fwuActivateOf, if_neg (ne_true_of_eq_false hrec), h]

theorem activate_alone {s : State} (hr : role s ≠ 3) (hv : flag s F.HLD_ROLE.SVALID = false) (wide : Bool) (delay : Nat)
    (fleet : List FleetReport) : activate wide delay fleet s = (7, s) :=
  (if_neg hr).trans (if_neg (ne_true_of_eq_false hv))

/-- A steward that runs no rollout is asked for the activation of its own die alone. -/
theorem activate_own {s : State} (hr : role s = 3) (hready : s.hld.stew.ready = true) (hroll : s.hld.stew.rollout = {})
    (delay : Nat) (fleet : List FleetReport) : activate false delay fleet s =
      if fleetOk s [ownDie s] fleet = false then (11, s)
      else (0, decideAll 9 (ownDie s) 0 (setRollout { armed := [ownDie s] } s)) := by
  refine (if_pos hr).trans ?_
  unfold activateHere
  dsimp only
  rw [if_neg Bool.false_ne_true, if_neg (by rw [hready, hroll]; decide)]
  cases fleetOk s [ownDie s] fleet <;> rfl

/-- What FWU_ACT_CANCEL does. -/
def actCancelOf (u : State) : Nat × Nat × State :=
  if actState u = 1 then
    (0, 0, toSteward mkTurnDone [(1, 1, 2)] [] (turnOver (ownDie u)) (setAct 0 0 { u with fwu := { u.fwu with turnDue := false } }))
  else (7, 0, u)

theorem exec_fwuActCancel (s : State) : exec .fwuActCancel s = .next (fwuCommand actCancelOf s) := rfl

theorem setAct_fields {st : Nat} (hst : st < 8) (marker : Nat) (s : State) : actState (setAct st marker s) = st ∧
    (setAct st marker s).fwu = { s.fwu with marker := marker } ∧ RegsBut [(.FWU_ACTST, 0)] s (setAct st marker s) := by
  unfold setAct
  generalize hu : ({ s with fwu := { s.fwu with marker := marker } } : State) = u
  have hur : u.regs = s.regs := by rw [← hu]
  exact ⟨getF_setF_of_lt (f := F.FWU_ACTST.STATE) (by decide) hst 0 u, by rw [setF_fwu, ← hu],
    RegsBut.trans (.of_regs_eq hur) (.setF (f := F.FWU_ACTST.STATE) (List.mem_cons_self ..) st u)⟩

/-- Without a steward only the die itself changes: for any message of the activation. -/
theorem toSteward_of_regs {s t : State} (h : RegsBut [(.FWU_ACTST, 0)] s t) (hr : role s ≠ 3)
    (hv : flag s F.HLD_ROLE.SVALID = false) (kind : Nat) (fields : List (Nat × Nat × Nat)) (data : List Sector)
    (here : State → State) : toSteward kind fields data here t = t := by
  have hrole : role t = role s := h.getF .HLD_ROLE 0 (by simp)
  exact toSteward_of_none (by rw [hrole]; exact hr) ((flag_congr (h.getF .HLD_ROLE 0 (by simp))).trans hv) _ _ _ _

/-- A die that has not cancelled its turn yet. -/
def turnDropped (s : State) : State := { s with fwu := { s.fwu with turnDue := false } }

theorem actCancelOf_armed {s : State} (h : actState s = 1) (hr : role s ≠ 3) (hv : flag s F.HLD_ROLE.SVALID = false) :
    actCancelOf s = (0, 0, setAct 0 0 (turnDropped s)) := by
  obtain ⟨-, -, hregs⟩ := setAct_fields (st := 0) (by decide) 0 (turnDropped s)
  have hall : RegsBut [(.FWU_ACTST, 0)] s (setAct 0 0 (turnDropped s)) := RegsBut.trans (.of_regs_eq rfl) hregs
  refine (if_pos h).trans ?_
  rw [show ({ s with fwu := { s.fwu with turnDue := false } } : State) = turnDropped s from rfl, toSteward_of_regs hall hr hv]

theorem actCancelled_fields (s : State) : let t := fwuHeld 0 0 (setAct 0 0 (turnDropped s))
    actState t = 0 ∧ t.fwu = { s.fwu with marker := 0, turnDue := false, cmd := some (0, 0) } ∧
      RegsBut [(.FWU_STAT, 0), (.FWU_ACTST, 0)] s t := by
  dsimp only
  obtain ⟨ha, hf, hr⟩ := setAct_fields (st := 0) (by decide) 0 (turnDropped s)
  have hall : RegsBut [(.FWU_ACTST, 0)] s (setAct 0 0 (turnDropped s)) := RegsBut.trans (.of_regs_eq rfl) hr
  generalize setAct 0 0 (turnDropped s) = u at *
  refine ⟨?_, by rw [fwuHeld_fwu, hf]; rfl, (hall.mono (by simp)).trans ((fwuHeld_regs 0 0 u).mono (by simp))⟩
  rw [actState, getF_fwuHeld (by decide)]
  exact ha

/-! #### The drain and the overwrite (R844, R845, R854) -/

theorem drainEnd_fields {s : State} (h : actState s = 2) : actState (drainEnd s) = 3 ∧ (drainEnd s).fwu.marker = 2 ∧
    (drainEnd s).fwu.loader = (loaderCopy s).getD 2 ∧ RegsBut [(.FWU_ACTST, 0)] s (drainEnd s) := by
  obtain ⟨ha, hf, hr⟩ := setAct_fields (st := 3) (by decide) 2 s
  have heq : drainEnd s = { setAct 3 2 s with fwu := { (setAct 3 2 s).fwu with loader := (loaderCopy s).getD 2 } } := if_pos h
  rw [heq]
  generalize setAct 3 2 s = u at *
  exact ⟨(getF_congr rfl _ _).trans ha, by rw [hf], rfl, RegsBut.trans hr (.of_regs_eq rfl)⟩

theorem bodyErr_lt (im : List Byte) : bodyErr im < 16 := by
  unfold bodyErr
  dsimp only
  split
  · decide
  · split <;> decide

/-- The error that the first wrong staged image has. -/
theorem stagedBad_lt {s : State} {k e : Nat} (h : stagedBad s = some (k, e)) : e < 16 := by
  unfold stagedBad at h
  obtain ⟨j, -, hj⟩ := List.exists_of_findSome?_eq_some h
  dsimp only at hj
  have hlt : (if imgWhole (stagedOf s j) then bodyErr (stagedOf s j) else 9) < 16 := by
    split
    · exact bodyErr_lt _
    · decide
  generalize (if imgWhole (stagedOf s j) then bodyErr (stagedOf s j) else 9) = x at hj hlt
  by_cases hx : x = 0
  · rw [if_pos hx] at hj
    cases hj
  · rw [if_neg hx] at hj
    rw [← (Prod.mk.inj (Option.some.inj hj)).2]
    exact hlt

section
variable {s : State} (hm : s.fwu.marker = 2) (h7 : phase s ≠ 7)
include hm h7

theorem overwriteDone_bad {k e : Nat} (h : stagedBad s = some (k, e)) : overwriteDone s = setF F.FWU_COMPST.LASTERR k e s := by
  have hgo : ¬ (s.fwu.marker ≠ 2 ∨ (inRecovery s = true ∧ getF s F.FWU_RECOV.REASON ≠ 3)) := by
    rw [hm, inRecovery, beq_false_of_ne h7]
    simp
  unfold overwriteDone
  rw [if_neg hgo, h]

/-- The overwritten die, before it boots. -/
def overwritten (s : State) : State :=
  { s with fwu := { s.fwu with active := activeAfter s, newHead := true, marker := 3, boots := 0 } }

theorem overwriteDone_good (hr : role s ≠ 3) (hv : flag s F.HLD_ROLE.SVALID = false) (h : stagedBad s = none) :
    overwriteDone s = coldReset 3 (overwritten s) := by
  have hgo : ¬ (s.fwu.marker ≠ 2 ∨ (inRecovery s = true ∧ getF s F.FWU_RECOV.REASON ≠ 3)) := by
    rw [hm, inRecovery, beq_false_of_ne h7]
    simp
  have hur : (overwritten s).regs = s.regs := rfl
  have hrole : role (overwritten s) ≠ 3 := by
    rw [role, getF_congr hur]
    exact hr
  unfold overwriteDone
  rw [if_neg hgo, h]
  exact commandedCold_alone hrole ((flag_congr (getF_congr hur _ _)).trans hv) 3

end

theorem overwritten_fields (s : State) : phase (coldReset 3 (overwritten s)) = 0 ∧
    (coldReset 3 (overwritten s)).fwu.marker = 3 ∧ (coldReset 3 (overwritten s)).fwu.active = activeAfter s ∧
    (coldReset 3 (overwritten s)).fwu.newHead = true ∧ getF (coldReset 3 (overwritten s)) F.GLB_RSTCAUSE.CAUSE = 3 := by
  obtain ⟨hp, hc, -⟩ := coldReset_leaves (cause := 3) (by decide) (overwritten s)
  rw [coldReset_fwu]
  exact ⟨hp, rfl, rfl, rfl, hc⟩

/-- The place of the active area that a staged image goes to. -/
def activePut (s : State) (k : Nat) : Nat := if k = 2 then (if s.fwu.loader = 2 then 7 else 2) else k

theorem activeAfter_eq (s : State) : activeAfter s =
    [1, 2, 3, 4, 5, 6].foldl (fun m k => mapIns m (activePut s k) (stagedOf s k)) s.fwu.active := rfl

/-- A fold of insertions at places that differ reads what was inserted. -/
theorem mapFind_foldl_mapIns {α : Type} {place : Nat → Nat} {val : Nat → α} {l : List Nat} (hl : l.Nodup) {k : Nat} (hk : k ∈ l)
    (hne : ∀ j ∈ l, j ≠ k → place j ≠ place k) (m : Map α) :
    mapFind (l.foldl (fun m k => mapIns m (place k) (val k)) m) (place k) = some (val k) :=
  foldl_read_of_mem (g := fun m k => mapIns m (place k) (val k)) (rd := fun m => mapFind m (place k)) (φ := fun _ => some (val k))
    (a := k) (fun m j hj hjk => mapFind_mapIns_ne m _ (hne j hj hjk)) (fun m => mapFind_mapIns_same m _ _) hl hk m

theorem mapFind_foldl_mapIns_of_notMem {α : Type} {place : Nat → Nat} {val : Nat → α} {l : List Nat} {p : Nat}
    (h : ∀ j ∈ l, place j ≠ p) (m : Map α) : mapFind (l.foldl (fun m k => mapIns m (place k) (val k)) m) p = mapFind m p :=
  foldl_read_of_kept (g := fun m k => mapIns m (place k) (val k)) (rd := fun m => mapFind m p)
    (fun m j hj => mapFind_mapIns_ne m _ (h j hj)) m

theorem activePut_ne {s : State} {j k : Nat} (hj : j ∈ [1, 2, 3, 4, 5, 6]) (hk : k ∈ [1, 2, 3, 4, 5, 6]) (h : j ≠ k) :
    activePut s j ≠ activePut s k := by
  simp only [List.mem_cons, List.not_mem_nil, or_false] at hj hk
  unfold activePut
  (repeat' split) <;> omega

theorem activeAfter_place {k : Nat} (hk : k ∈ [1, 2, 3, 4, 5, 6]) (s : State) :
    mapFind (activeAfter s) (activePut s k) = some (stagedOf s k) := by
  rw [activeAfter_eq]
  exact mapFind_foldl_mapIns (by decide) hk (fun j hj h => activePut_ne hj hk h) _

theorem activeAfter_kept {p : Nat} {s : State} (h : ∀ j ∈ [1, 2, 3, 4, 5, 6], activePut s j ≠ p) :
    mapFind (activeAfter s) p = mapFind s.fwu.active p := by
  rw [activeAfter_eq]
  exact mapFind_foldl_mapIns_of_notMem h _

theorem activeAfter_fields (s : State) :
    (∀ k, 1 ≤ k → k ≤ 6 → k ≠ 2 → mapFind (activeAfter s) k = some (stagedOf s k)) ∧
    (s.fwu.loader = 2 → mapFind (activeAfter s) 7 = some (stagedOf s 2) ∧ mapFind (activeAfter s) 2 = mapFind s.fwu.active 2) ∧
    (s.fwu.loader = 7 → mapFind (activeAfter s) 2 = some (stagedOf s 2) ∧ mapFind (activeAfter s) 7 = mapFind s.fwu.active 7) := by
  refine ⟨fun k h1 h6 h2 => ?_, fun h => ⟨?_, activeAfter_kept fun j hj => ?_⟩, fun h => ⟨?_, activeAfter_kept fun j hj => ?_⟩⟩
  · have hput := activeAfter_place (k := k) (by simp; omega) s
    rwa [activePut, if_neg h2] at hput
  · have hput := activeAfter_place (k := 2) (by simp) s
    rwa [activePut, if_pos rfl, if_pos h] at hput
  · rw [activePut, if_pos h]
    split <;> omega
  · have hput := activeAfter_place (k := 2) (by simp) s
    rwa [activePut, if_pos rfl, if_neg (by omega)] at hput
  · simp only [List.mem_cons, List.not_mem_nil, or_false] at hj
    rw [activePut, if_neg (show ¬ s.fwu.loader = 2 by omega)]
    split <;> omega

/-! #### The end of an activation (R834, R835) -/

/-- The fuses of the set that has been activated. -/
def fused (s : State) : State :=
  if rootAdvances s then
    setF F.FWU_ROOT.REVOKED 0 (getF s F.FWU_ROOT.REVOKED ||| 2 ^ (currentRoot s).getD 0)
      (setF F.FWU_SVN.FUSED 0 (max (getF s F.FWU_SVN.FUSED) (hSvn (stagedHead s 1))) s)
  else setF F.FWU_SVN.FUSED 0 (max (getF s F.FWU_SVN.FUSED) (hSvn (stagedHead s 1))) s

/-- The staging area emptied. -/
def unstaged (s : State) : State :=
  (List.range' 1 6).foldl (fun u k => setReg .FWU_COMPST k 0 u) { s with fwu := { s.fwu with staged := [] } }

theorem activationDone_eq {alone : Bool} {s : State} (h4 : actState s = 4) (h3 : phase s = 3) (hm : mirrored s = true ∨ alone = true) :
    activationDone alone s
      = toSteward mkTurnDone [(1, 1, 1)] [] (turnOver (ownDie s)) (showFwu (setAct 0 0 (unstaged (fused s)))) := by
  refine if_neg ?_
  rintro (h | h | h)
  · exact h h4
  · exact h h3
  · rcases hm with hm | hm
    · rw [hm] at h
      exact Bool.noConfusion h.1
    · rw [hm] at h
      exact Bool.noConfusion h.2

theorem fused_fields (s : State) :
    getF (fused s) F.FWU_SVN.FUSED = max (getF s F.FWU_SVN.FUSED) (hSvn (stagedHead s 1)) % 2 ^ F.FWU_SVN.FUSED.width ∧
    (rootAdvances s = false → getF (fused s) F.FWU_ROOT.REVOKED = getF s F.FWU_ROOT.REVOKED) ∧
    RegsButAll [.FWU_SVN, .FWU_ROOT] s (fused s) := by
  unfold fused
  have hsvn := getF_setF_same F.FWU_SVN.FUSED 0 (max (getF s F.FWU_SVN.FUSED) (hSvn (stagedHead s 1))) s (by decide)
  have hroot : getF (setF F.FWU_SVN.FUSED 0 (max (getF s F.FWU_SVN.FUSED) (hSvn (stagedHead s 1))) s) F.FWU_ROOT.REVOKED
      = getF s F.FWU_ROOT.REVOKED := getF_setF_of_reg (by decide) ..
  have hr : RegsButAll [.FWU_SVN, .FWU_ROOT] s (setF F.FWU_SVN.FUSED 0 (max (getF s F.FWU_SVN.FUSED) (hSvn (stagedHead s 1))) s) :=
    .setF (f := F.FWU_SVN.FUSED) (List.mem_cons_self ..) 0 _ s
  generalize setF F.FWU_SVN.FUSED 0 (max (getF s F.FWU_SVN.FUSED) (hSvn (stagedHead s 1))) s = u at *
  split
  · rename_i hadv
    refine ⟨(getF_setF_of_reg (by decide) ..).trans hsvn, fun h => absurd (hadv.symm.trans h) (by decide), hr.trans ?_⟩
    exact .setF (f := F.FWU_ROOT.REVOKED) (by simp [show F.FWU_ROOT.REVOKED.reg = .FWU_ROOT from rfl]) 0 _ u
  · exact ⟨hsvn, fun _ => hroot, hr⟩

theorem unstaged_fields (s : State) : (unstaged s).fwu = { s.fwu with staged := [] } ∧
    (∀ k, 1 ≤ k → k ≤ 6 → getReg (unstaged s) .FWU_COMPST k = 0) ∧ RegsButAll [.FWU_COMPST] s (unstaged s) := by
  unfold unstaged
  generalize hu : ({ s with fwu := { s.fwu with staged := [] } } : State) = u
  have hur : u.regs = s.regs := by rw [← hu]
  have huf : u.fwu = { s.fwu with staged := [] } := by rw [← hu]
  refine ⟨(foldl_read_of_kept (rd := fun v : State => v.fwu) (fun v k _ => setReg_fwu ..) u).trans huf, fun k h1 h6 => ?_, ?_⟩
  · refine foldl_read_of_mem (g := fun u k => setReg .FWU_COMPST k 0 u) (rd := fun v => getReg v .FWU_COMPST k) (φ := fun _ => 0)
      (a := k) (fun v j _ hj => ?_) (fun v => ?_) List.nodup_range' (List.mem_range'_1.2 (by omega)) u
    · rw [getReg_setReg, if_neg fun h => hj h.2.symm]
    · rw [getReg_setReg, if_pos ⟨rfl, rfl⟩]
  · refine List.foldlRecOn (motive := fun v => RegsButAll [.FWU_COMPST] s v) _ _ (.of_regs_eq hur) fun v hv k _ => hv.trans ?_
    exact .setReg (List.mem_cons_self ..) k 0 v

theorem activationDone_fields {alone : Bool} {s : State} (h4 : actState s = 4) (h3 : phase s = 3)
    (hm : mirrored s = true ∨ alone = true) (hr : role s ≠ 3) (hv : flag s F.HLD_ROLE.SVALID = false) :
    let t := activationDone alone s
    actState t = 0 ∧ t.fwu.marker = 0 ∧ t.fwu.staged = [] ∧
      getF t F.FWU_SVN.FUSED = max (getF s F.FWU_SVN.FUSED) (hSvn (stagedHead s 1)) % 2 ^ F.FWU_SVN.FUSED.width ∧
      (rootAdvances s = false → getF t F.FWU_ROOT.REVOKED = getF s F.FWU_ROOT.REVOKED) ∧
      (∀ k, 1 ≤ k → k ≤ 6 → compState t k = 0) := by
  rw [activationDone_eq h4 h3 hm]
  dsimp only
  obtain ⟨hsvn, hroot, hr1⟩ := fused_fields s
  generalize max (getF s F.FWU_SVN.FUSED) (hSvn (stagedHead s 1)) % 2 ^ F.FWU_SVN.FUSED.width = v at *
  generalize fused s = a at *
  obtain ⟨hf2, hcomp, hr2⟩ := unstaged_fields a
  generalize unstaged a = b at *
  obtain ⟨ha3, hf3, hr3⟩ := setAct_fields (st := 0) (by decide) 0 b
  generalize setAct 0 0 b = c at *
  obtain ⟨honly, hr4, hrev⟩ := showFwu_frame c
  have hf4 : (showFwu c).fwu = c.fwu := by rw [honly]
  generalize showFwu c = d at *
  have hbd : RegsButAll [.FWU_ACTST, .FWU_STGBUNDLE, .FWU_ROOT] b d := (hr3.toAll (by simp)).trans (hr4.mono (by simp))
  have hkeep : ∀ f : Fld, f.reg ∉ [Reg.FWU_SVN, .FWU_ROOT, .FWU_COMPST, .FWU_ACTST, .FWU_STGBUNDLE] → getF d f = getF s f :=
    fun f hf => by
      simp only [List.mem_cons, List.not_mem_nil, or_false, not_or] at hf
      obtain ⟨h1, h2, h3, h4, h5⟩ := hf
      rw [getF, hbd _ _ (by simp [h2, h4, h5]), hr2 _ _ (by simp [h3]), hr1 _ _ (by simp [h1, h2]), getF]
  rw [toSteward_of_none (s := d) (mt (hkeep F.HLD_ROLE.ROLE (by decide)).symm.trans hr) ((flag_congr (hkeep F.HLD_ROLE.SVALID (by decide))).trans hv)]
  have hact : actState d = 0 := (congrArg (bitsAt · 0 3) (hr4 .FWU_ACTST 0 (by decide))).trans ha3
  refine ⟨hact, by rw [hf4, hf3], by rw [hf4, hf3, hf2], ?_, fun h => ?_, fun k h1 h6 => ?_⟩
  · rw [getF, hbd _ _ (by decide), hr2 _ _ (by decide), ← getF, hsvn]
  · rw [hrev, hr3.getF .FWU_ROOT 0 (by simp), getF, hr2 _ _ (by decide), ← getF, hroot h]
  · rw [compState, getF, show F.FWU_COMPST.STATE.reg = .FWU_COMPST from rfl, hbd _ _ (by decide), hcomp k h1 h6]
    decide

/-! #### A turn (R843, R844, R846, R847) -/

theorem stagedPass_congr {s t : State} (hr : t.regs = s.regs) (hs : t.fwu.staged = s.fwu.staged)
    (ha : t.fwu.active = s.fwu.active) : stagedPass t = stagedPass s := by
  have hf := fun f i => getF_congr hr f i
  have hstaged : ∀ k, stagedOf t k = stagedOf s k := stagedOf_congr hs
  have hrun : runBundle t = runBundle s := by rw [runBundle, ha, runBundle]
  have hcomplete : stagedComplete t = stagedComplete s := by
    simp only [stagedComplete, compState, stagedHead, hf, hstaged]
  have hsig : ∀ h, sigsOk t h = sigsOk s h := fun h => by
    have hone : ∀ b, sigOk t h b = sigOk s h b := fun b => by simp only [sigOk, hf]
    have hroot : currentRoot t = currentRoot s := by simp only [currentRoot, hf]
    rw [sigsOk, hroot, show sigOk t h = sigOk s h from funext hone, sigsOk]
  have herr : ∀ r h, headErr t r h = headErr s r h := fun r h => by simp only [headErr, hsig, hf]
  simp only [stagedPass, hcomplete, hstaged, stagedHead, hrun, herr]

theorem turnDropped_regs (s : State) : (turnDropped s).regs = s.regs := rfl

theorem turnObey_due {s : State} (h1 : actState s = 1) (hd : s.fwu.turnDue = true) : turnObey s =
    if stagedPass (turnDropped s) then setF F.FWU_ACTST.STATE 0 2 (leaveStart (turnDropped s))
    else post { code := Ev.FWU_ACTFAIL }
      (setAct 0 0 (if role (turnDropped s) = 3 then leaseRelease 1 (turnDropped s) else turnDropped s)) := by
  have hact : ¬ actState (turnDropped s) ≠ 1 := Classical.not_not.2 h1
  unfold turnObey
  rw [if_neg (by rw [hd]; decide)]
  exact if_neg hact

theorem turnObey_fields {s : State} (h1 : actState s = 1) (hd : s.fwu.turnDue = true) (hr : role s ≠ 3)
    (hv : flag s F.HLD_ROLE.SVALID = false) : if stagedPass s = true then
      actState (turnObey s) = 2 ∧ flag (turnObey s) F.GLB_STATUS.LEAVING = true
    else actState (turnObey s) = 0 ∧ (turnObey s).fwu.marker = 0 := by
  rw [turnObey_due h1 hd, stagedPass_congr (s := s) (t := turnDropped s) rfl rfl rfl]
  have hrole : role (turnDropped s) ≠ 3 := by
    rw [role, getF_congr (turnDropped_regs s)]
    exact hr
  have hsv : flag (turnDropped s) F.HLD_ROLE.SVALID = false := (flag_congr (getF_congr (turnDropped_regs s) _ _)).trans hv
  generalize turnDropped s = u at *
  by_cases hp : stagedPass s = true
  · rw [if_pos hp, if_pos hp, leaveStart_alone hrole hsv]
    refine ⟨getF_setF_of_lt (f := F.FWU_ACTST.STATE) (by decide) (by decide) 0 _, ?_⟩
    exact (flag_congr (getF_setF_of_reg (by decide) ..)).trans (flag_setF_one rfl rfl 0 u)
  · rw [if_neg hp, if_neg hp, if_neg hrole]
    obtain ⟨ha, hf, -⟩ := setAct_fields (st := 0) (by decide) 0 u
    generalize setAct 0 0 u = w at *
    exact ⟨(getF_post _ _ _ _ rfl).trans ha, by rw [post_fwu, hf]⟩

section
variable {s : State}

theorem turnStart_none (h : nextTurn s = none) : turnStart s = s := by rw [turnStart, h]

theorem turnStart_running (h : s.hld.stew.rollout.turn.isSome = true) : turnStart s = s := by
  unfold turnStart
  split
  · rfl
  · exact if_pos (.inl h)

theorem turnStart_next {d : Nat} (hn : nextTurn s = some d) (ht : s.hld.stew.rollout.turn = none) (hm : mirrored s = true) :
    turnStart s = turnObey (decideAll 10 d 0
      (setRollout { armed := s.hld.stew.rollout.armed.filter (fun k => k != d), turn := some d } s)) := by
  unfold turnStart
  rw [hn]
  refine if_neg ?_
  rw [ht, hm]
  simp

theorem turnTimeout_none (h : s.hld.stew.rollout.turn = none) : turnTimeout s = s := by rw [turnTimeout, h]

theorem turnTimeout_last {d : Nat} (h : s.hld.stew.rollout.turn = some d) (ha : s.hld.stew.rollout.armed = []) :
    turnTimeout s
      = decideAll 13 d 0 (setRollout {} (post { code := Ev.FWU_HALT, inst := d } (setF F.FWU_ACTST.HALTED 0 1 s))) := by
  rw [turnTimeout, h]
  dsimp only
  rw [ha, List.foldl_nil]

end

/-! #### The obligation -/

/-- Settles O59: the commands by their guards, the drain, the overwrite and the end by what each leaves, the turns by theirs. -/
theorem activationRows : Obligations.ActivationRows := by
  unfold Obligations.ActivationRows
  refine ⟨fun fleet s hopen hidle => ⟨fun hr hv => ?_, fun hr hready hroll harg hfleet => ?_, fun hr hready hroll harg hfleet => ?_,
      fun h => ?_, fun h hr hv => ?_⟩,
    fun s => ⟨fun hrun h => ⟨_, next_onlyIf hrun _ s, drainEnd_fields h⟩, fun h => ?_⟩,
    fun s => ⟨fun h => ?_, fun k e hm h7 h => ?_, fun hm h7 hr hv => ⟨_, rfl, fun h => ?_⟩⟩, activeAfter_fields,
    fun alone s => ⟨fun h => ?_, fun h4 h3 hm hr hv => ⟨_, rfl, activationDone_fields h4 h3 hm hr hv⟩⟩,
    fun s hacts => ⟨fun h => ?_, fun h => ?_, fun d r hn hroll ht hm => ?_, fun h => ?_, fun d ht ha => ?_⟩,
    fun s h1 hd hr hv => turnObey_fields h1 hd hr hv⟩
  · exact fwuCommand_refused (barOpen_glb hopen) hidle (exec_fwuActivate fleet s)
      (fwuActivateOf_of (barOpen_recovery hopen) (activate_alone hr hv _ _ fleet))
  · have hwide : bitAt (getReg s .FWU_ARG 0) 0 = false := by rw [harg]; decide
    refine fwuCommand_completes (barOpen_glb hopen) hidle (exec_fwuActivate fleet s) (fwuActivateOf_of (barOpen_recovery hopen) ?_)
      ⟨fwuHeld_fwu 11 0 s, fwuHeld_hld ..⟩
    rw [hwide, activate_own hr hready hroll, if_pos hfleet]
  · have hwide : bitAt (getReg s .FWU_ARG 0) 0 = false := by rw [harg]; decide
    refine (exec_fwuActivate fleet s).trans (congrArg Host.Outcome.next (fwuCommand_congr (fwuActivateOf_of (barOpen_recovery hopen) ?_)))
    rw [hwide, activate_own hr hready hroll, if_neg (by rw [hfleet]; decide)]
  · exact fwuCommand_refused (barOpen_glb hopen) hidle (exec_fwuActCancel s) (if_neg h)
  · exact fwuCommand_completes (barOpen_glb hopen) hidle (exec_fwuActCancel s) (actCancelOf_armed h hr hv) (actCancelled_fields s)
  · have hsame : drainEnd s = s := if_neg h
    cases hrun : headRuns s
    · exact next_onlyIf_of_not hrun _ s
    · exact (next_onlyIf hrun _ s).trans (congrArg Host.Outcome.next hsame)
  · exact congrArg Host.Outcome.next (if_pos (.inl h))
  · refine ⟨_, congrArg Host.Outcome.next (overwriteDone_bad hm h7 h), setF_fwu .., ?_, ?_⟩
    · exact getF_setF_of_lt (f := F.FWU_COMPST.LASTERR) (by decide) (stagedBad_lt h) k s
    · exact .setF (f := F.FWU_COMPST.LASTERR) (List.mem_cons_self ..) e s
  · rw [overwriteDone_good hm h7 hr hv h]
    exact overwritten_fields s
  · exact congrArg Host.Outcome.next (if_pos h)
  · exact (next_onlyIf hacts turnStart s).trans (congrArg Host.Outcome.next (turnStart_none h))
  · exact (next_onlyIf hacts turnStart s).trans (congrArg Host.Outcome.next (turnStart_running h))
  · subst hroll
    exact (next_onlyIf hacts turnStart s).trans (congrArg Host.Outcome.next (turnStart_next hn ht hm))
  · exact (next_onlyIf hacts turnTimeout s).trans (congrArg Host.Outcome.next (turnTimeout_none h))
  · exact (next_onlyIf hacts turnTimeout s).trans (congrArg Host.Outcome.next (turnTimeout_last ht ha))

end Sys2Proof.Machine

end


section
/-! PROOF (O60). PLDM for firmware update over a transport in use: sessions, components and their bytes (R836, R837, R840,
R855). -/

namespace Sys2Proof.Machine

/-! #### Saying and asking -/

theorem pldmSay_regs (t : Transport) (a : PldmAns) (s : State) : (pldmSay t a s).regs = s.regs := rfl

theorem pldmSay_fwu (t : Transport) (a : PldmAns) (s : State) : (pldmSay t a s).fwu = s.fwu := rfl

theorem pldmSay_out (t : Transport) (a : PldmAns) (s : State) : (pldmSay t a s).out = s.out ++ [.pldm t a] := rfl

theorem setSession_out (x : Option (Option Transport × Nat)) (s : State) : (setSession x s).out = s.out := rfl

theorem getF_pldmSay (t : Transport) (a : PldmAns) (s : State) (f : Fld) (i : Nat) : getF (pldmSay t a s) f i = getF s f i := rfl

theorem compState_pldmSay (t : Transport) (a : PldmAns) (s : State) (k : Nat) : compState (pldmSay t a s) k = compState s k :=
  getF_pldmSay t a s _ k

theorem compState_setSession (x : Option (Option Transport × Nat)) (s : State) (k : Nat) :
    compState (setSession x s) k = compState s k := getF_setSession x s _ k

theorem stagedOf_pldmSay (t : Transport) (a : PldmAns) (s : State) (k : Nat) : stagedOf (pldmSay t a s) k = stagedOf s k := by
  unfold stagedOf
  rw [pldmSay_fwu]

theorem stagedOf_setSession (x : Option (Option Transport × Nat)) (s : State) (k : Nat) :
    stagedOf (setSession x s) k = stagedOf s k := by
  unfold stagedOf
  rw [setSession_fwu]

theorem inRecovery_pldmSay (t : Transport) (a : PldmAns) (s : State) : inRecovery (pldmSay t a s) = inRecovery s :=
  inRecovery_congr (getReg_congr (pldmSay_regs t a s) _ _)

theorem inRecovery_setSession (x : Option (Option Transport × Nat)) (s : State) : inRecovery (setSession x s) = inRecovery s :=
  inRecovery_congr (getReg_congr (setSession_regs x s) _ _)

/-- Before the header is whole the rest of its 512 bytes is asked for. -/
theorem pldmNext_of_short {s : State} {k : Nat} (hrec : inRecovery s = false) (h : (stagedOf s k).length < 512) :
    pldmNext s k = 512 - (stagedOf s k).length := by
  unfold pldmNext
  dsimp only
  rw [received_staged hrec]
  exact if_pos h

theorem pldmAsk_of_short {s : State} {k : Nat} (hrec : inRecovery s = false) (h : (stagedOf s k).length < 512) (t : Transport) :
    pldmAsk t k s = pldmSay t (.requestData (stagedOf s k).length (512 - (stagedOf s k).length)) s := by
  rw [pldmAsk, received_staged hrec, pldmNext_of_short hrec h]

section
variable {t : Transport} {s : State} (h1 : 1 ≤ phase s) (hup : sidebandUp s t = true)
include h1 hup

/-- A command over a transport in use is answered. -/
theorem pldmOver_runs (c : PldmCmd) (fleet : List FleetReport) (flash : Bool) :
    pldmOver t c fleet flash s = .next (pldm t c fleet flash s) :=
  next_onlyIf (by rw [headAnswers_of_phase h1, hup]; rfl) _ s

theorem pldmOver_eq {c : PldmCmd} {fleet : List FleetReport} {flash : Bool} {u : State} (h : pldm t c fleet flash s = u) :
    pldmOver t c fleet flash s = .next u := (pldmOver_runs h1 hup c fleet flash).trans (congrArg Host.Outcome.next h)

end

/-! #### A component (R837, R840) -/
section
variable {t : Transport} {s : State} {k : Nat}

theorem pldmUpdate_starts (hs : s.fwu.session = some (some t, 0)) (hf : frozen s = false) (hk : 1 ≤ k ∧ k ≤ 6) : pldmUpdate t k s
    = pldmAsk t k (pldmSay t (.updateComponent 0) (setSession (some (some t, k)) (startComp k s))) :=
  (if_neg (by simp [hs, hf])).trans (if_neg (by omega))

theorem pldmUpdate_unknown (hs : s.fwu.session = some (some t, 0)) (hf : frozen s = false) (hk : k = 0 ∨ 6 < k) :
    pldmUpdate t k s = pldmSay t (.updateComponent 2) s := (if_neg (by simp [hs, hf])).trans (if_pos hk)

/-- A component that is started is asked for from its first byte. -/
theorem pldmStarted_fields (hrec : inRecovery s = false) : let u := pldmAsk t k (pldmSay t (.updateComponent 0)
      (setSession (some (some t, k)) (startComp k s)))
    u.fwu.session = some (some t, k) ∧ compState u k = 1 ∧ stagedOf u k = [] ∧
      u.out = s.out ++ [.pldm t (.updateComponent 0), .pldm t (.requestData 0 512)] := by
  dsimp only
  obtain ⟨hf, ho, hst, -, hr⟩ := compCleared_fields hrec k (st := 1) (by decide)
  rw [← startComp_eq] at hf ho hst hr
  have hstaged : stagedOf (startComp k s) k = [] := stagedOf_put_same (s := s) (by rw [hf])
  have hrec' : inRecovery (startComp k s) = false := (inRecovery_congr (hr _ _ (by decide))).trans hrec
  generalize startComp k s = w at *
  have hwst : stagedOf (pldmSay t (.updateComponent 0) (setSession (some (some t, k)) w)) k = [] := by
    rw [stagedOf_pldmSay, stagedOf_setSession, hstaged]
  rw [pldmAsk_of_short (by rw [inRecovery_pldmSay, inRecovery_setSession, hrec']) (by rw [hwst]; decide), hwst]
  refine ⟨?_, ?_, by rw [stagedOf_pldmSay, hwst], ?_⟩
  · rw [pldmSay_fwu, pldmSay_fwu, setSession_fwu]
  · rw [compState_pldmSay, compState_pldmSay, compState_setSession]
    exact hst
  · rw [pldmSay_out, pldmSay_out, setSession_out, ho, List.append_assoc]
    rfl

variable (hs : s.fwu.session = some (some t, k)) (h16 : 1 ≤ k ∧ k ≤ 6) (hf : frozen s = false)
include hs h16 hf

theorem pldmData_failed {bs : List Byte} (hne : bs ≠ []) (hlen : bs.length ≤ pldmNext s k) : pldmData t bs true s
    = pldmSay t (.transferComplete 10) (setSession (some (some t, 0)) (setOutcome k 3 (some 10) s)) := by
  have htake : ¬ (t ≠ t ∨ k = 0 ∨ bs = [] ∨ pldmNext s k < bs.length) := by
    rintro (h | h | h | h)
    · exact h rfl
    · omega
    · exact hne h
    · omega
  unfold pldmData
  rw [hs]
  dsimp only
  rw [if_neg htake, if_neg (ne_true_of_eq_false hf), if_pos rfl]

omit hs h16 hf in
theorem imgWhole_of_short {im : List Byte} (h : im.length < 512) : imgWhole im = false := by
  rw [imgWhole, decide_eq_false (by omega), Bool.false_and]

theorem pldmData_short (hrec : inRecovery s = false) {bs : List Byte} (hne : bs ≠ [])
    (hlen : (stagedOf s k).length + bs.length < 512) :
    pldmData t bs false s = pldmAsk t k (putReceived k (stagedOf s k ++ bs) s) := by
  have htake : ¬ (t ≠ t ∨ k = 0 ∨ bs = [] ∨ pldmNext s k < bs.length) := by
    rw [pldmNext_of_short hrec (by omega)]
    rintro (h | h | h | h)
    · exact h rfl
    · omega
    · exact hne h
    · omega
  obtain ⟨hfwu, -, hr⟩ := putReceived_fields hrec k (stagedOf s k ++ bs)
  have hwhole : imgWhole (received (putReceived k (stagedOf s k ++ bs) s) k) = false := by
    rw [received_staged ((inRecovery_congr (hr _ _ (by decide))).trans hrec), stagedOf_put_same (s := s) (by rw [hfwu])]
    exact imgWhole_of_short (by rw [List.length_append]; exact hlen)
  unfold pldmData
  rw [hs]
  dsimp only
  rw [if_neg htake, if_neg (ne_true_of_eq_false hf), if_neg Bool.false_ne_true, takeBytes_short hrec hlen]
  dsimp only
  rw [if_neg (by simp), if_neg (ne_true_of_eq_false hwhole)]

omit hs h16 hf in
/-- Bytes of a header that is not whole are kept, and the next are asked for. -/
theorem pldmTaken_fields (hrec : inRecovery s = false) {bs : List Byte} (hlen : (stagedOf s k).length + bs.length < 512) :
    let u := pldmAsk t k (putReceived k (stagedOf s k ++ bs) s)
    stagedOf u k = stagedOf s k ++ bs ∧ u.fwu.session = s.fwu.session ∧
      u.out = s.out ++ [.pldm t (.requestData ((stagedOf s k).length + bs.length) (512 - ((stagedOf s k).length + bs.length)))] := by
  dsimp only
  obtain ⟨hfwu, ho, hr⟩ := putReceived_fields hrec k (stagedOf s k ++ bs)
  have hstaged : stagedOf (putReceived k (stagedOf s k ++ bs) s) k = stagedOf s k ++ bs := stagedOf_put_same (s := s) (by rw [hfwu])
  have hrec' : inRecovery (putReceived k (stagedOf s k ++ bs) s) = false := (inRecovery_congr (hr _ _ (by decide))).trans hrec
  generalize putReceived k (stagedOf s k ++ bs) s = w at *
  rw [pldmAsk_of_short hrec' (by rw [hstaged, List.length_append]; exact hlen), hstaged, List.length_append]
  exact ⟨hstaged, by rw [pldmSay_fwu, hfwu], by rw [pldmSay_out, ho]⟩

end

/-- A component erased over PLDM. -/
theorem pldmErased_fields {s : State} (hrec : inRecovery s = false) (t : Transport) (k : Nat) (a : PldmAns)
    (x : Option (Option Transport × Nat)) : let u := pldmSay t a (setSession x (eraseComp k s))
    u.fwu.session = x ∧ compState u k = 0 ∧ stagedOf u k = [] ∧ u.out = s.out ++ [.pldm t a] := by
  dsimp only
  obtain ⟨hf, ho, hst, -, -⟩ := compCleared_fields hrec k (st := 0) (by decide)
  rw [← eraseComp_eq] at hf ho hst
  have hstaged : stagedOf (eraseComp k s) k = [] := stagedOf_put_same (s := s) (by rw [hf])
  generalize eraseComp k s = w at *
  exact ⟨by rw [pldmSay_fwu, setSession_fwu], by rw [compState_pldmSay, compState_setSession]; exact hst,
    by rw [stagedOf_pldmSay, stagedOf_setSession, hstaged], by rw [pldmSay_out, setSession_out, ho]⟩

theorem pldmFailed_fields {s : State} (hrec : inRecovery s = false) (t : Transport) (k : Nat) :
    let u := pldmSay t (.transferComplete 10) (setSession (some (some t, 0)) (setOutcome k 3 (some 10) s))
    compState u k = 3 ∧ getF u F.FWU_COMPST.LASTERR k = 10 ∧ u.fwu.session = some (some t, 0) ∧
      u.out = s.out ++ [.pldm t (.transferComplete 10)] := by
  dsimp only
  rw [setOutcome_eq hrec]
  obtain ⟨honly, -, hst, -, hl⟩ := setComp_fields k (st := 3) (by decide) (some 10) s
  have hlast := hl 10 rfl (by decide)
  have ho : (setComp k 3 (some 10) s).out = s.out := by rw [honly]
  generalize setComp k 3 (some 10) s = w at *
  exact ⟨by rw [compState_pldmSay, compState_setSession]; exact hst, by rw [getF_pldmSay, getF_setSession, hlast],
    by rw [pldmSay_fwu, setSession_fwu], by rw [pldmSay_out, setSession_out, ho]⟩

/-! #### The obligation -/

theorem not_inRecovery {s : State} (h : phase s ≠ 7) : inRecovery s = false := beq_false_of_ne h

/-- The state that a session's step leaves: what the step says, and what it leaves of the session. -/
theorem pldm_cancelComponent {t : Transport} {s : State} {k : Nat} (hs : s.fwu.session = some (some t, k)) (hk : 1 ≤ k)
    (hf : frozen s = false) : pldm t .cancelComponent [] false s
      = pldmSay t (.cancelComponent 0) (setSession (some (some t, 0)) (eraseComp k s)) := by
  unfold pldm
  dsimp only
  rw [hs]
  exact if_neg (by simp [hf]; omega)

theorem pldm_cancelUpdate {t : Transport} {s : State} {k : Nat} (hs : s.fwu.session = some (some t, k)) (hk : 1 ≤ k)
    (hf : frozen s = false) : pldm t .cancelUpdate [] false s
      = pldmSay t (.cancelUpdate 0) (setSession none (eraseComp k s)) := by
  unfold pldm
  dsimp only
  rw [hs]
  dsimp only
  rw [if_neg (fun h => h rfl), if_neg (by simp [hf]; omega)]

theorem pldm_activate {t : Transport} {fleet : List FleetReport} {e : Nat} {s u : State} (h7 : phase s ≠ 7)
    (ho : pldmOpen t s = true) (h : activate false 0 fleet s = (e, u)) :
    pldm t .activate fleet false s = pldmSay t (.activate e) (if e = 0 then setSession none u else u) := by
  unfold pldm
  dsimp only
  rw [if_neg (by simp [ho, not_inRecovery h7]), h]

theorem pldm_passTable (t : Transport) (comps : List (Fin 8)) (s : State) : pldm t (.passTable comps) [] false s
    = pldmSay t (.passTable (if pldmOpen t s = false then 7 else if comps.all (fun k => 1 ≤ k.val && k.val ≤ 6) then 0 else 2)) s := by
  unfold pldm
  dsimp only
  cases pldmOpen t s <;> rfl

/-! A command over a transport that opened no session (R836). -/
section
variable {t : Transport} {s : State} (h : pldmOpen t s = false)
include h

theorem session_ne_of_not_open {u : Transport} {k : Nat} (hs : s.fwu.session = some (some u, k)) : u ≠ t := by
  rintro rfl
  simp [pldmOpen, hs] at h

theorem pldm_activate_refused (fleet : List FleetReport) : pldm t .activate fleet false s = pldmSay t (.activate 7) s :=
  if_pos (.inl (by simp [h]))

theorem pldm_cancelComponent_refused : pldm t .cancelComponent [] false s = pldmSay t (.cancelComponent 7) s := by
  unfold pldm
  dsimp only
  split
  · next u k hs => exact if_pos (.inl (session_ne_of_not_open h hs))
  · rfl

theorem pldm_cancelUpdate_refused : pldm t .cancelUpdate [] false s = pldmSay t (.cancelUpdate 7) s := by
  unfold pldm
  dsimp only
  split
  · next u k hs => exact if_pos (session_ne_of_not_open h hs)
  · rfl

theorem pldmData_refused (bs : List Byte) (flash : Bool) : pldmData t bs flash s = s := by
  unfold pldmData
  split
  · next u k hs => exact if_pos (.inl (session_ne_of_not_open h hs))
  · rfl

end

/-- Settles O60: each command by the session that it finds, each component by the layer of the window's commands. -/
theorem pldmCommands : Obligations.PldmCommands := by
  unfold Obligations.PldmCommands
  refine ⟨fun t s h1 hup => ⟨pldmOver_runs h1 hup .queryIdentifiers [] false, pldmOver_runs h1 hup .getParameters [] false,
      fun h => ?_, fun h => ?_, fun comps => ?_, fun k h => ?_, fun k hs hf h7 => ⟨fun hk => ?_, fun hlo hhi => ?_⟩,
      fun h fleet => ⟨pldmOver_eq h1 hup (pldm_activate_refused h fleet), pldmOver_eq h1 hup (pldm_cancelComponent_refused h),
        pldmOver_eq h1 hup (pldm_cancelUpdate_refused h),
        fun bs flash => pldmOver_eq h1 hup (c := .firmwareData bs) (pldmData_refused h bs flash)⟩,
      fun k hs hlo hhi hf h7 => ⟨fun bs hne hlen => ?_, fun bs hne hlen => ?_, ?_, ?_⟩⟩,
    fun t fleet e s u h1 h7 hup ho h => pldmOver_eq h1 hup (pldm_activate h7 ho h)⟩
  · exact pldmOver_eq h1 hup (c := .requestUpdate) (if_pos h)
  · exact pldmOver_eq h1 hup (c := .requestUpdate) (if_neg (by simp [h]))
  · exact pldmOver_eq h1 hup (pldm_passTable t comps s)
  · exact pldmOver_eq h1 hup (c := .updateComponent k) (if_pos h)
  · exact pldmOver_eq h1 hup (c := .updateComponent k) (pldmUpdate_unknown hs hf (by omega))
  · exact ⟨_, pldmOver_eq h1 hup (c := .updateComponent k) (pldmUpdate_starts hs hf ⟨hlo, hhi⟩),
      pldmStarted_fields (not_inRecovery h7)⟩
  · exact ⟨_, pldmOver_eq h1 hup (c := .firmwareData bs) (pldmData_failed hs ⟨hlo, hhi⟩ hf hne hlen),
      pldmFailed_fields (not_inRecovery h7) t k⟩
  · exact ⟨_, pldmOver_eq h1 hup (c := .firmwareData bs) (pldmData_short hs ⟨hlo, hhi⟩ hf (not_inRecovery h7) hne hlen),
      pldmTaken_fields (not_inRecovery h7) hlen⟩
  · exact ⟨_, pldmOver_eq h1 hup (pldm_cancelComponent hs hlo hf), pldmErased_fields (not_inRecovery h7) t k _ _⟩
  · exact ⟨_, pldmOver_eq h1 hup (pldm_cancelUpdate hs hlo hf), pldmErased_fields (not_inRecovery h7) t k _ _⟩

end Sys2Proof.Machine

end


section
/-! PROOF (O4). The canonical form of the stores: a register is written through `setReg`, a sector of the Reef through `setSec`
and one of LPDDR through `lpPut`, and each keeps the form; every other operation is made of these and of fields beside the
stores. One rule per operation follows, in the order of the model. -/

namespace Sys2Proof.Machine

/-! #### The stores' own operations -/

/-- Rewriting values under their keys keeps the rising order. -/
theorem mapSorted_map_of_keys {α : Type} {f : Nat × α → Nat × α} (hf : ∀ e, (f e).1 = e.1) {m : Map α}
    (h : mapSorted m = true) : mapSorted (m.map f) = true := by
  match m with
  | [] => rfl
  | [_] => rfl
  | d :: e :: m =>
    rw [mapSorted, Bool.and_eq_true] at h
    obtain ⟨hlt, htail⟩ := h
    have ih := mapSorted_map_of_keys hf htail
    rw [List.map_cons] at ih ⊢
    rw [List.map_cons, mapSorted, Bool.and_eq_true]
    exact ⟨by rw [hf, hf]; exact hlt, ih⟩

theorem keyReset_regKey (r : Reg) (i : Nat) : keyReset (regKey r i) = regReset r i := by
  rw [keyReset, regKey_mod, regKey_div, Reg.ofNat_ctorIdx]

theorem canonical_iff {s : State} : Canonical s = true ↔
    mapWf s.regs keyReset = true ∧ mapWf s.reef.secs secBlank = true ∧ mapSorted s.mem.secs = true := by
  rw [Canonical, Bool.and_eq_true, Bool.and_eq_true, and_assoc]

/-- The form speaks of the three stores alone. -/
@[simp] theorem canonical_mk (regs : Map (BitVec 32)) (time free : Nat) (pending : List Instr) (out : List Out) (evt : EvtState)
    (msh : MeshState) (pci : PciState) (reef : ReefState) (mem : MemState) (qos : QosState) (hld : HldState) (xlt : XltState)
    (tq : TqState) (bead : BeadState) (hbl : HblState) (shl : ShlState) (twy : TwyState) (brk : BrkState) (fwu : FwuState)
    (rst : RstState) :
    Canonical ⟨regs, time, free, pending, out, evt, msh, pci, reef, mem, qos, hld, xlt, tq, bead, hbl, shl, twy, brk, fwu, rst⟩ = true ↔
      mapWf regs keyReset = true ∧ mapWf reef.secs secBlank = true ∧ mapSorted mem.secs = true := canonical_iff

/-- A state with the stores of another has its form. -/
theorem canonical_of_stores {s t : State} (hs : Canonical s = true) (hr : t.regs = s.regs) (hf : t.reef.secs = s.reef.secs)
    (hm : t.mem.secs = s.mem.secs) : Canonical t = true := by
  rw [canonical_iff, hr, hf, hm]
  exact canonical_iff.mp hs

theorem canonical_foldl {α : Type} {f : State → α → State} (hf : ∀ t x, Canonical t = true → Canonical (f t x) = true)
    {s : State} (hs : Canonical s = true) {l : List α} : Canonical (l.foldl f s) = true := by
  induction l generalizing s with
  | nil => exact hs
  | cons x l ih => exact ih (hf s x hs)

/-- The same where the fold carries the state beside something else. -/
theorem canonical_foldl_at {α β : Type} (g : β → State) {f : β → α → β}
    (hf : ∀ b x, Canonical (g b) = true → Canonical (g (f b x)) = true) {b : β} (hb : Canonical (g b) = true) {l : List α} :
    Canonical (g (l.foldl f b)) = true := by
  induction l generalizing b with
  | nil => exact hb
  | cons x l ih => exact ih (hf b x hb)

section
variable {s : State} (hs : Canonical s = true)
include hs

@[simp] theorem mapWf_regs_of_canonical : mapWf s.regs keyReset = true := (canonical_iff.mp hs).1

@[simp] theorem mapWf_reef_of_canonical : mapWf s.reef.secs secBlank = true := (canonical_iff.mp hs).2.1

@[simp] theorem mapSorted_mem_of_canonical : mapSorted s.mem.secs = true := (canonical_iff.mp hs).2.2

@[simp] theorem canonical_ite {t : State} (ht : Canonical t = true) (c : Prop) [Decidable c] :
    Canonical (if c then s else t) = true := by split <;> assumption

@[simp] theorem canonical_setReg (r : Reg) (i : Nat) (v : BitVec 32) : Canonical (setReg r i v s) = true := by
  rw [setReg, canonical_mk, ← keyReset_regKey]
  exact ⟨mapWf_mapSet _ v (mapWf_regs_of_canonical hs), mapWf_reef_of_canonical hs, mapSorted_mem_of_canonical hs⟩

@[simp] theorem canonical_clearReg (r : Reg) : Canonical (clearReg r s) = true :=
  (canonical_mk ..).mpr ⟨mapWf_filter _ (mapWf_regs_of_canonical hs), mapWf_reef_of_canonical hs, mapSorted_mem_of_canonical hs⟩

@[simp] theorem canonical_setSec (key : Nat) (r : ReefSec) : Canonical (setSec key r s) = true :=
  (canonical_mk ..).mpr ⟨mapWf_regs_of_canonical hs, mapWf_mapSet _ r (mapWf_reef_of_canonical hs), mapSorted_mem_of_canonical hs⟩

@[simp] theorem canonical_lpPut (k : Nat) (r : LpSec) : Canonical (lpPut k r s) = true := by
  refine (canonical_mk ..).mpr ⟨mapWf_regs_of_canonical hs, mapWf_reef_of_canonical hs, ?_⟩
  dsimp only
  split
  · exact mapSorted_mapDel k (mapSorted_mem_of_canonical hs)
  · exact mapSorted_mapIns k r (mapSorted_mem_of_canonical hs)

end

end Sys2Proof.Machine

end


section
/-! PROOF (O4). The canonical form is kept: events, requests and the mesh. -/

namespace Sys2Proof.Machine

section
variable {s : State} (hs : Canonical s = true)
include hs

/-! #### Machine/Ops -/

@[simp] theorem canonical_setF (f : Fld) (i v : Nat) : Canonical (setF f i v s) = true := by simp [setF, hs]

@[simp] theorem canonical_bumpBy (f : Fld) (i n : Nat) : Canonical (bumpBy f i n s) = true := by simp [bumpBy, hs]

@[simp] theorem canonical_bump (f : Fld) (i : Nat) : Canonical (bump f i s) = true := by simp [bump, hs]

@[simp] theorem canonical_set64 (lo hi : Reg) (i v : Nat) : Canonical (set64 lo hi i v s) = true := by simp [set64, hs]

@[simp] theorem canonical_add64 (lo hi : Reg) (i n : Nat) : Canonical (add64 lo hi i n s) = true := by simp [add64, hs]

@[simp] theorem canonical_clearRegs (rs : List Reg) : Canonical (clearRegs rs s) = true := by
  unfold clearRegs
  refine canonical_foldl (fun t x ht => ?_) hs
  simp [ht]

@[simp] theorem canonical_putPairBit (lo hi : Reg) (i : Nat) (b : Bool) : Canonical (putPairBit lo hi i b s) = true := by
  simp [putPairBit, hs]

omit hs in
theorem canonical_writeFld {p : State × Bool} (hp : Canonical p.1 = true) (f : Fld) (i : Nat) (val : BitVec 32) :
    Canonical (writeFld f i val p).1 = true := by
  grind [writeFld, canonical_setF]

@[simp] theorem canonical_writeFlds (r : Reg) (i : Nat) (val : BitVec 32) : Canonical (writeFlds r i val s).1 = true :=
  canonical_foldl_at Prod.fst (fun _ f hp => canonical_writeFld hp f i val) hs

@[simp] theorem canonical_draw (w : Nat) : Canonical (draw w s).2 = true := by simp [draw, hs]

@[simp] theorem canonical_onlyIf (b : Bool) {f : State → State} (hf : Canonical (f s) = true) : Canonical (onlyIf b f s) = true :=
  canonical_ite hf hs _

@[simp] theorem canonical_hostEmit (r : HostReq) : Canonical (hostEmit r s) = true := by simp [hostEmit, hs]

@[simp] theorem canonical_hostSend (r : HostReq) : Canonical (hostSend r s) = true := by
  grind [hostSend, canonical_hostEmit, canonical_mk, canonical_iff]

@[simp] theorem canonical_hostFlush : Canonical (hostFlush s) = true := by
  grind [hostFlush, canonical_hostSend, canonical_foldl, canonical_mk, canonical_iff]

@[simp] theorem canonical_raiseVec (v : Nat) : Canonical (raiseVec v s) = true := by simp [raiseVec, hs]

@[simp] theorem canonical_ringIrq (f sev : Nat) : Canonical (ringIrq f sev s) = true := by
  grind [ringIrq, canonical_setF, canonical_raiseVec]

@[simp] theorem canonical_ringWrite (f : Nat) (r : EvtRec) : Canonical (ringWrite f r s) = true := by
  grind [ringWrite, canonical_ringIrq, canonical_setReg, canonical_bump, canonical_mk, canonical_iff]

@[simp] theorem canonical_tryLost (f : Nat) : Canonical (tryLost f s) = true := by
  grind [tryLost, canonical_ringWrite, canonical_bump, canonical_mk, canonical_iff]

@[simp] theorem canonical_post (e : EvArgs) : Canonical (post e s) = true := by
  grind [post, canonical_bump, canonical_ringWrite, canonical_foldl, canonical_mk, canonical_iff]

@[simp] theorem canonical_evReady : Canonical (evReady s) = true := by
  grind [evReady, canonical_ringWrite, canonical_foldl, canonical_mk, canonical_iff]

@[simp] theorem canonical_setPhase (p : Nat) : Canonical (setPhase p s) = true := by simp [setPhase, hs]

@[simp] theorem canonical_dieStop (code : Nat) : Canonical (dieStop code s) = true := by
  grind [dieStop, canonical_setF, canonical_setPhase, canonical_setReg, canonical_foldl]

@[simp] theorem canonical_fatal (e : EvArgs) : Canonical (fatal e s) = true := by simp [fatal, hs]

/-! #### Machine/Mesh -/

@[simp] theorem canonical_setBuf (t port vc : Nat) (l : List BufFlit) : Canonical (setBuf t port vc l s) = true := by
  simp [setBuf, hs]

@[simp] theorem canonical_pushBuf (t port vc : Nat) (f : Flit) : Canonical (pushBuf t port vc f s) = true := by
  simp [pushBuf, hs]

@[simp] theorem canonical_setInbox (t a : Nat) (l : List Flit) : Canonical (setInbox t a l s) = true := by simp [setInbox, hs]

@[simp] theorem canonical_deliver (t a : Nat) (f : Flit) : Canonical (deliver t a f s) = true := by simp [deliver, hs]

@[simp] theorem canonical_setAnswers (t a : Nat) (l : List Answer) : Canonical (setAnswers t a l s) = true := by
  simp [setAnswers, hs]

@[simp] theorem canonical_answer (t a : Nat) (r : Answer) : Canonical (answer t a r s) = true := by simp [answer, hs]

@[simp] theorem canonical_afterGrantAt (t : Nat) (c : Cand) (out : Nat) : Canonical (afterGrantAt t c s out) = true := by
  simp [afterGrantAt, hs]

@[simp] theorem canonical_afterGrant (t : Nat) (c : Cand) : Canonical (afterGrant t c s) = true := by
  unfold afterGrant
  refine canonical_foldl (fun t x ht => ?_) hs
  simp [ht]

@[simp] theorem canonical_crcDiscard (t : Nat) (f : Flit) : Canonical (crcDiscard t f s) = true := by simp [crcDiscard, hs]

@[simp] theorem canonical_arrive (t out vc : Nat) (f : Flit) : Canonical (arrive t out vc f s) = true := by
  grind [arrive, canonical_pushBuf, canonical_add64, canonical_bump, canonical_crcDiscard, canonical_mk, canonical_iff]

@[simp] theorem canonical_forward (t out vc : Nat) (f : Flit) : Canonical (forward t out vc f s) = true := by simp [forward, hs]

@[simp] theorem canonical_meshHop (t out : Nat) (noise : BitVec 704) : Canonical (meshHop t out noise s) = true := by
  grind [meshHop, canonical_add64, canonical_afterGrant, canonical_setBuf, canonical_forward, canonical_foldl]

@[simp] theorem canonical_adjMove : Canonical (adjMove s) = true := by
  grind [adjMove, canonical_deliver, canonical_foldl, canonical_mk, canonical_iff]

@[simp] theorem canonical_askWake (mask : Nat) : Canonical (askWake mask s) = true := by simp [askWake, hs]

@[simp] theorem canonical_inject (t a : Nat) (f : Flit) : Canonical (inject t a f s) = true := by
  grind [inject, canonical_askWake, canonical_adjMove, canonical_pushBuf, canonical_mk, canonical_iff]

@[simp] theorem canonical_expect (t a : Nat) (f : Flit) (keysel : Nat) : Canonical (expect t a f keysel s) = true := by
  grind [expect, canonical_mk, canonical_iff]

@[simp] theorem canonical_injectUrgent (t : TileId) (a : Fin 8) (f : Flit) : Canonical (injectUrgent t a f s) = true := by
  grind [injectUrgent, canonical_bump, canonical_inject, canonical_mk, canonical_iff]

@[simp] theorem canonical_flitInject (t : TileId) (a : Fin 8) (hdr : BitVec 128) (pay : Sector) (tally : BitVec 32) (die :
    Option Die) (keysel : Fin 64) :
    Canonical (flitInject t a hdr pay tally die keysel s) = true := by
  unfold flitInject
  dsimp only
  (repeat' split) <;> simp [hs]

@[simp] theorem canonical_capRelease (src : UrgSrc) : Canonical (capRelease src s) = true := by
  grind [capRelease, canonical_inject, canonical_mk, canonical_iff]

@[simp] theorem canonical_linkReserve (t : TileId) (a : Fin 8) (n : LinkId) : Canonical (linkReserve t a n s) = true := by
  grind [linkReserve, canonical_inject, canonical_mk, canonical_iff]

@[simp] theorem canonical_checkReadData (t addr : Nat) (f : Flit) : Canonical (checkReadData t addr f s).2 = true := by
  grind [checkReadData, canonical_post, canonical_bump]

@[simp] theorem canonical_takeAnswer (t a : Nat) (f : Flit) : Canonical (takeAnswer t a f s) = true := by
  grind [takeAnswer, canonical_post, canonical_checkReadData, canonical_answer, canonical_mk, canonical_iff]

@[simp] theorem canonical_takeMulticast (t a : Nat) (f : Flit) : Canonical (takeMulticast t a f s) = true := by
  grind [takeMulticast, canonical_post, canonical_answer, canonical_mk, canonical_iff]

@[simp] theorem canonical_meshResponse (t a : Nat) : Canonical (meshResponse t a s) = true := by
  grind [meshResponse, canonical_setInbox, canonical_takeMulticast, canonical_takeAnswer]

@[simp] theorem canonical_requestTimeout (t a tag : Nat) : Canonical (requestTimeout t a tag s) = true := by
  grind [requestTimeout, canonical_bump, canonical_post, canonical_answer, canonical_mk, canonical_iff]

@[simp] theorem canonical_multicastTimeout (t a : Nat) : Canonical (multicastTimeout t a s) = true := by
  grind [multicastTimeout, canonical_answer, canonical_mk, canonical_iff]

@[simp] theorem canonical_isthmusWindow (x : Nat) : Canonical (isthmusWindow x s) = true := by
  grind [isthmusWindow, canonical_post, canonical_putPairBit, canonical_fatal]

@[simp] theorem canonical_isthmusTrain : Canonical (isthmusTrain s) = true := by simp [isthmusTrain, hs]

@[simp] theorem canonical_isthmusWindows : Canonical (isthmusWindows s) = true := by
  grind [isthmusWindows, canonical_isthmusWindow, canonical_foldl, canonical_mk, canonical_iff]

@[simp] theorem canonical_mshClear : Canonical (mshClear s) = true := by simp [mshClear, hs]

end

end Sys2Proof.Machine

end


section
/-! PROOF (O4). The canonical form is kept: policy, regulation, links and the journal. -/

namespace Sys2Proof.Machine

section
variable {s : State} (hs : Canonical s = true)
include hs

/-! #### Machine/Policy -/

@[simp] theorem canonical_policyOverride (loop inst cause : Nat) : Canonical (policyOverride loop inst cause s) = true := by
  simp [policyOverride, hs]

@[simp] theorem canonical_overrideSet (loop inst cause : Nat) (out : Bool) :
    Canonical (overrideSet loop inst cause out s) = true := by
  grind [overrideSet, canonical_policyOverride, canonical_mk, canonical_iff]

@[simp] theorem canonical_overrideDrop (loop inst : Nat) : Canonical (overrideDrop loop inst s) = true := by
  simp [overrideDrop, hs]

@[simp] theorem canonical_clampStatus (loop inst : Nat) (on : Bool) : Canonical (clampStatus loop inst on s) = true := by
  grind [clampStatus, canonical_setReg, canonical_setF]

@[simp] theorem canonical_clampBegin (loop inst : Nat) : Canonical (clampBegin loop inst s) = true := by
  grind [clampBegin, canonical_clampStatus, canonical_post, canonical_mk, canonical_iff]

@[simp] theorem canonical_clampEnd (loop inst : Nat) : Canonical (clampEnd loop inst s) = true := by
  grind [clampEnd, canonical_setReg, canonical_clampStatus, canonical_post, canonical_mk, canonical_iff]

@[simp] theorem canonical_clampSet (loop inst : Nat) (wants : Bool) : Canonical (clampSet loop inst wants s) = true := by
  simp [clampSet, hs]

/-! #### Machine/Qos -/

@[simp] theorem canonical_takeTokens (r j c : Nat) : Canonical (takeTokens r j c s) = true := by simp [takeTokens, hs]

@[simp] theorem canonical_takeSectors (r j c n : Nat) : Canonical (takeSectors r j c n s) = true := by simp [takeSectors, hs]

@[simp] theorem canonical_qosPick (r j : Nat) (l : List QReq) : Canonical (qosPick r j l s).2 = true := by
  grind [qosPick, canonical_mk, canonical_iff]

@[simp] theorem canonical_countMiss (r : Nat) (q : QReq) (heldAtArrival acting : Bool) :
    Canonical (countMiss r q heldAtArrival acting s) = true := by
  grind [countMiss, canonical_bump, canonical_mk, canonical_iff]

@[simp] theorem canonical_hostPump (fuel : Nat) : Canonical (hostPump fuel s) = true := by
  induction fuel generalizing s with
  | zero => exact hs
  | succ fuel ih =>
    simp only [hostPump]
    (repeat' split) <;>
      grind [canonical_hostEmit, canonical_qosPick, canonical_takeSectors, canonical_countMiss, canonical_mk, canonical_iff]

@[simp] theorem canonical_hostDma (share mark : Nat) (r : HostReq) : Canonical (hostDma share mark r s) = true := by
  grind [hostDma, canonical_hostPump, canonical_hostSend, canonical_mk, canonical_iff]

@[simp] theorem canonical_oversubUpdate (r : Nat) : Canonical (oversubUpdate r s) = true := by
  grind [oversubUpdate, canonical_setReg, canonical_post]

/-! #### Machine/Links -/

@[simp] theorem canonical_setLink (n : Nat) (l : TwyLink) : Canonical (setLink n l s) = true := by simp [setLink, hs]

@[simp] theorem canonical_nextPlain (n : Nat) : Canonical (nextPlain n s).2 = true := by
  grind [nextPlain, canonical_qosPick, canonical_countMiss]

@[simp] theorem canonical_takeSlot (n i : Nat) : Canonical (takeSlot n i s).1 = true := by
  grind [takeSlot, canonical_setLink, canonical_takeTokens]

@[simp] theorem canonical_fillSlots (fuel n room : Nat) (acc : List (Nat × BitVec 544)) :
    Canonical (fillSlots fuel n room s acc).2 = true := by
  induction fuel generalizing s room acc with
  | zero => exact hs
  | succ fuel ih =>
    simp only [fillSlots]
    (repeat' split) <;> grind [canonical_takeSlot, canonical_nextPlain]

@[simp] theorem canonical_sendFrame (n : Nat) (slots : List (Nat × BitVec 544)) (nak swap : Bool) (l : TwyLink) :
    Canonical (sendFrame n slots nak swap l s) = true := by
  grind [sendFrame, canonical_setLink, canonical_add64, canonical_mk, canonical_iff]

@[simp] theorem canonical_twyPump (fuel n : Nat) : Canonical (twyPump fuel n s) = true := by
  induction fuel generalizing s with
  | zero => exact hs
  | succ fuel ih =>
    simp only [twyPump]
    (repeat' split) <;> grind [canonical_fillSlots, canonical_sendFrame]

@[simp] theorem canonical_twyFlush (n : Nat) : Canonical (twyFlush n s) = true := by simp [twyFlush, hs]

@[simp] theorem canonical_twyNull (n : Nat) (nak : Bool) : Canonical (twyNull n nak s) = true := by simp [twyNull, hs]

@[simp] theorem canonical_twyOn (n : Nat) (m : TwyMsg) : Canonical (twyOn n m s) = true := by simp [twyOn, hs]

@[simp] theorem canonical_twySend (m : TwyMsg) : Canonical (twySend m s) = true := by
  grind [twySend, canonical_twyOn, canonical_mk, canonical_iff]

@[simp] theorem canonical_twyRetry : Canonical (twyRetry s) = true := by
  grind [twyRetry, canonical_twySend, canonical_foldl, canonical_mk, canonical_iff]

@[simp] theorem canonical_linkHand (n : Nat) : Canonical (linkHand n s) = true := by
  grind [linkHand, canonical_twySend, canonical_setLink, canonical_foldl]

@[simp] theorem canonical_setPort (p : Nat) (x : ShlPort) : Canonical (setPort p x s) = true := by simp [setPort, hs]

@[simp] theorem canonical_shlSendFrame (p : Nat) (slots : List (BitVec 640)) (nak : Bool) (x : ShlPort) :
    Canonical (shlSendFrame p slots nak x s) = true := by
  simp [shlSendFrame, hs]

@[simp] theorem canonical_shlPump (fuel p : Nat) : Canonical (shlPump fuel p s) = true := by
  induction fuel generalizing s with
  | zero => exact hs
  | succ fuel ih =>
    simp only [shlPump]
    (repeat' split) <;> grind [canonical_shlSendFrame]

@[simp] theorem canonical_shlFlush (p : Nat) : Canonical (shlFlush p s) = true := by simp [shlFlush, hs]

@[simp] theorem canonical_shlNull (p : Nat) (nak : Bool) : Canonical (shlNull p nak s) = true := by simp [shlNull, hs]

@[simp] theorem canonical_shlSend (p vc : Nat) (slot : BitVec 640) : Canonical (shlSend p vc slot s) = true := by
  simp [shlSend, hs]

@[simp] theorem canonical_shlNote (p : Nat) (w : ShlWatch) (v : Nat) : Canonical (shlNote p w v s) = true := by
  simp [shlNote, hs]

@[simp] theorem canonical_shlWatchFire (i v : Nat) : Canonical (shlWatchFire i v s) = true := by
  grind [shlWatchFire, canonical_setPort, canonical_shlNote, canonical_foldl, canonical_mk, canonical_iff]

/-! #### Machine/Journal -/

@[simp] theorem canonical_setQueue (q : Nat) (x : TQueue) : Canonical (setQueue q x s) = true := by simp [setQueue, hs]

@[simp] theorem canonical_putBatch (q : Nat) (b : Batch) : Canonical (putBatch q b s) = true := by simp [putBatch, hs]

@[simp] theorem canonical_putInst (q first : Nat) (i : Inst) : Canonical (putInst q first i s) = true := by
  grind [putInst, canonical_putBatch]

@[simp] theorem canonical_jMirror (e : BitVec 512) : Canonical (jMirror e s) = true := by
  grind [jMirror, canonical_twySend, canonical_mk, canonical_iff]

@[simp] theorem canonical_jPut (mk : Nat → BitVec 512) : Canonical (jPut mk s) = true := by
  grind [jPut, canonical_jMirror, canonical_set64, canonical_mk, canonical_iff]

@[simp] theorem canonical_jMoved (e : BitVec 512) (lsn : Nat) : Canonical (jMoved e lsn s) = true := by
  grind [jMoved, canonical_putBatch]

@[simp] theorem canonical_jReclaim : Canonical (jReclaim s) = true := by
  unfold jReclaim
  dsimp only
  split
  · exact hs
  · have h1 : Canonical { s with hbl := { s.hbl with oldest := s.hbl.oldest + 1 } } = true :=
      (canonical_mk ..).mpr (canonical_iff.mp hs)
    split
    · exact h1
    · exact canonical_ite (canonical_jMoved (canonical_jPut h1 _) _ _) h1 _

@[simp] theorem canonical_jRoom (n : Nat) : Canonical (jRoom n s) = true := by
  induction n generalizing s with
  | zero => exact hs
  | succ n ih =>
    rw [jRoom]
    exact canonical_ite hs (ih (canonical_jReclaim hs)) _

@[simp] theorem canonical_jAppend (queue kind count opnd : Nat) (body : List (Nat × Nat × Nat)) :
    Canonical (jAppend queue kind count opnd body s) = true := by
  unfold jAppend
  dsimp only
  exact canonical_jPut (canonical_jRoom hs areaSize) _

end

end Sys2Proof.Machine

end


section
/-! PROOF (O4). The canonical form is kept: the Reef and LPDDR. -/

namespace Sys2Proof.Machine

section
variable {s : State} (hs : Canonical s = true)
include hs

/-! #### Machine/Carve -/

@[simp] theorem canonical_openSeg : Canonical (openSeg s).2 = true := by grind [openSeg, canonical_draw]

@[simp] theorem canonical_recSpoil (k : Nat) (v : BitVec 256) : Canonical (recSpoil k v s) = true := by
  grind [recSpoil, canonical_mk, canonical_iff]

@[simp] theorem canonical_carveSpoil (ra : Nat) (d : Sector) : Canonical (carveSpoil ra d s) = true := by
  grind [carveSpoil, canonical_recSpoil, canonical_openSeg, canonical_foldl, canonical_mk, canonical_iff]

/-! #### Machine/Refresh -/

@[simp] theorem canonical_showBand (c b : Nat) : Canonical (showBand c b s) = true := by
  grind [showBand, canonical_setF, canonical_policyOverride]

@[simp] theorem canonical_noteCool (c : Nat) : Canonical (noteCool c s) = true := by simp [noteCool, hs]

@[simp] theorem canonical_refreshUpdate (c : Nat) : Canonical (refreshUpdate c s) = true := by
  grind [refreshUpdate, canonical_noteCool, canonical_showBand, canonical_clampEnd, canonical_mk, canonical_iff]

@[simp] theorem canonical_refreshOp (c : Nat) (waited : Nat) : Canonical (refreshOp c waited s) = true := by
  simp [refreshOp, hs]

@[simp] theorem canonical_bandStepDown (c : Nat) : Canonical (bandStepDown c s) = true := by
  grind [bandStepDown, canonical_noteCool, canonical_showBand]

@[simp] theorem canonical_refreshClampWindow (c : Nat) : Canonical (refreshClampWindow c s) = true := by
  simp [refreshClampWindow, hs]

/-! #### Machine/Reef -/

@[simp] theorem canonical_decodeSec (r : ReefSec) : Canonical (decodeSec r s).2 = true := by grind [decodeSec, canonical_draw]

@[simp] theorem canonical_reefUe (tile so addr : Nat) (r : ReefSec) (d : Sector) (asid : Nat) :
    Canonical (reefUe tile so addr r d asid s) = true := by
  grind [reefUe, canonical_carveSpoil, canonical_setSec, canonical_setReg, canonical_setF, canonical_bump, canonical_post]

@[simp] theorem canonical_readSec (tile so addr upset asid : Nat) : Canonical (readSec tile so addr upset asid s).2 = true := by
  grind [readSec, canonical_decodeSec, canonical_bump, canonical_setSec, canonical_reefUe]

@[simp] theorem canonical_writeSec (tile so : Nat) (d : Sector) (tally : BitVec 32) (mark : BitVec 16) (poison : Bool) :
    Canonical (writeSec tile so d tally mark poison s) = true := by
  grind [writeSec, canonical_setSec, canonical_setF, canonical_mk, canonical_iff]

@[simp] theorem canonical_rmwSec (tile so addr upset asid : Nat) (mark : BitVec 16) (poison : Bool) (g : Sector → Sector) :
    Canonical (rmwSec tile so addr upset asid mark poison g s).2 = true := by
  grind [rmwSec, canonical_readSec, canonical_writeSec]

@[simp] theorem canonical_sliceReply (tile : Nat) (f : Flit) (op len : Nat) (last poison : Bool) (addr : Nat) (pay : Sector)
    (tally : BitVec 32) :
    Canonical (sliceReply tile f op len last poison addr pay tally s) = true := by
  simp [sliceReply, hs]

@[simp] theorem canonical_sliceError (tile : Nat) (f : Flit) (status : Nat) :
    Canonical (sliceError tile f status s) = true := by
  simp [sliceError, hs]

@[simp] theorem canonical_sliceRefuse (tile : Nat) (f : Flit) (status : Nat) :
    Canonical (sliceRefuse tile f status s) = true := by
  simp [sliceRefuse, hs]

@[simp] theorem canonical_takeAccess (tile : Nat) (f : Flit) : Canonical (takeAccess tile f s) = true := by
  grind [takeAccess, canonical_add64, canonical_adjMove, canonical_setInbox]

@[simp] theorem canonical_serveFlit (tile : Nat) (f : Flit) {g : Nat → State → State}
    (hg : ∀ so t, Canonical t = true → Canonical (g so t) = true) : Canonical (serveFlit tile f g s) = true := by
  grind [serveFlit, canonical_takeAccess, canonical_sliceRefuse]

@[simp] theorem canonical_reefRead (tile bank upset : Nat) : Canonical (reefRead tile bank upset s) = true := by
  unfold reefRead
  split
  · exact hs
  · exact canonical_serveFlit hs _ _ (fun so t ht =>
      canonical_foldl (fun u i hu => by grind [canonical_readSec, canonical_sliceReply]) ht)

@[simp] theorem canonical_reefWrite (tile bank : Nat) : Canonical (reefWrite tile bank s) = true := by
  unfold reefWrite
  split
  · exact hs
  · exact canonical_serveFlit hs _ _ (fun so t ht => by
      grind [canonical_sliceReply, canonical_writeSec, canonical_sliceError, canonical_post, canonical_bump])

@[simp] theorem canonical_reefAtomic (tile bank upset : Nat) : Canonical (reefAtomic tile bank upset s) = true := by
  unfold reefAtomic
  split
  · exact hs
  · exact canonical_serveFlit hs _ _ (fun so t ht => by
      grind [canonical_sliceReply, canonical_rmwSec, canonical_sliceError, canonical_post])

@[simp] theorem canonical_rowWeak (tile so : Nat) : Canonical (rowWeak tile so s) = true := by
  grind [rowWeak, canonical_post, canonical_mk, canonical_iff]

@[simp] theorem canonical_scrubTally (tile so : Nat) (r : ReefSec) : Canonical (scrubTally tile so r s) = true := by
  grind [scrubTally, canonical_setSec, canonical_bump, canonical_post]

@[simp] theorem canonical_scrubSec (tile so upset : Nat) : Canonical (scrubSec tile so upset s) = true := by
  grind [scrubSec, canonical_decodeSec, canonical_scrubTally, canonical_bump, canonical_carveSpoil, canonical_rowWeak,
    canonical_reefUe]

@[simp] theorem canonical_scrubSector (c upset : Nat) : Canonical (scrubSector c upset s) = true := by
  grind [scrubSector, canonical_scrubSec, canonical_bumpBy, canonical_mk, canonical_iff]

@[simp] theorem canonical_rowRemapDone (tile bank row : Nat) : Canonical (rowRemapDone tile bank row s) = true := by
  grind [rowRemapDone, canonical_post, canonical_bump, canonical_mk, canonical_iff]

@[simp] theorem canonical_scrubBurstStart (c : Nat) : Canonical (scrubBurstStart c s) = true := by simp [scrubBurstStart, hs]

@[simp] theorem canonical_burstDone (c : Nat) : Canonical (burstDone c s) = true := by simp [burstDone, hs]

@[simp] theorem canonical_bar4Note (o : Nat) : Canonical (bar4Note o s) = true := by simp [bar4Note, hs]

@[simp] theorem canonical_bar4Shut (o : Nat) : Canonical (bar4Shut o s) = true := by simp [bar4Shut, hs]

@[simp] theorem canonical_bar4Wake (ra n : Nat) : Canonical (bar4Wake ra n s) = true := by simp [bar4Wake, hs]

@[simp] theorem canonical_bar4Sectors (first count : Nat) : Canonical (bar4Sectors first count s).2 = true :=
  canonical_foldl_at Prod.snd (fun _ _ hb => by grind [canonical_readSec, canonical_post, canonical_bump]) hs

@[simp] theorem canonical_bar4Read (f : Func) (o n : Nat) : Canonical (bar4Read f o n s) = true := by
  grind [bar4Read, canonical_bar4Shut, canonical_bar4Note, canonical_bar4Sectors, canonical_bar4Wake, canonical_mk,
    canonical_iff]

@[simp] theorem canonical_bar4Sector (a lo : Nat) (bs : List Byte) (poison : Bool) :
    Canonical (bar4Sector a lo bs poison s) = true := by
  simp [bar4Sector, hs]

@[simp] theorem canonical_bar4Store (fuel a : Nat) (bs : List Byte) (poison : Bool) :
    Canonical (bar4Store fuel a bs poison s) = true := by
  induction fuel generalizing s a bs with
  | zero => exact hs
  | succ fuel ih => grind [bar4Store, canonical_bar4Sector]

@[simp] theorem canonical_bar4Write (f : Func) (o : Nat) (bs : List Byte) (poison : Bool) :
    Canonical (bar4Write f o bs poison s) = true := by
  grind [bar4Write, canonical_bar4Shut, canonical_bar4Note, canonical_bar4Store, canonical_bar4Wake]

@[simp] theorem canonical_rfbInjArm (v : BitVec 32) : Canonical (rfbInjArm v s) = true := by
  grind [rfbInjArm, canonical_writeFlds, canonical_post, canonical_setF, canonical_mk, canonical_iff]

@[simp] theorem canonical_rfbClear : Canonical (rfbClear s) = true := by simp [rfbClear, hs]

/-! #### Machine/Lpddr -/

@[simp] theorem canonical_setKeyEntry (k sel : Nat) (valid : Bool) : Canonical (setKeyEntry k sel valid s) = true := by
  simp [setKeyEntry, hs]

@[simp] theorem canonical_lpTouch (d : Nat) : Canonical (lpTouch d s) = true := by simp [lpTouch, hs]

@[simp] theorem canonical_lpDecode (r : LpSec) : Canonical (lpDecode r s).2 = true := by grind [lpDecode, canonical_draw]

@[simp] theorem canonical_lpCorrected (n : Nat) : Canonical (lpCorrected n s) = true := by simp [lpCorrected, hs]

@[simp] theorem canonical_lpUe (d mark : Nat) (r : LpSec) (x : Sector) (t : BitVec 32) :
    Canonical (lpUe d mark r x t s) = true := by
  grind [lpUe, canonical_lpPut, canonical_set64, canonical_post]

@[simp] theorem canonical_lpTally (d mark : Nat) (r : LpSec) : Canonical (lpTally d mark r s) = true := by
  grind [lpTally, canonical_post, canonical_bump, canonical_lpPut]

@[simp] theorem canonical_lpRefuse (d mark status : Nat) : Canonical (lpRefuse d mark status s) = true := by simp [lpRefuse, hs]

@[simp] theorem canonical_lpRead (d mark upset : Nat) : Canonical (lpRead d mark upset s).2 = true := by
  grind [lpRead, canonical_lpDecode, canonical_lpTouch, canonical_lpUe, canonical_lpTally, canonical_lpCorrected,
    canonical_lpPut]

@[simp] theorem canonical_lpWrite (d : Nat) (x : Sector) (t : BitVec 32) (poison : Bool) :
    Canonical (lpWrite d x t poison s) = true := by
  simp [lpWrite, hs]

@[simp] theorem canonical_lpUpdate (d mark upset : Nat) (poison : Bool) (g : Sector → Sector) :
    Canonical (lpUpdate d mark upset poison g s).2 = true := by
  grind [lpUpdate, canonical_lpRead, canonical_lpWrite]

@[simp] theorem canonical_showChannels : Canonical (showChannels s) = true := by simp [showChannels, hs]

@[simp] theorem canonical_selfRefreshOn : Canonical (selfRefreshOn s) = true := by
  grind [selfRefreshOn, canonical_showChannels, canonical_mk, canonical_iff]

@[simp] theorem canonical_selfRefreshOff : Canonical (selfRefreshOff s) = true := by simp [selfRefreshOff, hs]

@[simp] theorem canonical_setMemQueue (m : Nat) (l : List MemReq) : Canonical (setMemQueue m l s) = true := by
  simp [setMemQueue, hs]

@[simp] theorem canonical_memEnqueue (t a : Nat) (f : Flit) : Canonical (memEnqueue t a f s) = true := by
  grind [memEnqueue, canonical_setMemQueue, canonical_foldl]

@[simp] theorem canonical_memReply (q : MemReq) (op : Nat) (poison : Bool) (pay : Sector) (tally : BitVec 32) :
    Canonical (memReply q op poison pay tally s) = true := by
  simp [memReply, hs]

@[simp] theorem canonical_memDo (upset : Nat) (q : MemReq) : Canonical (memDo upset q s) = true := by
  grind [memDo, canonical_lpRead, canonical_memReply, canonical_lpWrite, canonical_post, canonical_bump, canonical_lpUpdate]

@[simp] theorem canonical_memComplete (upset : Nat) (q : MemReq) : Canonical (memComplete upset q s) = true := by
  grind [memComplete, canonical_setMemQueue, canonical_memReply, canonical_lpRefuse, canonical_memDo, canonical_foldl]

@[simp] theorem canonical_memTaken (m : Nat) (r : QReq) (q : MemReq) : Canonical (memTaken m r q s) = true := by
  grind [memTaken, canonical_qosPick, canonical_takeTokens, canonical_countMiss, canonical_setMemQueue]

@[simp] theorem canonical_memServe (m : Nat) (want : Nat → Bool) (upset : Nat) :
    Canonical (memServe m want upset s) = true := by
  grind [memServe, canonical_memComplete, canonical_memTaken]

@[simp] theorem canonical_memRead (m upset : Nat) : Canonical (memRead m upset s) = true := by simp [memRead, hs]

@[simp] theorem canonical_memWrite (m upset : Nat) : Canonical (memWrite m upset s) = true := by simp [memWrite, hs]

@[simp] theorem canonical_rotDone (slot : Nat) : Canonical (rotDone slot s) = true := by
  grind [rotDone, canonical_post, canonical_setF, canonical_mk, canonical_iff]

@[simp] theorem canonical_rotLess (k slot : Nat) : Canonical (rotLess k slot s) = true := by
  grind [rotLess, canonical_setF, canonical_rotDone, canonical_mk, canonical_iff]

@[simp] theorem canonical_rotationStart (slot : Nat) : Canonical (rotationStart slot s) = true := by
  unfold rotationStart
  dsimp only
  generalize List.filter _ (List.range 5464) = ks
  have h1 := canonical_setF hs F.MEM_ROTSTAT.CURGEN slot (1 - curGen s slot)
  generalize setF F.MEM_ROTSTAT.CURGEN slot (1 - curGen s slot) s = s1 at *
  have h2 := canonical_setF (canonical_of_stores (t := { s1 with mem := { s1.mem with rot := s1.mem.rot ++ ks } }) h1 rfl rfl rfl)
    F.MEM_ROTSTAT.PENDING slot ks.length
  exact canonical_ite (canonical_rotDone h2 slot) h2 _

@[simp] theorem canonical_showFilling : Canonical (showFilling s) = true := by simp [showFilling, hs]

omit hs in
theorem canonical_keymapEntry {p : State × Bool} (hp : Canonical p.1 = true) (k sel : Nat) (valid : Bool) :
    Canonical (keymapEntry k sel valid p).1 = true := by
  simp only [keymapEntry]
  (repeat' split) <;> grind [canonical_setKeyEntry, canonical_showFilling, canonical_rotLess, canonical_mk, canonical_iff]

theorem canonical_keymapEntries (i : Nat) (v : BitVec 32) (n : Nat) : Canonical (keymapEntries i v n s).1 = true := by
  induction n with
  | zero => exact hs
  | succ n ih =>
    rw [keymapEntries_succ]
    exact canonical_keymapEntry ih _ _ _

omit hs in
theorem memKeymapWrite_eq {i : Nat} {v : BitVec 32} {u : State} {r : Bool} (h : keymapEntries i v 4 s = (u, r)) :
    memKeymapWrite i v s = if r then post { code := Ev.REG_RSVD } u else u := by
  refine (congrFun (congrFun (congrFun memKeymapWrite_def i) v) s).trans ?_
  rw [keymapEntries] at h
  generalize List.foldl _ _ _ = x at h ⊢
  subst h
  rfl

@[simp] theorem canonical_memKeymapWrite (i : Nat) (v : BitVec 32) : Canonical (memKeymapWrite i v s) = true := by
  have h := canonical_keymapEntries hs i v 4
  rcases hp : keymapEntries i v 4 s with ⟨u, r⟩
  rw [hp] at h
  rw [memKeymapWrite_eq hp]
  split
  · exact canonical_post h _
  · exact h

@[simp] theorem canonical_memZeroFillDone (k : Nat) : Canonical (memZeroFillDone k s) = true := by
  unfold memZeroFillDone
  split
  · exact canonical_showFilling ((canonical_mk ..).mpr ⟨mapWf_regs_of_canonical hs, mapWf_reef_of_canonical hs,
      mapSorted_filter _ (mapSorted_mem_of_canonical hs)⟩)
  · exact hs

@[simp] theorem canonical_memRotationRegionDone (k : Nat) : Canonical (memRotationRegionDone k s) = true := by
  unfold memRotationRegionDone
  split
  · exact canonical_rotLess ((canonical_mk ..).mpr ⟨mapWf_regs_of_canonical hs, mapWf_reef_of_canonical hs,
      mapSorted_filter _ (mapSorted_map_of_keys (fun e => by split <;> rfl) (mapSorted_mem_of_canonical hs))⟩) _ _
  · exact hs

@[simp] theorem canonical_memCfgWrite (rate : Nat) : Canonical (memCfgWrite rate s) = true := by simp [memCfgWrite, hs]

@[simp] theorem canonical_memTrainDone (density : Nat) (ranks2 differ : Bool) (failed : Option (ChanId × Fin 7)) :
    Canonical (memTrainDone density ranks2 differ failed s) = true := by
  unfold memTrainDone
  dsimp only
  (repeat' split) <;> grind [canonical_fatal, canonical_setF, canonical_selfRefreshOff, canonical_mk, canonical_iff]

@[simp] theorem canonical_setPause (n kind : Nat) : Canonical (setPause n kind s) = true := by simp [setPause, hs]

@[simp] theorem canonical_slackRetrain : Canonical (slackRetrain s) = true := by
  grind [slackRetrain, canonical_setPause, canonical_selfRefreshOff, canonical_foldl, canonical_mk, canonical_iff]

@[simp] theorem canonical_memOscCheck (n drift : Nat) : Canonical (memOscCheck n drift s) = true := by simp [memOscCheck, hs]

@[simp] theorem canonical_memRecentreDone (n : Nat) : Canonical (memRecentreDone n s) = true := by simp [memRecentreDone, hs]

@[simp] theorem canonical_memCeWindow (n : Nat) : Canonical (memCeWindow n s) = true := by
  grind [memCeWindow, canonical_post, canonical_bump, canonical_setPause, canonical_mk, canonical_iff]

@[simp] theorem canonical_memRetrainDone (n : Nat) (ok : Bool) : Canonical (memRetrainDone n ok s) = true := by
  grind [memRetrainDone, canonical_setPause, canonical_fatal]

@[simp] theorem canonical_memMr4Read (n code : Nat) (fast hot : Bool) : Canonical (memMr4Read n code fast hot s) = true := by
  grind [memMr4Read, canonical_setF, canonical_post, canonical_oversubUpdate, canonical_mk, canonical_iff]

@[simp] theorem canonical_memRefresh (n : Nat) (postpone : Bool) : Canonical (memRefresh n postpone s) = true := by
  simp [memRefresh, hs]

@[simp] theorem canonical_lpScrub (d upset : Nat) : Canonical (lpScrub d upset s) = true := by
  grind [lpScrub, canonical_lpDecode, canonical_lpTouch, canonical_lpPut, canonical_lpTally, canonical_lpUe,
    canonical_lpCorrected, canonical_post]

@[simp] theorem canonical_memScrubStripe (n j upset : Nat) : Canonical (memScrubStripe n j upset s) = true := by
  grind [memScrubStripe, canonical_lpScrub, canonical_foldl, canonical_mk, canonical_iff]

@[simp] theorem canonical_memClear : Canonical (memClear s) = true := by
  unfold memClear
  refine canonical_foldl (fun t x ht => ?_) hs
  simp [ht]

end

end Sys2Proof.Machine

end


section
/-! PROOF (O4). The canonical form is kept: translation and local memory. -/

namespace Sys2Proof.Machine

section
variable {s : State} (hs : Canonical s = true)
include hs

/-! #### Machine/Xlt -/

@[simp] theorem canonical_setCtx (asid : Nat) (c : Ctx) : Canonical (setCtx asid c s) = true := by simp [setCtx, hs]

@[simp] theorem canonical_setSeg (asid n : Nat) (g : Seg) : Canonical (setSeg asid n g s) = true := by simp [setSeg, hs]

@[simp] theorem canonical_dropCaches (asid : Nat) : Canonical (dropCaches asid s) = true := by simp [dropCaches, hs]

@[simp] theorem canonical_dropGot (asid : Nat) : Canonical (dropGot asid s) = true := by simp [dropGot, hs]

@[simp] theorem canonical_invStart (asid : Nat) (who : InvBy) : Canonical (invStart asid who s) = true := by
  grind [invStart, canonical_dropGot, canonical_dropCaches, canonical_setCtx, canonical_setF, canonical_mk, canonical_iff]

@[simp] theorem canonical_invFinish : Canonical (invFinish s) = true := by
  grind [invFinish, canonical_setF, canonical_setCtx, canonical_hostSend, canonical_mk, canonical_iff]

@[simp] theorem canonical_invComplete : Canonical (invComplete s) = true := by grind [invComplete, canonical_invFinish]

@[simp] theorem canonical_xltInv (asid : Nat) : Canonical (xltInv asid s) = true := by simp [xltInv, hs]

@[simp] theorem canonical_atsInvalidate (f : Nat) (pasid : Option Nat) (itag : Nat) :
    Canonical (atsInvalidate f pasid itag s) = true := by
  grind [atsInvalidate, canonical_hostSend, canonical_invStart, canonical_foldl]

@[simp] theorem canonical_xltBind (asid : Nat) : Canonical (xltBind asid s) = true := by
  grind [xltBind, canonical_setF, canonical_draw, canonical_setCtx]

@[simp] theorem canonical_xltCtxRead (asid : Nat) : Canonical (xltCtxRead asid s) = true := by
  grind [xltCtxRead, canonical_setF, canonical_setReg]

@[simp] theorem canonical_xltUnbind (asid : Nat) : Canonical (xltUnbind asid s) = true := by
  grind [xltUnbind, canonical_setF, canonical_invStart]

@[simp] theorem canonical_xltSegWrite (asid n : Nat) : Canonical (xltSegWrite asid n s) = true := by
  grind [xltSegWrite, canonical_setF, canonical_invStart, canonical_setSeg]

@[simp] theorem canonical_xltSegRead (asid n : Nat) : Canonical (xltSegRead asid n s) = true := by
  grind [xltSegRead, canonical_set64, canonical_setF, canonical_setReg]

@[simp] theorem canonical_xltSegClear (asid n : Nat) : Canonical (xltSegClear asid n s) = true := by
  grind [xltSegClear, canonical_setF, canonical_invStart, canonical_setSeg]

@[simp] theorem canonical_xltClear : Canonical (xltClear s) = true := by simp [xltClear, hs]

@[simp] theorem canonical_fillL1 (e : Nat) (x : XEnt) : Canonical (fillL1 e x s) = true := by simp [fillL1, hs]

@[simp] theorem canonical_fillL2 (h : Nat) (x : XEnt) : Canonical (fillL2 h x s) = true := by simp [fillL2, hs]

@[simp] theorem canonical_segMiss (h asid : Nat) : Canonical (segMiss h asid s) = true := by
  grind [segMiss, canonical_fillL2, canonical_bump, canonical_foldl]

@[simp] theorem canonical_segL2 (h asid n : Nat) : Canonical (segL2 h asid n s) = true := by
  grind [segL2, canonical_fillL2, canonical_segMiss]

@[simp] theorem canonical_segLookup (e asid n : Nat) : Canonical (segLookup e asid n s) = true := by
  grind [segLookup, canonical_fillL1, canonical_segL2, canonical_bump]

@[simp] theorem canonical_pageLookup (e asid p acc : Nat) : Canonical (pageLookup e asid p acc s).2 = true := by
  grind [pageLookup, canonical_fillL1, canonical_bump, canonical_fillL2]

@[simp] theorem canonical_xltReach (e asid va bytes acc : Nat) : Canonical (xltReach e asid va bytes acc s).2 = true := by
  grind [xltReach, canonical_segMiss, canonical_bump, canonical_segLookup]

@[simp] theorem canonical_xltPages (fuel e asid ks va bytes perm : Nat) (got : List Got) (acc : List Extent) :
    Canonical (xltPages fuel e asid ks va bytes perm got acc s).2 = true := by
  induction fuel generalizing s va bytes acc with
  | zero => exact hs
  | succ fuel ih =>
    simp only [xltPages]
    (repeat' split) <;> grind [canonical_pageLookup]

@[simp] theorem canonical_xlate (e asid va bytes acc : Nat) (got : List Got) :
    Canonical (xlate e asid va bytes acc got s).2 = true := by
  grind [xlate, canonical_xltReach, canonical_xltPages]

@[simp] theorem canonical_sendAts (w : AtsWait) : Canonical (sendAts w s) = true := by
  grind [sendAts, canonical_hostSend, canonical_bump, canonical_mk, canonical_iff]

@[simp] theorem canonical_atsRequest (what : XFor) (q e asid pg acc : Nat) (noWrite : Bool) (job : Nat × Nat) :
    Canonical (atsRequest what q e asid pg acc noWrite job s) = true := by
  simp [atsRequest, hs]

@[simp] theorem canonical_sendPri (w : AtsWait) : Canonical (sendPri w s) = true := by
  grind [sendPri, canonical_hostSend, canonical_bump, canonical_mk, canonical_iff]

@[simp] theorem canonical_dropWaits (mine : AtsWait → Bool) : Canonical (dropWaits mine s) = true := by simp [dropWaits, hs]

@[simp] theorem canonical_inboundPlace (d a len acc half : Nat) : Canonical (inboundPlace d a len acc half s).2 = true := by
  grind [inboundPlace, canonical_segMiss, canonical_segL2]

/-! #### Machine/LocMem -/

@[simp] theorem canonical_reefNote (status mark a : Nat) : Canonical (reefNote status mark a s) = true := by simp [reefNote, hs]

@[simp] theorem canonical_locRead (a ks mark asid : Nat) : Canonical (locRead a ks mark asid s).2 = true := by
  grind [locRead, canonical_lpRefuse, canonical_lpRead, canonical_reefNote, canonical_readSec]

@[simp] theorem canonical_locWrite (a ks mark : Nat) (d : Sector) (t : BitVec 32) (poison : Bool) :
    Canonical (locWrite a ks mark d t poison s).2 = true := by
  grind [locWrite, canonical_lpRefuse, canonical_lpWrite, canonical_post, canonical_bump, canonical_reefNote,
    canonical_writeSec]

@[simp] theorem canonical_placeOf (x : Extent) (acc : Nat) : Canonical (placeOf x acc s).2 = true := by
  grind [placeOf, canonical_inboundPlace]

@[simp] theorem canonical_openSector (x : Extent) : Canonical (openSector x s) = true := by
  grind [openSector, canonical_placeOf, canonical_draw, canonical_lpPut, canonical_setSec]

@[simp] theorem canonical_openDest (b : Batch) (i : Inst) : Canonical (openDest b i s) = true := by
  unfold openDest
  refine canonical_foldl (fun t x ht => ?_) hs
  simp [ht]

end

end Sys2Proof.Machine

end


section
/-! PROOF (O4). The canonical form is kept: queues, engines and their accesses. -/

namespace Sys2Proof.Machine

section
variable {s : State} (hs : Canonical s = true)
include hs

/-! #### Machine/TideQ -/

@[simp] theorem canonical_queueIrq (q : Nat) : Canonical (queueIrq q s) = true := by simp [queueIrq, hs]

@[simp] theorem canonical_modBatch (q first : Nat) (f : Batch → Batch) : Canonical (modBatch q first f s) = true := by
  simp [modBatch, hs]

@[simp] theorem canonical_dropFetch (q : Nat) : Canonical (dropFetch q s) = true := by
  grind [dropFetch, canonical_dropWaits, canonical_setQueue, canonical_mk, canonical_iff]

@[simp] theorem canonical_afterBatch (q err : Nat) : Canonical (afterBatch q err s) = true := by
  grind [afterBatch, canonical_dropFetch, canonical_setQueue]

@[simp] theorem canonical_retireBatch (q : Nat) (b : Batch) : Canonical (retireBatch q b s) = true := by
  grind [retireBatch, canonical_jAppend, canonical_afterBatch, canonical_setQueue]

@[simp] theorem canonical_recWritten (q : Nat) (r : CRec) (h : HostReq) : Canonical (recWritten q r h s) = true := by
  grind [recWritten, canonical_putBatch, canonical_retireBatch]

@[simp] theorem canonical_putRec (q : Nat) (r : CRec) : Canonical (putRec q r s) = true := by
  grind [putRec, canonical_hostSend, canonical_setQueue, canonical_recWritten, canonical_queueIrq]

@[simp] theorem canonical_sendRec (q : Nat) (r : CRec) : Canonical (sendRec q r s) = true := by simp [sendRec, hs]

@[simp] theorem canonical_flushRecs (fuel q : Nat) : Canonical (flushRecs fuel q s) = true := by
  induction fuel generalizing s with
  | zero => exact hs
  | succ fuel ih =>
    simp only [flushRecs]
    (repeat' split) <;> grind [canonical_putRec, canonical_setQueue]

@[simp] theorem canonical_emitOne (q : Nat) : Canonical (emitOne q s).2 = true := by
  grind [emitOne, canonical_putBatch, canonical_sendRec]

@[simp] theorem canonical_emitLoop (fuel q : Nat) : Canonical (emitLoop fuel q s) = true := by
  induction fuel generalizing s with
  | zero => exact hs
  | succ fuel ih =>
    simp only [emitLoop]
    split <;> grind [canonical_emitOne]

@[simp] theorem canonical_settle (q : Nat) : Canonical (settle q s) = true := by simp [settle, hs]

@[simp] theorem canonical_cancelWaiting (id : Nat) : Canonical (cancelWaiting id s) = true := by simp [cancelWaiting, hs]

@[simp] theorem canonical_killLaunch (id : Nat) : Canonical (killLaunch id s) = true := by simp [killLaunch, hs]

@[simp] theorem canonical_dropReads (q asn dseq : Nat) : Canonical (dropReads q asn dseq s) = true := by simp [dropReads, hs]

@[simp] theorem canonical_jCommit (q : Nat) (b : Batch) (k dseq st : Nat) (last : Bool) :
    Canonical (jCommit q b k dseq st last s) = true := by
  simp [jCommit, hs]

@[simp] theorem canonical_failInst (q first dseq st : Nat) (endB : Bool) :
    Canonical (failInst q first dseq st endB s) = true := by
  grind [failInst, canonical_jCommit, canonical_killLaunch, canonical_openDest, canonical_dropReads, canonical_settle,
    canonical_modBatch]

@[simp] theorem canonical_endInst (q first dseq st : Nat) (endB : Bool) :
    Canonical (endInst q first dseq st endB s) = true := by
  grind [endInst, canonical_putInst, canonical_killLaunch, canonical_settle, canonical_modBatch, canonical_failInst]

@[simp] theorem canonical_failDispatch (q : Nat) (b : Batch) (st : Nat) : Canonical (failDispatch q b st s) = true := by
  grind [failDispatch, canonical_jCommit, canonical_settle, canonical_modBatch]

@[simp] theorem canonical_jOutcome (q : Nat) (b : Batch) (taken : Bool) : Canonical (jOutcome q b taken s) = true := by
  simp [jOutcome, hs]

@[simp] theorem canonical_waitTry (q : Nat) : Canonical (waitTry q s).2 = true := by
  grind [waitTry, canonical_jOutcome, canonical_settle, canonical_modBatch]

@[simp] theorem canonical_counterWrite (i v : Nat) : Canonical (counterWrite i v s).2 = true := by
  have h := canonical_shlWatchFire (canonical_set64 hs .TQ_CNT_LO .TQ_CNT_HI i v) i v
  unfold counterWrite
  generalize shlWatchFire i v (set64 .TQ_CNT_LO .TQ_CNT_HI i v s) = s1 at *
  refine canonical_foldl_at Prod.snd (fun p q hp => ?_) h
  have := canonical_waitTry hp q
  split <;> grind

@[simp] theorem canonical_signalLoop (fuel : Nat) (l : List Nat) : Canonical (signalLoop fuel l s) = true := by
  induction fuel generalizing s l with
  | zero => exact hs
  | succ fuel ih =>
    cases l with
    | nil => exact hs
    | cons i rest =>
      simp only [signalLoop]
      exact ih (canonical_counterWrite hs i _) _

@[simp] theorem canonical_counterSet (i v : Nat) : Canonical (counterSet i v s) = true := by simp [counterSet, hs]

@[simp] theorem canonical_counterAdd (i v : Nat) : Canonical (counterAdd i v s) = true := by simp [counterAdd, hs]

@[simp] theorem canonical_refuseBatch (q st k opnd : Nat) : Canonical (refuseBatch q st k opnd s) = true := by
  grind [refuseBatch, canonical_dropFetch, canonical_setQueue, canonical_bump, canonical_post, canonical_sendRec]

@[simp] theorem canonical_fetchReads (fuel q pos left : Nat) : Canonical (fetchReads fuel q pos left s) = true := by
  induction fuel generalizing s pos left with
  | zero => exact hs
  | succ fuel ih =>
    simp only [fetchReads]
    split
    · exact hs
    · exact ih (canonical_hostDma ((canonical_mk ..).mpr (canonical_iff.mp hs)) _ _ _) _ _

@[simp] theorem canonical_startFetch (q : Nat) : Canonical (startFetch q s) = true := by
  grind [startFetch, canonical_refuseBatch, canonical_setQueue, canonical_fetchReads]

@[simp] theorem canonical_jExt (q asn : Nat) (o : Opnd) (g : List Extent) : Canonical (jExt q asn o g s) = true := by
  simp [jExt, hs]

@[simp] theorem canonical_jCmd (q asn gen : Nat) (c : TCmd) : Canonical (jCmd q asn gen c s) = true := by
  grind [jCmd, canonical_jAppend, canonical_jExt, canonical_foldl]

@[simp] theorem canonical_tryJournal (q : Nat) : Canonical (tryJournal q s) = true := by
  grind [tryJournal, canonical_bump, canonical_setQueue, canonical_jAppend, canonical_jCmd, canonical_foldl]

@[simp] theorem canonical_batchRun (fuel q : Nat) : Canonical (batchRun fuel q s) = true := by
  induction fuel generalizing s with
  | zero => exact hs
  | succ fuel ih =>
    simp only [batchRun]
    (repeat' split) <;>
      grind [canonical_tryJournal, canonical_refuseBatch, canonical_setQueue, canonical_xlate, canonical_atsRequest,
        canonical_sendPri]

@[simp] theorem canonical_batchGo (q : Nat) : Canonical (batchGo q s) = true := by grind [batchGo, canonical_batchRun]

@[simp] theorem canonical_unhold : Canonical (unhold s) = true := by
  unfold unhold
  refine canonical_foldl (fun t x ht => ?_) hs
  grind [canonical_tryJournal, canonical_mk, canonical_iff]

@[simp] theorem canonical_acceptBatch (q : Nat) : Canonical (acceptBatch q s) = true := by
  grind [acceptBatch, canonical_add64, canonical_setQueue, canonical_bump, canonical_startFetch, canonical_putRec]

@[simp] theorem canonical_abortBatch (q : Nat) (b : Batch) : Canonical (abortBatch q b s) = true := by
  grind [abortBatch, canonical_endInst, canonical_putBatch, canonical_foldl]

@[simp] theorem canonical_abortQueue (q cause : Nat) : Canonical (abortQueue q cause s) = true := by
  grind [abortQueue, canonical_jAppend, canonical_dropWaits, canonical_dropFetch, canonical_setQueue, canonical_abortBatch,
    canonical_unhold, canonical_settle, canonical_foldl]

@[simp] theorem canonical_doorbellOverflow (q : Nat) : Canonical (doorbellOverflow q s) = true := by
  grind [doorbellOverflow, canonical_dropFetch, canonical_setQueue, canonical_post, canonical_bump]

@[simp] theorem canonical_doorbell (q tail : Nat) : Canonical (doorbell q tail s) = true := by
  grind [doorbell, canonical_post, canonical_setQueue, canonical_doorbellOverflow, canonical_startFetch]

@[simp] theorem canonical_doorbellPage (f p : Nat) {k : Nat → State → State}
    (hk : ∀ q t, Canonical t = true → Canonical (k q t) = true) : Canonical (doorbellPage f p k s) = true := by
  grind [doorbellPage, canonical_post, canonical_bump]

@[simp] theorem canonical_cplHeadWrite (q v : Nat) : Canonical (cplHeadWrite q v s) = true := by
  grind [cplHeadWrite, canonical_setQueue, canonical_unhold, canonical_settle, canonical_flushRecs]

@[simp] theorem canonical_recHeadWrite (q v : Nat) : Canonical (recHeadWrite q v s) = true := by simp [recHeadWrite, hs]

@[simp] theorem canonical_resumeQueue (q : Nat) : Canonical (resumeQueue q s) = true := by
  grind [resumeQueue, canonical_startFetch, canonical_setQueue]

@[simp] theorem canonical_qErr (e : Nat) : Canonical (qErr e s) = true := by simp [qErr, hs]

@[simp] theorem canonical_queueCreate (q : Nat) : Canonical (queueCreate q s) = true := by
  grind [queueCreate, canonical_qErr, canonical_setQueue]

@[simp] theorem canonical_queueRead (q : Nat) : Canonical (queueRead q s) = true := by
  grind [queueRead, canonical_setReg, canonical_qErr, canonical_setF, canonical_foldl]

@[simp] theorem canonical_queueStart (q : Nat) : Canonical (queueStart q s) = true := by
  grind [queueStart, canonical_qErr, canonical_setQueue, canonical_doorbellOverflow, canonical_startFetch]

@[simp] theorem canonical_queueStop (q : Nat) : Canonical (queueStop q s) = true := by
  grind [queueStop, canonical_qErr, canonical_dropFetch, canonical_setQueue, canonical_unhold, canonical_afterBatch]

@[simp] theorem canonical_queueAbort (q : Nat) : Canonical (queueAbort q s) = true := by
  grind [queueAbort, canonical_qErr, canonical_abortQueue]

@[simp] theorem canonical_destroyQueue (q : Nat) : Canonical (destroyQueue q s) = true := by
  grind [destroyQueue, canonical_setQueue, canonical_dropFetch, canonical_mk, canonical_iff]

/-! #### Machine/TideRun -/

@[simp] theorem canonical_seqStep (op q : Nat) {f : TQueue → Batch → Cmd → State → State}
    (hf : ∀ x b c t, Canonical t = true → Canonical (f x b c t) = true) : Canonical (seqStep op q f s) = true := by
  grind [seqStep]

@[simp] theorem canonical_seqDone (q : Nat) (x : TQueue) (b : Batch) (pos : Nat) (g : Snap → Snap) :
    Canonical (seqDone q x b pos g s) = true := by
  grind [seqDone, canonical_settle, canonical_modBatch, canonical_counterAdd]

@[simp] theorem canonical_branchOn (q : Nat) (x : TQueue) (b : Batch) (c : Cmd) : Canonical (branchOn q x b c s) = true := by
  grind [branchOn, canonical_seqDone, canonical_modBatch, canonical_jOutcome]

@[simp] theorem canonical_waitEnd (q st : Nat) (b : Batch) : Canonical (waitEnd q st b s) = true := by
  grind [waitEnd, canonical_jOutcome, canonical_modBatch, canonical_failDispatch]

@[simp] theorem canonical_passOver (q : Nat) (b : Batch) : Canonical (passOver q b s) = true := by simp [passOver, hs]

@[simp] theorem canonical_waitOn (q : Nat) (x1 : TQueue) (b : Batch) (x3 : Cmd) : Canonical (waitOn q x1 b x3 s) = true := by
  grind [waitOn, canonical_passOver, canonical_waitEnd, canonical_seqDone, canonical_waitTry, canonical_modBatch,
    canonical_counterAdd]

@[simp] theorem canonical_waitTimeout (q : Nat) : Canonical (waitTimeout q s) = true := by
  grind [waitTimeout, canonical_waitEnd]

@[simp] theorem canonical_advisePage (q e asid acc : Nat) (pg : Nat) : Canonical (advisePage q e asid acc s pg) = true := by
  grind [advisePage, canonical_atsRequest, canonical_bump, canonical_fillL2]

@[simp] theorem canonical_advise (q e asid va bytes acc : Nat) : Canonical (advise q e asid va bytes acc s) = true := by
  grind [advise, canonical_advisePage, canonical_segL2, canonical_foldl]

@[simp] theorem canonical_dispatch (q : Nat) (b : Batch) (i : Inst) : Canonical (dispatch q b i s) = true := by
  simp [dispatch, hs]

@[simp] theorem canonical_counterCmd (q : Nat) (x1 : TQueue) (b : Batch) (x3 : Cmd) :
    Canonical (counterCmd q x1 b x3 s) = true := by
  simp [counterCmd, hs]

@[simp] theorem canonical_engineUrgent (e : Nat) (f : Flit) : Canonical (engineUrgent e f s) = true := by
  simp [engineUrgent, hs]

@[simp] theorem canonical_fenceOn (q : Nat) (x : TQueue) (b : Batch) (c : Cmd) : Canonical (fenceOn q x b c s) = true := by
  grind [fenceOn, canonical_seqDone, canonical_modBatch, canonical_engineUrgent, canonical_mk, canonical_iff]

@[simp] theorem canonical_fenceReport (q t : Nat) : Canonical (fenceReport q t s) = true := by
  grind [fenceReport, canonical_modBatch, canonical_seqDone, canonical_mk, canonical_iff]

@[simp] theorem canonical_takeTurn (e q : Nat) : Canonical (takeTurn e q s) = true := by simp [takeTurn, hs]

@[simp] theorem canonical_reTranslate (op e asid : Nat) (got : List Got) (os acc : List Opnd) (n : Nat) :
    Canonical (reTranslate op e asid got os acc n s).2 = true := by
  induction os generalizing s acc n with
  | nil => exact hs
  | cons o rest ih =>
    simp only [reTranslate]
    (repeat' split) <;> grind [canonical_xlate]

@[simp] theorem canonical_useTurn (e q n : Nat) : Canonical (useTurn e q n s) = true := by
  grind [useTurn, canonical_bumpBy, canonical_takeTurn, canonical_setQueue]

@[simp] theorem canonical_engineStep (op e : Nat) {f : Nat → TQueue → Batch → Cmd → List Opnd → State → State}
    (hf : ∀ q x b c l t, Canonical t = true → Canonical (f q x b c l t) = true) : Canonical (engineStep op e f s) = true := by
  simp only [engineStep]
  (repeat' split) <;>
    grind [canonical_passOver, canonical_reTranslate, canonical_failDispatch, canonical_useTurn,
      canonical_atsRequest, canonical_sendPri]

@[simp] theorem canonical_jCkpt (q : Nat) (b : Batch) (p : Snap) : Canonical (jCkpt q b p s) = true := by simp [jCkpt, hs]

/-- The journal's write stands as an unknown function, which keeps the kernel from running it. -/
@[simp] theorem canonical_stageInst (q first dseq st : Nat) : Canonical (stageInst q first dseq st s) = true := by
  obtain ⟨jc, hjc⟩ : ∃ jc, jc = jCommit q := ⟨_, rfl⟩
  have hj : ∀ b k l, Canonical (jc b k dseq st l s) = true := fun b k l => by rw [hjc]; exact canonical_jCommit hs q b k dseq st l
  rw [stageInst, ← hjc]
  split
  · exact hs
  · dsimp only
    split
    · exact canonical_modBatch (hj _ _ _) _ _ _
    · exact canonical_modBatch (canonical_jCkpt (canonical_modBatch (hj _ _ _) _ _ _) _ _ _) _ _ _

@[simp] theorem canonical_jDispatch (q : Nat) (b : Batch) (k : Nat) (d : DispRec) : Canonical (jDispatch q b k d s) = true := by
  simp [jDispatch, hs]

/-! #### Machine/Access -/

@[simp] theorem canonical_engRead (x : Extent) (mark inst asid : Nat) : Canonical (engRead x mark inst asid s).2 = true := by
  grind [engRead, canonical_placeOf, canonical_post, canonical_locRead, canonical_bump]

@[simp] theorem canonical_hostWrite (x : Extent) (share mark asid : Nat) (d : Sector) (t : BitVec 32) (poison : Bool) :
    Canonical (hostWrite x share mark asid d t poison s) = true := by
  grind [hostWrite, canonical_hostDma, canonical_bump]

@[simp] theorem canonical_engWrite (x : Extent) (share mark asid : Nat) (d : Sector) (t : BitVec 32) (poison : Bool) :
    Canonical (engWrite x share mark asid d t poison s).2 = true := by
  grind [engWrite, canonical_hostWrite, canonical_bump, canonical_placeOf, canonical_post, canonical_locWrite]

@[simp] theorem canonical_hostReads (fuel q mark asn dseq asid : Nat) (exts : List Extent) (off k left : Nat) :
    Canonical (hostReads fuel q mark asn dseq asid exts off k left s) = true := by
  induction fuel generalizing s k left with
  | zero => exact hs
  | succ fuel ih =>
    simp only [hostReads]
    split
    · exact hs
    split
    · exact hs
    · exact ih (canonical_hostDma ((canonical_mk ..).mpr (canonical_iff.mp hs)) _ _ _) _ _

@[simp] theorem canonical_whenReached (e : Nat) (xs : List (Nat × Extent)) (f : State → State)
    (hf : ∀ t, Canonical t = true → Canonical (f t) = true) :
    Canonical (whenReached e xs f s) = true := by
  grind [whenReached, canonical_askWake]

/-! #### Machine/Ferry -/

@[simp] theorem canonical_ferrySource (q : TQueue) (c : Cmd) (i : Inst) (k : Nat) :
    Canonical (ferrySource q c i k s).2 = true := by
  grind [ferrySource, canonical_engRead]

omit hs in
@[simp] theorem canonical_ferrySector (q : TQueue) (c : Cmd) (i : Inst) (noise : Option (Nat × BitVec 512)) {p : Mv × State}
    (hp : Canonical p.2 = true) (k : Nat) : Canonical (ferrySector q c i noise p k).2 = true := by
  unfold ferrySector
  dsimp only
  (repeat' split) <;> grind [canonical_ferrySource, canonical_engWrite]

@[simp] theorem canonical_piecePump (q first dseq k : Nat) : Canonical (piecePump q first dseq k s) = true := by
  unfold piecePump
  split
  · exact hs
  · dsimp only
    split
    · exact hs
    · refine canonical_whenReached hs _ _ _ (fun u hu => ?_)
      exact canonical_hostReads (canonical_putInst
        (canonical_foldl_at Prod.snd (fun p j hp => canonical_ferrySector _ _ _ _ hp j) (b := (_, u)) hu) _ _ _) _ _ _ _ _ _ _ _ _ _

@[simp] theorem canonical_ferryPump (q first dseq : Nat) : Canonical (ferryPump q first dseq s) = true := by
  grind [ferryPump, canonical_piecePump, canonical_foldl]

@[simp] theorem canonical_dealPieces (fuel q first dseq : Nat) : Canonical (dealPieces fuel q first dseq s) = true := by
  induction fuel generalizing s with
  | zero => exact hs
  | succ fuel ih =>
    simp only [dealPieces]
    (repeat' split) <;> grind [canonical_piecePump, canonical_putInst]

@[simp] theorem canonical_dealAll : Canonical (dealAll s) = true := by grind [dealAll, canonical_dealPieces, canonical_foldl]

@[simp] theorem canonical_ferryBegin (q : Nat) (b : Batch) (c : Cmd) (l : List Opnd) :
    Canonical (ferryBegin q b c l s) = true := by
  grind [ferryBegin, canonical_dispatch, canonical_piecePump, canonical_dealPieces]

@[simp] theorem canonical_ferryStart (q : Nat) (x1 : TQueue) (b : Batch) (c : Cmd) (l : List Opnd) :
    Canonical (ferryStart q x1 b c l s) = true := by
  simp [ferryStart, hs]

@[simp] theorem canonical_pieceFinish (x : TQueue) (c : Cmd) (i : Inst) (k : Nat) (noise : Option (Nat × BitVec 512)) :
    Canonical (pieceFinish x c i k noise s).2 = true :=
  canonical_foldl_at Prod.snd (fun _ j hp => canonical_ferrySector x c i noise hp j) hs

@[simp] theorem canonical_ferryPiece (q asn dseq k : Nat) (noise : Option (Nat × BitVec 512)) :
    Canonical (ferryPiece q asn dseq k noise s) = true := by
  grind [ferryPiece, canonical_piecePump, canonical_whenReached, canonical_pieceFinish, canonical_dealAll, canonical_putInst]

@[simp] theorem canonical_ferryFinish (x : TQueue) (c : Cmd) (i : Inst) (noise : Option (Nat × BitVec 512)) :
    Canonical (ferryFinish x c i noise s).2 = true := by
  grind [ferryFinish, canonical_pieceFinish]

@[simp] theorem canonical_transferStatus (q : Nat) (x : TQueue) (i : Inst) (m : Mv) :
    Canonical (transferStatus q x i m s).2 = true := by
  grind [transferStatus, canonical_post, canonical_bump]

end

end Sys2Proof.Machine

end


section
/-! PROOF (O4). The canonical form is kept: Bead cores and the Shoreline. -/

namespace Sys2Proof.Machine

section
variable {s : State} (hs : Canonical s = true)
include hs

/-! #### Machine/Bead -/

@[simp] theorem canonical_setCore (c : Nat) (k : Core) : Canonical (setCore c k s) = true := by simp [setCore, hs]

@[simp] theorem canonical_setPend (c : Nat) (l w : List KPend) : Canonical (setPend c l w s) = true := by simp [setPend, hs]

@[simp] theorem canonical_pendFill (fuel c : Nat) : Canonical (pendFill fuel c s) = true := by
  induction fuel generalizing s with
  | zero => exact hs
  | succ fuel ih =>
    simp only [pendFill]
    (repeat' split) <;> grind [canonical_setPend]

@[simp] theorem canonical_pendSend (c : Nat) (j : KPend) : Canonical (pendSend c j s) = true := by simp [pendSend, hs]

@[simp] theorem canonical_pendTake (c : Nat) (j : KPend) : Canonical (pendTake c j s) = true := by
  grind [pendTake, canonical_setPend, canonical_pendFill]

@[simp] theorem canonical_modLaunch (j : KPend) (f : Launch → Launch) : Canonical (modLaunch j f s) = true := by
  grind [modLaunch, canonical_putInst]

@[simp] theorem canonical_placeLoop (e : Nat) (clamp isOver : Bool) : Canonical (placeLoop e clamp isOver s) = true := by
  grind [placeLoop, canonical_clampSet, canonical_policyOverride, canonical_mk, canonical_iff]

@[simp] theorem canonical_stagePick : Canonical (stagePick s).2 = true := by simp [stagePick, hs]

@[simp] theorem canonical_stageCopy (x : TQueue) (i : Inst) (out : Bool) (p : Nat × Nat) :
    Canonical (stageCopy x i out p s) = true := by
  unfold stageCopy
  split
  · exact hs
  · refine canonical_foldl (fun u k hu => ?_) hs
    dsimp only
    (repeat' split) <;> grind [canonical_engRead, canonical_engWrite]

@[simp] theorem canonical_stageIn (q : Nat) (x : TQueue) (first : Nat) (i : Inst) :
    Canonical (stageIn q x first i s) = true := by
  grind [stageIn, canonical_whenReached, canonical_stageCopy, canonical_putInst, canonical_foldl]

@[simp] theorem canonical_nextLaunch (e : Nat) : Canonical (nextLaunch e s).2 = true := by simp [nextLaunch, hs]

@[simp] theorem canonical_sendLaunch (q : Nat) (b : Batch) (i : Inst) (device : Bool) (l : Launch) :
    Canonical (sendLaunch q b i device l s) = true := by
  unfold sendLaunch
  refine canonical_foldl (fun t x ht => ?_) hs
  simp [ht]

@[simp] theorem canonical_launchKernel (q : Nat) (x : TQueue) (b : Batch) (i : Inst) (e : Nat) (l0 : Launch) :
    Canonical (launchKernel q x b i e l0 s) = true := by
  grind [launchKernel, canonical_placeLoop, canonical_putInst, canonical_nextLaunch, canonical_sendLaunch, canonical_stageIn]

@[simp] theorem canonical_kcallBegin (e q : Nat) (x : TQueue) (b : Batch) (c : Cmd) (l : List Opnd) (stages : List (Nat × Nat))
    :
    Canonical (kcallBegin e q x b c l stages s) = true := by
  grind [kcallBegin, canonical_dispatch, canonical_hostReads, canonical_launchKernel]

@[simp] theorem canonical_kcallStart (e q : Nat) (x : TQueue) (b : Batch) (c : Cmd) (l : List Opnd) :
    Canonical (kcallStart e q x b c l s) = true := by
  grind [kcallStart, canonical_kcallBegin, canonical_stagePick]

@[simp] theorem canonical_sendAborts (id : Nat) (core : Option Nat) : Canonical (sendAborts id core s) = true := by
  grind [sendAborts, canonical_engineUrgent, canonical_cancelWaiting, canonical_foldl]

@[simp] theorem canonical_imageSector (q asn dseq k : Nat) : Canonical (imageSector q asn dseq k s) = true := by
  unfold imageSector
  dsimp only
  split
  · exact hs
  split
  · split
    · exact hs
    · refine canonical_whenReached hs _ _ _ (fun u hu => ?_)
      (repeat' split) <;> grind [canonical_engRead, canonical_sendAborts, canonical_putInst, canonical_mk, canonical_iff]
  · exact hs

@[simp] theorem canonical_entryParam (b : Batch) (i : Inst) (j : KPend) : Canonical (entryParam b i j s).2 = true := by
  grind [entryParam, canonical_draw]

@[simp] theorem canonical_instanceStart (c : Nat) : Canonical (instanceStart c s) = true := by
  grind [instanceStart, canonical_stageIn, canonical_entryParam, canonical_pendTake, canonical_add64, canonical_setCore]

@[simp] theorem canonical_endInstance (c : Nat) : Canonical (endInstance c s) = true := by simp [endInstance, hs]

@[simp] theorem canonical_takeExc (c cause : Nat) (late : Bool) (pc addr sub : Nat) :
    Canonical (takeExc c cause late pc addr sub s) = true := by
  grind [takeExc, canonical_endInstance, canonical_mk, canonical_iff]

@[simp] theorem canonical_instanceAbort (c : Nat) : Canonical (instanceAbort c s) = true := by
  grind [instanceAbort, canonical_setInbox, canonical_endInstance]

@[simp] theorem canonical_recordFault (x : KExc) : Canonical (recordFault x s) = true := by
  grind [recordFault, canonical_bump, canonical_setReg, canonical_set64, canonical_post]

@[simp] theorem canonical_coreOff (x : KExc) : Canonical (coreOff x s) = true := by simp [coreOff, hs]

@[simp] theorem canonical_runAgain (q : Nat) (b : Batch) (i : Inst) (l : Launch) : Canonical (runAgain q b i l s) = true := by
  grind [runAgain, canonical_nextLaunch, canonical_sendLaunch, canonical_putInst, canonical_launchKernel]

@[simp] theorem canonical_instanceException (e : Nat) : Canonical (instanceException e s) = true := by
  grind [instanceException, canonical_recordFault, canonical_sendAborts, canonical_coreOff, canonical_bump, canonical_putInst,
    canonical_mk, canonical_iff]

@[simp] theorem canonical_kcallTimeout (q asn dseq : Nat) : Canonical (kcallTimeout q asn dseq s) = true := by
  grind [kcallTimeout, canonical_killLaunch, canonical_putInst]

@[simp] theorem canonical_tileFence (t : Nat) : Canonical (tileFence t s) = true := by
  grind [tileFence, canonical_mk, canonical_iff]

@[simp] theorem canonical_fencePaid (c tag : Nat) : Canonical (fencePaid c tag s) = true := by simp [fencePaid, hs]

/-! #### Machine/BeadCore -/

@[simp] theorem canonical_takeLate (c : Nat) (l : Nat × Nat × Nat × Nat) : Canonical (takeLate c l s) = true := by
  simp [takeLate, hs]

@[simp] theorem canonical_issue (c : Nat) (p : KWord → Bool) (reads : KWord → List Nat) {f : Core → KWord → State → State}
    (hf : ∀ k w t, Canonical t = true → Canonical (f k w t) = true) : Canonical (issue c p reads f s) = true := by
  grind [issue, canonical_takeLate]

@[simp] theorem canonical_aluR (fn : Nat) (op : BitVec 64 → BitVec 64 → BitVec 64) (c : CoreId) :
    Canonical (aluR fn op c s) = true := by
  grind [aluR, canonical_issue, canonical_setCore]

@[simp] theorem canonical_aluI (o : Nat) (op : BitVec 64 → KWord → BitVec 64) (c : CoreId) :
    Canonical (aluI o op c s) = true := by
  grind [aluI, canonical_issue, canonical_setCore]

@[simp] theorem canonical_branchIf (o : Nat) (cmp : BitVec 64 → BitVec 64 → Bool) (c : CoreId) :
    Canonical (branchIf o cmp c s) = true := by
  grind [branchIf, canonical_issue, canonical_setCore]

@[simp] theorem canonical_coreSend (c op tag a : Nat) (pay : Sector) (tally : BitVec 32) (poison : Bool) :
    Canonical (coreSend c op tag a pay tally poison s) = true := by
  simp [coreSend, hs]

@[simp] theorem canonical_gLoad (o n : Nat) (signed : Bool) (c : CoreId) : Canonical (gLoad o n signed c s) = true := by
  grind [gLoad, canonical_issue, canonical_takeExc, canonical_setCore, canonical_coreSend]

@[simp] theorem canonical_gStore (o size : Nat) (c : CoreId) : Canonical (gStore o size c s) = true := by
  grind [gStore, canonical_issue, canonical_takeExc, canonical_setCore, canonical_coreSend]

@[simp] theorem canonical_amo (aop : Nat) (c : CoreId) : Canonical (amo aop c s) = true := by
  grind [amo, canonical_issue, canonical_takeExc, canonical_setCore, canonical_coreSend]

@[simp] theorem canonical_dropAnswer (c : Nat) (a : Answer) : Canonical (dropAnswer c a s) = true := by simp [dropAnswer, hs]

@[simp] theorem canonical_loadResponse (c : Nat) : Canonical (loadResponse c s) = true := by
  grind [loadResponse, canonical_dropAnswer, canonical_setCore]

@[simp] theorem canonical_writeAck (c : Nat) : Canonical (writeAck c s) = true := by
  grind [writeAck, canonical_dropAnswer, canonical_setCore, canonical_fencePaid]

@[simp] theorem canonical_cntOp (fn : Nat) (reads : KWord → List Nat) {f : Core → KWord → KPend → Nat → State → State}
    (hf : ∀ k w j i t, Canonical t = true → Canonical (f k w j i t) = true) (c : CoreId) :
    Canonical (cntOp fn reads f c s) = true := by
  unfold cntOp
  exact canonical_issue hs _ _ _ (fun k w t ht => by grind [canonical_takeExc])

@[simp] theorem canonical_stageCnt (set : Bool) (c : Nat) (k : Core) (w : KWord) (j : KPend) (i : Nat) :
    Canonical (stageCnt set c k w j i s) = true := by
  grind [stageCnt, canonical_takeExc, canonical_modLaunch, canonical_setCore]

@[simp] theorem canonical_syncPoint (imm : Nat) (ready : Core → Bool) {f : Core → State → State}
    (hf : ∀ k t, Canonical t = true → Canonical (f k t) = true) (c : CoreId) :
    Canonical (syncPoint imm ready f c s) = true := by
  unfold syncPoint
  exact canonical_issue hs _ _ _ (fun k w t ht => by grind [canonical_takeLate])

@[simp] theorem canonical_illegalInstruction (c : Nat) : Canonical (illegalInstruction c s) = true := by
  grind [illegalInstruction, canonical_takeExc]

@[simp] theorem canonical_fetchFault (c : Nat) : Canonical (fetchFault c s) = true := by simp [fetchFault, hs]

/-! #### Machine/Shoreline -/

@[simp] theorem canonical_shlError (p tag mark status : Nat) : Canonical (shlError p tag mark status s) = true := by
  simp [shlError, hs]

@[simp] theorem canonical_shlAckSlot (p tag mark : Nat) (poison : Bool) :
    Canonical (shlAckSlot p tag mark poison s) = true := by
  simp [shlAckSlot, hs]

@[simp] theorem canonical_shlReturn (p : Nat) : Canonical (shlReturn p s) = true := by simp [shlReturn, hs]

@[simp] theorem canonical_loseBatch (p q : Nat) (b : Batch) : Canonical (loseBatch p q b s) = true := by
  grind [loseBatch, canonical_modBatch, canonical_failInst, canonical_waitEnd, canonical_foldl]

@[simp] theorem canonical_shlFail (p : Nat) : Canonical (shlFail p s) = true := by
  grind [shlFail, canonical_post, canonical_setF, canonical_setPort, canonical_loseBatch, canonical_foldl]

@[simp] theorem canonical_shlRetrain (p : Nat) : Canonical (shlRetrain p s) = true := by simp [shlRetrain, hs]

@[simp] theorem canonical_shlReplay (p : Nat) : Canonical (shlReplay p s) = true := by
  grind [shlReplay, canonical_bump, canonical_setPort, canonical_shlRetrain, canonical_mk, canonical_iff]

@[simp] theorem canonical_shlTakeSlot (p : Nat) (b : BitVec 640) : Canonical (shlTakeSlot p b s) = true := by
  grind [shlTakeSlot, canonical_setPort, canonical_post, canonical_shlError]

@[simp] theorem canonical_shlNak (p : Nat) : Canonical (shlNak p s) = true := by
  grind [shlNak, canonical_shlNull, canonical_setPort]

@[simp] theorem canonical_shlAckNak (p : Nat) (fr : BitVec 2048) : Canonical (shlAckNak p fr s) = true := by
  grind [shlAckNak, canonical_setPort, canonical_shlReplay, canonical_shlFlush]

@[simp] theorem canonical_shlReceive (p : Nat) (fr : BitVec 2048) : Canonical (shlReceive p fr s) = true := by
  grind [shlReceive, canonical_shlNak, canonical_bump, canonical_setPort, canonical_shlAckNak, canonical_shlTakeSlot,
    canonical_shlNull, canonical_foldl]

@[simp] theorem canonical_shlRetrained (p rate mask : Nat) : Canonical (shlRetrained p rate mask s) = true := by
  grind [shlRetrained, canonical_setF, canonical_post, canonical_setPort, canonical_shlFlush, canonical_mk, canonical_iff]

@[simp] theorem canonical_shlStart (p : Nat) : Canonical (shlStart p s) = true := by simp [shlStart, hs]

@[simp] theorem canonical_shlEnable (p : Nat) : Canonical (shlEnable p s) = true := by
  grind [shlEnable, canonical_setF, canonical_shlStart]

@[simp] theorem canonical_shlDisable (p : Nat) : Canonical (shlDisable p s) = true := by
  grind [shlDisable, canonical_setF, canonical_setPort]

@[simp] theorem canonical_shlUp (p rate mods : Nat) : Canonical (shlUp p rate mods s) = true := by
  grind [shlUp, canonical_setPort, canonical_setF, canonical_mk, canonical_iff]

@[simp] theorem canonical_shlRefuse (p : Nat) : Canonical (shlRefuse p s) = true := by simp [shlRefuse, hs]

@[simp] theorem canonical_shlNegotiate (p : Nat) (blk : BitVec 256) : Canonical (shlNegotiate p blk s) = true := by
  grind [shlNegotiate, canonical_setReg, canonical_setF, canonical_shlRefuse, canonical_setPort, canonical_foldl]

@[simp] theorem canonical_rxTake (p vc : Nat) : Canonical (rxTake p vc s) = true := by simp [rxTake, hs]

@[simp] theorem canonical_rxServe (p vc op : Nat) {f : Nat → BitVec 640 → State → State}
    (hf : ∀ n b t, Canonical t = true → Canonical (f n b t) = true) : Canonical (rxServe p vc op f s) = true := by
  grind [rxServe, canonical_shlReturn, canonical_rxTake]

@[simp] theorem canonical_shlRange (p : Nat) (b : BitVec 640) : Canonical (shlRange p b s) = true := by
  grind [shlRange, canonical_shlError, canonical_post, canonical_bump]

@[simp] theorem canonical_shlInject (p arr : Nat) (b : BitVec 640) (r : ReefPlace) (tally : BitVec 32) :
    Canonical (shlInject p arr b r tally s) = true := by
  unfold shlInject
  exact canonical_inject (canonical_expect (canonical_setPort hs _ _) _ _ _ _) _ _ _

@[simp] theorem canonical_shlWrite (p n : Nat) (b : BitVec 640) : Canonical (shlWrite p n b s) = true := by
  grind [shlWrite, canonical_shlRange, canonical_shlInject, canonical_bump, canonical_shlError, canonical_post]

@[simp] theorem canonical_shlClose (p : Nat) (o : ShlOpen) : Canonical (shlClose p o s) = true := by simp [shlClose, hs]

@[simp] theorem canonical_shlAnswer (p t a : Nat) (f : Flit) : Canonical (shlAnswer p t a f s) = true := by
  grind [shlAnswer, canonical_post, canonical_shlClose, canonical_shlSend, canonical_add64, canonical_shlAckSlot,
    canonical_shlError, canonical_mk, canonical_iff]

@[simp] theorem canonical_shlResponse (p t a : Nat) : Canonical (shlResponse p t a s) = true := by
  grind [shlResponse, canonical_shlAnswer, canonical_setInbox]

@[simp] theorem canonical_shlTimeout (p t a tag : Nat) : Canonical (shlTimeout p t a tag s) = true := by
  grind [shlTimeout, canonical_bump, canonical_post, canonical_shlError, canonical_shlClose, canonical_mk, canonical_iff]

@[simp] theorem canonical_shlUrgent (p : Nat) (f : Flit) : Canonical (shlUrgent p f s) = true := by
  grind [shlUrgent, canonical_setPort, canonical_shlSend]

@[simp] theorem canonical_shlAbort (p : Nat) (b : BitVec 640) : Canonical (shlAbort p b s) = true := by simp [shlAbort, hs]

@[simp] theorem canonical_shlDoorbell (p : Nat) (b : BitVec 640) : Canonical (shlDoorbell p b s) = true := by
  simp [shlDoorbell, hs]

@[simp] theorem canonical_shlCounter (p : Nat) (b : BitVec 640) : Canonical (shlCounter p b s) = true := by
  unfold shlCounter
  dsimp only
  split
  · have h1 := canonical_setPort hs p { portAt s p with cseq := secField (slotPay b) 12 4 }
    split
    · exact canonical_shlError h1 _ _ _ _
    · exact canonical_shlAckSlot (canonical_ite (canonical_counterSet h1 _ _) (canonical_counterAdd h1 _ _) _) _ _ _ _
  · exact canonical_ite (canonical_shlAckSlot hs _ _ _ _) hs _

@[simp] theorem canonical_shlWatch (p : Nat) (b : BitVec 640) : Canonical (shlWatch p b s) = true := by
  grind [shlWatch, canonical_shlError, canonical_shlNote, canonical_setPort]

@[simp] theorem canonical_shlTelemetry (p : Nat) (m : BitVec 128) : Canonical (shlTelemetry p m s) = true := by
  grind [shlTelemetry, canonical_setF, canonical_setPort]

end

end Sys2Proof.Machine

end


section
/-! PROOF (O4). The canonical form is kept: ejection, the Reckoner and what goes to other dies. -/

namespace Sys2Proof.Machine

section
variable {s : State} (hs : Canonical s = true)
include hs

/-! #### Machine/Eject -/

@[simp] theorem canonical_urgentOut (n : Nat) (w : UrgWait) : Canonical (urgentOut n w s) = true := by simp [urgentOut, hs]

@[simp] theorem canonical_fenceArrive (t : Nat) (f : Flit) : Canonical (fenceArrive t f s) = true := by simp [fenceArrive, hs]

@[simp] theorem canonical_ejectFlit (t : Nat) (f : Flit) : Canonical (ejectFlit t f s) = true := by
  grind [ejectFlit, canonical_crcDiscard, canonical_post, canonical_memEnqueue, canonical_urgentOut, canonical_doorbell,
    canonical_fenceArrive, canonical_shlUrgent, canonical_deliver]

@[simp] theorem canonical_meshEject (t : Nat) : Canonical (meshEject t s) = true := by
  grind [meshEject, canonical_ejectFlit, canonical_mk, canonical_iff]

/-! #### Machine/Reckoner -/

@[simp] theorem canonical_kstSend (c : Nat) (i : KIns) : Canonical (kstSend c i s) = true := by
  grind [kstSend, canonical_setCore, canonical_coreSend, canonical_modLaunch]

@[simp] theorem canonical_kRun (c : Nat) (i : KIns) : Canonical (kRun c i s) = true := by
  grind [kRun, canonical_setCore, canonical_kstSend, canonical_draw]

@[simp] theorem canonical_reckonerExecute (c : Nat) (upset : EccSite) : Canonical (reckonerExecute c upset s) = true := by
  grind [reckonerExecute, canonical_setCore, canonical_kRun]

@[simp] theorem canonical_kHand (c : Nat) (k : Core) (i : KIns) : Canonical (kHand c k i s) = true := by
  grind [kHand, canonical_setCore, canonical_kRun]

@[simp] theorem canonical_kIssue (fn : Nat) (c : CoreId) : Canonical (kIssue fn c s) = true := by
  grind [kIssue, canonical_issue, canonical_kHand]

@[simp] theorem canonical_kldIssue (c : CoreId) : Canonical (kldIssue c s) = true := by
  grind [kldIssue, canonical_issue, canonical_takeExc, canonical_setCore, canonical_kHand, canonical_coreSend]

@[simp] theorem canonical_kstIssue (c : CoreId) : Canonical (kstIssue c s) = true := by
  grind [kstIssue, canonical_issue, canonical_takeExc, canonical_kHand]

/-! #### Machine/Gather -/

@[simp] theorem canonical_request (q asn dseq pos : Nat) (m : TwyMsg) : Canonical (request q asn dseq pos m s) = true := by
  simp [request, hs]

@[simp] theorem canonical_dropTag (tag : Nat) : Canonical (dropTag tag s) = true := by simp [dropTag, hs]

@[simp] theorem canonical_resendAll (ms : List TwyMsg) : Canonical (resendAll ms s) = true := by
  grind [resendAll, canonical_twyRetry, canonical_twySend, canonical_bumpBy, canonical_foldl]

@[simp] theorem canonical_getGo (fuel q first dseq : Nat) : Canonical (getGo fuel q first dseq s) = true := by
  induction fuel generalizing s with
  | zero => exact hs
  | succ fuel ih =>
    simp only [getGo]
    (repeat' split) <;> grind [canonical_request, canonical_putInst]

@[simp] theorem canonical_putRead (x : TQueue) (c : Cmd) (i : Inst) (k m : Nat) : Canonical (putRead x c i k m s).2.2 = true := by
  unfold putRead
  refine canonical_foldl_at (fun p : List (Sector × BitVec 32 × Bool) × Nat × State => p.2.2) (fun p j hp => ?_) hs
  have := canonical_ferrySource hp x c i (k + j)
  (repeat' split) <;> grind

@[simp] theorem canonical_putChecked (ds : List (Sector × BitVec 32 × Bool)) (err : Nat) :
    Canonical (putChecked ds err s).2 = true := by
  grind [putChecked, canonical_bumpBy]

@[simp] theorem canonical_owe (q first dseq t : Nat) : Canonical (owe q first dseq t s) = true := by
  grind [owe, canonical_putInst]

@[simp] theorem canonical_putSend (q : Nat) (x : TQueue) (b : Batch) (i : Inst) (y : Extent) (k : Nat) (last : Bool) (ds : List
    (Sector × BitVec 32 × Bool)) :
    Canonical (putSend q x b i y k last ds s) = true := by
  grind [putSend, canonical_request, canonical_owe, canonical_foldl]

@[simp] theorem canonical_putNear (x : TQueue) (c : Cmd) (i : Inst) (k : Nat) (ds : List (Sector × BitVec 32 × Bool)) :
    Canonical (putNear x c i k ds s).2 = true := by
  unfold putNear
  refine canonical_foldl_at Prod.snd (fun a d ha => ?_) hs
  split
  · exact (apply_ite (fun z : Nat × State => Canonical z.2) ..).trans (by simp [ha])
  · exact ha

@[simp] theorem canonical_putGo (fuel q first dseq : Nat) : Canonical (putGo fuel q first dseq s) = true := by
  induction fuel generalizing s with
  | zero => exact hs
  | succ fuel ih =>
    simp only [putGo]
    split
    · exact hs
    split
    · exact hs
    split
    · exact hs
    · refine canonical_whenReached hs _ _ _ (fun t ht => ?_)
      (repeat' split) <;> grind [canonical_putRead, canonical_putChecked, canonical_putNear, canonical_putInst, canonical_putSend]

@[simp] theorem canonical_putOut (q : Nat) (x : TQueue) (b : Batch) (i : Inst) : Canonical (putOut q x b i s) = true := by
  grind [putOut, canonical_request, canonical_putInst]

@[simp] theorem canonical_finishInst (q first dseq : Nat) : Canonical (finishInst q first dseq s) = true := by
  grind [finishInst, canonical_dealAll, canonical_unhold, canonical_settle, canonical_modBatch]

@[simp] theorem canonical_putsGo : Canonical (putsGo s) = true := by
  unfold putsGo
  refine canonical_foldl (fun u q hu => ?_) hs
  refine canonical_foldl (fun v b hv => ?_) hu
  exact canonical_foldl (fun w i hw => canonical_ite (canonical_putGo hw _ _ _ _) hw _) hv

@[simp] theorem canonical_putPair (q : Nat) (b : Batch) (c : Cmd) (i : Inst) : Canonical (putPair q b c i s).2 = true := by
  grind [putPair, canonical_jDispatch, canonical_mk, canonical_iff]

@[simp] theorem canonical_gatherBegin (q : Nat) (x : TQueue) (b : Batch) (c : Cmd) (l : List Opnd) :
    Canonical (gatherBegin q x b c l s) = true := by
  unfold gatherBegin
  dsimp only
  (repeat' split) <;> grind [canonical_putPair, canonical_dispatch, canonical_hostReads, canonical_getGo, canonical_putGo]

@[simp] theorem canonical_gatherStart (q : Nat) (x : TQueue) (b : Batch) (c : Cmd) (l : List Opnd) :
    Canonical (gatherStart q x b c l s) = true := by
  simp [gatherStart, hs]

@[simp] theorem canonical_collGo (fuel q first dseq : Nat) : Canonical (collGo fuel q first dseq s) = true := by
  induction fuel generalizing s with
  | zero => exact hs
  | succ fuel ih =>
    simp only [collGo]
    (repeat' split) <;> grind [canonical_request, canonical_putInst]

@[simp] theorem canonical_contribRead (x : TQueue) (i : Inst) (y : Extent) : Canonical (contribRead x i y s).2 = true := by
  grind [contribRead, canonical_engRead]

@[simp] theorem canonical_contribution (x : TQueue) (c : Cmd) (i : Inst) (d k : Nat) :
    Canonical (contribution x c i d k s).2 = true := by
  grind [contribution, canonical_contribRead]

@[simp] theorem canonical_jColl (kind q : Nat) (b : Batch) (i : Inst) (cs : CollSt) :
    Canonical (jColl kind q b i cs s) = true := by
  simp [jColl, hs]

@[simp] theorem canonical_collArrived (q first dseq : Nat) : Canonical (collArrived q first dseq s) = true := by
  unfold collArrived
  split
  · exact hs
  split
  · exact hs
  dsimp only
  split
  · exact hs
  · refine canonical_whenReached hs _ _ _ (fun t ht => ?_)
    generalize hr : List.foldl _ _ _ = r
    have h1 : Canonical r.2 = true := by
      rw [← hr]
      exact canonical_foldl_at Prod.snd (fun a k ha => by grind [canonical_contribution]) ht
    split
    · exact h1
    · exact canonical_putInst (canonical_jColl h1 _ _ _ _ _) _ _ _

@[simp] theorem canonical_collStart (q : Nat) (x : TQueue) (b : Batch) (c : Cmd) (l : List Opnd) :
    Canonical (collStart q x b c l s) = true := by
  simp only [collStart]
  (repeat' split) <;>
    grind [canonical_jDispatch, canonical_dispatch, canonical_hostReads, canonical_collGo,
      canonical_collArrived, canonical_mk, canonical_iff]

@[simp] theorem canonical_collSend (x : TQueue) (i : Inst) (c : Cmd) (cs : CollSt) (kind poison d : Nat) :
    Canonical (collSend x i c cs kind poison d s) = true := by
  simp [collSend, hs]

@[simp] theorem canonical_collTry (q first dseq : Nat) : Canonical (collTry q first dseq s) = true := by
  grind [collTry, canonical_failInst, canonical_jColl, canonical_putInst]

@[simp] theorem canonical_collReadyDurable (q asn dseq : Nat) (damaged : Bool) :
    Canonical (collReadyDurable q asn dseq damaged s) = true := by
  grind [collReadyDurable, canonical_failInst, canonical_post, canonical_bump, canonical_collSend, canonical_putInst,
    canonical_collTry, canonical_foldl]

@[simp] theorem canonical_collOutput (x : TQueue) (c : Cmd) (i : Inst) (k : Nat) : Canonical (collOutput x c i k s).2 = true := by
  have hone : ∀ d, Canonical (contribution x c i d k s).2 = true := fun d => canonical_contribution hs x c i d k
  unfold collOutput
  dsimp only
  generalize hr : List.foldl _ _ _ = r
  have h1 : Canonical r.2 = true := by
    rw [← hr]
    exact canonical_foldl_at Prod.snd (fun a d ha => by grind [canonical_contribution]) hs
  (repeat' split) <;> grind

@[simp] theorem canonical_collCommitDurable (q asn dseq : Nat) : Canonical (collCommitDurable q asn dseq s) = true := by
  unfold collCommitDurable
  split
  · exact hs
  split
  · exact hs
  dsimp only
  split
  · exact hs
  · refine canonical_whenReached hs _ _ _ (fun t ht => canonical_putInst ?_ _ _ _)
    refine canonical_foldl_at Prod.snd (fun a o ha => by grind [canonical_engWrite]) ?_
    exact canonical_foldl_at Prod.snd (fun a k ha => by grind [canonical_collOutput]) ht

@[simp] theorem canonical_collTimeout (q asn dseq : Nat) : Canonical (collTimeout q asn dseq s) = true := by
  grind [collTimeout, canonical_failInst]

@[simp] theorem canonical_collLost (d : Nat) : Canonical (collLost d s) = true := by
  unfold collLost
  refine canonical_foldl (fun u p hu => ?_) hs
  split
  · exact hu
  split
  · exact hu
  · exact canonical_ite hu (canonical_putInst (canonical_bump
      (canonical_foldl (fun v t hv => canonical_dropTag hv t) (canonical_jColl hu _ _ _ _ _)) _ _) _ _ _) _

@[simp] theorem canonical_collReissue (attempt : Nat) (p : Nat × Nat × Nat) : Canonical (collReissue attempt p s) = true := by
  unfold collReissue
  split
  · exact hs
  split
  · exact hs
  · exact canonical_ite hs (canonical_collArrived (canonical_collGo (canonical_putInst
      (canonical_foldl (fun v t hv => canonical_dropTag hv t) hs) _ _ _) _ _ _ _) _ _ _) _

@[simp] theorem canonical_collEnd (p : Nat × Nat × Nat) : Canonical (collEnd p s) = true := by
  grind [collEnd, canonical_failInst]

@[simp] theorem canonical_collMessage (m : TwyMsg) : Canonical (collMessage m s).2 = true := by
  unfold collMessage
  dsimp only
  (repeat' split) <;> simp [hs]

@[simp] theorem canonical_stageData (x : TQueue) (i : Inst) (m : TwyMsg) (places : List (Nat × Extent)) :
    Canonical (stageData x i m places s) = true := by
  unfold stageData
  refine canonical_foldl (fun t x ht => ?_) hs
  simp [ht]

@[simp] theorem canonical_gatherData (m : TwyMsg) : Canonical (gatherData m s) = true := by
  have h0 := canonical_dropTag hs m.tag
  unfold gatherData
  dsimp only
  split
  · exact h0
  · have h1 : ∀ n, Canonical ((List.range n).foldl (fun u _ => post { code := Ev.TLY_TALLY, mark := m.mark, d1 := m.addr }
        (bump F.TLY_TALLYERR.COUNT 0 u)) (dropTag m.tag s)) = true :=
      fun n => canonical_foldl (fun u _ hu => canonical_post (canonical_bump hu _ _) _) h0
    split
    · exact canonical_collArrived (canonical_collGo (canonical_stageData (canonical_putInst (h1 _) _ _ _) _ _ _ _) _ _ _ _) _ _ _
    · exact canonical_getGo (canonical_stageData (canonical_putInst (h1 _) _ _ _) _ _ _ _) _ _ _ _

@[simp] theorem canonical_gatherAck (m : TwyMsg) : Canonical (gatherAck m s) = true := by
  grind [gatherAck, canonical_dropTag, canonical_putsGo, canonical_finishInst, canonical_putInst]

@[simp] theorem canonical_gatherError (tag st : Nat) : Canonical (gatherError tag st s) = true := by
  grind [gatherError, canonical_dropTag, canonical_putsGo, canonical_dealAll, canonical_failInst, canonical_putInst]

@[simp] theorem canonical_targetFailed (d : Nat) : Canonical (targetFailed d s) = true := by
  unfold targetFailed
  refine canonical_foldl (fun u q hu => ?_) hs
  refine canonical_foldl (fun v b hv => ?_) hu
  exact canonical_foldl (fun w i hw => canonical_ite (canonical_failInst hw _ _ _ _ _) hw _) hv

end

end Sys2Proof.Machine

end


section
/-! PROOF (O4). The canonical form is kept: the Harbour log, the Tideway and the steward. -/

namespace Sys2Proof.Machine

section
variable {s : State} (hs : Canonical s = true)
include hs

/-! #### Machine/Harbour -/

@[simp] theorem canonical_journalLocal : Canonical (journalLocal s) = true := by
  unfold journalLocal
  split
  · exact hs
  · exact canonical_putsGo ((canonical_mk ..).mpr (canonical_iff.mp hs))

@[simp] theorem canonical_mirrorLost : Canonical (mirrorLost s) = true := by grind [mirrorLost, canonical_setF, canonical_post]

@[simp] theorem canonical_mirrorReached : Canonical (mirrorReached s) = true := by
  grind [mirrorReached, canonical_post, canonical_setF]

@[simp] theorem canonical_partnerAssign (d : Nat) : Canonical (partnerAssign d s) = true := by
  grind [partnerAssign, canonical_setF, canonical_mirrorLost, canonical_mirrorReached, canonical_jMirror, canonical_foldl,
    canonical_mk, canonical_iff]

@[simp] theorem canonical_partnerAcked (src lsn : Nat) : Canonical (partnerAcked src lsn s) = true := by
  grind [partnerAcked, canonical_putsGo, canonical_mirrorReached, canonical_set64, canonical_mk, canonical_iff]

@[simp] theorem canonical_setClient (k : Nat) (d : Option Nat) : Canonical (setClient k d s) = true := by
  grind [setClient, canonical_setF]

@[simp] theorem canonical_dropSlot (k : Nat) : Canonical (dropSlot k s) = true := by simp [dropSlot, hs]

@[simp] theorem canonical_clientAssign (d : Nat) : Canonical (clientAssign d s) = true := by
  grind [clientAssign, canonical_setClient, canonical_dropSlot]

@[simp] theorem canonical_clientDrop (d : Nat) : Canonical (clientDrop d s) = true := by grind [clientDrop, canonical_dropSlot]

@[simp] theorem canonical_serviceEnd : Canonical (serviceEnd s) = true := by grind [serviceEnd, canonical_clientDrop]

@[simp] theorem canonical_slotPut (k : Nat) (e : BitVec 512) : Canonical (slotPut k e s) = true := by
  grind [slotPut, canonical_bump, canonical_mk, canonical_iff]

@[simp] theorem canonical_slotJournal (src : Nat) (es : List (BitVec 512)) : Canonical (slotJournal src es s) = true := by
  grind [slotJournal, canonical_slotPut, canonical_twySend, canonical_foldl]

@[simp] theorem canonical_tkWrite (rs : List (BitVec 256)) : Canonical (tkWrite rs s).2 = true := by
  induction rs generalizing s with
  | nil => exact hs
  | cons r rest ih =>
    simp only [tkWrite]
    split
    · exact hs
    · exact ih (canonical_hostSend ((canonical_mk ..).mpr (canonical_iff.mp hs)) _)

@[simp] theorem canonical_tkGo (fuel : Nat) : Canonical (tkGo fuel s) = true := by
  induction fuel generalizing s with
  | zero => exact hs
  | succ fuel ih =>
    simp only [tkGo]
    (repeat' split) <;> grind [canonical_tkWrite, canonical_raiseVec, canonical_dropSlot, canonical_mk, canonical_iff]

@[simp] theorem canonical_takeover (d : Nat) : Canonical (takeover d s) = true := by
  unfold takeover
  split
  · exact hs
  · dsimp only
    split <;> grind [canonical_tkGo, canonical_post, canonical_bump, canonical_mk, canonical_iff]

@[simp] theorem canonical_tkHeadWrite (v : Nat) : Canonical (tkHeadWrite v s) = true := by simp [tkHeadWrite, hs]

@[simp] theorem canonical_setMember (d : Nat) (b : Bool) : Canonical (setMember d b s) = true := by simp [setMember, hs]

@[simp] theorem canonical_collsEnd (d : Nat) : Canonical (collsEnd d s) = true := by
  grind [collsEnd, canonical_collLost, canonical_collEnd, canonical_foldl]

@[simp] theorem canonical_dropWaiting (d : Nat) : Canonical (dropWaiting d s) = true := by
  grind [dropWaiting, canonical_twySend, canonical_foldl, canonical_mk, canonical_iff]

@[simp] theorem canonical_dieFailed (d : Nat) : Canonical (dieFailed d s) = true := by
  grind [dieFailed, canonical_collsEnd, canonical_targetFailed, canonical_setMember, canonical_resendAll, canonical_dropWaiting,
    canonical_mirrorLost, canonical_mk, canonical_iff]

@[simp] theorem canonical_newPair (d g : Nat) : Canonical (newPair d g s) = true := by simp [newPair, hs]

@[simp] theorem canonical_dieJoined (d g : Nat) : Canonical (dieJoined d g s) = true := by
  grind [dieJoined, canonical_setMember, canonical_newPair, canonical_targetFailed, canonical_foldl, canonical_mk,
    canonical_iff]

@[simp] theorem canonical_dieLeft (d : Nat) : Canonical (dieLeft d s) = true := by
  grind [dieLeft, canonical_clientDrop, canonical_setMember, canonical_mirrorLost]

@[simp] theorem canonical_decisionApply (act d x : Nat) : Canonical (decisionApply act d x s) = true := by
  unfold decisionApply
  dsimp only
  (repeat' split) <;>
    grind [canonical_partnerAssign, canonical_clientAssign, canonical_clientDrop, canonical_dieFailed, canonical_dieJoined,
      canonical_dieLeft, canonical_mirrorLost, canonical_setMember, canonical_setF, canonical_mk, canonical_iff]

@[simp] theorem canonical_decisionTake (epoch act d x : Nat) : Canonical (decisionTake epoch act d x s) = true := by
  grind [decisionTake, canonical_post, canonical_decisionApply, canonical_mk, canonical_iff]

/-! #### Machine/Tideway -/

@[simp] theorem canonical_rxDrop (n : Nat) (m : TwyMsg) : Canonical (rxDrop n m s) = true := by simp [rxDrop, hs]

@[simp] theorem canonical_linkReturn (n : Nat) : Canonical (linkReturn n s) = true := by simp [linkReturn, hs]

@[simp] theorem canonical_twyServe (n vc : Nat) (p : TwyMsg → Bool) {f : TwyMsg → State → State}
    (hf : ∀ m t, Canonical t = true → Canonical (f m t) = true) : Canonical (twyServe n vc p f s) = true := by
  grind [twyServe, canonical_linkReturn, canonical_rxDrop]

@[simp] theorem canonical_twyAnswer (m : TwyMsg) (op status : Nat) (poison : Bool) (data : List (Sector × BitVec 32)) :
    Canonical (twyAnswer m op status poison data s) = true := by
  simp [twyAnswer, hs]

@[simp] theorem canonical_inboundRefuse (m : TwyMsg) : Canonical (inboundRefuse m s) = true := by simp [inboundRefuse, hs]

@[simp] theorem canonical_putSeen (m : TwyMsg) (refused : Bool) : Canonical (putSeen m refused s) = true := by
  simp [putSeen, hs]

@[simp] theorem canonical_putLast (m : TwyMsg) : Canonical (putLast m s) = true := by
  grind [putLast, canonical_putSeen, canonical_twyAnswer, canonical_counterAdd]

@[simp] theorem canonical_putEnd (m : TwyMsg) : Canonical (putEnd m s) = true := by
  grind [putEnd, canonical_twyAnswer, canonical_putSeen]

@[simp] theorem canonical_writeSectors (p : Inbound) (m : TwyMsg) : Canonical (writeSectors p m s).2 = true := by
  unfold writeSectors
  refine canonical_foldl_at Prod.snd (fun a d ha => ?_) hs
  split
  · exact ha
  · exact canonical_locWrite ha _ _ _ _ _ _

@[simp] theorem canonical_twyWrite (n : Nat) (m : TwyMsg) : Canonical (twyWrite n m s) = true := by
  grind [twyWrite, canonical_twyAnswer, canonical_bump, canonical_inboundPlace, canonical_inboundRefuse, canonical_writeSectors,
    canonical_putLast, canonical_putEnd, canonical_mk, canonical_iff]

@[simp] theorem canonical_twyReach (n vc : Nat) (p : TwyMsg → Bool) (wait : TwyMsg → Nat × Bool)
    {f : TwyMsg → State → State} (hf : ∀ m t, Canonical t = true → Canonical (f m t) = true) :
    Canonical (twyReach n vc p wait f s) = true := by
  grind [twyReach, canonical_twyServe, canonical_askWake]

@[simp] theorem canonical_inboundSectors (p : Inbound) (k mark : Nat) : Canonical (inboundSectors p k mark s).2.2.2 = true := by
  unfold inboundSectors
  refine canonical_foldl_at (fun a : List (Sector × BitVec 32) × Bool × Nat × State => a.2.2.2) (fun a j ha => ?_) hs
  have := canonical_locRead ha (p.addr + 64 * j) p.keysel mark 0
  (repeat' split) <;> grind

@[simp] theorem canonical_twyRead (n : Nat) (m : TwyMsg) : Canonical (twyRead n m s) = true := by
  grind [twyRead, canonical_inboundPlace, canonical_inboundRefuse, canonical_inboundSectors, canonical_twyAnswer]

@[simp] theorem canonical_twyUrgent (n : Nat) (m : TwyMsg) : Canonical (twyUrgent n m s) = true := by simp [twyUrgent, hs]

@[simp] theorem canonical_urgentServe (op n : Nat) : Canonical (urgentServe op n s) = true :=
  canonical_twyServe hs _ _ _ (fun m _ ht => canonical_twyUrgent ht n m)

@[simp] theorem canonical_setRoute (d a b : Nat) : Canonical (setRoute d a b s) = true := by simp [setRoute, hs]

@[simp] theorem canonical_twyRoute (m : TwyMsg) : Canonical (twyRoute m s) = true := by
  grind [twyRoute, canonical_post, canonical_twyRetry, canonical_setRoute, canonical_mk, canonical_iff]

@[simp] theorem canonical_twyForward (n : Nat) : Canonical (twyForward n s) = true := by
  grind [twyForward, canonical_rxDrop, canonical_linkReturn, canonical_twySend, canonical_post]

/-! #### Machine/Steward -/

@[simp] theorem canonical_decree (m act d x : Nat) : Canonical (decree m act d x s) = true := by simp [decree, hs]

@[simp] theorem canonical_decideAll (act d x : Nat) : Canonical (decideAll act d x s) = true := by
  unfold decideAll
  refine canonical_foldl (fun t x ht => ?_) hs
  simp [ht]

@[simp] theorem canonical_setStew (w : Stew) : Canonical (setStew w s) = true := by simp [setStew, hs]

@[simp] theorem canonical_setPartner (d : Nat) (p : Option Nat) : Canonical (setPartner d p s) = true := by
  simp [setPartner, hs]

@[simp] theorem canonical_assign (d : Nat) : Canonical (assign d s) = true := by
  grind [assign, canonical_decree, canonical_setPartner]

@[simp] theorem canonical_assignAll : Canonical (assignAll s) = true := by
  unfold assignAll
  refine canonical_foldl (fun t x ht => ?_) hs
  simp [ht]

@[simp] theorem canonical_collOrder (kind : Nat) (k : CollKey) : Canonical (collOrder kind k s) = true := by
  unfold collOrder
  refine canonical_foldl (fun t x ht => ?_) hs
  grind [canonical_collMessage, canonical_twySend, canonical_mk, canonical_iff]

@[simp] theorem canonical_collAct (k : CollKey) : Canonical (collAct k s) = true := by
  grind [collAct, canonical_collOrder, canonical_setStew]

@[simp] theorem canonical_collsAgain : Canonical (collsAgain s) = true := by
  grind [collsAgain, canonical_collAct, canonical_setStew, canonical_foldl]

@[simp] theorem canonical_stewFail (d : Nat) : Canonical (stewFail d s) = true := by
  grind [stewFail, canonical_setStew, canonical_collsAgain, canonical_assignAll, canonical_decideAll]

@[simp] theorem canonical_stewJoin (d : Nat) : Canonical (stewJoin d s) = true := by
  grind [stewJoin, canonical_setStew, canonical_decree, canonical_assignAll, canonical_decideAll, canonical_foldl]

@[simp] theorem canonical_stewMove (d : Nat) (gone : Bool) : Canonical (stewMove d gone s) = true := by
  unfold stewMove
  refine canonical_foldl (fun t x ht => ?_) hs
  grind [canonical_decree, canonical_setPartner, canonical_mk, canonical_iff]

@[simp] theorem canonical_stewLeaving (d : Nat) : Canonical (stewLeaving d s) = true := by simp [stewLeaving, hs]

@[simp] theorem canonical_stewLeft (d : Nat) : Canonical (stewLeft d s) = true := by
  grind [stewLeft, canonical_decideAll, canonical_setStew, canonical_assignAll]

@[simp] theorem canonical_stewMirrorLoss (d : Nat) : Canonical (stewMirrorLoss d s) = true := by
  grind [stewMirrorLoss, canonical_assign, canonical_setPartner, canonical_decree]

@[simp] theorem canonical_stewReset (d kind : Nat) : Canonical (stewReset d kind s) = true := by
  grind [stewReset, canonical_stewFail, canonical_setStew]

@[simp] theorem canonical_stewBeat (d : Nat) (holds : Bool) : Canonical (stewBeat d holds s) = true := by
  grind [stewBeat, canonical_setStew, canonical_collsAgain]

@[simp] theorem canonical_routeTo (a d : Nat) : Canonical (routeTo a d s) = true := by
  grind [routeTo, canonical_twyRetry, canonical_setRoute, canonical_twySend]

@[simp] theorem canonical_routesAnew : Canonical (routesAnew s) = true := by
  grind [routesAnew, canonical_routeTo, canonical_foldl]

@[simp] theorem canonical_stewLinks (src : Nat) (ds : List Sector) : Canonical (stewLinks src ds s) = true := by
  grind [stewLinks, canonical_routesAnew, canonical_setStew, canonical_collAct, canonical_foldl]

@[simp] theorem canonical_quarBegin (d : Nat) : Canonical (quarBegin d s) = true := by
  grind [quarBegin, canonical_linkHand, canonical_stewMove, canonical_foldl]

@[simp] theorem canonical_quarSync (d : Nat) : Canonical (quarSync d s) = true := by
  grind [quarSync, canonical_setReg, canonical_quarBegin, canonical_twyRetry]

@[simp] theorem canonical_noHolder : Canonical (noHolder s) = true := by simp [noHolder, hs]

@[simp] theorem canonical_toTray (f : Nat → TwyMsg) : Canonical (toTray f s) = true := by
  unfold toTray
  refine canonical_foldl (fun t x ht => ?_) hs
  simp [ht]

@[simp] theorem canonical_leaseSend (kind : Nat) : Canonical (leaseSend kind s) = true := by simp [leaseSend, hs]

@[simp] theorem canonical_leaseClaim : Canonical (leaseClaim s) = true := by
  grind [leaseClaim, canonical_leaseSend, canonical_setF, canonical_noHolder, canonical_mk, canonical_iff]

@[simp] theorem canonical_leaseRenew : Canonical (leaseRenew s) = true := by simp [leaseRenew, hs]

@[simp] theorem canonical_leaseRelease (next : Nat) : Canonical (leaseRelease next s) = true := by
  grind [leaseRelease, canonical_leaseSend, canonical_noHolder, canonical_setF, canonical_mk, canonical_iff]

@[simp] theorem canonical_shutLinks : Canonical (shutLinks s) = true := by
  unfold shutLinks
  refine canonical_foldl (fun t x ht => ?_) hs
  simp [ht]

@[simp] theorem canonical_withdraw : Canonical (withdraw s) = true := by
  grind [withdraw, canonical_shutLinks, canonical_serviceEnd, canonical_leaseRelease]

@[simp] theorem canonical_toSteward (kind : Nat) (fields : List (Nat × Nat × Nat)) (data : List Sector) (here : State → State)
    (hhere : ∀ t, Canonical t = true → Canonical (here t) = true) :
    Canonical (toSteward kind fields data here s) = true := by
  grind [toSteward, canonical_twySend]

@[simp] theorem canonical_reportLinks : Canonical (reportLinks s) = true := by
  grind [reportLinks, canonical_toSteward, canonical_stewLinks]

@[simp] theorem canonical_joinAsk : Canonical (joinAsk s) = true := by grind [joinAsk, canonical_toSteward, canonical_stewJoin]

@[simp] theorem canonical_withdrawEnd : Canonical (withdrawEnd s) = true := by
  grind [withdrawEnd, canonical_joinAsk, canonical_twyRetry, canonical_setMember, canonical_setF]

@[simp] theorem canonical_recordHolder (d e : Nat) : Canonical (recordHolder d e s) = true := by
  grind [recordHolder, canonical_setF, canonical_joinAsk, canonical_reportLinks, canonical_mk, canonical_iff]

@[simp] theorem canonical_leaseConflict (d : Nat) : Canonical (leaseConflict d s) = true := by simp [leaseConflict, hs]

@[simp] theorem canonical_leaseTake (m : TwyMsg) : Canonical (leaseTake m s) = true := by
  unfold leaseTake
  extract_lets d e own kind r s0 settle
  have h0 : Canonical s0 = true := canonical_setF hs _ _ _
  have hsettle : ∀ u, Canonical u = true → Canonical (settle u) = true := fun u hu => by
    unfold settle
    split
    · exact canonical_of_stores (canonical_noHolder hu) rfl rfl rfl
    · exact canonical_recordHolder hu _ _
  clear_value s0 settle
  split
  · split
    · have h1 := canonical_ite (canonical_leaseConflict h0 d) h0 (e = own)
      exact hsettle _ (canonical_setF (canonical_of_stores h1 rfl rfl rfl) _ _ _)
    · exact canonical_leaseClaim (canonical_leaseConflict h0 _)
  · exact canonical_ite h0 (hsettle _ h0) _

@[simp] theorem canonical_leaseReceive (m : TwyMsg) : Canonical (leaseReceive m s) = true := by
  grind [leaseReceive, canonical_leaseTake, canonical_post, canonical_bump]

@[simp] theorem canonical_memberServe (n kind : Nat) {f : TwyMsg → State → State}
    (hf : ∀ m t, Canonical t = true → Canonical (f m t) = true) : Canonical (memberServe n kind f s) = true :=
  canonical_twyServe hs _ _ _ hf

@[simp] theorem canonical_collectDone (rs : List MemberReport) : Canonical (collectDone rs s) = true := by
  grind [collectDone, canonical_setF, canonical_setStew, canonical_stewLinks, canonical_decree, canonical_assign,
    canonical_collAct, canonical_foldl]

@[simp] theorem canonical_mbxDone (err : Nat) (rsp : List Nat) : Canonical (mbxDone err rsp s) = true := by
  grind [mbxDone, canonical_setF, canonical_draw, canonical_setReg, canonical_raiseVec, canonical_foldl, canonical_mk,
    canonical_iff]

@[simp] theorem canonical_ownQuarSync : Canonical (ownQuarSync s) = true := by
  grind [ownQuarSync, canonical_setF, canonical_withdraw, canonical_withdrawEnd]

@[simp] theorem canonical_rosterStore (d : Nat) (e : RosterEnt) : Canonical (rosterStore d e s) = true := by
  grind [rosterStore, canonical_quarSync, canonical_setReg, canonical_joinAsk, canonical_ownQuarSync, canonical_mbxDone,
    canonical_mk, canonical_iff]

@[simp] theorem canonical_rosterSpread (d : Nat) (e : RosterEnt) : Canonical (rosterSpread d e s) = true := by
  grind [rosterSpread, canonical_rosterStore, canonical_twySend, canonical_foldl]

@[simp] theorem canonical_stewIdent (d : Nat) (h : BitVec 384) : Canonical (stewIdent d h s) = true := by
  grind [stewIdent, canonical_setStew, canonical_rosterSpread, canonical_post]

@[simp] theorem canonical_enrolApply (v : BitVec 2048) : Canonical (enrolApply v s) = true := by simp [enrolApply, hs]

end

end Sys2Proof.Machine

end


section
/-! PROOF (O4). The canonical form is kept: Tideway links, Breakwater and RECKON. -/

namespace Sys2Proof.Machine

section
variable {s : State} (hs : Canonical s = true)
include hs

/-! #### Machine/TwyLink -/

@[simp] theorem canonical_setLaneSt (n l v : Nat) : Canonical (setLaneSt n l v s) = true := by simp [setLaneSt, hs]

@[simp] theorem canonical_laneSync (n : Nat) : Canonical (laneSync n s) = true := by simp [laneSync, hs]

@[simp] theorem canonical_setActive (n w : Nat) (act left : List Nat) : Canonical (setActive n w act left s) = true := by
  grind [setActive, canonical_setLaneSt, canonical_laneSync, canonical_setF, canonical_setReg, canonical_foldl]

@[simp] theorem canonical_twyEvent (n code lane cause dur : Nat) : Canonical (twyEvent n code lane cause dur s) = true := by
  simp [twyEvent, hs]

@[simp] theorem canonical_setLinkState (n v : Nat) : Canonical (setLinkState n v s) = true := by simp [setLinkState, hs]

@[simp] theorem canonical_twyDetect (n : Nat) : Canonical (twyDetect n s) = true := by simp [twyDetect, hs]

@[simp] theorem canonical_routesLocal : Canonical (routesLocal s) = true := by
  unfold routesLocal
  refine canonical_foldl (fun t x ht => ?_) hs
  simp [ht]

@[simp] theorem canonical_peerGone (n : Nat) : Canonical (peerGone n s) = true := by
  grind [peerGone, canonical_quarSync, canonical_setF]

@[simp] theorem canonical_linkDown (n : Nat) (off : Bool) : Canonical (linkDown n off s) = true := by
  unfold linkDown
  extract_lets was l up s0 s1 s2 s3 s4
  have h0 : Canonical s0 = true := by
    unfold s0
    split
    · exact canonical_ite (canonical_twyEvent hs _ _ _ _ _) hs _
    · exact hs
  have h1 : Canonical s1 = true := canonical_ite (canonical_twyEvent h0 _ _ _ _ _) h0 _
  clear_value s1
  have h2 : Canonical s2 = true :=
    canonical_setLinkState (canonical_setReg (canonical_setReg (canonical_setReg h1 _ _ _) _ _ _) _ _ _) _ _
  clear_value s2
  have h3 : Canonical s3 = true := canonical_peerGone (canonical_setLink h2 _ _) _
  clear_value s3
  split
  · have h4 : Canonical s4 = true := canonical_oversubUpdate (canonical_overrideDrop (canonical_overrideDrop
      (canonical_clampEnd (canonical_clampEnd h3 1 n) 2 n) 1 n) 2 n) 1
    clear_value s4
    exact canonical_reportLinks (canonical_resendAll (canonical_routesLocal h4) _)
  · exact h3

@[simp] theorem canonical_configFail (n : Nat) : Canonical (configFail n s) = true := by simp [configFail, hs]

@[simp] theorem canonical_pauseBegin (n : Nat) (p : PauseFor) (want : Nat) : Canonical (pauseBegin n p want s) = true := by
  grind [pauseBegin, canonical_setLink, canonical_twyEvent, canonical_bump, canonical_setLinkState]

@[simp] theorem canonical_trainLane (n k : Nat) : Canonical (trainLane n k s) = true := by
  grind [trainLane, canonical_laneSync, canonical_setLaneSt, canonical_setLink]

@[simp] theorem canonical_ebbOrDown (n k : Nat) : Canonical (ebbOrDown n k s) = true := by
  grind [ebbOrDown, canonical_linkDown, canonical_setLaneSt, canonical_pauseBegin, canonical_setLink]

@[simp] theorem canonical_weakAct (n k : Nat) : Canonical (weakAct n k s) = true := by
  grind [weakAct, canonical_setLink, canonical_trainLane, canonical_ebbOrDown]

@[simp] theorem canonical_widenNow (n : Nat) : Canonical (widenNow n s) = true := by grind [widenNow, canonical_pauseBegin]

@[simp] theorem canonical_lanesNext (n : Nat) : Canonical (lanesNext n s) = true := by
  grind [lanesNext, canonical_weakAct, canonical_setLink, canonical_trainLane]

@[simp] theorem canonical_laneWeak (n k : Nat) : Canonical (laneWeak n k s) = true := by
  grind [laneWeak, canonical_twyEvent, canonical_setLink]

@[simp] theorem canonical_trainDone (n : Nat) (passed : Bool) : Canonical (trainDone n passed s) = true := by
  grind [trainDone, canonical_setLink, canonical_sendFrame, canonical_twyEvent, canonical_setLaneSt, canonical_ebbOrDown,
    canonical_laneSync, canonical_widenNow, canonical_lanesNext]

@[simp] theorem canonical_swapDone (n : Nat) : Canonical (swapDone n s) = true := by
  grind [swapDone, canonical_setReg, canonical_laneSync, canonical_setLaneSt, canonical_setLink, canonical_lanesNext,
    canonical_twyEvent, canonical_bump]

@[simp] theorem canonical_widthOverride (n cause : Nat) : Canonical (widthOverride n cause s) = true := by
  simp [widthOverride, hs]

@[simp] theorem canonical_linkOverrides (n : Nat) : Canonical (linkOverrides n s) = true := by
  grind [linkOverrides, canonical_overrideSet]

@[simp] theorem canonical_pauseEffect (n : Nat) (p : PauseFor) (want : Nat) : Canonical (pauseEffect n p want s) = true := by
  cases p with
  | loss => exact hs
  | retrain => exact hs
  | rate => exact canonical_twyEvent (canonical_setLink (canonical_laneSync (canonical_setF hs _ _ _) _) _ _) _ _ _ _ _
  | ebb =>
    exact canonical_widthOverride (canonical_twyEvent (canonical_bump (canonical_setActive (canonical_setLink
      (canonical_foldl (fun u a hu => canonical_ite (canonical_setLaneSt hu _ _ _) hu _) hs) _ _) _ _ _ _) _ _) _ _ _ _ _) _ _
  | widen => exact canonical_setActive hs _ _ _ _
  | narrow => exact canonical_setActive hs _ _ _ _

@[simp] theorem canonical_pauseDone (n : Nat) : Canonical (pauseDone n s) = true := by
  grind [pauseDone, canonical_setLink, canonical_setLinkState, canonical_twyEvent, canonical_pauseEffect, canonical_reportLinks,
    canonical_routesLocal, canonical_oversubUpdate, canonical_linkOverrides, canonical_lanesNext, canonical_twyFlush,
    canonical_mk, canonical_iff]

@[simp] theorem canonical_conflictEnd (n : Nat) : Canonical (conflictEnd n s) = true := by
  grind [conflictEnd, canonical_withdrawEnd, canonical_mk, canonical_iff]

@[simp] theorem canonical_linkActivate (n r w : Nat) : Canonical (linkActivate n r w s) = true := by
  grind [linkActivate, canonical_setLink, canonical_setLaneSt, canonical_setF, canonical_setActive, canonical_setReg,
    canonical_setLinkState, canonical_oversubUpdate, canonical_overrideSet, canonical_joinAsk, canonical_reportLinks,
    canonical_twyRetry, canonical_routesLocal, canonical_conflictEnd, canonical_foldl]

@[simp] theorem canonical_dwellDone (n : Nat) (lanes : BitVec 9) : Canonical (dwellDone n lanes s) = true := by
  grind [dwellDone, canonical_setLink, canonical_linkDown, canonical_linkActivate]

@[simp] theorem canonical_slotConflict (n : Nat) : Canonical (slotConflict n s) = true := by
  grind [slotConflict, canonical_mirrorLost, canonical_withdraw, canonical_post, canonical_mk, canonical_iff]

@[simp] theorem canonical_peerKnown (n d : Nat) (h : BitVec 384) : Canonical (peerKnown n d h s) = true := by
  grind [peerKnown, canonical_quarSync, canonical_routesLocal, canonical_post, canonical_toSteward, canonical_stewIdent,
    canonical_mk, canonical_iff]

@[simp] theorem canonical_drawKeys (n : Nat) : Canonical (drawKeys n s) = true := by
  grind [drawKeys, canonical_draw, canonical_setLink]

@[simp] theorem canonical_configTake (n die link : Nat) (mode enc : Bool) (maxRate version : Nat) (auth : Bool) (h : BitVec 384)
    :
    Canonical (configTake n die link mode enc maxRate version auth h s) = true := by
  grind [configTake, canonical_setF, canonical_twyEvent, canonical_configFail, canonical_post, canonical_peerKnown,
    canonical_slotConflict, canonical_drawKeys, canonical_setLinkState, canonical_setLink]

@[simp] theorem canonical_blockLock (n : Nat) : Canonical (blockLock n s) = true := by
  grind [blockLock, canonical_setLinkState, canonical_setLink, canonical_mk, canonical_iff]

@[simp] theorem canonical_detectTimeout (n : Nat) : Canonical (detectTimeout n s) = true := by
  grind [detectTimeout, canonical_twyEvent, canonical_setLinkState, canonical_setLink]

@[simp] theorem canonical_twyEnable (n : Nat) : Canonical (twyEnable n s) = true := by
  grind [twyEnable, canonical_twyDetect, canonical_setLink, canonical_setF]

@[simp] theorem canonical_twyRestore (n : Nat) : Canonical (twyRestore n s) = true := by
  grind [twyRestore, canonical_setLink, canonical_widenNow, canonical_lanesNext]

@[simp] theorem canonical_prbsStart (taps : Nat × Nat) (n k : Nat) : Canonical (prbsStart taps n k s) = true := by
  grind [prbsStart, canonical_draw, canonical_setLink, canonical_mk, canonical_iff]

@[simp] theorem canonical_twyTest (n : Nat) (farOk : Bool) : Canonical (twyTest n farOk s) = true := by
  grind [twyTest, canonical_linkDown, canonical_post, canonical_setF, canonical_setLinkState, canonical_setLink,
    canonical_prbsStart, canonical_foldl]

@[simp] theorem canonical_publishLanes (n : Nat) (rates : List (BitVec 16)) (seen : List LaneSeen) :
    Canonical (publishLanes n rates seen s) = true := by
  unfold publishLanes
  refine canonical_foldl (fun t x ht => ?_) hs
  simp [ht]

@[simp] theorem canonical_findWeak (n : Nat) : Canonical (findWeak n s) = true := by
  unfold findWeak
  refine canonical_foldl (fun t x ht => ?_) hs
  grind [canonical_setLink, canonical_laneWeak, canonical_mk, canonical_iff]

@[simp] theorem canonical_rateLoop (n : Nat) : Canonical (rateLoop n s) = true := by
  grind [rateLoop, canonical_setLink, canonical_pauseBegin, canonical_clampEnd, canonical_clampBegin]

@[simp] theorem canonical_testWindow (n : Nat) (seen : List LaneSeen) : Canonical (testWindow n seen s) = true := by
  grind [testWindow, canonical_bumpBy, canonical_setLink, canonical_foldl]

@[simp] theorem canonical_errorWindow (n : Nat) : Canonical (errorWindow n s) = true := by
  grind [errorWindow, canonical_setLink, canonical_lanesNext, canonical_laneWeak]

@[simp] theorem canonical_trialEnd (n : Nat) : Canonical (trialEnd n s) = true := by
  grind [trialEnd, canonical_setLink, canonical_pauseBegin]

@[simp] theorem canonical_widthWindow (n : Nat) (long : Bool) (load : Nat) : Canonical (widthWindow n long load s) = true := by
  grind [widthWindow, canonical_clampSet, canonical_pauseBegin, canonical_clampEnd, canonical_widenNow]

@[simp] theorem canonical_keyUpdate (n : Nat) (tx : Bool) : Canonical (keyUpdate n tx s) = true := by simp [keyUpdate, hs]

/-! #### Machine/Breakwater -/

omit hs in
theorem canonical_railsFollow (before : State) {u : State} (hu : Canonical u = true) : Canonical (railsFollow before u) = true := by
  unfold railsFollow
  refine canonical_foldl (fun t h ht => ?_) hu
  split
  · exact ht
  · exact canonical_of_stores ht rfl rfl rfl

@[simp] theorem canonical_coveTarget (c : Nat) : Canonical (coveTarget c s) = true := by simp [coveTarget, hs]

@[simp] theorem canonical_coveTargets : Canonical (coveTargets s) = true :=
  canonical_railsFollow _ (canonical_foldl (fun _ _ hu => canonical_ite hu (canonical_coveTarget hu _) _) hs)

@[simp] theorem canonical_fcodeUpdate (cause : Nat) : Canonical (fcodeUpdate cause s) = true := by
  grind [fcodeUpdate, canonical_coveTargets, canonical_setF, canonical_overrideSet]

@[simp] theorem canonical_avfsWindow (pct : Nat) : Canonical (avfsWindow pct s) = true := by
  grind [avfsWindow, canonical_fcodeUpdate, canonical_clampEnd, canonical_clampBegin, canonical_mk, canonical_iff]

@[simp] theorem canonical_avfsVoltageStep (low spare : BitVec 16) : Canonical (avfsVoltageStep low spare s) = true := by
  unfold avfsVoltageStep
  refine canonical_railsFollow _ (canonical_foldl (fun u c hu => ?_) hs)
  dsimp only
  (repeat' split) <;> grind [canonical_setF, canonical_mk, canonical_iff]

@[simp] theorem canonical_avsDone (k : Nat) (mv : Option Nat) : Canonical (avsDone k mv s) = true := by
  cases mv with
  | some v => exact canonical_setF (canonical_setF ((canonical_mk ..).mpr (canonical_iff.mp hs)) _ _ _) _ _ _
  | none =>
    have h1 : Canonical { s with brk := { s.brk with avsMiss := mapSet s.brk.avsMiss k 0 (min (mapGet s.brk.avsMiss k 0 + 1) 3) } }
        = true := (canonical_mk ..).mpr (canonical_iff.mp hs)
    exact canonical_ite (canonical_post (canonical_setF h1 _ _ _) _) h1 _

@[simp] theorem canonical_gateCove (c : Nat) : Canonical (gateCove c s) = true := by
  grind [gateCove, canonical_setReg, canonical_setF]

@[simp] theorem canonical_wakeCove (c : Nat) : Canonical (wakeCove c s) = true :=
  canonical_ite (canonical_railsFollow _ (canonical_coveTarget (canonical_setF hs _ _ _) _)) hs _

@[simp] theorem canonical_coveWoken (c : Nat) : Canonical (coveWoken c s) = true := by
  grind [coveWoken, canonical_setReg, canonical_setF, canonical_bump, canonical_adjMove, canonical_mk, canonical_iff]

@[simp] theorem canonical_wakeHeld : Canonical (wakeHeld s) = true := by
  unfold wakeHeld
  refine canonical_foldl (fun t x ht => ?_) hs
  simp [ht]

@[simp] theorem canonical_slackEntry : Canonical (slackEntry s) = true :=
  canonical_railsFollow _ (canonical_setF
    (canonical_foldl (fun _ c hu => canonical_gateCove hu c) (canonical_selfRefreshOn hs)) _ _ _)

@[simp] theorem canonical_slackLeave : Canonical (slackLeave s) = true := by
  grind [slackLeave, canonical_setF, canonical_slackRetrain, canonical_wakeHeld, canonical_wakeCove, canonical_foldl]

@[simp] theorem canonical_scrubBurstEnd (c : Nat) : Canonical (scrubBurstEnd c s) = true := by
  have h1 := canonical_burstDone hs c
  unfold scrubBurstEnd
  exact canonical_ite (canonical_ite (canonical_railsFollow _ (canonical_gateCove h1 c)) h1 _) hs _

@[simp] theorem canonical_droopSync : Canonical (droopSync s) = true := by grind [droopSync, canonical_setF, canonical_foldl]

@[simp] theorem canonical_droopTrip (src : Nat) : Canonical (droopTrip src s) = true := by
  grind [droopTrip, canonical_bump, canonical_droopSync, canonical_foldl, canonical_mk, canonical_iff]

@[simp] theorem canonical_railStep (k mean : Nat) (calm : Bool) : Canonical (railStep k mean calm s) = true := by
  grind [railStep, canonical_setF, canonical_post, canonical_bump, canonical_fcodeUpdate, canonical_mk, canonical_iff]

@[simp] theorem canonical_currentSample (j lo hi mv : Nat) : Canonical (currentSample j lo hi mv s) = true := by
  grind [currentSample, canonical_setReg, canonical_add64, canonical_mk, canonical_iff]

@[simp] theorem canonical_throttleBegin : Canonical (throttleBegin s) = true := by
  grind [throttleBegin, canonical_fcodeUpdate, canonical_post, canonical_bump, canonical_setF, canonical_mk, canonical_iff]

@[simp] theorem canonical_tempSample (t : Nat) (q : BitVec 12) (fail : Bool) : Canonical (tempSample t q fail s) = true := by
  grind [tempSample, canonical_setF, canonical_post, canonical_throttleBegin, canonical_refreshUpdate, canonical_mk,
    canonical_iff]

@[simp] theorem canonical_throttleRelease : Canonical (throttleRelease s) = true := by
  grind [throttleRelease, canonical_fcodeUpdate, canonical_setF, canonical_mk, canonical_iff]

@[simp] theorem canonical_thermalTrip (t : Nat) : Canonical (thermalTrip t s) = true := by
  grind [thermalTrip, canonical_fatal, canonical_selfRefreshOn, canonical_mk, canonical_iff]

@[simp] theorem canonical_cdLimitUpdate : Canonical (cdLimitUpdate s) = true := by
  unfold cdLimitUpdate
  refine canonical_foldl (fun t x ht => ?_) hs
  grind [canonical_setF, canonical_mk, canonical_iff]

@[simp] theorem canonical_cdWindow (p : Nat) : Canonical (cdWindow p s) = true := by
  grind [cdWindow, canonical_post, canonical_mk, canonical_iff]

@[simp] theorem canonical_raisePend (clamp : Bool) : Canonical (raisePend clamp s) = true := by
  grind [raisePend, canonical_raiseVec, canonical_setF]

@[simp] theorem canonical_clampDuration (loop inst : Nat) : Canonical (clampDuration loop inst s) = true := by
  grind [clampDuration, canonical_raisePend, canonical_mk, canonical_iff]

/-! #### Machine/Reckon -/

@[simp] theorem canonical_classNote (q : Nat) (x : TQueue) (c : Cmd) : Canonical (classNote q x c s) = true := by
  simp [classNote, hs]

@[simp] theorem canonical_reckonBegin (e q : Nat) (x : TQueue) (b : Batch) (c : Cmd) (l : List Opnd) :
    Canonical (reckonBegin e q x b c l s) = true := by
  grind [reckonBegin, canonical_classNote, canonical_draw, canonical_jDispatch, canonical_nextLaunch, canonical_placeLoop,
    canonical_sendLaunch, canonical_dispatch]

@[simp] theorem canonical_reckonStart (e q : Nat) (x : TQueue) (b : Batch) (c : Cmd) (l : List Opnd) :
    Canonical (reckonStart e q x b c l s) = true := by
  simp [reckonStart, hs]

@[simp] theorem canonical_reckonRead (x : TQueue) (c : Cmd) (i : Inst) (role : Nat) :
    Canonical (reckonRead x c i role s).2.2.2 = true := by
  unfold reckonRead
  split
  · exact hs
  · refine canonical_foldl_at (fun a : List Sector × Nat × Bool × State => a.2.2.2) (fun a k ha => ?_) hs
    split
    · exact ha
    · next y _ =>
      have := canonical_engRead ha y i.snap.mark x.eng x.asid
      split <;> grind

@[simp] theorem canonical_endLaunch (id : Nat) : Canonical (endLaunch id s) = true := by
  unfold endLaunch
  refine canonical_foldl (fun t x ht => ?_) hs
  grind [canonical_endInstance, canonical_mk, canonical_iff]

@[simp] theorem canonical_verdictNotes (q : Nat) (x : TQueue) (asn : Nat) (i : Inst) (v : Verdict) (st : Nat) :
    Canonical (verdictNotes q x asn i v st s) = true := by
  grind [verdictNotes, canonical_bump, canonical_set64, canonical_setF, canonical_post]

@[simp] theorem canonical_reckonDone (q asn dseq held : Nat) : Canonical (reckonDone q asn dseq held s) = true := by
  grind [reckonDone, canonical_runAgain, canonical_whenReached, canonical_endLaunch, canonical_add64, canonical_reckonRead,
    canonical_verdictNotes, canonical_putInst]

@[simp] theorem canonical_writeRecord (q : Nat) (b : Batch) (i : Inst) : Canonical (writeRecord q b i s) = true := by
  grind [writeRecord, canonical_hostSend, canonical_modBatch]

@[simp] theorem canonical_tlyErr (e : Nat) : Canonical (tlyErr e s) = true := by simp [tlyErr, hs]

@[simp] theorem canonical_tlyCtxWrite (asid : Nat) : Canonical (tlyCtxWrite asid s) = true := by
  grind [tlyCtxWrite, canonical_tlyErr, canonical_mk, canonical_iff]

@[simp] theorem canonical_tlyCtxRead (asid : Nat) : Canonical (tlyCtxRead asid s) = true := by
  grind [tlyCtxRead, canonical_tlyErr, canonical_setReg]

end

end Sys2Proof.Machine

end


section
/-! PROOF (O4). The canonical form is kept: commits, the image, Headland, the host port and start-up. -/

namespace Sys2Proof.Machine

section
variable {s : State} (hs : Canonical s = true)
include hs

/-! #### Machine/Commit -/

@[simp] theorem canonical_commitOr (q first dseq st : Nat) : Canonical (commitOr q first dseq st s) = true := by
  grind [commitOr, canonical_stageInst, canonical_dealAll, canonical_failInst]

@[simp] theorem canonical_commitReckon (q : Nat) (b : Batch) (i : Inst) (st held : Nat) :
    Canonical (commitReckon q b i st held s) = true := by
  grind [commitReckon, canonical_add64, canonical_setQueue, canonical_stageInst, canonical_putInst]

@[simp] theorem canonical_gatherFinish (q : Nat) (x : TQueue) (b : Batch) (c : Cmd) (i : Inst) (noise : Option (Nat × BitVec
    512)) :
    Canonical (gatherFinish q x b c i noise s).2 = true := by
  grind [gatherFinish, canonical_transferStatus, canonical_ferryFinish]

@[simp] theorem canonical_gatherGo (q first dseq : Nat) : Canonical (gatherGo q first dseq s) = true := by
  grind [gatherGo, canonical_putGo, canonical_getGo, canonical_collArrived, canonical_collGo]

@[simp] theorem canonical_commandCommit (q asn dseq : Nat) (noise : Option (Nat × BitVec 512)) (held : Nat) :
    Canonical (commandCommit q asn dseq noise held s) = true := by
  grind [commandCommit, canonical_stageInst, canonical_ferryPump, canonical_whenReached, canonical_ferryFinish,
    canonical_transferStatus, canonical_commitOr, canonical_gatherGo, canonical_gatherFinish, canonical_commitReckon,
    canonical_runAgain]

@[simp] theorem canonical_localSignal (b : Batch) (i : Inst) : Canonical (localSignal b i s) = true := by simp [localSignal, hs]

@[simp] theorem canonical_applyInst (q : Nat) (b : Batch) (i : Inst) : Canonical (applyInst q b i s) = true := by
  unfold applyInst
  extract_lets x s1 s2 s3 far s4 s5
  have h1 : Canonical s1 = true := by
    unfold s1
    split
    · exact canonical_foldl (fun u p hu => canonical_stageCopy hu x i true p) hs
    · exact hs
  clear_value s1
  have h2 : Canonical s2 = true :=
    canonical_foldl (fun u p hu => canonical_ite (canonical_counterSet hu _ _) (canonical_counterAdd hu _ _) _) h1
  clear_value s2
  have h3 : Canonical s3 = true := canonical_writeRecord (canonical_localSignal h2 _ _) _ _ _
  clear_value s3
  have h4 : Canonical s4 = true := canonical_ite (canonical_putOut h3 _ _ _ _) h3 _
  clear_value s4
  have h5 : Canonical s5 = true := canonical_modBatch (canonical_jAppend h4 _ _ _ _ _) _ _ _
  clear_value s5
  exact canonical_ite h5 (canonical_finishInst h5 _ _ _) _

@[simp] theorem canonical_stagedApply (q : Nat) : Canonical (stagedApply q s) = true := by
  grind [stagedApply, canonical_whenReached, canonical_applyInst]

@[simp] theorem canonical_applyAll (n q : Nat) : Canonical (applyAll n q s) = true := by
  induction n generalizing s with
  | zero => exact hs
  | succ n ih =>
    rw [applyAll]
    split
    · exact hs
    · exact ih (canonical_applyInst hs _ _ _)

@[simp] theorem canonical_engineTimeout (t a tag : Nat) : Canonical (engineTimeout t a tag s) = true := by
  grind [engineTimeout, canonical_post, canonical_bump, canonical_sendAborts, canonical_putInst]

/-! #### Machine/Image -/

@[simp] theorem canonical_showFwu : Canonical (showFwu s) = true := by grind [showFwu, canonical_setF]

@[simp] theorem canonical_setComp (k st : Nat) (err : Option Nat) : Canonical (setComp k st err s) = true := by
  have h1 := canonical_setF hs F.FWU_COMPST.STATE k st
  cases err with
  | none => exact canonical_showFwu h1
  | some e => exact canonical_showFwu (canonical_setF h1 _ _ _)

/-! #### Machine/Headland -/

@[simp] theorem canonical_mailbox {f : State → Nat × List Nat × State} (hf : Canonical (f s).2.2 = true) :
    Canonical (mailbox f s) = true := by
  grind [mailbox, canonical_post, canonical_setF, canonical_mk, canonical_iff]

@[simp] theorem canonical_drawKey (slot gen : Nat) : Canonical (drawKey slot gen s) = true := by simp [drawKey, hs]

@[simp] theorem canonical_keyGen : Canonical (keyGen s).2.2 = true := by grind [keyGen, canonical_setF, canonical_drawKey]

@[simp] theorem canonical_keyRotate : Canonical (keyRotate s).2.2 = true := by
  grind [keyRotate, canonical_rotationStart, canonical_setF, canonical_drawKey]

@[simp] theorem canonical_keyDestroy : Canonical (keyDestroy s).2.2 = true := by
  grind [keyDestroy, canonical_setF, canonical_mk, canonical_iff]

@[simp] theorem canonical_setRoot (gen both : Nat) : Canonical (setRoot gen both s) = true := by
  grind [setRoot, canonical_setF, canonical_mk, canonical_iff]

@[simp] theorem canonical_drawRoot (gen : Nat) : Canonical (drawRoot gen s) = true := by simp [drawRoot, hs]

@[simp] theorem canonical_rootRotate : Canonical (rootRotate s).2.2 = true := by
  grind [rootRotate, canonical_setRoot, canonical_drawRoot]

@[simp] theorem canonical_rootRetire : Canonical (rootRetire s).2.2 = true := by
  grind [rootRetire, canonical_setRoot, canonical_mk, canonical_iff]

@[simp] theorem canonical_enrol : Canonical (enrol s) = true := by
  unfold enrol
  dsimp only
  split
  · exact canonical_mailbox hs (by split <;> simp [hs])
  · exact canonical_toSteward (canonical_setF ((canonical_mk ..).mpr (canonical_iff.mp hs)) _ _ _) _ _ _ _ (fun _ ht => ht)

@[simp] theorem canonical_bufWrite (bs : List Byte) : Canonical (bufWrite bs s) = true := by
  unfold bufWrite
  refine canonical_foldl (fun t x ht => ?_) hs
  simp [ht]

@[simp] theorem canonical_rosterDump : Canonical (rosterDump s) = true := by grind [rosterDump, canonical_setF, canonical_foldl]

@[simp] theorem canonical_setSpdm (who : Nat) (c : Spdm) : Canonical (setSpdm who c s) = true := by simp [setSpdm, hs]

@[simp] theorem canonical_spdmServe (who : Nat) (r : SpdmReq) : Canonical (spdmServe who r s).2 = true := by
  unfold spdmServe
  dsimp only
  split <;> simp [hs]

@[simp] theorem canonical_spdmRequest (src : SpdmFrom) : Canonical (spdmRequest src s) = true := by
  cases src with
  | mctp t r => grind [spdmRequest, canonical_spdmServe, canonical_mk, canonical_iff]
  | link n => exact canonical_memberServe hs _ _ (fun m u hu => by grind [canonical_spdmServe, canonical_twySend])

@[simp] theorem canonical_getRecordKey (who asid gen : Nat) : Canonical (getRecordKey who asid gen s) = true := by
  simp [getRecordKey, hs]

@[simp] theorem canonical_dropWait (tag : Nat) : Canonical (dropWait tag s) = true := by simp [dropWait, hs]

@[simp] theorem canonical_fillPage (w : AtsWait) (p : Page) : Canonical (fillPage w p s) = true := by
  grind [fillPage, canonical_fillL2, canonical_advise, canonical_fillL1]

@[simp] theorem canonical_pageResult (w : AtsWait) (p : Option Page) (code : Nat) : Canonical (pageResult w p code s) = true := by
  have h0 := canonical_dropWait hs w.tag
  unfold pageResult
  extract_lets s0 s1 x
  have h1 : Canonical s1 = true := by
    unfold s1
    split
    · exact canonical_ite h0 (canonical_fillPage h0 _ _) _
    · exact h0
  clear_value s1
  split
  · exact h1
  · exact h1
  · exact canonical_ite (canonical_setQueue h1 _ _) h1 _
  · split
    · exact h1
    · exact canonical_batchGo (canonical_setQueue h1 _ _) _

@[simp] theorem canonical_pageRequest (w : AtsWait) : Canonical (pageRequest w s) = true := by simp [pageRequest, hs]

@[simp] theorem canonical_priRelease (fuel f : Nat) : Canonical (priRelease fuel f s) = true := by
  induction fuel generalizing s with
  | zero => exact hs
  | succ fuel ih =>
    simp only [priRelease]
    (repeat' split) <;> grind [canonical_pageResult, canonical_pageRequest]

@[simp] theorem canonical_repeatAts (w : AtsWait) (again : Bool) : Canonical (repeatAts w again s) = true := by
  grind [repeatAts, canonical_dropWait, canonical_sendAts]

@[simp] theorem canonical_atsCompletion (tag : Nat) (ok : Bool) (addr size : Nat) (r wr : Bool) :
    Canonical (atsCompletion tag ok addr size r wr s) = true := by
  grind [atsCompletion, canonical_repeatAts, canonical_pageResult, canonical_pageRequest]

@[simp] theorem canonical_atsTimeout (tag : Nat) : Canonical (atsTimeout tag s) = true := by
  grind [atsTimeout, canonical_pageResult]

@[simp] theorem canonical_prgResponse (tag code : Nat) : Canonical (prgResponse tag code s) = true := by
  unfold prgResponse
  split
  · exact hs
  dsimp only
  split
  · exact hs
  · refine canonical_priRelease ?_ _ _
    (repeat' split) <;> grind [canonical_repeatAts, canonical_post, canonical_pageResult, canonical_mk, canonical_iff]

@[simp] theorem canonical_priTimeout (tag : Nat) : Canonical (priTimeout tag s) = true := by
  unfold priTimeout
  split
  · exact hs
  · exact canonical_ite hs (canonical_priRelease (canonical_pageResult hs _ _ _) _ _) _

@[simp] theorem canonical_priEnable (f alloc : Nat) : Canonical (priEnable f alloc s) = true :=
  canonical_priRelease ((canonical_mk ..).mpr (canonical_iff.mp hs)) _ _

@[simp] theorem canonical_invTimeout : Canonical (invTimeout s) = true := by
  grind [invTimeout, canonical_endInst, canonical_invFinish, canonical_post, canonical_setF, canonical_foldl]

/-! #### Machine/Pci -/

@[simp] theorem canonical_pciLinkUp (speed width : Nat) (flit : Bool) : Canonical (pciLinkUp speed width flit s) = true := by
  grind [pciLinkUp, canonical_setReg, canonical_hostFlush, canonical_post]

@[simp] theorem canonical_pciLinkDown : Canonical (pciLinkDown s) = true := by
  grind [pciLinkDown, canonical_post, canonical_setReg]

@[simp] theorem canonical_dropRead (tag : Nat) : Canonical (dropRead tag s) = true := by simp [dropRead, hs]

@[simp] theorem canonical_readFailed (tag : Nat) : Canonical (readFailed tag s) = true := by
  grind [readFailed, canonical_dropRead, canonical_refuseBatch, canonical_sendAborts, canonical_putInst, canonical_failInst]

@[simp] theorem canonical_readData (tag : Nat) (data : List Sector) (poison : Bool) :
    Canonical (readData tag data poison s) = true := by
  grind [readData, canonical_dropRead, canonical_setQueue, canonical_putInst, canonical_ferryPump, canonical_putGo,
    canonical_collArrived]

@[simp] theorem canonical_readCompletion (tag : Nat) (data : List Sector) (poison ok : Bool) :
    Canonical (readCompletion tag data poison ok s) = true := by
  grind [readCompletion, canonical_readFailed, canonical_add64, canonical_bump, canonical_readData]

@[simp] theorem canonical_completionTimeout (tag : Nat) : Canonical (completionTimeout tag s) = true := by
  grind [completionTimeout, canonical_readFailed, canonical_post, canonical_bump]

@[simp] theorem canonical_closeQueue (q : Nat) : Canonical (closeQueue q s) = true := by
  grind [closeQueue, canonical_abortBatch, canonical_unhold, canonical_destroyQueue, canonical_applyAll, canonical_foldl]

@[simp] theorem canonical_queueDestroy (q : Nat) : Canonical (queueDestroy q s) = true := by
  grind [queueDestroy, canonical_qErr, canonical_closeQueue]

@[simp] theorem canonical_vfFlr (v : Nat) : Canonical (vfFlr v s) = true := by
  grind [vfFlr, canonical_abortQueue, canonical_closeQueue, canonical_invStart, canonical_tryLost, canonical_setReg,
    canonical_foldl, canonical_mk, canonical_iff]

@[simp] theorem canonical_msixUnmask (v : Nat) : Canonical (msixUnmask v s) = true := by
  grind [msixUnmask, canonical_hostSend, canonical_mk, canonical_iff]

@[simp] theorem canonical_vfEnable (n : Nat) : Canonical (vfEnable n s) = true := by simp [vfEnable, hs]

/-! #### Machine/Startup -/

omit hs in
theorem canonical_keepRegs (rs : List Reg) (before : State) {t : State} (ht : Canonical t = true) :
    Canonical (keepRegs rs before t) = true := by
  unfold keepRegs
  exact canonical_foldl (fun u r hu => canonical_foldl (fun v i hv => canonical_setReg hv _ _ _) hu) ht

@[simp] theorem canonical_dropReceiving : Canonical (dropReceiving s) = true := by
  grind [dropReceiving, canonical_setF, canonical_foldl, canonical_mk, canonical_iff]

@[simp] theorem canonical_applyRate : Canonical (applyRate s) = true := by
  grind [applyRate, canonical_setF, canonical_mk, canonical_iff]

omit hs in
@[simp] theorem canonical_coldState (s : State) : Canonical (coldState s) = true := by
  unfold coldState
  exact canonical_applyRate (canonical_showFwu (canonical_setF (canonical_dropReceiving (canonical_keepRegs _ _
    ((canonical_mk ..).mpr ⟨rfl, rfl, rfl⟩))) _ _ _))

@[simp] theorem canonical_trainHost : Canonical (trainHost s) = true := by simp [trainHost, hs]

omit hs in
@[simp] theorem canonical_coldReset (cause : Nat) (s : State) : Canonical (coldReset cause s) = true := by
  unfold coldReset
  exact canonical_trainHost (canonical_setF (canonical_of_stores (canonical_coldState s) rfl rfl rfl) _ _ _)

@[simp] theorem canonical_resetRelease (tray slot : Nat) (sbsel recov : Bool) :
    Canonical (resetRelease tray slot sbsel recov s) = true := by
  grind [resetRelease, canonical_setF, canonical_trainHost, canonical_setPhase, canonical_mk, canonical_iff]

@[simp] theorem canonical_enterRecovery (reason : Nat) : Canonical (enterRecovery reason s) = true := by
  simp [enterRecovery, hs]

@[simp] theorem canonical_readConfig : Canonical (readConfig s) = true := by
  grind [readConfig, canonical_post, canonical_setReg, canonical_mk, canonical_iff]

@[simp] theorem canonical_rosterInForce : Canonical (rosterInForce s) = true := by
  grind [rosterInForce, canonical_quarSync, canonical_setReg, canonical_ownQuarSync, canonical_foldl]

@[simp] theorem canonical_headStart : Canonical (headStart s) = true := by
  grind [headStart, canonical_readConfig, canonical_setF, canonical_rosterInForce, canonical_setRoot, canonical_drawRoot,
    canonical_post, canonical_setPhase, canonical_mk, canonical_iff]

@[simp] theorem canonical_hbootGo (flash : Bool) : Canonical (hbootGo flash s) = true := by
  grind [hbootGo, canonical_enterRecovery, canonical_headStart, canonical_mk, canonical_iff]

@[simp] theorem canonical_hbootDone (ok flash : Bool) : Canonical (hbootDone ok flash s) = true := by
  grind [hbootDone, canonical_dieStop, canonical_hbootGo]

@[simp] theorem canonical_portsStart : Canonical (portsStart s) = true := by
  unfold portsStart
  refine canonical_foldl (fun t x ht => ?_) hs
  simp [ht]

@[simp] theorem canonical_powerDone (unlocked : Option (Fin 4)) : Canonical (powerDone unlocked s) = true := by
  unfold powerDone
  split
  · exact hs
  split
  · exact canonical_fatal hs _
  · exact canonical_foldl (fun u n hu => canonical_twyDetect hu n) (canonical_portsStart (canonical_setPhase
      (canonical_evReady (canonical_isthmusTrain (canonical_coveWoken (canonical_wakeCove hs _) _))) _))

@[simp] theorem canonical_bringupDone : Canonical (bringupDone s) = true := by
  grind [bringupDone, canonical_setPhase, canonical_mk, canonical_iff]

omit hs in
@[simp] theorem canonical_restartPower (cause : Nat) (s : State) : Canonical (restartPower cause s) = true := by
  unfold restartPower
  extract_lets src t
  have ht : Canonical t = true := canonical_keepRegs headRegs s
    ((canonical_mk ..).mpr (canonical_iff.mp (canonical_coldState s)))
  clear_value t
  exact canonical_setPhase (canonical_setF ((canonical_mk ..).mpr (canonical_iff.mp ht)) _ _ _) _

@[simp] theorem canonical_warmSource (cause : Nat) : Canonical (warmSource cause s) = true := by
  grind [warmSource, canonical_setF, canonical_restartPower, canonical_mk, canonical_iff]

omit hs in
@[simp] theorem canonical_commandedCold (cause : Nat) (s : State) : Canonical (commandedCold cause s) = true :=
  canonical_coldReset cause _

@[simp] theorem canonical_memDrain (m : Nat) : Canonical (memDrain s m) = true := by
  grind [memDrain, canonical_memComplete, canonical_setMemQueue, canonical_foldl]

@[simp] theorem canonical_memPark : Canonical (memPark s) = true := by
  grind [memPark, canonical_memZeroFillDone, canonical_selfRefreshOn, canonical_memDrain, canonical_foldl, canonical_mk,
    canonical_iff]

@[simp] theorem canonical_hostHold : Canonical (hostHold s) = true := by simp [hostHold, hs]

@[simp] theorem canonical_blocksReset : Canonical (blocksReset s) = true := by
  grind [blocksReset, canonical_setPort, canonical_setF, canonical_gateCove, canonical_foldl, canonical_mk, canonical_iff]

@[simp] theorem canonical_portReset : Canonical (portReset s) = true := by simp [portReset, hs]

@[simp] theorem canonical_warmReset : Canonical (warmReset s) = true := by
  grind [warmReset, canonical_slackLeave, canonical_leaseRelease, canonical_toSteward, canonical_setF, canonical_bump,
    canonical_setPhase, canonical_portReset, canonical_dropReceiving, canonical_blocksReset, canonical_hostHold,
    canonical_memPark, canonical_mk, canonical_iff]

@[simp] theorem canonical_applyStaged (fuel q : Nat) : Canonical (applyStaged fuel q s) = true := by
  induction fuel generalizing s with
  | zero => exact hs
  | succ fuel ih =>
    rw [applyStaged]
    split
    · exact hs
    · exact canonical_ite (ih (canonical_applyInst hs _ _ _)) hs _

@[simp] theorem canonical_releaseAgain (q : Nat) : Canonical (releaseAgain q s) = true := by
  grind [releaseAgain, canonical_bump, canonical_putOut, canonical_foldl]

@[simp] theorem canonical_invDrain (fuel : Nat) : Canonical (invDrain fuel s) = true := by
  induction fuel generalizing s with
  | zero => exact hs
  | succ fuel ih => exact ih (canonical_invComplete hs)

@[simp] theorem canonical_logRecover : Canonical (logRecover s) = true := by
  unfold logRecover
  extract_lets src s0 qs s1 s2 n
  have h0 : Canonical s0 = true := canonical_invDrain ((canonical_mk ..).mpr (canonical_iff.mp hs)) _
  clear_value s0
  have h1 : Canonical s1 = true := canonical_foldl (fun u q hu => canonical_applyStaged (canonical_releaseAgain hu q) _ q) h0
  clear_value s1
  have h2 : Canonical s2 = true := canonical_foldl (fun u q hu => canonical_foldl (fun v r hv => canonical_hostSend hv r) hu) h1
  clear_value s2
  exact canonical_bump (canonical_bumpBy h2 _ _ _) _ _

@[simp] theorem canonical_recoverDone (bad : Bool) : Canonical (recoverDone bad s) = true := by
  grind [recoverDone, canonical_fatal, canonical_logRecover, canonical_setPhase, canonical_mk, canonical_iff]

@[simp] theorem canonical_takeoverAsk : Canonical (takeoverAsk s) = true := by simp [takeoverAsk, hs]

@[simp] theorem canonical_warmReturn (failed : Option ChanId) (bad : Bool) : Canonical (warmReturn failed bad s) = true := by
  unfold warmReturn
  split
  · split
    · exact canonical_fatal hs _
    · extract_lets rate steps src s1 s2
      have h1 : Canonical s1 = true := canonical_selfRefreshOff ((canonical_mk ..).mpr (canonical_iff.mp hs))
      clear_value s1
      have h2 : Canonical s2 = true :=
        canonical_setPhase (canonical_wakeHeld (canonical_portsStart (canonical_isthmusTrain h1))) _
      clear_value s2
      split
      · exact canonical_takeoverAsk h2
      · exact canonical_recoverDone ((canonical_mk ..).mpr (canonical_iff.mp h2)) _
  · exact canonical_ite (canonical_recoverDone hs _) hs _

@[simp] theorem canonical_leaveStart : Canonical (leaveStart s) = true := by
  grind [leaveStart, canonical_toSteward, canonical_stewLeaving, canonical_setF, canonical_leaseRelease]

@[simp] theorem canonical_leaveComplete : Canonical (leaveComplete s) = true := by
  grind [leaveComplete, canonical_shutLinks, canonical_setF, canonical_toSteward, canonical_stewLeft]

@[simp] theorem canonical_rejoin : Canonical (rejoin s) = true := by
  grind [rejoin, canonical_joinAsk, canonical_setMember, canonical_setF]

@[simp] theorem canonical_clockLoss : Canonical (clockLoss s) = true := by
  grind [clockLoss, canonical_linkDown, canonical_post, canonical_foldl, canonical_mk, canonical_iff]

end

end Sys2Proof.Machine

end


section
/-! PROOF (O4). The canonical form is kept: firmware update, regulation, the register file and received frames. -/

namespace Sys2Proof.Machine

section
variable {s : State} (hs : Canonical s = true)
include hs

/-! #### Machine/Firmware -/

@[simp] theorem canonical_fwuCommand {f : State → Nat × Nat × State} (hf : Canonical (f s).2.2 = true) :
    Canonical (fwuCommand f s) = true := by
  grind [fwuCommand, canonical_post, canonical_setF, canonical_mk, canonical_iff]

@[simp] theorem canonical_putReceived (k : Nat) (im : List Byte) : Canonical (putReceived k im s) = true := by
  grind [putReceived, canonical_showFwu, canonical_mk, canonical_iff]

@[simp] theorem canonical_setSession (x : Option (Option Transport × Nat)) : Canonical (setSession x s) = true := by
  simp [setSession, hs]

@[simp] theorem canonical_setOutcome (k st : Nat) (err : Option Nat) : Canonical (setOutcome k st err s) = true := by
  unfold setOutcome
  split
  · split
    · exact canonical_setF hs _ _ _
    · exact hs
  · exact canonical_setComp hs _ _ _

@[simp] theorem canonical_startComp (k : Nat) : Canonical (startComp k s) = true := by
  grind [startComp, canonical_setOutcome, canonical_setF, canonical_putReceived]

@[simp] theorem canonical_eraseComp (k : Nat) : Canonical (eraseComp k s) = true := by
  grind [eraseComp, canonical_setOutcome, canonical_setF, canonical_putReceived]

@[simp] theorem canonical_takeBytes (k : Nat) (bs : List Byte) : Canonical (takeBytes k bs s).2 = true := by
  grind [takeBytes, canonical_setOutcome, canonical_putReceived, canonical_setF]

@[simp] theorem canonical_finishComp (k : Nat) : Canonical (finishComp k s).2 = true := by simp [finishComp, hs]

@[simp] theorem canonical_fwuBegin : Canonical (fwuBegin s).2.2 = true := by
  grind [fwuBegin, canonical_setSession, canonical_startComp]

@[simp] theorem canonical_fwuChunk : Canonical (fwuChunk s).2.2 = true := by
  grind [fwuChunk, canonical_takeBytes, canonical_setSession]

@[simp] theorem canonical_fwuEnd : Canonical (fwuEnd s).2.2 = true := by
  grind [fwuEnd, canonical_finishComp, canonical_setSession]

@[simp] theorem canonical_fwuCancel : Canonical (fwuCancel s).2.2 = true := by
  grind [fwuCancel, canonical_setSession, canonical_eraseComp]

@[simp] theorem canonical_fwuComplete (flash : Bool) : Canonical (fwuComplete flash s) = true := by
  grind [fwuComplete, canonical_setSession, canonical_setOutcome, canonical_setF, canonical_mk, canonical_iff]

@[simp] theorem canonical_recovExit : Canonical (recovExit s) = true := by
  unfold recovExit
  split
  · exact canonical_commandedCold 3 _
  · exact canonical_fwuCommand hs hs

@[simp] theorem canonical_setRollout (r : Rollout) : Canonical (setRollout r s) = true := by simp [setRollout, hs]

@[simp] theorem canonical_activateHere (d : Nat) (wide : Bool) (fleet : List FleetReport) :
    Canonical (activateHere d wide fleet s).2 = true := by
  grind [activateHere, canonical_decideAll, canonical_setRollout, canonical_foldl]

@[simp] theorem canonical_activate (wide : Bool) (delay : Nat) (fleet : List FleetReport) :
    Canonical (activate wide delay fleet s).2 = true := by
  grind [activate, canonical_activateHere, canonical_toSteward]

@[simp] theorem canonical_turnOver (d : Nat) : Canonical (turnOver d s) = true := by
  grind [turnOver, canonical_decideAll, canonical_setRollout]

@[simp] theorem canonical_setAct (st marker : Nat) : Canonical (setAct st marker s) = true := by simp [setAct, hs]

@[simp] theorem canonical_turnObey : Canonical (turnObey s) = true := by
  grind [turnObey, canonical_setF, canonical_leaveStart, canonical_leaseRelease, canonical_post, canonical_setAct, canonical_mk,
    canonical_iff]

@[simp] theorem canonical_turnStart : Canonical (turnStart s) = true := by
  grind [turnStart, canonical_turnObey, canonical_decideAll, canonical_setRollout]

@[simp] theorem canonical_turnTimeout : Canonical (turnTimeout s) = true := by
  grind [turnTimeout, canonical_post, canonical_setF, canonical_decideAll, canonical_setRollout, canonical_foldl]

@[simp] theorem canonical_drainEnd : Canonical (drainEnd s) = true := by
  grind [drainEnd, canonical_setAct, canonical_mk, canonical_iff]

@[simp] theorem canonical_overwriteDone : Canonical (overwriteDone s) = true := by
  grind [overwriteDone, canonical_setF, canonical_commandedCold, canonical_mk, canonical_iff]

@[simp] theorem canonical_activationDone (alone : Bool) : Canonical (activationDone alone s) = true := by
  grind [activationDone, canonical_setF, canonical_setReg, canonical_toSteward, canonical_turnOver, canonical_showFwu,
    canonical_setAct, canonical_foldl, canonical_mk, canonical_iff]

@[simp] theorem canonical_pldmSay (t : Transport) (a : PldmAns) : Canonical (pldmSay t a s) = true := by simp [pldmSay, hs]

@[simp] theorem canonical_pldmAsk (t : Transport) (k : Nat) : Canonical (pldmAsk t k s) = true := by simp [pldmAsk, hs]

@[simp] theorem canonical_pldmUpdate (t : Transport) (k : Nat) : Canonical (pldmUpdate t k s) = true := by
  grind [pldmUpdate, canonical_pldmSay, canonical_pldmAsk, canonical_setSession, canonical_startComp]

@[simp] theorem canonical_pldmData (t : Transport) (bs : List Byte) (flash : Bool) :
    Canonical (pldmData t bs flash s) = true := by
  grind [pldmData, canonical_pldmSay, canonical_setSession, canonical_setOutcome, canonical_takeBytes, canonical_finishComp,
    canonical_pldmAsk]

@[simp] theorem canonical_pldm (t : Transport) (c : PldmCmd) (fleet : List FleetReport) (flash : Bool) :
    Canonical (pldm t c fleet flash s) = true := by
  have hsay : ∀ {u}, Canonical u = true → ∀ a, Canonical (pldmSay t a u) = true := fun hu a => canonical_pldmSay hu t a
  cases c with
  | queryIdentifiers => exact hsay hs _
  | getParameters => exact hsay hs _
  | requestUpdate => exact canonical_ite (hsay hs _) (hsay (canonical_setSession hs _) _) _
  | passTable comps => exact hsay hs _
  | updateComponent k => exact canonical_pldmUpdate hs _ _
  | firmwareData bs => exact canonical_pldmData hs _ _ _
  | activate =>
    have h1 := canonical_activate hs false 0 fleet
    exact canonical_ite (hsay hs _) (hsay (canonical_ite (canonical_setSession h1 _) h1 _) _) _
  | cancelComponent =>
    unfold pldm
    dsimp only
    split
    · exact canonical_ite (hsay hs _) (hsay (canonical_setSession (canonical_eraseComp hs _) _) _) _
    · exact hsay hs _
  | cancelUpdate =>
    unfold pldm
    dsimp only
    split
    · exact canonical_ite (hsay hs _) (hsay (canonical_setSession (canonical_ite hs (canonical_eraseComp hs _) _) _) _) _
    · exact hsay hs _

@[simp] theorem canonical_mctpTake (t : Transport) (m : MctpBody) : Canonical (mctpTake t m s) = true := by
  unfold mctpTake
  split <;> simp [hs]

/-! #### Machine/Regulation -/

@[simp] theorem canonical_qosServe : Canonical (qosServe s) = true := by
  grind [qosServe, canonical_twyFlush, canonical_hostPump, canonical_foldl]

@[simp] theorem canonical_tokenTick : Canonical (tokenTick s) = true := by
  grind [tokenTick, canonical_qosServe, canonical_foldl, canonical_mk, canonical_iff]

@[simp] theorem canonical_qosWindow : Canonical (qosWindow s) = true := by
  grind [qosWindow, canonical_clampSet, canonical_qosServe, canonical_foldl, canonical_mk, canonical_iff]

@[simp] theorem canonical_missWindow : Canonical (missWindow s) = true := by
  grind [missWindow, canonical_post, canonical_raisePend, canonical_foldl, canonical_mk, canonical_iff]

@[simp] theorem canonical_isthUseWindow (cycles : Nat) : Canonical (isthUseWindow cycles s) = true := by
  grind [isthUseWindow, canonical_setF, canonical_post, canonical_mk, canonical_iff]

@[simp] theorem canonical_complete (f : Func) (v : BitVec 32) : Canonical (complete f v s) = true := by simp [complete, hs]

@[simp] theorem canonical_setShadow (f : Nat) (v : BitVec 32) : Canonical (setShadow f v s) = true := by simp [setShadow, hs]

@[simp] theorem canonical_twoFoldRead (f : Func) (off : Nat) : Canonical (twoFoldRead f off s) = true := by
  simp [twoFoldRead, hs]

@[simp] theorem canonical_barRead (f : Func) (off : Nat) : Canonical (barRead f off s) = true := by
  grind [barRead, canonical_complete, canonical_twoFoldRead, canonical_setShadow]

@[simp] theorem canonical_pageRead (f : Func) (off : Nat) : Canonical (pageRead f off s) = true := by
  grind [pageRead, canonical_complete]

@[simp] theorem canonical_badRead (f : Func) : Canonical (badRead f s) = true := by simp [badRead, hs]

@[simp] theorem canonical_noteRsvd (b : Bool) : Canonical (noteRsvd b s) = true := by simp [noteRsvd, hs]

omit hs in
theorem canonical_keepOne (bad : State → Bool) (f : Fld) (i : Nat) (old : State) {p : State × Bool} (hp : Canonical p.1 = true) :
    Canonical (keepOne bad f i old p).1 = true := by
  unfold keepOne
  split
  · exact canonical_setF hp _ _ _
  · exact hp

omit hs in
theorem canonical_crossCheck (r : Reg) (i : Nat) (old : State) {p : State × Bool} (hp : Canonical p.1 = true) :
    Canonical (crossCheck r i old p).1 = true := by
  unfold crossCheck
  split
  · exact canonical_keepOne _ _ _ _ hp
  · exact canonical_keepOne _ _ _ _ hp
  · exact canonical_keepOne _ _ _ _ hp
  · exact hp

@[simp] theorem canonical_afterWrite (r : Reg) (i : Nat) : Canonical (afterWrite r i s) = true := by
  unfold afterWrite
  split
  · exact canonical_foldl (fun u c hu => canonical_refreshUpdate hu c) hs
  · exact canonical_oversubUpdate hs _
  · exact canonical_linkOverrides hs _
  · exact canonical_fcodeUpdate hs _
  · exact canonical_ite hs (canonical_slackLeave hs) _
  · exact hs

@[simp] theorem canonical_fieldsWrite (r : Reg) (i : Nat) (val : BitVec 32) : Canonical (fieldsWrite r i val s) = true :=
  canonical_afterWrite (canonical_noteRsvd (canonical_crossCheck r i s (canonical_writeFlds hs r i val)) _) r i

@[simp] theorem canonical_resetWrite (val : BitVec 32) : Canonical (resetWrite val s) = true := by simp [resetWrite, hs]

@[simp] theorem canonical_mailboxWrite (val : BitVec 32) : Canonical (mailboxWrite val s) = true := by simp [mailboxWrite, hs]

@[simp] theorem canonical_regWrite (r : Reg) (i : Nat) (val : BitVec 32) : Canonical (regWrite r i val s) = true := by
  unfold regWrite
  split <;> simp [hs]

@[simp] theorem canonical_poisonWrite : Canonical (poisonWrite s) = true := by simp [poisonWrite, hs]

@[simp] theorem canonical_badWrite : Canonical (badWrite s) = true := by simp [badWrite, hs]

@[simp] theorem canonical_loHold (r : Reg) (i : Nat) (val : BitVec 32) : Canonical (loHold r i val s) = true := by
  simp [loHold, hs]

@[simp] theorem canonical_pairWrite (lo hi : Reg) (i : Nat) (val : BitVec 32) : Canonical (pairWrite lo hi i val s) = true := by
  grind [pairWrite, canonical_counterSet, canonical_setReg, canonical_mk, canonical_iff]

@[simp] theorem canonical_evtHeadWrite (f : Nat) (val : BitVec 32) : Canonical (evtHeadWrite f val s) = true := by
  grind [evtHeadWrite, canonical_noteRsvd, canonical_tryLost, canonical_setReg]

@[simp] theorem canonical_evtInject (code : Nat) : Canonical (evtInject code s) = true := by
  grind [evtInject, canonical_noteRsvd, canonical_post]

@[simp] theorem canonical_evtCntclr (f : Nat) : Canonical (evtCntclr f s) = true := by
  grind [evtCntclr, canonical_setReg, canonical_clearReg]

/-! #### Machine/TwyFrame -/

@[simp] theorem canonical_rxDone (n : Nat) (m : TwyMsg) : Canonical (rxDone n m s) = true := by simp [rxDone, hs]

@[simp] theorem canonical_rxBad (n : Nat) (m : TwyMsg) : Canonical (rxBad n m s) = true := by
  grind [rxBad, canonical_twyEvent, canonical_twyAnswer]

@[simp] theorem canonical_takeTwySlot (n kind : Nat) (b : BitVec 544) : Canonical (takeTwySlot n kind b s) = true := by
  unfold takeTwySlot
  dsimp only
  (repeat' split) <;> simp [hs]

@[simp] theorem canonical_twyReplay (n : Nat) : Canonical (twyReplay n s) = true := by
  grind [twyReplay, canonical_bump, canonical_setLink, canonical_pauseBegin, canonical_mk, canonical_iff]

@[simp] theorem canonical_twyAcked (n a : Nat) : Canonical (twyAcked n a s) = true := by
  grind [twyAcked, canonical_twyRetry, canonical_setLink]

@[simp] theorem canonical_twyAckNak (n : Nat) (fr : BitVec 2048) : Canonical (twyAckNak n fr s) = true := by
  grind [twyAckNak, canonical_twyAcked, canonical_twyReplay, canonical_twyFlush]

@[simp] theorem canonical_twyNak (n : Nat) : Canonical (twyNak n s) = true := by
  grind [twyNak, canonical_twyNull, canonical_setLink]

@[simp] theorem canonical_frameError (n : Nat) (cnt : Fld) : Canonical (frameError n cnt s) = true := by
  grind [frameError, canonical_twyNak, canonical_setLink, canonical_bump]

@[simp] theorem canonical_tagError (n : Nat) : Canonical (tagError n s) = true := by
  grind [tagError, canonical_setLink, canonical_bump, canonical_linkDown, canonical_twyEvent, canonical_twyNak]

@[simp] theorem canonical_frameSlots (n : Nat) (fr : BitVec 2048) : Canonical (frameSlots n fr s) = true := by
  unfold frameSlots
  refine canonical_foldl (fun t x ht => ?_) hs
  simp [ht]

@[simp] theorem canonical_twyReceive (n : Nat) (fr : BitVec 2048) (uncorr : Bool) (skips : Nat) :
    Canonical (twyReceive n fr uncorr skips s) = true := by
  unfold twyReceive
  generalize hu : (if skips = 0 then s else bumpBy F.TWY_SKIP.COUNT n skips s) = u
  have h0 : Canonical u = true := by
    rw [← hu]
    exact canonical_ite hs (canonical_bumpBy hs _ _ _) _
  dsimp only
  split
  · exact canonical_frameError h0 _ _
  split
  · exact canonical_frameError h0 _ _
  split
  · exact canonical_tagError h0 _
  split
  · have h3 := fun l => canonical_frameSlots (canonical_twyAckNak (canonical_setLink h0 n l) n fr) n
    exact canonical_ite (canonical_twyNull (h3 _ _) _ _) (h3 _ _) _
  · exact canonical_ite (canonical_twyNak h0 _) (canonical_twyNull (canonical_twyAckNak h0 _ _) _ _) _

@[simp] theorem canonical_nullFrames : Canonical (nullFrames s) = true := by
  unfold nullFrames
  refine canonical_foldl (fun t x ht => ?_) hs
  simp [ht]

end

end Sys2Proof.Machine

end


section
/-! PROOF (O4). Every command and every tick keep the canonical form. The arms that put several operations together, or hand a
function to one, have a rule of their own; every other arm runs one operation where its condition holds. -/

namespace Sys2Proof.Machine

section
variable {s : State} (hs : Canonical s = true)
include hs

theorem canonical_onFrame {f : State → State} (hf : Canonical (f s) = true) :
    ∃ t, onFrame s f = .next t ∧ Canonical t = true :=
  ⟨_, rfl, canonical_ite hf hs _⟩

/-! #### Machine/Mesh -/

theorem canonical_execUrgentCapRelease (src : UrgSrc) : ∃ t, execUrgentCapRelease src s = .next t ∧ Canonical t = true :=
  ⟨_, rfl, by grind [canonical_onlyIf, canonical_capRelease]⟩

theorem canonical_execMeshFlitHop (t' : TileId) (out : Fin 7) (noise : BitVec 704) :
    ∃ t, execMeshFlitHop t' out noise s = .next t ∧ Canonical t = true :=
  ⟨_, rfl, by grind [canonical_onlyIf, canonical_meshHop]⟩

/-! #### Machine/Reef -/

theorem canonical_execReefRead (t' : TileId) (bank : Fin 8) (upset : Fin 81) :
    ∃ t, execReefRead t' bank upset s = .next t ∧ Canonical t = true :=
  ⟨_, rfl, by grind [canonical_onlyIf, canonical_reefRead]⟩

theorem canonical_execReefWrite (t' : TileId) (bank : Fin 8) : ∃ t, execReefWrite t' bank s = .next t ∧ Canonical t = true :=
  ⟨_, rfl, by grind [canonical_onlyIf, canonical_reefWrite]⟩

theorem canonical_execReefAtomic (t' : TileId) (bank : Fin 8) (upset : Fin 81) :
    ∃ t, execReefAtomic t' bank upset s = .next t ∧ Canonical t = true :=
  ⟨_, rfl, by grind [canonical_onlyIf, canonical_reefAtomic]⟩

/-! #### Machine/Lpddr -/

theorem canonical_execMemScrubStripe (n : ChanId) (j : Fin 8) (upset : Fin 73) :
    ∃ t, execMemScrubStripe n j upset s = .next t ∧ Canonical t = true :=
  ⟨_, rfl, by grind [canonical_onlyIf, canonical_memScrubStripe]⟩

/-! #### Machine/TideQ -/

theorem canonical_execDbTail (f : Func) (p : QueueId) (v : BitVec 32) :
    ∃ t, execDbTail f p v s = .next t ∧ Canonical t = true :=
  ⟨_, rfl, by grind [canonical_onlyIf, canonical_doorbellPage, canonical_doorbell]⟩

theorem canonical_execDbCplhead (f : Func) (p : QueueId) (v : BitVec 32) :
    ∃ t, execDbCplhead f p v s = .next t ∧ Canonical t = true :=
  ⟨_, rfl, by grind [canonical_onlyIf, canonical_doorbellPage, canonical_cplHeadWrite]⟩

theorem canonical_execDbRechead (f : Func) (p : QueueId) (v : BitVec 32) :
    ∃ t, execDbRechead f p v s = .next t ∧ Canonical t = true :=
  ⟨_, rfl, by grind [canonical_onlyIf, canonical_doorbellPage, canonical_recHeadWrite]⟩

theorem canonical_execDbResume (f : Func) (p : QueueId) (v : BitVec 32) :
    ∃ t, execDbResume f p v s = .next t ∧ Canonical t = true :=
  ⟨_, rfl, by grind [canonical_onlyIf, canonical_doorbellPage, canonical_resumeQueue]⟩

theorem canonical_execDbAbort (f : Func) (p : QueueId) (v : BitVec 32) :
    ∃ t, execDbAbort f p v s = .next t ∧ Canonical t = true :=
  ⟨_, rfl, by grind [canonical_onlyIf, canonical_doorbellPage, canonical_abortQueue]⟩

theorem canonical_execTqQcmdResume (q : QueueId) : ∃ t, execTqQcmdResume q s = .next t ∧ Canonical t = true :=
  ⟨_, rfl, by grind [canonical_onlyIf, canonical_qErr, canonical_resumeQueue]⟩

theorem canonical_execCounterHostWrite (i : BitVec 16) (hi : BitVec 32) :
    ∃ t, execCounterHostWrite i hi s = .next t ∧ Canonical t = true :=
  ⟨_, rfl, by grind [canonical_onlyIf, canonical_counterSet, canonical_mk, canonical_iff]⟩

/-! #### Machine/TideRun -/

theorem canonical_execTideNop (q : QueueId) : ∃ t, execTideNop q s = .next t ∧ Canonical t = true :=
  ⟨_, rfl, by grind [canonical_seqStep, canonical_seqDone]⟩

theorem canonical_execTideJump (q : QueueId) : ∃ t, execTideJump q s = .next t ∧ Canonical t = true :=
  ⟨_, rfl, by grind [canonical_seqStep, canonical_seqDone]⟩

theorem canonical_execTideBrc (q : QueueId) : ∃ t, execTideBrc q s = .next t ∧ Canonical t = true :=
  ⟨_, rfl, by grind [canonical_seqStep, canonical_branchOn]⟩

theorem canonical_execTideLoop (q : QueueId) : ∃ t, execTideLoop q s = .next t ∧ Canonical t = true :=
  ⟨_, rfl, by grind [canonical_seqStep, canonical_seqDone]⟩

theorem canonical_execTideSeti (q : QueueId) : ∃ t, execTideSeti q s = .next t ∧ Canonical t = true :=
  ⟨_, rfl, by grind [canonical_seqStep, canonical_seqDone]⟩

theorem canonical_execTideAddi (q : QueueId) : ∃ t, execTideAddi q s = .next t ∧ Canonical t = true :=
  ⟨_, rfl, by grind [canonical_seqStep, canonical_seqDone]⟩

theorem canonical_execTideWait (q : QueueId) : ∃ t, execTideWait q s = .next t ∧ Canonical t = true :=
  ⟨_, rfl, by grind [canonical_seqStep, canonical_waitOn]⟩

theorem canonical_execTideMark (q : QueueId) : ∃ t, execTideMark q s = .next t ∧ Canonical t = true :=
  ⟨_, rfl, by grind [canonical_seqStep, canonical_seqDone]⟩

theorem canonical_execTideOpnd (q : QueueId) : ∃ t, execTideOpnd q s = .next t ∧ Canonical t = true :=
  ⟨_, rfl, by grind [canonical_seqStep, canonical_settle, canonical_modBatch]⟩

theorem canonical_execTideAdvise (q : QueueId) : ∃ t, execTideAdvise q s = .next t ∧ Canonical t = true :=
  ⟨_, rfl, by grind [canonical_seqStep, canonical_seqDone, canonical_advise]⟩

theorem canonical_execTideCset (q : QueueId) : ∃ t, execTideCset q s = .next t ∧ Canonical t = true :=
  ⟨_, rfl, by grind [canonical_seqStep, canonical_counterCmd]⟩

theorem canonical_execTideCadd (q : QueueId) : ∃ t, execTideCadd q s = .next t ∧ Canonical t = true :=
  ⟨_, rfl, by grind [canonical_seqStep, canonical_counterCmd]⟩

theorem canonical_execTideFence (q : QueueId) : ∃ t, execTideFence q s = .next t ∧ Canonical t = true :=
  ⟨_, rfl, by grind [canonical_seqStep, canonical_fenceOn]⟩

/-! #### Machine/Ferry -/

theorem canonical_execTideCopy (e : Fin 32) : ∃ t, execTideCopy e s = .next t ∧ Canonical t = true :=
  ⟨_, rfl, by grind [canonical_engineStep, canonical_ferryStart]⟩

theorem canonical_execTidePrefetch (e : Fin 32) : ∃ t, execTidePrefetch e s = .next t ∧ Canonical t = true :=
  ⟨_, rfl, by grind [canonical_onlyIf, canonical_engineStep, canonical_ferryStart]⟩

theorem canonical_execTideFill (e : Fin 32) : ∃ t, execTideFill e s = .next t ∧ Canonical t = true :=
  ⟨_, rfl, by grind [canonical_engineStep, canonical_ferryStart]⟩

/-! #### Machine/Bead -/

theorem canonical_execTideKcall (e : Fin 8) : ∃ t, execTideKcall e s = .next t ∧ Canonical t = true :=
  ⟨_, rfl, by grind [canonical_engineStep, canonical_kcallStart]⟩

/-! #### Machine/BeadCore -/

theorem canonical_execJal (c : CoreId) : ∃ t, execJal c s = .next t ∧ Canonical t = true :=
  ⟨_, rfl, by grind [canonical_issue, canonical_setCore]⟩

theorem canonical_execJalr (c : CoreId) : ∃ t, execJalr c s = .next t ∧ Canonical t = true :=
  ⟨_, rfl, by grind [canonical_issue, canonical_setCore]⟩

theorem canonical_execCntAdd (c : CoreId) : ∃ t, execCntAdd c s = .next t ∧ Canonical t = true :=
  ⟨_, rfl, by grind [canonical_cntOp, canonical_stageCnt]⟩

theorem canonical_execCntSet (c : CoreId) : ∃ t, execCntSet c s = .next t ∧ Canonical t = true :=
  ⟨_, rfl, by grind [canonical_cntOp, canonical_stageCnt]⟩

theorem canonical_execCntRead (c : CoreId) : ∃ t, execCntRead c s = .next t ∧ Canonical t = true :=
  ⟨_, rfl, by grind [canonical_cntOp, canonical_setCore]⟩

theorem canonical_execCsrr (c : CoreId) : ∃ t, execCsrr c s = .next t ∧ Canonical t = true :=
  ⟨_, rfl, by grind [canonical_issue, canonical_draw, canonical_setCore]⟩

theorem canonical_execCsrw (c : CoreId) : ∃ t, execCsrw c s = .next t ∧ Canonical t = true :=
  ⟨_, rfl, by grind [canonical_issue, canonical_setCore]⟩

theorem canonical_execKsync (c : CoreId) : ∃ t, execKsync c s = .next t ∧ Canonical t = true :=
  ⟨_, rfl, by grind [canonical_syncPoint, canonical_setCore]⟩

theorem canonical_execWack (c : CoreId) : ∃ t, execWack c s = .next t ∧ Canonical t = true :=
  ⟨_, rfl, by grind [canonical_syncPoint, canonical_setCore]⟩

theorem canonical_execExit (c : CoreId) : ∃ t, execExit c s = .next t ∧ Canonical t = true :=
  ⟨_, rfl, by grind [canonical_syncPoint, canonical_endInstance]⟩

theorem canonical_execTrap (c : CoreId) : ∃ t, execTrap c s = .next t ∧ Canonical t = true :=
  ⟨_, rfl, by grind [canonical_issue, canonical_takeExc]⟩

/-! #### Machine/Shoreline -/

theorem canonical_execShlTrainTimeout (p : PortId) : ∃ t, execShlTrainTimeout p s = .next t ∧ Canonical t = true :=
  ⟨_, rfl, by grind [canonical_onlyIf, canonical_post, canonical_setF]⟩

theorem canonical_execShlRead (p : PortId) : ∃ t, execShlRead p s = .next t ∧ Canonical t = true :=
  ⟨_, rfl, by grind [canonical_rxServe, canonical_shlRange, canonical_shlInject, canonical_onlyIf]⟩

theorem canonical_execShlWrite (p : PortId) : ∃ t, execShlWrite p s = .next t ∧ Canonical t = true :=
  ⟨_, rfl, by grind [canonical_rxServe, canonical_shlWrite, canonical_onlyIf]⟩

theorem canonical_execShlAck (p : PortId) : ∃ t, execShlAck p s = .next t ∧ Canonical t = true :=
  ⟨_, rfl, by grind [canonical_rxServe, canonical_setPort, canonical_onlyIf]⟩

theorem canonical_execShlAbort (p : PortId) : ∃ t, execShlAbort p s = .next t ∧ Canonical t = true :=
  ⟨_, rfl, by grind [canonical_rxServe, canonical_shlAbort, canonical_onlyIf]⟩

theorem canonical_execShlDoorbell (p : PortId) : ∃ t, execShlDoorbell p s = .next t ∧ Canonical t = true :=
  ⟨_, rfl, by grind [canonical_rxServe, canonical_shlDoorbell, canonical_onlyIf]⟩

theorem canonical_execShlCounter (p : PortId) : ∃ t, execShlCounter p s = .next t ∧ Canonical t = true :=
  ⟨_, rfl, by grind [canonical_rxServe, canonical_shlCounter, canonical_onlyIf]⟩

theorem canonical_execShlWatch (p : PortId) : ∃ t, execShlWatch p s = .next t ∧ Canonical t = true :=
  ⟨_, rfl, by grind [canonical_rxServe, canonical_shlWatch, canonical_onlyIf]⟩

theorem canonical_execShlTelemetryMiss (p : PortId) : ∃ t, execShlTelemetryMiss p s = .next t ∧ Canonical t = true :=
  ⟨_, rfl, by grind [canonical_onlyIf, canonical_post, canonical_setPort]⟩

/-! #### Machine/Eject -/

theorem canonical_execMeshFlitEject (t' : TileId) : ∃ t, execMeshFlitEject t' s = .next t ∧ Canonical t = true :=
  ⟨_, rfl, by grind [canonical_onlyIf, canonical_meshEject]⟩

theorem canonical_execMeshResponse (t' : TileId) (a : Fin 8) : ∃ t, execMeshResponse t' a s = .next t ∧ Canonical t = true := by
  refine canonical_onFrame hs ?_
  cases portOf t' a with
  | some p => exact canonical_shlResponse hs _ _ _
  | none => exact canonical_meshResponse hs _ _

/-! #### Machine/Gather -/

theorem canonical_execTidePut (e : Fin 8) : ∃ t, execTidePut e s = .next t ∧ Canonical t = true :=
  ⟨_, rfl, by grind [canonical_engineStep, canonical_gatherStart]⟩

theorem canonical_execTideGet (e : Fin 8) : ∃ t, execTideGet e s = .next t ∧ Canonical t = true :=
  ⟨_, rfl, by grind [canonical_engineStep, canonical_gatherStart]⟩

theorem canonical_execTideColl (e : Fin 8) : ∃ t, execTideColl e s = .next t ∧ Canonical t = true :=
  ⟨_, rfl, by grind [canonical_engineStep, canonical_collStart]⟩

/-! #### Machine/Harbour -/

theorem canonical_execHblTkEnable (on : Bool) : ∃ t, execHblTkEnable on s = .next t ∧ Canonical t = true :=
  ⟨_, rfl, by grind [canonical_onlyIf, canonical_setF, canonical_tkGo]⟩

/-! #### Machine/Tideway -/

theorem canonical_execTwyWrite (n : LinkId) : ∃ t, execTwyWrite n s = .next t ∧ Canonical t = true :=
  ⟨_, rfl, by grind [canonical_twyReach, canonical_twyWrite, canonical_onlyIf]⟩

theorem canonical_execTwyRead (n : LinkId) : ∃ t, execTwyRead n s = .next t ∧ Canonical t = true :=
  ⟨_, rfl, by grind [canonical_twyReach, canonical_twyRead, canonical_onlyIf]⟩

theorem canonical_execTwyReadData (n : LinkId) : ∃ t, execTwyReadData n s = .next t ∧ Canonical t = true :=
  ⟨_, rfl, by grind [canonical_twyReach, canonical_gatherData, canonical_onlyIf]⟩

theorem canonical_execTwyAck (n : LinkId) : ∃ t, execTwyAck n s = .next t ∧ Canonical t = true :=
  ⟨_, rfl, by grind [canonical_twyServe, canonical_gatherAck, canonical_onlyIf]⟩

theorem canonical_execTwyError (n : LinkId) : ∃ t, execTwyError n s = .next t ∧ Canonical t = true :=
  ⟨_, rfl, by grind [canonical_twyServe, canonical_gatherError, canonical_onlyIf]⟩

theorem canonical_execTwyJournal (n : LinkId) : ∃ t, execTwyJournal n s = .next t ∧ Canonical t = true :=
  ⟨_, rfl, by grind [canonical_twyServe, canonical_slotJournal, canonical_onlyIf]⟩

theorem canonical_execTwyJack (n : LinkId) : ∃ t, execTwyJack n s = .next t ∧ Canonical t = true :=
  ⟨_, rfl, by grind [canonical_twyServe, canonical_partnerAcked, canonical_onlyIf]⟩

theorem canonical_execTwyColl (n : LinkId) : ∃ t, execTwyColl n s = .next t ∧ Canonical t = true :=
  ⟨_, rfl, by grind [canonical_twyServe, canonical_collMessage, canonical_onlyIf]⟩

theorem canonical_execTwyRoute (n : LinkId) : ∃ t, execTwyRoute n s = .next t ∧ Canonical t = true :=
  ⟨_, rfl, by grind [canonical_twyServe, canonical_twyRoute, canonical_onlyIf]⟩

/-! #### Machine/Steward -/

theorem canonical_execLeaseClaimReceive (n : LinkId) : ∃ t, execLeaseClaimReceive n s = .next t ∧ Canonical t = true :=
  ⟨_, rfl, by grind [canonical_onlyIf, canonical_twyServe, canonical_leaseReceive]⟩

theorem canonical_execLeaseRenewReceive (n : LinkId) : ∃ t, execLeaseRenewReceive n s = .next t ∧ Canonical t = true :=
  ⟨_, rfl, by grind [canonical_onlyIf, canonical_twyServe, canonical_leaseReceive]⟩

theorem canonical_execLeaseReleaseReceive (n : LinkId) : ∃ t, execLeaseReleaseReceive n s = .next t ∧ Canonical t = true :=
  ⟨_, rfl, by grind [canonical_onlyIf, canonical_twyServe, canonical_leaseReceive]⟩

theorem canonical_execLeaseListenEnd : ∃ t, execLeaseListenEnd s = .next t ∧ Canonical t = true :=
  ⟨_, rfl, by grind [canonical_onlyIf, canonical_setF, canonical_joinAsk, canonical_reportLinks, canonical_mk, canonical_iff]⟩

theorem canonical_execLeaseLapse : ∃ t, execLeaseLapse s = .next t ∧ Canonical t = true :=
  ⟨_, rfl, by grind [canonical_onlyIf, canonical_noHolder, canonical_mk, canonical_iff]⟩

theorem canonical_execLeaseQuietEnd : ∃ t, execLeaseQuietEnd s = .next t ∧ Canonical t = true :=
  ⟨_, rfl, by grind [canonical_onlyIf, canonical_setF, canonical_leaseRenew, canonical_mk, canonical_iff]⟩

theorem canonical_execMemberBeat : ∃ t, execMemberBeat s = .next t ∧ Canonical t = true :=
  ⟨_, rfl, by grind [canonical_onlyIf, canonical_toSteward, canonical_stewBeat]⟩

theorem canonical_execMemberBeatReceive (n : LinkId) : ∃ t, execMemberBeatReceive n s = .next t ∧ Canonical t = true :=
  ⟨_, rfl, by grind [canonical_onlyIf, canonical_memberServe, canonical_stewBeat]⟩

theorem canonical_execResetNoticeReceive (n : LinkId) : ∃ t, execResetNoticeReceive n s = .next t ∧ Canonical t = true :=
  ⟨_, rfl, by grind [canonical_onlyIf, canonical_memberServe, canonical_stewReset]⟩

theorem canonical_execLinkReportReceive (n : LinkId) : ∃ t, execLinkReportReceive n s = .next t ∧ Canonical t = true :=
  ⟨_, rfl, by grind [canonical_onlyIf, canonical_memberServe, canonical_stewLinks]⟩

theorem canonical_execMemberJoin (n : LinkId) : ∃ t, execMemberJoin n s = .next t ∧ Canonical t = true :=
  ⟨_, rfl, by grind [canonical_onlyIf, canonical_memberServe, canonical_stewJoin]⟩

theorem canonical_execDepartureReportReceive (n : LinkId) :
    ∃ t, execDepartureReportReceive n s = .next t ∧ Canonical t = true :=
  ⟨_, rfl, by grind [canonical_onlyIf, canonical_memberServe, canonical_stewLeft, canonical_stewLeaving]⟩

theorem canonical_execMirrorLossReportReceive (n : LinkId) :
    ∃ t, execMirrorLossReportReceive n s = .next t ∧ Canonical t = true :=
  ⟨_, rfl, by grind [canonical_onlyIf, canonical_memberServe, canonical_stewMirrorLoss]⟩

theorem canonical_execMirrorAckTimeout : ∃ t, execMirrorAckTimeout s = .next t ∧ Canonical t = true :=
  ⟨_, rfl, by grind [canonical_onlyIf, canonical_mirrorLost, canonical_toSteward, canonical_stewMirrorLoss]⟩

theorem canonical_execCollMemberLost (d : Die) : ∃ t, execCollMemberLost d s = .next t ∧ Canonical t = true :=
  ⟨_, rfl, by grind [canonical_onlyIf, canonical_reportLinks, canonical_collLost]⟩

theorem canonical_execTakeoverQueryReceive (n : LinkId) : ∃ t, execTakeoverQueryReceive n s = .next t ∧ Canonical t = true :=
  ⟨_, rfl, by grind [canonical_onlyIf, canonical_memberServe, canonical_twySend]⟩

theorem canonical_execRosterChangeReceive (n : LinkId) : ∃ t, execRosterChangeReceive n s = .next t ∧ Canonical t = true :=
  ⟨_, rfl, by grind [canonical_onlyIf, canonical_memberServe, canonical_rosterStore]⟩

theorem canonical_execIdentityReportReceive (n : LinkId) : ∃ t, execIdentityReportReceive n s = .next t ∧ Canonical t = true :=
  ⟨_, rfl, by grind [canonical_onlyIf, canonical_memberServe, canonical_stewIdent]⟩

theorem canonical_execEnrolForwardReceive (n : LinkId) : ∃ t, execEnrolForwardReceive n s = .next t ∧ Canonical t = true :=
  ⟨_, rfl, by grind [canonical_onlyIf, canonical_memberServe, canonical_enrolApply]⟩

/-! #### Machine/TwyLink -/

theorem canonical_execTwyLinkDisable (n : LinkId) : ∃ t, execTwyLinkDisable n s = .next t ∧ Canonical t = true :=
  ⟨_, rfl, by grind [canonical_onlyIf, canonical_linkDown, canonical_setF]⟩

theorem canonical_execTwyCmdTestend (n : LinkId) : ∃ t, execTwyCmdTestend n s = .next t ∧ Canonical t = true :=
  ⟨_, rfl, by grind [canonical_onlyIf, canonical_setLinkState, canonical_setF]⟩

theorem canonical_execTwyBerWindow (n : LinkId) (rates : List (BitVec 16)) (seen : List LaneSeen) :
    ∃ t, execTwyBerWindow n rates seen s = .next t ∧ Canonical t = true :=
  ⟨_, rfl, by grind [canonical_onlyIf, canonical_rateLoop, canonical_lanesNext, canonical_findWeak, canonical_publishLanes,
    canonical_testWindow]⟩

/-! #### Machine/Breakwater -/

theorem canonical_execCoveGate (c : CoveId) : ∃ t, execCoveGate c s = .next t ∧ Canonical t = true :=
  ⟨_, rfl, by grind [canonical_onlyIf, canonical_railsFollow, canonical_gateCove]⟩

theorem canonical_execQosWakeholdWrite (hold : BitVec 16) : ∃ t, execQosWakeholdWrite hold s = .next t ∧ Canonical t = true :=
  ⟨_, rfl, by grind [canonical_onlyIf, canonical_setF, canonical_wakeHeld]⟩

theorem canonical_execSlackExit (coves : BitVec 16) : ∃ t, execSlackExit coves s = .next t ∧ Canonical t = true :=
  ⟨_, rfl, by grind [canonical_onlyIf, canonical_slackLeave, canonical_mk, canonical_iff]⟩

theorem canonical_execDroopRelease (src : Fin 18) : ∃ t, execDroopRelease src s = .next t ∧ Canonical t = true :=
  ⟨_, rfl, by grind [canonical_onlyIf, canonical_mk, canonical_iff]⟩

theorem canonical_execDroopHoldEnd (src : Fin 18) : ∃ t, execDroopHoldEnd src s = .next t ∧ Canonical t = true :=
  ⟨_, rfl, by grind [canonical_onlyIf, canonical_droopSync, canonical_mk, canonical_iff]⟩

theorem canonical_execThrottleStep : ∃ t, execThrottleStep s = .next t ∧ Canonical t = true :=
  ⟨_, rfl, by grind [canonical_onlyIf, canonical_fcodeUpdate, canonical_mk, canonical_iff]⟩

/-! #### Machine/Reckon -/

theorem canonical_execTideReckon (e : Fin 8) : ∃ t, execTideReckon e s = .next t ∧ Canonical t = true :=
  ⟨_, rfl, by grind [canonical_engineStep, canonical_reckonStart]⟩

/-! #### Machine/Commit -/

theorem canonical_execMeshRequestTimeout (t' : TileId) (a : Fin 8) (tag : BitVec 16) :
    ∃ t, execMeshRequestTimeout t' a tag s = .next t ∧ Canonical t = true := by
  refine canonical_onFrame hs ?_
  cases portOf t' a with
  | some p => exact canonical_shlTimeout hs _ _ _ _
  | none =>
    dsimp only
    split
    · exact canonical_requestTimeout hs _ _ _
    · exact canonical_engineTimeout hs _ _ _

/-! #### Machine/Headland -/

theorem canonical_execHldCommandComplete : ∃ t, execHldCommandComplete s = .next t ∧ Canonical t = true :=
  ⟨_, rfl, by grind [canonical_mbxDone]⟩

theorem canonical_execLeaseRelease : ∃ t, execLeaseRelease s = .next t ∧ Canonical t = true :=
  ⟨_, rfl, by grind [canonical_mailbox, canonical_leaseRelease]⟩

theorem canonical_execIdentRead : ∃ t, execIdentRead s = .next t ∧ Canonical t = true :=
  ⟨_, rfl, by grind [canonical_mailbox, canonical_bufWrite]⟩

/-! #### Machine/Startup -/

theorem canonical_execPerstNRise : ∃ t, execPerstNRise s = .next t ∧ Canonical t = true :=
  ⟨_, rfl, by grind [canonical_trainHost, canonical_mk, canonical_iff]⟩

theorem canonical_execPerstNFall : ∃ t, execPerstNFall s = .next t ∧ Canonical t = true :=
  ⟨_, rfl, by grind [canonical_pciLinkDown, canonical_warmSource, canonical_mk, canonical_iff]⟩

theorem canonical_execPciHotReset : ∃ t, execPciHotReset s = .next t ∧ Canonical t = true :=
  ⟨_, rfl, by grind [canonical_onlyIf, canonical_trainHost, canonical_warmSource, canonical_pciLinkDown]⟩

theorem canonical_execTakeoverQueryAnswer (n : LinkId) (bad : Bool) :
    ∃ t, execTakeoverQueryAnswer n bad s = .next t ∧ Canonical t = true :=
  ⟨_, rfl, by grind [canonical_onlyIf, canonical_memberServe, canonical_post, canonical_coldReset, canonical_recoverDone]⟩

theorem canonical_execHostGo : ∃ t, execHostGo s = .next t ∧ Canonical t = true :=
  ⟨_, rfl, by grind [canonical_onlyIf, canonical_hostFlush, canonical_setF]⟩

/-! #### Machine/Firmware -/

theorem canonical_execFwuActivate (fleet : List FleetReport) : ∃ t, execFwuActivate fleet s = .next t ∧ Canonical t = true :=
  ⟨_, rfl, by grind [canonical_fwuCommand, canonical_activate]⟩

theorem canonical_execActivateForwardReceive (n : LinkId) (fleet : List FleetReport) :
    ∃ t, execActivateForwardReceive n fleet s = .next t ∧ Canonical t = true :=
  ⟨_, rfl, by grind [canonical_onlyIf, canonical_memberServe, canonical_activateHere]⟩

theorem canonical_execTurnDoneReceive (n : LinkId) : ∃ t, execTurnDoneReceive n s = .next t ∧ Canonical t = true :=
  ⟨_, rfl, by grind [canonical_onlyIf, canonical_memberServe, canonical_turnOver]⟩

theorem canonical_execStewardDecisionReceive (n : LinkId) :
    ∃ t, execStewardDecisionReceive n s = .next t ∧ Canonical t = true :=
  ⟨_, rfl, by grind [canonical_onlyIf, canonical_memberServe, canonical_turnObey, canonical_decisionTake]⟩

theorem canonical_execFwuActCancel : ∃ t, execFwuActCancel s = .next t ∧ Canonical t = true :=
  ⟨_, rfl, by grind [canonical_fwuCommand, canonical_toSteward, canonical_turnOver, canonical_setAct, canonical_mk,
    canonical_iff]⟩

/-! #### Machine/Regulation -/

theorem canonical_execReg64LoRead (f : Func) (bar2 : Bool) (off : BitVec 28) :
    ∃ t, execReg64LoRead f bar2 off s = .next t ∧ Canonical t = true :=
  ⟨_, rfl, by grind [canonical_badRead, canonical_pageRead, canonical_barRead]⟩

theorem canonical_execBarBadAccessRead (f : Func) (bar2 : Bool) (off : BitVec 28) (len : BitVec 13) :
    ∃ t, execBarBadAccessRead f bar2 off len s = .next t ∧ Canonical t = true :=
  ⟨_, rfl, by grind [canonical_pageRead, canonical_barRead, canonical_badRead]⟩

theorem canonical_execRegWrite (f : Func) (bar2 : Bool) (off : BitVec 28) (val : BitVec 32) (poison : Bool) :
    ∃ t, execRegWrite f bar2 off val poison s = .next t ∧ Canonical t = true :=
  ⟨_, rfl, by grind [canonical_badWrite, canonical_poisonWrite, canonical_regWrite]⟩

theorem canonical_execReg64LoWrite (f : Func) (off : BitVec 28) (val : BitVec 32) :
    ∃ t, execReg64LoWrite f off val s = .next t ∧ Canonical t = true :=
  ⟨_, rfl, by grind [canonical_loHold]⟩

theorem canonical_execReg64HiWrite (f : Func) (off : BitVec 28) (val : BitVec 32) :
    ∃ t, execReg64HiWrite f off val s = .next t ∧ Canonical t = true :=
  ⟨_, rfl, by grind [canonical_pairWrite]⟩

end

/-- Every arm of the dispatch answers a state in canonical form. -/
theorem canonical_exec {s : State} (hs : Canonical s = true) (c : Instr) : ∃ t, exec c s = .next t ∧ Canonical t = true := by
  cases c with
  | regWrite => exact canonical_execRegWrite hs _ _ _ _ _
  | barBadAccessRead => exact canonical_execBarBadAccessRead hs _ _ _ _
  | reg64LoRead => exact canonical_execReg64LoRead hs _ _ _
  | reg64LoWrite => exact canonical_execReg64LoWrite hs _ _ _
  | reg64HiWrite => exact canonical_execReg64HiWrite hs _ _ _
  | urgentCapRelease => exact canonical_execUrgentCapRelease hs _
  | meshFlitHop => exact canonical_execMeshFlitHop hs _ _ _
  | meshFlitEject => exact canonical_execMeshFlitEject hs _
  | meshResponse => exact canonical_execMeshResponse hs _ _
  | meshRequestTimeout => exact canonical_execMeshRequestTimeout hs _ _ _
  | reefRead => exact canonical_execReefRead hs _ _ _
  | reefWrite => exact canonical_execReefWrite hs _ _
  | reefAtomic => exact canonical_execReefAtomic hs _ _ _
  | memScrubStripe => exact canonical_execMemScrubStripe hs _ _ _
  | tqQcmdResume => exact canonical_execTqQcmdResume hs _
  | dbTail => exact canonical_execDbTail hs _ _ _
  | dbCplhead => exact canonical_execDbCplhead hs _ _ _
  | dbRechead => exact canonical_execDbRechead hs _ _ _
  | dbResume => exact canonical_execDbResume hs _ _ _
  | dbAbort => exact canonical_execDbAbort hs _ _ _
  | tideNop => exact canonical_execTideNop hs _
  | tideJump => exact canonical_execTideJump hs _
  | tideBrc => exact canonical_execTideBrc hs _
  | tideLoop => exact canonical_execTideLoop hs _
  | tideSeti => exact canonical_execTideSeti hs _
  | tideAddi => exact canonical_execTideAddi hs _
  | tideWait => exact canonical_execTideWait hs _
  | tideCset => exact canonical_execTideCset hs _
  | tideCadd => exact canonical_execTideCadd hs _
  | tideFence => exact canonical_execTideFence hs _
  | tideMark => exact canonical_execTideMark hs _
  | tideAdvise => exact canonical_execTideAdvise hs _
  | tideOpnd => exact canonical_execTideOpnd hs _
  | tideCopy => exact canonical_execTideCopy hs _
  | tidePrefetch => exact canonical_execTidePrefetch hs _
  | tideFill => exact canonical_execTideFill hs _
  | tideReckon => exact canonical_execTideReckon hs _
  | tideKcall => exact canonical_execTideKcall hs _
  | tidePut => exact canonical_execTidePut hs _
  | tideGet => exact canonical_execTideGet hs _
  | tideColl => exact canonical_execTideColl hs _
  | counterHostWrite => exact canonical_execCounterHostWrite hs _ _
  | cntAdd => exact canonical_execCntAdd hs _
  | cntSet => exact canonical_execCntSet hs _
  | cntRead => exact canonical_execCntRead hs _
  | jal => exact canonical_execJal hs _
  | jalr => exact canonical_execJalr hs _
  | csrr => exact canonical_execCsrr hs _
  | csrw => exact canonical_execCsrw hs _
  | exit => exact canonical_execExit hs _
  | wack => exact canonical_execWack hs _
  | ksync => exact canonical_execKsync hs _
  | trap => exact canonical_execTrap hs _
  | mirrorAckTimeout => exact canonical_execMirrorAckTimeout hs
  | hblTkEnable => exact canonical_execHblTkEnable hs _
  | collMemberLost => exact canonical_execCollMemberLost hs _
  | memberBeat => exact canonical_execMemberBeat hs
  | shlRead => exact canonical_execShlRead hs _
  | shlWrite => exact canonical_execShlWrite hs _
  | shlAck => exact canonical_execShlAck hs _
  | shlAbort => exact canonical_execShlAbort hs _
  | shlDoorbell => exact canonical_execShlDoorbell hs _
  | shlCounter => exact canonical_execShlCounter hs _
  | shlWatch => exact canonical_execShlWatch hs _
  | shlTrainTimeout => exact canonical_execShlTrainTimeout hs _
  | shlTelemetryMiss => exact canonical_execShlTelemetryMiss hs _
  | twyLinkDisable => exact canonical_execTwyLinkDisable hs _
  | twyCmdTestend => exact canonical_execTwyCmdTestend hs _
  | twyWrite => exact canonical_execTwyWrite hs _
  | twyRead => exact canonical_execTwyRead hs _
  | twyReadData => exact canonical_execTwyReadData hs _
  | twyAck => exact canonical_execTwyAck hs _
  | twyError => exact canonical_execTwyError hs _
  | twyJournal => exact canonical_execTwyJournal hs _
  | twyJack => exact canonical_execTwyJack hs _
  | twyColl => exact canonical_execTwyColl hs _
  | twyRoute => exact canonical_execTwyRoute hs _
  | leaseClaimReceive => exact canonical_execLeaseClaimReceive hs _
  | leaseRenewReceive => exact canonical_execLeaseRenewReceive hs _
  | leaseReleaseReceive => exact canonical_execLeaseReleaseReceive hs _
  | memberBeatReceive => exact canonical_execMemberBeatReceive hs _
  | stewardDecisionReceive => exact canonical_execStewardDecisionReceive hs _
  | resetNoticeReceive => exact canonical_execResetNoticeReceive hs _
  | linkReportReceive => exact canonical_execLinkReportReceive hs _
  | identityReportReceive => exact canonical_execIdentityReportReceive hs _
  | memberJoin => exact canonical_execMemberJoin hs _
  | rosterChangeReceive => exact canonical_execRosterChangeReceive hs _
  | enrolForwardReceive => exact canonical_execEnrolForwardReceive hs _
  | activateForwardReceive => exact canonical_execActivateForwardReceive hs _ _
  | turnDoneReceive => exact canonical_execTurnDoneReceive hs _
  | twyBerWindow => exact canonical_execTwyBerWindow hs _ _ _
  | qosWakeholdWrite => exact canonical_execQosWakeholdWrite hs _
  | throttleStep => exact canonical_execThrottleStep hs
  | droopRelease => exact canonical_execDroopRelease hs _
  | droopHoldEnd => exact canonical_execDroopHoldEnd hs _
  | slackExit => exact canonical_execSlackExit hs _
  | coveGate => exact canonical_execCoveGate hs _
  | leaseRelease => exact canonical_execLeaseRelease hs
  | identRead => exact canonical_execIdentRead hs
  | leaseListenEnd => exact canonical_execLeaseListenEnd hs
  | leaseLapse => exact canonical_execLeaseLapse hs
  | leaseQuietEnd => exact canonical_execLeaseQuietEnd hs
  | perstNRise => exact canonical_execPerstNRise hs
  | perstNFall => exact canonical_execPerstNFall hs
  | pciHotReset => exact canonical_execPciHotReset hs
  | takeoverQueryAnswer => exact canonical_execTakeoverQueryAnswer hs _ _
  | hostGo => exact canonical_execHostGo hs
  | fwuActivate => exact canonical_execFwuActivate hs _
  | fwuActCancel => exact canonical_execFwuActCancel hs
  | takeoverQueryReceive => exact canonical_execTakeoverQueryReceive hs _
  | departureReportReceive => exact canonical_execDepartureReportReceive hs _
  | mirrorLossReportReceive => exact canonical_execMirrorLossReportReceive hs _
  | hldCommandComplete => exact canonical_execHldCommandComplete hs
  | _ => exact ⟨_, rfl, by simp [hs]⟩

/-- Settles O4: a tick sends null frames, and a command of the queue runs as `canonical_exec` says. -/
theorem stepKeepsCanonicalForm : Obligations.StepKeepsCanonicalForm := by
  intro s t hs hstep
  unfold step at hstep
  split at hstep
  · cases hstep
    exact canonical_nullFrames ((canonical_mk ..).mpr (canonical_iff.mp hs))
  · next c rest _ =>
    obtain ⟨u, hu, hcanonical⟩ :=
      canonical_exec (s := { s with pending := rest }) ((canonical_mk ..).mpr (canonical_iff.mp hs)) c
    cases hu.symm.trans hstep
    exact hcanonical

end Sys2Proof.Machine

end
